-- ==== Sys2Proof/Word.lean ====
section
/-!
DEFINITION. The plainest types of the model: bytes, the 32-bit word of a lane register, a field of an object map, and
sparse tables in one canonical form (keys strictly rising, no entry equal to what an unlisted key reads as).
-/

namespace Sys2Proof

/-- A byte as the store, the lanes and the images hold it. -/
abbrev Byte := BitVec 8

/-- A 32-bit lane word (R203). -/
abbrev Word := BitVec 32

/-- A sparse table: key and value pairs, keys strictly rising. -/
abbrev Table (α : Type) := List (Nat × α)

/-- The value at key `k`, or `d` when the table does not list `k`. -/
def Table.find {α : Type} (d : α) : Table α → Nat → α
  | [], _ => d
  | (k', v) :: t, k => if k' = k then v else Table.find d t k

/-- The table without key `k`. -/
def Table.drop {α : Type} : Table α → Nat → Table α
  | [], _ => []
  | (k', v) :: t, k => if k' = k then Table.drop t k else (k', v) :: Table.drop t k

/-- The table with `(k, v)` put before the first larger key. -/
def Table.insert {α : Type} : Table α → Nat → α → Table α
  | [], k, v => [(k, v)]
  | (k', v') :: t, k, v => if k < k' then (k, v) :: (k', v') :: t else (k', v') :: Table.insert t k v

/-- A write: key `k` takes `v`; writing the unlisted value `d` removes the entry. -/
def Table.put {α : Type} [DecidableEq α] (d : α) (t : Table α) (k : Nat) (v : α) : Table α :=
  if v = d then Table.drop t k else Table.insert (Table.drop t k) k v

/-- Keys strictly rise from `lo` on, and no entry holds the unlisted value. -/
def Table.wfFrom {α : Type} [DecidableEq α] (d : α) : Nat → Table α → Bool
  | _, [] => true
  | lo, (k, v) :: t => decide (lo ≤ k) && decide (v ≠ d) && Table.wfFrom d (k + 1) t

/-- The canonical form of a table. -/
def Table.wf {α : Type} [DecidableEq α] (d : α) (t : Table α) : Bool := Table.wfFrom d 0 t

/-- An addressed memory of bytes; an unlisted address reads 0. The pairs are those of Host.Cell. -/
abbrev Memory := Table Byte

/-- The byte at address `a`. -/
def Memory.read (m : Memory) (a : Nat) : Byte := Table.find 0 m a

/-- The memory with byte `v` at address `a`. -/
def Memory.write (m : Memory) (a : Nat) (v : Byte) : Memory := Table.put 0 m a v

/-- The canonical form of a memory. -/
def Memory.wf (m : Memory) : Bool := Table.wf (0 : Byte) m

/-- A field of an object: the object's number, the field's high and low bit (R1), and its reset value. -/
structure Fld where
  obj : Nat
  hi : Nat
  lo : Nat
  dflt : Nat
deriving DecidableEq, Repr

/-- The two ports of the ring. -/
inductive Port | A | B
deriving DecidableEq, Repr

/-- How far the two physical time bases moved since the previous command: nanoseconds of the LINK domain (a station
tick is 1,000 of them, R3) and whole periods of the 32.768 kHz crystal. -/
structure Elapsed where
  ns : Nat
  xtal : Nat
deriving DecidableEq, Repr

/-- No time passes. -/
def Elapsed.zero : Elapsed := ⟨0, 0⟩

/-- Three like things, one per lane LA, LB, LC. -/
structure Trio (α : Type) where
  a : α
  b : α
  c : α
deriving DecidableEq, Repr

/-- The item of lane `k` (0 LA, 1 LB, otherwise LC). -/
def Trio.get {α : Type} (t : Trio α) (k : Nat) : α :=
  match k with
  | 0 => t.a
  | 1 => t.b
  | _ => t.c

/-- The trio with the item of lane `k` replaced. -/
def Trio.set {α : Type} (t : Trio α) (k : Nat) (x : α) : Trio α :=
  match k with
  | 0 => { t with a := x }
  | 1 => { t with b := x }
  | _ => { t with c := x }

/-- The trio with every item changed by `f`. -/
def Trio.map {α β : Type} (f : α → β) (t : Trio α) : Trio β := ⟨f t.a, f t.b, f t.c⟩

/-- The items in lane order. -/
def Trio.toList {α : Type} (t : Trio α) : List α := [t.a, t.b, t.c]

end Sys2Proof
end

