-- ==== Sys2Proof/Syntax.lean ====
section
/-!
DEFINITION. The commands of the block: one constructor per row of the spec's command table, with the row's operands.
Every command that is no lane instruction carries how far the time bases moved since the command before it (`dt`).
-/

namespace Sys2Proof

/-- A ring frame as it arrives at a port: header, body and frame CRC, ordered sets already removed (R40). `cut` says that
the frame departs from LEN after the bytes given (R565), `err` that an ERR symbol was received. -/
structure RxFrame where
  port : Port
  bytes : List Nat
  cut : Bool
  err : Bool
deriving DecidableEq, Repr

/-- Operand of a bit instruction, format MB (ZEN-4). -/
structure BitOp where
  area : Nat
  x : Bool
  ixn : Nat
  n : Bool
  addr : Nat
deriving DecidableEq, Repr

/-- Operand of an accumulator memory instruction, format MA. -/
structure MaOp where
  area : Nat
  x : Bool
  ixn : Nat
  size : Nat
  addr : Nat
deriving DecidableEq, Repr

/-- Operand of a register memory instruction, format MV. -/
structure MvOp where
  area : Nat
  x : Bool
  ixn : Nat
  v : Nat
  addr : Nat
deriving DecidableEq, Repr

/-- Shift amount: the immediate, or the low bits of a register (ZEN-9, SHL). -/
inductive Shift
  | imm (n : Nat)
  | reg (t : Nat)
deriving DecidableEq, Repr


/-- The commands, one constructor per row of the command table. -/
inductive Instr where
  /-- LD (R207): The instruction loads a bit operand into BA. -/
  | zLD (b : BitOp)
  /-- AND (R207): The instruction ANDs a bit operand into BA. -/
  | zAND (b : BitOp)
  /-- OR (R207): The instruction ORs a bit operand into BA. -/
  | zOR (b : BitOp)
  /-- XOR (R207): The instruction XORs a bit operand into BA. -/
  | zXOR (b : BitOp)
  /-- ST (R208): The instruction stores BA into a bit operand. -/
  | zST (b : BitOp)
  /-- SET (R207): When BA = 1, the instruction sets a bit operand. -/
  | zSET (b : BitOp)
  /-- RST (R207): When BA = 1, the instruction clears a bit operand. -/
  | zRST (b : BitOp)
  /-- NOT (R204): The instruction inverts BA. -/
  | zNOT
  /-- SETBA (R204): The instruction sets BA to 1. -/
  | zSETBA
  /-- CLRBA (R204): The instruction sets BA to 0. -/
  | zCLRBA
  /-- LDF (R204): The instruction loads a flag into BA. -/
  | zLDF (f : Nat)
  /-- BTST (R204): The instruction loads a register bit into BA. -/
  | zBTST (vs k : Nat) (neg : Bool)
  /-- BST (R204): The instruction stores BA into a register bit. -/
  | zBST (vd k : Nat)
  /-- BOPEN (R212): The instruction pushes a BIT entry onto the branch stack. -/
  | zBOPEN (o : Nat) (neg : Bool)
  /-- BCLOSE (R213): The instruction pops a BIT entry and combines it with BA. -/
  | zBCLOSE
  /-- EDGR (R214): The instruction detects a rising edge of BA with an edge instance. -/
  | zEDGR (id : Nat)
  /-- EDGF (R214): The instruction detects a falling edge of BA with an edge instance. -/
  | zEDGF (id : Nat)
  /-- TON (R216): The instruction evaluates an on-delay timer. -/
  | zTON (id vp unit : Nat)
  /-- TOF (R216): The instruction evaluates an off-delay timer. -/
  | zTOF (id vp unit : Nat)
  /-- TP (R216): The instruction evaluates a pulse timer. -/
  | zTP (id vp unit : Nat)
  /-- TRST (R214): When BA = 1, the instruction resets a timer to idle. -/
  | zTRST (id : Nat)
  /-- TRD (R214): The instruction reads a timer's elapsed time. -/
  | zTRD (v id : Nat)
  /-- CTU (R217): The instruction counts up on a rising BA. -/
  | zCTU (v id : Nat)
  /-- CTD (R217): The instruction counts down on a rising BA. -/
  | zCTD (id : Nat)
  /-- CRST (R214): When BA = 1, the instruction clears a counter. -/
  | zCRST (id : Nat)
  /-- CLDV (R214): When BA = 1, the instruction loads a counter value. -/
  | zCLDV (v id : Nat)
  /-- CRD (R214): The instruction reads a counter value. -/
  | zCRD (v id : Nat)
  /-- LDA (R218): The instruction loads ACC from memory and ends saturation. -/
  | zLDA (o : MaOp)
  /-- ADD (R218): The instruction adds a memory operand to ACC with saturation. -/
  | zADD (o : MaOp)
  /-- SUB (R218): The instruction subtracts a memory operand from ACC with saturation. -/
  | zSUB (o : MaOp)
  /-- STW (R219): The instruction stores ACC saturated to the destination size. -/
  | zSTW (o : MaOp)
  /-- CMPA (R204): The instruction compares ACC with a memory operand. -/
  | zCMPA (o : MaOp)
  /-- LDAV (R218): The instruction loads ACC from a register. -/
  | zLDAV (vs : Nat)
  /-- ADDA (R218): The instruction adds a register to ACC. -/
  | zADDA (vs : Nat)
  /-- SUBA (R218): The instruction subtracts a register from ACC. -/
  | zSUBA (vs : Nat)
  /-- MAC (R220): The instruction adds a shifted product to ACC. -/
  | zMAC (vs vt sh : Nat)
  /-- NEGA (R218): The instruction negates ACC. -/
  | zNEGA
  /-- STAV (R219): The instruction stores ACC saturated into a register. -/
  | zSTAV (vd : Nat)
  /-- ASRA (R218): The instruction shifts ACC arithmetically right. -/
  | zASRA (n : Nat)
  /-- SHLA (R218): The instruction shifts ACC left with saturation. -/
  | zSHLA (n : Nat)
  /-- CLRA (R218): The instruction clears ACC and ends saturation. -/
  | zCLRA
  /-- RDAH (R218): The instruction reads the ACC guard bits into a register. -/
  | zRDAH (vd : Nat)
  /-- LDV (R207): The instruction loads a word into a register. -/
  | zLDV (o : MvOp)
  /-- STV (R207): The instruction stores a register into a word. -/
  | zSTV (o : MvOp)
  /-- LDI (R204): The instruction loads a sign-extended immediate. -/
  | zLDI (vd imm : Nat)
  /-- LDIH (R204): The instruction loads the upper halfword of a register. -/
  | zLDIH (vd imm : Nat)
  /-- MOV (R204): The instruction copies a register. -/
  | zMOV (vd vs : Nat)
  /-- IADD (R221): The instruction makes a wrapping integer addition. -/
  | zIADD (vd vs vt : Nat)
  /-- ISUB (R221): The instruction makes a wrapping integer subtraction. -/
  | zISUB (vd vs vt : Nat)
  /-- IMUL (R221): The instruction makes an integer multiplication. -/
  | zIMUL (vd vs vt : Nat)
  /-- IDIV (R221): The instruction makes an integer division. -/
  | zIDIV (vd vs vt : Nat)
  /-- IMOD (R221): The instruction takes an integer remainder. -/
  | zIMOD (vd vs vt : Nat)
  /-- IADDI (R221): The instruction adds an immediate to a register. -/
  | zIADDI (vd vs imm : Nat)
  /-- WAND (R204): The instruction makes a bitwise AND of registers. -/
  | zWAND (vd vs vt : Nat)
  /-- WOR (R204): The instruction makes a bitwise OR of registers. -/
  | zWOR (vd vs vt : Nat)
  /-- WXOR (R204): The instruction makes a bitwise XOR of registers. -/
  | zWXOR (vd vs vt : Nat)
  /-- WNOT (R204): The instruction inverts a register bitwise. -/
  | zWNOT (vd vs : Nat)
  /-- SHL (R222): The instruction makes a logical left shift. -/
  | zSHL (vd vs : Nat) (n : Shift)
  /-- SHR (R222): The instruction makes a logical right shift. -/
  | zSHR (vd vs : Nat) (n : Shift)
  /-- ASR (R222): The instruction makes an arithmetic right shift. -/
  | zASR (vd vs : Nat) (n : Shift)
  /-- ROL (R222): The instruction rotates a register left. -/
  | zROL (vd vs : Nat) (n : Shift)
  /-- CMP (R222): The instruction compares two registers. -/
  | zCMP (vs vt : Nat)
  /-- CMPI (R222): The instruction compares a register with an immediate. -/
  | zCMPI (vs imm : Nat)
  /-- LDIX (R206): The instruction loads an index register with an immediate. -/
  | zLDIX (ix imm : Nat)
  /-- MOVIX (R206): The instruction loads an index register from a register. -/
  | zMOVIX (ix vs : Nat)
  /-- ADDIX (R206): The instruction adds an immediate to an index register. -/
  | zADDIX (ix imm : Nat)
  /-- RDIX (R206): The instruction reads an index register. -/
  | zRDIX (vd ix : Nat)
  /-- FADD (R223): The instruction makes a binary32 addition. -/
  | zFADD (vd vs vt : Nat)
  /-- FSUB (R223): The instruction makes a binary32 subtraction. -/
  | zFSUB (vd vs vt : Nat)
  /-- FMUL (R223): The instruction makes a binary32 multiplication. -/
  | zFMUL (vd vs vt : Nat)
  /-- FDIV (R223): The instruction makes a binary32 division. -/
  | zFDIV (vd vs vt : Nat)
  /-- FSQRT (R223): The instruction takes a binary32 square root. -/
  | zFSQRT (vd vs : Nat)
  /-- FABS (R223): The instruction clears the sign bit. -/
  | zFABS (vd vs : Nat)
  /-- FNEG (R223): The instruction inverts the sign bit. -/
  | zFNEG (vd vs : Nat)
  /-- FMIN (R224): The instruction returns the float minimum. -/
  | zFMIN (vd vs vt : Nat)
  /-- FMAX (R224): The instruction returns the float maximum. -/
  | zFMAX (vd vs vt : Nat)
  /-- FCMP (R224): The instruction compares two floats. -/
  | zFCMP (vs vt : Nat)
  /-- ITOF (R224): The instruction converts an integer to a float. -/
  | zITOF (vd vs : Nat)
  /-- FTOI (R224): The instruction converts a float to an integer. -/
  | zFTOI (vd vs : Nat)
  /-- NOP (R211): The instruction does nothing. -/
  | zNOP
  /-- JMP (R225): The instruction jumps to a step. -/
  | zJMP (t : Nat)
  /-- JC (R225): The instruction jumps on a condition. -/
  | zJC (sel : Nat) (sense : Bool) (t : Nat)
  /-- CALL (R212): The instruction pushes a CALL entry and jumps. -/
  | zCALL (t : Nat)
  /-- RET (R213): The instruction pops a CALL entry and returns. -/
  | zRET
  /-- LOOP (R225): The instruction decrements an index register and jumps while it is non-zero. -/
  | zLOOP (ix t : Nat)
  /-- END (R226): The instruction ends the execution and presents it to the Plait vote. -/
  | zEND
  /-- HALT (R227): The instruction ends the execution without commit and enters FAULT with PROGRAM_HALT. -/
  | zHALT (code : Nat)
  /-- CLRF (R204): The instruction clears the flags selected by its mask. -/
  | zCLRF (mask : Nat)
  /-- RDF (R204): The instruction reads the flags and BA into a register. -/
  | zRDF (vd : Nat)
  /-- BMOV (R228): The instruction copies a block of words. -/
  | zBMOV (sa da n : Nat)
  /-- BFILL (R228): The instruction fills a block of words with V0. -/
  | zBFILL (da n : Nat)
  /-- EVARM (R229): The instruction requests an event entry arm at an angle. -/
  | zEVARM (vs vt : Nat)
  /-- EVDIS (R229): The instruction requests an event entry disarm. -/
  | zEVDIS (vs : Nat)
  /-- CAPRD (R231): The instruction reads a capture buffer word. -/
  | zCAPRD (vd ad ix : Nat)
  /-- CAPPTR (R231): The instruction reads the capture write pointer. -/
  | zCAPPTR (vd ad : Nat)
  /-- SNHOLD (R230): The instruction requests a trip capture hold. -/
  | zSNHOLD (k : Nat)
  /-- SNREL (R230): The instruction requests the release of a trip capture. -/
  | zSNREL (k : Nat)
  /-- RDTIM (R231): The instruction reads station time. -/
  | zRDTIM (vd : Nat)
  /-- PORT_CLOCK_DETECT (R33): A clock appears on a port in DOWN, and the port enters TRAINING and sends the training pattern. -/
  | portClockDetect (dt : Elapsed) (p : Port)
  /-- PORT_TRAINED (R34): After 64 error-free training patterns on all lanes followed by IDLE, a training port enters UP. -/
  | portTrained (dt : Elapsed) (p : Port)
  /-- PORT_FAULT (R69): An UP port detects a segment fault (loss of valid code groups, code errors or a received F = 1) and enters FAULTED. -/
  | portFault (dt : Elapsed) (p : Port) (errors : Nat)
  /-- PORT_QUALIFY (R34): A FAULTED port whose receiver is aligned and receives no F = 1 enters QUALIFYING. -/
  | portQualify (dt : Elapsed) (p : Port)
  /-- PORT_READY (R36): A QUALIFYING port that has seen 1,000 station ticks without a code error enters READY. -/
  | portReady (dt : Elapsed) (p : Port)
  /-- UNWRAP (R36): A write of NRL.CTRL.UNWRAP requests an unwrap at its apply cinch. -/
  | unwrap (dt : Elapsed) (apply : Nat)
  /-- UNWRAP_APPLY (R36): At the apply cinch the module unwraps if the port is READY, and otherwise discards the request and sets UNWRAP_FAIL. -/
  | unwrapApply (dt : Elapsed)
  /-- IMAGE_FRAME (R47): A passing IMAGE frame is forwarded; when it serves this position, the module reads its down-part and fills its up-part. -/
  | imageFrame (dt : Elapsed) (f : RxFrame)
  /-- CARRIER (R51): A passing carrier is marked in ATTNMAP and WAITMAP, and ready sub-records that fit are placed into it. -/
  | carrier (dt : Elapsed) (f : RxFrame)
  /-- MBXW (R106): A good unicast MBXW frame is applied: its CQ_ACK is taken and its command slots enter the command ring. -/
  | mbxw (dt : Elapsed) (f : RxFrame)
  /-- MGMT_W (R71): A link register write is checked and takes effect at once or is held for its apply cinch. -/
  | mgmtW (dt : Elapsed) (f : RxFrame)
  /-- LINK_REG_APPLY (R71): A held link register write takes effect at its apply cinch. -/
  | linkRegApply (dt : Elapsed)
  /-- NRL_TIME (R63): A write of NRL.TIME makes the station time pending for its apply cinch. -/
  | nrlTime (dt : Elapsed) (apply value : Nat)
  /-- MGMT_R (R71): A link register read request is answered with an MGMT_RSP sub-record. -/
  | mgmtR (dt : Elapsed) (f : RxFrame)
  /-- ENUM_ASSIGN (R59): An ENUM ASSIGN assigns this module position NEXT, or none, passes on the updated NEXT, and resets HIGH. -/
  | enumAssign (dt : Elapsed) (f : RxFrame)
  /-- ENUM_VERIFY (R59): An ENUM VERIFY sets the module's MISMATCH bit when its position differs from NEXT, and passes on NEXT. -/
  | enumVerify (dt : Elapsed) (f : RxFrame)
  /-- PEER_FRAME (R49): A PEER frame relayed by the host offers up-parts as peer image candidates. -/
  | peerFrame (dt : Elapsed) (f : RxFrame)
  /-- CINCH_MARKER (R63): An accepted CINCH marker is numbered, or counted as stale or in error, and sets the instant of its latch. -/
  | cinchMarker (dt : Elapsed) (p : Port) (lanes r0 r1 flags check : Nat)
  /-- CINCH_LATCH (R64): At marker arrival plus the cinch delay the module latches: field dies freeze and a new cinch image is built. -/
  | cinchLatch (dt : Elapsed) (bad : Nat)
  /-- SUBSTITUTE_LATCH (R65): When no marker has arrived by E - 2 µs, the module makes a substitute latch at E. -/
  | substituteLatch (dt : Elapsed) (bad : Nat)
  /-- CINCH_LOST (R65): A third consecutive missing marker stops cinch latching and sets CINCH_LOST. -/
  | cinchLost (dt : Elapsed)
  /-- LOCAL_LATCH (R185): At a T0 period boundary that is not a cinch latch, the module latches locally and builds an image. -/
  | localLatch (dt : Elapsed) (bad : Nat)
  /-- PROBE (R569): An accepted PROBE set stores its arrival time and ID in the probe registers. -/
  | probe (dt : Elapsed) (p : Port) (b0 b1 b2 check : Nat)
  /-- PAIRBEAT_RECEIVE (R279): A PAIRBEAT set from the pair partner is consumed and its role, flags and event are taken. -/
  | pairbeatReceive (dt : Elapsed) (p : Port) (b0 b1 b2 check : Nat)
  /-- PAIRBEAT_SEND (R74): At an IDLE opportunity on the shared segment the module sends a PAIRBEAT in place of IDLE. -/
  | pairbeatSend (dt : Elapsed)
  /-- JUDGE_WINDOW (R81): At the end of each 4-crystal-period window the clock judge compares the LCLK and PLL counts with their bands. -/
  | judgeWindow (dt : Elapsed) (lclk link lane sys : Nat)
  /-- REF_SWITCH (R79): The reference clock stops while the other port receives a clock, and the link PLL switches to that port. -/
  | refSwitch (dt : Elapsed)
  /-- LCLK_LOSS (R84): No clock edge on either port for 64 LCLK periods closes the PLL-fed gates and the module enters PLACED. -/
  | lclkLoss (dt : Elapsed)
  /-- PLL_LOCK_LOSS (R83): A PLL lock detector reports a phase error outside the lock band, and the PLL's gates close for relock. -/
  | pllLockLoss (dt : Elapsed) (pll : Nat)
  /-- PLL_GATES_OPEN (R83): A PLL has settled and passed one judging window, and its clock gates open. -/
  | pllGatesOpen (dt : Elapsed) (pll : Nat)
  /-- BRIDGE_FRAME (R86): During a bridge the AON domain sends one bridge frame per crystal period over each coupler link. -/
  | bridgeFrame (dt : Elapsed)
  /-- PARK (R91): After an announced LCLK change, at the first T0 period boundary with no T0 running, the module parks. -/
  | park (dt : Elapsed)
  /-- LANE_STEP_CHANGE (R95): A margin-plan lane-clock step is made by parking the LANE domain in a free interval after a T0 commit. -/
  | laneStepChange (dt : Elapsed)
  /-- OSC_STOP (R505): No crystal edge for 500 µs: the oscillator is declared stopped and crystal counts move to the stand-in period. -/
  | oscStop (dt : Elapsed)
  /-- XTAL_RESUME (R505): After 1 s of continuous oscillation, XTAL_OK and the crystal timebase return. -/
  | xtalResume (dt : Elapsed)
  /-- XTAL_LIMITED (R101): The crystal still does not run 1,000 ms after POR release, and the module continues in the limited state. -/
  | xtalLimited (dt : Elapsed)
  /-- POR (R97): VSYS rising through 17.0 V or falling below 16.5 V causes a POR reset. -/
  | por (dt : Elapsed) (rising : Bool)
  /-- PIN_RESET (R98): RESET_N held low long enough causes a PIN reset. -/
  | pinReset (dt : Elapsed) (lowNs : Nat)
  /-- MODULE_RESET_START (R142): When CQ_ACK covers the MOD_RESET answer or 10 ms pass, the MODULE or WARM reset begins. -/
  | moduleResetStart (dt : Elapsed)
  /-- SV_WATCHDOG (R533): The active supervisor core is silent for 2 ms; the spare takes over, or a WATCHDOG reset follows when both are silent. -/
  | svWatchdog (dt : Elapsed) (bothSilent storeUp : Bool)
  /-- STARTUP_WATCHDOG (R99): STOP-ready is not reached 250 ms after the gates first open; a WATCHDOG reset follows, and the third stops start-up. -/
  | startupWatchdog (dt : Elapsed) (storeUp : Bool)
  /-- POR_RELEASE (R100): The rails are good and POR is released; the straps are sampled and LCLK judging begins. -/
  | porRelease (dt : Elapsed) (lineEnd compat xtal : Bool)
  /-- STORE_RECALL_DONE (R454): Store recall completes, with records resolved, ring heads and the log head found. -/
  | storeRecallDone (dt : Elapsed) (header : Bool) (bad : List (Nat × Nat × Nat)) (uncorr : List (Nat × Nat))
  /-- TARGET_LOAD (R528): A firmware target is checked and loaded from its selected slot, or from the other slot as a fallback. -/
  | targetLoad (dt : Elapsed) (t fails : Nat)
  /-- BANKS_LOADED (R234): Program banks are loaded from the store and their states are set from the BANKLOAD and activation records. -/
  | banksLoaded (dt : Elapsed)
  /-- MARGIN_PLAN_DONE (R480): The margin plan is computed from the stored epochs during start-up. -/
  | marginPlanDone (dt : Elapsed)
  /-- STOP_READY (R450): The recalled configuration is applied as one commit and the module enters STOP. -/
  | stopReady (dt : Elapsed) (levels : Nat)
  /-- GROUP_LOAD (R103): A field group's supply reaches the operating range and its controller code is loaded. -/
  | groupLoad (dt : Elapsed) (g levels : Nat)
  /-- AUTORUN (R179): Once STOP-ready, TIMED and HOLD ≥ 38 V all hold after a cold reset, the module issues MODE_SET RUN to itself. -/
  | autorun (dt : Elapsed)
  /-- HOLD_THRESHOLD (R467): HOLD crosses 30 V, 38 V, 41.5 V or 42 V, which changes store acceptance, RUN acceptance or the charger. -/
  | holdThreshold (dt : Elapsed) (v : Nat)
  /-- SES_OPEN (R566): The command opens a pending session for a role and returns the module nonce. -/
  | sesOpen (dt : Elapsed)
  /-- SES_AUTH (R118): The command checks HPROOF, opens the session and returns MPROOF. -/
  | sesAuth (dt : Elapsed)
  /-- SES_CLOSE (R567): The command closes the named session. -/
  | sesClose (dt : Elapsed)
  /-- SES_LIMIT (R129): The command sets the handle limit of a session. -/
  | sesLimit (dt : Elapsed)
  /-- SES_IDLE (R125): The command sets the idle timeout of the session. -/
  | sesIdle (dt : Elapsed)
  /-- SES_LIST (R141): The command lists the open sessions. -/
  | sesList (dt : Elapsed)
  /-- HDL_QUERY (R131): The command returns the state and progress of a handle. -/
  | hdlQuery (dt : Elapsed)
  /-- HDL_CANCEL (R131): The command requests cancellation of a long operation. -/
  | hdlCancel (dt : Elapsed)
  /-- OBJ_GET (R134): The command reads an object or field. -/
  | objGet (dt : Elapsed)
  /-- OBJ_SET (R136): The command writes a field or object, staging ST fields and applying live fields at once. -/
  | objSet (dt : Elapsed)
  /-- OBJ_COMMIT (R138): The command accepts the session's staging set for application as one unit. -/
  | objCommit (dt : Elapsed)
  /-- COMMIT_APPLY (R140): At its boundary a pending commit is checked as a whole and applied or refused, and its FIN is created. -/
  | commitApply (dt : Elapsed) (levels : Nat)
  /-- OBJ_DISCARD (R136): The command discards the session's staging set. -/
  | objDiscard (dt : Elapsed)
  /-- OBJ_STORE (R448): The command copies the named objects in force and starts writing them to the store. -/
  | objStore (dt : Elapsed)
  /-- OBJ_STORE_DONE (R449): The CONFIG and SETCOMMIT writes of an OBJ_STORE complete or are abandoned, and its FIN is created. -/
  | objStoreDone (dt : Elapsed)
  /-- OBJ_LIST (R141): The command lists the child segments of a path prefix. -/
  | objList (dt : Elapsed)
  /-- IMG_WRITE (R158): The command stages a host-region write for the next cinch. -/
  | imgWrite (dt : Elapsed)
  /-- SNAP_PIN (R152): The command pins a closed snapshot. -/
  | snapPin (dt : Elapsed)
  /-- SNAP_READ (R155): The command starts copying bytes of a snapshot. -/
  | snapRead (dt : Elapsed)
  /-- SNAP_READ_CONFIRM (R155): After the copy, the buffer and checks are confirmed and the data and FIN are placed, or the read ends with SNAPSHOT_LOST or SNAPSHOT_DAMAGED. -/
  | snapReadConfirm (dt : Elapsed) (k : Nat) (bad : List Nat)
  /-- SNAP_UNPIN (R152): The command removes the session's pin on a snapshot. -/
  | snapUnpin (dt : Elapsed)
  /-- CAP_READ (R322): The command starts reading capture buffer bytes. -/
  | capRead (dt : Elapsed)
  /-- CAP_READ_CONFIRM (R322): After the copy, the offset is confirmed still held, and the data or CAPTURE_OVERWRITTEN is placed. -/
  | capReadConfirm (dt : Elapsed) (k : Nat)
  /-- MODE_SET (R173): The command requests a mode transition and restart kind. -/
  | modeSet (dt : Elapsed)
  /-- MOD_RESET (R142): The command answers and schedules a MODULE or WARM reset. -/
  | modReset (dt : Elapsed)
  /-- PRG_LOAD_BEGIN (R240): The command opens a program load into an inactive bank. -/
  | prgLoadBegin (dt : Elapsed)
  /-- PRG_LOAD_DATA (R241): The command writes part of a program image to the store. -/
  | prgLoadData (dt : Elapsed)
  /-- PRG_LOAD_END (R242): The command closes the load data and starts the image checks. -/
  | prgLoadEnd (dt : Elapsed)
  /-- PRG_LOAD_CHECKS (R242): The loaded image is checked in the order of OED-7 and fails at the first failing step. -/
  | prgLoadChecks (dt : Elapsed)
  /-- LANE_BANK_COPY (R243): The checked image is copied into the inactive bank of all lanes in idle time, read back, and the BANKLOAD record is written. -/
  | laneBankCopy (dt : Elapsed) (bad : Nat)
  /-- PRG_ACTIVATE (R245): The command requests activation of a LOADED bank. -/
  | prgActivate (dt : Elapsed)
  /-- PRG_ABORT (R244): The command cancels an open program load. -/
  | prgAbort (dt : Elapsed)
  /-- SWAP_QUIET_POINT (R249): At the quiet point Q of a candidate boundary, the module starts deferring releases. -/
  | swapQuietPoint (dt : Elapsed)
  /-- PROGRAM_SWAP (R251): With no execution left before the deadline, the bank swap, carry-over and relocation are made as one step. -/
  | programSwap (dt : Elapsed)
  /-- SWAP_DEADLINE (R249): The deadline passes with an execution in progress; no swap is made and deferred tasks run on the old bank. -/
  | swapDeadline (dt : Elapsed)
  /-- ACTIVATION_RECORD_WRITE (R255): After a swap, the activation record is written and the PRG_ACTIVATE FIN is placed. -/
  | activationRecordWrite (dt : Elapsed)
  /-- STANDBY_LAG_SWAP (R260): A standby that missed L swaps at the first following boundary that R249 permits. -/
  | standbyLagSwap (dt : Elapsed)
  /-- PAIR_LEASE (R292): The command grants or revokes a pair role lease. -/
  | pairLease (dt : Elapsed)
  /-- PAIR_DRILL (R294): The command starts a swap drill of the pair. -/
  | pairDrill (dt : Elapsed)
  /-- REC_READ (R462): The command starts reading recorder records. -/
  | recRead (dt : Elapsed)
  /-- REC_READ_CONFIRM (R462): After the copy, FIRST is confirmed still at or above OLDEST and the records are placed. -/
  | recReadConfirm (dt : Elapsed) (k : Nat) (uncorr crc : List Nat)
  /-- REC_CLEAR (R464): The command flushes, writes the clear mark and creates CLEARED. -/
  | recClear (dt : Elapsed)
  /-- FW_STAGE_BEGIN (R525): The command opens firmware staging into the unselected slot. -/
  | fwStageBegin (dt : Elapsed)
  /-- FW_STAGE_DATA (R525): The command writes part of a firmware image. -/
  | fwStageData (dt : Elapsed)
  /-- FW_STAGE_END (R526): The command closes staging and starts the checks. -/
  | fwStageEnd (dt : Elapsed)
  /-- FW_STAGE_CHECKS (R526): The staged slot is checked in the order of SEC-4 and becomes VALID or INVALID. -/
  | fwStageChecks (dt : Elapsed)
  /-- FW_ACTIVATE (R530): The command requests activation of a staged firmware image. -/
  | fwActivate (dt : Elapsed)
  /-- SV_HANDOVER (R532): At the handover point the spare supervisor core with new firmware becomes active. -/
  | svHandover (dt : Elapsed) (spareOk : Bool)
  /-- FIELD_BANK_SWAP (R534): A field die switches to its new code bank at its own T0 boundary under the output latch. -/
  | fieldBankSwap (dt : Elapsed) (g : Nat) (ok : Bool)
  /-- LANE_UCODE_SWAP (R536): One lane leaves the vote at a cinch latch to load new microcode, and is then tested and copied. -/
  | laneUcodeSwap (dt : Elapsed) (k : Nat)
  /-- KEY_SET (R537): The command unwraps and installs or removes a role key. -/
  | keySet (dt : Elapsed)
  /-- MBX_NOP (R141): The command does nothing and completes. -/
  | mbxNop (dt : Elapsed)
  /-- AUTH_TIMEOUT (R120): A pending session without SES_AUTH for 1 s closes. -/
  | authTimeout (dt : Elapsed)
  /-- SESSION_IDLE_TIMEOUT (R125): A session without commands for its idle timeout closes. -/
  | sessionIdleTimeout (dt : Elapsed)
  /-- CQ_REPLACE (R111): CQ_ACK has not advanced for CQ_TIMEOUT, and the unacknowledged records are placed again. -/
  | cqReplace (dt : Elapsed)
  /-- MODE_RUN_ENTRY (R177): After the start-up tasks, the module enters RUN at the first qualifying cinch latch. -/
  | modeRunEntry (dt : Elapsed)
  /-- MODE_HOLD_ENTRY (R182): At the boundary the transition to HOLD takes effect once running executions have committed. -/
  | modeHoldEntry (dt : Elapsed)
  /-- MODE_STOP_ENTRY (R181): At the boundary, releases stop and STOP safe values are commanded; STOP follows when executions end. -/
  | modeStopEntry (dt : Elapsed)
  /-- FAULT_EXIT (R173): An accepted MODE_SET STOP in FAULT takes effect within 200 µs. -/
  | faultExit (dt : Elapsed)
  /-- STARTUP_LIMIT_EXPIRY (R178): The start-up tasks have not ended within STARTUP_LIMIT, and the module enters FAULT. -/
  | startupLimitExpiry (dt : Elapsed)
  /-- HOLD_LIMIT_EXPIRY (R183): HOLD has lasted HOLD_LIMIT, and the module moves to STOP as if MODE_SET STOP had been given. -/
  | holdLimitExpiry (dt : Elapsed)
  /-- T0_RELEASE (R19): 4.00 µs after each latch the dispatcher releases T0 on the new image. -/
  | t0Release (dt : Elapsed)
  /-- PERIODIC_RELEASE (R185): A non-T0 PERIODIC task is released when station time reaches its phase. -/
  | periodicRelease (dt : Elapsed) (task : Nat)
  /-- TASK_WATCHDOG (R194): The task watchdog reaches WD_LIMIT crystal periods, and the module enters FAULT with TASK_WDOG. -/
  | taskWatchdog (dt : Elapsed)
  /-- SNAPSHOT_NOEXEC (R150): With no T0 released on the image, the snapshot closes 4.00 µs after the latch with NOEXEC. -/
  | snapshotNoexec (dt : Elapsed)
  /-- PLAIT_COMMIT (R265): The Plait vote completes and the commit is made or suppressed. -/
  | plaitCommit (dt : Elapsed) (wc late unc off : Nat)
  /-- FIELD_VOTE (R268): A field die receives the three lane copy frames, votes them and drives its terminals. -/
  | fieldVote (dt : Elapsed) (g bad : Nat)
  /-- SAFE_VALUE_COMMAND (R189): A field die receives a safe-value command and applies each channel's safe value. -/
  | safeValueCommand (dt : Elapsed) (g : Nat)
  /-- PAIR_HOLD_COMMAND (R289): A field die receives a hold command and keeps its last committed outputs. -/
  | pairHoldCommand (dt : Elapsed) (g : Nat)
  /-- RETENTIVE_COPY (R198): In idle time the lanes' retentive data are majority-voted and written as a two-slot record. -/
  | retentiveCopy (dt : Elapsed)
  /-- COUNTER_RING_UPDATE (R452): In idle time a changed enabled D word is written into its counter ring. -/
  | counterRingUpdate (dt : Elapsed)
  /-- LANE_TEST (R272): LANE_TEST of a lane completes, passing or failing. -/
  | laneTest (dt : Elapsed) (k : Nat) (pass : Bool)
  /-- LANE_COPY_PASS (R273): A copy pass of lane state into an admitted lane completes in idle time. -/
  | laneCopyPass (dt : Elapsed) (k : Nat)
  /-- LANE_JOIN (R273): At a qualifying cinch latch the copied lane makes its final pass and joins the vote. -/
  | laneJoin (dt : Elapsed) (k : Nat)
  /-- ADMIT_RETRY (R271): 1,000 station cycles after a failed copy, a RETIRED lane with AUTO_ADMIT = 1 is tested again. -/
  | admitRetry (dt : Elapsed) (k : Nat)
  /-- HELLO_SEND (R281): Every 500 station cycles, and at PLACED or a PLT commit, the module sends a HELLO to its partner. -/
  | helloSend (dt : Elapsed)
  /-- HELLO (R281): A HELLO sub-record from the partner is taken and the pair's establishment is judged. -/
  | hello (dt : Elapsed) (body : List Nat)
  /-- IDENT (R257): An IDENT query or reply about a bank identity is taken from the partner. -/
  | ident (dt : Elapsed) (body : List Nat)
  /-- IDENT_TIMEOUT (R257): No partner answer within 3 station cycles ends the activation with PARTNER_SILENT. -/
  | identTimeout (dt : Elapsed)
  /-- SWAP_AT (R258): The standby takes SWAP_AT with the chosen swap cinch and acknowledges it. -/
  | swapAt (dt : Elapsed) (body : List Nat)
  /-- SWAP_ACK (R258): The primary takes the standby's acknowledgement, which fixes the swap cinch. -/
  | swapAck (dt : Elapsed) (body : List Nat)
  /-- SWAP_DONE (R259): The primary takes the standby's swap completion report. -/
  | swapDone (dt : Elapsed) (body : List Nat)
  /-- SWAPPED (R259): The standby receives SWAPPED in the heartbeat and swaps once no execution remains. -/
  | swapped (dt : Elapsed)
  /-- NOSWAP (R259): The standby receives NOSWAP and releases its deferred tasks on the old bank. -/
  | noswap (dt : Elapsed)
  /-- CLAIM_EFFECT (R283): At its effective T0 boundary a claimant becomes primary and releases T0. -/
  | claimEffect (dt : Elapsed)
  /-- PARTNER_SILENCE (R280): No beat or sub-record from the partner for 3 station cycles makes it silent, and the standby may promote. -/
  | partnerSilence (dt : Elapsed)
  /-- TOOK_OVER (R288): The old primary receives TOOK_OVER and releases its outputs, analogue first. -/
  | tookOver (dt : Elapsed)
  /-- RELEASED (R288): The new primary receives RELEASED and opens its analogue gates. -/
  | released (dt : Elapsed)
  /-- ANALOGUE_GATE_TIMEOUT (R288): Without RELEASED by C + 150 µs, the new primary opens its analogue gates. -/
  | analogueGateTimeout (dt : Elapsed)
  /-- PAIR_HOLD_EXPIRY (R289): 2 T0 periods + 300 µs after YIELD without TOOK_OVER, the hold ends and safe values follow. -/
  | pairHoldExpiry (dt : Elapsed)
  /-- LEASE_EXPIRY (R292): A pair role lease expires. -/
  | leaseExpiry (dt : Elapsed)
  /-- RETURN_HOLD_EXPIRY (R293): After RETURN_HOLD as an ELIGIBLE standby, the PREFERRED module claims primacy. -/
  | returnHoldExpiry (dt : Elapsed) (partnerLease : Bool)
  /-- DRILL_DWELL_END (R294): The drill dwell ends, the return follows as FLAGS require, and the report is placed. -/
  | drillDwellEnd (dt : Elapsed)
  /-- MIRROR_CAPTURE (R286): In idle time after a cinch-image commit, the primary captures the mirror set and sends it. -/
  | mirrorCapture (dt : Elapsed)
  /-- MIRROR (R287): A MIRROR sub-record is assembled into the standby's mirror receive buffer. -/
  | mirror (dt : Elapsed) (body : List Nat)
  /-- MIRROR_APPLY (R287): In a free interval the standby applies a complete mirror image to its VOTING lanes. -/
  | mirrorApply (dt : Elapsed)
  /-- ANGLE_EDGE (R301): A filtered edge on an angle signal is timestamped and advances the angle and synchronisation state of its domains. -/
  | angleEdge (dt : Elapsed) (sig : Nat) (level : Bool)
  /-- SPEED_TIMEOUT (R305): No edge within the LOW_SPEED limit sends the domain to LOST. -/
  | speedTimeout (dt : Elapsed) (d : Nat)
  /-- INPUT_FAULT (R300): An RS422 differential below 200 mV for 10 µs sets FAULT and sends the domains using it to LOST. -/
  | inputFault (dt : Elapsed) (n : Nat)
  /-- INPUT_FAULT_CLEAR (R300): An RS422 differential above 200 mV for 10 µs clears FAULT. -/
  | inputFaultClear (dt : Elapsed) (n : Nat)
  /-- FRAME_STREAM_LOSS (R308): Coupler frames absent for 2 station ticks drive the bound fast channels to their LOSS levels. -/
  | frameStreamLoss (dt : Elapsed) (g : Nat)
  /-- EVENT_COMMAND_SEND (R311): An event instant within 250 µs is sent, or sent again after a correction, as a timed command. -/
  | eventCommandSend (dt : Elapsed) (e : Nat)
  /-- EVENT_FIRE (R311): A field die executes a final timed command at its instant. -/
  | eventFire (dt : Elapsed) (e : Nat)
  /-- ANGLE_ACTION (R311): A TASK or INTERRUPT action acts in the angle unit at its predicted instant. -/
  | angleAction (dt : Elapsed) (e : Nat)
  /-- ARM (R313): A host write of ARM arms or disarms a HOST event entry. -/
  | arm (dt : Elapsed) (e : Nat) (v : Bool)
  /-- ANGLE (R312): A live write sets the angle of a HOST event entry. -/
  | angle (dt : Elapsed) (e a : Nat)
  /-- RESYNC (R305): A write of RESYNC returns a LOST domain to SEEKING. -/
  | resync (dt : Elapsed) (d : Nat)
  /-- SYNSPD (R303): A live write changes the speed of a SYNTH domain from the next station tick. -/
  | synspd (dt : Elapsed) (d v : Nat)
  /-- INPUT_CHANGE (R328): A digital input level that holds for the filter time is accepted as a change of state. -/
  | inputChange (dt : Elapsed) (c : Nat) (level : Bool)
  /-- STORM_WINDOW (R499): A storm window of 32,768 crystal periods ends and the counts restart. -/
  | stormWindow (dt : Elapsed)
  /-- STORMED (R499): A host write of 1 to an INT.STORMED bit lifts the mask of that source. -/
  | stormed (dt : Elapsed) (n : Nat)
  /-- SV_TAKE (R496): A supervisor core takes its highest-ranked eligible PENDING source. -/
  | svTake (dt : Elapsed) (c : Nat)
  /-- SV_COMPLETE (R496): A supervisor handler ends and completes its source. -/
  | svComplete (dt : Elapsed) (c : Nat)
  /-- CNT (R331): A write of DGg.CHnn.CNT sets the count at the next station tick. -/
  | cnt (dt : Elapsed) (c v : Nat)
  /-- FILT (R328): A live write of FILT changes the input filter from the next sample. -/
  | filt (dt : Elapsed) (c v : Nat)
  /-- OVERLOAD (R335): Current limitation lasting OVL_TIME switches the channel off and sets OVERLOAD. -/
  | overload (dt : Elapsed) (c : Nat)
  /-- OVERLOAD_RETRY (R335): 100 ms after an overload with OVL_ACT = 0, a still-commanded channel switches on again. -/
  | overloadRetry (dt : Elapsed) (c : Nat)
  /-- GROUP_OVERCURRENT (R336): The group output sum above 8.0 A for 1 ms switches channels off one by one. -/
  | groupOvercurrent (dt : Elapsed) (g limited more : Nat)
  /-- OVERTEMP (R337): A stage at 170 °C switches off and sets OVERTEMP. -/
  | overtemp (dt : Elapsed) (c : Nat)
  /-- OVERTEMP_CLEAR (R337): A stage cools below 150 °C, leaves OVERTEMP, and a PENDING on-command executes. -/
  | overtempClear (dt : Elapsed) (c : Nat)
  /-- CLAMP_END (R344): The terminal rises above M - 2 V, CLAMP ends, and a PENDING on-command executes. -/
  | clampEnd (dt : Elapsed) (c : Nat)
  /-- BOOST_END (R339): The boost phase ends after TIME and the channel enters the hold phase. -/
  | boostEnd (dt : Elapsed) (c : Nat)
  /-- PWM_PERIOD (R334): A PWM period or on-time ends and the stage switches. -/
  | pwmPeriod (dt : Elapsed) (c : Nat)
  /-- SF_OVL (R345): A feed in limitation for 10 ms switches off and sets SF_OVL. -/
  | sfOvl (dt : Elapsed) (c : Nat)
  /-- SF_RETRY (R345): 1,000 ms after switch-off, a sensor feed retries. -/
  | sfRetry (dt : Elapsed) (c : Nat)
  /-- SF_GRP (R345): The feed sum above 400 mA for 10 ms switches feeds off one by one. -/
  | sfGrp (dt : Elapsed) (g n : Nat)
  /-- DIAG_DETECT (R346): A digital diagnostic condition holds for its detection time, and PRESENT and LATCH are set. -/
  | diagDetect (dt : Elapsed) (c k : Nat) (present : Bool)
  /-- RB_MISMATCH (R349): The readback differs from the driven state for 100 µs and RB_MISMATCH is raised. -/
  | rbMismatch (dt : Elapsed) (c : Nat)
  /-- SENSE_TEST (R350): The once-per-second test of the current-sense circuit passes or sets SENSE_FAULT. -/
  | senseTest (dt : Elapsed) (g : Nat) (pass : Bool)
  /-- LPLUS_MONITOR (R351): L+ crosses a monitoring threshold and the group state changes. -/
  | lplusMonitor (dt : Elapsed) (g lplus : Nat) (mOpen : Bool)
  /-- BOOSTCAP_MEASURE (R343): The BOOSTCAP capacitance is measured after load and every 24 h. -/
  | boostcapMeasure (dt : Elapsed) (g cmeas : Nat) (above20 : Bool)
  /-- REIN_TIMEOUT (R353): No heartbeat or bridge age reaching REIN_TO stops the rein, and the group goes to its rein-stopped state. -/
  | reinTimeout (dt : Elapsed) (g : Nat)
  /-- HEARTBEAT_RESUME (R355): The heartbeat resumes after a rein stop and the stop is reported. -/
  | heartbeatResume (dt : Elapsed) (g : Nat)
  /-- CONVERSION_STEP (R397): A continuous step instant samples the next selected channel of a position. -/
  | conversionStep (dt : Elapsed) (g p : Nat)
  /-- DEFERRED_TRIGGER (R403): A trigger too close to the previous sample is sampled 3.0 µs after it. -/
  | deferredTrigger (dt : Elapsed) (g p : Nat)
  /-- RESULT_PROCESS (R420): A conversion result arrives and is checked, converted, filtered, classified and scaled. -/
  | resultProcess (dt : Elapsed) (g p : Nat) (x : Int) (aqOk atLimit : Bool)
  /-- MAINS_FREE_EDGE (R422): While MDOM is not SYNCED, a generated period edge updates MAINS filters. -/
  | mainsFreeEdge (dt : Elapsed) (c : Nat)
  /-- CAL_STEP_START (R411): After the dithered wait, the spare slice powers up and starts calibration. -/
  | calStepStart (dt : Elapsed) (g : Nat)
  /-- CAL_DONE (R411): The spare's calibration completes and is checked, and OVERLAP begins. -/
  | calDone (dt : Elapsed) (g : Nat) (offs gain : Int) (ok : Bool)
  /-- OVERLAP_DONE (R412): After 8 compared conversions, the spare takes the position or the handover is abandoned. -/
  | overlapDone (dt : Elapsed) (g : Nat) (pass : Bool)
  /-- OVERLAP_TIMEOUT (R412): Fewer than 8 conversions in 1 s cause compare conversions of the lowest channel. -/
  | overlapTimeout (dt : Elapsed) (g : Nat)
  /-- SLICE_POWER_UP (R419): A slice completes its power-up for a re-enabled position. -/
  | slicePowerUp (dt : Elapsed) (g k : Nat)
  /-- QUAD_POWER_UP (R384): A quad completes its power-up and its channels start with SETTLING. -/
  | quadPowerUp (dt : Elapsed) (g q : Nat)
  /-- QUAD_POWER_DOWN (R384): A quad completes its power-down. -/
  | quadPowerDown (dt : Elapsed) (g q : Nat)
  /-- RECONFIG_DONE (R386): 200 µs after the boundary, a reconfigured channel takes its new configuration. -/
  | reconfigDone (dt : Elapsed) (c : Nat)
  /-- QUAD_TEMP (R376): A quad sensor crosses a fold-back or over-temperature threshold. -/
  | quadTemp (dt : Elapsed) (g q t : Nat)
  /-- AVPLUS_MONITOR (R387): AV+ crosses a monitoring threshold and the group state changes. -/
  | avplusMonitor (dt : Elapsed) (g avplus : Nat) (agOpen : Bool) (strap : Nat)
  /-- ANALOGUE_DIAG (R382): An analogue diagnostic condition holds for its detection time and is reported. -/
  | analogueDiag (dt : Elapsed) (c k : Nat) (present : Bool)
  /-- RETEST (R417): A write of RETEST calibrates a retired slice. -/
  | retest (dt : Elapsed) (g k : Nat)
  /-- FLEN (R421): A live write of FLEN changes the filter length from the next sample. -/
  | flen (dt : Elapsed) (c v : Nat)
  /-- WINDOW_THRESHOLD (R431): A live write of HIGH or LOW is checked and takes effect from the next value. -/
  | windowThreshold (dt : Elapsed) (w : Nat) (high : Bool) (v : Nat)
  /-- BURNISH_PASS (R438): BURNISH_INTERVAL elapses and a Burnish pass over the privileged partitions begins. -/
  | burnishPass (dt : Elapsed)
  /-- BURNISH_PAGE (R439): Every 128 crystal periods one page is read at both references and groups are rewritten. -/
  | burnishPage (dt : Elapsed) (fixed margin : Nat) (uncorr : List (Nat × Nat × Nat × Nat × Nat))
  /-- RECORDER_FLUSH (R457): A flush trigger holds and the buffer is written to the log ring when its store claim is granted. -/
  | recorderFlush (dt : Elapsed)
  /-- RECORDER_AGE_EXPIRY (R457): The oldest buffered record reaches 10 s of age and triggers a flush. -/
  | recorderAgeExpiry (dt : Elapsed)
  /-- OPERATING_TIME_UPDATE (R453): Every 60 s the operating time is written to ring 64. -/
  | operatingTimeUpdate (dt : Elapsed)
  /-- TIME_LINK (R456): At each NRL.TIME application and hourly, the recorder writes TIME_LINK. -/
  | timeLink (dt : Elapsed)
  /-- POWER_FAIL (R472): VSYS below 17.5 V for 10 µs starts a ride on HOLD and the power-fail flush. -/
  | powerFail (dt : Elapsed) (vsys hold : Nat)
  /-- RIDE_RETURN (R473): VSYS above 18.0 V for 1 ms ends the ride in a return. -/
  | rideReturn (dt : Elapsed) (vsys hold : Nat)
  /-- SHUTDOWN (R474): RIDE_MAX or HOLD at 33.0 V ends the ride, and the module flushes and enters POR. -/
  | shutdown (dt : Elapsed) (hold : Nat)
  /-- HOLD_TEST (R477): A write of HOLD_TEST requests a hold-up test. -/
  | holdTest (dt : Elapsed)
  /-- HOLD_TEST_RUN (R477): A scheduled or requested hold-up test starts with the charger paused. -/
  | holdTestRun (dt : Elapsed)
  /-- HOLD_TEST_DONE (R478): The hold-up test completes, and C_meas, ESR and the capacitor flags are updated. -/
  | holdTestDone (dt : Elapsed) (cap esr hold : Nat)
  /-- SLACK_SAMPLE (R483): Every 60 s the timing replicas are sampled, and an urgent lane step may follow. -/
  | slackSample (dt : Elapsed) (a b c : Int)
  /-- AGEING_SAMPLE (R479): Die temperatures are sampled and equivalent ages accumulate. -/
  | ageingSample (dt : Elapsed) (tl : Nat) (td ta : List Nat)
  /-- AGE_RING_UPDATE (R479): Every 600 s the equivalent-age rings are updated. -/
  | ageRingUpdate (dt : Elapsed)
  /-- EPOCH_END (R480): An epoch ends; the margin plan is evaluated, and the EPOCH record and history are written. -/
  | epochEnd (dt : Elapsed)
  /-- BACKUP_POWER_ON (R507): The backup domain powers on after losing power, clears its state and sets OSF. -/
  | backupPowerOn (dt : Elapsed) (logic : Bool)
  /-- VBAT_MEASURE (R508): Hourly, VBAT is loaded and measured, and VBAT_LOW is updated. -/
  | vbatMeasure (dt : Elapsed) (v : Nat)
  /-- SECOND_BOUNDARY (R512): At each calendar second the alarm is evaluated. -/
  | secondBoundary (dt : Elapsed)
  /-- WAKE_PERIOD (R512): The periodic wake interval elapses and sets WAKE. -/
  | wakePeriod (dt : Elapsed)
  /-- RTC_TIME (R510): A write of RTC.TIME sets the calendar, clears OSF and evaluates the alarm. -/
  | rtcTime (dt : Elapsed) (secs sub session : Nat)
  /-- RTC_WAKE (R512): A write of RTC.WAKE restarts the periodic wake count. -/
  | rtcWake (dt : Elapsed) (period : Nat) (pwrEn en : Bool)
  /-- OFF (R514): A write of RTC.PWRON.OFF starts OFF_DELAY and flushes the recorder. -/
  | off (dt : Elapsed)
  /-- OFF_DELAY_EXPIRY (R514): OFF_DELAY expires and PWRON_N is released. -/
  | offDelayExpiry (dt : Elapsed)
  /-- RNG_FAIL (R540): A raw-bit health test fails; output stops and source 308 is asserted. -/
  | rngFail (dt : Elapsed) (kind : Nat)
  /-- RNG_RETEST (R540): 100 ms after a failure, the source repeats its start-up tests and clears or keeps the failure. -/
  | rngRetest (dt : Elapsed) (kind : Nat)
  /-- USB_VBUS_ATTACH (R518): USB_VBUS appears while the firmware runs, and the D+ pull-up is enabled. -/
  | usbVbusAttach (dt : Elapsed)
  /-- USB_VBUS_LOSS (R518): USB_VBUS is lost; the pull-up is removed and the port's sessions close. -/
  | usbVbusLoss (dt : Elapsed)
  /-- USB_BULK_OUT (R519): A bulk-OUT transfer delivers a mailbox header and slots into the command ring. -/
  | usbBulkOut (dt : Elapsed) (b : List Nat)
  /-- USB_SUSPEND (R518): The bus suspends or resumes and bulk-IN placement stops or restarts. -/
  | usbSuspend (dt : Elapsed) (b : Bool)
  /-- READMIT (R271): A write of PLT.LANE.READMIT sends a RETIRED or FAILED lane to TESTING. -/
  | readmit (dt : Elapsed) (mask : Nat)
  /-- RETIRE (R270): A write of PLT.LANE.RETIRE retires a lane with cause COMMAND. -/
  | retire (dt : Elapsed) (mask : Nat)
  /-- QUALIFYING_CODE_ERROR (R34): A port in QUALIFYING receives a code error and returns to FAULTED. -/
  | qualifyingCodeError (dt : Elapsed) (p : Port)
  /-- INIT_FILTER_ELAPSED (R329): The filter time after a channel's first-state comparison elapses without an accepted change, and its INIT bit clears. -/
  | initFilterElapsed (dt : Elapsed) (c : Nat)
  /-- OUT_PULSE_END (R312): WIDTH µs after an OUT_PULSE fires, the field die switches the fast channel off again. -/
  | outPulseEnd (dt : Elapsed) (e : Nat)
  /-- TRIGGERED_DIAG_SLOT (R406): In triggered start, the open-wire slot begins 1.0 µs after the DIAG_N-th value conversion, and its diagnostic conversion follows 20 µs later. -/
  | triggeredDiagSlot (dt : Elapsed) (g p : Nat)
  /-- RNG_STARTUP_TESTS_DONE (R539): At power-up the random source finishes its 1,024-bit start-up tests and its first output becomes available. -/
  | rngStartupTestsDone (dt : Elapsed) (kind : Nat)
  /-- NONCE_WAIT_TIMEOUT (R119): A SES_OPEN that has waited 10 ms for MNONCE is refused with ENTROPY_UNAVAILABLE, and no session is taken. -/
  | nonceWaitTimeout (dt : Elapsed)
  /-- AUTH_LOCKED_EXPIRY (R120): The 60 s AUTH_LOCKED period of a role ends, and SES_OPEN for the role is accepted again. -/
  | authLockedExpiry (dt : Elapsed)
  /-- RESET_N_RELEASE (R98): RESET_N returns high after the module was held in reset, and the start-up begins. -/
  | resetNRelease (dt : Elapsed) (lineEnd compat xtal : Bool)
  /-- REC_CLEAR_DONE (R464): The flush, the CLEARMARK write and the CLEARED record of a REC_CLEAR complete or are refused, and its FIN is created. -/
  | recClearDone (dt : Elapsed)
  /-- BACKUP_SUPPLY_CHANGEOVER (R506): VSYS crosses 17.0 V and the backup domain changes its feed between the logic side and VBAT. -/
  | backupSupplyChangeover (dt : Elapsed) (logic : Bool)
  /-- BACKUP_POWER_LOSS (R507): With VSYS absent, VBAT falls below 2.0 V and the backup domain loses power. -/
  | backupPowerLoss (dt : Elapsed)
  /-- USB_CONTROL_REQUEST (R518): A control request arrives on EP0 and is answered as USB 2.0 chapter 9 gives, or stalled. -/
  | usbControlRequest (dt : Elapsed) (rt rq v i len : Nat)
  /-- HANDOVER_ABANDONED (R532): The handover point has not come within 50 ms, so the supervisor handover is abandoned with FIN FW_BUSY. -/
  | handoverAbandoned (dt : Elapsed)
  /-- SECURITY_UNIT_IDLE (R469): The security unit has been idle for 10 ms and its switched power domain powers down. -/
  | securityUnitIdle (dt : Elapsed)
deriving DecidableEq, Repr

end Sys2Proof
end

