-- ==== Sys2Proof/Decode.lean ====
section
/-!
DEFINITION. The decoder of lane instruction steps (ZEN-4 to ZEN-12, R206, R210), which the load checks and the lanes
share, its encoder, and decodeTableWord: the command table gives no row any bits, so no word spells a command.
-/

namespace Sys2Proof

/-- The command a word of the command table spells: the table numbers no bits for any row. -/
def decodeTableWord (_nbits _w : Nat) : Option Instr := none

namespace Zen

/-- Bits `hi` down to `lo` of a step. -/
def fld (w hi lo : Nat) : Nat := (w >>> lo) % 2 ^ (hi + 1 - lo)

/-- One bit of a step. -/
def bit (w k : Nat) : Bool := decide (fld w k k = 1)

/-- The row's answer when its reserved bits are 0 and its fields are allowed. -/
def when (c : Bool) (i : Instr) : Option Instr := if c then some i else none

/-- Area codes a read may name: all but 7. -/
def rdArea (a : Nat) : Bool := decide (a < 7)

/-- Area codes a store may name (R210): Q, M, D. -/
def wrArea (a : Nat) : Bool := decide (1 ≤ a) && decide (a ≤ 3)

/-- X = 0 leaves IXN 0 (R206). -/
def ixOk (w : Nat) : Bool := bit w 20 || decide (fld w 19 18 = 0)

/-- The operand of format MB. -/
def mb (w : Nat) : BitOp := ⟨fld w 23 21, bit w 20, fld w 19 18, bit w 17, fld w 16 0⟩

/-- The operand of format MA. -/
def ma (w : Nat) : MaOp := ⟨fld w 23 21, bit w 20, fld w 19 18, fld w 17 16, fld w 15 0⟩

/-- The operand of format MV. -/
def mv (w : Nat) : MvOp := ⟨fld w 23 21, bit w 20, fld w 19 18, fld w 17 14, fld w 13 0⟩

/-- VD, VS, VT and IMM12 of format R. -/
def vd (w : Nat) : Nat := fld w 23 20
def vs (w : Nat) : Nat := fld w 19 16
def vt (w : Nat) : Nat := fld w 15 12
def im (w : Nat) : Nat := fld w 11 0

/-- Format R with all three registers. -/
def r3 (w : Nat) : Bool := decide (im w = 0)

/-- Format R with VD and VS. -/
def r2 (w : Nat) : Bool := decide (fld w 15 0 = 0)

/-- Format R with VS alone. -/
def r1s (w : Nat) : Bool := decide (vd w = 0) && decide (fld w 15 0 = 0)

/-- Format R with VD alone. -/
def r1d (w : Nat) : Bool := decide (fld w 19 0 = 0)

/-- The shift amount of SHL, SHR, ASR, ROL and whether its unused bits are 0. -/
def shiftOf (w : Nat) : Shift := if bit w 11 then .reg (vt w) else .imm (fld w 4 0)
def shiftOk (w : Nat) : Bool :=
  decide (fld w 10 5 = 0) && (if bit w 11 then decide (fld w 4 0 = 0) else decide (vt w = 0))

/-- An instance identifier (ZEN-4). -/
def idOk (w : Nat) : Bool := decide (1 ≤ fld w 15 0) && decide (fld w 15 0 ≤ 0xFFFE)

/-- Format N without V and UNIT. -/
def nPlain (w : Nat) : Bool := decide (fld w 23 16 = 0) && idOk w

/-- Format N with V alone. -/
def nV (w : Nat) : Bool := decide (fld w 19 16 = 0) && idOk w

/-- Format N with V and UNIT. -/
def nU (w : Nat) : Bool := decide (fld w 19 18 < 3) && decide (fld w 17 16 = 0) && idOk w

/-- Format S without operand. -/
def s0 (w : Nat) : Bool := decide (fld w 23 0 = 0)

/-- The lane instruction of a 32-bit step, none where it is an undefined encoding (R210). -/
def decodeStep (w : Nat) : Option Instr :=
  match fld w 31 24 with
  | 0x00 => when (s0 w) .zNOP
  | 0x01 => when (rdArea (fld w 23 21) && ixOk w) (.zLD (mb w))
  | 0x02 => when (rdArea (fld w 23 21) && ixOk w) (.zAND (mb w))
  | 0x03 => when (rdArea (fld w 23 21) && ixOk w) (.zOR (mb w))
  | 0x04 => when (rdArea (fld w 23 21) && ixOk w) (.zXOR (mb w))
  | 0x05 => when (wrArea (fld w 23 21) && ixOk w) (.zST (mb w))
  | 0x06 => when (wrArea (fld w 23 21) && ixOk w && !(bit w 17)) (.zSET (mb w))
  | 0x07 => when (wrArea (fld w 23 21) && ixOk w && !(bit w 17)) (.zRST (mb w))
  | 0x08 => when (s0 w) .zNOT
  | 0x09 => when (s0 w) .zSETBA
  | 0x0A => when (s0 w) .zCLRBA
  | 0x0B => when (decide (fld w 23 3 = 0) && decide (fld w 2 0 ≤ 5)) (.zLDF (fld w 2 0))
  | 0x0C => when (decide (vd w = 0) && decide (vt w = 0) && decide (fld w 11 6 = 0)) (.zBTST (vs w) (fld w 4 0) (bit w 5))
  | 0x0D => when (decide (fld w 19 5 = 0)) (.zBST (vd w) (fld w 4 0))
  | 0x10 => when (decide (fld w 23 3 = 0) && decide (fld w 1 0 ≤ 2)) (.zBOPEN (fld w 1 0) (bit w 2))
  | 0x11 => when (s0 w) .zBCLOSE
  | 0x18 => when (nPlain w) (.zEDGR (fld w 15 0))
  | 0x19 => when (nPlain w) (.zEDGF (fld w 15 0))
  | 0x20 => when (nU w) (.zTON (fld w 15 0) (vd w) (fld w 19 18))
  | 0x21 => when (nU w) (.zTOF (fld w 15 0) (vd w) (fld w 19 18))
  | 0x22 => when (nU w) (.zTP (fld w 15 0) (vd w) (fld w 19 18))
  | 0x23 => when (nPlain w) (.zTRST (fld w 15 0))
  | 0x24 => when (nV w) (.zTRD (vd w) (fld w 15 0))
  | 0x28 => when (nV w) (.zCTU (vd w) (fld w 15 0))
  | 0x29 => when (nPlain w) (.zCTD (fld w 15 0))
  | 0x2A => when (nPlain w) (.zCRST (fld w 15 0))
  | 0x2B => when (nV w) (.zCLDV (vd w) (fld w 15 0))
  | 0x2C => when (nV w) (.zCRD (vd w) (fld w 15 0))
  | 0x40 => when (rdArea (fld w 23 21) && ixOk w) (.zLDA (ma w))
  | 0x41 => when (rdArea (fld w 23 21) && ixOk w) (.zADD (ma w))
  | 0x42 => when (rdArea (fld w 23 21) && ixOk w) (.zSUB (ma w))
  | 0x43 => when (wrArea (fld w 23 21) && ixOk w) (.zSTW (ma w))
  | 0x44 => when (rdArea (fld w 23 21) && ixOk w) (.zCMPA (ma w))
  | 0x48 => when (r1s w) (.zLDAV (vs w))
  | 0x49 => when (r1s w) (.zADDA (vs w))
  | 0x4A => when (r1s w) (.zSUBA (vs w))
  | 0x4B => when (decide (vd w = 0) && decide (fld w 11 5 = 0)) (.zMAC (vs w) (vt w) (fld w 4 0))
  | 0x4C => when (s0 w) .zNEGA
  | 0x4D => when (r1d w) (.zSTAV (vd w))
  | 0x4E => when (decide (fld w 23 6 = 0) && decide (fld w 5 0 ≤ 39)) (.zASRA (fld w 5 0))
  | 0x4F => when (decide (fld w 23 4 = 0) && decide (fld w 3 0 ≤ 8)) (.zSHLA (fld w 3 0))
  | 0x50 => when (s0 w) .zCLRA
  | 0x51 => when (r1d w) (.zRDAH (vd w))
  | 0x60 => when (rdArea (fld w 23 21) && ixOk w) (.zLDV (mv w))
  | 0x61 => when (wrArea (fld w 23 21) && ixOk w) (.zSTV (mv w))
  | 0x62 => when (decide (fld w 19 16 = 0)) (.zLDI (vd w) (fld w 15 0))
  | 0x63 => when (decide (fld w 19 16 = 0)) (.zLDIH (vd w) (fld w 15 0))
  | 0x64 => when (r2 w) (.zMOV (vd w) (vs w))
  | 0x65 => when (r3 w) (.zIADD (vd w) (vs w) (vt w))
  | 0x66 => when (r3 w) (.zISUB (vd w) (vs w) (vt w))
  | 0x67 => when (r3 w) (.zIMUL (vd w) (vs w) (vt w))
  | 0x68 => when (r3 w) (.zIDIV (vd w) (vs w) (vt w))
  | 0x69 => when (r3 w) (.zIMOD (vd w) (vs w) (vt w))
  | 0x6A => when (decide (vt w = 0)) (.zIADDI (vd w) (vs w) (im w))
  | 0x6B => when (r3 w) (.zWAND (vd w) (vs w) (vt w))
  | 0x6C => when (r3 w) (.zWOR (vd w) (vs w) (vt w))
  | 0x6D => when (r3 w) (.zWXOR (vd w) (vs w) (vt w))
  | 0x6E => when (r2 w) (.zWNOT (vd w) (vs w))
  | 0x6F => when (shiftOk w) (.zSHL (vd w) (vs w) (shiftOf w))
  | 0x70 => when (shiftOk w) (.zSHR (vd w) (vs w) (shiftOf w))
  | 0x71 => when (shiftOk w) (.zASR (vd w) (vs w) (shiftOf w))
  | 0x72 => when (shiftOk w) (.zROL (vd w) (vs w) (shiftOf w))
  | 0x73 => when (decide (vd w = 0) && r3 w) (.zCMP (vs w) (vt w))
  | 0x74 => when (decide (vd w = 0) && decide (vt w = 0)) (.zCMPI (vs w) (im w))
  | 0x78 => when (decide (fld w 21 20 = 0)) (.zLDIX (fld w 23 22) (fld w 19 0))
  | 0x79 => when (decide (fld w 21 4 = 0)) (.zMOVIX (fld w 23 22) (fld w 3 0))
  | 0x7A => when (decide (fld w 21 20 = 0)) (.zADDIX (fld w 23 22) (fld w 19 0))
  | 0x7B => when (decide (fld w 21 4 = 0)) (.zRDIX (fld w 3 0) (fld w 23 22))
  | 0x80 => when (r3 w) (.zFADD (vd w) (vs w) (vt w))
  | 0x81 => when (r3 w) (.zFSUB (vd w) (vs w) (vt w))
  | 0x82 => when (r3 w) (.zFMUL (vd w) (vs w) (vt w))
  | 0x83 => when (r3 w) (.zFDIV (vd w) (vs w) (vt w))
  | 0x84 => when (r2 w) (.zFSQRT (vd w) (vs w))
  | 0x85 => when (r2 w) (.zFABS (vd w) (vs w))
  | 0x86 => when (r2 w) (.zFNEG (vd w) (vs w))
  | 0x87 => when (r3 w) (.zFMIN (vd w) (vs w) (vt w))
  | 0x88 => when (r3 w) (.zFMAX (vd w) (vs w) (vt w))
  | 0x89 => when (decide (vd w = 0) && r3 w) (.zFCMP (vs w) (vt w))
  | 0x8A => when (r2 w) (.zITOF (vd w) (vs w))
  | 0x8B => when (r2 w) (.zFTOI (vd w) (vs w))
  | 0x90 => when (decide (fld w 23 17 = 0)) (.zJMP (fld w 16 0))
  | 0x93 => when (decide (fld w 23 21 ≤ 6) && decide (fld w 19 17 = 0)) (.zJC (fld w 23 21) (bit w 20) (fld w 16 0))
  | 0x94 => when (decide (fld w 23 17 = 0)) (.zCALL (fld w 16 0))
  | 0x95 => when (s0 w) .zRET
  | 0x96 => when (decide (fld w 20 17 = 0) && !(bit w 23)) (.zLOOP (fld w 22 21) (fld w 16 0))
  | 0x97 => when (s0 w) .zEND
  | 0x98 => when (decide (fld w 23 16 = 0) && decide (fld w 15 0 ≤ 0xFEFF)) (.zHALT (fld w 15 0))
  | 0x99 => when (decide (fld w 23 6 = 0)) (.zCLRF (fld w 5 0))
  | 0x9A => when (r1d w) (.zRDF (vd w))
  | 0xA0 => when (decide (fld w 17 6 = 0) && decide (1 ≤ fld w 5 0) && rdArea (fld w 23 21) && wrArea (fld w 20 18))
      (.zBMOV (fld w 23 21) (fld w 20 18) (fld w 5 0))
  | 0xA1 => when (decide (fld w 23 21 = 0) && decide (fld w 17 6 = 0) && decide (1 ≤ fld w 5 0) && wrArea (fld w 20 18))
      (.zBFILL (fld w 20 18) (fld w 5 0))
  | 0xB0 => when (decide (vd w = 0) && r3 w) (.zEVARM (vs w) (vt w))
  | 0xB1 => when (r1s w) (.zEVDIS (vs w))
  | 0xB2 => when (decide (fld w 19 4 = 0)) (.zCAPRD (vd w) (fld w 1 0) (fld w 3 2))
  | 0xB3 => when (decide (fld w 19 2 = 0)) (.zCAPPTR (vd w) (fld w 1 0))
  | 0xC0 => when (decide (fld w 23 1 = 0)) (.zSNHOLD (fld w 0 0))
  | 0xC1 => when (decide (fld w 23 1 = 0)) (.zSNREL (fld w 0 0))
  | 0xC2 => when (r1d w) (.zRDTIM (vd w))
  | _ => none

/-- A step of format MB. -/
def emb (op : Nat) (b : BitOp) : Nat :=
  op * 2 ^ 24 + b.area * 2 ^ 21 + b.x.toNat * 2 ^ 20 + b.ixn * 2 ^ 18 + b.n.toNat * 2 ^ 17 + b.addr

/-- A step of format MA. -/
def ema (op : Nat) (o : MaOp) : Nat :=
  op * 2 ^ 24 + o.area * 2 ^ 21 + o.x.toNat * 2 ^ 20 + o.ixn * 2 ^ 18 + o.size * 2 ^ 16 + o.addr

/-- A step of format MV. -/
def emv (op : Nat) (o : MvOp) : Nat :=
  op * 2 ^ 24 + o.area * 2 ^ 21 + o.x.toNat * 2 ^ 20 + o.ixn * 2 ^ 18 + o.v * 2 ^ 14 + o.addr

/-- A step of format R. -/
def er (op d s t i : Nat) : Nat := op * 2 ^ 24 + d * 2 ^ 20 + s * 2 ^ 16 + t * 2 ^ 12 + i

/-- A step of format N. -/
def en (op v u id : Nat) : Nat := op * 2 ^ 24 + v * 2 ^ 20 + u * 2 ^ 18 + id

/-- A shift step. -/
def esh (op d s : Nat) : Shift → Nat
  | .imm n => er op d s 0 n
  | .reg t => er op d s t 2048

/-- The step of a lane instruction, from the same tables; 0 for a command that is none. -/
def encodeStep : Instr → Nat
  | .zNOP => 0
  | .zLD b => emb 0x01 b
  | .zAND b => emb 0x02 b
  | .zOR b => emb 0x03 b
  | .zXOR b => emb 0x04 b
  | .zST b => emb 0x05 b
  | .zSET b => emb 0x06 b
  | .zRST b => emb 0x07 b
  | .zNOT => 0x08000000
  | .zSETBA => 0x09000000
  | .zCLRBA => 0x0A000000
  | .zLDF f => 0x0B000000 + f
  | .zBTST s k n => er 0x0C 0 s 0 (n.toNat * 32 + k)
  | .zBST d k => er 0x0D d 0 0 k
  | .zBOPEN o n => 0x10000000 + n.toNat * 4 + o
  | .zBCLOSE => 0x11000000
  | .zEDGR id => en 0x18 0 0 id
  | .zEDGF id => en 0x19 0 0 id
  | .zTON id v u => en 0x20 v u id
  | .zTOF id v u => en 0x21 v u id
  | .zTP id v u => en 0x22 v u id
  | .zTRST id => en 0x23 0 0 id
  | .zTRD v id => en 0x24 v 0 id
  | .zCTU v id => en 0x28 v 0 id
  | .zCTD id => en 0x29 0 0 id
  | .zCRST id => en 0x2A 0 0 id
  | .zCLDV v id => en 0x2B v 0 id
  | .zCRD v id => en 0x2C v 0 id
  | .zLDA o => ema 0x40 o
  | .zADD o => ema 0x41 o
  | .zSUB o => ema 0x42 o
  | .zSTW o => ema 0x43 o
  | .zCMPA o => ema 0x44 o
  | .zLDAV s => er 0x48 0 s 0 0
  | .zADDA s => er 0x49 0 s 0 0
  | .zSUBA s => er 0x4A 0 s 0 0
  | .zMAC s t h => er 0x4B 0 s t h
  | .zNEGA => 0x4C000000
  | .zSTAV d => er 0x4D d 0 0 0
  | .zASRA n => 0x4E000000 + n
  | .zSHLA n => 0x4F000000 + n
  | .zCLRA => 0x50000000
  | .zRDAH d => er 0x51 d 0 0 0
  | .zLDV o => emv 0x60 o
  | .zSTV o => emv 0x61 o
  | .zLDI d i => 0x62000000 + d * 2 ^ 20 + i
  | .zLDIH d i => 0x63000000 + d * 2 ^ 20 + i
  | .zMOV d s => er 0x64 d s 0 0
  | .zIADD d s t => er 0x65 d s t 0
  | .zISUB d s t => er 0x66 d s t 0
  | .zIMUL d s t => er 0x67 d s t 0
  | .zIDIV d s t => er 0x68 d s t 0
  | .zIMOD d s t => er 0x69 d s t 0
  | .zIADDI d s i => er 0x6A d s 0 i
  | .zWAND d s t => er 0x6B d s t 0
  | .zWOR d s t => er 0x6C d s t 0
  | .zWXOR d s t => er 0x6D d s t 0
  | .zWNOT d s => er 0x6E d s 0 0
  | .zSHL d s n => esh 0x6F d s n
  | .zSHR d s n => esh 0x70 d s n
  | .zASR d s n => esh 0x71 d s n
  | .zROL d s n => esh 0x72 d s n
  | .zCMP s t => er 0x73 0 s t 0
  | .zCMPI s i => er 0x74 0 s 0 i
  | .zLDIX x i => 0x78000000 + x * 2 ^ 22 + i
  | .zMOVIX x s => 0x79000000 + x * 2 ^ 22 + s
  | .zADDIX x i => 0x7A000000 + x * 2 ^ 22 + i
  | .zRDIX d x => 0x7B000000 + x * 2 ^ 22 + d
  | .zFADD d s t => er 0x80 d s t 0
  | .zFSUB d s t => er 0x81 d s t 0
  | .zFMUL d s t => er 0x82 d s t 0
  | .zFDIV d s t => er 0x83 d s t 0
  | .zFSQRT d s => er 0x84 d s 0 0
  | .zFABS d s => er 0x85 d s 0 0
  | .zFNEG d s => er 0x86 d s 0 0
  | .zFMIN d s t => er 0x87 d s t 0
  | .zFMAX d s t => er 0x88 d s t 0
  | .zFCMP s t => er 0x89 0 s t 0
  | .zITOF d s => er 0x8A d s 0 0
  | .zFTOI d s => er 0x8B d s 0 0
  | .zJMP t => 0x90000000 + t
  | .zJC c s t => 0x93000000 + c * 2 ^ 21 + s.toNat * 2 ^ 20 + t
  | .zCALL t => 0x94000000 + t
  | .zRET => 0x95000000
  | .zLOOP x t => 0x96000000 + x * 2 ^ 21 + t
  | .zEND => 0x97000000
  | .zHALT c => 0x98000000 + c
  | .zCLRF m => 0x99000000 + m
  | .zRDF d => er 0x9A d 0 0 0
  | .zBMOV a b n => 0xA0000000 + a * 2 ^ 21 + b * 2 ^ 18 + n
  | .zBFILL b n => 0xA1000000 + b * 2 ^ 18 + n
  | .zEVARM s t => er 0xB0 0 s t 0
  | .zEVDIS s => er 0xB1 0 s 0 0
  | .zCAPRD d a x => er 0xB2 d 0 0 (x * 4 + a)
  | .zCAPPTR d a => er 0xB3 d 0 0 a
  | .zSNHOLD k => 0xC0000000 + k
  | .zSNREL k => 0xC1000000 + k
  | .zRDTIM d => er 0xC2 d 0 0 0
  | _ => 0

end Zen

end Sys2Proof
end

