-- ==== Sys2Proof/Config.lean ====
section
/-!
DEFINITION. What one part or one implementation fixes, and the free values: constants without a body, so that no proof
can rest on what they are.
-/

namespace Sys2Proof.Config

/-- A free value of the counter's count (assumption log 2): wherever the spec leaves a value open in a running machine,
the machine reads `free` at State.free and advances the counter. -/
opaque free : Nat → Nat

/-- The serial number of the part (R118), from the FACTORY partition. -/
opaque serial : Nat

/-- The public key of firmware signatures (R525), two coordinates, from the boot ROM. -/
opaque fwKeyX : Nat

/-- The second coordinate of the firmware key. -/
opaque fwKeyY : Nat

/-- The commissioning key of the part (R538), 32 bytes as one number. -/
opaque commissioningKey : Nat

/-- VERSION (0), SECVER (1) and ABI (2) of the image of a target that slot A holds when the module is delivered (R522). -/
opaque factory : Nat → Nat → Nat

/-- What the supervisor firmware writes into entry `k` of INT.SUP (0–63: PRIO, plus 256 for EN) and, for 64 and 65, into the
split points of SV0 and SV1 (R493, R495). -/
opaque supEntry : Nat → Nat

/-- Byte `k` of the 60 bytes before the CRC of an epoch summary with the number and metrics given (R480). -/
opaque histByte : Nat → List Int → Nat

end Sys2Proof.Config
end

