-- ==== Sys2Proof/Machine/Bits.lean ====
section
/-!
DEFINITION. Bit fields, byte order (R2), signed readings, saturation, and the checks of R42 and R45.
-/

namespace Sys2Proof.Machine

/-- Bits `hi` down to `lo` of `w` (R1). -/
def bits (w hi lo : Nat) : Nat := (w >>> lo) % 2 ^ (hi + 1 - lo)

/-- `w` with bits `hi` down to `lo` replaced by `v`. -/
def setBits (w hi lo v : Nat) : Nat :=
  w - (bits w hi lo) * 2 ^ lo + (v % 2 ^ (hi + 1 - lo)) * 2 ^ lo

/-- One bit as a number. -/
def b2n (b : Bool) : Nat := if b then 1 else 0

/-- The number whose little-endian bytes are given (R2). -/
def leNat : List Nat → Nat
  | [] => 0
  | b :: bs => b % 256 + 256 * leNat bs

/-- The `n` little-endian bytes of `w` (R2). -/
def leBytes : Nat → Nat → List Nat
  | 0, _ => []
  | n + 1, w => w % 256 :: leBytes n (w / 256)

/-- The number whose big-endian bytes are given. -/
def beNat (bs : List Nat) : Nat := bs.foldl (fun a b => a * 256 + b % 256) 0

/-- The `n` big-endian bytes of `w`. -/
def beBytes (n w : Nat) : List Nat := (leBytes n w).reverse

/-- `n` bytes of `l` from offset `o`, zero where the list ends. -/
def slice (l : List Nat) (o n : Nat) : List Nat :=
  let t := (l.drop o).take n
  t ++ List.replicate (n - t.length) 0

/-- The little-endian number in `n` bytes at offset `o`. -/
def leAt (l : List Nat) (o n : Nat) : Nat := leNat (slice l o n)

/-- `l` with `bs` written over it at offset `o`. -/
def overlay (l : List Nat) (o : Nat) (bs : List Nat) : List Nat :=
  l.take o ++ bs ++ l.drop (o + bs.length)

/-- `w` read as a signed number of `n` bits. -/
def sgn (n w : Nat) : Int :=
  let m := w % 2 ^ n
  if m < 2 ^ (n - 1) then (m : Int) else (m : Int) - 2 ^ n

/-- The low `n` bits of a signed number. -/
def unsgn (n : Nat) (i : Int) : Nat := (i % (2 ^ n : Int)).toNat

/-- `i` held between `lo` and `hi`. -/
def clampI (lo hi i : Int) : Int := if i < lo then lo else if hi < i then hi else i

/-- Division rounded to nearest, ties away from zero. -/
def divRound (a b : Int) : Int :=
  let q := (2 * a.natAbs + b.natAbs) / (2 * b.natAbs)
  if (a < 0) = (b < 0) then (q : Int) else -(q : Int)

/-- `a` comes after `b` in a count modulo 2^32 with a window of 2^31. -/
def after32 (a b : Nat) : Bool :=
  let d := (a + 2 ^ 32 - b % 2 ^ 32) % 2 ^ 32
  decide (1 ≤ d) && decide (d < 2 ^ 31)

/-- Whether a range list admits a value (no list: everything). -/
def inRanges (rs : List (Nat × Nat)) (v : Nat) : Bool :=
  rs.isEmpty || rs.any fun r => decide (r.1 ≤ v) && decide (v ≤ r.2)

/-- Eight shift steps of the reflected CRC-32 (R42). -/
def crc32Steps : Nat → Nat → Nat
  | 0, c => c
  | n + 1, c => crc32Steps n (if c % 2 = 1 then (c / 2) ^^^ 0xEDB88320 else c / 2)

/-- CRC-32 of R42: polynomial 0x04C1_1DB7, reflected, initial value and final XOR all ones. -/
def crc32 (bs : List Nat) : Nat :=
  (bs.foldl (fun c b => crc32Steps 8 (c ^^^ (b % 256))) 0xFFFFFFFF) ^^^ 0xFFFFFFFF

/-- Eight shift steps of the CRC-8 of R45. -/
def crc8Steps : Nat → Nat → Nat
  | 0, c => c
  | n + 1, c => crc8Steps n (if c ≥ 128 then ((c * 2) % 256) ^^^ 7 else c * 2)

/-- CRC-8 of R45: polynomial 0x07, initial value 0, no reflection, no final XOR. -/
def crc8 (bs : List Nat) : Nat := bs.foldl (fun c b => crc8Steps 8 (c ^^^ (b % 256))) 0

/-- The `n` bytes of a memory from address `a`. -/
def memBytes (m : Memory) (a n : Nat) : List Nat :=
  (List.range n).map fun k => (m.read (a + k)).toNat

/-- `n` bytes of a memory from address `a` on, in one walk over its entries, none of which lies below `a`. -/
def denseFrom : Nat → Nat → Memory → List Nat
  | 0, _, _ => []
  | n + 1, a, [] => 0 :: denseFrom n (a + 1) []
  | n + 1, a, (k, v) :: t => if k = a then v.toNat :: denseFrom n (a + 1) t else 0 :: denseFrom n (a + 1) ((k, v) :: t)

/-- A memory with bytes written from address `a` on. -/
def memPut (m : Memory) (a : Nat) : List Nat → Memory
  | [] => m
  | b :: bs => memPut (m.write a (BitVec.ofNat 8 b)) (a + 1) bs

/-- The little-endian number of `n` bytes at address `a` of a memory. -/
def memGet (m : Memory) (a n : Nat) : Nat := leNat (memBytes m a n)

/-- A memory with the `n` little-endian bytes of `v` at address `a`. -/
def memSet (m : Memory) (a n v : Nat) : Memory := memPut m a (leBytes n v)

/-- The part of a memory that lies in `lo` to `hi - 1`, at the same addresses. -/
def memPart (m : Memory) (lo hi : Nat) : Memory := m.filter fun e => decide (lo ≤ e.1) && decide (e.1 < hi)

/-- Bit `k` of a memory, counted from byte 0 bit 0. -/
def memBit (m : Memory) (k : Nat) : Bool := (m.read (k / 8)).toNat.testBit (k % 8)

/-- A memory with bit `k` set to `b`. -/
def memSetBit (m : Memory) (k : Nat) (b : Bool) : Memory :=
  m.write (k / 8) (BitVec.ofNat 8 (setBits (m.read (k / 8)).toNat (k % 8) (k % 8) (b2n b)))

/-- The median of three numbers. -/
def median3 (a b c : Int) : Int := a + b + c - max a (max b c) - min a (min b c)

/-- The vote of R268 over the copies that count: a majority or median of three, two equal ones, else nothing. -/
def vote3 (med : Bool) : List Int → Option Int
  | [a, b, c] => if med then some (median3 a b c) else if a = b ∨ a = c then some a else if b = c then some b else none
  | [a, b] => if a = b then some a else none
  | _ => none

end Sys2Proof.Machine
end

