-- ==== Sys2Proof/Machine/Codes.lean ====
section
/-!
DEFINITION. The status codes (MBX-15, NRL-10, CLK-9 and the chapters' own), the commit reason codes and the recorder
event codes, as the spec's tables number them.
-/


namespace Sys2Proof.Machine.Code

/-- NRL-10. -/
def LINK_OK : Nat := 0x0E00
/-- NRL-10. -/
def FRAME_REFUSED : Nat := 0x0E01
/-- NRL-10. -/
def STALE_FRAME : Nat := 0x0E02
/-- NRL-10. -/
def NOT_PLACED : Nat := 0x0E03
/-- NRL-10. -/
def LINK_BUSY : Nat := 0x0E04
/-- NRL-10. -/
def LATE_APPLY : Nat := 0x0E05
/-- NRL-10. -/
def BAD_VALUE : Nat := 0x0E06
/-- CLK-9. -/
def PLAN_PENDING : Nat := 0x0301
/-- CLK-9. -/
def LANES_LOADING : Nat := 0x0302
/-- CLK-9. -/
def GROUP_LOADING : Nat := 0x0303
/-- CLK-9. -/
def HOLD_LOW : Nat := 0x0304
/-- CLK-9. -/
def HOLDUP_CHARGING : Nat := 0x0305
/-- CLK-9. -/
def NOT_TIMED : Nat := 0x0306
/-- CLK-9. -/
def XTAL_FAULT : Nat := 0x0307
/-- CLK-9. -/
def START_FAILED : Nat := 0x0308
/-- MBX-15. -/
def OK : Nat := 0x0000
/-- MBX-15. -/
def ACCEPTED : Nat := 0x0001
/-- MBX-15. -/
def CANCELLED : Nat := 0x0002
/-- MBX-15. -/
def BAD_LENGTH : Nat := 0x0010
/-- MBX-15. -/
def BAD_OPCODE : Nat := 0x0011
/-- MBX-15. -/
def BAD_MAC : Nat := 0x0012
/-- MBX-15. -/
def STALE_SEQ : Nat := 0x0013
/-- MBX-15. -/
def ROLE_DENIED : Nat := 0x0014
/-- MBX-15. -/
def HANDLES_EXHAUSTED : Nat := 0x0015
/-- MBX-15. -/
def POOL_EXHAUSTED : Nat := 0x0016
/-- MBX-15. -/
def HANDLE_STALE : Nat := 0x0017
/-- MBX-15. -/
def NOT_CANCELLABLE : Nat := 0x0018
/-- MBX-15. -/
def ALREADY_DONE : Nat := 0x0019
/-- MBX-15. -/
def BAD_PAYLOAD : Nat := 0x001A
/-- MBX-15. -/
def NO_SESSION : Nat := 0x0101
/-- MBX-15. -/
def SESSIONS_FULL : Nat := 0x0102
/-- MBX-15. -/
def AUTH_FAILED : Nat := 0x0103
/-- MBX-15. -/
def AUTH_LOCKED : Nat := 0x0104
/-- MBX-15. -/
def NO_KEY : Nat := 0x0105
/-- MBX-15. -/
def AUTH_PENDING : Nat := 0x0106
/-- MBX-15. -/
def ENTROPY_UNAVAILABLE : Nat := 0x0107
/-- MBX-15. -/
def BAD_PATH : Nat := 0x0201
/-- MBX-15. -/
def NO_OBJECT : Nat := 0x0202
/-- MBX-15. -/
def NOT_WRITABLE : Nat := 0x0203
/-- MBX-15. -/
def OUT_OF_RANGE : Nat := 0x0204
/-- MBX-15. -/
def RES_NONZERO : Nat := 0x0205
/-- MBX-15. -/
def STAGED_ELSEWHERE : Nat := 0x0206
/-- MBX-15. -/
def STAGING_FULL : Nat := 0x0207
/-- MBX-15. -/
def COMMIT_REFUSED : Nat := 0x0208
/-- MBX-15. -/
def NOTHING_STAGED : Nat := 0x0209
/-- IMG-17. -/
def SNAPSHOT_LOST : Nat := 0x0601
/-- IMG-17. -/
def NO_SNAPSHOT : Nat := 0x0602
/-- IMG-17. -/
def PIN_LIMIT : Nat := 0x0603
/-- IMG-17. -/
def SNAPSHOT_OPEN : Nat := 0x0604
/-- IMG-17. -/
def SNAPSHOT_DAMAGED : Nat := 0x0605
/-- IMG-17. -/
def NOT_PINNED : Nat := 0x0606
/-- IMG-17. -/
def STAGING_WINDOW_FULL : Nat := 0x0607
/-- IMG-17. -/
def BAD_AREA : Nat := 0x0608
/-- IMG-17. -/
def OUT_OF_HOST_REGION : Nat := 0x0609
/-- SCN-15. -/
def MODE_BUSY : Nat := 0x0401
/-- SCN-15. -/
def BAD_TRANSITION : Nat := 0x0402
/-- SCN-15. -/
def FAULT_ACTIVE : Nat := 0x0403
/-- SCN-15. -/
def NO_PROGRAM : Nat := 0x0404
/-- SCN-15. -/
def CYCLE_MISMATCH : Nat := 0x0405
/-- SCN-15. -/
def NO_CONTINUE : Nat := 0x0406
/-- SCN-15. -/
def RETAIN_INVALID : Nat := 0x0407
/-- SCN-15. -/
def MODE_SUPERSEDED : Nat := 0x0408
/-- SCN-15. -/
def MODE_FAULT : Nat := 0x0409
/-- OED-13. -/
def BANK_ACTIVE : Nat := 0x0501
/-- OED-13. -/
def LOAD_BUSY : Nat := 0x0502
/-- OED-13. -/
def IMAGE_SIZE : Nat := 0x0503
/-- OED-13. -/
def LOAD_RANGE : Nat := 0x0504
/-- OED-13. -/
def DIGEST_MISMATCH : Nat := 0x0505
/-- OED-13. -/
def IMAGE_FORMAT : Nat := 0x0506
/-- OED-13. -/
def UNDEFINED_STEP : Nat := 0x0507
/-- OED-13. -/
def INSTANCE_INVALID : Nat := 0x0508
/-- OED-13. -/
def RELOC_INVALID : Nat := 0x0509
/-- OED-13. -/
def TASK_TABLE_INVALID : Nat := 0x050A
/-- OED-13. -/
def BANK_EMPTY : Nat := 0x050B
/-- OED-13. -/
def BUILD_MISMATCH : Nat := 0x050C
/-- OED-13. -/
def PRG_MODE : Nat := 0x050D
/-- OED-13. -/
def SWAP_TOO_LONG : Nat := 0x050E
/-- OED-13. -/
def SWAP_TIMEOUT : Nat := 0x050F
/-- OED-13. -/
def ACTIVATE_BUSY : Nat := 0x0510
/-- OED-13. -/
def TASKS_STAGED : Nat := 0x0511
/-- OED-13. -/
def NOT_PRIMARY : Nat := 0x0512
/-- OED-13. -/
def PARTNER_SILENT : Nat := 0x0513
/-- OED-13. -/
def PARTNER_IMAGE : Nat := 0x0514
/-- OED-13. -/
def PERIOD_CHANGE : Nat := 0x0515
/-- OED-13. -/
def ACTIVATE_FAULT : Nat := 0x0516
/-- OED-13. -/
def RETAIN_TABLE : Nat := 0x0517
/-- OED-13. -/
def LANE_COPY_FAILED : Nat := 0x0518
/-- PLT-18. -/
def LANE_LAST : Nat := 0x0701
/-- PLT-18. -/
def LANE_STATE : Nat := 0x0702
/-- PLT-18. -/
def NOT_PAIRED : Nat := 0x0703
/-- PLT-18. -/
def NOT_ELIGIBLE : Nat := 0x0704
/-- PLT-18. -/
def PAIR_BUSY : Nat := 0x0705
/-- PLT-18. -/
def PAIR_MODE : Nat := 0x0706
/-- PLT-18. -/
def DRILL_ABORTED : Nat := 0x0707
/-- ANG-17. -/
def CAPTURE_OVERWRITTEN : Nat := 0x0801
/-- ANG-17. -/
def CAPTURE_NOT_YET : Nat := 0x0802
/-- ANG-17. -/
def ENTRY_OWNER : Nat := 0x0803
/-- R360. -/
def CHANNEL_MODE : Nat := 0x0B01
/-- CNV-16. -/
def WINDOW_ORDER : Nat := 0x0B81
/-- CNV-16. -/
def NOT_RETIRED : Nat := 0x0B82
/-- CNV-16. -/
def CAL_BUSY : Nat := 0x0B83
/-- STO-16. -/
def STORE_FAULT : Nat := 0x0901
/-- STO-16. -/
def WRITE_ABANDONED : Nat := 0x0902
/-- STO-16. -/
def STORE_PATH : Nat := 0x0903
/-- STO-16. -/
def REC_OVERWRITTEN : Nat := 0x0904
/-- STO-16. -/
def REC_NOT_YET : Nat := 0x0905
/-- STO-16. -/
def BAD_CONFIRM : Nat := 0x0906
/-- R489. -/
def HOLD_TEST_BUSY : Nat := 0x0C01
/-- R489. -/
def HOLD_NOT_CHARGED : Nat := 0x0C02
/-- SEC-10. -/
def FW_BUSY : Nat := 0x0A01
/-- SEC-10. -/
def FW_SIZE : Nat := 0x0A02
/-- SEC-10. -/
def FW_RANGE : Nat := 0x0A03
/-- SEC-10. -/
def FW_FORMAT : Nat := 0x0A04
/-- SEC-10. -/
def FW_DIGEST : Nat := 0x0A05
/-- SEC-10. -/
def FW_SIGNATURE : Nat := 0x0A06
/-- SEC-10. -/
def FW_ROLLBACK : Nat := 0x0A07
/-- SEC-10. -/
def FW_NOT_STAGED : Nat := 0x0A08
/-- SEC-10. -/
def FW_MODE : Nat := 0x0A09
/-- SEC-10. -/
def LANES_NOT_FULL : Nat := 0x0A0A
/-- SEC-10. -/
def FW_AT_RESET : Nat := 0x0A0B
/-- SEC-10. -/
def FW_LANE_FAIL : Nat := 0x0A0C
/-- SEC-10. -/
def FW_FIELD_FAIL : Nat := 0x0A0D
/-- SEC-10. -/
def FW_INVALID : Nat := 0x0A0E
/-- SEC-10. -/
def SV_FAILOVER : Nat := 0x0A0F
/-- SEC-10. -/
def KEY_WRAP : Nat := 0x0A10
/-- SEC-10. -/
def KEY_LOCKED : Nat := 0x0A11

end Sys2Proof.Machine.Code

namespace Sys2Proof.Machine.Reason

/-- IMG-16. -/
def UPMAP_RANGE : Nat := 0x0001
/-- IMG-16. -/
def UPMAP_TOTAL : Nat := 0x0002
/-- IMG-16. -/
def SUBS_SELF : Nat := 0x0003
/-- IMG-16. -/
def SUBS_OVERLAP : Nat := 0x0004
/-- IMG-16. -/
def SUBS_DUPLICATE : Nat := 0x0005
/-- SCN-14. -/
def T0_SOURCE : Nat := 0x0001
/-- SCN-14. -/
def T0_PERIOD : Nat := 0x0002
/-- SCN-14. -/
def TASK_PERIOD : Nat := 0x0003
/-- SCN-14. -/
def TASK_ENTRY : Nat := 0x0004
/-- SCN-14. -/
def RETAIN_RANGE : Nat := 0x0005
/-- SCN-14. -/
def RETAIN_SIZE : Nat := 0x0006
/-- SCN-14. -/
def TASK_SOURCE : Nat := 0x0007
/-- PLT-17. -/
def MIRROR_RANGE : Nat := 0x0001
/-- PLT-17. -/
def MIRROR_SIZE : Nat := 0x0002
/-- PLT-17. -/
def MIRROR_TIME : Nat := 0x0003
/-- PLT-17. -/
def PAIR_1016 : Nat := 0x0004
/-- PLT-17. -/
def PAIR_SIDE : Nat := 0x0005
/-- ANG-14. -/
def SIGNAL : Nat := 0x0001
/-- ANG-14. -/
def SOURCE_PARAM : Nat := 0x0002
/-- ANG-14. -/
def SPEED_RANGE : Nat := 0x0003
/-- ANG-14. -/
def ENTRY_DOMAIN : Nat := 0x0004
/-- ANG-14. -/
def ENTRY_TARGET : Nat := 0x0005
/-- ANG-14. -/
def FC_MODE : Nat := 0x0006
/-- ANG-14. -/
def BOOST_RATE : Nat := 0x0007
/-- DIG-15. -/
def MODE_KIND : Nat := 0x0001
/-- DIG-15. -/
def PWM_RANGE : Nat := 0x0002
/-- DIG-15. -/
def CNT_DIR : Nat := 0x0003
/-- DIG-15. -/
def BOOST_CHARGE : Nat := 0x0004
/-- ANA-15. -/
def RANGE_MODE : Nat := 0x0001
/-- ANA-15. -/
def WIRING : Nat := 0x0002
/-- ANA-15. -/
def NE43_RANGE : Nat := 0x0003
/-- ANA-15. -/
def SAFE_CODE : Nat := 0x0004
/-- ANA-15. -/
def OW_MODE : Nat := 0x0005
/-- CNV-15. -/
def SEL_MODE : Nat := 0x0011
/-- CNV-15. -/
def STEP_MIN : Nat := 0x0012
/-- CNV-15. -/
def STEP_CYCLE : Nat := 0x0013
/-- CNV-15. -/
def SLOT_SPACING : Nat := 0x0014
/-- CNV-15. -/
def FILT_PARAM : Nat := 0x0021
/-- CNV-15. -/
def MAINS_SRC : Nat := 0x0022
/-- CNV-15. -/
def SCALE_RANGE : Nat := 0x0023
/-- CNV-15. -/
def LIN_ORDER : Nat := 0x0024
/-- CNV-15. -/
def DIAG_N : Nat := 0x0025
/-- CNV-15. -/
def WIN_ORDER : Nat := 0x0026
/-- R489. -/
def RIDE_CAP : Nat := 0x0001
/-- STO-15. -/
def CRING_RANGE : Nat := 0x0001
/-- STO-15. -/
def CRING_DUP : Nat := 0x0002
/-- INT-9. -/
def TARGET_CLASS : Nat := 0x0001
/-- INT-9. -/
def TASK_SRC : Nat := 0x0002
/-- INT-9. -/
def TASK_FIELD : Nat := 0x0003

end Sys2Proof.Machine.Reason

namespace Sys2Proof.Machine.Ev

/-- R503. -/
def STORM : Nat × Nat := (0x0C01, 2)
/-- STO-10. -/
def PORT_STATE : Nat × Nat := (0x0101, 1)
/-- STO-10. -/
def CINCH_LOST : Nat × Nat := (0x0102, 2)
/-- STO-10. -/
def RESET : Nat × Nat := (0x0201, 1)
/-- STO-10. -/
def LCLK_CHANGE : Nat × Nat := (0x0202, 1)
/-- STO-10. -/
def PARK : Nat × Nat := (0x0203, 1)
/-- STO-10. -/
def TIME_LINK : Nat × Nat := (0x0204, 0)
/-- STO-10. -/
def CLOCK_EVENT : Nat × Nat := (0x0205, 2)
/-- STO-10. -/
def AUTH_FAILED : Nat × Nat := (0x0301, 2)
/-- STO-10. -/
def BAD_MAC : Nat × Nat := (0x0302, 2)
/-- STO-10. -/
def UNPLACED_FIN : Nat × Nat := (0x0303, 1)
/-- STO-10. -/
def SV_HANDOVER : Nat × Nat := (0x0304, 1)
/-- STO-10. -/
def PIN_BROKEN : Nat × Nat := (0x0401, 1)
/-- STO-10. -/
def STITCH : Nat × Nat := (0x0402, 2)
/-- STO-10. -/
def MODE : Nat × Nat := (0x0501, 1)
/-- STO-10. -/
def HALT : Nat × Nat := (0x0502, 3)
/-- STO-10. -/
def AUTORUN_REFUSED : Nat × Nat := (0x0503, 2)
/-- STO-10. -/
def SWAP : Nat × Nat := (0x0504, 1)
/-- STO-10. -/
def SWAP_LAG : Nat × Nat := (0x0505, 2)
/-- STO-10. -/
def DISAGREE : Nat × Nat := (0x0601, 2)
/-- STO-10. -/
def RETIRE : Nat × Nat := (0x0602, 2)
/-- STO-10. -/
def ADMIT_DONE : Nat × Nat := (0x0603, 2)
/-- STO-10. -/
def ADMIT_FAIL : Nat × Nat := (0x0604, 2)
/-- STO-10. -/
def UNRESOLVED : Nat × Nat := (0x0605, 3)
/-- STO-10. -/
def LANES_LOST : Nat × Nat := (0x0606, 3)
/-- STO-10. -/
def FIELD_SPLIT : Nat × Nat := (0x0607, 2)
/-- STO-10. -/
def VOTE_SPLIT : Nat × Nat := (0x0608, 2)
/-- STO-10. -/
def SWITCHOVER : Nat × Nat := (0x0609, 2)
/-- STO-10. -/
def CLAIM_CONFLICT : Nat × Nat := (0x060A, 2)
/-- STO-10. -/
def SILENT_PROMOTE : Nat × Nat := (0x060B, 2)
/-- STO-10. -/
def SYNC : Nat × Nat := (0x0701, 1)
/-- STO-10. -/
def BOOST_PLAN : Nat × Nat := (0x0702, 2)
/-- STO-10. -/
def BSHORT : Nat × Nat := (0x0703, 2)
/-- STO-10. -/
def DIAG : Nat × Nat := (0x0801, 2)
/-- STO-10. -/
def REIN_STOP : Nat × Nat := (0x0802, 2)
/-- STO-10. -/
def SUPPRESSED : Nat × Nat := (0x0803, 0)
/-- STO-10. -/
def DIAG_STO9 : Nat × Nat := (0x0901, 2)
/-- STO-10. -/
def SLICE_RETIRE : Nat × Nat := (0x0A01, 2)
/-- STO-10. -/
def DITHER_FIXED : Nat × Nat := (0x0A02, 2)
/-- STO-10. -/
def UNCORR : Nat × Nat := (0x0D01, 2)
/-- STO-10. -/
def INCONSISTENT : Nat × Nat := (0x0D02, 2)
/-- STO-10. -/
def BURNISH_PASS : Nat × Nat := (0x0D03, 0)
/-- STO-10. -/
def WRITE_ABANDONED : Nat × Nat := (0x0D04, 2)
/-- STO-10. -/
def CLEARED : Nat × Nat := (0x0E01, 1)
/-- STO-10. -/
def LOST : Nat × Nat := (0x0E02, 2)
/-- STO-10. -/
def DROPPED : Nat × Nat := (0x0E03, 2)
/-- STO-10. -/
def POWER_FAIL : Nat × Nat := (0x0E04, 2)
/-- STO-10. -/
def DAMAGED : Nat × Nat := (0x0E05, 0)
/-- STO-10. -/
def NOT_STORED : Nat × Nat := (0x0E06, 0)
/-- PWR-14. -/
def POWER_RESTORED : Nat × Nat := (0x1001, 1)
/-- PWR-14. -/
def SHUTDOWN : Nat × Nat := (0x1002, 2)
/-- PWR-14. -/
def PLAN_STEP : Nat × Nat := (0x1003, 1)
/-- PWR-14. -/
def BUDGET_SHORT : Nat × Nat := (0x1004, 2)
/-- PWR-14. -/
def FORECAST_WARN : Nat × Nat := (0x1005, 2)
/-- PWR-14. -/
def PLAN_EXHAUSTED : Nat × Nat := (0x1006, 3)
/-- PWR-14. -/
def HOLD_TEST : Nat × Nat := (0x1007, 0)
/-- PWR-14. -/
def EPOCH : Nat × Nat := (0x1008, 0)
/-- TCK-9. -/
def OSC_STOP : Nat × Nat := (0x0F01, 2)
/-- TCK-9. -/
def TIME_SET : Nat × Nat := (0x0F02, 1)
/-- TCK-9. -/
def PWRON_OFF : Nat × Nat := (0x0F03, 1)
/-- TCK-9. -/
def PWRON_WAKE : Nat × Nat := (0x0F04, 1)
/-- TCK-9. -/
def VBAT_LOW : Nat × Nat := (0x0F05, 2)
/-- SEC-11. -/
def FW_STAGED : Nat × Nat := (0x1040, 1)
/-- SEC-11. -/
def FW_ACTIVATED : Nat × Nat := (0x1041, 1)
/-- SEC-11. -/
def FW_FALLBACK : Nat × Nat := (0x1042, 2)
/-- SEC-11. -/
def KEY_CHANGED : Nat × Nat := (0x1044, 1)
/-- SEC-11. -/
def RNG_FAIL : Nat × Nat := (0x1045, 2)
/-- SEC-11. -/
def RNG_OK : Nat × Nat := (0x1046, 1)

end Sys2Proof.Machine.Ev
end

