-- ==== Sys2Proof/Machine/Fields.lean ====
section
/-!
DEFINITION. Every field of the spec's register and object maps as a named constant: the object it belongs to, its
bits in the object (for an object of several like entries: in the entry) and its reset value. A field whose map
writes '—' or a strap for its reset takes the default the map states, or 0 (assumption log 1).
-/

namespace Sys2Proof.Machine.F

/-- Object number of NRL.ID. -/
def objNRL_ID : Nat := 0
/-- NRL.ID bits 23:16; NRL-15. -/
def NRL_ID_REV : Fld := ⟨0, 23, 16, 1⟩
/-- NRL.ID bits 15:0; NRL-15. -/
def NRL_ID_PART : Fld := ⟨0, 15, 0, 28968⟩
/-- Object number of NRL.POS. -/
def objNRL_POS : Nat := 1
/-- NRL.POS.PLACED bits 7:7; NRL-16. -/
def NRL_POS_PLACED : Fld := ⟨1, 7, 7, 0⟩
/-- NRL.POS.POS bits 5:0; NRL-16. -/
def NRL_POS_POS : Fld := ⟨1, 5, 0, 63⟩
/-- Object number of NRL.STATE. -/
def objNRL_STATE : Nat := 2
/-- NRL.STATE.CLKSRC bits 11:11; NRL-17. -/
def NRL_STATE_CLKSRC : Fld := ⟨2, 11, 11, 0⟩
/-- NRL.STATE.ROLE bits 10:10; NRL-17. -/
def NRL_STATE_ROLE : Fld := ⟨2, 10, 10, 0⟩
/-- NRL.STATE.WRAP_B bits 9:9; NRL-17. -/
def NRL_STATE_WRAP_B : Fld := ⟨2, 9, 9, 0⟩
/-- NRL.STATE.WRAP_A bits 8:8; NRL-17. -/
def NRL_STATE_WRAP_A : Fld := ⟨2, 8, 8, 0⟩
/-- NRL.STATE.PB_ST bits 7:4; NRL-17. -/
def NRL_STATE_PB_ST : Fld := ⟨2, 7, 4, 0⟩
/-- NRL.STATE.MOD_ST bits 3:0; NRL-17. -/
def NRL_STATE_MOD_ST : Fld := ⟨2, 3, 0, 0⟩
/-- Object number of NRL.CTRL. -/
def objNRL_CTRL : Nat := 3
/-- NRL.CTRL.PA_ST bits 11:8; NRL-18. -/
def NRL_CTRL_PA_ST : Fld := ⟨3, 11, 8, 0⟩
/-- NRL.CTRL.UNWRAP_FAIL bits 3:3; NRL-18. -/
def NRL_CTRL_UNWRAP_FAIL : Fld := ⟨3, 3, 3, 0⟩
/-- NRL.CTRL.CINCH_LOST bits 2:2; NRL-18. -/
def NRL_CTRL_CINCH_LOST : Fld := ⟨3, 2, 2, 0⟩
/-- NRL.CTRL.UNWRAP bits 1:1; NRL-18. -/
def NRL_CTRL_UNWRAP : Fld := ⟨3, 1, 1, 0⟩
/-- NRL.CTRL.ATTN_EN bits 0:0; NRL-18. -/
def NRL_CTRL_ATTN_EN : Fld := ⟨3, 0, 0, 0⟩
/-- Object number of NRL.CYCLE. -/
def objNRL_CYCLE : Nat := 4
/-- NRL.CYCLE bits 23:0; NRL-15. -/
def NRL_CYCLE_CYCLE : Fld := ⟨4, 23, 0, 0⟩
/-- Object number of NRL.CINCH_DELAY_A. -/
def objNRL_CINCH_DELAY_A : Nat := 5
/-- NRL.CINCH_DELAY_A bits 19:0; NRL-15. -/
def NRL_CINCH_DELAY_A_DELAY : Fld := ⟨5, 19, 0, 0⟩
/-- Object number of NRL.CINCH_DELAY_B. -/
def objNRL_CINCH_DELAY_B : Nat := 6
/-- NRL.CINCH_DELAY_B bits 19:0; NRL-15. -/
def NRL_CINCH_DELAY_B_DELAY : Fld := ⟨6, 19, 0, 0⟩
/-- Object number of NRL.TIME. -/
def objNRL_TIME : Nat := 7
/-- NRL.TIME bits 63:0; NRL-15. -/
def NRL_TIME_TIME : Fld := ⟨7, 63, 0, 0⟩
/-- Object number of NRL.PROBE_A. -/
def objNRL_PROBE_A : Nat := 8
/-- NRL.PROBE_A bits 31:0; NRL-15. -/
def NRL_PROBE_A_ARRIVAL : Fld := ⟨8, 31, 0, 0⟩
/-- Object number of NRL.PROBE_B. -/
def objNRL_PROBE_B : Nat := 9
/-- NRL.PROBE_B bits 31:0; NRL-15. -/
def NRL_PROBE_B_ARRIVAL : Fld := ⟨9, 31, 0, 0⟩
/-- Object number of NRL.PROBE_ID. -/
def objNRL_PROBE_ID : Nat := 10
/-- NRL.PROBE_ID bits 15:8; NRL-15. -/
def NRL_PROBE_ID_ID_B : Fld := ⟨10, 15, 8, 0⟩
/-- NRL.PROBE_ID bits 7:0; NRL-15. -/
def NRL_PROBE_ID_ID_A : Fld := ⟨10, 7, 0, 0⟩
/-- Object number of NRL.FSEQ_HIGH. -/
def objNRL_FSEQ_HIGH : Nat := 11
/-- NRL.FSEQ_HIGH bits 31:0; NRL-15. -/
def NRL_FSEQ_HIGH_HIGH : Fld := ⟨11, 31, 0, 0⟩
/-- Object number of NRL.PORTA_ERR. -/
def objNRL_PORTA_ERR : Nat := 12
/-- NRL.PORTA_ERR.UPSTREAM_ERR_A bits 31:16; NRL-19. -/
def NRL_PORTA_ERR_UPSTREAM_ERR_A : Fld := ⟨12, 31, 16, 0⟩
/-- NRL.PORTA_ERR.CODE_ERR_A bits 15:0; NRL-19. -/
def NRL_PORTA_ERR_CODE_ERR_A : Fld := ⟨12, 15, 0, 0⟩
/-- Object number of NRL.PORTA_LINK. -/
def objNRL_PORTA_LINK : Nat := 13
/-- NRL.PORTA_LINK.LOCK_LOSS_A bits 31:16; NRL-19. -/
def NRL_PORTA_LINK_LOCK_LOSS_A : Fld := ⟨13, 31, 16, 0⟩
/-- NRL.PORTA_LINK.CRC_ERR_A bits 15:0; NRL-19. -/
def NRL_PORTA_LINK_CRC_ERR_A : Fld := ⟨13, 15, 0, 0⟩
/-- Object number of NRL.PORTB_ERR. -/
def objNRL_PORTB_ERR : Nat := 14
/-- NRL.PORTB_ERR.UPSTREAM_ERR_B bits 31:16; NRL-19. -/
def NRL_PORTB_ERR_UPSTREAM_ERR_B : Fld := ⟨14, 31, 16, 0⟩
/-- NRL.PORTB_ERR.CODE_ERR_B bits 15:0; NRL-19. -/
def NRL_PORTB_ERR_CODE_ERR_B : Fld := ⟨14, 15, 0, 0⟩
/-- Object number of NRL.PORTB_LINK. -/
def objNRL_PORTB_LINK : Nat := 15
/-- NRL.PORTB_LINK.LOCK_LOSS_B bits 31:16; NRL-19. -/
def NRL_PORTB_LINK_LOCK_LOSS_B : Fld := ⟨15, 31, 16, 0⟩
/-- NRL.PORTB_LINK.CRC_ERR_B bits 15:0; NRL-19. -/
def NRL_PORTB_LINK_CRC_ERR_B : Fld := ⟨15, 15, 0, 0⟩
/-- Object number of NRL.CINCH_CNT. -/
def objNRL_CINCH_CNT : Nat := 16
/-- NRL.CINCH_CNT.CINCH_SKEW bits 31:16; NRL-19. -/
def NRL_CINCH_CNT_CINCH_SKEW : Fld := ⟨16, 31, 16, 0⟩
/-- NRL.CINCH_CNT.CINCH_SUBST bits 15:0; NRL-19. -/
def NRL_CINCH_CNT_CINCH_SUBST : Fld := ⟨16, 15, 0, 0⟩
/-- Object number of NRL.CINCH_ERR. -/
def objNRL_CINCH_ERR : Nat := 17
/-- NRL.CINCH_ERR.CINCH_NUMERR bits 31:16; NRL-19. -/
def NRL_CINCH_ERR_CINCH_NUMERR : Fld := ⟨17, 31, 16, 0⟩
/-- NRL.CINCH_ERR.CINCH_JITTER bits 15:0; NRL-19. -/
def NRL_CINCH_ERR_CINCH_JITTER : Fld := ⟨17, 15, 0, 0⟩
/-- Object number of CLK.STATUS. -/
def objCLK_STATUS : Nat := 18
/-- CLK.STATUS.RESET_CAUSE bits 27:24; CLK-11. -/
def CLK_STATUS_RESET_CAUSE : Fld := ⟨18, 27, 24, 0⟩
/-- CLK.STATUS.XTAL_OK bits 12:12; CLK-11. -/
def CLK_STATUS_XTAL_OK : Fld := ⟨18, 12, 12, 0⟩
/-- CLK.STATUS.REFPORT bits 11:11; CLK-11. -/
def CLK_STATUS_REFPORT : Fld := ⟨18, 11, 11, 0⟩
/-- CLK.STATUS.LANE_CLK bits 10:8; CLK-11. -/
def CLK_STATUS_LANE_CLK : Fld := ⟨18, 10, 8, 0⟩
/-- CLK.STATUS.LCLK_NOM bits 7:6; CLK-11. -/
def CLK_STATUS_LCLK_NOM : Fld := ⟨18, 7, 6, 0⟩
/-- CLK.STATUS.CLK_PHASE bits 2:0; CLK-11. -/
def CLK_STATUS_CLK_PHASE : Fld := ⟨18, 2, 0, 0⟩
/-- Object number of CLK.START. -/
def objCLK_START : Nat := 19
/-- CLK.START.AG_LOADED bits 19:16; CLK-12. -/
def CLK_START_AG_LOADED : Fld := ⟨19, 19, 16, 0⟩
/-- CLK.START.DG_LOADED bits 15:8; CLK-12. -/
def CLK_START_DG_LOADED : Fld := ⟨19, 15, 8, 0⟩
/-- CLK.START.TIMED bits 5:5; CLK-12. -/
def CLK_START_TIMED : Fld := ⟨19, 5, 5, 0⟩
/-- CLK.START.HOLD_38 bits 4:4; CLK-12. -/
def CLK_START_HOLD_38 : Fld := ⟨19, 4, 4, 0⟩
/-- CLK.START.HOLD_30 bits 3:3; CLK-12. -/
def CLK_START_HOLD_30 : Fld := ⟨19, 3, 3, 0⟩
/-- CLK.START.LANES_LOADED bits 2:2; CLK-12. -/
def CLK_START_LANES_LOADED : Fld := ⟨19, 2, 2, 0⟩
/-- CLK.START.PLAN_DONE bits 1:1; CLK-12. -/
def CLK_START_PLAN_DONE : Fld := ⟨19, 1, 1, 0⟩
/-- CLK.START.RECALL_DONE bits 0:0; CLK-12. -/
def CLK_START_RECALL_DONE : Fld := ⟨19, 0, 0, 0⟩
/-- Object number of CLK.EVENTS. -/
def objCLK_EVENTS : Nat := 20
/-- CLK.EVENTS.PARK_ANN bits 6:6; CLK-13. -/
def CLK_EVENTS_PARK_ANN : Fld := ⟨20, 6, 6, 0⟩
/-- CLK.EVENTS.RELOCK_LATE bits 5:5; CLK-13. -/
def CLK_EVENTS_RELOCK_LATE : Fld := ⟨20, 5, 5, 0⟩
/-- CLK.EVENTS.ANN_MISSED bits 4:4; CLK-13. -/
def CLK_EVENTS_ANN_MISSED : Fld := ⟨20, 4, 4, 0⟩
/-- CLK.EVENTS.PLL_OOR bits 3:3; CLK-13. -/
def CLK_EVENTS_PLL_OOR : Fld := ⟨20, 3, 3, 0⟩
/-- CLK.EVENTS.JUDGE_FAIL bits 2:2; CLK-13. -/
def CLK_EVENTS_JUDGE_FAIL : Fld := ⟨20, 2, 2, 0⟩
/-- CLK.EVENTS.LCLK_LOST bits 1:1; CLK-13. -/
def CLK_EVENTS_LCLK_LOST : Fld := ⟨20, 1, 1, 0⟩
/-- CLK.EVENTS.REF_SWITCH bits 0:0; CLK-13. -/
def CLK_EVENTS_REF_SWITCH : Fld := ⟨20, 0, 0, 0⟩
/-- Object number of CLK.LOST_CYCLES. -/
def objCLK_LOST_CYCLES : Nat := 21
/-- CLK.LOST_CYCLES bits 31:0; R105. -/
def CLK_LOST_CYCLES_COUNT : Fld := ⟨21, 31, 0, 0⟩
/-- Object number of CLK.PARK_TIME. -/
def objCLK_PARK_TIME : Nat := 22
/-- CLK.PARK_TIME bits 31:0; R105. -/
def CLK_PARK_TIME_PERIODS : Fld := ⟨22, 31, 0, 0⟩
/-- Object number of MBX.QUEUES. -/
def objMBX_QUEUES : Nat := 23
/-- MBX.QUEUES.CQ_FREE bits 27:16; MBX-16. -/
def MBX_QUEUES_CQ_FREE : Fld := ⟨23, 27, 16, 2048⟩
/-- MBX.QUEUES.CR_FREE bits 9:0; MBX-16. -/
def MBX_QUEUES_CR_FREE : Fld := ⟨23, 9, 0, 512⟩
/-- Object number of MBX.USE. -/
def objMBX_USE : Nat := 24
/-- MBX.USE.BAD_MAC bits 31:25; MBX-17. -/
def MBX_USE_BAD_MAC : Fld := ⟨24, 31, 25, 0⟩
/-- MBX.USE.SESSIONS_OPEN bits 24:16; MBX-17. -/
def MBX_USE_SESSIONS_OPEN : Fld := ⟨24, 24, 16, 0⟩
/-- MBX.USE.HANDLES_USED bits 11:0; MBX-17. -/
def MBX_USE_HANDLES_USED : Fld := ⟨24, 11, 0, 0⟩
/-- Object number of MBX.CFG. -/
def objMBX_CFG : Nat := 25
/-- MBX.CFG.CQ_TIMEOUT bits 16:0; MBX-18. -/
def MBX_CFG_CQ_TIMEOUT : Fld := ⟨25, 16, 0, 1000⟩
/-- Object number of MBX.SESn. -/
def objMBX_SES : Nat := 26
/-- MBX.SESn.LIMIT bits 27:16; R144. -/
def MBX_SES_LIMIT : Fld := ⟨26, 27, 16, 0⟩
/-- MBX.SESn.STATE bits 5:4; R144. -/
def MBX_SES_STATE : Fld := ⟨26, 5, 4, 0⟩
/-- MBX.SESn.ROLE bits 2:0; R144. -/
def MBX_SES_ROLE : Fld := ⟨26, 2, 0, 0⟩
/-- Object number of IMG.STATUS. -/
def objIMG_STATUS : Nat := 27
/-- IMG.STATUS.PINNED bits 22:20; IMG-12. -/
def IMG_STATUS_PINNED : Fld := ⟨27, 22, 20, 0⟩
/-- IMG.STATUS.PHOLDS bits 19:18; IMG-12. -/
def IMG_STATUS_PHOLDS : Fld := ⟨27, 19, 18, 0⟩
/-- IMG.STATUS.STALE_PEER bits 17:17; IMG-12. -/
def IMG_STATUS_STALE_PEER : Fld := ⟨27, 17, 17, 0⟩
/-- IMG.STATUS.UP_TRUNC bits 16:16; IMG-12. -/
def IMG_STATUS_UP_TRUNC : Fld := ⟨27, 16, 16, 0⟩
/-- IMG.STATUS.PIN_BROKEN bits 15:15; IMG-12. -/
def IMG_STATUS_PIN_BROKEN : Fld := ⟨27, 15, 15, 0⟩
/-- IMG.STATUS.DN_FORMAT bits 14:14; IMG-12. -/
def IMG_STATUS_DN_FORMAT : Fld := ⟨27, 14, 14, 0⟩
/-- IMG.STATUS.STAGE_FREE bits 11:0; IMG-12. -/
def IMG_STATUS_STAGE_FREE : Fld := ⟨27, 11, 0, 2048⟩
/-- Object number of IMG.STITCH. -/
def objIMG_STITCH : Nat := 28
/-- IMG.STITCH.DN_DROP bits 63:48; IMG-13. -/
def IMG_STITCH_DN_DROP : Fld := ⟨28, 63, 48, 0⟩
/-- IMG.STITCH.UCRC_FAIL bits 47:32; IMG-13. -/
def IMG_STITCH_UCRC_FAIL : Fld := ⟨28, 47, 32, 0⟩
/-- IMG.STITCH.WC_UNCORR bits 31:16; IMG-13. -/
def IMG_STITCH_WC_UNCORR : Fld := ⟨28, 31, 16, 0⟩
/-- IMG.STITCH.WC_CORR bits 15:0; IMG-13. -/
def IMG_STITCH_WC_CORR : Fld := ⟨28, 15, 0, 0⟩
/-- Object number of IMG.PINS. -/
def objIMG_PINS : Nat := 29
/-- IMG.PINS bits 31:0; R169. -/
def IMG_PINS_CINCH : Fld := ⟨29, 31, 0, 0⟩
/-- Object number of IMG.UPMAP. -/
def objIMG_UPMAP : Nat := 30
/-- IMG.UPMAP bits 47:32; IMG-14. -/
def IMG_UPMAP_LEN : Fld := ⟨30, 47, 32, 0⟩
/-- IMG.UPMAP bits 31:16; IMG-14. -/
def IMG_UPMAP_OFFSET : Fld := ⟨30, 31, 16, 0⟩
/-- IMG.UPMAP bits 7:0; IMG-14. -/
def IMG_UPMAP_AREA : Fld := ⟨30, 7, 0, 0⟩
/-- Object number of IMG.SUBS. -/
def objIMG_SUBS : Nat := 31
/-- IMG.SUBS bits 63:48; IMG-15. -/
def IMG_SUBS_PLEN : Fld := ⟨31, 63, 48, 0⟩
/-- IMG.SUBS bits 47:32; IMG-15. -/
def IMG_SUBS_POFF : Fld := ⟨31, 47, 32, 0⟩
/-- IMG.SUBS bits 23:16; IMG-15. -/
def IMG_SUBS_MAXAGE : Fld := ⟨31, 23, 16, 0⟩
/-- IMG.SUBS bits 8:8; IMG-15. -/
def IMG_SUBS_EN : Fld := ⟨31, 8, 8, 0⟩
/-- IMG.SUBS bits 7:0; IMG-15. -/
def IMG_SUBS_SRC : Fld := ⟨31, 7, 0, 0⟩
/-- Object number of SCN.MODE. -/
def objSCN_MODE : Nat := 32
/-- SCN.MODE.RETAIN_STALE bits 21:21; SCN-9. -/
def SCN_MODE_RETAIN_STALE : Fld := ⟨32, 21, 21, 0⟩
/-- SCN.MODE.RETAIN_VALID bits 20:20; SCN-9. -/
def SCN_MODE_RETAIN_VALID : Fld := ⟨32, 20, 20, 0⟩
/-- SCN.MODE.RET_MISS bits 19:16; SCN-9. -/
def SCN_MODE_RET_MISS : Fld := ⟨32, 19, 16, 0⟩
/-- SCN.MODE.CAUSE bits 15:8; SCN-9. -/
def SCN_MODE_CAUSE : Fld := ⟨32, 15, 8, 0⟩
/-- SCN.MODE.CAUSE_PERSISTS bits 7:7; SCN-9. -/
def SCN_MODE_CAUSE_PERSISTS : Fld := ⟨32, 7, 7, 0⟩
/-- SCN.MODE.PENDING bits 6:4; SCN-9. -/
def SCN_MODE_PENDING : Fld := ⟨32, 6, 4, 0⟩
/-- SCN.MODE.MODE bits 2:0; SCN-9. -/
def SCN_MODE_MODE : Fld := ⟨32, 2, 0, 0⟩
/-- Object number of SCN.Tn. -/
def objSCN_T : Nat := 33
/-- SCN.Tn.PHASE bits 127:96; SCN-10. -/
def SCN_T_PHASE : Fld := ⟨33, 127, 96, 0⟩
/-- SCN.Tn.ENTRY bits 80:64; SCN-10. -/
def SCN_T_ENTRY : Fld := ⟨33, 80, 64, 0⟩
/-- SCN.Tn.PERIOD bits 63:32; SCN-10. -/
def SCN_T_PERIOD : Fld := ⟨33, 63, 32, 0⟩
/-- SCN.Tn.WD_LIMIT bits 31:16; SCN-10. -/
def SCN_T_WD_LIMIT : Fld := ⟨33, 31, 16, 0⟩
/-- SCN.Tn.SKIP_MAX bits 15:8; SCN-10. -/
def SCN_T_SKIP_MAX : Fld := ⟨33, 15, 8, 0⟩
/-- SCN.Tn.PRIO bits 7:4; SCN-10. -/
def SCN_T_PRIO : Fld := ⟨33, 7, 4, 0⟩
/-- SCN.Tn.SRC bits 2:0; SCN-10. -/
def SCN_T_SRC : Fld := ⟨33, 2, 0, 0⟩
/-- Object number of SCN.Tn.STAT. -/
def objSCN_TSTAT : Nat := 34
/-- SCN.Tn.STAT.MAX_RUN bits 95:64; SCN-11. -/
def SCN_TSTAT_MAX_RUN : Fld := ⟨34, 95, 64, 0⟩
/-- SCN.Tn.STAT.LAST_RUN bits 63:32; SCN-11. -/
def SCN_TSTAT_LAST_RUN : Fld := ⟨34, 63, 32, 0⟩
/-- SCN.Tn.STAT.SKIPS bits 31:16; SCN-11. -/
def SCN_TSTAT_SKIPS : Fld := ⟨34, 31, 16, 0⟩
/-- SCN.Tn.STAT.RUNSKIP bits 15:0; SCN-11. -/
def SCN_TSTAT_RUNSKIP : Fld := ⟨34, 15, 0, 0⟩
/-- Object number of SCN.CFG. -/
def objSCN_CFG : Nat := 35
/-- SCN.CFG.STARTUP_LIMIT bits 63:48; SCN-12. -/
def SCN_CFG_STARTUP_LIMIT : Fld := ⟨35, 63, 48, 1000⟩
/-- SCN.CFG.HOLD_LIMIT bits 47:36; SCN-12. -/
def SCN_CFG_HOLD_LIMIT : Fld := ⟨35, 47, 36, 60⟩
/-- SCN.CFG.RET_PERIOD bits 35:26; SCN-12. -/
def SCN_CFG_RET_PERIOD : Fld := ⟨35, 35, 26, 10⟩
/-- SCN.CFG.CINCH_LOST_ACT bits 3:3; SCN-12. -/
def SCN_CFG_CINCH_LOST_ACT : Fld := ⟨35, 3, 3, 0⟩
/-- SCN.CFG.AUTORUN bits 1:0; SCN-12. -/
def SCN_CFG_AUTORUN : Fld := ⟨35, 1, 0, 0⟩
/-- Object number of SCN.RETAIN. -/
def objSCN_RETAIN : Nat := 36
/-- SCN.RETAIN bits 63:48; SCN-13. -/
def SCN_RETAIN_COUNT : Fld := ⟨36, 63, 48, 0⟩
/-- SCN.RETAIN bits 47:32; SCN-13. -/
def SCN_RETAIN_START : Fld := ⟨36, 47, 32, 0⟩
/-- SCN.RETAIN bits 7:0; SCN-13. -/
def SCN_RETAIN_AREA : Fld := ⟨36, 7, 0, 0⟩
/-- Object number of PRG.BANKA. -/
def objPRG_BANKA : Nat := 37
/-- PRG.BANKA.PROGID bits 191:160; OED-10. -/
def PRG_BANKA_PROGID : Fld := ⟨37, 191, 160, 0⟩
/-- PRG.BANKA.BUILD bits 159:128; OED-10. -/
def PRG_BANKA_BUILD : Fld := ⟨37, 159, 128, 0⟩
/-- PRG.BANKA.PREV_BUILD bits 127:96; OED-10. -/
def PRG_BANKA_PREV_BUILD : Fld := ⟨37, 127, 96, 0⟩
/-- PRG.BANKA.CODELEN bits 95:78; OED-10. -/
def PRG_BANKA_CODELEN : Fld := ⟨37, 95, 78, 0⟩
/-- PRG.BANKA.POOLLEN bits 76:60; OED-10. -/
def PRG_BANKA_POOLLEN : Fld := ⟨37, 76, 60, 0⟩
/-- PRG.BANKA.NINST bits 59:45; OED-10. -/
def PRG_BANKA_NINST : Fld := ⟨37, 59, 45, 0⟩
/-- PRG.BANKA.NRELOC bits 44:34; OED-10. -/
def PRG_BANKA_NRELOC : Fld := ⟨37, 44, 34, 0⟩
/-- PRG.BANKA.STATE bits 1:0; OED-10. -/
def PRG_BANKA_STATE : Fld := ⟨37, 1, 0, 0⟩
/-- Object number of PRG.BANKB. -/
def objPRG_BANKB : Nat := 38
/-- PRG.BANKB.PROGID bits 191:160; OED-10. -/
def PRG_BANKB_PROGID : Fld := ⟨38, 191, 160, 0⟩
/-- PRG.BANKB.BUILD bits 159:128; OED-10. -/
def PRG_BANKB_BUILD : Fld := ⟨38, 159, 128, 0⟩
/-- PRG.BANKB.PREV_BUILD bits 127:96; OED-10. -/
def PRG_BANKB_PREV_BUILD : Fld := ⟨38, 127, 96, 0⟩
/-- PRG.BANKB.CODELEN bits 95:78; OED-10. -/
def PRG_BANKB_CODELEN : Fld := ⟨38, 95, 78, 0⟩
/-- PRG.BANKB.POOLLEN bits 76:60; OED-10. -/
def PRG_BANKB_POOLLEN : Fld := ⟨38, 76, 60, 0⟩
/-- PRG.BANKB.NINST bits 59:45; OED-10. -/
def PRG_BANKB_NINST : Fld := ⟨38, 59, 45, 0⟩
/-- PRG.BANKB.NRELOC bits 44:34; OED-10. -/
def PRG_BANKB_NRELOC : Fld := ⟨38, 44, 34, 0⟩
/-- PRG.BANKB.STATE bits 1:0; OED-10. -/
def PRG_BANKB_STATE : Fld := ⟨38, 1, 0, 0⟩
/-- Object number of PRG.ACT. -/
def objPRG_ACT : Nat := 39
/-- PRG.ACT.SWAP_CINCH bits 63:32; OED-11. -/
def PRG_ACT_SWAP_CINCH : Fld := ⟨39, 63, 32, 0⟩
/-- PRG.ACT.SWAP_CYC bits 31:15; OED-11. -/
def PRG_ACT_SWAP_CYC : Fld := ⟨39, 31, 15, 0⟩
/-- PRG.ACT.DROPPED bits 14:8; OED-11. -/
def PRG_ACT_DROPPED : Fld := ⟨39, 14, 8, 0⟩
/-- PRG.ACT.LAGGED bits 7:7; OED-11. -/
def PRG_ACT_LAGGED : Fld := ⟨39, 7, 7, 0⟩
/-- PRG.ACT.PENDING bits 3:3; OED-11. -/
def PRG_ACT_PENDING : Fld := ⟨39, 3, 3, 0⟩
/-- PRG.ACT.ACTIVE bits 0:0; OED-11. -/
def PRG_ACT_ACTIVE : Fld := ⟨39, 0, 0, 0⟩
/-- Object number of PRG.CFG. -/
def objPRG_CFG : Nat := 40
/-- PRG.CFG.SWAP_MARGIN bits 9:0; OED-12. -/
def PRG_CFG_SWAP_MARGIN : Fld := ⟨40, 9, 0, 100⟩
/-- Object number of PLT.LANE. -/
def objPLT_LANE : Nat := 41
/-- PLT.LANE.READMIT bits 45:43; PLT-11. -/
def PLT_LANE_READMIT : Fld := ⟨41, 45, 43, 0⟩
/-- PLT.LANE.RETIRE bits 42:40; PLT-11. -/
def PLT_LANE_RETIRE : Fld := ⟨41, 42, 40, 0⟩
/-- PLT.LANE.VOTER_FAULT bits 39:39; PLT-11. -/
def PLT_LANE_VOTER_FAULT : Fld := ⟨41, 39, 39, 0⟩
/-- PLT.LANE.VOTING bits 38:36; PLT-11. -/
def PLT_LANE_VOTING : Fld := ⟨41, 38, 36, 0⟩
/-- PLT.LANE.CAUSE_C bits 31:28; PLT-11. -/
def PLT_LANE_CAUSE_C : Fld := ⟨41, 31, 28, 0⟩
/-- PLT.LANE.CAUSE_B bits 27:24; PLT-11. -/
def PLT_LANE_CAUSE_B : Fld := ⟨41, 27, 24, 0⟩
/-- PLT.LANE.CAUSE_A bits 23:20; PLT-11. -/
def PLT_LANE_CAUSE_A : Fld := ⟨41, 23, 20, 0⟩
/-- PLT.LANE.STATE_C bits 10:8; PLT-11. -/
def PLT_LANE_STATE_C : Fld := ⟨41, 10, 8, 0⟩
/-- PLT.LANE.STATE_B bits 6:4; PLT-11. -/
def PLT_LANE_STATE_B : Fld := ⟨41, 6, 4, 0⟩
/-- PLT.LANE.STATE_A bits 2:0; PLT-11. -/
def PLT_LANE_STATE_A : Fld := ⟨41, 2, 0, 0⟩
/-- Object number of PLT.CFG. -/
def objPLT_CFG : Nat := 42
/-- PLT.CFG.ADMIT_TRIES bits 31:28; PLT-12. -/
def PLT_CFG_ADMIT_TRIES : Fld := ⟨42, 31, 28, 3⟩
/-- PLT.CFG.RETIRE_MAX bits 27:24; PLT-12. -/
def PLT_CFG_RETIRE_MAX : Fld := ⟨42, 27, 24, 4⟩
/-- PLT.CFG.DIS_LIMIT bits 23:20; PLT-12. -/
def PLT_CFG_DIS_LIMIT : Fld := ⟨42, 23, 20, 3⟩
/-- PLT.CFG.AUTO_ADMIT bits 16:16; PLT-12. -/
def PLT_CFG_AUTO_ADMIT : Fld := ⟨42, 16, 16, 1⟩
/-- PLT.CFG.DIS_WINDOW bits 15:0; PLT-12. -/
def PLT_CFG_DIS_WINDOW : Fld := ⟨42, 15, 0, 1000⟩
/-- Object number of PLT.COUNT. -/
def objPLT_COUNT : Nat := 43
/-- PLT.COUNT.DIS_C bits 127:112; PLT-13. -/
def PLT_COUNT_DIS_C : Fld := ⟨43, 127, 112, 0⟩
/-- PLT.COUNT.DIS_B bits 111:96; PLT-13. -/
def PLT_COUNT_DIS_B : Fld := ⟨43, 111, 96, 0⟩
/-- PLT.COUNT.DIS_A bits 95:80; PLT-13. -/
def PLT_COUNT_DIS_A : Fld := ⟨43, 95, 80, 0⟩
/-- PLT.COUNT.UNRESOLVED bits 79:64; PLT-13. -/
def PLT_COUNT_UNRESOLVED : Fld := ⟨43, 79, 64, 0⟩
/-- PLT.COUNT.FIELD_SPLIT bits 63:48; PLT-13. -/
def PLT_COUNT_FIELD_SPLIT : Fld := ⟨43, 63, 48, 0⟩
/-- PLT.COUNT.VOTE_SPLIT bits 47:32; PLT-13. -/
def PLT_COUNT_VOTE_SPLIT : Fld := ⟨43, 47, 32, 0⟩
/-- PLT.COUNT.RETIREMENTS bits 31:16; PLT-13. -/
def PLT_COUNT_RETIREMENTS : Fld := ⟨43, 31, 16, 0⟩
/-- PLT.COUNT.ADMITS bits 15:0; PLT-13. -/
def PLT_COUNT_ADMITS : Fld := ⟨43, 15, 0, 0⟩
/-- Object number of PLT.PAIR. -/
def objPLT_PAIR : Nat := 44
/-- PLT.PAIR.DRILL_DWELL bits 63:48; PLT-14. -/
def PLT_PAIR_DRILL_DWELL : Fld := ⟨44, 63, 48, 10⟩
/-- PLT.PAIR.RETURN_HOLD bits 47:36; PLT-14. -/
def PLT_PAIR_RETURN_HOLD : Fld := ⟨44, 47, 36, 60⟩
/-- PLT.PAIR.DUAL_HANDOVER bits 7:7; PLT-14. -/
def PLT_PAIR_DUAL_HANDOVER : Fld := ⟨44, 7, 7, 1⟩
/-- PLT.PAIR.SILENCE_ACT bits 6:6; PLT-14. -/
def PLT_PAIR_SILENCE_ACT : Fld := ⟨44, 6, 6, 0⟩
/-- PLT.PAIR.AUTO_RETURN bits 5:5; PLT-14. -/
def PLT_PAIR_AUTO_RETURN : Fld := ⟨44, 5, 5, 1⟩
/-- PLT.PAIR.PREFERRED bits 4:4; PLT-14. -/
def PLT_PAIR_PREFERRED : Fld := ⟨44, 4, 4, 0⟩
/-- PLT.PAIR.SIDE bits 1:1; PLT-14. -/
def PLT_PAIR_SIDE : Fld := ⟨44, 1, 1, 0⟩
/-- PLT.PAIR.EN bits 0:0; PLT-14. -/
def PLT_PAIR_EN : Fld := ⟨44, 0, 0, 0⟩
/-- Object number of PLT.PAIR.STATE. -/
def objPLT_PSTATE : Nat := 45
/-- PLT.PAIR.STATE.LAST_SO bits 63:32; PLT-15. -/
def PLT_PSTATE_LAST_SO : Fld := ⟨45, 63, 32, 0⟩
/-- PLT.PAIR.STATE.SWITCHES bits 31:24; PLT-15. -/
def PLT_PSTATE_SWITCHES : Fld := ⟨45, 31, 24, 0⟩
/-- PLT.PAIR.STATE.CONFLICTS bits 23:20; PLT-15. -/
def PLT_PSTATE_CONFLICTS : Fld := ⟨45, 23, 20, 0⟩
/-- PLT.PAIR.STATE.MIR_MISS bits 19:16; PLT-15. -/
def PLT_PSTATE_MIR_MISS : Fld := ⟨45, 19, 16, 0⟩
/-- PLT.PAIR.STATE.SOLO bits 15:15; PLT-15. -/
def PLT_PSTATE_SOLO : Fld := ⟨45, 15, 15, 0⟩
/-- PLT.PAIR.STATE.LEASED bits 14:14; PLT-15. -/
def PLT_PSTATE_LEASED : Fld := ⟨45, 14, 14, 0⟩
/-- PLT.PAIR.STATE.DRILL bits 13:13; PLT-15. -/
def PLT_PSTATE_DRILL : Fld := ⟨45, 13, 13, 0⟩
/-- PLT.PAIR.STATE.ELIGIBLE bits 12:12; PLT-15. -/
def PLT_PSTATE_ELIGIBLE : Fld := ⟨45, 12, 12, 0⟩
/-- PLT.PAIR.STATE.PARTNER_ELIG bits 11:11; PLT-15. -/
def PLT_PSTATE_PARTNER_ELIG : Fld := ⟨45, 11, 11, 0⟩
/-- PLT.PAIR.STATE.PSTATE bits 10:8; PLT-15. -/
def PLT_PSTATE_PSTATE : Fld := ⟨45, 10, 8, 0⟩
/-- PLT.PAIR.STATE.PARTNER_ROLE bits 7:6; PLT-15. -/
def PLT_PSTATE_PARTNER_ROLE : Fld := ⟨45, 7, 6, 0⟩
/-- PLT.PAIR.STATE.PARTNER_MODE bits 5:4; PLT-15. -/
def PLT_PSTATE_PARTNER_MODE : Fld := ⟨45, 5, 4, 0⟩
/-- PLT.PAIR.STATE.ROLE bits 1:0; PLT-15. -/
def PLT_PSTATE_ROLE : Fld := ⟨45, 1, 0, 0⟩
/-- Object number of PLT.MIRROR. -/
def objPLT_MIRROR : Nat := 46
/-- PLT.MIRROR bits 63:48; PLT-16. -/
def PLT_MIRROR_COUNT : Fld := ⟨46, 63, 48, 0⟩
/-- PLT.MIRROR bits 47:32; PLT-16. -/
def PLT_MIRROR_START : Fld := ⟨46, 47, 32, 0⟩
/-- PLT.MIRROR bits 7:0; PLT-16. -/
def PLT_MIRROR_AREA : Fld := ⟨46, 7, 0, 0⟩
/-- Object number of ANG.AIn. -/
def objANG_AI : Nat := 47
/-- ANG.AIn.FAULT bits 18:18; ANG-3. -/
def ANG_AI_FAULT : Fld := ⟨47, 18, 18, 0⟩
/-- ANG.AIn.LEVEL_N bits 17:17; ANG-3. -/
def ANG_AI_LEVEL_N : Fld := ⟨47, 17, 17, 0⟩
/-- ANG.AIn.LEVEL_P bits 16:16; ANG-3. -/
def ANG_AI_LEVEL_P : Fld := ⟨47, 16, 16, 0⟩
/-- ANG.AIn.FILT bits 4:3; ANG-3. -/
def ANG_AI_FILT : Fld := ⟨47, 4, 3, 0⟩
/-- ANG.AIn.TERM bits 2:2; ANG-3. -/
def ANG_AI_TERM : Fld := ⟨47, 2, 2, 0⟩
/-- ANG.AIn.MODE bits 1:0; ANG-3. -/
def ANG_AI_MODE : Fld := ⟨47, 1, 0, 0⟩
/-- Object number of ANG.ADn. -/
def objANG_AD : Nat := 48
/-- ANG.ADn.SYNSPD bits 191:160; ANG-5. -/
def ANG_AD_SYNSPD : Fld := ⟨48, 191, 160, 0⟩
/-- ANG.ADn.SPD_MAX bits 159:128; ANG-5. -/
def ANG_AD_SPD_MAX : Fld := ⟨48, 159, 128, 0⟩
/-- ANG.ADn.SPD_MIN bits 127:96; ANG-5. -/
def ANG_AD_SPD_MIN : Fld := ⟨48, 127, 96, 0⟩
/-- ANG.ADn.DEV_MAX bits 71:64; ANG-5. -/
def ANG_AD_DEV_MAX : Fld := ⟨48, 71, 64, 0⟩
/-- ANG.ADn.REF_ANGLE bits 63:48; ANG-5. -/
def ANG_AD_REF_ANGLE : Fld := ⟨48, 63, 48, 0⟩
/-- ANG.ADn.COUNT bits 47:32; ANG-5. -/
def ANG_AD_COUNT : Fld := ⟨48, 47, 32, 0⟩
/-- ANG.ADn.GAP bits 23:22; ANG-5. -/
def ANG_AD_GAP : Fld := ⟨48, 23, 22, 0⟩
/-- ANG.ADn.ZEN bits 20:20; ANG-5. -/
def ANG_AD_ZEN : Fld := ⟨48, 20, 20, 0⟩
/-- ANG.ADn.SIG_Z bits 19:16; ANG-5. -/
def ANG_AD_SIG_Z : Fld := ⟨48, 19, 16, 0⟩
/-- ANG.ADn.SIG_B bits 15:12; ANG-5. -/
def ANG_AD_SIG_B : Fld := ⟨48, 15, 12, 0⟩
/-- ANG.ADn.SIG_A bits 11:8; ANG-5. -/
def ANG_AD_SIG_A : Fld := ⟨48, 11, 8, 0⟩
/-- ANG.ADn.BOOST_SHORT_ACT bits 7:7; ANG-5. -/
def ANG_AD_BOOST_SHORT_ACT : Fld := ⟨48, 7, 7, 0⟩
/-- ANG.ADn.AUTO_RESYNC bits 6:6; ANG-5. -/
def ANG_AD_AUTO_RESYNC : Fld := ⟨48, 6, 6, 0⟩
/-- ANG.ADn.EDGE bits 5:5; ANG-5. -/
def ANG_AD_EDGE : Fld := ⟨48, 5, 5, 0⟩
/-- ANG.ADn.DIR bits 4:4; ANG-5. -/
def ANG_AD_DIR : Fld := ⟨48, 4, 4, 0⟩
/-- ANG.ADn.PRED bits 3:3; ANG-5. -/
def ANG_AD_PRED : Fld := ⟨48, 3, 3, 0⟩
/-- ANG.ADn.SRC bits 2:0; ANG-5. -/
def ANG_AD_SRC : Fld := ⟨48, 2, 0, 0⟩
/-- Object number of ANG.ADn.PERIOD. -/
def objANG_PERIOD : Nat := 49
/-- ANG.ADn.PERIOD bits 31:0; R309. -/
def ANG_PERIOD_PERIOD : Fld := ⟨49, 31, 0, 0⟩
/-- Object number of ANG.ADn.CAPPOS. -/
def objANG_CAPPOS : Nat := 50
/-- ANG.ADn.CAPPOS bits 31:0; R322. -/
def ANG_CAPPOS_CAPPOS : Fld := ⟨50, 31, 0, 0⟩
/-- Object number of ANG.ADn.STATUS. -/
def objANG_STATUS : Nat := 51
/-- ANG.ADn.STATUS.DEV_CNT bits 63:48; ANG-18. -/
def ANG_STATUS_DEV_CNT : Fld := ⟨51, 63, 48, 0⟩
/-- ANG.ADn.STATUS.LATE_CNT bits 47:32; ANG-18. -/
def ANG_STATUS_LATE_CNT : Fld := ⟨51, 47, 32, 0⟩
/-- ANG.ADn.STATUS.BSHORT bits 31:24; ANG-18. -/
def ANG_STATUS_BSHORT : Fld := ⟨51, 31, 24, 0⟩
/-- ANG.ADn.STATUS.REFUSED bits 23:16; ANG-18. -/
def ANG_STATUS_REFUSED : Fld := ⟨51, 23, 16, 0⟩
/-- ANG.ADn.STATUS.RESYNC bits 12:12; ANG-18. -/
def ANG_STATUS_RESYNC : Fld := ⟨51, 12, 12, 0⟩
/-- ANG.ADn.STATUS.CAUSE bits 11:8; ANG-18. -/
def ANG_STATUS_CAUSE : Fld := ⟨51, 11, 8, 0⟩
/-- ANG.ADn.STATUS.RELATIVE bits 3:3; ANG-18. -/
def ANG_STATUS_RELATIVE : Fld := ⟨51, 3, 3, 0⟩
/-- ANG.ADn.STATUS.STATE bits 2:0; ANG-18. -/
def ANG_STATUS_STATE : Fld := ⟨51, 2, 0, 0⟩
/-- Object number of ANG.EVn. -/
def objANG_EV : Nat := 52
/-- ANG.EVn.LAST_FIRE bits 127:96; ANG-10. -/
def ANG_EV_LAST_FIRE : Fld := ⟨52, 127, 96, 0⟩
/-- ANG.EVn.ANGLE bits 95:64; ANG-10. -/
def ANG_EV_ANGLE : Fld := ⟨52, 95, 64, 0⟩
/-- ANG.EVn.WIDTH bits 47:32; ANG-10. -/
def ANG_EV_WIDTH : Fld := ⟨52, 47, 32, 0⟩
/-- ANG.EVn.FIRED bits 31:31; ANG-10. -/
def ANG_EV_FIRED : Fld := ⟨52, 31, 31, 0⟩
/-- ANG.EVn.LATE bits 30:30; ANG-10. -/
def ANG_EV_LATE : Fld := ⟨52, 30, 30, 0⟩
/-- ANG.EVn.STATE bits 29:28; ANG-10. -/
def ANG_EV_STATE : Fld := ⟨52, 29, 28, 0⟩
/-- ANG.EVn.ARM bits 27:27; ANG-10. -/
def ANG_EV_ARM : Fld := ⟨52, 27, 27, 0⟩
/-- ANG.EVn.TARGET bits 23:16; ANG-10. -/
def ANG_EV_TARGET : Fld := ⟨52, 23, 16, 0⟩
/-- ANG.EVn.CAP bits 9:9; ANG-10. -/
def ANG_EV_CAP : Fld := ⟨52, 9, 9, 0⟩
/-- ANG.EVn.BOOST bits 8:8; ANG-10. -/
def ANG_EV_BOOST : Fld := ⟨52, 8, 8, 0⟩
/-- ANG.EVn.CATCHUP bits 7:7; ANG-10. -/
def ANG_EV_CATCHUP : Fld := ⟨52, 7, 7, 0⟩
/-- ANG.EVn.OWNER bits 6:6; ANG-10. -/
def ANG_EV_OWNER : Fld := ⟨52, 6, 6, 0⟩
/-- ANG.EVn.MODE bits 5:5; ANG-10. -/
def ANG_EV_MODE : Fld := ⟨52, 5, 5, 0⟩
/-- ANG.EVn.DOMAIN bits 4:3; ANG-10. -/
def ANG_EV_DOMAIN : Fld := ⟨52, 4, 3, 0⟩
/-- ANG.EVn.ACTION bits 2:0; ANG-10. -/
def ANG_EV_ACTION : Fld := ⟨52, 2, 0, 0⟩
/-- Object number of ANG.FC. -/
def objANG_FC : Nat := 53
/-- ANG.FC bits 3:3; ANG-12. -/
def ANG_FC_LOSS_ON : Fld := ⟨53, 3, 3, 0⟩
/-- ANG.FC bits 2:1; ANG-12. -/
def ANG_FC_DOMAIN : Fld := ⟨53, 2, 1, 0⟩
/-- ANG.FC bits 0:0; ANG-12. -/
def ANG_FC_BOUND : Fld := ⟨53, 0, 0, 0⟩
/-- Object number of ANG.BOOST_PLAN. -/
def objANG_BOOST_PLAN : Nat := 54
/-- ANG.BOOST_PLAN bits 7:0; R317. -/
def ANG_BOOST_PLAN_GROUPS : Fld := ⟨54, 7, 0, 0⟩
/-- Object number of DGn.CHn. -/
def objDG_CH : Nat := 55
/-- DGn.CHn.PWM_PER bits 63:48; DIG-3. -/
def DG_CH_PWM_PER : Fld := ⟨55, 63, 48, 0⟩
/-- DGn.CHn.FAULT_SAFE bits 43:42; DIG-3. -/
def DG_CH_FAULT_SAFE : Fld := ⟨55, 43, 42, 0⟩
/-- DGn.CHn.STOP_SAFE bits 41:40; DIG-3. -/
def DG_CH_STOP_SAFE : Fld := ⟨55, 41, 40, 0⟩
/-- DGn.CHn.OVL_ACT bits 34:34; DIG-3. -/
def DG_CH_OVL_ACT : Fld := ⟨55, 34, 34, 0⟩
/-- DGn.CHn.ILIM bits 33:32; DIG-3. -/
def DG_CH_ILIM : Fld := ⟨55, 33, 32, 0⟩
/-- DGn.CHn.OVL_TIME bits 31:24; DIG-3. -/
def DG_CH_OVL_TIME : Fld := ⟨55, 31, 24, 20⟩
/-- DGn.CHn.WB_EN bits 22:22; DIG-3. -/
def DG_CH_WB_EN : Fld := ⟨55, 22, 22, 0⟩
/-- DGn.CHn.OL_OFF_EN bits 21:21; DIG-3. -/
def DG_CH_OL_OFF_EN : Fld := ⟨55, 21, 21, 0⟩
/-- DGn.CHn.OL_ON_EN bits 20:20; DIG-3. -/
def DG_CH_OL_ON_EN : Fld := ⟨55, 20, 20, 0⟩
/-- DGn.CHn.SF_EN bits 19:19; DIG-3. -/
def DG_CH_SF_EN : Fld := ⟨55, 19, 19, 0⟩
/-- DGn.CHn.COS bits 18:17; DIG-3. -/
def DG_CH_COS : Fld := ⟨55, 18, 17, 0⟩
/-- DGn.CHn.CNT_RSTQ bits 16:16; DIG-3. -/
def DG_CH_CNT_RSTQ : Fld := ⟨55, 16, 16, 0⟩
/-- DGn.CHn.FILT bits 15:13; DIG-3. -/
def DG_CH_FILT : Fld := ⟨55, 15, 13, 0⟩
/-- DGn.CHn.CNT_MODE bits 12:11; DIG-3. -/
def DG_CH_CNT_MODE : Fld := ⟨55, 12, 11, 0⟩
/-- DGn.CHn.INV bits 9:9; DIG-3. -/
def DG_CH_INV : Fld := ⟨55, 9, 9, 0⟩
/-- DGn.CHn.INTYPE bits 8:8; DIG-3. -/
def DG_CH_INTYPE : Fld := ⟨55, 8, 8, 0⟩
/-- DGn.CHn.MODE bits 2:0; DIG-3. -/
def DG_CH_MODE : Fld := ⟨55, 2, 0, 0⟩
/-- Object number of DGn.CHn.BOOST. -/
def objDG_BOOST : Nat := 56
/-- DGn.CHn.BOOST.ON_Q bits 31:31; DIG-6. -/
def DG_BOOST_ON_Q : Fld := ⟨56, 31, 31, 0⟩
/-- DGn.CHn.BOOST.EN bits 30:30; DIG-6. -/
def DG_BOOST_EN : Fld := ⟨56, 30, 30, 0⟩
/-- DGn.CHn.BOOST.TIME bits 23:16; DIG-6. -/
def DG_BOOST_TIME : Fld := ⟨56, 23, 16, 0⟩
/-- DGn.CHn.BOOST.HOLD bits 15:8; DIG-6. -/
def DG_BOOST_HOLD : Fld := ⟨56, 15, 8, 0⟩
/-- DGn.CHn.BOOST.CURRENT bits 4:0; DIG-6. -/
def DG_BOOST_CURRENT : Fld := ⟨56, 4, 0, 0⟩
/-- Object number of DGn.CHn.CNT. -/
def objDG_CNT : Nat := 57
/-- DGn.CHn.CNT bits 31:0; R331. -/
def DG_CNT_CNT : Fld := ⟨57, 31, 0, 0⟩
/-- Object number of DGn.CHn.STAT. -/
def objDG_CHSTAT : Nat := 58
/-- DGn.CHn.STAT.BSHORT bits 24:24; DIG-14. -/
def DG_CHSTAT_BSHORT : Fld := ⟨58, 24, 24, 0⟩
/-- DGn.CHn.STAT.LATCH bits 23:16; DIG-14. -/
def DG_CHSTAT_LATCH : Fld := ⟨58, 23, 16, 0⟩
/-- DGn.CHn.STAT.LOCKED bits 12:12; DIG-14. -/
def DG_CHSTAT_LOCKED : Fld := ⟨58, 12, 12, 0⟩
/-- DGn.CHn.STAT.RB_ONLY bits 11:11; DIG-14. -/
def DG_CHSTAT_RB_ONLY : Fld := ⟨58, 11, 11, 0⟩
/-- DGn.CHn.STAT.PENDING bits 10:10; DIG-14. -/
def DG_CHSTAT_PENDING : Fld := ⟨58, 10, 10, 0⟩
/-- DGn.CHn.STAT.CLAMP bits 9:9; DIG-14. -/
def DG_CHSTAT_CLAMP : Fld := ⟨58, 9, 9, 0⟩
/-- DGn.CHn.STAT.INIT bits 8:8; DIG-14. -/
def DG_CHSTAT_INIT : Fld := ⟨58, 8, 8, 1⟩
/-- DGn.CHn.STAT.PRESENT bits 7:0; DIG-14. -/
def DG_CHSTAT_PRESENT : Fld := ⟨58, 7, 0, 0⟩
/-- Object number of DGn.GROUP. -/
def objDG_GROUP : Nat := 59
/-- DGn.GROUP.BC_DECL bits 25:16; DIG-11. -/
def DG_GROUP_BC_DECL : Fld := ⟨59, 25, 16, 0⟩
/-- DGn.GROUP.COS_CLR bits 9:9; DIG-11. -/
def DG_GROUP_COS_CLR : Fld := ⟨59, 9, 9, 0⟩
/-- DGn.GROUP.COMPAT bits 8:8; DIG-11. -/
def DG_GROUP_COMPAT : Fld := ⟨59, 8, 8, 0⟩
/-- DGn.GROUP.REIN_TO bits 4:0; DIG-11. -/
def DG_GROUP_REIN_TO : Fld := ⟨59, 4, 0, 10⟩
/-- Object number of DGn.GROUP.STAT. -/
def objDG_GSTAT : Nat := 60
/-- DGn.GROUP.STAT.BC_CMEAS bits 63:52; DIG-13. -/
def DG_GSTAT_BC_CMEAS : Fld := ⟨60, 63, 52, 0⟩
/-- DGn.GROUP.STAT.BSTEP bits 51:50; DIG-13. -/
def DG_GSTAT_BSTEP : Fld := ⟨60, 51, 50, 0⟩
/-- DGn.GROUP.STAT.BC_V bits 49:40; DIG-13. -/
def DG_GSTAT_BC_V : Fld := ⟨60, 49, 40, 0⟩
/-- DGn.GROUP.STAT.RATE bits 39:32; DIG-13. -/
def DG_GSTAT_RATE : Fld := ⟨60, 39, 32, 0⟩
/-- DGn.GROUP.STAT.WORD bits 31:0; DIG-13. -/
def DG_GSTAT_WORD : Fld := ⟨60, 31, 0, 0⟩
/-- Object number of DGn.COS. -/
def objDG_COS : Nat := 61
/-- DGn.COS bits 15:0; R332. -/
def DG_COS_COS : Fld := ⟨61, 15, 0, 0⟩
/-- Object number of AGn.CHn. -/
def objAG_CH : Nat := 62
/-- AGn.CHn.SAFE_VAL bits 95:64; ANA-11. -/
def AG_CH_SAFE_VAL : Fld := ⟨62, 95, 64, 0⟩
/-- AGn.CHn.LEAD bits 63:48; ANA-11. -/
def AG_CH_LEAD : Fld := ⟨62, 63, 48, 0⟩
/-- AGn.CHn.FAULT_SAFE bits 27:26; ANA-11. -/
def AG_CH_FAULT_SAFE : Fld := ⟨62, 27, 26, 0⟩
/-- AGn.CHn.STOP_SAFE bits 25:24; ANA-11. -/
def AG_CH_STOP_SAFE : Fld := ⟨62, 25, 24, 0⟩
/-- AGn.CHn.WIRES bits 21:20; ANA-11. -/
def AG_CH_WIRES : Fld := ⟨62, 21, 20, 0⟩
/-- AGn.CHn.OW_EN bits 19:19; ANA-11. -/
def AG_CH_OW_EN : Fld := ⟨62, 19, 19, 0⟩
/-- AGn.CHn.NE43_EN bits 18:18; ANA-11. -/
def AG_CH_NE43_EN : Fld := ⟨62, 18, 18, 0⟩
/-- AGn.CHn.RANGE bits 11:8; ANA-11. -/
def AG_CH_RANGE : Fld := ⟨62, 11, 8, 0⟩
/-- AGn.CHn.MODE bits 3:0; ANA-11. -/
def AG_CH_MODE : Fld := ⟨62, 3, 0, 0⟩
/-- Object number of AGn.CHn.STAT. -/
def objAG_CHSTAT : Nat := 63
/-- AGn.CHn.STAT.LATCH bits 23:16; ANA-14. -/
def AG_CHSTAT_LATCH : Fld := ⟨63, 23, 16, 0⟩
/-- AGn.CHn.STAT.PRESENT bits 7:0; ANA-14. -/
def AG_CHSTAT_PRESENT : Fld := ⟨63, 7, 0, 0⟩
/-- Object number of AGn.GROUP. -/
def objAG_GROUP : Nat := 64
/-- AGn.GROUP.ALM_LVL bits 10:9; ANA-12. -/
def AG_GROUP_ALM_LVL : Fld := ⟨64, 10, 9, 0⟩
/-- AGn.GROUP.COMPAT bits 8:8; ANA-12. -/
def AG_GROUP_COMPAT : Fld := ⟨64, 8, 8, 0⟩
/-- AGn.GROUP.REIN_TO bits 4:0; ANA-12. -/
def AG_GROUP_REIN_TO : Fld := ⟨64, 4, 0, 10⟩
/-- Object number of AGn.GROUP.STAT. -/
def objAG_GSTAT : Nat := 65
/-- AGn.GROUP.STAT.TEMP_Q3 bits 63:56; ANA-13. -/
def AG_GSTAT_TEMP_Q3 : Fld := ⟨65, 63, 56, 0⟩
/-- AGn.GROUP.STAT.TEMP_Q2 bits 55:48; ANA-13. -/
def AG_GSTAT_TEMP_Q2 : Fld := ⟨65, 55, 48, 0⟩
/-- AGn.GROUP.STAT.TEMP_Q1 bits 47:40; ANA-13. -/
def AG_GSTAT_TEMP_Q1 : Fld := ⟨65, 47, 40, 0⟩
/-- AGn.GROUP.STAT.TEMP_Q0 bits 39:32; ANA-13. -/
def AG_GSTAT_TEMP_Q0 : Fld := ⟨65, 39, 32, 0⟩
/-- AGn.GROUP.STAT.FRAME_STALE bits 31:31; ANA-13. -/
def AG_GSTAT_FRAME_STALE : Fld := ⟨65, 31, 31, 0⟩
/-- AGn.GROUP.STAT.NO_INPUT bits 30:30; ANA-13. -/
def AG_GSTAT_NO_INPUT : Fld := ⟨65, 30, 30, 0⟩
/-- AGn.GROUP.STAT.NO_SUPPLY bits 29:29; ANA-13. -/
def AG_GSTAT_NO_SUPPLY : Fld := ⟨65, 29, 29, 0⟩
/-- AGn.GROUP.STAT.REIN_STOPPED bits 28:28; ANA-13. -/
def AG_GSTAT_REIN_STOPPED : Fld := ⟨65, 28, 28, 0⟩
/-- AGn.GROUP.STAT.COMPAT bits 27:27; ANA-13. -/
def AG_GSTAT_COMPAT : Fld := ⟨65, 27, 27, 0⟩
/-- AGn.GROUP.STAT.AV_LOW bits 26:26; ANA-13. -/
def AG_GSTAT_AV_LOW : Fld := ⟨65, 26, 26, 0⟩
/-- AGn.GROUP.STAT.AV_HIGH bits 25:25; ANA-13. -/
def AG_GSTAT_AV_HIGH : Fld := ⟨65, 25, 25, 0⟩
/-- AGn.GROUP.STAT.STRAP bits 24:23; ANA-13. -/
def AG_GSTAT_STRAP : Fld := ⟨65, 24, 23, 0⟩
/-- AGn.GROUP.STAT.QUAD_ON bits 22:19; ANA-13. -/
def AG_GSTAT_QUAD_ON : Fld := ⟨65, 22, 19, 0⟩
/-- AGn.GROUP.STAT.QUAD_FB bits 18:15; ANA-13. -/
def AG_GSTAT_QUAD_FB : Fld := ⟨65, 18, 15, 0⟩
/-- AGn.GROUP.STAT.RELEASED bits 14:14; ANA-13. -/
def AG_GSTAT_RELEASED : Fld := ⟨65, 14, 14, 0⟩
/-- AGn.GROUP.STAT.SAFE bits 13:12; ANA-13. -/
def AG_GSTAT_SAFE : Fld := ⟨65, 13, 12, 0⟩
/-- AGn.GROUP.STAT.AVPLUS bits 11:0; ANA-13. -/
def AG_GSTAT_AVPLUS : Fld := ⟨65, 11, 0, 0⟩
/-- Object number of AGn.POS. -/
def objAG_POS : Nat := 66
/-- AGn.POS bits 31:16; CNV-2. -/
def AG_POS_STEP : Fld := ⟨66, 31, 16, 0⟩
/-- AGn.POS bits 15:8; CNV-2. -/
def AG_POS_PHASE : Fld := ⟨66, 15, 8, 0⟩
/-- AGn.POS bits 7:6; CNV-2. -/
def AG_POS_START : Fld := ⟨66, 7, 6, 0⟩
/-- AGn.POS bits 3:0; CNV-2. -/
def AG_POS_SEL : Fld := ⟨66, 3, 0, 0⟩
/-- Object number of AGn.CSn. -/
def objAG_CS : Nat := 67
/-- AGn.CSn.OFFS bits 63:48; CNV-13. -/
def AG_CS_OFFS : Fld := ⟨67, 63, 48, 0⟩
/-- AGn.CSn.GAIN bits 47:32; CNV-13. -/
def AG_CS_GAIN : Fld := ⟨67, 47, 32, 0⟩
/-- AGn.CSn.CAL_AGE bits 31:16; CNV-13. -/
def AG_CS_CAL_AGE : Fld := ⟨67, 31, 16, 0⟩
/-- AGn.CSn.CAUSE bits 11:8; CNV-13. -/
def AG_CS_CAUSE : Fld := ⟨67, 11, 8, 0⟩
/-- AGn.CSn.RETEST bits 7:7; CNV-13. -/
def AG_CS_RETEST : Fld := ⟨67, 7, 7, 0⟩
/-- AGn.CSn.POS bits 5:4; CNV-13. -/
def AG_CS_POS : Fld := ⟨67, 5, 4, 0⟩
/-- AGn.CSn.STATE bits 2:0; CNV-13. -/
def AG_CS_STATE : Fld := ⟨67, 2, 0, 0⟩
/-- Object number of AGn.CONV.STAT. -/
def objAG_CONV : Nat := 68
/-- AGn.CONV.STAT.MISCOMPARE bits 63:48; CNV-14. -/
def AG_CONV_MISCOMPARE : Fld := ⟨68, 63, 48, 0⟩
/-- AGn.CONV.STAT.TRIG_DROP bits 47:32; CNV-14. -/
def AG_CONV_TRIG_DROP : Fld := ⟨68, 47, 32, 0⟩
/-- AGn.CONV.STAT.SLOT_ABORT bits 31:16; CNV-14. -/
def AG_CONV_SLOT_ABORT : Fld := ⟨68, 31, 16, 0⟩
/-- AGn.CONV.STAT.CAL_STEP bits 13:12; CNV-14. -/
def AG_CONV_CAL_STEP : Fld := ⟨68, 13, 12, 0⟩
/-- AGn.CONV.STAT.STEP_SPLIT bits 11:11; CNV-14. -/
def AG_CONV_STEP_SPLIT : Fld := ⟨68, 11, 11, 0⟩
/-- AGn.CONV.STAT.DITHER_FIXED bits 10:10; CNV-14. -/
def AG_CONV_DITHER_FIXED : Fld := ⟨68, 10, 10, 0⟩
/-- AGn.CONV.STAT.CAL_STOPPED bits 9:9; CNV-14. -/
def AG_CONV_CAL_STOPPED : Fld := ⟨68, 9, 9, 0⟩
/-- AGn.CONV.STAT.ROUNDS bits 7:0; CNV-14. -/
def AG_CONV_ROUNDS : Fld := ⟨68, 7, 0, 0⟩
/-- Object number of PPR.AGn.CHn. -/
def objPPR_CH : Nat := 69
/-- PPR.AGn.CHn.SC_OFF bits 127:96; CNV-8. -/
def PPR_CH_SC_OFF : Fld := ⟨69, 127, 96, 0⟩
/-- PPR.AGn.CHn.SC_GAIN bits 95:64; CNV-8. -/
def PPR_CH_SC_GAIN : Fld := ⟨69, 95, 64, 0⟩
/-- PPR.AGn.CHn.DIAG_N bits 63:48; CNV-8. -/
def PPR_CH_DIAG_N : Fld := ⟨69, 63, 48, 0⟩
/-- PPR.AGn.CHn.LIN_N bits 44:41; CNV-8. -/
def PPR_CH_LIN_N : Fld := ⟨69, 44, 41, 0⟩
/-- PPR.AGn.CHn.OUT_SEL bits 40:40; CNV-8. -/
def PPR_CH_OUT_SEL : Fld := ⟨69, 40, 40, 0⟩
/-- PPR.AGn.CHn.FMT bits 39:38; CNV-8. -/
def PPR_CH_FMT : Fld := ⟨69, 39, 38, 0⟩
/-- PPR.AGn.CHn.LIN_EN bits 37:37; CNV-8. -/
def PPR_CH_LIN_EN : Fld := ⟨69, 37, 37, 0⟩
/-- PPR.AGn.CHn.MPER bits 36:34; CNV-8. -/
def PPR_CH_MPER : Fld := ⟨69, 36, 34, 0⟩
/-- PPR.AGn.CHn.MDOM bits 33:32; CNV-8. -/
def PPR_CH_MDOM : Fld := ⟨69, 33, 32, 0⟩
/-- PPR.AGn.CHn.FLEN bits 31:16; CNV-8. -/
def PPR_CH_FLEN : Fld := ⟨69, 31, 16, 0⟩
/-- PPR.AGn.CHn.FTYPE bits 1:0; CNV-8. -/
def PPR_CH_FTYPE : Fld := ⟨69, 1, 0, 0⟩
/-- Object number of PPR.AGn.CHn.LIN. -/
def objPPR_LIN : Nat := 70
/-- PPR.AGn.CHn.LIN bits 63:32; CNV-9. -/
def PPR_LIN_Y : Fld := ⟨70, 63, 32, 0⟩
/-- PPR.AGn.CHn.LIN bits 31:0; CNV-9. -/
def PPR_LIN_X : Fld := ⟨70, 31, 0, 0⟩
/-- Object number of PPR.AGn.CHn.STAT. -/
def objPPR_STAT : Nat := 71
/-- PPR.AGn.CHn.STAT.FRESH bits 31:16; CNV-10. -/
def PPR_STAT_FRESH : Fld := ⟨71, 31, 16, 0⟩
/-- PPR.AGn.CHn.STAT.MAINS_FREE bits 1:1; CNV-10. -/
def PPR_STAT_MAINS_FREE : Fld := ⟨71, 1, 1, 0⟩
/-- PPR.AGn.CHn.STAT.VERIFIED_OK bits 0:0; CNV-10. -/
def PPR_STAT_VERIFIED_OK : Fld := ⟨71, 0, 0, 0⟩
/-- Object number of PPR.WINn. -/
def objPPR_WIN : Nat := 72
/-- PPR.WINn.HIGH bits 127:96; CNV-11. -/
def PPR_WIN_HIGH : Fld := ⟨72, 127, 96, 0⟩
/-- PPR.WINn.LOW bits 95:64; CNV-11. -/
def PPR_WIN_LOW : Fld := ⟨72, 95, 64, 0⟩
/-- PPR.WINn.HYST bits 63:32; CNV-11. -/
def PPR_WIN_HYST : Fld := ⟨72, 63, 32, 0⟩
/-- PPR.WINn.DWELL bits 31:24; CNV-11. -/
def PPR_WIN_DWELL : Fld := ⟨72, 31, 24, 0⟩
/-- PPR.WINn.SRC bits 13:8; CNV-11. -/
def PPR_WIN_SRC : Fld := ⟨72, 13, 8, 0⟩
/-- PPR.WINn.IRQ bits 3:2; CNV-11. -/
def PPR_WIN_IRQ : Fld := ⟨72, 3, 2, 0⟩
/-- PPR.WINn.EN bits 0:0; CNV-11. -/
def PPR_WIN_EN : Fld := ⟨72, 0, 0, 0⟩
/-- Object number of PPR.WINn.STAT. -/
def objPPR_WINSTAT : Nat := 73
/-- PPR.WINn.STAT.EVINIT bits 4:4; CNV-12. -/
def PPR_WINSTAT_EVINIT : Fld := ⟨73, 4, 4, 0⟩
/-- PPR.WINn.STAT.EVENT bits 3:3; CNV-12. -/
def PPR_WINSTAT_EVENT : Fld := ⟨73, 3, 3, 0⟩
/-- PPR.WINn.STAT.INIT bits 2:2; CNV-12. -/
def PPR_WINSTAT_INIT : Fld := ⟨73, 2, 2, 1⟩
/-- PPR.WINn.STAT.STATE bits 1:0; CNV-12. -/
def PPR_WINSTAT_STATE : Fld := ⟨73, 1, 0, 0⟩
/-- Object number of STO.STATUS. -/
def objSTO_STATUS : Nat := 74
/-- STO.STATUS.STATE bits 31:30; STO-11. -/
def STO_STATUS_STATE : Fld := ⟨74, 31, 30, 0⟩
/-- STO.STATUS.SETCOMMIT_BAD bits 29:29; STO-11. -/
def STO_STATUS_SETCOMMIT_BAD : Fld := ⟨74, 29, 29, 0⟩
/-- STO.STATUS.HOLD_OK bits 28:28; STO-11. -/
def STO_STATUS_HOLD_OK : Fld := ⟨74, 28, 28, 0⟩
/-- STO.STATUS.BSTEP bits 27:26; STO-11. -/
def STO_STATUS_BSTEP : Fld := ⟨74, 27, 26, 0⟩
/-- STO.STATUS.BURNISH_ACTIVE bits 25:25; STO-11. -/
def STO_STATUS_BURNISH_ACTIVE : Fld := ⟨74, 25, 25, 0⟩
/-- STO.STATUS.RING_EMPTY bits 24:24; STO-11. -/
def STO_STATUS_RING_EMPTY : Fld := ⟨74, 24, 24, 0⟩
/-- STO.STATUS.INCONS bits 15:0; STO-11. -/
def STO_STATUS_INCONS : Fld := ⟨74, 15, 0, 0⟩
/-- Object number of STO.COUNT. -/
def objSTO_COUNT : Nat := 75
/-- STO.COUNT.CORR bits 63:48; STO-12. -/
def STO_COUNT_CORR : Fld := ⟨75, 63, 48, 0⟩
/-- STO.COUNT.UNCORR bits 47:32; STO-12. -/
def STO_COUNT_UNCORR : Fld := ⟨75, 47, 32, 0⟩
/-- STO.COUNT.SKIPPED bits 31:16; STO-12. -/
def STO_COUNT_SKIPPED : Fld := ⟨75, 31, 16, 0⟩
/-- STO.COUNT.ABANDONED bits 15:0; STO-12. -/
def STO_COUNT_ABANDONED : Fld := ⟨75, 15, 0, 0⟩
/-- Object number of STO.CRING. -/
def objSTO_CRING : Nat := 76
/-- STO.CRING bits 16:16; STO-13. -/
def STO_CRING_EN : Fld := ⟨76, 16, 16, 0⟩
/-- STO.CRING bits 15:0; STO-13. -/
def STO_CRING_DWORD : Fld := ⟨76, 15, 0, 0⟩
/-- Object number of STO.INCONS. -/
def objSTO_INCONS : Nat := 77
/-- Object number of REC.STAT. -/
def objREC_STAT : Nat := 78
/-- REC.STAT.NEXT bits 127:96; STO-14. -/
def REC_STAT_NEXT : Fld := ⟨78, 127, 96, 0⟩
/-- REC.STAT.OLDEST bits 95:64; STO-14. -/
def REC_STAT_OLDEST : Fld := ⟨78, 95, 64, 0⟩
/-- REC.STAT.BUFFIRST bits 63:32; STO-14. -/
def REC_STAT_BUFFIRST : Fld := ⟨78, 63, 32, 0⟩
/-- REC.STAT.DROPPED bits 31:24; STO-14. -/
def REC_STAT_DROPPED : Fld := ⟨78, 31, 24, 0⟩
/-- REC.STAT.WSTEP bits 23:22; STO-14. -/
def REC_STAT_WSTEP : Fld := ⟨78, 23, 22, 0⟩
/-- REC.STAT.BUFCNT bits 21:13; STO-14. -/
def REC_STAT_BUFCNT : Fld := ⟨78, 21, 13, 0⟩
/-- REC.STAT.WMARK bits 12:5; STO-14. -/
def REC_STAT_WMARK : Fld := ⟨78, 12, 5, 192⟩
/-- Object number of PWR.STATUS. -/
def objPWR_STATUS : Nat := 79
/-- PWR.STATUS.HOLD_MIN bits 63:51; PWR-8. -/
def PWR_STATUS_HOLD_MIN : Fld := ⟨79, 63, 51, 0⟩
/-- PWR.STATUS.HOLD_V bits 50:38; PWR-8. -/
def PWR_STATUS_HOLD_V : Fld := ⟨79, 50, 38, 0⟩
/-- PWR.STATUS.VSYS_V bits 37:26; PWR-8. -/
def PWR_STATUS_VSYS_V : Fld := ⟨79, 37, 26, 0⟩
/-- PWR.STATUS.RIDES bits 25:10; PWR-8. -/
def PWR_STATUS_RIDES : Fld := ⟨79, 25, 10, 0⟩
/-- PWR.STATUS.CAP_FAULT bits 6:6; PWR-8. -/
def PWR_STATUS_CAP_FAULT : Fld := ⟨79, 6, 6, 0⟩
/-- PWR.STATUS.CAP_WEAK bits 5:5; PWR-8. -/
def PWR_STATUS_CAP_WEAK : Fld := ⟨79, 5, 5, 0⟩
/-- PWR.STATUS.TEST_ACTIVE bits 4:4; PWR-8. -/
def PWR_STATUS_TEST_ACTIVE : Fld := ⟨79, 4, 4, 0⟩
/-- PWR.STATUS.CHARGED bits 3:3; PWR-8. -/
def PWR_STATUS_CHARGED : Fld := ⟨79, 3, 3, 0⟩
/-- PWR.STATUS.PSTATE bits 2:0; PWR-8. -/
def PWR_STATUS_PSTATE : Fld := ⟨79, 2, 0, 1⟩
/-- Object number of PWR.HOLDUP. -/
def objPWR_HOLDUP : Nat := 80
/-- PWR.HOLDUP.CMEAS bits 31:16; PWR-9. -/
def PWR_HOLDUP_CMEAS : Fld := ⟨80, 31, 16, 0⟩
/-- PWR.HOLDUP.ESR bits 15:4; PWR-9. -/
def PWR_HOLDUP_ESR : Fld := ⟨80, 15, 4, 0⟩
/-- Object number of PWR.CFG. -/
def objPWR_CFG : Nat := 81
/-- PWR.CFG.CAP_DECL bits 31:21; PWR-10. -/
def PWR_CFG_CAP_DECL : Fld := ⟨81, 31, 21, 470⟩
/-- PWR.CFG.RIDE_MAX bits 20:16; PWR-10. -/
def PWR_CFG_RIDE_MAX : Fld := ⟨81, 20, 16, 10⟩
/-- PWR.CFG.FC_HORIZON bits 15:4; PWR-10. -/
def PWR_CFG_FC_HORIZON : Fld := ⟨81, 15, 4, 365⟩
/-- PWR.CFG.HOLD_TEST bits 0:0; PWR-10. -/
def PWR_CFG_HOLD_TEST : Fld := ⟨81, 0, 0, 0⟩
/-- Object number of PWR.PLAN. -/
def objPWR_PLAN : Nat := 82
/-- PWR.PLAN.BUDGET_TASK bits 63:58; PWR-11. -/
def PWR_PLAN_BUDGET_TASK : Fld := ⟨82, 63, 58, 0⟩
/-- PWR.PLAN.BOOST_STEP bits 47:32; PWR-11. -/
def PWR_PLAN_BOOST_STEP : Fld := ⟨82, 47, 32, 0⟩
/-- PWR.PLAN.CAL_STEP bits 31:24; PWR-11. -/
def PWR_PLAN_CAL_STEP : Fld := ⟨82, 31, 24, 0⟩
/-- PWR.PLAN.WMARK_STEP bits 23:22; PWR-11. -/
def PWR_PLAN_WMARK_STEP : Fld := ⟨82, 23, 22, 0⟩
/-- PWR.PLAN.STORE_STEP bits 21:20; PWR-11. -/
def PWR_PLAN_STORE_STEP : Fld := ⟨82, 21, 20, 0⟩
/-- PWR.PLAN.LANE_STEP bits 19:18; PWR-11. -/
def PWR_PLAN_LANE_STEP : Fld := ⟨82, 19, 18, 0⟩
/-- PWR.PLAN.LANE_IND bits 17:16; PWR-11. -/
def PWR_PLAN_LANE_IND : Fld := ⟨82, 17, 16, 0⟩
/-- PWR.PLAN.EPOCH_INCONS bits 5:5; PWR-11. -/
def PWR_PLAN_EPOCH_INCONS : Fld := ⟨82, 5, 5, 0⟩
/-- PWR.PLAN.EXHAUSTED bits 4:4; PWR-11. -/
def PWR_PLAN_EXHAUSTED : Fld := ⟨82, 4, 4, 0⟩
/-- PWR.PLAN.FORECAST_WARN bits 3:3; PWR-11. -/
def PWR_PLAN_FORECAST_WARN : Fld := ⟨82, 3, 3, 0⟩
/-- PWR.PLAN.BUDGET_SHORT bits 2:2; PWR-11. -/
def PWR_PLAN_BUDGET_SHORT : Fld := ⟨82, 2, 2, 0⟩
/-- PWR.PLAN.URGENT bits 1:1; PWR-11. -/
def PWR_PLAN_URGENT : Fld := ⟨82, 1, 1, 0⟩
/-- Object number of PWR.SENSE. -/
def objPWR_SENSE : Nat := 83
/-- PWR.SENSE.SLACK_C bits 127:112; PWR-12. -/
def PWR_SENSE_SLACK_C : Fld := ⟨83, 127, 112, 0⟩
/-- PWR.SENSE.SLACK_B bits 111:96; PWR-12. -/
def PWR_SENSE_SLACK_B : Fld := ⟨83, 111, 96, 0⟩
/-- PWR.SENSE.SLACK_A bits 95:80; PWR-12. -/
def PWR_SENSE_SLACK_A : Fld := ⟨83, 95, 80, 0⟩
/-- PWR.SENSE.BRW bits 79:64; PWR-12. -/
def PWR_SENSE_BRW : Fld := ⟨83, 79, 64, 0⟩
/-- PWR.SENSE.DRIFT_MAX bits 63:48; PWR-12. -/
def PWR_SENSE_DRIFT_MAX : Fld := ⟨83, 63, 48, 0⟩
/-- PWR.SENSE.AGE_LOGIC bits 47:32; PWR-12. -/
def PWR_SENSE_AGE_LOGIC : Fld := ⟨83, 47, 32, 0⟩
/-- PWR.SENSE.TJ_LOGIC bits 31:24; PWR-12. -/
def PWR_SENSE_TJ_LOGIC : Fld := ⟨83, 31, 24, 0⟩
/-- PWR.SENSE.EQH_MAX bits 23:0; PWR-12. -/
def PWR_SENSE_EQH_MAX : Fld := ⟨83, 23, 0, 0⟩
/-- Object number of PWR.FORECAST. -/
def objPWR_FORECAST : Nat := 84
/-- PWR.FORECAST.LANE_NEXT bits 127:112; PWR-13. -/
def PWR_FORECAST_LANE_NEXT : Fld := ⟨84, 127, 112, 65535⟩
/-- PWR.FORECAST.LANE_END bits 111:96; PWR-13. -/
def PWR_FORECAST_LANE_END : Fld := ⟨84, 111, 96, 65535⟩
/-- PWR.FORECAST.STORE_NEXT bits 95:80; PWR-13. -/
def PWR_FORECAST_STORE_NEXT : Fld := ⟨84, 95, 80, 65535⟩
/-- PWR.FORECAST.STORE_END bits 79:64; PWR-13. -/
def PWR_FORECAST_STORE_END : Fld := ⟨84, 79, 64, 65535⟩
/-- PWR.FORECAST.BOOST_NEXT bits 63:48; PWR-13. -/
def PWR_FORECAST_BOOST_NEXT : Fld := ⟨84, 63, 48, 65535⟩
/-- PWR.FORECAST.BOOST_END bits 47:32; PWR-13. -/
def PWR_FORECAST_BOOST_END : Fld := ⟨84, 47, 32, 65535⟩
/-- PWR.FORECAST.CAL_NEXT bits 31:16; PWR-13. -/
def PWR_FORECAST_CAL_NEXT : Fld := ⟨84, 31, 16, 65535⟩
/-- PWR.FORECAST.CAL_END bits 15:0; PWR-13. -/
def PWR_FORECAST_CAL_END : Fld := ⟨84, 15, 0, 65535⟩
/-- Object number of PWR.DOMAINS. -/
def objPWR_DOMAINS : Nat := 85
/-- PWR.DOMAINS bits 127:0; R469. -/
def PWR_DOMAINS_DOMAINS : Fld := ⟨85, 127, 0, 0⟩
/-- Object number of PWR.HIST. -/
def objPWR_HIST : Nat := 86
/-- Object number of INT.SUP. -/
def objINT_SUP : Nat := 87
/-- INT.SUP bits 21:16; INT-5. -/
def INT_SUP_TASK : Fld := ⟨87, 21, 16, 0⟩
/-- INT.SUP bits 15:15; INT-5. -/
def INT_SUP_EN : Fld := ⟨87, 15, 15, 0⟩
/-- INT.SUP bits 9:8; INT-5. -/
def INT_SUP_TARGET : Fld := ⟨87, 9, 8, 0⟩
/-- INT.SUP bits 7:0; INT-5. -/
def INT_SUP_PRIO : Fld := ⟨87, 7, 0, 0⟩
/-- Object number of INT.COS. -/
def objINT_COS : Nat := 88
/-- INT.COS bits 21:16; INT-5. -/
def INT_COS_TASK : Fld := ⟨88, 21, 16, 0⟩
/-- INT.COS bits 15:15; INT-5. -/
def INT_COS_EN : Fld := ⟨88, 15, 15, 0⟩
/-- INT.COS bits 9:8; INT-5. -/
def INT_COS_TARGET : Fld := ⟨88, 9, 8, 0⟩
/-- INT.COS bits 7:0; INT-5. -/
def INT_COS_PRIO : Fld := ⟨88, 7, 0, 0⟩
/-- Object number of INT.GRP. -/
def objINT_GRP : Nat := 89
/-- INT.GRP bits 21:16; INT-5. -/
def INT_GRP_TASK : Fld := ⟨89, 21, 16, 0⟩
/-- INT.GRP bits 15:15; INT-5. -/
def INT_GRP_EN : Fld := ⟨89, 15, 15, 0⟩
/-- INT.GRP bits 9:8; INT-5. -/
def INT_GRP_TARGET : Fld := ⟨89, 9, 8, 0⟩
/-- INT.GRP bits 7:0; INT-5. -/
def INT_GRP_PRIO : Fld := ⟨89, 7, 0, 0⟩
/-- Object number of INT.WIN. -/
def objINT_WIN : Nat := 90
/-- INT.WIN bits 21:16; INT-5. -/
def INT_WIN_TASK : Fld := ⟨90, 21, 16, 0⟩
/-- INT.WIN bits 15:15; INT-5. -/
def INT_WIN_EN : Fld := ⟨90, 15, 15, 0⟩
/-- INT.WIN bits 9:8; INT-5. -/
def INT_WIN_TARGET : Fld := ⟨90, 9, 8, 0⟩
/-- INT.WIN bits 7:0; INT-5. -/
def INT_WIN_PRIO : Fld := ⟨90, 7, 0, 0⟩
/-- Object number of INT.SYS. -/
def objINT_SYS : Nat := 91
/-- INT.SYS bits 21:16; INT-5. -/
def INT_SYS_TASK : Fld := ⟨91, 21, 16, 0⟩
/-- INT.SYS bits 15:15; INT-5. -/
def INT_SYS_EN : Fld := ⟨91, 15, 15, 0⟩
/-- INT.SYS bits 9:8; INT-5. -/
def INT_SYS_TARGET : Fld := ⟨91, 9, 8, 0⟩
/-- INT.SYS bits 7:0; INT-5. -/
def INT_SYS_PRIO : Fld := ⟨91, 7, 0, 0⟩
/-- Object number of INT.STATE. -/
def objINT_STATE : Nat := 92
/-- INT.STATE bits 1:0; INT-3. -/
def INT_STATE_ST : Fld := ⟨92, 1, 0, 0⟩
/-- Object number of INT.STORMED. -/
def objINT_STORMED : Nat := 93
/-- INT.STORMED bits 0:0; R502. -/
def INT_STORMED_M : Fld := ⟨93, 0, 0, 0⟩
/-- Object number of INT.LATCH. -/
def objINT_LATCH : Nat := 94
/-- INT.LATCH.RING bits 24:24; INT-6. -/
def INT_LATCH_RING : Fld := ⟨94, 24, 24, 0⟩
/-- INT.LATCH.RECORDER bits 23:23; INT-6. -/
def INT_LATCH_RECORDER : Fld := ⟨94, 23, 23, 0⟩
/-- INT.LATCH.STORE bits 22:22; INT-6. -/
def INT_LATCH_STORE : Fld := ⟨94, 22, 22, 0⟩
/-- INT.LATCH.MODE bits 20:20; INT-6. -/
def INT_LATCH_MODE : Fld := ⟨94, 20, 20, 0⟩
/-- INT.LATCH.AGEING bits 19:19; INT-6. -/
def INT_LATCH_AGEING : Fld := ⟨94, 19, 19, 0⟩
/-- INT.LATCH.POWER_FAIL bits 18:18; INT-6. -/
def INT_LATCH_POWER_FAIL : Fld := ⟨94, 18, 18, 0⟩
/-- INT.LATCH.PLT bits 17:8; INT-6. -/
def INT_LATCH_PLT : Fld := ⟨94, 17, 8, 0⟩
/-- INT.LATCH.SYNC bits 7:4; INT-6. -/
def INT_LATCH_SYNC : Fld := ⟨94, 7, 4, 0⟩
/-- INT.LATCH.ANGEV bits 3:0; INT-6. -/
def INT_LATCH_ANGEV : Fld := ⟨94, 3, 0, 0⟩
/-- Object number of INT.CFG. -/
def objINT_CFG : Nat := 95
/-- INT.CFG.STORM_MAX bits 31:16; INT-7. -/
def INT_CFG_STORM_MAX : Fld := ⟨95, 31, 16, 1000⟩
/-- INT.CFG.PRIGROUP_HOST bits 14:12; INT-7. -/
def INT_CFG_PRIGROUP_HOST : Fld := ⟨95, 14, 12, 4⟩
/-- INT.CFG.PRIGROUP_TASKS bits 10:8; INT-7. -/
def INT_CFG_PRIGROUP_TASKS : Fld := ⟨95, 10, 8, 0⟩
/-- INT.CFG.PRIGROUP_SV1 bits 6:4; INT-7. -/
def INT_CFG_PRIGROUP_SV1 : Fld := ⟨95, 6, 4, 0⟩
/-- INT.CFG.PRIGROUP_SV0 bits 2:0; INT-7. -/
def INT_CFG_PRIGROUP_SV0 : Fld := ⟨95, 2, 0, 0⟩
/-- Object number of INT.STAT. -/
def objINT_STAT : Nat := 96
/-- INT.STAT.REFIRE bits 95:80; INT-8. -/
def INT_STAT_REFIRE : Fld := ⟨96, 95, 80, 0⟩
/-- INT.STAT.MERGED bits 79:64; INT-8. -/
def INT_STAT_MERGED : Fld := ⟨96, 79, 64, 0⟩
/-- INT.STAT.DISCARD bits 63:48; INT-8. -/
def INT_STAT_DISCARD : Fld := ⟨96, 63, 48, 0⟩
/-- INT.STAT.STORMS bits 47:32; INT-8. -/
def INT_STAT_STORMS : Fld := ⟨96, 47, 32, 0⟩
/-- INT.STAT.HOST_CNT bits 28:19; INT-8. -/
def INT_STAT_HOST_CNT : Fld := ⟨96, 28, 19, 0⟩
/-- INT.STAT.HOST_TOP bits 8:0; INT-8. -/
def INT_STAT_HOST_TOP : Fld := ⟨96, 8, 0, 0⟩
/-- Object number of RTC.TIME. -/
def objRTC_TIME : Nat := 97
/-- RTC.TIME.SECONDS bits 63:15; TCK-3. -/
def RTC_TIME_SECONDS : Fld := ⟨97, 63, 15, 0⟩
/-- RTC.TIME.SUBSEC bits 14:0; TCK-3. -/
def RTC_TIME_SUBSEC : Fld := ⟨97, 14, 0, 0⟩
/-- Object number of RTC.DATE. -/
def objRTC_DATE : Nat := 98
/-- RTC.DATE.YEAR bits 55:48; TCK-4. -/
def RTC_DATE_YEAR : Fld := ⟨98, 55, 48, 0⟩
/-- RTC.DATE.MONTH bits 47:44; TCK-4. -/
def RTC_DATE_MONTH : Fld := ⟨98, 47, 44, 1⟩
/-- RTC.DATE.DAY bits 43:39; TCK-4. -/
def RTC_DATE_DAY : Fld := ⟨98, 43, 39, 1⟩
/-- RTC.DATE.WEEKDAY bits 38:36; TCK-4. -/
def RTC_DATE_WEEKDAY : Fld := ⟨98, 38, 36, 6⟩
/-- RTC.DATE.HOUR bits 35:31; TCK-4. -/
def RTC_DATE_HOUR : Fld := ⟨98, 35, 31, 0⟩
/-- RTC.DATE.MINUTE bits 30:25; TCK-4. -/
def RTC_DATE_MINUTE : Fld := ⟨98, 30, 25, 0⟩
/-- RTC.DATE.SECOND bits 24:19; TCK-4. -/
def RTC_DATE_SECOND : Fld := ⟨98, 24, 19, 0⟩
/-- RTC.DATE.SUBSEC bits 14:0; TCK-4. -/
def RTC_DATE_SUBSEC : Fld := ⟨98, 14, 0, 0⟩
/-- Object number of RTC.ALARM. -/
def objRTC_ALARM : Nat := 99
/-- RTC.ALARM.SECONDS bits 63:15; TCK-5. -/
def RTC_ALARM_SECONDS : Fld := ⟨99, 63, 15, 0⟩
/-- RTC.ALARM.PWR_EN bits 2:2; TCK-5. -/
def RTC_ALARM_PWR_EN : Fld := ⟨99, 2, 2, 0⟩
/-- RTC.ALARM.DAILY bits 1:1; TCK-5. -/
def RTC_ALARM_DAILY : Fld := ⟨99, 1, 1, 0⟩
/-- RTC.ALARM.EN bits 0:0; TCK-5. -/
def RTC_ALARM_EN : Fld := ⟨99, 0, 0, 0⟩
/-- Object number of RTC.WAKE. -/
def objRTC_WAKE : Nat := 100
/-- RTC.WAKE.PERIOD bits 31:7; TCK-6. -/
def RTC_WAKE_PERIOD : Fld := ⟨100, 31, 7, 0⟩
/-- RTC.WAKE.PWR_EN bits 1:1; TCK-6. -/
def RTC_WAKE_PWR_EN : Fld := ⟨100, 1, 1, 0⟩
/-- RTC.WAKE.EN bits 0:0; TCK-6. -/
def RTC_WAKE_EN : Fld := ⟨100, 0, 0, 0⟩
/-- Object number of RTC.STATUS. -/
def objRTC_STATUS : Nat := 101
/-- RTC.STATUS.VBAT_V bits 31:20; TCK-7. -/
def RTC_STATUS_VBAT_V : Fld := ⟨101, 31, 20, 0⟩
/-- RTC.STATUS.OSF_CAUSE bits 15:14; TCK-7. -/
def RTC_STATUS_OSF_CAUSE : Fld := ⟨101, 15, 14, 1⟩
/-- RTC.STATUS.WAKE_CAUSE bits 13:12; TCK-7. -/
def RTC_STATUS_WAKE_CAUSE : Fld := ⟨101, 13, 12, 0⟩
/-- RTC.STATUS.OFF_PENDING bits 9:9; TCK-7. -/
def RTC_STATUS_OFF_PENDING : Fld := ⟨101, 9, 9, 0⟩
/-- RTC.STATUS.PWRON_LOW bits 8:8; TCK-7. -/
def RTC_STATUS_PWRON_LOW : Fld := ⟨101, 8, 8, 1⟩
/-- RTC.STATUS.SUPPLY bits 7:7; TCK-7. -/
def RTC_STATUS_SUPPLY : Fld := ⟨101, 7, 7, 0⟩
/-- RTC.STATUS.XTAL_SUBST bits 6:6; TCK-7. -/
def RTC_STATUS_XTAL_SUBST : Fld := ⟨101, 6, 6, 0⟩
/-- RTC.STATUS.XTAL_RUN bits 5:5; TCK-7. -/
def RTC_STATUS_XTAL_RUN : Fld := ⟨101, 5, 5, 0⟩
/-- RTC.STATUS.VBAT_LOW bits 4:4; TCK-7. -/
def RTC_STATUS_VBAT_LOW : Fld := ⟨101, 4, 4, 0⟩
/-- RTC.STATUS.WAKE bits 2:2; TCK-7. -/
def RTC_STATUS_WAKE : Fld := ⟨101, 2, 2, 0⟩
/-- RTC.STATUS.ALARM bits 1:1; TCK-7. -/
def RTC_STATUS_ALARM : Fld := ⟨101, 1, 1, 0⟩
/-- RTC.STATUS.OSF bits 0:0; TCK-7. -/
def RTC_STATUS_OSF : Fld := ⟨101, 0, 0, 1⟩
/-- Object number of RTC.TRIM. -/
def objRTC_TRIM : Nat := 102
/-- RTC.TRIM.TRIM bits 9:0; TCK-8. -/
def RTC_TRIM_TRIM : Fld := ⟨102, 9, 0, 0⟩
/-- Object number of RTC.PWRON. -/
def objRTC_PWRON : Nat := 103
/-- RTC.PWRON.OFF_DELAY bits 31:16; TCK-8. -/
def RTC_PWRON_OFF_DELAY : Fld := ⟨103, 31, 16, 60⟩
/-- RTC.PWRON.OFF bits 0:0; TCK-8. -/
def RTC_PWRON_OFF : Fld := ⟨103, 0, 0, 0⟩
/-- Object number of RTC.BKP. -/
def objRTC_BKP : Nat := 104
/-- RTC.BKP.BKP0 bits 31:0; TCK-8. -/
def RTC_BKP_BKP0 : Fld := ⟨104, 31, 0, 0⟩
/-- RTC.BKP.BKP1 bits 63:32; TCK-8. -/
def RTC_BKP_BKP1 : Fld := ⟨104, 63, 32, 0⟩
/-- RTC.BKP.BKP2 bits 95:64; TCK-8. -/
def RTC_BKP_BKP2 : Fld := ⟨104, 95, 64, 0⟩
/-- RTC.BKP.BKP3 bits 127:96; TCK-8. -/
def RTC_BKP_BKP3 : Fld := ⟨104, 127, 96, 0⟩
/-- RTC.BKP.BKP4 bits 159:128; TCK-8. -/
def RTC_BKP_BKP4 : Fld := ⟨104, 159, 128, 0⟩
/-- RTC.BKP.BKP5 bits 191:160; TCK-8. -/
def RTC_BKP_BKP5 : Fld := ⟨104, 191, 160, 0⟩
/-- RTC.BKP.BKP6 bits 223:192; TCK-8. -/
def RTC_BKP_BKP6 : Fld := ⟨104, 223, 192, 0⟩
/-- RTC.BKP.BKP7 bits 255:224; TCK-8. -/
def RTC_BKP_BKP7 : Fld := ⟨104, 255, 224, 0⟩
/-- Object number of SEC.STATUS. -/
def objSEC_STATUS : Nat := 105
/-- SEC.STATUS.SVC_SESSIONS bits 12:10; SEC-7. -/
def SEC_STATUS_SVC_SESSIONS : Fld := ⟨105, 12, 10, 0⟩
/-- SEC.STATUS.USB_ATTACHED bits 9:9; SEC-7. -/
def SEC_STATUS_USB_ATTACHED : Fld := ⟨105, 9, 9, 0⟩
/-- SEC.STATUS.RECOVERY bits 8:8; SEC-7. -/
def SEC_STATUS_RECOVERY : Fld := ⟨105, 8, 8, 0⟩
/-- SEC.STATUS.COMMISSIONING bits 7:7; SEC-7. -/
def SEC_STATUS_COMMISSIONING : Fld := ⟨105, 7, 7, 1⟩
/-- SEC.STATUS.KEYS bits 6:3; SEC-7. -/
def SEC_STATUS_KEYS : Fld := ⟨105, 6, 3, 0⟩
/-- SEC.STATUS.SPARE_FAIL bits 2:2; SEC-7. -/
def SEC_STATUS_SPARE_FAIL : Fld := ⟨105, 2, 2, 0⟩
/-- SEC.STATUS.SPARE_READY bits 1:1; SEC-7. -/
def SEC_STATUS_SPARE_READY : Fld := ⟨105, 1, 1, 0⟩
/-- SEC.STATUS.ACTIVE_SV bits 0:0; SEC-7. -/
def SEC_STATUS_ACTIVE_SV : Fld := ⟨105, 0, 0, 0⟩
/-- Object number of SEC.FW. -/
def objSEC_FW : Nat := 106
/-- SEC.FW bits 127:96; SEC-8. -/
def SEC_FW_SEC_MIN : Fld := ⟨106, 127, 96, 0⟩
/-- SEC.FW bits 95:64; SEC-8. -/
def SEC_FW_VERSION_UNSEL : Fld := ⟨106, 95, 64, 0⟩
/-- SEC.FW bits 63:32; SEC-8. -/
def SEC_FW_VERSION : Fld := ⟨106, 63, 32, 0⟩
/-- SEC.FW bits 31:16; SEC-8. -/
def SEC_FW_ABI : Fld := ⟨106, 31, 16, 0⟩
/-- SEC.FW bits 4:4; SEC-8. -/
def SEC_FW_FALLBACK : Fld := ⟨106, 4, 4, 0⟩
/-- SEC.FW bits 3:1; SEC-8. -/
def SEC_FW_UNSEL : Fld := ⟨106, 3, 1, 0⟩
/-- SEC.FW bits 0:0; SEC-8. -/
def SEC_FW_SEL : Fld := ⟨106, 0, 0, 0⟩
/-- Object number of SEC.RNG. -/
def objSEC_RNG : Nat := 107
/-- SEC.RNG.FAILS bits 31:24; SEC-9. -/
def SEC_RNG_FAILS : Fld := ⟨107, 31, 24, 0⟩
/-- SEC.RNG.RCT_FAIL bits 23:16; SEC-9. -/
def SEC_RNG_RCT_FAIL : Fld := ⟨107, 23, 16, 0⟩
/-- SEC.RNG.APT_FAIL bits 15:8; SEC-9. -/
def SEC_RNG_APT_FAIL : Fld := ⟨107, 15, 8, 0⟩
/-- SEC.RNG.STATE bits 1:0; SEC-9. -/
def SEC_RNG_STATE : Fld := ⟨107, 1, 0, 0⟩

end Sys2Proof.Machine.F
end

