-- ==== Sys2Proof/Machine/State.lean ====
section
/-!
DEFINITION. The state of the module as plain data: one sparse register file for every field of the object maps, and one
structure per unit for the state the maps do not show. `State.reset` is the module at its POR release, as the spec says.
-/

namespace Sys2Proof.Machine

/-- The time bases (R3, R75, R78). `now` counts nanoseconds of the running LINK domain, `xt` crystal periods (on the
stand-in period of R505 while the crystal stands). Station time is `stBase` plus the whole microseconds since `stAt`
unless it is held. `runAcc`, `runFrom` give the RUN ticks of the timers; `probeAt` is where the probe clock of R569
stood at 0. -/
structure TimeSt where
  now : Nat := 0
  xt : Nat := 0
  link : Bool := false
  stBase : Nat := 0
  stAt : Nat := 0
  stHeld : Bool := false
  probeAt : Nat := 0
  runAcc : Nat := 0
  runFrom : Option Nat := none
deriving DecidableEq, Repr

/-- A link register write held for its apply cinch (R71). -/
structure HeldWrite where
  apply : Nat
  addr : Nat
  words : List Nat
deriving DecidableEq, Repr

/-- An accepted marker waiting for its latch instant (R63, R64). -/
structure DueLatch where
  cinch : Nat
  at_ : Nat
  port : Port
  ann : Bool
deriving DecidableEq, Repr

/-- What waits for a carrier: a complete sub-record, or `count` completion records from CQSEQ `seq` on (NRL-8). -/
inductive SubItem
  | sub (bytes : List Nat)
  | cpl (seq count : Nat)
deriving DecidableEq, Repr

/-- A frame as the module sends it on: leaving port, bytes and whether ERR ended it early (R565). -/
structure TxFrame where
  port : Port
  bytes : List Nat
  err : Bool
deriving DecidableEq, Repr

/-- The ring interface beside its registers. -/
structure RingSt where
  seen : List (Nat × Nat) := []
  held : List HeldWrite := []
  pendTime : Option (Nat × Nat) := none
  pendUnwrap : Option Nat := none
  cinch : Nat := 0
  latched : Bool := false
  latching : Bool := false
  substRun : Nat := 0
  lastLatch : Nat := 0
  lastLocal : Nat := 0
  due : List DueLatch := []
  copyPort : Option Port := none
  copyAt : Nat := 0
  announced : Option Nat := none
  downBad : Bool := false
  lateWrite : Bool := false
  subq : List SubItem := []
  attnLast : Option Nat := none
  lastTx : List TxFrame := []
  localOn : Bool := false
  qualA : Nat := 0
  qualB : Nat := 0
deriving DecidableEq, Repr

/-- Clock domains, start-up and reset beside the CLK registers (R76–R104): the gates of LANE, SUPV, IMAGE and EVENT; the clocks
received; the transmit bypass (R80); LCLK windows out of band in a row; a bridge: crystal count at its begin, its age, whether
it reached a rein timeout in RUN or HOLD; a park; the nominal LCLK before a change and the cinch that announced it; when
the LANE gates closed over tasks; module held in reset and RESET_N low; POR release and first opening of the gates [crystal
periods]; start-up watchdog resets in a row, start-up stopped, limited state (R101), firmware running, STOP-ready, AUTORUN done, cold
reset; a MOD_RESET that waits (kind, CQSEQ of its answer); silent supervisor cores; dies that run their code (DG bits 0–7, AG 8–11);
the strap COMPAT_SEL. -/
structure ClkSt where
  lane : Bool := false
  supv : Bool := false
  image : Bool := false
  event : Bool := false
  clkA : Bool := false
  clkB : Bool := false
  bypass : Bool := false
  badWindows : Nat := 0
  bridgeFrom : Option Nat := none
  bridgeAge : Nat := 0
  bridgeLong : Bool := false
  parked : Bool := false
  oldLclk : Nat := 0
  changeFrom : Option Nat := none
  laneFrom : Option Nat := none
  inReset : Bool := true
  pinLow : Bool := false
  porXt : Nat := 0
  gatesOpened : Option Nat := none
  startRuns : Nat := 0
  startFailed : Bool := false
  limited : Bool := false
  fwRunning : Bool := false
  stopReady : Bool := false
  autorunDone : Bool := false
  coldReset : Bool := true
  pendReset : Option (Nat × Nat) := none
  svSilent : Nat := 0
  dieCode : Nat := 0
  compat : Bool := false
deriving DecidableEq, Repr

/-- A two-slot record's slot content (STO-3): generation, set generation, data and whether R445 holds. -/
structure Slot where
  gen : Nat
  setgen : Nat
  data : List Nat
  usable : Bool
deriving DecidableEq, Repr

/-- A two-slot record of the store, by kind and index (STO-5). -/
structure StoRec where
  kind : Nat
  index : Nat
  s0 : Option Slot
  s1 : Option Slot
deriving DecidableEq, Repr

/-- A counter ring (STO-6): its newest valid entry. -/
structure CntRing where
  slot : Nat
  seq : Nat
  value : Nat
deriving DecidableEq, Repr

/-- A recorder record (STO-7); `seq` is absent before NEXT is set (R459); `xt` is the crystal count at creation. -/
structure Rec where
  seq : Option Nat
  tmode : Nat
  sev : Nat
  code : Nat
  time : Nat
  cinch : Nat
  arg : List Nat
  xt : Nat
deriving DecidableEq, Repr

/-- One slot of the log ring: the record and whether it reads back good, with a bad RCRC, or uncorrectable (R463). -/
structure LogSlot where
  rcd : Rec
  crcBad : Bool
  uncorr : Bool
deriving DecidableEq, Repr

/-- An OBJ_STORE in progress or waiting: the copied objects (index, data) and the handle (R448). -/
structure StoreOp where
  handle : Nat
  session : Nat
  objs : List (Nat × List Nat)
deriving DecidableEq, Repr

/-- The store and the recorder beside their registers: two-slot records, those that are INCONSISTENT (a configuration object and
its index, or 65,536 + KIND and INDEX), counter rings with the values that wait, the store header; OBJ_STOREs; the recorder
buffer, the log ring, whether NEXT is set, events refused since the last DROPPED, the claim of a due flush (0 none), and
whether the last unit before a reset was written; firmware slots and program images; Burnish: page, start of its pass,
groups refreshed, skipped, and rewritten for a margin read that differed; the loss word of the backup domain (R460);
the summaries of past epochs (R480); and the targets whose slot A still holds the image the module was delivered with (R522,
assumption log 45). -/
structure StoSt where
  recs : List StoRec := []
  incons : List (Nat × Nat) := []
  rings : Table CntRing := []
  ringPend : Table Nat := []
  headerBad : Bool := false
  ops : List StoreOp := []
  buf : List Rec := []
  logRing : Table LogSlot := []
  nextSet : Bool := false
  droppedNow : Nat := 0
  flushDue : Nat := 0
  sealed : Bool := false
  fwSlots : Table Byte := []
  progA : Memory := []
  progB : Memory := []
  burnishPage : Nat := 0
  burnishFrom : Nat := 0
  burnishRef : Nat := 0
  burnishSkip : Nat := 0
  burnishBrw : Nat := 0
  loss : Option (Nat × Nat) := none
  hist : Table (List Int) := []
  factory : Nat := 15
deriving DecidableEq, Repr

/-- The interrupt controller beside its registers: which sources are asserted (bit s for source s), how often each HOST
source entered ACTIVE in its window, where the window began, which task execution completes a taken TASKS source, and
the ACTIVE sources of the two supervisor cores. -/
structure IntSt where
  asserted : Nat := 0
  entries : Table Nat := []
  windowFrom : Nat := 0
  taken : List (Nat × Nat) := []
  act0 : List Nat := []
  act1 : List Nat := []
deriving DecidableEq, Repr

/-- A command as it stands in the command ring: the bytes of its slots (R107), its slot count, the path it came by and
whether its NSLOT ran past the MBXW. -/
structure RingCmd where
  nslot : Nat
  bytes : List Nat
  usb : Bool
  broken : Bool
deriving DecidableEq, Repr

/-- A completion record (MBX-3, MBX-4). For DATA records `index` and `data` count, for the others the rest. `at_` is when it was
placed, or created. -/
structure CqRec where
  seq : Nat
  kind : Nat
  repeated : Bool
  ndata : Nat
  session : Nat
  clseq : Nat
  opcode : Nat
  status : Nat
  handle : Nat
  cinch : Nat
  result : Nat
  index : Nat
  data : List Nat
  usb : Bool
  placed : Bool
  at_ : Nat
deriving DecidableEq, Repr

/-- A response as R123 stores it: status record fields and the data bytes. -/
structure Resp where
  status : Nat
  handle : Nat
  cinch : Nat
  result : Nat
  data : List Nat
  opcode : Nat
deriving DecidableEq, Repr

/-- One staged field (R136): object, flattened index, entry offset, low bit and width of the field, value. -/
structure StagedField where
  obj : Nat
  idx : Nat
  lo : Nat
  hi : Nat
  dflt : Nat
  value : Nat
deriving DecidableEq, Repr

/-- A session that is pending (1) or open (2), R116–R126. -/
structure Session where
  no : Nat
  state : Nat
  role : Nat
  limit : Nat
  idle : Nat
  lastXt : Nat
  usb : Bool
  hostNonce : List Nat
  mNonce : List Nat
  openTag : List Nat
  ks : List Nat
  high : Nat
  seen : List (Nat × Resp)
  staging : List StagedField
deriving DecidableEq, Repr

/-- A remembered SES_OPEN that took a session (R122). -/
structure OpenTag where
  tag : List Nat
  session : Nat
  resp : Resp
deriving DecidableEq, Repr

/-- What a long operation still has to do. -/
inductive LongOp
  | none
  | commit (checkOnly : Bool) (acceptedAt : Nat) (mode : Nat)
  | snapRead (cinch off len : Nat) (buffer : Nat)
  | capRead (domain off len : Nat) (data : List Nat)
  | modeSet (target restart : Nat)
  | objStore
  | load (bank : Nat)
  | activate
  | drill
  | recRead (first count : Nat) (data : List Nat)
  | recClear (confirm former : Nat)
  | fwStage
  | fwActivate (target : Nat)
deriving DecidableEq, Repr

/-- A handle that is not FREE (MBX-9): slot, generation, state, session, command, progress. -/
structure Hdl where
  slot : Nat
  gen : Nat
  state : Nat
  session : Nat
  clseq : Nat
  opcode : Nat
  progress : Nat
  op : LongOp
  finSeq : Nat
  usb : Bool
deriving DecidableEq, Repr

/-- The mailbox beside its registers: the command ring and the completion queue with CQ_ACK and when it advanced, on the ring
and on the service port (R520); sessions, SES_OPEN answers, failures and locks by role; handles, generations, slots never
used and slots freed, oldest first; a SES_OPEN that waits for its nonce; and when the SUPV domain stopped (R125). -/
structure MbxSt where
  ring : List RingCmd := []
  cq : List CqRec := []
  nextSeq : Nat := 1
  ack : Nat := 0
  ackAt : Nat := 0
  sessions : List Session := []
  tags : List OpenTag := []
  fails : List (Nat × Nat) := []
  locked : List (Nat × Nat) := []
  hdls : List Hdl := []
  gens : Table Nat := []
  fresh : Nat := 0
  freed : List Nat := []
  waitOpen : Option (RingCmd × Nat) := none
  uack : Nat := 0
  uackAt : Nat := 0
  stopXt : Nat := 0
deriving DecidableEq, Repr

/-- An entry of the host write staging window (R156): path 0 down-part, 1 IMG_WRITE; `due` none waits for the first
cinch latch (R158). -/
structure StagedWrite where
  path : Nat
  off : Nat
  data : List Nat
  due : Option Nat
deriving DecidableEq, Repr

/-- A snapshot buffer in use (IMG-4, IMG-5). `badBlocks` lists blocks whose check fails. -/
structure Snap where
  cinch : Nat
  closed : Bool
  noexec : Bool
  subst : Bool
  damaged : Bool
  uncommitted : Bool
  latchTime : Nat
  closeTime : Nat
  hwrites : Nat
  i : Memory
  q : Memory
  s : Memory
deriving DecidableEq, Repr

/-- The held copy of a peer subscription (R163), by entry of IMG.SUBS. -/
structure PeerCopy where
  entry : Nat
  upcinch : Nat
  flags : Nat
  latchTime : Nat
  payload : List Nat
deriving DecidableEq, Repr

/-- The image unit beside its registers. -/
structure ImgSt where
  i : Memory := []
  p : Memory := []
  q : Memory := []
  s : Memory := []
  stage : List StagedWrite := []
  closedFor : Option Nat := none
  snaps : List Snap := []
  upClaim : Option Nat := none
  pins : List (Nat × Nat) := []
  lost : List (Nat × Nat) := []
  hold0 : Option Nat := none
  hold1 : Option Nat := none
  peers : List PeerCopy := []
  frameRun : List Nat := []
  latchKind : Nat := 0
  latchTime : Nat := 0
  hwrites : Nat := 0
deriving DecidableEq, Repr

/-- An entry of a branch stack (R205). -/
inductive BrEntry
  | bit (ba : Bool) (op : Nat)
  | call (ret : Nat)
deriving DecidableEq, Repr

/-- What a lane asks of other units at its commit (R25, R228, R231). -/
inductive Request
  | evArm (entry angle : Nat)
  | evDis (entry : Nat)
  | snHold (k : Nat)
  | snRel (k : Nat)
deriving DecidableEq, Repr

/-- Where a lane stands in an execution: stepping, ended by END, or halted with a code. -/
inductive LaneRun
  | running
  | ended
  | halted (code : Nat)
deriving DecidableEq, Repr

/-- The registers of one lane within one execution (R203–R209), with the running CRC of its state signature (R263). -/
structure LaneCtx where
  pc : Nat
  ba : Bool
  acc : Int
  sat : Bool
  v : Table Word
  ix : Table Nat
  stack : List BrEntry
  flags : Nat
  q : Memory
  qmask : Memory
  reqs : List Request
  cycles : Nat
  run : LaneRun
  sig : Nat
deriving DecidableEq, Repr

/-- A timer, counter or edge instance (OED-5). An instance not listed is idle, 0 and in INIT. `pt` and `unit` are those
of the last evaluation (TRD). -/
structure Inst where
  elapsed : Nat := 0
  last : Nat := 0
  running : Bool := false
  q : Bool := false
  inp : Bool := false
  init : Bool := true
  pt : Nat := 0
  unit : Nat := 0
  cv : Int := 0
  uin : Bool := false
  din : Bool := false
  initU : Bool := true
  initD : Bool := true
  mem : Bool := false
deriving DecidableEq, Repr

/-- What one lane keeps between executions: M, D and the timer, counter and edge instances; and the 256-byte pages of its
state written since the last copy pass (R273). -/
structure LaneMem where
  m : Memory
  d : Memory
  inst : Table Inst
  dirty : List Nat
deriving DecidableEq, Repr

/-- A task execution, waiting, running or preempted (R188). -/
structure Exec where
  task : Nat
  prio : Nat
  src : Nat
  relAt : Nat
  relXt : Nat
  started : Bool
  snap : Option Nat
  cinchImage : Bool
  i : Memory
  p : Memory
  s : Memory
  q0 : Memory
  discard : Bool
  runTick : Nat
  lanes : Trio LaneCtx
deriving DecidableEq, Repr

/-- The pending mode transition (R174, R177): target, restart kind, handle (0: the module's own), when accepted, whether
start-up tasks still run, when the last of them ended, whether the boundary has come, and the crystal count at acceptance. -/
structure PendMode where
  target : Nat
  restart : Nat
  handle : Nat
  at_ : Nat
  startup : Bool
  readyAt : Nat
  cut : Bool
  xt : Nat
deriving DecidableEq, Repr

/-- An instance record of a program image (OED-4). -/
structure InstRec where
  id : Nat
  kind : Nat
  retain : Bool
  fresh : Bool
deriving DecidableEq, Repr

/-- A relocation entry (OED-6). -/
structure Reloc where
  area : Nat
  op : Nat
  old : Nat
  new : Nat
  count : Nat
deriving DecidableEq, Repr

/-- A task table entry (OED-3). -/
structure TaskRow where
  entry : Nat
  period : Nat
  phase : Nat
  prio : Nat
  src : Nat
deriving DecidableEq, Repr

/-- A retain table entry (SCN-13). -/
structure RetainRow where
  area : Nat
  start : Nat
  count : Nat
deriving DecidableEq, Repr

/-- A program bank as the three lanes hold it alike (R233): steps 0 to codeLen + poolLen - 1, unlisted steps 0. -/
structure Bank where
  words : Table Nat := []
  codeLen : Nat := 0
  poolLen : Nat := 0
  progId : Nat := 0
  build : Nat := 0
  prevBuild : Nat := 0
  insts : List InstRec := []
  relocs : List Reloc := []
  tasks : List TaskRow := []
  retain : List RetainRow := []
  digest : Nat := 0
deriving DecidableEq, Repr

/-- An open program load (R240): `stage` 0 data, 1 checks due, 2 copy due. -/
structure Load where
  handle : Nat
  bank : Nat
  size : Nat
  digest : Nat
  stage : Nat
deriving DecidableEq, Repr

/-- A pending activation (R245-R260). `phase`: 0 candidate to come, 1 quiet point passed, 2 swap made and record due, 3 identity
asked (a standby: matched), 4 SWAP_AT sent, 5 acknowledged, 6 a standby that has received SWAPPED, 7 a standby that lags, 8 a
standby that heard nothing by L, 9 record written, the partner's report awaited. `wait` candidates are allowed, `tries` were
made; `cinch` is that of the swap, `at_` the boundary chosen by a module that is not paired, `partner` the standby's swap
cinch plus 1, `asked` the cinch of the IDENT query. -/
structure Act where
  bank : Nat
  handle : Nat
  wait : Nat
  tries : Nat
  acceptedAt : Nat
  margin : Nat
  phase : Nat
  cinch : Nat
  at_ : Nat
  partner : Nat
  asked : Nat
  standby : Bool
deriving DecidableEq, Repr

/-- Program state beside its registers. -/
structure PrgSt where
  a : Option Bank := none
  b : Option Bank := none
  active : Option Nat := none
  load : Option Load := none
  act : Option Act := none
  deferring : Bool := false
  deferred : List Exec := []
  retCopyDue : Bool := false
deriving DecidableEq, Repr

/-- Modes, dispatcher and lanes beside their registers. `t0Due`: T0 has not been released on the newest image; `perLast`: the
station tick of the last release of a PERIODIC task; `peak`: the largest LAST_RUN of each task (R484). -/
structure ScnSt where
  pend : Option PendMode := none
  intact : Bool := false
  first : Bool := false
  restart : Nat := 0
  enterXt : Nat := 0
  running : Option Exec := none
  preempted : List Exec := []
  waiting : List Exec := []
  presented : List Exec := []
  startQueue : List Nat := []
  retLast : Nat := 0
  retRun : Nat := 0
  retBusy : Bool := false
  longBridge : Bool := false
  t0Due : Bool := false
  perLast : Table Nat := []
  peak : Table Nat := []
  lanes : Trio LaneMem := ⟨⟨[], [], [], []⟩, ⟨[], [], [], []⟩, ⟨[], [], [], []⟩⟩
deriving DecidableEq, Repr

/-- A digital channel as its field die holds it (R326–R350): the filtered terminal state before INV and when its first
state was taken; the output bit and duty last voted, the duty of the running PWM period, what is commanded, what the
stage drives and the level it reads back, whether an on level was sampled since the last freeze; PWM on-part; boost
phase (0 none, 1 boost, 2 hold); an OVERLOAD retry; the angle event a PENDING command came from; the sensor feed; and whether a
drill's dwell has seen it driven on (PLT-8). -/
structure DgCh where
  raw : Bool := false
  initAt : Nat := 0
  bit : Bool := false
  duty : Nat := 0
  dutyOn : Nat := 0
  cmd : Bool := false
  drv : Bool := false
  term : Bool := false
  seen : Bool := false
  onPart : Bool := false
  boost : Nat := 0
  retry : Bool := false
  pendEv : Option Nat := none
  sf : Bool := false
  sfRetry : Bool := false
  used : Bool := false
deriving DecidableEq, Repr

/-- A digital group (R351–R358): supply 0 none, 1 low, 2 normal, 3 high; L+ in 10 mV and whether it reached 19.2 V; rein
0 running, 1 stopped, 2 resumed and waiting for a vote or safe values; SAFE and RELEASED of DIG-12; the flags; V_BC
[µV] and when it stood there; the coupler frame stream; consecutive images without a good frame; what the last vote
found: lanes that differed, whether its CRC differed, and the run of differing commits. -/
structure DgGrp where
  supply : Nat := 0
  lplus : Nat := 0
  reached : Bool := false
  rein : Nat := 0
  reinAt : Nat := 0
  safe : Nat := 0
  released : Bool := false
  ovc : Bool := false
  sfGrp : Bool := false
  bcFault : Bool := false
  bcLow : Bool := false
  sense : Bool := false
  warm : Bool := false
  vbc : Nat := 0
  vbcAt : Nat := 0
  stream : Bool := true
  bad : Nat := 0
  split : Nat := 0
  crcDiff : Bool := false
  voted : Bool := false
  splitRun : Nat := 0
deriving DecidableEq, Repr

/-- The three lane copies on their way to a field die (R267): the Q bytes 0x0000–0x020F of each lane, the lanes that
carry EXCLUDE, and the committed fields of the commit. -/
structure CopySet where
  q : Trio Memory
  exclude : Nat
  committed : Memory
deriving DecidableEq, Repr

/-- What a field die reported with a frame about its vote (R269): group, lanes that differed, CRC differs. -/
structure VoteReport where
  group : Nat
  lanes : Nat
  crcDiff : Bool
deriving DecidableEq, Repr

/-- What the logic die and the field dies share: safe-value and hold commands on their way, by group (0–7 DGg, 8–11
AGg) and kind (1 STOP, 2 FAULT, 3 pair hold), in the order they were created (ARC-4, R189, R289); the lane copies on
their way, by group; the vote reports of the last freeze; when each diagnostic was last logged [crystal periods] and
how many records R347 suppressed; and the digital dies. -/
structure FieldSt where
  cmds : List (Nat × Nat) := []
  copies : List (Nat × CopySet) := []
  reports : List VoteReport := []
  diagAt : Table Nat := []
  suppressed : Nat := 0
  dg : Table DgCh := []
  dgg : Table DgGrp := []
deriving DecidableEq, Repr


/-- An analogue channel as its field die and result post-processing hold it: the setpoint last voted and the value the
stage drives in the base unit (none: high-impedance); SP_LIMIT; the boundary of a reconfiguration in progress (R386);
and of the measurement (R400–R426): fresh samples since the last synchronising reset, the newest sample and its instant, the kept samples newest first, the IIR state
with 16 fraction bits, MAINS samples and edges with their instants newest first, edges since the reset, the filter
output, the value and status handed over, the same as they stood at the newest verified sample, SEQ, and whether either
is new since the last image. -/
structure AnCh where
  sp : Int := 0
  drv : Option Int := none
  spLimit : Bool := false
  reconf : Option Nat := none
  n : Nat := 0
  last : Int := 0
  lastAt : Nat := 0
  hist : List Int := []
  iir : Int := 0
  msamp : List (Nat × Int) := []
  edges : List Nat := []
  periods : Nat := 0
  out : Int := 0
  val : Nat := 0
  stat : Nat := 0
  verVal : Nat := 0
  verStat : Nat := 0
  hasVer : Bool := false
  seq : Nat := 0
  verSeq : Nat := 0
  fresh : Bool := false
  verFresh : Bool := false
deriving DecidableEq, Repr

/-- The open-wire test of a channel (R405–R408): value conversions since the last slot; the slot (0 none, 1 due, 2 made and
waiting for the conversion after it, 3 running in triggered start); when it began (while due: the sample after which it
was last put off); the values before and in it; value and status as they stood when it began; passes in a row and the
verdict; the instant up to which samples are verified; deferrals; and verdict and passes of the test of every
conversion. -/
structure AnSlot where
  count : Nat := 0
  phase : Nat := 0
  at_ : Nat := 0
  before : Int := 0
  diag : Int := 0
  candVal : Nat := 0
  candStat : Nat := 0
  candSeq : Nat := 0
  passes : Nat := 0
  open_ : Bool := false
  verTo : Nat := 0
  defers : Nat := 0
  convOpen : Bool := false
  convPass : Nat := 0
deriving DecidableEq, Repr

/-- A converter position (R397–R403): the place of its triggers in the order of its channels, its steps since the latch,
the instant and channel of its last sample and whether a trigger took it, and a trigger that waits (entry, instant, angle). -/
structure AnPos where
  ptr : Nat := 0
  steps : Nat := 0
  latch : Nat := 0
  lastAt : Option Nat := none
  lastCh : Nat := 0
  lastTrig : Bool := false
  waiting : Option (Nat × Nat × Nat) := none
deriving DecidableEq, Repr

/-- A sample on its way from a slice: channel, kind (0 value, 1 diagnostic), instant, the CONV entry that triggered it with
the angle of its occurrence, and whether it was late. -/
structure InFlight where
  g : Nat
  p : Nat
  c : Nat
  kind : Nat
  at_ : Nat
  ev : Option (Nat × Nat)
  late : Bool
deriving DecidableEq, Repr

/-- The rotation of a group's slices (R411–R418): positions left in the round, the slice that calibrates or overlaps, when
its calibration began, whether RETEST asked for it, the position in overlap with the conversions compared and its begin,
failed overlaps in a row by slice, the spare that failed last at each position, and when the next step is due. -/
structure Rotation where
  round : List Nat := []
  calib : Option Nat := none
  calFrom : Nat := 0
  retest : Bool := false
  overlap : Option Nat := none
  pairs : Nat := 0
  overFrom : Nat := 0
  miss : List Nat := [0, 0, 0, 0, 0]
  failed : List (Option Nat) := [none, none, none, none]
  due : Nat := 0
deriving DecidableEq, Repr

/-- A slice's power (R419): 0 off, 1 powering up, 2 on; when it is ready (1) or went off (0). -/
structure SlicePw where
  pw : Nat := 0
  at_ : Nat := 0
deriving DecidableEq, Repr

/-- An analogue group: supply, AV+ and the strap as in DIG's group; rein, SAFE, RELEASED; quads as lists of four (state 0
off, 1 powering up, 2 operating, 3 powering down; when it began; fold-back; over-temperature; wanted after a
power-down); the vote; and the rotation. -/
structure AnGrp where
  supply : Nat := 0
  avplus : Nat := 0
  reached : Bool := false
  strap : Nat := 2
  rein : Nat := 0
  reinAt : Nat := 0
  safe : Nat := 0
  released : Bool := false
  bad : Nat := 0
  split : Nat := 0
  crcDiff : Bool := false
  voted : Bool := false
  splitRun : Nat := 0
  quad : List Nat := [0, 0, 0, 0]
  quadAt : List Nat := [0, 0, 0, 0]
  quadFb : List Bool := [false, false, false, false]
  quadOt : List Bool := [false, false, false, false]
  again : List Bool := [false, false, false, false]
  rot : Rotation := {}
deriving DecidableEq, Repr

/-- A window comparator beside its registers (R428–R430): a first evaluation is due, values met in a row and the state
they lead to, values evaluated. -/
structure WinSt where
  first : Bool := true
  run : Nat := 0
  toward : Nat := 0
  evals : Nat := 0
deriving DecidableEq, Repr

/-- The analogue dies, the conversion subsystem and result post-processing; slices are numbered 5 g + k. `keep` is the
store's assignment of slices (R395): state + 16 × position + 256 × cause + 1, or 0 for that of a new module; `calXt`
holds the crystal count of each slice's last calibration. -/
structure AnaSt where
  ch : Table AnCh := []
  slot : Table AnSlot := []
  pos : Table AnPos := []
  grp : Table AnGrp := []
  win : Table WinSt := []
  flight : List InFlight := []
  slice : Table SlicePw := []
  keep : Table Nat := []
  calXt : Table Nat := []
deriving DecidableEq, Repr


/-- An angle domain beside its registers (R301–R310): edges since entry into SEEKING; the newest edge's timestamp, its
position after the reference edge and its exact angle (16 further fraction bits); intervals newest first; the positions
the newest interval spans; whether Z rose since the last edge; revolution count and timestamp of the newest reference
edge, and the reference edges newest first; whether the newest edge deviated; good MAINS periods; the measured speed; the
angle held in SEEKING and LOST; complete SYNCED revolutions; SYNTH: the angle times 10^6 at a station tick, that tick and
the speed before it; and the image bits of ANG-8. -/
structure AngDom where
  edges : Nat := 0
  last : Option Nat := none
  pos : Nat := 0
  base : Nat := 0
  hist : List Nat := []
  span : Nat := 1
  zSeen : Bool := false
  rev : Nat := 0
  refAt : Option Nat := none
  refs : List Nat := []
  dev : Bool := false
  good : Nat := 0
  speed : Int := 0
  held : Nat := 0
  revs : Nat := 0
  syn : Nat := 0
  synAt : Nat := 0
  synOld : Nat := 0
  fBshort : Bool := false
  fDev : Bool := false
  fLate : Bool := false
deriving DecidableEq, Repr

/-- An event entry beside its register: the angle of its next occurrence and of its last fire. -/
structure EvSt where
  next : Nat := 0
  fired : Option Nat := none
deriving DecidableEq, Repr

/-- A timed command (R311): entry, angle of the occurrence, instant. -/
structure TimedCmd where
  entry : Nat
  angle : Nat
  at_ : Nat
deriving DecidableEq, Repr

/-- The end of an OUT_PULSE: entry, channel, instant. -/
structure PulseEnd where
  entry : Nat
  chan : Nat
  at_ : Nat
deriving DecidableEq, Repr

/-- The angle unit beside its registers: domains, entries, timed commands sent, pulses under way, capture buffers. -/
structure AngSt where
  dom : Table AngDom := []
  ev : Table EvSt := []
  cmds : List TimedCmd := []
  pulses : List PulseEnd := []
  caps : List Memory := [[], [], [], []]
deriving DecidableEq, Repr

/-- The Plait voter and the lanes' way back into the vote beside PLT.LANE: per lane the cinches of its disagreements newest
first (R270), executions in a row whose copy came too late, crystal counts of its retirements, failed copies, the latches
since a failed copy while a retry waits, and of a copy under way the latches and the passes; the lanes that are SUSPECT; the
Q shadows (R267); what start-up tasks wrote, by lane and as voted, with its bit mask (R177); whether the first T0 commit since
entry into RUN from STOP has been made; and the lanes that already count a disagreement for the last execution. -/
structure PltSt where
  dis : Trio (List Nat) := ⟨[], [], []⟩
  late : Trio Nat := ⟨0, 0, 0⟩
  retired : Trio (List Nat) := ⟨[], [], []⟩
  fails : Trio Nat := ⟨0, 0, 0⟩
  retry : Trio (Option Nat) := ⟨none, none, none⟩
  latches : Trio Nat := ⟨0, 0, 0⟩
  passes : Trio Nat := ⟨0, 0, 0⟩
  suspect : Nat := 0
  shadow : Trio Memory := ⟨[], [], []⟩
  startL : Trio Memory := ⟨[], [], []⟩
  startQ : Memory := []
  startMask : Memory := []
  open_ : Bool := false
  counted : Nat := 0
deriving DecidableEq, Repr

/-- A mirror image as it is received (R287): its cinch, its length, the bytes and the ranges that have come. -/
structure MirrorRx where
  cinch : Nat
  total : Nat
  data : List Nat
  got : List (Nat × Nat)
deriving DecidableEq, Repr

/-- A swap drill (R294): the PAIR_DRILL's handle and RETURN; `side` 1 when the standby received the command, 0 when the
primary did; phase 0 before step 1, 1 dwell, 2 return; when the dwell began [crystal periods]; the report so far: outputs
exercised and faulted as bit masks, the switch-over times, the dwell and the FLAGS. -/
structure Drill where
  handle : Nat
  ret : Bool
  side : Nat
  phase : Nat
  from_ : Nat
  doEx : Nat
  doFault : Nat
  aoEx : Nat
  aoFault : Nat
  so1 : Nat
  so2 : Nat
  dwell : Nat
  aborted : Bool
  cancelled : Bool
deriving DecidableEq, Repr

/-- The pair beside PLT.PAIR.STATE (R276–R295): latches since the partner was last heard; byte 0 of its last beat and the
ESEQ last acted on; the event being sent, its ESEQ and how often it went out; the beat last sent; its HELLO (FLAGS, MIRDIG,
BUILD) and the latches since the own one; the own claim (when first sent, lead) and what its effective boundary decides
(from when LAST_SO counts, whether the partner is silent); both partners found primary; YIELD since; the switch-over under way (first commit awaited,
that commit made and the analogue gates still closed); the hold command's safe-value kind; the lease (role, end in crystal
periods); ELIGIBLE as standby since; the mirror received, the one complete, the cinch last applied; the RUN ticks of the
T0 releases of the last images; whether a capture is due; and the drill. -/
structure PairSt where
  quiet : Nat := 0
  heard : Bool := false
  beat : Nat := 0
  rxEseq : Option Nat := none
  txEvent : Nat := 0
  txEseq : Nat := 0
  txLeft : Nat := 0
  lastBeat : List Nat := []
  hello : Option (Nat × Nat × Nat) := none
  helloRun : Nat := 0
  claim : Option (Nat × Nat) := none
  soFrom : Option Nat := none
  silentSo : Bool := false
  both : Bool := false
  yieldAt : Option Nat := none
  wantC : Bool := false
  cAt : Option Nat := none
  hold : Option Nat := none
  lease : Option (Nat × Nat) := none
  eligFrom : Option Nat := none
  rx : Option MirrorRx := none
  ready : Option (Nat × List Nat) := none
  applied : Option Nat := none
  t0Ticks : List (Nat × Nat) := []
  capDue : Bool := false
  drill : Option Drill := none
deriving DecidableEq, Repr


/-- The backup domain beside its registers (R505–R515): the calendar in crystal periods since 2000 at crystal count `at_`; the
second last judged for the alarm; where the wake count began; where a running OFF_DELAY began; whether the domain has
power; the crystal count of the last TIME_LINK and of the last VBAT reading; and crystal count and LINK instant from which the
stand-in period counts (R505). -/
structure RtcSt where
  base : Nat := 0
  at_ : Nat := 0
  lastSec : Nat := 0
  wakeFrom : Nat := 0
  offFrom : Option Nat := none
  powered : Bool := true
  linkXt : Nat := 0
  vbatXt : Nat := 0
  subXt : Nat := 0
  subAt : Nat := 0
deriving DecidableEq, Repr

/-- Power and ageing beside the PWR registers (R467–R487): detection of the ride under way; when the charger began; when
HOLD first reached 42 V after a cold reset, the last hold-up test and whether one is requested; operating time at
crystal count `opXt`, its last write to ring 64 and its value at the last epoch end; the last ageing, ring and slack
samples; equivalent ages in 2^-32 s (0 logic, 1–8 EQH, 9–12 AG); indicated steps of the last evaluation by item (0 lane, 1 store,
2 watermark, 3–10 boost, 11–14 calibration; 4 exhausted); the drift of each slice [0.1 LSB/h]; a lane step to be
taken and whether it is deferred or urgent; the epoch number, and whether its record and summary wait for the store; and which metrics
were measured since the reset (bit 0 SLACK, 1 BRW, 2 hold-up, 11 + g DRIFT of AGg). -/
structure PwrSt where
  rideAt : Nat := 0
  rideXt : Nat := 0
  chargeFrom : Nat := 0
  fullFrom : Option Nat := none
  testXt : Option Nat := none
  testReq : Bool := false
  opBase : Nat := 0
  opXt : Nat := 0
  opSaved : Nat := 0
  epochOp : Nat := 0
  sampleXt : Nat := 0
  ageXt : Nat := 0
  slackXt : Nat := 0
  ages : Table Nat := []
  prevInd : Table Nat := []
  drift : Table Nat := []
  laneTo : Option Nat := none
  laneDefer : Bool := false
  laneUrgent : Bool := false
  epoch : Nat := 0
  epochDue : Bool := false
  sensed : Nat := 0
deriving DecidableEq, Repr

/-- A firmware staging (R525): handle, target, SIZE; `stage` 0 data, 1 checks due. -/
structure FwStage where
  handle : Nat
  target : Nat
  size : Nat
  stage : Nat
deriving DecidableEq, Repr

/-- A firmware activation (R530–R536): handle, target, crystal count at acceptance and the LINK instant; `part` the lane or
group that changes next; lanes: 0 waits to leave, 1 loads, 2 is tested and copied, 3 reloads the old microcode; tests failed;
groups that failed. -/
structure FwAct where
  handle : Nat
  target : Nat
  fromXt : Nat
  from_ : Nat
  part : Nat
  phase : Nat
  tests : Nat
  failed : Nat
deriving DecidableEq, Repr

/-- Security, firmware and the service port beside the SEC registers: staging, activations; targets without valid code (lanes,
groups DG 0–7 and AG 8–11); when the security unit was last used (none: unpowered); USB_VBUS, suspend; failures of the
random source and when the newest one arose; the targets loaded since the reset; and of EP0 the address, the configuration,
whether the last request was stalled, and the halted bulk endpoints (bit 0 OUT, bit 1 IN; R518). -/
structure SecSt where
  stage : Option FwStage := none
  acts : List FwAct := []
  laneBad : Bool := false
  groupBad : Nat := 0
  unitAt : Option Nat := none
  vbus : Bool := false
  suspended : Bool := false
  rngFails : List Nat := []
  rngAt : Nat := 0
  loaded : Nat := 0
  usbAddr : Nat := 0
  usbConf : Nat := 0
  usbStall : Bool := false
  usbHalt : Nat := 0
deriving DecidableEq, Repr

/-- Why the machine stops with a fault. The spec gives every command an effect or none, so no meaning raises one. -/
inductive Fault
  /-- Raised by nothing; safe. -/
  | unused
deriving DecidableEq, Repr

/-- Why the machine refuses a command. -/
inductive Refusal
  /-- The command has no meaning yet: raised by the arm of Machine/Dispatch.lean that names it; safe. -/
  | notModelled (mnemonic : String)
deriving DecidableEq, Repr

/-- The whole machine: the time bases, the register file, the units, the counter of free values and the queue of
commands that wait, first in, first out. -/
structure State where
  time : TimeSt := {}
  regs : Table Nat := []
  ring : RingSt := {}
  clk : ClkSt := {}
  sto : StoSt := {}
  int : IntSt := {}
  mbx : MbxSt := {}
  img : ImgSt := {}
  scn : ScnSt := {}
  prg : PrgSt := {}
  fld : FieldSt := {}
  ana : AnaSt := {}
  ang : AngSt := {}
  plt : PltSt := {}
  pair : PairSt := {}
  rtc : RtcSt := {}
  pwr : PwrSt := {}
  sec : SecSt := {}
  free : Nat := 0
  pending : List Instr := []
deriving DecidableEq, Repr

/-- The module right after reset (R97, CLK-7: POR is the reset kind shown). Every register of the object maps stands at
its reset value, because the register file lists only what differs from it. -/
def State.reset : State :=
  { regs := [((F.CLK_STATUS_RESET_CAUSE.obj * 65536) * 65536 + F.CLK_STATUS_RESET_CAUSE.lo, 1)] }

end Sys2Proof.Machine
end

