-- ==== Sys2Proof/Machine/Ops.lean ====
section
/-!
DEFINITION. The named operations every meaning is built from: reading and writing fields of the register file, the time
bases, free values, the event recorder and the interrupt controller.
-/

namespace Sys2Proof

/-! ### The register file -/

/-- How many bits a field has. -/
def Fld.width (f : Fld) : Nat := f.hi + 1 - f.lo

/-- Where the register file keeps field `f` of object index `i`, entry offset `e`: no object has more than 65,536 indexes or
bits, and the key of an object never falls on another's. -/
def Fld.key (f : Fld) (i e : Nat) : Nat := (f.obj * 65536 + i % 65536) * 65536 + (f.lo + e) % 65536

namespace Machine

/-- The value of field `f` in object index `i`, in the entry that begins at bit `e`. -/
def State.rdE (s : State) (f : Fld) (i e : Nat) : Nat := Table.find f.dflt s.regs (f.key i e)

/-- The value of field `f` in object index `i`. -/
def State.rd (s : State) (f : Fld) (i : Nat := 0) : Nat := s.rdE f i 0

/-- Field `f` of object index `i`, entry at bit `e`, takes `v` (its low bits). -/
def State.wrE (s : State) (f : Fld) (i e v : Nat) : State :=
  { s with regs := Table.put f.dflt s.regs (f.key i e) (v % 2 ^ f.width) }

/-- Field `f` of object index `i` takes `v`. -/
def State.wr (s : State) (f : Fld) (v : Nat) (i : Nat := 0) : State := s.wrE f i 0 v

/-- A saturating counter field rises by `n`. -/
def State.inc (s : State) (f : Fld) (i : Nat := 0) (n : Nat := 1) : State :=
  s.wr f (min (2 ^ f.width - 1) (s.rd f i + n)) i

/-- A counter field rises by `n` up to `top`. -/
def State.incTo (s : State) (f : Fld) (i n top : Nat) : State := s.wr f (min top (s.rd f i + n)) i

/-- A one-bit field read as a truth value. -/
def State.is (s : State) (f : Fld) (i : Nat := 0) : Bool := decide (s.rd f i ≠ 0)

/-! ### Time -/

/-- Time passes: the LINK time base only while that domain runs (R27, R76). While the crystal stands, its periods are counted on
the stand-in of 1,000,000 / 32,768 station ticks, the remainder carried forward (R505). -/
def advance (dt : Elapsed) (s : State) : State :=
  let now := if s.time.link then s.time.now + dt.ns else s.time.now
  { s with time := { s.time with
      now := now
      xt := if s.is F.RTC_STATUS_XTAL_SUBST then s.rtc.subXt + (now - s.rtc.subAt) * 32768 / 1000000000
        else s.time.xt + dt.xtal } }

/-- Station time [µs] (R78). -/
def State.station (s : State) : Nat :=
  if s.time.stHeld then s.time.stBase else (s.time.stBase + (s.time.now - s.time.stAt) / 1000) % 2 ^ 64

/-- Station time as it stood or will stand at instant `t` of the LINK base. -/
def State.stationAt (s : State) (t : Nat) : Nat :=
  if s.time.stHeld then s.time.stBase
  else if s.time.stAt ≤ t then (s.time.stBase + (t - s.time.stAt) / 1000) % 2 ^ 64
  else s.time.stBase - (s.time.stAt - t) / 1000

/-- Station time is held from here on (R78, R91). -/
def holdStation (s : State) : State :=
  { s with time := { s.time with stBase := s.station, stAt := s.time.now, stHeld := true } }

/-- Station time is `v` at instant `at_` and runs on. -/
def setStation (s : State) (v at_ : Nat) : State :=
  { s with time := { s.time with stBase := v, stAt := at_, stHeld := false } }

/-- The RUN ticks the timers count (R183, R214): station ticks in RUN while the lane domain runs. -/
def State.runTicks (s : State) : Nat :=
  match s.time.runFrom with
  | some f => s.time.runAcc + (s.time.now - f) / 1000
  | none => s.time.runAcc

/-- RUN ticks stop counting. -/
def stopRunTicks (s : State) : State :=
  { s with time := { s.time with runAcc := s.runTicks, runFrom := none } }

/-- RUN ticks count from here. -/
def startRunTicks (s : State) : State :=
  { s with time := { s.time with runFrom := some s.time.now } }

/-- Crystal periods in `ms` milliseconds (R3). -/
def xtMs (ms : Nat) : Nat := ms * 32768 / 1000

/-! ### Free values -/

/-- The next free value. -/
def State.nextFree (s : State) : Nat := Config.free s.free

/-- The state after a free value was read. -/
def State.useFree (s : State) : State := { s with free := s.free + 1 }

/-- `n` free bytes from count `k` on. -/
def freeBytes (k n : Nat) : List Nat := (List.range n).map fun j => Config.free (k + j) % 256

/-! ### The modes -/

/-- The operating mode (SCN-1). -/
def State.mode (s : State) : Nat := s.rd F.SCN_MODE_MODE

/-- Modes of SCN-1. -/
def mINIT : Nat := 0
def mSTOP : Nat := 1
def mRUN : Nat := 2
def mHOLD : Nat := 3
def mFAULT : Nat := 4

/-- The module is TIMED (NRL-12). -/
def State.timed (s : State) : Bool := decide (s.rd F.NRL_STATE_MOD_ST = 4)

/-! ### The recorder (R456–R459) -/

/-- The calendar is valid: the oscillator-stopped flag is clear (STO-8). -/
def State.calValid (s : State) : Bool := !(s.is F.RTC_STATUS_OSF)

/-- The calendar in crystal periods since 2000 (R509): the periods since `base`, one more or less for each 2^20 / |TRIM| of them,
evenly spread (R511, assumption log 40). -/
def State.calendar (s : State) : Nat :=
  let n := s.time.xt - s.rtc.at_
  ((s.rtc.base : Int) + n + sgn 10 (s.rd F.RTC_TRIM_TRIM) * n / 2 ^ 20).toNat

/-- Operating time in crystal periods (R453). -/
def State.opTime (s : State) : Nat := s.pwr.opBase + (s.time.xt - s.pwr.opXt)

/-- Time mode and time of a record created now (STO-8). -/
def State.recTime (s : State) : Nat × Nat :=
  if s.timed && decide (s.rd F.CLK_STATUS_CLK_PHASE = 3) then (0, s.station)
  else if s.calValid then (1, s.calendar % 2 ^ 64)
  else (2, s.opTime % 2 ^ 64)

/-- The record of event `e` with ARG bytes `arg`, created now. -/
def State.mkRec (s : State) (e : Nat × Nat) (arg : List Nat) (seq : Option Nat) : Rec :=
  let t := s.recTime
  { seq := seq, tmode := t.1, sev := e.2, code := e.1, time := t.2
    cinch := if s.ring.latched then s.ring.cinch else 0
    arg := slice arg 0 8, xt := s.time.xt }

/-- A value of counter ring `k` (R451). -/
def State.ringValue (s : State) (k : Nat) : Nat := (Table.find ⟨0, 0, 0⟩ s.sto.rings k).value

/-- A counter ring takes an update: the next slot, the next SEQ (R451). -/
def ringUpdate (s : State) (k v : Nat) : State :=
  let r := Table.find (⟨63, 0, 0⟩ : CntRing) s.sto.rings k
  { s with sto := { s.sto with
      rings := Table.put ⟨63, 0, 0⟩ s.sto.rings k ⟨(r.slot + 1) % 64, r.seq + 1, v % 2 ^ 48⟩ } }

/-- Store writes are accepted: HOLD is at or above 30 V (R441). -/
def State.hold30 (s : State) : Bool := s.is F.CLK_START_HOLD_30

/-- The reserve rises by 1,024 when NEXT comes within 512 of it (R459). -/
def reserveCheck (s : State) : State :=
  if s.sto.nextSet && s.hold30 then
    let r := s.ringValue 66 % 2 ^ 32
    if (r + 2 ^ 32 - s.rd F.REC_STAT_NEXT) % 2 ^ 32 ≤ 512 then ringUpdate s 66 ((r + 1024) % 2 ^ 32) else s
  else s

/-- Occupancy of the recorder buffer. -/
def State.bufCnt (s : State) : Nat := s.sto.buf.length

/-- A record enters the buffer, and the flush triggers of STO-9 are judged. -/
def pushRec (s : State) (r : Rec) : State :=
  let s := { s with sto := { s.sto with buf := s.sto.buf ++ [r] } }
  let s := s.wr F.REC_STAT_BUFCNT s.bufCnt
  let due := if r.sev = 3 then 2 else if s.rd F.REC_STAT_WMARK ≤ s.bufCnt then 5 else 0
  { s with sto := { s.sto with flushDue :=
      if due = 0 then s.sto.flushDue else if s.sto.flushDue = 0 then due else min due s.sto.flushDue } }

/-- A record is created: it takes NEXT as its RSEQ once NEXT is set (R459). -/
def createRec (s : State) (e : Nat × Nat) (arg : List Nat) : State :=
  if s.sto.nextSet then
    let n := s.rd F.REC_STAT_NEXT
    reserveCheck ((pushRec s (s.mkRec e arg (some n))).wr F.REC_STAT_NEXT (n + 1))
  else pushRec s (s.mkRec e arg none)

/-- Latch bit `b` of INT.LATCH reads 1 (R492). The bits lie in the field constants of INT-6. -/
def latchFld (b : Nat) : Fld × Nat :=
  if b < 4 then (F.INT_LATCH_ANGEV, b)
  else if b < 8 then (F.INT_LATCH_SYNC, b - 4)
  else if b < 18 then (F.INT_LATCH_PLT, b - 8)
  else if b = 18 then (F.INT_LATCH_POWER_FAIL, 0)
  else if b = 19 then (F.INT_LATCH_AGEING, 0)
  else if b = 20 then (F.INT_LATCH_MODE, 0)
  else if b = 22 then (F.INT_LATCH_STORE, 0)
  else if b = 23 then (F.INT_LATCH_RECORDER, 0)
  else (F.INT_LATCH_RING, 0)

/-- Whether latch bit `b` is set. -/
def State.latch (s : State) (b : Nat) : Bool := (s.rd (latchFld b).1).testBit (latchFld b).2

/-- Latch bit `b` takes `v`. -/
def putLatch (s : State) (b : Nat) (v : Bool) : State :=
  let f := latchFld b
  s.wr f.1 (setBits (s.rd f.1) f.2 f.2 (b2n v))

/-! ### The interrupt controller (R491–R501) -/

/-- The entry object and index of source `n` (R502). -/
def entryOf (n : Nat) : Nat × Nat :=
  if n < 64 then (F.objINT_SUP, n)
  else if n < 192 then (F.objINT_COS, n - 64)
  else if n < 216 then (F.objINT_GRP, n - 192)
  else if n < 280 then (F.objINT_WIN, n - 216)
  else (F.objINT_SYS, n - 280)

/-- A field of the entry of source `n` (INT-5). -/
def State.entry (s : State) (n : Nat) (f : Fld) : Nat :=
  let e := entryOf n
  s.rdE { f with obj := e.1 } 0 (32 * e.2)

/-- Entry fields of source `n`. -/
def State.srcEn (s : State) (n : Nat) : Bool := decide (s.entry n F.INT_COS_EN ≠ 0)
def State.srcTarget (s : State) (n : Nat) : Nat :=
  if n < 32 then 0 else if n < 64 then 1 else s.entry n F.INT_COS_TARGET
def State.srcPrio (s : State) (n : Nat) : Nat := s.entry n F.INT_COS_PRIO
def State.srcTask (s : State) (n : Nat) : Nat := s.entry n F.INT_COS_TASK

/-- The state of source `n` (INT-3). -/
def State.srcState (s : State) (n : Nat) : Nat := s.rdE F.INT_STATE_ST 0 (2 * n)

/-- Source `n` takes state `v`. -/
def putSrc (s : State) (n v : Nat) : State := s.wrE F.INT_STATE_ST 0 (2 * n) v

/-- Source `n` is masked by a storm (R499). -/
def State.stormed (s : State) (n : Nat) : Bool := decide (s.rdE F.INT_STORMED_M 0 n ≠ 0)

/-- The split point of target `t` (R495). -/
def State.priGroup (s : State) (t : Nat) : Nat :=
  match t with
  | 0 => s.rd F.INT_CFG_PRIGROUP_SV0
  | 1 => s.rd F.INT_CFG_PRIGROUP_SV1
  | 2 => s.rd F.INT_CFG_PRIGROUP_TASKS
  | _ => s.rd F.INT_CFG_PRIGROUP_HOST

/-- The group priority of source `n`. -/
def State.groupPrio (s : State) (n : Nat) : Nat := s.srcPrio n >>> s.priGroup (s.srcTarget n)

/-- The order of R495 as a number: a larger number ranks first. -/
def State.srcRank (s : State) (n : Nat) : Nat :=
  let g := s.priGroup (s.srcTarget n)
  ((s.srcPrio n >>> g) * 256 + s.srcPrio n % 2 ^ g) * 512 + (511 - n)

/-- The sources in the list with their highest rank first; 0 sources: none. -/
def State.topSource (s : State) (l : List Nat) : Option Nat :=
  l.foldl (fun b n => match b with
    | none => some n
    | some m => if s.srcRank m < s.srcRank n then some n else some m) none

/-- Whether a source's condition holds now (INT-1, INT-2). -/
def State.condition (s : State) (n : Nat) : Bool :=
  if n < 64 then
    match n % 32 with
    | 0 => !s.mbx.ring.isEmpty
    | 1 => decide (s.mbx.cq.length + 66 ≤ 2048)
    | 2 => decide (s.rd F.MBX_CFG_CQ_TIMEOUT ≤ (s.time.now - s.mbx.ackAt) / 1000) && s.mbx.cq.any (·.placed)
    | 5 => decide (s.rd F.REC_STAT_WMARK ≤ s.bufCnt)
    | 6 => decide (s.clk.svSilent = if n < 32 then 2 else 1)
    | _ => false
  else if n < 192 then (s.rd F.DG_COS_COS ((n - 64) / 16)).testBit ((n - 64) % 16)
  else if n < 200 then
    (List.range 16).any fun k => decide (s.rd F.DG_CHSTAT_LATCH (16 * (n - 192) + k) ≠ 0)
  else if n < 204 then
    (List.range 16).any fun k => decide (s.rd F.AG_CHSTAT_LATCH (16 * (n - 200) + k) ≠ 0)
  else if n < 212 then decide ((s.rd F.DG_GSTAT_WORD (n - 204)) &&& 0xB6000000 ≠ 0)
  else if n < 216 then
    let g := n - 212
    s.is F.AG_GSTAT_FRAME_STALE g || s.is F.AG_GSTAT_NO_SUPPLY g || s.is F.AG_GSTAT_AV_LOW g ||
      s.is F.AG_GSTAT_AV_HIGH g || s.is F.AG_GSTAT_REIN_STOPPED g
  else if n < 280 then s.is F.PPR_WINSTAT_EVENT (n - 216)
  else if n = 301 then decide (s.mode = mFAULT)
  else if n < 305 then s.latch (n - 280)
  else if n = 305 then
    s.is F.CLK_EVENTS_REF_SWITCH || s.is F.CLK_EVENTS_LCLK_LOST || s.is F.CLK_EVENTS_JUDGE_FAIL ||
      s.is F.CLK_EVENTS_PLL_OOR || s.is F.CLK_EVENTS_ANN_MISSED || s.is F.CLK_EVENTS_RELOCK_LATE ||
      s.is F.CLK_EVENTS_PARK_ANN
  else if n = 306 then s.is F.IMG_STATUS_PIN_BROKEN
  else if n = 307 then s.is F.RTC_STATUS_ALARM || s.is F.RTC_STATUS_WAKE
  else if n = 308 then decide (2 ≤ s.rd F.SEC_RNG_STATE)
  else false

/-- The active HOST sources (R498). -/
def State.hostActive (s : State) : List Nat :=
  (List.range 309).filter fun n =>
    decide (64 ≤ n) && s.srcEn n && decide (s.srcTarget n = 3) && decide (s.srcState n = 2)

/-- The bytes of a sub-record of type `t` for `dest` (NRL-8). -/
def subRecord (s : State) (t dest : Nat) (body : List Nat) : List Nat :=
  let h := [t, s.rd F.NRL_POS_POS, dest, 0] ++ leBytes 2 body.length ++ [0, 0] ++ body
  h ++ leBytes 4 (crc32 h)

/-- A sub-record becomes ready for a carrier (R51). -/
def queueSub (s : State) (t dest : Nat) (body : List Nat) : State :=
  { s with ring := { s.ring with subq := s.ring.subq ++ [.sub (subRecord s t dest body)] } }

/-- HOST_CNT, HOST_TOP and the ATTN sub-record of R52 after a HOST source changed. -/
def attnCheck (s : State) : State :=
  let l := s.hostActive
  let s := s.wr F.INT_STAT_HOST_CNT l.length
  match s.topSource l with
  | none =>
    { s with ring := { s.ring with attnLast := none } } |>.wr F.INT_STAT_HOST_TOP 0
  | some n =>
    let s := s.wr F.INT_STAT_HOST_TOP n
    let new := match s.ring.attnLast with
      | none => true
      | some g => decide (g < s.groupPrio n)
    if new then
      let s := queueSub s 3 0xFE (leBytes 2 n ++ leBytes 2 l.length ++ leBytes 4 s.station)
      { s with ring := { s.ring with attnLast := some (s.groupPrio n) } }
    else s

/-- A HOST source enters ACTIVE: its window count rises, and beyond STORM_MAX the controller masks it (R499). The
counts are the entries of `entries` from 1,024 on. -/
def stormCount (s : State) (n : Nat) : State :=
  let c := Table.find 0 s.int.entries (1024 + n) + 1
  let s := { s with int := { s.int with entries := Table.put 0 s.int.entries (1024 + n) c } }
  let m := s.rd F.INT_CFG_STORM_MAX
  if m ≠ 0 ∧ m < c then
    createRec (((putSrc s n 0).wrE F.INT_STORMED_M 0 n 1).inc F.INT_STAT_STORMS) Ev.STORM
      (leBytes 2 n ++ [0, 0] ++ leBytes 4 m)
  else s

/-- The state change of INT-3 or R498 when the condition of source `n` rises or falls. -/
def srcEdge (s : State) (n : Nat) (rise : Bool) : State :=
  if !s.srcEn n || s.stormed n then putSrc s n 0
  else if s.srcTarget n = 3 ∧ 64 ≤ n then
    if rise then stormCount (putSrc s n 2) n else putSrc s n 0
  else
    match s.srcState n, rise with
    | 0, true => putSrc s n 1
    | 1, false => putSrc s n 0
    | 2, true => (putSrc s n 3).inc F.INT_STAT_REFIRE
    | 3, true => s.inc F.INT_STAT_REFIRE
    | _, _ => s

/-- The controller looks at source `n` afresh: its state follows its condition. The EVENT domain carries it (R501):
while the domain stands, or before STOP-ready, nothing changes. -/
def hostSync (n : Nat) (s : State) : State :=
  if !(s.clk.event && s.clk.stopReady) then s
  else
    let c := s.condition n
    if c = s.int.asserted.testBit n then s
    else
      let s := { s with int := { s.int with asserted := s.int.asserted ^^^ 2 ^ n } }
      attnCheck (srcEdge s n c)

/-- A latch is set by its event, and its source follows (R492). -/
def setLatch (b : Nat) (s : State) : State := hostSync (280 + b) (putLatch s b true)

/-- An event is reported to the recorder (R458): refused and counted while the buffer is full, with DROPPED created as
soon as there is room. Latches RECORDER and STORE follow their records (INT-1). -/
def log (e : Nat × Nat) (arg : List Nat) (s : State) : State :=
  if s.sto.sealed then s
  else if 256 ≤ s.bufCnt then
    { s.inc F.REC_STAT_DROPPED with sto := { s.sto with droppedNow := s.sto.droppedNow + 1 } }
  else
    let s := hostSync 37 (hostSync 5 (createRec s e arg))
    if e = Ev.UNCORR ∨ e = Ev.INCONSISTENT then setLatch 22 s
    else if e = Ev.LOST ∨ e = Ev.DROPPED then setLatch 23 s
    else s

/-- A bit of CLK.EVENTS is set; the recorder logs CLOCK_EVENT and source 305 follows. -/
def clockEvent (f : Fld) (s : State) : State :=
  hostSync 305 (log Ev.CLOCK_EVENT (leBytes 4 (2 ^ f.lo)) (s.wr f 1))

/-- A command whose event cannot happen in this state changes nothing but the clocks (assumption log 3). -/
def noEffect (s : State) : State := s

/-- The cinch number of the cycle now, 0 before the first. -/
def State.cinchNow (s : State) : Nat := if s.ring.latched then s.ring.cinch else 0

end Machine

end Sys2Proof
end

