-- ==== Sys2Proof/Machine/DigitalOps.lean ====
section
/-!
DEFINITION. Shared operations of the digital field dies: diagnostics (R346, R347), switching a stage (R333–R344), the
reservoir (R341–R343), sensor feeds (R345), the group status word (R358) and the frozen input frame.
-/

namespace Sys2Proof.Machine

/-- Channel DC`c`. -/
def State.dch (s : State) (c : Nat) : DgCh := Table.find {} s.fld.dg c

/-- Channel DC`c` takes `x`. -/
def putDch (s : State) (c : Nat) (x : DgCh) : State :=
  { s with fld := { s.fld with dg := Table.put {} s.fld.dg c x } }

/-- Group DG`g`. -/
def State.dgg (s : State) (g : Nat) : DgGrp := Table.find {} s.fld.dgg g

/-- Group DG`g` takes `x`. -/
def putDgg (s : State) (g : Nat) (x : DgGrp) : State :=
  { s with fld := { s.fld with dgg := Table.put {} s.fld.dgg g x } }

/-- The group of a channel, its number in the group, and whether it is fast (R325). -/
def grp (c : Nat) : Nat := c / 16
def isFast (c : Nat) : Bool := decide (c % 16 < 2)

/-- Mode of a channel (DIG-2). -/
def State.dmode (s : State) (c : Nat) : Nat := s.rd F.DG_CH_MODE c

/-- The channel is in an output mode. -/
def State.isOut (s : State) (c : Nat) : Bool := decide (3 ≤ s.dmode c) && decide (s.dmode c ≤ 5)

/-- The group's controller holds its code (R103). -/
def State.dgLoaded (s : State) (g : Nat) : Bool := (s.rd F.CLK_START_DG_LOADED).testBit g

/-- Group `g` (0–7 DGg, 8–11 AGg) runs its code, if only that of before a reset (CLK-10). -/
def State.dieRuns (s : State) (g : Nat) : Bool := s.clk.dieCode.testBit g

/-- The die of group `g` holds its code, or no longer (CLK-10). -/
def setDie (s : State) (g : Nat) (b : Bool) : State :=
  { s with clk := { s.clk with dieCode := setBits s.clk.dieCode g g (b2n b) } }

/-- The store marks the object of channel `c` INCONSISTENT (R180). -/
def State.inconsistent (s : State) (obj i : Nat) : Bool := s.sto.incons.any fun p => decide (p = (obj, i))

/-! ### The reservoir -/

/-- Q_B of a fast channel [µC]; 0 where boost is off. -/
def State.qB (s : State) (c : Nat) : Nat :=
  let i := 2 * (c / 16) + c % 16
  if isFast c && s.is F.DG_BOOST_EN i then 10 * s.rd F.DG_BOOST_CURRENT i * s.rd F.DG_BOOST_TIME i else 0

/-- Q_max of a group [µC]. -/
def State.qMax (s : State) (g : Nat) : Nat := max (s.qB (16 * g)) (s.qB (16 * g + 1))

/-- C_meas of a group [µF]: the declared value until it is measured (R343). -/
def State.cMeas (s : State) (g : Nat) : Nat :=
  let m := s.rd F.DG_GSTAT_BC_CMEAS g
  10 * (if m = 0 then s.rd F.DG_GROUP_BC_DECL g else m)

/-- The factor k_B in percent (R341). -/
def kB (step : Nat) : Nat := 100 - 15 * step

/-- The charger runs: the group operates and L+ is at or below 31.0 V (R341). -/
def State.charging (s : State) (g : Nat) : Bool :=
  let x := s.dgg g
  s.dieRuns g && decide (1 ≤ x.supply) && decide (x.supply ≤ 2) && !x.bcFault

/-- V_BC now [µV]: 0.30 A × k_B into C_meas, up to 48.0 V (R341, assumption log 14). -/
def State.vbc (s : State) (g : Nat) : Nat :=
  let x := s.dgg g
  let c := s.cMeas g
  if c = 0 then 0
  else if s.charging g then
    min 48000000 (x.vbc + 3 * kB (s.rd F.DG_GSTAT_BSTEP g) * (s.time.now - x.vbcAt) / c)
  else x.vbc

/-- V_BC is taken down at this instant, so that the charger's state may change. -/
def settleBc (s : State) (g : Nat) : State := putDgg s g { s.dgg g with vbc := s.vbc g, vbcAt := s.time.now }

/-- Boosts available (R342); 0 with BC_FAULT or without a fast channel in peak-and-hold operation. -/
def State.boosts (s : State) (g : Nat) : Nat :=
  if (s.dgg g).bcFault ∨ s.qMax g = 0 ∨ s.vbc g < 36000000 then 0
  else min 15 (s.cMeas g * (s.vbc g - 36000000) / (1000000 * s.qMax g))

/-- The boost rate of a group [per s] (R342). -/
def State.boostRate (s : State) (g : Nat) : Nat :=
  if s.qMax g = 0 then 0 else 3000 * kB (s.rd F.DG_GSTAT_BSTEP g) / s.qMax g

/-- A boost of channel `c` can be covered (R342). -/
def State.boostOk (s : State) (c : Nat) : Bool :=
  let g := grp c
  decide (0 < s.cMeas g) && decide (s.qB c ≠ 0) && !(s.dgg g).bcFault &&
    decide (36000000 + 1000000 * s.qB c / s.cMeas g ≤ s.vbc g)

/-! ### The group status word (DIG-12) -/

/-- The status word of group `g`. -/
def State.dgWord (s : State) (g : Nat) : Nat :=
  let x := s.dgg g
  2 ^ 31 * b2n (decide (0 < x.bad)) + 2 ^ 30 * b2n (decide (3 ≤ x.bad) || decide (x.supply = 0)) +
    2 ^ 29 * b2n (decide (x.supply = 0)) + 2 ^ 28 * b2n (decide (x.rein ≠ 0)) + 2 ^ 27 * s.rd F.DG_GROUP_COMPAT g +
    2 ^ 26 * b2n (decide (x.supply = 1)) + 2 ^ 25 * b2n (decide (x.supply = 3)) + 2 ^ 24 * b2n x.ovc +
    2 ^ 23 * b2n x.sfGrp + 2 ^ 22 * b2n x.bcFault + 2 ^ 21 * b2n x.bcLow + 2 ^ 20 * b2n x.sense +
    2 ^ 19 * b2n x.released + 2 ^ 17 * x.safe + 2 ^ 16 * b2n x.warm + 2 ^ 12 * s.boosts g + x.lplus % 4096

/-- DGg.GROUP.STAT follows the group, and so does its interrupt source. -/
def dgSync (s : State) (g : Nat) : State :=
  hostSync (204 + g) ((((s.wr F.DG_GSTAT_WORD (s.dgWord g) g).wr F.DG_GSTAT_RATE (min 255 (s.boostRate g)) g).wr
    F.DG_GSTAT_BC_V (s.vbc g / 100000) g))

/-- A change of group `g` with its status word. -/
def updDgg (s : State) (g : Nat) (f : DgGrp → DgGrp) : State := dgSync (putDgg s g (f (s.dgg g))) g

/-! ### Diagnostics -/

/-- A DIAG record under the limit of one per channel and diagnostic per second (R347): suppressed records are counted,
and SUPPRESSED precedes the next record made (assumption log 15). Keys 0–1023 are digital, from 1,024 on analogue. -/
def logDiag (s : State) (key : Nat) (e : Nat × Nat) (arg : List Nat) : State :=
  let due := match s.fld.diagAt.find? fun p => decide (p.1 = key) with
    | none => true
    | some p => decide (p.2 + 32768 ≤ s.time.xt)
  if due then
    let n := s.fld.suppressed
    let s := if n = 0 then s
      else log Ev.SUPPRESSED ([if key < 1024 then 1 else 2, 0, 0, 0] ++ leBytes 4 n) s
    log e arg { s with fld := { s.fld with
      diagAt := Table.insert (Table.drop s.fld.diagAt key) key s.time.xt, suppressed := 0 } }
  else { s with fld := { s.fld with suppressed := s.fld.suppressed + 1 } }

/-- An on-state diagnostic enters the report of a drill whose dwell runs on this module (R294, PLT-8). -/
def drillFault (s : State) (f : Drill → Drill) : State :=
  match s.pair.drill with
  | some d => if d.side = 1 ∧ d.phase = 1 then { s with pair := { s.pair with drill := some (f d) } } else s
  | none => s

/-- Diagnostic `k` of channel `c` holds: PRESENT and LATCH are set, a rising PRESENT is logged (R346, R347). -/
def setPresent (s : State) (c k : Nat) : State :=
  let p := s.rd F.DG_CHSTAT_PRESENT c
  let s' := (s.wr F.DG_CHSTAT_PRESENT (setBits p k k 1) c).wr F.DG_CHSTAT_LATCH
    (setBits (s.rd F.DG_CHSTAT_LATCH c) k k 1) c
  let s' := if k = 0 ∨ 3 ≤ k ∧ k ≤ 5 then drillFault s' (fun d => { d with doFault := d.doFault ||| 2 ^ c }) else s'
  hostSync (192 + grp c) (if p.testBit k then s' else logDiag s' (8 * c + k) Ev.DIAG [c, k])

/-- Diagnostic `k` of channel `c` is over. -/
def clearPresent (s : State) (c k : Nat) : State :=
  s.wr F.DG_CHSTAT_PRESENT (setBits (s.rd F.DG_CHSTAT_PRESENT c) k k 0) c

/-- Whether diagnostic `k` of channel `c` is present. -/
def State.present (s : State) (c k : Nat) : Bool := (s.rd F.DG_CHSTAT_PRESENT c).testBit k

/-! ### Switching a stage -/

/-- The group lets its outputs be driven at all (DIG-10, first rows). -/
def State.outputsOn (s : State) (g : Nat) : Bool :=
  let x := s.dgg g
  s.dieRuns g && (decide (x.supply = 1) || decide (x.supply = 2)) && !x.released

/-- The stage of channel `c` goes off: at a switch-off the terminal is clamped (R338), and a boost ends. -/
def stageOff (s : State) (c : Nat) : State :=
  let x := s.dch c
  let s := putDch s c { x with drv := false, term := false, boost := 0 }
  if x.drv then s.wr F.DG_CHSTAT_CLAMP 1 c else s

/-- The stage of channel `c` goes on, with a boost where one is asked for and can be covered (R339, R340). -/
def stageOn (s : State) (c : Nat) (boost : Bool) : State :=
  let x := s.dch c
  let i := 2 * (c / 16) + c % 16
  if x.drv then s
  else if isFast c && s.is F.DG_BOOST_EN i && (decide (s.dmode c = 3) || decide (s.dmode c = 5)) then
    if boost then
      if s.boostOk c then
        let g := grp c
        let s := settleBc s g
        let s := putDgg s g { s.dgg g with vbc := (s.dgg g).vbc - 1000000 * s.qB c / s.cMeas g }
        dgSync (putDch s c { x with drv := true, term := true, seen := true, used := true, boost := 1 }) g
      else
        (putDch s c { x with drv := true, term := true, seen := true, used := true, boost := 2 }).wr F.DG_CHSTAT_BSHORT 1 c
    else putDch s c { x with drv := true, term := true, seen := true, used := true, boost := 2 }
  else putDch s c { x with drv := true, term := true, seen := true, used := true }

/-- What keeps an on-command waiting (R344): a clamp, an over-temperature or an overload retry. -/
def State.mustWait (s : State) (c : Nat) : Bool :=
  s.is F.DG_CHSTAT_CLAMP c || s.present c 4 || (s.dch c).retry

/-- A command reaches the stage of channel `c` (R335, R344). An off-command clears PENDING and LOCKED. -/
def drive (s : State) (c : Nat) (on boost : Bool) (ev : Option Nat := none) : State :=
  let s := putDch s c { s.dch c with cmd := on }
  if !on then
    let s := (s.wr F.DG_CHSTAT_PENDING 0 c).wr F.DG_CHSTAT_LOCKED 0 c
    stageOff (putDch s c { s.dch c with pendEv := none, retry := false }) c
  else if !(s.outputsOn (grp c)) ∨ s.is F.DG_CHSTAT_LOCKED c ∨ (s.dch c).drv then s
  else if s.mustWait c then (putDch s c { s.dch c with pendEv := ev }).wr F.DG_CHSTAT_PENDING 1 c
  else stageOn s c boost

/-- A cause of PENDING has ended; the latched command executes when none is left. Answers the angle event it came
from. -/
def endWait (s : State) (c : Nat) : State × Option Nat :=
  let x := s.dch c
  if x.cmd && !x.drv && !(s.mustWait c) && s.outputsOn (grp c) && !(s.is F.DG_CHSTAT_LOCKED c) then
    let ev := if s.is F.DG_CHSTAT_PENDING c then x.pendEv else none
    let s := (putDch s c { x with pendEv := none }).wr F.DG_CHSTAT_PENDING 0 c
    (stageOn s c false, ev)
  else (s, none)

/-- Channel `c` is switched off by an overload: retry or lock (R335). -/
def overloadOff (s : State) (c : Nat) : State :=
  let s := setPresent (stageOff s c) c 3
  if s.rd F.DG_CH_OVL_ACT c = 0 then putDch s c { s.dch c with retry := true }
  else s.wr F.DG_CHSTAT_LOCKED 1 c

/-! ### PWM (R334) -/

/-- On-time and period of a duty in the steps of the channel kind, with the minimum times (R334, DIG-1). -/
def pwmTimes (s : State) (c d : Nat) : Nat × Nat :=
  let per := s.rd F.DG_CH_PWM_PER c * (if isFast c then 100 else 10)
  let on := if d = 65535 then per else (per * d * 2 + 65536) / 131072
  (if on < 20 then 0 else if per < on + 20 then per else on, per)

/-- A PWM period of channel `c` begins with the newest duty. -/
def pwmStart (s : State) (c : Nat) : State :=
  let x := s.dch c
  let t := pwmTimes s c x.duty
  let s := putDch s c { x with dutyOn := x.duty, onPart := decide (0 < t.1) }
  drive s c (decide (0 < t.1)) false

/-! ### Safe values (DIG-10, R180) -/

/-- The output state of a safe value code: OFF, ON, or HOLD of the last committed value. -/
def safeState (code : Nat) (held : Bool) : Bool :=
  match code with
  | 0 => false
  | 1 => true
  | _ => held

/-- Channel `c` takes its safe value of kind 1 STOP or 2 FAULT. -/
def driveSafe (s : State) (c kind : Nat) : State :=
  let code := if kind = 2 then s.rd F.DG_CH_FAULT_SAFE c else s.rd F.DG_CH_STOP_SAFE c
  let x := s.dch c
  match s.dmode c with
  | 3 => drive s c (safeState code x.bit) false
  | 5 => if code = 2 then s else drive s c (safeState code x.bit) false
  | 4 =>
    if code = 2 then s
    else pwmStart (putDch s c { x with duty := if code = 1 then 65535 else 0 }) c
  | _ => s

/-- The group that an output action of event entry `e` targets; none for other actions. -/
def State.evGroup (s : State) (e : Nat) : Option Nat :=
  let a := s.rd F.ANG_EV_ACTION e
  if 1 ≤ a ∧ a ≤ 3 then some (s.rd F.ANG_EV_TARGET e % 16 / 2) else none

/-- The angle commands a digital group holds are discarded (R354). -/
def dropAngle (s : State) (g : Nat) : State :=
  { s with ang := { s.ang with
      cmds := s.ang.cmds.filter fun x => decide (s.evGroup x.entry ≠ some g)
      pulses := s.ang.pulses.filter fun x => decide (x.chan / 16 ≠ g) } }

/-! ### The frozen input frame (IMG-2, R329, R330, R347, R348, R352) -/

/-- Input state of a channel in the image. -/
def State.inState (s : State) (c : Nat) : Bool :=
  (decide (s.dmode c = 1) || decide (s.dmode c = 2)) && ((s.dch c).raw != s.is F.DG_CH_INV c)

/-- Readback bit of a channel in the image. -/
def State.readback (s : State) (c : Nat) : Bool :=
  match s.dmode c with
  | 3 => (s.dch c).term
  | 5 => (s.dch c).term
  | 4 => (s.dch c).seen
  | _ => false

/-- The 16 bits of a group given per channel, as a number. -/
def bits16 (f : Nat → Bool) : Nat := ((List.range 16).map fun k => 2 ^ k * b2n (f k)).foldl (· + ·) 0

/-- The frame of group `g` enters the I field part; `good` says that it arrived and passed its check (R148). From the
third image without a good frame, and without supply, the group holds no valid input (R352). -/
def freezeDg (s : State) (good : Bool) (g : Nat) : State :=
  let x := s.dgg g
  let good := good && s.dgLoaded g && decide (x.supply ≠ 0)
  let x := { x with bad := if good ∨ x.supply = 0 then 0 else x.bad + 1 }
  let s := putDgg s g x
  let dead := decide (3 ≤ x.bad) || decide (x.supply = 0)
  let put (m : Memory) (st ini dia rb : Nat) : Memory :=
    memSet (memSet (memSet (memSet m (2 * g) 2 st) (0x10 + 2 * g) 2 ini) (0x20 + 2 * g) 2 dia) (0x30 + 2 * g) 2 rb
  let i := s.img.i
  let i :=
    if dead then
      let m := put i 0 0xFFFF 0xFFFF 0
      (List.range 16).foldl (fun m k => memSet m (0x40 + 4 * (16 * g + k)) 4 0) m
    else if good then
      let m := put i (bits16 fun k => s.inState (16 * g + k)) (bits16 fun k => s.is F.DG_CHSTAT_INIT (16 * g + k))
        (bits16 fun k => decide (s.rd F.DG_CHSTAT_PRESENT (16 * g + k) ≠ 0)) (bits16 fun k => s.readback (16 * g + k))
      (List.range 16).foldl (fun m k =>
        let c := 16 * g + k
        memSet m (0x40 + 4 * c) 4 (if s.dmode c = 2 then s.rd F.DG_CNT_CNT c else 0)) m
    else i
  let s := dgSync { s with img := { s.img with i := memSet i (0x490 + 4 * g) 4 (s.dgWord g) } } g
  if good then
    let s := (List.range 16).foldl (fun s k =>
      let c := 16 * g + k
      putDch s c { s.dch c with seen := (s.dch c).drv }) s
    let x := s.dgg g
    let s := if x.voted then { s with fld := { s.fld with
        reports := s.fld.reports ++ [⟨g, x.split, x.crcDiff⟩] } } else s
    dgSync (putDgg s g { x with ovc := false, sfGrp := false, split := 0, crcDiff := false, voted := false }) g
  else s

/-- With COS_CLR = 1 the change bits of a group are cleared as an image is built (R332). -/
def cosClear (s : State) (g : Nat) : State :=
  if s.is F.DG_GROUP_COS_CLR g then
    let s := s.wr F.DG_COS_COS 0 g
    (List.range 16).foldl (fun s k => hostSync (64 + 16 * g + k) s) s
  else s

/-! ### What digital and analogue groups share -/

/-- The supply state of DIG-9 at an L+ of `v` [10 mV], from the state before. -/
def supplyOf (old v : Nat) (reached mOpen : Bool) : Nat :=
  if mOpen ∨ v < 1600 then 0
  else if 3100 < v then 3
  else if old = 3 ∧ 3050 ≤ v then 3
  else if v < 1900 then (if reached then 1 else 0)
  else if old = 0 ∧ v < 1920 ∧ !reached then 0
  else 2

/-- The lanes whose copies count: not excluded, and received with a good FC. -/
def goodCopies (x : CopySet) (bad : Nat) : List Nat :=
  (List.range 3).filter fun k => !(x.exclude.testBit k) && !(bad.testBit k)

/-- An item of the copies that count: its decision and the lanes that differed from one another. -/
def voteItem (x : CopySet) (ks : List Nat) (med : Bool) (f : Memory → Int) : Option Int × Nat :=
  let vs := ks.map fun k => f (x.q.get k)
  let r := vote3 med vs
  let agree := match vs with
    | [] => true
    | v :: r => r.all fun w => decide (w = v)
  let diff := if agree then [] else ks.filter fun k => match r with
    | some d => decide (f (x.q.get k) ≠ d)
    | none => true
  (r, (diff.map fun k => 2 ^ k).foldl (· ||| ·) 0)

/-- Bits set in either number. -/
def orBits (a b : Nat) : Nat := a ||| b

/-- The command that reaches group `g` next (ARC-4). -/
def State.nextCmd (s : State) (g : Nat) : Option Nat := (s.fld.cmds.find? fun p => decide (p.1 = g)).map (·.2)

/-- The command for group `g` that came first leaves the link. -/
def dropCmd (g : Nat) : List (Nat × Nat) → List (Nat × Nat)
  | [] => []
  | p :: l => if p.1 = g then l else p :: dropCmd g l

end Sys2Proof.Machine
end

