-- ==== Sys2Proof/Machine/AnalogueOps.lean ====
section
/-!
DEFINITION. Shared operations of the analogue field dies: ranges (ANA-2), output stages (R368, ANA-10), diagnostics
(R382), quads (R384), the group status word (ANA-13), and the frozen frame of a group.
-/

namespace Sys2Proof.Machine

/-- Channel AC`c`, its open-wire test, position `i` = 4 g + p, group AG`g`, and window `w`. -/
def State.ach (s : State) (c : Nat) : AnCh := Table.find {} s.ana.ch c
def State.aslot (s : State) (c : Nat) : AnSlot := Table.find {} s.ana.slot c
def State.apos (s : State) (i : Nat) : AnPos := Table.find {} s.ana.pos i
def State.agg (s : State) (g : Nat) : AnGrp := Table.find {} s.ana.grp g
def State.awin (s : State) (w : Nat) : WinSt := Table.find {} s.ana.win w

/-- Each takes a new value. -/
def putAch (s : State) (c : Nat) (x : AnCh) : State := { s with ana := { s.ana with ch := Table.put {} s.ana.ch c x } }
def putAslot (s : State) (c : Nat) (x : AnSlot) : State :=
  { s with ana := { s.ana with slot := Table.put {} s.ana.slot c x } }
def putApos (s : State) (i : Nat) (x : AnPos) : State :=
  { s with ana := { s.ana with pos := Table.put {} s.ana.pos i x } }
def putAgg (s : State) (g : Nat) (x : AnGrp) : State :=
  { s with ana := { s.ana with grp := Table.put {} s.ana.grp g x } }
def putAwin (s : State) (w : Nat) (x : WinSt) : State :=
  { s with ana := { s.ana with win := Table.put {} s.ana.win w x } }

/-- Mode and range of a channel in force (ANA-1, ANA-2). -/
def State.amode (s : State) (c : Nat) : Nat := s.rd F.AG_CH_MODE c
def State.arange (s : State) (c : Nat) : Nat := s.rd F.AG_CH_RANGE c

/-- The quad of a channel within its group, and the position that converts it (R362, R395). -/
def quadOf (c : Nat) : Nat := c % 16 / 4
def posOf (c : Nat) : Nat := c % 4

/-- Nominal range and span of a mode and range [base unit] (ANA-2); none where the table lists no such pair. -/
def rangeOf (mode range : Nat) : Option ((Int × Int) × (Int × Int)) :=
  match mode, range with
  | 1, 0 => some ((0, 20000000), (0, 24000000))
  | 2, 0 => some ((0, 20000000), (0, 24000000))
  | 1, 1 => some ((4000000, 20000000), (0, 24000000))
  | 2, 1 => some ((4000000, 20000000), (0, 24000000))
  | 1, 2 => some ((-20000000, 20000000), (-24000000, 24000000))
  | 3, 0 => some ((-10000000, 10000000), (-11500000, 11500000))
  | 3, 1 => some ((0, 10000000), (-500000, 11500000))
  | 3, 2 => some ((-2500000, 2500000), (-2875000, 2875000))
  | 4, 0 => some ((-200000, 850000), (-200000, 850000))
  | 4, 1 => some ((-200000, 850000), (-200000, 850000))
  | 4, 2 => some ((-60000, 250000), (-60000, 250000))
  | 5, 0 => some ((0, 400000), (0, 440000))
  | 5, 1 => some ((0, 4000000), (0, 4400000))
  | 6, 0 => some ((0, 20000000), (0, 24000000))
  | 6, 1 => some ((4000000, 20000000), (3800000, 20500000))
  | 7, 0 => some ((0, 10000000), (0, 10500000))
  | 7, 1 => some ((-10000000, 10000000), (-10500000, 10500000))
  | _, _ => none

/-- The span of a channel; (0, 0) in OFF. -/
def State.span (s : State) (c : Nat) : Int × Int := ((rangeOf (s.amode c) (s.arange c)).map (·.2)).getD (0, 0)

/-- The nominal range of a channel. -/
def State.nominal (s : State) (c : Nat) : Int × Int := ((rangeOf (s.amode c) (s.arange c)).map (·.1)).getD (0, 0)

/-- The channel is an output. -/
def State.aOut (s : State) (c : Nat) : Bool := decide (s.amode c = 6) || decide (s.amode c = 7)

/-- The group's controller holds its code. -/
def State.agLoaded (s : State) (g : Nat) : Bool := (s.rd F.CLK_START_AG_LOADED).testBit g

/-! ### Outputs -/

/-- The alarm level of a group [nA] (ANA-5). -/
def State.alarm (s : State) (g : Nat) : Int :=
  match (s.agg g).strap with
  | 0 => 3500000
  | 1 => 21500000
  | _ => if s.is F.AG_GROUP_COMPAT g then 3200000
    else if s.rd F.AG_GROUP_ALM_LVL g = 0 then 3500000 else 21500000

/-- What a setpoint drives and whether it was limited (R368). -/
def State.target (s : State) (c : Nat) (sp : Int) : Int × Bool :=
  if s.amode c = 6 ∧ s.arange c = 1 ∧ sp = -2147483648 then (s.alarm (c / 16), false)
  else
    let r := s.span c
    let v := clampI r.1 r.2 sp
    (v, decide (v ≠ sp))

/-- A quad's state, fold-back and over-temperature. -/
def AnGrp.quadSt (x : AnGrp) (q : Nat) : Nat := x.quad.getD q 0

/-- The temperature of a quad [°C + 40]. -/
def quadTempFld (q : Nat) : Fld :=
  match q with
  | 0 => F.AG_GSTAT_TEMP_Q0
  | 1 => F.AG_GSTAT_TEMP_Q1
  | 2 => F.AG_GSTAT_TEMP_Q2
  | _ => F.AG_GSTAT_TEMP_Q3

/-- The fold-back ceiling of a CUR_OUT stage [nA] (R376). -/
def State.ceiling (s : State) (c : Nat) : Int :=
  let g := c / 16
  let q := quadOf c
  let t := s.rd (quadTempFld q) g
  if (s.agg g).quadFb.getD q false ∧ 180 < t then max 0 (24000000 - 1000000 * ((t : Int) - 180)) else 24000000

/-- The stage can drive: supply, no AV_HIGH, quad operating, not reconfiguring, not released (ANA-10). -/
def State.stageFree (s : State) (c : Nat) : Bool :=
  let x := s.agg (c / 16)
  s.aOut c && (decide (x.supply = 1) || decide (x.supply = 2)) && decide (x.quadSt (quadOf c) = 2) &&
    (s.ach c).reconf.isNone && !x.released

/-- A safe value code (ANA-11). -/
def State.safeTarget (s : State) (c code : Nat) : Int :=
  match code with
  | 0 => 0
  | 1 => (s.target c (s.ach c).sp).1
  | 2 => sgn 32 (s.rd F.AG_CH_SAFE_VAL c)
  | _ => s.alarm (c / 16)

/-- What the stage of channel `c` drives by ANA-10, its rein running. -/
def State.wanted (s : State) (c : Nat) : Int :=
  let k := (s.agg (c / 16)).safe
  let k := if s.inconsistent F.objAG_CH c ∧ k ≠ 2 then 1 else k
  match k with
  | 1 => s.safeTarget c (s.rd F.AG_CH_STOP_SAFE c)
  | 2 => s.safeTarget c (s.rd F.AG_CH_FAULT_SAFE c)
  | _ => (s.target c (s.ach c).sp).1

/-- The stage of channel `c` takes what applies now. -/
def applyOut (s : State) (c : Nat) : State :=
  let x := s.ach c
  if s.stageFree c then
    let v := s.wanted c
    let v := if s.amode c = 6 then min v (s.ceiling c) else v
    let k := (s.agg (c / 16)).safe
    putAch s c { x with drv := some v, spLimit := (decide (k = 0) || decide (k = 3)) && (s.target c x.sp).2 }
  else putAch s c { x with drv := none }

/-- All stages of a group take what applies now. -/
def applyOuts (s : State) (g : Nat) : State := (List.range 16).foldl (fun s k => applyOut s (16 * g + k)) s

/-! ### Diagnostics (R382, R383) -/

/-- Whether diagnostic `k` of channel `c` is present. -/
def State.aPresent (s : State) (c k : Nat) : Bool := (s.rd F.AG_CHSTAT_PRESENT c).testBit k

/-- Diagnostic `k` holds or is over. -/
def aDiag (s : State) (c k : Nat) (present : Bool) : State :=
  let p := s.rd F.AG_CHSTAT_PRESENT c
  if !present then s.wr F.AG_CHSTAT_PRESENT (setBits p k k 0) c
  else
    let s' := (s.wr F.AG_CHSTAT_PRESENT (setBits p k k 1) c).wr F.AG_CHSTAT_LATCH
      (setBits (s.rd F.AG_CHSTAT_LATCH c) k k 1) c
    let s' := if s.aOut c then drillFault s' (fun d => { d with aoFault := d.aoFault ||| 2 ^ c }) else s'
    hostSync (200 + c / 16) (if p.testBit k then s' else logDiag s' (1024 + 8 * c + k) Ev.DIAG_STO9 [c, k])

/-! ### The group status (ANA-13) -/

/-- One bit per quad. -/
def quadBits (f : Nat → Bool) : Nat := b2n (f 0) + 2 * b2n (f 1) + 4 * b2n (f 2) + 8 * b2n (f 3)

/-- AGg.GROUP.STAT follows the group, and so does its interrupt source. -/
def agSync (s : State) (g : Nat) : State :=
  let x := s.agg g
  let s := s.wr F.AG_GSTAT_FRAME_STALE (b2n (decide (0 < x.bad))) g
  let s := s.wr F.AG_GSTAT_NO_INPUT (b2n (decide (3 ≤ x.bad) || decide (x.supply = 0))) g
  let s := s.wr F.AG_GSTAT_NO_SUPPLY (b2n (decide (x.supply = 0))) g
  let s := s.wr F.AG_GSTAT_REIN_STOPPED (b2n (decide (x.rein ≠ 0))) g
  let s := s.wr F.AG_GSTAT_COMPAT (s.rd F.AG_GROUP_COMPAT g) g
  let s := s.wr F.AG_GSTAT_AV_LOW (b2n (decide (x.supply = 1))) g
  let s := s.wr F.AG_GSTAT_AV_HIGH (b2n (decide (x.supply = 3))) g
  let s := s.wr F.AG_GSTAT_STRAP x.strap g
  let s := s.wr F.AG_GSTAT_QUAD_ON (quadBits fun q => decide (x.quadSt q = 2)) g
  let s := s.wr F.AG_GSTAT_QUAD_FB (quadBits fun q => x.quadFb.getD q false || x.quadOt.getD q false) g
  let s := s.wr F.AG_GSTAT_RELEASED (b2n x.released) g
  let s := s.wr F.AG_GSTAT_SAFE x.safe g
  hostSync (212 + g) (s.wr F.AG_GSTAT_AVPLUS x.avplus g)

/-- A change of group `g` with its status. -/
def updAgg (s : State) (g : Nat) (f : AnGrp → AnGrp) : State := agSync (putAgg s g (f (s.agg g))) g

/-- The status word of group `g`: bits 31:0 of AGg.GROUP.STAT. -/
def State.agWord (s : State) (g : Nat) : Nat :=
  2 ^ 31 * s.rd F.AG_GSTAT_FRAME_STALE g + 2 ^ 30 * s.rd F.AG_GSTAT_NO_INPUT g + 2 ^ 29 * s.rd F.AG_GSTAT_NO_SUPPLY g +
    2 ^ 28 * s.rd F.AG_GSTAT_REIN_STOPPED g + 2 ^ 27 * s.rd F.AG_GSTAT_COMPAT g + 2 ^ 26 * s.rd F.AG_GSTAT_AV_LOW g +
    2 ^ 25 * s.rd F.AG_GSTAT_AV_HIGH g + 2 ^ 23 * s.rd F.AG_GSTAT_STRAP g + 2 ^ 19 * s.rd F.AG_GSTAT_QUAD_ON g +
    2 ^ 15 * s.rd F.AG_GSTAT_QUAD_FB g + 2 ^ 14 * s.rd F.AG_GSTAT_RELEASED g + 2 ^ 12 * s.rd F.AG_GSTAT_SAFE g +
    s.rd F.AG_GSTAT_AVPLUS g

/-! ### Filters start afresh (R423) -/

/-- The first evaluation of every window on channel `c` is due (R429). -/
def winReset (s : State) (c : Nat) : State :=
  (List.range 64).foldl (fun s w =>
    if s.is F.PPR_WIN_EN w ∧ s.rd F.PPR_WIN_SRC w = c then putAwin s w { s.awin w with first := true, run := 0 } else s) s

/-- A synchronising reset of channel `c`. -/
def syncReset (s : State) (c : Nat) : State :=
  let x := s.ach c
  let s := putAch s c { x with n := 0, hist := [], msamp := [], periods := 0, hasVer := false }
  winReset ((s.wr F.PPR_STAT_FRESH 0 c).wr F.PPR_STAT_VERIFIED_OK 0 c) c

/-- Synchronising resets of all channels of a group (gates reopened, reload). -/
def syncResetGroup (s : State) (g : Nat) : State := (List.range 16).foldl (fun s k => syncReset s (16 * g + k)) s

/-! ### Quads (R384, R385) -/

/-- Quad `q` of group `g` takes a state from now on. -/
def setQuad (s : State) (g q st : Nat) : State :=
  updAgg s g fun x => { x with quad := x.quad.set q st, quadAt := x.quadAt.set q s.time.now }

/-- A quad is to be powered: a channel in a mode other than OFF, no over-temperature, the group loaded. -/
def State.quadWanted (s : State) (g q : Nat) : Bool :=
  ((List.range 4).any fun k => decide (s.amode (16 * g + 4 * q + k) ≠ 0)) && !((s.agg g).quadOt.getD q false) &&
    s.agLoaded g && s.clk.stopReady

/-- The quads of a group follow the modes in force: power-up, power-down, or a power-up after the power-down that is
under way. -/
def quadsFollow (s : State) (g : Nat) : State :=
  (List.range 4).foldl (fun s q =>
    let w := s.quadWanted g q
    match (s.agg g).quadSt q with
    | 0 => if w then setQuad s g q 1 else s
    | 1 => if w then s else setQuad s g q 3
    | 2 =>
      if w then s
      else
        let s := (List.range 4).foldl (fun s k =>
          let c := 16 * g + 4 * q + k
          putAch s c { s.ach c with drv := none }) s
        updAgg (setQuad s g q 3) g fun x => { x with again := x.again.set q false }
    | _ => updAgg s g fun x => { x with again := x.again.set q w }) s

/-! ### The frozen frame (IMG-2, R366, R387) -/

/-- Samples a filter needs before its output has settled (R424). -/
def State.filterLen (s : State) (c : Nat) : Nat :=
  match s.rd F.PPR_CH_FTYPE c with
  | 0 => 1
  | 1 => s.rd F.PPR_CH_FLEN c
  | 2 => 2 ^ (s.rd F.PPR_CH_FLEN c + 2)
  | _ => s.rd F.PPR_CH_MPER c + 1

/-- The value of channel `c` carries SETTLING: for MAINS, complete periods count. -/
def State.settling (s : State) (c : Nat) : Bool :=
  if s.rd F.PPR_CH_FTYPE c = 3 then decide ((s.ach c).periods ≤ s.filterLen c)
  else decide ((s.ach c).n < s.filterLen c)

/-- The open-wire test of channel `c` runs in slots (ANA-7). -/
def State.slotTest (s : State) (c : Nat) : Bool :=
  s.is F.AG_CH_OW_EN c && (decide (s.amode c = 3) ||
    ((decide (s.amode c = 4) || decide (s.amode c = 5)) && decide (s.rd F.AG_CH_WIRES c < 2)))

/-- The value and status word of channel `c` in an image (ANA-3). -/
def State.result (s : State) (c : Nat) : Nat × Nat :=
  let x := s.ach c
  let g := s.agg (c / 16)
  let ver := s.is F.PPR_CH_OUT_SEL c && x.hasVer && s.slotTest c
  let v := if ver then (x.verVal, x.verStat) else (x.val, x.stat)
  let dead := decide (3 ≤ g.bad) || decide (g.supply = 0)
  let off := decide (s.amode c = 0) || decide (g.quadSt (quadOf c) ≠ 2) || x.reconf.isSome || dead
  let flags := (if off then v.2 &&& 0x7FFFFFFF else v.2) + 2 ^ 30 * b2n (s.settling c) +
    2 ^ 29 * b2n (s.slotTest c && !ver) + 2 ^ 27 * b2n (!(if ver then x.verFresh else x.fresh)) + 2 ^ 20 * b2n (s.aPresent c 2) +
    2 ^ 19 * b2n (s.aPresent c 4) + 2 ^ 18 * b2n (s.aPresent c 5) + 2 ^ 17 * b2n x.spLimit +
    2 ^ 16 * b2n (s.aPresent c 7) + 2 ^ 15 * b2n (g.released && s.aOut c) + 2 ^ 8 * s.amode c +
    (if ver then x.verSeq else x.seq)
  (if dead then 0 else v.1, flags)

/-- The values of group `g` enter the image; those of a missing frame stay (R148). -/
def freezeAg (s : State) (good : Bool) (g : Nat) : State :=
  let x := s.agg g
  let good := good && s.agLoaded g && decide (x.supply ≠ 0)
  let s := updAgg s g fun x => { x with bad := if good ∨ x.supply = 0 then 0 else x.bad + 1 }
  let x := s.agg g
  let dead := decide (3 ≤ x.bad) || decide (x.supply = 0)
  let i := if good ∨ dead then (List.range 16).foldl (fun m k =>
      let c := 16 * g + k
      let r := s.result c
      memSet (memSet m (0x240 + 8 * c) 4 r.1) (0x244 + 8 * c) 4 r.2) s.img.i
    else s.img.i
  let s := { s with img := { s.img with i := memSet i (0x4B0 + 4 * g) 4 (s.agWord g) } }
  let s := if good then (List.range 16).foldl (fun s k =>
      putAch s (16 * g + k) { s.ach (16 * g + k) with fresh := false, verFresh := false }) s else s
  let x := s.agg g
  if good ∧ x.voted then
    let s := { s with fld := { s.fld with reports := s.fld.reports ++ [⟨8 + g, x.split, x.crcDiff⟩] } }
    putAgg s g { x with split := 0, crcDiff := false, voted := false }
  else s

/-- Window states and INIT bits enter the image. -/
def freezeWin (s : State) : State :=
  let m := (List.range 64).foldl (fun m w =>
    let m := memSetBit m (8 * 0x440 + w) (decide (s.rd F.PPR_WINSTAT_STATE w ≠ 0))
    memSetBit m (8 * 0x448 + w) (s.is F.PPR_WINSTAT_INIT w)) s.img.i
  { s with img := { s.img with i := m } }

end Sys2Proof.Machine
end

