-- ==== Sys2Proof/Machine/AngleOps.lean ====
section
/-!
DEFINITION. Shared operations of the angle unit: signals (ANG-1), domain angle and speed (R302–R309), changes of
synchronisation state (R305–R307), arming (R313, R314), captures (R320), and the angle part of the image (ANG-8).
-/

namespace Sys2Proof.Machine

/-- Domain AD`d` and event entry `e`. -/
def State.adom (s : State) (d : Nat) : AngDom := Table.find {} s.ang.dom d
def State.aev (s : State) (e : Nat) : EvSt := Table.find {} s.ang.ev e

/-- Each takes a new value. -/
def putDom (s : State) (d : Nat) (x : AngDom) : State := { s with ang := { s.ang with dom := Table.put {} s.ang.dom d x } }
def putEv (s : State) (e : Nat) (x : EvSt) : State := { s with ang := { s.ang with ev := Table.put {} s.ang.ev e x } }

/-- Synchronisation states of ANG-6. -/
def dOFF : Nat := 0
def dSEEKING : Nat := 1
def dSYNCING : Nat := 2
def dSYNCED : Nat := 3
def dLOST : Nat := 4

/-- The state and source of a domain. -/
def State.dst (s : State) (d : Nat) : Nat := s.rd F.ANG_STATUS_STATE d
def State.dsrc (s : State) (d : Nat) : Nat := s.rd F.ANG_AD_SRC d

/-- COUNT, and E of ANG-4: the edges per revolution. -/
def State.dcount (s : State) (d : Nat) : Nat := s.rd F.ANG_AD_COUNT d
def State.dE (s : State) (d : Nat) : Nat :=
  match s.dsrc d with
  | 1 => 4 * s.dcount d
  | 2 => s.dcount d - s.rd F.ANG_AD_GAP d
  | 3 => s.dcount d
  | _ => 1

/-- The positions into which a revolution is divided (R302): TOOTH counts its missing teeth. -/
def State.dPos (s : State) (d : Nat) : Nat := if s.dsrc d = 2 then s.dcount d else s.dE d

/-- The exact angle of position `j` after the reference edge, with 16 further fraction bits (R302). -/
def edgeAngle (s : State) (d j : Nat) : Nat :=
  ((s.adom d).rev * 65536 + s.rd F.ANG_AD_REF_ANGLE d) * 65536 + j * 2 ^ 32 / max 1 (s.dPos d)

/-- Positions from edge `j` to the next: GAP + 1 across a gap. -/
def State.spanAt (s : State) (d j : Nat) : Nat :=
  if s.dsrc d = 2 ∧ j + 1 = s.dE d then s.rd F.ANG_AD_GAP d + 1 else 1

/-- The angular distance of `n` positions from edge `j`, with 16 fraction bits. -/
def State.arc (s : State) (d j n : Nat) : Nat := edgeAngle s d (j + n) - edgeAngle s d j

/-- The predicted interval to the next edge (R309): LAST scales the newest interval to the positions ahead; PATTERN, from
the second SYNCED revolution on, takes the interval one revolution earlier times the ratio of the newest interval to
the one a revolution before it. 0: no interval yet. -/
def State.predIv (s : State) (d : Nat) : Nat :=
  let x := s.adom d
  let e := s.dE d
  match x.hist with
  | [] => 0
  | v :: _ =>
    if s.is F.ANG_AD_PRED d ∧ 1 ≤ x.revs ∧ e < x.hist.length then
      x.hist.getD (e - 1) 0 * v / max 1 (x.hist.getD e 1)
    else v * s.spanAt d x.pos / max 1 x.span

/-- The accumulated angle of a SYNTH domain at `t`, times 10^6 (R303). -/
def State.synAcc (s : State) (d t : Nat) : Nat :=
  let x := s.adom d
  if t < x.synAt then (x.syn + 2 ^ 32 * 1000000 - x.synOld) % (2 ^ 32 * 1000000) else x.syn + s.rd F.ANG_AD_SYNSPD d * ((t - x.synAt) / 1000)

/-- The angle of a domain at instant `t` (R302, R303, R309, ANG-6), in whole counts. -/
def State.angleAt (s : State) (d t : Nat) : Nat :=
  let x := s.adom d
  match s.dst d with
  | 0 => 0
  | 1 => x.held
  | 4 => x.held
  | _ =>
    if s.dsrc d = 5 then s.synAcc d t / 1000000 % 2 ^ 32
    else
      match x.last with
      | none => x.base / 65536 % 2 ^ 32
      | some l =>
        let arc := s.arc d x.pos (s.spanAt d x.pos)
        let iv := s.predIv d
        let up := if iv = 0 then 0 else min ((t - l) * arc / iv) (arc - 65536)
        (x.base + up) / 65536 % 2 ^ 32

/-- The angle now. -/
def State.angle (s : State) (d : Nat) : Nat := s.angleAt d s.time.now

/-- The speed of a domain in the image [counts/s] (ANG-6). -/
def State.dspeed (s : State) (d : Nat) : Int :=
  match s.dst d with
  | 0 => 0
  | 4 => 0
  | _ => if s.dsrc d = 5 then (s.rd F.ANG_AD_SYNSPD d : Int) else (s.adom d).speed

/-- How far angle `a` lies ahead of `b`, signed (R314). -/
def ahead (a b : Nat) : Int := sgn 32 (a + 2 ^ 32 - b % 2 ^ 32)

/-- The first angle after `t` whose fraction is that of `a`. -/
def nextOcc (a t : Nat) : Nat :=
  let d := (a + 65536 - t % 65536) % 65536
  (t + if d = 0 then 65536 else d) % 2 ^ 32

/-- The instant at which the domain's predicted angle reaches `a` (R309, R311); none while it does not move. -/
def State.instantOf (s : State) (d a : Nat) : Option Nat :=
  let x := s.adom d
  if s.dsrc d = 5 then
    let v := s.rd F.ANG_AD_SYNSPD d
    let need := ((a + 2 ^ 32 - x.syn / 1000000 % 2 ^ 32) % 2 ^ 32) * 1000000 - x.syn % 1000000
    if v = 0 then none else some (x.synAt + 1000 * ((need + v - 1) / v))
  else
    match x.last with
    | none => none
    | some l =>
      let arc := s.arc d x.pos (s.spanAt d x.pos)
      let iv := s.predIv d
      let dist := (a * 65536 + 2 ^ 48 - x.base % 2 ^ 48) % 2 ^ 48
      if arc = 0 ∨ iv = 0 then none else some (l + dist * iv / arc)

/-! ### Captures (R320, R321) -/

/-- A record enters the capture buffer of domain `d`. -/
def putCapture (s : State) (d : Nat) (bs : List Nat) : State :=
  let p := s.rd F.ANG_CAPPOS_CAPPOS d
  let m := memPut (s.ang.caps.getD d []) (p % 65536) (slice bs 0 16)
  { s with ang := { s.ang with caps := s.ang.caps.set d m } } |>.wr F.ANG_CAPPOS_CAPPOS (p + 16) d

/-- The bytes of a capture record (ANG-16). -/
def capRecord (s : State) (angle at_ value source kind flags : Nat) : List Nat :=
  leBytes 4 angle ++ leBytes 4 (s.stationAt at_) ++ leBytes 4 value ++ leBytes 2 source ++
    [kind, setBits flags 1 1 (b2n s.time.stHeld)]

/-! ### Synchronisation state -/

/-- Commands the corrections can no longer reach (R311): from 3.00 µs before their instant. -/
def State.final (s : State) (c : TimedCmd) : Bool := decide (c.at_ ≤ s.time.now + 3000)

/-- A domain changes state: the SYNC record of the recorder and of the capture buffer, and latch SYNC (R306). -/
def setDom (s : State) (d st cause : Nat) : State :=
  if s.dst d = st then s
  else
    let a := s.angle d
    let s := s.wr F.ANG_STATUS_STATE st d
    let s := if st = dLOST then s.wr F.ANG_STATUS_CAUSE cause d else s
    let c := s.rd F.ANG_STATUS_CAUSE d
    let s := log Ev.SYNC ([d, st, c, 0] ++ leBytes 4 a) s
    let s := putCapture s d (capRecord s a s.time.now (st + 256 * c) 0 4 0)
    setLatch (4 + d) s

/-- The entries of domain `d`. -/
def State.domEntries (s : State) (d : Nat) : List Nat :=
  (List.range 1024).filter fun e => decide (s.rd F.ANG_EV_STATE e ≠ 0) && decide (s.rd F.ANG_EV_DOMAIN e = d)

/-- ONCE entries of a domain are disarmed without firing, CYCLIC ones SUSPENDED, and commands not yet final are cancelled
(R307). -/
def suspend (s : State) (d : Nat) : State :=
  let s := (s.domEntries d).foldl (fun s e => s.wr F.ANG_EV_STATE (if s.is F.ANG_EV_MODE e then 2 else 0) e) s
  { s with ang := { s.ang with
      cmds := s.ang.cmds.filter fun c => decide (s.rd F.ANG_EV_DOMAIN c.entry ≠ d) || s.final c } }

/-- SUSPENDED entries become ARMED and wait for their first occurrence at least 3.00 µs after the entry into SYNCED
(R307). -/
def resumeEvents (s : State) (d : Nat) : State :=
  let t := s.angleAt d (s.time.now + 3000)
  (s.domEntries d).foldl (fun s e =>
    if s.rd F.ANG_EV_STATE e = 2 then
      let a := s.rd F.ANG_EV_ANGLE e
      putEv (s.wr F.ANG_EV_STATE 1 e) e { s.aev e with next := if (a + 65536 - t % 65536) % 65536 = 0 then t else nextOcc a t }
    else s) s

/-- The domain is SYNCED from now on. -/
def enterSynced (s : State) (d : Nat) : State := resumeEvents (setDom s d dSYNCED 0) d

/-- The domain starts afresh in SEEKING; the angle shown stays the last valid one. -/
def seek (s : State) (d : Nat) : State :=
  let a := s.angle d
  let x := s.adom d
  setDom ((putDom s d { held := a, refs := x.refs, fBshort := x.fBshort, fDev := x.fDev, fLate := x.fLate }).wr
    F.ANG_STATUS_RELATIVE 0 d) d dSEEKING 0

/-- The fast channels of a domain: channel number and LOSS level. -/
def State.boundTo (s : State) (d : Nat) : List (Nat × Bool) :=
  ((List.range 16).filter fun k =>
    decide (s.rdE F.ANG_FC_BOUND 0 (4 * k) = 1) && decide (s.rdE F.ANG_FC_DOMAIN 0 (4 * k) = d)).map fun k =>
      (16 * (k / 2) + k % 2, decide (s.rdE F.ANG_FC_LOSS_ON 0 (4 * k) = 1))

/-- Boosts a group will still deliver when the boost commands already final have acted (R318). -/
def State.boostLeft (s : State) (g e : Nat) : Nat :=
  s.boosts g - (s.ang.cmds.filter fun c => decide (c.entry ≠ e) && s.final c && s.is F.ANG_EV_BOOST c.entry &&
    decide (s.evGroup c.entry = some g) && decide (s.rd F.ANG_EV_ACTION c.entry ≠ 2)).length

/-- A boost shortfall is counted, shown and logged (R318). -/
def boostShort (s : State) (d e : Nat) : State :=
  let s := putDom (s.inc F.ANG_STATUS_BSHORT d) d { s.adom d with fBshort := true }
  log Ev.BSHORT ([d, 0] ++ leBytes 2 e) s

/-- Channel `c` goes to a LOSS level, on as an OUT_ON with boost would be (R307). Safe values go before it (DIG-10). -/
def lossLevel (s : State) (d : Nat) (c : Nat × Bool) : State :=
  let g := grp c.1
  if (s.dgg g).safe = 1 ∨ (s.dgg g).safe = 2 ∨ (s.dgg g).rein = 1 then s
  else if !c.2 then drive s c.1 false false
  else if 0 < s.boostLeft g 1024 ∨ (s.dch c.1).drv then drive s c.1 true true
  else
    let s := boostShort s d 0
    if s.is F.ANG_AD_BOOST_SHORT_ACT d then s else drive s c.1 true false

/-- A domain goes LOST with a cause of ANG-7 (R307). -/
def enterLost (s : State) (d cause : Nat) : State :=
  let a := s.angle d
  let s := setDom s d dLOST cause
  let s := putDom s d { s.adom d with held := a, last := none, hist := [], edges := 0 }
  (s.boundTo d).foldl (fun s c => lossLevel s d c) (suspend s d)

/-- A value of 32 bits, or a free one where the spec gives a register no value so large (assumption log 24). -/
def fit32 (s : State) (v : Nat) : Nat × State := if v < 2 ^ 32 then (v, s) else (s.nextFree % 2 ^ 32, s.useFree)

/-- PERIOD of a SYNTH domain is the computed one (R304); at speed 0 it is free. -/
def synPeriod (s : State) (d : Nat) : State :=
  let v := s.rd F.ANG_AD_SYNSPD d
  let r := fit32 s (if v = 0 then 2 ^ 32 else 65536 * 1000000000 / v)
  r.2.wr F.ANG_PERIOD_PERIOD r.1 d

/-- The domain begins as at the commit of its object (R303, R305): SYNTH at once SYNCED at REF_ANGLE, OFF silent. -/
def startDomain (s : State) (d : Nat) : State :=
  match s.dsrc d with
  | 0 => setDom ((putDom s d {}).wr F.ANG_STATUS_RELATIVE 0 d) d dOFF 0
  | 5 =>
    let s := putDom s d { syn := s.rd F.ANG_AD_REF_ANGLE d * 1000000, synAt := s.time.now }
    enterSynced (synPeriod (s.wr F.ANG_STATUS_RELATIVE 0 d) d) d
  | _ => seek s d

/-- Commit of a domain (R305, R321, ANG-13): events suspended, the capture position 0, the domain afresh. -/
def restartDomain (s : State) (d : Nat) : State := startDomain ((suspend s d).wr F.ANG_CAPPOS_CAPPOS 0 d) d

/-- The gates reopen after a bridge (R308): cause CLOCK, SYNTH afresh. -/
def reopenDomain (s : State) (d : Nat) : State :=
  match s.dsrc d with
  | 0 => s
  | 5 => startDomain (suspend s d) d
  | _ => if s.dst d = dLOST then s else enterLost s d 7

/-! ### The image (ANG-8) -/

/-- The synchronisation word of a domain. -/
def State.syncWord (s : State) (d : Nat) : Nat :=
  let x := s.adom d
  1024 * b2n x.fBshort + 512 * b2n x.fDev + 256 * b2n x.fLate + 16 * s.rd F.ANG_STATUS_CAUSE d +
    8 * s.rd F.ANG_STATUS_RELATIVE d + s.dst d

/-- Angle, speed and synchronisation word of each domain enter the image as they stand at instant `t`. -/
def freezeAngles (s : State) (t : Nat) : State :=
  (List.range 4).foldl (fun s d =>
    let i := memPut s.img.i (0x450 + 16 * d)
      (leBytes 4 (s.angleAt d t) ++ leBytes 4 (unsgn 32 (s.dspeed d)) ++ leBytes 4 (s.syncWord d))
    let s := { s with img := { s.img with i := i } }
    putDom s d { s.adom d with fBshort := false, fDev := false, fLate := false }) s

end Sys2Proof.Machine
end

