-- ==== Sys2Proof/Machine/Float32.lean ====
section
/-!
DEFINITION. binary32 with round-to-nearest-even (R223, R224): every operation forms the exact value as a signed
fraction and rounds it once.
-/

namespace Sys2Proof.Machine.F32

/-- The one NaN every operation answers (R223). -/
def qnan : Nat := 0x7FC00000

/-- Exponent and fraction fields, and the sign. -/
def expo (w : Nat) : Nat := bits w 30 23
def frac (w : Nat) : Nat := bits w 22 0
def neg (w : Nat) : Bool := w.testBit 31

def isNaN (w : Nat) : Bool := decide (expo w = 255) && decide (frac w ≠ 0)
def isInf (w : Nat) : Bool := decide (expo w = 255) && decide (frac w = 0)
def isZero (w : Nat) : Bool := decide (expo w = 0) && decide (frac w = 0)

/-- The significand of a finite number; its value is the significand times 2^(scale - 149). -/
def sig (w : Nat) : Nat := if expo w = 0 then frac w else 2 ^ 23 + frac w
def scale (w : Nat) : Nat := if expo w = 0 then 0 else expo w - 1

/-- A finite number's magnitude in units of 2^-149. -/
def mag (w : Nat) : Nat := sig w * 2 ^ scale w

/-- A finite number in units of 2^-149. -/
def val (w : Nat) : Int := if neg w then -(mag w : Int) else (mag w : Int)

/-- ±infinity and ±0. -/
def inf (n : Bool) : Nat := if n then 0xFF800000 else 0x7F800000
def zero (n : Bool) : Nat := if n then 0x80000000 else 0

/-- `n / d` rounded to nearest, ties to even. -/
def rne (n d : Nat) : Nat :=
  let q := n / d
  let r := n % d
  if 2 * r < d then q else if d < 2 * r then q + 1 else q + q % 2

/-- The largest `e` with 2^e ≤ n/d, as a number offset by 400 (n, d positive). -/
def ilog (n d : Nat) : Nat :=
  let e := 400 + n.log2 - d.log2
  if 400 ≤ e then (if n < d * 2 ^ (e - 400) then e - 1 else e)
  else (if n * 2 ^ (400 - e) < d then e - 1 else e)

/-- The number nearest to (-1)^s × n/d × 2^-149, ties to even; overflow gives infinity (R223). -/
def round (s : Bool) (n d : Nat) : Nat :=
  if n = 0 then zero s
  else
    let e := ilog n d - 400
    let q := e - 23
    let m := rne n (d * 2 ^ q)
    let m' := if m = 2 ^ 24 then 2 ^ 23 else m
    let q' := if m = 2 ^ 24 then q + 1 else q
    let w := if m' < 2 ^ 23 then m' else (q' + 1) * 2 ^ 23 + (m' - 2 ^ 23)
    if 0x7F800000 ≤ w then inf s else w + (if s then 2 ^ 31 else 0)

/-- The number nearest to a signed fraction; a zero takes sign `z`. -/
def roundI (z : Bool) (i : Int) (d : Nat) : Nat :=
  if i = 0 then zero z else round (decide (i < 0)) i.natAbs d

/-- Addition. -/
def add (a b : Nat) : Nat :=
  if isNaN a || isNaN b then qnan
  else if isInf a then (if isInf b && (neg a != neg b) then qnan else a)
  else if isInf b then b
  else roundI (neg a && neg b) (val a + val b) 1

/-- The operand with its sign bit inverted. -/
def negate (a : Nat) : Nat := a ^^^ 0x80000000

/-- Subtraction. -/
def sub (a b : Nat) : Nat := if isNaN b then qnan else add a (negate b)

/-- Multiplication. -/
def mul (a b : Nat) : Nat :=
  let s := neg a != neg b
  if isNaN a || isNaN b then qnan
  else if isInf a || isInf b then (if isZero a || isZero b then qnan else inf s)
  else round s (mag a * mag b) (2 ^ 149)

/-- Division. -/
def div (a b : Nat) : Nat :=
  let s := neg a != neg b
  if isNaN a || isNaN b then qnan
  else if isInf a then (if isInf b then qnan else inf s)
  else if isInf b then zero s
  else if isZero b then (if isZero a then qnan else inf s)
  else round s (mag a * 2 ^ 149) (mag b)

/-- Bits of the integer square root of `x`, from bit `k` down. -/
def isqrt (x : Nat) : Nat → Nat → Nat
  | 0, r => r
  | k + 1, r =>
    let t := r + 2 ^ k
    isqrt x k (if t * t ≤ x then t else r)

/-- Square root: of m × 2^-149 units, the root of m × 2^149 in units of 2^-149, with a sticky digit. -/
def sqrt (a : Nat) : Nat :=
  if isNaN a then qnan
  else if isZero a then a
  else if neg a then qnan
  else if isInf a then a
  else
    let x := mag a * 2 ^ 149 * 2 ^ 60
    let r := isqrt x 260 0
    round false (2 * r + (if r * r = x then 0 else 1)) (2 ^ 31)

/-- Less-than of two numbers that are no NaN. -/
def lt (a b : Nat) : Bool :=
  if isInf a then neg a && !(isInf b && neg b)
  else if isInf b then !(neg b)
  else decide (val a < val b)

/-- Equality of two numbers that are no NaN: -0 equals +0. -/
def eq (a b : Nat) : Bool := (isZero a && isZero b) || decide (a = b)

/-- FMIN (R224). -/
def fmin (a b : Nat) : Nat :=
  if isNaN a then (if isNaN b then qnan else b)
  else if isNaN b then a
  else if isZero a && isZero b then (if neg a then a else b)
  else if lt b a then b else a

/-- FMAX (R224). -/
def fmax (a b : Nat) : Nat :=
  if isNaN a then (if isNaN b then qnan else b)
  else if isNaN b then a
  else if isZero a && isZero b then (if neg a then b else a)
  else if lt a b then b else a

/-- The number nearest to an integer. -/
def ofInt (i : Int) : Nat := roundI false (i * 2 ^ 149) 1

/-- The integer nearest to a finite number, ties to even. -/
def toInt (a : Nat) : Int :=
  let m := rne (mag a) (2 ^ 149)
  if neg a then -(m : Int) else (m : Int)

/-- FTOI (R224): the low 32 bits of the result and whether OV is set. -/
def ftoi (a : Nat) : Nat × Bool :=
  if isNaN a then (0, true)
  else if isInf a then (if neg a then (0x80000000, true) else (0x7FFFFFFF, true))
  else
    let i := toInt a
    if i < -(2 ^ 31 : Int) then (0x80000000, true)
    else if (2 ^ 31 : Int) ≤ i then (0x7FFFFFFF, true)
    else (unsgn 32 i, false)

end Sys2Proof.Machine.F32
end

