-- ==== Sys2Proof/Machine/FieldFrame.lean ====
section
/-!
DEFINITION. The field part of a new input image (IMG-2, R146, R148): the frames of the twelve field dies, the window
states and the angle domains as they are frozen.
-/

namespace Sys2Proof.Machine

/-- All field groups are frozen at instant `t`; `bad` marks the groups (0–7 DGg, 8–11 AGg) whose frame is missing or
failed its check. COS bits with COS_CLR are cleared (R332). -/
def freezeFrames (s : State) (t bad : Nat) : State :=
  let s := (List.range 8).foldl (fun s g => cosClear (freezeDg s (!bad.testBit g) g) g) s
  let s := (List.range 4).foldl (fun s g => freezeAg s (!bad.testBit (8 + g)) g) s
  freezeAngles (freezeWin s) t

end Sys2Proof.Machine
end

