-- ==== Sys2Proof/Machine/MbxOps.lean ====
section
/-!
DEFINITION. Shared operations of the mailbox: the completion queue (R109–R113), handles (R128–R132) and sessions.
-/

namespace Sys2Proof.Machine

/-! ### The completion queue -/

/-- `a` is at or beyond `b` in a count modulo 2^32 (R111). -/
def atOrBeyond (a b : Nat) : Bool := decide (a % 2 ^ 32 = b % 2 ^ 32) || after32 a b

/-- CQ_FREE and CR_FREE follow the queues (MBX-16). -/
def queueRegs (s : State) : State :=
  let used := (s.mbx.ring.map fun c => max 1 c.nslot).foldl (· + ·) 0
  hostSync 33 (hostSync 32 (hostSync 1 (hostSync 0
    ((s.wr F.MBX_QUEUES_CQ_FREE (2048 - s.mbx.cq.length)).wr F.MBX_QUEUES_CR_FREE (512 - used)))))

/-- `n` completion records from CQSEQ `q` on become ready for a carrier; they join a sub-record that still has room, of
at most 16 records (NRL-8). -/
def readyCpl (s : State) (q n : Nat) : State :=
  let add (l : List SubItem) : List SubItem :=
    match l.getLast? with
    | some (.cpl q0 n0) => if n0 < 16 ∧ q0 + n0 = q then
        let k := min n (16 - n0)
        l.dropLast ++ [.cpl q0 (n0 + k)] ++ (if k < n then [.cpl (q + k) (n - k)] else [])
      else l ++ [.cpl q n]
    | _ => l ++ [.cpl q n]
  { s with ring := { s.ring with subq := add s.ring.subq } }

/-- Sub-records of at most 16 records each cover `n` records from `q` on. -/
def readyAll : Nat → State → Nat → Nat → State
  | 0, s, _, _ => s
  | k + 1, s, q, n => if n = 0 then s else readyAll k (readyCpl s q (min n 16)) (q + min n 16) (n - min n 16)

/-- The DATA records that carry `bytes`, from CQSEQ `q` on (MBX-4). -/
def dataRecs (session : Nat) (usb : Bool) (now : Nat) : Nat → Nat → Nat → List Nat → List CqRec
  | 0, _, _, _ => []
  | k + 1, q, ix, bytes =>
    if bytes.isEmpty then []
    else
      ⟨q % 2 ^ 32, 4, false, 0, session, 0, 0, 0, 0, 0, 0, ix, slice bytes 0 24, usb, false, now⟩ ::
        dataRecs session usb now k (q + 1) (ix + 1) (bytes.drop 24)

/-- A status record with its DATA records enters the queue (R109, R110). -/
def placeRecs (s : State) (kind : Nat) (rep : Bool) (session clseq opcode status handle cinch result : Nat)
    (data : List Nat) (usb : Bool) : State :=
  let q := s.mbx.nextSeq
  let ds := dataRecs session usb s.time.now 64 (q + 1) 0 data
  let r : CqRec := ⟨q, kind, rep, ds.length, session, clseq, opcode, status, handle, cinch, result, 0, [], usb, false, s.time.now⟩
  let s := { s with mbx := { s.mbx with
    cq := s.mbx.cq ++ r :: ds, nextSeq := (q + 1 + ds.length) % 2 ^ 32 } }
  queueRegs (readyAll 65 s q (1 + ds.length))

/-- The 32 bytes of a completion record (MBX-3, MBX-4). -/
def recBytes (r : CqRec) : List Nat :=
  if r.kind = 4 then leBytes 4 r.seq ++ [4, r.index] ++ leBytes 2 r.session ++ slice r.data 0 24
  else leBytes 4 r.seq ++ [r.kind + 16 * b2n r.repeated, r.ndata] ++ leBytes 2 r.session ++ leBytes 4 r.clseq ++
    leBytes 2 r.opcode ++ leBytes 2 r.status ++ leBytes 4 r.handle ++ leBytes 4 r.cinch ++ leBytes 8 r.result

/-! ### Sessions -/

/-- The session with number `n`, when it is not closed. -/
def State.session? (s : State) (n : Nat) : Option Session := s.mbx.sessions.find? fun x => x.no = n

/-- SESSIONS_OPEN follows the sessions (MBX-17). -/
def useRegs (s : State) : State :=
  (s.wr F.MBX_USE_SESSIONS_OPEN s.mbx.sessions.length).wr F.MBX_USE_HANDLES_USED s.mbx.hdls.length

/-- Session `x` takes the place of the session of its number. -/
def putSession (s : State) (x : Session) : State :=
  let l := s.mbx.sessions
  let l' := if l.any (fun y => decide (y.no = x.no)) then l.map (fun y => if y.no = x.no then x else y) else l ++ [x]
  { s with mbx := { s.mbx with sessions := l' } }

/-! ### Handles -/

/-- The handle's number (R128). -/
def Hdl.num (h : Hdl) : Nat := h.gen * 2048 + h.slot

/-- The live handle in slot `k`. -/
def State.hdl? (s : State) (k : Nat) : Option Hdl := s.mbx.hdls.find? fun h => h.slot = k

/-- Handle `h` takes the place of the handle of its slot. -/
def putHdl (s : State) (h : Hdl) : State :=
  { s with mbx := { s.mbx with hdls := s.mbx.hdls.map fun x => if x.slot = h.slot then h else x } }

/-- The slot in `k` becomes FREE. -/
def freeHdl (s : State) (k : Nat) : State :=
  useRegs { s with mbx := { s.mbx with
    hdls := s.mbx.hdls.filter fun h => decide (h.slot ≠ k), freed := s.mbx.freed ++ [k] } }

/-- A slot is taken for a long operation: the one free longest, its generation raised by one (R128). -/
def allocHdl (s : State) (session clseq opcode : Nat) (op : LongOp) (usb : Bool) : State × Nat :=
  let k := if s.mbx.fresh < 2048 then s.mbx.fresh else s.mbx.freed.headD 0
  let g := Table.find 0 s.mbx.gens k
  let g := if g = 2097151 then 1 else g + 1
  let h : Hdl := ⟨k, g, 1, session, clseq, opcode, 0, op, 0, usb⟩
  let m := { s.mbx with
    hdls := s.mbx.hdls ++ [h], gens := Table.put 0 s.mbx.gens k g
    fresh := if s.mbx.fresh < 2048 then s.mbx.fresh + 1 else s.mbx.fresh
    freed := if s.mbx.fresh < 2048 then s.mbx.freed else s.mbx.freed.drop 1 }
  (useRegs { s with mbx := m }, h.num)

/-- Handles a session holds that are not FREE (R129). -/
def State.held (s : State) (session : Nat) : Nat := (s.mbx.hdls.filter fun h => decide (h.session = session)).length

/-- The operation of slot `k` is RUNNING. -/
def startHdl (s : State) (k : Nat) : State :=
  match s.hdl? k with
  | some h => putHdl s { h with state := 2 }
  | none => s

/-- The FIN of the operation in slot `k` (R130): its session open, the records enter the queue and the handle is DONE
until they are acknowledged; its session closed, the recorder logs UNPLACED_FIN and the handle is FREE (R126). -/
def finHdl (s : State) (k status result : Nat) (data : List Nat) (cinch : Nat) : State :=
  match s.hdl? k with
  | none => s
  | some h =>
    if h.state = 4 then s
    else if (s.session? h.session).isSome then
      let s := placeRecs s 2 false h.session h.clseq h.opcode status h.num cinch result data h.usb
      putHdl s { h with state := 4, progress := 1000, op := .none,
                        finSeq := (s.mbx.nextSeq + 2 ^ 32 - 1) % 2 ^ 32 }
    else
      freeHdl (log Ev.UNPLACED_FIN (leBytes 4 h.num ++ leBytes 2 status ++ leBytes 2 h.opcode) s) k

/-- The FIN with the cinch number of now. -/
def fin (s : State) (k status result : Nat) (data : List Nat := []) : State :=
  finHdl s k status result data s.cinchNow

/-- The operation behind handle number `n` ends. -/
def finNum (s : State) (n status result : Nat) (data : List Nat := []) : State := fin s (n % 2048) status result data

/-- A NOTE record with a progress (R109). -/
def note (s : State) (k progress : Nat) : State :=
  match s.hdl? k with
  | none => s
  | some h =>
    if (s.session? h.session).isSome then
      placeRecs (putHdl s { h with progress := progress }) 3 false h.session h.clseq h.opcode Code.ACCEPTED h.num
        s.cinchNow progress [] h.usb
    else putHdl s { h with progress := progress }

/-- The newest record that stands in a carrier, or, for the service port, that is placed there (assumption log 30). -/
def State.lastPlaced (s : State) (usb : Bool) : Option Nat :=
  ((s.mbx.cq.filter fun r => if usb then r.usb else r.placed).getLast?).map (·.seq)

/-- Records up to CQ_ACK `a` leave the queue; a handle whose FIN and DATA they cover is FREE (R111, R130). Through the
service port only records of its sessions leave (R520). -/
def applyAck (s : State) (a : Nat) (usb : Bool) : State :=
  let old := if usb then s.mbx.uack else s.mbx.ack
  match s.lastPlaced usb with
  | none => s
  | some p =>
    if atOrBeyond a old && atOrBeyond p a && decide (a ≠ old) then
      let gone (r : CqRec) : Bool := atOrBeyond a r.seq && (r.usb || !usb)
      let cq := s.mbx.cq.filter fun r => !gone r
      let done := s.mbx.hdls.filter fun h =>
        decide (h.state = 4) && atOrBeyond a h.finSeq && (h.usb || !usb)
      let m := if usb then { s.mbx with cq := cq, uack := a, uackAt := s.time.now }
        else { s.mbx with cq := cq, ack := a, ackAt := s.time.now }
      queueRegs (done.foldl (fun s h => freeHdl s h.slot) { s with mbx := m })
    else s

end Sys2Proof.Machine
end

