-- ==== Sys2Proof/Machine/ImageOps.lean ====
section
/-!
DEFINITION. Shared operations of the image unit: staging (R156–R160), the input image (R146–R148), snapshot buffers and
their claims (R150–R154), peer records (R163, R164).
-/

namespace Sys2Proof.Machine

/-! ### Claims and buffers -/

/-- Snapshot `n`, when a buffer holds it. -/
def State.snap? (s : State) (n : Nat) : Option Snap := s.img.snaps.find? fun x => x.cinch = n

/-- The snapshot of cinch `x.cinch` takes the content of `x`. -/
def putSnap (s : State) (x : Snap) : State :=
  { s with img := { s.img with snaps := s.img.snaps.map fun y => if y.cinch = x.cinch then x else y } }

/-- Distinct pinned cinches, oldest pin first. -/
def State.pinned (s : State) : List Nat := (s.img.pins.map (·.2)).eraseDups

/-- A module claim of IMG-6 on the buffer of `x`. -/
def State.claimed (s : State) (x : Snap) : Bool :=
  !x.closed || decide (s.img.upClaim = some x.cinch) || decide (s.img.hold0 = some x.cinch) ||
    decide (s.img.hold1 = some x.cinch)

/-- Buffers open to snapshots: eight, two of them the mirror receive buffers of a paired module (IMG-6). -/
def State.buffers (s : State) : Nat := if s.is F.PLT_PAIR_EN then 6 else 8

/-- The older of two cinch numbers, modulo 2^32. -/
def olderCinch (a b : Nat) : Nat := if after32 a b then b else a

/-- The oldest number of a list. -/
def oldest : List Nat → Option Nat
  | [] => none
  | n :: ns => some (ns.foldl olderCinch n)

/-- The registers of IMG.STATUS and IMG.PINS follow the claims. -/
def pinRegs (s : State) : State :=
  let p := s.pinned
  let s := s.wr F.IMG_STATUS_PINNED p.length
  let s := s.wr F.IMG_STATUS_PHOLDS ((if s.img.hold0.isSome then 1 else 0) + (if s.img.hold1.isSome then 1 else 0))
  (List.range 4).foldl (fun s k => s.wrE F.IMG_PINS_CINCH 0 (32 * k) (p.getD k 0)) s

/-- The pin on cinch `n` breaks for every session (R153, R154); a SNAP_READ of it in progress ends SNAPSHOT_LOST. -/
def breakPin (s : State) (n : Nat) : State :=
  let who := (s.img.pins.filter fun p => decide (p.2 = n)).map (·.1)
  let s := { s with img := { s.img with
    pins := s.img.pins.filter (fun p => decide (p.2 ≠ n))
    lost := s.img.lost.filter (fun p => !(who.contains p.1)) ++ who.map (fun x => (x, n)) } }
  let s := hostSync 306 ((log Ev.PIN_BROKEN (leBytes 4 n) s).wr F.IMG_STATUS_PIN_BROKEN 1)
  let ends := s.mbx.hdls.filter fun h => match h.op with
    | .snapRead c _ _ _ => decide (c = n) && decide (h.state ≠ 4)
    | _ => false
  pinRegs (ends.foldl (fun s h => fin s h.slot Code.SNAPSHOT_LOST n) s)

/-- The buffer of cinch `n` is taken for something else. -/
def dropSnap (s : State) (n : Nat) : State :=
  { s with img := { s.img with snaps := s.img.snaps.filter fun x => decide (x.cinch ≠ n) } }

/-- Room for one more snapshot: the unclaimed buffer with the oldest cinch, else the pinned one with the oldest cinch,
whose pin breaks (R151, R153). -/
def makeRoom (s : State) : State :=
  if s.img.snaps.length < s.buffers then s
  else
    let free := s.img.snaps.filter fun x => !(s.claimed x) && !(s.pinned.contains x.cinch)
    match oldest (free.map (·.cinch)) with
    | some n => dropSnap s n
    | none =>
      let pin := s.img.snaps.filter fun x => !(s.claimed x) && s.pinned.contains x.cinch
      match oldest (pin.map (·.cinch)) with
      | some n => dropSnap (breakPin s n) n
      | none => s

/-- Snapshot `n` opens with its header and I area (R150). -/
def openSnap (s : State) (n time hw : Nat) (subst : Bool) : State :=
  let s := makeRoom s
  let x : Snap := ⟨n, false, false, subst, false, false, time, 0, hw, s.img.i, [], []⟩
  { s with img := { s.img with snaps := s.img.snaps ++ [x] } }

/-- Snapshot `n` closes with the Q and S in force (R150). -/
def closeSnap (s : State) (n : Nat) (noexec uncommitted damaged : Bool) (sArea : Memory) : State :=
  match s.snap? n with
  | none => s
  | some x =>
    if x.closed then s
    else putSnap s { x with closed := true, noexec := noexec, uncommitted := uncommitted, damaged := x.damaged || damaged,
                            closeTime := s.station, q := s.img.q, s := sArea }

/-- Every open snapshot closes uncommitted: its execution was abandoned. -/
def closeOpen (s : State) : State :=
  (s.img.snaps.filter fun x => !x.closed).foldl (fun s x => closeSnap s x.cinch false true false s.img.s) s

/-- The newest closed snapshot. -/
def State.newestClosed (s : State) : Option Snap :=
  s.img.snaps.foldl (fun b x => if !x.closed then b else match b with
    | none => some x
    | some y => if after32 x.cinch y.cinch then some x else b) none

/-! ### Staging -/

/-- Bytes an entry occupies in the staging window (R156). -/
def stagedSize (e : StagedWrite) : Nat := 4 + (e.data.length + 3) / 4 * 4

/-- Bytes used of a path's half of the window. -/
def State.stagedUse (s : State) (path : Nat) : Nat :=
  ((s.img.stage.filter fun e => decide (e.path = path)).map stagedSize).foldl (· + ·) 0

/-- STAGE_FREE follows the window (IMG-12). -/
def stageRegs (s : State) : State := s.wr F.IMG_STATUS_STAGE_FREE ((8192 - s.stagedUse 1) / 4)

/-- The cinch a write staged now is due at: the first whose window has not closed (R158, R159); none before the first
latch of a module that is not TIMED. -/
def State.dueCinch (s : State) : Option Nat :=
  if !s.timed then none
  else
    let next := (s.ring.cinch + 1) % 2 ^ 32
    match s.img.closedFor with
    | some c => if atOrBeyond c next then some ((c + 1) % 2 ^ 32) else some next
    | none => some next

/-- An entry is staged. -/
def stageWrite (s : State) (e : StagedWrite) : State :=
  stageRegs { s with img := { s.img with stage := s.img.stage ++ [e] } }

/-- The staged entries due at cinch `n` act on the host region, in staging order (R160). -/
def applyStaged (s : State) (n : Nat) : State :=
  let due (e : StagedWrite) : Bool := match e.due with
    | none => true
    | some c => atOrBeyond n c
  let now := s.img.stage.filter due
  let i := now.foldl (fun m e => memPut m (0x1800 + e.off) e.data) s.img.i
  stageRegs { s with img := { s.img with
    i := i, stage := s.img.stage.filter (fun e => !due e), hwrites := now.length } }

/-! ### Building the image -/

/-- The lane clock in MHz (CLK-11). -/
def State.laneMHz (s : State) : Nat :=
  match s.rd F.CLK_STATUS_LANE_CLK with
  | 0 => 500
  | 1 => 450
  | 2 => 400
  | 3 => 350
  | _ => 250

/-- The record of a subscription in P (IMG-8). -/
def peerRecord (s : State) (k n : Nat) : List Nat × Bool :=
  let len := s.rdE F.IMG_SUBS_PLEN 0 (64 * k)
  match s.img.peers.find? fun c => c.entry = k with
  | none => (List.replicate len 0, false)
  | some c =>
    let age := min 255 ((n + 2 ^ 32 - c.upcinch) % 2 ^ 32)
    let stale := decide (s.rdE F.IMG_SUBS_MAXAGE 0 (64 * k) < age)
    let trunc := decide (len - 16 < c.payload.length)
    let pstat := 1 + 2 * b2n stale + c.flags + 16 * b2n trunc
    (leBytes 4 c.upcinch ++ [pstat, age, 0, 0] ++ leBytes 8 c.latchTime ++ slice c.payload 0 (len - 16), stale)

/-- The peer records of the image (R163, R164). -/
def buildPeers (s : State) (n : Nat) : State :=
  let ks := (List.range 16).filter fun k => decide (s.rdE F.IMG_SUBS_EN 0 (64 * k) ≠ 0)
  let r := ks.foldl (fun (a : Memory × Bool) k =>
    let x := peerRecord s k n
    (memPut a.1 (s.rdE F.IMG_SUBS_POFF 0 (64 * k)) x.1, a.2 || x.2)) (s.img.p, false)
  { s with img := { s.img with p := r.1 } } |>.wr F.IMG_STATUS_STALE_PEER (b2n r.2)

/-- The S bytes the image unit writes at each latch (SCN-8, ZEN-15). -/
def buildS (s : State) (n kind time : Nat) : Memory :=
  let m := memPut s.img.s 0 (leBytes 4 n ++
    [kind, s.mode, s.scn.restart, b2n s.scn.first + 2 * s.rd F.SCN_MODE_RETAIN_STALE] ++ leBytes 8 time)
  memPut m 0x48 ([s.rd F.NRL_POS_POS, s.rd F.PLT_PSTATE_ROLE, s.rd F.PLT_LANE_VOTING, s.rd F.PRG_ACT_ACTIVE] ++
    leBytes 4 s.laneMHz ++ leBytes 4 (s.img.hold0.getD 0) ++ leBytes 4 (s.img.hold1.getD 0))

/-- A new input image (R146): `kind` 1 cinch, 2 local, 3 substitute; `n` its cinch number, `time` the station time of the
freeze; `bad` marks the field groups without a good frame. The freeze is at the latest latch instant. -/
def buildImage (s : State) (kind n time bad : Nat) : State :=
  let s := if kind = 2 then s else applyStaged s n
  let s := freezeFrames s s.ring.lastLocal bad
  let s := buildPeers s n
  { s with img := { s.img with s := buildS s n kind time, latchKind := kind, latchTime := time }
           scn := { s.scn with t0Due := true } }

end Sys2Proof.Machine
end

