-- ==== Sys2Proof/Machine/PairOps.lean ====
section
/-!
DEFINITION. Shared operations of hot-standby pairs that other units call: roles, YIELD (R284), released outputs (R278), the
opening of gates (R288), heartbeat events (R279) and the mode's part in ROLE (R282).
-/

namespace Sys2Proof.Machine

/-- Pairing is enabled, and the role (PLT-6). -/
def State.paired (s : State) : Bool := s.is F.PLT_PAIR_EN
def State.role (s : State) : Nat := s.rd F.PLT_PSTATE_ROLE

/-- The partner's position and the port of the shared segment (R276). -/
def State.partnerPos (s : State) : Nat :=
  if s.rd F.PLT_PAIR_SIDE = 0 then s.rd F.NRL_POS_POS + 1 else s.rd F.NRL_POS_POS - 1
def State.sharedPort (s : State) : Port := if s.rd F.PLT_PAIR_SIDE = 0 then .B else .A

/-- A change of the pair's hidden state. -/
def updPair (s : State) (f : PairSt → PairSt) : State := { s with pair := f s.pair }

/-- The beat flags of the partner (PLT-6 byte 0). -/
def State.pClaims (s : State) : Bool := s.pair.beat.testBit 2
def State.pYields (s : State) : Bool := s.pair.beat.testBit 3
def State.pElig (s : State) : Bool := s.is F.PLT_PSTATE_PARTNER_ELIG
def State.pRole (s : State) : Nat := s.rd F.PLT_PSTATE_PARTNER_ROLE

/-- The partner is silent: three station cycles without a beat or sub-record (R280). -/
def State.silent (s : State) : Bool := decide (3 ≤ s.pair.quiet)

/-- A primary sets YIELD and gives up a claim of its own (R283, R284). -/
def setYield (s : State) : State :=
  if s.paired ∧ s.role = 1 ∧ s.pair.yieldAt.isNone then
    updPair s fun x => { x with yieldAt := some s.time.now, claim := none }
  else s

/-- An event goes out with the next four beats under a new ESEQ (R279). -/
def pairEvent (s : State) (e : Nat) : State :=
  updPair s fun x => { x with txEvent := e, txEseq := (x.txEseq + 1) % 16, txLeft := 4 }

/-- Outputs of group DG`g` are released: stages off and high-impedance, PWM off; OPEN_OFF and SHORT_LP read 0 (R346). -/
def releaseDg (s : State) (g : Nat) : State :=
  let s := (List.range 16).foldl (fun s k =>
    let c := 16 * g + k
    clearPresent (clearPresent (stageOff s c) c 1) c 2) s
  updDgg s g fun y => { y with released := true }

/-- The gates of group DG`g` open: the stages take the voted image. -/
def openDg (s : State) (g : Nat) : State :=
  if !(s.dgg g).released then s
  else
    let s := updDgg s g fun y => { y with released := false }
    (List.range 16).foldl (fun s k =>
      let c := 16 * g + k
      match s.dmode c with
      | 3 => drive s c (s.dch c).bit false
      | 4 => pwmStart s c
      | _ => s) s

/-- The digital outputs of the module are released, or their gates open (R278, R288). -/
def releaseDigital (s : State) : State := (List.range 8).foldl releaseDg s
def openDigital (s : State) : State := (List.range 8).foldl openDg s

/-- The analogue outputs of the module are released or open. -/
def releaseAnalogue (s : State) : State :=
  (List.range 4).foldl (fun s g => applyOuts (updAgg s g fun x => { x with released := true }) g) s
def openAnalogue (s : State) : State :=
  (List.range 4).foldl (fun s g =>
    if (s.agg g).released then applyOuts (updAgg s g fun x => { x with released := false }) g else s) s

/-- ROLE changes. -/
def setRole (s : State) (r : Nat) : State := s.wr F.PLT_PSTATE_ROLE r

/-- The module leaves RUN and HOLD: without a hold command in force it has no role from here on (R282, R289). -/
def roleOff (s : State) : State :=
  if s.pair.hold.isSome then s
  else updPair (setRole s 0) fun x => { x with claim := none, yieldAt := none, wantC := false, cAt := none }

/-- Whether a safe-value command is replaced by a hold command (R289). -/
def State.holdsFor (s : State) : Bool := s.paired && decide (s.role = 1) && s.pElig && !s.silent

/-- A standby, or a module that claims: its outputs stay released (R278). -/
def standbyOutputs (s : State) : State := releaseDigital (releaseAnalogue s)

/-- A module enters RUN (R282): standby while its partner is primary, else it claims, or takes the role at once where no
pair is established and the roles of a mismatch apply (assumption log 27). -/
def enterRunRole (s : State) : State :=
  if !s.paired then s
  else if s.role = 1 then s
  else if s.pRole = 1 ∧ !s.silent then standbyOutputs (setRole s 2)
  else updPair (standbyOutputs s) fun x => { x with claim := some (s.time.now, 120000), yieldAt := none }

/-- The MODE code of a beat (PLT-6). -/
def State.beatMode (s : State) : Nat :=
  match s.mode with
  | 2 => 1
  | 3 => 2
  | 4 => 3
  | _ => 0

end Sys2Proof.Machine
end

