-- ==== Sys2Proof/Machine/ModeOps.lean ====
section
/-!
DEFINITION. Shared operations of modes and dispatch: mode changes and entry into FAULT (R171, R184), safe-value commands
(R189), releases, skips and the dispatcher (R188, R192), and what the mode owes to interrupts (R497).
-/

namespace Sys2Proof.Machine

/-! ### Modes -/

/-- The mode changes: the record of R171, the MODE latch and source 301, RUN ticks, byte 5 of S, and the pair's role
(R282). -/
def setMode (s : State) (new cause restart : Nat) : State :=
  let old := s.mode
  let s := if old = mRUN ∧ new ≠ mRUN then stopRunTicks s else s
  let s := s.wr F.SCN_MODE_MODE new
  let s := if old ≠ mRUN ∧ new = mRUN then startRunTicks s else s
  let s := if new = mRUN ∨ new = mHOLD then s else roleOff s
  let s := log (Ev.MODE.1, if new = mFAULT then 3 else 1) [old, new, cause, restart] s
  let s := { s with scn := { s.scn with enterXt := s.time.xt }, img := { s.img with s := memSet s.img.s 5 1 new } }
  hostSync 301 (setLatch 20 s)

/-- The FIN of a MODE_SET's transition; a transition of the module's own has none. -/
def finMode (s : State) (p : PendMode) (status : Nat) : State :=
  if p.handle = 0 then s else finNum s p.handle status s.mode

/-- The pending transition is over. -/
def clearPend (s : State) : State :=
  { s with scn := { s.scn with pend := none } } |>.wr F.SCN_MODE_PENDING 0

/-- The angle unit disarms every output event (R189). -/
def disarmOutputs (s : State) : State :=
  (List.range 1024).foldl (fun s e =>
    let a := s.rd F.ANG_EV_ACTION e
    if 1 ≤ a ∧ a ≤ 3 ∧ s.rd F.ANG_EV_STATE e ≠ 0 then s.wr F.ANG_EV_STATE 0 e else s) s

/-- A safe-value or hold command goes to all twelve field dies (R189, R289). -/
def sendCommand (s : State) (kind : Nat) : State :=
  { s with fld := { s.fld with cmds := s.fld.cmds ++ (List.range 12).map fun g => (g, kind) } }

/-- The safe-value command of R189 with the disarming of output events; a primary whose partner is ELIGIBLE holds its
outputs in its place (R289). -/
def safeCommand (s : State) (kind : Nat) : State :=
  if s.holdsFor then sendCommand (updPair (setYield s) fun x => { x with hold := some kind }) 3
  else disarmOutputs (sendCommand s kind)

/-- The TASKS sources that are PENDING are taken and completed without a release (R497 point 6). -/
def discardTasks (s : State) : State :=
  ((List.range 284).filter fun n => decide (64 ≤ n) && decide (s.srcTarget n = 2) && decide (s.srcState n = 1)).foldl
    (fun s n => (putSrc s n 0).inc F.INT_STAT_DISCARD) s

/-- A pending activation ends with `status`; its bank stays LOADED (R254). -/
def endActivation (s : State) (status : Nat) : State :=
  match s.prg.act with
  | none => s
  | some a =>
    let s := { s with prg := { s.prg with act := none, deferring := false } } |>.wr F.PRG_ACT_PENDING 0
    if a.standby then s else finNum s a.handle status 0

/-- The same while its swap has not begun (R254); a swap that is made completes. -/
def endPending (s : State) (status : Nat) : State :=
  match s.prg.act with
  | some a => if a.phase = 2 ∨ a.phase = 7 ∨ a.phase = 9 then s else endActivation s status
  | none => s

/-- Entry into FAULT at detection (R184): the FIN MODE_FAULT of a pending MODE_SET, every execution abandoned without
commit, the FAULT safe values, the end of an activation whose swap has not begun. In INIT and FAULT nothing changes. -/
def enterFault (s : State) (cause : Nat) : State :=
  if s.mode = mINIT ∨ s.mode = mFAULT then s
  else
    let s := match s.scn.pend with
      | some p => clearPend (finMode s p Code.MODE_FAULT)
      | none => s
    let s := discardTasks s
    let s := closeOpen { s with scn := { s.scn with
      running := none, preempted := [], waiting := [], presented := [], startQueue := []
      retBusy := false, intact := false } }
    let s := { s with prg := { s.prg with deferring := false, deferred := [] }, int := { s.int with taken := [] } }
    let s := safeCommand s 2
    let s := setMode (s.wr F.SCN_MODE_CAUSE cause) mFAULT cause s.scn.restart
    endPending s Code.ACTIVATE_FAULT

/-! ### Conditions that persist (SCN-9) -/

/-- NRL.CYCLE is 1–40 times the T0 PERIOD, and that PERIOD at least 50 (R185). -/
def State.cycleOk (s : State) : Bool :=
  let p := s.rd F.SCN_T_PERIOD 0
  let c := s.rd F.NRL_CYCLE_CYCLE
  decide (50 ≤ p) && decide (c % p = 0) && decide (1 ≤ c / p) && decide (c / p ≤ 40)

/-- How many lanes vote. -/
def State.voting (s : State) : Nat :=
  let v := s.rd F.PLT_LANE_VOTING
  v % 2 + v / 2 % 2 + v / 4 % 2

/-- Lane `k` votes. -/
def State.votes (s : State) (k : Nat) : Bool := (s.rd F.PLT_LANE_VOTING).testBit k

/-- A FAULT cause that can persist holds (SCN-9, R173). -/
def State.faultPersists (s : State) : Bool :=
  !(s.clk.lane) || decide (s.voting < 2) ||
    (decide (s.rd F.SCN_CFG_CINCH_LOST_ACT = 1) && !(s.ring.latching)) ||
    (s.prg.active.isSome && !(s.cycleOk))

/-- CAUSE_PERSISTS follows. -/
def persistReg (s : State) : State := s.wr F.SCN_MODE_CAUSE_PERSISTS (b2n s.faultPersists)

/-! ### Banks and images of an execution -/

/-- The bank with letter `k`. -/
def State.bank? (s : State) (k : Nat) : Option Bank := if k = 0 then s.prg.a else s.prg.b

/-- The active bank. -/
def State.activeBank (s : State) : Option Bank := match s.prg.active with
  | some k => s.bank? k
  | none => none

/-- The registers of an execution at its release (R203). -/
def freshCtx (entry : Nat) : LaneCtx :=
  ⟨entry, false, 0, false, [], [], [], 0, [], [], [], 0, .running, 0xFFFFFFFF⟩

/-- The S area as an execution of `task` sees it (SCN-8, ZEN-15). -/
def execS (s : State) (task tick : Nat) : Memory :=
  let m := memPut s.img.s 0x10 ([task, s.scn.preempted.length + (if s.scn.running.isSome then 1 else 0)] ++
    leBytes 2 (s.rd F.SCN_TSTAT_RUNSKIP task) ++ [0, 0, 0, 0] ++ leBytes 8 s.station ++
    leBytes 4 (s.rd F.SCN_T_PERIOD 0))
  memPut (memPut m 0x40 (leBytes 8 tick)) 0x4A [s.rd F.PLT_LANE_VOTING, s.rd F.PRG_ACT_ACTIVE]

/-- An execution of `task` released now on the current image (R149, R203). -/
def newExec (s : State) (task src : Nat) (snap : Option Nat) : Exec :=
  let c := freshCtx (s.rd F.SCN_T_ENTRY task)
  { task := task, prio := s.rd F.SCN_T_PRIO task, src := src, relAt := s.time.now, relXt := s.time.xt
    started := false, snap := snap, cinchImage := decide (s.img.latchKind ≠ 2), i := s.img.i, p := s.img.p
    s := execS s task s.runTicks, q0 := s.img.q, discard := false, runTick := s.runTicks
    lanes := ⟨c, c, c⟩ }

/-! ### The dispatcher (R188) -/

/-- Whether waiting execution `a` starts before `b`: higher PRIO, earlier release, lower task number. -/
def runsBefore (a b : Exec) : Bool :=
  decide (b.prio < a.prio) || (decide (a.prio = b.prio) &&
    (decide (a.relAt < b.relAt) || (decide (a.relAt = b.relAt) && decide (a.task < b.task))))

/-- The waiting execution that starts next. -/
def nextWaiting (l : List Exec) : Option Exec :=
  l.foldl (fun b x => match b with
    | none => some x
    | some y => if runsBefore x y then some x else b) none

/-- `x` leaves the waiting list. -/
def unwait (s : State) (x : Exec) : State :=
  { s with scn := { s.scn with waiting := s.scn.waiting.filter fun y => decide (y.task ≠ x.task) } }

/-- Lane cycles are added to every lane of an execution (SCN-4). -/
def addCycles (x : Exec) (n : Nat) : Exec :=
  { x with lanes := x.lanes.map fun c => { c with cycles := c.cycles + n } }

/-- The dispatcher: a waiting task of higher PRIO preempts the running execution at its instruction boundary, up to 15
deep; an idle engine starts the first waiting task or returns to the last preempted one (R188, SCN-4). -/
def dispatch (s : State) : State :=
  match nextWaiting s.scn.waiting with
  | none =>
    match s.scn.running, s.scn.preempted with
    | none, x :: xs => { s with scn := { s.scn with running := some (addCycles x 40), preempted := xs } }
    | _, _ => s
  | some w =>
    match s.scn.running, s.scn.preempted with
    | none, [] =>
      let s := unwait s w
      { s with scn := { s.scn with running := some (addCycles { w with started := true } 24) } }
    | none, x :: xs =>
      if x.prio < w.prio then
        let s := unwait s w
        { s with scn := { s.scn with running := some (addCycles { w with started := true } 48) } }
      else { s with scn := { s.scn with running := some (addCycles x 40), preempted := xs } }
    | some r, ps =>
      if r.prio < w.prio ∧ ps.length < 15 then
        let s := unwait s w
        { s with scn := { s.scn with
          running := some (addCycles { w with started := true } 48), preempted := r :: ps } }
      else s

/-- An execution of the task is still running, preempted or waiting (R192). -/
def State.busy (s : State) (task : Nat) : Bool :=
  (match s.scn.running with
    | some r => decide (r.task = task)
    | none => false) ||
    s.scn.preempted.any (fun x => decide (x.task = task)) || s.scn.waiting.any (fun x => decide (x.task = task)) ||
    s.prg.deferred.any (fun x => decide (x.task = task))

/-- A skipped release is counted, and beyond SKIP_MAX the module enters FAULT with OVERRUN (R192). -/
def countSkip (s : State) (task : Nat) : State :=
  let s := (s.inc F.SCN_TSTAT_SKIPS task).inc F.SCN_TSTAT_RUNSKIP task
  let m := s.rd F.SCN_T_SKIP_MAX task
  if m ≠ 255 ∧ m < s.rd F.SCN_TSTAT_RUNSKIP task then enterFault s 2 else s

/-- A release falls due: a retentive copy or a mirror capture that still waits for idle time is abandoned (R199, R286). -/
def abandonIdle (s : State) : State :=
  let s := if s.scn.retBusy then
      let n := s.scn.retRun + 1
      let s := { s with scn := { s.scn with retBusy := false, retRun := n } } |>.incTo F.SCN_MODE_RET_MISS 0 1 15
      if 3 ≤ n then s.wr F.SCN_MODE_RETAIN_STALE 1 else s
    else s
  if s.pair.capDue then (updPair s fun x => { x with capDue := false }).incTo F.PLT_PSTATE_MIR_MISS 0 1 15 else s

/-- A pending transition's boundary: the first T0 period boundary at least 100 µs after acceptance has come (SCN-2). -/
def State.boundaryCame (s : State) (p : PendMode) : Bool := decide (p.at_ + 100000 ≤ s.ring.lastLocal)

/-- A transition out of RUN has reached its boundary: no further task is released (R181, R182). -/
def State.cut (s : State) : Bool := match s.scn.pend with
  | some p => p.cut || (decide (p.target ≠ mRUN) && s.boundaryCame p)
  | none => false

/-- A task is released: skipped while busy, deferred after a quiet point (R249), else waiting for the dispatcher. Only
RUN releases tasks (SCN-1). -/
def releaseTask (s : State) (task src : Nat) (snap : Option Nat) : State :=
  if s.mode ≠ mRUN ∨ s.cut ∨ s.prg.active = none then s
  else if s.busy task then countSkip (abandonIdle s) task
  else
    let s := abandonIdle s
    let x := newExec s task src snap
    if s.prg.deferring then { s with prg := { s.prg with deferred := s.prg.deferred ++ [x] } }
    else dispatch { s with scn := { s.scn with waiting := s.scn.waiting ++ [x] } }

/-! ### Interrupt sources with target TASKS (R497) -/

/-- The flag behind a TASKS source is cleared by its take. -/
def clearFlag (s : State) (n : Nat) : State :=
  let s := if n < 192 then
      let g := (n - 64) / 16
      s.wr F.DG_COS_COS (setBits (s.rd F.DG_COS_COS g) ((n - 64) % 16) ((n - 64) % 16) 0) g
    else if n < 280 then s.wr F.PPR_WINSTAT_EVENT 0 (n - 216)
    else putLatch s (n - 280) false
  { s with int := { s.int with asserted := s.int.asserted &&& (2 ^ 512 - 1 - 2 ^ n) } }

/-- The dispatcher takes a PENDING TASKS source: in RUN it releases the named task and the flag is cleared; a task whose
SRC is not EVENT, and any mode but RUN, discards (R497). The lanes' clock carries the take (R501). -/
def takeTask (s : State) (n : Nat) : State :=
  if s.srcTarget n ≠ 2 ∨ s.srcState n ≠ 1 then s
  else if s.mode ≠ mRUN ∨ s.cut then (putSrc s n 0).inc F.INT_STAT_DISCARD
  else if !s.clk.lane then s
  else
    let t := s.srcTask n
    let s := clearFlag s n
    if s.rd F.SCN_T_SRC t ≠ 3 then (putSrc s n 0).inc F.INT_STAT_DISCARD
    else if s.busy t then countSkip (putSrc s n 0) t
    else
      let s := { putSrc s n 2 with int := { s.int with taken := s.int.taken ++ [(n, t)] } }
      releaseTask s t 3 none

/-- An event sets the flag behind source `n`: the source rises, or, its flag already set while it is PENDING or
ACTIVE_PENDING, the event is merged and counts as a skip of the named task (R497 point 3). -/
def srcEvent (s : State) (n : Nat) (already : Bool) (set : State → State) : State :=
  if already && decide (s.srcTarget n = 2) && (decide (s.srcState n = 1) || decide (s.srcState n = 3)) then
    countSkip (s.inc F.INT_STAT_MERGED) (s.srcTask n)
  else takeTask (hostSync n (set s)) n

/-- The sources a committed or skipped execution of `task` completes (R497 point 2): PENDING again if asserted. -/
def completeTask (s : State) (task : Nat) : State :=
  let l := s.int.taken.filter fun p => decide (p.2 = task)
  let s := { s with int := { s.int with taken := s.int.taken.filter fun p => decide (p.2 ≠ task) } }
  l.foldl (fun s p =>
    if s.int.asserted.testBit p.1 then takeTask (putSrc s p.1 1) p.1 else putSrc s p.1 0) s

end Sys2Proof.Machine
end

