-- ==== Sys2Proof/Machine/ConvOps.lean ====
section
/-!
DEFINITION. Shared operations of conversion and result processing: base units and RTD curves (R379, R420), filters
(CNV-7), characteristic and scaling (R425, R426), windows (R427–R430), open-wire verdicts (R407), triggers (R401, R403),
and the slices of a group (R395, R411–R419).
-/

namespace Sys2Proof.Machine

/-! ### From a conversion to the base unit -/

/-- Pt curve at `t` [0.001 °C] in units of R0 × 10^-27 (R379). -/
def ptCurve (t : Int) : Int :=
  10 ^ 27 + 39083 * t * 10 ^ 17 - 5775 * t * t * 10 ^ 11 - (if t < 0 then 4183 * (t - 100000) * t * t * t else 0)

/-- Ni1000 curve at `t` [0.001 °C] in units of 1,000 Ω × 10^-38 (R379). -/
def niCurve (t : Int) : Int :=
  10 ^ 38 + 5485 * t * 10 ^ 29 + 6650 * t * t * 10 ^ 23 + 2805 * t * t * t * t * 10 ^ 12 - 2000 * t * t * t * t * t * t

/-- A resistance [µΩ] lies at or above the curve of range `r` at `t`. -/
def aboveCurve (r : Nat) (x t : Int) : Bool :=
  match r with
  | 0 => decide (10 ^ 8 * ptCurve t ≤ x * 10 ^ 27)
  | 1 => decide (10 ^ 9 * ptCurve t ≤ x * 10 ^ 27)
  | _ => decide (10 ^ 9 * niCurve t ≤ x * 10 ^ 38)

/-- The largest `t` from `lo` on, within 2^k, at which the resistance lies at or above the curve; `lo` where none. -/
def invCurve (r : Nat) (x : Int) : Nat → Int → Int
  | 0, lo => lo
  | k + 1, lo => if aboveCurve r x (lo + 2 ^ k) then invCurve r x k (lo + 2 ^ k) else invCurve r x k lo

/-- The lead resistance that a 2-wire connection subtracts, in the unit of a conversion: µΩ for RTD, mΩ for RES. -/
def State.lead (s : State) (c : Nat) : Int :=
  if s.rd F.AG_CH_WIRES c = 2 then (s.rd F.AG_CH_LEAD c : Int) * (if s.amode c = 4 then 10000 else 10) else 0

/-- A conversion in the base unit of the mode (R420 step 2). Conversions come in nA, µV, µΩ (RTD) or mΩ (RES). The
temperature carries a free error within 0.002 K (assumption log 20). -/
def baseValue (s : State) (c : Nat) (x : Int) : Int × State :=
  match s.amode c with
  | 4 =>
    let lo : Int := (s.span c).1
    let t := min ((s.span c).2 + 1) (invCurve (s.arange c) (x - s.lead c) 21 (lo - 1))
    (t - 1 + ((s.nextFree % 4 : Nat) : Int), s.useFree)
  | 5 => (x - s.lead c, s)
  | _ => (x, s)

/-! ### Filters (CNV-7) -/

/-- A quotient whose rounding the spec leaves open: down, or up by a free choice (assumption log 21). -/
def freeDiv (s : State) (a b : Int) : Int × State :=
  if a % b = 0 then (a / b, s) else (a / b + ((s.nextFree % 2 : Nat) : Int), s.useFree)

/-- The sum of the newest `n` samples, the oldest one standing for those before it (R423). -/
def histSum : Nat → Int → List Int → Int
  | 0, _, _ => 0
  | n + 1, d, [] => d + histSum n d []
  | n + 1, _, x :: l => x + histSum n x l

/-- One step of the IIR filter towards `x`. -/
def iirStep (s : State) (c : Nat) (x : Int) : State :=
  let y := (s.ach c).iir
  let r := freeDiv s (x * 65536 - y) (2 ^ s.rd F.PPR_CH_FLEN c)
  putAch r.2 c { r.2.ach c with iir := y + r.1 }

/-- A step without a value repeats the channel's previous sample in its filter (R400). -/
def repeatSample (s : State) (c : Nat) : State :=
  let x := s.ach c
  match x.hist with
  | [] => s
  | v :: _ =>
    let s := putAch s c { x with hist := (v :: x.hist).take 1024 }
    if s.rd F.PPR_CH_FTYPE c = 2 then iirStep s c v else s

/-- A fresh sample enters the filter of channel `c`, and the output it gives (MAINS changes at edges only). -/
def filterSample (s : State) (c : Nat) (v : Int) (at_ : Nat) : State :=
  let x := s.ach c
  let first := decide (x.n = 0)
  let x := { x with n := x.n + 1, lastAt := at_, hist := (v :: x.hist).take 1024
                    msamp := if s.rd F.PPR_CH_FTYPE c = 3 then (at_, v) :: x.msamp else x.msamp }
  let s := (putAch s c x).wr F.PPR_STAT_FRESH (min 65535 x.n) c
  if first then putAch s c { x with iir := v * 65536, out := v }
  else
    match s.rd F.PPR_CH_FTYPE c with
    | 0 => putAch s c { x with out := v }
    | 1 =>
      let n := s.rd F.PPR_CH_FLEN c
      putAch s c { x with out := divRound (histSum n v x.hist) n }
    | 2 =>
      let s := iirStep s c v
      let r := freeDiv s (s.ach c).iir 65536
      putAch r.2 c { r.2.ach c with out := r.1 }
    | _ => s

/-- The integral of the kept samples from `start` to `e`: each sample stands from its instant to the next sample's, the
oldest for all time before it. -/
def integral (start : Nat) : Nat → List (Nat × Int) → Int
  | _, [] => 0
  | e, [(_, v)] => v * ((e - start : Nat) : Int)
  | e, (t, v) :: l =>
    if e ≤ start then 0 else v * ((e - max t start : Nat) : Int) + integral start (min e (max t start)) l

/-- Samples that a later window can still need. -/
def keepSamples (start : Nat) : List (Nat × Int) → List (Nat × Int)
  | [] => []
  | (t, v) :: l => if t ≤ start then [(t, v)] else (t, v) :: keepSamples start l

/-- A period edge at `e` updates a MAINS filter (R422): the mean over the last MPER periods. With fewer edges on record
the spec states no output: a free value (assumption log 22). -/
def mainsOut (s : State) (c e : Nat) : State :=
  let x := s.ach c
  let n := s.filterLen c
  let edges := (e :: x.edges).take 9
  match (e :: x.edges)[n]? with
  | none =>
    putAch s.useFree c { x with edges := edges, periods := x.periods + 1, out := sgn 32 s.nextFree }
  | some start =>
    let r := freeDiv s (integral start e x.msamp) (max 1 (e - start) : Nat)
    putAch r.2 c { r.2.ach c with edges := edges, periods := x.periods + 1, out := r.1
                                  msamp := keepSamples start x.msamp }

/-! ### Characteristic and scaling -/

/-- Point `i` of a characteristic. -/
def linPoint (s : State) (c i : Nat) : Int × Int :=
  (sgn 32 (s.rdE F.PPR_LIN_X c (64 * i)), sgn 32 (s.rdE F.PPR_LIN_Y c (64 * i)))

/-- The line through two points at `x`, rounded to nearest, ties away from zero. -/
def lineAt (p q : Int × Int) (x : Int) : Int := divRound (p.2 * (q.1 - p.1) + (x - p.1) * (q.2 - p.2)) (q.1 - p.1)

/-- The segment of `x` among the points from `i` to `n`, the last one extended. -/
def linSeg (s : State) (c n : Nat) (x : Int) : Nat → Nat → Int
  | 0, i => lineAt (linPoint s c i) (linPoint s c (i + 1)) x
  | k + 1, i =>
    if n ≤ i + 1 ∨ x < (linPoint s c (i + 1)).1 then lineAt (linPoint s c i) (linPoint s c (i + 1)) x
    else linSeg s c n x k (i + 1)

/-- The characteristic of a channel at `x` (R425). -/
def linear (s : State) (c : Nat) (x : Int) : Int :=
  if s.is F.PPR_CH_LIN_EN c then linSeg s c (s.rd F.PPR_CH_LIN_N c) x 15 0 else x

/-- FIXED scaling before it is narrowed (R426). -/
def fixedScale (s : State) (c : Nat) (x : Int) : Int :=
  (x * sgn 32 (s.rd F.PPR_CH_SC_GAIN c) + 2 ^ 15) / 2 ^ 16 + sgn 32 (s.rd F.PPR_CH_SC_OFF c)

/-- The word handed over for base value `x` after characteristic and scaling (R425, R426). -/
def scaled (s : State) (c : Nat) (x : Int) : Nat :=
  let y := linear s c x
  match s.rd F.PPR_CH_FMT c with
  | 0 => unsgn 32 y
  | 1 => unsgn 32 (fixedScale s c y)
  | _ => F32.add (F32.mul (F32.ofInt y) (s.rd F.PPR_CH_SC_GAIN c)) (s.rd F.PPR_CH_SC_OFF c)

/-! ### Windows -/

/-- A word of a channel's format as a number that orders as the format does: itself, or units of 2^-149. -/
def ordNum (fmt w : Nat) : Int := if fmt = 2 then F32.val w else sgn 32 w

/-- The thresholds of window `w` as numbers: HIGH, LOW, HIGH − HYST, LOW + HYST, and twice the two midpoints. -/
structure WinNums where
  high : Int
  low : Int
  hiIn : Int
  loIn : Int
  hiMid : Int
  loMid : Int
deriving DecidableEq, Repr

/-- The thresholds in force, with HIGH and LOW given. -/
def winNums (s : State) (w high low : Nat) : WinNums :=
  let f := s.rd F.PPR_CH_FMT (s.rd F.PPR_WIN_SRC w)
  let h := s.rd F.PPR_WIN_HYST w
  if f = 2 then
    let half := F32.mul h 0x3F000000
    ⟨ordNum 2 high, ordNum 2 low, ordNum 2 (F32.sub high h), ordNum 2 (F32.add low h),
      2 * ordNum 2 (F32.sub high half), 2 * ordNum 2 (F32.add low half)⟩
  else
    let a := sgn 32 high
    let b := sgn 32 low
    let y := sgn 32 h
    ⟨a, b, a - y, b + y, 2 * a - y, 2 * b + y⟩

/-- The order of R427: HYST at least 0, LOW + HYST not above HIGH − HYST. -/
def winOrder (s : State) (w high low : Nat) : Bool :=
  let f := s.rd F.PPR_CH_FMT (s.rd F.PPR_WIN_SRC w)
  let n := winNums s w high low
  let nan := decide (f = 2) && (F32.isNaN high || F32.isNaN low || F32.isNaN (s.rd F.PPR_WIN_HYST w))
  !nan && decide (0 ≤ ordNum f (s.rd F.PPR_WIN_HYST w)) && decide (n.loIn ≤ n.hiIn)

/-- A change of window `w` raises an event when it matches IRQ (R430). -/
def winEvent (s : State) (w : Nat) (leaving first : Bool) : State :=
  let q := s.rd F.PPR_WIN_IRQ w
  if q = 3 ∨ (leaving ∧ q = 1) ∨ (!leaving ∧ q = 2) then
    let s := if first then s.wr F.PPR_WINSTAT_EVINIT 1 w else s
    srcEvent s (216 + w) (s.is F.PPR_WINSTAT_EVENT w) fun s => s.wr F.PPR_WINSTAT_EVENT 1 w
  else s

/-- A first evaluation (R429): the state and whether it raises an event. -/
def firstEval (n : WinNums) (v : Int) : Nat × Bool :=
  if n.high < v then (1, true)
  else if v < n.low then (2, true)
  else if n.hiIn ≤ v then (if n.hiMid < 2 * v then 1 else 0, false)
  else if v ≤ n.loIn then (if 2 * v < n.loMid then 2 else 0, false)
  else (0, false)

/-- The state a value leads to from `st` (R428). -/
def winToward (n : WinNums) (st : Nat) (v : Int) : Option Nat :=
  match st with
  | 0 => if n.high < v then some 1 else if v < n.low then some 2 else none
  | 1 => if v ≤ n.hiIn then some 0 else none
  | _ => if n.loIn ≤ v then some 0 else none

/-- INIT of a window after an evaluation (R430). -/
def winInit (s : State) (w : Nat) (settling : Bool) : State :=
  if !settling && decide (s.rd F.PPR_WIN_DWELL w ≤ (s.awin w).evals) then s.wr F.PPR_WINSTAT_INIT 0 w else s

/-- Window `w` meets a value of its channel. -/
def winValue (s : State) (w word : Nat) (valid settling : Bool) : State :=
  let x := s.awin w
  let f := s.rd F.PPR_CH_FMT (s.rd F.PPR_WIN_SRC w)
  if !valid then putAwin (s.wr F.PPR_WINSTAT_INIT 1 w) w { x with first := true, run := 0 }
  else
    let n := winNums s w (s.rd F.PPR_WIN_HIGH w) (s.rd F.PPR_WIN_LOW w)
    let v := ordNum f word
    let nan := decide (f = 2) && F32.isNaN word
    if x.first then
      let r := if nan then (0, false) else firstEval n v
      let s := putAwin (s.wr F.PPR_WINSTAT_INIT 1 w) w { x with first := false, run := 0, evals := 1 }
      let s := s.wr F.PPR_WINSTAT_STATE r.1 w
      winInit (if r.2 then winEvent s w true true else s) w settling
    else
      let st := s.rd F.PPR_WINSTAT_STATE w
      match (if nan then none else winToward n st v) with
      | none => winInit (putAwin s w { x with run := 0, evals := x.evals + 1 }) w settling
      | some t =>
        let run := if x.toward = t then x.run + 1 else 1
        if s.rd F.PPR_WIN_DWELL w ≤ run then
          let s := putAwin (s.wr F.PPR_WINSTAT_STATE t w) w { x with run := 0, toward := t, evals := x.evals + 1 }
          winInit (winEvent s w (decide (st = 0)) false) w settling
        else winInit (putAwin s w { x with run := run, toward := t, evals := x.evals + 1 }) w settling

/-- The windows on channel `c` are evaluated (R420 step 8). -/
def windows (s : State) (c word : Nat) (valid settling : Bool) : State :=
  (List.range 64).foldl (fun s w =>
    if s.is F.PPR_WIN_EN w ∧ s.rd F.PPR_WIN_SRC w = c then winValue s w word valid settling else s) s

/-! ### Status and handover -/

/-- The channel's results have no meaning (R366): mode OFF, quad not operating, reconfiguring, or no valid input. -/
def State.chanDead (s : State) (c : Nat) : Bool :=
  let g := s.agg (c / 16)
  decide (s.amode c = 0) || decide (g.quadSt (quadOf c) ≠ 2) || (s.ach c).reconf.isSome || decide (3 ≤ g.bad) ||
    decide (g.supply = 0)

/-- NE 43 applies to channel `c` (R371). -/
def State.ne43 (s : State) (c : Nat) : Bool :=
  s.is F.AG_CH_NE43_EN c && (decide (s.amode c = 1) || decide (s.amode c = 2)) && decide (s.arange c = 1)

/-- The value and flags (UNDER, OVER, NE43_LOW, NE43_HIGH) of a filtered value, and whether the rules of R367 and R371
leave it valid. -/
def classify (s : State) (c : Nat) (v : Int) : Int × Nat × Bool :=
  if s.ne43 c then
    if v ≤ 3600000 then (v, 2 ^ 22, false)
    else if v < 3800000 then (v, 2 ^ 24, true)
    else if v ≤ 20500000 then (v, 0, true)
    else if v < 21000000 then (v, 2 ^ 23, true)
    else (v, 2 ^ 21, false)
  else
    let n := s.nominal c
    let p := s.span c
    let fl := (if v < n.1 then 2 ^ 24 else 0) + (if n.2 < v then 2 ^ 23 else 0)
    (clampI p.1 p.2 v, fl, decide (p.1 ≤ v) && decide (v ≤ p.2))

/-- The open-wire verdict of channel `c`. -/
def State.openWire (s : State) (c : Nat) : Bool := (s.aslot c).open_ || (s.aslot c).convOpen

/-- The filter output of channel `c` is classified, scaled and handed over (R420 steps 4 to 8). -/
def handOver (s : State) (c : Nat) (check : Bool) : State :=
  let x := s.ach c
  let r := classify s c x.out
  let short := decide (s.amode c = 4) && s.aPresent c 1
  let open_ := s.openWire c
  let valid := r.2.2 && !open_ && !short && !check && !s.chanDead c
  let was := x.stat.testBit 31
  let x := if valid && !was then { x with n := min x.n 1, periods := 0 } else x
  let stat := 2 ^ 31 * b2n valid + 2 ^ 28 * b2n check + 2 ^ 26 * b2n open_ + 2 ^ 25 * b2n (short || s.aPresent c 1) + r.2.1
  let word := scaled s c r.1
  let s := putAch s c { x with val := word, stat := stat, seq := (x.seq + 1) % 256, fresh := true }
  let ne := decide (r.2.1 &&& (2 ^ 22 + 2 ^ 21) ≠ 0)
  let s := if s.ne43 c ∧ ne ≠ s.aPresent c 3 then aDiag s c 3 ne else s
  windows s c word valid (s.settling c)

/-! ### Open-wire tests (ANA-7, R407) -/

/-- The test of every conversion applies (ANA-7). -/
def State.convTest (s : State) (c : Nat) : Bool :=
  s.is F.AG_CH_OW_EN c && ((decide (s.amode c = 1) && decide (s.arange c = 1)) || decide (s.amode c = 2) ||
    decide (s.amode c = 4) || decide (s.amode c = 5))

/-- Diagnostic OPEN_WIRE follows the verdict; where it clears, the filter starts afresh (R407, R423). -/
def openDiag (s : State) (c : Nat) : State :=
  let o := s.openWire c
  if o = s.aPresent c 0 then s else if o then aDiag s c 0 true else syncReset (aDiag s c 0 false) c

/-- The verdict of a value conversion: a failure at once, a pass after 16 in a row. -/
def convVerdict (s : State) (c : Nat) (fail : Bool) : State :=
  let y := s.aslot c
  let y := if fail then { y with convOpen := true, convPass := 0 }
    else { y with convPass := y.convPass + 1, convOpen := y.convOpen && decide (y.convPass + 1 < 16) }
  openDiag (putAslot s c y) c

/-- The shift that fails a slot, in the unit of a conversion: 100 mV (ANA-7). -/
def slotLimit (s : State) (c : Nat) : Int :=
  match s.amode c with
  | 3 => 100000
  | 4 => if s.arange c = 0 then 100000000 else 500000000
  | _ => if s.arange c = 0 then 100000 else 500000

/-- The verdict of a slot at the conversion after it (R407, R408, R409). -/
def slotVerdict (s : State) (c : Nat) (after : Int) : State :=
  let y := s.aslot c
  let l := slotLimit s c
  let fail := decide (l < (y.diag - y.before).natAbs) && decide (l < (y.diag - after).natAbs)
  if fail then
    openDiag (putAslot (s.wr F.PPR_STAT_VERIFIED_OK 0 c) c { y with phase := 0, open_ := true, passes := 0, defers := 0 }) c
  else
    let p := y.passes + 1
    let x := s.ach c
    let s := putAch (s.wr F.PPR_STAT_VERIFIED_OK 1 c) c
      { x with hasVer := true, verVal := y.candVal, verStat := y.candStat, verSeq := y.candSeq, verFresh := true }
    openDiag (putAslot s c { y with phase := 0, passes := p, defers := 0, verTo := y.at_, open_ := y.open_ && decide (p < 2) }) c

/-! ### Samples -/

/-- The channels selected by a position, in ascending order (CNV-2). -/
def selected (s : State) (g p : Nat) : List Nat :=
  ((List.range 4).filter fun i => (s.rdE F.AG_POS_SEL g (32 * p)).testBit i).map fun i => 16 * g + p + 4 * i

/-- START of a position. -/
def State.posStart (s : State) (g p : Nat) : Nat := s.rdE F.AG_POS_START g (32 * p)

/-- The slice that holds a position. -/
def holder (s : State) (g p : Nat) : Option Nat :=
  (List.range 5).find? fun k => decide (s.rd F.AG_CS_STATE (5 * g + k) = 3) && decide (s.rd F.AG_CS_POS (5 * g + k) = p)

/-- The power of a slice. -/
def State.slicePw (s : State) (i : Nat) : SlicePw := Table.find {} s.ana.slice i
def putSlicePw (s : State) (i : Nat) (x : SlicePw) : State :=
  { s with ana := { s.ana with slice := Table.put {} s.ana.slice i x } }

/-- The position converts: configured, its slice powered, its group loaded. -/
def State.posOn (s : State) (g p : Nat) : Bool :=
  decide (s.posStart g p ≠ 0) && decide (s.rdE F.AG_POS_SEL g (32 * p) ≠ 0) && s.agLoaded g && s.time.link &&
    match holder s g p with
    | some k => decide ((s.slicePw (5 * g + k)).pw = 2)
    | none => false

/-- A sample is on its way (R399). -/
def sendSample (s : State) (x : InFlight) : State := { s with ana := { s.ana with flight := s.ana.flight ++ [x] } }

/-- A value conversion is counted towards the next slot (R405, R406). -/
def countConv (s : State) (c : Nat) : State :=
  let y := s.aslot c
  if s.slotTest c ∧ y.phase = 0 then
    if s.rd F.PPR_CH_DIAG_N c ≤ y.count + 1 then putAslot s c { y with count := 0, phase := 1, at_ := 0 }
    else putAslot s c { y with count := y.count + 1 }
  else s

/-- A slot begins at `t`: what stands before it is kept (R407, R409). -/
def beginSlot (s : State) (c phase t : Nat) : State :=
  let x := s.ach c
  putAslot s c { s.aslot c with phase := phase, at_ := t, before := x.last, candVal := x.val, candStat := x.stat
                                candSeq := x.seq }

/-- A triggered sample of a position is taken at `t` (R401). -/
def takeTrigger (s : State) (g p e angle t : Nat) (late : Bool) : State :=
  let x := s.apos (4 * g + p)
  let l := selected s g p
  let c := l.getD (x.ptr % max 1 l.length) 0
  let s := putApos s (4 * g + p)
    { x with ptr := (x.ptr + 1) % max 1 l.length, lastAt := some t, lastCh := c, lastTrig := true, waiting := none }
  sendSample (countConv s c) ⟨g, p, c, 0, t, some (e, angle), late⟩

/-- A diagnostic slot of the position's last channel that runs at `t` is abandoned (R406). -/
def abortSlot (s : State) (g p c : Nat) : State :=
  let y := s.aslot c
  let x := s.apos (4 * g + p)
  let s := putAslot s c { y with phase := 1, at_ := y.at_ - 1000, defers := y.defers + 1 }
  let s := putApos s (4 * g + p) { x with lastAt := some (y.at_ - 1000) }
  { s with ana := { s.ana with flight := s.ana.flight.filter fun z => !(decide (z.c = c) && decide (z.kind = 1)) } }
    |>.inc F.AG_CONV_SLOT_ABORT g

/-- A CONV event of entry `e` at instant `t` triggers a position (R401–R403, R406). -/
def trigger (s : State) (g p e angle t : Nat) (late : Bool) : State :=
  if !s.posOn g p ∨ s.posStart g p < 2 then s
  else
    let x := s.apos (4 * g + p)
    let c0 := x.lastCh
    let y := s.aslot c0
    let slotEnd := y.at_ + 20000
    let inSlot := decide (y.phase = 3) && decide (t < slotEnd)
    let s := if inSlot && decide (y.defers < s.rd F.PPR_CH_DIAG_N c0) then abortSlot s g p c0 else s
    let x := s.apos (4 * g + p)
    let l := selected s g p
    let c := l.getD (x.ptr % max 1 l.length) 0
    let gap := if c = x.lastCh then 1000 else 3000
    let free := match x.lastAt with
      | none => 0
      | some a => a + gap
    if x.waiting.isSome then s.inc F.AG_CONV_TRIG_DROP g
    else if t < free then putApos s (4 * g + p) { x with waiting := some (e, free, angle) }
    else takeTrigger s g p e angle t late

/-! ### Slices (R395, R411–R419) -/

/-- A slice takes a state, position and cause; the store keeps the assignment (R395). -/
def putSlice (s : State) (g k st pos cause : Nat) : State :=
  let i := 5 * g + k
  let s := ((s.wr F.AG_CS_STATE st i).wr F.AG_CS_POS pos i).wr F.AG_CS_CAUSE cause i
  if st = 1 ∨ st = 2 then s
  else { s with ana := { s.ana with keep := Table.put 0 s.ana.keep i (1 + st + 16 * pos + 256 * cause) } }

/-- The assignment the store keeps for slice `i`: state, position, cause. A new module has CS0–CS3 on P0–P3. -/
def keptSlice (s : State) (i : Nat) : Nat × Nat × Nat :=
  let v := Table.find 0 s.ana.keep i
  if v = 0 then (if i % 5 < 4 then (3, i % 5, 0) else (0, 0, 0))
  else ((v - 1) % 16, (v - 1) / 16 % 16, (v - 1) / 256)

/-- The slices of a group take the assignment of the store (R395). -/
def restoreSlices (s : State) (g : Nat) : State :=
  (List.range 5).foldl (fun s k =>
    let v := keptSlice s (5 * g + k)
    putSlice s g k v.1 v.2.1 v.2.2) s

/-- Slice `k` is to be powered: its position converts, or it calibrates or overlaps. -/
def State.sliceWanted (s : State) (g k : Nat) : Bool :=
  let st := s.rd F.AG_CS_STATE (5 * g + k)
  let p := s.rd F.AG_CS_POS (5 * g + k)
  s.agLoaded g && (decide (st = 1) || decide (st = 2) ||
    (decide (st = 3) && decide (s.posStart g p ≠ 0) && decide (s.rdE F.AG_POS_SEL g (32 * p) ≠ 0)))

/-- Slice power follows what is wanted: 200 µs to power up, 250 µs while a power-down is under way (R419). A slice that
calibrates counts as powered. -/
def slicesFollow (s : State) (g : Nat) : State :=
  (List.range 5).foldl (fun s k =>
    let i := 5 * g + k
    let x := s.slicePw i
    let st := s.rd F.AG_CS_STATE i
    if st = 1 ∨ st = 2 then putSlicePw s i ⟨2, 0⟩
    else if s.sliceWanted g k then
      if x.pw = 0 then putSlicePw s i ⟨1, s.time.now + (if s.time.now < x.at_ + 50000 ∧ x.at_ ≠ 0 then 250000 else 200000)⟩
      else s
    else if x.pw = 0 then s else putSlicePw s i ⟨0, s.time.now⟩) s

/-- The rotation of a group changes. -/
def updRot (s : State) (g : Nat) (f : Rotation → Rotation) : State :=
  putAgg s g { s.agg g with rot := f (s.agg g).rot }

/-- T_STEP [ns] of R411. -/
def State.tStep (s : State) (g : Nat) : Nat := 16000000000 / 2 ^ s.rd F.AG_CONV_CAL_STEP g

/-- The random source reports a failed health test (R414). -/
def State.rngFailed (s : State) : Bool := decide (2 ≤ s.rd F.SEC_RNG_STATE)

/-- The wait before the next step: T_STEP × (0.75 + 0.5 u), drawn at 1 µs, or T_STEP without dither (R411, R414). -/
def nextWait (s : State) (g : Nat) : State :=
  let t := s.tStep g
  if s.is F.AG_CONV_DITHER_FIXED g then updRot s g fun r => { r with due := s.time.now + t }
  else
    let u := s.nextFree % (t / 2000 + 1)
    updRot s.useFree g fun r => { r with due := s.time.now + 3 * t / 4 + 1000 * u }

/-- A permutation of the four positions drawn with `n`. -/
def permute (n : Nat) : List Nat :=
  let pick (l : List Nat) (k : Nat) : Nat × List Nat := (l.getD k 0, l.eraseIdx k)
  let a := pick [0, 1, 2, 3] (n % 4)
  let b := pick a.2 (n / 4 % 3)
  let c := pick b.2 (n / 12 % 2)
  a.1 :: b.1 :: c.1 :: c.2

/-- A new round begins: its order, and dithering as the random source allows (R411, R414). -/
def newRound (s : State) (g : Nat) : State :=
  let fixed := s.rngFailed
  let s := if fixed = s.is F.AG_CONV_DITHER_FIXED g then s
    else log Ev.DITHER_FIXED [g, b2n fixed] (s.wr F.AG_CONV_DITHER_FIXED (b2n fixed) g)
  if fixed then updRot s g fun r => { r with round := [0, 1, 2, 3] }
  else
    let l := permute s.nextFree
    updRot s.useFree g fun r => { r with round := l }

/-- A calibration or overlap under way is abandoned; its step restarts with a new wait (R418). -/
def abandonCal (s : State) (g : Nat) : State :=
  let r := (s.agg g).rot
  match r.calib with
  | none => s
  | some k =>
    let s := if r.retest then putSlice s g k 4 0 (s.rd F.AG_CS_CAUSE (5 * g + k)) else putSlice s g k 0 0 0
    slicesFollow (nextWait (updRot s g fun r => { r with calib := none, overlap := none, retest := false }) g) g

/-- A slice is retired (R415, R416). -/
def retireSlice (s : State) (g k pos cause : Nat) : State :=
  let s := (putSlice s g k 4 0 cause).wr F.AG_CONV_CAL_STOPPED 1 g
  let s := updRot s g fun r => { r with round := [], calib := none, overlap := none, retest := false }
  slicesFollow (log Ev.SLICE_RETIRE [g, k, pos, cause] s) g

/-- The step of a round ends (R411). -/
def endStep (s : State) (g : Nat) : State :=
  let l := (s.agg g).rot.round.drop 1
  let s := updRot s g fun r => { r with round := l, calib := none, overlap := none }
  let s := if l.isEmpty then s.wr F.AG_CONV_ROUNDS (s.rd F.AG_CONV_ROUNDS g + 1) g else s
  slicesFollow (nextWait s g) g

/-- Slice `k` takes position `p`, and the slice that held it becomes the spare (R411). -/
def handSlice (s : State) (g k p : Nat) : State :=
  let s := match holder s g p with
    | some h => putSlice s g h 0 0 0
    | none => s
  updRot (putSlice s g k 3 p 0) g fun r => { r with miss := r.miss.set k 0, failed := r.failed.set p none }

/-- The schedules of a group follow NRL.CYCLE: STEP_SPLIT where S × STEP does not divide it (R398). -/
def stepSplit (s : State) : State :=
  (List.range 4).foldl (fun s g =>
    let bad := (List.range 4).any fun p =>
      let st := s.posStart g p
      let n := (selected s g p).length * s.rdE F.AG_POS_STEP g (32 * p)
      (decide (st = 1) || decide (st = 3)) && decide (n ≠ 0) && decide (s.rd F.NRL_CYCLE_CYCLE % n ≠ 0)
    s.wr F.AG_CONV_STEP_SPLIT (b2n bad) g) s

end Sys2Proof.Machine
end

