-- ==== Sys2Proof/Machine/Operands.lean ====
section
/-!
DEFINITION. The operand forms of lane instructions: what a lane sees while it executes (its registers, its memories, the
images of its execution), effective addresses (R206), reads and writes of the operand areas (R205, R207, R208), registers,
index registers, instances and the commit list.
-/

namespace Sys2Proof.Machine

/-- What an execution reads besides the lane itself: its images, the committed Q at its release, the active bank, its
RUN-tick value, and the sources of R231. -/
structure Env where
  i : Memory
  p : Memory
  s : Memory
  q0 : Memory
  bank : Bank
  tick : Nat
  station : Nat
  caps : List Memory
  capPos : List Nat

/-- One lane while it executes: the registers of the execution and the lane's own memories. -/
structure Lane where
  c : LaneCtx
  m : LaneMem

/-- A change of one lane. -/
abbrev LaneFn := Env → Lane → Lane

/-- Register and context updates. -/
def Lane.upd (l : Lane) (f : LaneCtx → LaneCtx) : Lane := { l with c := f l.c }
def Lane.v (l : Lane) (k : Nat) : Word := Table.find 0 l.c.v k
def Lane.setV (l : Lane) (k : Nat) (w : Word) : Lane := l.upd fun c => { c with v := Table.put 0 c.v k w }
def Lane.ix (l : Lane) (k : Nat) : Nat := Table.find 0 l.c.ix k
def Lane.setIx (l : Lane) (k n : Nat) : Lane := l.upd fun c => { c with ix := Table.put 0 c.ix k (n % 2 ^ 20) }
def Lane.setBa (l : Lane) (b : Bool) : Lane := l.upd fun c => { c with ba := b }

/-- The flags of ZEN-2 by bit. -/
def fCY : Nat := 0
def fZR : Nat := 1
def fNG : Nat := 2
def fEQ : Nat := 3
def fOV : Nat := 4
def fGV : Nat := 5

/-- A flag's value, and a flag set to a value. -/
def Lane.flag (l : Lane) (k : Nat) : Bool := l.c.flags.testBit k
def Lane.setFlag (l : Lane) (k : Nat) (b : Bool) : Lane := l.upd fun c => { c with flags := setBits c.flags k k (b2n b) }

/-- A sticky flag is set when its event occurs (R204). -/
def Lane.stick (l : Lane) (k : Nat) (b : Bool) : Lane := if b then l.setFlag k true else l

/-! ### Instances, the state signature and dirty pages -/

/-- The kind of instance `id` in a bank (OED-4), 0 where the bank has none. -/
def Bank.kindOf (b : Bank) (id : Nat) : Nat := match b.insts.find? fun r => decide (r.id = id) with
  | some r => r.kind
  | none => 0

/-- State size by kind (OED-5). -/
def instSize (kind : Nat) : Nat := if kind ≤ 3 then 16 else if kind = 4 then 8 else 1

/-- The state of an instance as bytes, its fields in the order of OED-5 (assumption log 26). -/
def instBytes (kind : Nat) (x : Inst) : List Nat :=
  if kind ≤ 3 then leBytes 6 x.elapsed ++ leBytes 8 x.last ++
    [b2n x.running + 2 * b2n x.q + 4 * b2n x.inp + 8 * b2n x.init, 0]
  else if kind = 4 then leBytes 4 (unsgn 32 x.cv) ++
    [b2n x.uin + 2 * b2n x.din + 4 * b2n x.initU + 8 * b2n x.initD, 0, 0, 0]
  else [b2n x.mem + 2 * b2n x.init]

/-- The instance whose state the bytes give. -/
def instOf (kind : Nat) (bs : List Nat) : Inst :=
  if kind ≤ 3 then
    let f := leAt bs 14 1
    { elapsed := leAt bs 0 6, last := leAt bs 6 8, running := f.testBit 0, q := f.testBit 1, inp := f.testBit 2
      init := f.testBit 3 }
  else if kind = 4 then
    let f := leAt bs 4 1
    { cv := sgn 32 (leAt bs 0 4), uin := f.testBit 0, din := f.testBit 1, initU := f.testBit 2, initD := f.testBit 3 }
  else { mem := (leAt bs 0 1).testBit 0, init := (leAt bs 0 1).testBit 1 }

/-- The page of 256 bytes in which an instance lies: timers, counters and edges one after another behind M and D, each in
the order of the instance table (assumption log 26). -/
def Bank.instPage (b : Bank) (id kind : Nat) : Nat :=
  let cls (k : Nat) : Nat := if k ≤ 3 then 0 else k
  let k := ((b.insts.takeWhile fun r => decide (r.id ≠ id)).filter fun r => decide (cls r.kind = cls kind)).length
  if kind ≤ 3 then 544 + k / 16 else if kind = 4 then 800 + k / 32 else 928 + k / 256

/-- One write enters the CRC of R263: area code, address, new value. -/
def sigStep (c area addr v : Nat) : Nat :=
  ([area] ++ leBytes 4 addr ++ leBytes 4 v).foldl (fun c b => crc32Steps 8 (c ^^^ b)) c

/-- A page is written. -/
def LaneMem.touch (m : LaneMem) (page : Nat) : LaneMem :=
  if m.dirty.contains page then m else { m with dirty := m.dirty ++ [page] }

/-- The instance with identifier `id`. -/
def Lane.inst (l : Lane) (id : Nat) : Inst := Table.find {} l.m.inst id

/-- An instance takes a new state, which enters the signature by words (R263). -/
def Lane.setInst (e : Env) (l : Lane) (id : Nat) (x : Inst) : Lane :=
  let k := e.bank.kindOf id
  let bs := instBytes k x
  let sig := (List.range ((bs.length + 3) / 4)).foldl (fun c j => sigStep c 7 id (leAt bs (4 * j) 4)) l.c.sig
  { c := { l.c with sig := sig }
    m := { l.m with inst := Table.put {} l.m.inst id x }.touch (e.bank.instPage id k) }

/-! ### Areas -/

/-- Size of an area in bytes (ZEN-3). -/
def areaSize (e : Env) (a : Nat) : Nat :=
  match a with
  | 0 => 8192
  | 1 => 4096
  | 2 => 8192
  | 3 => 131072
  | 4 => 16384
  | 5 => 1024
  | 6 => 4 * e.bank.poolLen
  | _ => 0

/-- `n` bytes at byte address `a` lie in the area, and touch no reserved Q byte (R207, R208). -/
def inArea (e : Env) (area a n : Nat) : Bool :=
  decide (a + n ≤ areaSize e area) && (decide (area ≠ 1) || decide (a + n ≤ 0x210) || decide (0x400 ≤ a))

/-- One byte of an area as the lane reads it. -/
def areaByte (e : Env) (l : Lane) (area a : Nat) : Nat :=
  match area with
  | 0 => (e.i.read a).toNat
  | 1 =>
    let m := (l.c.qmask.read a).toNat
    ((e.q0.read a).toNat &&& (255 - m)) ||| ((l.c.q.read a).toNat &&& m)
  | 2 => (l.m.m.read a).toNat
  | 3 => (l.m.d.read a).toNat
  | 4 => (e.p.read a).toNat
  | 5 => (e.s.read a).toNat
  | 6 => bits (Table.find 0 e.bank.words (e.bank.codeLen + a / 4)) (8 * (a % 4) + 7) (8 * (a % 4))
  | _ => 0

/-- `n` bytes of an area, little-endian. -/
def areaGet (e : Env) (l : Lane) (area a n : Nat) : Nat :=
  leNat ((List.range n).map fun k => areaByte e l area (a + k))

/-- One byte of an area written under a bit mask: M and D at once, Q into the execution's own copy (R208, R209). -/
def areaPutByte (l : Lane) (area a mask v : Nat) : Lane :=
  let mix (old : Nat) : Byte := BitVec.ofNat 8 ((old &&& (255 - mask)) ||| (v &&& mask))
  match area with
  | 1 => l.upd fun c => { c with
      q := c.q.write a (mix (c.q.read a).toNat)
      qmask := c.qmask.write a (BitVec.ofNat 8 ((c.qmask.read a).toNat ||| mask)) }
  | 2 => { l with m := { l.m with m := l.m.m.write a (mix (l.m.m.read a).toNat) } }
  | 3 => { l with m := { l.m with d := l.m.d.write a (mix (l.m.d.read a).toNat) } }
  | _ => l

/-- Whole bytes of an area written. -/
def areaPut (l : Lane) (area a : Nat) : List Nat → Lane
  | [] => l
  | b :: bs => areaPut (areaPutByte l area a 255 b) area (a + 1) bs

/-- A write to M or D at byte `a` enters the signature, as the word it lies in, and marks its page. -/
def Lane.noteWrite (l : Lane) (area a : Nat) : Lane :=
  match area with
  | 2 => { c := { l.c with sig := sigStep l.c.sig 2 (a / 4) (memGet l.m.m (a / 4 * 4) 4) }, m := l.m.touch (a / 256) }
  | 3 => { c := { l.c with sig := sigStep l.c.sig 3 (a / 4) (memGet l.m.d (a / 4 * 4) 4) }
           m := l.m.touch (32 + a / 256) }
  | _ => l

/-- A read of `n` bytes: the value, or 0 with OV when it lies outside (R207). -/
def readN (e : Env) (l : Lane) (area a n : Nat) : Nat × Lane :=
  if inArea e area a n then (areaGet e l area a n, l) else (0, l.stick fOV true)

/-- A write of `n` bytes, or OV alone when it lies outside (R207). -/
def writeN (e : Env) (l : Lane) (area a n v : Nat) : Lane :=
  if inArea e area a n then (areaPut l area a (leBytes n v)).noteWrite area a else l.stick fOV true

/-- The effective address in the operand's own units (R206). -/
def effAddr (l : Lane) (x : Bool) (ixn addr : Nat) : Nat := addr + (if x then l.ix ixn else 0)

/-- A bit operand read: its value, inverted when N = 1; an address outside reads 0 (R207). -/
def readBit (e : Env) (l : Lane) (b : BitOp) : Bool × Lane :=
  let a := effAddr l b.x b.ixn b.addr
  let r := readN e l b.area (a / 8) 1
  ((r.1.testBit (a % 8)) != b.n, r.2)

/-- A bit operand written. -/
def writeBit (e : Env) (l : Lane) (b : BitOp) (v : Bool) : Lane :=
  let a := effAddr l b.x b.ixn b.addr
  if inArea e b.area (a / 8) 1 then
    (areaPutByte l b.area (a / 8) (2 ^ (a % 8)) (b2n v * 2 ^ (a % 8))).noteWrite b.area (a / 8)
  else l.stick fOV true

/-- Bytes of an access size (ZEN-4). -/
def sizeBytes (sz : Nat) : Nat :=
  match sz with
  | 0 => 4
  | 1 => 2
  | 2 => 2
  | _ => 1

/-- An accumulator operand read and extended as LDA gives. -/
def readAcc (e : Env) (l : Lane) (o : MaOp) : Int × Lane :=
  let n := sizeBytes o.size
  let r := readN e l o.area (effAddr l o.x o.ixn o.addr * n) n
  (if o.size = 0 then sgn 32 r.1 else if o.size = 1 then sgn 16 r.1 else (r.1 : Int), r.2)

/-- A register operand's word read. -/
def readWord (e : Env) (l : Lane) (o : MvOp) : Nat × Lane :=
  readN e l o.area (effAddr l o.x o.ixn o.addr * 4) 4

/-- Lane cycles of an area access (ZEN-5). -/
def areaCost (area : Nat) (x : Bool) : Nat :=
  (match area with
    | 2 => 0
    | 3 => 2
    | 4 => 2
    | _ => 1) + b2n x

/-- The step is done: the next step follows, and its cycles are counted (R211). -/
def Lane.next (l : Lane) (cyc : Nat) : Lane := l.upd fun c => { c with pc := c.pc + 1, cycles := c.cycles + cyc }

/-- The step is done and step `t` follows. -/
def Lane.jump (l : Lane) (t cyc : Nat) : Lane := l.upd fun c => { c with pc := t, cycles := c.cycles + cyc }

/-- The lane halts with a code (R227). -/
def Lane.halt (l : Lane) (code cyc : Nat) : Lane := l.upd fun c => { c with run := .halted code, cycles := c.cycles + cyc }

/-- A request joins the commit list, or is dropped with OV (R229). -/
def Lane.request (l : Lane) (ok : Bool) (r : Request) : Lane :=
  if l.c.ba then
    if ok && decide (l.c.reqs.length < 64) then l.upd fun c => { c with reqs := c.reqs ++ [r] } else l.stick fOV true
  else l

end Sys2Proof.Machine
end

