-- ==== Sys2Proof/Machine/Flags.lean ====
section
/-!
DEFINITION. The flag computations of the lane instructions (ZEN-2, ZEN-8 to ZEN-10, R218–R224).
-/

namespace Sys2Proof.Machine

/-- ZR and NG of a 32-bit result. -/
def Lane.zn (l : Lane) (w : Word) : Lane := (l.setFlag fZR (decide (w = 0))).setFlag fNG w.msb

/-- ZR and NG of ACC. -/
def Lane.znAcc (l : Lane) : Lane := (l.setFlag fZR (decide (l.c.acc = 0))).setFlag fNG (decide (l.c.acc < 0))

/-- ZR and NG of a float result: ±0, and the sign bit of a result that is no NaN. -/
def Lane.znF (l : Lane) (w : Word) : Lane :=
  (l.setFlag fZR (decide (w.toNat % 2 ^ 31 = 0))).setFlag fNG (w.msb && !(decide (0x7F800000 < w.toNat % 2 ^ 31)))

/-- A register takes a result, and ZR and NG follow it. -/
def Lane.putZN (l : Lane) (d : Nat) (w : Word) : Lane := (l.setV d w).zn w

/-- A register takes a float result. -/
def Lane.putF (l : Lane) (d w : Nat) : Lane := (l.setV d (BitVec.ofNat 32 w)).znF (BitVec.ofNat 32 w)

/-- The least and the greatest value of ACC (R218). -/
def accMin : Int := -(2 ^ 39)
def accMax : Int := 2 ^ 39 - 1

/-- ACC takes the exact result `x` of an arithmetic instruction: unchanged while saturated, at the limit with GV when
`x` lies outside the 40-bit range; ZR and NG follow ACC (R218). -/
def Lane.accArith (l : Lane) (x : Int) : Lane :=
  if l.c.sat then l.znAcc
  else if x < accMin then ((l.upd fun c => { c with acc := accMin, sat := true }).setFlag fGV true).znAcc
  else if accMax < x then ((l.upd fun c => { c with acc := accMax, sat := true }).setFlag fGV true).znAcc
  else (l.upd fun c => { c with acc := x }).znAcc

/-- ACC is loaded: saturation ends (R218). -/
def Lane.accLoad (l : Lane) (x : Int) : Lane := (l.upd fun c => { c with acc := x, sat := false }).znAcc

/-- ACC limited to a destination size, and whether it was limited (R219). -/
def accTo (sz : Nat) (a : Int) : Int × Bool :=
  let r := match sz with
    | 0 => clampI (-(2 ^ 31)) (2 ^ 31 - 1) a
    | 1 => clampI (-(2 ^ 15)) (2 ^ 15 - 1) a
    | 2 => clampI 0 65535 a
    | _ => clampI 0 255 a
  (r, decide (r ≠ a))

/-- A shift amount (ZEN-9). -/
def shAmt (l : Lane) : Shift → Nat
  | .imm n => n
  | .reg t => (l.v t).toNat % 32

/-- The flags of CMP and CMPI (R222). -/
def Lane.compare (l : Lane) (a b : Word) : Lane :=
  ((((l.setFlag fEQ (decide (a = b))).setFlag fZR (decide (a = b))).setFlag fNG (a.slt b))).setFlag fCY (a.ult b)

/-- The condition of JC and LDF by SEL code (ZEN-4). -/
def Lane.cond (l : Lane) (sel : Nat) : Bool := if sel = 6 then l.c.ba else l.flag sel

end Sys2Proof.Machine
end

