-- ==== Sys2Proof/Machine/Zen.lean ====
section
/-!
DEFINITION. How a lane instruction runs: every voting lane of the running execution whose next step, fetched from the
active bank, is that instruction carries it out (R209, R225), and a halted execution ends in FAULT (R227).
-/

namespace Sys2Proof.Machine

/-- The 32-bit step at number `pc` of a bank's code. -/
def Bank.step (b : Bank) (pc : Nat) : Option Nat := if pc < b.codeLen then some (Table.find 0 b.words pc) else none

/-- The instruction a lane meets at step `pc` of the active bank; none where the step lies outside the code or is an
undefined encoding (R210, R225). -/
def fetch (s : State) (pc : Nat) : Option Instr :=
  match s.activeBank with
  | none => none
  | some b => match b.step pc with
    | none => none
    | some w => Zen.decodeStep w

/-- What an execution reads. -/
def envOf (s : State) (x : Exec) : Env :=
  { i := x.i, p := x.p, s := x.s, q0 := x.q0, bank := s.activeBank.getD {}, tick := x.runTick, station := s.station
    caps := s.ang.caps, capPos := (List.range 4).map fun d => s.rd F.ANG_CAPPOS_CAPPOS d }

/-- Lane `k` of execution `x` executes now. -/
def laneRuns (s : State) (x : Exec) (k : Nat) : Bool := s.votes k && decide ((x.lanes.get k).run = .running)

/-- Lane `k` carries out `f` when `ok` admits its next step. -/
def laneStep (ok : Nat → Bool) (f : LaneFn) (s : State) (k : Nat) : State :=
  match s.scn.running with
  | none => s
  | some x =>
    if laneRuns s x k && ok (x.lanes.get k).pc then
      let l := f (envOf s x) ⟨x.lanes.get k, s.scn.lanes.get k⟩
      { s with scn := { s.scn with
        running := some { x with lanes := x.lanes.set k l.c }, lanes := s.scn.lanes.set k l.m } }
    else s

/-- The halt codes of the voting lanes of an execution. -/
def haltCodes (s : State) (x : Exec) : List (Nat × Nat) :=
  (List.range 3).filterMap fun k =>
    if s.votes k then match (x.lanes.get k).run with
      | .halted c => some (c, (x.lanes.get k).pc)
      | _ => none
    else none

/-- A halt in half of the voting lanes or more ends the execution in FAULT with PROGRAM_HALT (R227); one of three counts
as an absent copy at the vote (assumption log 8). -/
def haltCheck (s : State) : State :=
  match s.scn.running with
  | none => s
  | some x =>
    match haltCodes s x with
    | [] => s
    | (c, pc) :: more =>
      if s.voting ≤ 2 * (1 + more.length) then
        enterFault (log Ev.HALT (leBytes 2 c ++ [x.task, 0] ++ leBytes 4 pc) s) 7
      else s

/-- Every voting lane of an execution has ended or halted. -/
def allDone (s : State) (x : Exec) : Bool :=
  (List.range 3).all fun k => !(s.votes k) || decide ((x.lanes.get k).run ≠ .running)

/-- An execution whose lanes have all come to their end is presented to the voter, and the dispatcher goes on (SCN-4). -/
def endCheck (s : State) : State :=
  match s.scn.running with
  | none => s
  | some x =>
    if allDone s x then
      dispatch { s with scn := { s.scn with
        running := none, presented := s.scn.presented ++ [addCycles x 16] } }
    else s

/-- A lane instruction runs in the three lanes in step, while the lane domain runs (R85). -/
def zenOn (ok : Nat → Bool) (f : LaneFn) (s : State) : State :=
  if s.clk.lane then
    endCheck (haltCheck (laneStep ok f (laneStep ok f (laneStep ok f s 0) 1) 2))
  else s

/-- Instruction `i` with effect `f`. -/
def zen (i : Instr) (f : LaneFn) (s : State) : State := zenOn (fun pc => decide (fetch s pc = some i)) f s

end Sys2Proof.Machine
end

