-- ==== Sys2Proof/Machine/ZenBits.lean ====
section
/-!
DEFINITION. Bit and branch-stack instructions (ZEN-6, R212, R213) and edges, timers and counters (ZEN-7, R214–R217).
Each `z…` says what one lane does; each `exec…` runs it in the lanes.
-/

namespace Sys2Proof.Machine

/-- The outcome of a command that always completes. -/
abbrev Out := Host.Outcome State Fault Refusal

/-! ### Bit instructions -/

/-- A bit instruction that combines BA with its operand. -/
def zBit (g : Bool → Bool → Bool) (b : BitOp) : LaneFn := fun e l =>
  let r := readBit e l b
  (r.2.setBa (g r.2.c.ba r.1)).next (1 + areaCost b.area b.x)

def zLD (b : BitOp) : LaneFn := zBit (fun _ o => o) b
def zAND (b : BitOp) : LaneFn := zBit (fun a o => a && o) b
def zOR (b : BitOp) : LaneFn := zBit (fun a o => a || o) b
def zXOR (b : BitOp) : LaneFn := zBit (fun a o => a != o) b
def zST (b : BitOp) : LaneFn := fun e l => (writeBit e l b (l.c.ba != b.n)).next (1 + areaCost b.area b.x)
def zSET (b : BitOp) : LaneFn := fun e l =>
  (if l.c.ba then writeBit e l b true else l).next (1 + areaCost b.area b.x)
def zRST (b : BitOp) : LaneFn := fun e l =>
  (if l.c.ba then writeBit e l b false else l).next (1 + areaCost b.area b.x)
def zNOT : LaneFn := fun _ l => (l.setBa (!l.c.ba)).next 1
def zSETBA : LaneFn := fun _ l => (l.setBa true).next 1
def zCLRBA : LaneFn := fun _ l => (l.setBa false).next 1
def zLDF (f : Nat) : LaneFn := fun _ l => (l.setBa (l.flag f)).next 1
def zBTST (vs k : Nat) (neg : Bool) : LaneFn := fun _ l => (l.setBa ((l.v vs).getLsbD k != neg)).next 1
def zBST (vd k : Nat) : LaneFn := fun _ l =>
  (l.setV vd (BitVec.ofNat 32 (setBits (l.v vd).toNat k k (b2n l.c.ba)))).next 1

/-- The operator of a BIT entry: 0 AND, 1 OR, 2 XOR; the entry keeps o in bits 1:0 and N in bit 2. -/
def brOp (o : Nat) (s b : Bool) : Bool :=
  let b := b != decide (4 ≤ o)
  match o % 4 with
  | 0 => s && b
  | 1 => s || b
  | _ => s != b

def zBOPEN (o : Nat) (neg : Bool) : LaneFn := fun _ l =>
  if 16 ≤ l.c.stack.length then l.halt 0xFF00 1
  else (l.upd fun c => { c with stack := .bit c.ba (o + 4 * b2n neg) :: c.stack }).next 1

def zBCLOSE : LaneFn := fun _ l =>
  match l.c.stack with
  | .bit s o :: rest => (l.upd fun c => { c with ba := brOp o s c.ba, stack := rest }).next 1
  | _ => l.halt 0xFF01 1

/-! ### Edges, timers and counters -/

/-- An edge instance: the first evaluation reports none (R214). -/
def zEdge (rise : Bool) (id : Nat) : LaneFn := fun e l =>
  let x := l.inst id
  let r := !x.init && (if rise then l.c.ba && !x.mem else x.mem && !l.c.ba)
  ((Lane.setInst e l id { x with mem := l.c.ba, init := false }).setBa r).next 4

def zEDGR (id : Nat) : LaneFn := zEdge true id
def zEDGF (id : Nat) : LaneFn := zEdge false id

/-- The microseconds of a timer unit (ZEN-4). -/
def unitUs (u : Nat) : Nat :=
  match u with
  | 0 => 1
  | 1 => 1000
  | _ => 1000000

/-- ELAPSED after the RUN ticks since LAST, held at 2^48 - 1 (R215). -/
def elapse (x : Inst) (tick : Nat) : Nat := min (2 ^ 48 - 1) (x.elapsed + (tick - x.last))

/-- A timer that runs counts; one that is idle stays at 0. -/
def runOn (x : Inst) (tick : Nat) : Inst := if x.running then { x with elapsed := elapse x tick, last := tick } else x

/-- Idle with output `q`. -/
def idle (x : Inst) (q : Bool) : Inst := { x with running := false, elapsed := 0, q := q }

/-- Started now with output `q`. -/
def started (x : Inst) (tick : Nat) (q : Bool) : Inst := { x with running := true, elapsed := 0, last := tick, q := q }

/-- TON (R216): the level of IN decides. -/
def evalTON (x : Inst) (inb : Bool) (tick pt : Nat) : Inst :=
  if !inb then idle x false
  else if !x.running then started x tick false
  else { x with q := decide (pt ≤ x.elapsed) }

/-- TOF (R216). -/
def evalTOF (x : Inst) (inb fell : Bool) (tick pt : Nat) : Inst :=
  if inb then idle x true
  else if fell then started x tick true
  else if x.running then (if pt ≤ x.elapsed then idle x false else { x with q := true })
  else { x with q := false }

/-- TP (R216): a rise while Q was 0 starts the pulse; an evaluation that ends one starts none. -/
def evalTP (x : Inst) (rose : Bool) (tick pt : Nat) : Inst :=
  if x.running then (if pt ≤ x.elapsed then idle x false else { x with q := true })
  else if rose && !x.q then started x tick true
  else { x with q := false }

/-- One evaluation of a timer: kind 1 TON, 2 TOF, 3 TP (OED-4). -/
def evalTimer (kind : Nat) (x : Inst) (inb : Bool) (tick pt unit : Nat) : Inst :=
  let inp := if x.init then inb else x.inp
  let x := runOn x tick
  let y := match kind with
    | 1 => evalTON x inb tick pt
    | 2 => evalTOF x inb (inp && !inb) tick pt
    | _ => evalTP x (inb && !inp) tick pt
  { y with inp := inb, init := false, pt := pt, unit := unit }

/-- A timer instruction. -/
def zTimer (kind id vp unit : Nat) : LaneFn := fun e l =>
  let y := evalTimer kind (l.inst id) l.c.ba e.tick ((l.v vp).toNat * unitUs unit) unit
  ((Lane.setInst e l id y).setBa y.q).next 12

def zTON (id vp unit : Nat) : LaneFn := zTimer 1 id vp unit
def zTOF (id vp unit : Nat) : LaneFn := zTimer 2 id vp unit
def zTP (id vp unit : Nat) : LaneFn := zTimer 3 id vp unit

def zTRST (id : Nat) : LaneFn := fun e l =>
  (if l.c.ba then Lane.setInst e l id (idle (l.inst id) false) else l).next 6

def zTRD (v id : Nat) : LaneFn := fun _ l =>
  let x := l.inst id
  (l.setV v (BitVec.ofNat 32 (min x.elapsed x.pt / unitUs x.unit))).next 6

/-- CTU (R217). -/
def evalCTU (x : Inst) (inb : Bool) : Inst :=
  let cv := if !x.initU && inb && !x.uin then min (x.cv + 1) (2 ^ 31 - 1) else x.cv
  { x with cv := cv, uin := inb, initU := false }

/-- CTD (R217). -/
def evalCTD (x : Inst) (inb : Bool) : Inst :=
  let cv := if !x.initD && inb && !x.din then max (x.cv - 1) (-(2 ^ 31)) else x.cv
  { x with cv := cv, din := inb, initD := false }

def zCTU (v id : Nat) : LaneFn := fun e l =>
  let y := evalCTU (l.inst id) l.c.ba
  ((Lane.setInst e l id y).setBa (decide ((l.v v).toInt ≤ y.cv))).next 8

def zCTD (id : Nat) : LaneFn := fun e l =>
  let y := evalCTD (l.inst id) l.c.ba
  ((Lane.setInst e l id y).setBa (decide (y.cv ≤ 0))).next 8

def zCRST (id : Nat) : LaneFn := fun e l =>
  (if l.c.ba then Lane.setInst e l id { l.inst id with cv := 0 } else l).next 6

def zCLDV (v id : Nat) : LaneFn := fun e l =>
  (if l.c.ba then Lane.setInst e l id { l.inst id with cv := (l.v v).toInt } else l).next 6

def zCRD (v id : Nat) : LaneFn := fun _ l => (l.setV v (BitVec.ofInt 32 (l.inst id).cv)).next 4

/-! ### The rows -/

/-- ZEN-6 LD. -/
def execZLD (b : BitOp) (s : State) : Out := .next (zen (.zLD b) (zLD b) s)
def execZAND (b : BitOp) (s : State) : Out := .next (zen (.zAND b) (zAND b) s)
def execZOR (b : BitOp) (s : State) : Out := .next (zen (.zOR b) (zOR b) s)
def execZXOR (b : BitOp) (s : State) : Out := .next (zen (.zXOR b) (zXOR b) s)
def execZST (b : BitOp) (s : State) : Out := .next (zen (.zST b) (zST b) s)
def execZSET (b : BitOp) (s : State) : Out := .next (zen (.zSET b) (zSET b) s)
def execZRST (b : BitOp) (s : State) : Out := .next (zen (.zRST b) (zRST b) s)
def execZNOT (s : State) : Out := .next (zen .zNOT zNOT s)
def execZSETBA (s : State) : Out := .next (zen .zSETBA zSETBA s)
def execZCLRBA (s : State) : Out := .next (zen .zCLRBA zCLRBA s)
def execZLDF (f : Nat) (s : State) : Out := .next (zen (.zLDF f) (zLDF f) s)
def execZBTST (vs k : Nat) (neg : Bool) (s : State) : Out := .next (zen (.zBTST vs k neg) (zBTST vs k neg) s)
def execZBST (vd k : Nat) (s : State) : Out := .next (zen (.zBST vd k) (zBST vd k) s)
def execZBOPEN (o : Nat) (neg : Bool) (s : State) : Out := .next (zen (.zBOPEN o neg) (zBOPEN o neg) s)
def execZBCLOSE (s : State) : Out := .next (zen .zBCLOSE zBCLOSE s)
def execZEDGR (id : Nat) (s : State) : Out := .next (zen (.zEDGR id) (zEDGR id) s)
def execZEDGF (id : Nat) (s : State) : Out := .next (zen (.zEDGF id) (zEDGF id) s)
def execZTON (id vp unit : Nat) (s : State) : Out := .next (zen (.zTON id vp unit) (zTON id vp unit) s)
def execZTOF (id vp unit : Nat) (s : State) : Out := .next (zen (.zTOF id vp unit) (zTOF id vp unit) s)
def execZTP (id vp unit : Nat) (s : State) : Out := .next (zen (.zTP id vp unit) (zTP id vp unit) s)
def execZTRST (id : Nat) (s : State) : Out := .next (zen (.zTRST id) (zTRST id) s)
def execZTRD (v id : Nat) (s : State) : Out := .next (zen (.zTRD v id) (zTRD v id) s)
def execZCTU (v id : Nat) (s : State) : Out := .next (zen (.zCTU v id) (zCTU v id) s)
def execZCTD (id : Nat) (s : State) : Out := .next (zen (.zCTD id) (zCTD id) s)
def execZCRST (id : Nat) (s : State) : Out := .next (zen (.zCRST id) (zCRST id) s)
def execZCLDV (v id : Nat) (s : State) : Out := .next (zen (.zCLDV v id) (zCLDV v id) s)
def execZCRD (v id : Nat) (s : State) : Out := .next (zen (.zCRD v id) (zCRD v id) s)

end Sys2Proof.Machine
end

