-- ==== Sys2Proof/Machine/Digital.lean ====
section
/-!
DEFINITION. Digital channels: meanings of the commands of the eight digital field dies.
-/

namespace Sys2Proof.Machine

/-- Channel numbers and group numbers the commands may name. -/
def chanOk (c : Nat) : Bool := decide (c < 128)

/-! ### Inputs -/

/-- Filter times of DIG-5 [ns]. -/
def filtNs (f : Nat) : Nat :=
  match f with
  | 0 => 0
  | 1 => 10000
  | 2 => 100000
  | 3 => 500000
  | 4 => 1000000
  | 5 => 3000000
  | 6 => 10000000
  | _ => 20000000

/-- An accepted edge is counted (R330): `up` rising. -/
def countEdge (s : State) (c : Nat) (up : Bool) : State :=
  if s.dmode c ≠ 2 then s
  else
    let n := s.rd F.DG_CNT_CNT c
    match s.rd F.DG_CH_CNT_MODE c with
    | 0 => if up then s.wr F.DG_CNT_CNT (n + 1) c else s
    | 1 => s.wr F.DG_CNT_CNT (n + 1) c
    | _ =>
      if up then s.wr F.DG_CNT_CNT (if s.inState (c + 1) then n + (2 ^ 32 - 1) else n + 1) c
      else s

/-- The change matches COS: the bit of DGg.COS is set, with its interrupt source (R332). -/
def cosEdge (s : State) (c : Nat) (up : Bool) : State :=
  if (s.rd F.DG_CH_COS c).testBit (if up then 0 else 1) then
    let g := grp c
    let v := s.rd F.DG_COS_COS g
    srcEvent s (64 + c) (v.testBit (c % 16)) fun s => s.wr F.DG_COS_COS (setBits v (c % 16) (c % 16) 1) g
  else s

/-- The level of an input held for its filter time and is accepted (R328). -/
def inputChange (c : Nat) (level : Bool) (s : State) : State :=
  let g := grp c
  if !chanOk c ∨ ¬ (s.dmode c = 1 ∨ s.dmode c = 2) ∨ !s.dgLoaded g ∨ (s.dgg g).supply = 0 ∨ !(s.dgg g).stream ∨
      (s.dch c).raw = level then noEffect s
  else
    let s := (putDch s c { s.dch c with raw := level }).wr F.DG_CHSTAT_INIT 0 c
    let up := level != s.is F.DG_CH_INV c
    cosEdge (countEdge s c up) c up

def execInputChange (dt : Elapsed) (c : Nat) (level : Bool) (s : State) : Out :=
  .next (inputChange c level (advance dt s))

/-- The filter time after the first-state comparison has passed (R329). -/
def initFilterElapsed (c : Nat) (s : State) : State :=
  if chanOk c ∧ (s.dch c).initAt + filtNs (s.rd F.DG_CH_FILT c) ≤ s.time.now ∧ (s.dgg (grp c)).stream ∧
      s.dgLoaded (grp c) then
    s.wr F.DG_CHSTAT_INIT 0 c
  else noEffect s

def execInitFilterElapsed (dt : Elapsed) (c : Nat) (s : State) : Out := .next (initFilterElapsed c (advance dt s))

/-- The count of a COUNTER channel is set (R331); the write is refused elsewhere with CHANNEL_MODE (R360). -/
def cntWrite (c v : Nat) (s : State) : State :=
  if chanOk c ∧ s.dmode c = 2 then s.wr F.DG_CNT_CNT v c else noEffect s

def execCnt (dt : Elapsed) (c v : Nat) (s : State) : Out := .next (cntWrite c v (advance dt s))

/-- A live change of the input filter (R328). -/
def filtWrite (c v : Nat) (s : State) : State := if chanOk c then s.wr F.DG_CH_FILT v c else noEffect s

def execFilt (dt : Elapsed) (c v : Nat) (s : State) : Out := .next (filtWrite c v (advance dt s))

/-! ### The field vote (R268, R269) -/

/-- The voted output bit and duty of channel `c` are applied: a rising bit may clear a count (R331) or ask for a boost
(R340); a released standby only keeps them (R278). -/
def applyVoted (s : State) (c : Nat) (bit : Option Int) (duty : Option Int) : State :=
  let x := s.dch c
  let b := match bit with
    | some v => decide (v = 1)
    | none => x.bit
  let d := match duty with
    | some v => v.toNat
    | none => x.duty
  let rise := b && !x.bit
  let s := putDch s c { x with bit := b, duty := d }
  let s := if rise ∧ s.dmode c = 2 ∧ s.is F.DG_CH_CNT_RSTQ c then s.wr F.DG_CNT_CNT 0 c else s
  if s.inconsistent F.objDG_CH c then driveSafe s c 1
  else
    match s.dmode c with
    | 3 => drive s c b (rise && s.is F.DG_BOOST_ON_Q (2 * (c / 16) + c % 16) && isFast c)
    | 4 => if x.drv ∨ x.onPart then s else if pwmTimes s c d = pwmTimes s c x.dutyOn then s else pwmStart s c
    | _ => s

/-- The fields a digital die voted, as they enter the CRC of R269: output bits, then duties. -/
def votedFields (s : State) (g : Nat) : List Nat :=
  leBytes 2 (bits16 fun k => (s.dch (16 * g + k)).bit) ++
    (List.range 16).foldr (fun k l => leBytes 2 (s.dch (16 * g + k)).duty ++ l) []

/-- The same fields of a committed Q. -/
def committedFields (q : Memory) (g : Nat) : List Nat := memBytes q (2 * g) 2 ++ memBytes q (0x110 + 32 * g) 32

/-- A digital die receives its three copies and votes them. -/
def fieldVoteDg (s : State) (g bad : Nat) (x : CopySet) : State :=
  let ks := goodCopies x bad
  let one (a : State × Nat) (k : Nat) : State × Nat :=
    let c := 16 * g + k
    let b := voteItem x ks false fun m => (b2n (memBit m c) : Int)
    let d := voteItem x ks true fun m => (memGet m (0x110 + 2 * c) 2 : Int)
    (applyVoted a.1 c b.1 d.1, orBits a.2 (orBits b.2 d.2))
  let y := s.dgg g
  let s := putDgg s g { y with safe := 0, rein := if y.rein = 2 then 0 else y.rein }
  let r := (List.range 16).foldl one (s, 0)
  let diff := decide (crc32 (votedFields r.1 g) ≠ crc32 (committedFields x.committed g))
  updDgg r.1 g fun y => { y with split := orBits y.split r.2, crcDiff := y.crcDiff || diff, voted := true }

/-! ### Safe values and hold -/

/-- A digital group applies a safe-value command (R189, DIG-10). -/
def safeDg (s : State) (g kind : Nat) : State :=
  let y := s.dgg g
  let s := updDgg s g fun _ => { y with safe := kind, rein := if y.rein = 2 then 0 else y.rein }
  if y.rein = 1 then s else (List.range 16).foldl (fun s k => driveSafe s (16 * g + k) kind) s

/-- A digital group keeps its outputs under a hold command (R289). -/
def holdDg (s : State) (g : Nat) : State := updDgg s g fun y => { y with safe := 3 }

/-! ### Protection -/

/-- Current limitation lasted OVL_TIME, or a boost met a short (R335, R339). -/
def overload (c : Nat) (s : State) : State :=
  if chanOk c ∧ s.isOut c ∧ (s.dch c).drv then overloadOff s c else noEffect s

def execOverload (dt : Elapsed) (c : Nat) (s : State) : Out := .next (overload c (advance dt s))

/-- 100 ms after an overload a channel still commanded on switches on again (R335). -/
def overloadRetry (c : Nat) (s : State) : State :=
  if chanOk c ∧ (s.dch c).retry then (endWait (putDch s c { s.dch c with retry := false }) c).1 else noEffect s

def execOverloadRetry (dt : Elapsed) (c : Nat) (s : State) : Out := .next (overloadRetry c (advance dt s))

/-- The highest-numbered channel of a group that is on. -/
def topOn (s : State) (g : Nat) : Option Nat :=
  ((List.range 16).reverse.map fun k => 16 * g + k).find? fun c => (s.dch c).drv

/-- `n` channels go off from the highest-numbered on down. -/
def shedOutputs : Nat → State → Nat → State
  | 0, s, _ => s
  | n + 1, s, g => match topOn s g with
    | some c => shedOutputs n (overloadOff s c) g
    | none => s

/-- The group's sum stayed above 8.0 A for 1 ms: the channels in limitation go off, then `more` channels (R336). -/
def groupOvercurrent (g limited more : Nat) (s : State) : State :=
  if g < 8 then
    let s := (List.range 16).foldl (fun s k =>
      if limited.testBit k ∧ (s.dch (16 * g + k)).drv then overloadOff s (16 * g + k) else s) s
    updDgg (shedOutputs more s g) g fun y => { y with ovc := true }
  else noEffect s

def execGroupOvercurrent (dt : Elapsed) (g limited more : Nat) (s : State) : Out :=
  .next (groupOvercurrent g limited more (advance dt s))

/-- A stage at 170 °C goes off (R337). -/
def overtemp (c : Nat) (s : State) : State :=
  if chanOk c ∧ s.isOut c then setPresent (stageOff s c) c 4 else noEffect s

def execOvertemp (dt : Elapsed) (c : Nat) (s : State) : Out := .next (overtemp c (advance dt s))

/-- An angle fire that executes late is counted (ANG-13). -/
def evLate (s : State) (e : Nat) : State :=
  (s.wr F.ANG_EV_LATE 1 e).inc F.ANG_STATUS_LATE_CNT (s.rd F.ANG_EV_DOMAIN e)

/-- The latched command executes when nothing delays it any more, late when it was an angle fire (R344). -/
def resumeStage (s : State) (c : Nat) : State :=
  let r := endWait s c
  match r.2 with
  | some e => evLate r.1 e
  | none => r.1

/-- A stage below 150 °C leaves OVERTEMP (R337). -/
def overtempClear (c : Nat) (s : State) : State :=
  if chanOk c ∧ s.present c 4 then resumeStage (clearPresent s c 4) c else noEffect s

def execOvertempClear (dt : Elapsed) (c : Nat) (s : State) : Out := .next (overtempClear c (advance dt s))

/-- The terminal rises above M − 2 V (R338). -/
def clampEnd (c : Nat) (s : State) : State :=
  if chanOk c ∧ s.is F.DG_CHSTAT_CLAMP c then resumeStage (s.wr F.DG_CHSTAT_CLAMP 0 c) c else noEffect s

def execClampEnd (dt : Elapsed) (c : Nat) (s : State) : Out := .next (clampEnd c (advance dt s))

/-- The boost phase ends and the hold phase begins (R339). -/
def boostEnd (c : Nat) (s : State) : State :=
  if (s.dch c).boost = 1 then putDch s c { s.dch c with boost := 2 } else noEffect s

def execBoostEnd (dt : Elapsed) (c : Nat) (s : State) : Out := .next (boostEnd c (advance dt s))

/-- An on-time ends, or a period ends and the next begins (R334). -/
def pwmPeriod (c : Nat) (s : State) : State :=
  let x := s.dch c
  let g := grp c
  if !chanOk c ∨ s.dmode c ≠ 4 ∨ !(s.outputsOn g) ∨ !(s.dgg g).stream ∨ (s.dgg g).rein ≠ 0 then noEffect s
  else
    let t := pwmTimes s c x.dutyOn
    if x.onPart ∧ t.1 < t.2 then drive (putDch s c { x with onPart := false }) c false false
    else pwmStart s c

def execPwmPeriod (dt : Elapsed) (c : Nat) (s : State) : Out := .next (pwmPeriod c (advance dt s))

/-! ### Sensor feeds (R345) -/

/-- A feed goes off with SF_OVL and retries later. -/
def feedOff (s : State) (c : Nat) : State := setPresent (putDch s c { s.dch c with sf := false, sfRetry := true }) c 6

/-- A feed in limitation for 10 ms. -/
def sfOvl (c : Nat) (s : State) : State := if chanOk c ∧ (s.dch c).sf then feedOff s c else noEffect s

def execSfOvl (dt : Elapsed) (c : Nat) (s : State) : Out := .next (sfOvl c (advance dt s))

/-- A feed may be on: SF_EN, the group loaded and supplied, not L_HIGH. -/
def State.feedOk (s : State) (c : Nat) : Bool :=
  s.is F.DG_CH_SF_EN c && s.dgLoaded (grp c) && decide (1 ≤ (s.dgg (grp c)).supply) &&
    decide ((s.dgg (grp c)).supply ≤ 2)

/-- 1,000 ms after its switch-off a feed retries. -/
def sfRetry (c : Nat) (s : State) : State :=
  if chanOk c ∧ (s.dch c).sfRetry then putDch s c { s.dch c with sf := s.feedOk c, sfRetry := false } else noEffect s

def execSfRetry (dt : Elapsed) (c : Nat) (s : State) : Out := .next (sfRetry c (advance dt s))

/-- `n` feeds go off from the highest-numbered on down. -/
def shedFeeds : Nat → State → Nat → State
  | 0, s, _ => s
  | n + 1, s, g =>
    match ((List.range 16).reverse.map fun k => 16 * g + k).find? fun c => (s.dch c).sf with
    | some c => shedFeeds n (feedOff s c) g
    | none => s

/-- The feeds of a group draw more than 400 mA for 10 ms. -/
def sfGrp (g n : Nat) (s : State) : State :=
  if g < 8 then updDgg (shedFeeds n s g) g fun y => { y with sfGrp := true } else noEffect s

def execSfGrp (dt : Elapsed) (g n : Nat) (s : State) : Out := .next (sfGrp g n (advance dt s))

/-! ### Diagnostics, readback, sense -/

/-- The mode and the enable under which diagnostic `k` is detected (DIG-8, R278, R350). -/
def diagAllowed (s : State) (c k : Nat) : Bool :=
  let g := grp c
  match k with
  | 0 => s.isOut c && s.is F.DG_CH_OL_ON_EN c && !(s.dgg g).sense
  | 1 => s.isOut c && s.is F.DG_CH_OL_OFF_EN c && !(s.dgg g).released
  | 2 => s.isOut c && s.is F.DG_CH_OL_OFF_EN c && !(s.dgg g).released
  | 7 => (decide (s.dmode c = 1) || decide (s.dmode c = 2)) && s.is F.DG_CH_WB_EN c
  | _ => false

/-- A condition of DIG-8 has held, or been absent, for its detection time. -/
def diagDetect (c k : Nat) (present : Bool) (s : State) : State :=
  if !chanOk c ∨ 8 ≤ k ∨ !s.dgLoaded (grp c) then noEffect s
  else if present then if diagAllowed s c k then setPresent s c k else noEffect s
  else if k = 3 ∧ ((s.dch c).retry ∨ s.is F.DG_CHSTAT_LOCKED c) then noEffect s
  else if k = 4 then noEffect s
  else clearPresent s c k

def execDiagDetect (dt : Elapsed) (c k : Nat) (present : Bool) (s : State) : Out :=
  .next (diagDetect c k present (advance dt s))

/-- The sampled level differs from the driven state for 100 µs (R349); not while CLAMP, PENDING or released. -/
def rbMismatch (c : Nat) (s : State) : State :=
  if chanOk c ∧ s.isOut c ∧ !(s.is F.DG_CHSTAT_CLAMP c) ∧ !(s.is F.DG_CHSTAT_PENDING c) ∧
      !(s.dgg (grp c)).released ∧ s.dgLoaded (grp c) then
    setPresent (putDch s c { s.dch c with term := !(s.dch c).drv }) c 5
  else noEffect s

def execRbMismatch (dt : Elapsed) (c : Nat) (s : State) : Out := .next (rbMismatch c (advance dt s))

/-- RB_ONLY of every output channel of a group (R350). -/
def rbOnly (s : State) (g : Nat) : State :=
  (List.range 16).foldl (fun s k =>
    let c := 16 * g + k
    s.wr F.DG_CHSTAT_RB_ONLY (b2n (s.isOut c && (!(s.is F.DG_CH_OL_ON_EN c) || (s.dgg g).sense))) c) s

/-- The test of the current-sense circuit (R350): a failure suspends OPEN_ON. -/
def senseTest (g : Nat) (pass : Bool) (s : State) : State :=
  if g < 8 ∧ s.dgLoaded g then
    let s := updDgg s g fun y => { y with sense := !pass }
    let s := if pass then s else (List.range 16).foldl (fun s k => clearPresent s (16 * g + k) 0) s
    rbOnly s g
  else noEffect s

def execSenseTest (dt : Elapsed) (g : Nat) (pass : Bool) (s : State) : Out :=
  .next (senseTest g pass (advance dt s))

/-! ### Supply and reservoir (R351, R343) -/

/-- A die without supply loses its code, its outputs and its readings (DIG-9, R352). -/
def dgPowerLoss (s : State) (g : Nat) : State :=
  let s := setDie (s.wr F.CLK_START_DG_LOADED (setBits (s.rd F.CLK_START_DG_LOADED) g g 0)) g false
  (List.range 16).foldl (fun s k =>
    let c := 16 * g + k
    let s := putDch s c {}
    (((s.wr F.DG_CHSTAT_PENDING 0 c).wr F.DG_CHSTAT_LOCKED 0 c).wr F.DG_CHSTAT_CLAMP 0 c).wr F.DG_CHSTAT_INIT 1 c
      |>.wr F.DG_CHSTAT_PRESENT 0 c |>.wr F.DG_CNT_CNT 0 c) s

/-- L+ crosses a threshold of DIG-9. Above 31.0 V outputs, feeds and charger are off; after recovery the outputs wait
for the next vote or safe-value command. -/
def lplusMonitor (g lplus : Nat) (mOpen : Bool) (s : State) : State :=
  if 8 ≤ g then noEffect s
  else
    let s := settleBc s g
    let y := s.dgg g
    let reached := !mOpen && (decide (1920 ≤ lplus) || (y.reached && decide (1600 ≤ lplus)))
    let n := supplyOf y.supply lplus y.reached mOpen
    let s := updDgg s g fun y => { y with supply := n, lplus := lplus, reached := reached,
                                          vbc := if n = 0 then 0 else y.vbc }
    if n = 0 ∧ y.supply ≠ 0 then dgSync (dgPowerLoss s g) g
    else if n = 3 ∧ y.supply ≠ 3 then
      (List.range 16).foldl (fun s k =>
        let c := 16 * g + k
        stageOff (putDch s c { s.dch c with sf := false }) c) s
    else if y.supply = 3 ∧ n ≠ 0 then
      (List.range 16).foldl (fun s k =>
        let c := 16 * g + k
        putDch s c { s.dch c with sf := s.feedOk c && !(s.dch c).sfRetry }) s
    else s

def execLplusMonitor (dt : Elapsed) (g lplus : Nat) (mOpen : Bool) (s : State) : Out :=
  .next (lplusMonitor g lplus mOpen (advance dt s))

/-- The capacitance of BOOSTCAP is measured [10 µF]; `above20` says that V_BC exceeded 20 V in time (R343). -/
def boostcapMeasure (g cmeas : Nat) (above20 : Bool) (s : State) : State :=
  if g < 8 ∧ s.dgLoaded g then
    let s := (settleBc s g).wr F.DG_GSTAT_BC_CMEAS cmeas g
    let decl := s.rd F.DG_GROUP_BC_DECL g
    updDgg s g fun y => { y with bcLow := decide (10 * cmeas < 8 * decl), bcFault := !above20 || decide (cmeas < 10) }
  else noEffect s

def execBoostcapMeasure (dt : Elapsed) (g cmeas : Nat) (above20 : Bool) (s : State) : Out :=
  .next (boostcapMeasure g cmeas above20 (advance dt s))

/-! ### The rein (R353–R355) -/

/-- The rein of a digital group stops: off, or held in 1016 mode. -/
def reinStopDg (s : State) (g : Nat) : State :=
  if (s.dgg g).rein = 1 then s
  else
    let s := updDgg s g fun y => { y with rein := 1, reinAt := if y.rein = 0 then s.time.xt else y.reinAt }
    if s.is F.DG_GROUP_COMPAT g then s
    else (List.range 16).foldl (fun s k => drive s (16 * g + k) false false) (dropAngle s g)

/-- The heartbeat of a digital group resumes: outputs wait for a vote or a safe-value command, and the stop is reported
with its duration. -/
def reinResumeDg (s : State) (g : Nat) : State :=
  let y := s.dgg g
  if y.rein ≠ 1 then s
  else log Ev.REIN_STOP ([g, 0, 0, 0] ++ leBytes 4 (s.time.xt - y.reinAt)) (updDgg s g fun y => { y with rein := 2 })

/-! ### Loading (R103, R329, R345, R355) -/

/-- The first state of channel `c` from one comparison against the band midpoint. -/
def firstState (s : State) (c : Nat) (level : Bool) : State :=
  (putDch s c { s.dch c with raw := level, initAt := s.time.now }).wr F.DG_CHSTAT_INIT 1 c

/-- Feeds of a group follow SF_EN. -/
def feeds (s : State) (g : Nat) : State :=
  (List.range 16).foldl (fun s k =>
    let c := 16 * g + k
    putDch s c { s.dch c with sf := s.feedOk c && !(s.dch c).sfRetry }) s

/-- The controller code of a digital group is loaded: every output off, inputs start afresh. -/
def loadDg (s : State) (g levels : Nat) : State :=
  if (s.dgg g).supply = 0 then s
  else
    let s := setDie (dropAngle (s.wr F.CLK_START_DG_LOADED (setBits (s.rd F.CLK_START_DG_LOADED) g g 1)) g) g true
    let s := (List.range 16).foldl (fun s k =>
      let c := 16 * g + k
      let s := putDch (stageOff s c) c { sfRetry := false }
      let s := ((s.wr F.DG_CHSTAT_PENDING 0 c).wr F.DG_CHSTAT_LOCKED 0 c).wr F.DG_CHSTAT_PRESENT 0 c
      firstState s c (levels.testBit k)) s
    let s := updDgg s g fun y => { y with rein := 0, safe := 0, vbcAt := s.time.now }
    let s := rbOnly s g
    if s.clk.stopReady then feeds s g else s

end Sys2Proof.Machine
end

