-- ==== Sys2Proof/Machine/Analogue.lean ====
section
/-!
DEFINITION. Analogue channels: meanings of the commands of the four analogue field dies, and of the commands both kinds
of group share: votes, safe values, hold, rein and loading.
-/

namespace Sys2Proof.Machine

/-! ### Supply, quads, reconfiguration -/

/-- An analogue die without supply loses its code and its outputs (ANA-9). -/
def agPowerLoss (s : State) (g : Nat) : State :=
  let s := setDie (s.wr F.CLK_START_AG_LOADED (setBits (s.rd F.CLK_START_AG_LOADED) g g 0)) (8 + g) false
  let s := updAgg s g fun x => { x with quad := [0, 0, 0, 0], quadFb := [false, false, false, false]
                                        quadOt := [false, false, false, false], again := [false, false, false, false] }
  (List.range 16).foldl (fun s k =>
    let c := 16 * g + k
    (putAch s c { s.ach c with drv := none, reconf := none }).wr F.AG_CHSTAT_PRESENT 0 c) s

/-- AV+ crosses a threshold of ANA-9; at its power-up the die reads the AGALM strap (R372). -/
def avplusMonitor (g avplus : Nat) (agOpen : Bool) (strap : Nat) (s : State) : State :=
  if 4 ≤ g then noEffect s
  else
    let y := s.agg g
    let reached := !agOpen && (decide (1920 ≤ avplus) || (y.reached && decide (1600 ≤ avplus)))
    let n := supplyOf y.supply avplus y.reached agOpen
    let s := updAgg s g fun x => { x with supply := n, avplus := avplus, reached := reached
                                          strap := if y.supply = 0 ∧ n ≠ 0 then min 2 strap else x.strap }
    if n = 0 ∧ y.supply ≠ 0 then slicesFollow (abandonCal (agPowerLoss s g) g) g
    else if n = 3 ∧ y.supply ≠ 3 then
      (List.range 16).foldl (fun s k => putAch s (16 * g + k) { s.ach (16 * g + k) with drv := none }) s
    else s

def execAvplusMonitor (dt : Elapsed) (g avplus : Nat) (agOpen : Bool) (strap : Nat) (s : State) : Out :=
  .next (avplusMonitor g avplus agOpen strap (advance dt s))

/-- 1,500 µs after its boundary a quad operates, and its channels start afresh (R384, R423). -/
def quadPowerUp (g q : Nat) (s : State) : State :=
  if g < 4 ∧ q < 4 ∧ (s.agg g).quadSt q = 1 ∧ (s.agg g).quadAt.getD q 0 + 1500000 ≤ s.time.now then
    let s := setQuad s g q 2
    (List.range 4).foldl (fun s k => applyOut (syncReset s (16 * g + 4 * q + k)) (16 * g + 4 * q + k)) s
  else noEffect s

def execQuadPowerUp (dt : Elapsed) (g q : Nat) (s : State) : Out := .next (quadPowerUp g q (advance dt s))

/-- 300 µs later a quad is off; one re-enabled meanwhile powers up (R385). -/
def quadPowerDown (g q : Nat) (s : State) : State :=
  if g < 4 ∧ q < 4 ∧ (s.agg g).quadSt q = 3 ∧ (s.agg g).quadAt.getD q 0 + 300000 ≤ s.time.now then
    setQuad s g q (if (s.agg g).again.getD q false then 1 else 0)
  else noEffect s

def execQuadPowerDown (dt : Elapsed) (g q : Nat) (s : State) : Out := .next (quadPowerDown g q (advance dt s))

/-- 200 µs after the boundary a reconfigured channel takes its configuration (R386). -/
def reconfigDone (c : Nat) (s : State) : State :=
  match (s.ach c).reconf with
  | none => noEffect s
  | some b =>
    if b + 200000 ≤ s.time.now then applyOut (syncReset (putAch s c { s.ach c with reconf := none }) c) c
    else noEffect s

def execReconfigDone (dt : Elapsed) (c : Nat) (s : State) : Out := .next (reconfigDone c (advance dt s))

/-- A quad sensor reads `t` [°C + 40]: fold-back from 140 °C until 135 °C, over-temperature from 165 °C until 145 °C
(R376), with diagnostic THERMAL of its channels. -/
def quadTemp (g q t : Nat) (s : State) : State :=
  if 4 ≤ g ∨ 4 ≤ q then noEffect s
  else
    let x := s.agg g
    let fb := decide (180 ≤ t) || (x.quadFb.getD q false && decide (175 ≤ t))
    let ot := decide (205 ≤ t) || (x.quadOt.getD q false && decide (185 ≤ t))
    let s := s.wr (quadTempFld q) t g
    let s := updAgg s g fun x => { x with quadFb := x.quadFb.set q fb, quadOt := x.quadOt.set q ot }
    let s := (List.range 4).foldl (fun s k =>
      let c := 16 * g + 4 * q + k
      let s := if (fb || ot) = s.aPresent c 7 then s else aDiag s c 7 (fb || ot)
      if s.amode c = 6 ∧ (s.ach c).drv.isSome ∧ x.rein = 0 then applyOut s c else s) s
    quadsFollow s g

def execQuadTemp (dt : Elapsed) (g q t : Nat) (s : State) : Out := .next (quadTemp g q t (advance dt s))

/-- Modes under which diagnostic `k` is detected on its own (ANA-8). -/
def aDiagAllowed (s : State) (c k : Nat) : Bool :=
  let rel := (s.agg (c / 16)).released
  match k with
  | 1 => decide (s.amode c = 7)
  | 2 => decide (s.amode c = 2)
  | 4 => decide (s.amode c = 6) && !rel && decide (500000 ≤ (s.target c (s.ach c).sp).1)
  | 5 => decide (s.amode c = 6) && !rel && !(s.aPresent c 4)
  | 6 => s.aOut c && !rel && !(s.aPresent c 1) && !(s.aPresent c 4) && !(s.aPresent c 5) && !(s.aPresent c 7)
  | _ => false

/-- A condition of ANA-8 has held, or been absent, for its detection time. -/
def analogueDiag (c k : Nat) (present : Bool) (s : State) : State :=
  if 64 ≤ c ∨ !s.agLoaded (c / 16) ∨ ¬ (k = 1 ∨ k = 2 ∨ k = 4 ∨ k = 5 ∨ k = 6) then noEffect s
  else if present then if aDiagAllowed s c k then aDiag s c k true else noEffect s
  else aDiag s c k false

def execAnalogueDiag (dt : Elapsed) (c k : Nat) (present : Bool) (s : State) : Out :=
  .next (analogueDiag c k present (advance dt s))

/-! ### Votes, safe values, hold, rein, loading, for both kinds of group (8 + g names AGg) -/

/-- The bytes an analogue die voted, and the same of a committed Q (R269). -/
def votedSetpoints (s : State) (g : Nat) : List Nat :=
  (List.range 16).foldr (fun k l => leBytes 4 (unsgn 32 (s.ach (16 * g + k)).sp) ++ l) []

/-- An analogue die votes its setpoints (R268). -/
def fieldVoteAg (s : State) (g bad : Nat) (x : CopySet) : State :=
  let ks := goodCopies x bad
  let one (a : State × Nat) (k : Nat) : State × Nat :=
    let c := 16 * g + k
    let v := voteItem x ks true fun m => sgn 32 (memGet m (0x10 + 4 * c) 4)
    let s := match v.1 with
      | some d => putAch a.1 c { a.1.ach c with sp := d }
      | none => a.1
    (s, a.2 ||| v.2)
  let s := updAgg s g fun y => { y with safe := 0, rein := if y.rein = 2 then 0 else y.rein }
  let r := (List.range 16).foldl one (s, 0)
  let diff := decide (crc32 (votedSetpoints r.1 g) ≠ crc32 (memBytes x.committed (0x10 + 64 * g) 64))
  let s := updAgg r.1 g fun y => { y with split := y.split ||| r.2, crcDiff := y.crcDiff || diff, voted := true }
  if (s.agg g).rein = 1 then s else applyOuts s g

/-- A field die votes the copies that reached it (R268). -/
def fieldVote (g bad : Nat) (s : State) : State :=
  match s.fld.copies.find? fun p => decide (p.1 = g) with
  | none => noEffect s
  | some p =>
    let s := { s with fld := { s.fld with copies := s.fld.copies.filter fun p => decide (p.1 ≠ g) } }
    if g < 8 then if s.dgLoaded g then fieldVoteDg s g bad p.2 else s
    else if s.agLoaded (g - 8) then fieldVoteAg s (g - 8) bad p.2 else s

def execFieldVote (dt : Elapsed) (g bad : Nat) (s : State) : Out := .next (fieldVote g bad (advance dt s))

/-- An analogue group applies a safe-value command. -/
def safeAg (s : State) (g kind : Nat) : State :=
  let y := s.agg g
  let s := updAgg s g fun x => { x with safe := kind, rein := if y.rein = 2 then 0 else y.rein }
  if y.rein = 1 then s else applyOuts s g

/-- The next command for a group, a safe-value command, is applied (R189). -/
def safeValueCommand (g : Nat) (s : State) : State :=
  match s.nextCmd g with
  | some k =>
    if k = 3 then noEffect s
    else
      let s := { s with fld := { s.fld with cmds := dropCmd g s.fld.cmds } }
      if g < 8 then if s.dgLoaded g then safeDg s g k else s
      else if s.agLoaded (g - 8) then safeAg s (g - 8) k else s
  | none => noEffect s

def execSafeValueCommand (dt : Elapsed) (g : Nat) (s : State) : Out := .next (safeValueCommand g (advance dt s))

/-- The next command for a group, a hold command, is applied (R289). -/
def pairHoldCommand (g : Nat) (s : State) : State :=
  if s.nextCmd g = some 3 then
    let s := { s with fld := { s.fld with cmds := dropCmd g s.fld.cmds } }
    if g < 8 then holdDg s g else updAgg s (g - 8) fun x => { x with safe := 3 }
  else noEffect s

def execPairHoldCommand (dt : Elapsed) (g : Nat) (s : State) : Out := .next (pairHoldCommand g (advance dt s))

/-- The rein of an analogue group stops (R389): 0 mA or 0 V, or held in 1016 mode. -/
def reinStopAg (s : State) (g : Nat) : State :=
  if (s.agg g).rein = 1 then s
  else
    let t := if (s.agg g).rein = 0 then s.time.xt else (s.agg g).reinAt
    let s := updAgg s g fun x => { x with rein := 1, reinAt := t }
    if s.is F.AG_GROUP_COMPAT g then s
    else (List.range 16).foldl (fun s k =>
      let c := 16 * g + k
      if (s.ach c).drv.isSome then putAch s c { s.ach c with drv := some 0 } else s) s

/-- Heartbeats come: the link runs and no frame stream is lost, or bridge frames carry them (R86). -/
def reinTimeout (g : Nat) (s : State) : State :=
  if !s.dieRuns g then noEffect s
  else if g < 8 then reinStopDg s g
  else if g < 12 then reinStopAg s (g - 8)
  else noEffect s

def execReinTimeout (dt : Elapsed) (g : Nat) (s : State) : Out := .next (reinTimeout g (advance dt s))

/-- The heartbeat resumes after a rein stop, and the stop is reported (R355). -/
def heartbeatResume (g : Nat) (s : State) : State :=
  if g < 8 then reinResumeDg s g
  else
    let y := s.agg (g - 8)
    if g < 12 ∧ y.rein = 1 then
      log Ev.REIN_STOP ([g, 0, 0, 0] ++ leBytes 4 (s.time.xt - y.reinAt))
        (updAgg s (g - 8) fun x => { x with rein := 2 })
    else noEffect s

def execHeartbeatResume (dt : Elapsed) (g : Nat) (s : State) : Out := .next (heartbeatResume g (advance dt s))

/-- The controller code of an analogue group is loaded: outputs high-impedance, quads powered as configured, filters
afresh (R103, R423). -/
def loadAg (s : State) (g : Nat) : State :=
  if (s.agg g).supply = 0 then s
  else
    let s := setDie (s.wr F.CLK_START_AG_LOADED (setBits (s.rd F.CLK_START_AG_LOADED) g g 1)) (8 + g) true
    let s := updAgg s g fun x => { x with rein := 0, safe := 0, quad := [0, 0, 0, 0] }
    let s := (List.range 16).foldl (fun s k =>
      putAch s (16 * g + k) { s.ach (16 * g + k) with drv := none, reconf := none }) s
    nextWait (slicesFollow (quadsFollow (syncResetGroup s g) g) g) g

/-- A field group is loaded with its controller code once the firmware runs and holds valid code for it (R103, R528); `levels`
are the 16 comparisons of R329. A group loaded after STOP-ready gets the safe values of a module in STOP or FAULT (R189). -/
def groupLoad (g levels : Nat) (s : State) : State :=
  if 12 ≤ g ∨ !s.clk.fwRunning ∨ !s.sec.loaded.testBit (if g < 8 then 2 else 3) ∨ s.sec.groupBad.testBit g then noEffect s
  else
    let s := if g < 8 then loadDg s g levels else loadAg s (g - 8)
    let k := if s.mode = mSTOP then 1 else if s.mode = mFAULT then 2 else 0
    if k = 0 ∨ !s.clk.stopReady then s
    else { s with fld := { s.fld with cmds := s.fld.cmds ++ [(g, k)] } }

def execGroupLoad (dt : Elapsed) (g levels : Nat) (s : State) : Out := .next (groupLoad g levels (advance dt s))

end Sys2Proof.Machine
end

