-- ==== Sys2Proof/Machine/Conversion.lean ====
section
/-!
DEFINITION. Conversion and result processing: meanings of the steps, triggers and results of the converter positions, of
period edges, of the rotation of the slices, and of the live writes of this chapter.
-/

namespace Sys2Proof.Machine

/-! ### Continuous and triggered start -/

/-- A final trigger of the position lies less than 3.0 µs from `t` (R402). -/
def nearTrigger (s : State) (g p t : Nat) : Bool :=
  let x := s.apos (4 * g + p)
  let d (a : Nat) : Nat := if a ≤ t then t - a else a - t
  let last : Bool := match x.lastAt with
    | some a => x.lastTrig && decide (d a < 3000)
    | none => false
  last || x.waiting.isSome || s.ang.cmds.any fun c =>
    s.final c && decide (s.rd F.ANG_EV_ACTION c.entry = 4) && decide (s.rd F.ANG_EV_TARGET c.entry % 4 = g) &&
      (s.rd F.ANG_EV_TARGET c.entry).testBit (4 + p) && decide (d c.at_ < 3000)

/-- The step of a position that is due: its count since the latch and its instant (R397). -/
def dueStep (s : State) (g p : Nat) : Option (Nat × Nat) :=
  let x := s.apos (4 * g + p)
  let l := s.ring.lastLatch
  let base := l + 1000 * s.rdE F.AG_POS_PHASE g (32 * p)
  let step := 1000 * s.rdE F.AG_POS_STEP g (32 * p)
  if !s.ring.latched ∨ step = 0 ∨ s.time.now < base then none
  else
    let k := (s.time.now - base) / step
    if x.latch = l ∧ k < x.steps then none else some (k, base + k * step)

/-- A continuous step (R397, R400, R402, R405). -/
def conversionStep (g p : Nat) (s : State) : State :=
  if 4 ≤ g ∨ 4 ≤ p ∨ !s.posOn g p ∨ ¬ (s.posStart g p = 1 ∨ s.posStart g p = 3) then noEffect s
  else
    match dueStep s g p with
    | none => noEffect s
    | some (k, t) =>
      let l := selected s g p
      let c := l.getD (k % max 1 l.length) 0
      let x := s.apos (4 * g + p)
      let skip := decide (s.posStart g p = 3) && nearTrigger s g p t
      let s := putApos s (4 * g + p) { x with steps := k + 1, latch := s.ring.lastLatch }
      if skip then repeatSample s c
      else
        let s := putApos s (4 * g + p)
          { s.apos (4 * g + p) with lastAt := some t, lastCh := c, lastTrig := false }
        if s.slotTest c ∧ (s.aslot c).phase = 1 then
          repeatSample (sendSample (beginSlot s c 2 (t - 20000)) ⟨g, p, c, 1, t, none, false⟩) c
        else sendSample (countConv s c) ⟨g, p, c, 0, t, none, false⟩

def execConversionStep (dt : Elapsed) (g p : Nat) (s : State) : Out := .next (conversionStep g p (advance dt s))

/-- A trigger that waited is sampled, and its record carries LATE (R403). -/
def deferredTrigger (g p : Nat) (s : State) : State :=
  match (s.apos (4 * g + p)).waiting with
  | some (e, t, a) =>
    if t ≤ s.time.now ∧ g < 4 ∧ p < 4 then takeTrigger s g p e a t true else noEffect s
  | none => noEffect s

def execDeferredTrigger (dt : Elapsed) (g p : Nat) (s : State) : Out := .next (deferredTrigger g p (advance dt s))

/-- The open-wire slot of the position's last channel in triggered start (R406). -/
def triggeredDiagSlot (g p : Nat) (s : State) : State :=
  let x := s.apos (4 * g + p)
  let c := x.lastCh
  let y := s.aslot c
  match x.lastAt with
  | none => noEffect s
  | some a =>
    let t := a + 1000
    if 4 ≤ g ∨ 4 ≤ p ∨ s.posStart g p ≠ 2 ∨ !s.posOn g p ∨ y.phase ≠ 1 ∨ !s.slotTest c ∨ s.time.now < t ∨ y.at_ = a ∨
        x.waiting.isSome then noEffect s
    else
      let soon := s.ang.cmds.any fun z =>
        decide (s.rd F.ANG_EV_ACTION z.entry = 4) && decide (s.rd F.ANG_EV_TARGET z.entry % 4 = g) &&
          (s.rd F.ANG_EV_TARGET z.entry).testBit (4 + p) && decide (z.at_ < t + 25000)
      if soon ∧ y.defers < s.rd F.PPR_CH_DIAG_N c then putAslot s c { y with at_ := a, defers := y.defers + 1 }
      else
        let s := putApos (beginSlot s c 3 t) (4 * g + p) { x with lastAt := some (t + 20000), lastTrig := false }
        sendSample s ⟨g, p, c, 1, t + 20000, none, false⟩

def execTriggeredDiagSlot (dt : Elapsed) (g p : Nat) (s : State) : Out :=
  .next (triggeredDiagSlot g p (advance dt s))

/-! ### Results (R399, R420) -/

/-- The oldest result of a position that has arrived. -/
def firstFlight (s : State) (g p : Nat) : Option InFlight :=
  s.ana.flight.find? fun z => decide (z.g = g) && decide (z.p = p) && decide (z.at_ ≤ s.time.now)

/-- The list without the first item equal to `z`. -/
def eraseFlight (z : InFlight) : List InFlight → List InFlight
  | [] => []
  | y :: l => if y = z then l else y :: eraseFlight z l

/-- RTD: SHORT follows each conversion (ANA-8 bit 1). -/
def rtdShort (s : State) (c : Nat) (x : Int) : State :=
  if s.amode c = 4 then
    let sh := decide (x - s.lead c < (if s.arange c = 0 then 10000000 else 100000000))
    if sh = s.aPresent c 1 then s else aDiag s c 1 sh
  else s

/-- The capture record of a triggered result (R320): the unfiltered value, flagged where the status word reports anything
other than a valid value. -/
def captureResult (s : State) (z : InFlight) (word : Nat) : State :=
  match z.ev with
  | none => s
  | some (e, a) =>
    if s.is F.ANG_EV_CAP e then
      let fl := b2n z.late + 4 * b2n (!((s.ach z.c).stat.testBit 31))
      putCapture s (s.rd F.ANG_EV_DOMAIN e) (capRecord s a z.at_ word (e + 1024 * (z.c % 16)) 1 fl)
    else s

/-- The result of a value conversion. -/
def valueResult (s : State) (z : InFlight) (x : Int) (atLimit : Bool) : State :=
  let c := z.c
  let r := baseValue s c x
  let s := rtdShort r.2 c x
  let fail := if s.amode c = 4 ∨ s.amode c = 5 then atLimit else decide (x < 200000)
  let s := if s.convTest c then convVerdict s c fail else s
  let s := if (s.aslot c).phase = 2 ∧ (s.aslot c).at_ < z.at_ then slotVerdict s c x else s
  let s := filterSample (putAch s c { s.ach c with last := x }) c r.1 z.at_
  let edge := decide (s.rd F.PPR_CH_FTYPE c = 3) && decide ((s.ach c).n ≠ 1)
  let s := if edge then s else handOver s c false
  captureResult s z (scaled s c r.1)

/-- A result that fails its AQ check keeps the previous value with CHECK_FAIL (R420 step 1, IMG-9). -/
def failedResult (s : State) (z : InFlight) : State :=
  let x := s.ach z.c
  let s := putAch s z.c { x with stat := setBits (setBits x.stat 31 31 0) 28 28 1 }
  let s := repeatSample s z.c
  let s := windows s z.c x.val false (s.settling z.c)
  captureResult (log Ev.STITCH ([2, 0] ++ leBytes 2 (0x240 + 8 * z.c) ++ [2]) s) z x.val

/-- A result reaches result post-processing: `x` in nA, µV, µΩ (RTD) or mΩ (RES); `aqOk` says that its AQ check holds,
`atLimit` that V(A,D) stands at its compliance limit. -/
def resultProcess (g p : Nat) (x : Int) (aqOk atLimit : Bool) (s : State) : State :=
  match firstFlight s g p with
  | none => noEffect s
  | some z =>
    let s := { s with ana := { s.ana with flight := eraseFlight z s.ana.flight } }
    let r := (s.agg g).rot
    let s := if r.overlap = some p then updRot s g fun r => { r with pairs := r.pairs + 1 } else s
    if z.kind = 1 then
      let y := s.aslot z.c
      if aqOk then putAslot s z.c { y with diag := x, phase := 2 }
      else putAslot (log Ev.STITCH ([2, 0] ++ leBytes 2 (0x240 + 8 * z.c) ++ [2]) s) z.c { y with phase := 1, at_ := 0 }
    else if aqOk then valueResult s z x atLimit
    else failedResult s z

def execResultProcess (dt : Elapsed) (g p : Nat) (x : Int) (aqOk atLimit : Bool) (s : State) : Out :=
  .next (resultProcess g p x aqOk atLimit (advance dt s))

/-- A period edge at `e` updates the MAINS filter of channel `c` and hands its output over (R422). -/
def mainsEdge (s : State) (c e : Nat) : State :=
  if (s.ach c).n = 0 then putAch s c { s.ach c with edges := (e :: (s.ach c).edges).take 9 }
  else handOver (mainsOut s c e) c false

/-- A reference edge of domain `d` reaches the MAINS filters that name it (R422). -/
def domainEdge (s : State) (d e : Nat) : State :=
  (List.range 64).foldl (fun s c =>
    if s.rd F.PPR_CH_FTYPE c = 3 ∧ s.rd F.PPR_CH_MDOM c = d ∧ s.amode c ≠ 0 then
      mainsEdge (s.wr F.PPR_STAT_MAINS_FREE 0 c) c e
    else s) s

/-- When the next generated edge of a channel is due: ADn.PERIOD, or 20 ms, after the last one (R422). -/
def freeEdgeAt (s : State) (c : Nat) : Nat :=
  let d := s.rd F.PPR_CH_MDOM c
  let per := s.rd F.ANG_PERIOD_PERIOD d
  let per := if s.dsrc d = 5 then (if s.rd F.ANG_AD_SYNSPD d = 0 then 20000000
      else 65536 * 1000000000 / s.rd F.ANG_AD_SYNSPD d) else if per = 0 then 20000000 else per
  match (s.ach c).edges with
  | e :: _ => e + per
  | [] => per

/-- A generated period edge of channel `c` while its domain is not SYNCED, or is a SYNTH domain (assumption log 23). -/
def mainsFreeEdge (c : Nat) (s : State) : State :=
  let d := s.rd F.PPR_CH_MDOM c
  if 64 ≤ c ∨ s.rd F.PPR_CH_FTYPE c ≠ 3 ∨ (s.dst d = dSYNCED ∧ s.dsrc d ≠ 5) ∨ s.time.now < freeEdgeAt s c then noEffect s
  else
    let free := decide (s.dst d ≠ dSYNCED)
    let e := if (s.ach c).edges.isEmpty then s.time.now else freeEdgeAt s c
    mainsEdge (s.wr F.PPR_STAT_MAINS_FREE (b2n free) c) c e

def execMainsFreeEdge (dt : Elapsed) (c : Nat) (s : State) : Out := .next (mainsFreeEdge c (advance dt s))

/-! ### Rotation of the slices (R411–R419) -/

/-- The spare of a group. -/
def spareOf (s : State) (g : Nat) : Option Nat :=
  (List.range 5).find? fun k => decide (s.rd F.AG_CS_STATE (5 * g + k) = 0)

/-- The spare begins its calibration (R411). -/
def calStepStart (g : Nat) (s : State) : State :=
  let r := (s.agg g).rot
  if 4 ≤ g ∨ !s.agLoaded g ∨ s.is F.AG_CONV_CAL_STOPPED g ∨ r.calib.isSome ∨ s.time.now < r.due ∨ !s.time.link then
    noEffect s
  else
    match spareOf s g with
    | none => noEffect s
    | some k =>
      let s := if r.round.isEmpty then newRound s g else s
      let s := putSlice s g k 1 0 0
      slicesFollow (updRot s g fun r => { r with calib := some k, calFrom := s.time.now, retest := false }) g

def execCalStepStart (dt : Elapsed) (g : Nat) (s : State) : Out := .next (calStepStart g (advance dt s))

/-- The cause of CNV-6 that a calibration result gives. -/
def calCause (offs gain : Int) (ok : Bool) : Option Nat :=
  if ok then if 256 < offs.natAbs ∨ 1000 < gain.natAbs then some 1 else none else some 2

/-- The change of offset since the last calibration of slice `i` [0.1 LSB/h] (PWR-6). -/
def noteDrift (s : State) (g i : Nat) (offs : Int) : State :=
  match Table.find 0 s.ana.calXt i with
  | 0 => s
  | t =>
    let d := (offs - sgn 16 (s.rd F.AG_CS_OFFS i)).natAbs * 10 * 117964800 / max 1 (s.time.xt + 1 - t)
    let s := { s with pwr := { s.pwr with drift := Table.put 0 s.pwr.drift i d, sensed := s.pwr.sensed ||| 2 ^ (11 + g) } }
    s.wr F.PWR_SENSE_DRIFT_MAX (min 65535 ((List.range 20).foldl (fun m j => max m (Table.find 0 s.pwr.drift j)) 0))

/-- A calibration completes with its offset [LSB] and gain [ppm] against the factory baseline (R411, R415, R417). -/
def calDone (g : Nat) (offs gain : Int) (ok : Bool) (s : State) : State :=
  let r := (s.agg g).rot
  match r.calib with
  | none => noEffect s
  | some k =>
    if r.overlap.isSome ∨ s.time.now < r.calFrom + 20200000 then noEffect s
    else
      let i := 5 * g + k
      let s := if ok then noteDrift s g i offs else s
      let s := if ok then ((s.wr F.AG_CS_OFFS (unsgn 16 offs) i).wr F.AG_CS_GAIN (unsgn 16 gain) i).wr
        F.AG_CS_CAL_AGE 0 i else s
      let s := if ok then { s with ana := { s.ana with calXt := Table.put 0 s.ana.calXt i (s.time.xt + 1) } } else s
      match calCause offs gain ok with
      | some cause =>
        if r.retest then
          slicesFollow (updRot (putSlice s g k 4 0 (s.rd F.AG_CS_CAUSE i)) g fun r =>
            { r with calib := none, retest := false }) g
        else retireSlice s g k (r.round.headD 0) cause
      | none =>
        if r.retest then
          let s := (putSlice s g k 0 0 0).wr F.AG_CONV_CAL_STOPPED 0 g
          slicesFollow (nextWait (updRot s g fun r => { r with calib := none, retest := false, round := [] }) g) g
        else
          let p := r.round.headD 0
          if s.posStart g p = 0 ∨ s.rdE F.AG_POS_SEL g (32 * p) = 0 then endStep (handSlice s g k p) g
          else
            let s := putSlice s g k 2 p 0
            updRot s g fun r => { r with overlap := some p, pairs := 0, overFrom := s.time.now }

def execCalDone (dt : Elapsed) (g : Nat) (offs gain : Int) (ok : Bool) (s : State) : Out :=
  .next (calDone g offs gain ok (advance dt s))

/-- The 8 pairs of an overlap are compared (R412, R415). -/
def overlapDone (g : Nat) (pass : Bool) (s : State) : State :=
  let r := (s.agg g).rot
  match r.calib, r.overlap with
  | some k, some p =>
    if r.pairs < 8 then noEffect s
    else if pass then endStep (handSlice s g k p) g
    else
      let s := s.inc F.AG_CONV_MISCOMPARE g
      let m := r.miss.getD k 0 + 1
      let other : Bool := match r.failed.getD p none with
        | some j => decide (j ≠ k)
        | none => false
      let s := updRot s g fun r => { r with miss := r.miss.set k m, failed := r.failed.set p (some k) }
      if 3 ≤ m then retireSlice s g k p 3
      else if other then
        match holder s g p with
        | some h => retireSlice (handSlice s g k p) g h p 4
        | none => endStep (handSlice s g k p) g
      else endStep (putSlice s g k 0 0 0) g
  | _, _ => noEffect s

def execOverlapDone (dt : Elapsed) (g : Nat) (pass : Bool) (s : State) : Out :=
  .next (overlapDone g pass (advance dt s))

/-- 1 s into an overlap without 8 conversions, compare conversions take their place (R412). -/
def overlapTimeout (g : Nat) (s : State) : State :=
  let r := (s.agg g).rot
  if r.overlap.isSome ∧ r.pairs < 8 ∧ r.overFrom + 1000000000 ≤ s.time.now then
    updRot s g fun r => { r with pairs := 8 }
  else noEffect s

def execOverlapTimeout (dt : Elapsed) (g : Nat) (s : State) : Out := .next (overlapTimeout g (advance dt s))

/-- A slice has powered up (R419). -/
def slicePowerUp (g k : Nat) (s : State) : State :=
  let x := s.slicePw (5 * g + k)
  if g < 4 ∧ k < 5 ∧ x.pw = 1 ∧ x.at_ ≤ s.time.now then putSlicePw s (5 * g + k) ⟨2, 0⟩ else noEffect s

def execSlicePowerUp (dt : Elapsed) (g k : Nat) (s : State) : Out := .next (slicePowerUp g k (advance dt s))

/-- RETEST of a retired slice calibrates it; otherwise it is refused (R417). -/
def retestStatus (s : State) (g k : Nat) : Nat :=
  if s.rd F.AG_CS_STATE (5 * g + k) ≠ 4 then Code.NOT_RETIRED
  else if (s.agg g).rot.calib.isSome then Code.CAL_BUSY
  else Code.OK

def retest (g k : Nat) (s : State) : State :=
  if g < 4 ∧ k < 5 ∧ retestStatus s g k = Code.OK then
    let cause := s.rd F.AG_CS_CAUSE (5 * g + k)
    let s := putSlice s g k 1 0 cause
    slicesFollow (updRot s g fun r => { r with calib := some k, calFrom := s.time.now, retest := true }) g
  else noEffect s

def execRetest (dt : Elapsed) (g k : Nat) (s : State) : Out := .next (retest g k (advance dt s))

/-! ### Live writes -/

/-- A live write of FLEN: from the next sample on, without a reset (R421). -/
def flenWrite (c v : Nat) (s : State) : State := if c < 64 then s.wr F.PPR_CH_FLEN v c else noEffect s

def execFlen (dt : Elapsed) (c v : Nat) (s : State) : Out := .next (flenWrite c v (advance dt s))

/-- A live write of a threshold; one that breaks the order is refused with WINDOW_ORDER (R431). -/
def windowThreshold (w : Nat) (high : Bool) (v : Nat) (s : State) : State :=
  if 64 ≤ w then noEffect s
  else if winOrder s w (if high then v % 2 ^ 32 else s.rd F.PPR_WIN_HIGH w)
      (if high then s.rd F.PPR_WIN_LOW w else v % 2 ^ 32) then
    s.wr (if high then F.PPR_WIN_HIGH else F.PPR_WIN_LOW) v w
  else noEffect s

def execWindowThreshold (dt : Elapsed) (w : Nat) (high : Bool) (v : Nat) (s : State) : Out :=
  .next (windowThreshold w high v (advance dt s))

end Sys2Proof.Machine
end

