-- ==== Sys2Proof/Machine/Angle.lean ====
section
/-!
DEFINITION. Angle domains and the event scheduler: meanings of edges, timeouts and input faults, of timed commands and
fires, and of the live writes of the angle objects; and arming, which the commit shares.
-/

namespace Sys2Proof.Machine

/-! ### Firing (R311–R319) -/

/-- What waits on one fast channel: instant and entry number of timed commands and pulse ends. -/
def onChannel (s : State) (c : Nat) : List (Nat × Nat) :=
  let out (e : Nat) : Nat :=
    let k := s.rd F.ANG_EV_TARGET e % 16
    16 * (k / 2) + k % 2
  ((s.ang.cmds.filter fun x => (s.evGroup x.entry).isSome && decide (out x.entry = c)).map fun x => (x.at_, x.entry)) ++
    ((s.ang.pulses.filter fun x => decide (x.chan = c)).map fun x => (x.at_, x.entry))

/-- A later output event within 2 µs, or one at the same instant of a higher entry, takes precedence (ANG-13). -/
def overruled (s : State) (c t e : Nat) : Bool :=
  (onChannel s c).any fun x =>
    (decide (t < x.1) && decide (x.1 < t + 2000)) || (decide (x.1 = t) && decide (e < x.2))

/-- An output action on channel `c`: on with or without boost, or off; a boost that is not left follows BOOST_SHORT_ACT
(R318). Answers whether the event acted. -/
def outputAction (s : State) (e c : Nat) (on : Bool) : State × Bool :=
  if !on then (drive s c false false, true)
  else if s.is F.ANG_EV_BOOST e && !(s.dch c).drv then
    let d := s.rd F.ANG_EV_DOMAIN e
    if 0 < s.boostLeft (grp c) e then (drive s c true true (some e), true)
    else
      let s := boostShort s d e
      if s.is F.ANG_AD_BOOST_SHORT_ACT d then (s, false) else (drive s c true false (some e), true)
  else (drive s c true false (some e), true)

/-- The action of entry `e` at instant `t` (ANG-11), and whether it counts as a fire; a module whose outputs are released
fires no output event (R278). -/
def act (s : State) (e angle t : Nat) (late : Bool) : State × Bool :=
  let tg := s.rd F.ANG_EV_TARGET e
  let d := s.rd F.ANG_EV_DOMAIN e
  let k := tg % 16
  let c := 16 * (k / 2) + k % 2
  let a := s.rd F.ANG_EV_ACTION e
  if 1 ≤ a ∧ a ≤ 3 ∧ (s.dgg (grp c)).released then (s, false)
  else
  match a with
  | 1 => if overruled s c t e then (s, true) else outputAction s e c true
  | 2 => if overruled s c t e then (s, true) else outputAction s e c false
  | 3 =>
    let r := if overruled s c t e then (s, true) else outputAction s e c true
    if r.2 then
      ({ r.1 with ang := { r.1.ang with
          pulses := r.1.ang.pulses ++ [⟨e, c, t + 1000 * s.rd F.ANG_EV_WIDTH e⟩] } }, true)
    else r
  | 4 =>
    ((List.range 4).foldl (fun s p => if tg.testBit (4 + p) then trigger s (tg % 4) p e angle t late else s) s, true)
  | 5 =>
    let r :=
      if k < 8 then
        capRecord s angle t (bits16 (fun j => s.inState (16 * k + j)) + 65536 * bits16 fun j => s.readback (16 * k + j))
          e 2 (b2n late)
      else capRecord s angle t (unsgn 32 (s.dspeed d)) e 3 (b2n late)
    (putCapture s d r, true)
  | 6 => (releaseTask s (tg % 64) 2 none, true)
  | 7 => (srcEvent s (280 + d) (s.latch d) (fun s => putLatch s d true), true)
  | _ => (s, true)

/-- The timed commands of an entry leave the list. -/
def dropCmds (s : State) (e : Nat) : State :=
  { s with ang := { s.ang with cmds := s.ang.cmds.filter fun c => decide (c.entry ≠ e) } }

/-- Entry `e` fires at its occurrence `angle`, at instant `t` (R315): FIRED, LAST_FIRE, LATE where it is late; a ONCE
entry is then IDLE, a CYCLIC one waits for its next occurrence. -/
def fire (s : State) (e angle t : Nat) (late : Bool) : State :=
  let s := dropCmds s e
  let r := act s e angle t late
  let s := r.1
  let s := if r.2 then (s.wr F.ANG_EV_FIRED 1 e).wr F.ANG_EV_LAST_FIRE (s.stationAt t) e else s
  let d := s.rd F.ANG_EV_DOMAIN e
  let s := if late && r.2 then putDom (evLate s e) d { s.adom d with fLate := true } else s
  let s := putEv s e { s.aev e with fired := if r.2 then some angle else (s.aev e).fired }
  if s.is F.ANG_EV_MODE e then
    if ahead (s.aev e).next angle ≤ 0 then putEv s e { s.aev e with next := nextOcc (s.rd F.ANG_EV_ANGLE e) angle }
    else s
  else s.wr F.ANG_EV_STATE 0 e

/-! ### Arming (R313, R314) -/

/-- An arm that the angle unit refuses is counted. -/
def refuseArm (s : State) (e : Nat) : State := s.inc F.ANG_STATUS_REFUSED (s.rd F.ANG_EV_DOMAIN e)

/-- Entry `e` is armed at angle `a`. -/
def arm (s : State) (e a : Nat) : State :=
  let d := s.rd F.ANG_EV_DOMAIN e
  let ac := s.rd F.ANG_EV_ACTION e
  let cyc := s.is F.ANG_EV_MODE e
  if ac = 0 ∨ s.dst d = dOFF ∨ (!cyc ∧ s.dst d ≠ dSYNCED) then refuseArm s e
  else if 1 ≤ ac ∧ ac ≤ 3 ∧ (s.mode = mSTOP ∨ s.mode = mFAULT) then (s.wr F.ANG_EV_ANGLE a e).wr F.ANG_EV_STATE 0 e
  else
    let fin := s.ang.cmds.find? fun c => decide (c.entry = e) && s.final c
    let θ := s.angle d
    if cyc then
      let was := decide (s.rd F.ANG_EV_STATE e = 1)
      let s := s.wr F.ANG_EV_ANGLE a e
      if s.dst d ≠ dSYNCED then s.wr F.ANG_EV_STATE 2 e
      else
        let s := s.wr F.ANG_EV_STATE 1 e
        match fin with
        | some c => putEv s e { s.aev e with next := nextOcc a c.angle }
        | none =>
          let n := nextOcc a θ
          let s := putEv (dropCmds s e) e { s.aev e with next := n }
          let last := (n + 2 ^ 32 - 65536) % 2 ^ 32
          let missed : Bool := match (s.aev e).fired with
            | some f => was && s.is F.ANG_EV_CATCHUP e && decide (0 < ahead last f)
            | none => false
          if missed then fire s e last s.time.now true else s
    else
      let dlt := ahead a θ
      if 0 < dlt then
        let s := (s.wr F.ANG_EV_ANGLE a e).wr F.ANG_EV_STATE 1 e
        match fin with
        | some _ => putEv s e { s.aev e with next := a }
        | none => putEv (dropCmds s e) e { s.aev e with next := a }
      else if s.is F.ANG_EV_CATCHUP e ∧ (-65536 : Int) ≤ dlt then
        fire ((s.wr F.ANG_EV_ANGLE a e).wr F.ANG_EV_STATE 1 e) e a s.time.now true
      else refuseArm s e

/-- Entry `e` is disarmed; a final command still executes (ANG-13). -/
def disarm (s : State) (e : Nat) : State :=
  let s := s.wr F.ANG_EV_STATE 0 e
  { s with ang := { s.ang with cmds := s.ang.cmds.filter fun c => decide (c.entry ≠ e) || s.final c } }

/-- EVARM and EVDIS act at the commit (R313): on a HOST entry they are refused. -/
def evArm (s : State) (e a : Nat) : State := if s.is F.ANG_EV_OWNER e then refuseArm s e else arm s e a
def evDis (s : State) (e : Nat) : State := if s.is F.ANG_EV_OWNER e then refuseArm s e else disarm s e

/-- A host write of ARM; an entry of the program is refused with ENTRY_OWNER. -/
def armWrite (e : Nat) (v : Bool) (s : State) : State :=
  if 1024 ≤ e ∨ !s.is F.ANG_EV_OWNER e then noEffect s
  else if v then arm s e (s.rd F.ANG_EV_ANGLE e)
  else disarm s e

def execArm (dt : Elapsed) (e : Nat) (v : Bool) (s : State) : Out := .next (armWrite e v (advance dt s))

/-- A host write of ANGLE: an armed entry is armed anew at it (R314). -/
def angleWrite (e a : Nat) (s : State) : State :=
  if 1024 ≤ e ∨ !s.is F.ANG_EV_OWNER e then noEffect s
  else if s.rd F.ANG_EV_STATE e = 0 then s.wr F.ANG_EV_ANGLE a e
  else arm s e (a % 2 ^ 32)

def execAngle (dt : Elapsed) (e a : Nat) (s : State) : Out := .next (angleWrite e a (advance dt s))

/-! ### Timed commands (R311) -/

/-- The action takes place in the angle unit itself: TASK, INTERRUPT, and the capture of a domain speed. -/
def inUnit (s : State) (e : Nat) : Bool :=
  let a := s.rd F.ANG_EV_ACTION e
  decide (6 ≤ a) || (decide (a = 5) && decide (8 ≤ s.rd F.ANG_EV_TARGET e % 16))

/-- The field die of an entry's target: 0–7 DGg, 8–11 AGg. -/
def dieOf (s : State) (e : Nat) : Nat :=
  let t := s.rd F.ANG_EV_TARGET e
  match s.rd F.ANG_EV_ACTION e with
  | 4 => 8 + t % 4
  | 5 => t % 8
  | _ => t % 16 / 2

/-- The entry is ARMED in a SYNCED domain. -/
def live (s : State) (e : Nat) : Bool :=
  decide (e < 1024) && decide (s.rd F.ANG_EV_STATE e = 1) && decide (s.dst (s.rd F.ANG_EV_DOMAIN e) = dSYNCED)

/-- The command of an entry is sent, or sent again after a correction. One that cannot reach its field die 3.00 µs
before its instant executes on arrival and is late (ANG-13). -/
def eventCommandSend (e : Nat) (s : State) : State :=
  if !live s e ∨ inUnit s e then noEffect s
  else
    let n := (s.aev e).next
    match s.instantOf (s.rd F.ANG_EV_DOMAIN e) n with
    | none => noEffect s
    | some t =>
      if s.time.now + 250000 < t then noEffect s
      else
        match s.ang.cmds.find? fun c => decide (c.entry = e) with
        | some c =>
          if s.final c ∨ t < s.time.now + 3000 then noEffect s
          else { s with ang := { s.ang with cmds := s.ang.cmds.map fun x => if x = c then ⟨e, n, t⟩ else x } }
        | none =>
          let full := decide (32 ≤ (s.ang.cmds.filter fun c => decide (dieOf s c.entry = dieOf s e)).length)
          if t < s.time.now + 3000 then fire s e n s.time.now true
          else if full then noEffect s
          else { s with ang := { s.ang with cmds := s.ang.cmds ++ [⟨e, n, t⟩] } }

def execEventCommandSend (dt : Elapsed) (e : Nat) (s : State) : Out := .next (eventCommandSend e (advance dt s))

/-- A field die executes the command of an entry at its instant. -/
def eventFire (e : Nat) (s : State) : State :=
  match s.ang.cmds.find? fun c => decide (c.entry = e) with
  | some c => if c.at_ ≤ s.time.now ∧ !inUnit s e then fire s e c.angle c.at_ false else noEffect s
  | none => noEffect s

def execEventFire (dt : Elapsed) (e : Nat) (s : State) : Out := .next (eventFire e (advance dt s))

/-- An action of the angle unit acts at its predicted instant, or at the one that was final before the last edge. -/
def angleAction (e : Nat) (s : State) : State :=
  if !inUnit s e then noEffect s
  else
    match s.ang.cmds.find? fun c => decide (c.entry = e) with
    | some c => if c.at_ ≤ s.time.now then fire s e c.angle c.at_ false else noEffect s
    | none =>
      if live s e then
        match s.instantOf (s.rd F.ANG_EV_DOMAIN e) (s.aev e).next with
        | some t => if t ≤ s.time.now then fire s e (s.aev e).next t false else noEffect s
        | none => noEffect s
      else noEffect s

def execAngleAction (dt : Elapsed) (e : Nat) (s : State) : Out := .next (angleAction e (advance dt s))

/-- The end of a pulse (ANG-11). -/
def outPulseEnd (e : Nat) (s : State) : State :=
  match s.ang.pulses.find? fun p => decide (p.entry = e) with
  | some p =>
    if s.time.now < p.at_ then noEffect s
    else
      let s := { s with ang := { s.ang with pulses := s.ang.pulses.filter fun x => decide (x ≠ p) } }
      if overruled s p.chan p.at_ e then s else drive s p.chan false false
  | none => noEffect s

def execOutPulseEnd (dt : Elapsed) (e : Nat) (s : State) : Out := .next (outPulseEnd e (advance dt s))

/-! ### Edges (R301–R306) -/

/-- Actions of the angle unit whose instant the edge at `t` can no longer correct keep it. -/
def finalise (s : State) (d t : Nat) : State :=
  (s.domEntries d).foldl (fun s e =>
    if live s e && inUnit s e && !(s.ang.cmds.any fun c => decide (c.entry = e)) then
      match s.instantOf d (s.aev e).next with
      | some i => if i < t + 3000 then { s with ang := { s.ang with cmds := s.ang.cmds ++ [⟨e, (s.aev e).next, i⟩] } } else s
      | none => s
    else s) s

/-- Entries whose scheduled angle a correction moved past fire at once, late (ANG-13). -/
def firePassed (s : State) (d : Nat) : State :=
  let a := s.angle d
  (s.domEntries d).foldl (fun s e =>
    let held := s.ang.cmds.any fun c => decide (c.entry = e) && s.final c
    if live s e && !held && decide (ahead (s.aev e).next a ≤ 0) then fire s e (s.aev e).next s.time.now true else s) s

/-- The speed over an interval [counts/s], for an arc with 16 fraction bits. -/
def speedOver (arc iv : Nat) : Nat := if iv = 0 then 0 else arc * 1000000000 / (iv * 65536)

/-- An edge while the domain is SEEKING; `ref` says that it is a reference edge. -/
def seekingEdge (s : State) (d t : Nat) (ref back : Bool) : State :=
  let x := s.adom d
  let iv := t - x.last.getD t
  let n := x.edges + 1
  let span := if ref ∧ s.dsrc d = 2 then s.rd F.ANG_AD_GAP d + 1 else 1
  let v : Int := (speedOver (span * 2 ^ 32 / max 1 (s.dPos d)) iv : Nat)
  let x := { x with edges := n, last := some t, span := span, speed := if n < 2 then 0 else if back then -v else v
                    hist := if n < 2 then [] else (iv :: x.hist).take (s.dE d + 1), zSeen := false }
  let rel := decide (s.dsrc d = 1) && !s.is F.ANG_AD_ZEN d
  if rel ∧ n = 16 ∨ !rel ∧ ref then
    let x := { x with pos := 0, rev := 0, refAt := some t, refs := (t :: x.refs).take 9, dev := false, good := 0, revs := 0 }
    let s := putDom s d x
    let s := putDom s d { x with base := edgeAngle s d 0 }
    if rel then enterSynced (s.wr F.ANG_STATUS_RELATIVE 1 d) d else setDom s d dSYNCING 0
  else putDom s d x

/-- The cause of ANG-7 that an edge in SYNCING or SYNCED gives; the lowest code where several apply. -/
def edgeCause (s : State) (d iv : Nat) (ref back dev : Bool) : Option Nat :=
  let x := s.adom d
  let rel := decide (s.dsrc d = 1) && !s.is F.ANG_AD_ZEN d
  let last := decide (x.pos + 1 = s.dE d)
  if !rel && (ref != last) then some 1
  else if dev && x.dev then some 2
  else if s.rd F.ANG_AD_SPD_MAX d * iv * 65536 < s.arc d x.pos (s.spanAt d x.pos) * 1000000000 then some 4
  else if back then some 5
  else none

/-- A reference edge in SYNCING or SYNCED: the revolution's duration, and the way to SYNCED (R304, R305). -/
def referenceEdge (s : State) (d t iv : Nat) (dev : Bool) : State :=
  let x := s.adom d
  let per := fit32 s (t - x.refAt.getD t)
  let s := per.2.wr F.ANG_PERIOD_PERIOD per.1 d
  let inBand := decide (1000000000 ≤ iv * 70) && decide (iv * 40 ≤ 1000000000)
  let good := if inBand && !dev then x.good + 1 else 0
  let s := putDom s d { x with refAt := some t, refs := (t :: x.refs).take 9, good := good
                               revs := if s.dst d = dSYNCED then x.revs + 1 else 0 }
  let s := if s.dst d = dSYNCING ∧ (s.dsrc d ≠ 4 ∨ 4 ≤ good) then enterSynced s d else s
  domainEdge s d t

/-- An edge in SYNCING or SYNCED: checked, or it sends the domain LOST; then the events it moved past. -/
def syncedEdge (s : State) (d t : Nat) (ref back : Bool) : State :=
  let x := s.adom d
  let iv := t - x.last.getD t
  let p := s.predIv d
  let dm := s.rd F.ANG_AD_DEV_MAX d
  let dev := decide (p ≠ 0) && decide (dm * p < 100 * (if p ≤ iv then iv - p else p - iv))
  let s := if dev then putDom (s.inc F.ANG_STATUS_DEV_CNT d) d { x with fDev := true } else s
  match edgeCause s d iv ref back dev with
  | some c => enterLost s d c
  | none =>
    let s := finalise s d t
    let x := s.adom d
    let j := x.pos + 1
    let span := s.spanAt d x.pos
    let v := speedOver (s.arc d x.pos span) iv
    let wrap := decide (j = s.dE d)
    let x := { x with last := some t, span := span, speed := (v : Int), zSeen := false, dev := dev
                      hist := (iv :: x.hist).take (s.dE d + 1)
                      pos := if wrap then 0 else j, rev := if wrap then (x.rev + 1) % 65536 else x.rev }
    let s := putDom s d x
    let s := putDom s d { x with base := edgeAngle s d x.pos }
    let s := if wrap then referenceEdge s d t iv dev else s
    firePassed s d

/-- A TOOTH edge ends a gap: its interval exceeds (GAP + 2)/2 times the one before it. -/
def gapEdge (s : State) (d t : Nat) : Bool :=
  let x := s.adom d
  match x.last, x.hist with
  | some l, v :: _ => decide ((s.rd F.ANG_AD_GAP d + 2) * v < 2 * (t - l))
  | _, _ => false

/-- The edge at `t` of domain `d`. -/
def domEdge (s : State) (d t : Nat) (back : Bool) : State :=
  let s := if s.dst d = dLOST ∧ s.is F.ANG_AD_AUTO_RESYNC d then seek s d else s
  let rel := decide (s.dsrc d = 1) && !s.is F.ANG_AD_ZEN d
  let ref := match s.dsrc d with
    | 1 => if rel then decide ((s.adom d).pos + 1 = s.dE d) else (s.adom d).zSeen
    | 2 => gapEdge s d t
    | 3 => (s.adom d).zSeen
    | _ => true
  match s.dst d with
  | 1 => seekingEdge s d t ref back
  | 2 => syncedEdge s d t ref back
  | 3 => syncedEdge s d t ref back
  | _ => s

/-- The filtered level of signal `sig`. -/
def State.sigLevel (s : State) (sig : Nat) : Bool :=
  s.is (if sig % 2 = 0 then F.ANG_AI_LEVEL_P else F.ANG_AI_LEVEL_N) (sig / 2)

/-- Signal `sig` with its new level meets domain `d` (ANG-4). -/
def signalEdge (s : State) (d sig t : Nat) (level : Bool) : State :=
  let a := s.rd F.ANG_AD_SIG_A d
  let z := s.is F.ANG_AD_ZEN d && decide (s.rd F.ANG_AD_SIG_Z d = sig) && level
  let src := s.dsrc d
  let s := if z ∧ (src = 1 ∨ src = 3) then putDom s d { s.adom d with zSeen := true } else s
  if src = 1 then
    let b := s.rd F.ANG_AD_SIG_B d
    let la := s.sigLevel a
    let lb := s.sigLevel b
    if sig = a then domEdge s d t ((la == lb) != s.is F.ANG_AD_DIR d)
    else if sig = b then domEdge s d t ((la != lb) != s.is F.ANG_AD_DIR d)
    else s
  else if (src = 2 ∨ src = 3 ∨ src = 4) ∧ sig = a ∧ level = !s.is F.ANG_AD_EDGE d then domEdge s d t false
  else s

/-- The signal exists in its input's mode and delivers edges (ANG-1, R300). -/
def State.sigOn (s : State) (sig : Nat) : Bool :=
  let m := s.rd F.ANG_AI_MODE (sig / 2)
  (decide (m = 1) && decide (sig % 2 = 0) && !s.is F.ANG_AI_FAULT (sig / 2)) || decide (m = 2)

/-- Glitch filter lengths [ns] (ANG-3). -/
def glitchNs (f : Nat) : Nat :=
  match f with
  | 0 => 0
  | 1 => 100
  | 2 => 1000
  | _ => 10000

/-- A filtered edge: the timestamp has the filter delay removed (R299). -/
def angleEdge (sig : Nat) (level : Bool) (s : State) : State :=
  if 16 ≤ sig ∨ !s.time.link ∨ !s.sigOn sig ∨ s.sigLevel sig = level then noEffect s
  else
    let n := sig / 2
    let t := s.time.now - glitchNs (s.rd F.ANG_AI_FILT n)
    let s := s.wr (if sig % 2 = 0 then F.ANG_AI_LEVEL_P else F.ANG_AI_LEVEL_N) (b2n level) n
    (List.range 4).foldl (fun s d => signalEdge s d sig t level) s

def execAngleEdge (dt : Elapsed) (sig : Nat) (level : Bool) (s : State) : Out :=
  .next (angleEdge sig level (advance dt s))

/-- No edge came within the LOW_SPEED limit (ANG-7). -/
def speedTimeout (d : Nat) (s : State) : State :=
  let x := s.adom d
  let limit := s.arc d x.pos (s.spanAt d x.pos) * 1000000000 / (65536 * max 1 (s.rd F.ANG_AD_SPD_MIN d))
  match x.last with
  | some l =>
    if d < 4 ∧ s.dsrc d ≠ 5 ∧ (s.dst d = dSYNCING ∨ s.dst d = dSYNCED) ∧ l + limit ≤ s.time.now then enterLost s d 3
    else noEffect s
  | none => noEffect s

def execSpeedTimeout (dt : Elapsed) (d : Nat) (s : State) : Out := .next (speedTimeout d (advance dt s))

/-- Domain `d` uses a signal of input `n`. -/
def usesInput (s : State) (d n : Nat) : Bool :=
  let src := s.dsrc d
  decide (1 ≤ src) && decide (src ≤ 4) && (decide (s.rd F.ANG_AD_SIG_A d / 2 = n) ||
    (decide (src = 1) && decide (s.rd F.ANG_AD_SIG_B d / 2 = n)) ||
    (s.is F.ANG_AD_ZEN d && decide (s.rd F.ANG_AD_SIG_Z d / 2 = n)))

/-- An RS422 input lost its signal (R300): SYNCING and SYNCED domains that use it go LOST (assumption log 25). -/
def inputFault (n : Nat) (s : State) : State :=
  if 8 ≤ n ∨ s.rd F.ANG_AI_MODE n ≠ 1 ∨ s.is F.ANG_AI_FAULT n then noEffect s
  else
    (List.range 4).foldl (fun s d =>
      if usesInput s d n && (decide (s.dst d = dSYNCING) || decide (s.dst d = dSYNCED)) then enterLost s d 6 else s)
      (s.wr F.ANG_AI_FAULT 1 n)

def execInputFault (dt : Elapsed) (n : Nat) (s : State) : Out := .next (inputFault n (advance dt s))

/-- The differential voltage is back (R300). -/
def inputFaultClear (n : Nat) (s : State) : State := if n < 8 then s.wr F.ANG_AI_FAULT 0 n else noEffect s

def execInputFaultClear (dt : Elapsed) (n : Nat) (s : State) : Out := .next (inputFaultClear n (advance dt s))

/-- The coupler frames of a group have been absent for 2 station ticks during a bridge: its bound fast channels go to
their LOSS levels, and its inputs, counters and PWM stop (R308, R334, CLK-3). -/
def frameStreamLoss (g : Nat) (s : State) : State :=
  if 8 ≤ g ∨ s.time.link ∨ !(s.dgg g).stream then noEffect s
  else
    let s := putDgg s g { s.dgg g with stream := false }
    if (s.dgg g).rein ≠ 0 ∨ !s.dieRuns g then s
    else
      let s := (List.range 2).foldl (fun s k =>
        let e := 4 * (2 * g + k)
        if s.rdE F.ANG_FC_BOUND 0 e = 1 ∧ (s.dgg g).safe ≠ 1 ∧ (s.dgg g).safe ≠ 2 then
          drive s (16 * g + k) (decide (s.rdE F.ANG_FC_LOSS_ON 0 e = 1)) true
        else s) s
      (List.range 16).foldl (fun s k =>
        if s.dmode (16 * g + k) = 4 then drive s (16 * g + k) false false else s) s

def execFrameStreamLoss (dt : Elapsed) (g : Nat) (s : State) : Out := .next (frameStreamLoss g (advance dt s))

/-! ### Live writes of a domain -/

/-- A host write of RESYNC (R305). -/
def resync (d : Nat) (s : State) : State := if d < 4 ∧ s.dst d = dLOST then seek s d else noEffect s

def execResync (dt : Elapsed) (d : Nat) (s : State) : Out := .next (resync d (advance dt s))

/-- A host write of SYNSPD: from the next station tick, the angle continuous (R303); a second write before that tick
replaces the first. Commands follow the new instants. -/
def synspd (d v : Nat) (s : State) : State :=
  if 4 ≤ d then noEffect s
  else if s.dsrc d ≠ 5 then s.wr F.ANG_AD_SYNSPD v d
  else
    let x := s.adom d
    let old := s.rd F.ANG_AD_SYNSPD d
    let k := (s.time.now - x.synAt) / 1000 + 1
    let s := if s.time.now < x.synAt then s
      else putDom s d { x with syn := (x.syn + old * k) % (2 ^ 32 * 1000000), synAt := x.synAt + 1000 * k, synOld := old }
    synPeriod (s.wr F.ANG_AD_SYNSPD v d) d

def execSynspd (dt : Elapsed) (d v : Nat) (s : State) : Out := .next (synspd d v (advance dt s))

end Sys2Proof.Machine
end

