-- ==== Sys2Proof/Machine/Crypto.lean ====
section
/-!
DEFINITION. SHA-256 of FIPS 180-4, HMAC of FIPS 198-1 (R118, R121) and the check of an ECDSA signature of FIPS 186 on curve
P-256 (R523), on byte lists.
-/

namespace Sys2Proof.Machine.Crypto

/-! ### SHA-256 -/

/-- The 64 round constants. -/
def roundK : List Nat :=
  [0x428A2F98, 0x71374491, 0xB5C0FBCF, 0xE9B5DBA5, 0x3956C25B, 0x59F111F1, 0x923F82A4, 0xAB1C5ED5] ++
  [0xD807AA98, 0x12835B01, 0x243185BE, 0x550C7DC3, 0x72BE5D74, 0x80DEB1FE, 0x9BDC06A7, 0xC19BF174] ++
  [0xE49B69C1, 0xEFBE4786, 0x0FC19DC6, 0x240CA1CC, 0x2DE92C6F, 0x4A7484AA, 0x5CB0A9DC, 0x76F988DA] ++
  [0x983E5152, 0xA831C66D, 0xB00327C8, 0xBF597FC7, 0xC6E00BF3, 0xD5A79147, 0x06CA6351, 0x14292967] ++
  [0x27B70A85, 0x2E1B2138, 0x4D2C6DFC, 0x53380D13, 0x650A7354, 0x766A0ABB, 0x81C2C92E, 0x92722C85] ++
  [0xA2BFE8A1, 0xA81A664B, 0xC24B8B70, 0xC76C51A3, 0xD192E819, 0xD6990624, 0xF40E3585, 0x106AA070] ++
  [0x19A4C116, 0x1E376C08, 0x2748774C, 0x34B0BCB5, 0x391C0CB3, 0x4ED8AA4A, 0x5B9CCA4F, 0x682E6FF3] ++
  [0x748F82EE, 0x78A5636F, 0x84C87814, 0x8CC70208, 0x90BEFFFA, 0xA4506CEB, 0xBEF9A3F7, 0xC67178F2]

/-- The initial hash value. -/
def hash0 : List Nat := [0x6A09E667, 0xBB67AE85, 0x3C6EF372, 0xA54FF53A, 0x510E527F, 0x9B05688C, 0x1F83D9AB, 0x5BE0CD19]

/-- A sum modulo 2^32, and a right rotation of a 32-bit word. -/
def add32 (a b : Nat) : Nat := (a + b) % 2 ^ 32
def ror (w n : Nat) : Nat := (w >>> n) ||| ((w <<< (32 - n)) % 2 ^ 32)

/-- The four mixing functions. -/
def bigS0 (x : Nat) : Nat := ror x 2 ^^^ ror x 13 ^^^ ror x 22
def bigS1 (x : Nat) : Nat := ror x 6 ^^^ ror x 11 ^^^ ror x 25
def smallS0 (x : Nat) : Nat := ror x 7 ^^^ ror x 18 ^^^ (x >>> 3)
def smallS1 (x : Nat) : Nat := ror x 17 ^^^ ror x 19 ^^^ (x >>> 10)

/-- Choice and majority. -/
def ch (x y z : Nat) : Nat := (x &&& y) ^^^ ((0xFFFFFFFF ^^^ x) &&& z)
def maj (x y z : Nat) : Nat := (x &&& y) ^^^ (x &&& z) ^^^ (y &&& z)

/-- The message schedule, newest word first, extended by `n` words. -/
def schedule : Nat → List Nat → List Nat
  | 0, w => w
  | n + 1, w =>
    schedule n (add32 (add32 (smallS1 (w.getD 1 0)) (w.getD 6 0)) (add32 (smallS0 (w.getD 14 0)) (w.getD 15 0)) :: w)

/-- One round on the eight working words. -/
def round (v : List Nat) (kw : Nat × Nat) : List Nat :=
  match v with
  | [a, b, c, d, e, f, g, h] =>
    let t1 := add32 (add32 h (bigS1 e)) (add32 (ch e f g) (add32 kw.1 kw.2))
    let t2 := add32 (bigS0 a) (maj a b c)
    [add32 t1 t2, a, b, c, add32 d t1, e, f, g]
  | _ => v

/-- The hash after one block of 64 bytes. -/
def block (h b : List Nat) : List Nat :=
  let w := (List.range 16).map fun k => beNat (slice b (4 * k) 4)
  let ws := (schedule 48 w.reverse).reverse
  List.zipWith add32 h ((roundK.zip ws).foldl round h)

/-- The padding of a message of `n` bytes. -/
def padding (n : Nat) : List Nat := 0x80 :: List.replicate ((119 - n % 64) % 64) 0 ++ beBytes 8 (8 * n)

/-- The blocks of a padded message in turn. -/
def blocks : Nat → List Nat → List Nat → List Nat
  | 0, h, _ => h
  | k + 1, h, m => blocks k (block h (m.take 64)) (m.drop 64)

/-- SHA-256. -/
def sha256 (m : List Nat) : List Nat :=
  let p := m.map (· % 256) ++ padding m.length
  (blocks (p.length / 64) hash0 p).foldr (fun w l => beBytes 4 w ++ l) []

/-- HMAC-SHA-256 with a key of at most 64 bytes. -/
def hmac (key msg : List Nat) : List Nat :=
  let k := slice key 0 64
  sha256 (k.map (· ^^^ 0x5C) ++ sha256 (k.map (· ^^^ 0x36) ++ msg))

/-! ### ECDSA on P-256 -/

/-- The field prime, the order of the base point and the base point. -/
def p256 : Nat := 0xFFFFFFFF00000001000000000000000000000000FFFFFFFFFFFFFFFFFFFFFFFF
def n256 : Nat := 0xFFFFFFFF00000000FFFFFFFFFFFFFFFFBCE6FAADA7179E84F3B9CAC2FC632551
def g256 : Nat × Nat :=
  (0x6B17D1F2E12C4247F8BCE6E563A440F277037D812DEB33A0F4A13945D898C296,
   0x4FE342E2FE1A7F9B8EE7EB4A7C0F9E162BCE33576B315ECECBB6406837BF51F5)

/-- `b` to the power `e` modulo `m`, by `k` bits of `e`. -/
def powMod : Nat → Nat → Nat → Nat → Nat
  | 0, _, _, _ => 1
  | k + 1, b, e, m => if e % 2 = 1 then b * powMod k (b * b % m) (e / 2) m % m else powMod k (b * b % m) (e / 2) m

/-- The inverse modulo a prime. -/
def inv (a m : Nat) : Nat := powMod 256 (a % m) (m - 2) m

/-- A difference modulo `p256`. -/
def sub (a b : Nat) : Nat := (a + p256 - b % p256) % p256

/-- The sum of two points; none is the point at infinity. -/
def addPt : Option (Nat × Nat) → Option (Nat × Nat) → Option (Nat × Nat)
  | none, q => q
  | p, none => p
  | some (x1, y1), some (x2, y2) =>
    if x1 = x2 ∧ (y1 + y2) % p256 = 0 then none
    else
      let l := if x1 = x2 then (3 * x1 * x1 + (p256 - 3)) * inv (2 * y1) p256 % p256
        else sub y2 y1 * inv (sub x2 x1) p256 % p256
      let x := sub (sub (l * l % p256) x1) x2
      some (x, sub (l * sub x1 x % p256) y1)

/-- `e` times a point, by `k` bits. -/
def mulPt : Nat → Nat → Option (Nat × Nat) → Option (Nat × Nat)
  | 0, _, _ => none
  | k + 1, e, p => addPt (if e % 2 = 1 then p else none) (mulPt k (e / 2) (addPt p p))

/-- Signature (r, s) on a message under the public key `q`. -/
def verify (q : Nat × Nat) (msg : List Nat) (r s : Nat) : Bool :=
  if r = 0 ∨ n256 ≤ r ∨ s = 0 ∨ n256 ≤ s then false
  else
    let e := beNat (sha256 msg)
    let w := inv s n256
    match addPt (mulPt 256 (e * w % n256) (some g256)) (mulPt 256 (r * w % n256) (some q)) with
    | none => false
    | some (x, _) => decide (x % n256 = r)

end Sys2Proof.Machine.Crypto
end

