-- ==== Sys2Proof/Machine/ObjMap.lean ====
section
/-!
DEFINITION. The object map: for every object of the spec its path, its width and its fields with access code (R5),
write role (R135) and range (R136). Names are ASCII strings read as base-256 numbers, first character highest.
-/

namespace Sys2Proof.Machine

/-- Access codes of SCO-2. -/
inductive Acc | ro | rw | wo | w1c | rc | st
deriving DecidableEq, Repr

/-- One field of an object map. `ok` lists the ranges of accepted values (none: every value of its width). -/
structure FieldRow where
  name : Nat
  fld : Fld
  acc : Acc
  role : Nat
  signed : Bool
  ok : List (Nat × Nat)
deriving DecidableEq, Repr

/-- A path segment of R133: a fixed name, or a stem with a decimal index (MBX-10). -/
inductive Seg
  | lit (name : Nat)
  | idx (stem digits count : Nat)
deriving DecidableEq, Repr

/-- One object of the map: `rep` like entries of `stride` bits, each holding `fields`. -/
structure ObjDef where
  id : Nat
  path : List Seg
  width : Nat
  rep : Nat
  stride : Nat
  fields : List FieldRow
deriving DecidableEq, Repr

/-- NRL.ID. -/
def objNRL_ID : ObjDef := ⟨F.objNRL_ID, [.lit 0x4E524C, .lit 0x4944], 32, 1, 32, [
    ⟨0, F.NRL_ID_REV, .ro, 2, false, []⟩,
    ⟨0, F.NRL_ID_PART, .ro, 2, false, []⟩]⟩

/-- NRL.POS. -/
def objNRL_POS : ObjDef := ⟨F.objNRL_POS, [.lit 0x4E524C, .lit 0x504F53], 32, 1, 32, [
    ⟨0x504C41434544, F.NRL_POS_PLACED, .ro, 2, false, []⟩,
    ⟨0x504F53, F.NRL_POS_POS, .ro, 2, false, []⟩]⟩

/-- NRL.STATE. -/
def objNRL_STATE : ObjDef := ⟨F.objNRL_STATE, [.lit 0x4E524C, .lit 0x5354415445], 32, 1, 32, [
    ⟨0x434C4B535243, F.NRL_STATE_CLKSRC, .ro, 2, false, []⟩,
    ⟨0x524F4C45, F.NRL_STATE_ROLE, .ro, 2, false, []⟩,
    ⟨0x575241505F42, F.NRL_STATE_WRAP_B, .ro, 2, false, []⟩,
    ⟨0x575241505F41, F.NRL_STATE_WRAP_A, .ro, 2, false, []⟩,
    ⟨0x50425F5354, F.NRL_STATE_PB_ST, .ro, 2, false, []⟩,
    ⟨0x4D4F445F5354, F.NRL_STATE_MOD_ST, .ro, 2, false, []⟩]⟩

/-- NRL.CTRL. -/
def objNRL_CTRL : ObjDef := ⟨F.objNRL_CTRL, [.lit 0x4E524C, .lit 0x4354524C], 32, 1, 32, [
    ⟨0x50415F5354, F.NRL_CTRL_PA_ST, .ro, 2, false, []⟩,
    ⟨0x554E575241505F4641494C, F.NRL_CTRL_UNWRAP_FAIL, .w1c, 2, false, []⟩,
    ⟨0x43494E43485F4C4F5354, F.NRL_CTRL_CINCH_LOST, .w1c, 2, false, []⟩,
    ⟨0x554E57524150, F.NRL_CTRL_UNWRAP, .wo, 2, false, []⟩,
    ⟨0x4154544E5F454E, F.NRL_CTRL_ATTN_EN, .rw, 2, false, []⟩]⟩

/-- NRL.CYCLE. -/
def objNRL_CYCLE : ObjDef := ⟨F.objNRL_CYCLE, [.lit 0x4E524C, .lit 0x4359434C45], 32, 1, 32, [
    ⟨0, F.NRL_CYCLE_CYCLE, .rw, 2, false, [(0, 0), (100, 1000000)]⟩]⟩

/-- NRL.CINCH_DELAY_A. -/
def objNRL_CINCH_DELAY_A : ObjDef := ⟨F.objNRL_CINCH_DELAY_A, [.lit 0x4E524C, .lit 0x43494E43485F44454C41595F41], 32, 1, 32, [
    ⟨0, F.NRL_CINCH_DELAY_A_DELAY, .rw, 2, false, [(3000, 1048575)]⟩]⟩

/-- NRL.CINCH_DELAY_B. -/
def objNRL_CINCH_DELAY_B : ObjDef := ⟨F.objNRL_CINCH_DELAY_B, [.lit 0x4E524C, .lit 0x43494E43485F44454C41595F42], 32, 1, 32, [
    ⟨0, F.NRL_CINCH_DELAY_B_DELAY, .rw, 2, false, [(3000, 1048575)]⟩]⟩

/-- NRL.TIME. -/
def objNRL_TIME : ObjDef := ⟨F.objNRL_TIME, [.lit 0x4E524C, .lit 0x54494D45], 64, 1, 64, [
    ⟨0, F.NRL_TIME_TIME, .wo, 2, false, []⟩]⟩

/-- NRL.PROBE_A. -/
def objNRL_PROBE_A : ObjDef := ⟨F.objNRL_PROBE_A, [.lit 0x4E524C, .lit 0x50524F42455F41], 32, 1, 32, [
    ⟨0, F.NRL_PROBE_A_ARRIVAL, .ro, 2, false, []⟩]⟩

/-- NRL.PROBE_B. -/
def objNRL_PROBE_B : ObjDef := ⟨F.objNRL_PROBE_B, [.lit 0x4E524C, .lit 0x50524F42455F42], 32, 1, 32, [
    ⟨0, F.NRL_PROBE_B_ARRIVAL, .ro, 2, false, []⟩]⟩

/-- NRL.PROBE_ID. -/
def objNRL_PROBE_ID : ObjDef := ⟨F.objNRL_PROBE_ID, [.lit 0x4E524C, .lit 0x50524F42455F4944], 32, 1, 32, [
    ⟨0, F.NRL_PROBE_ID_ID_B, .ro, 2, false, []⟩,
    ⟨0, F.NRL_PROBE_ID_ID_A, .ro, 2, false, []⟩]⟩

/-- NRL.FSEQ_HIGH. -/
def objNRL_FSEQ_HIGH : ObjDef := ⟨F.objNRL_FSEQ_HIGH, [.lit 0x4E524C, .lit 0x465345515F48494748], 32, 1, 32, [
    ⟨0, F.NRL_FSEQ_HIGH_HIGH, .ro, 2, false, []⟩]⟩

/-- NRL.PORTA_ERR. -/
def objNRL_PORTA_ERR : ObjDef := ⟨F.objNRL_PORTA_ERR, [.lit 0x4E524C, .lit 0x504F5254415F455252], 32, 1, 32, [
    ⟨0x555053545245414D5F4552525F41, F.NRL_PORTA_ERR_UPSTREAM_ERR_A, .rc, 2, false, []⟩,
    ⟨0x434F44455F4552525F41, F.NRL_PORTA_ERR_CODE_ERR_A, .rc, 2, false, []⟩]⟩

/-- NRL.PORTA_LINK. -/
def objNRL_PORTA_LINK : ObjDef := ⟨F.objNRL_PORTA_LINK, [.lit 0x4E524C, .lit 0x504F5254415F4C494E4B], 32, 1, 32, [
    ⟨0x4C4F434B5F4C4F53535F41, F.NRL_PORTA_LINK_LOCK_LOSS_A, .rc, 2, false, []⟩,
    ⟨0x4352435F4552525F41, F.NRL_PORTA_LINK_CRC_ERR_A, .rc, 2, false, []⟩]⟩

/-- NRL.PORTB_ERR. -/
def objNRL_PORTB_ERR : ObjDef := ⟨F.objNRL_PORTB_ERR, [.lit 0x4E524C, .lit 0x504F5254425F455252], 32, 1, 32, [
    ⟨0x555053545245414D5F4552525F42, F.NRL_PORTB_ERR_UPSTREAM_ERR_B, .rc, 2, false, []⟩,
    ⟨0x434F44455F4552525F42, F.NRL_PORTB_ERR_CODE_ERR_B, .rc, 2, false, []⟩]⟩

/-- NRL.PORTB_LINK. -/
def objNRL_PORTB_LINK : ObjDef := ⟨F.objNRL_PORTB_LINK, [.lit 0x4E524C, .lit 0x504F5254425F4C494E4B], 32, 1, 32, [
    ⟨0x4C4F434B5F4C4F53535F42, F.NRL_PORTB_LINK_LOCK_LOSS_B, .rc, 2, false, []⟩,
    ⟨0x4352435F4552525F42, F.NRL_PORTB_LINK_CRC_ERR_B, .rc, 2, false, []⟩]⟩

/-- NRL.CINCH_CNT. -/
def objNRL_CINCH_CNT : ObjDef := ⟨F.objNRL_CINCH_CNT, [.lit 0x4E524C, .lit 0x43494E43485F434E54], 32, 1, 32, [
    ⟨0x43494E43485F534B4557, F.NRL_CINCH_CNT_CINCH_SKEW, .rc, 2, false, []⟩,
    ⟨0x43494E43485F5355425354, F.NRL_CINCH_CNT_CINCH_SUBST, .rc, 2, false, []⟩]⟩

/-- NRL.CINCH_ERR. -/
def objNRL_CINCH_ERR : ObjDef := ⟨F.objNRL_CINCH_ERR, [.lit 0x4E524C, .lit 0x43494E43485F455252], 32, 1, 32, [
    ⟨0x43494E43485F4E554D455252, F.NRL_CINCH_ERR_CINCH_NUMERR, .rc, 2, false, []⟩,
    ⟨0x43494E43485F4A4954544552, F.NRL_CINCH_ERR_CINCH_JITTER, .rc, 2, false, []⟩]⟩

/-- CLK.STATUS. -/
def objCLK_STATUS : ObjDef := ⟨F.objCLK_STATUS, [.lit 0x434C4B, .lit 0x535441545553], 32, 1, 32, [
    ⟨0x52455345545F4341555345, F.CLK_STATUS_RESET_CAUSE, .ro, 2, false, []⟩,
    ⟨0x5854414C5F4F4B, F.CLK_STATUS_XTAL_OK, .ro, 2, false, []⟩,
    ⟨0x524546504F5254, F.CLK_STATUS_REFPORT, .ro, 2, false, []⟩,
    ⟨0x4C414E455F434C4B, F.CLK_STATUS_LANE_CLK, .ro, 2, false, []⟩,
    ⟨0x4C434C4B5F4E4F4D, F.CLK_STATUS_LCLK_NOM, .ro, 2, false, []⟩,
    ⟨0x434C4B5F5048415345, F.CLK_STATUS_CLK_PHASE, .ro, 2, false, []⟩]⟩

/-- CLK.START. -/
def objCLK_START : ObjDef := ⟨F.objCLK_START, [.lit 0x434C4B, .lit 0x5354415254], 32, 1, 32, [
    ⟨0x41475F4C4F41444544, F.CLK_START_AG_LOADED, .ro, 2, false, []⟩,
    ⟨0x44475F4C4F41444544, F.CLK_START_DG_LOADED, .ro, 2, false, []⟩,
    ⟨0x54494D4544, F.CLK_START_TIMED, .ro, 2, false, []⟩,
    ⟨0x484F4C445F3338, F.CLK_START_HOLD_38, .ro, 2, false, []⟩,
    ⟨0x484F4C445F3330, F.CLK_START_HOLD_30, .ro, 2, false, []⟩,
    ⟨0x4C414E45535F4C4F41444544, F.CLK_START_LANES_LOADED, .ro, 2, false, []⟩,
    ⟨0x504C414E5F444F4E45, F.CLK_START_PLAN_DONE, .ro, 2, false, []⟩,
    ⟨0x524543414C4C5F444F4E45, F.CLK_START_RECALL_DONE, .ro, 2, false, []⟩]⟩

/-- CLK.EVENTS. -/
def objCLK_EVENTS : ObjDef := ⟨F.objCLK_EVENTS, [.lit 0x434C4B, .lit 0x4556454E5453], 32, 1, 32, [
    ⟨0x5041524B5F414E4E, F.CLK_EVENTS_PARK_ANN, .w1c, 2, false, []⟩,
    ⟨0x52454C4F434B5F4C415445, F.CLK_EVENTS_RELOCK_LATE, .w1c, 2, false, []⟩,
    ⟨0x414E4E5F4D4953534544, F.CLK_EVENTS_ANN_MISSED, .w1c, 2, false, []⟩,
    ⟨0x504C4C5F4F4F52, F.CLK_EVENTS_PLL_OOR, .w1c, 2, false, []⟩,
    ⟨0x4A554447455F4641494C, F.CLK_EVENTS_JUDGE_FAIL, .w1c, 2, false, []⟩,
    ⟨0x4C434C4B5F4C4F5354, F.CLK_EVENTS_LCLK_LOST, .w1c, 2, false, []⟩,
    ⟨0x5245465F535749544348, F.CLK_EVENTS_REF_SWITCH, .w1c, 2, false, []⟩]⟩

/-- CLK.LOST_CYCLES. -/
def objCLK_LOST_CYCLES : ObjDef := ⟨F.objCLK_LOST_CYCLES, [.lit 0x434C4B, .lit 0x4C4F53545F4359434C4553], 32, 1, 32, [
    ⟨0, F.CLK_LOST_CYCLES_COUNT, .ro, 2, false, []⟩]⟩

/-- CLK.PARK_TIME. -/
def objCLK_PARK_TIME : ObjDef := ⟨F.objCLK_PARK_TIME, [.lit 0x434C4B, .lit 0x5041524B5F54494D45], 32, 1, 32, [
    ⟨0, F.CLK_PARK_TIME_PERIODS, .ro, 2, false, []⟩]⟩

/-- MBX.QUEUES. -/
def objMBX_QUEUES : ObjDef := ⟨F.objMBX_QUEUES, [.lit 0x4D4258, .lit 0x515545554553], 32, 1, 32, [
    ⟨0x43515F46524545, F.MBX_QUEUES_CQ_FREE, .ro, 2, false, []⟩,
    ⟨0x43525F46524545, F.MBX_QUEUES_CR_FREE, .ro, 2, false, []⟩]⟩

/-- MBX.USE. -/
def objMBX_USE : ObjDef := ⟨F.objMBX_USE, [.lit 0x4D4258, .lit 0x555345], 32, 1, 32, [
    ⟨0x4241445F4D4143, F.MBX_USE_BAD_MAC, .rc, 2, false, []⟩,
    ⟨0x53455353494F4E535F4F50454E, F.MBX_USE_SESSIONS_OPEN, .ro, 2, false, []⟩,
    ⟨0x48414E444C45535F55534544, F.MBX_USE_HANDLES_USED, .ro, 2, false, []⟩]⟩

/-- MBX.CFG. -/
def objMBX_CFG : ObjDef := ⟨F.objMBX_CFG, [.lit 0x4D4258, .lit 0x434647], 32, 1, 32, [
    ⟨0x43515F54494D454F5554, F.MBX_CFG_CQ_TIMEOUT, .rw, 3, false, [(200, 100000)]⟩]⟩

/-- MBX.SESn. -/
def objMBX_SES : ObjDef := ⟨F.objMBX_SES, [.lit 0x4D4258, .idx 0x534553 3 256], 32, 1, 32, [
    ⟨0x4C494D4954, F.MBX_SES_LIMIT, .ro, 2, false, []⟩,
    ⟨0x5354415445, F.MBX_SES_STATE, .ro, 2, false, []⟩,
    ⟨0x524F4C45, F.MBX_SES_ROLE, .ro, 2, false, []⟩]⟩

/-- IMG.STATUS. -/
def objIMG_STATUS : ObjDef := ⟨F.objIMG_STATUS, [.lit 0x494D47, .lit 0x535441545553], 32, 1, 32, [
    ⟨0x50494E4E4544, F.IMG_STATUS_PINNED, .ro, 2, false, []⟩,
    ⟨0x50484F4C4453, F.IMG_STATUS_PHOLDS, .ro, 2, false, []⟩,
    ⟨0x5354414C455F50454552, F.IMG_STATUS_STALE_PEER, .ro, 2, false, []⟩,
    ⟨0x55505F5452554E43, F.IMG_STATUS_UP_TRUNC, .w1c, 2, false, []⟩,
    ⟨0x50494E5F42524F4B454E, F.IMG_STATUS_PIN_BROKEN, .w1c, 2, false, []⟩,
    ⟨0x444E5F464F524D4154, F.IMG_STATUS_DN_FORMAT, .w1c, 2, false, []⟩,
    ⟨0x53544147455F46524545, F.IMG_STATUS_STAGE_FREE, .ro, 2, false, []⟩]⟩

/-- IMG.STITCH. -/
def objIMG_STITCH : ObjDef := ⟨F.objIMG_STITCH, [.lit 0x494D47, .lit 0x535449544348], 64, 1, 64, [
    ⟨0x444E5F44524F50, F.IMG_STITCH_DN_DROP, .rc, 2, false, []⟩,
    ⟨0x554352435F4641494C, F.IMG_STITCH_UCRC_FAIL, .rc, 2, false, []⟩,
    ⟨0x57435F554E434F5252, F.IMG_STITCH_WC_UNCORR, .rc, 2, false, []⟩,
    ⟨0x57435F434F5252, F.IMG_STITCH_WC_CORR, .rc, 2, false, []⟩]⟩

/-- IMG.PINS. -/
def objIMG_PINS : ObjDef := ⟨F.objIMG_PINS, [.lit 0x494D47, .lit 0x50494E53], 128, 4, 32, [
    ⟨0, F.IMG_PINS_CINCH, .ro, 2, false, []⟩]⟩

/-- IMG.UPMAP. -/
def objIMG_UPMAP : ObjDef := ⟨F.objIMG_UPMAP, [.lit 0x494D47, .lit 0x55504D4150], 1024, 16, 64, [
    ⟨0, F.IMG_UPMAP_LEN, .st, 3, false, []⟩,
    ⟨0, F.IMG_UPMAP_OFFSET, .st, 3, false, []⟩,
    ⟨0, F.IMG_UPMAP_AREA, .st, 3, false, [(0, 3)]⟩]⟩

/-- IMG.SUBS. -/
def objIMG_SUBS : ObjDef := ⟨F.objIMG_SUBS, [.lit 0x494D47, .lit 0x53554253], 1024, 16, 64, [
    ⟨0, F.IMG_SUBS_PLEN, .st, 3, false, []⟩,
    ⟨0, F.IMG_SUBS_POFF, .st, 3, false, []⟩,
    ⟨0, F.IMG_SUBS_MAXAGE, .st, 3, false, []⟩,
    ⟨0, F.IMG_SUBS_EN, .st, 3, false, []⟩,
    ⟨0, F.IMG_SUBS_SRC, .st, 3, false, [(0, 63)]⟩]⟩

/-- SCN.MODE. -/
def objSCN_MODE : ObjDef := ⟨F.objSCN_MODE, [.lit 0x53434E, .lit 0x4D4F4445], 32, 1, 32, [
    ⟨0x52455441494E5F5354414C45, F.SCN_MODE_RETAIN_STALE, .ro, 2, false, []⟩,
    ⟨0x52455441494E5F56414C4944, F.SCN_MODE_RETAIN_VALID, .ro, 2, false, []⟩,
    ⟨0x5245545F4D495353, F.SCN_MODE_RET_MISS, .rc, 2, false, []⟩,
    ⟨0x4341555345, F.SCN_MODE_CAUSE, .ro, 2, false, []⟩,
    ⟨0x43415553455F5045525349535453, F.SCN_MODE_CAUSE_PERSISTS, .ro, 2, false, []⟩,
    ⟨0x50454E44494E47, F.SCN_MODE_PENDING, .ro, 2, false, []⟩,
    ⟨0x4D4F4445, F.SCN_MODE_MODE, .ro, 2, false, []⟩]⟩

/-- SCN.Tn. -/
def objSCN_T : ObjDef := ⟨F.objSCN_T, [.lit 0x53434E, .idx 0x54 2 64], 128, 1, 128, [
    ⟨0x5048415345, F.SCN_T_PHASE, .st, 3, false, []⟩,
    ⟨0x454E545259, F.SCN_T_ENTRY, .st, 3, false, []⟩,
    ⟨0x504552494F44, F.SCN_T_PERIOD, .st, 3, false, [(0, 0), (50, 10000000)]⟩,
    ⟨0x57445F4C494D4954, F.SCN_T_WD_LIMIT, .rw, 2, false, [(0, 0), (2, 32768)]⟩,
    ⟨0x534B49505F4D4158, F.SCN_T_SKIP_MAX, .rw, 2, false, []⟩,
    ⟨0x5052494F, F.SCN_T_PRIO, .st, 3, false, []⟩,
    ⟨0x535243, F.SCN_T_SRC, .st, 3, false, [(0, 4)]⟩]⟩

/-- SCN.Tn.STAT. -/
def objSCN_TSTAT : ObjDef := ⟨F.objSCN_TSTAT, [.lit 0x53434E, .idx 0x54 2 64, .lit 0x53544154], 96, 1, 96, [
    ⟨0x4D41585F52554E, F.SCN_TSTAT_MAX_RUN, .rc, 2, false, []⟩,
    ⟨0x4C4153545F52554E, F.SCN_TSTAT_LAST_RUN, .ro, 2, false, []⟩,
    ⟨0x534B495053, F.SCN_TSTAT_SKIPS, .rc, 2, false, []⟩,
    ⟨0x52554E534B4950, F.SCN_TSTAT_RUNSKIP, .ro, 2, false, []⟩]⟩

/-- SCN.CFG. -/
def objSCN_CFG : ObjDef := ⟨F.objSCN_CFG, [.lit 0x53434E, .lit 0x434647], 64, 1, 64, [
    ⟨0x535441525455505F4C494D4954, F.SCN_CFG_STARTUP_LIMIT, .st, 3, false, [(1, 10000)]⟩,
    ⟨0x484F4C445F4C494D4954, F.SCN_CFG_HOLD_LIMIT, .rw, 2, false, [(1, 3600)]⟩,
    ⟨0x5245545F504552494F44, F.SCN_CFG_RET_PERIOD, .st, 3, false, [(1, 1000)]⟩,
    ⟨0x43494E43485F4C4F53545F414354, F.SCN_CFG_CINCH_LOST_ACT, .st, 3, false, []⟩,
    ⟨0x4155544F52554E, F.SCN_CFG_AUTORUN, .st, 3, false, [(0, 2)]⟩]⟩

/-- SCN.RETAIN. -/
def objSCN_RETAIN : ObjDef := ⟨F.objSCN_RETAIN, [.lit 0x53434E, .lit 0x52455441494E], 512, 8, 64, [
    ⟨0, F.SCN_RETAIN_COUNT, .st, 3, false, []⟩,
    ⟨0, F.SCN_RETAIN_START, .st, 3, false, []⟩,
    ⟨0, F.SCN_RETAIN_AREA, .st, 3, false, [(0, 2)]⟩]⟩

/-- PRG.BANKA. -/
def objPRG_BANKA : ObjDef := ⟨F.objPRG_BANKA, [.lit 0x505247, .lit 0x42414E4B41], 192, 1, 192, [
    ⟨0x50524F474944, F.PRG_BANKA_PROGID, .ro, 2, false, []⟩,
    ⟨0x4255494C44, F.PRG_BANKA_BUILD, .ro, 2, false, []⟩,
    ⟨0x505245565F4255494C44, F.PRG_BANKA_PREV_BUILD, .ro, 2, false, []⟩,
    ⟨0x434F44454C454E, F.PRG_BANKA_CODELEN, .ro, 2, false, []⟩,
    ⟨0x504F4F4C4C454E, F.PRG_BANKA_POOLLEN, .ro, 2, false, []⟩,
    ⟨0x4E494E5354, F.PRG_BANKA_NINST, .ro, 2, false, []⟩,
    ⟨0x4E52454C4F43, F.PRG_BANKA_NRELOC, .ro, 2, false, []⟩,
    ⟨0x5354415445, F.PRG_BANKA_STATE, .ro, 2, false, []⟩]⟩

/-- PRG.BANKB. -/
def objPRG_BANKB : ObjDef := ⟨F.objPRG_BANKB, [.lit 0x505247, .lit 0x42414E4B42], 192, 1, 192, [
    ⟨0x50524F474944, F.PRG_BANKB_PROGID, .ro, 2, false, []⟩,
    ⟨0x4255494C44, F.PRG_BANKB_BUILD, .ro, 2, false, []⟩,
    ⟨0x505245565F4255494C44, F.PRG_BANKB_PREV_BUILD, .ro, 2, false, []⟩,
    ⟨0x434F44454C454E, F.PRG_BANKB_CODELEN, .ro, 2, false, []⟩,
    ⟨0x504F4F4C4C454E, F.PRG_BANKB_POOLLEN, .ro, 2, false, []⟩,
    ⟨0x4E494E5354, F.PRG_BANKB_NINST, .ro, 2, false, []⟩,
    ⟨0x4E52454C4F43, F.PRG_BANKB_NRELOC, .ro, 2, false, []⟩,
    ⟨0x5354415445, F.PRG_BANKB_STATE, .ro, 2, false, []⟩]⟩

/-- PRG.ACT. -/
def objPRG_ACT : ObjDef := ⟨F.objPRG_ACT, [.lit 0x505247, .lit 0x414354], 64, 1, 64, [
    ⟨0x535741505F43494E4348, F.PRG_ACT_SWAP_CINCH, .ro, 2, false, []⟩,
    ⟨0x535741505F435943, F.PRG_ACT_SWAP_CYC, .ro, 2, false, []⟩,
    ⟨0x44524F50504544, F.PRG_ACT_DROPPED, .rc, 2, false, []⟩,
    ⟨0x4C4147474544, F.PRG_ACT_LAGGED, .ro, 2, false, []⟩,
    ⟨0x50454E44494E47, F.PRG_ACT_PENDING, .ro, 2, false, []⟩,
    ⟨0x414354495645, F.PRG_ACT_ACTIVE, .ro, 2, false, []⟩]⟩

/-- PRG.CFG. -/
def objPRG_CFG : ObjDef := ⟨F.objPRG_CFG, [.lit 0x505247, .lit 0x434647], 32, 1, 32, [
    ⟨0x535741505F4D415247494E, F.PRG_CFG_SWAP_MARGIN, .rw, 3, false, [(20, 500)]⟩]⟩

/-- PLT.LANE. -/
def objPLT_LANE : ObjDef := ⟨F.objPLT_LANE, [.lit 0x504C54, .lit 0x4C414E45], 64, 1, 64, [
    ⟨0x524541444D4954, F.PLT_LANE_READMIT, .wo, 3, false, []⟩,
    ⟨0x524554495245, F.PLT_LANE_RETIRE, .wo, 3, false, []⟩,
    ⟨0x564F5445525F4641554C54, F.PLT_LANE_VOTER_FAULT, .w1c, 2, false, []⟩,
    ⟨0x564F54494E47, F.PLT_LANE_VOTING, .ro, 2, false, []⟩,
    ⟨0x43415553455F43, F.PLT_LANE_CAUSE_C, .ro, 2, false, []⟩,
    ⟨0x43415553455F42, F.PLT_LANE_CAUSE_B, .ro, 2, false, []⟩,
    ⟨0x43415553455F41, F.PLT_LANE_CAUSE_A, .ro, 2, false, []⟩,
    ⟨0x53544154455F43, F.PLT_LANE_STATE_C, .ro, 2, false, []⟩,
    ⟨0x53544154455F42, F.PLT_LANE_STATE_B, .ro, 2, false, []⟩,
    ⟨0x53544154455F41, F.PLT_LANE_STATE_A, .ro, 2, false, []⟩]⟩

/-- PLT.CFG. -/
def objPLT_CFG : ObjDef := ⟨F.objPLT_CFG, [.lit 0x504C54, .lit 0x434647], 32, 1, 32, [
    ⟨0x41444D49545F5452494553, F.PLT_CFG_ADMIT_TRIES, .st, 3, false, [(1, 15)]⟩,
    ⟨0x5245544952455F4D4158, F.PLT_CFG_RETIRE_MAX, .st, 3, false, [(1, 15)]⟩,
    ⟨0x4449535F4C494D4954, F.PLT_CFG_DIS_LIMIT, .st, 3, false, [(1, 15)]⟩,
    ⟨0x4155544F5F41444D4954, F.PLT_CFG_AUTO_ADMIT, .st, 3, false, []⟩,
    ⟨0x4449535F57494E444F57, F.PLT_CFG_DIS_WINDOW, .st, 3, false, [(1, 65535)]⟩]⟩

/-- PLT.COUNT. -/
def objPLT_COUNT : ObjDef := ⟨F.objPLT_COUNT, [.lit 0x504C54, .lit 0x434F554E54], 128, 1, 128, [
    ⟨0x4449535F43, F.PLT_COUNT_DIS_C, .rc, 2, false, []⟩,
    ⟨0x4449535F42, F.PLT_COUNT_DIS_B, .rc, 2, false, []⟩,
    ⟨0x4449535F41, F.PLT_COUNT_DIS_A, .rc, 2, false, []⟩,
    ⟨0x554E5245534F4C564544, F.PLT_COUNT_UNRESOLVED, .rc, 2, false, []⟩,
    ⟨0x4649454C445F53504C4954, F.PLT_COUNT_FIELD_SPLIT, .rc, 2, false, []⟩,
    ⟨0x564F54455F53504C4954, F.PLT_COUNT_VOTE_SPLIT, .rc, 2, false, []⟩,
    ⟨0x5245544952454D454E5453, F.PLT_COUNT_RETIREMENTS, .rc, 2, false, []⟩,
    ⟨0x41444D495453, F.PLT_COUNT_ADMITS, .rc, 2, false, []⟩]⟩

/-- PLT.PAIR. -/
def objPLT_PAIR : ObjDef := ⟨F.objPLT_PAIR, [.lit 0x504C54, .lit 0x50414952], 64, 1, 64, [
    ⟨0x4452494C4C5F4457454C4C, F.PLT_PAIR_DRILL_DWELL, .st, 3, false, [(1, 600)]⟩,
    ⟨0x52455455524E5F484F4C44, F.PLT_PAIR_RETURN_HOLD, .rw, 3, false, [(1, 3600)]⟩,
    ⟨0x4455414C5F48414E444F564552, F.PLT_PAIR_DUAL_HANDOVER, .st, 3, false, []⟩,
    ⟨0x53494C454E43455F414354, F.PLT_PAIR_SILENCE_ACT, .st, 3, false, []⟩,
    ⟨0x4155544F5F52455455524E, F.PLT_PAIR_AUTO_RETURN, .rw, 3, false, []⟩,
    ⟨0x505245464552524544, F.PLT_PAIR_PREFERRED, .st, 3, false, []⟩,
    ⟨0x53494445, F.PLT_PAIR_SIDE, .st, 3, false, []⟩,
    ⟨0x454E, F.PLT_PAIR_EN, .st, 3, false, []⟩]⟩

/-- PLT.PAIR.STATE. -/
def objPLT_PSTATE : ObjDef := ⟨F.objPLT_PSTATE, [.lit 0x504C54, .lit 0x50414952, .lit 0x5354415445], 64, 1, 64, [
    ⟨0x4C4153545F534F, F.PLT_PSTATE_LAST_SO, .ro, 2, false, []⟩,
    ⟨0x5357495443484553, F.PLT_PSTATE_SWITCHES, .rc, 2, false, []⟩,
    ⟨0x434F4E464C49435453, F.PLT_PSTATE_CONFLICTS, .rc, 2, false, []⟩,
    ⟨0x4D49525F4D495353, F.PLT_PSTATE_MIR_MISS, .rc, 2, false, []⟩,
    ⟨0x534F4C4F, F.PLT_PSTATE_SOLO, .ro, 2, false, []⟩,
    ⟨0x4C4541534544, F.PLT_PSTATE_LEASED, .ro, 2, false, []⟩,
    ⟨0x4452494C4C, F.PLT_PSTATE_DRILL, .ro, 2, false, []⟩,
    ⟨0x454C494749424C45, F.PLT_PSTATE_ELIGIBLE, .ro, 2, false, []⟩,
    ⟨0x504152544E45525F454C4947, F.PLT_PSTATE_PARTNER_ELIG, .ro, 2, false, []⟩,
    ⟨0x505354415445, F.PLT_PSTATE_PSTATE, .ro, 2, false, []⟩,
    ⟨0x504152544E45525F524F4C45, F.PLT_PSTATE_PARTNER_ROLE, .ro, 2, false, []⟩,
    ⟨0x504152544E45525F4D4F4445, F.PLT_PSTATE_PARTNER_MODE, .ro, 2, false, []⟩,
    ⟨0x524F4C45, F.PLT_PSTATE_ROLE, .ro, 2, false, []⟩]⟩

/-- PLT.MIRROR. -/
def objPLT_MIRROR : ObjDef := ⟨F.objPLT_MIRROR, [.lit 0x504C54, .lit 0x4D4952524F52], 1024, 16, 64, [
    ⟨0, F.PLT_MIRROR_COUNT, .st, 3, false, []⟩,
    ⟨0, F.PLT_MIRROR_START, .st, 3, false, []⟩,
    ⟨0, F.PLT_MIRROR_AREA, .st, 3, false, [(0, 3)]⟩]⟩

/-- ANG.AIn. -/
def objANG_AI : ObjDef := ⟨F.objANG_AI, [.lit 0x414E47, .idx 0x4149 1 8], 32, 1, 32, [
    ⟨0x4641554C54, F.ANG_AI_FAULT, .ro, 2, false, []⟩,
    ⟨0x4C4556454C5F4E, F.ANG_AI_LEVEL_N, .ro, 2, false, []⟩,
    ⟨0x4C4556454C5F50, F.ANG_AI_LEVEL_P, .ro, 2, false, []⟩,
    ⟨0x46494C54, F.ANG_AI_FILT, .st, 3, false, []⟩,
    ⟨0x5445524D, F.ANG_AI_TERM, .st, 3, false, []⟩,
    ⟨0x4D4F4445, F.ANG_AI_MODE, .st, 3, false, [(0, 2)]⟩]⟩

/-- ANG.ADn. -/
def objANG_AD : ObjDef := ⟨F.objANG_AD, [.lit 0x414E47, .idx 0x4144 1 4], 192, 1, 192, [
    ⟨0x53594E535044, F.ANG_AD_SYNSPD, .rw, 2, false, [(0, 2147483647)]⟩,
    ⟨0x5350445F4D4158, F.ANG_AD_SPD_MAX, .st, 3, false, [(0, 2147483647)]⟩,
    ⟨0x5350445F4D494E, F.ANG_AD_SPD_MIN, .st, 3, false, [(0, 2147483646)]⟩,
    ⟨0x4445565F4D4158, F.ANG_AD_DEV_MAX, .st, 3, false, [(0, 50)]⟩,
    ⟨0x5245465F414E474C45, F.ANG_AD_REF_ANGLE, .st, 3, false, []⟩,
    ⟨0x434F554E54, F.ANG_AD_COUNT, .st, 3, false, [(0, 32768)]⟩,
    ⟨0x474150, F.ANG_AD_GAP, .st, 3, false, [(0, 2)]⟩,
    ⟨0x5A454E, F.ANG_AD_ZEN, .st, 3, false, []⟩,
    ⟨0x5349475F5A, F.ANG_AD_SIG_Z, .st, 3, false, []⟩,
    ⟨0x5349475F42, F.ANG_AD_SIG_B, .st, 3, false, []⟩,
    ⟨0x5349475F41, F.ANG_AD_SIG_A, .st, 3, false, []⟩,
    ⟨0x424F4F53545F53484F52545F414354, F.ANG_AD_BOOST_SHORT_ACT, .st, 3, false, []⟩,
    ⟨0x4155544F5F524553594E43, F.ANG_AD_AUTO_RESYNC, .st, 3, false, []⟩,
    ⟨0x45444745, F.ANG_AD_EDGE, .st, 3, false, []⟩,
    ⟨0x444952, F.ANG_AD_DIR, .st, 3, false, []⟩,
    ⟨0x50524544, F.ANG_AD_PRED, .st, 3, false, []⟩,
    ⟨0x535243, F.ANG_AD_SRC, .st, 3, false, [(0, 5)]⟩]⟩

/-- ANG.ADn.PERIOD. -/
def objANG_PERIOD : ObjDef := ⟨F.objANG_PERIOD, [.lit 0x414E47, .idx 0x4144 1 4, .lit 0x504552494F44], 32, 1, 32, [
    ⟨0, F.ANG_PERIOD_PERIOD, .ro, 2, false, []⟩]⟩

/-- ANG.ADn.CAPPOS. -/
def objANG_CAPPOS : ObjDef := ⟨F.objANG_CAPPOS, [.lit 0x414E47, .idx 0x4144 1 4, .lit 0x434150504F53], 32, 1, 32, [
    ⟨0, F.ANG_CAPPOS_CAPPOS, .ro, 2, false, []⟩]⟩

/-- ANG.ADn.STATUS. -/
def objANG_STATUS : ObjDef := ⟨F.objANG_STATUS, [.lit 0x414E47, .idx 0x4144 1 4, .lit 0x535441545553], 64, 1, 64, [
    ⟨0x4445565F434E54, F.ANG_STATUS_DEV_CNT, .rc, 2, false, []⟩,
    ⟨0x4C4154455F434E54, F.ANG_STATUS_LATE_CNT, .rc, 2, false, []⟩,
    ⟨0x4253484F5254, F.ANG_STATUS_BSHORT, .rc, 2, false, []⟩,
    ⟨0x52454655534544, F.ANG_STATUS_REFUSED, .rc, 2, false, []⟩,
    ⟨0x524553594E43, F.ANG_STATUS_RESYNC, .wo, 2, false, []⟩,
    ⟨0x4341555345, F.ANG_STATUS_CAUSE, .ro, 2, false, []⟩,
    ⟨0x52454C4154495645, F.ANG_STATUS_RELATIVE, .ro, 2, false, []⟩,
    ⟨0x5354415445, F.ANG_STATUS_STATE, .ro, 2, false, []⟩]⟩

/-- ANG.EVn. -/
def objANG_EV : ObjDef := ⟨F.objANG_EV, [.lit 0x414E47, .idx 0x4556 4 1024], 128, 1, 128, [
    ⟨0x4C4153545F46495245, F.ANG_EV_LAST_FIRE, .ro, 2, false, []⟩,
    ⟨0x414E474C45, F.ANG_EV_ANGLE, .rw, 2, false, []⟩,
    ⟨0x5749445448, F.ANG_EV_WIDTH, .st, 3, false, []⟩,
    ⟨0x4649524544, F.ANG_EV_FIRED, .w1c, 2, false, []⟩,
    ⟨0x4C415445, F.ANG_EV_LATE, .w1c, 2, false, []⟩,
    ⟨0x5354415445, F.ANG_EV_STATE, .ro, 2, false, []⟩,
    ⟨0x41524D, F.ANG_EV_ARM, .wo, 2, false, []⟩,
    ⟨0x544152474554, F.ANG_EV_TARGET, .st, 3, false, []⟩,
    ⟨0x434150, F.ANG_EV_CAP, .st, 3, false, []⟩,
    ⟨0x424F4F5354, F.ANG_EV_BOOST, .st, 3, false, []⟩,
    ⟨0x43415443485550, F.ANG_EV_CATCHUP, .st, 3, false, []⟩,
    ⟨0x4F574E4552, F.ANG_EV_OWNER, .st, 3, false, []⟩,
    ⟨0x4D4F4445, F.ANG_EV_MODE, .st, 3, false, []⟩,
    ⟨0x444F4D41494E, F.ANG_EV_DOMAIN, .st, 3, false, []⟩,
    ⟨0x414354494F4E, F.ANG_EV_ACTION, .st, 3, false, []⟩]⟩

/-- ANG.FC. -/
def objANG_FC : ObjDef := ⟨F.objANG_FC, [.lit 0x414E47, .lit 0x4643], 64, 16, 4, [
    ⟨0, F.ANG_FC_LOSS_ON, .st, 3, false, []⟩,
    ⟨0, F.ANG_FC_DOMAIN, .st, 3, false, []⟩,
    ⟨0, F.ANG_FC_BOUND, .st, 3, false, []⟩]⟩

/-- ANG.BOOST_PLAN. -/
def objANG_BOOST_PLAN : ObjDef := ⟨F.objANG_BOOST_PLAN, [.lit 0x414E47, .lit 0x424F4F53545F504C414E], 8, 1, 8, [
    ⟨0, F.ANG_BOOST_PLAN_GROUPS, .w1c, 2, false, []⟩]⟩

/-- DGn.CHn. -/
def objDG_CH : ObjDef := ⟨F.objDG_CH, [.idx 0x4447 1 8, .idx 0x4348 2 16], 64, 1, 64, [
    ⟨0x50574D5F504552, F.DG_CH_PWM_PER, .st, 3, false, [(0, 0), (5, 65535)]⟩,
    ⟨0x4641554C545F53414645, F.DG_CH_FAULT_SAFE, .st, 3, false, [(0, 2)]⟩,
    ⟨0x53544F505F53414645, F.DG_CH_STOP_SAFE, .st, 3, false, [(0, 2)]⟩,
    ⟨0x4F564C5F414354, F.DG_CH_OVL_ACT, .st, 3, false, []⟩,
    ⟨0x494C494D, F.DG_CH_ILIM, .st, 3, false, []⟩,
    ⟨0x4F564C5F54494D45, F.DG_CH_OVL_TIME, .st, 3, false, [(1, 100)]⟩,
    ⟨0x57425F454E, F.DG_CH_WB_EN, .st, 3, false, []⟩,
    ⟨0x4F4C5F4F46465F454E, F.DG_CH_OL_OFF_EN, .st, 3, false, []⟩,
    ⟨0x4F4C5F4F4E5F454E, F.DG_CH_OL_ON_EN, .st, 3, false, []⟩,
    ⟨0x53465F454E, F.DG_CH_SF_EN, .st, 3, false, []⟩,
    ⟨0x434F53, F.DG_CH_COS, .st, 3, false, []⟩,
    ⟨0x434E545F52535451, F.DG_CH_CNT_RSTQ, .st, 3, false, []⟩,
    ⟨0x46494C54, F.DG_CH_FILT, .rw, 3, false, []⟩,
    ⟨0x434E545F4D4F4445, F.DG_CH_CNT_MODE, .st, 3, false, [(0, 2)]⟩,
    ⟨0x494E56, F.DG_CH_INV, .st, 3, false, []⟩,
    ⟨0x494E54595045, F.DG_CH_INTYPE, .st, 3, false, []⟩,
    ⟨0x4D4F4445, F.DG_CH_MODE, .st, 3, false, [(0, 5)]⟩]⟩

/-- DGn.CHn.BOOST. -/
def objDG_BOOST : ObjDef := ⟨F.objDG_BOOST, [.idx 0x4447 1 8, .idx 0x4348 2 2, .lit 0x424F4F5354], 32, 1, 32, [
    ⟨0x4F4E5F51, F.DG_BOOST_ON_Q, .st, 3, false, []⟩,
    ⟨0x454E, F.DG_BOOST_EN, .st, 3, false, []⟩,
    ⟨0x54494D45, F.DG_BOOST_TIME, .st, 3, false, [(0, 200)]⟩,
    ⟨0x484F4C44, F.DG_BOOST_HOLD, .st, 3, false, [(0, 50)]⟩,
    ⟨0x43555252454E54, F.DG_BOOST_CURRENT, .st, 3, false, [(0, 25)]⟩]⟩

/-- DGn.CHn.CNT. -/
def objDG_CNT : ObjDef := ⟨F.objDG_CNT, [.idx 0x4447 1 8, .idx 0x4348 2 16, .lit 0x434E54], 32, 1, 32, [
    ⟨0, F.DG_CNT_CNT, .rw, 2, false, []⟩]⟩

/-- DGn.CHn.STAT. -/
def objDG_CHSTAT : ObjDef := ⟨F.objDG_CHSTAT, [.idx 0x4447 1 8, .idx 0x4348 2 16, .lit 0x53544154], 32, 1, 32, [
    ⟨0x4253484F5254, F.DG_CHSTAT_BSHORT, .w1c, 2, false, []⟩,
    ⟨0x4C41544348, F.DG_CHSTAT_LATCH, .w1c, 2, false, []⟩,
    ⟨0x4C4F434B4544, F.DG_CHSTAT_LOCKED, .ro, 2, false, []⟩,
    ⟨0x52425F4F4E4C59, F.DG_CHSTAT_RB_ONLY, .ro, 2, false, []⟩,
    ⟨0x50454E44494E47, F.DG_CHSTAT_PENDING, .ro, 2, false, []⟩,
    ⟨0x434C414D50, F.DG_CHSTAT_CLAMP, .ro, 2, false, []⟩,
    ⟨0x494E4954, F.DG_CHSTAT_INIT, .ro, 2, false, []⟩,
    ⟨0x50524553454E54, F.DG_CHSTAT_PRESENT, .ro, 2, false, []⟩]⟩

/-- DGn.GROUP. -/
def objDG_GROUP : ObjDef := ⟨F.objDG_GROUP, [.idx 0x4447 1 8, .lit 0x47524F5550], 32, 1, 32, [
    ⟨0x42435F4445434C, F.DG_GROUP_BC_DECL, .st, 3, false, [(0, 0), (10, 1000)]⟩,
    ⟨0x434F535F434C52, F.DG_GROUP_COS_CLR, .st, 3, false, []⟩,
    ⟨0x434F4D504154, F.DG_GROUP_COMPAT, .st, 3, false, []⟩,
    ⟨0x5245494E5F544F, F.DG_GROUP_REIN_TO, .st, 3, false, [(2, 20)]⟩]⟩

/-- DGn.GROUP.STAT. -/
def objDG_GSTAT : ObjDef := ⟨F.objDG_GSTAT, [.idx 0x4447 1 8, .lit 0x47524F5550, .lit 0x53544154], 64, 1, 64, [
    ⟨0x42435F434D454153, F.DG_GSTAT_BC_CMEAS, .ro, 2, false, []⟩,
    ⟨0x4253544550, F.DG_GSTAT_BSTEP, .ro, 2, false, []⟩,
    ⟨0x42435F56, F.DG_GSTAT_BC_V, .ro, 2, false, []⟩,
    ⟨0x52415445, F.DG_GSTAT_RATE, .ro, 2, false, []⟩,
    ⟨0x574F5244, F.DG_GSTAT_WORD, .ro, 2, false, []⟩]⟩

/-- DGn.COS. -/
def objDG_COS : ObjDef := ⟨F.objDG_COS, [.idx 0x4447 1 8, .lit 0x434F53], 16, 1, 16, [
    ⟨0, F.DG_COS_COS, .w1c, 2, false, []⟩]⟩

/-- AGn.CHn. -/
def objAG_CH : ObjDef := ⟨F.objAG_CH, [.idx 0x4147 1 4, .idx 0x4348 2 16], 96, 1, 96, [
    ⟨0x534146455F56414C, F.AG_CH_SAFE_VAL, .st, 3, true, []⟩,
    ⟨0x4C454144, F.AG_CH_LEAD, .st, 3, false, []⟩,
    ⟨0x4641554C545F53414645, F.AG_CH_FAULT_SAFE, .st, 3, false, []⟩,
    ⟨0x53544F505F53414645, F.AG_CH_STOP_SAFE, .st, 3, false, []⟩,
    ⟨0x5749524553, F.AG_CH_WIRES, .st, 3, false, [(0, 2)]⟩,
    ⟨0x4F575F454E, F.AG_CH_OW_EN, .st, 3, false, []⟩,
    ⟨0x4E4534335F454E, F.AG_CH_NE43_EN, .st, 3, false, []⟩,
    ⟨0x52414E4745, F.AG_CH_RANGE, .st, 3, false, [(0, 2)]⟩,
    ⟨0x4D4F4445, F.AG_CH_MODE, .st, 3, false, [(0, 7)]⟩]⟩

/-- AGn.CHn.STAT. -/
def objAG_CHSTAT : ObjDef := ⟨F.objAG_CHSTAT, [.idx 0x4147 1 4, .idx 0x4348 2 16, .lit 0x53544154], 32, 1, 32, [
    ⟨0x4C41544348, F.AG_CHSTAT_LATCH, .w1c, 2, false, []⟩,
    ⟨0x50524553454E54, F.AG_CHSTAT_PRESENT, .ro, 2, false, []⟩]⟩

/-- AGn.GROUP. -/
def objAG_GROUP : ObjDef := ⟨F.objAG_GROUP, [.idx 0x4147 1 4, .lit 0x47524F5550], 32, 1, 32, [
    ⟨0x414C4D5F4C564C, F.AG_GROUP_ALM_LVL, .st, 3, false, [(0, 1)]⟩,
    ⟨0x434F4D504154, F.AG_GROUP_COMPAT, .st, 3, false, []⟩,
    ⟨0x5245494E5F544F, F.AG_GROUP_REIN_TO, .st, 3, false, [(2, 20)]⟩]⟩

/-- AGn.GROUP.STAT. -/
def objAG_GSTAT : ObjDef := ⟨F.objAG_GSTAT, [.idx 0x4147 1 4, .lit 0x47524F5550, .lit 0x53544154], 64, 1, 64, [
    ⟨0x54454D505F5133, F.AG_GSTAT_TEMP_Q3, .ro, 2, false, []⟩,
    ⟨0x54454D505F5132, F.AG_GSTAT_TEMP_Q2, .ro, 2, false, []⟩,
    ⟨0x54454D505F5131, F.AG_GSTAT_TEMP_Q1, .ro, 2, false, []⟩,
    ⟨0x54454D505F5130, F.AG_GSTAT_TEMP_Q0, .ro, 2, false, []⟩,
    ⟨0x4652414D455F5354414C45, F.AG_GSTAT_FRAME_STALE, .ro, 2, false, []⟩,
    ⟨0x4E4F5F494E505554, F.AG_GSTAT_NO_INPUT, .ro, 2, false, []⟩,
    ⟨0x4E4F5F535550504C59, F.AG_GSTAT_NO_SUPPLY, .ro, 2, false, []⟩,
    ⟨0x5245494E5F53544F50504544, F.AG_GSTAT_REIN_STOPPED, .ro, 2, false, []⟩,
    ⟨0x434F4D504154, F.AG_GSTAT_COMPAT, .ro, 2, false, []⟩,
    ⟨0x41565F4C4F57, F.AG_GSTAT_AV_LOW, .ro, 2, false, []⟩,
    ⟨0x41565F48494748, F.AG_GSTAT_AV_HIGH, .ro, 2, false, []⟩,
    ⟨0x5354524150, F.AG_GSTAT_STRAP, .ro, 2, false, []⟩,
    ⟨0x515541445F4F4E, F.AG_GSTAT_QUAD_ON, .ro, 2, false, []⟩,
    ⟨0x515541445F4642, F.AG_GSTAT_QUAD_FB, .ro, 2, false, []⟩,
    ⟨0x52454C4541534544, F.AG_GSTAT_RELEASED, .ro, 2, false, []⟩,
    ⟨0x53414645, F.AG_GSTAT_SAFE, .ro, 2, false, []⟩,
    ⟨0x4156504C5553, F.AG_GSTAT_AVPLUS, .ro, 2, false, []⟩]⟩

/-- AGn.POS. -/
def objAG_POS : ObjDef := ⟨F.objAG_POS, [.idx 0x4147 1 4, .lit 0x504F53], 128, 4, 32, [
    ⟨0, F.AG_POS_STEP, .st, 3, false, []⟩,
    ⟨0, F.AG_POS_PHASE, .st, 3, false, []⟩,
    ⟨0, F.AG_POS_START, .st, 3, false, []⟩,
    ⟨0, F.AG_POS_SEL, .st, 3, false, []⟩]⟩

/-- AGn.CSn. -/
def objAG_CS : ObjDef := ⟨F.objAG_CS, [.idx 0x4147 1 4, .idx 0x4353 1 5], 64, 1, 64, [
    ⟨0x4F464653, F.AG_CS_OFFS, .ro, 2, true, []⟩,
    ⟨0x4741494E, F.AG_CS_GAIN, .ro, 2, true, []⟩,
    ⟨0x43414C5F414745, F.AG_CS_CAL_AGE, .ro, 2, false, []⟩,
    ⟨0x4341555345, F.AG_CS_CAUSE, .ro, 2, false, []⟩,
    ⟨0x524554455354, F.AG_CS_RETEST, .wo, 4, false, []⟩,
    ⟨0x504F53, F.AG_CS_POS, .ro, 2, false, []⟩,
    ⟨0x5354415445, F.AG_CS_STATE, .ro, 2, false, []⟩]⟩

/-- AGn.CONV.STAT. -/
def objAG_CONV : ObjDef := ⟨F.objAG_CONV, [.idx 0x4147 1 4, .lit 0x434F4E56, .lit 0x53544154], 64, 1, 64, [
    ⟨0x4D4953434F4D50415245, F.AG_CONV_MISCOMPARE, .rc, 2, false, []⟩,
    ⟨0x545249475F44524F50, F.AG_CONV_TRIG_DROP, .rc, 2, false, []⟩,
    ⟨0x534C4F545F41424F5254, F.AG_CONV_SLOT_ABORT, .rc, 2, false, []⟩,
    ⟨0x43414C5F53544550, F.AG_CONV_CAL_STEP, .ro, 2, false, []⟩,
    ⟨0x535445505F53504C4954, F.AG_CONV_STEP_SPLIT, .ro, 2, false, []⟩,
    ⟨0x4449544845525F4649584544, F.AG_CONV_DITHER_FIXED, .ro, 2, false, []⟩,
    ⟨0x43414C5F53544F50504544, F.AG_CONV_CAL_STOPPED, .ro, 2, false, []⟩,
    ⟨0x524F554E4453, F.AG_CONV_ROUNDS, .ro, 2, false, []⟩]⟩

/-- PPR.AGn.CHn. -/
def objPPR_CH : ObjDef := ⟨F.objPPR_CH, [.lit 0x505052, .idx 0x4147 1 4, .idx 0x4348 2 16], 128, 1, 128, [
    ⟨0x53435F4F4646, F.PPR_CH_SC_OFF, .st, 3, true, []⟩,
    ⟨0x53435F4741494E, F.PPR_CH_SC_GAIN, .st, 3, true, []⟩,
    ⟨0x444941475F4E, F.PPR_CH_DIAG_N, .st, 3, false, [(0, 0), (16, 4096)]⟩,
    ⟨0x4C494E5F4E, F.PPR_CH_LIN_N, .st, 3, false, [(0, 15)]⟩,
    ⟨0x4F55545F53454C, F.PPR_CH_OUT_SEL, .st, 3, false, []⟩,
    ⟨0x464D54, F.PPR_CH_FMT, .st, 3, false, [(0, 2)]⟩,
    ⟨0x4C494E5F454E, F.PPR_CH_LIN_EN, .st, 3, false, []⟩,
    ⟨0x4D504552, F.PPR_CH_MPER, .st, 3, false, []⟩,
    ⟨0x4D444F4D, F.PPR_CH_MDOM, .st, 3, false, []⟩,
    ⟨0x464C454E, F.PPR_CH_FLEN, .rw, 3, false, []⟩,
    ⟨0x4654595045, F.PPR_CH_FTYPE, .st, 3, false, []⟩]⟩

/-- PPR.AGn.CHn.LIN. -/
def objPPR_LIN : ObjDef := ⟨F.objPPR_LIN, [.lit 0x505052, .idx 0x4147 1 4, .idx 0x4348 2 16, .lit 0x4C494E], 1024, 16, 64, [
    ⟨0, F.PPR_LIN_Y, .st, 3, true, []⟩,
    ⟨0, F.PPR_LIN_X, .st, 3, true, []⟩]⟩

/-- PPR.AGn.CHn.STAT. -/
def objPPR_STAT : ObjDef := ⟨F.objPPR_STAT, [.lit 0x505052, .idx 0x4147 1 4, .idx 0x4348 2 16, .lit 0x53544154], 32, 1, 32, [
    ⟨0x4652455348, F.PPR_STAT_FRESH, .ro, 2, false, []⟩,
    ⟨0x4D41494E535F46524545, F.PPR_STAT_MAINS_FREE, .ro, 2, false, []⟩,
    ⟨0x56455249464945445F4F4B, F.PPR_STAT_VERIFIED_OK, .ro, 2, false, []⟩]⟩

/-- PPR.WINn. -/
def objPPR_WIN : ObjDef := ⟨F.objPPR_WIN, [.lit 0x505052, .idx 0x57494E 2 64], 128, 1, 128, [
    ⟨0x48494748, F.PPR_WIN_HIGH, .rw, 2, true, []⟩,
    ⟨0x4C4F57, F.PPR_WIN_LOW, .rw, 2, true, []⟩,
    ⟨0x48595354, F.PPR_WIN_HYST, .st, 3, true, [(0, 2147483647)]⟩,
    ⟨0x4457454C4C, F.PPR_WIN_DWELL, .st, 3, false, [(0, 255)]⟩,
    ⟨0x535243, F.PPR_WIN_SRC, .st, 3, false, []⟩,
    ⟨0x495251, F.PPR_WIN_IRQ, .st, 3, false, []⟩,
    ⟨0x454E, F.PPR_WIN_EN, .st, 3, false, []⟩]⟩

/-- PPR.WINn.STAT. -/
def objPPR_WINSTAT : ObjDef := ⟨F.objPPR_WINSTAT, [.lit 0x505052, .idx 0x57494E 2 64, .lit 0x53544154], 32, 1, 32, [
    ⟨0x4556494E4954, F.PPR_WINSTAT_EVINIT, .w1c, 2, false, []⟩,
    ⟨0x4556454E54, F.PPR_WINSTAT_EVENT, .w1c, 2, false, []⟩,
    ⟨0x494E4954, F.PPR_WINSTAT_INIT, .ro, 2, false, []⟩,
    ⟨0x5354415445, F.PPR_WINSTAT_STATE, .ro, 2, false, []⟩]⟩

/-- STO.STATUS. -/
def objSTO_STATUS : ObjDef := ⟨F.objSTO_STATUS, [.lit 0x53544F, .lit 0x535441545553], 32, 1, 32, [
    ⟨0x5354415445, F.STO_STATUS_STATE, .ro, 2, false, []⟩,
    ⟨0x534554434F4D4D49545F424144, F.STO_STATUS_SETCOMMIT_BAD, .ro, 2, false, []⟩,
    ⟨0x484F4C445F4F4B, F.STO_STATUS_HOLD_OK, .ro, 2, false, []⟩,
    ⟨0x4253544550, F.STO_STATUS_BSTEP, .ro, 2, false, []⟩,
    ⟨0x4255524E4953485F414354495645, F.STO_STATUS_BURNISH_ACTIVE, .ro, 2, false, []⟩,
    ⟨0x52494E475F454D505459, F.STO_STATUS_RING_EMPTY, .ro, 2, false, []⟩,
    ⟨0x494E434F4E53, F.STO_STATUS_INCONS, .ro, 2, false, []⟩]⟩

/-- STO.COUNT. -/
def objSTO_COUNT : ObjDef := ⟨F.objSTO_COUNT, [.lit 0x53544F, .lit 0x434F554E54], 64, 1, 64, [
    ⟨0x434F5252, F.STO_COUNT_CORR, .rc, 2, false, []⟩,
    ⟨0x554E434F5252, F.STO_COUNT_UNCORR, .rc, 2, false, []⟩,
    ⟨0x534B4950504544, F.STO_COUNT_SKIPPED, .rc, 2, false, []⟩,
    ⟨0x4142414E444F4E4544, F.STO_COUNT_ABANDONED, .rc, 2, false, []⟩]⟩

/-- STO.CRING. -/
def objSTO_CRING : ObjDef := ⟨F.objSTO_CRING, [.lit 0x53544F, .lit 0x4352494E47], 2048, 64, 32, [
    ⟨0, F.STO_CRING_EN, .st, 3, false, []⟩,
    ⟨0, F.STO_CRING_DWORD, .st, 3, false, []⟩]⟩

/-- STO.INCONS. -/
def objSTO_INCONS : ObjDef := ⟨F.objSTO_INCONS, [.lit 0x53544F, .lit 0x494E434F4E53], 0, 1, 0, [
]⟩

/-- REC.STAT. -/
def objREC_STAT : ObjDef := ⟨F.objREC_STAT, [.lit 0x524543, .lit 0x53544154], 128, 1, 128, [
    ⟨0x4E455854, F.REC_STAT_NEXT, .ro, 2, false, []⟩,
    ⟨0x4F4C44455354, F.REC_STAT_OLDEST, .ro, 2, false, []⟩,
    ⟨0x4255464649525354, F.REC_STAT_BUFFIRST, .ro, 2, false, []⟩,
    ⟨0x44524F50504544, F.REC_STAT_DROPPED, .rc, 2, false, []⟩,
    ⟨0x5753544550, F.REC_STAT_WSTEP, .ro, 2, false, []⟩,
    ⟨0x425546434E54, F.REC_STAT_BUFCNT, .ro, 2, false, []⟩,
    ⟨0x574D41524B, F.REC_STAT_WMARK, .ro, 2, false, []⟩]⟩

/-- PWR.STATUS. -/
def objPWR_STATUS : ObjDef := ⟨F.objPWR_STATUS, [.lit 0x505752, .lit 0x535441545553], 64, 1, 64, [
    ⟨0x484F4C445F4D494E, F.PWR_STATUS_HOLD_MIN, .ro, 2, false, []⟩,
    ⟨0x484F4C445F56, F.PWR_STATUS_HOLD_V, .ro, 2, false, []⟩,
    ⟨0x565359535F56, F.PWR_STATUS_VSYS_V, .ro, 2, false, []⟩,
    ⟨0x5249444553, F.PWR_STATUS_RIDES, .rc, 2, false, []⟩,
    ⟨0x4341505F4641554C54, F.PWR_STATUS_CAP_FAULT, .ro, 2, false, []⟩,
    ⟨0x4341505F5745414B, F.PWR_STATUS_CAP_WEAK, .ro, 2, false, []⟩,
    ⟨0x544553545F414354495645, F.PWR_STATUS_TEST_ACTIVE, .ro, 2, false, []⟩,
    ⟨0x43484152474544, F.PWR_STATUS_CHARGED, .ro, 2, false, []⟩,
    ⟨0x505354415445, F.PWR_STATUS_PSTATE, .ro, 2, false, []⟩]⟩

/-- PWR.HOLDUP. -/
def objPWR_HOLDUP : ObjDef := ⟨F.objPWR_HOLDUP, [.lit 0x505752, .lit 0x484F4C445550], 32, 1, 32, [
    ⟨0x434D454153, F.PWR_HOLDUP_CMEAS, .ro, 2, false, []⟩,
    ⟨0x455352, F.PWR_HOLDUP_ESR, .ro, 2, false, []⟩]⟩

/-- PWR.CFG. -/
def objPWR_CFG : ObjDef := ⟨F.objPWR_CFG, [.lit 0x505752, .lit 0x434647], 32, 1, 32, [
    ⟨0x4341505F4445434C, F.PWR_CFG_CAP_DECL, .st, 3, false, [(330, 2000)]⟩,
    ⟨0x524944455F4D4158, F.PWR_CFG_RIDE_MAX, .st, 3, false, [(0, 20)]⟩,
    ⟨0x46435F484F52495A4F4E, F.PWR_CFG_FC_HORIZON, .st, 3, false, [(30, 3650)]⟩,
    ⟨0x484F4C445F54455354, F.PWR_CFG_HOLD_TEST, .wo, 3, false, []⟩]⟩

/-- PWR.PLAN. -/
def objPWR_PLAN : ObjDef := ⟨F.objPWR_PLAN, [.lit 0x505752, .lit 0x504C414E], 64, 1, 64, [
    ⟨0x4255444745545F5441534B, F.PWR_PLAN_BUDGET_TASK, .ro, 2, false, []⟩,
    ⟨0x424F4F53545F53544550, F.PWR_PLAN_BOOST_STEP, .ro, 2, false, []⟩,
    ⟨0x43414C5F53544550, F.PWR_PLAN_CAL_STEP, .ro, 2, false, []⟩,
    ⟨0x574D41524B5F53544550, F.PWR_PLAN_WMARK_STEP, .ro, 2, false, []⟩,
    ⟨0x53544F52455F53544550, F.PWR_PLAN_STORE_STEP, .ro, 2, false, []⟩,
    ⟨0x4C414E455F53544550, F.PWR_PLAN_LANE_STEP, .ro, 2, false, []⟩,
    ⟨0x4C414E455F494E44, F.PWR_PLAN_LANE_IND, .ro, 2, false, []⟩,
    ⟨0x45504F43485F494E434F4E53, F.PWR_PLAN_EPOCH_INCONS, .w1c, 2, false, []⟩,
    ⟨0x455848415553544544, F.PWR_PLAN_EXHAUSTED, .ro, 2, false, []⟩,
    ⟨0x464F5245434153545F5741524E, F.PWR_PLAN_FORECAST_WARN, .ro, 2, false, []⟩,
    ⟨0x4255444745545F53484F5254, F.PWR_PLAN_BUDGET_SHORT, .ro, 2, false, []⟩,
    ⟨0x555247454E54, F.PWR_PLAN_URGENT, .w1c, 2, false, []⟩]⟩

/-- PWR.SENSE. -/
def objPWR_SENSE : ObjDef := ⟨F.objPWR_SENSE, [.lit 0x505752, .lit 0x53454E5345], 128, 1, 128, [
    ⟨0x534C41434B5F43, F.PWR_SENSE_SLACK_C, .ro, 2, true, []⟩,
    ⟨0x534C41434B5F42, F.PWR_SENSE_SLACK_B, .ro, 2, false, []⟩,
    ⟨0x534C41434B5F41, F.PWR_SENSE_SLACK_A, .ro, 2, false, []⟩,
    ⟨0x425257, F.PWR_SENSE_BRW, .ro, 2, false, []⟩,
    ⟨0x44524946545F4D4158, F.PWR_SENSE_DRIFT_MAX, .ro, 2, false, []⟩,
    ⟨0x4147455F4C4F474943, F.PWR_SENSE_AGE_LOGIC, .ro, 2, false, []⟩,
    ⟨0x544A5F4C4F474943, F.PWR_SENSE_TJ_LOGIC, .ro, 2, false, []⟩,
    ⟨0x4551485F4D4158, F.PWR_SENSE_EQH_MAX, .ro, 2, false, []⟩]⟩

/-- PWR.FORECAST. -/
def objPWR_FORECAST : ObjDef := ⟨F.objPWR_FORECAST, [.lit 0x505752, .lit 0x464F524543415354], 128, 1, 128, [
    ⟨0x4C414E455F4E455854, F.PWR_FORECAST_LANE_NEXT, .ro, 2, false, []⟩,
    ⟨0x4C414E455F454E44, F.PWR_FORECAST_LANE_END, .ro, 2, false, []⟩,
    ⟨0x53544F52455F4E455854, F.PWR_FORECAST_STORE_NEXT, .ro, 2, false, []⟩,
    ⟨0x53544F52455F454E44, F.PWR_FORECAST_STORE_END, .ro, 2, false, []⟩,
    ⟨0x424F4F53545F4E455854, F.PWR_FORECAST_BOOST_NEXT, .ro, 2, false, []⟩,
    ⟨0x424F4F53545F454E44, F.PWR_FORECAST_BOOST_END, .ro, 2, false, []⟩,
    ⟨0x43414C5F4E455854, F.PWR_FORECAST_CAL_NEXT, .ro, 2, false, []⟩,
    ⟨0x43414C5F454E44, F.PWR_FORECAST_CAL_END, .ro, 2, false, []⟩]⟩

/-- PWR.DOMAINS. -/
def objPWR_DOMAINS : ObjDef := ⟨F.objPWR_DOMAINS, [.lit 0x505752, .lit 0x444F4D41494E53], 128, 1, 128, [
    ⟨0, F.PWR_DOMAINS_DOMAINS, .ro, 2, false, []⟩]⟩

/-- PWR.HIST. -/
def objPWR_HIST : ObjDef := ⟨F.objPWR_HIST, [.lit 0x505752, .lit 0x48495354], 0, 1, 0, [
]⟩

/-- INT.SUP. -/
def objINT_SUP : ObjDef := ⟨F.objINT_SUP, [.lit 0x494E54, .lit 0x535550], 2048, 64, 32, [
    ⟨0, F.INT_SUP_TASK, .ro, 2, false, []⟩,
    ⟨0, F.INT_SUP_EN, .ro, 2, false, []⟩,
    ⟨0, F.INT_SUP_TARGET, .ro, 2, false, []⟩,
    ⟨0, F.INT_SUP_PRIO, .ro, 2, false, []⟩]⟩

/-- INT.COS. -/
def objINT_COS : ObjDef := ⟨F.objINT_COS, [.lit 0x494E54, .lit 0x434F53], 4096, 128, 32, [
    ⟨0, F.INT_COS_TASK, .st, 3, false, []⟩,
    ⟨0, F.INT_COS_EN, .st, 3, false, []⟩,
    ⟨0, F.INT_COS_TARGET, .st, 3, false, []⟩,
    ⟨0, F.INT_COS_PRIO, .st, 3, false, []⟩]⟩

/-- INT.GRP. -/
def objINT_GRP : ObjDef := ⟨F.objINT_GRP, [.lit 0x494E54, .lit 0x475250], 768, 24, 32, [
    ⟨0, F.INT_GRP_TASK, .st, 3, false, []⟩,
    ⟨0, F.INT_GRP_EN, .st, 3, false, []⟩,
    ⟨0, F.INT_GRP_TARGET, .st, 3, false, []⟩,
    ⟨0, F.INT_GRP_PRIO, .st, 3, false, []⟩]⟩

/-- INT.WIN. -/
def objINT_WIN : ObjDef := ⟨F.objINT_WIN, [.lit 0x494E54, .lit 0x57494E], 2048, 64, 32, [
    ⟨0, F.INT_WIN_TASK, .st, 3, false, []⟩,
    ⟨0, F.INT_WIN_EN, .st, 3, false, []⟩,
    ⟨0, F.INT_WIN_TARGET, .st, 3, false, []⟩,
    ⟨0, F.INT_WIN_PRIO, .st, 3, false, []⟩]⟩

/-- INT.SYS. -/
def objINT_SYS : ObjDef := ⟨F.objINT_SYS, [.lit 0x494E54, .lit 0x535953], 928, 29, 32, [
    ⟨0, F.INT_SYS_TASK, .st, 3, false, []⟩,
    ⟨0, F.INT_SYS_EN, .st, 3, false, []⟩,
    ⟨0, F.INT_SYS_TARGET, .st, 3, false, []⟩,
    ⟨0, F.INT_SYS_PRIO, .st, 3, false, []⟩]⟩

/-- INT.STATE. -/
def objINT_STATE : ObjDef := ⟨F.objINT_STATE, [.lit 0x494E54, .lit 0x5354415445], 1024, 512, 2, [
    ⟨0, F.INT_STATE_ST, .ro, 2, false, []⟩]⟩

/-- INT.STORMED. -/
def objINT_STORMED : ObjDef := ⟨F.objINT_STORMED, [.lit 0x494E54, .lit 0x53544F524D4544], 512, 512, 1, [
    ⟨0, F.INT_STORMED_M, .w1c, 2, false, []⟩]⟩

/-- INT.LATCH. -/
def objINT_LATCH : ObjDef := ⟨F.objINT_LATCH, [.lit 0x494E54, .lit 0x4C41544348], 32, 1, 32, [
    ⟨0x52494E47, F.INT_LATCH_RING, .w1c, 2, false, []⟩,
    ⟨0x5245434F52444552, F.INT_LATCH_RECORDER, .w1c, 2, false, []⟩,
    ⟨0x53544F5245, F.INT_LATCH_STORE, .w1c, 2, false, []⟩,
    ⟨0x4D4F4445, F.INT_LATCH_MODE, .w1c, 2, false, []⟩,
    ⟨0x414745494E47, F.INT_LATCH_AGEING, .w1c, 2, false, []⟩,
    ⟨0x504F5745525F4641494C, F.INT_LATCH_POWER_FAIL, .w1c, 2, false, []⟩,
    ⟨0x504C54, F.INT_LATCH_PLT, .w1c, 2, false, []⟩,
    ⟨0x53594E43, F.INT_LATCH_SYNC, .w1c, 2, false, []⟩,
    ⟨0x414E474556, F.INT_LATCH_ANGEV, .w1c, 2, false, []⟩]⟩

/-- INT.CFG. -/
def objINT_CFG : ObjDef := ⟨F.objINT_CFG, [.lit 0x494E54, .lit 0x434647], 32, 1, 32, [
    ⟨0x53544F524D5F4D4158, F.INT_CFG_STORM_MAX, .st, 3, false, [(0, 0), (16, 65535)]⟩,
    ⟨0x50524947524F55505F484F5354, F.INT_CFG_PRIGROUP_HOST, .st, 3, false, []⟩,
    ⟨0x50524947524F55505F5441534B53, F.INT_CFG_PRIGROUP_TASKS, .st, 3, false, []⟩,
    ⟨0x50524947524F55505F535631, F.INT_CFG_PRIGROUP_SV1, .ro, 2, false, []⟩,
    ⟨0x50524947524F55505F535630, F.INT_CFG_PRIGROUP_SV0, .ro, 2, false, []⟩]⟩

/-- INT.STAT. -/
def objINT_STAT : ObjDef := ⟨F.objINT_STAT, [.lit 0x494E54, .lit 0x53544154], 96, 1, 96, [
    ⟨0x524546495245, F.INT_STAT_REFIRE, .rc, 2, false, []⟩,
    ⟨0x4D4552474544, F.INT_STAT_MERGED, .rc, 2, false, []⟩,
    ⟨0x44495343415244, F.INT_STAT_DISCARD, .rc, 2, false, []⟩,
    ⟨0x53544F524D53, F.INT_STAT_STORMS, .rc, 2, false, []⟩,
    ⟨0x484F53545F434E54, F.INT_STAT_HOST_CNT, .ro, 2, false, []⟩,
    ⟨0x484F53545F544F50, F.INT_STAT_HOST_TOP, .ro, 2, false, []⟩]⟩

/-- RTC.TIME. -/
def objRTC_TIME : ObjDef := ⟨F.objRTC_TIME, [.lit 0x525443, .lit 0x54494D45], 64, 1, 64, [
    ⟨0x5345434F4E4453, F.RTC_TIME_SECONDS, .rw, 3, false, []⟩,
    ⟨0x535542534543, F.RTC_TIME_SUBSEC, .rw, 3, false, [(0, 32767)]⟩]⟩

/-- RTC.DATE. -/
def objRTC_DATE : ObjDef := ⟨F.objRTC_DATE, [.lit 0x525443, .lit 0x44415445], 64, 1, 64, [
    ⟨0x59454152, F.RTC_DATE_YEAR, .ro, 3, false, []⟩,
    ⟨0x4D4F4E5448, F.RTC_DATE_MONTH, .ro, 3, false, []⟩,
    ⟨0x444159, F.RTC_DATE_DAY, .ro, 3, false, []⟩,
    ⟨0x5745454B444159, F.RTC_DATE_WEEKDAY, .ro, 3, false, []⟩,
    ⟨0x484F5552, F.RTC_DATE_HOUR, .ro, 3, false, []⟩,
    ⟨0x4D494E555445, F.RTC_DATE_MINUTE, .ro, 3, false, []⟩,
    ⟨0x5345434F4E44, F.RTC_DATE_SECOND, .ro, 3, false, []⟩,
    ⟨0x535542534543, F.RTC_DATE_SUBSEC, .ro, 3, false, []⟩]⟩

/-- RTC.ALARM. -/
def objRTC_ALARM : ObjDef := ⟨F.objRTC_ALARM, [.lit 0x525443, .lit 0x414C41524D], 64, 1, 64, [
    ⟨0x5345434F4E4453, F.RTC_ALARM_SECONDS, .rw, 3, false, []⟩,
    ⟨0x5057525F454E, F.RTC_ALARM_PWR_EN, .rw, 3, false, []⟩,
    ⟨0x4441494C59, F.RTC_ALARM_DAILY, .rw, 3, false, []⟩,
    ⟨0x454E, F.RTC_ALARM_EN, .rw, 3, false, []⟩]⟩

/-- RTC.WAKE. -/
def objRTC_WAKE : ObjDef := ⟨F.objRTC_WAKE, [.lit 0x525443, .lit 0x57414B45], 32, 1, 32, [
    ⟨0x504552494F44, F.RTC_WAKE_PERIOD, .rw, 3, false, [(1, 22118400)]⟩,
    ⟨0x5057525F454E, F.RTC_WAKE_PWR_EN, .rw, 3, false, []⟩,
    ⟨0x454E, F.RTC_WAKE_EN, .rw, 3, false, []⟩]⟩

/-- RTC.STATUS. -/
def objRTC_STATUS : ObjDef := ⟨F.objRTC_STATUS, [.lit 0x525443, .lit 0x535441545553], 32, 1, 32, [
    ⟨0x564241545F56, F.RTC_STATUS_VBAT_V, .ro, 3, false, []⟩,
    ⟨0x4F53465F4341555345, F.RTC_STATUS_OSF_CAUSE, .ro, 3, false, []⟩,
    ⟨0x57414B455F4341555345, F.RTC_STATUS_WAKE_CAUSE, .ro, 3, false, []⟩,
    ⟨0x4F46465F50454E44494E47, F.RTC_STATUS_OFF_PENDING, .ro, 3, false, []⟩,
    ⟨0x5057524F4E5F4C4F57, F.RTC_STATUS_PWRON_LOW, .ro, 3, false, []⟩,
    ⟨0x535550504C59, F.RTC_STATUS_SUPPLY, .ro, 3, false, []⟩,
    ⟨0x5854414C5F5355425354, F.RTC_STATUS_XTAL_SUBST, .ro, 3, false, []⟩,
    ⟨0x5854414C5F52554E, F.RTC_STATUS_XTAL_RUN, .ro, 3, false, []⟩,
    ⟨0x564241545F4C4F57, F.RTC_STATUS_VBAT_LOW, .ro, 3, false, []⟩,
    ⟨0x57414B45, F.RTC_STATUS_WAKE, .w1c, 3, false, []⟩,
    ⟨0x414C41524D, F.RTC_STATUS_ALARM, .w1c, 3, false, []⟩,
    ⟨0x4F5346, F.RTC_STATUS_OSF, .ro, 3, false, []⟩]⟩

/-- RTC.TRIM. -/
def objRTC_TRIM : ObjDef := ⟨F.objRTC_TRIM, [.lit 0x525443, .lit 0x5452494D], 32, 1, 32, [
    ⟨0x5452494D, F.RTC_TRIM_TRIM, .rw, 3, true, []⟩]⟩

/-- RTC.PWRON. -/
def objRTC_PWRON : ObjDef := ⟨F.objRTC_PWRON, [.lit 0x525443, .lit 0x5057524F4E], 32, 1, 32, [
    ⟨0x4F46465F44454C4159, F.RTC_PWRON_OFF_DELAY, .rw, 3, false, [(1, 3600)]⟩,
    ⟨0x4F4646, F.RTC_PWRON_OFF, .wo, 3, false, []⟩]⟩

/-- RTC.BKP. -/
def objRTC_BKP : ObjDef := ⟨F.objRTC_BKP, [.lit 0x525443, .lit 0x424B50], 256, 1, 256, [
    ⟨0x424B5030, F.RTC_BKP_BKP0, .rw, 3, false, []⟩,
    ⟨0x424B5031, F.RTC_BKP_BKP1, .rw, 3, false, []⟩,
    ⟨0x424B5032, F.RTC_BKP_BKP2, .rw, 3, false, []⟩,
    ⟨0x424B5033, F.RTC_BKP_BKP3, .rw, 3, false, []⟩,
    ⟨0x424B5034, F.RTC_BKP_BKP4, .rw, 3, false, []⟩,
    ⟨0x424B5035, F.RTC_BKP_BKP5, .rw, 3, false, []⟩,
    ⟨0x424B5036, F.RTC_BKP_BKP6, .rw, 3, false, []⟩,
    ⟨0x424B5037, F.RTC_BKP_BKP7, .rw, 3, false, []⟩]⟩

/-- SEC.STATUS. -/
def objSEC_STATUS : ObjDef := ⟨F.objSEC_STATUS, [.lit 0x534543, .lit 0x535441545553], 32, 1, 32, [
    ⟨0x5356435F53455353494F4E53, F.SEC_STATUS_SVC_SESSIONS, .ro, 2, false, []⟩,
    ⟨0x5553425F4154544143484544, F.SEC_STATUS_USB_ATTACHED, .ro, 2, false, []⟩,
    ⟨0x5245434F56455259, F.SEC_STATUS_RECOVERY, .ro, 2, false, []⟩,
    ⟨0x434F4D4D495353494F4E494E47, F.SEC_STATUS_COMMISSIONING, .ro, 2, false, []⟩,
    ⟨0x4B455953, F.SEC_STATUS_KEYS, .ro, 2, false, []⟩,
    ⟨0x53504152455F4641494C, F.SEC_STATUS_SPARE_FAIL, .ro, 2, false, []⟩,
    ⟨0x53504152455F5245414459, F.SEC_STATUS_SPARE_READY, .ro, 2, false, []⟩,
    ⟨0x4143544956455F5356, F.SEC_STATUS_ACTIVE_SV, .ro, 2, false, []⟩]⟩

/-- SEC.FW. -/
def objSEC_FW : ObjDef := ⟨F.objSEC_FW, [.lit 0x534543, .lit 0x4657], 512, 4, 128, [
    ⟨0, F.SEC_FW_SEC_MIN, .ro, 2, false, []⟩,
    ⟨0, F.SEC_FW_VERSION_UNSEL, .ro, 2, false, []⟩,
    ⟨0, F.SEC_FW_VERSION, .ro, 2, false, []⟩,
    ⟨0, F.SEC_FW_ABI, .ro, 2, false, []⟩,
    ⟨0, F.SEC_FW_FALLBACK, .ro, 2, false, []⟩,
    ⟨0, F.SEC_FW_UNSEL, .ro, 2, false, []⟩,
    ⟨0, F.SEC_FW_SEL, .ro, 2, false, []⟩]⟩

/-- SEC.RNG. -/
def objSEC_RNG : ObjDef := ⟨F.objSEC_RNG, [.lit 0x534543, .lit 0x524E47], 32, 1, 32, [
    ⟨0x4641494C53, F.SEC_RNG_FAILS, .ro, 2, false, []⟩,
    ⟨0x5243545F4641494C, F.SEC_RNG_RCT_FAIL, .rc, 2, false, []⟩,
    ⟨0x4150545F4641494C, F.SEC_RNG_APT_FAIL, .rc, 2, false, []⟩,
    ⟨0x5354415445, F.SEC_RNG_STATE, .ro, 2, false, []⟩]⟩

/-- All objects. -/
def objects : List ObjDef :=
  [objNRL_ID, objNRL_POS, objNRL_STATE, objNRL_CTRL, objNRL_CYCLE, objNRL_CINCH_DELAY_A, objNRL_CINCH_DELAY_B, objNRL_TIME] ++
  [objNRL_PROBE_A, objNRL_PROBE_B, objNRL_PROBE_ID, objNRL_FSEQ_HIGH, objNRL_PORTA_ERR, objNRL_PORTA_LINK, objNRL_PORTB_ERR, objNRL_PORTB_LINK] ++
  [objNRL_CINCH_CNT, objNRL_CINCH_ERR, objCLK_STATUS, objCLK_START, objCLK_EVENTS, objCLK_LOST_CYCLES, objCLK_PARK_TIME, objMBX_QUEUES] ++
  [objMBX_USE, objMBX_CFG, objMBX_SES, objIMG_STATUS, objIMG_STITCH, objIMG_PINS, objIMG_UPMAP, objIMG_SUBS] ++
  [objSCN_MODE, objSCN_T, objSCN_TSTAT, objSCN_CFG, objSCN_RETAIN, objPRG_BANKA, objPRG_BANKB, objPRG_ACT] ++
  [objPRG_CFG, objPLT_LANE, objPLT_CFG, objPLT_COUNT, objPLT_PAIR, objPLT_PSTATE, objPLT_MIRROR, objANG_AI] ++
  [objANG_AD, objANG_PERIOD, objANG_CAPPOS, objANG_STATUS, objANG_EV, objANG_FC, objANG_BOOST_PLAN, objDG_CH] ++
  [objDG_BOOST, objDG_CNT, objDG_CHSTAT, objDG_GROUP, objDG_GSTAT, objDG_COS, objAG_CH, objAG_CHSTAT] ++
  [objAG_GROUP, objAG_GSTAT, objAG_POS, objAG_CS, objAG_CONV, objPPR_CH, objPPR_LIN, objPPR_STAT] ++
  [objPPR_WIN, objPPR_WINSTAT, objSTO_STATUS, objSTO_COUNT, objSTO_CRING, objSTO_INCONS, objREC_STAT, objPWR_STATUS] ++
  [objPWR_HOLDUP, objPWR_CFG, objPWR_PLAN, objPWR_SENSE, objPWR_FORECAST, objPWR_DOMAINS, objPWR_HIST, objINT_SUP] ++
  [objINT_COS, objINT_GRP, objINT_WIN, objINT_SYS, objINT_STATE, objINT_STORMED, objINT_LATCH, objINT_CFG] ++
  [objINT_STAT, objRTC_TIME, objRTC_DATE, objRTC_ALARM, objRTC_WAKE, objRTC_STATUS, objRTC_TRIM, objRTC_PWRON] ++
  [objRTC_BKP, objSEC_STATUS, objSEC_FW, objSEC_RNG]

end Sys2Proof.Machine
end

