-- ==== Sys2Proof/Machine/StoreOps.lean ====
section
/-!
DEFINITION. Shared operations of the non-volatile store (R441–R450): two-slot records and their resolution, the energy check,
and of the recorder: flushing (R457), the reserve (R459) and what a reset leaves of the buffer (R460).
-/

namespace Sys2Proof.Machine

/-! ### The energy check and the store's state -/

/-- The store header cannot be used (R455). -/
def State.storeFault (s : State) : Bool := decide (s.rd F.STO_STATUS_STATE = 2)

/-- A unit may be written now (R441). -/
def State.storeOk (s : State) : Bool := s.hold30 && !s.storeFault

/-! ### Two-slot records -/

/-- Kinds of STO-5; role keys, which STO-5 does not number, are kind 16 (assumption log 29). -/
def kCONFIG : Nat := 1
def kSETCOMMIT : Nat := 2
def kCALIB : Nat := 3
def kSLICEMAP : Nat := 4
def kRETAIN : Nat := 5
def kACTIVATION : Nat := 6
def kCLEARMARK : Nat := 7
def kEPOCH : Nat := 8
def kBANKLOAD : Nat := 9
def kKEY : Nat := 16

/-- The record of a kind and index as its two slots hold it. -/
def State.stoRec (s : State) (kind index : Nat) : StoRec :=
  (s.sto.recs.find? fun r => decide (r.kind = kind) && decide (r.index = index)).getD ⟨kind, index, none, none⟩

/-- What a record resolves to (STO-4). -/
inductive Resolved
  | slot (n : Nat) (x : Slot)
  | inconsistent
  | absent
deriving DecidableEq, Repr

/-- A slot usable by R445: `set` bounds the SETGEN of a CONFIG record. -/
def usable (kind set : Nat) (x : Option Slot) : Option Slot :=
  match x with
  | some y => if y.usable ∧ (kind ≠ kCONFIG ∨ y.setgen ≤ set) then some y else none
  | none => none

/-- STO-4. -/
def resolveSlots (a b : Option Slot) : Resolved :=
  match a, b with
  | some x, none => .slot 0 x
  | none, some y => .slot 1 y
  | none, none => .absent
  | some x, some y =>
    if x.gen < y.gen then .slot 1 y
    else if y.gen < x.gen then .slot 0 x
    else if x.data = y.data then .slot 0 x
    else .inconsistent

/-- The committed SETGEN (STO-5 kind 2); none where that record is INCONSISTENT, 0 where it is ABSENT. -/
def State.setGen (s : State) : Option Nat :=
  let r := s.stoRec kSETCOMMIT 0
  match resolveSlots (usable kSETCOMMIT 0 r.s0) (usable kSETCOMMIT 0 r.s1) with
  | .slot _ x => some (leAt x.data 0 4)
  | .absent => some 0
  | .inconsistent => none

/-- The resolution of a record; with an INCONSISTENT SETCOMMIT every CONFIG record is INCONSISTENT. -/
def State.resolve (s : State) (kind index : Nat) : Resolved :=
  let r := s.stoRec kind index
  match s.setGen with
  | none =>
    if kind = kCONFIG then (if r.s0.isNone ∧ r.s1.isNone then .absent else .inconsistent)
    else resolveSlots (usable kind 0 r.s0) (usable kind 0 r.s1)
  | some g => resolveSlots (usable kind g r.s0) (usable kind g r.s1)

/-- The content of a record, when it has one. -/
def State.recData (s : State) (kind index : Nat) : Option (List Nat) :=
  match s.resolve kind index with
  | .slot _ x => some x.data
  | _ => none

/-- The slots of a record change. -/
def putRec (s : State) (r : StoRec) : State :=
  let l := s.sto.recs.filter fun x => !(decide (x.kind = r.kind) && decide (x.index = r.index))
  { s with sto := { s.sto with recs := l ++ [r] } }

/-- The number of INCONSISTENT records (STO-11). -/
def inconsRegs (s : State) : State := s.wr F.STO_STATUS_INCONS s.sto.incons.length

/-- A record is or is no longer INCONSISTENT. -/
def setIncons (s : State) (key : Nat × Nat) (b : Bool) : State :=
  let l := s.sto.incons.filter fun p => decide (p ≠ key)
  inconsRegs { s with sto := { s.sto with incons := if b then l ++ [key] else l } }

/-- The key of a record that is no CONFIG record. -/
def inconsKey (kind index : Nat) : Nat × Nat := (65536 + kind, index)

/-- A record is written (R444): the generation after the newest usable one, into the other slot; of two usable slots of one
generation slot 0 is written. -/
def writeRec (s : State) (kind index setgen : Nat) (data : List Nat) : State :=
  let r := s.stoRec kind index
  let x (g : Nat) : Option Slot := some ⟨g, setgen, slice data 0 ((data.length + 7) / 8 * 8), true⟩
  let set := s.setGen.getD (2 ^ 32)
  let r := match usable kind set r.s0, usable kind set r.s1 with
    | some a, some b => if b.gen < a.gen then { r with s1 := x (a.gen + 1) } else { r with s0 := x (b.gen + 1) }
    | some a, none => { r with s1 := x (a.gen + 1) }
    | none, some b => { r with s0 := x (b.gen + 1) }
    | none, none => { r with s0 := x 1 }
  let s := putRec s r
  if kind = kCONFIG then s else setIncons s (inconsKey kind index) false

/-! ### Configuration objects -/

/-- The field of a row in object index `i`, entry at bit `e`, packed; RW and ST fields are what the store keeps. -/
def kept (r : FieldRow) : Bool := decide (r.acc = .rw) || decide (r.acc = .st)

/-- The object holds a field that the store can keep (R448). -/
def storable (d : ObjDef) : Bool := d.fields.any kept

/-- How many objects a path with an index stands for. -/
def objCount (d : ObjDef) : Nat :=
  d.path.foldl (fun n g => match g with
    | .lit _ => n
    | .idx _ _ c => n * c) 1

/-- The internal number of object `i` of `d`: the objects of the map counted through (assumption log 29). -/
def objNumber (d : ObjDef) (i : Nat) : Nat :=
  ((objects.takeWhile fun x => decide (x.id ≠ d.id)).map objCount).foldl (· + ·) 0 + i

/-- The stored form of an object: its kept fields at their places. -/
def objBytes (s : State) (d : ObjDef) (i : Nat) : List Nat :=
  let entry (k : Nat) : Nat :=
    (d.fields.map fun r => if kept r then s.rdE r.fld i (k * d.stride) * 2 ^ (r.fld.lo + k * d.stride) else 0).foldl
      (· + ·) 0
  leBytes ((d.width + 7) / 8) (((List.range d.rep).map entry).foldl (· + ·) 0)

/-! ### The recorder's flush -/

/-- Occupancy and its interrupt sources. -/
def bufRegs (s : State) : State := hostSync 37 (hostSync 5 (s.wr F.REC_STAT_BUFCNT s.bufCnt))

/-- The whole buffer is written in RSEQ order, each record into its slot (R457); refused while HOLD is below 30 V, the
header cannot be used or NEXT is not yet set. Refused events are then reported (R458) and flushed with it. -/
def flushNow (s : State) : State :=
  if !s.storeOk ∨ !s.sto.nextSet then s
  else
    let out (s : State) : State :=
      let log := s.sto.buf.foldl (fun t r => match r.seq with
        | some n => Table.insert (Table.drop t (n % 32768)) (n % 32768) ⟨r, false, false⟩
        | none => t) s.sto.logRing
      { s with sto := { s.sto with logRing := log, buf := [], flushDue := 0 } }
    let s := out s
    if s.sto.droppedNow = 0 then bufRegs s
    else
      let n := s.sto.droppedNow
      let s := { s with sto := { s.sto with droppedNow := 0 } }
      bufRegs (out (setLatch 23 (createRec s Ev.DROPPED (leBytes 4 n))))

/-- The flush before a reset (R459): once it has emptied the buffer ring 66 closes the log, and nothing is recorded after
it. -/
def closingFlush (s : State) : State :=
  let s := flushNow s
  if s.sto.buf.isEmpty ∧ s.storeOk ∧ s.sto.nextSet then
    let s := ringUpdate s 66 (s.rd F.REC_STAT_NEXT + 2 ^ 32)
    { s with sto := { s.sto with sealed := true } }
  else s

/-- Buffered records are abandoned: hardware writes the loss word (R460). -/
def abandonBuffer (s : State) : State :=
  match s.sto.buf.find? fun r => r.seq.isSome with
  | some r => { s with sto := { s.sto with
      loss := some (r.seq.getD 0, (s.sto.buf.filter fun r => r.seq.isSome).length), buf := [] } }
  | none => { s with sto := { s.sto with buf := [] } }

/-- A count of modulo 2^32 that lies further on. -/
def later32 (a b : Nat) : Nat := if after32 a b then a else b

/-- OLDEST (R462). -/
def State.oldestRec (s : State) : Nat :=
  let n := (s.rd F.REC_STAT_NEXT + 2 ^ 32 - 32768) % 2 ^ 32
  match s.recData kCLEARMARK 0 with
  | some d => later32 (leAt d 0 4) n
  | none => n

/-- BUFFIRST (R462). -/
def State.bufFirst (s : State) : Nat :=
  match s.sto.buf.find? fun r => r.seq.isSome with
  | some r => r.seq.getD 0
  | none => s.rd F.REC_STAT_NEXT

/-- REC.STAT as a read finds it. -/
def recRegs (s : State) : State :=
  if s.sto.nextSet then (s.wr F.REC_STAT_OLDEST s.oldestRec).wr F.REC_STAT_BUFFIRST s.bufFirst else s

/-- What a waiting value of counter ring `k` writes: program rings hold the D word sign-extended (STO-6). -/
def pendingValue (k v : Nat) : Nat := if k < 64 then unsgn 48 (sgn 32 v) else v

/-- Every pending counter ring slot is written while the energy check passes (R442). -/
def flushRings (s : State) : State :=
  if !s.storeOk then s
  else
    s.sto.ringPend.foldl (fun s e => ringUpdate s e.1 (pendingValue e.1 e.2)) { s with sto := { s.sto with ringPend := [] } }

/-- Ring `k` takes `v` now, or when the energy check next passes (STO-2). -/
def ringSoon (s : State) (k v : Nat) : State :=
  if s.storeOk then ringUpdate { s with sto := { s.sto with ringPend := Table.drop s.sto.ringPend k } } k v
  else { s with sto := { s.sto with ringPend := Table.insert (Table.drop s.sto.ringPend k) k v } }

/-- A write ended by the energy check is counted and logged (STO-2, STO-12). -/
def writeAbandoned (s : State) (kind index opcode : Nat) : State :=
  log Ev.WRITE_ABANDONED (leBytes 2 kind ++ leBytes 2 index ++ leBytes 2 opcode) (s.inc F.STO_COUNT_ABANDONED)

/-! ### Keys (R118, R537, R538) -/

/-- A role's key: the stored one, or for CUSTODIAN the commissioning key of a new module. -/
def State.roleKey (s : State) (role : Nat) : Option (List Nat) :=
  match s.recData kKEY role with
  | some d => if d.all fun b => decide (b = 0) then none else some (slice d 0 32)
  | none => if role = 4 then some (leBytes 32 Config.commissioningKey) else none

/-- The commissioning key is in force. -/
def State.commissioning (s : State) : Bool := (s.recData kKEY 4).isNone

/-- KEYS and COMMISSIONING of SEC.STATUS follow. -/
def keyRegs (s : State) : State :=
  let m := ((List.range 4).map fun k => b2n (s.roleKey (k + 1)).isSome * 2 ^ k).foldl (· + ·) 0
  (s.wr F.SEC_STATUS_KEYS m).wr F.SEC_STATUS_COMMISSIONING (b2n s.commissioning)

end Sys2Proof.Machine
end

