-- ==== Sys2Proof/Machine/MbxCore.lean ====
section
/-!
DEFINITION. The frame of every mailbox command: slots (R107), the checks of MBX-5, repeats (R123), answers (R109) and the close
of a session (R126).
-/

namespace Sys2Proof.Machine

/-! ### A command -/

/-- The command at the front of the ring with the fields of MBX-2. -/
structure Cmd where
  session : Nat
  opcode : Nat
  clseq : Nat
  arg : Nat
  mac : List Nat
  head : List Nat
  payload : List Nat
  formOk : Bool
  usb : Bool

/-- The fields of a command as it stands in the ring, and step 1 of MBX-5. -/
def parse (r : RingCmd) : Cmd :=
  let b := r.bytes
  let plen := leAt b 10 2
  let n := r.nslot
  let op := leAt b 2 2
  let ses := leAt b 0 2
  { session := ses, opcode := op, clseq := leAt b 4 4, arg := leAt b 12 4, mac := slice b 16 8, head := slice b 0 16
    payload := slice (b.drop 24) 0 plen, usb := r.usb
    formOk := !r.broken && decide (1 ≤ n) && decide (n ≤ 16) && decide (leAt b 9 1 = 0) &&
      decide (plen ≤ 40 + 64 * (n - 1)) && (decide (n < 2) || decide (64 * (n - 2) + 40 < plen)) &&
      (if op = 1 then decide (ses = 0xFFFF) else decide (ses < 256)) }

/-- The commands of a mailbox body with `n` slots, in slot order (R107). -/
def splitSlots : Nat → Nat → Bool → List Nat → List RingCmd
  | 0, _, _, _ => []
  | k + 1, n, usb, b =>
    if n = 0 then []
    else
      let m := leAt b 8 1
      let use := if m = 0 ∨ 16 < m then 1 else min m n
      ⟨m, slice b 0 (64 * use), usb, decide (n < m)⟩ :: splitSlots k (n - use) usb (b.drop (64 * use))

/-- Slots a command occupies in the ring. -/
def RingCmd.slots (r : RingCmd) : Nat := r.bytes.length / 64

/-- The mailbox takes commands: its firmware runs, or the boot ROM answers (R99, R529); the completion queue has room for 66 records (R113), no SES_OPEN waits
for its nonce (R119), and no supervisor handover is due (R532). -/
def State.mbxReady (s : State) : Bool :=
  s.clk.supv && (s.clk.fwRunning || s.clk.startFailed || s.is F.SEC_STATUS_RECOVERY) && decide (s.mbx.cq.length + 66 ≤ 2048) &&
    s.mbx.waitOpen.isNone && !(s.sec.acts.any fun a => decide (a.target = 0))

/-! ### Answers -/

/-- What a command's checks and execution come to: an immediate response, one with an effect that follows it, the refusal of a
long operation after step 9, or an accepted long operation and what starts it. -/
inductive Ans
  | imm (status result : Nat) (data : List Nat)
  | act (status : Nat) (next : State → State)
  | late (status : Nat)
  | long (op : LongOp) (start : Nat → State → State)

/-- A refusal. -/
def refuse (s : State) (code : Nat) : State × Ans := (s, .imm code 0 [])

/-- A command done. -/
def done (s : State) : State × Ans := (s, .imm Code.OK 0 [])

/-- An immediate response enters the queue. -/
def answer (s : State) (c : Cmd) (r : Resp) (rep : Bool) : State :=
  placeRecs s 1 rep c.session c.clseq r.opcode r.status r.handle r.cinch r.result r.data c.usb

/-- A response to this command now. -/
def respNow (s : State) (c : Cmd) (status handle result : Nat) (data : List Nat) : Resp :=
  ⟨status, handle, s.cinchNow, result, data, c.opcode⟩

/-- A refusal that leaves no record (steps 1–3). -/
def answerOnly (s : State) (c : Cmd) (status : Nat) : State := answer s c (respNow s c status 0 0 []) false

/-- The session's record of a sequence number (R123). -/
def record (s : State) (no clseq : Nat) (r : Resp) : State :=
  match s.session? no with
  | none => s
  | some x =>
    let d := (clseq + 2 ^ 32 - x.high) % 2 ^ 32
    let high := if 1 ≤ d ∧ d < 2 ^ 31 then clseq else x.high
    let seen := (x.seen ++ [(clseq, r)]).filter fun e => decide ((high + 2 ^ 32 - e.1) % 2 ^ 32 ≤ 63)
    putSession s { x with high := high, seen := seen }

/-- The front command leaves the ring. -/
def popCmd (s : State) : State := queueRegs { s with mbx := { s.mbx with ring := s.mbx.ring.tail } }

/-! ### The order of checks (MBX-5) -/

/-- The command code has the right MAC (R121); SES_AUTH carries none. -/
def macOk (c : Cmd) (x : Session) : Bool :=
  decide (c.opcode = 2) || decide (slice (Crypto.hmac x.ks (c.head ++ c.payload)) 0 8 = c.mac)

/-- Steps 2 and 3: the refusal, if any. A session belongs to its path (R521). -/
def checkSession (s : State) (c : Cmd) : Nat × Option Session :=
  match s.session? c.session with
  | none => (Code.NO_SESSION, none)
  | some x =>
    if x.usb ≠ c.usb then (Code.NO_SESSION, none)
    else if x.state = 1 ∧ c.opcode ≠ 2 then (Code.AUTH_PENDING, none)
    else if x.state = 2 ∧ c.opcode = 2 then (Code.NO_SESSION, none)
    else if !macOk c x then (Code.BAD_MAC, none)
    else (Code.OK, some x)

/-- The roots CLK, SEC and REC as the first characters of a path. -/
def romRoots : List (List Nat) := [[0x43, 0x4C, 0x4B, 0x2E], [0x53, 0x45, 0x43, 0x2E], [0x52, 0x45, 0x43, 0x2E]]

/-- The commands the boot ROM serves in the recovery state (R529). -/
def romServes (c : Cmd) : Bool :=
  [1, 2, 3, 0x80, 0x90, 0x91, 0x92, 0x93, 0xF0].contains c.opcode ||
    (decide (c.opcode = 0x20) && romRoots.contains (slice c.payload 1 4))

/-- What a command does once its number, opcode and role are checked: it answers at once, or step 9 takes a handle for it. -/
def runCmd (c : Cmd) (x : Session) (h : Cmd → Session → State → State × Ans) (s : State) : State :=
  let r := h c x s
  let refused (st : Nat) : State :=
    let a := respNow s c st 0 0 []
    record (answer s c a false) c.session c.clseq a
  if s.is F.SEC_STATUS_RECOVERY && !romServes c then refused Code.FW_INVALID
  else match r.2 with
  | .imm st res data =>
    let a := respNow r.1 c st 0 res data
    record (answer r.1 c a false) c.session c.clseq a
  | .act st next =>
    let a := respNow r.1 c st 0 0 []
    next (record (answer r.1 c a false) c.session c.clseq a)
  | .late st =>
    if x.limit ≤ s.held x.no then refused Code.HANDLES_EXHAUSTED
    else if 2048 ≤ s.mbx.hdls.length then refused Code.POOL_EXHAUSTED
    else refused st
  | .long op start =>
    if x.limit ≤ s.held x.no then refused Code.HANDLES_EXHAUSTED
    else if 2048 ≤ s.mbx.hdls.length then refused Code.POOL_EXHAUSTED
    else
      let n := allocHdl r.1 c.session c.clseq c.opcode op c.usb
      let a := respNow n.1 c Code.ACCEPTED n.2 0 []
      start n.2 (record (answer n.1 c a false) c.session c.clseq a)

/-- Steps 4 to 6 for a command of session `x`; `role` is the least role, none for an unknown opcode. -/
def checkSeq (c : Cmd) (x : Session) (role : Option Nat) (h : Cmd → Session → State → State × Ans) (s : State) : State :=
  let d := (c.clseq + 2 ^ 32 - x.high) % 2 ^ 32
  let old := x.seen.find? fun e => decide (e.1 = c.clseq)
  let window := decide (d = 0) || decide (2 ^ 32 - 63 ≤ d)
  let ahead := decide (1 ≤ d) && decide (d < 2 ^ 31)
  let refused (st : Nat) : State :=
    let a := respNow s c st 0 0 []
    record (answer s c a false) c.session c.clseq a
  if c.clseq = 0 then answerOnly s c Code.STALE_SEQ
  else
    match window, old with
    | true, some e => answer s c e.2 true
    | _, _ =>
      if ahead || decide (2 ^ 32 - 63 ≤ d) then
        match role with
        | none => refused Code.BAD_OPCODE
        | some m => if x.role < m then refused Code.ROLE_DENIED else runCmd c x h s
      else answerOnly s c Code.STALE_SEQ

/-- A taken command of an opcode other than SES_OPEN (MBX-5). The check of its MAC uses the security unit. -/
def takeCmd (c : Cmd) (role : Option Nat) (h : Cmd → Session → State → State × Ans) (s : State) : State :=
  if s.clk.startFailed then answerOnly s c Code.START_FAILED
  else if !c.formOk then answerOnly s c Code.BAD_LENGTH
  else
    match checkSession s c with
    | (_, some x) =>
      let x := { x with lastXt := s.time.xt }
      let s := { s with sec := { s.sec with unitAt := some s.time.xt } }
      checkSeq c x role h (putSession s x)
    | (st, none) =>
      let s := if st = Code.BAD_MAC then
          log Ev.BAD_MAC (leBytes 2 c.session ++ leBytes 2 c.opcode ++ leBytes 4 c.clseq) (s.inc F.MBX_USE_BAD_MAC)
        else s
      answerOnly s c st

/-- The command at the front of the ring when the mailbox can take it. -/
def State.front (s : State) : Option Cmd := if s.mbxReady then s.mbx.ring.head?.map parse else none

/-- A command of opcode `opc` is taken when it stands first in the ring. -/
def mbxRun (opc role : Nat) (h : Cmd → Session → State → State × Ans) (s : State) : State :=
  match s.front with
  | some c => if c.opcode = opc then takeCmd c (some role) h (popCmd s) else noEffect s
  | none => noEffect s

/-- A payload of `n` bytes whose bytes `res` to `res + k - 1` are reserved and 0 (step 7; assumption log 31). -/
def payOk (c : Cmd) (n res k : Nat) : Bool :=
  decide (c.payload.length = n) && (slice c.payload res k).all fun b => decide (b = 0)

/-! ### Start-up windows (CLK-9) -/

/-- What a command would do, as CLK-9 asks: `plan` for MODE_SET to RUN or HOLD and PRG_ACTIVATE, `lanes` for PRG_* and
MODE_SET, `mode` for MODE_SET, the field groups it touches (DG 0–7, AG 8–11), whether it writes the store, whether it is
MODE_SET to RUN. -/
structure Win where
  plan : Bool := false
  mode : Bool := false
  lanes : Bool := false
  groups : Nat := 0
  store : Bool := false
  run : Bool := false

/-- The loaded field groups as one mask. -/
def State.loadedMask (s : State) : Nat := s.rd F.CLK_START_DG_LOADED + 256 * s.rd F.CLK_START_AG_LOADED

/-- The refusal of R529, or of CLK-9: the first row that applies (R102). -/
def State.window (s : State) (w : Win) : Option Nat :=
  if s.sec.laneBad && w.lanes && (w.run || !w.mode) then some Code.FW_INVALID
  else if w.groups &&& s.sec.groupBad ≠ 0 then some Code.FW_INVALID
  else if w.plan && !(s.is F.CLK_START_PLAN_DONE) then some Code.PLAN_PENDING
  else if w.lanes && !(s.is F.CLK_START_LANES_LOADED) then some Code.LANES_LOADING
  else if w.groups &&& s.loadedMask ≠ w.groups then some Code.GROUP_LOADING
  else if w.store && !s.hold30 then some Code.HOLD_LOW
  else if w.run && !(s.is F.CLK_START_HOLD_38) then some Code.HOLDUP_CHARGING
  else if w.run && !s.timed then some Code.NOT_TIMED
  else if w.run && (s.clk.limited || s.is F.RTC_STATUS_XTAL_SUBST) then some Code.XTAL_FAULT
  else if s.clk.startFailed then some Code.START_FAILED
  else none

/-- Step 8 of MBX-5, then the rest. -/
def gate (w : Win) (s : State) (k : State × Ans) : State × Ans :=
  match s.window w with
  | some code => refuse s code
  | none => k

/-- Step 8 with R455 behind it for a command that writes the store. -/
def gateStore (w : Win) (s : State) (k : State × Ans) : State × Ans :=
  gate { w with store := true } s (if s.storeFault then refuse s Code.STORE_FAULT else k)

end Sys2Proof.Machine
end

