-- ==== Sys2Proof/Machine/FwOps.lean ====
section
/-!
DEFINITION. Shared operations on firmware: slots and their checks (R522–R527, SEC-4), the end of an activation (R531), and the lanes'
part of a microcode update (R536).
-/

namespace Sys2Proof.Machine

/-! ### Slots (SEC-2) -/

/-- Offset of the slots of target `t` in their partition, and their size [byte]. -/
def fwOff : Nat → Nat
  | 0 => 0
  | 1 => 0x100000
  | 2 => 0x120000
  | _ => 0x140000
def fwSize : Nat → Nat
  | 0 => 0x100000
  | 1 => 0x20000
  | 2 => 0x20000
  | _ => 0x80000

/-- Where the store holds slot `k` (0 A, 1 B) of target `t`. -/
def fwBase (t k : Nat) : Nat := 0x200000 * k + fwOff t

/-- `n` bytes of a slot from offset `o` on. -/
def State.fwBytes (s : State) (t k o n : Nat) : List Nat :=
  let a := fwBase t k + o
  denseFrom n a (memPart s.sto.fwSlots a (a + n))

/-- Slot `k` of target `t` still holds the image of delivery, whose bytes the spec does not give (assumption log 45). -/
def State.factoryAt (s : State) (t k : Nat) : Bool := decide (k = 0) && s.sto.factory.testBit t

/-- The value of counter ring `k` with one that waits to be written (R442). -/
def State.ringLatest (s : State) (k : Nat) : Nat := Table.find (s.ringValue k) s.sto.ringPend k

/-- The selected slot of target `t` (R522), and SEC_MIN (R524). -/
def State.fwSel (s : State) (t : Nat) : Nat := b2n ((s.ringLatest 84).testBit t)
def State.secMin (s : State) (t : Nat) : Nat := max 1 (s.ringLatest (80 + t))

/-- VERSION, SECVER and ABI of the image in a slot (SEC-3). -/
def State.fwVersion (s : State) (t k : Nat) : Nat :=
  if s.factoryAt t k then Config.factory t 0 % 2 ^ 32 else leNat (s.fwBytes t k 8 4)
def State.fwSecver (s : State) (t k : Nat) : Nat :=
  if s.factoryAt t k then Config.factory t 1 % 2 ^ 32 else leNat (s.fwBytes t k 12 4)
def State.fwAbi (s : State) (t k : Nat) : Nat :=
  if s.factoryAt t k then Config.factory t 2 % 2 ^ 16 else leNat (s.fwBytes t k 20 2)

/-- Header bytes have the form of SEC-3 for target `t`; `size` is the SIZE staged. -/
def fwForm (t : Nat) (size : Option Nat) (h : List Nat) : Bool :=
  let plen := leAt h 16 4
  decide (leAt h 0 4 = 0x46574B53) && decide (leAt h 4 2 = 1) && decide (leAt h 6 1 = t) && decide (leAt h 7 1 = 0) &&
    decide (1 ≤ leAt h 8 4) && decide (1 ≤ leAt h 12 4) && decide (plen % 4 = 0) && decide (4 ≤ plen) &&
    decide (plen + 128 ≤ fwSize t) && decide (leAt h 22 2 = 0) && decide (leAt h 56 8 = 0) &&
    (match size with
      | some n => decide (128 + plen = n)
      | none => true)

/-- The first step of SEC-4 that a slot fails; 0 when it passes all. -/
def State.fwCheck (s : State) (t k : Nat) (size : Option Nat) : Nat :=
  if s.factoryAt t k then 0
  else
    let h := s.fwBytes t k 0 128
    if !fwForm t size h then 1
    else if Crypto.sha256 (s.fwBytes t k 128 (leAt h 16 4)) ≠ slice h 24 32 then 2
    else if !Crypto.verify (Config.fwKeyX, Config.fwKeyY) (slice h 0 64) (leAt h 64 32) (leAt h 96 32) then 3
    else if leAt h 12 4 < s.secMin t then 4
    else 0

/-- The status of a failing step. -/
def fwStatus : Nat → Nat
  | 1 => Code.FW_FORMAT
  | 2 => Code.FW_DIGEST
  | 3 => Code.FW_SIGNATURE
  | _ => Code.FW_ROLLBACK

/-- The state of a slot by its content (R527): 0 EMPTY, 2 VALID, 3 INVALID. -/
def State.fwSlotSt (s : State) (t k : Nat) : Nat :=
  if s.factoryAt t k then 2
  else if (s.fwBytes t k 0 128).all fun b => decide (b = 0) then 0
  else if s.fwCheck t k none = 0 then 2 else 3

/-! ### SEC.FW (SEC-8) -/

/-- A field of the entry of target `t`. -/
def putFw (s : State) (f : Fld) (t v : Nat) : State := s.wrE f 0 (128 * t) v

/-- The unselected slot of target `t` is in state `st`. -/
def putUnsel (s : State) (t st : Nat) : State :=
  putFw (putFw s F.SEC_FW_UNSEL t st) F.SEC_FW_VERSION_UNSEL t (if st = 2 then s.fwVersion t (1 - s.fwSel t) else 0)

/-- Selection and SEC_MIN as they stand. -/
def selRegs (s : State) (t : Nat) : State := putFw (putFw s F.SEC_FW_SEL t (s.fwSel t)) F.SEC_FW_SEC_MIN t (s.secMin t)

/-- Selection, SEC_MIN and the unselected slot's state by its content. -/
def fwRegs (s : State) (t : Nat) : State := putUnsel (selRegs s t) t (s.fwSlotSt t (1 - s.fwSel t))

/-- The image running is that of slot `k`. -/
def fwRuns (s : State) (t k : Nat) : State :=
  putFw (putFw s F.SEC_FW_VERSION t (s.fwVersion t k)) F.SEC_FW_ABI t (s.fwAbi t k)

/-! ### Activations (R530, R531) -/

/-- The activation of target `t`. -/
def State.fwAct (s : State) (t : Nat) : Option FwAct := s.sec.acts.find? fun a => decide (a.target = t)

/-- The activation of `a.target` changes, or ends. -/
def putFwAct (s : State) (a : FwAct) : State :=
  { s with sec := { s.sec with acts := s.sec.acts.map fun x => if x.target = a.target then a else x } }
def dropFwAct (s : State) (t : Nat) : State :=
  { s with sec := { s.sec with acts := s.sec.acts.filter fun x => decide (x.target ≠ t) } }

/-- An activation ends: with OK and FW_AT_RESET ring 84 and SEC_MIN are written (R531); FW_ACTIVATED and the FIN. -/
def finishFw (s : State) (a : FwAct) (status result : Nat) : State :=
  let t := a.target
  let k := 1 - s.fwSel t
  let v := s.fwVersion t k
  let s := dropFwAct s t
  let s := if status = Code.OK then fwRuns s t k else s
  let s := if status = Code.OK ∨ status = Code.FW_AT_RESET then
      let s' := ringSoon s (80 + t) (max (s.secMin t) (s.fwSecver t k))
      fwRegs (ringSoon s' 84 (setBits (s'.ringLatest 84) t t k)) t
    else s
  finNum (log Ev.FW_ACTIVATED ([t] ++ leBytes 2 status ++ [0] ++ leBytes 4 v) s) a.handle status result

/-! ### Lane microcode (R536) -/

/-- The microcode update that lane `k` takes part in now. -/
def State.ucode (s : State) (k : Nat) : Option FwAct :=
  match s.fwAct 1 with
  | some a => if a.part = k ∧ a.phase ≠ 0 then some a else none
  | none => none

/-- Lane `k` still loads microcode, for 600 µs. -/
def State.ucodeLoading (s : State) (k : Nat) : Bool :=
  match s.ucode k with
  | some a => decide (s.time.now < a.from_ + 600000)
  | none => false

/-- Lane `k` is tested under new microcode. -/
def State.ucodeRetests (s : State) (k : Nat) : Bool :=
  match s.ucode k with
  | some a => decide (a.phase = 1)
  | none => false

/-- A failed test of new microcode: a second one makes the lane reload the old. -/
def ucodeFailed (s : State) (k : Nat) : State :=
  match s.ucode k with
  | some a => if a.tests = 0 then putFwAct s { a with tests := 1 }
    else putFwAct s { a with phase := 3, from_ := s.time.now }
  | none => s

/-- Lane `k` does not come back: the update ends. -/
def ucodeLost (s : State) (k : Nat) : State :=
  match s.ucode k with
  | some a => finishFw s a Code.FW_LANE_FAIL 0
  | none => s

/-- Lane `k` votes again: with the old microcode the update has failed, else the next lane follows or it is done. -/
def ucodeJoined (s : State) (k : Nat) : State :=
  match s.ucode k with
  | none => s
  | some a =>
    if a.phase = 3 then finishFw s a Code.FW_LANE_FAIL 0
    else if k = 2 then finishFw s a Code.OK 0
    else putFwAct s { a with part := k + 1, phase := 0, tests := 0, from_ := s.time.now }

end Sys2Proof.Machine
end

