-- ==== Sys2Proof/Machine/ProgramOps.lean ====
section
/-!
DEFINITION. Shared operations on program banks: relocation and carry-over (R238, R239, R252), the swap (R246, R247, R251–R253),
deferred releases (R249, R250), and the bank registers.
-/

namespace Sys2Proof.Machine

/-! ### Banks and their registers -/

/-- The state field of a bank, and the other fields of its object. -/
def bankFld (k : Nat) (f : Fld) : Fld := { f with obj := if k = 0 then F.objPRG_BANKA else F.objPRG_BANKB }

/-- The state of bank `k` (OED-1). -/
def State.bankSt (s : State) (k : Nat) : Nat := s.rd (bankFld k F.PRG_BANKA_STATE)

/-- Bank `k` takes a state. -/
def setBankSt (s : State) (k v : Nat) : State := s.wr (bankFld k F.PRG_BANKA_STATE) v

/-- Bank `k` holds `b`, or nothing; its object shows it (OED-10). -/
def putBank (s : State) (k : Nat) (b : Option Bank) : State :=
  let s := { s with prg := if k = 0 then { s.prg with a := b } else { s.prg with b := b } }
  let x := b.getD {}
  let w (s : State) (f : Fld) (v : Nat) : State := s.wr (bankFld k f) v
  let s := w (w (w s F.PRG_BANKA_PROGID x.progId) F.PRG_BANKA_BUILD x.build) F.PRG_BANKA_PREV_BUILD x.prevBuild
  let s := w (w s F.PRG_BANKA_CODELEN x.codeLen) F.PRG_BANKA_POOLLEN x.poolLen
  w (w s F.PRG_BANKA_NINST x.insts.length) F.PRG_BANKA_NRELOC x.relocs.length

/-- Bank `k` is EMPTY. -/
def emptyBank (s : State) (k : Nat) : State := setBankSt (putBank s k none) k 0

/-! ### Relocation and carry-over -/

/-- Words a relocation entry writes, by address and value (R239). -/
def relocWords (m : Memory) (r : Reloc) : List (Nat × Nat) :=
  (List.range r.count).map fun i => (4 * (r.new + i), if r.op = 0 then memGet m (4 * (r.old + i)) 4 else 0)

/-- An area relocated: every source word is read from the old area. -/
def relocArea (rs : List Reloc) (area : Nat) (m : Memory) : Memory :=
  ((rs.filter fun r => decide (r.area = area)).flatMap (relocWords m)).foldl (fun x w => memSet x w.1 4 w.2) m

/-- Instances carried over by ID (R252). -/
def carryInst (old new : Bank) (t : Table Inst) (kind : Nat → Nat) : Table Inst :=
  t.filter fun e => match new.insts.find? fun r => decide (r.id = e.1) with
    | some r => !r.fresh && decide (kind e.1 = r.kind) && old.insts.any fun o => decide (o.id = e.1)
    | none => false

/-- The kind an instance had. -/
def oldKind (b : Bank) (id : Nat) : Nat := match b.insts.find? fun r => decide (r.id = id) with
  | some r => r.kind
  | none => 0

/-- What a lane keeps across the swap: carried over and relocated, or all 0 where the builds do not follow (R253). -/
def swapLane (old : Option Bank) (new : Bank) (l : LaneMem) : LaneMem :=
  match old with
  | some o =>
    if new.prevBuild = o.build then
      { m := relocArea new.relocs 2 l.m, d := relocArea new.relocs 3 l.d
        inst := carryInst o new l.inst (oldKind o), dirty := [] }
    else ⟨[], [], [], []⟩
  | none => ⟨[], [], [], []⟩

/-- The task and retain fields of a bank that becomes active come into force (R236). -/
def takeTables (s : State) (b : Bank) : State :=
  let s := (List.range 64).foldl (fun s k =>
    let t := b.tasks.getD k ⟨0, 0, 0, 0, 0⟩
    (((s.wr F.SCN_T_ENTRY t.entry k).wr F.SCN_T_PERIOD t.period k).wr F.SCN_T_PHASE t.phase k
      |>.wr F.SCN_T_PRIO t.prio k).wr F.SCN_T_SRC t.src k) s
  let s := (List.range 8).foldl (fun s k =>
    let r := b.retain.getD k ⟨0, 0, 0⟩
    ((s.wrE F.SCN_RETAIN_AREA 0 (64 * k) r.area).wrE F.SCN_RETAIN_START 0 (64 * k) r.start).wrE F.SCN_RETAIN_COUNT 0
      (64 * k) r.count) s
  persistReg s

/-- Bank `k` becomes ACTIVE and the other one LOADED. -/
def activateBank (s : State) (k : Nat) : State :=
  let s := match s.prg.active with
    | some j => setBankSt s j 2
    | none => s
  let s := (setBankSt s k 3).wr F.PRG_ACT_ACTIVE k
  takeTables { s with prg := { s.prg with active := some k } } ((s.bank? k).getD {})

/-! ### Timing of the swap -/

/-- SWAP_CYC of a bank (R246). -/
def swapCyc (b : Bank) : Nat := 1200 + (b.relocs.map (·.count)).foldl (· + ·) 0 + 2 * b.insts.length

/-- Lane cycles as nanoseconds at the lane clock in force. -/
def State.cycNs (s : State) (n : Nat) : Nat := (n * 1000 + s.laneMHz - 1) / s.laneMHz

/-- SWAP_TIME of an activation. -/
def State.swapTime (s : State) (a : Act) : Nat := s.cycNs (swapCyc ((s.bank? a.bank).getD {}))

/-- The swap lead (R247). -/
def State.swapLead (s : State) (a : Act) : Nat :=
  if s.paired then 2 * s.swapTime a + 1000 * a.margin + 10000 else s.swapTime a + 1000 * a.margin

/-- The next T0 period boundary after the newest latch. -/
def State.boundaryAhead (s : State) : Nat := s.ring.lastLocal + 1000 * s.rd F.SCN_T_PERIOD 0

/-- The boundary L of an activation: in a pair the latch of its swap cinch. -/
def State.swapL (s : State) (a : Act) : Nat :=
  if s.paired then s.ring.lastLatch + 1000 * s.rd F.NRL_CYCLE_CYCLE * ((a.cinch + 2 ^ 32 - s.ring.cinch) % 2 ^ 32)
  else if a.phase = 1 then a.at_ else s.boundaryAhead

/-- The deadline of an activation (R247; a standby's is L, R259). -/
def State.swapDeadline (s : State) (a : Act) : Nat :=
  if a.standby then s.swapL a
  else if s.paired then s.swapL a - 2 * s.swapTime a - 10000
  else s.swapL a - s.swapTime a

/-- The cinch of the cycle that holds the boundary at `t`. -/
def State.cinchAt (s : State) (t : Nat) : Nat :=
  let c := s.rd F.NRL_CYCLE_CYCLE
  if s.ring.latched then
    if c = 0 then s.ring.cinch else (s.ring.cinch + (t - s.ring.lastLatch) / (1000 * c)) % 2 ^ 32
  else 0

/-! ### The swap -/

/-- The activation changes. -/
def putAct (s : State) (a : Option Act) : State := { s with prg := { s.prg with act := a } }

/-- A PAIR sub-record for the partner (R295). -/
def pairSub (s : State) (ptype : Nat) (body : List Nat) : State :=
  queueSub s 7 s.partnerPos ([ptype, 0, 0, 0] ++ body)

/-- Deferred releases are made in their order on the bank now active; a task whose SRC changed is dropped (R250). -/
def releaseDeferred (s : State) : State :=
  let l := s.prg.deferred
  let s := { s with prg := { s.prg with deferring := false, deferred := [] } }
  l.foldl (fun s x =>
    if s.rd F.SCN_T_SRC x.task ≠ x.src then completeTask (s.incTo F.PRG_ACT_DROPPED 0 1 127) x.task
    else
      let c := freshCtx (s.rd F.SCN_T_ENTRY x.task)
      let x := { x with
        prio := s.rd F.SCN_T_PRIO x.task, lanes := ⟨c, c, c⟩
        s := memPut x.s 0x4B [s.rd F.PRG_ACT_ACTIVE] }
      dispatch { s with scn := { s.scn with waiting := s.scn.waiting ++ [x] } }) s

/-- The swap as one step (R251): the bank, the task and retain fields, instances, M and D; then the deferred releases. It
leaves the record to be written (R255). -/
def makeSwap (s : State) (a : Act) (cinch : Nat) : State :=
  match s.bank? a.bank with
  | none => s
  | some new =>
    let old := s.activeBank
    let s := { s with scn := { s.scn with lanes := s.scn.lanes.map (swapLane old new), intact := false, peak := [] } }
    let s := activateBank s a.bank
    let s := (s.wr F.PRG_ACT_SWAP_CINCH cinch).wr F.PRG_ACT_SWAP_CYC (swapCyc new)
    let s := log Ev.SWAP (leBytes 4 ((old.map (·.build)).getD 0) ++ leBytes 4 new.build) s
    releaseDeferred (putAct s (some { a with phase := 2, cinch := cinch }))

/-- A standby whose swap was not made by L: with SWAPPED received it lags (R260), else it goes on with the old bank. -/
def standbyMissed (s : State) (a : Act) : State :=
  if a.phase = 6 then releaseDeferred ((putAct s (some { a with phase := 7 })).wr F.PRG_ACT_LAGGED 1)
  else releaseDeferred (putAct s (some { a with phase := 8 }))

/-- The latch of a swap cinch in a pair (R259, R260). -/
def latchSwap (s : State) : State :=
  match s.prg.act with
  | none => s
  | some a =>
    if !s.paired ∨ a.cinch ≠ s.ring.cinch then s
    else if a.standby then (if a.phase = 1 ∨ a.phase = 6 then standbyMissed s a else s)
    else if (a.phase = 2 ∨ a.phase = 9) ∧ a.partner = 0 then s.wr F.PRG_ACT_LAGGED 1
    else s

/-! ### Checks of task and retain fields (SCN-14) -/

/-- The first reason of SCN-14 that task `k` meets: `cycle` is NRL.CYCLE (0: not yet written, assumption log 32), `code` the
length of the program (none: no active bank). -/
def taskReason (cycle : Nat) (code : Option Nat) (k : Nat) (t : TaskRow) : Option Nat :=
  let long : Bool := match code with
    | some n => decide (n ≤ t.entry)
    | none => false
  if 4 < t.src then some Reason.TASK_SOURCE
  else if k = 0 ∧ t.src ≠ 1 then some Reason.T0_SOURCE
  else if k = 0 ∧ (t.period < 50 ∨ (cycle ≠ 0 ∧ (cycle % t.period ≠ 0 ∨ cycle / t.period < 1 ∨ 40 < cycle / t.period)))
  then some Reason.T0_PERIOD
  else if k ≠ 0 ∧ t.src = 1 ∧ (t.period < 50 ∨ 10000000 < t.period ∨ t.period ≤ t.phase) then some Reason.TASK_PERIOD
  else if t.src ≠ 1 ∧ t.period ≠ 0 then some Reason.TASK_PERIOD
  else if long then some Reason.TASK_ENTRY
  else none

/-- First unit, end and unit size of a retain row; M ranges count bits. -/
def retainOk (r : RetainRow) : Bool :=
  decide (r.area = 0) ||
    (decide (r.area = 1) && decide (1 ≤ r.count) && decide (r.start % 32 = 0) && decide (r.count % 32 = 0) &&
      decide (r.start + r.count ≤ 65536)) ||
    (decide (r.area = 2) && decide (1 ≤ r.count) && decide (r.start + r.count ≤ 32768))

/-- Two ranges of one area meet. -/
def rangesMeet (a b : RetainRow) : Bool :=
  decide (a.area ≠ 0) && decide (a.area = b.area) && decide (a.start < b.start + b.count) &&
    decide (b.start < a.start + a.count)

/-- Bytes of the retentive data (R197): ranges, and retentive instances at their record size. -/
def retainBytes (rs : List RetainRow) (insts : List InstRec) : Nat :=
  (rs.map fun r => if r.area = 1 then r.count / 8 else if r.area = 2 then 4 * r.count else 0).foldl (· + ·) 0 +
    ((insts.filter (·.retain)).map fun i => if i.kind ≤ 3 then 16 else 8).foldl (· + ·) 0

/-- The first reason of SCN-14 that a retain table meets, and the entry. -/
def retainReason (rs : List RetainRow) (insts : List InstRec) : Option (Nat × Nat) :=
  let bad := (List.range rs.length).find? fun i =>
    let r := rs.getD i ⟨0, 0, 0⟩
    !(retainOk r) || (rs.take i).any (rangesMeet r)
  match bad with
  | some i => some (Reason.RETAIN_RANGE, i)
  | none => if 16384 < retainBytes rs insts then some (Reason.RETAIN_SIZE, 0) else none

end Sys2Proof.Machine
end

