-- ==== Sys2Proof/Machine/PlaitOps.lean ====
section
/-!
DEFINITION. Shared operations of the Plait voter: lane states (PLT-3), disagreements and retirement (R266, R270), UNRESOLVED
items (R274), reports of the field votes (R269), and what a cinch latch does to lanes on their way back (R271).
-/

namespace Sys2Proof.Machine

/-- Lane states of PLT-3. -/
def lVOTING : Nat := 0
def lRETIRED : Nat := 1
def lTESTING : Nat := 2
def lCOPYING : Nat := 3
def lFAILED : Nat := 5

/-- The fields of lane `k` in PLT.LANE and PLT.COUNT. -/
def laneStFld : Nat → Fld
  | 0 => F.PLT_LANE_STATE_A
  | 1 => F.PLT_LANE_STATE_B
  | _ => F.PLT_LANE_STATE_C
def laneCauseFld : Nat → Fld
  | 0 => F.PLT_LANE_CAUSE_A
  | 1 => F.PLT_LANE_CAUSE_B
  | _ => F.PLT_LANE_CAUSE_C
def disFld : Nat → Fld
  | 0 => F.PLT_COUNT_DIS_A
  | 1 => F.PLT_COUNT_DIS_B
  | _ => F.PLT_COUNT_DIS_C

/-- The state of lane `k`. -/
def State.laneSt (s : State) (k : Nat) : Nat := s.rd (laneStFld k)

/-- A change of the voter's hidden state. -/
def updPlt (s : State) (f : PltSt → PltSt) : State := { s with plt := f s.plt }

/-- Lane `k` takes state `v`; VOTING and CAUSE_PERSISTS follow. -/
def setLane (s : State) (k v : Nat) : State :=
  let s := s.wr (laneStFld k) v
  persistReg (s.wr F.PLT_LANE_VOTING (setBits (s.rd F.PLT_LANE_VOTING) k k (b2n (decide (v = lVOTING)))))

/-- Case `i` of PLT-4: its record and its interrupt source. -/
def pltCase (i : Nat) (e : Nat × Nat) (lanes cls group value : Nat) (s : State) : State :=
  setLatch (8 + i) (log e ([lanes, cls, group, 0] ++ leBytes 4 value) s)

/-- Fewer than two lanes vote in RUN or HOLD: FAULT with LANES_LOST (R274). -/
def lanesLost (s : State) : State :=
  if s.voting < 2 ∧ (s.mode = mRUN ∨ s.mode = mHOLD) then
    enterFault (pltCase 4 Ev.LANES_LOST (s.rd F.PLT_LANE_VOTING) 0 0 0 s) 5
  else s

/-- A primary that falls from three voting lanes to two yields to an ELIGIBLE partner (R275). -/
def dualHandover (s : State) : State :=
  if s.voting = 2 ∧ s.pElig ∧ s.is F.PLT_PAIR_DUAL_HANDOVER ∧ s.mode = mRUN then setYield s else s

/-- Lane `k` leaves the vote (R270): RETIRED, then TESTING at once with AUTO_ADMIT, or FAILED after RETIRE_MAX retirements
within 86,400 s (R271). -/
def retireLane (s : State) (k cause : Nat) : State :=
  if !s.votes k then s
  else
    let s := (setLane (s.wr (laneCauseFld k) cause) k lRETIRED).inc F.PLT_COUNT_RETIREMENTS
    let s := pltCase 1 Ev.RETIRE (2 ^ k) cause 0 0 s
    let l := s.time.xt :: (s.plt.retired.get k).filter fun t => decide (s.time.xt < t + 86400 * 32768)
    let s := updPlt s fun p => { p with retired := p.retired.set k l, late := p.late.set k 0 }
    let s := if s.rd F.PLT_CFG_RETIRE_MAX ≤ l.length then setLane (s.wr (laneCauseFld k) 9) k lFAILED
      else if s.is F.PLT_CFG_AUTO_ADMIT then setLane s k lTESTING
      else s
    lanesLost (dualHandover s)

/-- Lane `k` disagrees (R266): counted, and logged below the limit; answers whether DIS_LIMIT disagreements span fewer than
DIS_WINDOW cycles (PLT-2 cause 2). -/
def disagree (s : State) (k cls value : Nat) : State × Bool :=
  let lim := s.rd F.PLT_CFG_DIS_LIMIT
  let l := (s.cinchNow :: s.plt.dis.get k).take lim
  let s := updPlt (s.inc (disFld k)) fun p => { p with dis := p.dis.set k l }
  let hit := decide (l.length = lim) &&
    decide ((s.cinchNow + 2 ^ 32 - l.getLastD 0) % 2 ^ 32 < s.rd F.PLT_CFG_DIS_WINDOW)
  if hit then (s, true) else (pltCase 0 Ev.DISAGREE (2 ^ k) cls 0 value s, false)

/-- An item is UNRESOLVED (R274): every VOTING lane is SUSPECT and tested at once, and the module enters FAULT. -/
def unresolved (s : State) (cls value : Nat) : State :=
  let v := s.rd F.PLT_LANE_VOTING
  let s := pltCase 3 Ev.UNRESOLVED v cls 0 value (s.inc F.PLT_COUNT_UNRESOLVED)
  let s := (List.range 3).foldl (fun s k =>
    if v.testBit k then setLane (s.wr (laneCauseFld k) 6) k lTESTING else s) s
  enterFault (updPlt s fun p => { p with suspect := p.suspect ||| v }) 4

/-! ### Field vote reports (R269) -/

/-- The run of differing commits of a group; DGg 0–7, AGg 8–11. -/
def State.splitRun (s : State) (g : Nat) : Nat := if g < 8 then (s.dgg g).splitRun else (s.agg (g - 8)).splitRun
def putSplitRun (s : State) (g n : Nat) : State :=
  if g < 8 then putDgg s g { s.dgg g with splitRun := n }
  else putAgg s (g - 8) { s.agg (g - 8) with splitRun := n }

/-- One report: FIELD_SPLIT and the lanes' disagreements, at most one per lane and execution; VOTE_SPLIT, which a third
time in a row sets VOTER_FAULT (a primary then yields, R284). -/
def voteReport (s : State) (r : VoteReport) : State :=
  let s := if r.lanes = 0 then s
    else
      let s := pltCase 5 Ev.FIELD_SPLIT r.lanes 0 r.group 0 (s.inc F.PLT_COUNT_FIELD_SPLIT)
      (List.range 3).foldl (fun s k =>
        if r.lanes.testBit k ∧ s.votes k ∧ !s.plt.counted.testBit k then
          let d := disagree (updPlt s fun p => { p with counted := p.counted ||| 2 ^ k }) k 0 0
          if d.2 then retireLane d.1 k 2 else d.1
        else s) s
  if r.crcDiff then
    let s := pltCase 6 Ev.VOTE_SPLIT 0 0 r.group 0 (s.inc F.PLT_COUNT_VOTE_SPLIT)
    let n := s.splitRun r.group + 1
    let s := putSplitRun s r.group n
    if 3 ≤ n then setYield (s.wr F.PLT_LANE_VOTER_FAULT 1) else s
  else putSplitRun s r.group 0

/-- The reports that came with the frames of the newest image are taken. -/
def processReports (s : State) : State :=
  let l := s.fld.reports
  l.foldl voteReport { s with fld := { s.fld with reports := [] } }

/-! ### Lanes on their way back (R271, R273) -/

/-- No execution is in progress. -/
def State.lanesIdle (s : State) : Bool :=
  s.scn.running.isNone && s.scn.preempted.isEmpty && s.scn.waiting.isEmpty

/-- The VOTING lane that serves as the source of a copy. -/
def State.copySource (s : State) : Option Nat := (List.range 3).find? fun k => s.votes k

/-- Lane `k` may join now (R273): a full pass made, no execution in progress, at most four dirty pages. -/
def State.joinOk (s : State) (k : Nat) : Bool :=
  decide (s.laneSt k = lCOPYING) && decide (1 ≤ s.plt.passes.get k) && s.lanesIdle &&
    (match s.copySource with
      | some j => decide ((s.scn.lanes.get j).dirty.length ≤ 4)
      | none => false)

/-- A copy failed: RETIRED again, or FAILED after ADMIT_TRIES failed copies. -/
def copyFailed (s : State) (k : Nat) : State :=
  let n := s.plt.fails.get k + 1
  let s := pltCase 2 Ev.ADMIT_FAIL (2 ^ k) 8 0 (s.plt.passes.get k) s
  let s := updPlt s fun p => { p with fails := p.fails.set k n }
  if s.rd F.PLT_CFG_ADMIT_TRIES ≤ n then ucodeLost (setLane (s.wr (laneCauseFld k) 8) k lFAILED) k
  else
    setLane (updPlt s fun p => { p with
      retry := p.retry.set k (if s.is F.PLT_CFG_AUTO_ADMIT then some 0 else none) }) k lRETIRED

/-- A cinch latch counts for lanes that copy or wait: a copy that has seen 16 latches without a join failed. -/
def latchLanes (s : State) : State :=
  (List.range 3).foldl (fun s k =>
    let s := updPlt s fun p => { p with retry := p.retry.set k ((p.retry.get k).map (· + 1)) }
    if s.laneSt k = lCOPYING then
      let n := s.plt.latches.get k + 1
      let s := updPlt s fun p => { p with latches := p.latches.set k n }
      if 16 ≤ n ∧ !s.joinOk k then copyFailed s k else s
    else s) s

/-- The module that keeps its claim when two meet: the PREFERRED one, and the lower position where that decides nothing
(R283, assumption log 27). -/
def State.prevails (s : State) : Bool :=
  let own := s.is F.PLT_PAIR_PREFERRED
  if own = s.pair.beat.testBit 5 then decide (s.rd F.PLT_PAIR_SIDE = 0) else own

/-- The other one loses any lease for PRIMARY, and one that was primary follows (R283). -/
def loseClaim (s : State) : State :=
  let s := updPair s fun x => { x with claim := none, lease := match x.lease with
    | some (1, _) => none
    | l => l }
  let s := s.wr F.PLT_PSTATE_LEASED (b2n s.pair.lease.isSome)
  if s.role = 1 then standbyOutputs (setRole s 2) else s

/-- Two claims, or two primaries, have met. -/
def conflict (s : State) : State :=
  let s := pltCase 8 Ev.CLAIM_CONFLICT 0 0 0 0 (s.incTo F.PLT_PSTATE_CONFLICTS 0 1 15)
  if s.prevails then s else loseClaim s

/-- A T0 period boundary in a pair: two primaries that found each other resolve it (R283). -/
def boundaryPair (s : State) : State :=
  if s.pair.both then conflict (updPair s fun x => { x with both := false }) else s

/-- A cinch latch counts for the pair: the partner's silence and the next HELLO (R280), and a swap due at it (R259). -/
def latchPair (s : State) : State :=
  if s.paired then
    latchSwap (boundaryPair (updPair s fun x => { x with quiet := x.quiet + 1, helloRun := x.helloRun + 1 }))
  else s

end Sys2Proof.Machine
end

