-- ==== Sys2Proof/Machine/ZenArith.lean ====
section
/-!
DEFINITION. Accumulator (ZEN-8, R218–R220), register and index (ZEN-9, R221, R222) and float (ZEN-10, R223, R224)
instructions.
-/

namespace Sys2Proof.Machine

/-! ### Accumulator -/

def zLDA (o : MaOp) : LaneFn := fun e l =>
  let r := readAcc e l o
  (r.2.accLoad r.1).next (1 + areaCost o.area o.x)
def zADD (o : MaOp) : LaneFn := fun e l =>
  let r := readAcc e l o
  (r.2.accArith (r.2.c.acc + r.1)).next (1 + areaCost o.area o.x)
def zSUB (o : MaOp) : LaneFn := fun e l =>
  let r := readAcc e l o
  (r.2.accArith (r.2.c.acc - r.1)).next (1 + areaCost o.area o.x)
def zSTW (o : MaOp) : LaneFn := fun e l =>
  let n := sizeBytes o.size
  let a := accTo o.size l.c.acc
  ((writeN e l o.area (effAddr l o.x o.ixn o.addr * n) n (unsgn (8 * n) a.1)).stick fOV a.2).next
    (1 + areaCost o.area o.x)
def zCMPA (o : MaOp) : LaneFn := fun e l =>
  let r := readAcc e l o
  ((r.2.setFlag fEQ (decide (r.2.c.acc = r.1))).setFlag fNG (decide (r.2.c.acc < r.1))).next
    (1 + areaCost o.area o.x)
def zLDAV (vs : Nat) : LaneFn := fun _ l => (l.accLoad (l.v vs).toInt).next 1
def zADDA (vs : Nat) : LaneFn := fun _ l => (l.accArith (l.c.acc + (l.v vs).toInt)).next 1
def zSUBA (vs : Nat) : LaneFn := fun _ l => (l.accArith (l.c.acc - (l.v vs).toInt)).next 1
def zMAC (vs vt sh : Nat) : LaneFn := fun _ l =>
  (l.accArith (l.c.acc + ((l.v vs).toInt * (l.v vt).toInt).fdiv (2 ^ sh))).next 3
def zNEGA : LaneFn := fun _ l => (l.accArith (-l.c.acc)).next 1
def zSTAV (vd : Nat) : LaneFn := fun _ l =>
  let a := accTo 0 l.c.acc
  ((l.setV vd (BitVec.ofInt 32 a.1)).stick fOV a.2).next 1
def zASRA (n : Nat) : LaneFn := fun _ l =>
  (if l.c.sat then l.znAcc else (l.upd fun c => { c with acc := c.acc.fdiv (2 ^ n) }).znAcc).next 1
def zSHLA (n : Nat) : LaneFn := fun _ l => (l.accArith (l.c.acc * 2 ^ n)).next 1
def zCLRA : LaneFn := fun _ l => (l.accLoad 0).next 1
def zRDAH (vd : Nat) : LaneFn := fun _ l => (l.setV vd (BitVec.ofInt 32 (l.c.acc.fdiv (2 ^ 32)))).next 1

/-! ### Registers and index -/

def zLDV (o : MvOp) : LaneFn := fun e l =>
  let r := readWord e l o
  (r.2.setV o.v (BitVec.ofNat 32 r.1)).next (1 + areaCost o.area o.x)
def zSTV (o : MvOp) : LaneFn := fun e l =>
  (writeN e l o.area (effAddr l o.x o.ixn o.addr * 4) 4 (l.v o.v).toNat).next (1 + areaCost o.area o.x)
def zLDI (vd imm : Nat) : LaneFn := fun _ l => (l.setV vd (BitVec.ofInt 32 (sgn 16 imm))).next 1
def zLDIH (vd imm : Nat) : LaneFn := fun _ l =>
  (l.setV vd (BitVec.ofNat 32 (setBits (l.v vd).toNat 31 16 imm))).next 1
def zMOV (vd vs : Nat) : LaneFn := fun _ l => (l.setV vd (l.v vs)).next 1

/-- An exact signed result does not fit 32 bits. -/
def over32 (i : Int) : Bool := decide (i < -(2 ^ 31 : Int)) || decide ((2 ^ 31 : Int) ≤ i)

/-- A wrapping sum of two words (R221): the register, ZR, NG, CY and OV. -/
def addInto (l : Lane) (vd : Nat) (a b : Word) : Lane :=
  ((l.putZN vd (a + b)).setFlag fCY (decide (2 ^ 32 ≤ a.toNat + b.toNat))).stick fOV (over32 (a.toInt + b.toInt))

def zIADD (vd vs vt : Nat) : LaneFn := fun _ l => (addInto l vd (l.v vs) (l.v vt)).next 1
def zISUB (vd vs vt : Nat) : LaneFn := fun _ l =>
  let a := l.v vs
  let b := l.v vt
  (((l.putZN vd (a - b)).setFlag fCY (a.ult b)).stick fOV (over32 (a.toInt - b.toInt))).next 1
def zIMUL (vd vs vt : Nat) : LaneFn := fun _ l =>
  let a := l.v vs
  let b := l.v vt
  ((l.putZN vd (a * b)).stick fOV (over32 (a.toInt * b.toInt))).next 3

/-- The quotient of R221 and whether OV is set. -/
def idiv (a b : Word) : Word × Bool :=
  if b = 0 then
    (if a = 0 then 0 else if a.msb then 0x80000000 else 0x7FFFFFFF, true)
  else
    let q := a.toInt.tdiv b.toInt
    if over32 q then (0x7FFFFFFF, true) else (BitVec.ofInt 32 q, false)

/-- The remainder of R221 and whether OV is set. -/
def imod (a b : Word) : Word × Bool :=
  if b = 0 then (0, true) else (BitVec.ofInt 32 (a.toInt.tmod b.toInt), false)

def zIDIV (vd vs vt : Nat) : LaneFn := fun _ l =>
  let r := idiv (l.v vs) (l.v vt)
  ((l.putZN vd r.1).stick fOV r.2).next 36
def zIMOD (vd vs vt : Nat) : LaneFn := fun _ l =>
  let r := imod (l.v vs) (l.v vt)
  ((l.putZN vd r.1).stick fOV r.2).next 36
def zIADDI (vd vs imm : Nat) : LaneFn := fun _ l => (addInto l vd (l.v vs) (BitVec.ofInt 32 (sgn 12 imm))).next 1
def zWAND (vd vs vt : Nat) : LaneFn := fun _ l => (l.putZN vd (l.v vs &&& l.v vt)).next 1
def zWOR (vd vs vt : Nat) : LaneFn := fun _ l => (l.putZN vd (l.v vs ||| l.v vt)).next 1
def zWXOR (vd vs vt : Nat) : LaneFn := fun _ l => (l.putZN vd (l.v vs ^^^ l.v vt)).next 1
def zWNOT (vd vs : Nat) : LaneFn := fun _ l => (l.putZN vd (~~~(l.v vs))).next 1

/-- A shift: its result and, for an amount of 1–31, the last bit shifted out (R222). -/
def zShift (f : Word → Nat → Word) (out : Word → Nat → Bool) (vd vs : Nat) (n : Shift) : LaneFn := fun _ l =>
  let k := shAmt l n
  let l' := l.putZN vd (f (l.v vs) k)
  (if k = 0 then l' else l'.setFlag fCY (out (l.v vs) k)).next 1

def zSHL (vd vs : Nat) (n : Shift) : LaneFn := zShift (fun w k => w <<< k) (fun w k => w.getLsbD (32 - k)) vd vs n
def zSHR (vd vs : Nat) (n : Shift) : LaneFn := zShift (fun w k => w >>> k) (fun w k => w.getLsbD (k - 1)) vd vs n
def zASR (vd vs : Nat) (n : Shift) : LaneFn := zShift (fun w k => w.sshiftRight k) (fun w k => w.getLsbD (k - 1)) vd vs n
def zROL (vd vs : Nat) (n : Shift) : LaneFn := zShift (fun w k => w.rotateLeft k) (fun w k => w.getLsbD (32 - k)) vd vs n
def zCMP (vs vt : Nat) : LaneFn := fun _ l => (l.compare (l.v vs) (l.v vt)).next 1
def zCMPI (vs imm : Nat) : LaneFn := fun _ l => (l.compare (l.v vs) (BitVec.ofInt 32 (sgn 12 imm))).next 1
def zLDIX (ix imm : Nat) : LaneFn := fun _ l => (l.setIx ix imm).next 1
def zMOVIX (ix vs : Nat) : LaneFn := fun _ l =>
  ((l.setIx ix (l.v vs).toNat).stick fOV (decide (2 ^ 20 ≤ (l.v vs).toNat))).next 1
def zADDIX (ix imm : Nat) : LaneFn := fun _ l =>
  let n := unsgn 20 ((l.ix ix : Int) + sgn 20 imm)
  ((l.setIx ix n).setFlag fZR (decide (n = 0))).next 1
def zRDIX (vd ix : Nat) : LaneFn := fun _ l => (l.setV vd (BitVec.ofNat 32 (l.ix ix))).next 1

/-! ### Floats -/

/-- A float instruction of two operands. -/
def zF2 (f : Nat → Nat → Nat) (cyc vd vs vt : Nat) : LaneFn := fun _ l =>
  (l.putF vd (f (l.v vs).toNat (l.v vt).toNat)).next cyc

/-- A float instruction of one operand. -/
def zF1 (f : Nat → Nat) (cyc vd vs : Nat) : LaneFn := fun _ l => (l.putF vd (f (l.v vs).toNat)).next cyc

def zFADD (vd vs vt : Nat) : LaneFn := zF2 F32.add 4 vd vs vt
def zFSUB (vd vs vt : Nat) : LaneFn := zF2 F32.sub 4 vd vs vt
def zFMUL (vd vs vt : Nat) : LaneFn := zF2 F32.mul 4 vd vs vt
def zFDIV (vd vs vt : Nat) : LaneFn := zF2 F32.div 20 vd vs vt
def zFSQRT (vd vs : Nat) : LaneFn := zF1 F32.sqrt 24 vd vs
def zFABS (vd vs : Nat) : LaneFn := zF1 (fun w => w % 2 ^ 31) 1 vd vs
def zFNEG (vd vs : Nat) : LaneFn := zF1 F32.negate 1 vd vs
def zFMIN (vd vs vt : Nat) : LaneFn := zF2 F32.fmin 2 vd vs vt
def zFMAX (vd vs vt : Nat) : LaneFn := zF2 F32.fmax 2 vd vs vt
def zFCMP (vs vt : Nat) : LaneFn := fun _ l =>
  let a := (l.v vs).toNat
  let b := (l.v vt).toNat
  let n := F32.isNaN a || F32.isNaN b
  (((l.setFlag fCY n).setFlag fEQ (!n && F32.eq a b)).setFlag fNG (!n && F32.lt a b)).next 2
def zITOF (vd vs : Nat) : LaneFn := fun _ l => (l.putF vd (F32.ofInt (l.v vs).toInt)).next 3
def zFTOI (vd vs : Nat) : LaneFn := fun _ l =>
  let r := F32.ftoi (l.v vs).toNat
  ((l.putZN vd (BitVec.ofNat 32 r.1)).stick fOV r.2).next 3

/-! ### The rows -/

/-- LDA. -/
def execZLDA (o : MaOp) (s : State) : Out := .next (zen (.zLDA o) (zLDA o) s)
/-- ADD. -/
def execZADD (o : MaOp) (s : State) : Out := .next (zen (.zADD o) (zADD o) s)
/-- SUB. -/
def execZSUB (o : MaOp) (s : State) : Out := .next (zen (.zSUB o) (zSUB o) s)
/-- STW. -/
def execZSTW (o : MaOp) (s : State) : Out := .next (zen (.zSTW o) (zSTW o) s)
/-- CMPA. -/
def execZCMPA (o : MaOp) (s : State) : Out := .next (zen (.zCMPA o) (zCMPA o) s)
/-- LDAV. -/
def execZLDAV (vs : Nat) (s : State) : Out := .next (zen (.zLDAV vs) (zLDAV vs) s)
/-- ADDA. -/
def execZADDA (vs : Nat) (s : State) : Out := .next (zen (.zADDA vs) (zADDA vs) s)
/-- SUBA. -/
def execZSUBA (vs : Nat) (s : State) : Out := .next (zen (.zSUBA vs) (zSUBA vs) s)
/-- MAC. -/
def execZMAC (vs vt sh : Nat) (s : State) : Out := .next (zen (.zMAC vs vt sh) (zMAC vs vt sh) s)
/-- NEGA. -/
def execZNEGA (s : State) : Out := .next (zen .zNEGA zNEGA s)
/-- STAV. -/
def execZSTAV (vd : Nat) (s : State) : Out := .next (zen (.zSTAV vd) (zSTAV vd) s)
/-- ASRA. -/
def execZASRA (n : Nat) (s : State) : Out := .next (zen (.zASRA n) (zASRA n) s)
/-- SHLA. -/
def execZSHLA (n : Nat) (s : State) : Out := .next (zen (.zSHLA n) (zSHLA n) s)
/-- CLRA. -/
def execZCLRA (s : State) : Out := .next (zen .zCLRA zCLRA s)
/-- RDAH. -/
def execZRDAH (vd : Nat) (s : State) : Out := .next (zen (.zRDAH vd) (zRDAH vd) s)
/-- LDV. -/
def execZLDV (o : MvOp) (s : State) : Out := .next (zen (.zLDV o) (zLDV o) s)
/-- STV. -/
def execZSTV (o : MvOp) (s : State) : Out := .next (zen (.zSTV o) (zSTV o) s)
/-- LDI. -/
def execZLDI (vd imm : Nat) (s : State) : Out := .next (zen (.zLDI vd imm) (zLDI vd imm) s)
/-- LDIH. -/
def execZLDIH (vd imm : Nat) (s : State) : Out := .next (zen (.zLDIH vd imm) (zLDIH vd imm) s)
/-- MOV. -/
def execZMOV (vd vs : Nat) (s : State) : Out := .next (zen (.zMOV vd vs) (zMOV vd vs) s)
/-- IADD. -/
def execZIADD (vd vs vt : Nat) (s : State) : Out := .next (zen (.zIADD vd vs vt) (zIADD vd vs vt) s)
/-- ISUB. -/
def execZISUB (vd vs vt : Nat) (s : State) : Out := .next (zen (.zISUB vd vs vt) (zISUB vd vs vt) s)
/-- IMUL. -/
def execZIMUL (vd vs vt : Nat) (s : State) : Out := .next (zen (.zIMUL vd vs vt) (zIMUL vd vs vt) s)
/-- IDIV. -/
def execZIDIV (vd vs vt : Nat) (s : State) : Out := .next (zen (.zIDIV vd vs vt) (zIDIV vd vs vt) s)
/-- IMOD. -/
def execZIMOD (vd vs vt : Nat) (s : State) : Out := .next (zen (.zIMOD vd vs vt) (zIMOD vd vs vt) s)
/-- IADDI. -/
def execZIADDI (vd vs imm : Nat) (s : State) : Out := .next (zen (.zIADDI vd vs imm) (zIADDI vd vs imm) s)
/-- WAND. -/
def execZWAND (vd vs vt : Nat) (s : State) : Out := .next (zen (.zWAND vd vs vt) (zWAND vd vs vt) s)
/-- WOR. -/
def execZWOR (vd vs vt : Nat) (s : State) : Out := .next (zen (.zWOR vd vs vt) (zWOR vd vs vt) s)
/-- WXOR. -/
def execZWXOR (vd vs vt : Nat) (s : State) : Out := .next (zen (.zWXOR vd vs vt) (zWXOR vd vs vt) s)
/-- WNOT. -/
def execZWNOT (vd vs : Nat) (s : State) : Out := .next (zen (.zWNOT vd vs) (zWNOT vd vs) s)
/-- SHL. -/
def execZSHL (vd vs : Nat) (n : Shift) (s : State) : Out := .next (zen (.zSHL vd vs n) (zSHL vd vs n) s)
/-- SHR. -/
def execZSHR (vd vs : Nat) (n : Shift) (s : State) : Out := .next (zen (.zSHR vd vs n) (zSHR vd vs n) s)
/-- ASR. -/
def execZASR (vd vs : Nat) (n : Shift) (s : State) : Out := .next (zen (.zASR vd vs n) (zASR vd vs n) s)
/-- ROL. -/
def execZROL (vd vs : Nat) (n : Shift) (s : State) : Out := .next (zen (.zROL vd vs n) (zROL vd vs n) s)
/-- CMP. -/
def execZCMP (vs vt : Nat) (s : State) : Out := .next (zen (.zCMP vs vt) (zCMP vs vt) s)
/-- CMPI. -/
def execZCMPI (vs imm : Nat) (s : State) : Out := .next (zen (.zCMPI vs imm) (zCMPI vs imm) s)
/-- LDIX. -/
def execZLDIX (ix imm : Nat) (s : State) : Out := .next (zen (.zLDIX ix imm) (zLDIX ix imm) s)
/-- MOVIX. -/
def execZMOVIX (ix vs : Nat) (s : State) : Out := .next (zen (.zMOVIX ix vs) (zMOVIX ix vs) s)
/-- ADDIX. -/
def execZADDIX (ix imm : Nat) (s : State) : Out := .next (zen (.zADDIX ix imm) (zADDIX ix imm) s)
/-- RDIX. -/
def execZRDIX (vd ix : Nat) (s : State) : Out := .next (zen (.zRDIX vd ix) (zRDIX vd ix) s)
/-- FADD. -/
def execZFADD (vd vs vt : Nat) (s : State) : Out := .next (zen (.zFADD vd vs vt) (zFADD vd vs vt) s)
/-- FSUB. -/
def execZFSUB (vd vs vt : Nat) (s : State) : Out := .next (zen (.zFSUB vd vs vt) (zFSUB vd vs vt) s)
/-- FMUL. -/
def execZFMUL (vd vs vt : Nat) (s : State) : Out := .next (zen (.zFMUL vd vs vt) (zFMUL vd vs vt) s)
/-- FDIV. -/
def execZFDIV (vd vs vt : Nat) (s : State) : Out := .next (zen (.zFDIV vd vs vt) (zFDIV vd vs vt) s)
/-- FSQRT. -/
def execZFSQRT (vd vs : Nat) (s : State) : Out := .next (zen (.zFSQRT vd vs) (zFSQRT vd vs) s)
/-- FABS. -/
def execZFABS (vd vs : Nat) (s : State) : Out := .next (zen (.zFABS vd vs) (zFABS vd vs) s)
/-- FNEG. -/
def execZFNEG (vd vs : Nat) (s : State) : Out := .next (zen (.zFNEG vd vs) (zFNEG vd vs) s)
/-- FMIN. -/
def execZFMIN (vd vs vt : Nat) (s : State) : Out := .next (zen (.zFMIN vd vs vt) (zFMIN vd vs vt) s)
/-- FMAX. -/
def execZFMAX (vd vs vt : Nat) (s : State) : Out := .next (zen (.zFMAX vd vs vt) (zFMAX vd vs vt) s)
/-- FCMP. -/
def execZFCMP (vs vt : Nat) (s : State) : Out := .next (zen (.zFCMP vs vt) (zFCMP vs vt) s)
/-- ITOF. -/
def execZITOF (vd vs : Nat) (s : State) : Out := .next (zen (.zITOF vd vs) (zITOF vd vs) s)
/-- FTOI. -/
def execZFTOI (vd vs : Nat) (s : State) : Out := .next (zen (.zFTOI vd vs) (zFTOI vd vs) s)

end Sys2Proof.Machine
end

