-- ==== Sys2Proof/Machine/ZenFlow.lean ====
section
/-!
DEFINITION. Flow (ZEN-11, R225–R227) and block, angle and system instructions (ZEN-12, R228–R231).
-/

namespace Sys2Proof.Machine

def zNOP : LaneFn := fun _ l => l.next 1
def zJMP (t : Nat) : LaneFn := fun _ l => l.jump t 2
def zJC (sel : Nat) (sense : Bool) (t : Nat) : LaneFn := fun _ l =>
  if l.cond sel = !sense then l.jump t 2 else l.next 1
def zCALL (t : Nat) : LaneFn := fun _ l =>
  if 16 ≤ l.c.stack.length then l.halt 0xFF00 3
  else (l.upd fun c => { c with stack := .call (c.pc + 1) :: c.stack }).jump t 3
def zRET : LaneFn := fun _ l =>
  match l.c.stack with
  | .call r :: rest => (l.upd fun c => { c with stack := rest }).jump r 3
  | _ => l.halt 0xFF02 3
def zLOOP (ix t : Nat) : LaneFn := fun _ l =>
  let n := (l.ix ix + (2 ^ 20 - 1)) % 2 ^ 20
  if n ≠ 0 then (l.setIx ix n).jump t 2 else (l.setIx ix n).next 1
def zEND : LaneFn := fun _ l => l.upd fun c => { c with run := .ended, cycles := c.cycles + 1 }
def zCLRF (mask : Nat) : LaneFn := fun _ l => (l.upd fun c => { c with flags := c.flags &&& (63 - mask % 64) }).next 1
def zRDF (vd : Nat) : LaneFn := fun _ l => (l.setV vd (BitVec.ofNat 32 (l.c.flags + 256 * b2n l.c.ba))).next 1

/-- One word of BMOV: read under R207, written under R207. -/
def moveWord (e : Env) (sa da : Nat) (l : Lane) (k : Nat) : Lane :=
  let r := readN e l sa ((l.ix 0 + k) * 4) 4
  writeN e r.2 da ((l.ix 1 + k) * 4) 4 r.1

def zBMOV (sa da n : Nat) : LaneFn := fun e l =>
  let l' := (List.range n).foldl (moveWord e sa da) l
  ((l'.setIx 0 (l.ix 0 + n)).setIx 1 (l.ix 1 + n)).next (4 + 4 * n)
def zBFILL (da n : Nat) : LaneFn := fun e l =>
  let l' := (List.range n).foldl (fun x k => writeN e x da ((l.ix 1 + k) * 4) 4 (l.v 0).toNat) l
  (l'.setIx 1 (l.ix 1 + n)).next (4 + 2 * n)
def zEVARM (vs vt : Nat) : LaneFn := fun _ l =>
  (l.request (decide ((l.v vs).toNat ≤ 1023)) (.evArm (l.v vs).toNat (l.v vt).toNat)).next 6
def zEVDIS (vs : Nat) : LaneFn := fun _ l =>
  (l.request (decide ((l.v vs).toNat ≤ 1023)) (.evDis (l.v vs).toNat)).next 4

/-- A word of the 64 KiB capture buffer; a word index outside it reads 0 with OV (R207). -/
def zCAPRD (vd ad ix : Nat) : LaneFn := fun e l =>
  let w := l.ix ix
  (if w < 16384 then l.setV vd (BitVec.ofNat 32 (memGet (e.caps.getD ad []) (4 * w) 4))
   else (l.setV vd 0).stick fOV true).next 4
def zCAPPTR (vd ad : Nat) : LaneFn := fun e l =>
  (l.setV vd (BitVec.ofNat 32 (e.capPos.getD ad 0 % 65536 / 4))).next 3
def zSNHOLD (k : Nat) : LaneFn := fun _ l => (l.request true (.snHold k)).next 2
def zSNREL (k : Nat) : LaneFn := fun _ l => (l.request true (.snRel k)).next 2
def zRDTIM (vd : Nat) : LaneFn := fun e l =>
  ((l.setV vd (BitVec.ofNat 32 (e.station % 2 ^ 32))).setV ((vd + 1) % 16) (BitVec.ofNat 32 (e.station / 2 ^ 32))).next 2

/-- HALT with a code of the lane's own (R227). -/
def zHALT (code : Nat) : LaneFn := fun _ l => l.halt code 1

/-- The code a step acts as HALT with: its own, 0xFFFE outside the code, 0xFFFF for an undefined encoding (ZEN-13). -/
def haltAt (s : State) (pc : Nat) : Option Nat :=
  match s.activeBank with
  | none => some 0xFFFE
  | some b => match b.step pc with
    | none => some 0xFFFE
    | some w => match Zen.decodeStep w with
      | none => some 0xFFFF
      | some (.zHALT c) => some c
      | some _ => none

/-! ### The rows -/

/-- HALT: the code is that of a HALT step, 0xFFFE where the next step lies outside the code, or 0xFFFF where it is an
undefined encoding (R210, R225). -/
def execZHALT (code : Nat) (s : State) : Out :=
  .next (zenOn (fun pc => decide (haltAt s pc = some code)) (zHALT code) s)
/-- NOP. -/
def execZNOP (s : State) : Out := .next (zen .zNOP zNOP s)
/-- JMP. -/
def execZJMP (t : Nat) (s : State) : Out := .next (zen (.zJMP t) (zJMP t) s)
/-- JC. -/
def execZJC (sel : Nat) (sense : Bool) (t : Nat) (s : State) : Out :=
  .next (zen (.zJC sel sense t) (zJC sel sense t) s)
/-- CALL. -/
def execZCALL (t : Nat) (s : State) : Out := .next (zen (.zCALL t) (zCALL t) s)
/-- RET. -/
def execZRET (s : State) : Out := .next (zen .zRET zRET s)
/-- LOOP. -/
def execZLOOP (ix t : Nat) (s : State) : Out := .next (zen (.zLOOP ix t) (zLOOP ix t) s)
/-- END. -/
def execZEND (s : State) : Out := .next (zen .zEND zEND s)
/-- CLRF. -/
def execZCLRF (mask : Nat) (s : State) : Out := .next (zen (.zCLRF mask) (zCLRF mask) s)
/-- RDF. -/
def execZRDF (vd : Nat) (s : State) : Out := .next (zen (.zRDF vd) (zRDF vd) s)
/-- BMOV. -/
def execZBMOV (sa da n : Nat) (s : State) : Out := .next (zen (.zBMOV sa da n) (zBMOV sa da n) s)
/-- BFILL. -/
def execZBFILL (da n : Nat) (s : State) : Out := .next (zen (.zBFILL da n) (zBFILL da n) s)
/-- EVARM. -/
def execZEVARM (vs vt : Nat) (s : State) : Out := .next (zen (.zEVARM vs vt) (zEVARM vs vt) s)
/-- EVDIS. -/
def execZEVDIS (vs : Nat) (s : State) : Out := .next (zen (.zEVDIS vs) (zEVDIS vs) s)
/-- CAPRD. -/
def execZCAPRD (vd ad ix : Nat) (s : State) : Out := .next (zen (.zCAPRD vd ad ix) (zCAPRD vd ad ix) s)
/-- CAPPTR. -/
def execZCAPPTR (vd ad : Nat) (s : State) : Out := .next (zen (.zCAPPTR vd ad) (zCAPPTR vd ad) s)
/-- SNHOLD. -/
def execZSNHOLD (k : Nat) (s : State) : Out := .next (zen (.zSNHOLD k) (zSNHOLD k) s)
/-- SNREL. -/
def execZSNREL (k : Nat) (s : State) : Out := .next (zen (.zSNREL k) (zSNREL k) s)
/-- RDTIM. -/
def execZRDTIM (vd : Nat) (s : State) : Out := .next (zen (.zRDTIM vd) (zRDTIM vd) s)

end Sys2Proof.Machine
end

