-- ==== Sys2Proof/Machine/Plait.lean ====
section
/-!
DEFINITION. The Plait voter: the vote and commit of an execution (R263–R267, R191), LANE_TEST, copies and joins (R271–R274),
and the host's READMIT and RETIRE.
-/

namespace Sys2Proof.Machine

/-! ### The vote (PLT-1) -/

/-- The Q items that are voted: byte offset, bytes, item class of PLT-19. -/
def qUnits : List (Nat × Nat × Nat) :=
  (List.range 16).map (fun i => (i, 1, 1)) ++ (List.range 64).map (fun i => (0x10 + 4 * i, 4, 2)) ++
    (List.range 128).map (fun i => (0x110 + 2 * i, 2, 3)) ++ (List.range 768).map (fun i => (0x400 + 4 * i, 4, 4))

/-- Written mask and value of an item in the copy of lane `k`: the value is what the lane's execution reads (R208). -/
def laneItem (x : Exec) (u : Nat × Nat × Nat) (k : Nat) : Nat × Nat :=
  let c := x.lanes.get k
  let m := memGet c.qmask u.1 u.2.1
  let q0 := memGet x.q0 u.1 u.2.1
  (m, (q0 - (q0 &&& m)) ||| (memGet c.q u.1 u.2.1 &&& m))

/-- The majority of three bit patterns. -/
def maj3 (a b c : Nat) : Nat := (a &&& b) ||| (a &&& c) ||| (b &&& c)

/-- The equal ones of two or three copies. -/
def pickEq {α : Type} [DecidableEq α] : List α → Option α
  | [a, b, c] => if a = b ∨ a = c then some a else if b = c then some b else none
  | [a, b] => if a = b then some a else none
  | _ => none

/-- The decision of an item: mask and value; none where it does not decide (R264, R265). -/
def decideItem (cls : Nat) (vs : List (Nat × Nat)) : Option (Nat × Nat) :=
  match vs with
  | [a, b, c] =>
    let m := maj3 a.1 b.1 c.1
    match cls with
    | 1 => some (m, maj3 a.2 b.2 c.2)
    | 2 => some (m, unsgn 32 (median3 (sgn 32 a.2) (sgn 32 b.2) (sgn 32 c.2)))
    | 3 => some (m, (median3 a.2 b.2 c.2).toNat)
    | _ => pickEq vs
  | [a, b] => if a.1 = b.1 ∧ a.2 &&& a.1 = b.2 &&& b.1 then some a else none
  | _ => none

/-- Whether a copy of an item differs from its decision (R266). -/
def itemDiffers (cls : Nat) (v d : Nat × Nat) : Bool :=
  decide (v.1 ≠ d.1) ||
    (if cls = 2 ∨ cls = 3 then decide (d.1 ≠ 0) && decide (v.2 ≠ d.2) else decide (v.2 &&& d.1 ≠ d.2 &&& d.1))

/-- What a vote finds: the words to commit and their bit mask; the first item that is UNRESOLVED; by lane the first item in
which it differs; the commit list; the lanes whose signature differs. -/
structure VoteRes where
  q : Memory
  mask : Memory
  unres : Option (Nat × Nat)
  diff : Trio (Option (Nat × Nat))
  reqs : List Request
  oddSig : Nat

/-- Lanes `ls` differ in item `it`, unless an earlier item is on record. -/
def markDiff (r : VoteRes) (ls : List Nat) (it : Nat × Nat) : VoteRes :=
  { r with diff := ls.foldl (fun d k => d.set k (match d.get k with
      | some e => some e
      | none => some it)) r.diff }

/-- An item stays undecided; the first one is on record. -/
def markUnres (r : VoteRes) (it : Nat × Nat) : VoteRes :=
  { r with unres := match r.unres with
      | some e => some e
      | none => some it }

/-- The lowest set byte offset in which an item was decided or not: items of class 1 are single bytes. -/
def voteUnit (x : Exec) (ks : List Nat) (r : VoteRes) (u : Nat × Nat × Nat) : VoteRes :=
  let vs := ks.map (laneItem x u)
  match decideItem u.2.2 vs with
  | none => markUnres r (u.2.2, u.1)
  | some d =>
    let r := markDiff r (ks.filter fun k => itemDiffers u.2.2 (laneItem x u k) d) (u.2.2, u.1)
    if d.1 = 0 then r
    else { r with q := memSet r.q u.1 u.2.1 d.2, mask := memSet r.mask u.1 u.2.1 d.1 }

/-- An item some copy wrote. -/
def unitWritten (x : Exec) (ks : List Nat) (u : Nat × Nat × Nat) : Bool :=
  ks.any fun k => (x.lanes.get k).qmask.any fun e => decide (u.1 ≤ e.1) && decide (e.1 < u.1 + u.2.1)

/-- The vote over the copies of lanes `ks`: items in the order of PLT-1. -/
def voteExec (x : Exec) (ks : List Nat) : VoteRes :=
  let r := (qUnits.filter (unitWritten x ks)).foldl (voteUnit x ks) ⟨[], [], none, ⟨none, none, none⟩, [], 0⟩
  let r := match pickEq (ks.map fun k => (x.lanes.get k).reqs) with
    | none => markUnres r (5, 0)
    | some l => { markDiff r (ks.filter fun k => decide ((x.lanes.get k).reqs ≠ l)) (5, 0) with reqs := l }
  match pickEq (ks.map fun k => (x.lanes.get k).sig) with
  | none => markUnres r (6, 0)
  | some g =>
    let odd := ks.filter fun k => decide ((x.lanes.get k).sig ≠ g)
    { markDiff r odd (6, 0) with oddSig := (odd.map fun k => 2 ^ k).foldl (· ||| ·) 0 }

/-! ### The commit (R191, R229, R267) -/

/-- A memory with the bits of `mask` taken from `q`. -/
def mergeQ (old q mask : Memory) : Memory :=
  mask.foldl (fun m e =>
    let k := e.2.toNat
    m.write e.1 (BitVec.ofNat 8 (((m.read e.1).toNat &&& (255 - k)) ||| ((q.read e.1).toNat &&& k)))) old

/-- A voted request acts (R230, R313). -/
def request (s : State) (r : Request) : State :=
  match r with
  | .evArm e a => evArm s e a
  | .evDis e => evDis s e
  | .snHold k =>
    let held := if k = 0 then s.img.hold0 else s.img.hold1
    match held, s.newestClosed with
    | none, some x =>
      let m := if k = 0 then { s.img with hold0 := some x.cinch } else { s.img with hold1 := some x.cinch }
      pinRegs { s with img := m }
    | _, _ => s
  | .snRel k =>
    let m := if k = 0 then { s.img with hold0 := none } else { s.img with hold1 := none }
    pinRegs { s with img := m }

/-- The lanes' Q shadows take each lane's own value of what the commit changes; the pages of the shadow are written. -/
def shadowCommit (s : State) (own : Nat → Memory) (mask : Memory) : State :=
  let m := mask.filter fun e => decide (e.1 < 0x210)
  let f (t : Trio Memory) (k : Nat) : Trio Memory := if s.votes k then t.set k (mergeQ (t.get k) (own k) m) else t
  let s := updPlt s fun p => { p with shadow := (List.range 3).foldl f p.shadow }
  let lanes := s.scn.lanes.map fun l => m.foldl (fun l e => l.touch (960 + e.1 / 256)) l
  { s with scn := { s.scn with lanes := lanes } }

/-- Each field die is sent the lane copies of its group (R267); a copy that still waits is replaced. -/
def sendCopies (s : State) : State :=
  let c : CopySet := ⟨s.plt.shadow, 7 - s.rd F.PLT_LANE_VOTING % 8, memPart s.img.q 0 0x210⟩
  { s with fld := { s.fld with copies := (List.range 12).map fun g => (g, c) } }

/-- The execution has come to its end: RUNSKIP, its run time, its interrupt source (R192, R497). -/
def endExec (s : State) (x : Exec) : State :=
  let n := (s.time.now - x.relAt) * s.laneMHz / 1000
  let s := (s.wr F.SCN_TSTAT_RUNSKIP 0 x.task).wr F.SCN_TSTAT_LAST_RUN (min (2 ^ 32 - 1) n) x.task
  let s := { s with scn := { s.scn with peak := Table.put 0 s.scn.peak x.task (max n (Table.find 0 s.scn.peak x.task)) } }
  let s := s.wr F.SCN_TSTAT_MAX_RUN (max (s.rd F.SCN_TSTAT_MAX_RUN x.task) (min (2 ^ 32 - 1) n)) x.task
  completeTask s x.task

/-- The next start-up task starts; after the last one RUN can be entered (R177). -/
def startNext (s : State) : State :=
  match s.scn.startQueue with
  | t :: ts =>
    dispatch { s with scn := { s.scn with startQueue := ts, waiting := s.scn.waiting ++ [newExec s t 4 none] } }
  | [] =>
    match s.scn.pend with
    | some p =>
      if p.startup then { s with scn := { s.scn with pend := some { p with startup := false, readyAt := s.time.now } } }
      else s
    | none => s

/-- In STOP a pending activation goes on as one accepted there (R253, R254); a standby drops its partner's. -/
def swapInStop (s : State) : State :=
  match s.prg.act with
  | some a =>
    if a.phase = 2 ∨ a.phase = 7 ∨ a.phase = 9 then s
    else putAct s (if a.standby then none else some { a with phase := 0 })
  | none => s

/-- A transition out of RUN takes effect once no execution is left (R181, R182): into STOP the trip captures are
released and deferred releases dropped; into HOLD a pending activation ends (R254). -/
def settleMode (s : State) : State :=
  match s.scn.pend with
  | none => s
  | some p =>
    if !p.cut ∨ !s.lanesIdle ∨ !s.scn.presented.isEmpty then s
    else
      let s := clearPend s
      if p.target = mSTOP then
        let s := { s with scn := { s.scn with intact := true }, img := { s.img with hold0 := none, hold1 := none }
                          prg := { s.prg with deferring := false, deferred := [] } }
        let s := setMode (pinRegs s) mSTOP (if p.handle = 0 then 10 else 0) s.scn.restart
        finMode (swapInStop s) p Code.OK
      else
        let s := setMode s mHOLD 0 s.scn.restart
        let s := { s with prg := { s.prg with deferring := false, deferred := [] } }
        endPending (finMode s p Code.OK) Code.PRG_MODE

/-- The D words of enabled counter rings that differ from their ring wait for idle time (R452); a word without a majority
is UNRESOLVED. -/
def ringWords (s : State) : State :=
  let vs := (List.range 3).filter fun k => s.votes k
  (List.range 64).foldl (fun s k =>
    if s.rdE F.STO_CRING_EN 0 (32 * k) = 0 then s
    else
      let d := s.rdE F.STO_CRING_DWORD 0 (32 * k)
      match pickEq (vs.map fun j => memGet (s.scn.lanes.get j).d (4 * d) 4) with
      | none => unresolved s 7 0
      | some v =>
        let pend := if v = s.ringValue k % 2 ^ 32 then Table.drop s.sto.ringPend k
          else Table.insert (Table.drop s.sto.ringPend k) k v
        { s with sto := { s.sto with ringPend := pend } }) s

/-- What the commit of a T0 execution on a cinch image starts for idle time: a retentive copy once RET_PERIOD has passed or
a swap asked for it (R198, R255), counter rings, and a primary's mirror capture (R286). -/
def cinchWork (s : State) : State :=
  if s.mode ≠ mRUN then s
  else
    let due := s.prg.retCopyDue || decide (s.scn.retLast = 0) || 0 < s.scn.retRun ||
      decide (s.scn.retLast + 1000000 * s.rd F.SCN_CFG_RET_PERIOD ≤ s.time.now)
    let s := if due then { s with scn := { s.scn with retBusy := true } } else s
    let s := ringWords s
    if s.paired ∧ s.role = 1 then updPair s fun x => { x with capDue := true } else s

/-- The drill ends with its report (PLT-8): CANCELLED, DRILL_ABORTED or OK. -/
def finishDrill (s : State) (d : Drill) (returned : Bool) : State :=
  let flags := b2n returned + 2 * b2n d.aborted + 4 * b2n d.cancelled
  let data := leBytes 16 d.doEx ++ leBytes 16 d.doFault ++ leBytes 8 d.aoEx ++ leBytes 8 d.aoFault ++ leBytes 4 d.so1 ++
    leBytes 4 d.so2 ++ leBytes 4 d.dwell ++ leBytes 4 flags
  let s := (updPair s fun x => { x with drill := none }).wr F.PLT_PSTATE_DRILL 0
  finNum s d.handle (if d.cancelled then Code.CANCELLED else if d.aborted then Code.DRILL_ABORTED else Code.OK) 0 data

/-- A commit C moves the drill on: the dwell begins on the new primary, or the return is made (R294). -/
def drillAtC (s : State) (so : Nat) : State :=
  match s.pair.drill with
  | none => s
  | some d =>
    if d.side = 1 ∧ d.phase = 0 then
      let s := (List.range 128).foldl (fun s c => putDch s c { s.dch c with used := (s.dch c).drv }) s
      updPair s fun x => { x with drill := some { d with phase := 1, from_ := s.time.xt, so1 := so } }
    else if d.side = 0 ∧ d.phase = 2 then finishDrill s { d with so2 := so } true
    else s

/-- The first commit after L opens the new primary's digital gates and its output events, and TOOK_OVER goes out (R288
step 2); the analogue gates open at once where the partner is silent. -/
def openGates (s : State) : State :=
  if !s.pair.wantC then s
  else
    let so := min (2 ^ 32 - 1) ((s.time.now - s.pair.soFrom.getD s.time.now) / 1000)
    let s := pairEvent (openDigital s) 3
    let s := if s.pair.soFrom.isSome then
        pltCase 7 Ev.SWITCHOVER 0 0 0 so ((s.wr F.PLT_PSTATE_LAST_SO so).incTo F.PLT_PSTATE_SWITCHES 0 1 255)
      else s
    let s := updPair s fun x => { x with
      wantC := false, soFrom := none, cAt := if x.silentSo then none else some s.time.now }
    let s := drillAtC s so
    if s.pair.silentSo then openAnalogue s else s

/-- The commit of an execution whose vote decided everything. -/
def commitExec (s : State) (x : Exec) (r : VoteRes) : State :=
  if x.src = 4 ∧ s.mode = mSTOP then
    let s := updPlt s fun p => { p with
      startQ := mergeQ p.startQ r.q r.mask
      startMask := r.mask.foldl (fun m e => m.write e.1 (m.read e.1 ||| e.2)) p.startMask
      startL := (List.range 3).foldl (fun t k => t.set k (mergeQ (t.get k) (x.lanes.get k).q r.mask)) p.startL }
    startNext (endExec (r.reqs.foldl request s) x)
  else
    let first := decide (x.task = 0) && !s.plt.open_
    let s := if first then
        let s := { s with img := { s.img with q := mergeQ s.img.q s.plt.startQ s.plt.startMask } }
        let s := shadowCommit s (fun k => s.plt.startL.get k) s.plt.startMask
        updPlt s fun p => { p with open_ := true, startQ := [], startMask := [], startL := ⟨[], [], []⟩ }
      else s
    let s := { s with img := { s.img with q := mergeQ s.img.q r.q r.mask } }
    let s := match x.snap with
      | some n => closeSnap s n false false false (memPut s.img.s 0x10 (memBytes x.s 0x10 0x38))
      | none => s
    let s := r.reqs.foldl request s
    let own (k : Nat) : Memory := mergeQ (memPart x.q0 0 0x210) (x.lanes.get k).q (x.lanes.get k).qmask
    let s := shadowCommit s own r.mask
    let s := if s.plt.open_ then sendCopies s else s
    let s := openGates (endExec s x)
    if x.task = 0 ∧ x.cinchImage then cinchWork s else s

/-- The snapshot an execution would have closed closes uncommitted. -/
def closeUncommitted (s : State) (x : Exec) (damaged : Bool) : State :=
  match x.snap with
  | some n => closeSnap s n false true damaged (memPut s.img.s 0x10 (memBytes x.s 0x10 0x38))
  | none => s

/-- The vote and commit of the execution presented first (R264–R266, R270). `wc` names the lanes whose copy fails its WC,
`late` those not presented within 64 lane cycles; `unc` 1 or 2 says that the execution read a word of I or P that its WC
cannot correct, at byte `off` (R167). -/
def plaitCommit (wc late unc off : Nat) (s : State) : State :=
  match s.scn.presented with
  | [] => noEffect s
  | x :: rest =>
    let s := { s with scn := { s.scn with presented := rest } }
    let vs := (List.range 3).filter fun k => s.votes k
    let absent (k : Nat) : Bool := wc.testBit k || late.testBit k || decide ((x.lanes.get k).run ≠ .ended)
    let ks := vs.filter fun k => !absent k
    let r := voteExec x ks
    let s := vs.foldl (fun s k =>
      if wc.testBit k then log Ev.STITCH [7, 1, 0, 0, 2] (s.inc F.IMG_STITCH_WC_UNCORR) else s) s
    let s := updPlt s fun p => { p with
      counted := 0
      late := vs.foldl (fun t k => t.set k (if late.testBit k then t.get k + 1 else 0)) p.late }
    let item (k : Nat) : Option (Nat × Nat) := if absent k then some (9, 0) else r.diff.get k
    let unres : Option (Nat × Nat) :=
      if unc = 1 then some (10, off) else if unc = 2 then some (11, off)
      else if ks.length < 2 then some (9, 0) else r.unres
    let one (s : State) (k : Nat) : State :=
      match item k with
      | none => s
      | some it =>
        let d := disagree (updPlt s fun p => { p with counted := p.counted ||| 2 ^ k }) k it.1 it.2
        if unres.isSome then d.1
        else if r.oddSig.testBit k then retireLane d.1 k 1
        else if d.2 then retireLane d.1 k 2
        else if 2 ≤ d.1.plt.late.get k then retireLane d.1 k 4
        else d.1
    let s := vs.foldl one s
    match unres with
    | some it =>
      let s := if unc = 0 then s
        else log Ev.STITCH ([6, if unc = 1 then 0 else 4] ++ leBytes 2 off ++ [2]) (s.inc F.IMG_STITCH_WC_UNCORR)
      settleMode (unresolved (closeUncommitted s x (decide (unc ≠ 0))) it.1 it.2)
    | none =>
      if s.mode = mFAULT then s
      else if x.discard then settleMode (completeTask (closeUncommitted s x false) x.task)
      else settleMode (commitExec s x r)

def execPlaitCommit (dt : Elapsed) (wc late unc off : Nat) (s : State) : Out :=
  .next (plaitCommit wc late unc off (advance dt s))

/-! ### Lanes on their way back (R271–R274) -/

/-- A lane that passed is cleared and votes again without a copy (R274). -/
def clearLane (s : State) (k : Nat) : State :=
  let s := { s with scn := { s.scn with lanes := s.scn.lanes.set k ⟨[], [], [], []⟩ } }
  ucodeJoined (setLane (updPlt s fun p => { p with shadow := p.shadow.set k (memPart s.img.q 0 0x210) }) k lVOTING) k

/-- LANE_TEST of lane `k` completes (R272, PLT-3); a lane with new microcode is tested again, or takes the old back (R536). -/
def laneTest (k : Nat) (pass : Bool) (s : State) : State :=
  if 3 ≤ k ∨ s.laneSt k ≠ lTESTING ∨ !s.clk.lane ∨ s.ucodeLoading k then noEffect s
  else
    let sus := s.plt.suspect.testBit k
    let s := updPlt s fun p => { p with suspect := setBits p.suspect k k 0 }
    if !pass then
      let s := pltCase 2 Ev.ADMIT_FAIL (2 ^ k) 7 0 0 s
      if s.ucodeRetests k then ucodeFailed s k else ucodeLost (setLane (s.wr (laneCauseFld k) 7) k lFAILED) k
    else if s.mode = mFAULT ∨ (sus ∧ s.mode = mSTOP) then clearLane s k
    else if s.mode = mINIT then s
    else setLane (updPlt s fun p => { p with latches := p.latches.set k 0, passes := p.passes.set k 0 }) k lCOPYING

def execLaneTest (dt : Elapsed) (k : Nat) (pass : Bool) (s : State) : Out := .next (laneTest k pass (advance dt s))

/-- The state of lane `j` is copied into lane `k`. -/
def copyLane (s : State) (j k : Nat) : State :=
  let m := { s.scn.lanes.get j with dirty := [] }
  let s := { s with scn := { s.scn with lanes := (s.scn.lanes.set j m).set k m } }
  updPlt s fun p => { p with shadow := p.shadow.set k (p.shadow.get j) }

/-- A copy pass into lane `k` completes in idle time (R273; assumption log 28). -/
def laneCopyPass (k : Nat) (s : State) : State :=
  match s.copySource with
  | none => noEffect s
  | some j =>
    if 3 ≤ k ∨ s.laneSt k ≠ lCOPYING ∨ !s.lanesIdle ∨ !s.clk.lane then noEffect s
    else updPlt (copyLane s j k) fun p => { p with passes := p.passes.set k (p.passes.get k + 1) }

def execLaneCopyPass (dt : Elapsed) (k : Nat) (s : State) : Out := .next (laneCopyPass k (advance dt s))

/-- Between a cinch latch and its T0 release lane `k` makes its final pass and joins (R273, R196). -/
def laneJoin (k : Nat) (s : State) : State :=
  match s.copySource with
  | none => noEffect s
  | some j =>
    if 3 ≤ k ∨ !s.joinOk k ∨ s.img.latchKind = 2 ∨ s.ring.lastLocal ≠ s.ring.lastLatch ∨
        s.ring.lastLatch + 4000 < s.time.now ∨ !s.clk.lane then noEffect s
    else
      let s := updPlt (copyLane s j k) fun p => { p with fails := p.fails.set k 0, retry := p.retry.set k none }
      let s := setLane { s with scn := { s.scn with intact := false } } k lVOTING
      ucodeJoined (pltCase 2 Ev.ADMIT_DONE (2 ^ k) 0 0 (s.plt.passes.get k) (s.inc F.PLT_COUNT_ADMITS)) k

def execLaneJoin (dt : Elapsed) (k : Nat) (s : State) : Out := .next (laneJoin k (advance dt s))

/-- 1,000 station cycles after a failed copy a RETIRED lane is tested again (R271). -/
def admitRetry (k : Nat) (s : State) : State :=
  match s.plt.retry.get k with
  | some n =>
    if k < 3 ∧ 1000 ≤ n ∧ s.laneSt k = lRETIRED ∧ s.is F.PLT_CFG_AUTO_ADMIT then
      setLane (updPlt s fun p => { p with retry := p.retry.set k none }) k lTESTING
    else noEffect s
  | none => noEffect s

def execAdmitRetry (dt : Elapsed) (k : Nat) (s : State) : Out := .next (admitRetry k (advance dt s))

/-! ### The live writes of PLT.LANE (PLT-11) -/

/-- READMIT: RETIRED or FAILED lanes enter TESTING; any other lane refuses the write with LANE_STATE. -/
def readmit (mask : Nat) (s : State) : State :=
  let ks := (List.range 3).filter fun k => mask.testBit k
  if ks.all fun k => decide (s.laneSt k = lRETIRED) || decide (s.laneSt k = lFAILED) then
    ks.foldl (fun s k =>
      setLane (updPlt s fun p => { p with fails := p.fails.set k 0, retry := p.retry.set k none }) k lTESTING) s
  else noEffect s

def execReadmit (dt : Elapsed) (mask : Nat) (s : State) : Out := .next (readmit mask (advance dt s))

/-- Lanes that would still vote. -/
def leftVoting (s : State) (mask : Nat) : Nat :=
  ((List.range 3).filter fun k => s.votes k && !mask.testBit k).length

/-- RETIRE with cause 5; LANE_LAST where fewer than two lanes would remain in RUN or HOLD. -/
def retire (mask : Nat) (s : State) : State :=
  if (s.mode = mRUN ∨ s.mode = mHOLD) ∧ leftVoting s mask < 2 then noEffect s
  else ((List.range 3).filter fun k => mask.testBit k).foldl (fun s k => retireLane s k 5) s

def execRetire (dt : Elapsed) (mask : Nat) (s : State) : Out := .next (retire mask (advance dt s))

end Sys2Proof.Machine
end

