-- ==== Sys2Proof/Machine/Program.lean ====
section
/-!
DEFINITION. Program banks: the image format and its checks (R235–R238, OED-7), loading (R240–R244), activation and the swap
(R245–R256).
-/

namespace Sys2Proof.Machine

/-! ### The image (OED-2 to OED-6) -/

/-- `n` records of `w` bytes. -/
def recordsOf (w : Nat) : Nat → List Nat → List (List Nat)
  | 0, _ => []
  | n + 1, b => slice b 0 w :: recordsOf w n (b.drop w)

/-- The sections of an image. -/
structure Image where
  head : List Nat
  tasks : List (List Nat)
  retain : List (List Nat)
  code : List Nat
  pool : List Nat
  insts : List (List Nat)
  relocs : List (List Nat)

/-- CODELEN, POOLLEN, NINST and NRELOC of a header. -/
def codeLenOf (h : List Nat) : Nat := leAt h 20 4
def poolLenOf (h : List Nat) : Nat := leAt h 24 4
def nInstOf (h : List Nat) : Nat := leAt h 28 4
def nRelocOf (h : List Nat) : Nat := leAt h 32 4

/-- An image taken apart (R235). -/
def parseImage (b : List Nat) : Image :=
  let h := slice b 0 64
  let words (l : List (List Nat)) : List Nat := l.map leNat
  let c := codeLenOf h
  let p := poolLenOf h
  let n := nInstOf h
  { head := h, tasks := recordsOf 16 64 (b.drop 64), retain := recordsOf 8 8 (b.drop 1088)
    code := words (recordsOf 4 c (b.drop 1152)), pool := words (recordsOf 4 p (b.drop (1152 + 4 * c)))
    insts := recordsOf 8 n (b.drop (1152 + 4 * (c + p)))
    relocs := recordsOf 8 (nRelocOf h) (b.drop (1152 + 4 * (c + p) + 8 * n)) }

/-- Table entries as the bank keeps them. -/
def taskRow (e : List Nat) : TaskRow := ⟨leAt e 0 4, leAt e 4 4, leAt e 8 4, leAt e 12 1, leAt e 13 1⟩
def retainRow (e : List Nat) : RetainRow := ⟨leAt e 0 1, leAt e 4 2, leAt e 6 2⟩
def instRec (e : List Nat) : InstRec :=
  ⟨leAt e 0 2, leAt e 2 1, (leAt e 3 1).testBit 0, (leAt e 3 1).testBit 1⟩
def relocRow (e : List Nat) : Reloc := ⟨leAt e 0 1, leAt e 1 1, leAt e 2 2, leAt e 4 2, leAt e 6 2⟩

/-- The words of code and pool that are not 0, by step. -/
def stepTable : Nat → List Nat → Table Nat
  | _, [] => []
  | k, w :: ws => if w = 0 then stepTable (k + 1) ws else (k, w) :: stepTable (k + 1) ws

/-- The bank an image gives; `digest` is that of the image. -/
def imageBank (x : Image) (digest : Nat) : Bank :=
  { words := stepTable 0 (x.code ++ x.pool), codeLen := codeLenOf x.head, poolLen := poolLenOf x.head
    progId := leAt x.head 8 4, build := leAt x.head 12 4, prevBuild := leAt x.head 16 4
    insts := x.insts.map instRec, relocs := x.relocs.map relocRow
    tasks := x.tasks.map taskRow, retain := x.retain.map retainRow, digest := digest }

/-- The first header field that breaks OED-2 or the size of R235, by its offset. -/
def headerBad (h : List Nat) (size : Nat) : Option Nat :=
  let c := codeLenOf h
  let p := poolLenOf h
  if leAt h 0 4 ≠ 0x4752505A then some 0
  else if leAt h 4 2 ≠ 1 then some 4
  else if leAt h 6 2 ≠ 0 then some 6
  else if leAt h 12 4 = 0 then some 12
  else if c = 0 ∨ 131072 < c then some 20
  else if 65536 < p ∨ 131072 < c + p then some 24
  else if 16384 < nInstOf h then some 28
  else if 1024 < nRelocOf h then some 32
  else if (slice h 36 28).any (fun b => decide (b ≠ 0)) then some 36
  else if size ≠ 1152 + 4 * (c + p) + 8 * nInstOf h + 8 * nRelocOf h then some 20
  else none

/-- Reserved bytes and the width of PRIO in a task table entry: no reason of SCN-14 names them (assumption log 33). -/
def taskForm (e : List Nat) : Bool := decide (leAt e 12 1 ≤ 15) && decide (leAt e 14 2 = 0)

/-- Step 3 of OED-7: the status and RESULT of the first entry that fails. -/
def tablesBad (cycle : Nat) (x : Image) (b : Bank) : Option (Nat × Nat) :=
  let t := (List.range 64).find? fun k =>
    !(taskForm (x.tasks.getD k [])) || (taskReason cycle (some b.codeLen) k (b.tasks.getD k ⟨0, 0, 0, 0, 0⟩)).isSome
  match t with
  | some k =>
    let r := (taskReason cycle (some b.codeLen) k (b.tasks.getD k ⟨0, 0, 0, 0, 0⟩)).getD 0
    some (Code.TASK_TABLE_INVALID, r + 65536 * k)
  | none =>
    match retainReason b.retain b.insts with
    | some (r, k) => some (Code.RETAIN_TABLE, r + 65536 * k)
    | none =>
      match (List.range 8).find? fun k => (slice (x.retain.getD k []) 1 3).any fun v => decide (v ≠ 0) with
      | some k => some (Code.RETAIN_TABLE, Reason.RETAIN_RANGE + 65536 * k)
      | none => none

/-- Step 4: the first instance record that breaks OED-4 or R237. -/
def instBad (x : Image) : Option Nat :=
  (List.range x.insts.length).find? fun i =>
    let e := x.insts.getD i []
    let id := leAt e 0 2
    let k := leAt e 2 1
    let before := x.insts.take i
    let cls (n : Nat) : Nat := if n ≤ 3 then 1 else n
    let same := (before.filter fun o => decide (cls (leAt o 2 1) = cls k)).length
    decide (id = 0) || decide (id = 0xFFFF) || decide (k = 0) || decide (5 < k) || decide (3 < leAt e 3 1) ||
      decide (leAt e 4 4 ≠ 0) || (decide (k = 5) && (leAt e 3 1).testBit 0) ||
      before.any (fun o => decide (leAt o 0 2 = id)) || decide ((if k = 5 then 8192 else 4096) ≤ same)

/-- Words of an area (R238). -/
def areaWords (a : Nat) : Nat := if a = 2 then 2048 else 32768

/-- Step 5: the first relocation entry that breaks R238. -/
def relocBad (rs : List Reloc) : Option Nat :=
  (List.range rs.length).find? fun i =>
    let r := rs.getD i ⟨0, 0, 0, 0, 0⟩
    !(decide (r.area = 2) || decide (r.area = 3)) || decide (1 < r.op) || decide (r.count = 0) ||
      decide (32768 < r.count) || decide (areaWords r.area < r.new + r.count) ||
      (decide (r.op = 0) && decide (areaWords r.area < r.old + r.count)) ||
      (rs.take i).any fun o =>
        decide (o.area = r.area) && decide (o.new < r.new + r.count) && decide (r.new < o.new + o.count)

/-- The instance an instruction names with the kinds it may have (OED-5). -/
def instRef : Instr → Option (Nat × List Nat)
  | .zEDGR id => some (id, [5])
  | .zEDGF id => some (id, [5])
  | .zTON id _ _ => some (id, [1])
  | .zTOF id _ _ => some (id, [2])
  | .zTP id _ _ => some (id, [3])
  | .zTRST id => some (id, [1, 2, 3])
  | .zTRD _ id => some (id, [1, 2, 3])
  | .zCTU _ id => some (id, [4])
  | .zCTD id => some (id, [4])
  | .zCRST id => some (id, [4])
  | .zCLDV _ id => some (id, [4])
  | .zCRD _ id => some (id, [4])
  | _ => none

/-- Step 6: the first code step that fails, with its status. -/
def codeBad (insts : List InstRec) : Nat → List Nat → Option (Nat × Nat)
  | _, [] => none
  | k, w :: ws =>
    match Zen.decodeStep w with
    | none => some (Code.UNDEFINED_STEP, k)
    | some i =>
      match instRef i with
      | none => codeBad insts (k + 1) ws
      | some (id, kinds) =>
        if insts.any fun r => decide (r.id = id) && kinds.contains r.kind then codeBad insts (k + 1) ws
        else some (Code.INSTANCE_INVALID, k)

/-- The bytes of the image in the partition of bank `k`. -/
def State.imageBytes (s : State) (k n : Nat) : List Nat :=
  denseFrom n 0 (if k = 0 then s.sto.progA else s.sto.progB)

/-- Steps 1 to 6 of OED-7: the failure, if any, and the bank. -/
def checkImage (s : State) (l : Load) : Option (Nat × Nat) × Bank :=
  let img := s.imageBytes l.bank l.size
  if beNat (Crypto.sha256 img) ≠ l.digest then (some (Code.DIGEST_MISMATCH, 0), {})
  else
    let h := slice img 0 64
    match headerBad h l.size with
    | some o => (some (Code.IMAGE_FORMAT, o), {})
    | none =>
      let x := parseImage img
      let b := imageBank x l.digest
      match tablesBad (s.rd F.NRL_CYCLE_CYCLE) x b with
      | some r => (some r, b)
      | none =>
        match instBad x with
        | some i => (some (Code.INSTANCE_INVALID, i), b)
        | none =>
          match relocBad b.relocs with
          | some i => (some (Code.RELOC_INVALID, i), b)
          | none => (codeBad b.insts 0 x.code, b)

/-! ### Loading -/

/-- The open load ends. -/
def endLoad (s : State) (status result : Nat) (loaded : Bool) : State :=
  match s.prg.load with
  | none => s
  | some l =>
    let s := { s with prg := { s.prg with load := none } }
    let s := if loaded then setBankSt s l.bank 2 else emptyBank s l.bank
    finNum s l.handle status result

/-- A load is cancelled (R244). -/
def cancelLoad (s : State) : State := endLoad s Code.CANCELLED 0 false

/-- The BANKLOAD record of a bank is invalid (R234). -/
def dropImage (s : State) (k : Nat) : State :=
  let r := s.stoRec kBANKLOAD k
  if r.s0.isNone ∧ r.s1.isNone then s
  else setIncons (putRec s ⟨kBANKLOAD, k, none, none⟩) (inconsKey kBANKLOAD k) false

/-- PRG_LOAD_BEGIN (R240). -/
def loadBegin (c : Cmd) (_ : Session) (s : State) : State × Ans :=
  let k := leAt c.payload 0 1
  let size := leAt c.payload 4 4
  if !(payOk c 40 1 3) ∨ 1 < k then refuse s Code.BAD_PAYLOAD
  else if size < 1156 ∨ 664704 < size then refuse s Code.IMAGE_SIZE
  else gateStore { lanes := true } s (
    let busy : Bool := match s.prg.act with
      | some a => decide (a.bank = k)
      | none => false
    if s.prg.active = some k then (s, .late Code.BANK_ACTIVE)
    else if s.prg.load.isSome then (s, .late Code.LOAD_BUSY)
    else if busy then (s, .late Code.ACTIVATE_BUSY)
    else
      (s, .long (.load k) fun h s =>
        let l : Load := ⟨h, k, size, beNat (slice c.payload 8 32), 0⟩
        let s := startHdl s (h % 2048)
        let s := setBankSt (emptyBank (dropImage s k) k) k 1
        { s with prg := { s.prg with load := some l } }))

def execPrgLoadBegin (dt : Elapsed) (s : State) : Out := .next (mbxRun 0x50 3 loadBegin (advance dt s))

/-- The open load that handle `n` names while it takes data. -/
def State.loadOf (s : State) (n : Nat) : Option Load :=
  match s.prg.load with
  | some l => if l.handle = n ∧ l.stage = 0 then some l else none
  | none => none

/-- PRG_LOAD_DATA (R241). -/
def loadData (c : Cmd) (_ : Session) (s : State) : State × Ans :=
  let o := leAt c.payload 0 4
  let d := c.payload.drop 4
  if c.payload.length < 4 ∨ 996 < d.length then refuse s Code.BAD_PAYLOAD
  else gateStore { lanes := true } s (
    match s.loadOf c.arg with
    | none => refuse s Code.HANDLE_STALE
    | some l =>
      if l.size < o + d.length then refuse s Code.LOAD_RANGE
      else
        let t := if l.bank = 0 then { s.sto with progA := memPut s.sto.progA o d }
          else { s.sto with progB := memPut s.sto.progB o d }
        done { s with sto := t })

def execPrgLoadData (dt : Elapsed) (s : State) : Out := .next (mbxRun 0x51 3 loadData (advance dt s))

/-- PRG_LOAD_END (R242). -/
def loadEnd (c : Cmd) (_ : Session) (s : State) : State × Ans :=
  gate { lanes := true } s (
    match s.loadOf c.arg with
    | none => refuse s Code.HANDLE_STALE
    | some l => done { s with prg := { s.prg with load := some { l with stage := 1 } } })

def execPrgLoadEnd (dt : Elapsed) (s : State) : Out := .next (mbxRun 0x52 3 loadEnd (advance dt s))

/-- PRG_ABORT (R244). -/
def loadAbort (c : Cmd) (_ : Session) (s : State) : State × Ans :=
  gate { lanes := true } s (
    match s.prg.load with
    | some l => if l.handle = c.arg then done (cancelLoad s) else refuse s Code.HANDLE_STALE
    | none =>
      match s.hdl? (c.arg % 2048) with
      | some h => if h.num = c.arg ∧ h.opcode = 0x50 then refuse s Code.ALREADY_DONE else refuse s Code.HANDLE_STALE
      | none => refuse s Code.HANDLE_STALE)

def execPrgAbort (dt : Elapsed) (s : State) : Out := .next (mbxRun 0x54 3 loadAbort (advance dt s))

/-- The image checks of OED-7, steps 1 to 6. -/
def loadChecks (s : State) : State :=
  match s.prg.load with
  | none => noEffect s
  | some l =>
    if l.stage ≠ 1 ∨ !s.clk.supv then noEffect s
    else
      match (checkImage s l).1 with
      | some (st, r) => endLoad s st r false
      | none => note { s with prg := { s.prg with load := some { l with stage := 2 } } } (l.handle % 2048) 500

def execPrgLoadChecks (dt : Elapsed) (s : State) : Out := .next (loadChecks (advance dt s))

/-- The data of a BANKLOAD record. -/
def bankloadData (b : Bank) (size : Nat) : List Nat :=
  leBytes 4 b.progId ++ leBytes 4 b.build ++ leBytes 4 size ++ beBytes 32 b.digest

/-- Steps 7 and 8 of OED-7 in idle time; `bad` names the lanes whose read-back failed twice. -/
def laneBankCopy (bad : Nat) (s : State) : State :=
  match s.prg.load with
  | none => noEffect s
  | some l =>
    if l.stage ≠ 2 ∨ !s.lanesIdle ∨ !s.clk.lane ∨ !s.clk.supv then noEffect s
    else if bad % 8 ≠ 0 then endLoad s Code.LANE_COPY_FAILED (bad % 8) false
    else if !s.storeOk then endLoad (writeAbandoned s kBANKLOAD l.bank 0x50) Code.WRITE_ABANDONED 0 false
    else
      let b := (checkImage s l).2
      let s := writeRec (putBank s l.bank (some b)) kBANKLOAD l.bank 0 (bankloadData b l.size)
      endLoad s Code.OK (b.progId + 2 ^ 32 * b.build) true

def execLaneBankCopy (dt : Elapsed) (bad : Nat) (s : State) : Out := .next (laneBankCopy bad (advance dt s))

/-- Start-up: each bank with a usable BANKLOAD record and an image of its digest is LOADED, and the one the activation record
names becomes ACTIVE (R234). -/
def banksLoaded (s : State) : State :=
  if !s.is F.CLK_START_RECALL_DONE ∨ s.is F.CLK_START_LANES_LOADED ∨ !(s.clk.lane || s.clk.limited) ∨ s.mode ≠ mINIT ∨
      !s.clk.fwRunning ∨ !s.sec.loaded.testBit 1 ∨ s.sec.laneBad then noEffect s
  else
    let one (s : State) (k : Nat) : State :=
      match s.recData kBANKLOAD k with
      | none => emptyBank s k
      | some d =>
        let img := s.imageBytes k (leAt d 8 4)
        let dig := beNat (slice d 12 32)
        if beNat (Crypto.sha256 img) = dig then setBankSt (putBank s k (some (imageBank (parseImage img) dig))) k 2
        else emptyBank s k
    let s := one (one s 0) 1
    let s := match s.recData kACTIVATION 0 with
      | none => s
      | some d =>
        let k := leAt d 0 1
        if k < 2 ∧ s.bankSt k = 2 then activateBank s k else s
    let s := (List.range 3).foldl (fun s k => if s.laneSt k = lVOTING then setLane s k lVOTING else s) s
    s.wr F.CLK_START_LANES_LOADED 1

def execBanksLoaded (dt : Elapsed) (s : State) : Out := .next (banksLoaded (advance dt s))

/-! ### Activation (OED-8) -/

/-- A staging set holds a field of SCN.Tnn or SCN.RETAIN. -/
def State.tasksStaged (s : State) : Bool :=
  s.mbx.sessions.any fun x => x.staging.any fun f => decide (f.obj = F.objSCN_T) || decide (f.obj = F.objSCN_RETAIN)

/-- The swap lead fits before the T0 that follows (R248). -/
def State.leadFits (s : State) (a : Act) : Bool :=
  decide (s.swapLead a + 4000 + s.cycNs (s.rd F.SCN_TSTAT_LAST_RUN 0) ≤ 1000 * s.rd F.SCN_T_PERIOD 0)

/-- The first failing check of OED-8. -/
def activateBad (s : State) (a : Act) : Option Nat :=
  let run := decide (s.mode = mRUN)
  let b := (s.bank? a.bank).getD {}
  let old := (s.activeBank.map (·.build)).getD 0
  let loading : Bool := match s.prg.load with
    | some l => decide (l.bank = a.bank)
    | none => false
  if !(s.mode = mSTOP ∨ s.mode = mRUN ∨ s.mode = mFAULT) then some Code.PRG_MODE
  else if s.prg.act.isSome || loading then some Code.ACTIVATE_BUSY
  else if s.bankSt a.bank ≠ 2 then some Code.BANK_EMPTY
  else if run && decide (b.prevBuild ≠ old) then some Code.BUILD_MISMATCH
  else if run && decide ((b.tasks.getD 0 ⟨0, 0, 0, 0, 0⟩).period ≠ s.rd F.SCN_T_PERIOD 0) then some Code.PERIOD_CHANGE
  else if s.tasksStaged then some Code.TASKS_STAGED
  else if run && !(s.leadFits a) then some Code.SWAP_TOO_LONG
  else if s.paired && (decide (s.role = 2) || (run && decide (s.role ≠ 1))) then some Code.NOT_PRIMARY
  else if !s.hold30 then some Code.HOLD_LOW
  else if s.storeFault then some Code.STORE_FAULT
  else none

/-- The identity of a bank as an IDENT carries it (PLT-10). -/
def identBody (s : State) (k : Nat) (reply : Nat) : List Nat :=
  let b := (s.bank? k).getD {}
  [k, s.bankSt k, reply, 0] ++ leBytes 4 b.progId ++ leBytes 4 b.build ++ beBytes 32 b.digest

/-- PRG_ACTIVATE (R245): in RUN a pair asks its partner first (R257). -/
def activate (c : Cmd) (_ : Session) (s : State) : State × Ans :=
  let k := leAt c.payload 0 1
  let w := leAt c.payload 1 1
  let a : Act := ⟨k, 0, if w = 0 then 10 else w, 0, s.time.now, s.rd F.PRG_CFG_SWAP_MARGIN, 0, 0, 0, 0, s.cinchNow, false⟩
  if !(payOk c 4 2 2) ∨ 1 < k then refuse s Code.BAD_PAYLOAD
  else gate { plan := true, lanes := true } s (
    match activateBad s a with
    | some st => refuse s st
    | none =>
      (s, .long .activate fun h s =>
        let pair := s.paired && decide (s.mode = mRUN)
        let s := startHdl s (h % 2048)
        let s := (putAct s (some { a with handle := h, phase := if pair then 3 else 0 })).wr F.PRG_ACT_PENDING 1
        if pair then pairSub s 2 (identBody s k 0) else s))

def execPrgActivate (dt : Elapsed) (s : State) : Out := .next (mbxRun 0x53 3 activate (advance dt s))

/-- A primary chooses the first cinch latch whose Q lies at least 200 µs ahead and sends SWAP_AT (R258); every choice
counts. -/
def chooseSwap (s : State) (a : Act) : State :=
  let cyc := 1000 * s.rd F.NRL_CYCLE_CYCLE
  let due := s.time.now + 200000 + s.swapLead a
  let j := if cyc = 0 then 1 else max 1 ((due - s.ring.lastLatch + cyc - 1) / cyc)
  let n := (s.ring.cinch + j) % 2 ^ 32
  pairSub (putAct s (some { a with phase := 4, cinch := n, tries := a.tries + 1 })) 3 (leBytes 4 n)

/-- No swap at a candidate: after WAIT of them the activation ends, else a pair chooses anew. -/
def nextCandidate (s : State) (a : Act) : State :=
  if a.wait ≤ a.tries then endActivation (putAct s (some a)) Code.SWAP_TIMEOUT
  else if s.paired then chooseSwap s a
  else putAct s (some { a with phase := 0 })

/-- A lane copy in progress is abandoned and restarts (R249). -/
def restartCopies (s : State) : State := updPlt s fun p => { p with passes := ⟨0, 0, 0⟩ }

/-- Q of a candidate boundary: releases are deferred from here on (R249, R259). A primary without the acknowledgement makes
no attempt (R258). -/
def swapQuietPoint (s : State) : State :=
  match s.prg.act with
  | none => noEffect s
  | some a =>
    let l := s.swapL a
    if s.mode ≠ mRUN ∨ s.time.now < l - s.swapLead a ∨ l ≤ s.time.now then noEffect s
    else if a.phase = 4 then nextCandidate s a
    else if a.phase = 5 ∨ (a.phase = 0 ∧ a.acceptedAt + 100000 ≤ l - s.swapLead a) then
      let tries := if s.paired then a.tries else a.tries + 1
      let s := putAct s (some { a with phase := 1, at_ := l, tries := tries })
      restartCopies { s with prg := { s.prg with deferring := true } }
    else noEffect s

def execSwapQuietPoint (dt : Elapsed) (s : State) : Out := .next (swapQuietPoint (advance dt s))

/-- No execution remains in progress. -/
def State.noExec (s : State) : Bool := s.lanesIdle && s.scn.presented.isEmpty

/-- The swap in RUN: a primary signals SWAPPED, a standby reports SWAP_DONE (R259). -/
def swapInRun (s : State) (a : Act) : State :=
  let n := s.cinchAt (s.swapL a)
  let s := makeSwap s a n
  if !s.paired then s
  else if a.standby then pairSub s 5 (leBytes 4 n ++ leBytes 2 Code.OK ++ [0, 0])
  else pairEvent s 1

/-- The swap: in RUN between Q and the deadline with no execution left, in STOP and FAULT at once (R249, R253, R259). -/
def programSwap (s : State) : State :=
  match s.prg.act with
  | none => noEffect s
  | some a =>
    if !s.clk.lane then noEffect s
    else if s.mode = mSTOP ∨ s.mode = mFAULT then
      if a.phase = 0 ∧ s.noExec then makeSwap s a s.cinchNow else noEffect s
    else
      let go := if a.standby then decide (a.phase = 6) else decide (a.phase = 1)
      if s.mode = mRUN ∧ go ∧ s.noExec ∧ s.time.now ≤ s.swapDeadline a then swapInRun s a else noEffect s

def execProgramSwap (dt : Elapsed) (s : State) : Out := .next (programSwap (advance dt s))

/-- The deadline passes without a swap: the deferred tasks run on the old bank (R249 point 4), a primary signals NOSWAP. -/
def swapDeadline (s : State) : State :=
  match s.prg.act with
  | none => noEffect s
  | some a =>
    if s.mode ≠ mRUN ∨ s.time.now ≤ s.swapDeadline a then noEffect s
    else if a.standby then (if a.phase = 1 ∨ a.phase = 6 then standbyMissed s a else noEffect s)
    else if a.phase ≠ 1 then noEffect s
    else
      let s := releaseDeferred s
      let s := if s.paired then pairEvent s 2 else s
      nextCandidate s a

def execSwapDeadline (dt : Elapsed) (s : State) : Out := .next (swapDeadline (advance dt s))

/-- The FIN of an activation whose record is written (R255, R256). -/
def finishActivation (s : State) (a : Act) : State :=
  let s := (putAct s none).wr F.PRG_ACT_PENDING 0
  if a.standby then s
  else finNum s a.handle Code.OK (a.cinch + 2 ^ 32 * (if a.partner = 0 then 0 else a.partner - 1))

/-- The activation record is written once the energy check allows it, and a retentive copy is due; in a pair the FIN waits for
the standby's report (R255, R256). -/
def activationRecordWrite (s : State) : State :=
  match s.prg.act with
  | none => noEffect s
  | some a =>
    if a.phase ≠ 2 ∨ !s.storeOk then noEffect s
    else
      let s := writeRec s kACTIVATION 0 0 (leBytes 8 a.bank)
      let s := { s with prg := { s.prg with retCopyDue := decide (s.mode = mRUN) || s.prg.retCopyDue } }
      if s.paired && !a.standby && decide (a.partner = 0) && decide (s.mode = mRUN) && !s.silent then
        putAct s (some { a with phase := 9 })
      else finishActivation s a

def execActivationRecordWrite (dt : Elapsed) (s : State) : Out := .next (activationRecordWrite (advance dt s))

/-- A lagging standby swaps at the first boundary that R249 permits: no execution between Q and the deadline (R260). -/
def standbyLagSwap (s : State) : State :=
  match s.prg.act with
  | none => noEffect s
  | some a =>
    let l := s.boundaryAhead
    if a.phase ≠ 7 ∨ s.mode ≠ mRUN ∨ !s.noExec ∨ !s.clk.lane ∨ s.time.now < l - s.swapLead a ∨
        l - s.swapTime a < s.time.now then noEffect s
    else
      let n := s.cinchAt l
      let s := log Ev.SWAP_LAG (leBytes 4 a.cinch ++ leBytes 4 n) ((makeSwap s a n).wr F.PRG_ACT_LAGGED 0)
      pairSub s 5 (leBytes 4 n ++ leBytes 2 Code.OK ++ [0, 0])

def execStandbyLagSwap (dt : Elapsed) (s : State) : Out := .next (standbyLagSwap (advance dt s))

end Sys2Proof.Machine
end

