-- ==== Sys2Proof/Machine/Regs.lean ====
section
/-!
DEFINITION. Whole objects of the maps as numbers: what a read returns (SCO-2), what it clears, and which bits of an
object its map reserves (R8).
-/

namespace Sys2Proof.Machine

/-- A field as a read returns it: 0 for a write-only field. -/
def readField (s : State) (r : FieldRow) (i e : Nat) : Nat :=
  match r.acc with
  | .wo => 0
  | _ => s.rdE r.fld i e

/-- One entry of an object as a number. -/
def readEntry (s : State) (d : ObjDef) (i e : Nat) : Nat :=
  (d.fields.map fun r => readField s r i e * 2 ^ r.fld.lo).foldl (· + ·) 0

/-- A whole object as a number. -/
def readObj (s : State) (d : ObjDef) (i : Nat) : Nat :=
  ((List.range d.rep).map fun k => readEntry s d i (k * d.stride) * 2 ^ (k * d.stride)).foldl (· + ·) 0

/-- A read clears the RC fields it covers: those with a bit in `lo` to `hi` of the object (SCO-2). -/
def clearRead (s : State) (d : ObjDef) (i lo hi : Nat) : State :=
  d.fields.foldl (fun s r =>
    if r.acc = .rc ∧ lo ≤ r.fld.lo ∧ r.fld.hi ≤ hi then s.wr r.fld 0 i else s) s

/-- The bits of one entry that its map defines. -/
def entryMask (d : ObjDef) : Nat :=
  (d.fields.map fun r => (2 ^ r.fld.width - 1) * 2 ^ r.fld.lo).foldl (· + ·) 0

/-- A 1 stands in a reserved bit of an entry (R8). -/
def resBits (d : ObjDef) (v : Nat) : Bool := decide (v ^^^ (v &&& entryMask d) ≠ 0)

/-! ### The link registers (NRL-15) -/

/-- The object and the word of it at a link register address; none where the map holds nothing. -/
def linkReg (a : Nat) : Option (ObjDef × Nat) :=
  match a with
  | 0x000 => some (objNRL_ID, 0)
  | 0x004 => some (objNRL_POS, 0)
  | 0x008 => some (objNRL_STATE, 0)
  | 0x00C => some (objNRL_CTRL, 0)
  | 0x010 => some (objNRL_CYCLE, 0)
  | 0x014 => some (objNRL_CINCH_DELAY_A, 0)
  | 0x018 => some (objNRL_CINCH_DELAY_B, 0)
  | 0x01C => some (objNRL_TIME, 0)
  | 0x020 => some (objNRL_TIME, 1)
  | 0x024 => some (objNRL_PROBE_A, 0)
  | 0x028 => some (objNRL_PROBE_B, 0)
  | 0x02C => some (objNRL_PROBE_ID, 0)
  | 0x030 => some (objNRL_FSEQ_HIGH, 0)
  | 0x040 => some (objNRL_PORTA_ERR, 0)
  | 0x044 => some (objNRL_PORTA_LINK, 0)
  | 0x048 => some (objNRL_PORTB_ERR, 0)
  | 0x04C => some (objNRL_PORTB_LINK, 0)
  | 0x050 => some (objNRL_CINCH_CNT, 0)
  | 0x054 => some (objNRL_CINCH_ERR, 0)
  | _ => none

/-- The reserved words of NRL-19. -/
def linkRes (a : Nat) : Bool := decide (a = 0x058) || decide (a = 0x05C)

/-- Whether every word of a link register access has an address of NRL-15. -/
def linkMapped (a n : Nat) : Bool :=
  (List.range n).all fun k => (linkReg (a + 4 * k)).isSome || linkRes (a + 4 * k)

/-- The words a link register read returns, and the state after the read. -/
def linkRead : Nat → State → Nat → List Nat × State
  | 0, s, _ => ([], s)
  | n + 1, s, a =>
    match linkReg a with
    | none =>
      let r := linkRead n s (a + 4)
      (0 :: r.1, r.2)
    | some (d, k) =>
      let w := readObj s d 0 / 2 ^ (32 * k) % 2 ^ 32
      let r := linkRead n (clearRead s d 0 (32 * k) (32 * k + 31)) (a + 4)
      (w :: r.1, r.2)

/-- The status a link register word would be refused with (R56, R71), LINK_OK where it is admitted. -/
def linkWordStatus (a w : Nat) : Nat :=
  match linkReg a with
  | none => if linkRes a then (if w = 0 then Code.LINK_OK else Code.RES_NONZERO) else Code.BAD_VALUE
  | some (d, k) =>
    if resBits d (w * 2 ^ (32 * k)) then Code.RES_NONZERO
    else
      let bad (r : FieldRow) : Bool :=
        (decide (r.acc = .rw)) && !(inRanges r.ok (bits w r.fld.hi r.fld.lo))
      if d.fields.any bad then Code.BAD_VALUE else Code.LINK_OK

/-- The status of a whole link register write before its apply cinch is looked at: the first word refused decides, and
NRL.TIME comes as both of its words (R71). -/
def linkStatus (a : Nat) (ws : List Nat) : Nat :=
  let n := ws.length
  let st := (List.range n).foldl (fun r k =>
    if r = Code.LINK_OK then linkWordStatus (a + 4 * k) (ws.getD k 0) else r) Code.LINK_OK
  let lo := decide (a ≤ 0x1C) && decide (0x1C < a + 4 * n)
  let hi := decide (a ≤ 0x20) && decide (0x20 < a + 4 * n)
  if st = Code.LINK_OK ∧ (lo != hi) then Code.BAD_VALUE else st

/-- The RW and W1C fields of one link register word take effect. -/
def linkPut (s : State) (a w : Nat) : State :=
  match linkReg a with
  | none => s
  | some (d, _) =>
    d.fields.foldl (fun s r =>
      match r.acc with
      | .rw => s.wr r.fld (bits w r.fld.hi r.fld.lo)
      | .w1c => if bits w r.fld.hi r.fld.lo = 0 then s else s.wr r.fld 0
      | _ => s) s

/-- The words of a held or immediate link register write take effect; a CYCLE that the T0 period no longer divides
takes a running module into FAULT (R186). -/
def linkApply (s : State) (a : Nat) (ws : List Nat) : State :=
  let s := (List.range ws.length).foldl (fun s k => linkPut s (a + 4 * k) (ws.getD k 0)) s
  let s := if (s.mode = mRUN ∨ s.mode = mHOLD) ∧ s.prg.active.isSome ∧ !s.cycleOk then enterFault s 9 else s
  persistReg s

end Sys2Proof.Machine
end

