-- ==== Sys2Proof/Machine/RingOps.lean ====
section
/-!
DEFINITION. Shared operations of the ring interface: ports (R33–R37), frames (R38–R46), acknowledgements (R54, R55),
the latches (R63–R66) and what they do to the image.
-/

namespace Sys2Proof

namespace Machine

/-! ### Ports -/

/-- Port states of NRL-3. -/
def pDOWN : Nat := 0
def pTRAINING : Nat := 1
def pUP : Nat := 2
def pFAULTED : Nat := 3
def pQUALIFYING : Nat := 4
def pREADY : Nat := 5

/-- The field that shows a port's state. -/
def portFld : Port → Fld
  | .A => F.NRL_CTRL_PA_ST
  | .B => F.NRL_STATE_PB_ST

/-- The number of a port in records. -/
def portNo : Port → Nat
  | .A => 0
  | .B => 1

/-- The other port. -/
def otherPort : Port → Port
  | .A => .B
  | .B => .A

/-- The state of port `p`. -/
def State.port (s : State) (p : Port) : Nat := s.rd (portFld p)

/-- Port `p` is the one that the strap LINE_END holds in FAULTED (R37). -/
def State.heldPort (s : State) (p : Port) : Bool := decide (p = .B) && s.is F.NRL_STATE_ROLE

/-- The module receives a clock on port `p`. -/
def State.clockOn (s : State) (p : Port) : Bool :=
  match p with
  | .A => s.clk.clkA
  | .B => s.clk.clkB

/-- A HEAL sub-record with the port's present state (NRL-8). -/
def heal (s : State) (p : Port) : State := queueSub s 5 0xFE ([portNo p, s.port p, 0, 0] ++ leBytes 8 s.station)

/-- Counters and wrap bits of a port. -/
def lockLoss : Port → Fld
  | .A => F.NRL_PORTA_LINK_LOCK_LOSS_A
  | .B => F.NRL_PORTB_LINK_LOCK_LOSS_B
def crcErr : Port → Fld
  | .A => F.NRL_PORTA_LINK_CRC_ERR_A
  | .B => F.NRL_PORTB_LINK_CRC_ERR_B
def upstreamErr : Port → Fld
  | .A => F.NRL_PORTA_ERR_UPSTREAM_ERR_A
  | .B => F.NRL_PORTB_ERR_UPSTREAM_ERR_B
def codeErr : Port → Fld
  | .A => F.NRL_PORTA_ERR_CODE_ERR_A
  | .B => F.NRL_PORTB_ERR_CODE_ERR_B
def wrapFld : Port → Fld
  | .A => F.NRL_STATE_WRAP_A
  | .B => F.NRL_STATE_WRAP_B

/-- A port changes state: the wrap of R35, LOCK_LOSS, the recorder, and HEAL with latch RING at a change into or out of
FAULTED and into READY (R52). A module in TRAINING is UNPLACED once a port is UP (NRL-12). -/
def setPort (s : State) (p : Port) (v : Nat) : State :=
  let old := s.port p
  if old = v then s
  else
    let s := (s.wr (portFld p) v).wr (wrapFld p) (b2n (decide (3 ≤ v)))
    let s := if v = pFAULTED then s.inc (lockLoss p) else s
    let s := if v = pUP ∧ s.rd F.NRL_STATE_MOD_ST = 1 then s.wr F.NRL_STATE_MOD_ST 2 else s
    let s := log Ev.PORT_STATE [portNo p, v] s
    if old = pFAULTED ∨ v = pFAULTED ∨ v = pREADY then setLatch 24 (heal s p) else s

/-- The reference port (R79) takes value `v` in both places that show it. -/
def setRef (s : State) (v : Nat) : State := (s.wr F.NRL_STATE_CLKSRC v).wr F.CLK_STATUS_REFPORT v

/-- An unwrap takes effect (R36): each wrapped port that is READY enters UP and the reference returns to PORT_A where
PORT_A receives a clock (R79); a wrapped port that is not READY sets UNWRAP_FAIL and reports its state. The port a
LINE_END strap holds stays wrapped. -/
def unwrapNow (s : State) : State :=
  let one (s : State) (p : Port) : State :=
    if s.heldPort p ∨ s.port p < 3 then s
    else if s.port p = pREADY then
      let s := setPort s p pUP
      if s.clk.clkA then setRef s 0 else s
    else heal (s.wr F.NRL_CTRL_UNWRAP_FAIL 1) p
  one (one { s with ring := { s.ring with pendUnwrap := none } } .A) .B

/-! ### Frames -/

end Machine

open Machine

/-- Header fields of NRL-5. -/
def RxFrame.typ (f : RxFrame) : Nat := leAt f.bytes 0 1
def RxFrame.wrapped (f : RxFrame) : Bool := (leAt f.bytes 1 1).testBit 0
def RxFrame.ackreq (f : RxFrame) : Bool := (leAt f.bytes 1 1).testBit 1
def RxFrame.dest (f : RxFrame) : Nat := leAt f.bytes 2 1
def RxFrame.len (f : RxFrame) : Nat := leAt f.bytes 4 3
def RxFrame.fseq (f : RxFrame) : Nat := leAt f.bytes 8 4
def RxFrame.hcrcOk (f : RxFrame) : Bool := decide (crc32 (slice f.bytes 0 28) = leAt f.bytes 28 4)

/-- The body, as LEN gives it. -/
def RxFrame.body (f : RxFrame) : List Nat := (f.bytes.drop 32).take f.len

/-- The frame departs from LEN (R565). -/
def RxFrame.departs (f : RxFrame) : Bool := f.cut || f.err || decide (f.bytes.length ≠ 36 + f.len)

/-- How a frame arrived (R44): 0 good, 1 damaged upstream, 2 damaged on the arriving segment. -/
def RxFrame.cls (f : RxFrame) : Nat :=
  if f.err then 1
  else if f.departs then 2
  else
    let c := crc32 (f.bytes.take (32 + f.len))
    let r := leAt f.bytes (32 + f.len) 4
    if r = c then 0 else if r = c ^^^ 0xFFFFFFFF then 1 else 2

namespace Machine

/-- The counters of R44. -/
def countFrame (s : State) (f : RxFrame) : State :=
  match f.cls with
  | 0 => s
  | 1 => s.inc (upstreamErr f.port)
  | _ => s.inc (crcErr f.port)

/-- The module receives frames at this port: it is UP and the link state forwards (NRL-12). -/
def State.hears (s : State) (p : Port) : Bool :=
  decide (s.port p = pUP) && decide (2 ≤ s.rd F.NRL_STATE_MOD_ST) && s.time.link

/-- The module has a position (PLACED or TIMED). -/
def State.placed (s : State) : Bool := decide (3 ≤ s.rd F.NRL_STATE_MOD_ST)

/-- The frame addresses this module (R46). -/
def State.addressed (s : State) (f : RxFrame) : Bool :=
  decide (f.dest = 0xFF) || (s.placed && decide (f.dest = s.rd F.NRL_POS_POS))

/-- The module acts on the frame as it passes (R46, R565). -/
def State.actsOn (s : State) (f : RxFrame) : Bool :=
  f.hcrcOk && !f.wrapped && s.addressed f && decide (f.len % 4 = 0)

/-- The header as a wrapping module sends it on (R41): an incorrect HCRC stays incorrect (assumption log 11). -/
def wrapHeader (s : State) (h : List Nat) : List Nat :=
  let ok := decide (crc32 (slice h 0 28) = leAt h 28 4)
  let h := overlay (overlay h 1 [setBits (leAt h 1 1) 0 0 1]) 7 [s.rd F.NRL_POS_POS]
  let c := crc32 (slice h 0 28)
  overlay h 28 (leBytes 4 (if ok then c else c ^^^ 0xFFFFFFFF))

/-- The frame goes on (R35, R39, R43, R565): through the other port while it is UP, turned at a wrap, else nowhere.
`body` is the body the module sends, `changed` whether it wrote into the frame. -/
def forward (s : State) (f : RxFrame) (body : List Nat) (changed : Bool) : State :=
  let out := otherPort f.port
  let turned := decide (3 ≤ s.port out)
  if ¬ (turned ∨ s.port out = pUP) then { s with ring := { s.ring with lastTx := [] } }
  else
    let h := f.bytes.take 32
    let bs := (if turned then wrapHeader s h else h) ++ body
    let changed := changed || turned
    let tx : TxFrame :=
      if !changed then ⟨if turned then f.port else out, f.bytes, f.err⟩
      else if f.departs then ⟨if turned then f.port else out, bs, true⟩
      else
        let c := crc32 bs
        ⟨if turned then f.port else out,
          bs ++ leBytes 4 (if f.cls = 0 then c else c ^^^ 0xFFFFFFFF), false⟩
    { s with ring := { s.ring with lastTx := [tx] } }

/-- A frame passes unchanged. -/
def pass (s : State) (f : RxFrame) : State := forward (countFrame s f) f f.body false

/-! ### Acknowledgements (R54, R55) -/

/-- An ACK sub-record. -/
def ackSub (s : State) (fseq status : Nat) (rep : Bool) : State :=
  queueSub s 1 0xFE (leBytes 4 fseq ++ leBytes 2 status ++ [b2n rep, 0])

/-- The sequence numbers HIGH−63 to HIGH stay on record. -/
def keepSeen (high : Nat) (l : List (Nat × Nat)) : List (Nat × Nat) :=
  l.filter fun e => decide ((high + 2 ^ 32 - e.1) % 2 ^ 32 ≤ 63)

/-- A frame is on record with its status; one answered LINK_BUSY is not (R55). -/
def seenFrame (s : State) (fseq high status : Nat) : State :=
  if status = Code.LINK_BUSY then s
  else
    let s := s.wr F.NRL_FSEQ_HIGH_HIGH high
    { s with ring := { s.ring with seen := keepSeen high (s.ring.seen ++ [(fseq, status)]) } }

/-- NRL-9: a frame whose body is applied by `act`, which answers the status of the action. -/
def ackFlow (s : State) (f : RxFrame) (act : State → State × Nat) : State :=
  let n := f.fseq
  if !f.ackreq then (act s).1
  else if f.dest = 0xFF then
    let r := act s
    ackSub r.1 n r.2 false
  else if n = 0 then ackSub s 0 Code.FRAME_REFUSED false
  else
    let high := s.rd F.NRL_FSEQ_HIGH_HIGH
    let d := (n + 2 ^ 32 - high) % 2 ^ 32
    let old := s.ring.seen.find? fun e => decide (e.1 = n)
    if 1 ≤ d ∧ d ≤ 2 ^ 31 - 1 then
      let r := act s
      ackSub (seenFrame r.1 n n r.2) n r.2 false
    else if d = 0 ∨ 2 ^ 32 - 63 ≤ d then
      match old with
      | some e => ackSub s n e.2 true
      | none =>
        if d = 0 then ackSub s n Code.STALE_FRAME false
        else
          let r := act s
          ackSub (seenFrame r.1 n high r.2) n r.2 false
    else ackSub s n Code.STALE_FRAME false

/-- A frame of type `t` that the module applies only after a good frame CRC: `act` on its body, then the frame goes on
unchanged (R46). -/
def applyFrame (s : State) (t : Nat) (f : RxFrame) (act : State → State × Nat) : State :=
  if !s.hears f.port then s
  else
    let ok := s.actsOn f && decide (f.typ = t) && decide (f.cls = 0) && s.placed
    let s := pass s f
    if ok then ackFlow s f act else s

/-! ### Time and latches -/

/-- TIME_LINK is recorded (R456): its TIME is station time, its ARG the calendar of the same crystal period. -/
def timeLink (s : State) : State :=
  log Ev.TIME_LINK (leBytes 8 s.calendar) { s with rtc := { s.rtc with linkXt := s.time.xt } }

/-- The number nearest to `p` whose low 16 bits are `r` (R63). -/
def nearest (p r : Nat) : Nat :=
  let d := (r + 65536 - p % 65536) % 65536
  if d < 32768 then (p + d) % 2 ^ 32 else (p + 2 ^ 32 + d - 65536) % 2 ^ 32

/-- The marker delay of a port [ns]. -/
def State.delay (s : State) : Port → Nat
  | .A => s.rd F.NRL_CINCH_DELAY_A_DELAY
  | .B => s.rd F.NRL_CINCH_DELAY_B_DELAY

/-- E of R65: the previous latch plus NRL.CYCLE, as an instant of the LINK base. -/
def State.expected (s : State) : Nat := s.ring.lastLatch + 1000 * s.rd F.NRL_CYCLE_CYCLE

/-- The module latches at cinches: TIMED, and NRL.CYCLE is not 0. -/
def State.latches (s : State) : Bool := s.timed && decide (s.rd F.NRL_CYCLE_CYCLE ≠ 0)

/-- The difference of two instants. -/
def apart (a b : Nat) : Nat := if a ≤ b then b - a else a - b

/-- Cinch latching stops: CINCH_LOST, the record, latch RING, and FAULT where the configuration asks for it (R65, R58,
R187). -/
def stopLatching (s : State) : State :=
  let s := { s with ring := { s.ring with latching := false, due := [] } }
  let s := setLatch 24 (log Ev.CINCH_LOST (leBytes 4 s.ring.cinch) (s.wr F.NRL_CTRL_CINCH_LOST 1))
  let s := if s.rd F.SCN_CFG_CINCH_LOST_ACT = 1 then enterFault s 6 else s
  persistReg s

/-- A pending NRL.TIME whose cinch is `n` sets station time at the latch instant, and the module is TIMED (R63, R78). -/
def applyTime (s : State) (n at_ : Nat) : State :=
  match s.ring.pendTime with
  | some (a, v) =>
    if a = n then
      let s := setStation { s with ring := { s.ring with pendTime := none } } v at_
      timeLink ((s.wr F.NRL_STATE_MOD_ST 4).wr F.CLK_START_TIMED 1)
    else s
  | none => s

/-- The first latch after an LCLK change (R93). -/
def afterChange (s : State) (n : Nat) : State :=
  match s.clk.changeFrom with
  | none => s
  | some c =>
    let lost := (n + 2 ^ 32 - c - 1) % 2 ^ 32
    let s := { s with clk := { s.clk with changeFrom := none } } |>.wr F.CLK_LOST_CYCLES_COUNT lost
    log Ev.LCLK_CHANGE ([s.clk.oldLclk, s.rd F.CLK_STATUS_LCLK_NOM] ++ leBytes 2 lost ++ leBytes 4 s.clk.bridgeAge) s

/-- A cinch or substitute latch with number `n` at instant `at_` (R64, R65): the new image and its snapshot, except in
INIT, where only numbers are kept (assumption log 12). The snapshot of the cycle before is the up-part's (R21). -/
def latchNow (s : State) (n at_ kind bad : Nat) : State :=
  let s := { s with ring := { s.ring with
    cinch := n, latched := true, latching := true, lastLatch := at_, lastLocal := at_, localOn := true } }
  let s := afterChange (applyTime s n at_) n
  let s := latchPair (persistReg s)
  if s.mode = mINIT ∨ !s.clk.image then s
  else
    let t := s.stationAt at_
    let s := { s with img := { s.img with upClaim := some ((n + 2 ^ 32 - 1) % 2 ^ 32) } }
    let s := processReports (buildImage s kind n t bad)
    latchLanes (openSnap s n t s.img.hwrites (decide (kind = 3)))

end Machine

end Sys2Proof
end

