-- ==== Sys2Proof/Machine/Ring.lean ====
section
/-!
DEFINITION. The ring interface: meanings of the port, unwrap, link register, enumeration, marker, latch and probe
commands, and of the frames whose bodies the module reads or fills as they pass.
-/

namespace Sys2Proof.Machine

/-! ### Ports (NRL-3) -/

/-- A clock appears on a port (R33, R79): before the link PLL runs it also settles which port is the reference. -/
def portClockDetect (p : Port) (s : State) : State :=
  let c := match p with
    | .A => { s.clk with clkA := true }
    | .B => { s.clk with clkB := true }
  let s := { s with clk := c }
  let s := if s.time.link then s else setRef s (b2n (!s.clk.clkA))
  if s.time.link && decide (s.port p = pDOWN) && !s.heldPort p then setPort s p pTRAINING else s

def execPortClockDetect (dt : Elapsed) (p : Port) (s : State) : Out := .next (portClockDetect p (advance dt s))

/-- A training port that met 64 error-free patterns is UP (R34). -/
def portTrained (p : Port) (s : State) : State := if s.port p = pTRAINING then setPort s p pUP else noEffect s

def execPortTrained (dt : Elapsed) (p : Port) (s : State) : Out := .next (portTrained p (advance dt s))

/-- A segment fault on an UP port (R69), with the code errors met since the last command. -/
def portFault (p : Port) (errors : Nat) (s : State) : State :=
  if s.port p = pUP then setPort (s.inc (codeErr p) 0 errors) p pFAULTED else noEffect s

def execPortFault (dt : Elapsed) (p : Port) (errors : Nat) (s : State) : Out :=
  .next (portFault p errors (advance dt s))

/-- A FAULTED port is aligned and receives no F = 1 (R34). -/
def portQualify (p : Port) (s : State) : State :=
  if s.port p = pFAULTED ∧ !s.heldPort p then
    let s := setPort s p pQUALIFYING
    match p with
    | .A => { s with ring := { s.ring with qualA := s.time.now } }
    | .B => { s with ring := { s.ring with qualB := s.time.now } }
  else noEffect s

def execPortQualify (dt : Elapsed) (p : Port) (s : State) : Out := .next (portQualify p (advance dt s))

/-- When a port began QUALIFYING. -/
def State.qualFrom (s : State) : Port → Nat
  | .A => s.ring.qualA
  | .B => s.ring.qualB

/-- A QUALIFYING port has seen 1,000 station ticks without a code error (R36). -/
def portReady (p : Port) (s : State) : State :=
  if s.port p = pQUALIFYING ∧ s.qualFrom p + 1000000 ≤ s.time.now then setPort s p pREADY else noEffect s

def execPortReady (dt : Elapsed) (p : Port) (s : State) : Out := .next (portReady p (advance dt s))

/-- A code error takes a QUALIFYING port back to FAULTED (R34). -/
def qualifyingCodeError (p : Port) (s : State) : State :=
  if s.port p = pQUALIFYING then setPort (s.inc (codeErr p)) p pFAULTED else noEffect s

def execQualifyingCodeError (dt : Elapsed) (p : Port) (s : State) : Out :=
  .next (qualifyingCodeError p (advance dt s))

/-! ### Link register writes -/

/-- The apply cinch of a held write has latched. -/
def State.cinchPassed (s : State) (a : Nat) : Bool := s.ring.latched && !(after32 a s.ring.cinch)

/-- An unwrap is requested for its apply cinch, or acts at once when that is 0 (R36, R71). -/
def unwrap (apply : Nat) (s : State) : State :=
  if apply = 0 then unwrapNow s else { s with ring := { s.ring with pendUnwrap := some apply } }

def execUnwrap (dt : Elapsed) (apply : Nat) (s : State) : Out := .next (unwrap apply (advance dt s))

/-- The apply cinch of a requested unwrap. -/
def unwrapApply (s : State) : State :=
  match s.ring.pendUnwrap with
  | some a => if s.cinchPassed a then unwrapNow s else noEffect s
  | none => noEffect s

def execUnwrapApply (dt : Elapsed) (s : State) : Out := .next (unwrapApply (advance dt s))

/-- NRL.TIME becomes pending for its apply cinch (R63); with an apply cinch of 0 it is the station time at once
(R71, assumption log 13). -/
def nrlTime (apply value : Nat) (s : State) : State :=
  if !s.placed then noEffect s
  else if apply = 0 then timeLink (setStation s (value % 2 ^ 64) s.time.now)
  else { s with ring := { s.ring with pendTime := some (apply, value % 2 ^ 64) } }

def execNrlTime (dt : Elapsed) (apply value : Nat) (s : State) : Out := .next (nrlTime apply value (advance dt s))

/-- The words of a link register write act at once or wait for their cinch; NRL.TIME and UNWRAP go their own way. -/
def mgmtPlace (s : State) (addr apply : Nat) (ws : List Nat) : State :=
  let n := ws.length
  let s := if addr ≤ 0x1C ∧ 0x20 < addr + 4 * n then
      nrlTime apply (ws.getD ((0x1C - addr) / 4) 0 + 2 ^ 32 * ws.getD ((0x20 - addr) / 4) 0) s
    else s
  let s := if addr ≤ 0x0C ∧ 0x0C < addr + 4 * n ∧ (ws.getD ((0x0C - addr) / 4) 0).testBit 1 then unwrap apply s else s
  if apply = 0 then linkApply s addr ws
  else { s with ring := { s.ring with held := s.ring.held ++ [⟨apply, addr, ws⟩] } }

/-- The words in the rest of a body. -/
def bodyWords : Nat → List Nat → List Nat
  | 0, _ => []
  | n + 1, b => leAt b 0 4 :: bodyWords n (b.drop 4)

/-- The action of an MGMT_W body (R71): LEN, then each word, then the apply cinch decide. -/
def mgmtWrite (body : List Nat) (s : State) : State × Nat :=
  let addr := leAt body 0 2
  let n := leAt body 2 2
  let apply := leAt body 4 4
  if body.length ≠ 8 + 4 * n then (s, Code.FRAME_REFUSED)
  else
    let ws := bodyWords n (body.drop 8)
    let st := linkStatus addr ws
    if st ≠ Code.LINK_OK then (s, st)
    else if apply ≠ 0 ∧ s.timed ∧ s.cinchPassed apply then (s, Code.LATE_APPLY)
    else (mgmtPlace s addr apply ws, Code.LINK_OK)

def execMgmtW (dt : Elapsed) (f : RxFrame) (s : State) : Out :=
  .next (applyFrame (advance dt s) 4 f (mgmtWrite f.body))

/-- The held writes whose cinch has latched take effect, in the order they came (R71). -/
def linkRegApply (s : State) : State :=
  let now := s.ring.held.filter fun h => s.cinchPassed h.apply
  let s' := { s with ring := { s.ring with held := s.ring.held.filter fun h => !(s.cinchPassed h.apply) } }
  now.foldl (fun s h => linkApply s h.addr h.words) s'

def execLinkRegApply (dt : Elapsed) (s : State) : Out := .next (linkRegApply (advance dt s))

/-- The action of an MGMT_R body: the words read go out in an MGMT_RSP sub-record. -/
def mgmtRead (fseq : Nat) (body : List Nat) (s : State) : State × Nat :=
  let addr := leAt body 0 2
  let n := leAt body 2 2
  if body.length ≠ 4 then (s, Code.FRAME_REFUSED)
  else if !(linkMapped addr n) then (s, Code.BAD_VALUE)
  else
    let r := linkRead n s addr
    (queueSub r.2 4 0xFE (leBytes 4 fseq ++ leBytes 2 addr ++ leBytes 2 n ++
      r.1.foldr (fun w l => leBytes 4 w ++ l) []), Code.LINK_OK)

def execMgmtR (dt : Elapsed) (f : RxFrame) (s : State) : Out :=
  .next (applyFrame (advance dt s) 5 f (mgmtRead f.fseq f.body))

/-! ### Enumeration (R58, R59) -/

/-- NEXT as the module passes it on. -/
def nextOn (p : Port) (n : Nat) : Nat :=
  match p with
  | .A => (n + 1) % 256
  | .B => (n + 255) % 256

/-- An ASSIGN acts: the position, HIGH of R54, and a TIMED module leaves TIMED (R58). -/
def enumTake (next : Nat) (s : State) : State :=
  let was := s.timed
  let s := { s with ring := { s.ring with seen := [], pendTime := none } } |>.wr F.NRL_FSEQ_HIGH_HIGH 0
  let s := if next ≤ 63 then
      updPair (((s.wr F.NRL_POS_POS next).wr F.NRL_POS_PLACED 1).wr F.NRL_STATE_MOD_ST 3) fun x => { x with helloRun := 500 }
    else ((s.wr F.NRL_POS_POS 0x3F).wr F.NRL_POS_PLACED 0).wr F.NRL_STATE_MOD_ST 2
  let s := s.wr F.CLK_START_TIMED 0
  if was then stopLatching s else s

/-- An ENUM frame with mode `m` passes: `edit` gives the body sent on, `take` what a good frame does. -/
def enumFrame (m : Nat) (edit : State → List Nat → List Nat) (take : State → State) (f : RxFrame) (s : State) : State :=
  if !s.hears f.port then s
  else
    let b := f.body
    let mine := s.actsOn f && decide (f.typ = 6) && decide (leAt b 0 1 = m) && decide (f.len = 12)
    if !mine then pass s f
    else
      let ack := f.ackreq && s.placed
      let s := forward (countFrame s f) f (edit s b) true
      if f.cls ≠ 0 then s
      else if ack then ackFlow s f fun s => (take s, Code.LINK_OK)
      else take s

/-- The ASSIGN body the module sends: NEXT beyond its own position, or OVERFLOW (R59). -/
def assignBody (p : Port) (b : List Nat) : List Nat :=
  let n := leAt b 1 1
  if n ≤ 63 then overlay b 1 [nextOn p n] else overlay b 2 [setBits (leAt b 2 1) 0 0 1]

def execEnumAssign (dt : Elapsed) (f : RxFrame) (s : State) : Out :=
  .next (enumFrame 1 (fun _ b => assignBody f.port b) (enumTake (leAt f.body 1 1)) f (advance dt s))

/-- The VERIFY body the module sends: its MISMATCH bit where its position differs (R59). -/
def verifyBody (p : Port) (s : State) (b : List Nat) : List Nat :=
  let n := leAt b 1 1
  let pos := s.rd F.NRL_POS_POS
  let b := if s.placed ∧ n = pos then b
    else overlay b (4 + pos / 8) [setBits (leAt b (4 + pos / 8) 1) (pos % 8) (pos % 8) 1]
  overlay b 1 [nextOn p n]

def execEnumVerify (dt : Elapsed) (f : RxFrame) (s : State) : Out :=
  .next (enumFrame 2 (verifyBody f.port) id f (advance dt s))

/-! ### Markers and latches -/

/-- A copy of the marker just latched arrives at the other port (R64): the two latch instants are compared. -/
def secondCopy (p : Port) (s : State) : State :=
  let at_ := s.time.now + s.delay p
  let s := if 40 < apart at_ s.ring.copyAt then s.inc F.NRL_CINCH_CNT_CINCH_SKEW else s
  { s with ring := { s.ring with copyPort := none } }

/-- The marker of cinch `n` sets its latch; a second copy before the latch leaves the PORT_A instant standing (R64). -/
def setDue (s : State) (n : Nat) (p : Port) (ann : Bool) : State :=
  let at_ := s.time.now + s.delay p
  let s := { s with img := { s.img with closedFor := some n } }
  match s.ring.due.find? fun d => decide (d.cinch = n) with
  | none => { s with ring := { s.ring with due := s.ring.due ++ [⟨n, at_, p, ann⟩] } }
  | some d =>
    if d.port = p then s
    else
      let s := if 40 < apart at_ d.at_ then s.inc F.NRL_CINCH_CNT_CINCH_SKEW else s
      let e : DueLatch := ⟨n, if p = .A then at_ else d.at_, .A, d.ann || ann⟩
      { s with ring := { s.ring with due := s.ring.due.map fun x => if x.cinch = n then e else x } }

/-- The substitute latch at E is fixed (R65): no accepted marker for the next cinch came by E − 2 µs. -/
def State.substFixed (s : State) : Bool :=
  s.latches && s.ring.latching && s.ring.due.isEmpty && decide (s.expected < s.time.now + 2000)

/-- A marker with number `n` meets a TIMED module (R63–R66). -/
def timedMarker (s : State) (p : Port) (n : Nat) (ann : Bool) : State :=
  let last := s.ring.cinch
  if !(after32 n last) then
    if n = last ∧ s.ring.copyPort = some p then secondCopy p s else s.inc F.NRL_CINCH_ERR_CINCH_NUMERR
  else if n = (last + 1) % 2 ^ 32 ∧ s.substFixed then s.inc F.NRL_CINCH_ERR_CINCH_JITTER
  else setDue s n p ann

/-- A CINCH set: K28.1 on `lanes` lanes, then its three data bytes and the check byte (R63). -/
def cinchMarker (p : Port) (lanes r0 r1 flags check : Nat) (s : State) : State :=
  if !s.hears p ∨ lanes < 3 ∨ s.rd F.NRL_CYCLE_CYCLE = 0 then noEffect s
  else
    let good := decide (crc8 [r0, r1, flags] = check)
    let r := r0 % 256 + 256 * (r1 % 256)
    let ann := good && flags.testBit 0
    if s.timed then
      if good then timedMarker s p (nearest ((s.ring.cinch + 1) % 2 ^ 32) r) ann
      else timedMarker (s.inc F.NRL_CINCH_ERR_CINCH_NUMERR) p ((s.ring.cinch + 1) % 2 ^ 32) false
    else if s.placed then
      match s.ring.pendTime with
      | none => noEffect s
      | some (a, _) =>
        if !good then s.inc F.NRL_CINCH_ERR_CINCH_NUMERR
        else
          let n := nearest a r
          if n = a then setDue s n p false
          else if after32 n a then { s with ring := { s.ring with pendTime := none } }
          else noEffect s
    else noEffect s

def execCinchMarker (dt : Elapsed) (p : Port) (lanes r0 r1 flags check : Nat) (s : State) : Out :=
  .next (cinchMarker p lanes r0 r1 flags check (advance dt s))

/-- The latch of an accepted marker (R64, R66), with the announcement of R91. -/
def cinchLatch (bad : Nat) (s : State) : State :=
  match s.ring.due with
  | [] => noEffect s
  | d :: ds =>
    if s.time.now < d.at_ then noEffect s
    else
      let s := if s.ring.latching && decide (2000 < apart d.at_ s.expected) then
          s.inc F.NRL_CINCH_ERR_CINCH_JITTER else s
      let s := { s with ring := { s.ring with
        due := ds, substRun := 0, copyPort := some (otherPort d.port), copyAt := d.at_
        announced := if d.ann then some d.cinch else s.ring.announced } }
      latchNow s d.cinch d.at_ 1 bad

def execCinchLatch (dt : Elapsed) (bad : Nat) (s : State) : Out := .next (cinchLatch bad (advance dt s))

/-- The substitute latch at E (R65). -/
def substituteLatch (bad : Nat) (s : State) : State :=
  if s.substFixed ∧ s.expected ≤ s.time.now ∧ s.ring.substRun < 2 then
    let n := (s.ring.cinch + 1) % 2 ^ 32
    let e := s.expected
    let s := s.inc F.NRL_CINCH_CNT_CINCH_SUBST
    let s := { s with ring := { s.ring with substRun := s.ring.substRun + 1, copyPort := none } }
    latchNow { s with img := { s.img with closedFor := some n } } n e 3 bad
  else noEffect s

def execSubstituteLatch (dt : Elapsed) (bad : Nat) (s : State) : Out := .next (substituteLatch bad (advance dt s))

/-- The third missing marker (R65). -/
def cinchLost (s : State) : State :=
  if s.substFixed ∧ s.ring.substRun = 2 then stopLatching s else noEffect s

def execCinchLost (dt : Elapsed) (s : State) : Out := .next (cinchLost (advance dt s))

/-- The next T0 period boundary, an instant of the LINK base. -/
def State.nextBoundary (s : State) : Nat := s.ring.lastLocal + 1000 * s.rd F.SCN_T_PERIOD 0

/-- A T0 period boundary that is no cinch latch (R185–R187): a local latch, omitted when an accepted marker's latch lies
less than 50 µs behind it. -/
def localLatch (bad : Nat) (s : State) : State :=
  let b := s.nextBoundary
  if !s.ring.localOn ∨ s.rd F.SCN_T_PERIOD 0 < 50 ∨ s.time.now < b ∨ (s.ring.latching ∧ s.expected ≤ b) ∨
      s.mode = mINIT ∨ !s.clk.image then noEffect s
  else
    let near := s.ring.due.any fun d => decide (d.at_ < b + 50000)
    let s := boundaryPair { s with ring := { s.ring with lastLocal := b } }
    if near then s else processReports (buildImage s 2 s.ring.cinch (s.stationAt b) bad)

def execLocalLatch (dt : Elapsed) (bad : Nat) (s : State) : Out := .next (localLatch bad (advance dt s))

/-- An accepted PROBE set (R569). -/
def probe (p : Port) (b0 b1 b2 check : Nat) (s : State) : State :=
  if s.hears p ∧ crc8 [b0, b1, b2] = check then
    let t := (s.time.now - s.time.probeAt) % 2 ^ 32
    match p with
    | .A => (s.wr F.NRL_PROBE_A_ARRIVAL t).wr F.NRL_PROBE_ID_ID_A b0
    | .B => (s.wr F.NRL_PROBE_B_ARRIVAL t).wr F.NRL_PROBE_ID_ID_B b0
  else noEffect s

def execProbe (dt : Elapsed) (p : Port) (b0 b1 b2 check : Nat) (s : State) : Out :=
  .next (probe p b0 b1 b2 check (advance dt s))

/-! ### Carriers (R50, R51) -/

/-- The completion records of a CPL item that are still in the queue. -/
def cplRecs (s : State) (q n : Nat) : List CqRec :=
  s.mbx.cq.filter fun r => decide ((r.seq + 2 ^ 32 - q) % 2 ^ 32 < n)

/-- Records now stand in a carrier. -/
def markPlaced (s : State) (q n : Nat) : State :=
  { s with mbx := { s.mbx with cq := s.mbx.cq.map fun r =>
      if (r.seq + 2 ^ 32 - q) % 2 ^ 32 < n then { r with placed := true, at_ := s.time.now } else r } }

/-- Sub-records are placed in the order they became ready, each only whole; a CPL may take fewer records. -/
def fillCarrier : Nat → State → List Nat → Nat → Nat → State × List Nat × Nat
  | 0, s, b, fill, _ => (s, b, fill)
  | k + 1, s, b, fill, room =>
    match s.ring.subq with
    | [] => (s, b, fill)
    | .sub bs :: q =>
      if fill + bs.length ≤ room then
        fillCarrier k { s with ring := { s.ring with subq := q } } (overlay b (20 + fill) bs) (fill + bs.length) room
      else (s, b, fill)
    | .cpl c n :: q =>
      let rs := cplRecs s c n
      let fit := min rs.length (min 16 ((room - fill - 12) / 32))
      if rs.isEmpty then fillCarrier k { s with ring := { s.ring with subq := q } } b fill room
      else if fit = 0 ∨ room < fill + 12 then (s, b, fill)
      else
        let now := rs.take fit
        let bs := subRecord s 2 0xFE (now.foldr (fun r l => recBytes r ++ l) [])
        let first := (now.head?.map (·.seq)).getD c
        let used := (first + 2 ^ 32 - c) % 2 ^ 32 + fit
        let q := if fit < rs.length then .cpl ((c + used) % 2 ^ 32) (n - used) :: q else q
        let s := markPlaced { s with ring := { s.ring with subq := q } } first fit
        fillCarrier k s (overlay b (20 + fill) bs) (fill + bs.length) room

/-- A carrier passes. -/
def carrier (f : RxFrame) (s : State) : State :=
  if !s.hears f.port then s
  else if !(s.actsOn f && decide (f.typ = 2) && s.placed && decide (20 ≤ f.body.length)) then pass s f
  else
    let pos := s.rd F.NRL_POS_POS
    let mark (b : List Nat) (o : Nat) : List Nat :=
      overlay b (o + pos / 8) [setBits (leAt b (o + pos / 8) 1) (pos % 8) (pos % 8) 1]
    let s := countFrame s f
    let b := f.body
    let attn := !s.hostActive.isEmpty
    let b := if attn then mark b 0 else b
    let fill := leAt b 16 4
    let r := fillCarrier (s.ring.subq.length + 2048) s b fill (f.len - 20)
    let wait := !r.1.ring.subq.isEmpty
    let b := overlay (if wait then mark r.2.1 8 else r.2.1) 16 (leBytes 4 r.2.2)
    forward r.1 f b (attn || wait || decide (r.2.2 ≠ fill))

def execCarrier (dt : Elapsed) (f : RxFrame) (s : State) : Out := .next (carrier f (advance dt s))

/-! ### Image frames (R47–R49, R157, R162, R163) -/

/-- The entries of a down-part (IMG-7); none where one runs past the host region or the part. -/
def downEntries : Nat → List Nat → Option (List (Nat × List Nat))
  | 0, _ => some []
  | k + 1, b =>
    if b.length < 4 then some []
    else
      let o := leAt b 0 2
      let l := leAt b 2 1
      if l = 0 then some []
      else if b.length < 4 + l ∨ 2048 < o + l then none
      else
        match downEntries k (b.drop (4 + (l + 3) / 4 * 4)) with
        | some es => some ((o, slice b 4 l) :: es)
        | none => none

/-- A down-part with a correct DCRC is staged for WRITE_CINCH, or for the next cinch when it came late (R48, R156). -/
def stageDown (s : State) (part : List Nat) (wc : Nat) : State :=
  let late : Bool := match s.img.closedFor with
    | some c => s.timed && atOrBeyond c wc
    | none => false
  let due := if late then s.dueCinch else some wc
  match downEntries 1024 part with
  | none => s.wr F.IMG_STATUS_DN_FORMAT 1
  | some es =>
    let l := es.map fun e => (⟨0, e.1, e.2, due⟩ : StagedWrite)
    let size := (l.map stagedSize).foldl (· + ·) 0
    if 8192 < s.stagedUse 0 + size then s.inc F.IMG_STITCH_DN_DROP
    else
      let s := l.foldl stageWrite s
      if late ∧ es ≠ [] then { s with ring := { s.ring with lateWrite := true } } else s

/-- The down-part of this module's slot. -/
def takeDown (s : State) (body : List Nat) (off dn wc : Nat) : State :=
  let s := { s with ring := { s.ring with downBad := false, lateWrite := false } }
  if dn = 0 ∨ body.length < off + dn then s
  else
    let part := slice body off (dn - 4)
    if crc32 part = leAt body (off + dn - 4) 4 then stageDown s part wc
    else { s with ring := { s.ring with downBad := true } }

/-- The bytes of an area of a snapshot. -/
def snapBytes (x : Snap) (area o n : Nat) : List Nat :=
  match area with
  | 1 => memBytes x.i o n
  | 2 => memBytes x.q o n
  | 3 => memBytes x.s o n
  | _ => []

/-- The ranges of IMG.UPMAP packed in list order (R162). -/
def packUp (s : State) (x : Snap) : List Nat :=
  (List.range 16).foldr (fun k l =>
    snapBytes x (s.rdE F.IMG_UPMAP_AREA 0 (64 * k)) (s.rdE F.IMG_UPMAP_OFFSET 0 (64 * k))
      (s.rdE F.IMG_UPMAP_LEN 0 (64 * k)) ++ l) []

/-- The up-part of `n` bytes for UP_CINCH `up` (NRL-7, R150), and the state after it. -/
def fillUp (s : State) (up n : Nat) : List Nat × State :=
  let flags := 4 * b2n s.ring.downBad + 8 * b2n s.ring.lateWrite
  let pay := n - 20
  let open_ : Bool := match s.snap? up with
    | some x => !x.closed
    | none => true
  let r : List Nat × State :=
    match s.snap? up with
    | none => (leBytes 4 up ++ [2 + flags, 0, 0, 0] ++ leBytes 8 0 ++ List.replicate pay 0, s)
    | some x =>
      if open_ then (leBytes 4 up ++ [2 + flags, 0, 0, 0] ++ leBytes 8 x.latchTime ++ List.replicate pay 0, s)
      else if x.damaged then
        (leBytes 4 up ++ [flags + 16 * b2n x.subst, 0, 0, 0] ++ leBytes 8 x.latchTime ++ List.replicate pay 0, s)
      else
        let p := packUp s x
        (leBytes 4 up ++ [1 + flags + 16 * b2n x.subst, 0, 0, 0] ++ leBytes 8 x.latchTime ++ slice p 0 pay,
          if pay < p.length then s.wr F.IMG_STATUS_UP_TRUNC 1 else s)
  (r.1 ++ leBytes 4 (crc32 r.1), r.2)

/-- A candidate up-part of source `src` for subscription `k` (R163). -/
def peerTake (s : State) (k : Nat) (part : List Nat) : State :=
  let n := part.length
  if n < 20 ∨ crc32 (slice part 0 (n - 4)) ≠ leAt part (n - 4) 4 then s.inc F.IMG_STITCH_UCRC_FAIL
  else
    let up := leAt part 0 4
    let fl := leAt part 4 1
    let old := s.img.peers.find? fun c => decide (c.entry = k)
    let newer : Bool := match old with
      | none => true
      | some c => after32 up c.upcinch
    if !newer ∨ ¬ (fl.testBit 0 ∨ fl.testBit 1) then s
    else
      let pay := if fl.testBit 1 then (match old with
          | some c => c.payload
          | none => []) else slice part 16 (n - 20)
      let c : PeerCopy := ⟨k, up, 4 * b2n (fl.testBit 1) + 8 * b2n (fl.testBit 4), leAt part 8 8, pay⟩
      { s with img := { s.img with peers := s.img.peers.filter (fun x => decide (x.entry ≠ k)) ++ [c] } }

/-- An up-part of `src` is offered to every enabled subscription that names it. -/
def peerOffer (s : State) (src : Nat) (part : List Nat) : State :=
  (List.range 16).foldl (fun s k =>
    if s.rdE F.IMG_SUBS_EN 0 (64 * k) = 1 ∧ s.rdE F.IMG_SUBS_SRC 0 (64 * k) = src then peerTake s k part else s) s

/-- The extension keeps the limits of R47. -/
def imageLimits (f : RxFrame) : Bool :=
  let b := f.body
  let sl := leAt b 0 2
  let dn := leAt b 2 2
  let ns := leAt b 5 1
  decide (64 ≤ sl) && decide (sl ≤ 4096) && decide (sl % 32 = 0) &&
    (decide (dn = 0) || (decide (32 ≤ dn) && decide (dn ≤ sl - 32) && decide (dn % 32 = 0))) &&
    decide (1 ≤ ns) && decide (ns ≤ 64) && decide (f.len = 20 + ns * sl) && decide (20 ≤ b.length)

/-- An IMAGE frame passes: peers are taken from its up-parts, its own slot is served and the frame goes on (R47). -/
def imageFrame (f : RxFrame) (s : State) : State :=
  if !s.hears f.port then s
  else if !(s.actsOn f && decide (f.typ = 1) && s.placed && imageLimits f && s.clk.image) then pass s f
  else
    let b := f.body
    let sl := leAt b 0 2
    let dn := leAt b 2 2
    let first := leAt b 4 1
    let ns := leAt b 5 1
    let pos := s.rd F.NRL_POS_POS
    let s := countFrame s f
    let s := (List.range ns).foldl (fun s i =>
      if first + i = pos ∨ b.length < 20 + (i + 1) * sl then s
      else peerOffer s (first + i) (slice b (20 + i * sl + dn) (sl - dn))) s
    if pos < first ∨ first + ns ≤ pos then forward s f b false
    else
      let o := 20 + (pos - first) * sl
      let up := fillUp s (leAt b 12 4) (sl - dn)
      let s := takeDown up.2 b o dn (leAt b 8 4)
      let b := overlay b 6 (leBytes 2 (leAt b 6 2 + 1))
      let b := if b.length ≤ o + dn then b else (overlay b (o + dn) up.1).take b.length
      forward s f b true

def execImageFrame (dt : Elapsed) (f : RxFrame) (s : State) : Out := .next (imageFrame f (advance dt s))

/-- The up-parts a PEER frame relays (R49). -/
def peerEntries : Nat → State → List Nat → State
  | 0, s, _ => s
  | k + 1, s, b =>
    if b.length < 4 then s
    else
      let n := leAt b 0 2
      if b.length < 4 + n then s
      else peerEntries k (peerOffer s (leAt b 2 1) (slice b 4 n)) (b.drop (4 + n))

/-- A PEER frame passes. -/
def peerFrame (f : RxFrame) (s : State) : State :=
  if !s.hears f.port then s
  else
    let ok := s.actsOn f && decide (f.typ = 7) && s.placed && s.clk.image
    let s := pass s f
    if ok then peerEntries 1024 s f.body else s

def execPeerFrame (dt : Elapsed) (f : RxFrame) (s : State) : Out := .next (peerFrame f (advance dt s))

end Sys2Proof.Machine
end

