-- ==== Sys2Proof/Machine/Pair.lean ====
section
/-!
DEFINITION. Hot-standby pairs: heartbeat, establishment and eligibility (R279–R282), claims and switch-over (R283–R291),
mirroring (R285–R287), leases, return and the drill (R292–R294), and the messages of a pair swap (R257–R260).
-/

namespace Sys2Proof.Machine

/-! ### Establishment and eligibility -/

/-- MIRDIG: the CRC-32 over PLT.MIRROR in force. -/
def State.mirDig (s : State) : Nat := crc32 (objBytes s objPLT_MIRROR 0)

/-- BUILD of the active bank. -/
def State.activeBuild (s : State) : Nat := (s.activeBank.map (·.build)).getD 0

/-- The conditions under which the pair is ESTABLISHED, from the partner's HELLO. -/
def State.agrees (s : State) (h : Nat × Nat × Nat) : Bool :=
  decide (b2n (h.1.testBit 1) ≠ s.rd F.PLT_PAIR_SIDE) && decide (h.1.testBit 0 ≠ s.is F.PLT_PAIR_PREFERRED) &&
    decide (h.2.1 = s.mirDig) && decide (h.2.2 = s.activeBuild)

/-- PSTATE (PLT-15). -/
def State.pstate (s : State) : Nat :=
  if !s.paired then 0
  else if s.silent then 4
  else match s.pair.hello with
    | none => 1
    | some h => if s.agrees h then 2 else 3

/-- No group has FRAME_STALE or a missing supply. -/
def State.groupsGood (s : State) : Bool :=
  ((List.range 8).all fun g => decide ((s.dgg g).bad = 0) && decide ((s.dgg g).supply ≠ 0)) &&
    ((List.range 4).all fun g => decide ((s.agg g).bad = 0) && decide ((s.agg g).supply ≠ 0))

/-- A mirror of one of the last 3 cinches is applied. -/
def State.mirrorFresh (s : State) : Bool := match s.pair.applied with
  | some c => decide ((s.ring.cinch + 2 ^ 32 - c) % 2 ^ 32 ≤ 3)
  | none => false

/-- R281; the primary is taken to have three lanes VOTING (assumption log 34). -/
def State.eligible (s : State) : Bool :=
  decide (s.pstate = 2) && decide (s.role = 2) && decide (s.mode = mRUN) && decide (s.voting = 3) &&
    !s.is F.PRG_ACT_LAGGED && s.mirrorFresh && s.groupsGood && !s.is F.PLT_LANE_VOTER_FAULT

/-- PLT.PAIR.STATE follows, and how long the module has been ELIGIBLE. -/
def refreshPair (s : State) : State :=
  let e := s.eligible
  let s := ((s.wr F.PLT_PSTATE_PSTATE s.pstate).wr F.PLT_PSTATE_ELIGIBLE (b2n e)).wr F.PLT_PSTATE_LEASED
    (b2n s.pair.lease.isSome)
  updPair s fun x => { x with eligFrom := if e then (match x.eligFrom with
      | some t => some t
      | none => some s.time.xt) else none }

/-- A beat or sub-record of the partner has arrived (R280). -/
def heardPartner (s : State) : State :=
  (updPair s fun x => { x with quiet := 0, heard := true }).wr F.PLT_PSTATE_SOLO 0

/-! ### What events do -/

/-- A claim is sent: `lead` decides its boundary (R283). -/
def claim (s : State) (t lead : Nat) : State :=
  if s.pair.claim.isSome then s else updPair s fun x => { x with claim := some (t, lead) }

/-- TOOK_OVER reaches the old primary (R288 step 3): outputs released, analogue first, ROLE 2 or 0, RELEASED sent; a pending
activation ends (R291). The digital release is part of this step (assumption log 35). -/
def tookOver (s : State) : State :=
  if !s.paired ∨ s.role ≠ 1 then noEffect s
  else
    let run := decide (s.mode = mRUN) || decide (s.mode = mHOLD)
    let s := updPair (releaseDigital (releaseAnalogue s)) fun x => { x with
      hold := none, yieldAt := none, claim := none, wantC := false, cAt := none }
    let s := if run then setRole s 2 else disarmOutputs (setRole s 0)
    let s := pltCase 7 Ev.SWITCHOVER 0 0 0 (s.rd F.PLT_PSTATE_LAST_SO) (s.incTo F.PLT_PSTATE_SWITCHES 0 1 255)
    let s := refreshPair (endPending (pairEvent s 4) Code.PAIR_BUSY)
    match s.pair.drill with
    | none => s
    | some d =>
      if d.side = 0 ∧ d.phase = 0 then updPair s fun x => { x with drill := some { d with phase := 1, from_ := s.time.xt } }
      else if d.side = 1 ∧ d.phase = 2 then
        finishDrill s.useFree { d with so2 := s.nextFree % 2 ^ 32 } true
      else s

def execTookOver (dt : Elapsed) (s : State) : Out := .next (tookOver (advance dt s))

/-- RELEASED reaches the new primary (R288 step 4). -/
def released (s : State) : State :=
  if s.pair.cAt.isSome then openAnalogue (updPair s fun x => { x with cAt := none }) else noEffect s

def execReleased (dt : Elapsed) (s : State) : Out := .next (released (advance dt s))

/-- 150 µs after C without RELEASED (R288 step 4). -/
def analogueGateTimeout (s : State) : State :=
  match s.pair.cAt with
  | some c => if c + 150000 ≤ s.time.now then released s else noEffect s
  | none => noEffect s

def execAnalogueGateTimeout (dt : Elapsed) (s : State) : Out := .next (analogueGateTimeout (advance dt s))

/-- SWAPPED reaches a standby (R259 point 3): it swaps as soon as no execution is left, by L; later it lags (R260). -/
def swapped (s : State) : State :=
  match s.prg.act with
  | none => noEffect s
  | some a =>
    if !a.standby ∨ s.mode ≠ mRUN then noEffect s
    else if a.phase = 8 then (putAct s (some { a with phase := 7 })).wr F.PRG_ACT_LAGGED 1
    else if a.phase = 1 ∨ a.phase = 5 then
      let s := { putAct s (some { a with phase := 6 }) with prg := { s.prg with
        act := some { a with phase := 6 }, deferring := true } }
      if s.noExec ∧ s.time.now ≤ s.swapL a then swapInRun s { a with phase := 6 } else s
    else noEffect s

def execSwapped (dt : Elapsed) (s : State) : Out := .next (swapped (advance dt s))

/-- NOSWAP reaches a standby (R259 point 4). -/
def noswap (s : State) : State :=
  match s.prg.act with
  | none => noEffect s
  | some a =>
    if a.standby ∧ (a.phase = 1 ∨ a.phase = 5 ∨ a.phase = 8) then
      releaseDeferred ((putAct s (some { a with phase := 3 })).wr F.PRG_ACT_PENDING 0)
    else noEffect s

def execNoswap (dt : Elapsed) (s : State) : Out := .next (noswap (advance dt s))

/-- A new event of the heartbeat acts, each ESEQ once (R279). -/
def beatEvent (s : State) (b1 : Nat) : State :=
  let e := b1 % 16
  let q := b1 / 16 % 16
  if e = 0 ∨ s.pair.rxEseq = some q then s
  else
    let s := updPair s fun x => { x with rxEseq := some q }
    match e with
    | 1 => swapped s
    | 2 => noswap s
    | 3 => tookOver s
    | 4 => released s
    | _ => s

/-! ### The heartbeat -/

/-- Claims, yields and roles of the partner (R282–R284). -/
def judgePartner (s : State) : State :=
  let s := if s.pClaims then
      let s := if s.pair.claim.isSome then conflict s else s
      let kept : Bool := match s.pair.lease with
        | some (1, _) => true
        | _ => false
      if s.role = 1 ∧ s.pElig ∧ !kept then setYield s else s
    else s
  let s := if s.pRole = 1 ∧ s.role = 1 ∧ !s.pYields ∧ s.pair.yieldAt.isNone then
      updPair s fun x => { x with both := true }
    else s
  let s := if s.pRole = 1 ∧ s.role = 0 ∧ s.mode = mRUN ∧ s.pair.claim.isNone then standbyOutputs (setRole s 2) else s
  if s.pYields ∧ s.role = 2 ∧ s.mode = mRUN then
    let s := updPair s fun x => { x with soFrom := match x.soFrom with
      | some t => some t
      | none => some s.time.now }
    claim s s.time.now 20000
  else s

/-- A PAIRBEAT with a correct check on the shared segment (R74, R279). -/
def pairbeatReceive (p : Port) (b0 b1 b2 check : Nat) (s : State) : State :=
  if !s.paired ∨ p ≠ s.sharedPort ∨ !s.hears p ∨ crc8 [b0, b1, b2] ≠ check then noEffect s
  else
    let s := heardPartner s
    let s := (s.wr F.PLT_PSTATE_PARTNER_ROLE (b0 % 4)).wr F.PLT_PSTATE_PARTNER_MODE (b0 / 64 % 4)
    let s := s.wr F.PLT_PSTATE_PARTNER_ELIG (b0 / 16 % 2)
    let s := updPair s fun x => { x with beat := b0 }
    refreshPair (beatEvent (judgePartner s) b1)

def execPairbeatReceive (dt : Elapsed) (p : Port) (b0 b1 b2 check : Nat) (s : State) : Out :=
  .next (pairbeatReceive p b0 b1 b2 check (advance dt s))

/-- The beat the module sends (PLT-6). -/
def beatBytes (s : State) : List Nat :=
  let y := decide (s.role = 0) || s.pair.yieldAt.isSome
  [s.role + 4 * b2n s.pair.claim.isSome + 8 * b2n y + 16 * s.rd F.PLT_PSTATE_ELIGIBLE +
    32 * s.rd F.PLT_PAIR_PREFERRED + 64 * s.beatMode,
   (if s.pair.txLeft = 0 then 0 else s.pair.txEvent) + 16 * s.pair.txEseq, s.cinchNow % 256]

/-- The module sends a beat on the shared segment (R74). -/
def pairbeatSend (s : State) : State :=
  if !s.paired ∨ !s.placed ∨ s.port s.sharedPort ≠ pUP ∨ !s.time.link then noEffect s
  else
    let s := refreshPair s
    let b := beatBytes s
    updPair s fun x => { x with lastBeat := b ++ [crc8 b], txLeft := x.txLeft - 1 }

def execPairbeatSend (dt : Elapsed) (s : State) : Out := .next (pairbeatSend (advance dt s))

/-- Three station cycles without a beat or sub-record (R280): the standby promotes where SILENCE_ACT is 0 (R284). A pending
report of the partner is no longer awaited. -/
def partnerSilence (s : State) : State :=
  if !s.paired ∨ !s.silent ∨ s.rd F.PLT_PSTATE_PSTATE = 4 then noEffect s
  else
    let s := refreshPair (s.wr F.PLT_PSTATE_PARTNER_ELIG 0)
    let s := if s.role = 2 ∧ s.mode = mRUN ∧ s.rd F.PLT_PAIR_SILENCE_ACT = 0 then
        let s := updPair s fun x => { x with claim := some (s.ring.lastLatch, 0), soFrom := some s.time.now }
        pltCase 9 Ev.SILENT_PROMOTE 0 0 0 0 (s.wr F.PLT_PSTATE_SOLO 1)
      else s
    let s := match s.prg.act with
      | some a => if a.phase = 9 then finishActivation s a
          else if a.standby ∧ (a.phase = 3 ∨ a.phase = 8) then putAct s none else s
      | none => s
    match s.pair.drill with
    | some d => finishDrill s { d with aborted := true } false
    | none => s

def execPartnerSilence (dt : Elapsed) (s : State) : Out := .next (partnerSilence (advance dt s))

/-- A claim takes effect at its T0 boundary (R283): ROLE 1; the gates open at the commit C (R288). -/
def claimEffect (s : State) : State :=
  match s.pair.claim with
  | none => noEffect s
  | some (t, lead) =>
    if s.ring.lastLocal < t + lead ∨ s.mode ≠ mRUN then noEffect s
    else
      let s := match s.prg.act with
        | some a => if a.standby ∧ a.phase ≠ 2 ∧ a.phase ≠ 7 then releaseDeferred ((putAct s none).wr F.PRG_ACT_PENDING 0) else s
        | none => s
      refreshPair (updPair (setRole s 1) fun x => { x with
        claim := none, wantC := true, silentSo := s.silent, yieldAt := none })

def execClaimEffect (dt : Elapsed) (s : State) : Out := .next (claimEffect (advance dt s))

/-- The hold ends without TOOK_OVER: the safe values follow (R289). -/
def pairHoldExpiry (s : State) : State :=
  match s.pair.hold, s.pair.yieldAt with
  | some kind, some t =>
    if t + 2000 * s.rd F.SCN_T_PERIOD 0 + 300000 ≤ s.time.now then
      roleOff (disarmOutputs (sendCommand (updPair s fun x => { x with hold := none }) kind))
    else noEffect s
  | _, _ => noEffect s

def execPairHoldExpiry (dt : Elapsed) (s : State) : Out := .next (pairHoldExpiry (advance dt s))

/-! ### Pair sub-records (PLT-10) -/

/-- A PAIR sub-record of type `t` from the partner. -/
def State.pairBody (s : State) (t : Nat) (b : List Nat) : Bool :=
  s.paired && s.placed && decide (leAt b 0 1 = t) && s.time.link

/-- A HELLO is due: 500 station cycles have passed, or the module became PLACED, or PLT objects were committed. -/
def helloSend (s : State) : State :=
  if s.paired ∧ s.placed ∧ 500 ≤ s.pair.helloRun then
    let f := s.rd F.PLT_PAIR_PREFERRED + 2 * s.rd F.PLT_PAIR_SIDE
    updPair (pairSub s 1 ([f, 0, 0, 0] ++ leBytes 4 s.mirDig ++ leBytes 4 s.activeBuild)) fun x =>
      { x with helloRun := 0 }
  else noEffect s

def execHelloSend (dt : Elapsed) (s : State) : Out := .next (helloSend (advance dt s))

/-- A HELLO is taken and the pair judged (R281). -/
def hello (b : List Nat) (s : State) : State :=
  if s.pairBody 1 b then
    refreshPair (updPair (heardPartner s) fun x => { x with hello := some (leAt b 4 1, leAt b 8 4, leAt b 12 4) })
  else noEffect s

def execHello (dt : Elapsed) (body : List Nat) (s : State) : Out := .next (hello body (advance dt s))

/-- The identity in an IDENT equals that of the module's own LOADED bank. -/
def State.sameIdent (s : State) (b : List Nat) : Bool :=
  match s.bank? (leAt b 4 1) with
  | some x => decide (s.bankSt (leAt b 4 1) = 2) && decide (leAt b 5 1 = 2) && decide (leAt b 8 4 = x.progId) &&
      decide (leAt b 12 4 = x.build) && decide (beNat (slice b 16 32) = x.digest)
  | none => false

/-- An IDENT query is answered; an answer decides the activation (R257). -/
def ident (b : List Nat) (s : State) : State :=
  if !(s.pairBody 2 b) ∨ 1 < leAt b 4 1 then noEffect s
  else
    let s := heardPartner s
    let k := leAt b 4 1
    if leAt b 6 1 = 0 then
      let free : Bool := match s.prg.act with
        | some a => a.standby && decide (a.phase ≠ 2) && decide (a.phase ≠ 7)
        | none => true
      let s := if free && s.sameIdent b && decide (s.role = 2) && decide (s.mode = mRUN) then
          putAct s (some ⟨k, 0, 0, 0, s.time.now, s.rd F.PRG_CFG_SWAP_MARGIN, 3, 0, 0, 0, s.cinchNow, true⟩)
        else s
      pairSub s 2 (identBody s k 1)
    else
      match s.prg.act with
      | some a =>
        if a.standby ∨ a.phase ≠ 3 ∨ a.bank ≠ k then s
        else if s.sameIdent b then chooseSwap s a
        else endActivation s Code.PARTNER_IMAGE
      | none => s

def execIdent (dt : Elapsed) (body : List Nat) (s : State) : Out := .next (ident body (advance dt s))

/-- No answer within 3 station cycles (R257). -/
def identTimeout (s : State) : State :=
  match s.prg.act with
  | some a =>
    if !a.standby ∧ a.phase = 3 ∧ 3 ≤ (s.ring.cinch + 2 ^ 32 - a.asked) % 2 ^ 32 then endActivation s Code.PARTNER_SILENT
    else noEffect s
  | none => noEffect s

def execIdentTimeout (dt : Elapsed) (s : State) : Out := .next (identTimeout (advance dt s))

/-- SWAP_AT: the standby takes the swap cinch and acknowledges it (R258). -/
def swapAt (b : List Nat) (s : State) : State :=
  if !(s.pairBody 3 b) then noEffect s
  else
    let s := heardPartner s
    match s.prg.act with
    | some a =>
      if a.standby ∧ (a.phase = 3 ∨ a.phase = 5 ∨ a.phase = 8) then
        let n := leAt b 4 4
        let a := { a with phase := 5, cinch := n, acceptedAt := s.time.now, margin := s.rd F.PRG_CFG_SWAP_MARGIN }
        pairSub ((putAct s (some a)).wr F.PRG_ACT_PENDING 1) 4 (leBytes 4 n)
      else s
    | none => s

def execSwapAt (dt : Elapsed) (body : List Nat) (s : State) : Out := .next (swapAt body (advance dt s))

/-- SWAP_ACK fixes the swap cinch (R258). -/
def swapAck (b : List Nat) (s : State) : State :=
  if !(s.pairBody 4 b) then noEffect s
  else
    let s := heardPartner s
    match s.prg.act with
    | some a => if !a.standby ∧ a.phase = 4 ∧ a.cinch = leAt b 4 4 then putAct s (some { a with phase := 5 }) else s
    | none => s

def execSwapAck (dt : Elapsed) (body : List Nat) (s : State) : Out := .next (swapAck body (advance dt s))

/-- SWAP_DONE: the standby's swap cinch (R256, R260). -/
def swapDone (b : List Nat) (s : State) : State :=
  if !(s.pairBody 5 b) then noEffect s
  else
    let s := heardPartner s
    let n := leAt b 4 4
    match s.prg.act with
    | some a =>
      if a.standby ∨ !(a.phase = 2 ∨ a.phase = 9) then s
      else
        let s := s.wr F.PRG_ACT_LAGGED 0
        let s := if n = a.cinch then s else log Ev.SWAP_LAG (leBytes 4 a.cinch ++ leBytes 4 n) s
        let a := { a with partner := n + 1 }
        if a.phase = 9 then finishActivation s a else putAct s (some a)
    | none => s

def execSwapDone (dt : Elapsed) (body : List Nat) (s : State) : Out := .next (swapDone body (advance dt s))

/-! ### Mirroring (R285–R287) -/

/-- The instances a mirror entry names that the active program has. -/
def mirrorIds (b : Bank) (start count : Nat) : List Nat :=
  (List.range count).filterMap fun i => if b.insts.any fun r => decide (r.id = start + i) then some (start + i) else none

/-- The items of the mirror set in order: area (2 M, 3 D words, 7 instances) and number. -/
def mirrorItems (s : State) : List (Nat × Nat) :=
  let b := s.activeBank.getD {}
  (List.range 16).flatMap fun k =>
    let st := s.rdE F.PLT_MIRROR_START 0 (64 * k)
    let n := s.rdE F.PLT_MIRROR_COUNT 0 (64 * k)
    match s.rdE F.PLT_MIRROR_AREA 0 (64 * k) with
    | 1 => (List.range n).map fun i => (2, st + i)
    | 2 => (List.range n).map fun i => (3, st + i)
    | 3 => (mirrorIds b st n).map fun i => (7, i)
    | _ => []

/-- The bytes of an item as lane memory `l` holds it; an instance's state is padded to whole words (assumption log 26). -/
def itemBytes (b : Bank) (l : LaneMem) (it : Nat × Nat) : List Nat :=
  match it.1 with
  | 2 => memBytes l.m (4 * it.2) 4
  | 3 => memBytes l.d (4 * it.2) 4
  | _ =>
    let k := b.kindOf it.2
    let bs := instBytes k (Table.find {} l.inst it.2)
    leBytes 2 it.2 ++ [0, 0] ++ slice bs 0 ((bs.length + 3) / 4 * 4)

/-- The voted data of the mirror set, or the byte offset of the first item without a majority. -/
def mirrorData (b : Bank) (ls : List LaneMem) : List (Nat × Nat) → Nat → List Nat → Except Nat (List Nat)
  | [], _, acc => .ok acc
  | it :: its, o, acc =>
    match pickEq (ls.map fun l => itemBytes b l it) with
    | none => .error o
    | some bs => mirrorData b ls its (o + bs.length) (acc ++ bs)

/-- MIRROR sub-records of an image in ascending order, at most 1,000 data bytes each (PLT-9). -/
def mirrorSubs : Nat → State → Nat → Nat → Nat → List Nat → State
  | 0, s, _, _, _, _ => s
  | k + 1, s, n, o, total, img =>
    if img.isEmpty then s
    else
      let d := img.take 1000
      let s := queueSub s 6 s.partnerPos (leBytes 4 n ++ leBytes 2 o ++ leBytes 2 total ++ d)
      mirrorSubs k s n (o + d.length) total (img.drop 1000)

/-- A primary captures its mirror set in idle time and sends it (R286). -/
def mirrorCapture (s : State) : State :=
  if !s.pair.capDue ∨ !s.paired ∨ s.role ≠ 1 ∨ !s.lanesIdle ∨ !s.clk.lane ∨ s.is F.PRG_ACT_LAGGED then noEffect s
  else
    let s := updPair s fun x => { x with capDue := false }
    let b := s.activeBank.getD {}
    let ls := ((List.range 3).filter fun k => s.votes k).map fun k => s.scn.lanes.get k
    match mirrorData b ls (mirrorItems s) 16 [] with
    | .error o => unresolved s 8 o
    | .ok d =>
      let n := s.cinchNow
      let img := leBytes 4 n ++ leBytes 4 (20 + d.length) ++ leBytes 8 0 ++ d
      let img := img ++ leBytes 4 (crc32 img)
      mirrorSubs 16 s n 0 img.length img

def execMirrorCapture (dt : Elapsed) (s : State) : Out := .next (mirrorCapture (advance dt s))

/-- Bytes that the received ranges cover. -/
def covered (got : List (Nat × Nat)) : Nat := (got.map (·.2)).foldl (· + ·) 0

/-- A MIRROR sub-record enters the receive buffer; a complete image with a correct CRC waits to be applied (R287). -/
def mirrorIn (b : List Nat) (s : State) : State :=
  if !s.paired ∨ !s.placed ∨ !s.time.link ∨ b.length < 8 then noEffect s
  else
    let s := heardPartner s
    let n := leAt b 0 4
    let o := leAt b 4 2
    let total := leAt b 6 2
    let d := b.drop 8
    if s.role ≠ 2 ∨ s.is F.PRG_ACT_LAGGED ∨ 8192 < total ∨ total < o + d.length then s
    else
      let cur : Option MirrorRx := match s.pair.rx with
        | some x => if x.cinch = n then some x else if after32 n x.cinch then some ⟨n, total, List.replicate total 0, []⟩ else none
        | none => some ⟨n, total, List.replicate total 0, []⟩
      match cur with
      | none => s
      | some x =>
        if total ≠ x.total then s
        else
          let got := if x.got.contains (o, d.length) then x.got else x.got ++ [(o, d.length)]
          let x := { x with data := overlay x.data o d, got := got }
          if covered got < x.total then updPair s fun y => { y with rx := some x }
          else
            let s := updPair s fun y => { y with rx := none }
            if crc32 (x.data.take (x.total - 4)) = leAt x.data (x.total - 4) 4 then
              let s := if s.pair.ready.isSome then s.incTo F.PLT_PSTATE_MIR_MISS 0 1 15 else s
              updPair s fun y => { y with ready := some (n, x.data) }
            else s

def execMirror (dt : Elapsed) (body : List Nat) (s : State) : Out := .next (mirrorIn body (advance dt s))

/-- One item of a mirror image enters a lane; a running timer takes its LAST from the lane's own T0 release. -/
def putItem (b : Bank) (tick : Nat) (l : LaneMem) (it : Nat × Nat) (bs : List Nat) : LaneMem :=
  match it.1 with
  | 2 => { l with m := memPut l.m (4 * it.2) bs }.touch (4 * it.2 / 256)
  | 3 => { l with d := memPut l.d (4 * it.2) bs }.touch (32 + 4 * it.2 / 256)
  | _ =>
    let k := b.kindOf it.2
    let old := Table.find {} l.inst it.2
    let x := instOf k (bs.drop 4)
    let x := { x with pt := old.pt, unit := old.unit, last := if k ≤ 3 ∧ x.running then tick else x.last }
    { l with inst := Table.put {} l.inst it.2 x }.touch (b.instPage it.2 k)

/-- Every item of a mirror image enters a lane. -/
def putItems (b : Bank) (tick : Nat) : List (Nat × Nat) → List Nat → LaneMem → LaneMem
  | [], _, l => l
  | it :: its, bs, l =>
    let n := (itemBytes b l it).length
    putItems b tick its (bs.drop n) (putItem b tick l it (slice bs 0 n))

/-- When the next T0 or PERIODIC release falls due, as time from now [ns]. -/
def State.nextRelease (s : State) : Nat :=
  let t0 := (if s.time.now < s.ring.lastLocal + 4000 then s.ring.lastLocal else s.boundaryAhead) + 4000 - s.time.now
  (List.range 64).foldl (fun n k =>
    let p := s.rd F.SCN_T_PERIOD k
    if k = 0 ∨ s.rd F.SCN_T_SRC k ≠ 1 ∨ p = 0 then n
    else min n (1000 * (p - (s.station + p - s.rd F.SCN_T_PHASE k % p) % p))) t0

/-- A complete mirror image is applied to all VOTING lanes in a free interval (R287). -/
def mirrorApply (s : State) : State :=
  match s.pair.ready with
  | none => noEffect s
  | some (n, img) =>
    if !s.paired ∨ s.role ≠ 2 ∨ s.mode ≠ mRUN ∨ !s.noExec ∨ !s.clk.lane ∨ s.is F.PRG_ACT_LAGGED ∨
        s.nextRelease ≤ s.cycNs (400 + img.length / 2) + 2000 then noEffect s
    else
      let b := s.activeBank.getD {}
      let tick := match s.pair.t0Ticks.find? fun e => decide (e.1 = n) with
        | some e => e.2
        | none => s.runTicks
      let items := mirrorItems s
      let f (t : Trio LaneMem) (k : Nat) : Trio LaneMem :=
        if s.votes k then t.set k (putItems b tick items (img.drop 16) (t.get k)) else t
      let lanes := (List.range 3).foldl f s.scn.lanes
      refreshPair (updPair { s with scn := { s.scn with lanes := lanes } } fun x =>
        { x with ready := none, applied := some n })

def execMirrorApply (dt : Elapsed) (s : State) : Out := .next (mirrorApply (advance dt s))

/-! ### Leases, return, drill -/

/-- A switch-over, a drill or a fixed swap is in progress (R291, R292). -/
def State.pairBusy (s : State) : Bool :=
  s.pair.claim.isSome || s.pair.yieldAt.isSome || s.pair.wantC || s.pair.cAt.isSome || s.pair.drill.isSome ||
    (match s.prg.act with
      | some a => !(decide (a.phase = 0) || decide (a.phase = 3) || decide (a.phase = 4))
      | none => false)

/-- The module that would become primary is ELIGIBLE. -/
def State.otherReady (s : State) : Bool := if s.role = 2 then s.eligible else s.pElig

/-- PAIR_LEASE (R292). -/
def pairLease (c : Cmd) (_ : Session) (s : State) : State × Ans :=
  let r := leAt c.payload 0 1
  let sec := leAt c.payload 2 2
  let s := refreshPair s
  let switch := (decide (r = 1) && decide (s.role = 2)) || (decide (r = 2) && decide (s.role = 1))
  if !(payOk c 4 1 1) ∨ r = 0 ∨ 2 < r ∨ 3600 < sec then refuse s Code.BAD_PAYLOAD
  else gate {} s (
    if s.pstate ≠ 2 then refuse s Code.NOT_PAIRED
    else if sec = 0 then
      let s := refreshPair (updPair s fun x => { x with lease := none })
      (s, .imm Code.OK s.role [])
    else if switch && !(decide (s.mode = mRUN) && decide (s.rd F.PLT_PSTATE_PARTNER_MODE = 1)) then
      refuse s Code.PAIR_MODE
    else if switch && !s.otherReady then refuse s Code.NOT_ELIGIBLE
    else if s.pairBusy then refuse s Code.PAIR_BUSY
    else
      let role := s.role
      let s := updPair s fun x => { x with lease := some (r, s.time.xt + 32768 * sec) }
      let s := if switch then (if r = 1 then claim s s.time.now 120000 else setYield s) else s
      (refreshPair s, .imm Code.OK (role + 256 * b2n switch) []))

def execPairLease (dt : Elapsed) (s : State) : Out := .next (mbxRun 0x60 2 pairLease (advance dt s))

/-- A lease ends against the crystal. -/
def leaseExpiry (s : State) : State :=
  match s.pair.lease with
  | some (_, t) => if t ≤ s.time.xt then refreshPair (updPair s fun x => { x with lease := none }) else noEffect s
  | none => noEffect s

def execLeaseExpiry (dt : Elapsed) (s : State) : Out := .next (leaseExpiry (advance dt s))

/-- The PREFERRED module claims primacy back (R293); `partnerLease` says that the partner holds a lease for PRIMARY. -/
def returnHold (partnerLease : Bool) (s : State) : State :=
  let s := refreshPair s
  let standbyLease : Bool := match s.pair.lease with
    | some (2, _) => true
    | _ => false
  match s.pair.eligFrom with
  | some t =>
    if s.is F.PLT_PAIR_AUTO_RETURN ∧ s.is F.PLT_PAIR_PREFERRED ∧ s.role = 2 ∧ !partnerLease ∧ !standbyLease ∧
        s.pair.drill.isNone ∧ t + 32768 * s.rd F.PLT_PAIR_RETURN_HOLD ≤ s.time.xt then claim s s.time.now 120000
    else noEffect s
  | none => noEffect s

def execReturnHoldExpiry (dt : Elapsed) (partnerLease : Bool) (s : State) : Out :=
  .next (returnHold partnerLease (advance dt s))

/-- PAIR_DRILL (R294): a standby claims, a primary yields. -/
def pairDrill (c : Cmd) (_ : Session) (s : State) : State × Ans :=
  let f := leAt c.payload 0 1
  let s := refreshPair s
  if !(payOk c 4 1 3) ∨ 1 < f then refuse s Code.BAD_PAYLOAD
  else gate {} s (
    if s.pstate ≠ 2 then (s, .late Code.NOT_PAIRED)
    else if s.mode ≠ mRUN ∨ s.rd F.PLT_PSTATE_PARTNER_MODE ≠ 1 then (s, .late Code.PAIR_MODE)
    else if s.role = 0 ∨ !s.otherReady then (s, .late Code.NOT_ELIGIBLE)
    else if s.pairBusy then (s, .late Code.PAIR_BUSY)
    else
      (s, .long .drill fun h s =>
        let side := if s.role = 2 then 1 else 0
        let d : Drill := ⟨h, decide (f = 1), side, 0, 0, 0, 0, 0, 0, 0, 0, 0, false, false⟩
        let s := (updPair (startHdl s (h % 2048)) fun x => { x with drill := some d }).wr F.PLT_PSTATE_DRILL 1
        if side = 1 then claim s s.time.now 120000 else setYield s))

def execPairDrill (dt : Elapsed) (s : State) : Out := .next (mbxRun 0x61 3 pairDrill (advance dt s))

/-- HDL_CANCEL of a drill ends its dwell early (R294). -/
def cancelDrill (s : State) : State :=
  updPair s fun x => { x with drill := x.drill.map fun d => { d with cancelled := true } }

/-- The digital outputs driven on in the dwell, and the analogue channels driven as outputs. -/
def exercisedDg (s : State) : Nat :=
  ((List.range 128).map fun c => b2n ((s.dch c).used && s.isOut c) * 2 ^ c).foldl (· + ·) 0
def exercisedAg (s : State) : Nat :=
  ((List.range 64).map fun c =>
    b2n (s.aOut c && ((s.ach c).drv).isSome) * 2 ^ c).foldl (· + ·) 0

/-- The dwell ends: its time is over, it was cancelled, or a diagnostic arose while the old primary is ELIGIBLE; the return
follows as FLAGS or the diagnostic requires (R294). What only the partner can see of it is a free value. -/
def drillDwellEnd (s : State) : State :=
  match s.pair.drill with
  | none => noEffect s
  | some d =>
    let s := refreshPair s
    let fault := decide (d.doFault ≠ 0) || decide (d.aoFault ≠ 0)
    let old := if d.side = 1 then s.pElig else s.eligible
    let aborted := fault && old
    let timeUp := decide (d.from_ + 32768 * s.rd F.PLT_PAIR_DRILL_DWELL ≤ s.time.xt)
    if d.phase ≠ 1 ∨ !(timeUp || d.cancelled || aborted) then noEffect s
    else
      let ms := (s.time.xt - d.from_) * 1000 / 32768
      let n := s.free
      let d := { d with dwell := ms, aborted := aborted, phase := 2 }
      let d := if d.side = 1 then { d with doEx := exercisedDg s, aoEx := exercisedAg s }
        else { d with doEx := Config.free n % 2 ^ 128, doFault := Config.free (n + 1) % 2 ^ 128
                      aoEx := Config.free (n + 2) % 2 ^ 64, aoFault := Config.free (n + 3) % 2 ^ 64
                      so1 := Config.free (n + 4) % 2 ^ 32 }
      let s := if d.side = 1 then s else { s with free := s.free + 5 }
      if !(d.ret || aborted) then finishDrill s d false
      else
        let s := updPair s fun x => { x with drill := some d }
        if d.side = 1 then setYield s else claim s s.time.now 120000

def execDrillDwellEnd (dt : Elapsed) (s : State) : Out := .next (drillDwellEnd (advance dt s))

end Sys2Proof.Machine
end

