-- ==== Sys2Proof/Machine/Modes.lean ====
section
/-!
DEFINITION. Operating modes and task releases: MODE_SET and the transitions of SCN-2 (R173–R184), AUTORUN, restarts (SCN-7,
R255), releases (R185, R188, R192), the task watchdog, retentive copies (R198) and program counter rings (R452).
-/

namespace Sys2Proof.Machine

/-! ### The retentive record (R197, R198, R255) -/

/-- The items of retentive data in order: words of M, words of D, instances. -/
def retainItems (rows : List RetainRow) (ids : List Nat) : List (Nat × Nat) :=
  (rows.flatMap fun r =>
    if r.area = 1 then (List.range (r.count / 32)).map fun i => (2, r.start / 32 + i)
    else if r.area = 2 then (List.range r.count).map fun i => (3, r.start + i)
    else []) ++ ids.map fun i => (7, i)

/-- SCN.RETAIN in force. -/
def State.retainRows (s : State) : List RetainRow :=
  (List.range 8).map fun k =>
    ⟨s.rdE F.SCN_RETAIN_AREA 0 (64 * k), s.rdE F.SCN_RETAIN_START 0 (64 * k), s.rdE F.SCN_RETAIN_COUNT 0 (64 * k)⟩

/-- What stands before the items in the record: BUILD, the ranges, the instances (assumption log 36). -/
def retainHead (build : Nat) (rows : List RetainRow) (insts : List InstRec) : List Nat :=
  leBytes 4 build ++ (rows.flatMap fun r => [r.area, 0, 0, 0] ++ leBytes 2 r.start ++ leBytes 2 r.count) ++
    leBytes 4 insts.length ++ insts.flatMap fun i => leBytes 2 i.id ++ [i.kind, 0]

/-- A retentive record taken apart: its bank (BUILD, ranges and instances) and where its items begin. -/
def retainBank (d : List Nat) : Bank × Nat :=
  let n := leAt d 68 4
  let insts := (List.range n).map fun i => (⟨leAt d (72 + 4 * i) 2, leAt d (74 + 4 * i) 1, true, false⟩ : InstRec)
  let rows := (List.range 8).map fun k => (⟨leAt d (4 + 8 * k) 1, leAt d (8 + 8 * k) 2, leAt d (10 + 8 * k) 2⟩ : RetainRow)
  ({ build := leAt d 0 4, insts := insts, retain := rows }, 72 + 4 * n)

/-- A WARM restart finds a valid record (R176, R255). -/
def State.retainValid (s : State) : Bool :=
  match s.recData kRETAIN 0 with
  | none => false
  | some d =>
    let b := s.activeBank.getD {}
    decide (leAt d 0 4 = b.build) || decide (leAt d 0 4 = b.prevBuild)

/-- The words that lie in retentive ranges. -/
def inRetain (rows : List RetainRow) (area unit : Nat) (m : Memory) : Memory :=
  m.filter fun e => rows.any fun r =>
    decide (r.area = area) && decide (r.start ≤ e.1 * 8 / unit) && decide (e.1 * 8 / unit < r.start + r.count)

/-- What a lane holds after WARM: the record as stored, or mapped as the swap maps it (R255). A running timer goes on from
its elapsed time (assumption log 37). -/
def warmLane (s : State) (d : List Nat) : LaneMem :=
  let r := retainBank d
  let items := retainItems r.1.retain (r.1.insts.map (·.id))
  let l := putItems r.1 s.runTicks items (d.drop r.2) ⟨[], [], [], []⟩
  let b := s.activeBank.getD {}
  if r.1.build = b.build then { l with dirty := [] }
  else
    let rows := s.retainRows
    let kept := b.insts.filter (·.retain)
    { m := inRetain rows 1 1 (relocArea b.relocs 2 l.m), d := inRetain rows 2 32 (relocArea b.relocs 3 l.d)
      inst := carryInst r.1 { b with insts := kept } l.inst (oldKind r.1), dirty := [] }

/-- Every enabled counter ring is loaded into its D word (R452). -/
def ringsIntoD (s : State) (l : LaneMem) : LaneMem :=
  (List.range 64).foldl (fun l k =>
    if s.rdE F.STO_CRING_EN 0 (32 * k) = 0 then l
    else { l with d := memSet l.d (4 * s.rdE F.STO_CRING_DWORD 0 (32 * k)) 4 (s.ringValue k % 2 ^ 32) }) l

/-- A restart kind is applied to all three lanes (SCN-7). -/
def applyRestart (s : State) (restart : Nat) : State :=
  let put (l : LaneMem) : State := { s with scn := { s.scn with lanes := ⟨l, l, l⟩ } }
  match restart with
  | 1 => put (ringsIntoD s (warmLane s ((s.recData kRETAIN 0).getD [])))
  | 2 => put ⟨[], [], [], []⟩
  | _ => s

/-! ### MODE_SET (R173–R177) -/

/-- The refusal of a transition, if any (R173, R174, R176). -/
def modeRefusal (s : State) (target restart : Nat) : Option Nat :=
  let m := s.mode
  match s.scn.pend with
  | some p =>
    if target = mSTOP ∧ (p.target = mRUN ∨ p.target = mHOLD) then none else some Code.MODE_BUSY
  | none =>
    if target = m then none
    else if m = mSTOP ∧ target = mRUN then
      if s.prg.active.isNone then some Code.NO_PROGRAM
      else if !s.cycleOk then some Code.CYCLE_MISMATCH
      else if restart = 0 ∧ !s.scn.intact then some Code.NO_CONTINUE
      else if restart = 1 ∧ !s.retainValid then some Code.RETAIN_INVALID
      else none
    else if m = mRUN ∧ target = mHOLD then none
    else if m = mHOLD ∧ target = mRUN ∧ restart = 0 then none
    else if (m = mRUN ∨ m = mHOLD) ∧ target = mSTOP then none
    else if m = mFAULT ∧ target = mSTOP then (if s.faultPersists then some Code.FAULT_ACTIVE else none)
    else some Code.BAD_TRANSITION

/-- A transition becomes the pending one. -/
def putPend (s : State) (p : PendMode) : State :=
  { s with scn := { s.scn with pend := some p } } |>.wr F.SCN_MODE_PENDING p.target

/-- A new pending transition, accepted now. -/
def newPend (s : State) (target restart handle : Nat) : PendMode :=
  ⟨target, restart, handle, s.time.now, false, s.time.now, false, s.time.xt⟩

/-- Executions of start-up tasks are abandoned without commit (R174). -/
def dropStartup (s : State) : State :=
  let s := { s with scn := { s.scn with
    running := none, preempted := [], waiting := [], presented := [], startQueue := [], intact := false } }
  updPlt s fun p => { p with startQ := [], startMask := [], startL := ⟨[], [], []⟩ }

/-- The way into RUN from STOP: the restart kind, then the start-up tasks in ascending number (R177). -/
def beginRun (s : State) (restart handle : Nat) : State :=
  let s := applyRestart s restart
  let s := updPlt s fun p => { p with startQ := [], startMask := [], startL := ⟨[], [], []⟩ }
  let p := newPend s mRUN restart handle
  if restart = 0 then putPend s p
  else
    let ts := (List.range 64).filter fun t => decide (s.rd F.SCN_T_SRC t = 4)
    startNext { putPend s { p with startup := true } with scn := { s.scn with
      pend := some { p with startup := true }, startQueue := ts } }

/-- An admitted transition begins; `handle` 0 is the module's own (R174, R177). -/
def beginMode (s : State) (target restart handle : Nat) : State :=
  match s.scn.pend with
  | some p =>
    let s := clearPend (finMode s p Code.MODE_SUPERSEDED)
    if s.mode = mSTOP then finMode (dropStartup s) (newPend s mSTOP 0 handle) Code.OK
    else putPend s (newPend s mSTOP 0 handle)
  | none =>
    let p := newPend s target restart handle
    if target = s.mode then finMode s p Code.OK
    else if s.mode = mSTOP then beginRun s restart handle
    else putPend s p

/-- What MODE_SET to `target` needs of the start-up windows. -/
def modeWin (target : Nat) : Win :=
  { plan := decide (target = mRUN) || decide (target = mHOLD), lanes := true, mode := true, run := decide (target = mRUN) }

/-- MODE_SET. -/
def modeSet (c : Cmd) (_ : Session) (s : State) : State × Ans :=
  let target := leAt c.payload 0 1
  let restart := leAt c.payload 1 1
  if !(payOk c 4 2 2) ∨ 4 < target ∨ 2 < restart then refuse s Code.BAD_PAYLOAD
  else gate (modeWin target) s (
    if target = mRUN ∧ s.storeFault then refuse s Code.STORE_FAULT
    else
      match modeRefusal s target restart with
      | some st => (s, .late st)
      | none => (s, .long (.modeSet target restart) fun h s => beginMode (startHdl s (h % 2048)) target restart h))

def execModeSet (dt : Elapsed) (s : State) : Out := .next (mbxRun 0x40 2 modeSet (advance dt s))

/-- AUTORUN: once, when STOP-ready, TIMED and HOLD at 38 V first hold together after a cold reset (R179). -/
def autorun (s : State) : State :=
  let a := s.rd F.SCN_CFG_AUTORUN
  if a = 0 ∨ s.clk.autorunDone ∨ !s.clk.coldReset ∨ !s.clk.stopReady ∨ !s.timed ∨ !s.is F.CLK_START_HOLD_38 then noEffect s
  else
    let s := { s with clk := { s.clk with autorunDone := true } }
    let no (st : Nat) : State := log Ev.AUTORUN_REFUSED (leBytes 2 st) s
    match s.window (modeWin mRUN) with
    | some st => no st
    | none =>
      if s.storeFault then no Code.STORE_FAULT
      else
        match modeRefusal s mRUN a with
        | some st => no st
        | none => beginMode s mRUN a 0

def execAutorun (dt : Elapsed) (s : State) : Out := .next (autorun (advance dt s))

/-! ### Transitions take effect -/

/-- A commit accepted in this mode has not been applied yet: a transition out of STOP or FAULT waits for it (R139). -/
def State.commitWaits (s : State) : Bool :=
  s.mbx.hdls.any fun h => match h.op with
    | .commit _ _ m => decide (m = s.mode) && decide (h.state ≠ 4)
    | _ => false

/-- The newest latch is a cinch latch on an accepted marker that qualifies a transition accepted or ready at `t`, and its T0
release is not past (R177). -/
def State.runLatch (s : State) (t : Nat) : Bool :=
  decide (s.img.latchKind = 1) && decide (s.ring.lastLatch = s.ring.lastLocal) && decide (t + 100000 ≤ s.ring.lastLatch) &&
    decide (s.time.now ≤ s.ring.lastLatch + 4000)

/-- Entry into RUN (R177). -/
def modeRunEntry (s : State) : State :=
  match s.scn.pend with
  | none => noEffect s
  | some p =>
    if p.target ≠ mRUN ∨ p.startup ∨ !(s.runLatch p.readyAt) ∨ !s.clk.lane ∨ (s.mode = mSTOP ∧ s.commitWaits) then noEffect s
    else
      let stop := decide (s.mode = mSTOP)
      let s := clearPend s
      let s := { s with
        scn := { s.scn with restart := p.restart, first := true }
        img := { s.img with s := memPut s.img.s 6 [p.restart, 1 + 2 * s.rd F.SCN_MODE_RETAIN_STALE] } }
      let s := if stop then enterRunRole (updPlt s fun x => { x with open_ := false }) else s
      finMode (setMode s mRUN 0 p.restart) p Code.OK

def execModeRunEntry (dt : Elapsed) (s : State) : Out := .next (modeRunEntry (advance dt s))

/-- Executions that wait at the boundary are not started any more (assumption log 38). -/
def dropWaiting (s : State) : State :=
  let l := s.scn.waiting
  l.foldl (fun s x => completeTask s x.task) { s with scn := { s.scn with waiting := [] } }

/-- The boundary of a transition out of RUN or HOLD towards `target` has come and is not yet taken. -/
def State.leaveNow (s : State) (target : Nat) : Option PendMode :=
  match s.scn.pend with
  | some p => if p.target = target ∧ !p.cut ∧ s.boundaryCame p then some p else none
  | none => none

/-- The boundary of a transition to HOLD (R182). -/
def modeHoldEntry (s : State) : State :=
  match s.leaveNow mHOLD with
  | some p => if s.mode = mRUN then settleMode (dropWaiting (putPend s { p with cut := true })) else noEffect s
  | none => noEffect s

def execModeHoldEntry (dt : Elapsed) (s : State) : Out := .next (modeHoldEntry (advance dt s))

/-- The boundary of a transition to STOP: no further release, the STOP safe values, and commits discarded (R181, R189). -/
def modeStopEntry (s : State) : State :=
  match s.leaveNow mSTOP with
  | some p =>
    if s.mode = mRUN ∨ s.mode = mHOLD then
      let s := safeCommand (dropWaiting (putPend s { p with cut := true })) 1
      let off (x : Exec) : Exec := { x with discard := true }
      settleMode { s with scn := { s.scn with
        running := s.scn.running.map off, preempted := s.scn.preempted.map off, presented := s.scn.presented.map off } }
    else noEffect s
  | none => noEffect s

def execModeStopEntry (dt : Elapsed) (s : State) : Out := .next (modeStopEntry (advance dt s))

/-- An accepted MODE_SET STOP takes effect in FAULT (SCN-2). -/
def faultExit (s : State) : State :=
  match s.scn.pend with
  | some p =>
    if s.mode = mFAULT ∧ p.target = mSTOP ∧ !s.commitWaits then
      finMode (safeCommand (setMode (clearPend s) mSTOP 0 s.scn.restart) 1) p Code.OK
    else noEffect s
  | none => noEffect s

def execFaultExit (dt : Elapsed) (s : State) : Out := .next (faultExit (advance dt s))

/-- The start-up tasks have not ended within STARTUP_LIMIT (R178). -/
def startupLimit (s : State) : State :=
  match s.scn.pend with
  | some p =>
    if p.startup ∧ p.xt + xtMs (s.rd F.SCN_CFG_STARTUP_LIMIT) ≤ s.time.xt then enterFault s 8 else noEffect s
  | none => noEffect s

def execStartupLimitExpiry (dt : Elapsed) (s : State) : Out := .next (startupLimit (advance dt s))

/-- HOLD has lasted HOLD_LIMIT: STOP at the next boundary (R183, SCN-2; assumption log 39). -/
def holdLimit (s : State) : State :=
  if s.mode ≠ mHOLD ∨ s.time.xt < s.scn.enterXt + 32768 * s.rd F.SCN_CFG_HOLD_LIMIT then noEffect s
  else
    let next (s : State) : State := putPend s { newPend s mSTOP 0 0 with at_ := s.time.now - 100000 }
    match s.scn.pend with
    | some p => if p.target = mSTOP then noEffect s else next (clearPend (finMode s p Code.MODE_SUPERSEDED))
    | none => next s

def execHoldLimitExpiry (dt : Elapsed) (s : State) : Out := .next (holdLimit (advance dt s))

/-! ### Releases (R185, R188) -/

/-- The release of T0 4.00 µs after a latch (R19, R149). -/
def t0Release (s : State) : State :=
  if !s.scn.t0Due ∨ s.time.now < s.ring.lastLocal + 4000 ∨ s.mode ≠ mRUN ∨ s.cut ∨ s.rd F.SCN_T_SRC 0 ≠ 1 ∨ !s.clk.lane then
    noEffect s
  else
    let s := { s with scn := { s.scn with t0Due := false } }
    let cinch := decide (s.img.latchKind ≠ 2)
    let s := if cinch then
        updPair s fun x => { x with t0Ticks := ((s.ring.cinch, s.runTicks) :: x.t0Ticks).take 8 }
      else s
    let s := releaseTask s 0 1 (if cinch then some s.ring.cinch else none)
    { s with scn := { s.scn with first := false } }

def execT0Release (dt : Elapsed) (s : State) : Out := .next (t0Release (advance dt s))

/-- A PERIODIC task other than T0 falls due when (station time − PHASE) mod PERIOD = 0 (SCN-3), once per station tick. -/
def periodicRelease (task : Nat) (s : State) : State :=
  let p := s.rd F.SCN_T_PERIOD task
  let t := s.station
  if task = 0 ∨ 64 ≤ task ∨ s.rd F.SCN_T_SRC task ≠ 1 ∨ p = 0 ∨ s.time.stHeld ∨ !s.clk.lane ∨
      (t + p - s.rd F.SCN_T_PHASE task % p) % p ≠ 0 ∨ Table.find 0 s.scn.perLast task = t + 1 then noEffect s
  else releaseTask { s with scn := { s.scn with perLast := Table.put 0 s.scn.perLast task (t + 1) } } task 1 none

def execPeriodicRelease (dt : Elapsed) (task : Nat) (s : State) : Out := .next (periodicRelease task (advance dt s))

/-- Every execution that is released and not yet committed. -/
def State.allExecs (s : State) : List Exec :=
  s.scn.running.toList ++ s.scn.preempted ++ s.scn.waiting ++ s.scn.presented ++ s.prg.deferred

/-- The task watchdog (R194). -/
def taskWatchdog (s : State) : State :=
  let late (x : Exec) : Bool :=
    let w := s.rd F.SCN_T_WD_LIMIT x.task
    decide (w ≠ 0) && decide (x.relXt + w ≤ s.time.xt)
  if s.clk.lane && s.allExecs.any late then enterFault s 3 else noEffect s

def execTaskWatchdog (dt : Elapsed) (s : State) : Out := .next (taskWatchdog (advance dt s))

/-- No T0 was released on the newest cinch image: its snapshot closes with NOEXEC (R150, R193). -/
def snapshotNoexec (s : State) : State :=
  let n := s.ring.cinch
  if s.img.latchKind = 2 ∨ s.time.now < s.ring.lastLatch + 4000 ∨ s.allExecs.any (fun x => decide (x.snap = some n)) ∨
      (s.mode = mRUN ∧ !s.cut ∧ s.scn.t0Due ∧ s.ring.lastLocal = s.ring.lastLatch) then noEffect s
  else closeSnap s n true false false s.img.s

def execSnapshotNoexec (dt : Elapsed) (s : State) : Out := .next (snapshotNoexec (advance dt s))

/-! ### Idle-time work -/

/-- The voted retentive data, or the number of the first item without a majority. -/
def retainData (b : Bank) (ls : List LaneMem) : Nat → List (Nat × Nat) → Except Nat (List (List Nat))
  | _, [] => .ok []
  | k, it :: its =>
    match pickEq (ls.map fun l => itemBytes b l it) with
    | none => .error k
    | some bs =>
      match retainData b ls (k + 1) its with
      | .ok r => .ok (bs :: r)
      | .error e => .error e

/-- A copy was abandoned or refused (R199). -/
def retainMiss (s : State) : State :=
  let n := s.scn.retRun + 1
  let s := { s with scn := { s.scn with retBusy := false, retRun := n } } |>.incTo F.SCN_MODE_RET_MISS 0 1 15
  if 3 ≤ n then s.wr F.SCN_MODE_RETAIN_STALE 1 else s

/-- A retentive copy is made in idle time: the lanes' majority, then a two-slot record (R198). -/
def retentiveCopy (s : State) : State :=
  if !s.scn.retBusy ∨ s.mode ≠ mRUN ∨ !s.noExec ∨ !s.clk.lane then noEffect s
  else
    let b := s.activeBank.getD {}
    let rows := s.retainRows
    let insts := b.insts.filter (·.retain)
    let ls := ((List.range 3).filter fun k => s.votes k).map fun k => s.scn.lanes.get k
    match retainData b ls 0 (retainItems rows (insts.map (·.id))) with
    | .error k => unresolved (retainMiss s) 7 k
    | .ok items =>
      if !s.storeOk then retainMiss s
      else
        let s := writeRec s kRETAIN 0 0 (retainHead b.build rows insts ++ items.flatten)
        let s := { s with
          scn := { s.scn with retBusy := false, retRun := 0, retLast := max 1 s.time.now }
          prg := { s.prg with retCopyDue := false } }
        (s.wr F.SCN_MODE_RETAIN_STALE 0).wr F.SCN_MODE_RETAIN_VALID 1

def execRetentiveCopy (dt : Elapsed) (s : State) : Out := .next (retentiveCopy (advance dt s))

/-- A waiting value is written into its counter ring: a D word in idle time (R452), a ring of the module's own as soon as the
energy check passes (STO-2). -/
def counterRingUpdate (s : State) : State :=
  match s.sto.ringPend.find? fun e => decide (64 ≤ e.1) || s.noExec with
  | none => noEffect s
  | some (k, v) =>
    if !s.storeOk then noEffect s
    else ringUpdate { s with sto := { s.sto with ringPend := Table.drop s.sto.ringPend k } } k (pendingValue k v)

def execCounterRingUpdate (dt : Elapsed) (s : State) : Out := .next (counterRingUpdate (advance dt s))

end Sys2Proof.Machine
end

