-- ==== Sys2Proof/Machine/Resets.lean ====
section
/-!
DEFINITION. Reset kinds (R97–R99, R142) and what each clears and keeps, shutdown (R474), and the first phases of the start-up (CLK-8).
-/

namespace Sys2Proof.Machine

/-! ### What a reset keeps (CLK-7) -/

/-- The registers a reset of kind `kind` keeps: the backup domain (R97); the strap of the ring role; what a field die holds of its
configuration until it is loaded (CLK-10, assumption log 41); the coefficients of
the slices, which the store holds; HOLD and VSYS as measured, at all but POR; at WARM and WATCHDOG the
ring interface, the clock and reset unit and the state of the random source (R539, R540). -/
def keepKey (kind key : Nat) : Bool :=
  let obj := key / 2 ^ 32
  let has (f : Fld) : Bool := decide (key = f.key 0 0)
  (decide (F.objRTC_TIME ≤ obj) && decide (obj ≤ F.objRTC_BKP)) || has F.NRL_STATE_ROLE ||
    (decide (obj = F.objAG_CS) && (decide (key % 65536 = F.AG_CS_OFFS.lo) || decide (key % 65536 = F.AG_CS_GAIN.lo))) ||
    [F.objDG_CH, F.objDG_BOOST, F.objDG_GROUP, F.objAG_CH, F.objAG_GROUP].contains obj ||
    (decide (kind ≠ 1) && (has F.CLK_START_HOLD_30 || has F.CLK_START_HOLD_38 || has F.STO_STATUS_HOLD_OK ||
      has F.PWR_STATUS_HOLD_V || has F.PWR_STATUS_VSYS_V || has F.PWR_STATUS_CHARGED || has F.PWR_STATUS_PSTATE)) ||
    (decide (4 ≤ kind) && (decide (obj ≤ F.objCLK_STATUS) || has F.CLK_START_TIMED ||
      (decide (F.objCLK_EVENTS ≤ obj) && decide (obj ≤ F.objCLK_PARK_TIME)) || has F.SEC_RNG_STATE || has F.SEC_RNG_FAILS))

/-- The non-volatile part of the store and the backup domain's loss word. -/
def keepStore (x : StoSt) : StoSt :=
  { recs := x.recs, rings := x.rings, headerBad := x.headerBad, logRing := x.logRing, fwSlots := x.fwSlots, progA := x.progA
    progB := x.progB, loss := x.loss, hist := x.hist, factory := x.factory }

/-- The field dies run on with the code and the configuration they hold, and hear nothing (CLK-10). -/
def keepDies (x : FieldSt) : FieldSt :=
  { dg := x.dg, dgg := x.dgg.map fun e => (e.1, { e.2 with stream := false, split := 0, crcDiff := false, voted := false, splitRun := 0 }) }

/-- The same of the analogue dies; supplies, straps and the store's slice assignments stay. -/
def keepAnalogue (x : AnaSt) : AnaSt :=
  { ch := x.ch, grp := x.grp.map fun e => (e.1, { e.2 with split := 0, crcDiff := false, voted := false, splitRun := 0, rot := {} })
    keep := x.keep, calXt := x.calXt }

/-- The clock and reset unit after a reset. -/
def resetClk (s : State) (kind : Nat) : ClkSt :=
  if kind ≤ 3 then
    { clkA := s.clk.clkA, clkB := s.clk.clkB, pinLow := s.clk.pinLow, dieCode := s.clk.dieCode, compat := s.clk.compat }
  else
    { s.clk with fwRunning := false, stopReady := false, autorunDone := false, coldReset := false, pendReset := none
                 svSilent := 0, laneFrom := none, gatesOpened := some s.time.xt, inReset := false }

/-- A reset of kind 1 POR, 2 PIN, 3 MODULE, 4 WARM or 5 WATCHDOG (R97, CLK-7). A WARM or WATCHDOG reset is at once in phase C. -/
def hardReset (kind : Nat) (s : State) : State :=
  let warm := decide (4 ≤ kind)
  let t := s.time
  let sub (x : SubItem) : Bool := match x with
    | .sub _ => true
    | .cpl _ _ => false
  let r : State :=
    { time := if warm then { t with runAcc := 0, runFrom := none }
              else { t with link := false, stBase := 0, stHeld := true, runAcc := 0, runFrom := none }
      regs := s.regs.filter fun e => keepKey kind e.1
      ring := if warm then { s.ring with subq := s.ring.subq.filter sub, attnLast := none } else {}
      clk := resetClk s kind
      sto := keepStore s.sto
      fld := keepDies s.fld
      ana := keepAnalogue s.ana
      rtc := s.rtc
      pwr := if warm then { fullFrom := s.pwr.fullFrom, testXt := s.pwr.testXt } else {}
      sec := if warm then { vbus := s.sec.vbus, rngFails := s.sec.rngFails, rngAt := s.sec.rngAt } else { vbus := s.sec.vbus }
      free := s.free
      pending := s.pending }
  let r := r.wr F.CLK_STATUS_RESET_CAUSE kind
  if warm then log Ev.RESET [kind] r else r

/-- A reset with what becomes of the recorder buffer first: `up` says that the store port responds. -/
def flushReset (kind : Nat) (up : Bool) (s : State) : State :=
  let s := if up then closingFlush s else s
  hardReset kind (abandonBuffer s)

/-! ### Shutdown (R442, R474, R475) -/

/-- The shutdown that ends a ride: SHUTDOWN, the flush, the pending rings, then a POR reset. What cannot be flushed goes into the
loss word. -/
def shutdownNow (s : State) : State :=
  let n := s.bufCnt + 1
  let s := log Ev.SHUTDOWN (leBytes 2 (s.rd F.PWR_STATUS_HOLD_V) ++ leBytes 2 n) (s.wr F.PWR_STATUS_PSTATE 3)
  hardReset 1 (abandonBuffer (closingFlush (flushRings (flushNow s))))

/-- The module rides on HOLD (R472). -/
def State.riding (s : State) : Bool := decide (s.rd F.PWR_STATUS_PSTATE = 2)

/-- A reset other than POR: during a ride it ends in the shutdown (R473). -/
def otherReset (kind : Nat) (up : Bool) (s : State) : State :=
  if s.riding then shutdownNow s else flushReset kind up s

/-! ### Phases A and B (CLK-8, R37, R80, R100, R101) -/

/-- Phase B begins: straps, transmit bypass, the HOLD charger, judging. Without a crystal the judge waits for it. -/
def beginPhaseB (lineEnd compat xtal : Bool) (s : State) : State :=
  let s := { s with clk := { s.clk with inReset := false, bypass := true, compat := compat, porXt := s.time.xt }
                    pwr := { s.pwr with
                      chargeFrom := s.time.xt, fullFrom := if 4200 ≤ s.rd F.PWR_STATUS_HOLD_V then some s.time.xt else none } }
  let s := ((s.wr F.NRL_STATE_ROLE (b2n lineEnd)).wr F.CLK_STATUS_XTAL_OK (b2n xtal)).wr F.RTC_STATUS_XTAL_RUN (b2n xtal)
  let s := if lineEnd then (s.wr F.NRL_STATE_PB_ST pFAULTED).wr F.NRL_STATE_WRAP_B 1 else s
  setRef (s.wr F.CLK_STATUS_CLK_PHASE 1) (b2n (!s.clk.clkA && s.clk.clkB))

/-- VSYS rises through 17.0 V, or falls below 16.5 V; a ride and its shutdown hold the falling edge off (R472). A rising edge
asserts PWRON_N (TCK-2). -/
def por (rising : Bool) (s : State) : State :=
  if rising then
    let s := hardReset 1 (abandonBuffer s)
    if s.rtc.powered then s.wr F.RTC_STATUS_PWRON_LOW 1 else s
  else if s.riding then noEffect s
  else hardReset 1 (abandonBuffer s)

def execPor (dt : Elapsed) (rising : Bool) (s : State) : Out := .next (por rising (advance dt s))

/-- POR is released with the rails good: phase B begins unless RESET_N is low. -/
def porRelease (lineEnd compat xtal : Bool) (s : State) : State :=
  if !s.clk.inReset ∨ s.clk.pinLow then noEffect s else beginPhaseB lineEnd compat xtal s

def execPorRelease (dt : Elapsed) (lineEnd compat xtal : Bool) (s : State) : Out :=
  .next (porRelease lineEnd compat xtal (advance dt s))

/-- A low pulse or level on RESET_N of `lowNs` so far (R98): below 1 µs no effect, from 10 µs on a PIN reset, between them
either. The records in the buffer are lost and counted (CLK-7). -/
def pinReset (lowNs : Nat) (s : State) : State :=
  let hit (s : State) : State :=
    let s := otherReset 2 false s
    { s with clk := { s.clk with pinLow := true } }
  if lowNs < 1000 then noEffect s
  else if 10000 ≤ lowNs then hit s
  else if s.nextFree % 2 = 1 then hit s.useFree
  else s.useFree

def execPinReset (dt : Elapsed) (lowNs : Nat) (s : State) : Out := .next (pinReset lowNs (advance dt s))

/-- RESET_N returns high: the start-up begins with phase B (R98). -/
def resetNRelease (lineEnd compat xtal : Bool) (s : State) : State :=
  if !s.clk.pinLow then noEffect s
  else
    let s := { s with clk := { s.clk with pinLow := false } }
    if s.clk.inReset then beginPhaseB lineEnd compat xtal s else s

def execResetNRelease (dt : Elapsed) (lineEnd compat xtal : Bool) (s : State) : Out :=
  .next (resetNRelease lineEnd compat xtal (advance dt s))

/-- The reset that MOD_RESET asked for begins when its answer is acknowledged, or 10 ms after it was placed (R142). A MODULE reset
goes on with phase B, the straps as they were sampled. -/
def moduleResetStart (s : State) : State :=
  match s.clk.pendReset with
  | none => noEffect s
  | some (kind, seq) =>
    let due : Bool := match s.mbx.cq.find? fun r => decide (r.seq = seq) with
      | none => true
      | some r => (r.placed || r.usb) && decide (r.at_ + 10000000 ≤ s.time.now)
    if !due then noEffect s
    else if s.riding then shutdownNow s
    else
      let line := s.is F.NRL_STATE_ROLE
      let x := s.is F.RTC_STATUS_XTAL_RUN
      let s := flushReset kind true s
      if kind = 3 then beginPhaseB line s.clk.compat x s else s

def execModuleResetStart (dt : Elapsed) (s : State) : Out := .next (moduleResetStart (advance dt s))

/-- STOP-ready has not come 8,192 crystal periods after the gates opened: a WATCHDOG reset, the third of which ends the start-up
(R99, R529). -/
def startupWatchdog (storeUp : Bool) (s : State) : State :=
  match s.clk.gatesOpened with
  | none => noEffect s
  | some g =>
    if s.clk.stopReady ∨ s.clk.startFailed ∨ s.is F.SEC_STATUS_RECOVERY ∨ s.time.xt < g + 8192 then noEffect s
    else if s.riding then shutdownNow s
    else
      let n := s.clk.startRuns + 1
      let s := flushReset 5 storeUp s
      { s with clk := { s.clk with startRuns := n, startFailed := decide (3 ≤ n) } }

def execStartupWatchdog (dt : Elapsed) (storeUp : Bool) (s : State) : Out := .next (startupWatchdog storeUp (advance dt s))

end Sys2Proof.Machine
end

