-- ==== Sys2Proof/Machine/Clocks.lean ====
section
/-!
DEFINITION. Clocks: judging, loss of LCLK, announced changes, bridges, lane steps and the crystal (R75–R95, R101, R505).
-/

namespace Sys2Proof.Machine

/-! ### Judging (CLK-2) -/

/-- A count lies in a band. -/
def inBand (n lo hi : Nat) : Bool := decide (lo ≤ n) && decide (n ≤ hi)

/-- The nominal LCLK of a count as CLK.STATUS.LCLK_NOM codes it; none outside every band (R81). -/
def lclkOf (n : Nat) : Option Nat :=
  if inBand n 12085 12329 then some 3 else if inBand n 6043 6164 then some 2 else if inBand n 3022 3082 then some 1 else none

/-- A PLL count lies in the band of its nominal frequency [MHz]. -/
def pllOk (mhz n : Nat) : Bool :=
  match mhz with
  | 500 => inBand n 60730 61340
  | 450 => inBand n 54657 55206
  | 400 => inBand n 48584 49072
  | 350 => inBand n 42511 42938
  | 250 => inBand n 30365 30670
  | _ => inBand n 15183 15335

/-- The link PLL's frequency at the identified LCLK [MHz] (CLK-1). -/
def State.linkMHz (s : State) : Nat :=
  match s.rd F.CLK_STATUS_LCLK_NOM with
  | 3 => 500
  | 2 => 250
  | _ => 125

/-- Frequency code of the lanes: the margin step at 100 MHz, else 250 MHz (R77). -/
def laneFreq (s : State) : State :=
  s.wr F.CLK_STATUS_LANE_CLK (if s.rd F.CLK_STATUS_LCLK_NOM = 3 then s.rd F.PWR_PLAN_LANE_STEP else 4)

/-! ### Gates -/

/-- The LANE gates close: executions and timers stand (R85). -/
def closeLane (s : State) : State :=
  if !s.clk.lane then s
  else
    let s := stopRunTicks { s with clk := { s.clk with lane := false, laneFrom := some s.time.xt } }
    persistReg s

/-- The SUPV and IMAGE gates close; session timeouts stand (R125). -/
def closeSys (s : State) : State :=
  { s with clk := { s.clk with supv := false, image := false }
           mbx := { s.mbx with stopXt := if s.clk.supv then s.time.xt else s.mbx.stopXt } }

/-- The EVENT gates close. -/
def closeEvent (s : State) : State := { s with clk := { s.clk with event := false } }

/-- The LINK gates close: markers not yet latched are gone. -/
def closeLink (s : State) : State :=
  { s with time := { s.time with link := false }
           ring := { s.ring with due := [], copyPort := none }, clk := { s.clk with bypass := true } }

/-- The stopped interval counts toward no overrun limit and no task watchdog (R85). -/
def shiftExecs (s : State) (n : Nat) : State :=
  let f (x : Exec) : Exec := { x with relXt := x.relXt + n }
  { s with scn := { s.scn with running := s.scn.running.map f, preempted := s.scn.preempted.map f
                               waiting := s.scn.waiting.map f, presented := s.scn.presented.map f }
           prg := { s.prg with deferred := s.prg.deferred.map f } }

/-- The LANE gates open; CLK.PARK_TIME and PARK report how long they were closed (R85). -/
def openLane (s : State) : State :=
  let s := match s.clk.laneFrom with
    | none => s
    | some f =>
      let n := s.time.xt - f
      log Ev.PARK (leBytes 4 n) ((shiftExecs s n).wr F.CLK_PARK_TIME_PERIODS n)
  let s := { s with clk := { s.clk with lane := true, laneFrom := none } }
  persistReg (if s.mode = mRUN then startRunTicks s else s)

/-- The SUPV and IMAGE gates open; no session timeout advanced meanwhile (R125). -/
def openSys (s : State) : State :=
  let n := if s.clk.supv then 0 else s.time.xt - s.mbx.stopXt
  { s with clk := { s.clk with supv := true, image := true }
           mbx := { s.mbx with sessions := s.mbx.sessions.map fun x => { x with lastXt := x.lastXt + n } } }

/-- The EVENT gates open, and every source is looked at afresh (R501). -/
def openEvent (s : State) : State :=
  (List.range 309).foldl (fun s n => hostSync n s) { s with clk := { s.clk with event := true } }

/-! ### Loss of LCLK (R84) and bridges (R86, R92) -/

/-- A bridge begins now. -/
def beginBridge (s : State) : State :=
  { s with clk := { s.clk with bridgeFrom := some s.time.xt, bridgeAge := 0, bridgeLong := false } } |>.wr F.CLK_STATUS_CLK_PHASE 5

/-- The link state after LCLK is lost (NRL-12): a module with a position keeps it. -/
def lostLink (s : State) : State :=
  let s := s.wr F.NRL_STATE_MOD_ST (if s.placed then 3 else 0)
  let s := { s.wr F.CLK_START_TIMED 0 with ring := { s.ring with latching := false, localOn := false } }
  persistReg s

/-- Both ports go DOWN; the one a LINE_END strap holds stays wrapped. -/
def portsDown (s : State) : State :=
  let s := setPort s .A pDOWN
  if s.heldPort .B then s else setPort s .B pDOWN

/-- LCLK is lost: every PLL-fed gate closes (R84). `missed` says that it changed without a park (R94). -/
def loseLclk (missed : Bool) (s : State) : State :=
  if s.clk.bridgeFrom.isSome ∨ !s.time.link then noEffect s
  else
    let s := clockEvent F.CLK_EVENTS_LCLK_LOST s
    let s := if missed then clockEvent F.CLK_EVENTS_ANN_MISSED s else s
    let old := s.rd F.CLK_STATUS_LCLK_NOM
    let s := closeLink (closeEvent (closeSys (closeLane s)))
    let s := portsDown (lostLink s)
    let s := (List.range 4).foldl (fun s g => abandonCal s g) s
    beginBridge { s with clk := { s.clk with
      parked := false, badWindows := 0, oldLclk := old }, ring := { s.ring with announced := none } }

/-- The link PLL of a parked module leaves its lock band (R92): the ports retrain without FAULTED. -/
def parkedBridge (s : State) : State :=
  let s := closeLink (closeEvent s)
  let train (s : State) (p : Port) : State := if s.port p = pUP then setPort s p pTRAINING else s
  let s := train (train s .A) .B
  beginBridge ((List.range 4).foldl (fun s g => abandonCal s g) s)

/-- A PLL leaves its lock band or counts outside it (R83): 0 link, 1 lane, 2 system. An unparked module takes the loss of its
link PLL as a loss of LCLK (R94, assumption log 42). -/
def pllLost (pll : Nat) (s : State) : State :=
  match pll with
  | 0 =>
    if !s.time.link then noEffect s
    else
      let s := clockEvent F.CLK_EVENTS_PLL_OOR s
      if s.clk.parked then parkedBridge s else loseLclk s.ring.announced.isSome s
  | 1 => if s.clk.lane then closeLane (clockEvent F.CLK_EVENTS_PLL_OOR s) else noEffect s
  | 2 => if s.clk.supv ∨ s.clk.event then closeEvent (closeSys (clockEvent F.CLK_EVENTS_PLL_OOR s)) else noEffect s
  | _ => noEffect s

def execPllLockLoss (dt : Elapsed) (pll : Nat) (s : State) : Out := .next (pllLost pll (advance dt s))

/-- No edge on either port for 64 LCLK periods; one that was announced and not parked for was missed (R84, R94). -/
def lclkLoss (s : State) : State :=
  let s' := { s with clk := { s.clk with clkA := false, clkB := false } }
  if s.clk.parked ∧ s.time.link then parkedBridge s'
  else loseLclk s.ring.announced.isSome s'

def execLclkLoss (dt : Elapsed) (s : State) : Out := .next (lclkLoss (advance dt s))

/-- The reference clock stops while the other port receives one (R79). -/
def refSwitch (s : State) : State :=
  let old := s.rd F.CLK_STATUS_REFPORT
  let other := if old = 0 then s.clk.clkB else s.clk.clkA
  if !s.time.link ∨ !other then noEffect s
  else
    let c := if old = 0 then { s.clk with clkA := false } else { s.clk with clkB := false }
    clockEvent F.CLK_EVENTS_REF_SWITCH (setRef { s with clk := c } (1 - old))

def execRefSwitch (dt : Elapsed) (s : State) : Out := .next (refSwitch (advance dt s))

/-- A judging window ends with the counts of the four clocks (R81–R83). The judge stands while the crystal does (R505). -/
def judgeWindow (lclk link lane sys : Nat) (s : State) : State :=
  let phase := s.rd F.CLK_STATUS_CLK_PHASE
  if s.clk.inReset ∨ !s.is F.CLK_STATUS_XTAL_OK ∨ s.is F.RTC_STATUS_XTAL_SUBST then noEffect s
  else if phase = 0 ∨ phase = 1 ∨ phase = 5 then
    match lclkOf lclk with
    | some n =>
      let s := if phase = 5 ∧ !s.clk.parked ∧ n ≠ s.clk.oldLclk ∧ !s.is F.CLK_EVENTS_ANN_MISSED then
          clockEvent F.CLK_EVENTS_ANN_MISSED s else s
      laneFreq ((s.wr F.CLK_STATUS_LCLK_NOM n).wr F.CLK_STATUS_CLK_PHASE 2)
    | none =>
      let s := clockEvent F.CLK_EVENTS_JUDGE_FAIL (portsDown s)
      if phase = 5 then s else s.wr F.CLK_STATUS_CLK_PHASE (if lclk = 0 then 0 else 1)
  else if phase = 3 ∨ phase = 4 then
    let out := decide (lclkOf lclk ≠ some (s.rd F.CLK_STATUS_LCLK_NOM))
    let ann := s.ring.announced.isSome || s.clk.parked
    let n := if out && !ann then s.clk.badWindows + 1 else 0
    let s := { s with clk := { s.clk with badWindows := n } }
    if 2 ≤ n then loseLclk false s
    else
      let s := if s.time.link && !pllOk s.linkMHz link then pllLost 0 s else s
      let s := if s.clk.lane && !pllOk s.laneMHz lane then pllLost 1 s else s
      if s.clk.supv && !pllOk 250 sys then pllLost 2 s else s
  else noEffect s

def execJudgeWindow (dt : Elapsed) (lclk link lane sys : Nat) (s : State) : Out :=
  .next (judgeWindow lclk link lane sys (advance dt s))

/-- The rein timeout of group `g` (0–7 DGg, 8–11 AGg) [ms]. -/
def State.reinTo (s : State) (g : Nat) : Nat :=
  if g < 8 then s.rd F.DG_GROUP_REIN_TO g else s.rd F.AG_GROUP_REIN_TO (g - 8)

/-- A bridge frame: it carries the bridge age, at which a group's rein timeout stops its rein (R86, R88). -/
def bridgeFrame (s : State) : State :=
  match s.clk.bridgeFrom with
  | none => noEffect s
  | some f =>
    let age := s.time.xt - f
    let due := (List.range 12).filter fun g => decide (s.reinTo g * 32768 ≤ age * 1000)
    let long := s.clk.bridgeLong || (!due.isEmpty && (decide (s.mode = mRUN) || decide (s.mode = mHOLD)))
    due.foldl (fun s g => reinTimeout g s) { s with clk := { s.clk with bridgeAge := age, bridgeLong := long } }

def execBridgeFrame (dt : Elapsed) (s : State) : Out := .next (bridgeFrame (advance dt s))

/-! ### Parks (R91, R93) -/

/-- The T0 execution is in progress. -/
def State.t0Runs (s : State) : Bool := s.allExecs.any fun x => decide (x.task = 0)

/-- The park at the first T0 period boundary after the latch that carried the announcement, at which no T0 runs. -/
def park (s : State) : State :=
  match s.ring.announced with
  | none => noEffect s
  | some c =>
    if s.clk.parked ∨ !s.timed ∨ !s.time.link ∨ s.time.now < s.nextBoundary ∨ s.t0Runs then noEffect s
    else
      let old := s.rd F.CLK_STATUS_LCLK_NOM
      let s := clockEvent F.CLK_EVENTS_PARK_ANN s
      let s := holdStation (closeSys (closeLane s))
      let s := lostLink { s with ring := { s.ring with announced := none, due := [], copyPort := none } }
      { s with clk := { s.clk with parked := true, changeFrom := some c, oldLclk := old, badWindows := 0 } } |>.wr
        F.CLK_STATUS_CLK_PHASE 4

def execPark (dt : Elapsed) (s : State) : Out := .next (park (advance dt s))

/-! ### Gates open (R83, R85, R87, R88, R92) -/

/-- Ports that receive a clock leave DOWN as the link PLL runs (NRL-12). -/
def portsTrain (s : State) : State :=
  let one (s : State) (p : Port) : State :=
    if s.port p = pDOWN ∧ s.clockOn p ∧ !s.heldPort p then setPort s p pTRAINING else s
  let s := one (one s .A) .B
  if s.rd F.NRL_STATE_MOD_ST = 0 then s.wr F.NRL_STATE_MOD_ST 1 else s

/-- The gates open for the first time after a reset that cleared the ring interface: phase C (CLK-8, R78, R569). -/
def firstGates (s : State) : State :=
  let s := setStation { s with time := { s.time with link := true, probeAt := s.time.now } } 0 s.time.now
  let s := s.wr F.CLK_STATUS_CLK_PHASE 3
  let s := { s with clk := { s.clk with
    lane := true, supv := true, image := true, event := true, bypass := false, gatesOpened := some s.time.xt }
                    fld := { s.fld with dgg := s.fld.dgg.map fun e => (e.1, { e.2 with stream := true }) } }
  portsTrain (log Ev.RESET [s.rd F.CLK_STATUS_RESET_CAUSE] s)

/-- The field side as the frame streams come back (CLK-3, R308, R423): last committed values, domains afresh, filters
SETTLING. -/
def reopenField (s : State) : State :=
  let s := { s with fld := { s.fld with dgg := s.fld.dgg.map fun e => (e.1, { e.2 with stream := true }) } }
  let s := (List.range 4).foldl reopenDomain s
  let s := (List.range 4).foldl syncResetGroup s
  (List.range 128).foldl (fun s c =>
    if s.dmode c = 4 ∧ s.dieRuns (grp c) ∧ (s.dgg (grp c)).rein = 0 ∧ (s.dgg (grp c)).safe = 0 then pwmStart s c else s) s

/-- All gates open after a bridge. A bridge that reached a rein timeout in RUN or HOLD ends in FAULT (R88). -/
def bridgeGates (s : State) : State :=
  let long := s.clk.bridgeLong
  let age := s.time.xt - s.clk.bridgeFrom.getD s.time.xt
  let s := { s with time := { s.time with link := true, probeAt := s.time.now }
                    clk := { s.clk with bridgeFrom := none, bridgeAge := age, bridgeLong := false, parked := false, bypass := false } }
  let s := openEvent (openSys (s.wr F.CLK_STATUS_CLK_PHASE 3))
  let s := portsTrain (reopenField (openLane s))
  if long then enterFault (clockEvent F.CLK_EVENTS_RELOCK_LATE s) 1 else s

/-- A PLL has settled and passed a judging window (R83): 0 link, 1 lane, 2 system, 3 all of them after identification. -/
def pllGatesOpen (pll : Nat) (s : State) : State :=
  let phase := s.rd F.CLK_STATUS_CLK_PHASE
  match pll with
  | 1 => if phase = 3 ∧ !s.clk.lane ∧ !s.clk.limited then openLane s else noEffect s
  | 2 => if phase = 3 ∧ !s.clk.supv then openEvent (openSys s) else noEffect s
  | 3 =>
    if phase ≠ 2 then noEffect s
    else if s.clk.bridgeFrom.isSome then bridgeGates s
    else firstGates s
  | _ => noEffect s

def execPllGatesOpen (dt : Elapsed) (pll : Nat) (s : State) : Out := .next (pllGatesOpen pll (advance dt s))

/-! ### Lane-clock steps (R95, R484, R485) -/

/-- The first task whose PEAK does not fit lane clock `mhz` (R484). -/
def State.budgetFails (s : State) (mhz : Nat) : Option Nat :=
  let peak (t : Nat) : Nat := Table.find 0 s.scn.peak t
  if s.rd F.SCN_T_PERIOD 0 * mhz < peak 0 + 14 * mhz then some 0
  else (List.range 64).find? fun t =>
    let w := s.rd F.SCN_T_WD_LIMIT t
    decide (w ≠ 0) && decide ((w - 1) * 1000000 * mhz < peak t * 32768)

/-- The lane clock at margin step `k` (R77). -/
def State.stepMHz (s : State) (k : Nat) : Nat :=
  if s.rd F.CLK_STATUS_LCLK_NOM ≠ 3 then 250
  else match k with
    | 0 => 500
    | 1 => 450
    | 2 => 400
    | _ => 350

/-- A margin step is taken: LANE_STEP in force, the lane clock at LCLK 100 MHz, the record of PWR-14. -/
def takeLaneStep (s : State) (k : Nat) : State :=
  let old := s.rd F.PWR_PLAN_LANE_STEP
  let slack := unsgn 32 (min (sgn 16 (s.rd F.PWR_SENSE_SLACK_A))
    (min (sgn 16 (s.rd F.PWR_SENSE_SLACK_B)) (sgn 16 (s.rd F.PWR_SENSE_SLACK_C))))
  let s := if s.pwr.laneUrgent then s.wr F.PWR_PLAN_URGENT 1 else s
  let s := { s with pwr := { s.pwr with laneTo := none, laneDefer := false, laneUrgent := false } }
  let s := laneFreq ((s.wr F.PWR_PLAN_LANE_STEP k).wr F.PWR_PLAN_BUDGET_SHORT 0)
  setLatch 19 (log Ev.PLAN_STEP ([0, old, k, 0] ++ leBytes 4 slack) s)

/-- A step that no longer fits is deferred (R484). -/
def deferStep (s : State) (t : Nat) : State :=
  let s := { s with pwr := { s.pwr with laneDefer := true } }
  let s := (s.wr F.PWR_PLAN_BUDGET_SHORT 1).wr F.PWR_PLAN_BUDGET_TASK t
  setLatch 19 (log Ev.BUDGET_SHORT ([t, 0, 0, 0] ++ leBytes 4 (Table.find 0 s.scn.peak t)) s)

/-- A lane step that is asked for is made: in RUN and HOLD only with no execution and the next T0 release at least 230 µs ahead;
deferred ones wait for STOP or FAULT. -/
def laneStepChange (s : State) : State :=
  match s.pwr.laneTo with
  | none => noEffect s
  | some k =>
    let live := decide (s.mode = mRUN) || decide (s.mode = mHOLD)
    if !s.clk.lane ∨ (live ∧ (!s.lanesIdle ∨ !s.scn.presented.isEmpty ∨ s.nextBoundary + 4000 < s.time.now + 230000)) then noEffect s
    else if live ∧ !s.pwr.laneUrgent then
      if s.pwr.laneDefer then noEffect s
      else match s.budgetFails (s.stepMHz k) with
        | some t => deferStep s t
        | none => takeLaneStep s k
    else takeLaneStep s k

def execLaneStepChange (dt : Elapsed) (s : State) : Out := .next (laneStepChange (advance dt s))

/-! ### The crystal (R101, R505) -/

/-- No crystal edge for 500 µs. Without VSYS only the backup domain is concerned. -/
def oscStop (s : State) : State :=
  if !s.rtc.powered ∨ !s.is F.RTC_STATUS_XTAL_RUN then noEffect s
  else
    let s := ((s.wr F.RTC_STATUS_XTAL_RUN 0).wr F.RTC_STATUS_OSF 1).wr F.RTC_STATUS_OSF_CAUSE 2
    if s.clk.inReset then s
    else
      let s := { s with rtc := { s.rtc with subXt := s.time.xt, subAt := s.time.now } }
      log Ev.OSC_STOP [2] ((s.wr F.CLK_STATUS_XTAL_OK 0).wr F.RTC_STATUS_XTAL_SUBST 1)

def execOscStop (dt : Elapsed) (s : State) : Out := .next (oscStop (advance dt s))

/-- The crystal has oscillated for 1 s after a stop; or it has started after the POR release (R101). A module in the limited state
stays in it until the next reset. -/
def xtalResume (s : State) : State :=
  if !s.rtc.powered ∨ s.is F.RTC_STATUS_XTAL_RUN then noEffect s
  else
    let s := s.wr F.RTC_STATUS_XTAL_RUN 1
    if s.clk.inReset then s else (s.wr F.RTC_STATUS_XTAL_SUBST 0).wr F.CLK_STATUS_XTAL_OK 1

def execXtalResume (dt : Elapsed) (s : State) : Out := .next (xtalResume (advance dt s))

/-- The crystal still stands 1,000 ms after POR release (R101): the link runs unjudged, the system PLL too; the lanes stay
closed. -/
def xtalLimited (s : State) : State :=
  if s.clk.inReset ∨ s.clk.gatesOpened.isSome ∨ s.is F.CLK_STATUS_XTAL_OK then noEffect s
  else
    let s := firstGates { s with clk := { s.clk with limited := true } }
    { s with clk := { s.clk with lane := false } } |>.wr F.CLK_STATUS_CLK_PHASE 6

def execXtalLimited (dt : Elapsed) (s : State) : Out := .next (xtalLimited (advance dt s))

end Sys2Proof.Machine
end

