-- ==== Sys2Proof/Machine/Recorder.lean ====
section
/-!
DEFINITION. The store and the recorder: recall (R454, R455, R459, R460), Burnish (R438–R440), flushes (R457), operating time,
reading and clearing the log (R462–R464).
-/

namespace Sys2Proof.Machine

/-! ### Recall -/

/-- The configuration object and index of an internal object number. -/
def objOf : List ObjDef → Nat → Option (Nat × Nat)
  | [], _ => none
  | d :: ds, n => if n < objCount d then some (d.id, n) else objOf ds (n - objCount d)

/-- A slot that recall or Burnish finds damaged is not usable (R445). -/
def damageSlot (s : State) (kind index slot : Nat) : State :=
  let r := s.stoRec kind index
  let off (x : Option Slot) : Option Slot := x.map fun y => { y with usable := false }
  putRec s (if slot = 0 then { r with s0 := off r.s0 } else { r with s1 := off r.s1 })

/-- An uncorrectable group is counted and logged (R436). -/
def uncorrectable (s : State) (part addr : Nat) : State :=
  log Ev.UNCORR ([part, 0, 0, 0] ++ leBytes 4 addr) (s.inc F.STO_COUNT_UNCORR)

/-- A record that resolves to nothing is logged, and flagged where it is INCONSISTENT (R447; one that was never written is not
logged, assumption log 43). -/
def resolveRec (s : State) (r : StoRec) : State :=
  let note (s : State) : State := log Ev.INCONSISTENT (leBytes 2 r.kind ++ leBytes 2 r.index) s
  match s.resolve r.kind r.index with
  | .slot _ _ => s
  | .absent => note s
  | .inconsistent =>
    let key := if r.kind = kCONFIG then (objOf objects r.index).getD (65536 + r.kind, r.index) else inconsKey r.kind r.index
    note (setIncons s key true)

/-- Calibration coefficients and slice assignments whose record is damaged take their baseline (STO-5). -/
def baseline (s : State) (kind index : Nat) : State :=
  if kind = kCALIB then (s.wr F.AG_CS_OFFS 0 index).wr F.AG_CS_GAIN 0 index
  else if kind = kSLICEMAP then
    { s with ana := { s.ana with keep := (List.range 5).foldl (fun t k => Table.drop t (5 * index + k)) s.ana.keep } }
  else s

/-- The highest RSEQ in the log ring plus 1, 0 while it is empty. -/
def State.logHead (s : State) : Nat :=
  let good := s.sto.logRing.filter fun e => !e.2.uncorr && !e.2.crcBad
  good.foldl (fun (h : Nat × Bool) e =>
    let n := (e.2.rcd.seq.getD 0 + 1) % 2 ^ 32
    if !h.2 || after32 n h.1 then (n, true) else h) (0, false) |>.1

/-- The held records take their RSEQs in order from `n` on. -/
def numberRecs : Nat → List Rec → List Rec
  | _, [] => []
  | n, r :: rs => { r with seq := some (n % 2 ^ 32) } :: numberRecs (n + 1) rs

/-- NEXT, a LOST record and the numbers of the records held so far (R459, R460); then the reserve. -/
def setNext (s : State) : State :=
  let r66 := s.ringValue 66
  let res := r66 % 2 ^ 32
  let h := s.logHead
  let c : Nat × Option (List Nat) := match s.sto.loss with
    | some (first, n) => ((first + n) % 2 ^ 32, some (leBytes 4 first ++ leBytes 3 n ++ [0]))
    | none =>
      if 2 ^ 32 ≤ r66 then (res, none)
      else if after32 res h then (res, some (leBytes 4 h ++ leBytes 3 (res + 2 ^ 32 - h) ++ [1]))
      else (h, none)
  let lost := match c.2 with
    | some arg => [s.mkRec Ev.LOST arg none]
    | none => []
  let buf := numberRecs c.1 (lost ++ s.sto.buf)
  let next := (c.1 + buf.length) % 2 ^ 32
  let s := { s with sto := { s.sto with buf := buf, nextSet := true, loss := none } }
  let s := bufRegs (s.wr F.REC_STAT_NEXT next)
  let s := if lost.isEmpty then s else setLatch 23 s
  ringSoon s 66 ((next + 1024) % 2 ^ 32)

/-- Recall completes. `header` says that the store header and partition table are good; `bad` lists slots that are not usable
(kind, index, slot), `uncorr` uncorrectable groups (partition, address). -/
def storeRecallDone (header : Bool) (bad : List (Nat × Nat × Nat)) (uncorr : List (Nat × Nat)) (s : State) : State :=
  if !s.clk.supv ∨ s.clk.gatesOpened.isNone ∨ s.is F.CLK_START_RECALL_DONE then noEffect s
  else
    let ok := header && !s.sto.headerBad
    let s := { s with sto := { s.sto with headerBad := !ok } } |>.wr F.STO_STATUS_STATE (if ok then 1 else 2)
    let s := uncorr.foldl (fun s e => uncorrectable s e.1 e.2) s
    let s := bad.foldl (fun s e => baseline (damageSlot s e.1 e.2.1 e.2.2) e.1 e.2.1) s
    let s := s.sto.recs.foldl resolveRec s
    let s := s.wr F.STO_STATUS_SETCOMMIT_BAD (b2n s.setGen.isNone)
    let s := s.wr F.STO_STATUS_RING_EMPTY (b2n (decide (s.sto.rings.length < 1024)))
    let s := s.wr F.SCN_MODE_RETAIN_VALID (b2n (s.recData kRETAIN 0).isSome)
    let s := { s with pwr := { s.pwr with opBase := s.ringValue 64, opXt := s.time.xt, opSaved := s.ringValue 64 }
                      sto := { s.sto with burnishFrom := s.time.xt } }
    let s := (List.range 4).foldl restoreSlices s
    let s := setNext (keyRegs s)
    let s := if s.rd F.CLK_STATUS_RESET_CAUSE = 1 then ringSoon s 65 (s.ringValue 65 + 1) else s
    s.wr F.CLK_START_RECALL_DONE 1

def execStoreRecallDone (dt : Elapsed) (header : Bool) (bad : List (Nat × Nat × Nat)) (uncorr : List (Nat × Nat)) (s : State) : Out :=
  .next (storeRecallDone header bad uncorr (advance dt s))

/-! ### Burnish -/

/-- BURNISH_INTERVAL in hours. -/
def State.burnishHours (s : State) : Nat := 24 / 2 ^ s.rd F.STO_STATUS_BSTEP

/-- A pass begins. -/
def burnishPass (s : State) : State :=
  if !s.is F.CLK_START_RECALL_DONE ∨ !s.clk.supv ∨ s.is F.STO_STATUS_BURNISH_ACTIVE ∨
      s.time.xt < s.sto.burnishFrom + s.burnishHours * 117964800 then noEffect s
  else
    { s with sto := { s.sto with
      burnishPage := 0, burnishFrom := s.time.xt, burnishRef := 0, burnishSkip := 0, burnishBrw := 0 } }.wr F.STO_STATUS_BURNISH_ACTIVE 1

def execBurnishPass (dt : Elapsed) (s : State) : Out := .next (burnishPass (advance dt s))

/-- What Burnish does about an uncorrectable group: a two-slot record whose other slot is usable gets its content as a new
generation (R440). `kind` 0: no such record. -/
def healGroup (s : State) (e : Nat × Nat × Nat × Nat × Nat) : State :=
  let (part, addr, kind, index, slot) := e
  let s := uncorrectable s part addr
  if kind = 0 then s
  else
    let s := damageSlot s kind index slot
    match s.resolve kind index with
    | .slot _ x => if s.storeOk then writeRec s kind index x.setgen x.data else (s.inc F.STO_COUNT_SKIPPED)
    | _ => s

/-- One page of the pass: `fixed` groups had errors corrected, `margin` more differed at the margin reference; `uncorr` lists the
uncorrectable ones (partition, address, kind, index, slot). -/
def burnishPage (fixed margin : Nat) (uncorr : List (Nat × Nat × Nat × Nat × Nat)) (s : State) : State :=
  let p := s.sto.burnishPage
  if !s.is F.STO_STATUS_BURNISH_ACTIVE ∨ !s.clk.supv ∨ !s.is F.CLK_START_RECALL_DONE ∨
      s.time.xt < s.sto.burnishFrom + 128 * (p + 1) then noEffect s
  else
    let n := fixed + margin
    let s := s.inc F.STO_COUNT_CORR 0 fixed
    let s := if s.storeOk then { s with sto := { s.sto with
          burnishRef := s.sto.burnishRef + n, burnishBrw := s.sto.burnishBrw + margin } }
      else { s.inc F.STO_COUNT_SKIPPED 0 n with sto := { s.sto with burnishSkip := s.sto.burnishSkip + n } }
    let s := uncorr.foldl healGroup { s with sto := { s.sto with burnishPage := p + 1 } }
    if p + 1 < 2304 then s
    else
      let s := log Ev.BURNISH_PASS (leBytes 4 s.sto.burnishRef ++ leBytes 4 s.sto.burnishSkip) s
      let s := { s with pwr := { s.pwr with sensed := s.pwr.sensed ||| 2 } }
      (s.wr F.STO_STATUS_BURNISH_ACTIVE 0).wr F.PWR_SENSE_BRW (min 65535 (s.sto.burnishBrw * 24 / s.burnishHours))

def execBurnishPage (dt : Elapsed) (fixed margin : Nat) (uncorr : List (Nat × Nat × Nat × Nat × Nat)) (s : State) : Out :=
  .next (burnishPage fixed margin uncorr (advance dt s))

/-! ### Flushes and times -/

/-- A flush that is due is made; one for a power failure goes on with the pending counter rings (R442, R457). -/
def recorderFlush (s : State) : State :=
  let c := s.sto.flushDue
  if c = 0 ∨ !s.clk.supv ∨ !s.storeOk ∨ !s.sto.nextSet then noEffect s
  else
    let s := flushNow s
    if c = 1 then flushRings s else s

def execRecorderFlush (dt : Elapsed) (s : State) : Out := .next (recorderFlush (advance dt s))

/-- The oldest buffered record was created 10 s ago. -/
def recorderAge (s : State) : State :=
  match s.sto.buf with
  | [] => noEffect s
  | r :: _ =>
    if s.time.xt < r.xt + 327680 ∨ s.sto.flushDue ≠ 0 then noEffect s
    else { s with sto := { s.sto with flushDue := 5 } }

def execRecorderAgeExpiry (dt : Elapsed) (s : State) : Out := .next (recorderAge (advance dt s))

/-- Every 60 s the operating time goes into ring 64 (R453). -/
def operatingTime (s : State) : State :=
  let t := s.opTime
  if !s.is F.CLK_START_RECALL_DONE ∨ t < s.pwr.opSaved + 1966080 then noEffect s
  else ringSoon { s with pwr := { s.pwr with opSaved := t } } 64 (t % 2 ^ 48)

def execOperatingTimeUpdate (dt : Elapsed) (s : State) : Out := .next (operatingTime (advance dt s))

/-- TIME_LINK every hour while station time is available (R456). -/
def timeLinkHour (s : State) : State :=
  if s.recTime.1 ≠ 0 ∨ s.time.xt < s.rtc.linkXt + 117964800 then noEffect s else timeLink s

def execTimeLink (dt : Elapsed) (s : State) : Out := .next (timeLinkHour (advance dt s))

/-! ### Reading (R462, R463) -/

/-- The 32 bytes of a record (STO-7). -/
def recWire (r : Rec) : List Nat :=
  let b := leBytes 4 (r.seq.getD 0) ++ [r.tmode + 4 * r.sev, r.code / 256] ++ leBytes 2 r.code ++ leBytes 8 r.time ++
    leBytes 4 r.cinch ++ slice r.arg 0 8
  b ++ leBytes 4 (crc32 b)

/-- A placeholder. -/
def placeholder (n : Nat) (e : Nat × Nat) : Rec := ⟨some n, 2, e.2, e.1, 0, 0, [], 0⟩

/-- The record that answers RSEQ `n`. -/
def State.recAt (s : State) (n : Nat) : Rec :=
  match s.sto.buf.find? fun r => decide (r.seq = some n) with
  | some r => r
  | none =>
    match s.sto.logRing.find? fun e => decide (e.1 = n % 32768) with
    | none => placeholder n Ev.NOT_STORED
    | some (_, x) =>
      if x.uncorr then placeholder n Ev.DAMAGED
      else if x.rcd.seq ≠ some n then placeholder n Ev.NOT_STORED
      else if x.crcBad then placeholder n Ev.DAMAGED
      else x.rcd

/-- REC_READ. -/
def recRead (c : Cmd) (_ : Session) (s : State) : State × Ans :=
  let first := leAt c.payload 0 4
  let count := leAt c.payload 4 2
  let next := s.rd F.REC_STAT_NEXT
  let d := (next + 2 ^ 32 - first) % 2 ^ 32
  if !(payOk c 8 6 2) ∨ count = 0 ∨ 48 < count then refuse s Code.BAD_PAYLOAD
  else gate {} s (
    if (first + 2 ^ 32 - next) % 2 ^ 32 < 2 ^ 31 then (s, .late Code.REC_NOT_YET)
    else if after32 s.oldestRec first then (s, .late Code.REC_OVERWRITTEN)
    else (s, .long (.recRead first (min count d) []) fun h s => startHdl s (h % 2048)))

def execRecRead (dt : Elapsed) (s : State) : Out := .next (mbxRun 0x80 1 recRead (advance dt s))

/-- A log slot is found uncorrectable (or with a wrong RCRC). -/
def markLog (uncorr : Bool) (s : State) (k : Nat) : State :=
  match s.sto.logRing.find? fun e => decide (e.1 = k) with
  | none => s
  | some (_, x) =>
    let y : LogSlot := if uncorr then { x with uncorr := true } else { x with crcBad := true }
    let s := { s with sto := { s.sto with logRing := Table.insert (Table.drop s.sto.logRing k) k y } }
    if uncorr ∧ !x.uncorr then uncorrectable s 12 (0x00A40000 + 32 * k) else s

/-- The copy of the REC_READ in handle slot `k` is confirmed; reading it found log slots uncorrectable or with a wrong RCRC. -/
def recReadConfirm (k : Nat) (uncorr crc : List Nat) (s : State) : State :=
  match s.hdl? k with
  | none => noEffect s
  | some h =>
    match h.op with
    | .recRead first count _ =>
      let s := crc.foldl (markLog false) (uncorr.foldl (markLog true) s)
      let old := s.oldestRec
      let res := old + 2 ^ 32 * s.bufFirst
      if after32 old first then fin s k Code.REC_OVERWRITTEN res
      else fin s k Code.OK res ((List.range count).flatMap fun i => recWire (s.recAt ((first + i) % 2 ^ 32)))
    | _ => noEffect s

def execRecReadConfirm (dt : Elapsed) (k : Nat) (uncorr crc : List Nat) (s : State) : Out :=
  .next (recReadConfirm k uncorr crc (advance dt s))

/-! ### Clearing (R464) -/

/-- REC_CLEAR. -/
def recClear (c : Cmd) (_ : Session) (s : State) : State × Ans :=
  let b := leAt c.payload 0 4
  let old := s.oldestRec
  let next := s.rd F.REC_STAT_NEXT
  if !(payOk c 4 4 0) then refuse s Code.BAD_PAYLOAD
  else gateStore {} s (
    if (next + 2 ^ 32 - old) % 2 ^ 32 < (b + 2 ^ 32 - old) % 2 ^ 32 then (s, .late Code.BAD_CONFIRM)
    else (s, .long (.recClear b old) fun h s => startHdl s (h % 2048)))

def execRecClear (dt : Elapsed) (s : State) : Out := .next (mbxRun 0x81 4 recClear (advance dt s))

/-- The flush, the mark, CLEARED and its flush; a unit refused leaves the former boundary. -/
def recClearDone (s : State) : State :=
  match s.mbx.hdls.find? fun h => match h.op with
      | .recClear _ _ => true
      | _ => false with
  | none => noEffect s
  | some h =>
    match h.op with
    | .recClear b _ =>
      if !s.clk.supv then noEffect s
      else if !s.storeOk ∨ !s.sto.nextSet then
        fin (writeAbandoned s kCLEARMARK 0 0x81) h.slot Code.WRITE_ABANDONED 0
      else
        let old := s.oldestRec
        let s := writeRec (flushNow s) kCLEARMARK 0 0 (leBytes 8 b)
        let s := flushNow (log Ev.CLEARED ([h.session % 256, 4, 0, 0] ++ leBytes 4 old) s)
        fin s h.slot Code.OK ((b + 2 ^ 32 - old) % 2 ^ 32)
    | _ => noEffect s

def execRecClearDone (dt : Elapsed) (s : State) : Out := .next (recClearDone (advance dt s))

end Sys2Proof.Machine
end

