-- ==== Sys2Proof/Machine/Power.lean ====
section
/-!
DEFINITION. Supplies, ride-through and shutdown (R467–R475), the hold-up test (R477, R478), ageing and the margin plan (R479–R487).
-/

namespace Sys2Proof.Machine

/-! ### HOLD (R467, CLK-9) -/

/-- HOLD stands at `v` [10 mV], and every threshold follows. -/
def setHold (s : State) (v : Nat) : State :=
  let s := (s.wr F.PWR_STATUS_HOLD_V v).wr F.PWR_STATUS_CHARGED (b2n (decide (4150 ≤ v)))
  let ok := b2n (decide (3000 ≤ v))
  ((s.wr F.CLK_START_HOLD_30 ok).wr F.STO_STATUS_HOLD_OK ok).wr F.CLK_START_HOLD_38 (b2n (decide (3800 ≤ v)))

/-- HOLD crosses 30 V, 38 V, 41.5 V or 42 V: the charger stops at 42.0 V and restarts below 41.5 V. -/
def holdThreshold (v : Nat) (s : State) : State :=
  let s := setHold s v
  let p := s.rd F.PWR_STATUS_PSTATE
  let s := if s.riding then s.wr F.PWR_STATUS_HOLD_MIN (min (s.rd F.PWR_STATUS_HOLD_MIN) v) else s
  if s.clk.inReset then s
  else if p = 1 ∧ 4200 ≤ v then
    { s with pwr := { s.pwr with fullFrom := s.pwr.fullFrom.or (some s.time.xt) } } |>.wr F.PWR_STATUS_PSTATE 0
  else if p = 0 ∧ v < 4150 ∧ !s.is F.PWR_STATUS_TEST_ACTIVE then
    { s with pwr := { s.pwr with chargeFrom := s.time.xt } } |>.wr F.PWR_STATUS_PSTATE 1
  else s

def execHoldThreshold (dt : Elapsed) (v : Nat) (s : State) : Out := .next (holdThreshold v (advance dt s))

/-! ### Power failure (R472–R474) -/

/-- A power failure is detected, VSYS and HOLD as measured [10 mV]. Below 33.0 V the shutdown begins at once. -/
def powerFail (vsys hold : Nat) (s : State) : State :=
  if s.riding ∨ s.clk.inReset then noEffect s
  else
    let s := (setHold s hold).wr F.PWR_STATUS_VSYS_V vsys
    let s := (s.wr F.PWR_STATUS_HOLD_MIN hold).wr F.PWR_STATUS_TEST_ACTIVE 0
    let s := { s with pwr := { s.pwr with rideAt := s.time.now, rideXt := s.time.xt } }
    let s := log Ev.POWER_FAIL (leBytes 2 (hold / 10)) s
    let s := { s with sto := { s.sto with flushDue := 1 } } |>.wr F.PWR_STATUS_PSTATE 2
    let s := setLatch 18 s
    if hold < 3300 then shutdownNow s else s

def execPowerFail (dt : Elapsed) (vsys hold : Nat) (s : State) : Out := .next (powerFail vsys hold (advance dt s))

/-- How long the ride has lasted [µs], on the crystal where the LINK domain stands. -/
def State.rideUs (s : State) : Nat :=
  if s.time.link then (s.time.now - s.pwr.rideAt) / 1000 else (s.time.xt - s.pwr.rideXt) * 1000000 / 32768

/-- VSYS has stayed above 18.0 V for 1 ms. -/
def rideReturn (vsys hold : Nat) (s : State) : State :=
  if !s.riding then noEffect s
  else
    let low := min (s.rd F.PWR_STATUS_HOLD_MIN) hold
    let us := s.rideUs
    let s := ((setHold s hold).wr F.PWR_STATUS_VSYS_V vsys).wr F.PWR_STATUS_HOLD_MIN low
    let s := ({ s with pwr := { s.pwr with chargeFrom := s.time.xt } }.wr F.PWR_STATUS_PSTATE 1).inc F.PWR_STATUS_RIDES
    log Ev.POWER_RESTORED (leBytes 4 us ++ leBytes 2 low) s

def execRideReturn (dt : Elapsed) (vsys hold : Nat) (s : State) : Out := .next (rideReturn vsys hold (advance dt s))

/-- RIDE_MAX has elapsed or HOLD has fallen to 33.0 V. -/
def shutdown (hold : Nat) (s : State) : State :=
  if !s.riding ∨ (s.rideUs < 1000 * s.rd F.PWR_CFG_RIDE_MAX ∧ 3300 < hold) then noEffect s
  else
    let low := min (s.rd F.PWR_STATUS_HOLD_MIN) hold
    shutdownNow ((setHold s hold).wr F.PWR_STATUS_HOLD_MIN low)

def execShutdown (dt : Elapsed) (hold : Nat) (s : State) : Out := .next (shutdown hold (advance dt s))

/-! ### The hold-up test (R477, R478, R489) -/

/-- Status of a write of HOLD_TEST. -/
def State.holdTestStatus (s : State) : Nat :=
  if s.is F.PWR_STATUS_TEST_ACTIVE ∨ s.pwr.testReq then Code.HOLD_TEST_BUSY
  else if !s.is F.PWR_STATUS_CHARGED then Code.HOLD_NOT_CHARGED
  else Code.OK

/-- A write of 1 to PWR.CFG.HOLD_TEST. -/
def holdTest (s : State) : State :=
  if s.holdTestStatus = Code.OK then { s with pwr := { s.pwr with testReq := true } } else noEffect s

def execHoldTest (dt : Elapsed) (s : State) : Out := .next (holdTest (advance dt s))

/-- A test is due: requested, 10 s after HOLD first reached 42 V, or 24 h after the last. -/
def State.testDue (s : State) : Bool :=
  s.pwr.testReq || match s.pwr.testXt with
    | some t => decide (t + 2831155200 ≤ s.time.xt)
    | none => match s.pwr.fullFrom with
      | some f => decide (f + 327680 ≤ s.time.xt)
      | none => false

/-- A test starts with the charger paused, HOLD at or above 41.5 V. -/
def holdTestRun (s : State) : State :=
  if s.is F.PWR_STATUS_TEST_ACTIVE ∨ !s.is F.PWR_STATUS_CHARGED ∨ s.riding ∨ s.clk.inReset ∨ !s.testDue then noEffect s
  else { s with pwr := { s.pwr with testReq := false, testXt := some s.time.xt } } |>.wr F.PWR_STATUS_TEST_ACTIVE 1

def execHoldTestRun (dt : Elapsed) (s : State) : Out := .next (holdTestRun (advance dt s))

/-- Hold-up class of PWR-7: the lowest step whose condition is met; CAP_FAULT is exhausted (4). -/
def holdClass (cap esr : Nat) (fault : Bool) : Nat :=
  if fault then 4 else if 330 ≤ cap ∧ esr ≤ 300 then 0 else if 250 ≤ cap ∧ esr ≤ 500 then 1 else 2

/-- The recorder watermark of a step (R457). -/
def wmarkOf (k : Nat) : Nat :=
  match k with
  | 0 => 192
  | 1 => 128
  | 2 => 64
  | _ => 32

/-- The watermark step is `k`; records that reach the new watermark are flushed. -/
def putWmark (s : State) (k : Nat) : State :=
  let s := ((s.wr F.PWR_PLAN_WMARK_STEP k).wr F.REC_STAT_WSTEP k).wr F.REC_STAT_WMARK (wmarkOf k)
  let s := hostSync 37 (hostSync 5 s)
  if wmarkOf k ≤ s.bufCnt ∧ s.sto.flushDue = 0 then { s with sto := { s.sto with flushDue := 5 } } else s

/-- A step of item `item` (0–4) changes: PLAN_STEP and the ageing source (R487). -/
def planStep (s : State) (item old new group metric : Nat) : State :=
  setLatch 19 (log Ev.PLAN_STEP ([item, old, new, group] ++ leBytes 4 metric) s)

/-- The watermark takes the indicated step (R482). -/
def stepWmark (s : State) (ind : Nat) : State :=
  let old := s.rd F.PWR_PLAN_WMARK_STEP
  let k := min 3 ind
  if k = old then s else planStep (putWmark s k) 2 old k 0 (min 3 ind)

/-- The test is complete: C_meas [µF], ESR [mΩ] and HOLD after it [10 mV]. -/
def holdTestDone (cap esr hold : Nat) (s : State) : State :=
  if !s.is F.PWR_STATUS_TEST_ACTIVE then noEffect s
  else
    let fault := decide (cap < 150) || decide (1000 < esr)
    let weak := decide (cap < 330) || decide (300 < esr)
    let s := ((s.wr F.PWR_STATUS_TEST_ACTIVE 0).wr F.PWR_STATUS_CAP_FAULT (b2n fault)).wr F.PWR_STATUS_CAP_WEAK (b2n weak)
    let s := (s.wr F.PWR_HOLDUP_CMEAS (min 65535 cap)).wr F.PWR_HOLDUP_ESR (min 4095 esr)
    let s := { s with pwr := { s.pwr with sensed := s.pwr.sensed ||| 4 } }
    let e := if fault then (Ev.HOLD_TEST.1, 2) else Ev.HOLD_TEST
    let s := log e (leBytes 2 cap ++ leBytes 2 esr ++ [b2n weak + 2 * b2n fault]) s
    holdThreshold hold (stepWmark s (holdClass cap esr fault))

def execHoldTestDone (dt : Elapsed) (cap esr hold : Nat) (s : State) : Out :=
  .next (holdTestDone cap esr hold (advance dt s))

/-! ### Ageing sensors (R479, R483) -/

/-- Terms of the exponential series of `y` with 40 fraction bits, `n` of them from the `k`-th, `t`, on. -/
def expTerms (y : Int) : Nat → Nat → Int → Int
  | 0, _, _ => 0
  | n + 1, k, t => t + expTerms y n (k + 1) (t * y / (2 ^ 40 * ((k : Int) + 1)))

/-- The factor of R479 for a junction temperature of `t` mK, with 32 fraction bits (the rounding is the model's). -/
def ageFactor (t : Nat) : Nat :=
  let x : Int := 8123000 * 2 ^ 40 * ((t : Int) - 358150) / (358150 * max 1 t)
  if x < -(25 * 2 ^ 40) then 0 else (expTerms (min x (25 * 2 ^ 40)) 120 0 (2 ^ 40) / 2 ^ 8).toNat

/-- The equivalent age number `j` of PwrSt in 2^-32 s. -/
def State.age (s : State) (j : Nat) : Nat := Table.find 0 s.pwr.ages j

/-- One second at `t` mK is added to age `j`. -/
def addAge (s : State) (j t : Nat) : State :=
  { s with pwr := { s.pwr with ages := Table.put 0 s.pwr.ages j (s.age j + ageFactor t) } }

/-- EQH of digital group `g` [h]. -/
def State.eqh (s : State) (g : Nat) : Nat := s.age (1 + g) / (3600 * 2 ^ 32)

/-- AGE_LOGIC and EQH_MAX follow the ages. -/
def ageRegs (s : State) : State :=
  let e := (List.range 8).foldl (fun m g => max m (s.eqh g)) 0
  (s.wr F.PWR_SENSE_AGE_LOGIC (min 65535 (s.age 0 / (36000 * 2 ^ 32)))).wr F.PWR_SENSE_EQH_MAX (min (2 ^ 24 - 1) e)

/-- HOLD has not reached 42 V within twice the charge time of CAP_DECL (R478): 1,326 µs per µF. -/
def chargeLate (s : State) : Bool :=
  decide (s.rd F.PWR_STATUS_PSTATE = 1) &&
    decide (s.rd F.PWR_CFG_CAP_DECL * 1326 * 32768 < (s.time.xt - s.pwr.chargeFrom) * 1000000)

/-- The die temperatures of a second [mK]: the logic die, the digital dies, the quads (four of each AGg). -/
def ageingSample (tl : Nat) (td ta : List Nat) (s : State) : State :=
  if s.clk.gatesOpened.isNone ∨ s.time.xt < s.pwr.ageXt + 32768 then noEffect s
  else
    let s := addAge { s with pwr := { s.pwr with ageXt := s.time.xt } } 0 tl
    let s := (List.range 8).foldl (fun s g =>
      if s.charging g ∧ s.qMax g ≠ 0 then addAge s (1 + g) (td.getD g 0) else s) s
    let s := (List.range 4).foldl (fun s g => addAge s (9 + g) ((slice ta (4 * g) 4).foldl max 0)) s
    let s := ageRegs (s.wr F.PWR_SENSE_TJ_LOGIC (min 255 ((tl - 233150) / 1000)))
    if chargeLate s then s.wr F.PWR_STATUS_CAP_FAULT 1 else s

def execAgeingSample (dt : Elapsed) (tl : Nat) (td ta : List Nat) (s : State) : Out :=
  .next (ageingSample tl td ta (advance dt s))

/-- Every 600 s the rings 67–79 take the ages [s]. -/
def ageRingUpdate (s : State) : State :=
  if !s.is F.CLK_START_PLAN_DONE ∨ s.time.xt < s.pwr.sampleXt + 19660800 then noEffect s
  else (List.range 13).foldl (fun s j => ringSoon s (67 + j) (s.age j / 2 ^ 32))
    { s with pwr := { s.pwr with sampleXt := s.time.xt } }

def execAgeRingUpdate (dt : Elapsed) (s : State) : Out := .next (ageRingUpdate (advance dt s))

/-- D_k of PWR-7 [ps]. -/
def slackD (k : Nat) : Int :=
  match k with
  | 0 => 0
  | 1 => 222
  | 2 => 500
  | _ => 857

/-- The lane step a slack indicates; 4 is exhausted. -/
def laneInd (slack : Int) : Nat := ((List.range 4).find? fun k => decide (150 ≤ slack + slackD k)).getD 4

/-- SLACK of the module: the lowest of the three lanes. -/
def State.slack (s : State) : Int :=
  min (sgn 16 (s.rd F.PWR_SENSE_SLACK_A)) (min (sgn 16 (s.rd F.PWR_SENSE_SLACK_B)) (sgn 16 (s.rd F.PWR_SENSE_SLACK_C)))

/-- Every 60 s the replicas are sampled: the lowest slack of each lane [ps]. Below the guard of 50 ps an urgent step follows. -/
def slackSample (a b c : Int) (s : State) : State :=
  if !s.clk.lane ∨ s.time.xt < s.pwr.slackXt + 1966080 then noEffect s
  else
    let w (x : Int) : Nat := unsgn 16 (clampI (-32768) 32767 x)
    let s := ((s.wr F.PWR_SENSE_SLACK_A (w a)).wr F.PWR_SENSE_SLACK_B (w b)).wr F.PWR_SENSE_SLACK_C (w c)
    let ind := min 3 (laneInd s.slack)
    let s := s.wr F.PWR_PLAN_LANE_IND ind
    let s := { s with pwr := { s.pwr with slackXt := s.time.xt, sensed := s.pwr.sensed ||| 1 } }
    let k := s.rd F.PWR_PLAN_LANE_STEP
    if s.slack + slackD k < 50 ∧ k < ind then
      { s with pwr := { s.pwr with laneTo := some ind, laneUrgent := true, laneDefer := false } }
    else s

def execSlackSample (dt : Elapsed) (a b c : Int) (s : State) : Out := .next (slackSample a b c (advance dt s))

/-! ### The margin plan (PWR-7, R480–R487) -/

/-- DRIFT of analogue group `g` [0.1 LSB/h]. -/
def State.driftOf (s : State) (g : Nat) : Nat :=
  (List.range 5).foldl (fun m k => max m (Table.find 0 s.pwr.drift (5 * g + k))) 0

/-- The metric of item `i` (0 lane, 1 store, 2 watermark, 3–10 boost, 11–14 calibration) as measured. -/
def State.metric (s : State) (i : Nat) : Int :=
  if i = 0 then s.slack
  else if i = 1 then s.rd F.PWR_SENSE_BRW
  else if i = 2 then holdClass (s.rd F.PWR_HOLDUP_CMEAS) (s.rd F.PWR_HOLDUP_ESR) (s.is F.PWR_STATUS_CAP_FAULT)
  else if i < 11 then s.eqh (i - 3)
  else s.driftOf (i - 11)

/-- Item `i` was measured since the reset; the boost budget is a stored age. -/
def State.sensedItem (s : State) (i : Nat) : Bool :=
  if 3 ≤ i ∧ i < 11 then true
  else if i = 2 then s.pwr.sensed.testBit 2 || s.is F.PWR_STATUS_CAP_FAULT
  else s.pwr.sensed.testBit i

/-- The summary of epoch `n`: its number and the metrics of the items. -/
def State.summary (s : State) (n : Nat) : Option (List Int) :=
  match s.sto.hist.find? fun e => decide (e.1 = n % 1024) with
  | some (_, l) => if l.headD 0 = (n : Int) then some l else none
  | none => none

/-- The newest summary. -/
def State.newestSummary (s : State) : Option (List Int) :=
  (List.range 90).findSome? fun j => if s.pwr.epoch < j then none else s.summary (s.pwr.epoch - j)

/-- A metric no sensor has measured since the reset keeps the value of the newest summary (assumption log 44). -/
def State.planMetric (s : State) (i : Nat) : Option Int :=
  if s.sensedItem i then some (s.metric i) else s.newestSummary.map fun l => l.getD (i + 1) 0

/-- The limits of steps 0 to 3 of an item whose metric rises with wear; a boost budget is left at its limit, the others above. -/
def limits (i : Nat) : List Int :=
  if i = 1 then [8, 32, 128, 512]
  else if i = 2 then [0, 1, 2, 3]
  else if i < 11 then [59999, 109999, 149999, 199999]
  else [40, 80, 160, 320]

/-- The step item `i` is indicated by metric `m`; 4 is exhausted. -/
def indicated (i : Nat) (m : Int) : Nat :=
  if i = 0 then laneInd m else ((List.range 4).find? fun k => decide (m ≤ (limits i).getD k 0)).getD 4

/-- Item and group of PWR-14 of plan item `i`. -/
def itemOf (i : Nat) : Nat × Nat := if i < 3 then (i, 0) else if i < 11 then (3, i - 3) else (4, i - 11)

/-- The step in force of item `i`. -/
def State.planOf (s : State) (i : Nat) : Nat :=
  if i = 0 then s.rd F.PWR_PLAN_LANE_STEP
  else if i = 1 then s.rd F.PWR_PLAN_STORE_STEP
  else if i = 2 then s.rd F.PWR_PLAN_WMARK_STEP
  else if i < 11 then bits (s.rd F.PWR_PLAN_BOOST_STEP) (2 * (i - 3) + 1) (2 * (i - 3))
  else bits (s.rd F.PWR_PLAN_CAL_STEP) (2 * (i - 11) + 1) (2 * (i - 11))

/-- B_g of R317, times 65,536. -/
def State.boostDemand (s : State) (g : Nat) : Nat :=
  ((List.range 1024).filterMap fun e =>
    if s.rd F.ANG_EV_MODE e = 1 ∧ s.is F.ANG_EV_BOOST e ∧ s.evGroup e = some g then
      some (s.rd F.ANG_AD_SPD_MAX (s.rd F.ANG_EV_DOMAIN e)) else none).foldl (· + ·) 0

/-- The demand of a group no longer fits the rate of the plan in force (R317). -/
def boostPlan (s : State) (g : Nat) : State :=
  if s.boostDemand g ≤ 65536 * s.boostRate g ∨ (s.rd F.ANG_BOOST_PLAN_GROUPS).testBit g then s
  else
    let m := setBits (s.rd F.ANG_BOOST_PLAN_GROUPS) g g 1
    log Ev.BOOST_PLAN [m] (s.wr F.ANG_BOOST_PLAN_GROUPS m)

/-- Step `k` of item `i` is in force, with its effect (PWR-7); the lane clock has its own change (R95). -/
def putPlan (s : State) (i k : Nat) : State :=
  if i = 0 then laneFreq (s.wr F.PWR_PLAN_LANE_STEP k)
  else if i = 1 then (s.wr F.PWR_PLAN_STORE_STEP k).wr F.STO_STATUS_BSTEP k
  else if i = 2 then putWmark s k
  else if i < 11 then
    let g := i - 3
    let s := s.wr F.PWR_PLAN_BOOST_STEP (setBits (s.rd F.PWR_PLAN_BOOST_STEP) (2 * g + 1) (2 * g) k)
    boostPlan (dgSync ((settleBc s g).wr F.DG_GSTAT_BSTEP k g) g) g
  else
    let g := i - 11
    (s.wr F.PWR_PLAN_CAL_STEP (setBits (s.rd F.PWR_PLAN_CAL_STEP) (2 * g + 1) (2 * g) k)).wr F.AG_CONV_CAL_STEP k g

/-- The evaluation of item `i` (R482, R487). -/
def evalItem (s : State) (i : Nat) : State :=
  match s.planMetric i with
  | none => s
  | some m =>
    let ind := indicated i m
    let prev := Table.find 0 s.pwr.prevInd i
    let old := s.planOf i
    let (item, group) := itemOf i
    let s := { s with pwr := { s.pwr with prevInd := Table.put 0 s.pwr.prevInd i ind } }
    let k := min 3 (min prev ind)
    let s :=
      if i = 2 then stepWmark s ind
      else if k ≤ old then s
      else if i = 0 then { s with pwr := { s.pwr with laneTo := some k, laneDefer := false } }
      else planStep (putPlan s i k) item old k group (unsgn 32 m)
    if ind = 4 then
      let s := s.wr F.PWR_PLAN_EXHAUSTED 1
      if prev = 4 then s else setLatch 19 (log Ev.PLAN_EXHAUSTED [item, group] s)
    else s

/-- The points of item `i` over the last 90 epochs: epoch number and metric. -/
def State.points (s : State) (i : Nat) : List (Int × Int) :=
  (List.range 90).filterMap fun j =>
    if s.pwr.epoch < j then none
    else (s.summary (s.pwr.epoch - j)).map fun l => (((s.pwr.epoch - j : Nat) : Int), l.getD (i + 1) 0)

/-- Days until the least-squares line through the points, at epoch `x`, reaches `t`; 65,535 where it does not (R486). -/
def crossing (ps : List (Int × Int)) (x t : Int) : Nat :=
  let sum (f : Int × Int → Int) : Int := (ps.map f).foldl (· + ·) 0
  let n : Int := ps.length
  let a := n * sum (fun p => p.1 * p.2) - sum (·.1) * sum (·.2)
  let b := n * sum (fun p => p.1 * p.1) - sum (·.1) * sum (·.1)
  if ps.length < 14 ∨ a = 0 then 65535
  else
    let num := t * n * b - sum (·.2) * b - a * (n * x - sum (·.1))
    let d := if 0 < n * a then num / (n * a) else (-num) / (-(n * a))
    if d < 0 then 65535 else min 65535 d.toNat

/-- NEXT and END of item `i`: 0 where the metric already lies beyond. -/
def State.forecast (s : State) (i : Nat) : Nat × Nat :=
  let ps := s.points i
  let m := (s.planMetric i).getD 0
  let lim (k : Nat) : Int := if i = 0 then 150 - slackD k else (limits i).getD (min 3 k) 0
  let days (t : Int) : Nat :=
    let past := if i = 0 then decide (m < t) else decide (t < m)
    if ps.length < 14 then 65535 else if past then 0 else crossing ps s.pwr.epoch t
  (days (lim (s.planOf i)), days (lim 3))

/-- The worst of several forecasts, with its group. -/
def worst (l : List (Nat × Nat)) : Nat × Nat × Nat :=
  let g := (List.range l.length).foldl (fun b j => if (l.getD j (65535, 65535)).2 < (l.getD b (65535, 65535)).2 then j else b) 0
  (l.foldl (fun m e => min m e.1) 65535, (l.getD g (65535, 65535)).2, g)

/-- The forecast of a line of PWR-13 and its warning. -/
def putForecast (s : State) (item : Nat) (w : Nat × Nat × Nat) (next end_ : Fld) : State :=
  let h := s.rd F.PWR_CFG_FC_HORIZON
  let old := s.rd end_
  let s := (s.wr next w.1).wr end_ w.2.1
  if h < w.2.1 then s
  else
    let s := s.wr F.PWR_PLAN_FORECAST_WARN 1
    if old ≤ h then s else setLatch 19 (log Ev.FORECAST_WARN ([item, w.2.2] ++ leBytes 2 w.2.1) s)

/-- PWR.FORECAST after an evaluation. -/
def forecasts (s : State) : State :=
  let f (l : List Nat) : Nat × Nat × Nat := worst (l.map s.forecast)
  let boost := (List.range 8).map (· + 3)
  let cal := (List.range 4).map (· + 11)
  let w0 := f [0]
  let w1 := f [1]
  let w3 := f boost
  let w4 := f cal
  let s := s.wr F.PWR_PLAN_FORECAST_WARN 0
  let s := putForecast s 0 w0 F.PWR_FORECAST_LANE_NEXT F.PWR_FORECAST_LANE_END
  let s := putForecast s 1 w1 F.PWR_FORECAST_STORE_NEXT F.PWR_FORECAST_STORE_END
  let s := putForecast s 3 w3 F.PWR_FORECAST_BOOST_NEXT F.PWR_FORECAST_BOOST_END
  putForecast s 4 w4 F.PWR_FORECAST_CAL_NEXT F.PWR_FORECAST_CAL_END

/-- The EPOCH record: number, steps in force, the steps indicated at the previous evaluation and the operating time of the epoch's
end (assumption log 36). -/
def epochRecord (s : State) : List Nat :=
  leBytes 4 s.pwr.epoch ++ (List.range 15).map s.planOf ++ ((List.range 15).map fun i => Table.find 0 s.pwr.prevInd i) ++
    leBytes 8 s.pwr.epochOp

/-- The record and the summary are written when the store takes them. -/
def writeEpoch (s : State) : State :=
  if !s.storeOk then { s with pwr := { s.pwr with epochDue := true } }
  else
    let n := s.pwr.epoch
    let l : List Int := (n : Int) :: (List.range 15).map fun i => (s.planMetric i).getD 0
    let s := writeRec s kEPOCH 0 0 (epochRecord s)
    { s with sto := { s.sto with hist := Table.insert (Table.drop s.sto.hist (n % 1024)) (n % 1024) l }
             pwr := { s.pwr with epochDue := false } }

/-- An epoch ends: evaluation, record, summary, forecast. -/
def endEpoch (s : State) : State :=
  let s := (List.range 15).foldl evalItem (s.wr F.PWR_PLAN_EXHAUSTED 0)
  let n := s.pwr.epoch + 1
  let s := { s with pwr := { s.pwr with epoch := n, epochOp := s.opTime } }
  forecasts (writeEpoch (log Ev.EPOCH (leBytes 4 n) s))

/-- An epoch ends after 86,400 s of operating time; a record that waits for the store is written. -/
def epochEnd (s : State) : State :=
  if !s.is F.CLK_START_PLAN_DONE then noEffect s
  else if s.pwr.epochDue ∧ s.storeOk then writeEpoch s
  else if s.pwr.epochOp + 2831155200 ≤ s.opTime then endEpoch s
  else noEffect s

def execEpochEnd (dt : Elapsed) (s : State) : Out := .next (epochEnd (advance dt s))

/-- The EPOCH record as R481 resolves it: of two slots of one generation that differ the higher of each field. -/
def State.epochData (s : State) : List Nat × Bool :=
  match s.resolve kEPOCH 0 with
  | .slot _ x => (x.data, false)
  | .absent => ([], false)
  | .inconsistent =>
    let r := s.stoRec kEPOCH 0
    let a := (r.s0.map (·.data)).getD []
    let b := (r.s1.map (·.data)).getD []
    (leBytes 4 (max (leAt a 0 4) (leAt b 0 4)) ++ ((List.range 30).map fun j => max (leAt a (4 + j) 1) (leAt b (4 + j) 1)) ++
      leBytes 8 (max (leAt a 34 8) (leAt b 34 8)), true)

/-- The margin plan is computed from the stored epochs; a POR start ends an epoch (CLK-8, R480, R481). -/
def marginPlanDone (s : State) : State :=
  if !s.is F.CLK_START_RECALL_DONE ∨ s.is F.CLK_START_PLAN_DONE ∨ !s.clk.supv then noEffect s
  else
    let d := s.epochData
    let at_ (j : Nat) : Nat := leAt d.1 (4 + j) 1
    let prev : Table Nat := (List.range 15).foldl (fun t i => Table.put 0 t i (at_ (15 + i))) []
    let ages : Table Nat := (List.range 13).foldl (fun t j => Table.put 0 t j (s.ringValue (67 + j) * 2 ^ 32)) []
    let s := { s with pwr := { s.pwr with
      prevInd := prev, ages := ages, epoch := leAt d.1 0 4, epochOp := if d.1.isEmpty then s.opTime else leAt d.1 34 8, ageXt := s.time.xt, sampleXt := s.time.xt } }
    let s := if d.2 then s.wr F.PWR_PLAN_EPOCH_INCONS 1 else s
    let s := ageRegs ((List.range 15).foldl (fun s i => putPlan s i (at_ i)) s)
    let s := s.wr F.CLK_START_PLAN_DONE 1
    if s.rd F.CLK_STATUS_RESET_CAUSE = 1 then endEpoch s else s

def execMarginPlanDone (dt : Elapsed) (s : State) : Out := .next (marginPlanDone (advance dt s))

end Sys2Proof.Machine
end

