-- ==== Sys2Proof/Machine/Rtc.lean ====
section
/-!
DEFINITION. The backup domain: calendar, alarm, periodic wake, PWRON_N, its supply (R504–R517).
-/

namespace Sys2Proof.Machine

/-! ### The calendar -/

/-- Whole seconds of the calendar. -/
def State.seconds (s : State) : Nat := s.calendar / 32768

/-- The calendar stands at `v` crystal periods and runs on. -/
def rebase (s : State) (v : Nat) : State := { s with rtc := { s.rtc with base := v, at_ := s.time.xt } }

/-- Year − 2000, month and day of a day count from 2000-01-01 on (Gregorian). -/
def civil (days : Nat) : Nat × Nat × Nat :=
  let z := days + 730425
  let e := z % 146097
  let yoe := (e - e / 1460 + e / 36524 - e / 146096) / 365
  let doy := e - (365 * yoe + yoe / 4 - yoe / 100)
  let mp := (5 * doy + 2) / 153
  let m := if mp < 10 then mp + 3 else mp - 9
  (z / 146097 * 400 + yoe + (if m ≤ 2 then 1 else 0) - 2000, m, doy - (153 * mp + 2) / 5 + 1)

/-- RTC.TIME and RTC.DATE as a read finds them (R509). -/
def refreshRtc (s : State) : State :=
  let t := s.calendar
  let sec := t / 32768
  let (y, m, d) := civil (sec / 86400)
  let s := (s.wr F.RTC_TIME_SECONDS sec).wr F.RTC_TIME_SUBSEC t
  let s := ((s.wr F.RTC_DATE_YEAR y).wr F.RTC_DATE_MONTH m).wr F.RTC_DATE_DAY d
  let s := (s.wr F.RTC_DATE_WEEKDAY ((sec / 86400 + 6) % 7)).wr F.RTC_DATE_HOUR (sec / 3600 % 24)
  ((s.wr F.RTC_DATE_MINUTE (sec / 60 % 60)).wr F.RTC_DATE_SECOND (sec % 60)).wr F.RTC_DATE_SUBSEC t

/-! ### PWRON_N and its wakes (R512–R514) -/

/-- ALARM or WAKE is set; with its PWR_EN the pad is driven low, the cause stored and a running OFF cancelled. -/
def fireWake (s : State) (alarm : Bool) : State :=
  let s := s.wr (if alarm then F.RTC_STATUS_ALARM else F.RTC_STATUS_WAKE) 1
  let s :=
    if s.is (if alarm then F.RTC_ALARM_PWR_EN else F.RTC_WAKE_PWR_EN) then
      let s := { s with rtc := { s.rtc with offFrom := none } } |>.wr F.RTC_STATUS_OFF_PENDING 0
      (s.wr F.RTC_STATUS_PWRON_LOW 1).wr F.RTC_STATUS_WAKE_CAUSE (if alarm then 1 else 2)
    else s
  hostSync 307 s

/-- The alarm second lies among the seconds after `a` up to `b`, with DAILY modulo 86,400. -/
def State.alarmIn (s : State) (a b : Nat) : Bool :=
  let x := s.rd F.RTC_ALARM_SECONDS
  s.is F.RTC_ALARM_EN &&
    (if s.is F.RTC_ALARM_DAILY then
      let k := 86400 - x % 86400
      decide ((a + k) / 86400 < (b + k) / 86400)
    else decide (a < x) && decide (x ≤ b))

/-- First second past the years 2000–2199. -/
def rangeEnd : Nat := 6311433600

/-- The calendar passes second boundaries (R509, R512). -/
def secondBoundary (s : State) : State :=
  let a := s.rtc.lastSec
  let b := s.seconds
  if !s.rtc.powered ∨ b ≤ a then noEffect s
  else
    let hit := s.alarmIn a b
    let s := { s with rtc := { s.rtc with lastSec := b } }
    let s := if a < rangeEnd ∧ rangeEnd ≤ b then (s.wr F.RTC_STATUS_OSF 1).wr F.RTC_STATUS_OSF_CAUSE 3 else s
    if hit then fireWake s true else s

def execSecondBoundary (dt : Elapsed) (s : State) : Out := .next (secondBoundary (advance dt s))

/-- A write of RTC.TIME by a session (R510, R512). -/
def rtcTimeWrite (secs sub session : Nat) (s : State) : State :=
  if !s.rtc.powered ∨ rangeEnd ≤ secs ∨ 32768 ≤ sub then noEffect s
  else
    let old := s.seconds
    let osf := s.is F.RTC_STATUS_OSF
    let s := rebase s (secs * 32768 + sub)
    let s := { s with rtc := { s.rtc with lastSec := secs } }
    let s := (s.wr F.RTC_STATUS_OSF 0).wr F.RTC_STATUS_OSF_CAUSE 0
    let s := log Ev.TIME_SET (leBytes 4 (unsgn 32 ((secs : Int) - old)) ++ [session % 256, 0, 0, 0]) s
    let s := if osf then timeLink s else s
    let hit := s.is F.RTC_ALARM_EN && (decide (secs = s.rd F.RTC_ALARM_SECONDS) ||
      (s.is F.RTC_ALARM_DAILY && decide (secs % 86400 = s.rd F.RTC_ALARM_SECONDS % 86400)))
    if hit then fireWake s true else s

def execRtcTime (dt : Elapsed) (secs sub session : Nat) (s : State) : Out :=
  .next (rtcTimeWrite secs sub session (advance dt s))

/-- A write of RTC.TRIM: the calendar so far keeps the old correction. -/
def trimWrite (v : Nat) (s : State) : State := (rebase s s.calendar).wr F.RTC_TRIM_TRIM v

/-- A write of RTC.WAKE restarts the count (R512). -/
def rtcWake (period : Nat) (pwrEn en : Bool) (s : State) : State :=
  if !s.rtc.powered ∨ period = 0 ∨ 22118400 < period then noEffect s
  else
    let s := { s with rtc := { s.rtc with wakeFrom := s.time.xt } }
    ((s.wr F.RTC_WAKE_PERIOD period).wr F.RTC_WAKE_PWR_EN (b2n pwrEn)).wr F.RTC_WAKE_EN (b2n en)

def execRtcWake (dt : Elapsed) (period : Nat) (pwrEn en : Bool) (s : State) : Out :=
  .next (rtcWake period pwrEn en (advance dt s))

/-- PERIOD × 128 crystal periods have passed. -/
def wakePeriod (s : State) : State :=
  let n := 128 * s.rd F.RTC_WAKE_PERIOD
  if !s.rtc.powered ∨ !s.is F.RTC_WAKE_EN ∨ n = 0 ∨ s.time.xt < s.rtc.wakeFrom + n then noEffect s
  else fireWake { s with rtc := { s.rtc with wakeFrom := s.rtc.wakeFrom + n } } false

def execWakePeriod (dt : Elapsed) (s : State) : Out := .next (wakePeriod (advance dt s))

/-- A write of 1 to RTC.PWRON.OFF: OFF_DELAY begins, and the recorder flushes. -/
def off (s : State) : State :=
  if !s.rtc.powered ∨ s.clk.inReset then noEffect s
  else
    let s := { s with rtc := { s.rtc with offFrom := some s.time.xt } } |>.wr F.RTC_STATUS_OFF_PENDING 1
    let s := log Ev.PWRON_OFF (leBytes 2 (s.rd F.RTC_PWRON_OFF_DELAY)) s
    { s with sto := { s.sto with flushDue := if s.sto.flushDue = 0 then 5 else s.sto.flushDue } }

def execOff (dt : Elapsed) (s : State) : Out := .next (off (advance dt s))

/-- OFF_DELAY has passed: the pad is released. -/
def offDelayExpiry (s : State) : State :=
  match s.rtc.offFrom with
  | none => noEffect s
  | some f =>
    if !s.rtc.powered ∨ s.time.xt < f + 32768 * s.rd F.RTC_PWRON_OFF_DELAY then noEffect s
    else ({ s with rtc := { s.rtc with offFrom := none } }.wr F.RTC_STATUS_OFF_PENDING 0).wr F.RTC_STATUS_PWRON_LOW 0

def execOffDelayExpiry (dt : Elapsed) (s : State) : Out := .next (offDelayExpiry (advance dt s))

/-- At the first start after a wake (R514). -/
def wakeRecord (s : State) : State :=
  let c := s.rd F.RTC_STATUS_WAKE_CAUSE
  if c = 0 then s else (log Ev.PWRON_WAKE [c] s).wr F.RTC_STATUS_WAKE_CAUSE 0

/-! ### The supply (R506–R508) -/

/-- VSYS crosses 17.0 V: the feed is the logic side (`logic`) or VBAT. Nothing is lost; VSYS asserts the pad (TCK-2). -/
def supplyChangeover (logic : Bool) (s : State) : State :=
  if !s.rtc.powered then noEffect s
  else
    let s := s.wr F.RTC_STATUS_SUPPLY (b2n logic)
    if logic then s.wr F.RTC_STATUS_PWRON_LOW 1 else s

def execBackupSupplyChangeover (dt : Elapsed) (logic : Bool) (s : State) : Out :=
  .next (supplyChangeover logic (advance dt s))

/-- VBAT falls below 2.0 V with VSYS absent: the pad is high-impedance, and what the domain held is gone. -/
def backupPowerLoss (s : State) : State :=
  if !s.rtc.powered ∨ s.is F.RTC_STATUS_SUPPLY then noEffect s
  else
    let s := { s with rtc := { s.rtc with powered := false, offFrom := none }, sto := { s.sto with loss := none } }
    (s.wr F.RTC_STATUS_PWRON_LOW 0).wr F.RTC_STATUS_XTAL_RUN 0

def execBackupPowerLoss (dt : Elapsed) (s : State) : Out := .next (backupPowerLoss (advance dt s))

/-- The domain's power-on (R507): every register of it at its reset value. -/
def backupPowerOn (logic : Bool) (s : State) : State :=
  if s.rtc.powered then noEffect s
  else
    let own (k : Nat) : Bool := decide (F.objRTC_TIME ≤ k / 2 ^ 32) && decide (k / 2 ^ 32 ≤ F.objRTC_BKP)
    let s := { s with regs := s.regs.filter fun e => !(own e.1)
                      rtc := { powered := true, at_ := s.time.xt, wakeFrom := s.time.xt }
                      sto := { s.sto with loss := none } }
    s.wr F.RTC_STATUS_SUPPLY (b2n logic)

def execBackupPowerOn (dt : Elapsed) (logic : Bool) (s : State) : Out := .next (backupPowerOn logic (advance dt s))

/-- The hourly reading of VBAT [10 mV]. -/
def vbatMeasure (v : Nat) (s : State) : State :=
  if !s.rtc.powered ∨ s.clk.inReset ∨ s.time.xt < s.rtc.vbatXt + 117964800 then noEffect s
  else
    let s := { s with rtc := { s.rtc with vbatXt := s.time.xt } } |>.wr F.RTC_STATUS_VBAT_V (min 4095 v)
    if v < 240 then
      if s.is F.RTC_STATUS_VBAT_LOW then s else log Ev.VBAT_LOW (leBytes 2 v) (s.wr F.RTC_STATUS_VBAT_LOW 1)
    else if 250 ≤ v then s.wr F.RTC_STATUS_VBAT_LOW 0
    else s

def execVbatMeasure (dt : Elapsed) (v : Nat) (s : State) : Out := .next (vbatMeasure v (advance dt s))

end Sys2Proof.Machine
end

