-- ==== Sys2Proof/Machine/Mailbox.lean ====
section
/-!
DEFINITION. The mailbox's own commands and times: MBXW (R106), sessions (R116–R127, R566, R567), handles (R128–R132), repeats of
placement (R111), NOP and MOD_RESET.
-/

namespace Sys2Proof.Machine

/-! ### MBXW (R106, R113) -/

/-- Slots the command ring holds. -/
def State.slotsUsed (s : State) : Nat := (s.mbx.ring.map RingCmd.slots).foldl (· + ·) 0

/-- `n` slots enter the command ring. -/
def takeSlots (s : State) (n : Nat) (usb : Bool) (b : List Nat) : State :=
  queueRegs { s with mbx := { s.mbx with ring := s.mbx.ring ++ splitSlots 512 n usb b } }

/-- The action of an MBXW body; a broadcast applies nothing. -/
def mbxw (f : RxFrame) (s : State) : State × Nat :=
  let n := leAt f.body 4 2
  if f.dest = 0xFF then (s, Code.LINK_OK)
  else if f.body.length ≠ 8 + 64 * n ∨ 512 < n then (s, Code.FRAME_REFUSED)
  else
    let s := applyAck s (leAt f.body 0 4) false
    if 512 < s.slotsUsed + n then (s, Code.LINK_BUSY) else (takeSlots s n false (f.body.drop 8), Code.LINK_OK)

def execMbxw (dt : Elapsed) (f : RxFrame) (s : State) : Out := .next (applyFrame (advance dt s) 3 f (mbxw f))

/-! ### Placing again (R111, R520) -/

/-- Every record from CQ_ACK + 1 on is placed again, in CQSEQ order. -/
def replaceAll (s : State) : State :=
  let keep (x : SubItem) : Bool := match x with
    | .sub _ => true
    | .cpl _ _ => false
  let s := { s with ring := { s.ring with subq := s.ring.subq.filter keep }, mbx := { s.mbx with ackAt := s.time.now } }
  s.mbx.cq.foldl (fun s r => readyCpl s r.seq 1) s

/-- CQ_TIMEOUT station ticks without progress of a CQ_ACK while placed records wait for one. -/
def cqReplace (s : State) : State :=
  let late (t : Nat) : Bool := decide (s.rd F.MBX_CFG_CQ_TIMEOUT * 1000 ≤ s.time.now - t)
  let s' := if s.mbx.cq.any (·.placed) && late s.mbx.ackAt then replaceAll s else s
  if s.mbx.cq.any (·.usb) && late s.mbx.uackAt && s.is F.SEC_STATUS_USB_ATTACHED && !s.sec.suspended then
    { s' with mbx := { s'.mbx with uackAt := s.time.now } }
  else s'

def execCqReplace (dt : Elapsed) (s : State) : Out := .next (hostSync 34 (hostSync 2 (cqReplace (advance dt s))))

/-! ### Cancelling (MBX-19) -/

/-- A firmware staging ends; a slot that did not pass is INVALID (R526). -/
def endStage (s : State) (status result : Nat) (valid : Bool) : State :=
  match s.sec.stage with
  | none => s
  | some x =>
    let s := { s with sec := { s.sec with stage := none } }.wrE F.SEC_FW_UNSEL 0 (128 * x.target) (if valid then 2 else 3)
    finNum s x.handle status result

/-- The operation of a handle can be cancelled where it stands. -/
def cancellable (s : State) (h : Hdl) : Bool :=
  match h.op with
  | .commit _ _ _ => true
  | .snapRead _ _ _ _ => true
  | .load _ => s.prg.load.isSome
  | .activate => match s.prg.act with
    | some a => decide (a.phase = 0) || decide (a.phase = 3)
    | none => false
  | .drill => true
  | .fwStage => match s.sec.stage with
    | some x => decide (x.stage = 0)
    | none => false
  | _ => false

/-- The operation is cancelled: at once where it stands at a safe point, a drill at the end of its dwell (R294). -/
def cancelRun (s : State) (h : Hdl) : State :=
  match h.op with
  | .load _ => cancelLoad s
  | .activate => endActivation s Code.CANCELLED
  | .drill => cancelDrill (putHdl s { h with state := 3 })
  | .fwStage => endStage s Code.CANCELLED 0 false
  | _ => fin s h.slot Code.CANCELLED 0

/-! ### Closing a session (R126) -/

/-- SVC_SESSIONS follows the sessions of the service port (SEC-7). -/
def svcRegs (s : State) : State :=
  useRegs (s.wr F.SEC_STATUS_SVC_SESSIONS (min 4 (s.mbx.sessions.filter (·.usb)).length))

/-- Session `no` closes; its pins end with it (IMG-6). -/
def closeSession (s : State) (no : Nat) : State :=
  if (s.session? no).isNone then s
  else
    let s := { s with mbx := { s.mbx with sessions := s.mbx.sessions.filter fun x => decide (x.no ≠ no) }
                      img := { s.img with
                        pins := s.img.pins.filter fun p => decide (p.1 ≠ no)
                        lost := s.img.lost.filter fun p => decide (p.1 ≠ no) } }
    let s := pinRegs s
    let own := s.mbx.hdls.filter fun h => decide (h.session = no)
    svcRegs (own.foldl (fun s h =>
      if h.state = 1 ∨ (h.state = 2 ∧ cancellable s h) then cancelRun s h else s) s)

/-- The sessions in the list close. -/
def closeAll (s : State) (l : List Nat) : State := l.foldl closeSession s

/-- Pending sessions without SES_AUTH for 1 s close (R120). -/
def authTimeout (s : State) : State :=
  if !s.clk.supv then noEffect s
  else closeAll s ((s.mbx.sessions.filter fun x => decide (x.state = 1) && decide (x.lastXt + 32768 ≤ s.time.xt)).map (·.no))

def execAuthTimeout (dt : Elapsed) (s : State) : Out := .next (authTimeout (advance dt s))

/-- Open sessions close at their idle timeout (R125). -/
def sessionIdleTimeout (s : State) : State :=
  if !s.clk.supv then noEffect s
  else closeAll s ((s.mbx.sessions.filter fun x =>
    decide (x.state = 2) && decide (x.lastXt + 32768 * x.idle ≤ s.time.xt)).map (·.no))

def execSessionIdleTimeout (dt : Elapsed) (s : State) : Out := .next (sessionIdleTimeout (advance dt s))

/-! ### SES_OPEN (R118–R122, R566) -/

/-- The 16 newest SES_OPEN answers. -/
def rememberTag (s : State) (t : OpenTag) : State :=
  let l := s.mbx.tags ++ [t]
  { s with mbx := { s.mbx with tags := l.drop (l.length - 16) } }

/-- The lowest-numbered closed session. -/
def State.freeSession (s : State) : Option Nat := (List.range 256).find? fun n => (s.session? n).isNone

/-- Role `r` is locked (R120). -/
def State.roleLocked (s : State) (r : Nat) : Bool :=
  s.mbx.locked.any fun e => decide (e.1 = r) && decide (s.time.xt < e.2 + 1966080)

/-- A session is taken and its nonce delivered. -/
def openNow (s : State) (c : Cmd) (n : Nat) : State :=
  let nonce := freeBytes s.free 16
  let role := leAt c.payload 0 1
  let x : Session :=
    { no := n, state := 1, role := role, limit := 64, idle := 60, lastXt := s.time.xt, usb := c.usb
      hostNonce := slice c.payload 4 16, mNonce := nonce, openTag := slice c.payload 20 8, ks := [], high := 0, seen := []
      staging := [] }
  let s := svcRegs (putSession { s with free := s.free + 16 } x)
  let r := respNow s c Code.OK 0 n (nonce ++ leBytes 8 Config.serial)
  answer (rememberTag s ⟨x.openTag, n, r⟩) c r false

/-- The checks of R566 up to the nonce: the refusal, or the session to take. -/
def State.openCheck (s : State) (c : Cmd) : Nat × Nat :=
  let role := leAt c.payload 0 1
  if !(payOk c 28 1 3) ∨ role = 0 ∨ 4 < role then (Code.BAD_PAYLOAD, 0)
  else if (s.roleKey role).isNone ∨ (role = 4 ∧ !c.usb ∧ s.commissioning) then (Code.NO_KEY, 0)
  else if s.roleLocked role then (Code.AUTH_LOCKED, 0)
  else if c.usb ∧ 4 ≤ (s.mbx.sessions.filter (·.usb)).length then (Code.SESSIONS_FULL, 0)
  else match s.freeSession with
    | none => (Code.SESSIONS_FULL, 0)
    | some n => (Code.OK, n)

/-- The random source delivers. -/
def State.rngOk (s : State) : Bool := decide (s.rd F.SEC_RNG_STATE = 1)

/-- SES_OPEN at the front of the ring. -/
def sesOpen (s : State) : State :=
  match s.mbx.ring, s.front with
  | r :: _, some c =>
    if c.opcode ≠ 1 then noEffect s
    else
      let s := popCmd s
      let old := s.mbx.tags.find? fun t => decide (t.tag = slice c.payload 20 8) &&
        (match s.session? t.session with
          | some x => decide (x.state = 1) && decide (x.openTag = t.tag)
          | none => false)
      if s.clk.startFailed then answerOnly s c Code.START_FAILED
      else if !c.formOk then answerOnly s c Code.BAD_LENGTH
      else match old with
        | some t => answer s c t.resp true
        | none =>
          let k := s.openCheck c
          if k.1 ≠ Code.OK then answerOnly s c k.1
          else if s.rngOk then openNow s c k.2
          else { s with mbx := { s.mbx with waitOpen := some (r, s.time.now) } }
  | _, _ => noEffect s

def execSesOpen (dt : Elapsed) (s : State) : Out := .next (sesOpen (advance dt s))

/-- The SES_OPEN that waits is served as soon as the source delivers. -/
def serveOpen (s : State) : State :=
  match s.mbx.waitOpen with
  | none => s
  | some (r, _) =>
    if !s.rngOk then s
    else
      let c := parse r
      let s := { s with mbx := { s.mbx with waitOpen := none } }
      let k := s.openCheck c
      if k.1 ≠ Code.OK then answerOnly s c k.1 else openNow s c k.2

/-- 10 ms without a nonce (R119). -/
def nonceWaitTimeout (s : State) : State :=
  match s.mbx.waitOpen with
  | none => noEffect s
  | some (r, t) =>
    if !s.clk.supv ∨ s.time.now < t + 10000000 then noEffect s
    else answerOnly { s with mbx := { s.mbx with waitOpen := none } } (parse r) Code.ENTROPY_UNAVAILABLE

def execNonceWaitTimeout (dt : Elapsed) (s : State) : Out := .next (nonceWaitTimeout (advance dt s))

/-! ### SES_AUTH (R118, R120) -/

/-- The strings of MBX-7 and R537: "SKV" and a letter. -/
def skv (letter : Nat) : List Nat := [0x53, 0x4B, 0x56, letter]

/-- A proof or key of MBX-7. -/
def proof (key : List Nat) (letter no role : Nat) (n1 n2 : List Nat) : List Nat :=
  Crypto.hmac key (skv letter ++ leBytes 8 Config.serial ++ leBytes 2 no ++ [role] ++ n1 ++ n2)

/-- A failure of role `r`: the fourth within 60 s locks it for 60 s. -/
def authFailure (s : State) (r : Nat) : State :=
  let l := (r, s.time.xt) :: s.mbx.fails.filter fun e => decide (s.time.xt < e.2 + 1966080)
  if 4 ≤ (l.filter fun e => decide (e.1 = r)).length then
    { s with mbx := { s.mbx with
      fails := l.filter fun e => decide (e.1 ≠ r)
      locked := (s.mbx.locked.filter fun e => decide (e.1 ≠ r)) ++ [(r, s.time.xt)] } }
  else { s with mbx := { s.mbx with fails := l } }

/-- SES_AUTH on a pending session. -/
def sesAuth (c : Cmd) (x : Session) (s : State) : State × Ans :=
  let key := (s.roleKey x.role).getD []
  if c.payload.length ≠ 32 then refuse s Code.BAD_PAYLOAD
  else if c.payload = proof key 0x41 x.no x.role x.hostNonce x.mNonce then
    let ks := proof key 0x4B x.no x.role x.hostNonce x.mNonce
    let s := match s.session? x.no with
      | some y => putSession s { y with state := 2, ks := ks }
      | none => s
    (s, .imm Code.OK 0 (proof key 0x4D x.no x.role x.mNonce x.hostNonce))
  else
    let s := authFailure (log Ev.AUTH_FAILED (leBytes 2 x.no ++ [x.role]) s) x.role
    refuse (closeSession s x.no) Code.AUTH_FAILED

def execSesAuth (dt : Elapsed) (s : State) : Out := .next (mbxRun 2 0 sesAuth (advance dt s))

/-- The 60 s of a lock have passed. -/
def authLockedExpiry (s : State) : State :=
  { s with mbx := { s.mbx with locked := s.mbx.locked.filter fun e => decide (s.time.xt < e.2 + 1966080) } }

def execAuthLockedExpiry (dt : Elapsed) (s : State) : Out := .next (authLockedExpiry (advance dt s))

/-! ### Other session commands -/

/-- The session that ARG names under R567: a status other than OK, or the number. -/
def argSession (c : Cmd) (x : Session) (least : Nat) (s : State) : Nat × Nat :=
  if c.arg = 0xFFFF then (Code.OK, x.no)
  else if 256 ≤ c.arg then (Code.BAD_PAYLOAD, 0)
  else if c.arg ≠ x.no ∧ x.role < least then (Code.ROLE_DENIED, 0)
  else if (s.session? c.arg).isNone then (Code.NO_SESSION, 0)
  else (Code.OK, c.arg)

/-- SES_CLOSE. The answer precedes the close. -/
def sesClose (c : Cmd) (x : Session) (s : State) : State × Ans :=
  let k := argSession c x 4 s
  if c.payload ≠ [] then refuse s Code.BAD_PAYLOAD
  else if k.1 ≠ Code.OK then refuse s k.1
  else (s, .act Code.OK fun s => closeSession s k.2)

def execSesClose (dt : Elapsed) (s : State) : Out := .next (mbxRun 3 1 sesClose (advance dt s))

/-- SES_LIMIT. -/
def sesLimit (c : Cmd) (x : Session) (s : State) : State × Ans :=
  let k := argSession c x 3 s
  let n := leAt c.payload 0 2
  if c.payload.length ≠ 2 ∨ n = 0 ∨ 2048 < n then refuse s Code.BAD_PAYLOAD
  else if k.1 ≠ Code.OK then refuse s k.1
  else match s.session? k.2 with
    | some y => (putSession s { y with limit := n }, .imm Code.OK y.limit [])
    | none => refuse s Code.NO_SESSION

def execSesLimit (dt : Elapsed) (s : State) : Out := .next (mbxRun 4 3 sesLimit (advance dt s))

/-- SES_IDLE. -/
def sesIdle (c : Cmd) (x : Session) (s : State) : State × Ans :=
  let n := leAt c.payload 0 2
  if c.payload.length ≠ 2 ∨ n = 0 ∨ 3600 < n then refuse s Code.BAD_PAYLOAD
  else match s.session? x.no with
    | some y => done (putSession s { y with idle := n })
    | none => refuse s Code.NO_SESSION

def execSesIdle (dt : Elapsed) (s : State) : Out := .next (mbxRun 5 1 sesIdle (advance dt s))

/-- Bytes of SES_LIST: the open sessions in number order. -/
def sesListData (s : State) : List Nat :=
  (List.range 256).flatMap fun n => match s.session? n with
    | some x => if x.state = 2 then [n, x.role] ++ leBytes 2 (s.held n) else []
    | none => []

/-- SES_LIST. -/
def sesList (c : Cmd) (_ : Session) (s : State) : State × Ans :=
  if c.payload ≠ [] then refuse s Code.BAD_PAYLOAD
  else (s, .long .none fun h s => finNum s h Code.OK 0 (sesListData s))

def execSesList (dt : Elapsed) (s : State) : Out := .next (mbxRun 6 1 sesList (advance dt s))

/-! ### Handles (R130–R132) -/

/-- A handle number of current generation: its slot's live handle, or none while FREE; `.error` when stale. -/
def State.current (s : State) (n : Nat) : Except Unit (Option Hdl) :=
  let k := n % 2048
  if n / 2048 = 0 ∨ n / 2048 ≠ Table.find 0 s.mbx.gens k then .error () else .ok (s.hdl? k)

/-- HDL_QUERY. -/
def hdlQuery (c : Cmd) (x : Session) (s : State) : State × Ans :=
  if c.payload ≠ [] then refuse s Code.BAD_PAYLOAD
  else match s.current c.arg with
    | .error _ => refuse s Code.HANDLE_STALE
    | .ok none => (s, .imm Code.OK 0 [])
    | .ok (some h) =>
      if h.session ≠ x.no then refuse s Code.ROLE_DENIED
      else (s, .imm Code.OK (h.state + 256 * h.progress) [])

def execHdlQuery (dt : Elapsed) (s : State) : Out := .next (mbxRun 0x10 1 hdlQuery (advance dt s))

/-- HDL_CANCEL. -/
def hdlCancel (c : Cmd) (x : Session) (s : State) : State × Ans :=
  if c.payload ≠ [] then refuse s Code.BAD_PAYLOAD
  else match s.current c.arg with
    | .error _ => refuse s Code.HANDLE_STALE
    | .ok none => refuse s Code.ALREADY_DONE
    | .ok (some h) =>
      if h.session ≠ x.no ∧ x.role < 4 then refuse s Code.ROLE_DENIED
      else if h.state = 4 then refuse s Code.ALREADY_DONE
      else if h.state = 3 then done s
      else if cancellable s h then (s, .act Code.OK fun s => cancelRun s h)
      else refuse s Code.NOT_CANCELLABLE

def execHdlCancel (dt : Elapsed) (s : State) : Out := .next (mbxRun 0x11 1 hdlCancel (advance dt s))

/-! ### MOD_RESET and NOP -/

/-- MOD_RESET: the reset begins once its answer is acknowledged, or 10 ms after its placement (R142). -/
def modReset (c : Cmd) (_ : Session) (s : State) : State × Ans :=
  let k := leAt c.payload 0 1
  if !(payOk c 4 1 3) ∨ 1 < k then refuse s Code.BAD_PAYLOAD
  else gate {} s (done { s with clk := { s.clk with pendReset := some (if k = 1 then 4 else 3, s.mbx.nextSeq) } })

def execModReset (dt : Elapsed) (s : State) : Out := .next (mbxRun 0x41 3 modReset (advance dt s))

/-- NOP. -/
def nop (c : Cmd) (_ : Session) (s : State) : State × Ans := if c.payload = [] then done s else refuse s Code.BAD_PAYLOAD

/-- The opcodes of MBX-13. -/
def opcodes : List Nat :=
  [0x01, 0x02, 0x03, 0x04, 0x05, 0x06, 0x10, 0x11, 0x20, 0x21, 0x22, 0x23, 0x24, 0x25, 0x30, 0x31, 0x32, 0x33, 0x38] ++
  [0x40, 0x41, 0x50, 0x51, 0x52, 0x53, 0x54, 0x60, 0x61, 0x80, 0x81, 0x90, 0x91, 0x92, 0x93, 0x94, 0xF0]

/-- NOP, and every command whose opcode MBX-13 does not list. -/
def mbxNop (s : State) : State :=
  match s.front with
  | none => noEffect s
  | some c =>
    if c.opcode = 0xF0 then takeCmd c (some 1) nop (popCmd s)
    else if opcodes.contains c.opcode then noEffect s
    else takeCmd c none nop (popCmd s)

def execMbxNop (dt : Elapsed) (s : State) : Out := .next (mbxNop (advance dt s))

end Sys2Proof.Machine
end

