-- ==== Sys2Proof/Machine/Interrupts.lean ====
section
/-!
DEFINITION. The interrupt controller's supervisor targets (R493, R496) and the storm masks (R499).
-/

namespace Sys2Proof.Machine

/-- The ACTIVE sources of core `c`, newest first. -/
def State.active (s : State) (c : Nat) : List Nat := if c = 0 then s.int.act0 else s.int.act1

/-- The ACTIVE sources of core `c` change. -/
def putActive (s : State) (c : Nat) (l : List Nat) : State :=
  { s with int := if c = 0 then { s.int with act0 := l } else { s.int with act1 := l } }

/-- The firmware sets its entries and split points (R493): what it writes is Config's. -/
def supEntries (s : State) : State :=
  let one (s : State) (k : Nat) : State :=
    let v := Config.supEntry k
    ((s.wrE F.INT_SUP_PRIO 0 (32 * k) v).wrE F.INT_SUP_EN 0 (32 * k) (v / 256)).wrE F.INT_SUP_TARGET 0 (32 * k) (k / 32)
  let s := (List.range 64).foldl one s
  (s.wr F.INT_CFG_PRIGROUP_SV0 (Config.supEntry 64)).wr F.INT_CFG_PRIGROUP_SV1 (Config.supEntry 65)

/-- Core `c` takes its highest-ranked PENDING source: with ACTIVE sources only one of a higher group priority, and at most 8
at a time. -/
def svTake (c : Nat) (s : State) : State :=
  if 2 ≤ c ∨ !s.clk.supv ∨ !s.clk.event then noEffect s
  else
    let l := s.active c
    match s.topSource ((List.range 32).map (· + 32 * c) |>.filter fun n => decide (s.srcState n = 1)) with
    | none => noEffect s
    | some n =>
      if 8 ≤ l.length ∨ l.any (fun m => decide (s.groupPrio n ≤ s.groupPrio m)) then noEffect s
      else putActive (putSrc s n 2) c (n :: l)

def execSvTake (dt : Elapsed) (c : Nat) (s : State) : Out := .next (svTake c (advance dt s))

/-- The handler of core `c` that began last ends and completes its source (INT-3). -/
def svComplete (c : Nat) (s : State) : State :=
  if 2 ≤ c ∨ !s.clk.supv ∨ !s.clk.event then noEffect s
  else match s.active c with
    | [] => noEffect s
    | n :: l => putActive (putSrc s n (if s.srcEn n && s.int.asserted.testBit n then 1 else 0)) c l

def execSvComplete (dt : Elapsed) (c : Nat) (s : State) : Out := .next (svComplete c (advance dt s))

/-- A storm window of 32,768 crystal periods ends. -/
def stormWindow (s : State) : State :=
  if s.time.xt < s.int.windowFrom + 32768 then noEffect s
  else { s with int := { s.int with entries := s.int.entries.filter fun e => decide (e.1 < 1024), windowFrom := s.time.xt } }

def execStormWindow (dt : Elapsed) (s : State) : Out := .next (stormWindow (advance dt s))

/-- A host write of 1 to bit `n` of INT.STORMED lifts the mask, and its window count restarts. -/
def liftStorm (n : Nat) (s : State) : State :=
  if 512 ≤ n ∨ !s.stormed n then noEffect s
  else
    let s := { s with int := { s.int with entries := Table.drop s.int.entries (1024 + n) } }.wrE F.INT_STORMED_M 0 n 0
    if s.int.asserted.testBit n then attnCheck (srcEdge s n true) else s

def execStormed (dt : Elapsed) (n : Nat) (s : State) : Out := .next (liftStorm n (advance dt s))

end Sys2Proof.Machine
end

