-- ==== Sys2Proof/Machine/ImageCmds.lean ====
section
/-!
DEFINITION. Mailbox commands of the image unit and the capture buffers: IMG_WRITE (R158), SNAP_PIN, SNAP_READ, SNAP_UNPIN
(R152–R155), CAP_READ (R322).
-/

namespace Sys2Proof.Machine

/-- IMG_WRITE. -/
def imgWrite (c : Cmd) (_ : Session) (s : State) : State × Ans :=
  let off := leAt c.payload 2 2
  let n := leAt c.payload 4 1
  let e : StagedWrite := ⟨1, off, slice (c.payload.drop 8) 0 n, s.dueCinch⟩
  if n = 0 ∨ 32 < n ∨ !(payOk c (8 + n) 5 3) ∨ leAt c.payload 1 1 ≠ 0 then refuse s Code.BAD_PAYLOAD
  else if leAt c.payload 0 1 ≠ 1 then refuse s Code.BAD_AREA
  else if 2048 < off + n then refuse s Code.OUT_OF_HOST_REGION
  else gate {} s (
    if 8192 < s.stagedUse 1 + stagedSize e then refuse s Code.STAGING_WINDOW_FULL
    else (stageWrite s e, .imm Code.OK (e.due.getD 0) []))

def execImgWrite (dt : Elapsed) (s : State) : Out := .next (mbxRun 0x30 2 imgWrite (advance dt s))

/-- The cinch a session lost to a broken pin; the answer that reports it also ends the report (R154). -/
def State.lostPin (s : State) (no : Nat) : Option Nat := (s.img.lost.find? fun p => decide (p.1 = no)).map (·.2)

/-- The loss of session `no` has been reported. -/
def clearLost (s : State) (no : Nat) : State :=
  { s with img := { s.img with lost := s.img.lost.filter fun p => decide (p.1 ≠ no) } }

/-- The snapshot that CINCH `n` of a command names: an error code, or the snapshot. -/
def State.namedSnap (s : State) (n : Nat) : Except Nat Snap :=
  let x := if n = 0 then s.newestClosed else s.snap? n
  match x with
  | none => .error Code.NO_SNAPSHOT
  | some y => if y.closed then .ok y else .error Code.SNAPSHOT_OPEN

/-- SNAP_PIN. -/
def snapPin (c : Cmd) (x : Session) (s : State) : State × Ans :=
  if c.payload.length ≠ 4 then refuse s Code.BAD_PAYLOAD
  else gate {} s (
    match s.lostPin x.no with
    | some n => (clearLost s x.no, .imm Code.SNAPSHOT_LOST n [])
    | none => match s.namedSnap (leAt c.payload 0 4) with
      | .error e => refuse s e
      | .ok y =>
        let own := s.img.pins.filter fun p => decide (p.1 = x.no)
        if own.any (fun p => decide (p.2 = y.cinch)) then (s, .imm Code.OK y.cinch [])
        else if 4 ≤ own.length ∨ (4 ≤ s.pinned.length ∧ !(s.pinned.contains y.cinch)) then refuse s Code.PIN_LIMIT
        else (pinRegs { s with img := { s.img with pins := s.img.pins ++ [(x.no, y.cinch)] } }, .imm Code.OK y.cinch []))

def execSnapPin (dt : Elapsed) (s : State) : Out := .next (mbxRun 0x31 1 snapPin (advance dt s))

/-- SNAP_UNPIN. -/
def snapUnpin (c : Cmd) (x : Session) (s : State) : State × Ans :=
  let n := leAt c.payload 0 4
  if c.payload.length ≠ 4 then refuse s Code.BAD_PAYLOAD
  else gate {} s (
    if s.img.pins.contains (x.no, n) then
      done (pinRegs { s with img := { s.img with pins := s.img.pins.filter fun p => decide (p ≠ (x.no, n)) } })
    else refuse s Code.NOT_PINNED)

def execSnapUnpin (dt : Elapsed) (s : State) : Out := .next (mbxRun 0x33 1 snapUnpin (advance dt s))

/-- SNAP_READ. -/
def snapRead (c : Cmd) (x : Session) (s : State) : State × Ans :=
  let off := leAt c.payload 4 2
  let n := leAt c.payload 6 2
  let full := decide (x.limit ≤ s.held x.no) || decide (2048 ≤ s.mbx.hdls.length)
  if c.payload.length ≠ 8 ∨ 1536 < n ∨ 16384 < off + n then refuse s Code.BAD_PAYLOAD
  else gate {} s (
    match s.lostPin x.no with
    | some k => if full then (s, .late Code.SNAPSHOT_LOST) else (clearLost s x.no, .imm Code.SNAPSHOT_LOST k [])
    | none => match s.namedSnap (leAt c.payload 0 4) with
      | .error e => (s, .late e)
      | .ok y => (s, .long (.snapRead y.cinch off n 0) fun h s => startHdl s (h % 2048)))

def execSnapRead (dt : Elapsed) (s : State) : Out := .next (mbxRun 0x32 1 snapRead (advance dt s))

/-- The 16,384 bytes of a snapshot buffer (IMG-4, IMG-5). -/
def snapImage (x : Snap) : List Nat :=
  let f := b2n x.closed + 2 * b2n x.noexec + 4 * b2n x.subst + 8 * b2n x.damaged + 16 * b2n x.uncommitted
  let h := leBytes 4 x.cinch ++ leBytes 4 f ++ leBytes 8 x.latchTime ++ leBytes 8 x.closeTime ++ leBytes 2 x.hwrites ++
    List.replicate 34 0
  let b := memBytes x.i 0 8192 ++ memBytes x.q 0 4096 ++ memBytes x.s 0 1024
  h ++ leBytes 4 (crc32 h) ++ b ++ ((List.range 52).flatMap fun k => leBytes 4 (crc32 (slice b (256 * k) 256))) ++
    List.replicate 2800 0

/-- Area code of ZEN-3 and offset in it of a checked block. -/
def blockArea (k : Nat) : Nat × Nat :=
  if k < 32 then (0, 256 * k) else if k < 48 then (1, 256 * (k - 32)) else (5, 256 * (k - 48))

/-- The copy of the SNAP_READ in handle slot `k` is confirmed; `bad` lists blocks of the buffer whose check fails. -/
def snapReadConfirm (k : Nat) (bad : List Nat) (s : State) : State :=
  match s.hdl? k with
  | none => noEffect s
  | some h =>
    match h.op with
    | .snapRead n off len _ =>
      if !s.clk.supv then noEffect s
      else match s.snap? n with
        | none => fin s k Code.SNAPSHOT_LOST n
        | some x =>
          let hit := bad.filter fun j => decide (off < 64 + 256 * (j + 1)) && decide (64 + 256 * j < off + len)
          if hit.isEmpty then fin s k Code.OK n (slice (snapImage x) off len)
          else
            let one (s : State) (j : Nat) : State :=
              log Ev.STITCH ([11, (blockArea j).1] ++ leBytes 2 (blockArea j).2 ++ [2]) s
            fin (hit.foldl one s) k Code.SNAPSHOT_DAMAGED n
    | _ => noEffect s

def execSnapReadConfirm (dt : Elapsed) (k : Nat) (bad : List Nat) (s : State) : Out :=
  .next (snapReadConfirm k bad (advance dt s))

/-! ### CAP_READ (R322) -/

/-- OFFSET lies below the oldest byte the buffer of domain `d` still holds. -/
def State.capGone (s : State) (d off : Nat) : Bool :=
  decide (65536 < (s.rd F.ANG_CAPPOS_CAPPOS d + 2 ^ 32 - off) % 2 ^ 32)

/-- CAP_READ. -/
def capRead (c : Cmd) (_ : Session) (s : State) : State × Ans :=
  let d := leAt c.payload 0 1
  let n := leAt c.payload 2 2
  let off := leAt c.payload 4 4
  let pos := s.rd F.ANG_CAPPOS_CAPPOS d
  if !(payOk c 8 1 1) ∨ 3 < d ∨ 1536 < n ∨ off % 16 ≠ 0 ∨ n % 16 ≠ 0 then refuse s Code.BAD_PAYLOAD
  else gate {} s (
    if after32 (off + n) pos then (s, .late Code.CAPTURE_NOT_YET)
    else if s.capGone d off then (s, .late Code.CAPTURE_OVERWRITTEN)
    else
      let m := s.ang.caps.getD d []
      let data := (List.range n).map fun j => (m.read ((off + j) % 65536)).toNat
      (s, .long (.capRead d off n data) fun h s => startHdl s (h % 2048)))

def execCapRead (dt : Elapsed) (s : State) : Out := .next (mbxRun 0x38 1 capRead (advance dt s))

/-- The copy of the CAP_READ in handle slot `k` is confirmed. -/
def capReadConfirm (k : Nat) (s : State) : State :=
  match s.hdl? k with
  | none => noEffect s
  | some h =>
    match h.op with
    | .capRead d off _ data =>
      if !s.clk.supv then noEffect s
      else if s.capGone d off then fin s k Code.CAPTURE_OVERWRITTEN (s.rd F.ANG_CAPPOS_CAPPOS d)
      else fin s k Code.OK (s.rd F.ANG_CAPPOS_CAPPOS d) data
    | _ => noEffect s

def execCapReadConfirm (dt : Elapsed) (k : Nat) (s : State) : Out := .next (capReadConfirm k (advance dt s))

end Sys2Proof.Machine
end

