-- ==== Sys2Proof/Machine/Checks.lean ====
section
/-!
DEFINITION. The checks of a commit (R140): each chapter's reason codes, judged over a whole configuration (IMG-16, SCN-14, PLT-17,
ANG-14, DIG-15, ANA-15, CNV-15, STO-15, INT-9, R489).
-/

namespace Sys2Proof.Machine

/-- A disagreement: object, index, reason and, where the reason compares a sum, that sum. -/
structure Violation where
  obj : Nat
  idx : Nat
  reason : Nat
  sum : Nat
deriving DecidableEq, Repr

/-- The first reason of a list of conditions that holds. -/
def firstOf (l : List (Bool × Nat)) : Option Nat := (l.find? fun p => p.1).map (·.2)

/-- The violation of object `o`, index `i`, if it has a reason. -/
def viol (o i : Nat) (r : Option Nat) : List Violation :=
  match r with
  | some k => [⟨o, i, k, 0⟩]
  | none => []

/-! ### IMG-16 -/

/-- Bytes of areas I, Q and S as IMG.UPMAP numbers them. -/
def upArea : Nat → Nat
  | 1 => 8192
  | 2 => 4096
  | _ => 1024

/-- IMG.UPMAP (R162). -/
def upmapReason (s : State) : Option Nat :=
  let l := (List.range 16).filter fun k => decide (s.rdE F.IMG_UPMAP_AREA 0 (64 * k) ≠ 0)
  let len (k : Nat) : Nat := s.rdE F.IMG_UPMAP_LEN 0 (64 * k)
  firstOf [
    (l.any fun k => decide (len k = 0) ||
      decide (upArea (s.rdE F.IMG_UPMAP_AREA 0 (64 * k)) < s.rdE F.IMG_UPMAP_OFFSET 0 (64 * k) + len k), Reason.UPMAP_RANGE),
    (decide (4076 < (l.map len).foldl (· + ·) 0), Reason.UPMAP_TOTAL)]

/-- IMG.SUBS: enabled subscriptions only. -/
def subsReason (s : State) : Option Nat :=
  let l := (List.range 16).filter fun k => decide (s.rdE F.IMG_SUBS_EN 0 (64 * k) ≠ 0)
  let src (k : Nat) : Nat := s.rdE F.IMG_SUBS_SRC 0 (64 * k)
  let off (k : Nat) : Nat := s.rdE F.IMG_SUBS_POFF 0 (64 * k)
  let len (k : Nat) : Nat := s.rdE F.IMG_SUBS_PLEN 0 (64 * k)
  let pairs := l.flatMap fun a => (l.filter fun b => decide (a < b)).map fun b => (a, b)
  firstOf [
    (s.is F.NRL_POS_PLACED && l.any fun k => decide (src k = s.rd F.NRL_POS_POS), Reason.SUBS_SELF),
    (l.any (fun k => decide (off k % 16 ≠ 0) || decide (len k % 16 ≠ 0) || decide (len k < 32) || decide (16384 < off k + len k)) ||
      pairs.any (fun p => decide (off p.1 < off p.2 + len p.2) && decide (off p.2 < off p.1 + len p.1)), Reason.SUBS_OVERLAP),
    (pairs.any fun p => decide (src p.1 = src p.2), Reason.SUBS_DUPLICATE)]

/-! ### SCN-14 -/

/-- The task fields in force of task `k`. -/
def State.taskAt (s : State) (k : Nat) : TaskRow :=
  ⟨s.rd F.SCN_T_ENTRY k, s.rd F.SCN_T_PERIOD k, s.rd F.SCN_T_PHASE k, s.rd F.SCN_T_PRIO k, s.rd F.SCN_T_SRC k⟩

/-- The task objects and the retain table. -/
def scnViolations (s : State) : List Violation :=
  ((List.range 64).flatMap fun k =>
    viol F.objSCN_T k (taskReason (s.rd F.NRL_CYCLE_CYCLE) (s.activeBank.map (·.codeLen)) k (s.taskAt k))) ++
    viol F.objSCN_RETAIN 0 ((retainReason s.retainRows ((s.activeBank.map (·.insts)).getD [])).map (·.1))

/-! ### PLT-17 -/

/-- PLT.PAIR (R276). A position is judged once the module has one. -/
def pairReason (s : State) : Option Nat :=
  let side := s.rd F.PLT_PAIR_SIDE
  let pos := s.rd F.NRL_POS_POS
  if !s.paired then none
  else firstOf [
    ((List.range 8).any (fun g => s.is F.DG_GROUP_COMPAT g) || (List.range 4).any (fun g => s.is F.AG_GROUP_COMPAT g),
      Reason.PAIR_1016),
    (s.is F.NRL_STATE_ROLE || (s.is F.NRL_POS_PLACED && (if side = 0 then decide (63 ≤ pos) else decide (pos = 0))),
      Reason.PAIR_SIDE)]

/-- A row of PLT.MIRROR. -/
def State.mirrorRow (s : State) (k : Nat) : Nat × Nat × Nat :=
  (s.rdE F.PLT_MIRROR_AREA 0 (64 * k), s.rdE F.PLT_MIRROR_START 0 (64 * k), s.rdE F.PLT_MIRROR_COUNT 0 (64 * k))

/-- PLT.MIRROR (R285): M words 0–2,047, D words 0–32,767, instances 0x0001–0xFFFE. -/
def mirrorReason (s : State) : Option Nat :=
  let l : List (Nat × Nat × Nat) := ((List.range 16).map s.mirrorRow).filter fun r => decide (r.1 ≠ 0)
  let out (r : Nat × Nat × Nat) : Bool :=
    decide (r.2.2 = 0) || (match r.1 with
      | 1 => decide (2048 < r.2.1 + r.2.2)
      | 2 => decide (32768 < r.2.1 + r.2.2)
      | _ => decide (r.2.1 = 0) || decide (0xFFFF < r.2.1 + r.2.2))
  let meet (i j : Nat) : Bool :=
    let a := l.getD i (0, 0, 0)
    let b := l.getD j (0, 0, 0)
    decide (a.1 = b.1) && decide (a.2.1 < b.2.1 + b.2.2) && decide (b.2.1 < a.2.1 + a.2.2)
  let bytes : Nat := 20 + (l.map fun r => if r.1 = 3 then 20 * r.2.2 else 4 * r.2.2).foldl (· + ·) 0
  let room : Int := ((s.rd F.SCN_T_PERIOD 0 : Int) - 4) * s.laneMHz - s.rd F.SCN_TSTAT_LAST_RUN 0
  if l.isEmpty then none
  else firstOf [
    (l.any out || (List.range l.length).any (fun i => (List.range i).any (meet i)), Reason.MIRROR_RANGE),
    (decide (8192 < bytes), Reason.MIRROR_SIZE),
    (decide (s.rd F.SCN_T_SRC 0 = 1) && decide (room < ((400 + (bytes + 1) / 2 : Nat) : Int)), Reason.MIRROR_TIME)]

/-! ### ANG-14 -/

/-- A signal exists in the mode of its input (ANG-1). -/
def State.signalOk (s : State) (g : Nat) : Bool :=
  match s.rd F.ANG_AI_MODE (g / 2) with
  | 1 => decide (g % 2 = 0)
  | 2 => true
  | _ => false

/-- The signals a domain uses (ANG-4). -/
def State.usedSignals (s : State) (d : Nat) : List Nat :=
  let z := if s.is F.ANG_AD_ZEN d then [s.rd F.ANG_AD_SIG_Z d] else []
  match s.dsrc d with
  | 1 => [s.rd F.ANG_AD_SIG_A d, s.rd F.ANG_AD_SIG_B d] ++ z
  | 2 => [s.rd F.ANG_AD_SIG_A d]
  | 3 => s.rd F.ANG_AD_SIG_A d :: z
  | 4 => [s.rd F.ANG_AD_SIG_A d]
  | _ => []

/-- Length of an angle input's filter [ns] (ANG-3). -/
def angFilt : Nat → Nat
  | 0 => 0
  | 1 => 100
  | 2 => 1000
  | _ => 10000

/-- COUNT, GAP and ZEN lie in ANG-4 for SRC. -/
def State.sourceOk (s : State) (d : Nat) : Bool :=
  let n := s.dcount d
  let gap := s.rd F.ANG_AD_GAP d
  let z := s.is F.ANG_AD_ZEN d
  match s.dsrc d with
  | 1 => decide (1 ≤ n) && decide (n ≤ 16384) && decide (gap = 0)
  | 2 => decide (8 ≤ n) && decide (n ≤ 360) && decide (1 ≤ gap) && !z
  | 3 => decide (1 ≤ n) && decide (n ≤ 32768) && decide (gap = 0) && z
  | 4 => decide (n = 1) && decide (gap = 0) && !z
  | _ => decide (gap = 0) && !z

/-- SPD_MIN, SPD_MAX and the signal's frequency at SPD_MAX fit the inputs (ANG-2): a QUAD signal has a period of four edges. -/
def State.speedOk (s : State) (d : Nat) : Bool :=
  let v := s.rd F.ANG_AD_SPD_MAX d
  let lo := s.rd F.ANG_AD_SPD_MIN d
  let e := s.dE d
  let sig := if s.dsrc d = 1 then s.dcount d else e
  let one (g : Nat) : Bool :=
    let khz := if s.rd F.ANG_AI_MODE (g / 2) = 2 then 100 else 1000
    decide (v * sig ≤ khz * 1000 * 65536) && decide (2 * angFilt (s.rd F.ANG_AI_FILT (g / 2)) * v * sig < 1000000000 * 65536 ∨
      s.rd F.ANG_AI_FILT (g / 2) = 0)
  decide (1 ≤ lo) && decide (lo < v) && (decide (s.dsrc d = 5) ||
    (decide (v * e ≤ 2000000 * 65536) && (s.usedSignals d).all one))

/-- ANG.ADd. -/
def domainReason (s : State) (d : Nat) : Option Nat :=
  if s.dsrc d = 0 then none
  else firstOf [
    ((s.usedSignals d).any (fun g => !s.signalOk g), Reason.SIGNAL),
    (!s.sourceOk d, Reason.SOURCE_PARAM),
    (!s.speedOk d, Reason.SPEED_RANGE)]

/-- TARGET of entry `e` fits its action (ANG-11). -/
def State.targetOk (s : State) (e : Nat) : Bool :=
  let t := s.rd F.ANG_EV_TARGET e
  match s.rd F.ANG_EV_ACTION e with
  | 4 => decide (t % 16 < 4) && decide (16 ≤ t) &&
      (List.range 4).all fun p => !t.testBit (4 + p) || decide (2 ≤ s.posStart (t % 4) p)
  | 5 => decide (t ≤ 8)
  | 6 => decide (t < 64) && decide (s.rd F.SCN_T_SRC t = 2)
  | 7 => true
  | _ => decide (t < 16) && decide (s.rdE F.ANG_FC_BOUND 0 (4 * t) = 1) &&
      decide (s.rdE F.ANG_FC_DOMAIN 0 (4 * t) = s.rd F.ANG_EV_DOMAIN e)

/-- ANG.EVe. -/
def entryReason (s : State) (e : Nat) : Option Nat :=
  if s.rd F.ANG_EV_ACTION e = 0 then none
  else firstOf [
    (decide (s.dsrc (s.rd F.ANG_EV_DOMAIN e) = 0), Reason.ENTRY_DOMAIN),
    (!s.targetOk e, Reason.ENTRY_TARGET)]

/-- ANG.FC: BOUND goes with the angle-output mode of FCk. -/
def fcReason (s : State) : Option Nat :=
  firstOf [((List.range 16).any fun k =>
    decide (s.rdE F.ANG_FC_BOUND 0 (4 * k) = 1) != decide (s.dmode (16 * (k / 2) + k % 2) = 5), Reason.FC_MODE)]

/-- R317: the demand of group `g`, named by its first entry with a boost. -/
def boostViolation (s : State) (g : Nat) : List Violation :=
  let n := s.boostDemand g
  if n ≤ 65536 * s.boostRate g then []
  else
    let e := (List.range 1024).find? fun e =>
      decide (s.rd F.ANG_EV_MODE e = 1) && s.is F.ANG_EV_BOOST e && decide (s.evGroup e = some g)
    [⟨F.objANG_EV, e.getD 0, Reason.BOOST_RATE, n⟩]

/-! ### DIG-15 -/

/-- DGg.CHnn of channel `c`. -/
def dgReason (s : State) (c : Nat) : Option Nat :=
  let m := s.dmode c
  let per := s.rd F.DG_CH_PWM_PER c
  firstOf [
    (decide (m = 5) && !isFast c, Reason.MODE_KIND),
    (if m = 4 then decide (per < (if isFast c then 5 else 100)) else decide (per ≠ 0), Reason.PWM_RANGE),
    (decide (s.rd F.DG_CH_CNT_MODE c = 2) && (decide (c % 16 = 15) || decide (s.dmode (c + 1) ≠ 1)), Reason.CNT_DIR)]

/-- DGg.CHnn.BOOST number `i` (two per group). -/
def boostReason (s : State) (i : Nat) : Option Nat :=
  let c := 16 * (i / 2) + i % 2
  let decl := s.rd F.DG_GROUP_BC_DECL (i / 2)
  if !s.is F.DG_BOOST_EN i then none
  else firstOf [(decide (decl = 0) || !(decide (s.dmode c = 3) || decide (s.dmode c = 5)) || decide (120 * decl < s.qB c),
    Reason.BOOST_CHARGE)]

/-! ### ANA-15 -/

/-- A safe-value code fits the mode. -/
def State.safeOk (s : State) (c code : Nat) : Bool :=
  let v := sgn 32 (s.rd F.AG_CH_SAFE_VAL c)
  match code with
  | 0 => true
  | 1 => s.aOut c
  | 2 => s.aOut c && decide ((s.span c).1 ≤ v) && decide (v ≤ (s.span c).2)
  | _ => decide (s.amode c = 6) && decide (s.arange c = 1)

/-- ANA-7 gives an open-wire test. -/
def State.owTest (s : State) (c : Nat) : Bool :=
  match s.amode c with
  | 1 => decide (s.arange c = 1)
  | 2 => true
  | 3 => true
  | 4 => true
  | 5 => true
  | _ => false

/-- AGg.CHnn of channel `c`. -/
def agReason (s : State) (c : Nat) : Option Nat :=
  let m := s.amode c
  let w := s.rd F.AG_CH_WIRES c
  let res := decide (m = 4) || decide (m = 5)
  firstOf [
    (decide (m ≠ 0) && (rangeOf m (s.arange c)).isNone, Reason.RANGE_MODE),
    ((decide (w ≠ 0) && !res) || (decide (s.rd F.AG_CH_LEAD c ≠ 0) && decide (w ≠ 2)), Reason.WIRING),
    (s.is F.AG_CH_NE43_EN c && !((decide (m = 1) || decide (m = 2)) && decide (s.arange c = 1)), Reason.NE43_RANGE),
    (!s.safeOk c (s.rd F.AG_CH_STOP_SAFE c) || !s.safeOk c (s.rd F.AG_CH_FAULT_SAFE c), Reason.SAFE_CODE),
    (s.is F.AG_CH_OW_EN c && !s.owTest c, Reason.OW_MODE)]

/-! ### CNV-15 -/

/-- The position samples on the step instants. -/
def State.stepped (s : State) (g p : Nat) : Bool := decide (s.posStart g p = 1) || decide (s.posStart g p = 3)

/-- STEP and PHASE of a position. -/
def State.posStep (s : State) (g p : Nat) : Nat := s.rdE F.AG_POS_STEP g (32 * p)

/-- AGg.POS: the first reason over its positions. -/
def posReason (s : State) (g : Nat) : Option Nat :=
  let sel (p : Nat) : List Nat := selected s g p
  let any (f : Nat → Bool) : Bool := (List.range 4).any f
  firstOf [
    (any fun p => decide (s.posStart g p ≠ 0) && ((sel p).isEmpty || (sel p).any fun c => decide (s.amode c = 0)), Reason.SEL_MODE),
    (any fun p => s.stepped g p && (decide (s.posStep g p < (if (sel p).length = 1 then 1 else 3)) ||
      decide (s.posStep g p ≤ s.rdE F.AG_POS_PHASE g (32 * p))), Reason.STEP_MIN),
    (any fun p => s.stepped g p && decide (s.rd F.NRL_CYCLE_CYCLE % ((sel p).length * s.posStep g p) ≠ 0), Reason.STEP_CYCLE),
    (any fun p => s.stepped g p && decide ((sel p).length * s.posStep g p < 25) && (sel p).any s.slotTest, Reason.SLOT_SPACING)]

/-- The base values at which the scaling of channel `c` is judged (R426). -/
def State.scalePoints (s : State) (c : Nat) : List Int :=
  [(s.span c).1, (s.span c).2] ++
    (if s.is F.PPR_CH_LIN_EN c then (List.range (s.rd F.PPR_CH_LIN_N c + 1)).map fun i => (linPoint s c i).1 else [])

/-- The X points of channel `c` rise strictly. -/
def State.linOrder (s : State) (c : Nat) : Bool :=
  decide (1 ≤ s.rd F.PPR_CH_LIN_N c) &&
    (List.range (s.rd F.PPR_CH_LIN_N c)).all fun i => decide ((linPoint s c i).1 < (linPoint s c (i + 1)).1)

/-- A scaled value has a place in its format. -/
def State.scaleFits (s : State) (c : Nat) (x : Int) : Bool :=
  let y := linear s c x
  let fits (v : Int) : Bool := decide (-(2 ^ 31 : Int) ≤ v) && decide (v < 2 ^ 31)
  match s.rd F.PPR_CH_FMT c with
  | 0 => fits y
  | 1 => fits (fixedScale s c y)
  | _ => !(F32.isNaN (scaled s c x) || F32.isInf (scaled s c x))

/-- PPR.AGg.CHnn of channel `c`. -/
def pprReason (s : State) (c : Nat) : Option Nat :=
  let t := s.rd F.PPR_CH_FTYPE c
  let n := s.rd F.PPR_CH_FLEN c
  let dom := s.dsrc (s.rd F.PPR_CH_MDOM c)
  let lin := s.is F.PPR_CH_LIN_EN c
  let dn := s.rd F.PPR_CH_DIAG_N c
  firstOf [
    (decide (t = 1) && !(decide (1 ≤ n) && decide (n ≤ 1024)) || decide (t = 2) && !(decide (1 ≤ n) && decide (n ≤ 15)),
      Reason.FILT_PARAM),
    (decide (t = 3) && (!(decide (dom = 4) || decide (dom = 5)) || !s.stepped (c / 16) (posOf c)), Reason.MAINS_SRC),
    ((lin && decide (s.rd F.PPR_CH_FMT c = 0)) || (decide (s.amode c ≠ 0) && (!lin || s.linOrder c) &&
      (s.scalePoints c).any fun x => !s.scaleFits c x), Reason.SCALE_RANGE),
    (if s.slotTest c then decide (dn < 16) || decide (4096 < dn) else decide (dn ≠ 0), Reason.DIAG_N)]

/-- PPR.AGg.CHnn.LIN of channel `c`. -/
def linReason (s : State) (c : Nat) : Option Nat := firstOf [(s.is F.PPR_CH_LIN_EN c && !s.linOrder c, Reason.LIN_ORDER)]

/-- PPR.WINnn. -/
def winReason (s : State) (w : Nat) : Option Nat :=
  firstOf [(!winOrder s w (s.rd F.PPR_WIN_HIGH w) (s.rd F.PPR_WIN_LOW w) ||
    (s.is F.PPR_WIN_EN w && decide (s.amode (s.rd F.PPR_WIN_SRC w) = 0)), Reason.WIN_ORDER)]

/-! ### STO-15, R489, INT-9 -/

/-- STO.CRING. -/
def cringReason (s : State) : Option Nat :=
  let l := ((List.range 64).filter fun k => decide (s.rdE F.STO_CRING_EN 0 (32 * k) ≠ 0)).map fun k =>
    s.rdE F.STO_CRING_DWORD 0 (32 * k)
  firstOf [(l.any fun d => decide (32767 < d), Reason.CRING_RANGE),
    ((List.range l.length).any fun i => (l.take i).any fun d => decide (d = l.getD i 0), Reason.CRING_DUP)]

/-- PWR.CFG. -/
def pwrReason (s : State) : Option Nat :=
  firstOf [(decide (432 * s.rd F.PWR_CFG_CAP_DECL < 15290 * s.rd F.PWR_CFG_RIDE_MAX), Reason.RIDE_CAP)]

/-- Source `n` may have target TASKS (INT-1). -/
def taskSource (n : Nat) : Bool :=
  (decide (64 ≤ n) && decide (n < 192)) || (decide (216 ≤ n) && decide (n < 284))

/-- The reason of the entry of source `n`. -/
def sourceReason (s : State) (n : Nat) : Option Nat :=
  let t := s.srcTarget n
  let k := s.srcTask n
  firstOf [
    ((s.srcEn n || decide (t ≠ 0)) && !(decide (t = 3) || (decide (t = 2) && taskSource n)), Reason.TARGET_CLASS),
    (decide (t = 2) && decide (s.rd F.SCN_T_SRC k ≠ 3), Reason.TASK_SRC),
    (decide (t ≠ 2) && decide (k ≠ 0), Reason.TASK_FIELD)]

/-- The first reason among the sources `a` to `a + n - 1` of an entry object. -/
def sourcesReason (s : State) (a n : Nat) : Option Nat := ((List.range n).filterMap fun k => sourceReason s (a + k)).head?

/-! ### All of them -/

/-- Every disagreement of a configuration, in the order of the object map. -/
def State.violations (s : State) : List Violation :=
  let each (o n : Nat) (f : Nat → Option Nat) : List Violation := (List.range n).flatMap fun i => viol o i (f i)
  viol F.objIMG_UPMAP 0 (upmapReason s) ++ viol F.objIMG_SUBS 0 (subsReason s) ++ scnViolations s ++
    viol F.objPLT_PAIR 0 (pairReason s) ++ viol F.objPLT_MIRROR 0 (mirrorReason s) ++
    each F.objANG_AD 4 (domainReason s) ++ each F.objANG_EV 1024 (entryReason s) ++ viol F.objANG_FC 0 (fcReason s) ++
    (List.range 8).flatMap (boostViolation s) ++
    each F.objDG_CH 128 (dgReason s) ++ each F.objDG_BOOST 16 (boostReason s) ++
    each F.objAG_CH 64 (agReason s) ++ each F.objAG_POS 4 (posReason s) ++
    each F.objPPR_CH 64 (pprReason s) ++ each F.objPPR_LIN 64 (linReason s) ++ each F.objPPR_WIN 64 (winReason s) ++
    viol F.objSTO_CRING 0 (cringReason s) ++ viol F.objPWR_CFG 0 (pwrReason s) ++
    viol F.objINT_COS 0 (sourcesReason s 64 128) ++ viol F.objINT_GRP 0 (sourcesReason s 192 24) ++
    viol F.objINT_WIN 0 (sourcesReason s 216 64) ++ viol F.objINT_SYS 0 (sourcesReason s 280 29)

end Sys2Proof.Machine
end

