-- ==== Sys2Proof/Machine/ObjOps.lean ====
section
/-!
DEFINITION. Objects as the mailbox names and reads them: paths (R133, MBX-10, MBX-11), the forms of R134, what a read finds in the
computed registers, and the writes of an OBJ_SET with their checks.
-/

namespace Sys2Proof.Machine

/-! ### Path form (R133) -/

/-- The stems of MBX-10 with their index widths. -/
def stems : List (List Nat × Nat) :=
  [([0x44, 0x47], 1), ([0x41, 0x47], 1), ([0x43, 0x48], 2), ([0x41, 0x44], 1), ([0x41, 0x49], 1), ([0x45, 0x56], 4),
   ([0x43, 0x53], 1), ([0x57, 0x49, 0x4E], 2), ([0x54], 2), ([0x53, 0x45, 0x53], 3)]

/-- The roots of MBX-11 other than the members of DG and AG: NRL, CLK, MBX, IMG, SCN, PRG, PLT, ANG, PPR, STO, REC, PWR, INT,
RTC, SEC. -/
def roots : List Nat :=
  [0x4E524C, 0x434C4B, 0x4D4258, 0x494D47, 0x53434E, 0x505247, 0x504C54, 0x414E47, 0x505052, 0x53544F, 0x524543, 0x505752,
   0x494E54, 0x525443, 0x534543]

/-- Characters. -/
def isDigit (c : Nat) : Bool := decide (0x30 ≤ c) && decide (c ≤ 0x39)
def isUpper (c : Nat) : Bool := decide (0x41 ≤ c) && decide (c ≤ 0x5A)

/-- The segments of a path, between its points. -/
def segments : List Nat → List (List Nat)
  | [] => [[]]
  | c :: t =>
    if c = 0x2E then [] :: segments t
    else match segments t with
      | h :: r => (c :: h) :: r
      | [] => [[c]]

/-- A segment is 1–15 characters from A–Z, 0–9 and "_", and begins with a letter. -/
def segForm (x : List Nat) : Bool :=
  decide (x.length ≤ 15) && isUpper (x.headD 0) && x.all fun c => isUpper c || isDigit c || decide (c = 0x5F)

/-- The stem of a segment made of a stem and an index, and how many digits the index has. -/
def stemOf (x : List Nat) : Option ((List Nat × Nat) × Nat) :=
  (stems.find? fun p => decide (x.take p.1.length = p.1) && decide (p.1.length < x.length) &&
    (x.drop p.1.length).all isDigit).map fun p => (p, x.length - p.1.length)

/-- An index has the width its stem fixes. -/
def indexForm (x : List Nat) : Bool := match stemOf x with
  | some (p, n) => decide (n = p.2)
  | none => true

/-- The first segment is a root, or a member of DG or AG whatever its index. -/
def rootForm (x : List Nat) : Bool :=
  roots.contains (beNat x) || match stemOf x with
    | some (p, n) => decide (n = 1) && (decide (p.1 = [0x44, 0x47]) || decide (p.1 = [0x41, 0x47]))
    | none => false

/-- The form of a path. -/
def pathForm (l : List Nat) : Bool :=
  decide (1 ≤ l.length) && decide (l.length ≤ 63) && (segments l).all (fun x => segForm x && indexForm x) &&
    rootForm ((segments l).headD [])

/-! ### What a path names -/

/-- A whole object, or one field of it. -/
structure Target where
  d : ObjDef
  i : Nat
  field : Option FieldRow
deriving DecidableEq, Repr

/-- A decimal number. -/
def decNat (l : List Nat) : Nat := l.foldl (fun n c => 10 * n + (c - 0x30)) 0

/-- The index a segment stands for under a path segment; 0 for a fixed name. -/
def segIndex (g : Seg) (x : List Nat) : Option Nat :=
  match g with
  | .lit n => if beNat x = n then some 0 else none
  | .idx st k c =>
    let h := x.take (x.length - k)
    let t := x.drop (x.length - k)
    if beNat h = st ∧ t.length = k ∧ t.all isDigit ∧ decNat t < c then some (decNat t) else none

/-- How many members a path segment has. -/
def segCount : Seg → Nat
  | .lit _ => 1
  | .idx _ _ c => c

/-- The index of the object a path begins with, and the segments behind it. -/
def matchPath : List Seg → List (List Nat) → Nat → Option (Nat × List (List Nat))
  | [], r, i => some (i, r)
  | _ :: _, [], _ => none
  | g :: gs, x :: xs, i => match segIndex g x with
    | some k => matchPath gs xs (i * segCount g + k)
    | none => none

/-- What a path names in one object of the map. -/
def targetIn (xs : List (List Nat)) (d : ObjDef) : Option Target :=
  match matchPath d.path xs 0 with
  | some (i, []) => some ⟨d, i, none⟩
  | some (i, [f]) =>
    if d.rep ≠ 1 then none
    else (d.fields.find? fun r => decide (r.name ≠ 0) && decide (r.name = beNat f)).map fun r => ⟨d, i, some r⟩
  | _ => none

/-- What a path names. -/
def findTarget (l : List Nat) : Option Target := objects.findSome? (targetIn (segments l))

/-- The object with internal number `o`. -/
def objDef (o : Nat) : Option ObjDef := objects.find? fun d => decide (d.id = o)

/-- The characters of a name. -/
def nameChars (n : Nat) : List Nat := (beBytes 16 n).dropWhile fun b => decide (b = 0)

/-- `k` decimal digits. -/
def decChars (k n : Nat) : List Nat := (List.range k).map fun j => 0x30 + n / 10 ^ (k - 1 - j) % 10

/-- A path segment as characters, for member `i`. -/
def segChars (g : Seg) (i : Nat) : List Nat :=
  match g with
  | .lit n => nameChars n
  | .idx st k c => nameChars st ++ decChars k (i % c)

/-- The path of object `i` of `d`. -/
def pathChars (d : ObjDef) (i : Nat) : List Nat :=
  let r := d.path.reverse.foldl (fun (a : List (List Nat) × Nat) g => (segChars g a.2 :: a.1, a.2 / segCount g)) ([], i)
  [0x2E].intercalate r.1

/-- A path as R134 lays it out. -/
def pathBytes (l : List Nat) : List Nat :=
  let b := l.length :: l
  b ++ List.replicate ((4 - b.length % 4) % 4) 0

/-- A path at the front of a payload and what stands behind it; none where its framing is broken. -/
def takePath (p : List Nat) : Option (List Nat × List Nat) :=
  match p with
  | [] => none
  | n :: t =>
    let e := (n + 4) / 4 * 4
    if p.length < e ∨ !((slice p (n + 1) (e - n - 1)).all fun b => decide (b = 0)) then none else some (t.take n, p.drop e)

/-- A path at the front of a payload names a target, or is refused. -/
def takeTarget (p : List Nat) : Except Nat (Target × List Nat) :=
  match takePath p with
  | none => .error Code.BAD_PAYLOAD
  | some (l, rest) =>
    if !pathForm l then .error Code.BAD_PATH
    else match findTarget l with
      | some t => .ok (t, rest)
      | none => .error Code.NO_OBJECT

/-- The group of field objects that an object belongs to (DG 0–7, AG 8–11), as a mask. -/
def groupMask (d : ObjDef) (i : Nat) : Nat :=
  match d.path with
  | .idx st _ c :: _ =>
    let g := i / (objCount d / c)
    if st = 0x4447 then 2 ^ g else if st = 0x4147 then 2 ^ (8 + g) else 0
  | _ => 0

/-- The names of the children of a path prefix in one object. -/
def childrenIn (d : ObjDef) : List Seg → List (List Nat) → Option (List (List Nat))
  | [], [] => some (if d.rep = 1 then (d.fields.filter fun r => decide (r.name ≠ 0)).map fun r => nameChars r.name else [])
  | g :: _, [] => some ((List.range (segCount g)).map (segChars g))
  | [], _ :: _ => none
  | g :: gs, x :: xs => if (segIndex g x).isSome then childrenIn d gs xs else none

/-- The names of the children of a path prefix, in the order of the map; none where it names nothing. -/
def children (l : List Nat) : Option (List (List Nat)) :=
  let xs := segments l
  let r := objects.filterMap fun d => childrenIn d d.path xs
  if r.isEmpty then (findTarget l).map fun _ => [] else some r.flatten.eraseDups

/-! ### Values (R134) -/

/-- VLEN of a field of `w` bits. -/
def fieldLen (w : Nat) : Nat := if w ≤ 32 then 4 else if w ≤ 64 then 8 else (w + 31) / 32 * 4

/-- VLEN of what a path names. -/
def valueLen (t : Target) : Nat := match t.field with
  | some r => fieldLen r.fld.width
  | none => (t.d.width + 7) / 8

/-- A field's value right-aligned in its bytes, sign-extended where the map calls it signed. -/
def extended (r : FieldRow) (v : Nat) : Nat :=
  let w := r.fld.width
  if r.signed ∧ v.testBit (w - 1) then 2 ^ (8 * fieldLen w) - 2 ^ w + v else v

/-! ### Computed registers -/

/-- MBX.SES of session `i` (R144). -/
def sesRegs (s : State) (i : Nat) : State :=
  let x := s.session? i
  ((s.wr F.MBX_SES_ROLE ((x.map (·.role)).getD 0) i).wr F.MBX_SES_STATE ((x.map (·.state)).getD 0) i).wr F.MBX_SES_LIMIT
    ((x.map (·.limit)).getD 0) i

/-- CAL_AGE of slice `i`: seconds since its last calibration, 65,535 where none is known. -/
def calAge (s : State) (i : Nat) : State :=
  let x := Table.find 0 s.ana.calXt i
  s.wr F.AG_CS_CAL_AGE (if x = 0 then 65535 else min 65535 ((s.time.xt + 1 - x) / 32768)) i

/-- A configuration needs domain `d` of a digital die (PWR-2). -/
def dgDomain (s : State) (g i : Nat) : Bool :=
  let out (a : Nat) : Bool := (List.range 8).any fun k => s.isOut (16 * g + a + k)
  match i with
  | 0 => out 0
  | 1 => out 8
  | 2 => (List.range 16).any fun k => decide (s.dmode (16 * g + k) = 1) || decide (s.dmode (16 * g + k) = 2)
  | 3 => (List.range 16).any fun k => s.is F.DG_CH_SF_EN (16 * g + k)
  | 4 => s.is F.DG_BOOST_EN (2 * g) || s.is F.DG_BOOST_EN (2 * g + 1)
  | _ => out 0 || out 8

/-- A switched domain is powered (R469, PWR-2); `next` are the configurations of commits that wait (R470). -/
def domainOn (s : State) (next : List State) (d : Nat) : Bool :=
  if d < 3 then decide (s.laneSt d ≠ lFAILED)
  else if d = 14 then (List.range 4).any (fun k => decide (s.dsrc k ≠ 0)) ||
    (List.range 8).any fun k => decide (s.rd F.ANG_AI_MODE k ≠ 0)
  else if d = 21 then s.sec.unitAt.isSome
  else if d = 23 then s.is F.SEC_STATUS_USB_ATTACHED
  else if d < 27 then true
  else if d < 75 then (s :: next).any fun x => dgDomain x ((d - 27) / 6) ((d - 27) % 6)
  else
    let g := (d - 75) / 10
    let i := (d - 75) % 10
    if i < 5 then decide ((s.slicePw (5 * g + i)).pw ≠ 0)
    else if i < 9 then decide ((s.agg g).quadSt (i - 5) ≠ 0)
    else (List.range 4).any fun q => decide ((s.agg g).quadSt q ≠ 0)

/-- PWR.HIST: 1,024 summaries of 64 bytes, each closed by a CRC-32; zeros where none has been written (R480). -/
def histBytes (s : State) : List Nat :=
  (List.range 1024).flatMap fun k =>
    match s.sto.hist.find? fun e => decide (e.1 = k) with
    | some (_, l) =>
      let b := (List.range 60).map fun j => Config.histByte j l % 256
      b ++ leBytes 4 (crc32 b)
    | none => List.replicate 64 0

/-- STO.INCONS: the paths of INCONSISTENT configuration objects, then KIND and INDEX of the other records (R450). -/
def inconsBytes (s : State) : List Nat :=
  let own (p : Nat × Nat) : Bool := decide (p.1 < 65536)
  ((s.sto.incons.filter own).flatMap fun p => match objDef p.1 with
    | some d => pathBytes (pathChars d p.2)
    | none => []) ++
    (s.sto.incons.filter fun p => !own p).flatMap fun p => leBytes 2 (p.1 - 65536) ++ leBytes 2 p.2

/-! ### Writes -/

/-- A value for one field: row of the map, object index, entry offset. -/
structure Wr where
  row : FieldRow
  i : Nat
  e : Nat
  v : Nat
deriving DecidableEq, Repr

/-- The field can be written (SCO-2). -/
def writable (r : FieldRow) : Bool :=
  match r.acc with
  | .ro => false
  | .rc => false
  | _ => true

/-- The field takes effect at commit only. -/
def isST (r : FieldRow) : Bool := decide (r.acc = .st)

/-- The link registers are written by MGMT_W alone (R71). -/
def isLink (d : ObjDef) : Bool := decide (d.path.head? = some (.lit 0x4E524C))

/-- The fields a write of a target covers. -/
def writeRows (t : Target) : List FieldRow :=
  if isLink t.d then []
  else match t.field with
    | some r => if writable r then [r] else []
    | none => t.d.fields.filter writable

/-- The least role for a write (R135). -/
def writeRole (t : Target) : Nat := (writeRows t).foldl (fun m r => max m r.role) 1

/-- The values a write carries for the fields it covers. -/
def writesOf (t : Target) (v : Nat) : List Wr :=
  match t.field with
  | some r => [⟨r, t.i, 0, v % 2 ^ r.fld.width⟩]
  | none => (List.range t.d.rep).flatMap fun k =>
      (writeRows t).map fun r => ⟨r, t.i, k * t.d.stride, bits (v >>> (k * t.d.stride)) r.fld.hi r.fld.lo⟩

/-- A 1 stands in a reserved bit of a whole object (R8). -/
def resSet (t : Target) (v : Nat) : Bool :=
  t.field.isNone && (List.range t.d.rep).any fun k =>
    resBits t.d (v >>> (k * t.d.stride) % 2 ^ t.d.stride)

/-- A value lies outside its field's range, or the bits above a field are not its extension (R134, R136). An enabled
subscription has a MAXAGE of at least 1 (IMG-13). -/
def outOfRange (t : Target) (v : Nat) (ws : List Wr) : Bool :=
  ws.any (fun w => !inRanges w.row.ok w.v) ||
    (match t.field with
      | some r => decide (extended r (v % 2 ^ r.fld.width) ≠ v)
      | none => false) ||
    (decide (t.d.id = F.objIMG_SUBS) && (List.range 16).any fun k =>
      ws.any (fun w => decide (w.row.fld = F.IMG_SUBS_EN) && decide (w.e = 64 * k) && decide (w.v ≠ 0)) &&
        ws.any fun w => decide (w.row.fld = F.IMG_SUBS_MAXAGE) && decide (w.e = 64 * k) && decide (w.v = 0))

/-! ### Staging sets (R136) -/

/-- The objects of a staging set. -/
def stagedObjs (l : List StagedField) : List (Nat × Nat) := (l.map fun x => (x.obj, x.idx)).eraseDups

/-- A staging set with one more field. -/
def stageOne (l : List StagedField) (w : Wr) : List StagedField :=
  let f := w.row.fld
  let x : StagedField := ⟨f.obj, w.i, f.lo + w.e, f.hi + w.e, f.dflt, w.v⟩
  (l.filter fun y => !(decide (y.obj = x.obj) && decide (y.idx = x.idx) && decide (y.lo = x.lo))) ++ [x]

/-- A staged field as a write. -/
def stagedWr (x : StagedField) : Option Wr :=
  match objDef x.obj with
  | none => none
  | some d =>
    let e := x.lo / d.stride * d.stride
    (d.fields.find? fun r => decide (r.fld.lo + e = x.lo)).map fun r => ⟨r, x.idx, e, x.value⟩

/-- An object is locked by another session's set. -/
def State.lockedBy (s : State) (no o i : Nat) : Bool :=
  s.mbx.sessions.any fun x => decide (x.no ≠ no) && x.staging.any fun y => decide (y.obj = o) && decide (y.idx = i)

/-- The groups that a staging set touches. -/
def stagedGroups (l : List StagedField) : Nat :=
  (stagedObjs l).foldl (fun m p => match objDef p.1 with
    | some d => m ||| groupMask d p.2
    | none => m) 0

/-- A configuration with the RW and ST fields of a set in it. -/
def withWrites (s : State) (ws : List Wr) : State :=
  ws.foldl (fun s w => if kept w.row then s.wrE w.row.fld w.i w.e w.v else s) s

/-- The configurations that waiting commits bring (R470). -/
def State.nextConfigs (s : State) : List State :=
  s.mbx.hdls.filterMap fun h => match h.op with
    | .commit _ _ _ => if h.state = 4 then none
        else (s.session? h.session).map fun x => withWrites s (x.staging.filterMap stagedWr)
    | _ => none

/-! ### Reading -/

/-- What OBJ_GET finds: the computed registers of an object follow before it is read. -/
def refreshObj (s : State) (d : ObjDef) (i : Nat) : State :=
  if d.id = F.objMBX_SES then sesRegs s i
  else if d.id = F.objREC_STAT then recRegs s
  else if d.id = F.objPLT_PSTATE then refreshPair s
  else if d.id = F.objRTC_TIME ∨ d.id = F.objRTC_DATE then refreshRtc s
  else if d.id = F.objAG_CS then calAge s i
  else if d.id = F.objDG_GSTAT then dgSync s i
  else if d.id = F.objAG_GSTAT then agSync s i
  else if d.id = F.objPWR_DOMAINS then
    let n := s.nextConfigs
    s.wr F.PWR_DOMAINS_DOMAINS (((List.range 115).map fun k => 2 ^ k * b2n (domainOn s n k)).foldl (· + ·) 0)
  else if d.id = F.objSEC_RNG then
    s.wr F.SEC_RNG_FAILS (min 255 (s.sec.rngFails.filter fun t => decide (s.time.xt < t + 86400 * 32768)).length)
  else if d.id = F.objSEC_FW then (List.range 4).foldl selRegs s
  else s

/-- The bytes of a target as they are read, and their number. -/
def targetBytes (s : State) (t : Target) : List Nat :=
  if t.d.id = F.objPWR_HIST then histBytes s
  else if t.d.id = F.objSTO_INCONS then inconsBytes s
  else match t.field with
    | some r => leBytes (valueLen t) (extended r (readField s r t.i 0))
    | none => leBytes (valueLen t) (readObj s t.d t.i)

/-- The read clears the RC fields it covers. -/
def afterRead (s : State) (t : Target) : State :=
  match t.field with
  | some r => if r.acc = .rc then s.wr r.fld 0 t.i else s
  | none => clearRead s t.d t.i 0 t.d.width

end Sys2Proof.Machine
end

