-- ==== Sys2Proof/Machine/Objects.lean ====
section
/-!
DEFINITION. OBJ_* and what a commit does: live writes (R137), staging (R136), commits (R138–R140), OBJ_STORE (R448, R449), the recalled
configuration at STOP-ready (R450), OBJ_GET and OBJ_LIST.
-/

namespace Sys2Proof.Machine

/-! ### Live writes (R137) -/

/-- The value that the writes of a set carry for a field, if they cover it. -/
def wrVal (ws : List Wr) (f : Fld) : Option Nat := (ws.find? fun w => decide (w.row.fld = f)).map (·.v)

/-- FLEN outside CNV-7 for the FTYPE in force. -/
def flenBad (s : State) (c v : Nat) : Bool :=
  match s.rd F.PPR_CH_FTYPE c with
  | 1 => decide (v = 0) || decide (1024 < v)
  | 2 => decide (v = 0) || decide (15 < v)
  | _ => false

/-- The status with which a live write is refused, OK where it takes effect. `whole` marks a whole-object write. -/
def liveStatus (s : State) (whole : Bool) (ws : List Wr) (w : Wr) : Nat :=
  let f := w.row.fld
  let high : Bool := decide (f = F.PPR_WIN_HIGH)
  if f = F.PLT_LANE_READMIT then
    if (List.range 3).all fun k => !w.v.testBit k || decide (s.laneSt k = lRETIRED) || decide (s.laneSt k = lFAILED) then
      Code.OK else Code.LANE_STATE
  else if f = F.PLT_LANE_RETIRE then
    if w.v ≠ 0 ∧ (s.mode = mRUN ∨ s.mode = mHOLD) ∧ leftVoting s w.v < 2 then Code.LANE_LAST else Code.OK
  else if f = F.ANG_EV_ANGLE then
    if !s.is F.ANG_EV_OWNER w.i ∧ !(whole ∧ w.v = s.rd F.ANG_EV_ANGLE w.i) then Code.ENTRY_OWNER else Code.OK
  else if f = F.ANG_EV_ARM then
    if !s.is F.ANG_EV_OWNER w.i ∧ !(whole ∧ w.v = 0) then Code.ENTRY_OWNER else Code.OK
  else if f = F.DG_CNT_CNT then if s.dmode w.i = 2 then Code.OK else Code.CHANNEL_MODE
  else if f = F.AG_CS_RETEST then if w.v = 0 then Code.OK else retestStatus s (w.i / 5) (w.i % 5)
  else if f = F.PPR_CH_FLEN then if flenBad s w.i w.v then Code.OUT_OF_RANGE else Code.OK
  else if high ∨ f = F.PPR_WIN_LOW then
    if winOrder s w.i ((wrVal ws F.PPR_WIN_HIGH).getD (s.rd F.PPR_WIN_HIGH w.i))
        ((wrVal ws F.PPR_WIN_LOW).getD (s.rd F.PPR_WIN_LOW w.i)) then Code.OK else Code.WINDOW_ORDER
  else if f = F.PWR_CFG_HOLD_TEST then if w.v = 0 then Code.OK else s.holdTestStatus
  else if f = F.RTC_TIME_SECONDS then if w.v < rangeEnd then Code.OK else Code.OUT_OF_RANGE
  else Code.OK

/-- The sources that follow a cleared W1C field. -/
def afterClear (s : State) (o i : Nat) : State :=
  let each (l : List Nat) (s : State) : State := l.foldl (fun s n => hostSync n s) s
  if o = F.objDG_CHSTAT then hostSync (192 + i / 16) s
  else if o = F.objDG_COS then each ((List.range 16).map fun k => 64 + 16 * i + k) s
  else if o = F.objAG_CHSTAT then hostSync (200 + i / 16) s
  else if o = F.objPPR_WINSTAT then hostSync (216 + i) s
  else if o = F.objCLK_EVENTS then hostSync 305 s
  else if o = F.objIMG_STATUS then hostSync 306 s
  else if o = F.objRTC_STATUS then hostSync 307 s
  else if o = F.objINT_LATCH then each ((List.range 25).map fun b => 280 + b) s
  else s

/-- The field has a live effect of its own, beyond its value. -/
def special (r : FieldRow) : Bool :=
  decide (r.acc = .wo) || decide (r.acc = .w1c) ||
    [F.ANG_EV_ANGLE, F.ANG_AD_SYNSPD, F.DG_CNT_CNT, F.MBX_CFG_CQ_TIMEOUT, F.RTC_TIME_SECONDS, F.RTC_TIME_SUBSEC, F.RTC_TRIM_TRIM,
      F.RTC_WAKE_PERIOD, F.RTC_WAKE_PWR_EN, F.RTC_WAKE_EN].contains r.fld

/-- A live write takes effect; RTC.TIME is written as a whole by `liveAll`. -/
def liveApply (s : State) (w : Wr) : State :=
  let f := w.row.fld
  let b := decide (w.v ≠ 0)
  if f = F.PLT_LANE_READMIT then (if b then readmit w.v s else s)
  else if f = F.PLT_LANE_RETIRE then (if b then retire w.v s else s)
  else if f = F.ANG_EV_ANGLE then angleWrite w.i w.v s
  else if f = F.ANG_EV_ARM then armWrite w.i b s
  else if f = F.ANG_AD_SYNSPD then synspd w.i w.v s
  else if f = F.ANG_STATUS_RESYNC then (if b then resync w.i s else s)
  else if f = F.DG_CNT_CNT then cntWrite w.i w.v s
  else if f = F.AG_CS_RETEST then (if b then retest (w.i / 5) (w.i % 5) s else s)
  else if f = F.PWR_CFG_HOLD_TEST then (if b then holdTest s else s)
  else if f = F.MBX_CFG_CQ_TIMEOUT then hostSync 34 (hostSync 2 (s.wr f w.v))
  else if f = F.INT_STORMED_M then (if b then liftStorm w.e s else s)
  else if f = F.RTC_TIME_SECONDS ∨ f = F.RTC_TIME_SUBSEC then s
  else if f = F.RTC_TRIM_TRIM then trimWrite w.v s
  else if f = F.RTC_WAKE_PERIOD then rtcWake w.v (s.is F.RTC_WAKE_PWR_EN) (s.is F.RTC_WAKE_EN) s
  else if f = F.RTC_WAKE_PWR_EN then rtcWake (s.rd F.RTC_WAKE_PERIOD) b (s.is F.RTC_WAKE_EN) s
  else if f = F.RTC_WAKE_EN then rtcWake (s.rd F.RTC_WAKE_PERIOD) (s.is F.RTC_WAKE_PWR_EN) b s
  else if f = F.RTC_PWRON_OFF then (if b then off s else s)
  else if w.row.acc = .w1c then
    let old := s.rdE f w.i w.e
    afterClear (s.wrE f w.i w.e (old ^^^ (old &&& w.v))) f.obj w.i
  else s.wrE f w.i w.e w.v

/-- Live writes of one command or commit by session `ses`. -/
def liveAll (ses : Nat) (s : State) (ws : List Wr) : State :=
  let s := ws.foldl liveApply s
  match wrVal ws F.RTC_TIME_SECONDS, wrVal ws F.RTC_TIME_SUBSEC with
  | none, none => s
  | a, b => rtcTimeWrite (a.getD s.seconds) (b.getD (s.calendar % 32768)) ses s

/-! ### What a commit changes beyond the values -/

/-- Object `i` differs between two states in one of the fields. -/
def differs (a b : State) (i : Nat) (l : List Fld) : Bool := l.any fun f => decide (a.rd f i ≠ b.rd f i)

/-- A digital channel with a new configuration (R329, R333): `level` is its comparison against the band midpoint. -/
def dgChange (level : Bool) (old s : State) (c : Nat) : State :=
  let mode := differs old s c [F.DG_CH_MODE]
  let s := if mode then (drive s c false false).wr F.DG_CHSTAT_PRESENT 0 c else s
  let s := if differs old s c [F.DG_CH_MODE, F.DG_CH_INTYPE, F.DG_CH_INV] then firstState s c level else s
  let k := (s.dgg (grp c)).safe
  if differs old s c [F.DG_CH_MODE, F.DG_CH_STOP_SAFE, F.DG_CH_FAULT_SAFE] ∧ (k = 1 ∨ k = 2) then driveSafe s c k else s

/-- An analogue channel with a new configuration: reconfigured in a powered quad (R386), its open-wire test afresh. -/
def agChange (old s : State) (c : Nat) : State :=
  let g := c / 16
  let front := differs old s c [F.AG_CH_MODE, F.AG_CH_RANGE, F.AG_CH_WIRES]
  let s := if front ∧ (s.agg g).quadSt (quadOf c) = 2 ∧ s.quadWanted g (quadOf c) then
      (putAch s c { s.ach c with reconf := some s.time.now, drv := none }).wr F.AG_CHSTAT_PRESENT 0 c
    else s
  if front || differs old s c [F.AG_CH_OW_EN] then putAslot s c {} else s

/-- A channel that a commit adds to SEL starts afresh (R423). -/
def posChange (old s : State) (g : Nat) : State :=
  (List.range 4).foldl (fun s p => ((selected s g p).filter fun c => !(selected old g p).contains c).foldl syncReset s) s

/-- A window that a commit enables or changes has a first evaluation (R429). -/
def winChange (old s : State) (w : Nat) : State :=
  if (s.is F.PPR_WIN_EN w ∧ !old.is F.PPR_WIN_EN w) ∨
      differs old s w [F.PPR_WIN_SRC, F.PPR_WIN_HIGH, F.PPR_WIN_LOW, F.PPR_WIN_HYST] then
    putAwin s w { s.awin w with first := true, run := 0 }
  else s

/-- The fields of a domain other than SYNSPD, and the ST fields of an entry. -/
def adFields : List Fld :=
  [F.ANG_AD_SPD_MAX, F.ANG_AD_SPD_MIN, F.ANG_AD_DEV_MAX, F.ANG_AD_REF_ANGLE, F.ANG_AD_COUNT, F.ANG_AD_GAP, F.ANG_AD_ZEN,
   F.ANG_AD_SIG_Z, F.ANG_AD_SIG_B, F.ANG_AD_SIG_A, F.ANG_AD_BOOST_SHORT_ACT, F.ANG_AD_AUTO_RESYNC, F.ANG_AD_EDGE, F.ANG_AD_DIR,
   F.ANG_AD_PRED, F.ANG_AD_SRC]
def evFields : List Fld :=
  [F.ANG_EV_WIDTH, F.ANG_EV_TARGET, F.ANG_EV_CAP, F.ANG_EV_BOOST, F.ANG_EV_CATCHUP, F.ANG_EV_OWNER, F.ANG_EV_MODE,
   F.ANG_EV_DOMAIN, F.ANG_EV_ACTION]

/-- A commit of a domain: restarted where a field other than SYNSPD changes (R305); CAPPOS 0 in either case (R321). -/
def adChange (old s : State) (d : Nat) : State :=
  if differs old s d adFields then restartDomain s d else s.wr F.ANG_CAPPOS_CAPPOS 0 d

/-- An entry whose ST fields change is IDLE (R312). -/
def evChange (old s : State) (e : Nat) : State := if differs old s e evFields then disarm s e else s

/-- Subscriptions that change their source or end lose their held copy (R163, R164). -/
def subsChange (old s : State) : State :=
  let keep (k : Nat) : Bool := decide (s.rdE F.IMG_SUBS_EN 0 (64 * k) ≠ 0) &&
    decide (s.rdE F.IMG_SUBS_SRC 0 (64 * k) = old.rdE F.IMG_SUBS_SRC 0 (64 * k))
  { s with img := { s.img with peers := s.img.peers.filter fun x => keep x.entry } }

/-- Pairing begins: in RUN and HOLD the module is standby of a primary it hears, else it claims (R282). Pairing ends: the gates
open and no role is left. -/
def pairChange (old s : State) : State :=
  let hello (s : State) : State := refreshPair (updPair s fun x => { x with helloRun := 500 })
  if s.paired = old.paired then hello s
  else if s.paired then
    let s := hello { s with pair := {} }
    if s.mode = mRUN ∨ s.mode = mHOLD then
      if s.pRole = 1 ∧ s.pair.heard then standbyOutputs (setRole s 2) else claim s s.time.now 120000
    else s
  else
    let s := match s.pair.drill with
      | some d => finishDrill s { d with aborted := true } false
      | none => s
    let s := (setRole { openAnalogue (openDigital s) with pair := {} } 0).wr F.PLT_PSTATE_PARTNER_ROLE 0
    refreshPair (s.wr F.PLT_PSTATE_PARTNER_ELIG 0)

/-- The sources `a` to `a + n - 1` take their entries (R493): a source that is disabled or has another target is IDLE, and then
follows its condition. -/
def intChange (old s : State) (a n : Nat) : State :=
  attnCheck (((List.range n).map (· + a)).foldl (fun s k =>
    if s.srcEn k = old.srcEn k ∧ s.srcTarget k = old.srcTarget k then s
    else
      let s := putSrc { s with int := { s.int with taken := s.int.taken.filter fun p => decide (p.1 ≠ k) } } k 0
      if s.srcEn k && s.int.asserted.testBit k then takeTask (srcEdge s k true) k else s) s)

/-- What the commit of one object changes beyond its values. -/
def objChange (levels : Nat) (old s : State) (p : Nat × Nat) : State :=
  let o := p.1
  let i := p.2
  if o = F.objDG_CH then dgChange (levels.testBit i) old s i
  else if o = F.objAG_CH then agChange old s i
  else if o = F.objAG_POS then posChange old s i
  else if o = F.objPPR_CH then
    if differs old s i [F.PPR_CH_FTYPE, F.PPR_CH_MPER, F.PPR_CH_MDOM] then syncReset s i else s
  else if o = F.objPPR_WIN then winChange old s i
  else if o = F.objANG_AD then adChange old s i
  else if o = F.objANG_EV then evChange old s i
  else if o = F.objIMG_SUBS then subsChange old s
  else if o = F.objPLT_PAIR ∨ o = F.objPLT_CFG ∨ o = F.objPLT_MIRROR then pairChange old s
  else if o = F.objINT_COS then intChange old s 64 128
  else if o = F.objINT_GRP then intChange old s 192 24
  else if o = F.objINT_WIN then intChange old s 216 64
  else if o = F.objINT_SYS then intChange old s 280 29
  else if o = F.objINT_CFG then attnCheck s
  else s

/-- The groups follow what the objects of a commit brought: sensor feeds, status words, quads, slices and outputs. -/
def groupsFollow (m : Nat) (s : State) : State :=
  let s := (List.range 8).foldl (fun s g =>
    if m.testBit g then dgSync (if s.dgLoaded g && s.clk.stopReady then feeds s g else s) g else s) s
  (List.range 4).foldl (fun s g =>
    if m.testBit (8 + g) then agSync (applyOuts (slicesFollow (quadsFollow s g) g) g) g else s) s

/-- The groups, with those of the PPR objects. -/
def touchedGroups (l : List (Nat × Nat)) : Nat :=
  l.foldl (fun m p => match objDef p.1 with
    | some d => m ||| groupMask d p.2
    | none => m) 0

/-- A set of writes takes effect as one unit (R138). -/
def applySet (ses levels : Nat) (s : State) (ws : List Wr) : State :=
  let l := (ws.map fun w => (w.row.fld.obj, w.i)).eraseDups
  let m := touchedGroups l
  let s := (List.range 8).foldl (fun s g => if m.testBit g then settleBc s g else s) s
  let old := s
  let plain := ws.filter fun w => !special w.row
  let s := l.foldl (objChange levels old) (withWrites s plain)
  let s := liveAll ses s (ws.filter fun w => special w.row)
  persistReg (stepSplit (groupsFollow m s))

/-! ### OBJ_SET (R134–R137) -/

/-- The checks of step 7 of MBX-5: the refusal, or what is written, whether it is staged, and the writes. -/
def setCheck (x : Session) (p : List Nat) : Except Nat (Target × Bool × List Wr) :=
  match takeTarget p with
  | .error e => .error e
  | .ok (t, r) =>
    let v := leNat (r.drop 4)
    let ws := writesOf t v
    if x.role < writeRole t then .error Code.ROLE_DENIED
    else if r.length < 4 ∨ 1 < leAt r 0 1 ∨ leAt r 1 1 ≠ 0 then .error Code.BAD_PAYLOAD
    else if (writeRows t).isEmpty then .error Code.NOT_WRITABLE
    else if leAt r 2 2 ≠ valueLen t ∨ r.length ≠ 4 + valueLen t then .error Code.BAD_PAYLOAD
    else if resSet t v then .error Code.RES_NONZERO
    else if outOfRange t v ws then .error Code.OUT_OF_RANGE
    else .ok (t, decide (leAt r 0 1 = 1), ws)

/-- OBJ_SET. -/
def objSet (c : Cmd) (x : Session) (s : State) : State × Ans :=
  match setCheck x c.payload with
  | .error e => refuse s e
  | .ok (t, stage, ws) =>
    gate { groups := groupMask t.d t.i } s
      (let put := ws.filter fun w => stage || isST w.row
       let live := ws.filter fun w => !(stage || isST w.row)
       let own := (s.session? x.no).getD x
       let l := put.foldl stageOne own.staging
       let all := ((s.mbx.sessions.filter fun y => decide (y.no ≠ x.no)).map fun y => (stagedObjs y.staging).length).foldl (· + ·) 0
       let n := (stagedObjs l).length
       let st := ((live.map (liveStatus s t.field.isNone live)).find? fun k => decide (k ≠ Code.OK)).getD Code.OK
       if put ≠ [] ∧ (512 < n ∨ 4096 < all + n) then refuse s Code.STAGING_FULL
       else if s.lockedBy x.no t.d.id t.i then refuse s Code.STAGED_ELSEWHERE
       else if st ≠ Code.OK then refuse s st
       else done (liveAll x.no (if put = [] then s else putSession s { own with staging := l }) live))

def execObjSet (dt : Elapsed) (s : State) : Out := .next (mbxRun 0x21 1 objSet (advance dt s))

/-! ### OBJ_GET and OBJ_LIST -/

/-- OBJ_GET: the value in RESULT up to 8 bytes, else DATA; OFFSET and LEN for values over 1,536 bytes. -/
def objGet (c : Cmd) (_ : Session) (s : State) : State × Ans :=
  match takeTarget c.payload with
  | .error e => refuse s e
  | .ok (t, r) =>
    let var := decide (t.d.id = F.objSTO_INCONS)
    let s' := refreshObj s t.d t.i
    let b := targetBytes s' t
    let n := if var then b.length else if t.d.id = F.objPWR_HIST then 65536 else valueLen t
    let big := decide (1536 < n)
    let o := leAt r 0 2
    let k := leAt r 2 2
    if (if r = [] then big && !var else decide (r.length ≠ 4) || !(big || var) || decide (1536 < k) || decide (n < o + k)) then
      refuse s Code.BAD_PAYLOAD
    else
      gate { groups := groupMask t.d t.i } s
        (if n ≤ 8 ∧ !var then (afterRead s' t, .imm Code.OK (leNat b) [])
         else
           let data := if r = [] then b.take 1536 else slice b o k
           (s, .long .none fun h s => finNum (afterRead (refreshObj s t.d t.i) t) h Code.OK 0 data))

def execObjGet (dt : Elapsed) (s : State) : Out := .next (mbxRun 0x20 1 objGet (advance dt s))

/-- As many items as fit into `n` bytes. -/
def takeFit : Nat → List (List Nat) → List Nat
  | _, [] => []
  | n, x :: xs => if x.length ≤ n then x ++ takeFit (n - x.length) xs else []

/-- OBJ_LIST: the names of the child segments, each as R134 lays a path out, as many as one answer holds. -/
def objList (c : Cmd) (_ : Session) (s : State) : State × Ans :=
  match takePath c.payload with
  | none => refuse s Code.BAD_PAYLOAD
  | some (l, r) =>
    if !pathForm l then refuse s Code.BAD_PATH
    else match children l with
      | none => refuse s Code.NO_OBJECT
      | some names =>
        if r ≠ [] then refuse s Code.BAD_PAYLOAD
        else (s, .long .none fun h s => finNum s h Code.OK 0 (takeFit 1536 (names.map pathBytes)))

def execObjList (dt : Elapsed) (s : State) : Out := .next (mbxRun 0x25 1 objList (advance dt s))

/-! ### Commits (R138–R140) -/

/-- OBJ_COMMIT is accepted and waits for its boundary. -/
def objCommit (c : Cmd) (x : Session) (s : State) : State × Ans :=
  let k := leAt c.payload 0 1
  let own := (s.session? x.no).getD x
  if !(payOk c 4 1 3) ∨ 1 < k then refuse s Code.BAD_PAYLOAD
  else
    gate { groups := stagedGroups own.staging } s
      (if own.staging = [] then (s, .late Code.NOTHING_STAGED)
       else (s, .long (.commit (decide (k = 1)) s.time.now s.mode) fun _ s => s))

def execObjCommit (dt : Elapsed) (s : State) : Out := .next (mbxRun 0x22 3 objCommit (advance dt s))

/-- OBJ_DISCARD. -/
def objDiscard (c : Cmd) (x : Session) (s : State) : State × Ans :=
  let own := (s.session? x.no).getD x
  if c.payload ≠ [] then refuse s Code.BAD_PAYLOAD
  else (putSession s { own with staging := [] }, .imm Code.OK (stagedObjs own.staging).length [])

def execObjDiscard (dt : Elapsed) (s : State) : Out := .next (mbxRun 0x23 3 objDiscard (advance dt s))

/-- A T0 period boundary that has come and is not latched yet: its instant and the cinch of its cycle. -/
def State.boundaryNow (s : State) : Option (Nat × Nat) :=
  let b := s.nextBoundary
  let mark := s.ring.due.find? fun d => decide (d.at_ ≤ s.time.now)
  match mark with
  | some d => some (d.at_, d.cinch)
  | none =>
    if s.substFixed ∧ s.expected ≤ s.time.now ∧ s.ring.substRun < 2 then some (s.expected, (s.ring.cinch + 1) % 2 ^ 32)
    else if s.ring.localOn ∧ 50 ≤ s.rd F.SCN_T_PERIOD 0 ∧ b ≤ s.time.now then some (b, s.cinchNow)
    else none

/-- The cinch of the cycle in which a waiting commit is applied now, none while it has to wait (R138, R139). -/
def State.commitDue (s : State) (h : Hdl) : Option Nat :=
  match h.op with
  | .commit _ t _ =>
    if h.state ≠ 1 ∨ s.mode = mINIT then none
    else if s.mode = mSTOP ∨ s.mode = mFAULT then some s.cinchNow
    else if t + 100000 ≤ s.ring.lastLocal then some s.cinchNow
    else match s.boundaryNow with
      | some (b, n) => if t + 100000 ≤ b then some n else none
      | none => none
  | _ => none

/-- The first disagreement of a new configuration that the old one did not have, or that lies in an object the set touches. -/
def disagreement (old new : State) (l : List (Nat × Nat)) : Option Violation :=
  let before := old.violations
  new.violations.find? fun v => l.contains (v.obj, v.idx) || !before.contains v

/-- The path of an object in the form of R134. -/
def objPath (o i : Nat) : List Nat := match objDef o with
  | some d => pathBytes (pathChars d i)
  | none => []

/-- A waiting commit is checked and applied or refused, and its FIN created. -/
def commitRun (levels : Nat) (h : Hdl) (chk : Bool) (cinch : Nat) (x : Session) (s : State) : State :=
  let ws := x.staging.filterMap stagedWr
  let l := stagedObjs x.staging
  if x.staging = [] then finHdl s h.slot Code.NOTHING_STAGED 0 [] cinch
  else if s.prg.act.isSome && l.any (fun p => decide (p.1 = F.objSCN_T) || decide (p.1 = F.objSCN_RETAIN)) then
    finHdl s h.slot Code.ACTIVATE_BUSY 0 [] cinch
  else match disagreement s (withWrites s ws) l with
    | some v => finHdl s h.slot Code.COMMIT_REFUSED v.reason (objPath v.obj v.idx) cinch
    | none =>
      if chk then finHdl s h.slot Code.OK 0 [] cinch
      else finHdl (applySet x.no levels (putSession s { x with staging := [] }) ws) h.slot Code.OK 0 [] cinch

/-- The first waiting commit whose moment has come. `levels` are the comparisons of channels that take a first state (R329). -/
def commitApply (levels : Nat) (s : State) : State :=
  let due := s.mbx.hdls.findSome? fun h => (s.commitDue h).map fun n => (h, n)
  match due with
  | none => noEffect s
  | some (h, n) =>
    if !s.clk.supv then noEffect s
    else match h.op, s.session? h.session with
      | .commit chk _ _, some x => commitRun levels h chk n x s
      | _, _ => noEffect s

def execCommitApply (dt : Elapsed) (levels : Nat) (s : State) : Out := .next (commitApply levels (advance dt s))

/-! ### OBJ_STORE (R448, R449) -/

/-- The objects that up to `n` paths name. -/
def storePaths : Nat → List Nat → Except Nat (List (ObjDef × Nat))
  | 0, p => if p = [] then .ok [] else .error Code.BAD_PAYLOAD
  | n + 1, p =>
    if p = [] then .ok []
    else match takeTarget p with
      | .error e => .error e
      | .ok (t, r) =>
        if !storable t.d then .error Code.STORE_PATH
        else match storePaths n r with
          | .error e => .error e
          | .ok l => .ok ((t.d, t.i) :: l)

/-- OBJ_STORE: the objects in force are copied at acceptance. -/
def objStore (c : Cmd) (x : Session) (s : State) : State × Ans :=
  match storePaths 16 c.payload with
  | .error e => refuse s e
  | .ok l =>
    if l.isEmpty then refuse s Code.BAD_PAYLOAD
    else
      let objs := (l.map fun p => (objNumber p.1 p.2, objBytes s p.1 p.2)).eraseDups
      gateStore {} s (s, .long .objStore fun h s =>
        let first := s.sto.ops.isEmpty
        let s := { s with sto := { s.sto with ops := s.sto.ops ++ [⟨h, x.no, objs⟩] } }
        if first then startHdl s (h % 2048) else s)

def execObjStore (dt : Elapsed) (s : State) : Out := .next (mbxRun 0x24 3 objStore (advance dt s))

/-- The SETGEN the next set gets: the committed one plus 1; after an INCONSISTENT SETCOMMIT the higher of its slots plus 1. -/
def State.nextSetGen (s : State) : Nat :=
  let r := s.stoRec kSETCOMMIT 0
  let of (x : Option Slot) : Nat := (x.map fun y => leAt y.data 0 4).getD 0
  (s.setGen.getD (max (of r.s0) (of r.s1))) + 1

/-- The writes of the OBJ_STORE that runs are over: all made, or ended by the energy check before SETCOMMIT. -/
def objStoreDone (s : State) : State :=
  match s.sto.ops with
  | [] => noEffect s
  | x :: r =>
    let s := { s with sto := { s.sto with ops := r } }
    let s := match r with
      | y :: _ => startHdl s (y.handle % 2048)
      | [] => s
    if !s.storeOk then
      finNum (writeAbandoned s kCONFIG ((x.objs.map (·.1)).headD 0) 0x24) x.handle Code.WRITE_ABANDONED 0
    else
      let g := s.nextSetGen
      let s := x.objs.foldl (fun s p => writeRec s kCONFIG p.1 g p.2) s
      let s := writeRec s kSETCOMMIT 0 0 (leBytes 4 g)
      let s := x.objs.foldl (fun s p => match objOf objects p.1 with
        | some k => setIncons s k false
        | none => s) s
      finNum s x.handle Code.OK (g % 2 ^ 32 + 2 ^ 32 * x.objs.length)

def execObjStoreDone (dt : Elapsed) (s : State) : Out := .next (objStoreDone (advance dt s))

/-! ### STOP-ready (CLK-8, R450) -/

/-- The stored form of an object as writes. -/
def storedWrites (d : ObjDef) (i : Nat) (b : List Nat) : List Wr :=
  let v := leNat b
  (List.range d.rep).flatMap fun k =>
    (d.fields.filter kept).map fun r => ⟨r, i, k * d.stride, bits (v >>> (k * d.stride)) r.fld.hi r.fld.lo⟩

/-- The recalled configuration: every object with a usable CONFIG record. -/
def State.storedSet (s : State) : List ((Nat × Nat) × List Wr) :=
  (s.sto.recs.filter fun r => decide (r.kind = kCONFIG)).filterMap fun r =>
    match s.recData kCONFIG r.index, objOf objects r.index with
    | some b, some p => (objDef p.1).map fun d => (p, storedWrites d p.2 b)
    | _, _ => none

/-- The factory baseline: every field at its default, and COMPAT as the strap COMPAT_SEL gives it. -/
def baseConfig (s : State) : State :=
  let die (k : Nat) : Bool := [F.objDG_CH, F.objDG_BOOST, F.objDG_GROUP, F.objAG_CH, F.objAG_GROUP].contains (k / 2 ^ 32)
  let s := { s with regs := s.regs.filter fun e => !die e.1 }
  let s := (List.range 8).foldl (fun s g => s.wr F.DG_GROUP_COMPAT (b2n s.clk.compat) g) s
  (List.range 4).foldl (fun s g => s.wr F.AG_GROUP_COMPAT (b2n s.clk.compat) g) s

/-- The objects the checks refuse leave the recalled set one after another; answers what is left and what was named. -/
def settleSet : Nat → State → List ((Nat × Nat) × List Wr) → List (Nat × Nat) → List ((Nat × Nat) × List Wr) × List (Nat × Nat)
  | 0, _, l, bad => (l, bad)
  | n + 1, s, l, bad =>
    match (withWrites s (l.flatMap (·.2))).violations.find? fun v => !bad.contains (v.obj, v.idx) with
    | none => (l, bad)
    | some v => settleSet n s (l.filter fun p => decide (p.1 ≠ (v.obj, v.idx))) (bad ++ [(v.obj, v.idx)])

/-- An object that the checks refuse is INCONSISTENT. -/
def refused450 (s : State) (p : Nat × Nat) : State :=
  let n := match objDef p.1 with
    | some d => objNumber d p.2
    | none => 0
  log Ev.INCONSISTENT (leBytes 2 kCONFIG ++ leBytes 2 n) (setIncons s p true)

/-- The start-up has come to STOP-ready: firmware, plan, lanes and every group with a supply are loaded, or have no valid code. -/
def State.bootDone (s : State) : Bool :=
  s.clk.fwRunning && !s.clk.stopReady && !s.is F.SEC_STATUS_RECOVERY && decide (s.mode = mINIT) && s.is F.CLK_START_PLAN_DONE &&
    (s.is F.CLK_START_LANES_LOADED || s.sec.laneBad) &&
    ((List.range 8).all fun g => decide ((s.dgg g).supply = 0) || s.dgLoaded g || s.sec.groupBad.testBit g) &&
    (List.range 4).all fun g => decide ((s.agg g).supply = 0) || s.agLoaded g || s.sec.groupBad.testBit (8 + g)

/-- The recalled configuration is applied as one commit, and the module enters STOP. -/
def stopReady (levels : Nat) (s : State) : State :=
  if !s.bootDone then noEffect s
  else
    let base := baseConfig s
    let r := settleSet 4096 base s.storedSet []
    let s := r.2.foldl refused450 base
    let s := { s with clk := { s.clk with stopReady := true, startRuns := 0 } }
    let ws := r.1.flatMap (·.2)
    let s := withWrites (applySet 0 levels s ws) (ws.filter fun w => decide (w.row.fld = F.ANG_EV_ANGLE))
    let s := groupsFollow 0xFFF s
    let s := safeCommand (setMode s mSTOP 11 s.scn.restart) 1
    let s := (List.range 309).foldl (fun s n => hostSync n s) s
    wakeRecord (persistReg s)

def execStopReady (dt : Elapsed) (levels : Nat) (s : State) : Out := .next (stopReady levels (advance dt s))

end Sys2Proof.Machine
end

