-- ==== Sys2Proof/Machine/Security.lean ====
section
/-!
DEFINITION. Service port (R518–R521), firmware (R522–R536), supervisor failure (R533), role keys (R537, R538), the random source
(R539, R540) and the security unit's power (R469).
-/

namespace Sys2Proof.Machine

/-! ### Loading at every start (R528, R529) -/

/-- No valid code for target `t`, or copies that failed twice at the places `m`: recovery, no lanes, or groups left unloaded. -/
def loadFailed (s : State) (t m : Nat) : State :=
  match t with
  | 0 => (s.wr F.SEC_STATUS_RECOVERY 1).wr F.SEC_STATUS_USB_ATTACHED 0
  | 1 => { s with sec := { s.sec with laneBad := true } }
  | 2 =>
    let s := { s with sec := { s.sec with groupBad := s.sec.groupBad ||| (m % 256) } }
    (List.range 8).foldl (fun s g =>
      if m.testBit g ∧ (s.dgg g).supply ≠ 0 then updDgg s g fun x => { x with bad := max 3 x.bad } else s) s
  | _ =>
    let s := { s with sec := { s.sec with groupBad := s.sec.groupBad ||| (m % 16 * 256) } }
    (List.range 4).foldl (fun s g =>
      if m.testBit g ∧ (s.agg g).supply ≠ 0 then updAgg s g fun x => { x with bad := max 3 x.bad } else s) s

/-- All copies of a target. -/
def allCopies : Nat → Nat
  | 2 => 0xFF
  | _ => 0xF

/-- The pull-up follows: firmware running, USB_VBUS present, no recovery (R518). -/
def pullUp (s : State) : State :=
  if s.sec.vbus && s.clk.fwRunning && !s.is F.SEC_STATUS_RECOVERY then s.wr F.SEC_STATUS_USB_ATTACHED 1 else s

/-- The supervisor firmware begins: its interrupt entries, the spare core, the service port. -/
def fwBegins (s : State) : State :=
  let s := { s with clk := { s.clk with fwRunning := true } }
  pullUp (keyRegs (supEntries (s.wr F.SEC_STATUS_SPARE_READY 1)))

/-- A target is checked and loaded from its selected slot, else from the other. `fails` marks the dies, lanes or cores whose copy
failed twice. -/
def targetLoad (t fails : Nat) (s : State) : State :=
  let ready : Bool := if t = 0 then s.is F.CLK_START_RECALL_DONE && !s.clk.fwRunning else s.clk.fwRunning
  if 4 ≤ t ∨ s.clk.gatesOpened.isNone ∨ !s.clk.supv ∨ s.clk.startFailed ∨ s.sec.loaded.testBit t ∨ !ready then noEffect s
  else
    let k := s.fwSel t
    let c := s.fwCheck t k none
    let alt := s.fwCheck t (1 - k) none
    let s := fwRegs { s with sec := { s.sec with loaded := setBits s.sec.loaded t t 1, unitAt := some s.time.xt } } t
    if c ≠ 0 ∧ alt ≠ 0 then loadFailed s t (allCopies t)
    else
      let s := if c = 0 then fwRuns (putFw s F.SEC_FW_FALLBACK t 0) t k
        else log Ev.FW_FALLBACK [t, 1 - k, c] (fwRuns (putFw s F.SEC_FW_FALLBACK t 1) t (1 - k))
      let bad : Bool := decide (fails % (allCopies t + 1) ≠ 0)
      if t = 0 then (if bad then loadFailed s 0 fails else fwBegins s)
      else if bad then loadFailed s t fails
      else s

def execTargetLoad (dt : Elapsed) (t fails : Nat) (s : State) : Out := .next (targetLoad t fails (advance dt s))

/-! ### Staging (R525–R527) -/

/-- The image of delivery in slot A gives way: of its header only what SEC-3 and Config fix remains known (assumption log 45). -/
def dropFactory (s : State) (t k : Nat) : State :=
  if s.factoryAt t k then
    let h := [0, 0, 0, 0, 1, 0, t, 0] ++ leBytes 4 (s.fwVersion t k) ++ leBytes 4 (s.fwSecver t k)
    { s with sto := { s.sto with factory := setBits s.sto.factory t t 0, fwSlots := memPut s.sto.fwSlots (fwBase t k) h } }
  else s

/-- FW_STAGE_BEGIN: MAGIC of the slot becomes 0 before the answer. -/
def fwBegin (c : Cmd) (_ : Session) (s : State) : State × Ans :=
  let t := leAt c.payload 0 1
  let size := leAt c.payload 4 4
  if !(payOk c 8 1 3) ∨ 3 < t then refuse s Code.BAD_PAYLOAD
  else if size < 132 ∨ fwSize t < size then refuse s Code.FW_SIZE
  else gateStore {} s (
    if s.sec.stage.isSome ∨ (s.fwAct t).isSome then (s, .late Code.FW_BUSY)
    else
      (s, .long .fwStage fun h s =>
        let k := 1 - s.fwSel t
        let s := startHdl (dropFactory s t k) (h % 2048)
        let s := { s with sto := { s.sto with fwSlots := memPut s.sto.fwSlots (fwBase t k) [0, 0, 0, 0] }
                          sec := { s.sec with stage := some ⟨h, t, size, 0⟩ } }
        putUnsel s t 1))

def execFwStageBegin (dt : Elapsed) (s : State) : Out := .next (mbxRun 0x90 4 fwBegin (advance dt s))

/-- The open staging that handle `n` names while it takes data. -/
def State.stageOf (s : State) (n : Nat) : Option FwStage :=
  match s.sec.stage with
  | some x => if x.handle = n ∧ x.stage = 0 then some x else none
  | none => none

/-- FW_STAGE_DATA (R241). -/
def fwData (c : Cmd) (_ : Session) (s : State) : State × Ans :=
  let o := leAt c.payload 0 4
  let d := c.payload.drop 4
  if c.payload.length < 4 ∨ 996 < d.length then refuse s Code.BAD_PAYLOAD
  else gateStore {} s (
    match s.stageOf c.arg with
    | none => refuse s Code.HANDLE_STALE
    | some x =>
      if x.size < o + d.length then refuse s Code.FW_RANGE
      else
        let a := fwBase x.target (1 - s.fwSel x.target) + o
        done { s with sto := { s.sto with fwSlots := memPut s.sto.fwSlots a d } })

def execFwStageData (dt : Elapsed) (s : State) : Out := .next (mbxRun 0x91 4 fwData (advance dt s))

/-- FW_STAGE_END. -/
def fwEnd (c : Cmd) (_ : Session) (s : State) : State × Ans :=
  if c.payload ≠ [] then refuse s Code.BAD_PAYLOAD
  else gate {} s (
    match s.stageOf c.arg with
    | none => refuse s Code.HANDLE_STALE
    | some x => done { s with sec := { s.sec with stage := some { x with stage := 1 } } })

def execFwStageEnd (dt : Elapsed) (s : State) : Out := .next (mbxRun 0x92 4 fwEnd (advance dt s))

/-- The checks of SEC-4 after FW_STAGE_END; a NOTE reports the digest passed. -/
def fwChecks (s : State) : State :=
  match s.sec.stage with
  | none => noEffect s
  | some x =>
    if x.stage ≠ 1 ∨ !s.clk.supv then noEffect s
    else
      let t := x.target
      let k := 1 - s.fwSel t
      let c := s.fwCheck t k (some x.size)
      let s := { s with sec := { s.sec with unitAt := some s.time.xt } }
      let s := if c = 1 ∨ c = 2 then s else note s (x.handle % 2048) 500
      if c ≠ 0 then putUnsel (endStage s (fwStatus c) 0 false) t 3
      else
        let v := s.fwVersion t k
        let s := log Ev.FW_STAGED ([t, 0, 0, 0] ++ leBytes 4 v) s
        putUnsel (endStage s Code.OK (v + 2 ^ 32 * s.fwSecver t k) true) t 2

def execFwStageChecks (dt : Elapsed) (s : State) : Out := .next (fwChecks (advance dt s))

/-! ### Activation (R530, R531) -/

/-- The loaded groups from `n` on that a target of field code has: DGg 0–7, AGg 8–11. -/
def State.bankGroups (s : State) (t n : Nat) : List Nat :=
  (List.range 12).filter fun g =>
    decide (n ≤ g) && (if t = 2 then decide (g < 8) && s.dgLoaded g else decide (8 ≤ g) && s.agLoaded (g - 8))

/-- SEC-5, orders 2 to 6; OK where all conditions hold. -/
def State.actStatus (s : State) (t : Nat) : Nat :=
  let staging : Bool := match s.sec.stage with
    | some x => decide (x.target = t)
    | none => false
  if staging ∨ (s.fwAct t).isSome ∨ s.prg.act.isSome then Code.FW_BUSY
  else if s.rdE F.SEC_FW_UNSEL 0 (128 * t) ≠ 2 then Code.FW_NOT_STAGED
  else if s.fwSecver t (1 - s.fwSel t) < s.secMin t then Code.FW_ROLLBACK
  else if s.mode = mINIT ∨ (t = 1 ∧ s.mode = mFAULT) then Code.FW_MODE
  else if t = 1 ∧ s.voting < 3 then Code.LANES_NOT_FULL
  else if !s.hold30 then Code.HOLD_LOW
  else if s.storeFault then Code.STORE_FAULT
  else Code.OK

/-- FW_ACTIVATE. Another ABI takes effect at the next reset only. -/
def fwActivate (c : Cmd) (_ : Session) (s : State) : State × Ans :=
  let t := leAt c.payload 0 1
  if !(payOk c 4 1 3) ∨ 3 < t then refuse s Code.BAD_PAYLOAD
  else gate {} s (
    if s.actStatus t ≠ Code.OK then (s, .late (s.actStatus t))
    else
      (s, .long (.fwActivate t) fun h s =>
        let s := startHdl s (h % 2048)
        let a : FwAct := ⟨h, t, s.time.xt, s.time.now, 0, 0, 0, 0⟩
        let s := { s with sec := { s.sec with acts := s.sec.acts ++ [a] } }
        if s.fwAbi t (1 - s.fwSel t) ≠ s.rdE F.SEC_FW_ABI 0 (128 * t) then finishFw s a Code.FW_AT_RESET 0
        else if (t = 2 ∨ t = 3) ∧ (s.bankGroups t 0).isEmpty then finishFw s a Code.OK 0
        else s))

def execFwActivate (dt : Elapsed) (s : State) : Out := .next (mbxRun 0x93 4 fwActivate (advance dt s))

/-! ### Supervisor handover (R532) -/

/-- A long operation other than the activation itself is between two safe points: it runs and cannot be cancelled. -/
def State.opBetween (s : State) (own : Nat) : Bool :=
  s.mbx.hdls.any fun h => decide (h.state = 2) && decide (h.num ≠ own) && !cancellable s h

/-- The handover point: the spare takes over; the former core loads the new image, `spareOk`, and is the spare. -/
def svHandover (spareOk : Bool) (s : State) : State :=
  match s.fwAct 0 with
  | none => noEffect s
  | some a =>
    if !s.clk.supv ∨ !s.is F.SEC_STATUS_SPARE_READY ∨ s.opBetween a.handle ∨ a.from_ + 50000000 < s.time.now then noEffect s
    else
      let n := 1 - s.rd F.SEC_STATUS_ACTIVE_SV
      let s := log Ev.SV_HANDOVER [n, 1] (s.wr F.SEC_STATUS_ACTIVE_SV n)
      let s := (s.wr F.SEC_STATUS_SPARE_READY (b2n spareOk)).wr F.SEC_STATUS_SPARE_FAIL (b2n (!spareOk))
      finishFw s a Code.OK 0

def execSvHandover (dt : Elapsed) (spareOk : Bool) (s : State) : Out := .next (svHandover spareOk (advance dt s))

/-- 50 ms without the handover point. -/
def handoverAbandoned (s : State) : State :=
  match s.fwAct 0 with
  | none => noEffect s
  | some a => if s.time.now < a.from_ + 50000000 then noEffect s else finishFw s a Code.FW_BUSY 0

def execHandoverAbandoned (dt : Elapsed) (s : State) : Out := .next (handoverAbandoned (advance dt s))

/-! ### Supervisor failure (R533, CLK-6) -/

/-- A RUNNING operation without safe points ends with SV_FAILOVER; a MODE_SET whose boundary has come completes. -/
def failOp (s : State) (h : Hdl) : State :=
  let out (s : State) : State := fin s h.slot Code.SV_FAILOVER 0
  if h.state ≠ 2 then s
  else match h.op with
    | .objStore => out { s with sto := { s.sto with ops := s.sto.ops.filter fun x => decide (x.handle ≠ h.num) } }
    | .recRead _ _ _ => out s
    | .recClear _ _ => out s
    | .capRead _ _ _ _ => out s
    | .fwActivate t => match s.fwAct t with
      | some a => finishFw s a Code.SV_FAILOVER 0
      | none => s
    | .modeSet _ _ => match s.scn.pend with
      | some p => if p.handle = h.num ∧ !p.cut then clearPend (finMode s p Code.SV_FAILOVER) else s
      | none => s
    | _ => s

/-- The next OBJ_STORE that waits runs. -/
def nextStore (s : State) : State := match s.sto.ops with
  | x :: _ => startHdl s (x.handle % 2048)
  | [] => s

/-- The active core is silent for 2 ms: the spare takes over; with both silent, or no spare, a WATCHDOG reset follows. -/
def svWatchdog (bothSilent storeUp : Bool) (s : State) : State :=
  if !s.clk.supv ∨ s.clk.inReset then noEffect s
  else if bothSilent ∨ !s.is F.SEC_STATUS_SPARE_READY then otherReset 5 storeUp s
  else
    let old := s.rd F.SEC_STATUS_ACTIVE_SV
    let s := (s.wr F.SEC_STATUS_ACTIVE_SV (1 - old)).wr F.SEC_STATUS_SPARE_READY 0
    let s := log Ev.SV_HANDOVER [1 - old, 2] { s with clk := { s.clk with svSilent := old + 1 } }
    nextStore (s.mbx.hdls.foldl failOp (hostSync 38 (hostSync 6 s)))

def execSvWatchdog (dt : Elapsed) (bothSilent storeUp : Bool) (s : State) : Out :=
  .next (svWatchdog bothSilent storeUp (advance dt s))

/-! ### Field-die bank swap (R534, R535) -/

/-- The window of 70 µs from boundary `b` on holds an angle command or CONV trigger of group `g`. -/
def State.windowBusy (s : State) (g b : Nat) : Bool :=
  let inside (t : Nat) : Bool := decide (b ≤ t) && decide (t ≤ b + 70000)
  (s.ang.cmds.any fun c => inside c.at_ &&
    (if g < 8 then decide (s.evGroup c.entry = some g)
     else decide (s.rd F.ANG_EV_ACTION c.entry = 4) && decide (s.rd F.ANG_EV_TARGET c.entry % 16 = g - 8))) ||
    (decide (g < 8) && s.ang.pulses.any fun p => inside p.at_ && decide (p.chan / 16 = g))

/-- A commit that takes effect now touches group `g`. -/
def State.commitTouches (s : State) (g : Nat) : Bool :=
  s.mbx.hdls.any fun h => (s.commitDue h).isSome && match s.session? h.session with
    | some x => (stagedGroups x.staging).testBit g
    | none => false

/-- The boundary at which a bank swap may take place now. -/
def State.swapBoundary (s : State) : Option Nat :=
  match s.boundaryNow with
  | some (b, _) => some b
  | none => if s.ring.localOn ∧ s.time.now ≤ s.ring.lastLocal + 65000 then some s.ring.lastLocal else none

/-- Group `g` (DG 0–7, AG 8–11) switches its code bank at its boundary; `ok` says that the new bank passed its read-back. Terminals,
counters and protection go on. -/
def fieldBankSwap (g : Nat) (ok : Bool) (s : State) : State :=
  let t := if g < 8 then 2 else 3
  match s.fwAct t, s.swapBoundary with
  | some a, some b =>
    if (s.bankGroups t a.part).head? ≠ some g ∨ b < a.from_ ∨ s.windowBusy g b ∨ s.commitTouches g then noEffect s
    else
      let s := if 8 ≤ g ∧ ok then abandonCal s (g - 8) else s
      let a := { a with part := g + 1, failed := if ok then a.failed else a.failed ||| 2 ^ (if g < 8 then g else g - 8) }
      let s := putFwAct s a
      if !(s.bankGroups t a.part).isEmpty then s
      else if a.failed = 0 then finishFw s a Code.OK 0
      else finishFw s a Code.FW_FIELD_FAIL a.failed
  | _, _ => noEffect s

def execFieldBankSwap (dt : Elapsed) (g : Nat) (ok : Bool) (s : State) : Out := .next (fieldBankSwap g ok (advance dt s))

/-! ### Lane microcode (R536) -/

/-- Lane `k` leaves the vote at a cinch latch to load new microcode; the others follow one at a time. -/
def laneUcodeSwap (k : Nat) (s : State) : State :=
  match s.fwAct 1 with
  | none => noEffect s
  | some a =>
    if a.part ≠ k ∨ a.phase ≠ 0 ∨ 3 ≤ k ∨ s.voting < 3 ∨ s.ring.lastLatch < a.from_ + 100000 ∨
        s.ring.lastLatch ≠ s.ring.lastLocal then noEffect s
    else
      let s := (setLane (s.wr (laneCauseFld k) 5) k lRETIRED).inc F.PLT_COUNT_RETIREMENTS
      let s := pltCase 1 Ev.RETIRE (2 ^ k) 5 0 0 s
      let s := setLane (updPlt s fun p => { p with late := p.late.set k 0 }) k lTESTING
      putFwAct s { a with phase := 1, tests := 0, from_ := s.time.now }

def execLaneUcodeSwap (dt : Elapsed) (k : Nat) (s : State) : Out := .next (laneUcodeSwap k (advance dt s))

/-! ### Role keys (R537) -/

/-- Bytes of two strings combined with XOR. -/
def xorBytes (a b : List Nat) : List Nat := List.zipWith (fun x y => (x ^^^ y) % 256) a b

/-- KEY_SET. -/
def keySet (c : Cmd) (x : Session) (s : State) : State × Ans :=
  let role := leAt c.payload 0 1
  let w := slice c.payload 4 48
  let key := xorBytes (slice w 0 32) (Crypto.hmac x.ks (skv 0x57 ++ leBytes 2 x.no ++ [role] ++ leBytes 4 c.clseq))
  let zero := key.all fun b => decide (b = 0)
  if !(payOk c 52 1 3) ∨ role = 0 ∨ 4 < role then refuse s Code.BAD_PAYLOAD
  else gateStore {} s (
    if slice (Crypto.hmac x.ks (skv 0x54 ++ [role] ++ key)) 0 16 ≠ slice w 32 16 then refuse s Code.KEY_WRAP
    else if zero ∧ role = 4 then refuse s Code.KEY_LOCKED
    else
      let s := keyRegs (writeRec s kKEY role 0 key)
      let s := closeAll s ((s.mbx.sessions.filter fun y => decide (y.role = role) && decide (y.no ≠ x.no)).map (·.no))
      let s := { s with mbx := { s.mbx with fails := s.mbx.fails.filter fun e => decide (e.1 ≠ role) } }
      done (log Ev.KEY_CHANGED ([role, b2n (!zero)] ++ leBytes 2 x.no) s))

def execKeySet (dt : Elapsed) (s : State) : Out := .next (mbxRun 0x94 4 keySet (advance dt s))

/-! ### The random source (R539, R540) -/

/-- A failure of kind 1 repetition or 2 proportion; the third within 86,400 s locks the source. -/
def rngFailure (s : State) (kind : Nat) : State :=
  let s := s.inc (if kind = 1 then F.SEC_RNG_RCT_FAIL else F.SEC_RNG_APT_FAIL)
  let l := s.time.xt :: s.sec.rngFails.filter fun t => decide (s.time.xt < t + 86400 * 32768)
  let st := if 3 ≤ l.length then 3 else 2
  let s := { s with sec := { s.sec with rngFails := l, rngAt := s.time.xt } }
  let s := (s.wr F.SEC_RNG_FAILS (min 255 l.length)).wr F.SEC_RNG_STATE st
  hostSync 308 (log Ev.RNG_FAIL [kind, st] s)

/-- The source delivers; what waits for it is served. -/
def rngGood (s : State) : State := serveOpen (hostSync 308 (s.wr F.SEC_RNG_STATE 1))

/-- A health test fails in operation. -/
def rngFail (kind : Nat) (s : State) : State :=
  if s.rd F.SEC_RNG_STATE ≠ 1 ∨ kind = 0 ∨ 2 < kind then noEffect s else rngFailure s kind

def execRngFail (dt : Elapsed) (kind : Nat) (s : State) : Out := .next (rngFail kind (advance dt s))

/-- 100 ms after a failure the start-up tests are repeated: 0 passed, else the kind that failed. -/
def rngRetest (kind : Nat) (s : State) : State :=
  if s.rd F.SEC_RNG_STATE ≠ 2 ∨ s.time.xt < s.sec.rngAt + 3277 ∨ 2 < kind then noEffect s
  else if kind = 0 then rngGood (log Ev.RNG_OK [] s)
  else rngFailure s kind

def execRngRetest (dt : Elapsed) (kind : Nat) (s : State) : Out := .next (rngRetest kind (advance dt s))

/-- The start-up tests of a power-up are over. -/
def rngStartup (kind : Nat) (s : State) : State :=
  if s.rd F.SEC_RNG_STATE ≠ 0 ∨ s.clk.inReset ∨ 2 < kind then noEffect s
  else if kind = 0 then rngGood s
  else rngFailure s kind

def execRngStartupTestsDone (dt : Elapsed) (kind : Nat) (s : State) : Out := .next (rngStartup kind (advance dt s))

/-! ### The service port (R518–R520) -/

/-- The port as a bus reset or a detachment leaves it. -/
def usbIdle (s : State) : State :=
  { s with sec := { s.sec with suspended := false, usbAddr := 0, usbConf := 0, usbStall := false, usbHalt := 0 } }

/-- USB_VBUS appears. -/
def usbAttach (s : State) : State :=
  if s.sec.vbus then noEffect s else pullUp (usbIdle { s with sec := { s.sec with vbus := true } })

def execUsbVbusAttach (dt : Elapsed) (s : State) : Out := .next (usbAttach (advance dt s))

/-- USB_VBUS is lost: the port detaches, and its sessions close (R125). -/
def usbLoss (s : State) : State :=
  if !s.sec.vbus then noEffect s
  else
    let s := usbIdle { s with sec := { s.sec with vbus := false } } |>.wr F.SEC_STATUS_USB_ATTACHED 0
    closeAll s ((s.mbx.sessions.filter (·.usb)).map (·.no))

def execUsbVbusLoss (dt : Elapsed) (s : State) : Out := .next (usbLoss (advance dt s))

/-- The bus suspends or resumes; sessions stay. -/
def usbSuspend (b : Bool) (s : State) : State :=
  if s.is F.SEC_STATUS_USB_ATTACHED then { s with sec := { s.sec with suspended := b } } else noEffect s

def execUsbSuspend (dt : Elapsed) (b : Bool) (s : State) : Out := .next (usbSuspend b (advance dt s))

/-- A bulk-OUT transfer: a header and 0–16 slots. While the ring lacks room it is answered NAK and nothing is taken. -/
def usbBulkOut (b : List Nat) (s : State) : State :=
  let n := leAt b 4 2
  if !s.is F.SEC_STATUS_USB_ATTACHED ∨ s.sec.suspended ∨ s.sec.usbHalt.testBit 0 ∨ 16 < n ∨ b.length ≠ 8 + 64 * n ∨
      512 < s.slotsUsed + n then noEffect s
  else takeSlots (applyAck s (leAt b 0 4) true) n true (b.drop 8)

def execUsbBulkOut (dt : Elapsed) (b : List Nat) (s : State) : Out := .next (usbBulkOut b (advance dt s))

/-- A request of USB 2.0 chapter 9 that EP0 answers: GET_STATUS, GET_DESCRIPTOR (device, configuration, string),
GET_CONFIGURATION, SET_ADDRESS, SET_CONFIGURATION, GET_INTERFACE, SET_INTERFACE, and ENDPOINT_HALT of the bulk endpoints. -/
def usbStandard (conf rt rq v i len : Nat) : Bool :=
  let halt := decide (v = 0) && (decide (i = 0x01) || decide (i = 0x81)) && decide (conf = 1)
  match rt, rq with
  | 0x80, 0 => decide (v = 0) && decide (i = 0) && decide (len = 2)
  | 0x81, 0 => decide (v = 0) && decide (i = 0) && decide (conf = 1)
  | 0x82, 0 => decide (v = 0) && (decide (i % 128 = 0) || ((decide (i = 0x01) || decide (i = 0x81)) && decide (conf = 1)))
  | 0x02, 1 => halt
  | 0x02, 3 => halt
  | 0x00, 5 => decide (v < 128) && decide (i = 0) && decide (len = 0)
  | 0x80, 6 => decide (1 ≤ v / 256) && decide (v / 256 ≤ 3)
  | 0x80, 8 => decide (len = 1)
  | 0x00, 9 => decide (v ≤ 1) && decide (len = 0)
  | 0x81, 10 => decide (i = 0) && decide (conf = 1)
  | 0x01, 11 => decide (v = 0) && decide (i = 0) && decide (conf = 1)
  | _, _ => false

/-- A control request on EP0: bmRequestType, bRequest, wValue, wIndex, wLength. Every other request is stalled. -/
def usbControl (rt rq v i len : Nat) (s : State) : State :=
  if !s.is F.SEC_STATUS_USB_ATTACHED ∨ s.sec.suspended then noEffect s
  else
    let x := s.sec
    if !usbStandard x.usbConf rt rq v i len then { s with sec := { x with usbStall := true } }
    else
      let x := { x with usbStall := false }
      let bit := if i = 0x01 then 0 else 1
      let y := match rt, rq with
        | 0x00, 5 => { x with usbAddr := v }
        | 0x00, 9 => { x with usbConf := v, usbHalt := 0 }
        | 0x01, 11 => { x with usbHalt := 0 }
        | 0x02, 1 => { x with usbHalt := setBits x.usbHalt bit bit 0 }
        | 0x02, 3 => { x with usbHalt := setBits x.usbHalt bit bit 1 }
        | _, _ => x
      { s with sec := y }

def execUsbControlRequest (dt : Elapsed) (rt rq v i len : Nat) (s : State) : Out :=
  .next (usbControl rt rq v i len (advance dt s))

/-! ### The security unit's power (PWR-2) -/

/-- The security unit has been idle for 10 ms. -/
def unitIdle (s : State) : State :=
  match s.sec.unitAt with
  | none => noEffect s
  | some t => if s.time.xt < t + 328 then noEffect s else { s with sec := { s.sec with unitAt := none } }

def execSecurityUnitIdle (dt : Elapsed) (s : State) : Out := .next (unitIdle (advance dt s))

end Sys2Proof.Machine
end

