-- ==== Sys2Proof/Machine/Dispatch.lean ====
section
/-!
DEFINITION. The dispatcher: one arm per command, each one direct call of its meaning.
-/

namespace Sys2Proof.Machine

def exec (i : Instr) (s : State) : Host.Outcome State Fault Refusal :=
  match i with
  | .zLD b => Sys2Proof.Machine.execZLD b s
  | .zAND b => Sys2Proof.Machine.execZAND b s
  | .zOR b => Sys2Proof.Machine.execZOR b s
  | .zXOR b => Sys2Proof.Machine.execZXOR b s
  | .zST b => Sys2Proof.Machine.execZST b s
  | .zSET b => Sys2Proof.Machine.execZSET b s
  | .zRST b => Sys2Proof.Machine.execZRST b s
  | .zNOT => Sys2Proof.Machine.execZNOT s
  | .zSETBA => Sys2Proof.Machine.execZSETBA s
  | .zCLRBA => Sys2Proof.Machine.execZCLRBA s
  | .zLDF f => Sys2Proof.Machine.execZLDF f s
  | .zBTST vs k neg => Sys2Proof.Machine.execZBTST vs k neg s
  | .zBST vd k => Sys2Proof.Machine.execZBST vd k s
  | .zBOPEN o neg => Sys2Proof.Machine.execZBOPEN o neg s
  | .zBCLOSE => Sys2Proof.Machine.execZBCLOSE s
  | .zEDGR id => Sys2Proof.Machine.execZEDGR id s
  | .zEDGF id => Sys2Proof.Machine.execZEDGF id s
  | .zTON id vp unit => Sys2Proof.Machine.execZTON id vp unit s
  | .zTOF id vp unit => Sys2Proof.Machine.execZTOF id vp unit s
  | .zTP id vp unit => Sys2Proof.Machine.execZTP id vp unit s
  | .zTRST id => Sys2Proof.Machine.execZTRST id s
  | .zTRD v id => Sys2Proof.Machine.execZTRD v id s
  | .zCTU v id => Sys2Proof.Machine.execZCTU v id s
  | .zCTD id => Sys2Proof.Machine.execZCTD id s
  | .zCRST id => Sys2Proof.Machine.execZCRST id s
  | .zCLDV v id => Sys2Proof.Machine.execZCLDV v id s
  | .zCRD v id => Sys2Proof.Machine.execZCRD v id s
  | .zLDA o => Sys2Proof.Machine.execZLDA o s
  | .zADD o => Sys2Proof.Machine.execZADD o s
  | .zSUB o => Sys2Proof.Machine.execZSUB o s
  | .zSTW o => Sys2Proof.Machine.execZSTW o s
  | .zCMPA o => Sys2Proof.Machine.execZCMPA o s
  | .zLDAV vs => Sys2Proof.Machine.execZLDAV vs s
  | .zADDA vs => Sys2Proof.Machine.execZADDA vs s
  | .zSUBA vs => Sys2Proof.Machine.execZSUBA vs s
  | .zMAC vs vt sh => Sys2Proof.Machine.execZMAC vs vt sh s
  | .zNEGA => Sys2Proof.Machine.execZNEGA s
  | .zSTAV vd => Sys2Proof.Machine.execZSTAV vd s
  | .zASRA n => Sys2Proof.Machine.execZASRA n s
  | .zSHLA n => Sys2Proof.Machine.execZSHLA n s
  | .zCLRA => Sys2Proof.Machine.execZCLRA s
  | .zRDAH vd => Sys2Proof.Machine.execZRDAH vd s
  | .zLDV o => Sys2Proof.Machine.execZLDV o s
  | .zSTV o => Sys2Proof.Machine.execZSTV o s
  | .zLDI vd imm => Sys2Proof.Machine.execZLDI vd imm s
  | .zLDIH vd imm => Sys2Proof.Machine.execZLDIH vd imm s
  | .zMOV vd vs => Sys2Proof.Machine.execZMOV vd vs s
  | .zIADD vd vs vt => Sys2Proof.Machine.execZIADD vd vs vt s
  | .zISUB vd vs vt => Sys2Proof.Machine.execZISUB vd vs vt s
  | .zIMUL vd vs vt => Sys2Proof.Machine.execZIMUL vd vs vt s
  | .zIDIV vd vs vt => Sys2Proof.Machine.execZIDIV vd vs vt s
  | .zIMOD vd vs vt => Sys2Proof.Machine.execZIMOD vd vs vt s
  | .zIADDI vd vs imm => Sys2Proof.Machine.execZIADDI vd vs imm s
  | .zWAND vd vs vt => Sys2Proof.Machine.execZWAND vd vs vt s
  | .zWOR vd vs vt => Sys2Proof.Machine.execZWOR vd vs vt s
  | .zWXOR vd vs vt => Sys2Proof.Machine.execZWXOR vd vs vt s
  | .zWNOT vd vs => Sys2Proof.Machine.execZWNOT vd vs s
  | .zSHL vd vs n => Sys2Proof.Machine.execZSHL vd vs n s
  | .zSHR vd vs n => Sys2Proof.Machine.execZSHR vd vs n s
  | .zASR vd vs n => Sys2Proof.Machine.execZASR vd vs n s
  | .zROL vd vs n => Sys2Proof.Machine.execZROL vd vs n s
  | .zCMP vs vt => Sys2Proof.Machine.execZCMP vs vt s
  | .zCMPI vs imm => Sys2Proof.Machine.execZCMPI vs imm s
  | .zLDIX ix imm => Sys2Proof.Machine.execZLDIX ix imm s
  | .zMOVIX ix vs => Sys2Proof.Machine.execZMOVIX ix vs s
  | .zADDIX ix imm => Sys2Proof.Machine.execZADDIX ix imm s
  | .zRDIX vd ix => Sys2Proof.Machine.execZRDIX vd ix s
  | .zFADD vd vs vt => Sys2Proof.Machine.execZFADD vd vs vt s
  | .zFSUB vd vs vt => Sys2Proof.Machine.execZFSUB vd vs vt s
  | .zFMUL vd vs vt => Sys2Proof.Machine.execZFMUL vd vs vt s
  | .zFDIV vd vs vt => Sys2Proof.Machine.execZFDIV vd vs vt s
  | .zFSQRT vd vs => Sys2Proof.Machine.execZFSQRT vd vs s
  | .zFABS vd vs => Sys2Proof.Machine.execZFABS vd vs s
  | .zFNEG vd vs => Sys2Proof.Machine.execZFNEG vd vs s
  | .zFMIN vd vs vt => Sys2Proof.Machine.execZFMIN vd vs vt s
  | .zFMAX vd vs vt => Sys2Proof.Machine.execZFMAX vd vs vt s
  | .zFCMP vs vt => Sys2Proof.Machine.execZFCMP vs vt s
  | .zITOF vd vs => Sys2Proof.Machine.execZITOF vd vs s
  | .zFTOI vd vs => Sys2Proof.Machine.execZFTOI vd vs s
  | .zNOP => Sys2Proof.Machine.execZNOP s
  | .zJMP t => Sys2Proof.Machine.execZJMP t s
  | .zJC sel sense t => Sys2Proof.Machine.execZJC sel sense t s
  | .zCALL t => Sys2Proof.Machine.execZCALL t s
  | .zRET => Sys2Proof.Machine.execZRET s
  | .zLOOP ix t => Sys2Proof.Machine.execZLOOP ix t s
  | .zEND => Sys2Proof.Machine.execZEND s
  | .zHALT code => Sys2Proof.Machine.execZHALT code s
  | .zCLRF mask => Sys2Proof.Machine.execZCLRF mask s
  | .zRDF vd => Sys2Proof.Machine.execZRDF vd s
  | .zBMOV sa da n => Sys2Proof.Machine.execZBMOV sa da n s
  | .zBFILL da n => Sys2Proof.Machine.execZBFILL da n s
  | .zEVARM vs vt => Sys2Proof.Machine.execZEVARM vs vt s
  | .zEVDIS vs => Sys2Proof.Machine.execZEVDIS vs s
  | .zCAPRD vd ad ix => Sys2Proof.Machine.execZCAPRD vd ad ix s
  | .zCAPPTR vd ad => Sys2Proof.Machine.execZCAPPTR vd ad s
  | .zSNHOLD k => Sys2Proof.Machine.execZSNHOLD k s
  | .zSNREL k => Sys2Proof.Machine.execZSNREL k s
  | .zRDTIM vd => Sys2Proof.Machine.execZRDTIM vd s
  | .portClockDetect dt p => Sys2Proof.Machine.execPortClockDetect dt p s
  | .portTrained dt p => Sys2Proof.Machine.execPortTrained dt p s
  | .portFault dt p errors => Sys2Proof.Machine.execPortFault dt p errors s
  | .portQualify dt p => Sys2Proof.Machine.execPortQualify dt p s
  | .portReady dt p => Sys2Proof.Machine.execPortReady dt p s
  | .unwrap dt apply => Sys2Proof.Machine.execUnwrap dt apply s
  | .unwrapApply dt => Sys2Proof.Machine.execUnwrapApply dt s
  | .imageFrame dt f => Sys2Proof.Machine.execImageFrame dt f s
  | .carrier dt f => Sys2Proof.Machine.execCarrier dt f s
  | .mbxw dt f => Sys2Proof.Machine.execMbxw dt f s
  | .mgmtW dt f => Sys2Proof.Machine.execMgmtW dt f s
  | .linkRegApply dt => Sys2Proof.Machine.execLinkRegApply dt s
  | .nrlTime dt apply value => Sys2Proof.Machine.execNrlTime dt apply value s
  | .mgmtR dt f => Sys2Proof.Machine.execMgmtR dt f s
  | .enumAssign dt f => Sys2Proof.Machine.execEnumAssign dt f s
  | .enumVerify dt f => Sys2Proof.Machine.execEnumVerify dt f s
  | .peerFrame dt f => Sys2Proof.Machine.execPeerFrame dt f s
  | .cinchMarker dt p lanes r0 r1 flags check => Sys2Proof.Machine.execCinchMarker dt p lanes r0 r1 flags check s
  | .cinchLatch dt bad => Sys2Proof.Machine.execCinchLatch dt bad s
  | .substituteLatch dt bad => Sys2Proof.Machine.execSubstituteLatch dt bad s
  | .cinchLost dt => Sys2Proof.Machine.execCinchLost dt s
  | .localLatch dt bad => Sys2Proof.Machine.execLocalLatch dt bad s
  | .probe dt p b0 b1 b2 check => Sys2Proof.Machine.execProbe dt p b0 b1 b2 check s
  | .pairbeatReceive dt p b0 b1 b2 check => Sys2Proof.Machine.execPairbeatReceive dt p b0 b1 b2 check s
  | .pairbeatSend dt => Sys2Proof.Machine.execPairbeatSend dt s
  | .judgeWindow dt lclk link lane sys => Sys2Proof.Machine.execJudgeWindow dt lclk link lane sys s
  | .refSwitch dt => Sys2Proof.Machine.execRefSwitch dt s
  | .lclkLoss dt => Sys2Proof.Machine.execLclkLoss dt s
  | .pllLockLoss dt pll => Sys2Proof.Machine.execPllLockLoss dt pll s
  | .pllGatesOpen dt pll => Sys2Proof.Machine.execPllGatesOpen dt pll s
  | .bridgeFrame dt => Sys2Proof.Machine.execBridgeFrame dt s
  | .park dt => Sys2Proof.Machine.execPark dt s
  | .laneStepChange dt => Sys2Proof.Machine.execLaneStepChange dt s
  | .oscStop dt => Sys2Proof.Machine.execOscStop dt s
  | .xtalResume dt => Sys2Proof.Machine.execXtalResume dt s
  | .xtalLimited dt => Sys2Proof.Machine.execXtalLimited dt s
  | .por dt rising => Sys2Proof.Machine.execPor dt rising s
  | .pinReset dt lowNs => Sys2Proof.Machine.execPinReset dt lowNs s
  | .moduleResetStart dt => Sys2Proof.Machine.execModuleResetStart dt s
  | .svWatchdog dt bothSilent storeUp => Sys2Proof.Machine.execSvWatchdog dt bothSilent storeUp s
  | .startupWatchdog dt storeUp => Sys2Proof.Machine.execStartupWatchdog dt storeUp s
  | .porRelease dt lineEnd compat xtal => Sys2Proof.Machine.execPorRelease dt lineEnd compat xtal s
  | .storeRecallDone dt header bad uncorr => Sys2Proof.Machine.execStoreRecallDone dt header bad uncorr s
  | .targetLoad dt t fails => Sys2Proof.Machine.execTargetLoad dt t fails s
  | .banksLoaded dt => Sys2Proof.Machine.execBanksLoaded dt s
  | .marginPlanDone dt => Sys2Proof.Machine.execMarginPlanDone dt s
  | .stopReady dt levels => Sys2Proof.Machine.execStopReady dt levels s
  | .groupLoad dt g levels => Sys2Proof.Machine.execGroupLoad dt g levels s
  | .autorun dt => Sys2Proof.Machine.execAutorun dt s
  | .holdThreshold dt v => Sys2Proof.Machine.execHoldThreshold dt v s
  | .sesOpen dt => Sys2Proof.Machine.execSesOpen dt s
  | .sesAuth dt => Sys2Proof.Machine.execSesAuth dt s
  | .sesClose dt => Sys2Proof.Machine.execSesClose dt s
  | .sesLimit dt => Sys2Proof.Machine.execSesLimit dt s
  | .sesIdle dt => Sys2Proof.Machine.execSesIdle dt s
  | .sesList dt => Sys2Proof.Machine.execSesList dt s
  | .hdlQuery dt => Sys2Proof.Machine.execHdlQuery dt s
  | .hdlCancel dt => Sys2Proof.Machine.execHdlCancel dt s
  | .objGet dt => Sys2Proof.Machine.execObjGet dt s
  | .objSet dt => Sys2Proof.Machine.execObjSet dt s
  | .objCommit dt => Sys2Proof.Machine.execObjCommit dt s
  | .commitApply dt levels => Sys2Proof.Machine.execCommitApply dt levels s
  | .objDiscard dt => Sys2Proof.Machine.execObjDiscard dt s
  | .objStore dt => Sys2Proof.Machine.execObjStore dt s
  | .objStoreDone dt => Sys2Proof.Machine.execObjStoreDone dt s
  | .objList dt => Sys2Proof.Machine.execObjList dt s
  | .imgWrite dt => Sys2Proof.Machine.execImgWrite dt s
  | .snapPin dt => Sys2Proof.Machine.execSnapPin dt s
  | .snapRead dt => Sys2Proof.Machine.execSnapRead dt s
  | .snapReadConfirm dt k bad => Sys2Proof.Machine.execSnapReadConfirm dt k bad s
  | .snapUnpin dt => Sys2Proof.Machine.execSnapUnpin dt s
  | .capRead dt => Sys2Proof.Machine.execCapRead dt s
  | .capReadConfirm dt k => Sys2Proof.Machine.execCapReadConfirm dt k s
  | .modeSet dt => Sys2Proof.Machine.execModeSet dt s
  | .modReset dt => Sys2Proof.Machine.execModReset dt s
  | .prgLoadBegin dt => Sys2Proof.Machine.execPrgLoadBegin dt s
  | .prgLoadData dt => Sys2Proof.Machine.execPrgLoadData dt s
  | .prgLoadEnd dt => Sys2Proof.Machine.execPrgLoadEnd dt s
  | .prgLoadChecks dt => Sys2Proof.Machine.execPrgLoadChecks dt s
  | .laneBankCopy dt bad => Sys2Proof.Machine.execLaneBankCopy dt bad s
  | .prgActivate dt => Sys2Proof.Machine.execPrgActivate dt s
  | .prgAbort dt => Sys2Proof.Machine.execPrgAbort dt s
  | .swapQuietPoint dt => Sys2Proof.Machine.execSwapQuietPoint dt s
  | .programSwap dt => Sys2Proof.Machine.execProgramSwap dt s
  | .swapDeadline dt => Sys2Proof.Machine.execSwapDeadline dt s
  | .activationRecordWrite dt => Sys2Proof.Machine.execActivationRecordWrite dt s
  | .standbyLagSwap dt => Sys2Proof.Machine.execStandbyLagSwap dt s
  | .pairLease dt => Sys2Proof.Machine.execPairLease dt s
  | .pairDrill dt => Sys2Proof.Machine.execPairDrill dt s
  | .recRead dt => Sys2Proof.Machine.execRecRead dt s
  | .recReadConfirm dt k uncorr crc => Sys2Proof.Machine.execRecReadConfirm dt k uncorr crc s
  | .recClear dt => Sys2Proof.Machine.execRecClear dt s
  | .fwStageBegin dt => Sys2Proof.Machine.execFwStageBegin dt s
  | .fwStageData dt => Sys2Proof.Machine.execFwStageData dt s
  | .fwStageEnd dt => Sys2Proof.Machine.execFwStageEnd dt s
  | .fwStageChecks dt => Sys2Proof.Machine.execFwStageChecks dt s
  | .fwActivate dt => Sys2Proof.Machine.execFwActivate dt s
  | .svHandover dt spareOk => Sys2Proof.Machine.execSvHandover dt spareOk s
  | .fieldBankSwap dt g ok => Sys2Proof.Machine.execFieldBankSwap dt g ok s
  | .laneUcodeSwap dt k => Sys2Proof.Machine.execLaneUcodeSwap dt k s
  | .keySet dt => Sys2Proof.Machine.execKeySet dt s
  | .mbxNop dt => Sys2Proof.Machine.execMbxNop dt s
  | .authTimeout dt => Sys2Proof.Machine.execAuthTimeout dt s
  | .sessionIdleTimeout dt => Sys2Proof.Machine.execSessionIdleTimeout dt s
  | .cqReplace dt => Sys2Proof.Machine.execCqReplace dt s
  | .modeRunEntry dt => Sys2Proof.Machine.execModeRunEntry dt s
  | .modeHoldEntry dt => Sys2Proof.Machine.execModeHoldEntry dt s
  | .modeStopEntry dt => Sys2Proof.Machine.execModeStopEntry dt s
  | .faultExit dt => Sys2Proof.Machine.execFaultExit dt s
  | .startupLimitExpiry dt => Sys2Proof.Machine.execStartupLimitExpiry dt s
  | .holdLimitExpiry dt => Sys2Proof.Machine.execHoldLimitExpiry dt s
  | .t0Release dt => Sys2Proof.Machine.execT0Release dt s
  | .periodicRelease dt task => Sys2Proof.Machine.execPeriodicRelease dt task s
  | .taskWatchdog dt => Sys2Proof.Machine.execTaskWatchdog dt s
  | .snapshotNoexec dt => Sys2Proof.Machine.execSnapshotNoexec dt s
  | .plaitCommit dt wc late unc off => Sys2Proof.Machine.execPlaitCommit dt wc late unc off s
  | .fieldVote dt g bad => Sys2Proof.Machine.execFieldVote dt g bad s
  | .safeValueCommand dt g => Sys2Proof.Machine.execSafeValueCommand dt g s
  | .pairHoldCommand dt g => Sys2Proof.Machine.execPairHoldCommand dt g s
  | .retentiveCopy dt => Sys2Proof.Machine.execRetentiveCopy dt s
  | .counterRingUpdate dt => Sys2Proof.Machine.execCounterRingUpdate dt s
  | .laneTest dt k pass => Sys2Proof.Machine.execLaneTest dt k pass s
  | .laneCopyPass dt k => Sys2Proof.Machine.execLaneCopyPass dt k s
  | .laneJoin dt k => Sys2Proof.Machine.execLaneJoin dt k s
  | .admitRetry dt k => Sys2Proof.Machine.execAdmitRetry dt k s
  | .helloSend dt => Sys2Proof.Machine.execHelloSend dt s
  | .hello dt body => Sys2Proof.Machine.execHello dt body s
  | .ident dt body => Sys2Proof.Machine.execIdent dt body s
  | .identTimeout dt => Sys2Proof.Machine.execIdentTimeout dt s
  | .swapAt dt body => Sys2Proof.Machine.execSwapAt dt body s
  | .swapAck dt body => Sys2Proof.Machine.execSwapAck dt body s
  | .swapDone dt body => Sys2Proof.Machine.execSwapDone dt body s
  | .swapped dt => Sys2Proof.Machine.execSwapped dt s
  | .noswap dt => Sys2Proof.Machine.execNoswap dt s
  | .claimEffect dt => Sys2Proof.Machine.execClaimEffect dt s
  | .partnerSilence dt => Sys2Proof.Machine.execPartnerSilence dt s
  | .tookOver dt => Sys2Proof.Machine.execTookOver dt s
  | .released dt => Sys2Proof.Machine.execReleased dt s
  | .analogueGateTimeout dt => Sys2Proof.Machine.execAnalogueGateTimeout dt s
  | .pairHoldExpiry dt => Sys2Proof.Machine.execPairHoldExpiry dt s
  | .leaseExpiry dt => Sys2Proof.Machine.execLeaseExpiry dt s
  | .returnHoldExpiry dt partnerLease => Sys2Proof.Machine.execReturnHoldExpiry dt partnerLease s
  | .drillDwellEnd dt => Sys2Proof.Machine.execDrillDwellEnd dt s
  | .mirrorCapture dt => Sys2Proof.Machine.execMirrorCapture dt s
  | .mirror dt body => Sys2Proof.Machine.execMirror dt body s
  | .mirrorApply dt => Sys2Proof.Machine.execMirrorApply dt s
  | .angleEdge dt sig level => Sys2Proof.Machine.execAngleEdge dt sig level s
  | .speedTimeout dt d => Sys2Proof.Machine.execSpeedTimeout dt d s
  | .inputFault dt n => Sys2Proof.Machine.execInputFault dt n s
  | .inputFaultClear dt n => Sys2Proof.Machine.execInputFaultClear dt n s
  | .frameStreamLoss dt g => Sys2Proof.Machine.execFrameStreamLoss dt g s
  | .eventCommandSend dt e => Sys2Proof.Machine.execEventCommandSend dt e s
  | .eventFire dt e => Sys2Proof.Machine.execEventFire dt e s
  | .angleAction dt e => Sys2Proof.Machine.execAngleAction dt e s
  | .arm dt e v => Sys2Proof.Machine.execArm dt e v s
  | .angle dt e a => Sys2Proof.Machine.execAngle dt e a s
  | .resync dt d => Sys2Proof.Machine.execResync dt d s
  | .synspd dt d v => Sys2Proof.Machine.execSynspd dt d v s
  | .inputChange dt c level => Sys2Proof.Machine.execInputChange dt c level s
  | .stormWindow dt => Sys2Proof.Machine.execStormWindow dt s
  | .stormed dt n => Sys2Proof.Machine.execStormed dt n s
  | .svTake dt c => Sys2Proof.Machine.execSvTake dt c s
  | .svComplete dt c => Sys2Proof.Machine.execSvComplete dt c s
  | .cnt dt c v => Sys2Proof.Machine.execCnt dt c v s
  | .filt dt c v => Sys2Proof.Machine.execFilt dt c v s
  | .overload dt c => Sys2Proof.Machine.execOverload dt c s
  | .overloadRetry dt c => Sys2Proof.Machine.execOverloadRetry dt c s
  | .groupOvercurrent dt g limited more => Sys2Proof.Machine.execGroupOvercurrent dt g limited more s
  | .overtemp dt c => Sys2Proof.Machine.execOvertemp dt c s
  | .overtempClear dt c => Sys2Proof.Machine.execOvertempClear dt c s
  | .clampEnd dt c => Sys2Proof.Machine.execClampEnd dt c s
  | .boostEnd dt c => Sys2Proof.Machine.execBoostEnd dt c s
  | .pwmPeriod dt c => Sys2Proof.Machine.execPwmPeriod dt c s
  | .sfOvl dt c => Sys2Proof.Machine.execSfOvl dt c s
  | .sfRetry dt c => Sys2Proof.Machine.execSfRetry dt c s
  | .sfGrp dt g n => Sys2Proof.Machine.execSfGrp dt g n s
  | .diagDetect dt c k present => Sys2Proof.Machine.execDiagDetect dt c k present s
  | .rbMismatch dt c => Sys2Proof.Machine.execRbMismatch dt c s
  | .senseTest dt g pass => Sys2Proof.Machine.execSenseTest dt g pass s
  | .lplusMonitor dt g lplus mOpen => Sys2Proof.Machine.execLplusMonitor dt g lplus mOpen s
  | .boostcapMeasure dt g cmeas above20 => Sys2Proof.Machine.execBoostcapMeasure dt g cmeas above20 s
  | .reinTimeout dt g => Sys2Proof.Machine.execReinTimeout dt g s
  | .heartbeatResume dt g => Sys2Proof.Machine.execHeartbeatResume dt g s
  | .conversionStep dt g p => Sys2Proof.Machine.execConversionStep dt g p s
  | .deferredTrigger dt g p => Sys2Proof.Machine.execDeferredTrigger dt g p s
  | .resultProcess dt g p x aqOk atLimit => Sys2Proof.Machine.execResultProcess dt g p x aqOk atLimit s
  | .mainsFreeEdge dt c => Sys2Proof.Machine.execMainsFreeEdge dt c s
  | .calStepStart dt g => Sys2Proof.Machine.execCalStepStart dt g s
  | .calDone dt g offs gain ok => Sys2Proof.Machine.execCalDone dt g offs gain ok s
  | .overlapDone dt g pass => Sys2Proof.Machine.execOverlapDone dt g pass s
  | .overlapTimeout dt g => Sys2Proof.Machine.execOverlapTimeout dt g s
  | .slicePowerUp dt g k => Sys2Proof.Machine.execSlicePowerUp dt g k s
  | .quadPowerUp dt g q => Sys2Proof.Machine.execQuadPowerUp dt g q s
  | .quadPowerDown dt g q => Sys2Proof.Machine.execQuadPowerDown dt g q s
  | .reconfigDone dt c => Sys2Proof.Machine.execReconfigDone dt c s
  | .quadTemp dt g q t => Sys2Proof.Machine.execQuadTemp dt g q t s
  | .avplusMonitor dt g avplus agOpen strap => Sys2Proof.Machine.execAvplusMonitor dt g avplus agOpen strap s
  | .analogueDiag dt c k present => Sys2Proof.Machine.execAnalogueDiag dt c k present s
  | .retest dt g k => Sys2Proof.Machine.execRetest dt g k s
  | .flen dt c v => Sys2Proof.Machine.execFlen dt c v s
  | .windowThreshold dt w high v => Sys2Proof.Machine.execWindowThreshold dt w high v s
  | .burnishPass dt => Sys2Proof.Machine.execBurnishPass dt s
  | .burnishPage dt fixed margin uncorr => Sys2Proof.Machine.execBurnishPage dt fixed margin uncorr s
  | .recorderFlush dt => Sys2Proof.Machine.execRecorderFlush dt s
  | .recorderAgeExpiry dt => Sys2Proof.Machine.execRecorderAgeExpiry dt s
  | .operatingTimeUpdate dt => Sys2Proof.Machine.execOperatingTimeUpdate dt s
  | .timeLink dt => Sys2Proof.Machine.execTimeLink dt s
  | .powerFail dt vsys hold => Sys2Proof.Machine.execPowerFail dt vsys hold s
  | .rideReturn dt vsys hold => Sys2Proof.Machine.execRideReturn dt vsys hold s
  | .shutdown dt hold => Sys2Proof.Machine.execShutdown dt hold s
  | .holdTest dt => Sys2Proof.Machine.execHoldTest dt s
  | .holdTestRun dt => Sys2Proof.Machine.execHoldTestRun dt s
  | .holdTestDone dt cap esr hold => Sys2Proof.Machine.execHoldTestDone dt cap esr hold s
  | .slackSample dt a b c => Sys2Proof.Machine.execSlackSample dt a b c s
  | .ageingSample dt tl td ta => Sys2Proof.Machine.execAgeingSample dt tl td ta s
  | .ageRingUpdate dt => Sys2Proof.Machine.execAgeRingUpdate dt s
  | .epochEnd dt => Sys2Proof.Machine.execEpochEnd dt s
  | .backupPowerOn dt logic => Sys2Proof.Machine.execBackupPowerOn dt logic s
  | .vbatMeasure dt v => Sys2Proof.Machine.execVbatMeasure dt v s
  | .secondBoundary dt => Sys2Proof.Machine.execSecondBoundary dt s
  | .wakePeriod dt => Sys2Proof.Machine.execWakePeriod dt s
  | .rtcTime dt secs sub session => Sys2Proof.Machine.execRtcTime dt secs sub session s
  | .rtcWake dt period pwrEn en => Sys2Proof.Machine.execRtcWake dt period pwrEn en s
  | .off dt => Sys2Proof.Machine.execOff dt s
  | .offDelayExpiry dt => Sys2Proof.Machine.execOffDelayExpiry dt s
  | .rngFail dt kind => Sys2Proof.Machine.execRngFail dt kind s
  | .rngRetest dt kind => Sys2Proof.Machine.execRngRetest dt kind s
  | .usbVbusAttach dt => Sys2Proof.Machine.execUsbVbusAttach dt s
  | .usbVbusLoss dt => Sys2Proof.Machine.execUsbVbusLoss dt s
  | .usbBulkOut dt b => Sys2Proof.Machine.execUsbBulkOut dt b s
  | .usbSuspend dt b => Sys2Proof.Machine.execUsbSuspend dt b s
  | .readmit dt mask => Sys2Proof.Machine.execReadmit dt mask s
  | .retire dt mask => Sys2Proof.Machine.execRetire dt mask s
  | .qualifyingCodeError dt p => Sys2Proof.Machine.execQualifyingCodeError dt p s
  | .initFilterElapsed dt c => Sys2Proof.Machine.execInitFilterElapsed dt c s
  | .outPulseEnd dt e => Sys2Proof.Machine.execOutPulseEnd dt e s
  | .triggeredDiagSlot dt g p => Sys2Proof.Machine.execTriggeredDiagSlot dt g p s
  | .rngStartupTestsDone dt kind => Sys2Proof.Machine.execRngStartupTestsDone dt kind s
  | .nonceWaitTimeout dt => Sys2Proof.Machine.execNonceWaitTimeout dt s
  | .authLockedExpiry dt => Sys2Proof.Machine.execAuthLockedExpiry dt s
  | .resetNRelease dt lineEnd compat xtal => Sys2Proof.Machine.execResetNRelease dt lineEnd compat xtal s
  | .recClearDone dt => Sys2Proof.Machine.execRecClearDone dt s
  | .backupSupplyChangeover dt logic => Sys2Proof.Machine.execBackupSupplyChangeover dt logic s
  | .backupPowerLoss dt => Sys2Proof.Machine.execBackupPowerLoss dt s
  | .usbControlRequest dt rt rq v ix len => Sys2Proof.Machine.execUsbControlRequest dt rt rq v ix len s
  | .handoverAbandoned dt => Sys2Proof.Machine.execHandoverAbandoned dt s
  | .securityUnitIdle dt => Sys2Proof.Machine.execSecurityUnitIdle dt s

end Sys2Proof.Machine
end

