-- ==== Sys2Proof/Machine/Step.lean ====
section
/-!
DEFINITION. One step of the block: it takes the command at the front of its queue.
-/

namespace Sys2Proof.Machine

/-- The state without its queue's front command. -/
def State.rest (s : State) : State := { s with pending := s.pending.tail }

/-- A step: the front command acts on the state with the rest of the queue; on an empty queue the block idles
(assumption log 4). -/
def step (s : State) : Host.Outcome State Fault Refusal :=
  match s.pending with
  | [] => .next s
  | c :: _ => exec c s.rest

/-- The command a table word spells, put at the front of the queue; no row of the table gives bits (R199), so no word
spells one (assumption log 5). -/
def State.withFetchWord (s : State) (nbits w : Nat) : State :=
  match decodeTableWord nbits w with
  | some c => { s with pending := c :: s.pending }
  | none => s

end Sys2Proof.Machine
end

