-- ==== Sys2Proof/Safety.lean ====
section
/-!
DEFINITION. What counts as a safe run, and the terms in which statements speak of steps: completion, frames by parts of
the state and by objects of the register file, and what the lanes of an execution do under one instruction.
-/

namespace Sys2Proof.Machine

/-- A safe step: the machine neither faults nor refuses. -/
def State.SafeStep (s : State) : Prop := ∃ t, step s = .next t

/-- The command completes, and `P` holds of the state it leaves. -/
def Does (c : Instr) (s : State) (P : State → Prop) : Prop := ∃ t, exec c s = .next t ∧ P t

/-- The parts of the state beside the register file. -/
inductive Part
  | time | ring | clk | sto | int | mbx | img | scn | prg | fld | ana | ang | plt | pair | rtc | pwr | sec | free | pending
deriving DecidableEq, Repr

/-- A part stands unchanged. -/
def State.samePart (s t : State) : Part → Prop
  | .time => t.time = s.time
  | .ring => t.ring = s.ring
  | .clk => t.clk = s.clk
  | .sto => t.sto = s.sto
  | .int => t.int = s.int
  | .mbx => t.mbx = s.mbx
  | .img => t.img = s.img
  | .scn => t.scn = s.scn
  | .prg => t.prg = s.prg
  | .fld => t.fld = s.fld
  | .ana => t.ana = s.ana
  | .ang => t.ang = s.ang
  | .plt => t.plt = s.plt
  | .pair => t.pair = s.pair
  | .rtc => t.rtc = s.rtc
  | .pwr => t.pwr = s.pwr
  | .sec => t.sec = s.sec
  | .free => t.free = s.free
  | .pending => t.pending = s.pending

/-- Every part outside `ps` stands unchanged. -/
def Keeps (ps : List Part) (s t : State) : Prop := ∀ p, p ∉ ps → s.samePart t p

/-- Every field of an object outside `os` reads as before. -/
def KeepsRegs (os : List Nat) (s t : State) : Prop :=
  ∀ (f : Fld) (i e : Nat), f.obj ∉ os → t.rdE f i e = s.rdE f i e

/-- Nothing outside the parts `ps` and the objects `os` changes. -/
def Leaves (ps : List Part) (os : List Nat) (s t : State) : Prop := Keeps ps s t ∧ KeepsRegs os s t

/-- Nothing outside the parts `ps`, the objects `os` and the fields `ws` changes. -/
def Moves (ps : List Part) (os : List Nat) (ws : List Fld) (s t : State) : Prop :=
  Leaves ps (os ++ ws.map (·.obj)) s t ∧
  ∀ (f : Fld) (i : Nat), f.obj ∈ ws.map (·.obj) → f.obj ∉ os →
    (∀ w ∈ ws, w.obj = f.obj → w.lo % 65536 ≠ f.lo % 65536) → t.rd f i = s.rd f i

/-- Among the fields `ws` only those of index `i` change. -/
def OnlyAt (ws : List Fld) (i : Nat) (s t : State) : Prop :=
  ∀ w ∈ ws, ∀ j, j % 65536 ≠ i % 65536 → t.rd w j = s.rd w j

/-- The parts and objects that recording an event and the interrupt controller touch: the store's buffer and rings, the
controller's memory, the sub-records that wait for a carrier. -/
def traceParts : List Part := [.sto, .int, .ring]
def traceObjs : List Nat := [F.objREC_STAT, F.objINT_STATE, F.objINT_STORMED, F.objINT_LATCH, F.objINT_STAT]

/-- The link registers a read clears. -/
def linkClears : List Nat :=
  [F.objNRL_CINCH_CNT, F.objNRL_CINCH_ERR, F.objNRL_PORTA_ERR, F.objNRL_PORTA_LINK, F.objNRL_PORTB_ERR, F.objNRL_PORTB_LINK]

/-- With room in the recorder's buffer, an event stands recorded with these ARG bytes (R458). -/
def Logged (e : Nat × Nat) (arg : List Nat) (s t : State) : Prop :=
  s.sto.sealed = false → s.bufCnt + 32 ≤ 256 → ∃ r ∈ t.sto.buf, r.code = e.1 ∧ r.sev = e.2 ∧ r.arg = slice arg 0 8

/-- A good frame of type `ty`, not wrapped, that the module hears and acts on. -/
abbrev Hears (s : State) (f : RxFrame) (ty : Nat) : Prop :=
  s.hears f.port = true ∧ s.actsOn f = true ∧ f.typ = ty ∧ f.cls = 0

/-- Ring command `r` is the next to be taken, of opcode `op`, and passes steps 1 to 6 of MBX-5: a correct MAC in the open
session `x`, a fresh sequence number ahead of it, and at least the least role. -/
abbrev Taken (op role : Nat) (s : State) (r : RingCmd) (x : Session) : Prop :=
  s.mbxReady = true ∧ s.mbx.ring.head? = some r ∧ (parse r).opcode = op ∧ s.clk.startFailed = false ∧
  (parse r).formOk = true ∧ checkSession s (parse r) = (Code.OK, some x) ∧ (parse r).clseq ≠ 0 ∧
  1 ≤ ((parse r).clseq + 2 ^ 32 - x.high) % 2 ^ 32 ∧ ((parse r).clseq + 2 ^ 32 - x.high) % 2 ^ 32 < 2 ^ 31 ∧
  role ≤ x.role ∧ s.is F.SEC_STATUS_RECOVERY = false

/-- A handle is free for the session (R129). -/
abbrev HasHandle (s : State) (x : Session) : Prop := s.held x.no < x.limit ∧ s.mbx.hdls.length < 2048

/-- A response of R109 enters the queue behind what stands there: its status record takes the next CQSEQ, its DATA records
follow it. -/
def Responds (c : Cmd) (rep : Bool) (status handle result : Nat) (data : List Nat) (s t : State) : Prop :=
  let ds := dataRecs c.session c.usb s.time.now 64 (s.mbx.nextSeq + 1) 0 data
  s.mbx.cq ++ ⟨s.mbx.nextSeq, 1, rep, ds.length, c.session, c.clseq, c.opcode, status, handle, s.cinchNow, result, 0, [],
    c.usb, false, s.time.now⟩ :: ds <+: t.mbx.cq

/-- Command `r` leaves the ring and its first response enters the queue. -/
def Answered (r : RingCmd) (status handle result : Nat) (data : List Nat) (s t : State) : Prop :=
  t.mbx.ring = s.mbx.ring.tail ∧ Responds (parse r) false status handle result data s t

/-- The operation of handle number `n`, if it is live, not DONE and its session open, ends with this FIN of cinch `cinch`
(R130). -/
def FinsAt (n status result : Nat) (data : List Nat) (cinch : Nat) (s t : State) : Prop :=
  ∀ h, s.hdl? (n % 2048) = some h → h.state ≠ 4 → (s.session? h.session).isSome = true →
    ∃ q, let ds := dataRecs h.session h.usb s.time.now 64 (q + 1) 0 data
      (⟨q, 2, false, ds.length, h.session, h.clseq, h.opcode, status, h.num, cinch, result, 0, [], h.usb, false,
        s.time.now⟩ :: ds) <:+: t.mbx.cq

/-- The same with the cinch number of now. -/
def Fins (n status result : Nat) (data : List Nat) (s t : State) : Prop := FinsAt n status result data s.cinchNow s t

/-- The slots of the live handles and those freed are together the slots used so far, each once (R128). -/
abbrev HandlesOk (s : State) : Prop :=
  s.mbx.fresh ≤ 2048 ∧ (s.mbx.hdls.map (·.slot) ++ s.mbx.freed).Perm (List.range s.mbx.fresh)

/-- Command `r` is accepted as a long operation and ends at once: ACCEPTED with a handle, then this FIN (R109, R130). -/
def AnsweredAndFins (r : RingCmd) (status result : Nat) (data : List Nat) (s t : State) : Prop :=
  ∃ n q, Answered r Code.ACCEPTED n 0 [] s t ∧
    let c := parse r
    let ds := dataRecs c.session c.usb s.time.now 64 (q + 1) 0 data
    (⟨q, 2, false, ds.length, c.session, c.clseq, c.opcode, status, n, s.cinchNow, result, 0, [], c.usb, false,
      s.time.now⟩ :: ds) <:+: t.mbx.cq

/-! ### Lanes -/

/-- Lane `k` of execution `x`. -/
def laneOf (s : State) (x : Exec) (k : Nat) : Lane := ⟨x.lanes.get k, s.scn.lanes.get k⟩

/-- The lane domain runs, execution `x` runs, at least one lane votes, and every voting lane of it meets instruction `i`
next. -/
structure LaneAt (i : Instr) (s : State) (x : Exec) : Prop where
  clk : s.clk.lane = true
  run : s.scn.running = some x
  voter : ∃ k, k < 3 ∧ s.votes k = true
  here : ∀ k, k < 3 → s.votes k = true → (x.lanes.get k).run = .running ∧ fetch s (x.lanes.get k).pc = some i

/-- Every voting lane of `x` changes as `R` says, the others stand, and nothing else of the machine changes. -/
def LanesStep (s : State) (x : Exec) (R : Env → Lane → Lane → Prop) (t : State) : Prop :=
  ∃ L M, t = { s with scn := { s.scn with running := some { x with lanes := L }, lanes := M } } ∧
    ∀ k, k < 3 → if s.votes k = true then R (envOf s x) (laneOf s x k) ⟨L.get k, M.get k⟩
      else L.get k = x.lanes.get k ∧ M.get k = s.scn.lanes.get k

/-- What a lane instruction may change beside the step number and the cycle count. -/
structure May where
  v : List Nat := []
  ix : List Nat := []
  flags : List Nat := []
  insts : List Nat := []
  ba : Bool := false
  acc : Bool := false
  stack : Bool := false
  reqs : Bool := false
  mem : Bool := false

/-- The frame of a lane instruction. -/
structure Lane.Stays (m : May) (l l' : Lane) : Prop where
  v : ∀ k, k ∉ m.v → l'.v k = l.v k
  ix : ∀ k, k ∉ m.ix → l'.ix k = l.ix k
  flags : ∀ k, k ∉ m.flags → l'.flag k = l.flag k
  insts : ∀ k, k ∉ m.insts → l'.inst k = l.inst k
  ba : m.ba = false → l'.c.ba = l.c.ba
  acc : m.acc = false → l'.c.acc = l.c.acc ∧ l'.c.sat = l.c.sat
  stack : m.stack = false → l'.c.stack = l.c.stack
  reqs : m.reqs = false → l'.c.reqs = l.c.reqs
  mem : m.mem = false → l'.m.m = l.m.m ∧ l'.m.d = l.m.d ∧ l'.c.q = l.c.q ∧ l'.c.qmask = l.c.qmask
  run : l'.c.run = l.c.run

/-- The lane goes on with step `pc` after `cyc` cycles, and nothing outside `m` changes. -/
def Lane.Goes (m : May) (pc cyc : Nat) (l l' : Lane) : Prop :=
  l'.c.pc = pc ∧ l'.c.cycles = l.c.cycles + cyc ∧ l.Stays m l'

/-- Every byte of the operand areas outside `n` bytes from `a` on in `area` reads as before. -/
def BytesStay (e : Env) (l l' : Lane) (area a n : Nat) : Prop :=
  ∀ b k, ¬ (b = area ∧ a ≤ k ∧ k < a + n) → areaByte e l' b k = areaByte e l b k

/-- In every state in which the voting lanes of the running execution all meet `i` and satisfy `C`, `i` completes: each voting
lane changes as `R` says, and nothing else of the machine changes. -/
def LaneDoesIf (C : Lane → Prop) (i : Instr) (R : Env → Lane → Lane → Prop) : Prop :=
  ∀ (s : State) (x : Exec), LaneAt i s x → (∀ k, k < 3 → s.votes k = true → C (laneOf s x k)) → Does i s (LanesStep s x R)

/-- The same without a condition on the lanes. -/
def LaneDoes (i : Instr) (R : Env → Lane → Lane → Prop) : Prop := LaneDoesIf (fun _ => True) i R

/-- A bit operand's address lies outside its area (R207). -/
def bitOut (e : Env) (l : Lane) (b : BitOp) : Bool := !(inArea e b.area (effAddr l b.x b.ixn b.addr / 8) 1)

/-- A bit operand as the instruction tables write it, op′: inverted when N = 1, 0 before the inversion when it lies outside. -/
def bitIn (e : Env) (l : Lane) (b : BitOp) : Bool :=
  let a := effAddr l b.x b.ixn b.addr
  (!(bitOut e l b) && (areaByte e l b.area (a / 8)).testBit (a % 8)) != b.n

/-- Bit operand `b` takes `v`, its other bits and every other byte stand; one that lies outside stands and sets OV (R207). -/
def BitStored (e : Env) (l l' : Lane) (b : BitOp) (v : Bool) : Prop :=
  let a := effAddr l b.x b.ixn b.addr
  if bitOut e l b = true then
    l'.flag fOV = true ∧ l.Goes { flags := [fOV] } (l.c.pc + 1) (1 + areaCost b.area b.x) l'
  else
    (∀ k, k < 8 → (areaByte e l' b.area (a / 8)).testBit k = if k = a % 8 then v else (areaByte e l b.area (a / 8)).testBit k) ∧
    BytesStay e l l' b.area (a / 8) 1 ∧ l.Goes { mem := true } (l.c.pc + 1) (1 + areaCost b.area b.x) l'

/-- `n` bytes of an area read as a number, 0 when they lie outside (R207). -/
def wordIn (e : Env) (l : Lane) (area a n : Nat) : Nat := if inArea e area a n = true then areaGet e l area a n else 0

/-- `n` bytes of an area take the value `v` and every other byte stands; bytes outside stand and OV is set (R207). -/
def WordStored (e : Env) (l l' : Lane) (area a n v cyc : Nat) (m : May) : Prop :=
  if inArea e area a n = true then
    areaGet e l' area a n = v ∧ BytesStay e l l' area a n ∧ l.Goes { m with mem := true } (l.c.pc + 1) cyc l'
  else l'.flag fOV = true ∧ l.Goes { m with flags := fOV :: m.flags } (l.c.pc + 1) cyc l'

/-- ZR and NG follow a 32-bit result. -/
def ZN (l' : Lane) (w : Word) : Prop := l'.flag fZR = decide (w = 0) ∧ l'.flag fNG = w.msb

/-- ACC takes the exact result `x` of an arithmetic instruction under R218: unchanged while saturated, at the limit with GV
beyond the 40-bit range; ZR and NG follow ACC. -/
def AccTakes (l l' : Lane) (x : Int) : Prop :=
  (if l.c.sat = true then l'.c.acc = l.c.acc ∧ l'.c.sat = true ∧ l'.flag fGV = l.flag fGV
    else if x < -(2 ^ 39) then l'.c.acc = -(2 ^ 39) ∧ l'.c.sat = true ∧ l'.flag fGV = true
    else if 2 ^ 39 ≤ x then l'.c.acc = 2 ^ 39 - 1 ∧ l'.c.sat = true ∧ l'.flag fGV = true
    else l'.c.acc = x ∧ l'.c.sat = false ∧ l'.flag fGV = l.flag fGV) ∧
  l'.flag fZR = decide (l'.c.acc = 0) ∧ l'.flag fNG = decide (l'.c.acc < 0)

/-- ACC is loaded with `x`: saturation ends, ZR and NG follow (R218). -/
def AccLoads (l' : Lane) (x : Int) : Prop :=
  l'.c.acc = x ∧ l'.c.sat = false ∧ l'.flag fZR = decide (x = 0) ∧ l'.flag fNG = decide (x < 0)

/-- An accumulator operand's byte address and its value, extended as LDA gives. -/
def accAddr (l : Lane) (o : MaOp) : Nat := effAddr l o.x o.ixn o.addr * sizeBytes o.size
def accIn (e : Env) (l : Lane) (o : MaOp) : Int :=
  let w := wordIn e l o.area (accAddr l o) (sizeBytes o.size)
  if o.size = 0 then sgn 32 w else if o.size = 1 then sgn 16 w else w

/-- OV is set when the operand lies outside its area, and otherwise stands. -/
def OvIfOut (e : Env) (l l' : Lane) (area a n : Nat) : Prop := l'.flag fOV = (l.flag fOV || !(inArea e area a n))

/-- A number of 32 bits that a signed result does not fit. -/
def unfit (i : Int) : Bool := decide (i < -(2 ^ 31)) || decide (2 ^ 31 ≤ i)

/-- ELAPSED at this evaluation (R215): a running timer counts the RUN ticks since LAST, at most 2^48 - 1. -/
def timerNow (e : Env) (x : Inst) : Nat := if x.running = true then min (2 ^ 48 - 1) (x.elapsed + (e.tick - x.last)) else x.elapsed

/-- A word that is a binary32 NaN. -/
def nanW (w : Word) : Prop := 0x7F800000 < w.toNat % 2 ^ 31

/-- ZR and NG of a float result: ±0, and the sign of a result that is no NaN. -/
def ZNF (l' : Lane) (w : Word) : Prop :=
  (l'.flag fZR = true ↔ w.toNat % 2 ^ 31 = 0) ∧ (l'.flag fNG = true ↔ w.msb = true ∧ ¬nanW w)

/-- A commit request (R229): only when BA = 1; dropped with OV when it is not admitted or 64 stand in the list. -/
def Requests (l l' : Lane) (ok : Bool) (r : Request) (cyc : Nat) : Prop :=
  l'.c.reqs = (if l.c.ba = true ∧ ok = true ∧ l.c.reqs.length < 64 then l.c.reqs ++ [r] else l.c.reqs) ∧
  l'.flag fOV = (l.flag fOV || (l.c.ba && !(ok && decide (l.c.reqs.length < 64)))) ∧
  l.Goes { reqs := true, flags := [fOV] } (l.c.pc + 1) cyc l'

end Sys2Proof.Machine
end

