-- ==== Sys2Proof/WellFormed.lean ====
section
/-!
DEFINITION. Well-formed commands: the operands a lane step's encoding has room for and admits (ZEN-4 to ZEN-12, R206, R210),
and for every other command the range of the numbers it carries (channels, groups, entries, bytes of a frame). The checks
say which operands a sender can spell; a command that fails them still has a meaning.
-/

namespace Sys2Proof

/-- A V register number. -/
def vReg (n : Nat) : Bool := decide (n < 16)

/-- An instance identifier (ZEN-4). -/
def instId (n : Nat) : Bool := decide (1 ≤ n) && decide (n ≤ 0xFFFE)

/-- The areas a store may name (R210): Q, M, D. -/
def storeArea (a : Nat) : Bool := decide (1 ≤ a) && decide (a ≤ 3)

/-- Fields X and IXN: X = 0 leaves IXN 0 (R206). -/
def indexOk (x : Bool) (ixn : Nat) : Bool := decide (ixn < 4) && (x || decide (ixn = 0))

/-- A bit operand that is read: area, index, a 17-bit bit address. -/
def BitOp.wfRead (b : BitOp) : Bool := decide (b.area < 7) && indexOk b.x b.ixn && decide (b.addr < 131072)

/-- A bit operand that is stored to. -/
def BitOp.wfStore (b : BitOp) : Bool := storeArea b.area && indexOk b.x b.ixn && decide (b.addr < 131072)

/-- An accumulator operand that is read: area, index, size, a 16-bit byte address. -/
def MaOp.wfRead (o : MaOp) : Bool :=
  decide (o.area < 7) && indexOk o.x o.ixn && decide (o.size < 4) && decide (o.addr < 65536)

/-- An accumulator operand that is stored to. -/
def MaOp.wfStore (o : MaOp) : Bool :=
  storeArea o.area && indexOk o.x o.ixn && decide (o.size < 4) && decide (o.addr < 65536)

/-- A register operand that is read: area, index, register, a 14-bit word address. -/
def MvOp.wfRead (o : MvOp) : Bool := decide (o.area < 7) && indexOk o.x o.ixn && vReg o.v && decide (o.addr < 16384)

/-- A register operand that is stored to. -/
def MvOp.wfStore (o : MvOp) : Bool := storeArea o.area && indexOk o.x o.ixn && vReg o.v && decide (o.addr < 16384)

/-- A shift amount: 0 to 31, or a register. -/
def Shift.wf : Shift → Bool
  | .imm n => decide (n < 32)
  | .reg t => vReg t

/-- 8, 16 and 32 bits. -/
def byteOk (n : Nat) : Bool := decide (n < 256)
def halfOk (n : Nat) : Bool := decide (n < 65536)
def wordOk (n : Nat) : Bool := decide (n < 4294967296)

/-- A field group: DG 0 to 7, AG 8 to 11. -/
def groupOk (g : Nat) : Bool := decide (g < 12)

/-- A digital channel and an analogue channel of the module. -/
def dchOk (c : Nat) : Bool := decide (c < 128)
def achOk (c : Nat) : Bool := decide (c < 64)

/-- A handle slot. -/
def slotOk (k : Nat) : Bool := decide (k < 2048)

/-- A frame holds bytes. -/
def RxFrame.wf (f : RxFrame) : Bool := f.bytes.all byteOk

/-- Every operand lies in its range. -/
def Instr.wf : Instr → Bool
  | .zLD b => b.wfRead
  | .zAND b => b.wfRead
  | .zOR b => b.wfRead
  | .zXOR b => b.wfRead
  | .zST b => b.wfStore
  | .zSET b => b.wfStore && !b.n
  | .zRST b => b.wfStore && !b.n
  | .zNOT => true
  | .zSETBA => true
  | .zCLRBA => true
  | .zLDF f => decide (f ≤ 5)
  | .zBTST vs k _ => vReg vs && decide (k < 32)
  | .zBST vd k => vReg vd && decide (k < 32)
  | .zBOPEN o _ => decide (o ≤ 2)
  | .zBCLOSE => true
  | .zEDGR id => instId id
  | .zEDGF id => instId id
  | .zTON id vp unit => instId id && vReg vp && decide (unit < 3)
  | .zTOF id vp unit => instId id && vReg vp && decide (unit < 3)
  | .zTP id vp unit => instId id && vReg vp && decide (unit < 3)
  | .zTRST id => instId id
  | .zTRD v id => vReg v && instId id
  | .zCTU v id => vReg v && instId id
  | .zCTD id => instId id
  | .zCRST id => instId id
  | .zCLDV v id => vReg v && instId id
  | .zCRD v id => vReg v && instId id
  | .zLDA o => o.wfRead
  | .zADD o => o.wfRead
  | .zSUB o => o.wfRead
  | .zSTW o => o.wfStore
  | .zCMPA o => o.wfRead
  | .zLDAV vs => vReg vs
  | .zADDA vs => vReg vs
  | .zSUBA vs => vReg vs
  | .zMAC vs vt sh => vReg vs && vReg vt && decide (sh < 32)
  | .zNEGA => true
  | .zSTAV vd => vReg vd
  | .zASRA n => decide (n ≤ 39)
  | .zSHLA n => decide (n ≤ 8)
  | .zCLRA => true
  | .zRDAH vd => vReg vd
  | .zLDV o => o.wfRead
  | .zSTV o => o.wfStore
  | .zLDI vd imm => vReg vd && decide (imm < 65536)
  | .zLDIH vd imm => vReg vd && decide (imm < 65536)
  | .zMOV vd vs => vReg vd && vReg vs
  | .zIADD vd vs vt => vReg vd && vReg vs && vReg vt
  | .zISUB vd vs vt => vReg vd && vReg vs && vReg vt
  | .zIMUL vd vs vt => vReg vd && vReg vs && vReg vt
  | .zIDIV vd vs vt => vReg vd && vReg vs && vReg vt
  | .zIMOD vd vs vt => vReg vd && vReg vs && vReg vt
  | .zIADDI vd vs imm => vReg vd && vReg vs && decide (imm < 4096)
  | .zWAND vd vs vt => vReg vd && vReg vs && vReg vt
  | .zWOR vd vs vt => vReg vd && vReg vs && vReg vt
  | .zWXOR vd vs vt => vReg vd && vReg vs && vReg vt
  | .zWNOT vd vs => vReg vd && vReg vs
  | .zSHL vd vs n => vReg vd && vReg vs && n.wf
  | .zSHR vd vs n => vReg vd && vReg vs && n.wf
  | .zASR vd vs n => vReg vd && vReg vs && n.wf
  | .zROL vd vs n => vReg vd && vReg vs && n.wf
  | .zCMP vs vt => vReg vs && vReg vt
  | .zCMPI vs imm => vReg vs && decide (imm < 4096)
  | .zLDIX ix imm => decide (ix < 4) && decide (imm < 1048576)
  | .zMOVIX ix vs => decide (ix < 4) && vReg vs
  | .zADDIX ix imm => decide (ix < 4) && decide (imm < 1048576)
  | .zRDIX vd ix => vReg vd && decide (ix < 4)
  | .zFADD vd vs vt => vReg vd && vReg vs && vReg vt
  | .zFSUB vd vs vt => vReg vd && vReg vs && vReg vt
  | .zFMUL vd vs vt => vReg vd && vReg vs && vReg vt
  | .zFDIV vd vs vt => vReg vd && vReg vs && vReg vt
  | .zFSQRT vd vs => vReg vd && vReg vs
  | .zFABS vd vs => vReg vd && vReg vs
  | .zFNEG vd vs => vReg vd && vReg vs
  | .zFMIN vd vs vt => vReg vd && vReg vs && vReg vt
  | .zFMAX vd vs vt => vReg vd && vReg vs && vReg vt
  | .zFCMP vs vt => vReg vs && vReg vt
  | .zITOF vd vs => vReg vd && vReg vs
  | .zFTOI vd vs => vReg vd && vReg vs
  | .zNOP => true
  | .zJMP t => decide (t < 131072)
  | .zJC sel _ t => decide (sel ≤ 6) && decide (t < 131072)
  | .zCALL t => decide (t < 131072)
  | .zRET => true
  | .zLOOP ix t => decide (ix < 4) && decide (t < 131072)
  | .zEND => true
  | .zHALT code => decide (code ≤ 0xFEFF)
  | .zCLRF mask => decide (mask < 64)
  | .zRDF vd => vReg vd
  | .zBMOV sa da n => decide (sa < 7) && storeArea da && decide (1 ≤ n) && decide (n < 64)
  | .zBFILL da n => storeArea da && decide (1 ≤ n) && decide (n < 64)
  | .zEVARM vs vt => vReg vs && vReg vt
  | .zEVDIS vs => vReg vs
  | .zCAPRD vd ad ix => vReg vd && decide (ad < 4) && decide (ix < 4)
  | .zCAPPTR vd ad => vReg vd && decide (ad < 4)
  | .zSNHOLD k => decide (k < 2)
  | .zSNREL k => decide (k < 2)
  | .zRDTIM vd => vReg vd
  | .portClockDetect _ _ => true
  | .portTrained _ _ => true
  | .portFault _ _ _ => true
  | .portQualify _ _ => true
  | .portReady _ _ => true
  | .unwrap _ apply => wordOk apply
  | .unwrapApply _ => true
  | .imageFrame _ f => f.wf
  | .carrier _ f => f.wf
  | .mbxw _ f => f.wf
  | .mgmtW _ f => f.wf
  | .linkRegApply _ => true
  | .nrlTime _ apply value => wordOk apply && decide (value < 2 ^ 64)
  | .mgmtR _ f => f.wf
  | .enumAssign _ f => f.wf
  | .enumVerify _ f => f.wf
  | .peerFrame _ f => f.wf
  | .cinchMarker _ _ lanes r0 r1 flags check => byteOk lanes && byteOk r0 && byteOk r1 && byteOk flags && byteOk check
  | .cinchLatch _ bad => decide (bad < 8)
  | .substituteLatch _ bad => decide (bad < 8)
  | .cinchLost _ => true
  | .localLatch _ bad => decide (bad < 8)
  | .probe _ _ b0 b1 b2 check => byteOk b0 && byteOk b1 && byteOk b2 && byteOk check
  | .pairbeatReceive _ _ b0 b1 b2 check => byteOk b0 && byteOk b1 && byteOk b2 && byteOk check
  | .pairbeatSend _ => true
  | .judgeWindow _ _ _ _ _ => true
  | .refSwitch _ => true
  | .lclkLoss _ => true
  | .pllLockLoss _ pll => decide (pll < 3)
  | .pllGatesOpen _ pll => decide (pll ≤ 3)
  | .bridgeFrame _ => true
  | .park _ => true
  | .laneStepChange _ => true
  | .oscStop _ => true
  | .xtalResume _ => true
  | .xtalLimited _ => true
  | .por _ _ => true
  | .pinReset _ _ => true
  | .moduleResetStart _ => true
  | .svWatchdog _ _ _ => true
  | .startupWatchdog _ _ => true
  | .porRelease _ _ _ _ => true
  | .storeRecallDone _ _ bad uncorr => bad.all (fun r => byteOk r.1 && halfOk r.2.1 && decide (r.2.2 < 2)) && uncorr.all (fun r => byteOk r.1 && halfOk r.2)
  | .targetLoad _ t fails => decide (t < 4) && decide (fails < 4)
  | .banksLoaded _ => true
  | .marginPlanDone _ => true
  | .stopReady _ levels => decide (levels < 2 ^ 128)
  | .groupLoad _ g levels => groupOk g && halfOk levels
  | .autorun _ => true
  | .holdThreshold _ v => halfOk v
  | .sesOpen _ => true
  | .sesAuth _ => true
  | .sesClose _ => true
  | .sesLimit _ => true
  | .sesIdle _ => true
  | .sesList _ => true
  | .hdlQuery _ => true
  | .hdlCancel _ => true
  | .objGet _ => true
  | .objSet _ => true
  | .objCommit _ => true
  | .commitApply _ levels => decide (levels < 2 ^ 128)
  | .objDiscard _ => true
  | .objStore _ => true
  | .objStoreDone _ => true
  | .objList _ => true
  | .imgWrite _ => true
  | .snapPin _ => true
  | .snapRead _ => true
  | .snapReadConfirm _ k bad => slotOk k && bad.all halfOk
  | .snapUnpin _ => true
  | .capRead _ => true
  | .capReadConfirm _ k => slotOk k
  | .modeSet _ => true
  | .modReset _ => true
  | .prgLoadBegin _ => true
  | .prgLoadData _ => true
  | .prgLoadEnd _ => true
  | .prgLoadChecks _ => true
  | .laneBankCopy _ bad => decide (bad < 8)
  | .prgActivate _ => true
  | .prgAbort _ => true
  | .swapQuietPoint _ => true
  | .programSwap _ => true
  | .swapDeadline _ => true
  | .activationRecordWrite _ => true
  | .standbyLagSwap _ => true
  | .pairLease _ => true
  | .pairDrill _ => true
  | .recRead _ => true
  | .recReadConfirm _ k uncorr crc => slotOk k && uncorr.all halfOk && crc.all halfOk
  | .recClear _ => true
  | .fwStageBegin _ => true
  | .fwStageData _ => true
  | .fwStageEnd _ => true
  | .fwStageChecks _ => true
  | .fwActivate _ => true
  | .svHandover _ _ => true
  | .fieldBankSwap _ g _ => groupOk g
  | .laneUcodeSwap _ k => decide (k < 3)
  | .keySet _ => true
  | .mbxNop _ => true
  | .authTimeout _ => true
  | .sessionIdleTimeout _ => true
  | .cqReplace _ => true
  | .modeRunEntry _ => true
  | .modeHoldEntry _ => true
  | .modeStopEntry _ => true
  | .faultExit _ => true
  | .startupLimitExpiry _ => true
  | .holdLimitExpiry _ => true
  | .t0Release _ => true
  | .periodicRelease _ task => decide (1 ≤ task) && decide (task < 64)
  | .taskWatchdog _ => true
  | .snapshotNoexec _ => true
  | .plaitCommit _ wc late unc o => decide (wc < 8) && decide (late < 8) && decide (unc < 3) && wordOk o
  | .fieldVote _ g bad => groupOk g && decide (bad < 8)
  | .safeValueCommand _ g => groupOk g
  | .pairHoldCommand _ g => groupOk g
  | .retentiveCopy _ => true
  | .counterRingUpdate _ => true
  | .laneTest _ k _ => decide (k < 3)
  | .laneCopyPass _ k => decide (k < 3)
  | .laneJoin _ k => decide (k < 3)
  | .admitRetry _ k => decide (k < 3)
  | .helloSend _ => true
  | .hello _ body => body.all byteOk
  | .ident _ body => body.all byteOk
  | .identTimeout _ => true
  | .swapAt _ body => body.all byteOk
  | .swapAck _ body => body.all byteOk
  | .swapDone _ body => body.all byteOk
  | .swapped _ => true
  | .noswap _ => true
  | .claimEffect _ => true
  | .partnerSilence _ => true
  | .tookOver _ => true
  | .released _ => true
  | .analogueGateTimeout _ => true
  | .pairHoldExpiry _ => true
  | .leaseExpiry _ => true
  | .returnHoldExpiry _ _ => true
  | .drillDwellEnd _ => true
  | .mirrorCapture _ => true
  | .mirror _ body => body.all byteOk
  | .mirrorApply _ => true
  | .angleEdge _ sig _ => decide (sig < 16)
  | .speedTimeout _ d => decide (d < 4)
  | .inputFault _ n => decide (n < 8)
  | .inputFaultClear _ n => decide (n < 8)
  | .frameStreamLoss _ g => decide (g < 8)
  | .eventCommandSend _ e => decide (e < 1024)
  | .eventFire _ e => decide (e < 1024)
  | .angleAction _ e => decide (e < 1024)
  | .arm _ e _ => decide (e < 1024)
  | .angle _ e a => decide (e < 1024) && wordOk a
  | .resync _ d => decide (d < 4)
  | .synspd _ d v => decide (d < 4) && wordOk v
  | .inputChange _ c _ => dchOk c
  | .stormWindow _ => true
  | .stormed _ n => decide (n < 309)
  | .svTake _ c => decide (c < 2)
  | .svComplete _ c => decide (c < 2)
  | .cnt _ c v => dchOk c && wordOk v
  | .filt _ c v => dchOk c && decide (v < 8)
  | .overload _ c => dchOk c
  | .overloadRetry _ c => dchOk c
  | .groupOvercurrent _ g limited more => decide (g < 8) && halfOk limited && decide (more ≤ 16)
  | .overtemp _ c => dchOk c
  | .overtempClear _ c => dchOk c
  | .clampEnd _ c => dchOk c
  | .boostEnd _ c => dchOk c
  | .pwmPeriod _ c => dchOk c
  | .sfOvl _ c => dchOk c
  | .sfRetry _ c => dchOk c
  | .sfGrp _ g n => decide (g < 8) && decide (n ≤ 16)
  | .diagDetect _ c k _ => dchOk c && decide (k < 8)
  | .rbMismatch _ c => dchOk c
  | .senseTest _ g _ => decide (g < 8)
  | .lplusMonitor _ g lplus _ => decide (g < 8) && halfOk lplus
  | .boostcapMeasure _ g cmeas _ => decide (g < 8) && halfOk cmeas
  | .reinTimeout _ g => groupOk g
  | .heartbeatResume _ g => groupOk g
  | .conversionStep _ g p => decide (g < 4) && decide (p < 4)
  | .deferredTrigger _ g p => decide (g < 4) && decide (p < 4)
  | .resultProcess _ g p _ _ _ => decide (g < 4) && decide (p < 4)
  | .mainsFreeEdge _ c => achOk c
  | .calStepStart _ g => decide (g < 4)
  | .calDone _ g _ _ _ => decide (g < 4)
  | .overlapDone _ g _ => decide (g < 4)
  | .overlapTimeout _ g => decide (g < 4)
  | .slicePowerUp _ g k => decide (g < 4) && decide (k < 5)
  | .quadPowerUp _ g q => decide (g < 4) && decide (q < 4)
  | .quadPowerDown _ g q => decide (g < 4) && decide (q < 4)
  | .reconfigDone _ c => achOk c
  | .quadTemp _ g q t => decide (g < 4) && decide (q < 4) && byteOk t
  | .avplusMonitor _ g avplus _ strap => decide (g < 4) && halfOk avplus && decide (strap < 3)
  | .analogueDiag _ c k _ => achOk c && decide (k < 8)
  | .retest _ g k => decide (g < 4) && decide (k < 5)
  | .flen _ c v => achOk c && halfOk v
  | .windowThreshold _ w _ v => decide (w < 64) && wordOk v
  | .burnishPass _ => true
  | .burnishPage _ fixed margin uncorr => decide (fixed + margin ≤ 4096) && uncorr.all (fun r => decide (r.1 < 4) && wordOk r.2.1 && byteOk r.2.2.1 && halfOk r.2.2.2.1 && decide (r.2.2.2.2 < 2))
  | .recorderFlush _ => true
  | .recorderAgeExpiry _ => true
  | .operatingTimeUpdate _ => true
  | .timeLink _ => true
  | .powerFail _ vsys hold => halfOk vsys && halfOk hold
  | .rideReturn _ vsys hold => halfOk vsys && halfOk hold
  | .shutdown _ hold => halfOk hold
  | .holdTest _ => true
  | .holdTestRun _ => true
  | .holdTestDone _ cap esr hold => halfOk cap && halfOk esr && halfOk hold
  | .slackSample _ _ _ _ => true
  | .ageingSample _ _ td ta => decide (td.length = 8) && decide (ta.length = 16)
  | .ageRingUpdate _ => true
  | .epochEnd _ => true
  | .backupPowerOn _ _ => true
  | .vbatMeasure _ v => halfOk v
  | .secondBoundary _ => true
  | .wakePeriod _ => true
  | .rtcTime _ secs sub session => decide (secs < 2 ^ 49) && decide (sub < 32768) && halfOk session
  | .rtcWake _ period _ _ => decide (1 ≤ period) && decide (period ≤ 22118400)
  | .off _ => true
  | .offDelayExpiry _ => true
  | .rngFail _ kind => decide (kind < 3)
  | .rngRetest _ kind => decide (kind < 3)
  | .usbVbusAttach _ => true
  | .usbVbusLoss _ => true
  | .usbBulkOut _ b => b.all byteOk
  | .usbSuspend _ _ => true
  | .readmit _ mask => decide (mask < 8)
  | .retire _ mask => decide (mask < 8)
  | .qualifyingCodeError _ _ => true
  | .initFilterElapsed _ c => dchOk c
  | .outPulseEnd _ e => decide (e < 1024)
  | .triggeredDiagSlot _ g p => decide (g < 4) && decide (p < 4)
  | .rngStartupTestsDone _ kind => decide (kind < 3)
  | .nonceWaitTimeout _ => true
  | .authLockedExpiry _ => true
  | .resetNRelease _ _ _ _ => true
  | .recClearDone _ => true
  | .backupSupplyChangeover _ _ => true
  | .backupPowerLoss _ => true
  | .usbControlRequest _ rt rq v i len => byteOk rt && byteOk rq && halfOk v && halfOk i && halfOk len
  | .handoverAbandoned _ => true
  | .securityUnitIdle _ => true

end Sys2Proof
end

