-- ==== Sys2Proof/Certificates/Slice0/Obligations.lean ====
section
/-!
DEFINITION. The statements for the provers: one proposition each, from the numbered rules of the spec.
-/

open Sys2Proof Sys2Proof.Machine

/-- In every state in which the voting lanes meet one of LD, AND, OR, XOR, NOT, SETBA, CLRBA, LDF, BTST or BST, the
instruction completes; BA (for BST the named register's bit) takes the value ZEN-6 gives, an operand outside its area reads
0 and sets OV, the cycles are those of the row, and every other register, flag, memory byte and every other part of the
machine is unchanged. -/
def Obligations.LaneBitLogic : Prop :=
  (∀ b, LaneDoes (.zLD b) fun e l l' => l'.c.ba = bitIn e l b ∧ l'.flag fOV = (l.flag fOV || bitOut e l b) ∧
    l.Goes { ba := true, flags := [fOV] } (l.c.pc + 1) (1 + areaCost b.area b.x) l') ∧
  (∀ b, LaneDoes (.zAND b) fun e l l' => l'.c.ba = (l.c.ba && bitIn e l b) ∧ l'.flag fOV = (l.flag fOV || bitOut e l b) ∧
    l.Goes { ba := true, flags := [fOV] } (l.c.pc + 1) (1 + areaCost b.area b.x) l') ∧
  (∀ b, LaneDoes (.zOR b) fun e l l' => l'.c.ba = (l.c.ba || bitIn e l b) ∧ l'.flag fOV = (l.flag fOV || bitOut e l b) ∧
    l.Goes { ba := true, flags := [fOV] } (l.c.pc + 1) (1 + areaCost b.area b.x) l') ∧
  (∀ b, LaneDoes (.zXOR b) fun e l l' => l'.c.ba = xor l.c.ba (bitIn e l b) ∧ l'.flag fOV = (l.flag fOV || bitOut e l b) ∧
    l.Goes { ba := true, flags := [fOV] } (l.c.pc + 1) (1 + areaCost b.area b.x) l') ∧
  (LaneDoes .zNOT fun _ l l' => l'.c.ba = !l.c.ba ∧ l.Goes { ba := true } (l.c.pc + 1) 1 l') ∧
  (LaneDoes .zSETBA fun _ l l' => l'.c.ba = true ∧ l.Goes { ba := true } (l.c.pc + 1) 1 l') ∧
  (LaneDoes .zCLRBA fun _ l l' => l'.c.ba = false ∧ l.Goes { ba := true } (l.c.pc + 1) 1 l') ∧
  (∀ f, LaneDoes (.zLDF f) fun _ l l' => l'.c.ba = l.flag f ∧ l.Goes { ba := true } (l.c.pc + 1) 1 l') ∧
  (∀ r k n, LaneDoes (.zBTST r k n) fun _ l l' =>
    l'.c.ba = xor ((l.v r).getLsbD k) n ∧ l.Goes { ba := true } (l.c.pc + 1) 1 l') ∧
  (∀ r k, k < 32 → LaneDoes (.zBST r k) fun _ l l' =>
    (∀ j, j < 32 → (l'.v r).getLsbD j = if j = k then l.c.ba else (l.v r).getLsbD j) ∧ l.Goes { v := [r] } (l.c.pc + 1) 1 l')

/-- For the areas Q, M and D that a store may name: ST writes BA xor N into the operand bit; SET and RST write 1 and 0 when
BA = 1 and make no access when BA = 0. Outside its area the bit is not written and OV is set. Every other bit and byte of
every area reads as before, and nothing else changes. -/
def Obligations.LaneBitStores : Prop :=
  ∀ b : BitOp, 1 ≤ b.area → b.area ≤ 3 →
  (LaneDoes (.zST b) fun e l l' => BitStored e l l' b (xor l.c.ba b.n)) ∧
  (LaneDoes (.zSET b) fun e l l' =>
    if l.c.ba = true then BitStored e l l' b true else l.Goes {} (l.c.pc + 1) (1 + areaCost b.area b.x) l') ∧
  (LaneDoes (.zRST b) fun e l l' =>
    if l.c.ba = true then BitStored e l l' b false else l.Goes {} (l.c.pc + 1) (1 + areaCost b.area b.x) l')

/-- While fewer than 16 entries are open, BOPEN pushes a BIT entry with BA and the operator and leaves BA, and CALL pushes
the return step and goes to its target. With a BIT entry on top BCLOSE removes it and combines its saved BA with BA by AND,
OR or XOR, the latter inverted when N was 1; with a CALL entry on top RET removes it and goes to its step. Nothing else
changes. -/
def Obligations.LaneBranchStack : Prop :=
  (∀ o n, LaneDoesIf (fun l => l.c.stack.length < 16) (.zBOPEN o n) fun _ l l' =>
    l'.c.stack = .bit l.c.ba (o + 4 * b2n n) :: l.c.stack ∧ l.Goes { stack := true } (l.c.pc + 1) 1 l') ∧
  (∀ o n (sv : Bool) (rest : List BrEntry), o ≤ 2 →
    LaneDoesIf (fun l => l.c.stack = .bit sv (o + 4 * b2n n) :: rest) .zBCLOSE fun _ l l' =>
    l'.c.ba = (match o with
      | 0 => sv && xor l.c.ba n
      | 1 => sv || xor l.c.ba n
      | _ => xor sv (xor l.c.ba n)) ∧
    l'.c.stack = rest ∧ l.Goes { stack := true, ba := true } (l.c.pc + 1) 1 l') ∧
  (∀ t, LaneDoesIf (fun l => l.c.stack.length < 16) (.zCALL t) fun _ l l' =>
    l'.c.stack = .call (l.c.pc + 1) :: l.c.stack ∧ l.Goes { stack := true } t 3 l') ∧
  (∀ r rest, LaneDoesIf (fun l => l.c.stack = .call r :: rest) .zRET fun _ l l' =>
    l'.c.stack = rest ∧ l.Goes { stack := true } r 3 l')

/-- EDGR and EDGF report the edge of BA against the remembered bit, none at the first evaluation, and remember BA. CTU and
CTD count a rise of BA against their own remembered input, nothing at the first evaluation of that input, saturating at the
ends of 32 bits, and set BA to CV >= Vp and CV <= 0. CRST and CLDV write CV when BA = 1 and leave INIT; CRD reads CV. One
instance may be driven by CTU and CTD: the state of each is kept apart. Nothing else changes. -/
def Obligations.LaneEdgesAndCounters : Prop :=
  (∀ id, LaneDoes (.zEDGR id) fun _ l l' =>
    l'.c.ba = (!(l.inst id).init && l.c.ba && !(l.inst id).mem) ∧
    l'.inst id = { l.inst id with mem := l.c.ba, init := false } ∧ l.Goes { ba := true, insts := [id] } (l.c.pc + 1) 4 l') ∧
  (∀ id, LaneDoes (.zEDGF id) fun _ l l' =>
    l'.c.ba = (!(l.inst id).init && (l.inst id).mem && !l.c.ba) ∧
    l'.inst id = { l.inst id with mem := l.c.ba, init := false } ∧ l.Goes { ba := true, insts := [id] } (l.c.pc + 1) 4 l') ∧
  (∀ v id, LaneDoes (.zCTU v id) fun _ l l' =>
    (l'.inst id).cv = (if (l.inst id).initU = false ∧ l.c.ba = true ∧ (l.inst id).uin = false
      then min ((l.inst id).cv + 1) (2 ^ 31 - 1) else (l.inst id).cv) ∧
    (l'.inst id).uin = l.c.ba ∧ (l'.inst id).initU = false ∧
    (l'.inst id).din = (l.inst id).din ∧ (l'.inst id).initD = (l.inst id).initD ∧
    l'.c.ba = decide ((l.v v).toInt ≤ (l'.inst id).cv) ∧ l.Goes { ba := true, insts := [id] } (l.c.pc + 1) 8 l') ∧
  (∀ id, LaneDoes (.zCTD id) fun _ l l' =>
    (l'.inst id).cv = (if (l.inst id).initD = false ∧ l.c.ba = true ∧ (l.inst id).din = false
      then max ((l.inst id).cv - 1) (-(2 ^ 31)) else (l.inst id).cv) ∧
    (l'.inst id).din = l.c.ba ∧ (l'.inst id).initD = false ∧
    (l'.inst id).uin = (l.inst id).uin ∧ (l'.inst id).initU = (l.inst id).initU ∧
    l'.c.ba = decide ((l'.inst id).cv ≤ 0) ∧ l.Goes { ba := true, insts := [id] } (l.c.pc + 1) 8 l') ∧
  (∀ id, LaneDoes (.zCRST id) fun _ l l' =>
    l'.inst id = (if l.c.ba = true then { l.inst id with cv := 0 } else l.inst id) ∧
    l.Goes { insts := [id] } (l.c.pc + 1) 6 l') ∧
  (∀ v id, LaneDoes (.zCLDV v id) fun _ l l' =>
    l'.inst id = (if l.c.ba = true then { l.inst id with cv := (l.v v).toInt } else l.inst id) ∧
    l.Goes { insts := [id] } (l.c.pc + 1) 6 l') ∧
  (∀ v id, LaneDoes (.zCRD v id) fun _ l l' =>
    l'.v v = BitVec.ofInt 32 (l.inst id).cv ∧ l.Goes { v := [v] } (l.c.pc + 1) 4 l')

/-- TON, TOF and TP follow the cases of R216 on BA, the remembered input (equal to BA at the first evaluation), whether the
timer runs, ELAPSED after the RUN ticks since LAST (at most 2^48 - 1) and PT = Vp times the unit; BA takes Q, the input is
remembered and INIT ends. TRST makes the timer idle with Q = 0 when BA = 1; TRD reads ELAPSED, at most PT, in the unit of
the last evaluation. Nothing else changes. -/
def Obligations.LaneTimers : Prop :=
  (∀ id vp u, LaneDoes (.zTON id vp u) fun e l l' =>
    (if l.c.ba = false then (l'.inst id).running = false ∧ (l'.inst id).elapsed = 0 ∧ (l'.inst id).q = false
      else if (l.inst id).running = false then
        (l'.inst id).running = true ∧ (l'.inst id).elapsed = 0 ∧ (l'.inst id).last = e.tick ∧ (l'.inst id).q = false
      else (l'.inst id).running = true ∧ (l'.inst id).elapsed = timerNow e (l.inst id) ∧ (l'.inst id).last = e.tick ∧
        (l'.inst id).q = decide ((l.v vp).toNat * unitUs u ≤ timerNow e (l.inst id))) ∧
    (l'.inst id).inp = l.c.ba ∧ (l'.inst id).init = false ∧ l'.c.ba = (l'.inst id).q ∧
    l.Goes { ba := true, insts := [id] } (l.c.pc + 1) 12 l') ∧
  (∀ id vp u, LaneDoes (.zTOF id vp u) fun e l l' =>
    (if l.c.ba = true then (l'.inst id).running = false ∧ (l'.inst id).q = true
      else if (l.inst id).init = false ∧ (l.inst id).inp = true then
        (l'.inst id).running = true ∧ (l'.inst id).elapsed = 0 ∧ (l'.inst id).last = e.tick ∧ (l'.inst id).q = true
      else if (l.inst id).running = false then (l'.inst id).running = false ∧ (l'.inst id).q = false
      else if (l.v vp).toNat * unitUs u ≤ timerNow e (l.inst id) then
        (l'.inst id).running = false ∧ (l'.inst id).q = false
      else (l'.inst id).running = true ∧ (l'.inst id).elapsed = timerNow e (l.inst id) ∧ (l'.inst id).q = true) ∧
    (l'.inst id).inp = l.c.ba ∧ (l'.inst id).init = false ∧ l'.c.ba = (l'.inst id).q ∧
    l.Goes { ba := true, insts := [id] } (l.c.pc + 1) 12 l') ∧
  (∀ id vp u, LaneDoes (.zTP id vp u) fun e l l' =>
    (if (l.inst id).running = true then
        if (l.v vp).toNat * unitUs u ≤ timerNow e (l.inst id) then (l'.inst id).running = false ∧ (l'.inst id).q = false
        else (l'.inst id).running = true ∧ (l'.inst id).elapsed = timerNow e (l.inst id) ∧ (l'.inst id).q = true
      else if l.c.ba = true ∧ (l.inst id).init = false ∧ (l.inst id).inp = false ∧ (l.inst id).q = false then
        (l'.inst id).running = true ∧ (l'.inst id).elapsed = 0 ∧ (l'.inst id).last = e.tick ∧ (l'.inst id).q = true
      else (l'.inst id).running = false ∧ (l'.inst id).q = false) ∧
    (l'.inst id).inp = l.c.ba ∧ (l'.inst id).init = false ∧ l'.c.ba = (l'.inst id).q ∧
    l.Goes { ba := true, insts := [id] } (l.c.pc + 1) 12 l') ∧
  (∀ id, LaneDoes (.zTRST id) fun _ l l' =>
    l'.inst id = (if l.c.ba = true then { l.inst id with running := false, elapsed := 0, q := false } else l.inst id) ∧
    l.Goes { insts := [id] } (l.c.pc + 1) 6 l') ∧
  (∀ v id, LaneDoes (.zTRD v id) fun _ l l' =>
    l'.v v = BitVec.ofNat 32 (min (l.inst id).elapsed (l.inst id).pt / unitUs (l.inst id).unit) ∧
    l.Goes { v := [v] } (l.c.pc + 1) 6 l')

/-- ADD, SUB, ADDA, SUBA, MAC, NEGA and SHLA give ACC the exact result, or, outside -2^39 to 2^39 - 1, the limit on its side
with GV set and ACC saturated; while saturated they and ASRA leave ACC unchanged. LDA, LDAV and CLRA load ACC and end
saturation. ZR and NG follow ACC. CMPA compares, RDAH reads bits above 31. CLRF clears GV and does not end saturation. MAC
adds the product shifted right towards minus infinity. A memory operand outside its area reads 0 and sets OV. Nothing else
changes. -/
def Obligations.LaneAccumulator : Prop :=
  (∀ o, LaneDoes (.zLDA o) fun e l l' => AccLoads l' (accIn e l o) ∧ OvIfOut e l l' o.area (accAddr l o) (sizeBytes o.size) ∧
    l.Goes { acc := true, flags := [fZR, fNG, fOV] } (l.c.pc + 1) (1 + areaCost o.area o.x) l') ∧
  (∀ o, LaneDoes (.zADD o) fun e l l' =>
    AccTakes l l' (l.c.acc + accIn e l o) ∧ OvIfOut e l l' o.area (accAddr l o) (sizeBytes o.size) ∧
    l.Goes { acc := true, flags := [fZR, fNG, fGV, fOV] } (l.c.pc + 1) (1 + areaCost o.area o.x) l') ∧
  (∀ o, LaneDoes (.zSUB o) fun e l l' =>
    AccTakes l l' (l.c.acc - accIn e l o) ∧ OvIfOut e l l' o.area (accAddr l o) (sizeBytes o.size) ∧
    l.Goes { acc := true, flags := [fZR, fNG, fGV, fOV] } (l.c.pc + 1) (1 + areaCost o.area o.x) l') ∧
  (∀ o, LaneDoes (.zCMPA o) fun e l l' =>
    l'.flag fEQ = decide (l.c.acc = accIn e l o) ∧ l'.flag fNG = decide (l.c.acc < accIn e l o) ∧
    OvIfOut e l l' o.area (accAddr l o) (sizeBytes o.size) ∧
    l.Goes { flags := [fEQ, fNG, fOV] } (l.c.pc + 1) (1 + areaCost o.area o.x) l') ∧
  (∀ r, LaneDoes (.zLDAV r) fun _ l l' => AccLoads l' (l.v r).toInt ∧
    l.Goes { acc := true, flags := [fZR, fNG] } (l.c.pc + 1) 1 l') ∧
  (∀ r, LaneDoes (.zADDA r) fun _ l l' => AccTakes l l' (l.c.acc + (l.v r).toInt) ∧
    l.Goes { acc := true, flags := [fZR, fNG, fGV] } (l.c.pc + 1) 1 l') ∧
  (∀ r, LaneDoes (.zSUBA r) fun _ l l' => AccTakes l l' (l.c.acc - (l.v r).toInt) ∧
    l.Goes { acc := true, flags := [fZR, fNG, fGV] } (l.c.pc + 1) 1 l') ∧
  (∀ r q h, LaneDoes (.zMAC r q h) fun _ l l' =>
    AccTakes l l' (l.c.acc + ((l.v r).toInt * (l.v q).toInt) / (2 ^ h : Int)) ∧
    l.Goes { acc := true, flags := [fZR, fNG, fGV] } (l.c.pc + 1) 3 l') ∧
  (LaneDoes .zNEGA fun _ l l' => AccTakes l l' (-l.c.acc) ∧
    l.Goes { acc := true, flags := [fZR, fNG, fGV] } (l.c.pc + 1) 1 l') ∧
  (∀ n, LaneDoes (.zASRA n) fun _ l l' =>
    l'.c.acc = (if l.c.sat = true then l.c.acc else l.c.acc / (2 ^ n : Int)) ∧ l'.c.sat = l.c.sat ∧
    l'.flag fZR = decide (l'.c.acc = 0) ∧ l'.flag fNG = decide (l'.c.acc < 0) ∧
    l.Goes { acc := true, flags := [fZR, fNG] } (l.c.pc + 1) 1 l') ∧
  (∀ n, LaneDoes (.zSHLA n) fun _ l l' => AccTakes l l' (l.c.acc * 2 ^ n) ∧
    l.Goes { acc := true, flags := [fZR, fNG, fGV] } (l.c.pc + 1) 1 l') ∧
  (∀ m, LaneDoes (.zCLRF m) fun _ l l' => l'.c.acc = l.c.acc ∧ l'.c.sat = l.c.sat ∧ l'.flag fGV = (l.flag fGV && !(m.testBit fGV))) ∧
  (LaneDoes .zCLRA fun _ l l' => AccLoads l' 0 ∧ l.Goes { acc := true, flags := [fZR, fNG] } (l.c.pc + 1) 1 l') ∧
  (∀ r, LaneDoes (.zRDAH r) fun _ l l' =>
    l'.v r = BitVec.ofInt 32 (l.c.acc / (2 ^ 32 : Int)) ∧ l.Goes { v := [r] } (l.c.pc + 1) 1 l')

/-- STW stores ACC, held to the range of its size, into its 4, 2 or 1 bytes, STAV into its register, both with OV when the
value was limited; STV stores a register into four bytes, LDV loads one. Bytes outside the area are not written, read 0, and
set OV. Every other byte of every area reads as before, and nothing else changes. -/
def Obligations.LaneWordStores : Prop :=
  (∀ o : MaOp, 1 ≤ o.area → o.area ≤ 3 → o.size < 4 → LaneDoes (.zSTW o) fun e l l' =>
    let lo : Int := [-(2 ^ 31), -(2 ^ 15), 0, 0].getD o.size 0
    let hi : Int := [2 ^ 31 - 1, 2 ^ 15 - 1, 65535, 255].getD o.size 0
    let w : Int := max lo (min hi l.c.acc)
    WordStored e l l' o.area (accAddr l o) (sizeBytes o.size) (w % (2 ^ (8 * sizeBytes o.size) : Int)).toNat
      (1 + areaCost o.area o.x) { flags := [fOV] } ∧
    (inArea e o.area (accAddr l o) (sizeBytes o.size) = true → l'.flag fOV = (l.flag fOV || decide (w ≠ l.c.acc)))) ∧
  (∀ r, LaneDoes (.zSTAV r) fun _ l l' =>
    let w : Int := max (-(2 ^ 31)) (min (2 ^ 31 - 1) l.c.acc)
    l'.v r = BitVec.ofInt 32 w ∧ l'.flag fOV = (l.flag fOV || decide (w ≠ l.c.acc)) ∧
    l.Goes { v := [r], flags := [fOV] } (l.c.pc + 1) 1 l') ∧
  (∀ o : MvOp, 1 ≤ o.area → o.area ≤ 3 → LaneDoes (.zSTV o) fun e l l' =>
    WordStored e l l' o.area (effAddr l o.x o.ixn o.addr * 4) 4 (l.v o.v).toNat (1 + areaCost o.area o.x) {}) ∧
  (∀ o : MvOp, LaneDoes (.zLDV o) fun e l l' =>
    l'.v o.v = BitVec.ofNat 32 (wordIn e l o.area (effAddr l o.x o.ixn o.addr * 4) 4) ∧
    OvIfOut e l l' o.area (effAddr l o.x o.ixn o.addr * 4) 4 ∧
    l.Goes { v := [o.v], flags := [fOV] } (l.c.pc + 1) (1 + areaCost o.area o.x) l')

/-- IADD, ISUB and IADDI wrap modulo 2^32, CY is the unsigned carry or borrow, OV is set when the signed result does not
fit; IMUL keeps the low 32 bits, OV as before; IDIV truncates towards zero, IMOD takes the sign of the dividend; a divisor
of 0 gives 0x7FFFFFFF, 0x80000000 or 0 (IDIV, by the dividend) and 0 (IMOD) and sets OV; -2^31 by -1 gives 0x7FFFFFFF with
OV (IDIV) and 0 with OV unchanged (IMOD). ZR and NG follow the result; nothing else changes. -/
def Obligations.LaneIntegers : Prop :=
  (∀ d a b, LaneDoes (.zIADD d a b) fun _ l l' =>
    l'.v d = l.v a + l.v b ∧ ZN l' (l.v a + l.v b) ∧ l'.flag fCY = decide (2 ^ 32 ≤ (l.v a).toNat + (l.v b).toNat) ∧
    l'.flag fOV = (l.flag fOV || unfit ((l.v a).toInt + (l.v b).toInt)) ∧
    l.Goes { v := [d], flags := [fZR, fNG, fCY, fOV] } (l.c.pc + 1) 1 l') ∧
  (∀ d a b, LaneDoes (.zISUB d a b) fun _ l l' =>
    l'.v d = l.v a - l.v b ∧ ZN l' (l.v a - l.v b) ∧ l'.flag fCY = decide ((l.v a).toNat < (l.v b).toNat) ∧
    l'.flag fOV = (l.flag fOV || unfit ((l.v a).toInt - (l.v b).toInt)) ∧
    l.Goes { v := [d], flags := [fZR, fNG, fCY, fOV] } (l.c.pc + 1) 1 l') ∧
  (∀ d a n, LaneDoes (.zIADDI d a n) fun _ l l' =>
    let b : Word := BitVec.ofInt 32 (sgn 12 n)
    l'.v d = l.v a + b ∧ ZN l' (l.v a + b) ∧ l'.flag fCY = decide (2 ^ 32 ≤ (l.v a).toNat + b.toNat) ∧
    l'.flag fOV = (l.flag fOV || unfit ((l.v a).toInt + sgn 12 n)) ∧
    l.Goes { v := [d], flags := [fZR, fNG, fCY, fOV] } (l.c.pc + 1) 1 l') ∧
  (∀ d a b, LaneDoes (.zIMUL d a b) fun _ l l' =>
    l'.v d = l.v a * l.v b ∧ ZN l' (l.v a * l.v b) ∧
    l'.flag fOV = (l.flag fOV || unfit ((l.v a).toInt * (l.v b).toInt)) ∧
    l.Goes { v := [d], flags := [fZR, fNG, fOV] } (l.c.pc + 1) 3 l') ∧
  (∀ d a b, LaneDoes (.zIDIV d a b) fun _ l l' =>
    (if l.v b = 0 then
        l'.v d = (if (l.v a).toInt = 0 then 0 else if (l.v a).toInt < 0 then 0x80000000 else 0x7FFFFFFF) ∧ l'.flag fOV = true
      else if (l.v a).toInt = -(2 ^ 31) ∧ (l.v b).toInt = -1 then l'.v d = 0x7FFFFFFF ∧ l'.flag fOV = true
      else (l'.v d).toInt = (l.v a).toInt.tdiv (l.v b).toInt ∧ l'.flag fOV = l.flag fOV) ∧
    ZN l' (l'.v d) ∧ l.Goes { v := [d], flags := [fZR, fNG, fOV] } (l.c.pc + 1) 36 l') ∧
  (∀ d a b, LaneDoes (.zIMOD d a b) fun _ l l' =>
    (if l.v b = 0 then l'.v d = 0 ∧ l'.flag fOV = true
      else (l'.v d).toInt = (l.v a).toInt.tmod (l.v b).toInt ∧ l'.flag fOV = l.flag fOV) ∧
    ZN l' (l'.v d) ∧ l.Goes { v := [d], flags := [fZR, fNG, fOV] } (l.c.pc + 1) 36 l')

/-- LDI loads 16 bits sign-extended, LDIH the upper half, MOV copies. WAND, WOR, WXOR and WNOT work bit by bit with ZR and
NG. SHL, SHR, ASR and ROL shift by n of 0 to 31: n = 0 keeps the value and CY; n of 1 to 31 sets CY to the last bit shifted
out, for ROL to the bit rotated into bit 0. CMP and CMPI set EQ and ZR to equality, NG to signed less-than and CY to
unsigned less-than. Nothing else changes. -/
def Obligations.LaneWordLogic : Prop :=
  (∀ d n, LaneDoes (.zLDI d n) fun _ l l' =>
    l'.v d = BitVec.ofInt 32 (sgn 16 n) ∧ l.Goes { v := [d] } (l.c.pc + 1) 1 l') ∧
  (∀ d n, n < 65536 → LaneDoes (.zLDIH d n) fun _ l l' =>
    (l'.v d).toNat = n * 65536 + (l.v d).toNat % 65536 ∧ l.Goes { v := [d] } (l.c.pc + 1) 1 l') ∧
  (∀ d a, LaneDoes (.zMOV d a) fun _ l l' => l'.v d = l.v a ∧ l.Goes { v := [d] } (l.c.pc + 1) 1 l') ∧
  (∀ d a b, LaneDoes (.zWAND d a b) fun _ l l' => l'.v d = l.v a &&& l.v b ∧ ZN l' (l'.v d) ∧
    l.Goes { v := [d], flags := [fZR, fNG] } (l.c.pc + 1) 1 l') ∧
  (∀ d a b, LaneDoes (.zWOR d a b) fun _ l l' => l'.v d = l.v a ||| l.v b ∧ ZN l' (l'.v d) ∧
    l.Goes { v := [d], flags := [fZR, fNG] } (l.c.pc + 1) 1 l') ∧
  (∀ d a b, LaneDoes (.zWXOR d a b) fun _ l l' => l'.v d = l.v a ^^^ l.v b ∧ ZN l' (l'.v d) ∧
    l.Goes { v := [d], flags := [fZR, fNG] } (l.c.pc + 1) 1 l') ∧
  (∀ d a, LaneDoes (.zWNOT d a) fun _ l l' => l'.v d = ~~~(l.v a) ∧ ZN l' (l'.v d) ∧
    l.Goes { v := [d], flags := [fZR, fNG] } (l.c.pc + 1) 1 l') ∧
  (∀ d a n, LaneDoes (.zSHL d a n) fun _ l l' =>
    l'.v d = l.v a <<< shAmt l n ∧ l'.flag fCY = (if shAmt l n = 0 then l.flag fCY else (l.v a).getLsbD (32 - shAmt l n)) ∧
    ZN l' (l'.v d) ∧ l.Goes { v := [d], flags := [fZR, fNG, fCY] } (l.c.pc + 1) 1 l') ∧
  (∀ d a n, LaneDoes (.zSHR d a n) fun _ l l' =>
    l'.v d = l.v a >>> shAmt l n ∧ l'.flag fCY = (if shAmt l n = 0 then l.flag fCY else (l.v a).getLsbD (shAmt l n - 1)) ∧
    ZN l' (l'.v d) ∧ l.Goes { v := [d], flags := [fZR, fNG, fCY] } (l.c.pc + 1) 1 l') ∧
  (∀ d a n, LaneDoes (.zASR d a n) fun _ l l' =>
    (l'.v d).toInt = (l.v a).toInt / (2 ^ shAmt l n : Int) ∧
    l'.flag fCY = (if shAmt l n = 0 then l.flag fCY else (l.v a).getLsbD (shAmt l n - 1)) ∧
    ZN l' (l'.v d) ∧ l.Goes { v := [d], flags := [fZR, fNG, fCY] } (l.c.pc + 1) 1 l') ∧
  (∀ d a n, LaneDoesIf (fun l => shAmt l n < 32) (.zROL d a n) fun _ l l' =>
    l'.v d = (l.v a <<< shAmt l n) ||| (l.v a >>> (32 - shAmt l n)) ∧
    l'.flag fCY = (if shAmt l n = 0 then l.flag fCY else (l'.v d).getLsbD 0) ∧
    ZN l' (l'.v d) ∧ l.Goes { v := [d], flags := [fZR, fNG, fCY] } (l.c.pc + 1) 1 l') ∧
  (∀ a b, LaneDoes (.zCMP a b) fun _ l l' =>
    l'.flag fEQ = decide (l.v a = l.v b) ∧ l'.flag fZR = decide (l.v a = l.v b) ∧
    l'.flag fNG = decide ((l.v a).toInt < (l.v b).toInt) ∧ l'.flag fCY = decide ((l.v a).toNat < (l.v b).toNat) ∧
    l.Goes { flags := [fEQ, fZR, fNG, fCY] } (l.c.pc + 1) 1 l') ∧
  (∀ a n, LaneDoes (.zCMPI a n) fun _ l l' =>
    let b : Word := BitVec.ofInt 32 (sgn 12 n)
    l'.flag fEQ = decide (l.v a = b) ∧ l'.flag fZR = decide (l.v a = b) ∧
    l'.flag fNG = decide ((l.v a).toInt < sgn 12 n) ∧ l'.flag fCY = decide ((l.v a).toNat < b.toNat) ∧
    l.Goes { flags := [fEQ, fZR, fNG, fCY] } (l.c.pc + 1) 1 l')

/-- LDIX loads 20 bits, MOVIX a register's low 20 bits with OV when the rest is not 0, ADDIX adds a signed number modulo
2^20 with ZR, RDIX reads. JMP goes to its target; JC goes there when the flag or BA named by SEL has the sense asked for,
else to the next step; LOOP counts IXn down modulo 2^20 and goes to its target while it is not 0. CLRF clears the flags its
mask names, RDF reads flags and BA. Nothing else changes. -/
def Obligations.LaneIndexAndFlow : Prop :=
  (∀ x n, n < 2 ^ 20 → LaneDoes (.zLDIX x n) fun _ l l' => l'.ix x = n ∧ l.Goes { ix := [x] } (l.c.pc + 1) 1 l') ∧
  (∀ x a, LaneDoes (.zMOVIX x a) fun _ l l' =>
    l'.ix x = (l.v a).toNat % 2 ^ 20 ∧ l'.flag fOV = (l.flag fOV || decide (1048575 < (l.v a).toNat)) ∧
    l.Goes { ix := [x], flags := [fOV] } (l.c.pc + 1) 1 l') ∧
  (∀ x n, LaneDoes (.zADDIX x n) fun _ l l' =>
    (l'.ix x : Int) = ((l.ix x : Int) + sgn 20 n) % 2 ^ 20 ∧ l'.flag fZR = decide (l'.ix x = 0) ∧
    l.Goes { ix := [x], flags := [fZR] } (l.c.pc + 1) 1 l') ∧
  (∀ d x, LaneDoes (.zRDIX d x) fun _ l l' => l'.v d = BitVec.ofNat 32 (l.ix x) ∧ l.Goes { v := [d] } (l.c.pc + 1) 1 l') ∧
  (LaneDoes .zNOP fun _ l l' => l.Goes {} (l.c.pc + 1) 1 l') ∧
  (∀ t, LaneDoes (.zJMP t) fun _ l l' => l.Goes {} t 2 l') ∧
  (∀ c sense t, c ≤ 6 → LaneDoes (.zJC c sense t) fun _ l l' =>
    if (if c = 6 then l.c.ba else l.flag c) = !sense then l.Goes {} t 2 l' else l.Goes {} (l.c.pc + 1) 1 l') ∧
  (∀ x t, LaneDoes (.zLOOP x t) fun _ l l' =>
    (l'.ix x : Int) = ((l.ix x : Int) - 1) % 2 ^ 20 ∧
    if l'.ix x = 0 then l.Goes { ix := [x] } (l.c.pc + 1) 1 l' else l.Goes { ix := [x] } t 2 l') ∧
  (∀ m, m < 64 → LaneDoesIf (fun l => l.c.flags < 64) (.zCLRF m) fun _ l l' =>
    (∀ k, k < 6 → l'.flag k = (l.flag k && !(m.testBit k))) ∧ l.Goes { flags := List.range 6 } (l.c.pc + 1) 1 l') ∧
  (∀ d, LaneDoes (.zRDF d) fun _ l l' =>
    l'.v d = BitVec.ofNat 32 (l.c.flags + if l.c.ba then 256 else 0) ∧ l.Goes { v := [d] } (l.c.pc + 1) 1 l')

/-- FADD, FSUB, FMUL, FDIV, FSQRT and ITOF give the binary32 result rounded to nearest even as the model's F32 computes it,
the quiet NaN 0x7FC00000 for a NaN operand; FABS and FNEG change the sign bit; FMIN and FMAX give the other operand for one
NaN and 0x7FC00000 for two; FCMP sets EQ, NG, CY as R224 says with unordered operands; FTOI gives 0 with OV for NaN. ZR is
set for a zero of either sign, NG for a negative number; OV is untouched by all but FTOI. Nothing else changes. -/
def Obligations.LaneFloats : Prop :=
  (∀ d a b, LaneDoes (.zFADD d a b) fun _ l l' =>
    l'.v d = BitVec.ofNat 32 (F32.add (l.v a).toNat (l.v b).toNat) ∧ (nanW (l.v a) ∨ nanW (l.v b) → l'.v d = 0x7FC00000) ∧
    ZNF l' (l'.v d) ∧ l.Goes { v := [d], flags := [fZR, fNG] } (l.c.pc + 1) 4 l') ∧
  (∀ d a b, LaneDoes (.zFSUB d a b) fun _ l l' =>
    l'.v d = BitVec.ofNat 32 (F32.sub (l.v a).toNat (l.v b).toNat) ∧ (nanW (l.v a) ∨ nanW (l.v b) → l'.v d = 0x7FC00000) ∧
    ZNF l' (l'.v d) ∧ l.Goes { v := [d], flags := [fZR, fNG] } (l.c.pc + 1) 4 l') ∧
  (∀ d a b, LaneDoes (.zFMUL d a b) fun _ l l' =>
    l'.v d = BitVec.ofNat 32 (F32.mul (l.v a).toNat (l.v b).toNat) ∧ (nanW (l.v a) ∨ nanW (l.v b) → l'.v d = 0x7FC00000) ∧
    ZNF l' (l'.v d) ∧ l.Goes { v := [d], flags := [fZR, fNG] } (l.c.pc + 1) 4 l') ∧
  (∀ d a b, LaneDoes (.zFDIV d a b) fun _ l l' =>
    l'.v d = BitVec.ofNat 32 (F32.div (l.v a).toNat (l.v b).toNat) ∧ (nanW (l.v a) ∨ nanW (l.v b) → l'.v d = 0x7FC00000) ∧
    ZNF l' (l'.v d) ∧ l.Goes { v := [d], flags := [fZR, fNG] } (l.c.pc + 1) 20 l') ∧
  (∀ d a, LaneDoes (.zFSQRT d a) fun _ l l' =>
    l'.v d = BitVec.ofNat 32 (F32.sqrt (l.v a).toNat) ∧ (nanW (l.v a) → l'.v d = 0x7FC00000) ∧
    ZNF l' (l'.v d) ∧ l.Goes { v := [d], flags := [fZR, fNG] } (l.c.pc + 1) 24 l') ∧
  (∀ d a, LaneDoes (.zFABS d a) fun _ l l' =>
    l'.v d = l.v a &&& 0x7FFFFFFF ∧ ZNF l' (l'.v d) ∧ l.Goes { v := [d], flags := [fZR, fNG] } (l.c.pc + 1) 1 l') ∧
  (∀ d a, LaneDoes (.zFNEG d a) fun _ l l' =>
    l'.v d = l.v a ^^^ 0x80000000 ∧ ZNF l' (l'.v d) ∧ l.Goes { v := [d], flags := [fZR, fNG] } (l.c.pc + 1) 1 l') ∧
  (∀ d a b, LaneDoes (.zFMIN d a b) fun _ l l' =>
    (nanW (l.v a) → nanW (l.v b) → l'.v d = 0x7FC00000) ∧ (nanW (l.v a) → ¬nanW (l.v b) → l'.v d = l.v b) ∧
    (¬nanW (l.v a) → nanW (l.v b) → l'.v d = l.v a) ∧
    (l.v a = 0 → l.v b = 0x80000000 → l'.v d = 0x80000000) ∧ (l.v a = 0x80000000 → l.v b = 0 → l'.v d = 0x80000000) ∧
    ZNF l' (l'.v d) ∧ l.Goes { v := [d], flags := [fZR, fNG] } (l.c.pc + 1) 2 l') ∧
  (∀ d a b, LaneDoes (.zFMAX d a b) fun _ l l' =>
    (nanW (l.v a) → nanW (l.v b) → l'.v d = 0x7FC00000) ∧ (nanW (l.v a) → ¬nanW (l.v b) → l'.v d = l.v b) ∧
    (¬nanW (l.v a) → nanW (l.v b) → l'.v d = l.v a) ∧
    (l.v a = 0 → l.v b = 0x80000000 → l'.v d = 0) ∧ (l.v a = 0x80000000 → l.v b = 0 → l'.v d = 0) ∧
    ZNF l' (l'.v d) ∧ l.Goes { v := [d], flags := [fZR, fNG] } (l.c.pc + 1) 2 l') ∧
  (∀ a b, LaneDoes (.zFCMP a b) fun _ l l' =>
    (l'.flag fCY = true ↔ nanW (l.v a) ∨ nanW (l.v b)) ∧ (l'.flag fCY = true → l'.flag fEQ = false ∧ l'.flag fNG = false) ∧
    (l.v a = l.v b → ¬nanW (l.v a) → l'.flag fEQ = true) ∧ (l.v a = 0 → l.v b = 0x80000000 → l'.flag fEQ = true) ∧
    l.Goes { flags := [fCY, fEQ, fNG] } (l.c.pc + 1) 2 l') ∧
  (∀ d a, LaneDoes (.zITOF d a) fun _ l l' =>
    l'.v d = BitVec.ofNat 32 (F32.ofInt (l.v a).toInt) ∧ ZNF l' (l'.v d) ∧
    l.Goes { v := [d], flags := [fZR, fNG] } (l.c.pc + 1) 3 l') ∧
  (∀ d a, LaneDoes (.zFTOI d a) fun _ l l' =>
    l'.v d = BitVec.ofNat 32 (F32.ftoi (l.v a).toNat).1 ∧ l'.flag fOV = (l.flag fOV || (F32.ftoi (l.v a).toNat).2) ∧
    (nanW (l.v a) → l'.v d = 0 ∧ l'.flag fOV = true) ∧ ZN l' (l'.v d) ∧
    l.Goes { v := [d], flags := [fZR, fNG, fOV] } (l.c.pc + 1) 3 l')

/-- BMOV and BFILL are the word by word copy in ascending order, each word on its own under R207, then add n to IX0 and IX1
(BFILL: to IX1). EVARM, EVDIS, SNHOLD and SNREL act only when BA = 1 and then put their request on the commit list; a 65th
request, and EVARM or EVDIS beyond entry 1,023, is dropped with OV. CAPRD reads a word of the capture buffer (0 with OV
beyond it), CAPPTR the writing position, RDTIM station time into a register and its successor. Nothing else changes. -/
def Obligations.LaneBlocksAndRequests : Prop :=
  (∀ sa da n, LaneDoes (.zBMOV sa da n) fun e l l' =>
    (l'.ix 0 : Int) = (l.ix 0 + n) % 2 ^ 20 ∧ (l'.ix 1 : Int) = (l.ix 1 + n) % 2 ^ 20 ∧
    (∀ a k, areaByte e l' a k = areaByte e ((List.range n).foldl (fun x j =>
      writeN e x da ((l.ix 1 + j) * 4) 4 (wordIn e x sa ((l.ix 0 + j) * 4) 4)) l) a k) ∧
    l.Goes { ix := [0, 1], flags := [fOV], mem := true } (l.c.pc + 1) (4 + 4 * n) l') ∧
  (∀ da n, LaneDoes (.zBFILL da n) fun e l l' =>
    (l'.ix 1 : Int) = (l.ix 1 + n) % 2 ^ 20 ∧
    (∀ a k, areaByte e l' a k = areaByte e ((List.range n).foldl (fun x j =>
      writeN e x da ((l.ix 1 + j) * 4) 4 (l.v 0).toNat) l) a k) ∧
    l.Goes { ix := [1], flags := [fOV], mem := true } (l.c.pc + 1) (4 + 2 * n) l') ∧
  (∀ a b, LaneDoes (.zEVARM a b) fun _ l l' =>
    Requests l l' (decide ((l.v a).toNat ≤ 1023)) (.evArm (l.v a).toNat (l.v b).toNat) 6) ∧
  (∀ a, LaneDoes (.zEVDIS a) fun _ l l' => Requests l l' (decide ((l.v a).toNat ≤ 1023)) (.evDis (l.v a).toNat) 4) ∧
  (∀ k, LaneDoes (.zSNHOLD k) fun _ l l' => Requests l l' true (.snHold k) 2) ∧
  (∀ k, LaneDoes (.zSNREL k) fun _ l l' => Requests l l' true (.snRel k) 2) ∧
  (∀ d a x, LaneDoes (.zCAPRD d a x) fun e l l' =>
    l'.v d = BitVec.ofNat 32 (if l.ix x < 16384 then memGet (e.caps.getD a []) (4 * l.ix x) 4 else 0) ∧
    l'.flag fOV = (l.flag fOV || decide (16384 ≤ l.ix x)) ∧ l.Goes { v := [d], flags := [fOV] } (l.c.pc + 1) 4 l') ∧
  (∀ d a, LaneDoes (.zCAPPTR d a) fun e l l' =>
    l'.v d = BitVec.ofNat 32 (e.capPos.getD a 0 % 65536 / 4) ∧ l.Goes { v := [d] } (l.c.pc + 1) 3 l') ∧
  (∀ d, d < 16 → LaneDoes (.zRDTIM d) fun e l l' =>
    l'.v d = BitVec.ofNat 32 e.station ∧ l'.v ((d + 1) % 16) = BitVec.ofNat 32 (e.station / 2 ^ 32) ∧
    l.Goes { v := [d, (d + 1) % 16] } (l.c.pc + 1) 2 l')

/-- While the link domain runs, a clock on a DOWN port that no strap holds takes it to TRAINING; a trained port is UP, and a
module in TRAINING becomes UNPLACED with it; a fault on an UP port adds its code errors, counts a lock loss and makes the
port FAULTED and wrapped; a FAULTED port that is not held qualifies; 1,000 station ticks later it is READY, still wrapped; a
code error takes it back to FAULTED. Each change is recorded as PORT_STATE. Nothing outside the named fields, the recorder
and the interrupt controller changes; before the link PLL runs a clock also chooses the reference port and leaves the port
states. -/
def Obligations.PortStates : Prop :=
  (∀ (dt : Elapsed) (s : State) (p : Port), let a := advance dt s
    (a.time.link = true) →
    (a.port p = pDOWN) →
    (a.heldPort p = false) →
    Does (.portClockDetect dt p) s fun t =>
      t.port p = pTRAINING ∧
      t.clockOn p = true ∧
      t.clockOn (otherPort p) = a.clockOn (otherPort p) ∧
      Logged Ev.PORT_STATE [portNo p, pTRAINING] a t ∧
      Moves (traceParts ++ [.clk]) traceObjs [F.CLK_STATUS_REFPORT, F.NRL_CTRL_PA_ST, F.NRL_PORTA_LINK_LOCK_LOSS_A, F.NRL_PORTB_LINK_LOCK_LOSS_B, F.NRL_STATE_CLKSRC, F.NRL_STATE_MOD_ST, F.NRL_STATE_PB_ST, F.NRL_STATE_WRAP_A, F.NRL_STATE_WRAP_B] a t) ∧
  (∀ (dt : Elapsed) (s : State) (p : Port), let a := advance dt s
    (a.time.link = false) →
    Does (.portClockDetect dt p) s fun t =>
      t.clockOn p = true ∧
      t.port p = a.port p ∧
      t.rd F.CLK_STATUS_REFPORT = b2n (!t.clk.clkA) ∧
      t.rd F.NRL_STATE_CLKSRC = b2n (!t.clk.clkA) ∧
      Moves (traceParts ++ [.clk]) traceObjs [F.CLK_STATUS_REFPORT, F.NRL_CTRL_PA_ST, F.NRL_PORTA_LINK_LOCK_LOSS_A, F.NRL_PORTB_LINK_LOCK_LOSS_B, F.NRL_STATE_CLKSRC, F.NRL_STATE_MOD_ST, F.NRL_STATE_PB_ST, F.NRL_STATE_WRAP_A, F.NRL_STATE_WRAP_B] a t) ∧
  (∀ (dt : Elapsed) (s : State) (p : Port), let a := advance dt s
    (a.port p = pTRAINING) →
    Does (.portTrained dt p) s fun t =>
      t.port p = pUP ∧
      t.rd (wrapFld p) = 0 ∧
      (t.rd F.NRL_STATE_MOD_ST = if a.rd F.NRL_STATE_MOD_ST = 1 then 2 else a.rd F.NRL_STATE_MOD_ST) ∧
      t.port (otherPort p) = a.port (otherPort p) ∧
      Logged Ev.PORT_STATE [portNo p, pUP] a t ∧
      Moves traceParts traceObjs [F.NRL_CTRL_PA_ST, F.NRL_PORTA_LINK_LOCK_LOSS_A, F.NRL_PORTB_LINK_LOCK_LOSS_B, F.NRL_STATE_MOD_ST, F.NRL_STATE_PB_ST, F.NRL_STATE_WRAP_A, F.NRL_STATE_WRAP_B] a t) ∧
  (∀ (dt : Elapsed) (s : State) (p : Port) (n : Nat), let a := advance dt s
    (a.port p = pUP) →
    Does (.portFault dt p n) s fun t =>
      t.port p = pFAULTED ∧
      t.rd (wrapFld p) = 1 ∧
      t.rd (codeErr p) = min (2 ^ (codeErr p).width - 1) (a.rd (codeErr p) + n) ∧
      t.rd (lockLoss p) = min (2 ^ (lockLoss p).width - 1) (a.rd (lockLoss p) + 1) ∧
      t.port (otherPort p) = a.port (otherPort p) ∧
      Logged Ev.PORT_STATE [portNo p, pFAULTED] a t ∧
      Moves traceParts traceObjs [F.NRL_CTRL_PA_ST, F.NRL_PORTA_ERR_CODE_ERR_A, F.NRL_PORTA_LINK_LOCK_LOSS_A, F.NRL_PORTB_ERR_CODE_ERR_B, F.NRL_PORTB_LINK_LOCK_LOSS_B, F.NRL_STATE_MOD_ST, F.NRL_STATE_PB_ST, F.NRL_STATE_WRAP_A, F.NRL_STATE_WRAP_B] a t) ∧
  (∀ (dt : Elapsed) (s : State) (p : Port), let a := advance dt s
    (a.port p = pFAULTED) →
    (a.heldPort p = false) →
    Does (.portQualify dt p) s fun t =>
      t.port p = pQUALIFYING ∧
      t.rd (wrapFld p) = 1 ∧
      t.qualFrom p = a.time.now ∧
      Moves traceParts traceObjs [F.NRL_CTRL_PA_ST, F.NRL_PORTA_LINK_LOCK_LOSS_A, F.NRL_PORTB_LINK_LOCK_LOSS_B, F.NRL_STATE_MOD_ST, F.NRL_STATE_PB_ST, F.NRL_STATE_WRAP_A, F.NRL_STATE_WRAP_B] a t) ∧
  (∀ (dt : Elapsed) (s : State) (p : Port), let a := advance dt s
    (a.port p = pQUALIFYING) →
    (a.qualFrom p + 1000000 ≤ a.time.now) →
    Does (.portReady dt p) s fun t =>
      t.port p = pREADY ∧
      t.rd (wrapFld p) = 1 ∧
      Logged Ev.PORT_STATE [portNo p, pREADY] a t ∧
      Moves traceParts traceObjs [F.NRL_CTRL_PA_ST, F.NRL_PORTA_LINK_LOCK_LOSS_A, F.NRL_PORTB_LINK_LOCK_LOSS_B, F.NRL_STATE_MOD_ST, F.NRL_STATE_PB_ST, F.NRL_STATE_WRAP_A, F.NRL_STATE_WRAP_B] a t) ∧
  (∀ (dt : Elapsed) (s : State) (p : Port), let a := advance dt s
    (a.port p = pQUALIFYING) →
    Does (.qualifyingCodeError dt p) s fun t =>
      t.port p = pFAULTED ∧
      t.rd (codeErr p) = min (2 ^ (codeErr p).width - 1) (a.rd (codeErr p) + 1) ∧
      t.rd (wrapFld p) = 1 ∧
      Moves traceParts traceObjs [F.NRL_CTRL_PA_ST, F.NRL_PORTA_ERR_CODE_ERR_A, F.NRL_PORTA_LINK_LOCK_LOSS_A, F.NRL_PORTB_ERR_CODE_ERR_B, F.NRL_PORTB_LINK_LOCK_LOSS_B, F.NRL_STATE_MOD_ST, F.NRL_STATE_PB_ST, F.NRL_STATE_WRAP_A, F.NRL_STATE_WRAP_B] a t)

/-- An unwrap waits for its apply cinch; at that cinch, with the other port not wrapped, a READY port that no strap holds
enters UP and loses its wrap, and a port that is wrapped and not READY stays and sets UNWRAP_FAIL. NRL.TIME waits in a
placed module for its cinch. A good MGMT_W frame that names NRL.CYCLE acts at once with an apply cinch of 0 while the module
is in STOP, and otherwise is held, words and all; a held write of CYCLE takes effect once its cinch has latched and is held
no longer. A good MGMT_R frame without ACKREQ queues one MGMT_RSP sub-record with the words read. Frames and side effects
are as listed, nothing else changes. -/
def Obligations.LinkRegisters : Prop :=
  (∀ (dt : Elapsed) (s : State) (n : Nat), let a := advance dt s
    (n ≠ 0) →
    Does (.unwrap dt n) s fun t =>
      t.ring.pendUnwrap = some n ∧
      t = { a with ring := { a.ring with pendUnwrap := some n } }) ∧
  (∀ (dt : Elapsed) (s : State) (n : Nat) (p : Port), let a := advance dt s
    (a.ring.pendUnwrap = some n) →
    (a.cinchPassed n = true) →
    (a.port p = pREADY) →
    (a.heldPort p = false) →
    (a.port (otherPort p) = pUP) →
    Does (.unwrapApply dt) s fun t =>
      t.ring.pendUnwrap = none ∧
      t.port p = pUP ∧
      t.rd (wrapFld p) = 0 ∧
      t.port (otherPort p) = pUP ∧
      t.rd F.NRL_CTRL_UNWRAP_FAIL = a.rd F.NRL_CTRL_UNWRAP_FAIL ∧
      Moves traceParts traceObjs [F.CLK_STATUS_REFPORT, F.NRL_CTRL_PA_ST, F.NRL_CTRL_UNWRAP_FAIL, F.NRL_PORTA_LINK_LOCK_LOSS_A, F.NRL_PORTB_LINK_LOCK_LOSS_B, F.NRL_STATE_CLKSRC, F.NRL_STATE_MOD_ST, F.NRL_STATE_PB_ST, F.NRL_STATE_WRAP_A, F.NRL_STATE_WRAP_B] a t) ∧
  (∀ (dt : Elapsed) (s : State) (n : Nat) (p : Port), let a := advance dt s
    (a.ring.pendUnwrap = some n) →
    (a.cinchPassed n = true) →
    (a.port p = pFAULTED) →
    (a.heldPort p = false) →
    (a.port (otherPort p) = pUP) →
    Does (.unwrapApply dt) s fun t =>
      t.ring.pendUnwrap = none ∧
      t.port p = pFAULTED ∧
      t.rd F.NRL_CTRL_UNWRAP_FAIL = 1 ∧
      t.port (otherPort p) = pUP ∧
      Moves traceParts traceObjs [F.CLK_STATUS_REFPORT, F.NRL_CTRL_PA_ST, F.NRL_CTRL_UNWRAP_FAIL, F.NRL_PORTA_LINK_LOCK_LOSS_A, F.NRL_PORTB_LINK_LOCK_LOSS_B, F.NRL_STATE_CLKSRC, F.NRL_STATE_MOD_ST, F.NRL_STATE_PB_ST, F.NRL_STATE_WRAP_A, F.NRL_STATE_WRAP_B] a t) ∧
  (∀ (dt : Elapsed) (s : State) (n v : Nat), let a := advance dt s
    (a.placed = true) →
    (n ≠ 0) →
    Does (.nrlTime dt n v) s fun t =>
      t = { a with ring := { a.ring with pendTime := some (n, v % 2 ^ 64) } }) ∧
  (∀ (dt : Elapsed) (s : State) (v : Nat), let a := advance dt s
    (a.placed = true) →
    Does (.nrlTime dt 0 v) s fun t =>
      t.station = v % 2 ^ 64 ∧
      t.time.stHeld = false ∧
      t.ring.pendTime = a.ring.pendTime ∧
      Moves (traceParts ++ [.time, .rtc]) traceObjs [] a t) ∧
  (∀ (dt : Elapsed) (s : State) (f : RxFrame) (w n : Nat), let a := advance dt s
    (Hears a f 4) →
    (a.placed = true) →
    (f.ackreq = false) →
    (f.body = leBytes 2 0x10 ++ leBytes 2 1 ++ leBytes 4 n ++ leBytes 4 w) →
    (n < 2 ^ 32) →
    (w < 2 ^ 24) →
    (n ≠ 0) →
    ((a.timed && a.cinchPassed n) = false) →
    Does (.mgmtW dt f) s fun t =>
      t.ring.held = a.ring.held ++ [⟨n, 0x10, [w]⟩] ∧
      t.rd F.NRL_CYCLE_CYCLE = a.rd F.NRL_CYCLE_CYCLE ∧
      t.ring.subq = a.ring.subq ∧
      Moves [.ring] [] [] a t) ∧
  (∀ (dt : Elapsed) (s : State) (f : RxFrame) (w : Nat), let a := advance dt s
    (Hears a f 4) →
    (a.placed = true) →
    (f.ackreq = false) →
    (a.mode = mSTOP) →
    (f.body = leBytes 2 0x10 ++ leBytes 2 1 ++ leBytes 4 0 ++ leBytes 4 w) →
    (w < 2 ^ 24) →
    Does (.mgmtW dt f) s fun t =>
      t.rd F.NRL_CYCLE_CYCLE = w ∧
      t.ring.held = a.ring.held ∧
      t.mode = mSTOP ∧
      Moves [.ring] [F.objNRL_CYCLE] [F.SCN_MODE_CAUSE_PERSISTS] a t) ∧
  (∀ (dt : Elapsed) (s : State) (n w : Nat), let a := advance dt s
    (a.ring.held = [⟨n, 0x10, [w]⟩]) →
    (a.cinchPassed n = true) →
    (a.mode = mSTOP) →
    Does (.linkRegApply dt) s fun t =>
      t.ring.held = [] ∧
      t.rd F.NRL_CYCLE_CYCLE = w % 2 ^ 24 ∧
      t.mode = mSTOP ∧
      Moves [.ring] [F.objNRL_CYCLE] [F.SCN_MODE_CAUSE_PERSISTS] a t) ∧
  (∀ (dt : Elapsed) (s : State) (f : RxFrame), let a := advance dt s
    (Hears a f 5) →
    (a.placed = true) →
    (f.ackreq = false) →
    (f.body.length = 4) →
    (linkMapped (leAt f.body 0 2) (leAt f.body 2 2) = true) →
    Does (.mgmtR dt f) s fun t =>
      (t.ring.subq = a.ring.subq ++ [.sub (subRecord a 4 0xFE (leBytes 4 f.fseq ++ leBytes 2 (leAt f.body 0 2) ++ leBytes 2 (leAt f.body 2 2) ++ (linkRead (leAt f.body 2 2) (pass a f) (leAt f.body 0 2)).1.foldr (fun w l => leBytes 4 w ++ l) []))]) ∧
      Moves [.ring] linkClears [] a t)

/-- A good ASSIGN that a module not TIMED hears gives it NEXT as its position when NEXT is at most 63: it is PLACED,
FSEQ_HIGH and the frames on record restart, a pending NRL.TIME is dropped, and NEXT goes on one further in the frame's
direction. Beyond 63 it has no position and is UNPLACED. A good VERIFY changes no state of the module; the frame goes on
with NEXT one further and with this module's MISMATCH bit set when its position differs. Nothing outside the named fields
changes. -/
def Obligations.Enumeration : Prop :=
  (∀ (dt : Elapsed) (s : State) (f : RxFrame) (n : Nat), let a := advance dt s
    (Hears a f 6) →
    (f.len = 12) →
    (leAt f.body 0 1 = 1) →
    (leAt f.body 1 1 = n) →
    (n ≤ 63) →
    (f.ackreq = false) →
    (a.timed = false) →
    (a.port (otherPort f.port) = pUP) →
    Does (.enumAssign dt f) s fun t =>
      t.rd F.NRL_POS_POS = n ∧
      t.rd F.NRL_POS_PLACED = 1 ∧
      t.rd F.NRL_STATE_MOD_ST = 3 ∧
      t.rd F.NRL_FSEQ_HIGH_HIGH = 0 ∧
      t.rd F.CLK_START_TIMED = 0 ∧
      t.ring.seen = [] ∧
      t.ring.pendTime = none ∧
      (∃ x, t.ring.lastTx = [x] ∧ x.port = otherPort f.port ∧ leAt x.bytes 33 1 = nextOn f.port n) ∧
      Moves [.ring, .pair] [] [F.NRL_POS_POS, F.NRL_POS_PLACED, F.NRL_STATE_MOD_ST, F.NRL_FSEQ_HIGH_HIGH, F.CLK_START_TIMED] a t) ∧
  (∀ (dt : Elapsed) (s : State) (f : RxFrame), let a := advance dt s
    (Hears a f 6) →
    (f.len = 12) →
    (leAt f.body 0 1 = 1) →
    (63 < leAt f.body 1 1) →
    (f.ackreq = false) →
    (a.timed = false) →
    Does (.enumAssign dt f) s fun t =>
      t.rd F.NRL_POS_POS = 0x3F ∧
      t.rd F.NRL_POS_PLACED = 0 ∧
      t.rd F.NRL_STATE_MOD_ST = 2 ∧
      t.placed = false ∧
      Moves [.ring] [] [F.NRL_POS_POS, F.NRL_POS_PLACED, F.NRL_STATE_MOD_ST, F.NRL_FSEQ_HIGH_HIGH, F.CLK_START_TIMED] a t) ∧
  (∀ (dt : Elapsed) (s : State) (f : RxFrame) (n : Nat), let a := advance dt s
    (Hears a f 6) →
    (f.len = 12) →
    (leAt f.body 0 1 = 2) →
    (leAt f.body 1 1 = n) →
    (f.ackreq = false) →
    (a.port (otherPort f.port) = pUP) →
    (a.rd F.NRL_POS_POS < 64) →
    Does (.enumVerify dt f) s fun t =>
      (∃ x, t.ring.lastTx = [x] ∧ x.port = otherPort f.port ∧ leAt x.bytes 33 1 = nextOn f.port n ∧ ((leAt x.bytes (36 + a.rd F.NRL_POS_POS / 8) 1).testBit (a.rd F.NRL_POS_POS % 8) = ((leAt f.bytes (36 + a.rd F.NRL_POS_POS / 8) 1).testBit (a.rd F.NRL_POS_POS % 8) || !(a.placed && decide (n = a.rd F.NRL_POS_POS))))) ∧
      Moves [.ring] [] [] a t)

/-- A CINCH set with a good check byte and no latch set for its number gives a TIMED module a latch at its arrival plus the
port's delay; with a bad check byte it counts NUMERR and stands for the next number. At that instant the module latches: the
cinch number and the instant of the latch are the marker's and no substitute runs any more; a latch more than 2 µs from E
counts JITTER. With no marker by E - 2 µs the substitute latch is made at E, numbered next, and counted, at most twice in a
row; then CINCH_LOST is set and latching stops. At a T0 period boundary that is no cinch latch the module latches locally
and builds an image of kind 2. A good PROBE set stores its arrival and ID at its port. Nothing outside the named parts and
fields changes. -/
def Obligations.MarkersAndLatches : Prop :=
  (∀ (dt : Elapsed) (s : State) (p : Port) (lanes r0 r1 fl ck n : Nat), let a := advance dt s
    (a.hears p = true) →
    (3 ≤ lanes) →
    (a.timed = true) →
    (a.rd F.NRL_CYCLE_CYCLE ≠ 0) →
    (crc8 [r0, r1, fl] = ck) →
    (n = nearest ((a.ring.cinch + 1) % 2 ^ 32) (r0 % 256 + 256 * (r1 % 256))) →
    (after32 n a.ring.cinch = true) →
    (a.substFixed = false) →
    (∀ d ∈ a.ring.due, d.cinch ≠ n) →
    Does (.cinchMarker dt p lanes r0 r1 fl ck) s fun t =>
      t.ring.due = a.ring.due ++ [⟨n, a.time.now + a.delay p, p, fl.testBit 0⟩] ∧
      t.img.closedFor = some n ∧
      Moves [.ring, .img] [] [] a t) ∧
  (∀ (dt : Elapsed) (s : State) (p : Port) (lanes r0 r1 fl ck n : Nat), let a := advance dt s
    (a.hears p = true) →
    (3 ≤ lanes) →
    (a.timed = true) →
    (a.rd F.NRL_CYCLE_CYCLE ≠ 0) →
    (crc8 [r0, r1, fl] ≠ ck) →
    (n = (a.ring.cinch + 1) % 2 ^ 32) →
    (after32 n a.ring.cinch = true) →
    (a.substFixed = false) →
    (a.ring.due = []) →
    Does (.cinchMarker dt p lanes r0 r1 fl ck) s fun t =>
      t.ring.due = [⟨n, a.time.now + a.delay p, p, false⟩] ∧
      t.rd F.NRL_CINCH_ERR_CINCH_NUMERR = min (2 ^ F.NRL_CINCH_ERR_CINCH_NUMERR.width - 1) (a.rd F.NRL_CINCH_ERR_CINCH_NUMERR + 1) ∧
      Moves [.ring, .img] [] [F.NRL_CINCH_ERR_CINCH_NUMERR] a t) ∧
  (∀ (dt : Elapsed) (s : State) (bad : Nat) (d : DueLatch) (ds : List DueLatch), let a := advance dt s
    (a.ring.due = d :: ds) →
    (d.at_ ≤ a.time.now) →
    Does (.cinchLatch dt bad) s fun t =>
      t.ring.cinch = d.cinch ∧
      t.ring.latched = true ∧
      t.ring.lastLatch = d.at_ ∧
      t.ring.due = ds ∧
      t.ring.substRun = 0 ∧
      (t.rd F.NRL_CINCH_ERR_CINCH_JITTER = if a.ring.latching = true ∧ 2000 < apart d.at_ a.expected then min (2 ^ F.NRL_CINCH_ERR_CINCH_JITTER.width - 1) (a.rd F.NRL_CINCH_ERR_CINCH_JITTER + 1) else a.rd F.NRL_CINCH_ERR_CINCH_JITTER) ∧
      Moves (traceParts ++ [.time, .clk, .mbx, .img, .scn, .prg, .fld, .ana, .ang, .plt, .pair, .rtc, .sec]) (traceObjs ++ [F.objAG_GSTAT, F.objIMG_PINS, F.objPLT_COUNT, F.objPLT_LANE, F.objSCN_MODE, F.objSEC_FW]) [F.ANG_EV_STATE, F.CLK_LOST_CYCLES_COUNT, F.CLK_START_TIMED, F.DG_CHSTAT_CLAMP, F.DG_CHSTAT_PRESENT, F.DG_COS_COS, F.DG_GSTAT_BC_V, F.DG_GSTAT_RATE, F.DG_GSTAT_WORD, F.IMG_STATUS_PHOLDS, F.IMG_STATUS_PINNED, F.IMG_STATUS_PIN_BROKEN, F.IMG_STATUS_STAGE_FREE, F.IMG_STATUS_STALE_PEER, F.MBX_QUEUES_CQ_FREE, F.MBX_QUEUES_CR_FREE, F.MBX_USE_HANDLES_USED, F.MBX_USE_SESSIONS_OPEN, F.NRL_CINCH_ERR_CINCH_JITTER, F.NRL_STATE_MOD_ST, F.PLT_PSTATE_CONFLICTS, F.PLT_PSTATE_LEASED, F.PLT_PSTATE_MIR_MISS, F.PLT_PSTATE_ROLE, F.PPR_WINSTAT_EVENT, F.PRG_ACT_DROPPED, F.PRG_ACT_LAGGED, F.PRG_ACT_PENDING, F.SCN_TSTAT_RUNSKIP, F.SCN_TSTAT_SKIPS] a t) ∧
  (∀ (dt : Elapsed) (s : State) (bad : Nat), let a := advance dt s
    (a.substFixed = true) →
    (a.expected ≤ a.time.now) →
    (a.ring.substRun < 2) →
    Does (.substituteLatch dt bad) s fun t =>
      t.ring.cinch = (a.ring.cinch + 1) % 2 ^ 32 ∧
      t.ring.lastLatch = a.expected ∧
      t.ring.substRun = a.ring.substRun + 1 ∧
      t.rd F.NRL_CINCH_CNT_CINCH_SUBST = min (2 ^ F.NRL_CINCH_CNT_CINCH_SUBST.width - 1) (a.rd F.NRL_CINCH_CNT_CINCH_SUBST + 1) ∧
      Moves (traceParts ++ [.time, .clk, .mbx, .img, .scn, .prg, .fld, .ana, .ang, .plt, .pair, .rtc, .sec]) (traceObjs ++ [F.objAG_GSTAT, F.objIMG_PINS, F.objPLT_COUNT, F.objPLT_LANE, F.objSCN_MODE, F.objSEC_FW]) [F.ANG_EV_STATE, F.CLK_LOST_CYCLES_COUNT, F.CLK_START_TIMED, F.DG_CHSTAT_CLAMP, F.DG_CHSTAT_PRESENT, F.DG_COS_COS, F.DG_GSTAT_BC_V, F.DG_GSTAT_RATE, F.DG_GSTAT_WORD, F.IMG_STATUS_PHOLDS, F.IMG_STATUS_PINNED, F.IMG_STATUS_PIN_BROKEN, F.IMG_STATUS_STAGE_FREE, F.IMG_STATUS_STALE_PEER, F.MBX_QUEUES_CQ_FREE, F.MBX_QUEUES_CR_FREE, F.MBX_USE_HANDLES_USED, F.MBX_USE_SESSIONS_OPEN, F.NRL_CINCH_CNT_CINCH_SUBST, F.NRL_STATE_MOD_ST, F.PLT_PSTATE_CONFLICTS, F.PLT_PSTATE_LEASED, F.PLT_PSTATE_MIR_MISS, F.PLT_PSTATE_ROLE, F.PPR_WINSTAT_EVENT, F.PRG_ACT_DROPPED, F.PRG_ACT_LAGGED, F.PRG_ACT_PENDING, F.SCN_TSTAT_RUNSKIP, F.SCN_TSTAT_SKIPS] a t) ∧
  (∀ (dt : Elapsed) (s : State), let a := advance dt s
    (a.substFixed = true) →
    (a.ring.substRun = 2) →
    (a.rd F.SCN_CFG_CINCH_LOST_ACT ≠ 1) →
    Does (.cinchLost dt) s fun t =>
      t.rd F.NRL_CTRL_CINCH_LOST = 1 ∧
      t.ring.latching = false ∧
      t.ring.due = [] ∧
      t.latch 24 = true ∧
      t.mode = a.mode ∧
      Logged Ev.CINCH_LOST (leBytes 4 a.ring.cinch) a t ∧
      Moves traceParts traceObjs [F.NRL_CTRL_CINCH_LOST, F.SCN_MODE_CAUSE_PERSISTS] a t) ∧
  (∀ (dt : Elapsed) (s : State) (bad : Nat), let a := advance dt s
    (a.ring.localOn = true) →
    (50 ≤ a.rd F.SCN_T_PERIOD 0) →
    (a.nextBoundary ≤ a.time.now) →
    (a.ring.latching = false) →
    (a.mode = mSTOP) →
    (a.clk.image = true) →
    (a.ring.due = []) →
    (a.pair.both = false) →
    (a.fld.reports = []) →
    Does (.localLatch dt bad) s fun t =>
      t.ring.lastLocal = a.nextBoundary ∧
      t.ring.cinch = a.ring.cinch ∧
      t.img.latchKind = 2 ∧
      t.img.latchTime = a.stationAt a.nextBoundary ∧
      t.scn.t0Due = true ∧
      Moves (traceParts ++ [.time, .mbx, .img, .scn, .prg, .fld, .ana, .ang, .plt, .pair]) (traceObjs ++ [F.objAG_GSTAT, F.objPLT_COUNT, F.objPLT_LANE]) [F.ANG_EV_STATE, F.DG_CHSTAT_CLAMP, F.DG_CHSTAT_PRESENT, F.DG_COS_COS, F.DG_GSTAT_BC_V, F.DG_GSTAT_RATE, F.DG_GSTAT_WORD, F.IMG_STATUS_STAGE_FREE, F.IMG_STATUS_STALE_PEER, F.MBX_QUEUES_CQ_FREE, F.MBX_QUEUES_CR_FREE, F.MBX_USE_HANDLES_USED, F.MBX_USE_SESSIONS_OPEN, F.PLT_PSTATE_CONFLICTS, F.PLT_PSTATE_LEASED, F.PLT_PSTATE_ROLE, F.PRG_ACT_PENDING, F.SCN_MODE_CAUSE, F.SCN_MODE_CAUSE_PERSISTS, F.SCN_MODE_MODE, F.SCN_MODE_PENDING] a t) ∧
  (∀ (dt : Elapsed) (s : State) (p : Port) (b0 b1 b2 ck : Nat), let a := advance dt s
    (a.hears p = true) →
    (crc8 [b0, b1, b2] = ck) →
    Does (.probe dt p b0 b1 b2 ck) s fun t =>
      (match p with
      | .A => t.rd F.NRL_PROBE_A_ARRIVAL = (a.time.now - a.time.probeAt) % 2 ^ 32 ∧ t.rd F.NRL_PROBE_ID_ID_A = b0 % 256 ∧
      Moves [] [] [F.NRL_PROBE_A_ARRIVAL, F.NRL_PROBE_ID_ID_A] a t
      | .B => t.rd F.NRL_PROBE_B_ARRIVAL = (a.time.now - a.time.probeAt) % 2 ^ 32 ∧ t.rd F.NRL_PROBE_ID_ID_B = b0 % 256 ∧
      Moves [] [] [F.NRL_PROBE_B_ARRIVAL, F.NRL_PROBE_ID_ID_B] a t))

/-- A carrier that a placed module serves while it has an active HOST source and nothing waits goes on with this position's
ATTNMAP bit set; while a sub-record waits that does not fit, the sub-record stays and the WAITMAP bit is set; a waiting
sub-record that fits is placed at FILL, FILL rises by its length and it waits no longer. A good IMAGE frame that serves this
position goes on with its service count one higher, and an image unit that has no gate open passes it unchanged. A PEER
frame goes on unchanged. Nothing but the ring, the image unit's staging and peers, and the named counters changes. -/
def Obligations.FramesServed : Prop :=
  (∀ (dt : Elapsed) (s : State) (f : RxFrame), let a := advance dt s
    (Hears a f 2) →
    (a.placed = true) →
    (20 ≤ f.body.length) →
    (a.hostActive ≠ []) →
    (a.ring.subq = []) →
    (a.port (otherPort f.port) = pUP) →
    (a.rd F.NRL_POS_POS < 64) →
    Does (.carrier dt f) s fun t =>
      (∃ x, t.ring.lastTx = [x] ∧ x.port = otherPort f.port ∧ (leAt x.bytes (32 + a.rd F.NRL_POS_POS / 8) 1).testBit (a.rd F.NRL_POS_POS % 8) = true) ∧
      t.ring.subq = [] ∧
      Moves [.ring] [] [] a t) ∧
  (∀ (dt : Elapsed) (s : State) (f : RxFrame) (b : List Nat), let a := advance dt s
    (Hears a f 2) →
    (a.placed = true) →
    (20 ≤ f.body.length) →
    (f.body.length = f.len) →
    (a.ring.subq = [.sub b]) →
    (leAt f.body 16 4 + b.length ≤ f.len - 20) →
    (0 < b.length) →
    (a.port (otherPort f.port) = pUP) →
    Does (.carrier dt f) s fun t =>
      t.ring.subq = [] ∧
      (∃ x, t.ring.lastTx = [x] ∧ x.port = otherPort f.port ∧ leAt x.bytes 48 4 = (leAt f.body 16 4 + b.length) % 2 ^ 32 ∧ slice x.bytes (52 + leAt f.body 16 4) b.length = b) ∧
      Moves [.ring] [] [] a t) ∧
  (∀ (dt : Elapsed) (s : State) (f : RxFrame) (b : List Nat), let a := advance dt s
    (Hears a f 2) →
    (a.placed = true) →
    (20 ≤ f.body.length) →
    (a.ring.subq = [.sub b]) →
    (f.len - 20 < leAt f.body 16 4 + b.length) →
    (a.port (otherPort f.port) = pUP) →
    (a.rd F.NRL_POS_POS < 64) →
    Does (.carrier dt f) s fun t =>
      t.ring.subq = [.sub b] ∧
      (∃ x, t.ring.lastTx = [x] ∧ x.port = otherPort f.port ∧ (leAt x.bytes (40 + a.rd F.NRL_POS_POS / 8) 1).testBit (a.rd F.NRL_POS_POS % 8) = true) ∧
      Moves [.ring] [] [] a t) ∧
  (∀ (dt : Elapsed) (s : State) (f : RxFrame) (pos : Nat), let a := advance dt s
    (Hears a f 1) →
    (a.placed = true) →
    (imageLimits f = true) →
    (a.clk.image = true) →
    (a.rd F.NRL_POS_POS = pos) →
    (leAt f.body 4 1 ≤ pos) →
    (pos < leAt f.body 4 1 + leAt f.body 5 1) →
    (a.port (otherPort f.port) = pUP) →
    Does (.imageFrame dt f) s fun t =>
      (∃ x, t.ring.lastTx = [x] ∧ x.port = otherPort f.port ∧ leAt x.bytes 38 2 = (leAt f.body 6 2 + 1) % 65536) ∧
      Moves [.ring, .img] [] [F.IMG_STATUS_DN_FORMAT, F.IMG_STATUS_STAGE_FREE, F.IMG_STATUS_UP_TRUNC, F.IMG_STITCH_DN_DROP, F.IMG_STITCH_UCRC_FAIL, F.NRL_PORTA_ERR_UPSTREAM_ERR_A, F.NRL_PORTA_LINK_CRC_ERR_A, F.NRL_PORTB_ERR_UPSTREAM_ERR_B, F.NRL_PORTB_LINK_CRC_ERR_B] a t) ∧
  (∀ (dt : Elapsed) (s : State) (f : RxFrame), let a := advance dt s
    (Hears a f 7) →
    (a.port (otherPort f.port) = pUP) →
    Does (.peerFrame dt f) s fun t =>
      t.ring.lastTx = [⟨otherPort f.port, f.bytes, f.err⟩] ∧
      t.ring.subq = a.ring.subq ∧
      Moves [.ring, .img] [] [F.IMG_STITCH_UCRC_FAIL, F.NRL_PORTA_ERR_UPSTREAM_ERR_A, F.NRL_PORTA_LINK_CRC_ERR_A, F.NRL_PORTB_ERR_UPSTREAM_ERR_B, F.NRL_PORTB_LINK_CRC_ERR_B] a t)

/-- When the voting lanes of the running execution all meet END and nothing waits or is preempted, the execution leaves the
engine, its voting lanes ENDED after one cycle of END and the 16 of its end (SCN-4), and stands last among those presented
to the voter; nothing else changes. When the next step of every voting lane acts as HALT with one code (a HALT step, 0xFFFE
outside the code, 0xFFFF for an undefined encoding) the lane records the code, HALT is recorded with code, task and step,
nothing runs, waits or is presented any more, and a module in STOP, RUN or HOLD is in FAULT with cause 7. How the model ends
a halt in only some lanes (assumption log 8) is not claimed here. -/
def Obligations.LaneEndAndHalt : Prop :=
  (∀ (s : State) (x : Exec), LaneAt .zEND s x → s.scn.waiting = [] → s.scn.preempted = [] →
    Does .zEND s fun t => ∃ y : Exec,
      t = { s with scn := { s.scn with running := none, presented := s.scn.presented ++ [y] } } ∧
      y = { x with lanes := y.lanes } ∧
      ∀ k, k < 3 → s.votes k = true →
        y.lanes.get k = { x.lanes.get k with run := .ended, cycles := (x.lanes.get k).cycles + 17 }) ∧
  (∀ (s : State) (x : Exec) (c pc : Nat), s.clk.lane = true → s.scn.running = some x → (∃ k, k < 3 ∧ s.votes k = true) →
    (∀ k, k < 3 → s.votes k = true → (x.lanes.get k).run = .running ∧ (x.lanes.get k).pc = pc ∧ haltAt s pc = some c) →
    s.mode ≠ mINIT → s.mode ≠ mFAULT →
    Does (.zHALT c) s fun t =>
      t.mode = mFAULT ∧ t.rd F.SCN_MODE_CAUSE = 7 ∧ t.scn.running = none ∧ t.scn.preempted = [] ∧ t.scn.waiting = [] ∧
      t.scn.presented = [] ∧ Logged Ev.HALT (leBytes 2 c ++ [x.task, 0] ++ leBytes 4 pc) s t ∧ t.scn.lanes = s.scn.lanes ∧
      t.time.now = s.time.now ∧ t.pending = s.pending)

/-- A beat with a correct check on the shared segment that a paired module hears ends the silence, clears SOLO and gives the
partner's role, mode and eligibility from byte 0; with a wrong check, on the other port or without pairing nothing but time
changes. A beat sent carries role, claim, yield (also without a role), ELIGIBLE as R281 judges it now, PREFERRED and mode in
byte 0, the event while it has beats left with its ESEQ in byte 1, the cinch in byte 2 and the check. A HELLO due is queued
for the partner as a PAIR sub-record of PTYPE 1 with side, MIRDIG and BUILD; a HELLO received is kept, and PSTATE is 2 when
the two agree and 3 when not. Nothing else changes. -/
def Obligations.PairHeartbeat : Prop :=
  (∀ (dt : Elapsed) (s : State) (p : Port) (b0 b1 b2 ck : Nat), let a := advance dt s
    (a.paired = true) →
    (p = a.sharedPort) →
    (a.hears p = true) →
    (crc8 [b0, b1, b2] = ck) →
    Does (.pairbeatReceive dt p b0 b1 b2 ck) s fun t =>
      t.pair.quiet = 0 ∧
      t.pair.beat = b0 ∧
      t.rd F.PLT_PSTATE_SOLO = 0 ∧
      t.rd F.PLT_PSTATE_PARTNER_ROLE = b0 % 4 ∧
      t.rd F.PLT_PSTATE_PARTNER_MODE = b0 / 64 % 4 ∧
      t.pElig = b0.testBit 4 ∧
      Moves (traceParts ++ [.time, .mbx, .img, .scn, .prg, .fld, .ana, .pair, .free]) (traceObjs ++ [F.objAG_GSTAT, F.objPLT_PSTATE, F.objPRG_ACT, F.objPRG_BANKA, F.objPRG_BANKB, F.objSCN_MODE, F.objSCN_RETAIN]) [F.ANG_EV_STATE, F.DG_CHSTAT_CLAMP, F.DG_CHSTAT_PRESENT, F.DG_COS_COS, F.DG_GSTAT_BC_V, F.DG_GSTAT_RATE, F.DG_GSTAT_WORD, F.MBX_QUEUES_CQ_FREE, F.MBX_QUEUES_CR_FREE, F.MBX_USE_HANDLES_USED, F.MBX_USE_SESSIONS_OPEN, F.PPR_WINSTAT_EVENT, F.SCN_TSTAT_RUNSKIP, F.SCN_TSTAT_SKIPS, F.SCN_T_ENTRY, F.SCN_T_PERIOD, F.SCN_T_PHASE, F.SCN_T_PRIO, F.SCN_T_SRC] a t) ∧
  (∀ (dt : Elapsed) (s : State) (p : Port) (b0 b1 b2 ck : Nat), let a := advance dt s
    (a.paired = false ∨ p ≠ a.sharedPort ∨ a.hears p = false ∨ crc8 [b0, b1, b2] ≠ ck) →
    Does (.pairbeatReceive dt p b0 b1 b2 ck) s fun t =>
      t = a) ∧
  (∀ (dt : Elapsed) (s : State), let a := advance dt s
    (a.paired = true) →
    (a.placed = true) →
    (a.port a.sharedPort = pUP) →
    (a.time.link = true) →
    Does (.pairbeatSend dt) s fun t =>
      (∃ b0 b1, t.pair.lastBeat = [b0, b1, a.cinchNow % 256, crc8 [b0, b1, a.cinchNow % 256]] ∧ b0 = a.role + 4 * b2n a.pair.claim.isSome + 8 * b2n (decide (a.role = 0) || a.pair.yieldAt.isSome) + 16 * b2n a.eligible + 32 * a.rd F.PLT_PAIR_PREFERRED + 64 * (match a.mode with | 2 => 1 | 3 => 2 | 4 => 3 | _ => 0) ∧ b1 = (if a.pair.txLeft = 0 then 0 else a.pair.txEvent) + 16 * a.pair.txEseq) ∧
      t.pair.txLeft = a.pair.txLeft - 1 ∧
      t.rd F.PLT_PSTATE_ELIGIBLE = b2n a.eligible ∧
      t.rd F.PLT_PSTATE_PSTATE = a.pstate ∧
      Moves [.pair] [] [F.PLT_PSTATE_ELIGIBLE, F.PLT_PSTATE_LEASED, F.PLT_PSTATE_PSTATE] a t) ∧
  (∀ (dt : Elapsed) (s : State), let a := advance dt s
    (a.paired = true) →
    (a.placed = true) →
    (500 ≤ a.pair.helloRun) →
    Does (.helloSend dt) s fun t =>
      t = { a with pair := { a.pair with helloRun := 0 }, ring := { a.ring with subq := a.ring.subq ++ [.sub (subRecord a 7 a.partnerPos ([1, 0, 0, 0, a.rd F.PLT_PAIR_PREFERRED + 2 * a.rd F.PLT_PAIR_SIDE, 0, 0, 0] ++ leBytes 4 (crc32 (objBytes a objPLT_MIRROR 0)) ++ leBytes 4 a.activeBuild))] } }) ∧
  (∀ (dt : Elapsed) (s : State) (b : List Nat), let a := advance dt s
    (a.pairBody 1 b = true) →
    Does (.hello dt b) s fun t =>
      t.pair.hello = some (leAt b 4 1, leAt b 8 4, leAt b 12 4) ∧
      t.pair.quiet = 0 ∧
      (t.rd F.PLT_PSTATE_PSTATE = if a.agrees (leAt b 4 1, leAt b 8 4, leAt b 12 4) = true then 2 else 3) ∧
      Moves [.pair] [] [F.PLT_PSTATE_ELIGIBLE, F.PLT_PSTATE_LEASED, F.PLT_PSTATE_PSTATE, F.PLT_PSTATE_SOLO] a t)

/-- A claim in RUN whose boundary has come gives ROLE 1 and lets the next commit open the gates. On the partner's silence
PSTATE is 4, and a standby in RUN with SILENCE_ACT 0 claims at once, sets SOLO and records SILENT_PROMOTE. TOOK_OVER at a
primary releases every output, gives ROLE 2 in RUN or HOLD and ROLE 0 otherwise, ends hold, yield and claim, counts the
switch-over, records it and sends RELEASED (event 4); that the digital release is part of the same step is the model's
choice (assumption log 35). RELEASED, or 150 µs without it, opens the analogue gates. A hold without TOOK_OVER after 2 T0
periods + 300 µs ends in the safe-value command for all twelve groups and no role. The automatic return claims after
RETURN_HOLD, but not while the partner holds a PRIMARY lease. Nothing outside the frames changes. -/
def Obligations.PairRoles : Prop :=
  (∀ (dt : Elapsed) (s : State) (n lead : Nat), let a := advance dt s
    (a.pair.claim = some (n, lead)) →
    (n + lead ≤ a.ring.lastLocal) →
    (a.mode = mRUN) →
    Does (.claimEffect dt) s fun t =>
      t.role = 1 ∧
      t.pair.claim = none ∧
      t.pair.wantC = true ∧
      t.pair.yieldAt = none ∧
      t.pair.silentSo = a.silent ∧
      Moves (traceParts ++ [.time, .mbx, .img, .scn, .prg, .fld, .pair]) traceObjs [F.ANG_EV_STATE, F.DG_COS_COS, F.MBX_QUEUES_CQ_FREE, F.MBX_QUEUES_CR_FREE, F.MBX_USE_HANDLES_USED, F.MBX_USE_SESSIONS_OPEN, F.PLT_PSTATE_ELIGIBLE, F.PLT_PSTATE_LEASED, F.PLT_PSTATE_MIR_MISS, F.PLT_PSTATE_PSTATE, F.PLT_PSTATE_ROLE, F.PPR_WINSTAT_EVENT, F.PRG_ACT_DROPPED, F.PRG_ACT_PENDING, F.SCN_MODE_CAUSE, F.SCN_MODE_MODE, F.SCN_MODE_PENDING, F.SCN_MODE_RETAIN_STALE, F.SCN_MODE_RET_MISS, F.SCN_TSTAT_RUNSKIP, F.SCN_TSTAT_SKIPS] a t) ∧
  (∀ (dt : Elapsed) (s : State) (n lead : Nat), let a := advance dt s
    (a.pair.claim = some (n, lead)) →
    (a.ring.lastLocal < n + lead ∨ a.mode ≠ mRUN) →
    Does (.claimEffect dt) s fun t =>
      t = a) ∧
  (∀ (dt : Elapsed) (s : State), let a := advance dt s
    (a.paired = true) →
    (3 ≤ a.pair.quiet) →
    (a.rd F.PLT_PSTATE_PSTATE ≠ 4) →
    (a.role = 2) →
    (a.mode = mRUN) →
    (a.rd F.PLT_PAIR_SILENCE_ACT = 0) →
    Does (.partnerSilence dt) s fun t =>
      t.rd F.PLT_PSTATE_PSTATE = 4 ∧
      t.pElig = false ∧
      t.pair.claim = some (a.ring.lastLatch, 0) ∧
      t.rd F.PLT_PSTATE_SOLO = 1 ∧
      Logged Ev.SILENT_PROMOTE [0, 0, 0, 0, 0, 0, 0, 0] a t ∧
      Moves (traceParts ++ [.mbx, .prg, .pair]) (traceObjs ++ [F.objPLT_PSTATE]) [F.MBX_QUEUES_CQ_FREE, F.MBX_QUEUES_CR_FREE, F.MBX_USE_HANDLES_USED, F.MBX_USE_SESSIONS_OPEN, F.PRG_ACT_PENDING] a t) ∧
  (∀ (dt : Elapsed) (s : State), let a := advance dt s
    (a.paired = true) →
    (3 ≤ a.pair.quiet) →
    (a.rd F.PLT_PSTATE_PSTATE ≠ 4) →
    (a.rd F.PLT_PAIR_SILENCE_ACT = 1) →
    Does (.partnerSilence dt) s fun t =>
      t.rd F.PLT_PSTATE_PSTATE = 4 ∧
      t.pElig = false ∧
      t.pair.claim = a.pair.claim ∧
      t.role = a.role ∧
      t.rd F.PLT_PSTATE_SOLO = a.rd F.PLT_PSTATE_SOLO ∧
      Moves (traceParts ++ [.mbx, .prg, .pair]) (traceObjs ++ [F.objPLT_PSTATE]) [F.MBX_QUEUES_CQ_FREE, F.MBX_QUEUES_CR_FREE, F.MBX_USE_HANDLES_USED, F.MBX_USE_SESSIONS_OPEN, F.PRG_ACT_PENDING] a t) ∧
  (∀ (dt : Elapsed) (s : State), let a := advance dt s
    (a.paired = true) →
    (a.role = 1) →
    Does (.tookOver dt) s fun t =>
      (t.role = if a.mode = mRUN ∨ a.mode = mHOLD then 2 else 0) ∧
      (t.pair.hold = none ∧ t.pair.yieldAt = none ∧ t.pair.claim = none) ∧
      (t.pair.txEvent = 4 ∧ t.pair.txLeft = 4 ∧ t.pair.txEseq = (a.pair.txEseq + 1) % 16) ∧
      (∀ g, g < 8 → (t.dgg g).released = true) ∧
      (∀ g, g < 4 → (t.agg g).released = true) ∧
      t.rd F.PLT_PSTATE_SWITCHES = min 255 (a.rd F.PLT_PSTATE_SWITCHES + 1) ∧
      Logged Ev.SWITCHOVER ([0, 0, 0, 0] ++ leBytes 4 (a.rd F.PLT_PSTATE_LAST_SO)) a t ∧
      Moves (traceParts ++ [.mbx, .prg, .fld, .ana, .pair, .free]) (traceObjs ++ [F.objAG_GSTAT, F.objPLT_PSTATE]) [F.ANG_EV_STATE, F.DG_CHSTAT_CLAMP, F.DG_CHSTAT_PRESENT, F.DG_GSTAT_BC_V, F.DG_GSTAT_RATE, F.DG_GSTAT_WORD, F.MBX_QUEUES_CQ_FREE, F.MBX_QUEUES_CR_FREE, F.MBX_USE_HANDLES_USED, F.MBX_USE_SESSIONS_OPEN, F.PRG_ACT_PENDING] a t) ∧
  (∀ (dt : Elapsed) (s : State) (n : Nat), let a := advance dt s
    (a.pair.cAt = some n) →
    Does (.released dt) s fun t =>
      t.pair.cAt = none ∧
      (∀ g, g < 4 → (t.agg g).released = false) ∧
      Moves (traceParts ++ [.ana, .pair]) (traceObjs ++ [F.objAG_GSTAT]) [] a t) ∧
  (∀ (dt : Elapsed) (s : State) (n : Nat), let a := advance dt s
    (a.pair.cAt = some n) →
    (n + 150000 ≤ a.time.now) →
    Does (.analogueGateTimeout dt) s fun t =>
      t.pair.cAt = none ∧
      (∀ g, g < 4 → (t.agg g).released = false) ∧
      Moves (traceParts ++ [.ana, .pair]) (traceObjs ++ [F.objAG_GSTAT]) [] a t) ∧
  (∀ (dt : Elapsed) (s : State) (kind y : Nat), let a := advance dt s
    (a.pair.hold = some kind) →
    (a.pair.yieldAt = some y) →
    (y + 2000 * a.rd F.SCN_T_PERIOD 0 + 300000 ≤ a.time.now) →
    Does (.pairHoldExpiry dt) s fun t =>
      t.pair.hold = none ∧
      (t.fld.cmds = a.fld.cmds ++ (List.range 12).map fun g => (g, kind)) ∧
      (t.role = 0 ∧ t.pair.claim = none ∧ t.pair.yieldAt = none) ∧
      Moves [.fld, .pair] [] [F.ANG_EV_STATE, F.PLT_PSTATE_ROLE] a t) ∧
  (∀ (dt : Elapsed) (s : State) (pl : Bool) (n : Nat), let a := advance dt s
    (a.eligible = true) →
    (a.rd F.PLT_PAIR_AUTO_RETURN = 1) →
    (a.rd F.PLT_PAIR_PREFERRED = 1) →
    (a.pair.lease = none) →
    (a.pair.drill = none) →
    (a.pair.eligFrom = some n) →
    (n + 32768 * a.rd F.PLT_PAIR_RETURN_HOLD ≤ a.time.xt) →
    (a.pair.claim = none) →
    Does (.returnHoldExpiry dt pl) s fun t =>
      (t.pair.claim = if pl = true then none else some (a.time.now, 120000)) ∧
      Moves [.pair] [] [F.PLT_PSTATE_ELIGIBLE, F.PLT_PSTATE_LEASED, F.PLT_PSTATE_PSTATE] a t)

/-- An IDENT query is answered with the bank's number, state and identity in an IDENT of REPLY 1. An answer that does not
match ends the activation with PARTNER_IMAGE, three cycles without one with PARTNER_SILENT. A standby that matched takes the
cinch of a SWAP_AT, and acknowledges it; the SWAP_ACK of the same cinch fixes it at the primary. SWAP_DONE clears LAGGED,
tells the primary the standby's cinch, records SWAP_LAG when it differs, and ends an activation whose record is written with
FIN OK and both cinches. SWAPPED makes a standby in RUN defer its releases, or lag when its deadline has passed; NOSWAP
takes it back and releases nothing when nothing was deferred. Nothing outside the frames changes. -/
def Obligations.PairSwapMessages : Prop :=
  (∀ (dt : Elapsed) (s : State) (b : List Nat) (k : Nat), let a := advance dt s
    (a.pairBody 2 b = true) →
    (leAt b 4 1 = k) →
    (k ≤ 1) →
    (leAt b 6 1 = 0) →
    Does (.ident dt b) s fun t =>
      t.ring.subq = a.ring.subq ++ [.sub (subRecord a 7 a.partnerPos ([2, 0, 0, 0, k, a.bankSt k, 1, 0] ++ leBytes 4 ((a.bank? k).getD {}).progId ++ leBytes 4 ((a.bank? k).getD {}).build ++ beBytes 32 ((a.bank? k).getD {}).digest))] ∧
      t.pair.quiet = 0 ∧
      Moves (traceParts ++ [.mbx, .prg, .pair]) traceObjs [F.MBX_QUEUES_CQ_FREE, F.MBX_QUEUES_CR_FREE, F.MBX_USE_HANDLES_USED, F.MBX_USE_SESSIONS_OPEN, F.PLT_PSTATE_SOLO, F.PRG_ACT_PENDING] a t) ∧
  (∀ (dt : Elapsed) (s : State) (b : List Nat) (x : Act), let a := advance dt s
    (a.pairBody 2 b = true) →
    (a.prg.act = some x) →
    (leAt b 4 1 = x.bank) →
    (x.bank ≤ 1) →
    (leAt b 6 1 ≠ 0) →
    (x.standby = false) →
    (x.phase = 3) →
    (a.sameIdent b = false) →
    Does (.ident dt b) s fun t =>
      t.prg.act = none ∧
      t.rd F.PRG_ACT_PENDING = 0 ∧
      Fins x.handle Code.PARTNER_IMAGE 0 [] a t ∧
      Moves (traceParts ++ [.mbx, .prg, .pair]) traceObjs [F.MBX_QUEUES_CQ_FREE, F.MBX_QUEUES_CR_FREE, F.MBX_USE_HANDLES_USED, F.MBX_USE_SESSIONS_OPEN, F.PLT_PSTATE_SOLO, F.PRG_ACT_PENDING] a t) ∧
  (∀ (dt : Elapsed) (s : State) (x : Act), let a := advance dt s
    (a.prg.act = some x) →
    (x.standby = false) →
    (x.phase = 3) →
    (3 ≤ (a.ring.cinch + 2 ^ 32 - x.asked) % 2 ^ 32) →
    Does (.identTimeout dt) s fun t =>
      t.prg.act = none ∧
      t.rd F.PRG_ACT_PENDING = 0 ∧
      Fins x.handle Code.PARTNER_SILENT 0 [] a t ∧
      Moves (traceParts ++ [.mbx, .prg]) traceObjs [F.MBX_QUEUES_CQ_FREE, F.MBX_QUEUES_CR_FREE, F.MBX_USE_HANDLES_USED, F.MBX_USE_SESSIONS_OPEN, F.PRG_ACT_PENDING] a t) ∧
  (∀ (dt : Elapsed) (s : State) (b : List Nat) (x : Act), let a := advance dt s
    (a.pairBody 3 b = true) →
    (a.prg.act = some x) →
    (x.standby = true) →
    (x.phase = 3 ∨ x.phase = 5 ∨ x.phase = 8) →
    Does (.swapAt dt b) s fun t =>
      t.prg.act = some { x with phase := 5, cinch := leAt b 4 4, acceptedAt := a.time.now, margin := a.rd F.PRG_CFG_SWAP_MARGIN } ∧
      t.ring.subq = a.ring.subq ++ [.sub (subRecord a 7 a.partnerPos ([4, 0, 0, 0] ++ leBytes 4 (leAt b 4 4)))] ∧
      t.rd F.PRG_ACT_PENDING = 1 ∧
      Moves [.ring, .prg, .pair] [] [F.PLT_PSTATE_SOLO, F.PRG_ACT_PENDING] a t) ∧
  (∀ (dt : Elapsed) (s : State) (b : List Nat) (x : Act), let a := advance dt s
    (a.pairBody 4 b = true) →
    (a.prg.act = some x) →
    (x.standby = false) →
    (x.phase = 4) →
    Does (.swapAck dt b) s fun t =>
      (t.prg.act = some (if x.cinch = leAt b 4 4 then { x with phase := 5 } else x)) ∧
      t.ring.subq = a.ring.subq ∧
      Moves [.prg, .pair] [] [F.PLT_PSTATE_SOLO] a t) ∧
  (∀ (dt : Elapsed) (s : State) (b : List Nat) (x : Act) (n : Nat), let a := advance dt s
    (a.pairBody 5 b = true) →
    (a.prg.act = some x) →
    (x.standby = false) →
    (x.phase = 2) →
    (leAt b 4 4 = n) →
    (n ≠ x.cinch) →
    Does (.swapDone dt b) s fun t =>
      t.prg.act = some { x with partner := n + 1 } ∧
      t.rd F.PRG_ACT_LAGGED = 0 ∧
      Logged Ev.SWAP_LAG (leBytes 4 x.cinch ++ leBytes 4 n) a t ∧
      Moves (traceParts ++ [.mbx, .prg, .pair]) traceObjs [F.MBX_QUEUES_CQ_FREE, F.MBX_QUEUES_CR_FREE, F.MBX_USE_HANDLES_USED, F.MBX_USE_SESSIONS_OPEN, F.PLT_PSTATE_SOLO, F.PRG_ACT_LAGGED, F.PRG_ACT_PENDING] a t) ∧
  (∀ (dt : Elapsed) (s : State) (b : List Nat) (x : Act), let a := advance dt s
    (a.pairBody 5 b = true) →
    (a.prg.act = some x) →
    (x.standby = false) →
    (x.phase = 9) →
    (leAt b 4 4 = x.cinch) →
    Does (.swapDone dt b) s fun t =>
      t.prg.act = none ∧
      t.rd F.PRG_ACT_PENDING = 0 ∧
      Fins x.handle Code.OK (x.cinch + 2 ^ 32 * x.cinch) [] a t ∧
      Moves (traceParts ++ [.mbx, .prg, .pair]) traceObjs [F.MBX_QUEUES_CQ_FREE, F.MBX_QUEUES_CR_FREE, F.MBX_USE_HANDLES_USED, F.MBX_USE_SESSIONS_OPEN, F.PLT_PSTATE_SOLO, F.PRG_ACT_LAGGED, F.PRG_ACT_PENDING] a t) ∧
  (∀ (dt : Elapsed) (s : State) (x : Act), let a := advance dt s
    (a.prg.act = some x) →
    (x.standby = true) →
    (a.mode = mRUN) →
    ((x.phase = 1 ∨ x.phase = 5) ∧ a.noExec = false ∨ x.phase = 8) →
    Does (.swapped dt) s fun t =>
      (t.prg.act = some { x with phase := if x.phase = 8 then 7 else 6 }) ∧
      (t.prg.deferring = if x.phase = 8 then a.prg.deferring else true) ∧
      (t.rd F.PRG_ACT_LAGGED = if x.phase = 8 then 1 else a.rd F.PRG_ACT_LAGGED) ∧
      (t.prg.deferred = a.prg.deferred ∧ t.prg.active = a.prg.active) ∧
      Moves (traceParts ++ [.time, .mbx, .img, .scn, .prg, .fld, .pair]) (traceObjs ++ [F.objPRG_ACT, F.objPRG_BANKA, F.objPRG_BANKB, F.objSCN_MODE, F.objSCN_RETAIN]) [F.ANG_EV_STATE, F.DG_COS_COS, F.MBX_QUEUES_CQ_FREE, F.MBX_QUEUES_CR_FREE, F.MBX_USE_HANDLES_USED, F.MBX_USE_SESSIONS_OPEN, F.PLT_PSTATE_MIR_MISS, F.PLT_PSTATE_ROLE, F.PPR_WINSTAT_EVENT, F.SCN_TSTAT_RUNSKIP, F.SCN_TSTAT_SKIPS, F.SCN_T_ENTRY, F.SCN_T_PERIOD, F.SCN_T_PHASE, F.SCN_T_PRIO, F.SCN_T_SRC] a t) ∧
  (∀ (dt : Elapsed) (s : State) (x : Act), let a := advance dt s
    (a.prg.act = some x) →
    (x.standby = true) →
    (x.phase = 1 ∨ x.phase = 5 ∨ x.phase = 8) →
    (a.prg.deferred = []) →
    Does (.noswap dt) s fun t =>
      t.prg.act = some { x with phase := 3 } ∧
      t.rd F.PRG_ACT_PENDING = 0 ∧
      t.prg.deferring = false ∧
      Moves (traceParts ++ [.time, .mbx, .img, .scn, .prg, .fld, .pair]) traceObjs [F.ANG_EV_STATE, F.DG_COS_COS, F.MBX_QUEUES_CQ_FREE, F.MBX_QUEUES_CR_FREE, F.MBX_USE_HANDLES_USED, F.MBX_USE_SESSIONS_OPEN, F.PLT_PSTATE_MIR_MISS, F.PLT_PSTATE_ROLE, F.PPR_WINSTAT_EVENT, F.PRG_ACT_DROPPED, F.PRG_ACT_PENDING, F.SCN_MODE_CAUSE, F.SCN_MODE_MODE, F.SCN_MODE_PENDING, F.SCN_MODE_RETAIN_STALE, F.SCN_MODE_RET_MISS, F.SCN_TSTAT_RUNSKIP, F.SCN_TSTAT_SKIPS] a t)

/-- An idle primary with a capture due sends its mirror image, when it fits one sub-record, as one MIRROR sub-record of
offset 0 whose image is the header, the voted items and the CRC-32; an item without a majority takes it from RUN into FAULT
with cause UNRESOLVED. A standby that receives a complete image with a correct CRC in one sub-record keeps it for the apply,
and counts MIR_MISS when an older one still waited; it ends the silence. In a free interval every voting lane takes the
items of the image, the others stand, and the image's cinch is the one last applied. Where the spec leaves the item order
and padding open the model's choice (assumption log 26) shows in mirrorItems and itemBytes. Nothing outside the frames
changes. -/
def Obligations.PairMirror : Prop :=
  (∀ (dt : Elapsed) (s : State) (d : List Nat), let a := advance dt s
    (a.pair.capDue = true) →
    (a.paired = true) →
    (a.role = 1) →
    (a.lanesIdle = true) →
    (a.clk.lane = true) →
    (a.rd F.PRG_ACT_LAGGED = 0) →
    (mirrorData (a.activeBank.getD {}) (((List.range 3).filter fun k => a.votes k).map fun k => a.scn.lanes.get k) (mirrorItems a) 16 [] = .ok d) →
    (d.length ≤ 980) →
    Does (.mirrorCapture dt) s fun t =>
      t = { a with pair := { a.pair with capDue := false }, ring := { a.ring with subq := a.ring.subq ++ [.sub (subRecord a 6 a.partnerPos (leBytes 4 a.cinchNow ++ [0, 0] ++ leBytes 2 (20 + d.length) ++ (leBytes 4 a.cinchNow ++ leBytes 4 (20 + d.length) ++ leBytes 8 0 ++ d ++ leBytes 4 (crc32 (leBytes 4 a.cinchNow ++ leBytes 4 (20 + d.length) ++ leBytes 8 0 ++ d)))))] } }) ∧
  (∀ (dt : Elapsed) (s : State) (o : Nat), let a := advance dt s
    (a.pair.capDue = true) →
    (a.paired = true) →
    (a.role = 1) →
    (a.mode = mRUN) →
    (a.lanesIdle = true) →
    (a.clk.lane = true) →
    (a.rd F.PRG_ACT_LAGGED = 0) →
    (mirrorData (a.activeBank.getD {}) (((List.range 3).filter fun k => a.votes k).map fun k => a.scn.lanes.get k) (mirrorItems a) 16 [] = .error o) →
    Does (.mirrorCapture dt) s fun t =>
      t.mode = mFAULT ∧
      t.rd F.SCN_MODE_CAUSE = 4 ∧
      Logged Ev.UNRESOLVED ([a.rd F.PLT_LANE_VOTING, 8, 0, 0] ++ leBytes 4 o) a t ∧
      Moves (traceParts ++ [.time, .mbx, .img, .scn, .prg, .fld, .plt, .pair]) (traceObjs ++ [F.objPLT_LANE]) [F.ANG_EV_STATE, F.MBX_QUEUES_CQ_FREE, F.MBX_QUEUES_CR_FREE, F.MBX_USE_HANDLES_USED, F.MBX_USE_SESSIONS_OPEN, F.PLT_COUNT_UNRESOLVED, F.PLT_PSTATE_ROLE, F.PRG_ACT_PENDING, F.SCN_MODE_CAUSE, F.SCN_MODE_CAUSE_PERSISTS, F.SCN_MODE_MODE, F.SCN_MODE_PENDING] a t) ∧
  (∀ (dt : Elapsed) (s : State) (b : List Nat) (n : Nat) (d : List Nat), let a := advance dt s
    (a.paired = true) →
    (a.placed = true) →
    (a.time.link = true) →
    (a.role = 2) →
    (a.rd F.PRG_ACT_LAGGED = 0) →
    (a.pair.rx = none) →
    (n < 2 ^ 32) →
    (b = leBytes 4 n ++ [0, 0] ++ leBytes 2 d.length ++ d) →
    (4 ≤ d.length) →
    (d.length ≤ 1000) →
    (crc32 (d.take (d.length - 4)) = leAt d (d.length - 4) 4) →
    Does (.mirror dt b) s fun t =>
      t.pair.ready = some (n, d) ∧
      t.pair.rx = none ∧
      t.pair.quiet = 0 ∧
      (t.rd F.PLT_PSTATE_MIR_MISS = if a.pair.ready.isSome = true then min 15 (a.rd F.PLT_PSTATE_MIR_MISS + 1) else a.rd F.PLT_PSTATE_MIR_MISS) ∧
      Moves [.pair] [] [F.PLT_PSTATE_MIR_MISS, F.PLT_PSTATE_SOLO] a t) ∧
  (∀ (dt : Elapsed) (s : State) (n : Nat) (img : List Nat), let a := advance dt s
    (a.pair.ready = some (n, img)) →
    (a.paired = true) →
    (a.role = 2) →
    (a.mode = mRUN) →
    (a.noExec = true) →
    (a.clk.lane = true) →
    (a.rd F.PRG_ACT_LAGGED = 0) →
    (a.cycNs (400 + img.length / 2) + 2000 < a.nextRelease) →
    Does (.mirrorApply dt) s fun t =>
      t.pair.ready = none ∧
      t.pair.applied = some n ∧
      (∀ k, k < 3 → t.scn.lanes.get k = if a.votes k = true then putItems (a.activeBank.getD {}) ((a.pair.t0Ticks.find? fun e => decide (e.1 = n)).elim a.runTicks (·.2)) (mirrorItems a) (img.drop 16) (a.scn.lanes.get k) else a.scn.lanes.get k) ∧
      Moves [.scn, .pair] [] [F.PLT_PSTATE_ELIGIBLE, F.PLT_PSTATE_LEASED, F.PLT_PSTATE_PSTATE] a t)

/-- A taken PAIR_LEASE in an ESTABLISHED pair grants the lease for its seconds of the crystal and answers OK with the role
and, in byte 1, whether a switch-over follows: a PRIMARY lease at a standby in RUN with an ELIGIBLE state claims, a STANDBY
lease at a primary in RUN yields; LEASE 0 revokes; a pair that is not ESTABLISHED refuses with NOT_PAIRED. A taken
PAIR_DRILL answers ACCEPTED with a handle and makes the standby claim or the primary yield. A lease ends at its time. At the
end of a dwell without RETURN the new primary ends the drill with FIN OK and the report of PLT-8, with RETURN it yields. The
order in which refusals are judged is that of MBX-5. -/
def Obligations.PairLeaseAndDrill : Prop :=
  (∀ (dt : Elapsed) (s : State) (r : RingCmd) (x : Session) (l sec : Nat), let a := advance dt s
    (Taken 0x60 2 a r x) →
    ((parse r).payload = [l, 0] ++ leBytes 2 sec) →
    (1 ≤ sec) →
    (sec ≤ 3600) →
    (a.pstate = 2) →
    (a.pairBusy = false) →
    ((l = 1 ∨ l = 2) ∧ (a.role = l ∨ a.role = 0) ∨ l = 1 ∧ a.eligible = true ∧ a.rd F.PLT_PSTATE_PARTNER_MODE = 1) →
    Does (.pairLease dt) s fun t =>
      t.pair.lease = some (l, a.time.xt + 32768 * sec) ∧
      t.rd F.PLT_PSTATE_LEASED = 1 ∧
      (Answered r Code.OK 0 (a.role + 256 * b2n (decide (l = 1 ∧ a.role = 2))) [] a t) ∧
      (t.pair.claim = if l = 1 ∧ a.role = 2 then some (a.time.now, 120000) else none) ∧
      Moves (traceParts ++ [.mbx, .pair, .sec]) traceObjs [F.MBX_QUEUES_CQ_FREE, F.MBX_QUEUES_CR_FREE, F.MBX_USE_BAD_MAC, F.MBX_USE_HANDLES_USED, F.MBX_USE_SESSIONS_OPEN, F.PLT_PSTATE_ELIGIBLE, F.PLT_PSTATE_LEASED, F.PLT_PSTATE_PSTATE] a t) ∧
  (∀ (dt : Elapsed) (s : State) (r : RingCmd) (x : Session) (sec : Nat), let a := advance dt s
    (Taken 0x60 2 a r x) →
    ((parse r).payload = [2, 0] ++ leBytes 2 sec) →
    (1 ≤ sec) →
    (sec ≤ 3600) →
    (a.pstate = 2) →
    (a.pairBusy = false) →
    (a.role = 1) →
    (a.mode = mRUN) →
    (a.rd F.PLT_PSTATE_PARTNER_MODE = 1) →
    (a.pElig = true) →
    Does (.pairLease dt) s fun t =>
      t.pair.lease = some (2, a.time.xt + 32768 * sec) ∧
      t.pair.yieldAt = some a.time.now ∧
      Answered r Code.OK 0 257 [] a t ∧
      Moves (traceParts ++ [.mbx, .pair, .sec]) traceObjs [F.MBX_QUEUES_CQ_FREE, F.MBX_QUEUES_CR_FREE, F.MBX_USE_BAD_MAC, F.MBX_USE_HANDLES_USED, F.MBX_USE_SESSIONS_OPEN, F.PLT_PSTATE_ELIGIBLE, F.PLT_PSTATE_LEASED, F.PLT_PSTATE_PSTATE] a t) ∧
  (∀ (dt : Elapsed) (s : State) (r : RingCmd) (x : Session) (l : Nat), let a := advance dt s
    (Taken 0x60 2 a r x) →
    ((parse r).payload = [l, 0, 0, 0]) →
    (l = 1 ∨ l = 2) →
    Does (.pairLease dt) s fun t =>
      (t.pair.lease = if a.pstate = 2 then none else a.pair.lease) ∧
      t.pair.claim = a.pair.claim ∧
      (Answered r (if a.pstate = 2 then Code.OK else Code.NOT_PAIRED) 0 (if a.pstate = 2 then a.role else 0) [] a t) ∧
      Moves (traceParts ++ [.mbx, .pair, .sec]) traceObjs [F.MBX_QUEUES_CQ_FREE, F.MBX_QUEUES_CR_FREE, F.MBX_USE_BAD_MAC, F.MBX_USE_HANDLES_USED, F.MBX_USE_SESSIONS_OPEN, F.PLT_PSTATE_ELIGIBLE, F.PLT_PSTATE_LEASED, F.PLT_PSTATE_PSTATE] a t) ∧
  (∀ (dt : Elapsed) (s : State) (l e : Nat), let a := advance dt s
    (a.pair.lease = some (l, e)) →
    (e ≤ a.time.xt) →
    Does (.leaseExpiry dt) s fun t =>
      t.pair.lease = none ∧
      t.rd F.PLT_PSTATE_LEASED = 0 ∧
      t.role = a.role ∧
      Moves [.pair] [] [F.PLT_PSTATE_ELIGIBLE, F.PLT_PSTATE_LEASED, F.PLT_PSTATE_PSTATE] a t) ∧
  (∀ (dt : Elapsed) (s : State) (r : RingCmd) (x : Session) (f : Nat), let a := advance dt s
    (Taken 0x61 3 a r x) →
    ((parse r).payload = [f, 0, 0, 0]) →
    (f ≤ 1) →
    (a.pstate = 2) →
    (a.mode = mRUN) →
    (a.rd F.PLT_PSTATE_PARTNER_MODE = 1) →
    (a.eligible = true ∨ a.role = 1 ∧ a.pElig = true) →
    (a.pairBusy = false) →
    (HasHandle a x) →
    Does (.pairDrill dt) s fun t =>
      (∃ n, Answered r Code.ACCEPTED n 0 [] a t ∧ t.pair.drill = some ⟨n, decide (f = 1), if a.role = 2 then 1 else 0, 0, 0, 0, 0, 0, 0, 0, 0, 0, false, false⟩) ∧
      t.rd F.PLT_PSTATE_DRILL = 1 ∧
      (t.pair.claim = if a.role = 2 then some (a.time.now, 120000) else none) ∧
      (t.pair.yieldAt = if a.role = 1 then some a.time.now else none) ∧
      Moves (traceParts ++ [.mbx, .pair, .sec]) traceObjs [F.MBX_QUEUES_CQ_FREE, F.MBX_QUEUES_CR_FREE, F.MBX_USE_BAD_MAC, F.MBX_USE_HANDLES_USED, F.MBX_USE_SESSIONS_OPEN, F.PLT_PSTATE_DRILL, F.PLT_PSTATE_ELIGIBLE, F.PLT_PSTATE_LEASED, F.PLT_PSTATE_PSTATE] a t) ∧
  (∀ (dt : Elapsed) (s : State) (d : Drill), let a := advance dt s
    (a.pair.drill = some d) →
    (d.phase = 1) →
    (d.side = 1) →
    (d.ret = false) →
    (d.doFault = 0 ∧ d.aoFault = 0) →
    (d.from_ + 32768 * a.rd F.PLT_PAIR_DRILL_DWELL ≤ a.time.xt ∨ d.cancelled = true) →
    Does (.drillDwellEnd dt) s fun t =>
      t.pair.drill = none ∧
      t.rd F.PLT_PSTATE_DRILL = 0 ∧
      t.pair.yieldAt = a.pair.yieldAt ∧
      (Fins d.handle (if d.cancelled = true then Code.CANCELLED else Code.OK) 0 (leBytes 16 (exercisedDg a) ++ leBytes 16 0 ++ leBytes 8 (exercisedAg a) ++ leBytes 8 0 ++ leBytes 4 d.so1 ++ leBytes 4 d.so2 ++ leBytes 4 ((a.time.xt - d.from_) * 1000 / 32768) ++ leBytes 4 (4 * b2n d.cancelled)) a t) ∧
      Moves (traceParts ++ [.mbx, .pair, .free]) traceObjs [F.MBX_QUEUES_CQ_FREE, F.MBX_QUEUES_CR_FREE, F.MBX_USE_HANDLES_USED, F.MBX_USE_SESSIONS_OPEN, F.PLT_PSTATE_DRILL, F.PLT_PSTATE_ELIGIBLE, F.PLT_PSTATE_LEASED, F.PLT_PSTATE_PSTATE] a t) ∧
  (∀ (dt : Elapsed) (s : State) (d : Drill), let a := advance dt s
    (a.pair.drill = some d) →
    (d.phase = 1) →
    (d.side = 1) →
    (d.ret = true) →
    (d.doFault = 0 ∧ d.aoFault = 0) →
    (d.from_ + 32768 * a.rd F.PLT_PAIR_DRILL_DWELL ≤ a.time.xt) →
    (a.paired = true) →
    (a.role = 1) →
    (a.pair.yieldAt = none) →
    Does (.drillDwellEnd dt) s fun t =>
      t.pair.drill.map (·.phase) = some 2 ∧
      t.pair.yieldAt = some a.time.now ∧
      t.pair.claim = none ∧
      t.mbx = a.mbx ∧
      Moves (traceParts ++ [.mbx, .pair, .free]) traceObjs [F.MBX_QUEUES_CQ_FREE, F.MBX_QUEUES_CR_FREE, F.MBX_USE_HANDLES_USED, F.MBX_USE_SESSIONS_OPEN, F.PLT_PSTATE_DRILL, F.PLT_PSTATE_ELIGIBLE, F.PLT_PSTATE_LEASED, F.PLT_PSTATE_PSTATE] a t)

/-- While no clock is identified, a judging window whose LCLK count lies in a band identifies 25, 50 or 100 MHz and sets the
lane frequency; one outside every band sets JUDGE_FAIL and takes the ports DOWN. Two windows out of band in a row in phase 3
or 4, or 64 LCLK periods without an edge, lose LCLK: the gates of LANE, SUPV, IMAGE, EVENT and LINK close, a bridge begins
now, the module loses its timing but keeps a position, LCLK_LOST is set and recorded; a parked module only begins its
bridge. A reference clock that stops while the other port receives one moves REFPORT and CLKSRC and sets REF_SWITCH. A lane
or system PLL that loses lock closes its gates and sets PLL_OOR. Nothing outside the frames changes. That an unparked link
PLL loss counts as a loss of LCLK is not claimed (assumption log 42). -/
def Obligations.ClockJudging : Prop :=
  (∀ (dt : Elapsed) (s : State) (lclk link lane sys n : Nat), let a := advance dt s
    (a.clk.inReset = false) →
    (a.rd F.CLK_STATUS_XTAL_OK = 1) →
    (a.rd F.RTC_STATUS_XTAL_SUBST = 0) →
    (a.rd F.CLK_STATUS_CLK_PHASE = 0 ∨ a.rd F.CLK_STATUS_CLK_PHASE = 1) →
    (n = 3 ∧ 12085 ≤ lclk ∧ lclk ≤ 12329 ∨ n = 2 ∧ 6043 ≤ lclk ∧ lclk ≤ 6164 ∨ n = 1 ∧ 3022 ≤ lclk ∧ lclk ≤ 3082) →
    Does (.judgeWindow dt lclk link lane sys) s fun t =>
      t.rd F.CLK_STATUS_LCLK_NOM = n ∧
      t.rd F.CLK_STATUS_CLK_PHASE = 2 ∧
      (t.rd F.CLK_STATUS_LANE_CLK = if n = 3 then a.rd F.PWR_PLAN_LANE_STEP % 2 ^ F.CLK_STATUS_LANE_CLK.width else 4) ∧
      Moves [] [] [F.CLK_STATUS_LCLK_NOM, F.CLK_STATUS_CLK_PHASE, F.CLK_STATUS_LANE_CLK] a t) ∧
  (∀ (dt : Elapsed) (s : State) (lclk link lane sys : Nat), let a := advance dt s
    (a.clk.inReset = false) →
    (a.rd F.CLK_STATUS_XTAL_OK = 1) →
    (a.rd F.RTC_STATUS_XTAL_SUBST = 0) →
    (a.rd F.CLK_STATUS_CLK_PHASE = 0 ∨ a.rd F.CLK_STATUS_CLK_PHASE = 1) →
    ((lclk < 12085 ∨ 12329 < lclk) ∧ (lclk < 6043 ∨ 6164 < lclk) ∧ (lclk < 3022 ∨ 3082 < lclk)) →
    Does (.judgeWindow dt lclk link lane sys) s fun t =>
      t.rd F.CLK_EVENTS_JUDGE_FAIL = 1 ∧
      (t.rd F.CLK_STATUS_CLK_PHASE = if lclk = 0 then 0 else 1) ∧
      t.port .A = pDOWN ∧
      Logged Ev.CLOCK_EVENT (leBytes 4 (2 ^ F.CLK_EVENTS_JUDGE_FAIL.lo)) a t ∧
      Moves traceParts traceObjs [F.CLK_EVENTS_JUDGE_FAIL, F.CLK_STATUS_CLK_PHASE, F.NRL_CTRL_PA_ST, F.NRL_STATE_PB_ST, F.NRL_STATE_WRAP_A, F.NRL_STATE_WRAP_B] a t) ∧
  (∀ (dt : Elapsed) (s : State) (lclk link lane sys : Nat), let a := advance dt s
    (a.clk.inReset = false) →
    (a.rd F.CLK_STATUS_XTAL_OK = 1) →
    (a.rd F.RTC_STATUS_XTAL_SUBST = 0) →
    (a.rd F.CLK_STATUS_CLK_PHASE = 3) →
    (lclkOf lclk ≠ some (a.rd F.CLK_STATUS_LCLK_NOM)) →
    (a.ring.announced = none) →
    (a.clk.parked = false) →
    (1 ≤ a.clk.badWindows) →
    (a.clk.bridgeFrom = none) →
    (a.time.link = true) →
    Does (.judgeWindow dt lclk link lane sys) s fun t =>
      (t.clk.lane = false ∧ t.clk.supv = false ∧ t.clk.image = false ∧ t.clk.event = false ∧ t.time.link = false) ∧
      t.clk.bridgeFrom = some a.time.xt ∧
      t.rd F.CLK_STATUS_CLK_PHASE = 5 ∧
      t.rd F.CLK_EVENTS_LCLK_LOST = 1 ∧
      (t.rd F.NRL_STATE_MOD_ST = if a.placed = true then 3 else 0) ∧
      t.mode = a.mode ∧
      Logged Ev.CLOCK_EVENT (leBytes 4 (2 ^ F.CLK_EVENTS_LCLK_LOST.lo)) a t ∧
      Moves (traceParts ++ [.time, .clk, .mbx, .ana, .free]) traceObjs [F.AG_CS_CAUSE, F.AG_CS_POS, F.AG_CS_STATE, F.CLK_EVENTS_ANN_MISSED, F.CLK_EVENTS_JUDGE_FAIL, F.CLK_EVENTS_LCLK_LOST, F.CLK_EVENTS_PLL_OOR, F.CLK_START_TIMED, F.CLK_STATUS_CLK_PHASE, F.CLK_STATUS_LANE_CLK, F.CLK_STATUS_LCLK_NOM, F.NRL_CTRL_PA_ST, F.NRL_PORTA_LINK_LOCK_LOSS_A, F.NRL_PORTB_LINK_LOCK_LOSS_B, F.NRL_STATE_MOD_ST, F.NRL_STATE_PB_ST, F.NRL_STATE_WRAP_A, F.NRL_STATE_WRAP_B, F.SCN_MODE_CAUSE_PERSISTS] a t) ∧
  (∀ (dt : Elapsed) (s : State), let a := advance dt s
    (a.clk.bridgeFrom = none) →
    (a.time.link = true) →
    Does (.lclkLoss dt) s fun t =>
      (t.clk.clkA = false ∧ t.clk.clkB = false ∧ t.clk.event = false ∧ t.time.link = false) ∧
      t.clk.bridgeFrom = some a.time.xt ∧
      t.rd F.CLK_STATUS_CLK_PHASE = 5 ∧
      (if a.clk.parked = true then t.rd F.CLK_EVENTS_LCLK_LOST = a.rd F.CLK_EVENTS_LCLK_LOST ∧ t.clk.parked = true ∧ t.clk.supv = a.clk.supv else t.rd F.CLK_EVENTS_LCLK_LOST = 1 ∧ t.clk.lane = false ∧ t.clk.supv = false ∧ t.clk.image = false ∧ t.rd F.NRL_STATE_MOD_ST = (if a.placed = true then 3 else 0) ∧ t.rd F.CLK_EVENTS_ANN_MISSED = (if a.ring.announced.isSome = true then 1 else a.rd F.CLK_EVENTS_ANN_MISSED)) ∧
      Moves (traceParts ++ [.time, .clk, .mbx, .ana, .free]) traceObjs [F.AG_CS_CAUSE, F.AG_CS_POS, F.AG_CS_STATE, F.CLK_EVENTS_ANN_MISSED, F.CLK_EVENTS_LCLK_LOST, F.CLK_START_TIMED, F.CLK_STATUS_CLK_PHASE, F.NRL_CTRL_PA_ST, F.NRL_PORTA_LINK_LOCK_LOSS_A, F.NRL_PORTB_LINK_LOCK_LOSS_B, F.NRL_STATE_MOD_ST, F.NRL_STATE_PB_ST, F.NRL_STATE_WRAP_A, F.NRL_STATE_WRAP_B, F.SCN_MODE_CAUSE_PERSISTS] a t) ∧
  (∀ (dt : Elapsed) (s : State) (n : Nat), let a := advance dt s
    (a.time.link = true) →
    (a.rd F.CLK_STATUS_REFPORT = n) →
    (n = 0 ∧ a.clk.clkB = true ∨ n = 1 ∧ a.clk.clkA = true) →
    Does (.refSwitch dt) s fun t =>
      t.rd F.CLK_STATUS_REFPORT = 1 - n ∧
      t.rd F.NRL_STATE_CLKSRC = 1 - n ∧
      t.rd F.CLK_EVENTS_REF_SWITCH = 1 ∧
      (t.clk = if n = 0 then { a.clk with clkA := false } else { a.clk with clkB := false }) ∧
      Logged Ev.CLOCK_EVENT (leBytes 4 (2 ^ F.CLK_EVENTS_REF_SWITCH.lo)) a t ∧
      Moves (traceParts ++ [.clk]) traceObjs [F.CLK_EVENTS_REF_SWITCH, F.CLK_STATUS_REFPORT, F.NRL_STATE_CLKSRC] a t) ∧
  (∀ (dt : Elapsed) (s : State), let a := advance dt s
    (a.clk.lane = true) →
    Does (.pllLockLoss dt 1) s fun t =>
      t.clk.lane = false ∧
      t.clk.laneFrom = some a.time.xt ∧
      (t.time.runFrom = none ∧ t.runTicks = a.runTicks) ∧
      t.rd F.CLK_EVENTS_PLL_OOR = 1 ∧
      (t.clk.supv = a.clk.supv ∧ t.time.link = a.time.link) ∧
      Logged Ev.CLOCK_EVENT (leBytes 4 (2 ^ F.CLK_EVENTS_PLL_OOR.lo)) a t ∧
      Moves (traceParts ++ [.time, .clk]) traceObjs [F.CLK_EVENTS_PLL_OOR, F.SCN_MODE_CAUSE_PERSISTS] a t) ∧
  (∀ (dt : Elapsed) (s : State), let a := advance dt s
    (a.clk.supv = true) →
    Does (.pllLockLoss dt 2) s fun t =>
      (t.clk.supv = false ∧ t.clk.image = false ∧ t.clk.event = false) ∧
      t.mbx.stopXt = a.time.xt ∧
      t.rd F.CLK_EVENTS_PLL_OOR = 1 ∧
      (t.clk.lane = a.clk.lane ∧ t.time.link = a.time.link) ∧
      Moves (traceParts ++ [.clk, .mbx]) traceObjs [F.CLK_EVENTS_PLL_OOR] a t)

/-- The settled PLLs of an identified clock open every gate, station time starts at 0 and RESET is recorded; after a bridge
they open every gate and end it, and one that reached a rein timeout in RUN ends in FAULT. A lane PLL that settles opens the
LANE gates, reports how long they were closed and records PARK. A bridge frame carries the age of the bridge in crystal
periods. An announced park at its boundary with no T0 running closes LANE, SUPV and IMAGE, holds station time and sets
PARK_ANN. A lane step asked for is taken at once in STOP and recorded; in RUN one that a task's PEAK does not fit is
deferred with BUDGET_SHORT and its task. A crystal that stops sets OSF with cause 2 and lets a running module count a
stand-in period; when it resumes these end. A crystal that has not started by 1,000 ms opens the gates but LANE in phase 6.
Nothing outside the frames changes. -/
def Obligations.ClockGatesParksAndSteps : Prop :=
  (∀ (dt : Elapsed) (s : State), let a := advance dt s
    (a.rd F.CLK_STATUS_CLK_PHASE = 2) →
    (a.clk.bridgeFrom = none) →
    Does (.pllGatesOpen dt 3) s fun t =>
      (t.clk.lane = true ∧ t.clk.supv = true ∧ t.clk.image = true ∧ t.clk.event = true ∧ t.time.link = true) ∧
      t.rd F.CLK_STATUS_CLK_PHASE = 3 ∧
      (t.station = 0 ∧ t.time.stHeld = false) ∧
      t.clk.gatesOpened = some a.time.xt ∧
      (t.rd F.NRL_STATE_MOD_ST = if a.rd F.NRL_STATE_MOD_ST = 0 then 1 else a.rd F.NRL_STATE_MOD_ST) ∧
      Logged Ev.RESET [a.rd F.CLK_STATUS_RESET_CAUSE] a t ∧
      Moves (traceParts ++ [.time, .clk, .fld]) traceObjs [F.CLK_STATUS_CLK_PHASE, F.NRL_STATE_MOD_ST, F.NRL_CTRL_PA_ST, F.NRL_STATE_PB_ST, F.NRL_STATE_WRAP_A, F.NRL_STATE_WRAP_B] a t) ∧
  (∀ (dt : Elapsed) (s : State) (n : Nat), let a := advance dt s
    (a.rd F.CLK_STATUS_CLK_PHASE = 2) →
    (a.clk.bridgeFrom = some n) →
    Does (.pllGatesOpen dt 3) s fun t =>
      (t.clk.lane = true ∧ t.clk.supv = true ∧ t.clk.image = true ∧ t.clk.event = true ∧ t.time.link = true) ∧
      t.rd F.CLK_STATUS_CLK_PHASE = 3 ∧
      (t.clk.bridgeFrom = none ∧ t.clk.parked = false ∧ t.clk.bridgeAge = a.time.xt - n) ∧
      (a.clk.bridgeLong = true → a.mode = mRUN → t.mode = mFAULT ∧ t.rd F.CLK_EVENTS_RELOCK_LATE = 1) ∧
      Moves (traceParts ++ [.time, .clk, .mbx, .img, .scn, .prg, .fld, .ana, .ang, .pair, .free]) traceObjs [F.ANG_CAPPOS_CAPPOS, F.ANG_EV_STATE, F.ANG_PERIOD_PERIOD, F.ANG_STATUS_BSHORT, F.ANG_STATUS_CAUSE, F.ANG_STATUS_RELATIVE, F.ANG_STATUS_STATE, F.CLK_EVENTS_RELOCK_LATE, F.CLK_PARK_TIME_PERIODS, F.CLK_STATUS_CLK_PHASE, F.DG_CHSTAT_BSHORT, F.DG_CHSTAT_CLAMP, F.DG_CHSTAT_LOCKED, F.DG_CHSTAT_PENDING, F.DG_GSTAT_BC_V, F.DG_GSTAT_RATE, F.DG_GSTAT_WORD, F.MBX_QUEUES_CQ_FREE, F.MBX_QUEUES_CR_FREE, F.MBX_USE_HANDLES_USED, F.MBX_USE_SESSIONS_OPEN, F.NRL_CTRL_PA_ST, F.NRL_PORTA_LINK_LOCK_LOSS_A, F.NRL_PORTB_LINK_LOCK_LOSS_B, F.NRL_STATE_MOD_ST, F.NRL_STATE_PB_ST, F.NRL_STATE_WRAP_A, F.NRL_STATE_WRAP_B, F.PLT_PSTATE_ROLE, F.PPR_STAT_FRESH, F.PPR_STAT_VERIFIED_OK, F.PRG_ACT_PENDING, F.SCN_MODE_CAUSE, F.SCN_MODE_CAUSE_PERSISTS, F.SCN_MODE_MODE, F.SCN_MODE_PENDING] a t) ∧
  (∀ (dt : Elapsed) (s : State) (n : Nat), let a := advance dt s
    (a.rd F.CLK_STATUS_CLK_PHASE = 3) →
    (a.clk.lane = false) →
    (a.clk.limited = false) →
    (a.clk.laneFrom = some n) →
    Does (.pllGatesOpen dt 1) s fun t =>
      t.clk = { a.clk with lane := true, laneFrom := none } ∧
      t.rd F.CLK_PARK_TIME_PERIODS = (a.time.xt - n) % 2 ^ F.CLK_PARK_TIME_PERIODS.width ∧
      Logged Ev.PARK (leBytes 4 (a.time.xt - n)) a t ∧
      (a.mode = mRUN → t.time.runFrom = some a.time.now) ∧
      Moves (traceParts ++ [.time, .clk, .scn, .prg]) traceObjs [F.CLK_PARK_TIME_PERIODS, F.SCN_MODE_CAUSE_PERSISTS] a t) ∧
  (∀ (dt : Elapsed) (s : State) (n : Nat), let a := advance dt s
    (a.clk.bridgeFrom = some n) →
    (∀ g ∈ List.range 12, (a.time.xt - n) * 1000 < a.reinTo g * 32768) →
    Does (.bridgeFrame dt) s fun t =>
      t = { a with clk := { a.clk with bridgeAge := a.time.xt - n } }) ∧
  (∀ (dt : Elapsed) (s : State) (n : Nat), let a := advance dt s
    (a.ring.announced = some n) →
    (a.clk.parked = false) →
    (a.timed = true) →
    (a.time.link = true) →
    (a.nextBoundary ≤ a.time.now) →
    (a.t0Runs = false) →
    Does (.park dt) s fun t =>
      (t.clk.parked = true ∧ t.clk.lane = false ∧ t.clk.supv = false ∧ t.clk.image = false ∧ t.time.link = true) ∧
      t.rd F.CLK_STATUS_CLK_PHASE = 4 ∧
      (t.time.stHeld = true ∧ t.station = a.station) ∧
      (t.ring.announced = none ∧ t.clk.changeFrom = some n) ∧
      t.rd F.NRL_STATE_MOD_ST = 3 ∧
      t.rd F.CLK_EVENTS_PARK_ANN = 1 ∧
      Logged Ev.CLOCK_EVENT (leBytes 4 (2 ^ F.CLK_EVENTS_PARK_ANN.lo)) a t ∧
      Moves (traceParts ++ [.time, .clk, .mbx]) traceObjs [F.CLK_EVENTS_PARK_ANN, F.CLK_START_TIMED, F.CLK_STATUS_CLK_PHASE, F.NRL_STATE_MOD_ST, F.SCN_MODE_CAUSE_PERSISTS] a t) ∧
  (∀ (dt : Elapsed) (s : State) (k : Nat), let a := advance dt s
    (a.pwr.laneTo = some k) →
    (a.clk.lane = true) →
    (a.mode ≠ mRUN ∧ a.mode ≠ mHOLD) →
    (k < 4) →
    Does (.laneStepChange dt) s fun t =>
      t.rd F.PWR_PLAN_LANE_STEP = k ∧
      t.rd F.PWR_PLAN_BUDGET_SHORT = 0 ∧
      (t.rd F.CLK_STATUS_LANE_CLK = if a.rd F.CLK_STATUS_LCLK_NOM = 3 then k else 4) ∧
      t.pwr = { a.pwr with laneTo := none, laneDefer := false, laneUrgent := false } ∧
      t.latch 19 = true ∧
      Logged Ev.PLAN_STEP ([0, a.rd F.PWR_PLAN_LANE_STEP, k, 0] ++ leBytes 4 (unsgn 32 (min (sgn 16 (a.rd F.PWR_SENSE_SLACK_A)) (min (sgn 16 (a.rd F.PWR_SENSE_SLACK_B)) (sgn 16 (a.rd F.PWR_SENSE_SLACK_C)))))) a t ∧
      Moves (traceParts ++ [.pwr]) traceObjs [F.PWR_PLAN_LANE_STEP, F.PWR_PLAN_BUDGET_SHORT, F.PWR_PLAN_URGENT, F.CLK_STATUS_LANE_CLK] a t) ∧
  (∀ (dt : Elapsed) (s : State) (k n : Nat), let a := advance dt s
    (a.pwr.laneTo = some k) →
    (a.clk.lane = true) →
    (a.mode = mRUN ∨ a.mode = mHOLD) →
    (a.pwr.laneUrgent = false) →
    (a.pwr.laneDefer = false) →
    (a.lanesIdle = true) →
    (a.scn.presented = []) →
    (a.time.now + 230000 ≤ a.nextBoundary + 4000) →
    (a.budgetFails (a.stepMHz k) = some n) →
    (n < 64) →
    Does (.laneStepChange dt) s fun t =>
      t.pwr = { a.pwr with laneDefer := true } ∧
      t.rd F.PWR_PLAN_BUDGET_SHORT = 1 ∧
      t.rd F.PWR_PLAN_BUDGET_TASK = n ∧
      t.rd F.PWR_PLAN_LANE_STEP = a.rd F.PWR_PLAN_LANE_STEP ∧
      Logged Ev.BUDGET_SHORT ([n, 0, 0, 0] ++ leBytes 4 (Table.find 0 a.scn.peak n)) a t ∧
      Moves (traceParts ++ [.pwr]) traceObjs [F.PWR_PLAN_BUDGET_SHORT, F.PWR_PLAN_BUDGET_TASK] a t) ∧
  (∀ (dt : Elapsed) (s : State), let a := advance dt s
    (a.rtc.powered = true) →
    (a.rd F.RTC_STATUS_XTAL_RUN = 1) →
    (a.clk.inReset = false) →
    Does (.oscStop dt) s fun t =>
      t.rd F.RTC_STATUS_XTAL_RUN = 0 ∧
      t.rd F.RTC_STATUS_OSF = 1 ∧
      t.rd F.RTC_STATUS_OSF_CAUSE = 2 ∧
      t.rd F.CLK_STATUS_XTAL_OK = 0 ∧
      t.rd F.RTC_STATUS_XTAL_SUBST = 1 ∧
      t.time = a.time ∧
      Logged Ev.OSC_STOP [2] a t ∧
      Moves (traceParts ++ [.rtc]) traceObjs [F.CLK_STATUS_XTAL_OK, F.RTC_STATUS_OSF, F.RTC_STATUS_OSF_CAUSE, F.RTC_STATUS_XTAL_RUN, F.RTC_STATUS_XTAL_SUBST] a t) ∧
  (∀ (dt : Elapsed) (s : State), let a := advance dt s
    (a.rtc.powered = true) →
    (a.rd F.RTC_STATUS_XTAL_RUN = 0) →
    (a.clk.inReset = false) →
    Does (.xtalResume dt) s fun t =>
      t.rd F.RTC_STATUS_XTAL_RUN = 1 ∧
      t.rd F.CLK_STATUS_XTAL_OK = 1 ∧
      t.rd F.RTC_STATUS_XTAL_SUBST = 0 ∧
      t.rd F.RTC_STATUS_OSF = a.rd F.RTC_STATUS_OSF ∧
      Moves [] [] [F.CLK_STATUS_XTAL_OK, F.RTC_STATUS_XTAL_RUN, F.RTC_STATUS_XTAL_SUBST] a t) ∧
  (∀ (dt : Elapsed) (s : State), let a := advance dt s
    (a.clk.inReset = false) →
    (a.clk.gatesOpened = none) →
    (a.rd F.CLK_STATUS_XTAL_OK = 0) →
    Does (.xtalLimited dt) s fun t =>
      (t.clk.limited = true ∧ t.clk.lane = false ∧ t.clk.supv = true ∧ t.clk.image = true ∧ t.clk.event = true ∧ t.time.link = true) ∧
      t.rd F.CLK_STATUS_CLK_PHASE = 6 ∧
      t.station = 0 ∧
      Moves (traceParts ++ [.time, .clk, .fld]) traceObjs [F.CLK_STATUS_CLK_PHASE, F.NRL_CTRL_PA_ST, F.NRL_PORTA_LINK_LOCK_LOSS_A, F.NRL_PORTB_LINK_LOCK_LOSS_B, F.NRL_STATE_MOD_ST, F.NRL_STATE_PB_ST, F.NRL_STATE_WRAP_A, F.NRL_STATE_WRAP_B] a t)

/-- VSYS rising, and VSYS falling outside a ride, is a POR reset: RESET_CAUSE is 1, the module is in reset in INIT, volatile
units are empty, the records of the store stand, and every field outside the backup domain, the ring role, the calibration
coefficients and the field dies' configuration reads its reset value. During a ride a falling edge changes nothing. RESET_N
low for 10 µs is a PIN reset, below 1 µs nothing, and between them the module may do either. The release of POR or RESET_N
begins phase B with the straps sampled. A MOD_RESET that is due and acknowledged is made: WARM stays in phase and takes the
module to INIT, MODULE begins phase B. A supervisor core that falls silent is replaced by a ready spare, both silent is a
WATCHDOG reset; the start-up watchdog resets, and at the third time the start-up ends. The records of the buffer are handled
by R456 to R460, stated elsewhere. -/
def Obligations.ResetsAndWatchdogs : Prop :=
  (∀ (dt : Elapsed) (s : State) (rising : Bool), let a := advance dt s
    (rising = true ∨ a.riding = false) →
    Does (.por dt rising) s fun t =>
      t.rd F.CLK_STATUS_RESET_CAUSE = 1 ∧
      (t.clk.inReset = true ∧ t.clk.lane = false ∧ t.clk.supv = false ∧ t.clk.image = false ∧ t.clk.event = false ∧ t.time.link = false) ∧
      t.mode = mINIT ∧
      (t.ring = {} ∧ t.mbx = {} ∧ t.img = {} ∧ t.scn = {} ∧ t.prg = {} ∧ t.ang = {} ∧ t.plt = {} ∧ t.pair = {} ∧ t.int = {}) ∧
      (t.sto.recs = a.sto.recs ∧ t.sto.buf = [] ∧ t.pending = a.pending) ∧
      (∀ (f : Fld) (i e : Nat), f.obj < F.objRTC_TIME ∨ F.objRTC_BKP < f.obj → f.obj ∉ [F.objNRL_STATE, F.objCLK_STATUS, F.objAG_CS, F.objDG_CH, F.objDG_BOOST, F.objDG_GROUP, F.objAG_CH, F.objAG_GROUP] → t.rdE f i e = f.dflt) ∧
      (∀ (f : Fld) (i e : Nat), F.objRTC_TIME ≤ f.obj → f.obj ≤ F.objRTC_BKP → f.obj ≠ F.objRTC_STATUS → t.rdE f i e = a.rdE f i e) ∧
      (rising = true → a.rtc.powered = true → t.rd F.RTC_STATUS_PWRON_LOW = 1)) ∧
  (∀ (dt : Elapsed) (s : State), let a := advance dt s
    (a.riding = true) →
    Does (.por dt false) s fun t =>
      t = a) ∧
  (∀ (dt : Elapsed) (s : State) (n : Nat), let a := advance dt s
    (10000 ≤ n) →
    (a.riding = false) →
    Does (.pinReset dt n) s fun t =>
      t.rd F.CLK_STATUS_RESET_CAUSE = 2 ∧
      (t.clk.pinLow = true ∧ t.clk.inReset = true ∧ t.clk.lane = false ∧ t.time.link = false) ∧
      (t.mode = mINIT ∧ t.sto.buf = [] ∧ t.sto.recs = a.sto.recs)) ∧
  (∀ (dt : Elapsed) (s : State) (n : Nat), let a := advance dt s
    (n < 1000) →
    Does (.pinReset dt n) s fun t =>
      t = a) ∧
  (∀ (dt : Elapsed) (s : State) (n : Nat), let a := advance dt s
    (1000 ≤ n) →
    (n < 10000) →
    (a.riding = false) →
    Does (.pinReset dt n) s fun t =>
      (t = { a with free := a.free + 1 } ∨ t.rd F.CLK_STATUS_RESET_CAUSE = 2 ∧ t.clk.pinLow = true ∧ t.clk.inReset = true)) ∧
  (∀ (dt : Elapsed) (s : State) (le cs xt : Bool), let a := advance dt s
    (a.clk.inReset = true) →
    (a.clk.pinLow = false) →
    Does (.porRelease dt le cs xt) s fun t =>
      (t.clk.inReset = false ∧ t.clk.bypass = true ∧ t.clk.compat = cs ∧ t.clk.porXt = a.time.xt) ∧
      t.rd F.CLK_STATUS_CLK_PHASE = 1 ∧
      t.rd F.NRL_STATE_ROLE = b2n le ∧
      (t.rd F.CLK_STATUS_XTAL_OK = b2n xt ∧ t.rd F.RTC_STATUS_XTAL_RUN = b2n xt) ∧
      t.rd F.CLK_STATUS_REFPORT = b2n (!a.clk.clkA && a.clk.clkB) ∧
      (le = true → t.port .B = pFAULTED ∧ t.rd F.NRL_STATE_WRAP_B = 1) ∧
      Moves [.clk, .pwr] [] [F.CLK_STATUS_CLK_PHASE, F.CLK_STATUS_REFPORT, F.CLK_STATUS_XTAL_OK, F.NRL_STATE_CLKSRC, F.NRL_STATE_PB_ST, F.NRL_STATE_ROLE, F.NRL_STATE_WRAP_B, F.RTC_STATUS_XTAL_RUN] a t) ∧
  (∀ (dt : Elapsed) (s : State) (le cs xt : Bool), let a := advance dt s
    (a.clk.pinLow = true) →
    (a.clk.inReset = true) →
    Does (.resetNRelease dt le cs xt) s fun t =>
      (t.clk.pinLow = false ∧ t.clk.inReset = false ∧ t.clk.compat = cs) ∧
      t.rd F.CLK_STATUS_CLK_PHASE = 1 ∧
      t.rd F.NRL_STATE_ROLE = b2n le ∧
      t.rd F.CLK_STATUS_XTAL_OK = b2n xt ∧
      Moves [.clk, .pwr] [] [F.CLK_STATUS_CLK_PHASE, F.CLK_STATUS_REFPORT, F.CLK_STATUS_XTAL_OK, F.NRL_STATE_CLKSRC, F.NRL_STATE_PB_ST, F.NRL_STATE_ROLE, F.NRL_STATE_WRAP_B, F.RTC_STATUS_XTAL_RUN] a t) ∧
  (∀ (dt : Elapsed) (s : State) (kind seq : Nat), let a := advance dt s
    (a.clk.pendReset = some (kind, seq)) →
    (a.mbx.cq.find? (fun r => decide (r.seq = seq)) = none) →
    (a.riding = false) →
    (kind = 3 ∨ kind = 4) →
    Does (.moduleResetStart dt) s fun t =>
      t.rd F.CLK_STATUS_RESET_CAUSE = kind ∧
      (t.mode = mINIT ∧ t.clk.pendReset = none ∧ t.clk.inReset = false ∧ t.clk.coldReset = decide (kind = 3)) ∧
      (t.mbx = {} ∧ t.scn = {} ∧ t.img = {} ∧ t.prg = {}) ∧
      (kind = 3 → t.rd F.CLK_STATUS_CLK_PHASE = 1 ∧ t.time.link = false) ∧
      (kind = 4 → t.time.link = a.time.link ∧ t.ring.cinch = a.ring.cinch ∧ t.rd F.CLK_STATUS_CLK_PHASE = a.rd F.CLK_STATUS_CLK_PHASE)) ∧
  (∀ (dt : Elapsed) (s : State) (up : Bool) (n : Nat), let a := advance dt s
    (a.clk.gatesOpened = some n) →
    (a.clk.stopReady = false) →
    (a.clk.startFailed = false) →
    (a.rd F.SEC_STATUS_RECOVERY = 0) →
    (n + 8192 ≤ a.time.xt) →
    (a.riding = false) →
    Does (.startupWatchdog dt up) s fun t =>
      t.rd F.CLK_STATUS_RESET_CAUSE = 5 ∧
      t.clk.startRuns = a.clk.startRuns + 1 ∧
      t.clk.startFailed = decide (2 ≤ a.clk.startRuns) ∧
      (t.mode = mINIT ∧ t.time.link = a.time.link)) ∧
  (∀ (dt : Elapsed) (s : State) (both up : Bool), let a := advance dt s
    (a.clk.supv = true) →
    (a.clk.inReset = false) →
    (a.riding = false) →
    (both = true ∨ a.rd F.SEC_STATUS_SPARE_READY = 0) →
    Does (.svWatchdog dt both up) s fun t =>
      t.rd F.CLK_STATUS_RESET_CAUSE = 5 ∧
      (t.mode = mINIT ∧ t.mbx = {} ∧ t.clk.stopReady = false ∧ t.clk.fwRunning = false)) ∧
  (∀ (dt : Elapsed) (s : State) (both up : Bool), let a := advance dt s
    (a.clk.supv = true) →
    (a.clk.inReset = false) →
    (both = false) →
    (a.rd F.SEC_STATUS_SPARE_READY = 1) →
    (a.rd F.SEC_STATUS_ACTIVE_SV ≤ 1) →
    Does (.svWatchdog dt both up) s fun t =>
      t.rd F.SEC_STATUS_ACTIVE_SV = 1 - a.rd F.SEC_STATUS_ACTIVE_SV ∧
      t.rd F.SEC_STATUS_SPARE_READY = 0 ∧
      (t.mode = a.mode ∧ t.scn.running = a.scn.running ∧ t.clk.stopReady = a.clk.stopReady) ∧
      Logged Ev.SV_HANDOVER [1 - a.rd F.SEC_STATUS_ACTIVE_SV, 2] a t ∧
      Keeps (traceParts ++ [.time, .clk, .mbx, .img, .scn, .prg, .fld, .ana, .ang, .plt, .pair, .pwr, .sec]) a t)

/-- A taken MODE_SET whose windows are open and whose transition SCN-2 admits answers ACCEPTED with a handle; out of RUN or
HOLD, and from STOP with CONTINUE, the transition is pending from now and PENDING shows its target; STOP to HOLD is refused
with BAD_TRANSITION and changes no mode. AUTORUN begins the entry into RUN once when it may, and records AUTORUN_REFUSED
with the code when a window or the program refuses it. Start-up tasks that exceed STARTUP_LIMIT take the module into FAULT
with cause 8; a HOLD that lasts HOLD_LIMIT has a transition to STOP of the module's own pending (its boundary is the model's
choice, assumption log 39). Nothing outside the frames changes. -/
def Obligations.ModeCommands : Prop :=
  (∀ (dt : Elapsed) (s : State) (r : RingCmd) (x : Session) (g k : Nat), let a := advance dt s
    (Taken 0x40 2 a r x) →
    ((parse r).payload = [g, k, 0, 0]) →
    (a.window (modeWin g) = none) →
    (g = mRUN → a.storeFault = false) →
    (a.scn.pend = none) →
    (k ≤ 2) →
    ((a.mode = mRUN ∨ a.mode = mHOLD) ∧ g = mSTOP ∨ a.mode = mRUN ∧ g = mHOLD ∨ a.mode = mHOLD ∧ g = mRUN ∧ k = 0 ∨ a.mode = mSTOP ∧ g = mRUN ∧ k = 0 ∧ a.prg.active.isSome = true ∧ a.cycleOk = true ∧ a.scn.intact = true ∨ a.mode = mFAULT ∧ g = mSTOP ∧ a.faultPersists = false) →
    (HasHandle a x) →
    Does (.modeSet dt) s fun t =>
      (∃ n, Answered r Code.ACCEPTED n 0 [] a t ∧ t.scn.pend = some ⟨g, k, n, a.time.now, false, a.time.now, false, a.time.xt⟩) ∧
      t.rd F.SCN_MODE_PENDING = g ∧
      t.mode = a.mode ∧
      (t.scn.running = a.scn.running ∧ t.scn.lanes = a.scn.lanes) ∧
      Moves (traceParts ++ [.mbx, .scn, .plt, .sec]) traceObjs [F.MBX_QUEUES_CQ_FREE, F.MBX_QUEUES_CR_FREE, F.MBX_USE_BAD_MAC, F.MBX_USE_HANDLES_USED, F.MBX_USE_SESSIONS_OPEN, F.SCN_MODE_PENDING] a t) ∧
  (∀ (dt : Elapsed) (s : State) (r : RingCmd) (x : Session) (k : Nat), let a := advance dt s
    (Taken 0x40 2 a r x) →
    ((parse r).payload = [mHOLD, k, 0, 0]) →
    (a.window (modeWin mHOLD) = none) →
    (a.scn.pend = none) →
    (k ≤ 2) →
    (a.mode = mSTOP) →
    (HasHandle a x) →
    Does (.modeSet dt) s fun t =>
      Answered r Code.BAD_TRANSITION 0 0 [] a t ∧
      (t.mode = mSTOP ∧ t.scn = a.scn ∧ t.mbx.hdls = a.mbx.hdls) ∧
      Moves (traceParts ++ [.mbx, .scn, .plt, .sec]) traceObjs [F.MBX_QUEUES_CQ_FREE, F.MBX_QUEUES_CR_FREE, F.MBX_USE_BAD_MAC, F.MBX_USE_HANDLES_USED, F.MBX_USE_SESSIONS_OPEN, F.SCN_MODE_PENDING] a t) ∧
  (∀ (dt : Elapsed) (s : State) (k : Nat), let a := advance dt s
    (a.rd F.SCN_CFG_AUTORUN = k) →
    (k ≠ 0) →
    (a.clk.autorunDone = false) →
    (a.clk.coldReset = true) →
    (a.clk.stopReady = true) →
    (a.timed = true) →
    (a.rd F.CLK_START_HOLD_38 = 1) →
    (a.window (modeWin mRUN) = none) →
    (a.storeFault = false) →
    (modeRefusal a mRUN k = none) →
    (a.mode = mSTOP) →
    (a.scn.pend = none) →
    Does (.autorun dt) s fun t =>
      t.clk.autorunDone = true ∧
      (∃ p, t.scn.pend = some p ∧ p.target = mRUN ∧ p.restart = k ∧ p.handle = 0) ∧
      t.rd F.SCN_MODE_PENDING = mRUN ∧
      t.mode = mSTOP ∧
      Moves (traceParts ++ [.clk, .mbx, .scn, .plt]) traceObjs [F.MBX_QUEUES_CQ_FREE, F.MBX_QUEUES_CR_FREE, F.MBX_USE_HANDLES_USED, F.MBX_USE_SESSIONS_OPEN, F.SCN_MODE_PENDING] a t) ∧
  (∀ (dt : Elapsed) (s : State) (k st : Nat), let a := advance dt s
    (a.rd F.SCN_CFG_AUTORUN = k) →
    (k ≠ 0) →
    (a.clk.autorunDone = false) →
    (a.clk.coldReset = true) →
    (a.clk.stopReady = true) →
    (a.timed = true) →
    (a.rd F.CLK_START_HOLD_38 = 1) →
    (a.window (modeWin mRUN) = some st) →
    Does (.autorun dt) s fun t =>
      t.clk.autorunDone = true ∧
      t.scn = a.scn ∧
      Logged Ev.AUTORUN_REFUSED (leBytes 2 st) a t ∧
      Moves (traceParts ++ [.clk]) traceObjs [] a t) ∧
  (∀ (dt : Elapsed) (s : State) (p : PendMode), let a := advance dt s
    (a.scn.pend = some p) →
    (p.startup = true) →
    (p.xt + a.rd F.SCN_CFG_STARTUP_LIMIT * 32768 / 1000 ≤ a.time.xt) →
    (a.mode ≠ mINIT ∧ a.mode ≠ mFAULT) →
    Does (.startupLimitExpiry dt) s fun t =>
      t.mode = mFAULT ∧
      t.rd F.SCN_MODE_CAUSE = 8 ∧
      (t.scn.pend = none ∧ t.scn.running = none ∧ t.scn.startQueue = []) ∧
      (p.handle ≠ 0 → Fins p.handle Code.MODE_FAULT a.mode [] a t) ∧
      Moves (traceParts ++ [.time, .mbx, .img, .scn, .prg, .fld, .pair]) traceObjs [F.ANG_EV_STATE, F.MBX_QUEUES_CQ_FREE, F.MBX_QUEUES_CR_FREE, F.MBX_USE_HANDLES_USED, F.MBX_USE_SESSIONS_OPEN, F.PLT_PSTATE_ROLE, F.PRG_ACT_PENDING, F.SCN_MODE_CAUSE, F.SCN_MODE_MODE, F.SCN_MODE_PENDING] a t) ∧
  (∀ (dt : Elapsed) (s : State), let a := advance dt s
    (a.mode = mHOLD) →
    (a.scn.enterXt + 32768 * a.rd F.SCN_CFG_HOLD_LIMIT ≤ a.time.xt) →
    (a.scn.pend = none) →
    Does (.holdLimitExpiry dt) s fun t =>
      t.scn.pend = some ⟨mSTOP, 0, 0, a.time.now - 100000, false, a.time.now, false, a.time.xt⟩ ∧
      t.rd F.SCN_MODE_PENDING = mSTOP ∧
      t.mode = mHOLD ∧
      Moves [.scn] [] [F.SCN_MODE_PENDING] a t)

/-- A pending entry into RUN whose qualifying cinch latch has come, with no start-up task left and no commit waiting, makes
the mode RUN, starts the RUN ticks, records MODE with old mode, new mode, cause 0 and restart kind, sets the MODE latch and
ends its MODE_SET with FIN OK. The boundary of a transition out of RUN to HOLD, or out of RUN or HOLD to STOP, with nothing
in progress makes the mode HOLD or STOP with its record and FIN; STOP releases the trip captures, leaves data intact for
CONTINUE and sends the STOP safe values (a hold command where an ELIGIBLE partner takes over) to all twelve groups. While an
execution is in progress the mode stays and the boundary is noted. An accepted STOP in FAULT makes the mode STOP with the
safe values. PENDING then reads 0. Nothing outside the frames changes. -/
def Obligations.ModeTransitions : Prop :=
  (∀ (dt : Elapsed) (s : State) (p : PendMode), let a := advance dt s
    (a.scn.pend = some p) →
    (p.target = mRUN) →
    (p.startup = false) →
    (a.runLatch p.readyAt = true) →
    (a.clk.lane = true) →
    (a.mode = mSTOP ∧ a.commitWaits = false ∨ a.mode = mHOLD) →
    Does (.modeRunEntry dt) s fun t =>
      t.mode = mRUN ∧
      (t.scn.pend = none ∧ t.rd F.SCN_MODE_PENDING = 0 ∧ t.scn.restart = p.restart) ∧
      t.time.runFrom = some a.time.now ∧
      t.latch 20 = true ∧
      Logged (Ev.MODE.1, 1) [a.mode, mRUN, 0, p.restart] a t ∧
      (p.handle ≠ 0 → Fins p.handle Code.OK mRUN [] a t) ∧
      Moves (traceParts ++ [.time, .mbx, .img, .scn, .fld, .ana, .plt, .pair]) (traceObjs ++ [F.objAG_GSTAT]) [F.DG_CHSTAT_CLAMP, F.DG_CHSTAT_PRESENT, F.DG_GSTAT_BC_V, F.DG_GSTAT_RATE, F.DG_GSTAT_WORD, F.MBX_QUEUES_CQ_FREE, F.MBX_QUEUES_CR_FREE, F.MBX_USE_HANDLES_USED, F.MBX_USE_SESSIONS_OPEN, F.PLT_PSTATE_ROLE, F.SCN_MODE_MODE, F.SCN_MODE_PENDING] a t) ∧
  (∀ (dt : Elapsed) (s : State) (p : PendMode), let a := advance dt s
    (a.leaveNow mHOLD = some p) →
    (a.mode = mRUN) →
    (a.noExec = true) →
    (a.prg.act = none) →
    Does (.modeHoldEntry dt) s fun t =>
      t.mode = mHOLD ∧
      (t.scn.pend = none ∧ t.rd F.SCN_MODE_PENDING = 0) ∧
      (t.time.runFrom = none ∧ t.runTicks = a.runTicks) ∧
      Logged (Ev.MODE.1, 1) [mRUN, mHOLD, 0, a.scn.restart] a t ∧
      (p.handle ≠ 0 → Fins p.handle Code.OK mHOLD [] a t) ∧
      Moves (traceParts ++ [.time, .mbx, .img, .scn, .prg, .fld, .pair]) (traceObjs ++ [F.objIMG_PINS]) [F.ANG_EV_STATE, F.DG_COS_COS, F.IMG_STATUS_PHOLDS, F.IMG_STATUS_PINNED, F.MBX_QUEUES_CQ_FREE, F.MBX_QUEUES_CR_FREE, F.MBX_USE_HANDLES_USED, F.MBX_USE_SESSIONS_OPEN, F.PLT_PSTATE_MIR_MISS, F.PLT_PSTATE_ROLE, F.PPR_WINSTAT_EVENT, F.PRG_ACT_PENDING, F.SCN_MODE_CAUSE, F.SCN_MODE_MODE, F.SCN_MODE_PENDING, F.SCN_MODE_RETAIN_STALE, F.SCN_MODE_RET_MISS, F.SCN_TSTAT_RUNSKIP, F.SCN_TSTAT_SKIPS] a t) ∧
  (∀ (dt : Elapsed) (s : State) (p : PendMode) (x : Exec), let a := advance dt s
    (a.leaveNow mHOLD = some p) →
    (a.mode = mRUN) →
    (a.scn.running = some x) →
    (a.scn.waiting = []) →
    Does (.modeHoldEntry dt) s fun t =>
      t.mode = mRUN ∧
      t.scn.pend = some { p with cut := true } ∧
      t.scn.running = some x ∧
      Moves [.scn] [] [F.SCN_MODE_PENDING] a t) ∧
  (∀ (dt : Elapsed) (s : State) (p : PendMode), let a := advance dt s
    (a.leaveNow mSTOP = some p) →
    (a.mode = mRUN ∨ a.mode = mHOLD) →
    (a.noExec = true) →
    (a.prg.act = none) →
    Does (.modeStopEntry dt) s fun t =>
      t.mode = mSTOP ∧
      (t.scn.pend = none ∧ t.rd F.SCN_MODE_PENDING = 0 ∧ t.scn.intact = true) ∧
      (t.img.hold0 = none ∧ t.img.hold1 = none) ∧
      (t.fld.cmds = a.fld.cmds ++ (List.range 12).map fun g => (g, if a.holdsFor = true then 3 else 1)) ∧
      (Logged (Ev.MODE.1, 1) [a.mode, mSTOP, if p.handle = 0 then 10 else 0, a.scn.restart] a t) ∧
      (p.handle ≠ 0 → Fins p.handle Code.OK mSTOP [] a t) ∧
      Moves (traceParts ++ [.time, .mbx, .img, .scn, .prg, .fld, .pair]) (traceObjs ++ [F.objIMG_PINS]) [F.ANG_EV_STATE, F.DG_COS_COS, F.IMG_STATUS_PHOLDS, F.IMG_STATUS_PINNED, F.MBX_QUEUES_CQ_FREE, F.MBX_QUEUES_CR_FREE, F.MBX_USE_HANDLES_USED, F.MBX_USE_SESSIONS_OPEN, F.PLT_PSTATE_MIR_MISS, F.PLT_PSTATE_ROLE, F.PPR_WINSTAT_EVENT, F.PRG_ACT_PENDING, F.SCN_MODE_CAUSE, F.SCN_MODE_MODE, F.SCN_MODE_PENDING, F.SCN_MODE_RETAIN_STALE, F.SCN_MODE_RET_MISS, F.SCN_TSTAT_RUNSKIP, F.SCN_TSTAT_SKIPS] a t) ∧
  (∀ (dt : Elapsed) (s : State) (p : PendMode), let a := advance dt s
    (a.scn.pend = some p) →
    (a.mode = mFAULT) →
    (p.target = mSTOP) →
    (a.commitWaits = false) →
    (a.paired = false) →
    Does (.faultExit dt) s fun t =>
      t.mode = mSTOP ∧
      (t.scn.pend = none ∧ t.rd F.SCN_MODE_PENDING = 0) ∧
      (t.fld.cmds = a.fld.cmds ++ (List.range 12).map fun g => (g, 1)) ∧
      Logged (Ev.MODE.1, 1) [mFAULT, mSTOP, 0, a.scn.restart] a t ∧
      (p.handle ≠ 0 → Fins p.handle Code.OK mSTOP [] a t) ∧
      Moves (traceParts ++ [.time, .mbx, .img, .scn, .fld, .pair]) traceObjs [F.ANG_EV_STATE, F.MBX_QUEUES_CQ_FREE, F.MBX_QUEUES_CR_FREE, F.MBX_USE_HANDLES_USED, F.MBX_USE_SESSIONS_OPEN, F.PLT_PSTATE_ROLE, F.SCN_MODE_MODE, F.SCN_MODE_PENDING] a t)

/-- In RUN, 4 µs after a latch with T0 due, a free T0 starts on the current image with fresh registers at its entry, the
snapshot of the cinch where the image is a cinch image, and 24 dispatch cycles; a PERIODIC task does the same at its instant
of station time. A release that finds its task busy is skipped and counted, and the running execution goes on. An execution
past its WD_LIMIT takes the module into FAULT with cause 3. A cinch image on which no T0 was released closes its snapshot
with NOEXEC and the Q and S in force. A retentive copy with a majority stands in a slot of the RETAIN record and clears
RETAIN_STALE; one refused by the energy check counts RET_MISS. A waiting counter ring takes its value. Nothing outside the
frames changes. -/
def Obligations.TaskReleases : Prop :=
  (∀ (dt : Elapsed) (s : State), let a := advance dt s
    (a.scn.t0Due = true) →
    (a.ring.lastLocal + 4000 ≤ a.time.now) →
    (a.mode = mRUN) →
    (a.cut = false) →
    (a.rd F.SCN_T_SRC 0 = 1) →
    (a.clk.lane = true) →
    (a.prg.active.isSome = true) →
    (a.lanesIdle = true) →
    (a.prg.deferring = false) →
    (a.prg.deferred = []) →
    Does (.t0Release dt) s fun t =>
      (∃ x, t.scn.running = some x ∧ x.task = 0 ∧ x.started = true ∧ x.i = a.img.i ∧ x.p = a.img.p ∧ x.q0 = a.img.q ∧ x.snap = (if a.img.latchKind = 2 then none else some a.ring.cinch) ∧ ∀ k, k < 3 → x.lanes.get k = { freshCtx (a.rd F.SCN_T_ENTRY 0) with cycles := 24 }) ∧
      (t.scn.t0Due = false ∧ t.scn.waiting = [] ∧ t.scn.preempted = []) ∧
      t.rd F.SCN_TSTAT_SKIPS 0 = a.rd F.SCN_TSTAT_SKIPS 0 ∧
      (t.pair.capDue = false ∧ t.scn.retBusy = false) ∧
      Moves (traceParts ++ [.time, .mbx, .img, .scn, .prg, .fld, .pair]) traceObjs [F.ANG_EV_STATE, F.MBX_QUEUES_CQ_FREE, F.MBX_QUEUES_CR_FREE, F.MBX_USE_HANDLES_USED, F.MBX_USE_SESSIONS_OPEN, F.PLT_PSTATE_MIR_MISS, F.PLT_PSTATE_ROLE, F.PRG_ACT_PENDING, F.SCN_MODE_CAUSE, F.SCN_MODE_MODE, F.SCN_MODE_PENDING, F.SCN_MODE_RETAIN_STALE, F.SCN_MODE_RET_MISS, F.SCN_TSTAT_RUNSKIP, F.SCN_TSTAT_SKIPS] a t) ∧
  (∀ (dt : Elapsed) (s : State) (x : Exec), let a := advance dt s
    (a.scn.t0Due = true) →
    (a.ring.lastLocal + 4000 ≤ a.time.now) →
    (a.mode = mRUN) →
    (a.cut = false) →
    (a.rd F.SCN_T_SRC 0 = 1) →
    (a.clk.lane = true) →
    (a.prg.active.isSome = true) →
    (a.scn.running = some x) →
    (x.task = 0) →
    (a.rd F.SCN_T_SKIP_MAX 0 = 255) →
    Does (.t0Release dt) s fun t =>
      t.rd F.SCN_TSTAT_SKIPS 0 = min (2 ^ F.SCN_TSTAT_SKIPS.width - 1) (a.rd F.SCN_TSTAT_SKIPS 0 + 1) ∧
      t.rd F.SCN_TSTAT_RUNSKIP 0 = min (2 ^ F.SCN_TSTAT_RUNSKIP.width - 1) (a.rd F.SCN_TSTAT_RUNSKIP 0 + 1) ∧
      (t.scn.running = some x ∧ t.scn.waiting = a.scn.waiting ∧ t.scn.t0Due = false) ∧
      t.mode = mRUN ∧
      Moves [.scn, .pair] [] [F.SCN_TSTAT_SKIPS, F.SCN_TSTAT_RUNSKIP, F.SCN_MODE_RET_MISS, F.SCN_MODE_RETAIN_STALE, F.PLT_PSTATE_MIR_MISS] a t) ∧
  (∀ (dt : Elapsed) (s : State) (k : Nat), let a := advance dt s
    (1 ≤ k ∧ k < 64) →
    (a.rd F.SCN_T_SRC k = 1) →
    (a.rd F.SCN_T_PERIOD k ≠ 0) →
    (a.time.stHeld = false) →
    (a.clk.lane = true) →
    (a.station % a.rd F.SCN_T_PERIOD k = a.rd F.SCN_T_PHASE k % a.rd F.SCN_T_PERIOD k) →
    (Table.find 0 a.scn.perLast k ≠ a.station + 1) →
    (a.mode = mRUN) →
    (a.cut = false) →
    (a.prg.active.isSome = true) →
    (a.lanesIdle = true) →
    (a.prg.deferring = false) →
    (a.prg.deferred = []) →
    Does (.periodicRelease dt k) s fun t =>
      (∃ x, t.scn.running = some x ∧ x.task = k ∧ x.started = true ∧ x.i = a.img.i ∧ x.snap = none ∧ ∀ j, j < 3 → x.lanes.get j = { freshCtx (a.rd F.SCN_T_ENTRY k) with cycles := 24 }) ∧
      Table.find 0 t.scn.perLast k = a.station + 1 ∧
      (t.scn.waiting = [] ∧ t.scn.preempted = []) ∧
      Moves (traceParts ++ [.time, .mbx, .img, .scn, .prg, .fld, .pair]) traceObjs [F.ANG_EV_STATE, F.MBX_QUEUES_CQ_FREE, F.MBX_QUEUES_CR_FREE, F.MBX_USE_HANDLES_USED, F.MBX_USE_SESSIONS_OPEN, F.PLT_PSTATE_MIR_MISS, F.PLT_PSTATE_ROLE, F.PRG_ACT_PENDING, F.SCN_MODE_CAUSE, F.SCN_MODE_MODE, F.SCN_MODE_PENDING, F.SCN_MODE_RETAIN_STALE, F.SCN_MODE_RET_MISS, F.SCN_TSTAT_RUNSKIP, F.SCN_TSTAT_SKIPS] a t) ∧
  (∀ (dt : Elapsed) (s : State) (x : Exec), let a := advance dt s
    (a.clk.lane = true) →
    (x ∈ a.allExecs) →
    (a.rd F.SCN_T_WD_LIMIT x.task ≠ 0) →
    (x.relXt + a.rd F.SCN_T_WD_LIMIT x.task ≤ a.time.xt) →
    (a.mode ≠ mINIT ∧ a.mode ≠ mFAULT) →
    Does (.taskWatchdog dt) s fun t =>
      t.mode = mFAULT ∧
      t.rd F.SCN_MODE_CAUSE = 3 ∧
      (t.scn.running = none ∧ t.scn.waiting = [] ∧ t.scn.presented = []) ∧
      Moves (traceParts ++ [.time, .mbx, .img, .scn, .prg, .fld, .pair]) traceObjs [F.ANG_EV_STATE, F.MBX_QUEUES_CQ_FREE, F.MBX_QUEUES_CR_FREE, F.MBX_USE_HANDLES_USED, F.MBX_USE_SESSIONS_OPEN, F.PLT_PSTATE_ROLE, F.PRG_ACT_PENDING, F.SCN_MODE_CAUSE, F.SCN_MODE_MODE, F.SCN_MODE_PENDING] a t) ∧
  (∀ (dt : Elapsed) (s : State) (x : Snap), let a := advance dt s
    (a.img.latchKind ≠ 2) →
    (a.ring.lastLatch + 4000 ≤ a.time.now) →
    (∀ e ∈ a.allExecs, e.snap ≠ some a.ring.cinch) →
    (a.mode ≠ mRUN) →
    (a.snap? a.ring.cinch = some x) →
    (x.closed = false) →
    Does (.snapshotNoexec dt) s fun t =>
      (t = { a with img := { a.img with snaps := a.img.snaps.map fun y => if y.cinch = x.cinch then { x with closed := true, noexec := true, uncommitted := false, closeTime := a.station, q := a.img.q, s := a.img.s } else y } })) ∧
  (∀ (dt : Elapsed) (s : State) (items : List (List Nat)) (d : List Nat), let a := advance dt s
    (a.scn.retBusy = true) →
    (a.mode = mRUN) →
    (a.noExec = true) →
    (a.clk.lane = true) →
    (a.storeOk = true) →
    (retainData (a.activeBank.getD {}) (((List.range 3).filter fun k => a.votes k).map fun k => a.scn.lanes.get k) 0 (retainItems a.retainRows (((a.activeBank.getD {}).insts.filter (·.retain)).map (·.id))) = .ok items) →
    (d = retainHead (a.activeBank.getD {}).build a.retainRows ((a.activeBank.getD {}).insts.filter (·.retain)) ++ items.flatten) →
    Does (.retentiveCopy dt) s fun t =>
      ((t.stoRec kRETAIN 0).s0.map (·.data) = some (slice d 0 ((d.length + 7) / 8 * 8)) ∨ (t.stoRec kRETAIN 0).s1.map (·.data) = some (slice d 0 ((d.length + 7) / 8 * 8))) ∧
      (t.rd F.SCN_MODE_RETAIN_VALID = 1 ∧ t.rd F.SCN_MODE_RETAIN_STALE = 0) ∧
      (t.scn.retBusy = false ∧ t.scn.lanes = a.scn.lanes) ∧
      Moves [.sto, .scn, .prg] [] [F.SCN_MODE_RETAIN_VALID, F.SCN_MODE_RETAIN_STALE, F.STO_STATUS_INCONS] a t) ∧
  (∀ (dt : Elapsed) (s : State) (items : List (List Nat)), let a := advance dt s
    (a.scn.retBusy = true) →
    (a.mode = mRUN) →
    (a.noExec = true) →
    (a.clk.lane = true) →
    (a.storeOk = false) →
    (retainData (a.activeBank.getD {}) (((List.range 3).filter fun k => a.votes k).map fun k => a.scn.lanes.get k) 0 (retainItems a.retainRows (((a.activeBank.getD {}).insts.filter (·.retain)).map (·.id))) = .ok items) →
    Does (.retentiveCopy dt) s fun t =>
      t.rd F.SCN_MODE_RET_MISS = min 15 (a.rd F.SCN_MODE_RET_MISS + 1) ∧
      (t.scn.retBusy = false ∧ t.sto = a.sto) ∧
      (t.rd F.SCN_MODE_RETAIN_STALE = if 2 ≤ a.scn.retRun then 1 else a.rd F.SCN_MODE_RETAIN_STALE) ∧
      Moves [.scn] [] [F.SCN_MODE_RET_MISS, F.SCN_MODE_RETAIN_STALE] a t) ∧
  (∀ (dt : Elapsed) (s : State) (k v : Nat), let a := advance dt s
    ((a.sto.ringPend.find? fun e => decide (64 ≤ e.1) || a.noExec) = some (k, v)) →
    (a.storeOk = true) →
    Does (.counterRingUpdate dt) s fun t =>
      (t.ringValue k = (if k < 64 then unsgn 48 (sgn 32 v) else v) % 2 ^ 48) ∧
      (∀ j, j ≠ k → t.ringValue j = a.ringValue j) ∧
      Moves [.sto] [] [] a t)

/-- For every opcode and every handler: a ready mailbox takes the front command of that opcode and answers a malformed one
with BAD_LENGTH; one whose session, state or MAC fails with the code of that check, a bad MAC being counted and recorded;
sequence 0 and one behind the window with STALE_SEQ; one whose number the session still remembers with the stored response,
flagged REPEATED, without running it; a fresh one of too low a role with ROLE_DENIED, which the session then remembers under
its number. In each of these cases the command leaves the ring and no handle, mode or image changes. A command of another
opcode at the front, or a mailbox that is not ready, leaves the machine as it is. NOP answers OK and an opcode MBX-13 does
not list BAD_OPCODE. -/
def Obligations.MailboxChecks : Prop :=
  (∀ (op role : Nat) (h : Cmd → Session → State → State × Ans) (s : State) (r : RingCmd), s.mbxReady = true →
    s.mbx.ring.head? = some r → (parse r).opcode = op → s.clk.startFailed = false →
    let t := mbxRun op role h s
    let c := parse r
    ((c.formOk = false → Answered r Code.BAD_LENGTH 0 0 [] s t) ∧
     (∀ st, c.formOk = true → checkSession s c = (st, none) → Answered r st 0 0 [] s t ∧ t.mbx.sessions = s.mbx.sessions ∧
       (st = Code.BAD_MAC → Logged Ev.BAD_MAC (leBytes 2 c.session ++ leBytes 2 c.opcode ++ leBytes 4 c.clseq) s t ∧
         t.rd F.MBX_USE_BAD_MAC = min (2 ^ F.MBX_USE_BAD_MAC.width - 1) (s.rd F.MBX_USE_BAD_MAC + 1))) ∧
     (∀ x, c.formOk = true → checkSession s c = (Code.OK, some x) →
       (c.clseq = 0 ∨ 2 ^ 31 ≤ (c.clseq + 2 ^ 32 - x.high) % 2 ^ 32 ∧ (c.clseq + 2 ^ 32 - x.high) % 2 ^ 32 < 2 ^ 32 - 63 →
         Answered r Code.STALE_SEQ 0 0 [] s t) ∧
       (∀ e, c.clseq ≠ 0 → (c.clseq + 2 ^ 32 - x.high) % 2 ^ 32 = 0 ∨ 2 ^ 32 - 63 ≤ (c.clseq + 2 ^ 32 - x.high) % 2 ^ 32 →
         x.seen.find? (fun e => decide (e.1 = c.clseq)) = some e →
         ∃ ds, t.mbx.cq = s.mbx.cq ++ ⟨s.mbx.nextSeq, 1, true, ds.length, c.session, c.clseq, e.2.opcode, e.2.status,
           e.2.handle, e.2.cinch, e.2.result, 0, [], c.usb, false, s.time.now⟩ :: ds ∧
           ds = dataRecs c.session c.usb s.time.now 64 (s.mbx.nextSeq + 1) 0 e.2.data) ∧
       (c.clseq ≠ 0 → 1 ≤ (c.clseq + 2 ^ 32 - x.high) % 2 ^ 32 → (c.clseq + 2 ^ 32 - x.high) % 2 ^ 32 < 2 ^ 31 → x.role < role →
         Answered r Code.ROLE_DENIED 0 0 [] s t ∧ ∃ y, t.session? x.no = some y ∧ y.high = c.clseq ∧
           (c.clseq, (⟨Code.ROLE_DENIED, 0, s.cinchNow, 0, [], c.opcode⟩ : Resp)) ∈ y.seen)) ∧
     (c.formOk = false ∨ (checkSession s c).2 = none ∨ (∃ x, checkSession s c = (Code.OK, some x) ∧ x.role < role) →
       t.mbx.ring = s.mbx.ring.tail ∧ t.mbx.hdls = s.mbx.hdls ∧ t.mode = s.mode ∧ t.img = s.img ∧ t.scn = s.scn))) ∧
  (∀ (op role : Nat) (h : Cmd → Session → State → State × Ans) (s : State),
    (s.mbxReady = false ∨ ∀ r, s.mbx.ring.head? = some r → (parse r).opcode ≠ op) → mbxRun op role h s = s) ∧
  (∀ (dt : Elapsed) (s : State) (r : RingCmd) (x : Session), let a := advance dt s
    (Taken 0xF0 1 a r x) →
    ((parse r).payload = []) →
    Does (.mbxNop dt) s fun t =>
      Answered r Code.OK 0 0 [] a t ∧
      t.mbx.hdls = a.mbx.hdls ∧
      Moves (traceParts ++ [.mbx, .sec]) traceObjs [F.MBX_QUEUES_CQ_FREE, F.MBX_QUEUES_CR_FREE, F.MBX_USE_BAD_MAC, F.MBX_USE_HANDLES_USED, F.MBX_USE_SESSIONS_OPEN] a t) ∧
  (∀ (dt : Elapsed) (s : State) (r : RingCmd) (x : Session) (op : Nat), let a := advance dt s
    (Taken op 0 a r x) →
    (opcodes.contains op = false) →
    Does (.mbxNop dt) s fun t =>
      Answered r Code.BAD_OPCODE 0 0 [] a t ∧
      t.mbx.hdls = a.mbx.hdls ∧
      Moves (traceParts ++ [.mbx, .sec]) traceObjs [F.MBX_QUEUES_CQ_FREE, F.MBX_QUEUES_CR_FREE, F.MBX_USE_BAD_MAC, F.MBX_USE_HANDLES_USED, F.MBX_USE_SESSIONS_OPEN] a t)

/-- A SES_OPEN that passes R566 takes its session number as pending with the role and both nonces and answers OK with nonce
and serial number; the nonce is a free value. Without randomness it waits, and after 10 ms ends ENTROPY_UNAVAILABLE.
SES_AUTH with the proof of MBX-7 opens the session with its key and answers the module's proof; a wrong proof closes it with
AUTH_FAILED, is recorded, and as the fourth within 60 s locks the role. SES_CLOSE of the own session answers OK and closes
it with its pins; another's needs CUSTODIAN. SES_LIMIT answers the old limit and sets the new one, SES_IDLE sets the idle
time, SES_LIST ends at once with the list of R127. A pending session closes 1 s after its last command, an open one after
its idle time, no other. A lock lasts 60 s. Nothing outside the frames changes. -/
def Obligations.Sessions : Prop :=
  (∀ (dt : Elapsed) (s : State) (r : RingCmd) (n : Nat), let a := advance dt s
    (a.mbxReady = true) →
    (a.mbx.ring.head? = some r) →
    ((parse r).opcode = 1) →
    (a.clk.startFailed = false) →
    ((parse r).formOk = true) →
    (∀ g ∈ a.mbx.tags, g.tag ≠ slice (parse r).payload 20 8) →
    (a.openCheck (parse r) = (Code.OK, n)) →
    (a.rngOk = true) →
    Does (.sesOpen dt) s fun t =>
      Answered r Code.OK 0 n (freeBytes a.free 16 ++ leBytes 8 Config.serial) a t ∧
      t.session? n = some ⟨n, 1, leAt (parse r).payload 0 1, 64, 60, a.time.xt, (parse r).usb, slice (parse r).payload 4 16, freeBytes a.free 16, slice (parse r).payload 20 8, [], 0, [], []⟩ ∧
      t.free = a.free + 16 ∧
      Moves (traceParts ++ [.mbx, .free]) traceObjs [F.MBX_QUEUES_CQ_FREE, F.MBX_QUEUES_CR_FREE, F.MBX_USE_HANDLES_USED, F.MBX_USE_SESSIONS_OPEN, F.SEC_STATUS_SVC_SESSIONS] a t) ∧
  (∀ (dt : Elapsed) (s : State) (r : RingCmd) (n : Nat), let a := advance dt s
    (a.mbxReady = true) →
    (a.mbx.ring.head? = some r) →
    ((parse r).opcode = 1) →
    (a.clk.startFailed = false) →
    ((parse r).formOk = true) →
    (∀ g ∈ a.mbx.tags, g.tag ≠ slice (parse r).payload 20 8) →
    (a.openCheck (parse r) = (Code.OK, n)) →
    (a.rngOk = false) →
    Does (.sesOpen dt) s fun t =>
      t.mbx.waitOpen = some (r, a.time.now) ∧
      (t.mbx.ring = a.mbx.ring.tail ∧ t.mbx.cq = a.mbx.cq ∧ t.mbx.sessions = a.mbx.sessions) ∧
      Moves (traceParts ++ [.mbx, .free]) traceObjs [F.MBX_QUEUES_CQ_FREE, F.MBX_QUEUES_CR_FREE, F.MBX_USE_HANDLES_USED, F.MBX_USE_SESSIONS_OPEN, F.SEC_STATUS_SVC_SESSIONS] a t) ∧
  (∀ (dt : Elapsed) (s : State) (r : RingCmd) (st n : Nat), let a := advance dt s
    (a.mbxReady = true) →
    (a.mbx.ring.head? = some r) →
    ((parse r).opcode = 1) →
    (a.clk.startFailed = false) →
    ((parse r).formOk = true) →
    (∀ g ∈ a.mbx.tags, g.tag ≠ slice (parse r).payload 20 8) →
    (a.openCheck (parse r) = (st, n)) →
    (st ≠ Code.OK) →
    Does (.sesOpen dt) s fun t =>
      Answered r st 0 0 [] a t ∧
      (t.mbx.sessions = a.mbx.sessions ∧ t.free = a.free) ∧
      Moves (traceParts ++ [.mbx, .free]) traceObjs [F.MBX_QUEUES_CQ_FREE, F.MBX_QUEUES_CR_FREE, F.MBX_USE_HANDLES_USED, F.MBX_USE_SESSIONS_OPEN, F.SEC_STATUS_SVC_SESSIONS] a t) ∧
  (∀ (dt : Elapsed) (s : State) (r : RingCmd) (n : Nat), let a := advance dt s
    (a.mbx.waitOpen = some (r, n)) →
    (a.clk.supv = true) →
    (n + 10000000 ≤ a.time.now) →
    Does (.nonceWaitTimeout dt) s fun t =>
      Responds (parse r) false Code.ENTROPY_UNAVAILABLE 0 0 [] a t ∧
      (t.mbx.waitOpen = none ∧ t.mbx.ring = a.mbx.ring) ∧
      Moves (traceParts ++ [.mbx]) traceObjs [F.MBX_QUEUES_CQ_FREE, F.MBX_QUEUES_CR_FREE] a t) ∧
  (∀ (dt : Elapsed) (s : State) (r : RingCmd) (x : Session), let a := advance dt s
    (Taken 2 0 a r x) →
    ((parse r).payload = proof ((a.roleKey x.role).getD []) 0x41 x.no x.role x.hostNonce x.mNonce) →
    Does (.sesAuth dt) s fun t =>
      Answered r Code.OK 0 0 (proof ((a.roleKey x.role).getD []) 0x4D x.no x.role x.mNonce x.hostNonce) a t ∧
      (t.session? x.no).map (·.state) = some 2 ∧
      (t.session? x.no).map (·.ks) = some (proof ((a.roleKey x.role).getD []) 0x4B x.no x.role x.hostNonce x.mNonce) ∧
      Moves (traceParts ++ [.mbx, .img, .prg, .pair, .sec]) (traceObjs ++ [F.objIMG_PINS, F.objPRG_BANKA, F.objPRG_BANKB, F.objSEC_FW]) [F.IMG_STATUS_PHOLDS, F.IMG_STATUS_PINNED, F.MBX_QUEUES_CQ_FREE, F.MBX_QUEUES_CR_FREE, F.MBX_USE_BAD_MAC, F.MBX_USE_HANDLES_USED, F.MBX_USE_SESSIONS_OPEN, F.PRG_ACT_PENDING, F.SEC_STATUS_SVC_SESSIONS] a t) ∧
  (∀ (dt : Elapsed) (s : State) (r : RingCmd) (x : Session), let a := advance dt s
    (Taken 2 0 a r x) →
    ((parse r).payload.length = 32) →
    ((parse r).payload ≠ proof ((a.roleKey x.role).getD []) 0x41 x.no x.role x.hostNonce x.mNonce) →
    Does (.sesAuth dt) s fun t =>
      Answered r Code.AUTH_FAILED 0 0 [] a t ∧
      t.session? x.no = none ∧
      Logged Ev.AUTH_FAILED (leBytes 2 x.no ++ [x.role]) a t ∧
      (3 ≤ (a.mbx.fails.filter fun e => decide (a.time.xt < e.2 + 1966080) && decide (e.1 = x.role)).length → t.roleLocked x.role = true) ∧
      Moves (traceParts ++ [.mbx, .img, .prg, .pair, .sec]) (traceObjs ++ [F.objIMG_PINS, F.objPRG_BANKA, F.objPRG_BANKB, F.objSEC_FW]) [F.IMG_STATUS_PHOLDS, F.IMG_STATUS_PINNED, F.MBX_QUEUES_CQ_FREE, F.MBX_QUEUES_CR_FREE, F.MBX_USE_BAD_MAC, F.MBX_USE_HANDLES_USED, F.MBX_USE_SESSIONS_OPEN, F.PRG_ACT_PENDING, F.SEC_STATUS_SVC_SESSIONS] a t) ∧
  (∀ (dt : Elapsed) (s : State) (r : RingCmd) (x : Session), let a := advance dt s
    (Taken 3 1 a r x) →
    ((parse r).payload = []) →
    ((parse r).arg = 0xFFFF) →
    Does (.sesClose dt) s fun t =>
      Answered r Code.OK 0 0 [] a t ∧
      t.session? x.no = none ∧
      (∀ p ∈ t.img.pins, p.1 ≠ x.no) ∧
      Moves (traceParts ++ [.mbx, .img, .prg, .pair, .sec]) (traceObjs ++ [F.objIMG_PINS, F.objPRG_BANKA, F.objPRG_BANKB, F.objSEC_FW]) [F.IMG_STATUS_PHOLDS, F.IMG_STATUS_PINNED, F.MBX_QUEUES_CQ_FREE, F.MBX_QUEUES_CR_FREE, F.MBX_USE_BAD_MAC, F.MBX_USE_HANDLES_USED, F.MBX_USE_SESSIONS_OPEN, F.PRG_ACT_PENDING, F.SEC_STATUS_SVC_SESSIONS] a t) ∧
  (∀ (dt : Elapsed) (s : State) (r : RingCmd) (x : Session), let a := advance dt s
    (Taken 3 1 a r x) →
    ((parse r).payload = []) →
    ((parse r).arg < 256) →
    ((parse r).arg ≠ x.no) →
    (x.role < 4) →
    Does (.sesClose dt) s fun t =>
      Answered r Code.ROLE_DENIED 0 0 [] a t ∧
      (t.img = a.img ∧ t.session? (parse r).arg = a.session? (parse r).arg) ∧
      Moves (traceParts ++ [.mbx, .img, .prg, .pair, .sec]) (traceObjs ++ [F.objIMG_PINS, F.objPRG_BANKA, F.objPRG_BANKB, F.objSEC_FW]) [F.IMG_STATUS_PHOLDS, F.IMG_STATUS_PINNED, F.MBX_QUEUES_CQ_FREE, F.MBX_QUEUES_CR_FREE, F.MBX_USE_BAD_MAC, F.MBX_USE_HANDLES_USED, F.MBX_USE_SESSIONS_OPEN, F.PRG_ACT_PENDING, F.SEC_STATUS_SVC_SESSIONS] a t) ∧
  (∀ (dt : Elapsed) (s : State) (r : RingCmd) (x : Session) (n : Nat), let a := advance dt s
    (Taken 4 3 a r x) →
    ((parse r).payload = leBytes 2 n) →
    (1 ≤ n) →
    (n ≤ 2048) →
    ((parse r).arg = 0xFFFF) →
    Does (.sesLimit dt) s fun t =>
      Answered r Code.OK 0 x.limit [] a t ∧
      (t.session? x.no).map (·.limit) = some n ∧
      Moves (traceParts ++ [.mbx, .sec]) traceObjs [F.MBX_QUEUES_CQ_FREE, F.MBX_QUEUES_CR_FREE, F.MBX_USE_BAD_MAC, F.MBX_USE_HANDLES_USED, F.MBX_USE_SESSIONS_OPEN] a t) ∧
  (∀ (dt : Elapsed) (s : State) (r : RingCmd) (x : Session) (n : Nat), let a := advance dt s
    (Taken 5 1 a r x) →
    ((parse r).payload = leBytes 2 n) →
    (1 ≤ n) →
    (n ≤ 3600) →
    Does (.sesIdle dt) s fun t =>
      Answered r Code.OK 0 0 [] a t ∧
      (t.session? x.no).map (·.idle) = some n ∧
      Moves (traceParts ++ [.mbx, .sec]) traceObjs [F.MBX_QUEUES_CQ_FREE, F.MBX_QUEUES_CR_FREE, F.MBX_USE_BAD_MAC, F.MBX_USE_HANDLES_USED, F.MBX_USE_SESSIONS_OPEN] a t) ∧
  (∀ (dt : Elapsed) (s : State) (r : RingCmd) (x : Session), let a := advance dt s
    (Taken 6 1 a r x) →
    ((parse r).payload = []) →
    (HasHandle a x) →
    (HandlesOk a) →
    Does (.sesList dt) s fun t =>
      AnsweredAndFins r Code.OK 0 (sesListData t) a t ∧
      Moves (traceParts ++ [.mbx, .sec]) traceObjs [F.MBX_QUEUES_CQ_FREE, F.MBX_QUEUES_CR_FREE, F.MBX_USE_BAD_MAC, F.MBX_USE_HANDLES_USED, F.MBX_USE_SESSIONS_OPEN] a t) ∧
  (∀ (dt : Elapsed) (s : State), let a := advance dt s
    (a.clk.supv = true) →
    Does (.authTimeout dt) s fun t =>
      (∀ x ∈ a.mbx.sessions, x.state = 1 → x.lastXt + 32768 ≤ a.time.xt → t.session? x.no = none) ∧
      (∀ n, (∀ x ∈ a.mbx.sessions, x.no = n → x.state = 1 → a.time.xt < x.lastXt + 32768) → t.session? n = a.session? n) ∧
      Moves (traceParts ++ [.mbx, .img, .prg, .pair, .sec]) (traceObjs ++ [F.objIMG_PINS, F.objPRG_BANKA, F.objPRG_BANKB, F.objSEC_FW]) [F.IMG_STATUS_PHOLDS, F.IMG_STATUS_PINNED, F.MBX_QUEUES_CQ_FREE, F.MBX_QUEUES_CR_FREE, F.MBX_USE_HANDLES_USED, F.MBX_USE_SESSIONS_OPEN, F.PRG_ACT_PENDING, F.SEC_STATUS_SVC_SESSIONS] a t) ∧
  (∀ (dt : Elapsed) (s : State), let a := advance dt s
    (a.clk.supv = true) →
    Does (.sessionIdleTimeout dt) s fun t =>
      (∀ x ∈ a.mbx.sessions, x.state = 2 → x.lastXt + 32768 * x.idle ≤ a.time.xt → t.session? x.no = none) ∧
      (∀ n, (∀ x ∈ a.mbx.sessions, x.no = n → x.state = 2 → a.time.xt < x.lastXt + 32768 * x.idle) → t.session? n = a.session? n) ∧
      Moves (traceParts ++ [.mbx, .img, .prg, .pair, .sec]) (traceObjs ++ [F.objIMG_PINS, F.objPRG_BANKA, F.objPRG_BANKB, F.objSEC_FW]) [F.IMG_STATUS_PHOLDS, F.IMG_STATUS_PINNED, F.MBX_QUEUES_CQ_FREE, F.MBX_QUEUES_CR_FREE, F.MBX_USE_HANDLES_USED, F.MBX_USE_SESSIONS_OPEN, F.PRG_ACT_PENDING, F.SEC_STATUS_SVC_SESSIONS] a t) ∧
  (∀ (dt : Elapsed) (s : State), let a := advance dt s
    Does (.authLockedExpiry dt) s fun t =>
      (∀ e ∈ t.mbx.locked, a.time.xt < e.2 + 1966080) ∧
      (∀ g, t.roleLocked g = a.roleLocked g) ∧
      Moves [.mbx] [] [] a t)

/-- A good MBXW frame to this module whose slots fit puts its commands behind those in the ring; its CQ_ACK, when it
acknowledges placed records, takes exactly those from the queue; with too few free slots no command enters. CQ_TIMEOUT
without an acknowledgement makes every record from CQ_ACK + 1 ready for a carrier again and leaves the queue. HDL_QUERY
answers the state and progress of a live handle of its session and HANDLE_STALE for an old generation; HDL_CANCEL of a
commit ends it with FIN CANCELLED after the answer, of a DONE operation answers ALREADY_DONE, of an OBJ_STORE
NOT_CANCELLABLE. MOD_RESET answers OK and leaves a reset waiting for its answer. Nothing outside the frames changes. -/
def Obligations.HandlesAndQueues : Prop :=
  (∀ (dt : Elapsed) (s : State) (f : RxFrame) (n : Nat), let a := advance dt s
    (Hears a f 3) →
    (a.placed = true) →
    (f.ackreq = false) →
    (f.dest ≠ 0xFF) →
    (leAt f.body 4 2 = n) →
    (f.body.length = 8 + 64 * n) →
    (a.slotsUsed + n ≤ 512) →
    Does (.mbxw dt f) s fun t =>
      t.mbx.ring = a.mbx.ring ++ splitSlots 512 n false (f.body.drop 8) ∧
      t.mbx.sessions = a.mbx.sessions ∧
      Moves (traceParts ++ [.mbx]) traceObjs [F.MBX_QUEUES_CQ_FREE, F.MBX_QUEUES_CR_FREE, F.MBX_USE_HANDLES_USED, F.MBX_USE_SESSIONS_OPEN, F.NRL_FSEQ_HIGH_HIGH, F.NRL_PORTA_ERR_UPSTREAM_ERR_A, F.NRL_PORTA_LINK_CRC_ERR_A, F.NRL_PORTB_ERR_UPSTREAM_ERR_B, F.NRL_PORTB_LINK_CRC_ERR_B] a t) ∧
  (∀ (dt : Elapsed) (s : State) (f : RxFrame) (n p : Nat), let a := advance dt s
    (Hears a f 3) →
    (a.placed = true) →
    (f.ackreq = false) →
    (f.dest ≠ 0xFF) →
    (f.body.length = 8 + 64 * leAt f.body 4 2) →
    (leAt f.body 4 2 ≤ 512) →
    (leAt f.body 0 4 = n) →
    (a.lastPlaced false = some p) →
    (atOrBeyond n a.mbx.ack = true) →
    (atOrBeyond p n = true) →
    (n ≠ a.mbx.ack) →
    Does (.mbxw dt f) s fun t =>
      (t.mbx.ack = n ∧ t.mbx.ackAt = a.time.now) ∧
      (t.mbx.cq = a.mbx.cq.filter fun r => !(atOrBeyond n r.seq)) ∧
      (512 < a.slotsUsed + leAt f.body 4 2 → t.mbx.ring = a.mbx.ring) ∧
      Moves (traceParts ++ [.mbx]) traceObjs [F.MBX_QUEUES_CQ_FREE, F.MBX_QUEUES_CR_FREE, F.MBX_USE_HANDLES_USED, F.MBX_USE_SESSIONS_OPEN, F.NRL_FSEQ_HIGH_HIGH, F.NRL_PORTA_ERR_UPSTREAM_ERR_A, F.NRL_PORTA_LINK_CRC_ERR_A, F.NRL_PORTB_ERR_UPSTREAM_ERR_B, F.NRL_PORTB_LINK_CRC_ERR_B] a t) ∧
  (∀ (dt : Elapsed) (s : State), let a := advance dt s
    (a.mbx.cq.any (·.placed) = true) →
    (a.rd F.MBX_CFG_CQ_TIMEOUT * 1000 ≤ a.time.now - a.mbx.ackAt) →
    Does (.cqReplace dt) s fun t =>
      (t.mbx.ackAt = a.time.now ∧ t.mbx.cq = a.mbx.cq) ∧
      (∀ r ∈ a.mbx.cq, ∃ q n, SubItem.cpl q n ∈ t.ring.subq ∧ q ≤ r.seq ∧ r.seq < q + n) ∧
      Moves (traceParts ++ [.mbx]) traceObjs [] a t) ∧
  (∀ (dt : Elapsed) (s : State) (r : RingCmd) (x : Session) (h : Hdl), let a := advance dt s
    (Taken 0x10 1 a r x) →
    ((parse r).payload = []) →
    ((parse r).arg / 2048 ≠ 0) →
    ((parse r).arg / 2048 = Table.find 0 a.mbx.gens ((parse r).arg % 2048)) →
    (a.hdl? ((parse r).arg % 2048) = some h) →
    (h.session = x.no) →
    Does (.hdlQuery dt) s fun t =>
      Answered r Code.OK 0 (h.state + 256 * h.progress) [] a t ∧
      t.mbx.hdls = a.mbx.hdls ∧
      Moves (traceParts ++ [.mbx, .sec]) traceObjs [F.MBX_QUEUES_CQ_FREE, F.MBX_QUEUES_CR_FREE, F.MBX_USE_BAD_MAC, F.MBX_USE_HANDLES_USED, F.MBX_USE_SESSIONS_OPEN] a t) ∧
  (∀ (dt : Elapsed) (s : State) (r : RingCmd) (x : Session), let a := advance dt s
    (Taken 0x10 1 a r x) →
    ((parse r).payload = []) →
    ((parse r).arg / 2048 ≠ Table.find 0 a.mbx.gens ((parse r).arg % 2048)) →
    Does (.hdlQuery dt) s fun t =>
      Answered r Code.HANDLE_STALE 0 0 [] a t ∧
      t.mbx.hdls = a.mbx.hdls ∧
      Moves (traceParts ++ [.mbx, .sec]) traceObjs [F.MBX_QUEUES_CQ_FREE, F.MBX_QUEUES_CR_FREE, F.MBX_USE_BAD_MAC, F.MBX_USE_HANDLES_USED, F.MBX_USE_SESSIONS_OPEN] a t) ∧
  (∀ (dt : Elapsed) (s : State) (r : RingCmd) (x : Session) (h : Hdl) (co : Bool) (n m : Nat), let a := advance dt s
    (Taken 0x11 1 a r x) →
    ((parse r).payload = []) →
    ((parse r).arg / 2048 ≠ 0) →
    ((parse r).arg / 2048 = Table.find 0 a.mbx.gens ((parse r).arg % 2048)) →
    (a.hdl? ((parse r).arg % 2048) = some h) →
    (h.session = x.no ∨ x.role = 4) →
    (h.state = 4 ∨ h.state = 1 ∧ (h.op = .commit co n m ∨ h.op = .objStore)) →
    Does (.hdlCancel dt) s fun t =>
      (if h.state = 4 then Answered r Code.ALREADY_DONE 0 0 [] a t else if h.op = .objStore then Answered r Code.NOT_CANCELLABLE 0 0 [] a t else Answered r Code.OK 0 0 [] a t ∧ Fins (parse r).arg Code.CANCELLED 0 [] a t) ∧
      Moves (traceParts ++ [.mbx, .prg, .pair, .sec]) (traceObjs ++ [F.objPRG_BANKA, F.objPRG_BANKB, F.objSEC_FW]) [F.MBX_QUEUES_CQ_FREE, F.MBX_QUEUES_CR_FREE, F.MBX_USE_BAD_MAC, F.MBX_USE_HANDLES_USED, F.MBX_USE_SESSIONS_OPEN, F.PRG_ACT_PENDING] a t) ∧
  (∀ (dt : Elapsed) (s : State) (r : RingCmd) (x : Session) (k : Nat), let a := advance dt s
    (Taken 0x41 3 a r x) →
    ((parse r).payload = [k, 0, 0, 0]) →
    (k ≤ 1) →
    Does (.modReset dt) s fun t =>
      (t.clk = { a.clk with pendReset := some (if k = 1 then 4 else 3, a.mbx.nextSeq) }) ∧
      Answered r Code.OK 0 0 [] a t ∧
      t.mode = a.mode ∧
      Moves (traceParts ++ [.clk, .mbx, .sec]) traceObjs [F.MBX_QUEUES_CQ_FREE, F.MBX_QUEUES_CR_FREE, F.MBX_USE_BAD_MAC, F.MBX_USE_HANDLES_USED, F.MBX_USE_SESSIONS_OPEN] a t)

/-- OBJ_GET of a field that is no computed register and not clear-on-read answers OK with its value as R134 extends it and
changes no register but the mailbox's counters; an RC field reads 0 afterwards. OBJ_SET of a plain live field in its range
answers OK, the field takes the value at once and no other register changes; with STAGE, or of an ST field, the values go
into the session's staging set and no register of the machine but the mailbox's changes. An OBJ_SET that a check refuses
answers that check's code, one of an object that another session has staged STAGED_ELSEWHERE; both change no register and no
staging set. OBJ_LIST ends at once with the names of the children. OBJ_DISCARD answers the number of objects it drops and
empties the set. The form and order of the checks of a payload are the model's reading (assumption log 31). -/
def Obligations.ObjectAccess : Prop :=
  (∀ (dt : Elapsed) (s : State) (r : RingCmd) (x : Session) (q : Target) (row : FieldRow), let a := advance dt s
    (Taken 0x20 1 a r x) →
    (takeTarget (parse r).payload = .ok (q, [])) →
    (q.field = some row) →
    (row.fld.width ≤ 64) →
    (row.acc ≠ .rc) →
    ([F.objMBX_USE, F.objMBX_QUEUES, F.objMBX_SES, F.objREC_STAT, F.objPLT_PSTATE, F.objRTC_TIME, F.objRTC_DATE, F.objAG_CS, F.objDG_GSTAT, F.objAG_GSTAT, F.objPWR_DOMAINS, F.objPWR_HIST, F.objSTO_INCONS, F.objSEC_RNG, F.objSEC_FW].contains q.d.id = false) →
    (a.window { groups := groupMask q.d q.i } = none) →
    Does (.objGet dt) s fun t =>
      Answered r Code.OK 0 (extended row (readField a row q.i 0)) [] a t ∧
      Moves (traceParts ++ [.mbx, .sec]) traceObjs [F.MBX_QUEUES_CQ_FREE, F.MBX_QUEUES_CR_FREE, F.MBX_USE_BAD_MAC, F.MBX_USE_HANDLES_USED, F.MBX_USE_SESSIONS_OPEN] a t) ∧
  (∀ (dt : Elapsed) (s : State) (r : RingCmd) (x : Session) (q : Target) (row : FieldRow), let a := advance dt s
    (Taken 0x20 1 a r x) →
    (takeTarget (parse r).payload = .ok (q, [])) →
    (q.field = some row) →
    (row.fld.width ≤ 64) →
    (row.acc = .rc) →
    ([F.objREC_STAT, F.objPLT_PSTATE, F.objAG_CS, F.objDG_GSTAT, F.objAG_GSTAT, F.objPWR_DOMAINS, F.objPWR_HIST, F.objSTO_INCONS, F.objSEC_RNG, F.objSEC_FW].contains q.d.id = false) →
    (a.window { groups := groupMask q.d q.i } = none) →
    Does (.objGet dt) s fun t =>
      Answered r Code.OK 0 (extended row (readField a row q.i 0)) [] a t ∧
      t.rd row.fld q.i = 0 ∧
      Moves (traceParts ++ [.mbx, .sec]) traceObjs [row.fld, F.MBX_QUEUES_CQ_FREE, F.MBX_QUEUES_CR_FREE, F.MBX_USE_BAD_MAC, F.MBX_USE_HANDLES_USED, F.MBX_USE_SESSIONS_OPEN] a t) ∧
  (∀ (dt : Elapsed) (s : State) (r : RingCmd) (x : Session) (e : Nat), let a := advance dt s
    (Taken 0x20 1 a r x) →
    (takeTarget (parse r).payload = .error e) →
    Does (.objGet dt) s fun t =>
      Answered r e 0 0 [] a t ∧
      Moves (traceParts ++ [.mbx, .sec]) traceObjs [F.MBX_QUEUES_CQ_FREE, F.MBX_QUEUES_CR_FREE, F.MBX_USE_BAD_MAC, F.MBX_USE_HANDLES_USED, F.MBX_USE_SESSIONS_OPEN] a t) ∧
  (∀ (dt : Elapsed) (s : State) (r : RingCmd) (x : Session) (q : Target) (row : FieldRow) (n : Nat), let a := advance dt s
    (Taken 0x21 1 a r x) →
    (setCheck x (parse r).payload = .ok (q, false, [⟨row, q.i, 0, n⟩])) →
    (q.field = some row) →
    (row.acc = .rw) →
    (special row = false) →
    (a.window { groups := groupMask q.d q.i } = none) →
    (a.lockedBy x.no q.d.id q.i = false) →
    (liveStatus a false [⟨row, q.i, 0, n⟩] ⟨row, q.i, 0, n⟩ = Code.OK) →
    Does (.objSet dt) s fun t =>
      Answered r Code.OK 0 0 [] a t ∧
      t.rd row.fld q.i = n ∧
      OnlyAt [row.fld] q.i a t ∧
      Moves (traceParts ++ [.mbx, .sec]) traceObjs [row.fld, F.MBX_QUEUES_CQ_FREE, F.MBX_QUEUES_CR_FREE, F.MBX_USE_BAD_MAC, F.MBX_USE_HANDLES_USED, F.MBX_USE_SESSIONS_OPEN] a t) ∧
  (∀ (dt : Elapsed) (s : State) (r : RingCmd) (x : Session) (q : Target) (st : Bool) (ws : List Wr), let a := advance dt s
    (Taken 0x21 1 a r x) →
    (setCheck x (parse r).payload = .ok (q, st, ws)) →
    (st = true ∨ ∀ w ∈ ws, w.row.acc = .st) →
    (ws ≠ []) →
    (a.window { groups := groupMask q.d q.i } = none) →
    (a.lockedBy x.no q.d.id q.i = false) →
    ((stagedObjs (ws.foldl stageOne x.staging)).length ≤ 512) →
    (((a.mbx.sessions.filter fun y => decide (y.no ≠ x.no)).map fun y => (stagedObjs y.staging).length).foldl (· + ·) 0 + (stagedObjs (ws.foldl stageOne x.staging)).length ≤ 4096) →
    Does (.objSet dt) s fun t =>
      Answered r Code.OK 0 0 [] a t ∧
      (t.session? x.no).map (·.staging) = some (ws.foldl stageOne x.staging) ∧
      Moves (traceParts ++ [.mbx, .sec]) traceObjs [F.MBX_QUEUES_CQ_FREE, F.MBX_QUEUES_CR_FREE, F.MBX_USE_BAD_MAC, F.MBX_USE_HANDLES_USED, F.MBX_USE_SESSIONS_OPEN] a t) ∧
  (∀ (dt : Elapsed) (s : State) (r : RingCmd) (x : Session) (e : Nat), let a := advance dt s
    (Taken 0x21 1 a r x) →
    (setCheck x (parse r).payload = .error e) →
    Does (.objSet dt) s fun t =>
      Answered r e 0 0 [] a t ∧
      (t.session? x.no).map (·.staging) = some x.staging ∧
      Moves (traceParts ++ [.mbx, .sec]) traceObjs [F.MBX_QUEUES_CQ_FREE, F.MBX_QUEUES_CR_FREE, F.MBX_USE_BAD_MAC, F.MBX_USE_HANDLES_USED, F.MBX_USE_SESSIONS_OPEN] a t) ∧
  (∀ (dt : Elapsed) (s : State) (r : RingCmd) (x : Session) (q : Target) (st : Bool) (ws : List Wr), let a := advance dt s
    (Taken 0x21 1 a r x) →
    (setCheck x (parse r).payload = .ok (q, st, ws)) →
    (a.window { groups := groupMask q.d q.i } = none) →
    (a.lockedBy x.no q.d.id q.i = true) →
    ((stagedObjs (ws.foldl stageOne x.staging)).length ≤ 512) →
    (((a.mbx.sessions.filter fun y => decide (y.no ≠ x.no)).map fun y => (stagedObjs y.staging).length).foldl (· + ·) 0 + (stagedObjs (ws.foldl stageOne x.staging)).length ≤ 4096) →
    (st = true ∨ ∀ w ∈ ws, w.row.acc = .st) →
    Does (.objSet dt) s fun t =>
      Answered r Code.STAGED_ELSEWHERE 0 0 [] a t ∧
      (t.session? x.no).map (·.staging) = some x.staging ∧
      Moves (traceParts ++ [.mbx, .sec]) traceObjs [F.MBX_QUEUES_CQ_FREE, F.MBX_QUEUES_CR_FREE, F.MBX_USE_BAD_MAC, F.MBX_USE_HANDLES_USED, F.MBX_USE_SESSIONS_OPEN] a t) ∧
  (∀ (dt : Elapsed) (s : State) (r : RingCmd) (x : Session) (l : List Nat) (names : List (List Nat)), let a := advance dt s
    (Taken 0x25 1 a r x) →
    (takePath (parse r).payload = some (l, [])) →
    (pathForm l = true) →
    (children l = some names) →
    (HasHandle a x) →
    Does (.objList dt) s fun t =>
      AnsweredAndFins r Code.OK 0 (takeFit 1536 (names.map pathBytes)) a t ∧
      (t.session? x.no).map (·.staging) = some x.staging ∧
      Moves (traceParts ++ [.mbx, .sec]) traceObjs [F.MBX_QUEUES_CQ_FREE, F.MBX_QUEUES_CR_FREE, F.MBX_USE_BAD_MAC, F.MBX_USE_HANDLES_USED, F.MBX_USE_SESSIONS_OPEN] a t) ∧
  (∀ (dt : Elapsed) (s : State) (r : RingCmd) (x : Session), let a := advance dt s
    (Taken 0x23 3 a r x) →
    ((parse r).payload = []) →
    Does (.objDiscard dt) s fun t =>
      Answered r Code.OK 0 (stagedObjs x.staging).length [] a t ∧
      (t.session? x.no).map (·.staging) = some [] ∧
      Moves (traceParts ++ [.mbx, .sec]) traceObjs [F.MBX_QUEUES_CQ_FREE, F.MBX_QUEUES_CR_FREE, F.MBX_USE_BAD_MAC, F.MBX_USE_HANDLES_USED, F.MBX_USE_SESSIONS_OPEN] a t)

/-- An accepted OBJ_COMMIT answers ACCEPTED and holds its acceptance and the mode; with an empty set it ends NOTHING_STAGED.
While no waiting commit is due, COMMIT_APPLY leaves the machine as it is: in RUN and HOLD a commit is due no earlier than
100 µs after its acceptance. A due commit whose set disagrees with the configuration ends COMMIT_REFUSED with the reason and
the object's path, applies nothing and keeps the set; CHECK_ONLY of an agreeing set ends OK and applies nothing. An agreeing
set with one plain configuration field outside the field groups is applied: the field takes its value, the set is empty, the
FIN is OK with the cinch of its boundary. An accepted OBJ_STORE copies the objects at acceptance; when its writes are over
each object stands in a slot under the next SETGEN, SETCOMMIT names that SETGEN and the FIN gives it with the count; below
the energy check the FIN is WRITE_ABANDONED, recorded and counted, and no record changes. Nothing outside the frames
changes. -/
def Obligations.Commits : Prop :=
  (∀ (dt : Elapsed) (s : State) (r : RingCmd) (x : Session) (k : Nat), let a := advance dt s
    (Taken 0x22 3 a r x) →
    ((parse r).payload = [k, 0, 0, 0]) →
    (k ≤ 1) →
    (x.staging ≠ []) →
    (a.window { groups := stagedGroups x.staging } = none) →
    (HasHandle a x) →
    Does (.objCommit dt) s fun t =>
      (∃ n, Answered r Code.ACCEPTED n 0 [] a t ∧ (t.hdl? (n % 2048)).map (·.op) = some (.commit (decide (k = 1)) a.time.now a.mode)) ∧
      (t.session? x.no).map (·.staging) = some x.staging ∧
      Moves (traceParts ++ [.mbx, .sec]) traceObjs [F.MBX_QUEUES_CQ_FREE, F.MBX_QUEUES_CR_FREE, F.MBX_USE_BAD_MAC, F.MBX_USE_HANDLES_USED, F.MBX_USE_SESSIONS_OPEN] a t) ∧
  (∀ (dt : Elapsed) (s : State) (r : RingCmd) (x : Session) (k : Nat), let a := advance dt s
    (Taken 0x22 3 a r x) →
    ((parse r).payload = [k, 0, 0, 0]) →
    (k ≤ 1) →
    (x.staging = []) →
    (a.window {} = none) →
    (HasHandle a x) →
    Does (.objCommit dt) s fun t =>
      Answered r Code.NOTHING_STAGED 0 0 [] a t ∧
      t.mbx.hdls = a.mbx.hdls ∧
      Moves (traceParts ++ [.mbx, .sec]) traceObjs [F.MBX_QUEUES_CQ_FREE, F.MBX_QUEUES_CR_FREE, F.MBX_USE_BAD_MAC, F.MBX_USE_HANDLES_USED, F.MBX_USE_SESSIONS_OPEN] a t) ∧
  (∀ (dt : Elapsed) (s : State) (levels : Nat), let a := advance dt s
    (∀ h ∈ a.mbx.hdls, a.commitDue h = none) →
    Does (.commitApply dt levels) s fun t =>
      t = a) ∧
  (∀ (s : State) (h : Hdl) (c : Bool) (at_ m : Nat), h.op = .commit c at_ m → (s.mode = mRUN ∨ s.mode = mHOLD) →
    s.time.now < at_ + 100000 → s.ring.lastLocal ≤ s.time.now → s.commitDue h = none) ∧
  (∀ (dt : Elapsed) (s : State) (levels : Nat) (h : Hdl) (x : Session) (n : Nat) (c : Bool) (at_ m : Nat) (w : Violation), let a := advance dt s
    (a.mbx.hdls.findSome? (fun h => (a.commitDue h).map fun n => (h, n)) = some (h, n)) →
    (a.clk.supv = true) →
    (h.op = .commit c at_ m) →
    (h.slot < 2048) →
    (a.session? h.session = some x) →
    (x.staging ≠ []) →
    (a.prg.act = none) →
    (disagreement a (withWrites a (x.staging.filterMap stagedWr)) (stagedObjs x.staging) = some w) →
    Does (.commitApply dt levels) s fun t =>
      FinsAt h.slot Code.COMMIT_REFUSED w.reason (objPath w.obj w.idx) n a t ∧
      t.mbx.sessions = a.mbx.sessions ∧
      Moves (traceParts ++ [.mbx]) traceObjs [F.MBX_QUEUES_CQ_FREE, F.MBX_USE_HANDLES_USED] a t) ∧
  (∀ (dt : Elapsed) (s : State) (levels : Nat) (h : Hdl) (x : Session) (n : Nat) (at_ m : Nat), let a := advance dt s
    (a.mbx.hdls.findSome? (fun h => (a.commitDue h).map fun n => (h, n)) = some (h, n)) →
    (a.clk.supv = true) →
    (h.op = .commit true at_ m) →
    (h.slot < 2048) →
    (a.session? h.session = some x) →
    (x.staging ≠ []) →
    (a.prg.act = none) →
    (disagreement a (withWrites a (x.staging.filterMap stagedWr)) (stagedObjs x.staging) = none) →
    Does (.commitApply dt levels) s fun t =>
      FinsAt h.slot Code.OK 0 [] n a t ∧
      t.mbx.sessions = a.mbx.sessions ∧
      Moves (traceParts ++ [.mbx]) traceObjs [F.MBX_QUEUES_CQ_FREE, F.MBX_USE_HANDLES_USED] a t) ∧
  (∀ (dt : Elapsed) (s : State) (levels : Nat) (h : Hdl) (x : Session) (n : Nat) (at_ m : Nat) (y : StagedField) (w : Wr), let a := advance dt s
    (a.mbx.hdls.findSome? (fun h => (a.commitDue h).map fun n => (h, n)) = some (h, n)) →
    (a.clk.supv = true) →
    (h.op = .commit false at_ m) →
    (h.slot < 2048) →
    (a.session? h.session = some x) →
    (x.staging = [y]) →
    (stagedWr y = some w) →
    (kept w.row = true) →
    (special w.row = false) →
    ([F.objIMG_SUBS, F.objPLT_PAIR, F.objPLT_CFG, F.objPLT_MIRROR, F.objPPR_CH, F.objPPR_WIN, F.objANG_AD, F.objANG_EV, F.objINT_COS, F.objINT_GRP, F.objINT_WIN, F.objINT_SYS, F.objINT_CFG].contains w.row.fld.obj = false) →
    (touchedGroups [(w.row.fld.obj, w.i)] = 0) →
    (a.prg.act = none) →
    (disagreement a (withWrites a [w]) (stagedObjs [y]) = none) →
    Does (.commitApply dt levels) s fun t =>
      t.rdE w.row.fld w.i w.e = w.v % 2 ^ w.row.fld.width ∧
      FinsAt h.slot Code.OK 0 [] n a t ∧
      (t.session? x.no).map (·.staging) = some [] ∧
      Leaves (traceParts ++ [.mbx]) (traceObjs ++ [w.row.fld.obj, F.objMBX_QUEUES, F.objMBX_USE, F.objSCN_MODE, F.objAG_CONV]) a t) ∧
  (∀ (dt : Elapsed) (s : State) (r : RingCmd) (x : Session) (l : List (ObjDef × Nat)), let a := advance dt s
    (Taken 0x24 3 a r x) →
    (storePaths 16 (parse r).payload = .ok l) →
    (l ≠ []) →
    (a.window { store := true } = none) →
    (a.storeFault = false) →
    (HasHandle a x) →
    Does (.objStore dt) s fun t =>
      (∃ n, Answered r Code.ACCEPTED n 0 [] a t ∧ t.sto.ops = a.sto.ops ++ [⟨n, x.no, (l.map fun p => (objNumber p.1 p.2, objBytes a p.1 p.2)).eraseDups⟩]) ∧
      t.sto.recs = a.sto.recs ∧
      Moves (traceParts ++ [.mbx, .sec]) traceObjs [F.MBX_QUEUES_CQ_FREE, F.MBX_QUEUES_CR_FREE, F.MBX_USE_BAD_MAC, F.MBX_USE_HANDLES_USED, F.MBX_USE_SESSIONS_OPEN] a t) ∧
  (∀ (dt : Elapsed) (s : State) (y : StoreOp) (q : List StoreOp) (g : Nat), let a := advance dt s
    (a.sto.ops = y :: q) →
    (a.storeOk = true) →
    (a.setGen = some g) →
    (g + 1 < 2 ^ 32) →
    ((y.objs.map (·.1)).Nodup) →
    Does (.objStoreDone dt) s fun t =>
      t.sto.ops = q ∧
      t.setGen = some (g + 1) ∧
      (∀ p ∈ y.objs, ∃ z, ((t.stoRec kCONFIG p.1).s0 = some z ∨ (t.stoRec kCONFIG p.1).s1 = some z) ∧ z.usable = true ∧ z.setgen = g + 1 ∧ z.data = slice p.2 0 ((p.2.length + 7) / 8 * 8)) ∧
      Fins y.handle Code.OK (g + 1 + 2 ^ 32 * y.objs.length) [] a t ∧
      Moves (traceParts ++ [.mbx]) traceObjs [F.MBX_QUEUES_CQ_FREE, F.MBX_QUEUES_CR_FREE, F.MBX_USE_HANDLES_USED, F.MBX_USE_SESSIONS_OPEN, F.STO_COUNT_ABANDONED, F.STO_STATUS_INCONS] a t) ∧
  (∀ (dt : Elapsed) (s : State) (y : StoreOp) (q : List StoreOp), let a := advance dt s
    (a.sto.ops = y :: q) →
    (a.storeOk = false) →
    Does (.objStoreDone dt) s fun t =>
      t.sto.ops = q ∧
      t.sto.recs = a.sto.recs ∧
      Fins y.handle Code.WRITE_ABANDONED 0 [] a t ∧
      Logged Ev.WRITE_ABANDONED (leBytes 2 kCONFIG ++ leBytes 2 ((y.objs.map (·.1)).headD 0) ++ leBytes 2 0x24) a t ∧
      t.rd F.STO_COUNT_ABANDONED = min (2 ^ F.STO_COUNT_ABANDONED.width - 1) (a.rd F.STO_COUNT_ABANDONED + 1) ∧
      Moves (traceParts ++ [.mbx]) traceObjs [F.MBX_QUEUES_CQ_FREE, F.MBX_QUEUES_CR_FREE, F.MBX_USE_HANDLES_USED, F.MBX_USE_SESSIONS_OPEN, F.STO_COUNT_ABANDONED, F.STO_STATUS_INCONS] a t)

/-- Recall sets RECALL_DONE, the store state its header gives, marks the unusable slots, RETAIN_VALID and SETCOMMIT_BAD by
what the records resolve to, and numbers every held record. A target whose selected slot passes its checks runs that image,
one that fails runs the other slot's and records FW_FALLBACK, and with no valid code the supervisor goes into recovery, the
lanes or the groups stay unloaded. The plan takes the steps of the newest epoch; after a POR an epoch ends. A bank with a
BANKLOAD record and the image of its digest is loaded, one without is EMPTY, and the one the activation record names becomes
ACTIVE; LANES_LOADED follows. A group with supply is loaded and shows it, with the first levels of its inputs, and in STOP
gets the safe values. HOLD and its thresholds read as measured, the charger stops at 42.0 V and restarts below 41.5 V.
STOP-ready enters STOP. Nothing outside the frames changes. -/
def Obligations.StartUp : Prop :=
  (∀ (dt : Elapsed) (s : State) (header : Bool) (bad : List (Nat × Nat × Nat)) (uncorr : List (Nat × Nat)), let a := advance dt s
    (a.clk.supv = true) →
    (a.clk.gatesOpened ≠ none) →
    (a.rd F.CLK_START_RECALL_DONE = 0) →
    Does (.storeRecallDone dt header bad uncorr) s fun t =>
      t.rd F.CLK_START_RECALL_DONE = 1 ∧
      (t.rd F.STO_STATUS_STATE = (if header = true ∧ a.sto.headerBad = false then 1 else 2)) ∧
      (∀ e ∈ bad, ∀ z, (if e.2.2 = 0 then (t.stoRec e.1 e.2.1).s0 else (t.stoRec e.1 e.2.1).s1) = some z → z.usable = false) ∧
      t.rd F.SCN_MODE_RETAIN_VALID = b2n (t.recData kRETAIN 0).isSome ∧
      t.rd F.STO_STATUS_SETCOMMIT_BAD = b2n t.setGen.isNone ∧
      t.sto.nextSet = true ∧
      (∀ r ∈ t.sto.buf, r.seq.isSome = true) ∧
      Moves (traceParts ++ [.ana, .pwr]) traceObjs [F.AG_CS_CAUSE, F.AG_CS_GAIN, F.AG_CS_OFFS, F.AG_CS_POS, F.AG_CS_STATE, F.CLK_START_RECALL_DONE, F.SCN_MODE_RETAIN_VALID, F.SEC_STATUS_COMMISSIONING, F.SEC_STATUS_KEYS, F.STO_COUNT_UNCORR, F.STO_STATUS_INCONS, F.STO_STATUS_RING_EMPTY, F.STO_STATUS_SETCOMMIT_BAD, F.STO_STATUS_STATE] a t) ∧
  (∀ (dt : Elapsed) (s : State) (t0 fails : Nat), let a := advance dt s
    (t0 < 4) →
    (a.clk.gatesOpened ≠ none) →
    (a.clk.supv = true) →
    (a.clk.startFailed = false) →
    (a.sec.loaded.testBit t0 = false) →
    ((if t0 = 0 then a.is F.CLK_START_RECALL_DONE && !a.clk.fwRunning else a.clk.fwRunning) = true) →
    (a.fwCheck t0 (a.fwSel t0) none = 0) →
    (fails % (allCopies t0 + 1) = 0) →
    Does (.targetLoad dt t0 fails) s fun t =>
      t.sec.loaded.testBit t0 = true ∧
      t.rdE F.SEC_FW_FALLBACK 0 (128 * t0) = 0 ∧
      t.rdE F.SEC_FW_VERSION 0 (128 * t0) = a.fwVersion t0 (a.fwSel t0) % 2 ^ 32 ∧
      t.clk.fwRunning = true ∧
      (t0 = 0 → t.rd F.SEC_STATUS_SPARE_READY = 1) ∧
      Moves (traceParts ++ [.clk, .fld, .ana, .sec]) (traceObjs ++ [F.objAG_GSTAT, F.objINT_SUP, F.objSEC_FW]) [F.DG_GSTAT_BC_V, F.DG_GSTAT_RATE, F.DG_GSTAT_WORD, F.INT_CFG_PRIGROUP_SV0, F.INT_CFG_PRIGROUP_SV1, F.SEC_STATUS_COMMISSIONING, F.SEC_STATUS_KEYS, F.SEC_STATUS_RECOVERY, F.SEC_STATUS_SPARE_READY, F.SEC_STATUS_USB_ATTACHED] a t) ∧
  (∀ (dt : Elapsed) (s : State) (t0 fails c : Nat), let a := advance dt s
    (t0 < 4) →
    (a.clk.gatesOpened ≠ none) →
    (a.clk.supv = true) →
    (a.clk.startFailed = false) →
    (a.sec.loaded.testBit t0 = false) →
    ((if t0 = 0 then a.is F.CLK_START_RECALL_DONE && !a.clk.fwRunning else a.clk.fwRunning) = true) →
    (a.fwCheck t0 (a.fwSel t0) none = c) →
    (c ≠ 0) →
    (a.fwCheck t0 (1 - a.fwSel t0) none = 0) →
    (fails % (allCopies t0 + 1) = 0) →
    Does (.targetLoad dt t0 fails) s fun t =>
      t.sec.loaded.testBit t0 = true ∧
      t.rdE F.SEC_FW_FALLBACK 0 (128 * t0) = 1 ∧
      t.rdE F.SEC_FW_VERSION 0 (128 * t0) = a.fwVersion t0 (1 - a.fwSel t0) % 2 ^ 32 ∧
      Logged Ev.FW_FALLBACK [t0, 1 - a.fwSel t0, c] a t ∧
      t.clk.fwRunning = true ∧
      Moves (traceParts ++ [.clk, .fld, .ana, .sec]) (traceObjs ++ [F.objAG_GSTAT, F.objINT_SUP, F.objSEC_FW]) [F.DG_GSTAT_BC_V, F.DG_GSTAT_RATE, F.DG_GSTAT_WORD, F.INT_CFG_PRIGROUP_SV0, F.INT_CFG_PRIGROUP_SV1, F.SEC_STATUS_COMMISSIONING, F.SEC_STATUS_KEYS, F.SEC_STATUS_RECOVERY, F.SEC_STATUS_SPARE_READY, F.SEC_STATUS_USB_ATTACHED] a t) ∧
  (∀ (dt : Elapsed) (s : State) (t0 fails : Nat), let a := advance dt s
    (t0 < 4) →
    (a.clk.gatesOpened ≠ none) →
    (a.clk.supv = true) →
    (a.clk.startFailed = false) →
    (a.sec.loaded.testBit t0 = false) →
    ((if t0 = 0 then a.is F.CLK_START_RECALL_DONE && !a.clk.fwRunning else a.clk.fwRunning) = true) →
    (a.fwCheck t0 (a.fwSel t0) none ≠ 0) →
    (a.fwCheck t0 (1 - a.fwSel t0) none ≠ 0) →
    Does (.targetLoad dt t0 fails) s fun t =>
      (t0 = 0 → t.rd F.SEC_STATUS_RECOVERY = 1 ∧ t.rd F.SEC_STATUS_USB_ATTACHED = 0 ∧ t.clk.fwRunning = false) ∧
      (t0 = 1 → t.sec.laneBad = true) ∧
      (t0 = 2 → t.sec.groupBad = a.sec.groupBad ||| 0xFF) ∧
      (t0 = 3 → t.sec.groupBad = a.sec.groupBad ||| 0xF00) ∧
      Moves (traceParts ++ [.clk, .fld, .ana, .sec]) (traceObjs ++ [F.objAG_GSTAT, F.objINT_SUP, F.objSEC_FW]) [F.DG_GSTAT_BC_V, F.DG_GSTAT_RATE, F.DG_GSTAT_WORD, F.INT_CFG_PRIGROUP_SV0, F.INT_CFG_PRIGROUP_SV1, F.SEC_STATUS_COMMISSIONING, F.SEC_STATUS_KEYS, F.SEC_STATUS_RECOVERY, F.SEC_STATUS_SPARE_READY, F.SEC_STATUS_USB_ATTACHED] a t) ∧
  (∀ (dt : Elapsed) (s : State), let a := advance dt s
    (a.rd F.CLK_START_RECALL_DONE = 1) →
    (a.rd F.CLK_START_LANES_LOADED = 0) →
    (a.clk.lane = true ∨ a.clk.limited = true) →
    (a.mode = mINIT) →
    (a.clk.fwRunning = true) →
    (a.sec.loaded.testBit 1 = true) →
    (a.sec.laneBad = false) →
    (a.prg.active = none) →
    Does (.banksLoaded dt) s fun t =>
      t.rd F.CLK_START_LANES_LOADED = 1 ∧
      (∀ k, k < 2 → a.recData kBANKLOAD k = none → t.bank? k = none ∧ t.bankSt k = 0) ∧
      (∀ k d, k < 2 → a.recData kBANKLOAD k = some d → beNat (Crypto.sha256 (a.imageBytes k (leAt d 8 4))) = beNat (slice d 12 32) → t.bank? k = some (imageBank (parseImage (a.imageBytes k (leAt d 8 4))) (beNat (slice d 12 32))) ∧ (∀ e, a.recData kACTIVATION 0 = some e → leAt e 0 1 = k → t.prg.active = some k ∧ t.bankSt k = 3) ∧ ((∀ e, a.recData kACTIVATION 0 = some e → leAt e 0 1 ≠ k) → t.bankSt k = 2)) ∧
      Moves [.prg] [F.objPRG_BANKA, F.objPRG_BANKB, F.objSCN_RETAIN] [F.CLK_START_LANES_LOADED, F.PLT_LANE_STATE_A, F.PLT_LANE_STATE_B, F.PLT_LANE_STATE_C, F.PLT_LANE_VOTING, F.PRG_ACT_ACTIVE, F.SCN_MODE_CAUSE_PERSISTS, F.SCN_T_ENTRY, F.SCN_T_PERIOD, F.SCN_T_PHASE, F.SCN_T_PRIO, F.SCN_T_SRC] a t) ∧
  (∀ (dt : Elapsed) (s : State), let a := advance dt s
    (a.rd F.CLK_START_RECALL_DONE = 1) →
    (a.rd F.CLK_START_PLAN_DONE = 0) →
    (a.clk.supv = true) →
    (a.rd F.CLK_STATUS_RESET_CAUSE ≠ 1) →
    Does (.marginPlanDone dt) s fun t =>
      t.rd F.CLK_START_PLAN_DONE = 1 ∧
      t.pwr.epoch = leAt a.epochData.1 0 4 ∧
      t.rd F.PWR_PLAN_LANE_STEP = leAt a.epochData.1 4 1 % 2 ^ F.PWR_PLAN_LANE_STEP.width ∧
      t.rd F.PWR_PLAN_STORE_STEP = leAt a.epochData.1 5 1 % 2 ^ F.PWR_PLAN_STORE_STEP.width ∧
      (a.epochData.2 = true → t.rd F.PWR_PLAN_EPOCH_INCONS = 1) ∧
      Moves (traceParts ++ [.fld, .pwr]) (traceObjs ++ [F.objPWR_FORECAST, F.objPWR_PLAN]) [F.AG_CONV_CAL_STEP, F.ANG_BOOST_PLAN_GROUPS, F.CLK_START_PLAN_DONE, F.CLK_STATUS_LANE_CLK, F.DG_GSTAT_BC_V, F.DG_GSTAT_BSTEP, F.DG_GSTAT_RATE, F.DG_GSTAT_WORD, F.PWR_SENSE_AGE_LOGIC, F.PWR_SENSE_EQH_MAX, F.STO_STATUS_BSTEP, F.STO_STATUS_INCONS] a t) ∧
  (∀ (dt : Elapsed) (s : State), let a := advance dt s
    (a.rd F.CLK_START_RECALL_DONE = 1) →
    (a.rd F.CLK_START_PLAN_DONE = 0) →
    (a.clk.supv = true) →
    (a.rd F.CLK_STATUS_RESET_CAUSE = 1) →
    Does (.marginPlanDone dt) s fun t =>
      t.rd F.CLK_START_PLAN_DONE = 1 ∧
      t.pwr.epoch = leAt a.epochData.1 0 4 + 1 ∧
      Moves (traceParts ++ [.fld, .pwr]) (traceObjs ++ [F.objPWR_FORECAST, F.objPWR_PLAN]) [F.AG_CONV_CAL_STEP, F.ANG_BOOST_PLAN_GROUPS, F.CLK_START_PLAN_DONE, F.CLK_STATUS_LANE_CLK, F.DG_GSTAT_BC_V, F.DG_GSTAT_BSTEP, F.DG_GSTAT_RATE, F.DG_GSTAT_WORD, F.PWR_SENSE_AGE_LOGIC, F.PWR_SENSE_EQH_MAX, F.STO_STATUS_BSTEP, F.STO_STATUS_INCONS] a t) ∧
  (∀ (dt : Elapsed) (s : State) (g levels : Nat), let a := advance dt s
    (g < 8) →
    (a.clk.fwRunning = true) →
    (a.sec.loaded.testBit 2 = true) →
    (a.sec.groupBad.testBit g = false) →
    ((a.dgg g).supply ≠ 0) →
    Does (.groupLoad dt g levels) s fun t =>
      t.rd F.CLK_START_DG_LOADED = setBits (a.rd F.CLK_START_DG_LOADED) g g 1 ∧
      (∀ k, k < 16 → (t.dch (16 * g + k)).raw = levels.testBit k ∧ t.rd F.DG_CHSTAT_INIT (16 * g + k) = 1 ∧ t.rd F.DG_CHSTAT_LOCKED (16 * g + k) = 0) ∧
      (a.clk.stopReady = true → a.mode = mSTOP → t.fld.cmds = a.fld.cmds ++ [(g, 1)]) ∧
      (∀ p ∈ t.ang.pulses, p.chan / 16 ≠ g) ∧
      Moves (traceParts ++ [.clk, .fld, .ana, .ang, .free]) (traceObjs ++ [F.objAG_GSTAT, F.objDG_CHSTAT]) [F.CLK_START_AG_LOADED, F.CLK_START_DG_LOADED, F.DG_GSTAT_BC_V, F.DG_GSTAT_RATE, F.DG_GSTAT_WORD, F.PPR_STAT_FRESH, F.PPR_STAT_VERIFIED_OK] a t) ∧
  (∀ (dt : Elapsed) (s : State) (g levels : Nat), let a := advance dt s
    (8 ≤ g) →
    (g < 12) →
    (a.clk.fwRunning = true) →
    (a.sec.loaded.testBit 3 = true) →
    (a.sec.groupBad.testBit g = false) →
    ((a.agg (g - 8)).supply ≠ 0) →
    Does (.groupLoad dt g levels) s fun t =>
      t.rd F.CLK_START_AG_LOADED = setBits (a.rd F.CLK_START_AG_LOADED) (g - 8) (g - 8) 1 ∧
      (∀ k, k < 16 → (t.ach (16 * (g - 8) + k)).drv = none) ∧
      (a.clk.stopReady = true → a.mode = mFAULT → t.fld.cmds = a.fld.cmds ++ [(g, 2)]) ∧
      Moves (traceParts ++ [.clk, .fld, .ana, .ang, .free]) (traceObjs ++ [F.objAG_GSTAT, F.objDG_CHSTAT]) [F.CLK_START_AG_LOADED, F.CLK_START_DG_LOADED, F.DG_GSTAT_BC_V, F.DG_GSTAT_RATE, F.DG_GSTAT_WORD, F.PPR_STAT_FRESH, F.PPR_STAT_VERIFIED_OK] a t) ∧
  (∀ (dt : Elapsed) (s : State) (v : Nat), let a := advance dt s
    (v < 2 ^ F.PWR_STATUS_HOLD_V.width) →
    Does (.holdThreshold dt v) s fun t =>
      (t.rd F.PWR_STATUS_HOLD_V = v ∧ t.rd F.PWR_STATUS_CHARGED = b2n (decide (4150 ≤ v))) ∧
      (t.rd F.CLK_START_HOLD_30 = b2n (decide (3000 ≤ v)) ∧ t.rd F.STO_STATUS_HOLD_OK = b2n (decide (3000 ≤ v)) ∧ t.rd F.CLK_START_HOLD_38 = b2n (decide (3800 ≤ v))) ∧
      (t.rd F.PWR_STATUS_HOLD_MIN = if a.riding = true then min (a.rd F.PWR_STATUS_HOLD_MIN) v else a.rd F.PWR_STATUS_HOLD_MIN) ∧
      (a.clk.inReset = false → t.rd F.PWR_STATUS_PSTATE = if a.rd F.PWR_STATUS_PSTATE = 1 ∧ 4200 ≤ v then 0 else if a.rd F.PWR_STATUS_PSTATE = 0 ∧ v < 4150 ∧ a.rd F.PWR_STATUS_TEST_ACTIVE = 0 then 1 else a.rd F.PWR_STATUS_PSTATE) ∧
      Moves [.pwr] [] [F.CLK_START_HOLD_30, F.CLK_START_HOLD_38, F.PWR_STATUS_CHARGED, F.PWR_STATUS_HOLD_MIN, F.PWR_STATUS_HOLD_V, F.PWR_STATUS_PSTATE, F.STO_STATUS_HOLD_OK] a t) ∧
  (∀ (dt : Elapsed) (s : State) (levels : Nat), let a := advance dt s
    (a.bootDone = true) →
    Does (.stopReady dt levels) s fun t =>
      t.mode = mSTOP ∧
      (t.clk.stopReady = true ∧ t.clk.startRuns = 0) ∧
      Keeps (traceParts ++ [.time, .clk, .mbx, .img, .scn, .prg, .fld, .ana, .ang, .plt, .pair, .rtc, .pwr, .free]) a t)

/-- A PRG_LOAD_BEGIN that passes its checks answers ACCEPTED with a handle, makes the bank LOADING and EMPTY of a program,
invalidates its stored image and opens the load with size and digest. PRG_LOAD_DATA of the open load writes its bytes at
their offset into the bank's image and no others; beyond the size it answers LOAD_RANGE and writes nothing. PRG_LOAD_END
answers OK and takes no more data; the checks of OED-7 then end the load with the status and result of the first failing
step and the bank EMPTY, or report progress 500. The lane copies end it with LANE_COPY_FAILED and the lanes' mask,
WRITE_ABANDONED, or OK with the program's identity, the bank LOADED and its BANKLOAD record written. PRG_ABORT of the open
load ends it CANCELLED with the bank EMPTY. Nothing outside the frames changes. -/
def Obligations.ProgramLoading : Prop :=
  (∀ (dt : Elapsed) (s : State) (r : RingCmd) (x : Session) (k size : Nat) (dig : List Nat), let a := advance dt s
    (Taken 0x50 3 a r x) →
    ((parse r).payload = [k, 0, 0, 0] ++ leBytes 4 size ++ dig) →
    (dig.length = 32) →
    (k ≤ 1) →
    (1156 ≤ size) →
    (size ≤ 664704) →
    (a.window { lanes := true, store := true } = none) →
    (a.storeFault = false) →
    (a.prg.active ≠ some k) →
    (a.prg.load = none) →
    (∀ b, a.prg.act = some b → b.bank ≠ k) →
    (HasHandle a x) →
    Does (.prgLoadBegin dt) s fun t =>
      (∃ n, Answered r Code.ACCEPTED n 0 [] a t ∧ t.prg.load = some ⟨n, k, size, beNat dig, 0⟩) ∧
      (t.bank? k = none ∧ t.bankSt k = 1) ∧
      (t.recData kBANKLOAD k = none ∨ t.setGen = none) ∧
      Moves (traceParts ++ [.mbx, .prg, .sec]) (traceObjs ++ [F.objPRG_BANKA, F.objPRG_BANKB]) [F.MBX_QUEUES_CQ_FREE, F.MBX_QUEUES_CR_FREE, F.MBX_USE_BAD_MAC, F.MBX_USE_HANDLES_USED, F.MBX_USE_SESSIONS_OPEN, F.STO_STATUS_INCONS] a t) ∧
  (∀ (dt : Elapsed) (s : State) (r : RingCmd) (x : Session) (l : Load) (o : Nat) (d : List Nat), let a := advance dt s
    (Taken 0x51 3 a r x) →
    ((parse r).payload = leBytes 4 o ++ d) →
    (o < 2 ^ 32) →
    (d.length ≤ 996) →
    (a.window { lanes := true, store := true } = none) →
    (a.storeFault = false) →
    (a.loadOf (parse r).arg = some l) →
    (o + d.length ≤ l.size) →
    Does (.prgLoadData dt) s fun t =>
      Answered r Code.OK 0 0 [] a t ∧
      (∀ i, t.sto.progA.read i = if l.bank = 0 ∧ o ≤ i ∧ i < o + d.length then BitVec.ofNat 8 (d.getD (i - o) 0) else a.sto.progA.read i) ∧
      (∀ i, t.sto.progB.read i = if l.bank ≠ 0 ∧ o ≤ i ∧ i < o + d.length then BitVec.ofNat 8 (d.getD (i - o) 0) else a.sto.progB.read i) ∧
      t.prg = a.prg ∧
      Moves (traceParts ++ [.mbx, .sec]) traceObjs [F.MBX_QUEUES_CQ_FREE, F.MBX_QUEUES_CR_FREE, F.MBX_USE_BAD_MAC, F.MBX_USE_HANDLES_USED, F.MBX_USE_SESSIONS_OPEN] a t) ∧
  (∀ (dt : Elapsed) (s : State) (r : RingCmd) (x : Session) (l : Load) (o : Nat) (d : List Nat), let a := advance dt s
    (Taken 0x51 3 a r x) →
    ((parse r).payload = leBytes 4 o ++ d) →
    (o < 2 ^ 32) →
    (d.length ≤ 996) →
    (a.window { lanes := true, store := true } = none) →
    (a.storeFault = false) →
    (a.loadOf (parse r).arg = some l) →
    (l.size < o + d.length) →
    Does (.prgLoadData dt) s fun t =>
      Answered r Code.LOAD_RANGE 0 0 [] a t ∧
      (t.sto.progA = a.sto.progA ∧ t.sto.progB = a.sto.progB ∧ t.prg = a.prg) ∧
      Moves (traceParts ++ [.mbx, .sec]) traceObjs [F.MBX_QUEUES_CQ_FREE, F.MBX_QUEUES_CR_FREE, F.MBX_USE_BAD_MAC, F.MBX_USE_HANDLES_USED, F.MBX_USE_SESSIONS_OPEN] a t) ∧
  (∀ (dt : Elapsed) (s : State) (r : RingCmd) (x : Session) (l : Load), let a := advance dt s
    (Taken 0x52 3 a r x) →
    (a.window { lanes := true } = none) →
    (a.loadOf (parse r).arg = some l) →
    Does (.prgLoadEnd dt) s fun t =>
      Answered r Code.OK 0 0 [] a t ∧
      t.prg = { a.prg with load := some { l with stage := 1 } } ∧
      Moves (traceParts ++ [.mbx, .prg, .sec]) traceObjs [F.MBX_QUEUES_CQ_FREE, F.MBX_QUEUES_CR_FREE, F.MBX_USE_BAD_MAC, F.MBX_USE_HANDLES_USED, F.MBX_USE_SESSIONS_OPEN] a t) ∧
  (∀ (dt : Elapsed) (s : State) (l : Load) (st res : Nat), let a := advance dt s
    (a.prg.load = some l) →
    (l.bank ≤ 1) →
    (l.stage = 1) →
    (a.clk.supv = true) →
    ((checkImage a l).1 = some (st, res)) →
    Does (.prgLoadChecks dt) s fun t =>
      (t.prg.load = none ∧ t.bank? l.bank = none ∧ t.bankSt l.bank = 0) ∧
      Fins l.handle st res [] a t ∧
      Moves (traceParts ++ [.mbx, .prg]) (traceObjs ++ [F.objPRG_BANKA, F.objPRG_BANKB]) [F.MBX_QUEUES_CQ_FREE, F.MBX_QUEUES_CR_FREE, F.MBX_USE_HANDLES_USED, F.MBX_USE_SESSIONS_OPEN] a t) ∧
  (∀ (dt : Elapsed) (s : State) (l : Load), let a := advance dt s
    (a.prg.load = some l) →
    (l.stage = 1) →
    (a.clk.supv = true) →
    ((checkImage a l).1 = none) →
    Does (.prgLoadChecks dt) s fun t =>
      t.prg = { a.prg with load := some { l with stage := 2 } } ∧
      (∀ h, a.hdl? (l.handle % 2048) = some h → (t.hdl? (l.handle % 2048)).map (·.progress) = some 500) ∧
      Moves (traceParts ++ [.mbx, .prg]) (traceObjs ++ [F.objPRG_BANKA, F.objPRG_BANKB]) [F.MBX_QUEUES_CQ_FREE, F.MBX_QUEUES_CR_FREE, F.MBX_USE_HANDLES_USED, F.MBX_USE_SESSIONS_OPEN] a t) ∧
  (∀ (dt : Elapsed) (s : State) (bad : Nat) (l : Load), let a := advance dt s
    (a.prg.load = some l) →
    (l.bank ≤ 1) →
    (l.stage = 2) →
    (a.lanesIdle = true) →
    (a.clk.lane = true) →
    (a.clk.supv = true) →
    (bad % 8 = 0) →
    (a.storeOk = true) →
    Does (.laneBankCopy dt bad) s fun t =>
      (t.prg.load = none ∧ t.bank? l.bank = some (checkImage a l).2 ∧ t.bankSt l.bank = 2) ∧
      (∃ z, ((t.stoRec kBANKLOAD l.bank).s0 = some z ∨ (t.stoRec kBANKLOAD l.bank).s1 = some z) ∧ z.usable = true ∧ z.data = slice (bankloadData (checkImage a l).2 l.size) 0 48) ∧
      Fins l.handle Code.OK ((checkImage a l).2.progId + 2 ^ 32 * (checkImage a l).2.build) [] a t ∧
      Moves (traceParts ++ [.mbx, .prg]) (traceObjs ++ [F.objPRG_BANKA, F.objPRG_BANKB]) [F.MBX_QUEUES_CQ_FREE, F.MBX_QUEUES_CR_FREE, F.MBX_USE_HANDLES_USED, F.MBX_USE_SESSIONS_OPEN, F.STO_COUNT_ABANDONED, F.STO_STATUS_INCONS] a t) ∧
  (∀ (dt : Elapsed) (s : State) (bad : Nat) (l : Load), let a := advance dt s
    (a.prg.load = some l) →
    (l.bank ≤ 1) →
    (l.stage = 2) →
    (a.lanesIdle = true) →
    (a.clk.lane = true) →
    (a.clk.supv = true) →
    (bad % 8 ≠ 0 ∨ a.storeOk = false) →
    Does (.laneBankCopy dt bad) s fun t =>
      (t.prg.load = none ∧ t.bank? l.bank = none ∧ t.bankSt l.bank = 0) ∧
      t.sto.recs = a.sto.recs ∧
      (if bad % 8 ≠ 0 then Fins l.handle Code.LANE_COPY_FAILED (bad % 8) [] a t else Fins l.handle Code.WRITE_ABANDONED 0 [] a t) ∧
      Moves (traceParts ++ [.mbx, .prg]) (traceObjs ++ [F.objPRG_BANKA, F.objPRG_BANKB]) [F.MBX_QUEUES_CQ_FREE, F.MBX_QUEUES_CR_FREE, F.MBX_USE_HANDLES_USED, F.MBX_USE_SESSIONS_OPEN, F.STO_COUNT_ABANDONED, F.STO_STATUS_INCONS] a t) ∧
  (∀ (dt : Elapsed) (s : State) (r : RingCmd) (x : Session) (l : Load), let a := advance dt s
    (Taken 0x54 3 a r x) →
    (a.window { lanes := true } = none) →
    (a.prg.load = some l) →
    (l.handle = (parse r).arg) →
    (l.bank ≤ 1) →
    Does (.prgAbort dt) s fun t =>
      (t.prg.load = none ∧ t.bank? l.bank = none ∧ t.bankSt l.bank = 0) ∧
      (∀ h, a.hdl? (l.handle % 2048) = some h → h.state ≠ 4 → (a.session? h.session).isSome = true → t.mbx.cq.any (fun q => decide (q.kind = 2) && decide (q.status = Code.CANCELLED) && decide (q.handle = h.num)) = true) ∧
      t.mbx.ring = a.mbx.ring.tail ∧
      Moves (traceParts ++ [.mbx, .prg, .sec]) (traceObjs ++ [F.objPRG_BANKA, F.objPRG_BANKB]) [F.MBX_QUEUES_CQ_FREE, F.MBX_QUEUES_CR_FREE, F.MBX_USE_BAD_MAC, F.MBX_USE_HANDLES_USED, F.MBX_USE_SESSIONS_OPEN] a t)

/-- A PRG_ACTIVATE that a check of OED-8 refuses answers that check's code and changes no program; one that passes answers
ACCEPTED and is pending. The quiet point of a candidate of a single module defers releases, counts the attempt and restarts
the lane copies. The swap makes the new bank ACTIVE and the old one LOADED, takes its task table, and gives every lane the
carried-over instances and the relocated operand areas, or zeros where the builds do not follow; the record SWAP names both
builds; in STOP and FAULT it comes at once, in RUN between quiet point and deadline. Past the deadline the old bank stays
and the attempt has failed; after WAIT of them the FIN is SWAP_TIMEOUT. The activation record is written when the store
takes it and the FIN carries the swap cinch. A lagging standby swaps at the first boundary it can and records SWAP_LAG.
Nothing outside the frames changes. -/
def Obligations.ProgramActivation : Prop :=
  (∀ (dt : Elapsed) (s : State) (r : RingCmd) (x : Session) (k w st : Nat), let a := advance dt s
    (Taken 0x53 3 a r x) →
    ((parse r).payload = [k, w, 0, 0]) →
    (k ≤ 1) →
    (a.window { plan := true, lanes := true } = none) →
    (activateBad a ⟨k, 0, if w = 0 then 10 else w, 0, a.time.now, a.rd F.PRG_CFG_SWAP_MARGIN, 0, 0, 0, 0, a.cinchNow, false⟩ = some st) →
    Does (.prgActivate dt) s fun t =>
      Answered r st 0 0 [] a t ∧
      t.prg = a.prg ∧
      Moves (traceParts ++ [.mbx, .prg, .sec]) traceObjs [F.MBX_QUEUES_CQ_FREE, F.MBX_QUEUES_CR_FREE, F.MBX_USE_BAD_MAC, F.MBX_USE_HANDLES_USED, F.MBX_USE_SESSIONS_OPEN, F.PRG_ACT_PENDING] a t) ∧
  (∀ (dt : Elapsed) (s : State) (r : RingCmd) (x : Session) (k w : Nat), let a := advance dt s
    (Taken 0x53 3 a r x) →
    ((parse r).payload = [k, w, 0, 0]) →
    (k ≤ 1) →
    (w < 256) →
    (a.window { plan := true, lanes := true } = none) →
    (activateBad a ⟨k, 0, if w = 0 then 10 else w, 0, a.time.now, a.rd F.PRG_CFG_SWAP_MARGIN, 0, 0, 0, 0, a.cinchNow, false⟩ = none) →
    (HasHandle a x) →
    Does (.prgActivate dt) s fun t =>
      (∃ n, Answered r Code.ACCEPTED n 0 [] a t ∧ t.prg.act = some ⟨k, n, if w = 0 then 10 else w, 0, a.time.now, a.rd F.PRG_CFG_SWAP_MARGIN, if a.paired = true ∧ a.mode = mRUN then 3 else 0, 0, 0, 0, a.cinchNow, false⟩) ∧
      t.rd F.PRG_ACT_PENDING = 1 ∧
      t.prg.active = a.prg.active ∧
      Moves (traceParts ++ [.mbx, .prg, .sec]) traceObjs [F.MBX_QUEUES_CQ_FREE, F.MBX_QUEUES_CR_FREE, F.MBX_USE_BAD_MAC, F.MBX_USE_HANDLES_USED, F.MBX_USE_SESSIONS_OPEN, F.PRG_ACT_PENDING] a t) ∧
  (∀ (dt : Elapsed) (s : State) (b : Act), let a := advance dt s
    (a.prg.act = some b) →
    (a.mode = mRUN) →
    (a.paired = false) →
    (b.phase = 0) →
    (b.acceptedAt + 100000 ≤ a.swapL b - a.swapLead b) →
    (a.swapL b - a.swapLead b ≤ a.time.now) →
    (a.time.now < a.swapL b) →
    Does (.swapQuietPoint dt) s fun t =>
      t.prg.act = some { b with phase := 1, at_ := a.swapL b, tries := b.tries + 1 } ∧
      t.prg.deferring = true ∧
      t.plt.passes = ⟨0, 0, 0⟩ ∧
      Moves [.prg, .plt] [] [] a t) ∧
  (∀ (dt : Elapsed) (s : State) (b : Act) (new : Bank), let a := advance dt s
    (a.prg.act = some b) →
    (a.bank? b.bank = some new) →
    (a.clk.lane = true) →
    (a.noExec = true) →
    (b.bank ≤ 1) →
    ((a.mode = mSTOP ∨ a.mode = mFAULT) ∧ b.phase = 0 ∨ a.mode = mRUN ∧ a.time.now ≤ a.swapDeadline b ∧ (if b.standby = true then b.phase = 6 else b.phase = 1)) →
    (a.prg.active ≠ some b.bank) →
    (∀ k, a.prg.active = some k → k ≤ 1) →
    (a.prg.deferred = []) →
    Does (.programSwap dt) s fun t =>
      (t.prg.active = some b.bank ∧ t.rd F.PRG_ACT_ACTIVE = b.bank ∧ t.bankSt b.bank = 3) ∧
      (∀ k, a.prg.active = some k → t.bankSt k = 2) ∧
      (∀ k, k < 3 → t.scn.lanes.get k = swapLane a.activeBank new (a.scn.lanes.get k)) ∧
      (∀ k, k < 64 → t.rd F.SCN_T_ENTRY k = (new.tasks.getD k ⟨0, 0, 0, 0, 0⟩).entry % 2 ^ F.SCN_T_ENTRY.width ∧ t.rd F.SCN_T_PERIOD k = (new.tasks.getD k ⟨0, 0, 0, 0, 0⟩).period % 2 ^ F.SCN_T_PERIOD.width ∧ t.rd F.SCN_T_PRIO k = (new.tasks.getD k ⟨0, 0, 0, 0, 0⟩).prio % 2 ^ F.SCN_T_PRIO.width ∧ t.rd F.SCN_T_SRC k = (new.tasks.getD k ⟨0, 0, 0, 0, 0⟩).src % 2 ^ F.SCN_T_SRC.width) ∧
      ((t.prg.act.map (·.phase)) = some 2 ∧ t.prg.deferring = false) ∧
      t.rd F.PRG_ACT_SWAP_CYC = swapCyc new % 2 ^ F.PRG_ACT_SWAP_CYC.width ∧
      Logged Ev.SWAP (leBytes 4 ((a.activeBank.map (·.build)).getD 0) ++ leBytes 4 new.build) a t ∧
      Moves (traceParts ++ [.time, .mbx, .img, .scn, .prg, .fld, .pair]) (traceObjs ++ [F.objPRG_BANKA, F.objPRG_BANKB, F.objSCN_MODE, F.objSCN_RETAIN]) [F.ANG_EV_STATE, F.DG_COS_COS, F.MBX_QUEUES_CQ_FREE, F.MBX_QUEUES_CR_FREE, F.MBX_USE_HANDLES_USED, F.MBX_USE_SESSIONS_OPEN, F.PLT_PSTATE_MIR_MISS, F.PLT_PSTATE_ROLE, F.PPR_WINSTAT_EVENT, F.PRG_ACT_ACTIVE, F.PRG_ACT_DROPPED, F.PRG_ACT_PENDING, F.PRG_ACT_SWAP_CINCH, F.PRG_ACT_SWAP_CYC, F.SCN_TSTAT_RUNSKIP, F.SCN_TSTAT_SKIPS, F.SCN_T_ENTRY, F.SCN_T_PERIOD, F.SCN_T_PHASE, F.SCN_T_PRIO, F.SCN_T_SRC] a t) ∧
  (∀ (rs : List Reloc) (area : Nat) (m : Memory), relocBad rs = none →
    (∀ r ∈ rs, r.area = area → ∀ i, i < r.count → memGet (relocArea rs area m) (4 * (r.new + i)) 4 =
      if r.op = 0 then memGet m (4 * (r.old + i)) 4 else 0) ∧
    (∀ k, (∀ r ∈ rs, r.area = area → ¬(4 * r.new ≤ k ∧ k < 4 * (r.new + r.count))) → (relocArea rs area m).read k = m.read k)) ∧
  (∀ (dt : Elapsed) (s : State) (b : Act), let a := advance dt s
    (a.prg.act = some b) →
    (a.mode = mRUN) →
    (b.standby = false) →
    (a.paired = false) →
    (b.phase = 1) →
    (a.swapDeadline b < a.time.now) →
    (a.prg.deferred = []) →
    (b.tries < b.wait) →
    Does (.swapDeadline dt) s fun t =>
      t.prg = { a.prg with act := some { b with phase := 0 }, deferring := false } ∧
      Moves [.prg] [] [] a t) ∧
  (∀ (dt : Elapsed) (s : State) (b : Act), let a := advance dt s
    (a.prg.act = some b) →
    (a.mode = mRUN) →
    (b.standby = false) →
    (a.paired = false) →
    (b.phase = 1) →
    (a.swapDeadline b < a.time.now) →
    (a.prg.deferred = []) →
    (b.wait ≤ b.tries) →
    Does (.swapDeadline dt) s fun t =>
      t.prg = { a.prg with act := none, deferring := false } ∧
      t.rd F.PRG_ACT_PENDING = 0 ∧
      Fins b.handle Code.SWAP_TIMEOUT 0 [] a t ∧
      Moves (traceParts ++ [.mbx, .prg]) traceObjs [F.MBX_QUEUES_CQ_FREE, F.MBX_QUEUES_CR_FREE, F.MBX_USE_HANDLES_USED, F.MBX_USE_SESSIONS_OPEN, F.PRG_ACT_PENDING] a t) ∧
  (∀ (dt : Elapsed) (s : State) (b : Act), let a := advance dt s
    (a.prg.act = some b) →
    (b.phase = 2) →
    (b.standby = false) →
    (a.storeOk = true) →
    (a.paired = false) →
    Does (.activationRecordWrite dt) s fun t =>
      (t.prg.act = none ∧ t.rd F.PRG_ACT_PENDING = 0) ∧
      (∃ z, ((t.stoRec kACTIVATION 0).s0 = some z ∨ (t.stoRec kACTIVATION 0).s1 = some z) ∧ z.usable = true ∧ z.data = leBytes 8 b.bank) ∧
      (Fins b.handle Code.OK (b.cinch + 2 ^ 32 * (if b.partner = 0 then 0 else b.partner - 1)) [] a t) ∧
      t.prg.retCopyDue = (decide (a.mode = mRUN) || a.prg.retCopyDue) ∧
      Moves (traceParts ++ [.mbx, .prg]) traceObjs [F.MBX_QUEUES_CQ_FREE, F.MBX_QUEUES_CR_FREE, F.MBX_USE_HANDLES_USED, F.MBX_USE_SESSIONS_OPEN, F.PRG_ACT_PENDING, F.STO_STATUS_INCONS] a t) ∧
  (∀ (dt : Elapsed) (s : State) (b : Act) (new : Bank), let a := advance dt s
    (a.prg.act = some b) →
    (a.bank? b.bank = some new) →
    (b.bank ≤ 1) →
    (b.phase = 7) →
    (a.mode = mRUN) →
    (a.noExec = true) →
    (a.clk.lane = true) →
    (a.boundaryAhead - a.swapLead b ≤ a.time.now) →
    (a.time.now ≤ a.boundaryAhead - a.swapTime b) →
    (a.prg.active ≠ some b.bank) →
    (∀ k, a.prg.active = some k → k ≤ 1) →
    (a.prg.deferred = []) →
    Does (.standbyLagSwap dt) s fun t =>
      (t.prg.active = some b.bank ∧ t.bankSt b.bank = 3) ∧
      t.rd F.PRG_ACT_LAGGED = 0 ∧
      (∀ k, k < 3 → t.scn.lanes.get k = swapLane a.activeBank new (a.scn.lanes.get k)) ∧
      Logged Ev.SWAP_LAG (leBytes 4 b.cinch ++ leBytes 4 (a.cinchAt a.boundaryAhead)) a t ∧
      Moves (traceParts ++ [.time, .mbx, .img, .scn, .prg, .fld, .pair]) (traceObjs ++ [F.objPRG_ACT, F.objPRG_BANKA, F.objPRG_BANKB, F.objSCN_MODE, F.objSCN_RETAIN]) [F.ANG_EV_STATE, F.DG_COS_COS, F.MBX_QUEUES_CQ_FREE, F.MBX_QUEUES_CR_FREE, F.MBX_USE_HANDLES_USED, F.MBX_USE_SESSIONS_OPEN, F.PLT_PSTATE_MIR_MISS, F.PLT_PSTATE_ROLE, F.PPR_WINSTAT_EVENT, F.SCN_TSTAT_RUNSKIP, F.SCN_TSTAT_SKIPS, F.SCN_T_ENTRY, F.SCN_T_PERIOD, F.SCN_T_PHASE, F.SCN_T_PRIO, F.SCN_T_SRC] a t)

/-- IMG_WRITE inside the host region is staged behind what stands there for the cinch whose window is open and answers OK
with that cinch; outside it answers OUT_OF_HOST_REGION, without room STAGING_WINDOW_FULL, and stages nothing. SNAP_PIN pins
the named closed snapshot for its session and answers its cinch; an open or unknown one answers SNAPSHOT_OPEN or NO_SNAPSHOT
and pins nothing, a fifth pin PIN_LIMIT; a lost pin is reported once with SNAPSHOT_LOST. SNAP_UNPIN ends the session's pin.
SNAP_READ of a closed snapshot is accepted as a long operation, and its FIN carries the bytes of the snapshot's buffer when
they are still good, else SNAPSHOT_DAMAGED or SNAPSHOT_LOST. CAP_READ of bytes written and still held is accepted, before
they are written it answers CAPTURE_NOT_YET, and its FIN carries them, or CAPTURE_OVERWRITTEN where the buffer went on.
Nothing outside the frames changes. -/
def Obligations.ImageCommands : Prop :=
  (∀ (dt : Elapsed) (s : State) (r : RingCmd) (x : Session) (off : Nat) (d : List Nat), let a := advance dt s
    (Taken 0x30 2 a r x) →
    ((parse r).payload = [1, 0] ++ leBytes 2 off ++ [d.length, 0, 0, 0] ++ d) →
    (1 ≤ d.length) →
    (d.length ≤ 32) →
    (off + d.length ≤ 2048) →
    (a.window {} = none) →
    (a.stagedUse 1 + 4 + (d.length + 3) / 4 * 4 ≤ 8192) →
    Does (.imgWrite dt) s fun t =>
      Answered r Code.OK 0 (a.dueCinch.getD 0) [] a t ∧
      t.img = { a.img with stage := a.img.stage ++ [⟨1, off, d, a.dueCinch⟩] } ∧
      Moves (traceParts ++ [.mbx, .img, .sec]) traceObjs [F.IMG_STATUS_STAGE_FREE, F.MBX_QUEUES_CQ_FREE, F.MBX_QUEUES_CR_FREE, F.MBX_USE_BAD_MAC, F.MBX_USE_HANDLES_USED, F.MBX_USE_SESSIONS_OPEN] a t) ∧
  (∀ (dt : Elapsed) (s : State) (r : RingCmd) (x : Session) (off : Nat) (d : List Nat), let a := advance dt s
    (Taken 0x30 2 a r x) →
    ((parse r).payload = [1, 0] ++ leBytes 2 off ++ [d.length, 0, 0, 0] ++ d) →
    (off < 65536) →
    (1 ≤ d.length) →
    (d.length ≤ 32) →
    (2048 < off + d.length ∨ a.window {} = none ∧ 8192 < a.stagedUse 1 + 4 + (d.length + 3) / 4 * 4) →
    Does (.imgWrite dt) s fun t =>
      (Answered r (if 2048 < off + d.length then Code.OUT_OF_HOST_REGION else Code.STAGING_WINDOW_FULL) 0 0 [] a t) ∧
      t.img = a.img ∧
      Moves (traceParts ++ [.mbx, .img, .sec]) traceObjs [F.IMG_STATUS_STAGE_FREE, F.MBX_QUEUES_CQ_FREE, F.MBX_QUEUES_CR_FREE, F.MBX_USE_BAD_MAC, F.MBX_USE_HANDLES_USED, F.MBX_USE_SESSIONS_OPEN] a t) ∧
  (∀ (dt : Elapsed) (s : State) (r : RingCmd) (x : Session) (n : Nat) (y : Snap), let a := advance dt s
    (Taken 0x31 1 a r x) →
    ((parse r).payload = leBytes 4 n) →
    (n < 2 ^ 32) →
    (a.window {} = none) →
    (a.lostPin x.no = none) →
    (a.namedSnap n = .ok y) →
    ((x.no, y.cinch) ∉ a.img.pins) →
    ((a.img.pins.filter fun p => decide (p.1 = x.no)).length < 4) →
    (a.pinned.length < 4 ∨ y.cinch ∈ a.pinned) →
    Does (.snapPin dt) s fun t =>
      Answered r Code.OK 0 y.cinch [] a t ∧
      t.img.pins = a.img.pins ++ [(x.no, y.cinch)] ∧
      (t.img.snaps = a.img.snaps ∧ t.img.lost = a.img.lost) ∧
      Moves (traceParts ++ [.mbx, .img, .sec]) (traceObjs ++ [F.objIMG_PINS]) [F.IMG_STATUS_PHOLDS, F.IMG_STATUS_PINNED, F.MBX_QUEUES_CQ_FREE, F.MBX_QUEUES_CR_FREE, F.MBX_USE_BAD_MAC, F.MBX_USE_HANDLES_USED, F.MBX_USE_SESSIONS_OPEN] a t) ∧
  (∀ (dt : Elapsed) (s : State) (r : RingCmd) (x : Session) (n e : Nat), let a := advance dt s
    (Taken 0x31 1 a r x) →
    ((parse r).payload = leBytes 4 n) →
    (n < 2 ^ 32) →
    (a.window {} = none) →
    (a.lostPin x.no = none) →
    (a.namedSnap n = .error e ∨ (∃ y, a.namedSnap n = .ok y ∧ (x.no, y.cinch) ∉ a.img.pins ∧ e = Code.PIN_LIMIT ∧ (4 ≤ (a.img.pins.filter fun p => decide (p.1 = x.no)).length ∨ 4 ≤ a.pinned.length ∧ y.cinch ∉ a.pinned))) →
    Does (.snapPin dt) s fun t =>
      Answered r e 0 0 [] a t ∧
      t.img = a.img ∧
      Moves (traceParts ++ [.mbx, .img, .sec]) (traceObjs ++ [F.objIMG_PINS]) [F.IMG_STATUS_PHOLDS, F.IMG_STATUS_PINNED, F.MBX_QUEUES_CQ_FREE, F.MBX_QUEUES_CR_FREE, F.MBX_USE_BAD_MAC, F.MBX_USE_HANDLES_USED, F.MBX_USE_SESSIONS_OPEN] a t) ∧
  (∀ (dt : Elapsed) (s : State) (r : RingCmd) (x : Session) (n k : Nat), let a := advance dt s
    (Taken 0x31 1 a r x) →
    ((parse r).payload = leBytes 4 n) →
    (a.window {} = none) →
    (a.lostPin x.no = some k) →
    Does (.snapPin dt) s fun t =>
      Answered r Code.SNAPSHOT_LOST 0 k [] a t ∧
      (t.lostPin x.no = none ∧ t.img.pins = a.img.pins) ∧
      Moves (traceParts ++ [.mbx, .img, .sec]) (traceObjs ++ [F.objIMG_PINS]) [F.IMG_STATUS_PHOLDS, F.IMG_STATUS_PINNED, F.MBX_QUEUES_CQ_FREE, F.MBX_QUEUES_CR_FREE, F.MBX_USE_BAD_MAC, F.MBX_USE_HANDLES_USED, F.MBX_USE_SESSIONS_OPEN] a t) ∧
  (∀ (dt : Elapsed) (s : State) (r : RingCmd) (x : Session) (n : Nat), let a := advance dt s
    (Taken 0x33 1 a r x) →
    ((parse r).payload = leBytes 4 n) →
    (n < 2 ^ 32) →
    (a.window {} = none) →
    Does (.snapUnpin dt) s fun t =>
      (Answered r (if (x.no, n) ∈ a.img.pins then Code.OK else Code.NOT_PINNED) 0 0 [] a t) ∧
      (t.img = { a.img with pins := a.img.pins.filter fun p => decide (p ≠ (x.no, n)) }) ∧
      Moves (traceParts ++ [.mbx, .img, .sec]) (traceObjs ++ [F.objIMG_PINS]) [F.IMG_STATUS_PHOLDS, F.IMG_STATUS_PINNED, F.MBX_QUEUES_CQ_FREE, F.MBX_QUEUES_CR_FREE, F.MBX_USE_BAD_MAC, F.MBX_USE_HANDLES_USED, F.MBX_USE_SESSIONS_OPEN] a t) ∧
  (∀ (dt : Elapsed) (s : State) (r : RingCmd) (x : Session) (n off len : Nat) (y : Snap), let a := advance dt s
    (Taken 0x32 1 a r x) →
    ((parse r).payload = leBytes 4 n ++ leBytes 2 off ++ leBytes 2 len) →
    (n < 2 ^ 32) →
    (len ≤ 1536) →
    (off + len ≤ 16384) →
    (a.window {} = none) →
    (a.lostPin x.no = none) →
    (a.namedSnap n = .ok y) →
    (HasHandle a x) →
    Does (.snapRead dt) s fun t =>
      (∃ m, Answered r Code.ACCEPTED m 0 [] a t ∧ (t.hdl? (m % 2048)).map (·.op) = some (.snapRead y.cinch off len 0)) ∧
      t.img = a.img ∧
      Moves (traceParts ++ [.mbx, .img, .sec]) traceObjs [F.MBX_QUEUES_CQ_FREE, F.MBX_QUEUES_CR_FREE, F.MBX_USE_BAD_MAC, F.MBX_USE_HANDLES_USED, F.MBX_USE_SESSIONS_OPEN] a t) ∧
  (∀ (dt : Elapsed) (s : State) (r : RingCmd) (x : Session) (n off len e : Nat), let a := advance dt s
    (Taken 0x32 1 a r x) →
    ((parse r).payload = leBytes 4 n ++ leBytes 2 off ++ leBytes 2 len) →
    (n < 2 ^ 32) →
    (len ≤ 1536) →
    (off + len ≤ 16384) →
    (a.window {} = none) →
    (a.lostPin x.no = none) →
    (a.namedSnap n = .error e) →
    (HasHandle a x) →
    Does (.snapRead dt) s fun t =>
      Answered r e 0 0 [] a t ∧
      (t.img = a.img ∧ t.mbx.hdls = a.mbx.hdls) ∧
      Moves (traceParts ++ [.mbx, .img, .sec]) traceObjs [F.MBX_QUEUES_CQ_FREE, F.MBX_QUEUES_CR_FREE, F.MBX_USE_BAD_MAC, F.MBX_USE_HANDLES_USED, F.MBX_USE_SESSIONS_OPEN] a t) ∧
  (∀ (dt : Elapsed) (s : State) (k : Nat) (bad : List Nat) (h : Hdl) (n off len b : Nat) (y : Snap), let a := advance dt s
    (a.hdl? k = some h) →
    (k < 2048) →
    (h.op = .snapRead n off len b) →
    (a.clk.supv = true) →
    (a.snap? n = some y) →
    (∀ j ∈ bad, off + len ≤ 64 + 256 * j ∨ 64 + 256 * (j + 1) ≤ off) →
    Does (.snapReadConfirm dt k bad) s fun t =>
      Fins k Code.OK n (slice (snapImage y) off len) a t ∧
      Moves (traceParts ++ [.mbx]) traceObjs [F.MBX_QUEUES_CQ_FREE, F.MBX_QUEUES_CR_FREE, F.MBX_USE_HANDLES_USED, F.MBX_USE_SESSIONS_OPEN] a t) ∧
  (∀ (dt : Elapsed) (s : State) (k : Nat) (bad : List Nat) (h : Hdl) (n off len b : Nat) (y : Snap), let a := advance dt s
    (a.hdl? k = some h) →
    (k < 2048) →
    (h.op = .snapRead n off len b) →
    (a.clk.supv = true) →
    (a.snap? n = some y) →
    (∃ j ∈ bad, off < 64 + 256 * (j + 1) ∧ 64 + 256 * j < off + len) →
    Does (.snapReadConfirm dt k bad) s fun t =>
      Fins k Code.SNAPSHOT_DAMAGED n [] a t ∧
      Moves (traceParts ++ [.mbx]) traceObjs [F.MBX_QUEUES_CQ_FREE, F.MBX_QUEUES_CR_FREE, F.MBX_USE_HANDLES_USED, F.MBX_USE_SESSIONS_OPEN] a t) ∧
  (∀ (dt : Elapsed) (s : State) (k : Nat) (bad : List Nat) (h : Hdl) (n off len b : Nat), let a := advance dt s
    (a.hdl? k = some h) →
    (k < 2048) →
    (h.op = .snapRead n off len b) →
    (a.clk.supv = true) →
    (a.snap? n = none) →
    Does (.snapReadConfirm dt k bad) s fun t =>
      Fins k Code.SNAPSHOT_LOST n [] a t ∧
      Moves (traceParts ++ [.mbx]) traceObjs [F.MBX_QUEUES_CQ_FREE, F.MBX_QUEUES_CR_FREE, F.MBX_USE_HANDLES_USED, F.MBX_USE_SESSIONS_OPEN] a t) ∧
  (∀ (dt : Elapsed) (s : State) (r : RingCmd) (x : Session) (d n off : Nat), let a := advance dt s
    (Taken 0x38 1 a r x) →
    ((parse r).payload = [d, 0] ++ leBytes 2 n ++ leBytes 4 off) →
    (d ≤ 3) →
    (n ≤ 1536) →
    (off < 2 ^ 32) →
    (off % 16 = 0) →
    (n % 16 = 0) →
    (a.window {} = none) →
    (after32 (off + n) (a.rd F.ANG_CAPPOS_CAPPOS d) = false) →
    (a.capGone d off = false) →
    (HasHandle a x) →
    Does (.capRead dt) s fun t =>
      (∃ m, Answered r Code.ACCEPTED m 0 [] a t ∧ (t.hdl? (m % 2048)).map (·.op) = some (.capRead d off n ((List.range n).map fun j => ((a.ang.caps.getD d []).read ((off + j) % 65536)).toNat))) ∧
      t.ang = a.ang ∧
      Moves (traceParts ++ [.mbx, .sec]) traceObjs [F.MBX_QUEUES_CQ_FREE, F.MBX_QUEUES_CR_FREE, F.MBX_USE_BAD_MAC, F.MBX_USE_HANDLES_USED, F.MBX_USE_SESSIONS_OPEN] a t) ∧
  (∀ (dt : Elapsed) (s : State) (r : RingCmd) (x : Session) (d n off : Nat), let a := advance dt s
    (Taken 0x38 1 a r x) →
    ((parse r).payload = [d, 0] ++ leBytes 2 n ++ leBytes 4 off) →
    (d ≤ 3) →
    (n ≤ 1536) →
    (off < 2 ^ 32) →
    (off % 16 = 0) →
    (n % 16 = 0) →
    (a.window {} = none) →
    (after32 (off + n) (a.rd F.ANG_CAPPOS_CAPPOS d) = true) →
    (HasHandle a x) →
    Does (.capRead dt) s fun t =>
      Answered r Code.CAPTURE_NOT_YET 0 0 [] a t ∧
      (t.mbx.hdls = a.mbx.hdls ∧ t.ang = a.ang) ∧
      Moves (traceParts ++ [.mbx, .sec]) traceObjs [F.MBX_QUEUES_CQ_FREE, F.MBX_QUEUES_CR_FREE, F.MBX_USE_BAD_MAC, F.MBX_USE_HANDLES_USED, F.MBX_USE_SESSIONS_OPEN] a t) ∧
  (∀ (dt : Elapsed) (s : State) (k : Nat) (h : Hdl) (d off n : Nat) (data : List Nat), let a := advance dt s
    (a.hdl? k = some h) →
    (k < 2048) →
    (h.op = .capRead d off n data) →
    (a.clk.supv = true) →
    Does (.capReadConfirm dt k) s fun t =>
      (if a.capGone d off = true then Fins k Code.CAPTURE_OVERWRITTEN (a.rd F.ANG_CAPPOS_CAPPOS d) [] a t else Fins k Code.OK (a.rd F.ANG_CAPPOS_CAPPOS d) data a t) ∧
      t.ang = a.ang ∧
      Moves (traceParts ++ [.mbx]) traceObjs [F.MBX_QUEUES_CQ_FREE, F.MBX_QUEUES_CR_FREE, F.MBX_USE_HANDLES_USED, F.MBX_USE_SESSIONS_OPEN] a t)

/-- When three lanes vote, two of them have ended the execution with the same written output bits, values, commit list and
signature, and both were presented in time with good check codes, then PLAIT_COMMIT commits exactly what these two wrote:
every output bit that they wrote takes their value and every other bit of the voted output areas stands, whatever the third
lane holds, whether it ended at all, was late or fails its check. A vote with fewer than two copies, or over a word of the
image that cannot be corrected, commits nothing: the module enters FAULT with cause 4, the output image stands, and the
record UNRESOLVED names the voting lanes and the class (the ARG value 0 of an absent copy is the model's choice, assumption
log). Nothing outside the frames changes. -/
def Obligations.FaultMasked : Prop :=
  (∀ (dt : Elapsed) (s : State) (wc late off : Nat) (x : Exec) (rest : List Exec) (p q j : Nat), let a := advance dt s
    (a.scn.presented = x :: rest) →
    (a.rd F.PLT_LANE_VOTING = 7) →
    (p < 3 ∧ q < 3 ∧ j < 3 ∧ p ≠ q ∧ p ≠ j ∧ q ≠ j) →
    (wc.testBit p = false ∧ wc.testBit q = false ∧ late.testBit p = false ∧ late.testBit q = false) →
    ((x.lanes.get p).run = .ended ∧ (x.lanes.get q).run = .ended) →
    ((x.lanes.get p).q = (x.lanes.get q).q ∧ (x.lanes.get p).qmask = (x.lanes.get q).qmask) →
    ((x.lanes.get p).reqs = (x.lanes.get q).reqs ∧ (x.lanes.get p).sig = (x.lanes.get q).sig) →
    (x.discard = false) →
    (a.mode ≠ mFAULT) →
    (¬(x.src = 4 ∧ a.mode = mSTOP)) →
    (x.task ≠ 0 ∨ a.plt.open_ = true) →
    Does (.plaitCommit dt wc late 0 off) s fun t =>
      (∀ i, t.img.q.read i = (if i < 0x210 ∨ 0x400 ≤ i ∧ i < 0x1000 then BitVec.ofNat 8 (((a.img.q.read i).toNat &&& (255 - ((x.lanes.get p).qmask.read i).toNat)) ||| (((x.lanes.get p).q.read i).toNat &&& ((x.lanes.get p).qmask.read i).toNat)) else a.img.q.read i)) ∧
      Moves (traceParts ++ [.time, .mbx, .img, .scn, .prg, .fld, .ana, .ang, .plt, .pair]) (traceObjs ++ [F.objAG_GSTAT, F.objIMG_PINS, F.objPLT_LANE, F.objSCN_MODE]) [F.AG_CONV_SLOT_ABORT, F.AG_CONV_TRIG_DROP, F.ANG_CAPPOS_CAPPOS, F.ANG_EV_ANGLE, F.ANG_EV_FIRED, F.ANG_EV_LAST_FIRE, F.ANG_EV_LATE, F.ANG_EV_STATE, F.ANG_STATUS_BSHORT, F.ANG_STATUS_LATE_CNT, F.ANG_STATUS_REFUSED, F.DG_CHSTAT_BSHORT, F.DG_CHSTAT_CLAMP, F.DG_CHSTAT_LOCKED, F.DG_CHSTAT_PENDING, F.DG_COS_COS, F.DG_GSTAT_BC_V, F.DG_GSTAT_RATE, F.DG_GSTAT_WORD, F.IMG_STATUS_PHOLDS, F.IMG_STATUS_PINNED, F.IMG_STITCH_WC_UNCORR, F.MBX_QUEUES_CQ_FREE, F.MBX_QUEUES_CR_FREE, F.MBX_USE_HANDLES_USED, F.MBX_USE_SESSIONS_OPEN, F.PLT_COUNT_DIS_A, F.PLT_COUNT_DIS_B, F.PLT_COUNT_DIS_C, F.PLT_COUNT_RETIREMENTS, F.PLT_COUNT_UNRESOLVED, F.PLT_PSTATE_DRILL, F.PLT_PSTATE_LAST_SO, F.PLT_PSTATE_MIR_MISS, F.PLT_PSTATE_ROLE, F.PLT_PSTATE_SWITCHES, F.PPR_WINSTAT_EVENT, F.PRG_ACT_PENDING, F.SCN_TSTAT_LAST_RUN, F.SCN_TSTAT_MAX_RUN, F.SCN_TSTAT_RUNSKIP, F.SCN_TSTAT_SKIPS] a t) ∧
  (∀ (dt : Elapsed) (s : State) (wc late unc off : Nat) (x : Exec) (rest : List Exec), let a := advance dt s
    (a.scn.presented = x :: rest) →
    (a.mode = mRUN ∨ a.mode = mHOLD) →
    (unc = 0 ∧ ((List.range 3).filter fun k => a.votes k && !(wc.testBit k || late.testBit k || decide ((x.lanes.get k).run ≠ .ended))).length < 2 ∨ unc = 1 ∨ unc = 2) →
    Does (.plaitCommit dt wc late unc off) s fun t =>
      t.mode = mFAULT ∧
      t.rd F.SCN_MODE_CAUSE = 4 ∧
      t.img.q = a.img.q ∧
      (Logged Ev.UNRESOLVED ([a.rd F.PLT_LANE_VOTING, if unc = 0 then 9 else 9 + unc, 0, 0] ++ leBytes 4 (if unc = 0 then 0 else off)) a t) ∧
      (t.scn.running = none ∧ t.scn.presented = [] ∧ t.scn.waiting = []) ∧
      Moves (traceParts ++ [.time, .mbx, .img, .scn, .prg, .fld, .ana, .ang, .plt, .pair]) (traceObjs ++ [F.objAG_GSTAT, F.objIMG_PINS, F.objPLT_LANE, F.objSCN_MODE]) [F.AG_CONV_SLOT_ABORT, F.AG_CONV_TRIG_DROP, F.ANG_CAPPOS_CAPPOS, F.ANG_EV_ANGLE, F.ANG_EV_FIRED, F.ANG_EV_LAST_FIRE, F.ANG_EV_LATE, F.ANG_EV_STATE, F.ANG_STATUS_BSHORT, F.ANG_STATUS_LATE_CNT, F.ANG_STATUS_REFUSED, F.DG_CHSTAT_BSHORT, F.DG_CHSTAT_CLAMP, F.DG_CHSTAT_LOCKED, F.DG_CHSTAT_PENDING, F.DG_COS_COS, F.DG_GSTAT_BC_V, F.DG_GSTAT_RATE, F.DG_GSTAT_WORD, F.IMG_STATUS_PHOLDS, F.IMG_STATUS_PINNED, F.IMG_STITCH_WC_UNCORR, F.MBX_QUEUES_CQ_FREE, F.MBX_QUEUES_CR_FREE, F.MBX_USE_HANDLES_USED, F.MBX_USE_SESSIONS_OPEN, F.PLT_COUNT_DIS_A, F.PLT_COUNT_DIS_B, F.PLT_COUNT_DIS_C, F.PLT_COUNT_RETIREMENTS, F.PLT_COUNT_UNRESOLVED, F.PLT_PSTATE_DRILL, F.PLT_PSTATE_LAST_SO, F.PLT_PSTATE_MIR_MISS, F.PLT_PSTATE_ROLE, F.PLT_PSTATE_SWITCHES, F.PPR_WINSTAT_EVENT, F.PRG_ACT_PENDING, F.SCN_TSTAT_LAST_RUN, F.SCN_TSTAT_MAX_RUN, F.SCN_TSTAT_RUNSKIP, F.SCN_TSTAT_SKIPS] a t)

/-- RETIRE takes every voting lane it names out of the vote, TESTING at once with AUTO_ADMIT, unless fewer than two would
remain in RUN or HOLD, when nothing changes. READMIT and the retry of AUTO_ADMIT take lanes into TESTING. A failed LANE_TEST
makes the lane FAILED with cause 7 and records ADMIT_FAIL; a passed one makes it COPYING in RUN, HOLD and STOP, and in FAULT
VOTING with a cleared memory. A copy pass in idle time gives the lane the memory and output shadow of the source. A join
between the cinch latch and its release makes the lane VOTING with the source's memory, counts it and records ADMIT_DONE. No
other lane changes its state; nothing outside the frames changes. -/
def Obligations.LanesReturn : Prop :=
  (∀ (dt : Elapsed) (s : State) (mask : Nat), let a := advance dt s
    (¬((a.mode = mRUN ∨ a.mode = mHOLD) ∧ leftVoting a mask < 2)) →
    Does (.retire dt mask) s fun t =>
      (∀ k, k < 3 → mask.testBit k = true → t.votes k = false) ∧
      (∀ k, k < 3 → mask.testBit k = false → t.votes k = a.votes k ∧ t.laneSt k = a.laneSt k) ∧
      (∀ k, k < 3 → mask.testBit k = true → a.votes k = true → a.rd F.PLT_CFG_RETIRE_MAX > 3 + (a.plt.retired.get k).length → a.rd F.PLT_CFG_AUTO_ADMIT = 1 → t.laneSt k = lTESTING ∧ t.rd (laneCauseFld k) = 5) ∧
      Moves (traceParts ++ [.time, .mbx, .img, .scn, .prg, .fld, .plt, .pair]) (traceObjs ++ [F.objPLT_LANE]) [F.ANG_EV_STATE, F.MBX_QUEUES_CQ_FREE, F.MBX_QUEUES_CR_FREE, F.MBX_USE_HANDLES_USED, F.MBX_USE_SESSIONS_OPEN, F.PLT_COUNT_RETIREMENTS, F.PLT_PSTATE_ROLE, F.PRG_ACT_PENDING, F.SCN_MODE_CAUSE, F.SCN_MODE_CAUSE_PERSISTS, F.SCN_MODE_MODE, F.SCN_MODE_PENDING] a t) ∧
  (∀ (dt : Elapsed) (s : State) (mask : Nat), let a := advance dt s
    (a.mode = mRUN ∨ a.mode = mHOLD) →
    (leftVoting a mask < 2) →
    Does (.retire dt mask) s fun t =>
      t = a) ∧
  (∀ (dt : Elapsed) (s : State) (mask : Nat), let a := advance dt s
    (∀ k, k < 3 → mask.testBit k = true → a.laneSt k = lRETIRED ∨ a.laneSt k = lFAILED) →
    Does (.readmit dt mask) s fun t =>
      (∀ k, k < 3 → t.laneSt k = if mask.testBit k = true then lTESTING else a.laneSt k) ∧
      (∀ k, k < 3 → t.votes k = if mask.testBit k = true then false else a.votes k) ∧
      (∀ k, k < 3 → mask.testBit k = true → t.plt.fails.get k = 0) ∧
      Moves [.plt] [] [F.PLT_LANE_STATE_A, F.PLT_LANE_STATE_B, F.PLT_LANE_STATE_C, F.PLT_LANE_VOTING, F.SCN_MODE_CAUSE_PERSISTS] a t) ∧
  (∀ (dt : Elapsed) (s : State) (k n : Nat), let a := advance dt s
    (k < 3) →
    (a.plt.retry.get k = some n) →
    (1000 ≤ n) →
    (a.laneSt k = lRETIRED) →
    (a.rd F.PLT_CFG_AUTO_ADMIT = 1) →
    Does (.admitRetry dt k) s fun t =>
      (t.laneSt k = lTESTING ∧ t.plt.retry.get k = none) ∧
      (∀ j, j < 3 → j ≠ k → t.laneSt j = a.laneSt j) ∧
      Moves [.plt] [] [F.PLT_LANE_STATE_A, F.PLT_LANE_STATE_B, F.PLT_LANE_STATE_C, F.PLT_LANE_VOTING, F.SCN_MODE_CAUSE_PERSISTS] a t) ∧
  (∀ (dt : Elapsed) (s : State) (k : Nat), let a := advance dt s
    (k < 3) →
    (a.laneSt k = lTESTING) →
    (a.clk.lane = true) →
    (a.ucodeLoading k = false) →
    (a.ucodeRetests k = false) →
    Does (.laneTest dt k false) s fun t =>
      (t.laneSt k = lFAILED ∧ t.rd (laneCauseFld k) = 7 ∧ t.votes k = false) ∧
      (∀ j, j < 3 → j ≠ k → t.laneSt j = a.laneSt j) ∧
      Logged Ev.ADMIT_FAIL ([2 ^ k, 7, 0, 0] ++ leBytes 4 0) a t ∧
      Moves (traceParts ++ [.mbx, .scn, .plt, .sec]) (traceObjs ++ [F.objPLT_LANE, F.objSEC_FW]) [F.MBX_QUEUES_CQ_FREE, F.MBX_QUEUES_CR_FREE, F.MBX_USE_HANDLES_USED, F.MBX_USE_SESSIONS_OPEN, F.SCN_MODE_CAUSE_PERSISTS] a t) ∧
  (∀ (dt : Elapsed) (s : State) (k : Nat), let a := advance dt s
    (k < 3) →
    (a.laneSt k = lTESTING) →
    (a.clk.lane = true) →
    (a.ucodeLoading k = false) →
    (a.mode = mRUN ∨ a.mode = mHOLD ∨ a.mode = mSTOP ∧ a.plt.suspect.testBit k = false) →
    Does (.laneTest dt k true) s fun t =>
      (t.laneSt k = lCOPYING ∧ t.votes k = false) ∧
      (t.plt.passes.get k = 0 ∧ t.plt.latches.get k = 0) ∧
      (∀ j, j < 3 → j ≠ k → t.laneSt j = a.laneSt j) ∧
      Moves (traceParts ++ [.mbx, .scn, .plt, .sec]) (traceObjs ++ [F.objPLT_LANE, F.objSEC_FW]) [F.MBX_QUEUES_CQ_FREE, F.MBX_QUEUES_CR_FREE, F.MBX_USE_HANDLES_USED, F.MBX_USE_SESSIONS_OPEN, F.SCN_MODE_CAUSE_PERSISTS] a t) ∧
  (∀ (dt : Elapsed) (s : State) (k : Nat), let a := advance dt s
    (k < 3) →
    (a.laneSt k = lTESTING) →
    (a.clk.lane = true) →
    (a.ucodeLoading k = false) →
    (a.mode = mFAULT ∨ a.mode = mSTOP ∧ a.plt.suspect.testBit k = true) →
    Does (.laneTest dt k true) s fun t =>
      (t.laneSt k = lVOTING ∧ t.votes k = true) ∧
      t.scn.lanes.get k = ⟨[], [], [], []⟩ ∧
      t.plt.shadow.get k = memPart a.img.q 0 0x210 ∧
      (∀ j, j < 3 → j ≠ k → t.laneSt j = a.laneSt j ∧ t.scn.lanes.get j = a.scn.lanes.get j) ∧
      Moves (traceParts ++ [.mbx, .scn, .plt, .sec]) (traceObjs ++ [F.objPLT_LANE, F.objSEC_FW]) [F.MBX_QUEUES_CQ_FREE, F.MBX_QUEUES_CR_FREE, F.MBX_USE_HANDLES_USED, F.MBX_USE_SESSIONS_OPEN, F.SCN_MODE_CAUSE_PERSISTS] a t) ∧
  (∀ (dt : Elapsed) (s : State) (k j : Nat), let a := advance dt s
    (k < 3) →
    (a.copySource = some j) →
    (j ≠ k) →
    (a.laneSt k = lCOPYING) →
    (a.lanesIdle = true) →
    (a.clk.lane = true) →
    Does (.laneCopyPass dt k) s fun t =>
      t.scn.lanes.get k = { a.scn.lanes.get j with dirty := [] } ∧
      t.scn.lanes.get j = { a.scn.lanes.get j with dirty := [] } ∧
      t.plt.shadow.get k = a.plt.shadow.get j ∧
      t.plt.passes.get k = a.plt.passes.get k + 1 ∧
      (∀ i, i < 3 → i ≠ j → i ≠ k → t.scn.lanes.get i = a.scn.lanes.get i) ∧
      Moves [.scn, .plt] [] [] a t) ∧
  (∀ (dt : Elapsed) (s : State) (k j : Nat), let a := advance dt s
    (k < 3) →
    (a.copySource = some j) →
    (j ≠ k) →
    (a.joinOk k = true) →
    (a.img.latchKind ≠ 2) →
    (a.ring.lastLocal = a.ring.lastLatch) →
    (a.time.now ≤ a.ring.lastLatch + 4000) →
    (a.clk.lane = true) →
    Does (.laneJoin dt k) s fun t =>
      (t.laneSt k = lVOTING ∧ t.votes k = true) ∧
      t.scn.lanes.get k = { a.scn.lanes.get j with dirty := [] } ∧
      (∀ i, i < 3 → i ≠ k → t.laneSt i = a.laneSt i) ∧
      Logged Ev.ADMIT_DONE ([2 ^ k, 0, 0, 0] ++ leBytes 4 (a.plt.passes.get k)) a t ∧
      t.rd F.PLT_COUNT_ADMITS = min (2 ^ F.PLT_COUNT_ADMITS.width - 1) (a.rd F.PLT_COUNT_ADMITS + 1) ∧
      Moves (traceParts ++ [.mbx, .scn, .plt, .sec]) (traceObjs ++ [F.objSEC_FW]) [F.MBX_QUEUES_CQ_FREE, F.MBX_QUEUES_CR_FREE, F.MBX_USE_HANDLES_USED, F.MBX_USE_SESSIONS_OPEN, F.PLT_COUNT_ADMITS, F.PLT_LANE_STATE_A, F.PLT_LANE_STATE_B, F.PLT_LANE_STATE_C, F.PLT_LANE_VOTING, F.SCN_MODE_CAUSE_PERSISTS] a t)

/-- A loaded digital group that receives three good copies takes for each channel the majority of the three output bits, and
for channels whose stored object is good the median of the three duties; a loaded analogue group takes the median of the
three setpoints. The copies of the group leave the link and the group's safe state ends. The next command of a group, a
safe-value command of STOP or FAULT, is taken: the group is in that safe state and, its heartbeat not having stopped, every
digital output whose safe value is OFF is off. A hold command keeps the outputs: no channel changes. Nothing outside the
frames changes. -/
def Obligations.FieldCommands : Prop :=
  (∀ (dt : Elapsed) (s : State) (g bad : Nat) (x : CopySet), let a := advance dt s
    (g < 8) →
    (a.fld.copies.find? (fun p => decide (p.1 = g)) = some (g, x)) →
    (goodCopies x bad = [0, 1, 2]) →
    (a.dgLoaded g = true) →
    Does (.fieldVote dt g bad) s fun t =>
      (t.fld.copies = a.fld.copies.filter fun p => decide (p.1 ≠ g)) ∧
      (∀ k, k < 16 → (t.dch (16 * g + k)).bit = (memBit (x.q.get 0) (16 * g + k) && memBit (x.q.get 1) (16 * g + k) || memBit (x.q.get 0) (16 * g + k) && memBit (x.q.get 2) (16 * g + k) || memBit (x.q.get 1) (16 * g + k) && memBit (x.q.get 2) (16 * g + k))) ∧
      (∀ k, k < 16 → a.inconsistent F.objDG_CH (16 * g + k) = false → ((t.dch (16 * g + k)).duty : Int) = median3 (memGet (x.q.get 0) (0x110 + 2 * (16 * g + k)) 2) (memGet (x.q.get 1) (0x110 + 2 * (16 * g + k)) 2) (memGet (x.q.get 2) (0x110 + 2 * (16 * g + k)) 2)) ∧
      ((t.dgg g).safe = 0 ∧ (t.dgg g).voted = true) ∧
      Moves (traceParts ++ [.fld, .ana]) (traceObjs ++ [F.objAG_GSTAT]) [F.DG_CHSTAT_BSHORT, F.DG_CHSTAT_CLAMP, F.DG_CHSTAT_LOCKED, F.DG_CHSTAT_PENDING, F.DG_CNT_CNT, F.DG_GSTAT_BC_V, F.DG_GSTAT_RATE, F.DG_GSTAT_WORD] a t) ∧
  (∀ (dt : Elapsed) (s : State) (g bad : Nat) (x : CopySet), let a := advance dt s
    (8 ≤ g) →
    (a.fld.copies.find? (fun p => decide (p.1 = g)) = some (g, x)) →
    (goodCopies x bad = [0, 1, 2]) →
    (a.agLoaded (g - 8) = true) →
    Does (.fieldVote dt g bad) s fun t =>
      (t.fld.copies = a.fld.copies.filter fun p => decide (p.1 ≠ g)) ∧
      (∀ k, k < 16 → (t.ach (16 * (g - 8) + k)).sp = median3 (sgn 32 (memGet (x.q.get 0) (0x10 + 4 * (16 * (g - 8) + k)) 4)) (sgn 32 (memGet (x.q.get 1) (0x10 + 4 * (16 * (g - 8) + k)) 4)) (sgn 32 (memGet (x.q.get 2) (0x10 + 4 * (16 * (g - 8) + k)) 4))) ∧
      ((t.agg (g - 8)).safe = 0 ∧ (t.agg (g - 8)).voted = true) ∧
      Moves (traceParts ++ [.fld, .ana]) (traceObjs ++ [F.objAG_GSTAT]) [F.DG_CHSTAT_BSHORT, F.DG_CHSTAT_CLAMP, F.DG_CHSTAT_LOCKED, F.DG_CHSTAT_PENDING, F.DG_CNT_CNT, F.DG_GSTAT_BC_V, F.DG_GSTAT_RATE, F.DG_GSTAT_WORD] a t) ∧
  (∀ (dt : Elapsed) (s : State) (g k : Nat), let a := advance dt s
    (g < 8) →
    (a.nextCmd g = some k) →
    (k = 1 ∨ k = 2) →
    (a.dgLoaded g = true) →
    ((a.dgg g).rein ≠ 1) →
    Does (.safeValueCommand dt g) s fun t =>
      t.fld.cmds = dropCmd g a.fld.cmds ∧
      (t.dgg g).safe = k ∧
      (∀ i, i < 16 → a.dmode (16 * g + i) = 3 → (if k = 2 then a.rd F.DG_CH_FAULT_SAFE (16 * g + i) else a.rd F.DG_CH_STOP_SAFE (16 * g + i)) = 0 → (t.dch (16 * g + i)).drv = false) ∧
      Moves (traceParts ++ [.fld, .ana]) (traceObjs ++ [F.objAG_GSTAT]) [F.DG_CHSTAT_BSHORT, F.DG_CHSTAT_CLAMP, F.DG_CHSTAT_LOCKED, F.DG_CHSTAT_PENDING, F.DG_GSTAT_BC_V, F.DG_GSTAT_RATE, F.DG_GSTAT_WORD] a t) ∧
  (∀ (dt : Elapsed) (s : State) (g k : Nat), let a := advance dt s
    (8 ≤ g) →
    (a.nextCmd g = some k) →
    (k = 1 ∨ k = 2) →
    (a.agLoaded (g - 8) = true) →
    Does (.safeValueCommand dt g) s fun t =>
      t.fld.cmds = dropCmd g a.fld.cmds ∧
      (t.agg (g - 8)).safe = k ∧
      Moves (traceParts ++ [.fld, .ana]) (traceObjs ++ [F.objAG_GSTAT]) [F.DG_CHSTAT_BSHORT, F.DG_CHSTAT_CLAMP, F.DG_CHSTAT_LOCKED, F.DG_CHSTAT_PENDING, F.DG_GSTAT_BC_V, F.DG_GSTAT_RATE, F.DG_GSTAT_WORD] a t) ∧
  (∀ (dt : Elapsed) (s : State) (g : Nat), let a := advance dt s
    (a.nextCmd g = some 3) →
    Does (.pairHoldCommand dt g) s fun t =>
      t.fld.cmds = dropCmd g a.fld.cmds ∧
      (t.fld.dg = a.fld.dg ∧ t.ana.ch = a.ana.ch) ∧
      (if g < 8 then (t.dgg g).safe = 3 else (t.agg (g - 8)).safe = 3) ∧
      Moves (traceParts ++ [.fld, .ana]) (traceObjs ++ [F.objAG_GSTAT]) [F.DG_GSTAT_BC_V, F.DG_GSTAT_RATE, F.DG_GSTAT_WORD] a t)

/-- A filtered edge sets its signal's level, and a domain that does not use the input keeps its state. An edge of a SYNCED
PULSE domain that meets no cause of ANG-7 is a reference edge: the domain stays SYNCED, its revolution counts on, and PERIOD
is the time since the edge before; with a cause the domain goes LOST with it (the lowest code of several, the model's
choice), and its entries are IDLE or, cyclic, SUSPENDED. The low-speed limit without an edge gives cause 3, an RS422 input's
fault cause 6 in the domains that use it. INPUT_FAULT_CLEAR ends the fault. RESYNC takes a LOST domain into SEEKING. SYNSPD
is stored; in a SYNTH domain the angle of the instant of the write stands. Every entry into LOST is recorded with domain,
state and cause. Nothing outside the frames changes. -/
def Obligations.AngleDomains : Prop :=
  (∀ (dt : Elapsed) (s : State) (sig : Nat) (level : Bool), let a := advance dt s
    (sig < 16) →
    (a.time.link = true) →
    (a.sigOn sig = true) →
    (a.sigLevel sig ≠ level) →
    Does (.angleEdge dt sig level) s fun t =>
      t.sigLevel sig = level ∧
      (∀ j, j < 16 → j ≠ sig → t.sigLevel j = a.sigLevel j) ∧
      (∀ d, d < 4 → usesInput a d (sig / 2) = false → t.dst d = a.dst d) ∧
      Moves (traceParts ++ [.time, .mbx, .img, .scn, .prg, .fld, .ana, .ang, .pair, .free]) (traceObjs ++ [F.objANG_STATUS]) [F.AG_CHSTAT_LATCH, F.AG_CHSTAT_PRESENT, F.AG_CONV_SLOT_ABORT, F.AG_CONV_TRIG_DROP, F.ANG_AI_LEVEL_N, F.ANG_AI_LEVEL_P, F.ANG_CAPPOS_CAPPOS, F.ANG_EV_FIRED, F.ANG_EV_LAST_FIRE, F.ANG_EV_LATE, F.ANG_EV_STATE, F.ANG_PERIOD_PERIOD, F.DG_CHSTAT_BSHORT, F.DG_CHSTAT_CLAMP, F.DG_CHSTAT_LOCKED, F.DG_CHSTAT_PENDING, F.DG_COS_COS, F.DG_GSTAT_BC_V, F.DG_GSTAT_RATE, F.DG_GSTAT_WORD, F.MBX_QUEUES_CQ_FREE, F.MBX_QUEUES_CR_FREE, F.MBX_USE_HANDLES_USED, F.MBX_USE_SESSIONS_OPEN, F.PLT_PSTATE_MIR_MISS, F.PLT_PSTATE_ROLE, F.PPR_STAT_MAINS_FREE, F.PPR_WINSTAT_EVENT, F.PPR_WINSTAT_EVINIT, F.PPR_WINSTAT_INIT, F.PPR_WINSTAT_STATE, F.PRG_ACT_PENDING, F.SCN_MODE_CAUSE, F.SCN_MODE_MODE, F.SCN_MODE_PENDING, F.SCN_MODE_RETAIN_STALE, F.SCN_MODE_RET_MISS, F.SCN_TSTAT_RUNSKIP, F.SCN_TSTAT_SKIPS] a t) ∧
  (∀ (dt : Elapsed) (s : State) (sig : Nat) (level : Bool) (d T l : Nat), let a := advance dt s
    (sig < 16) →
    (d < 4) →
    (a.time.link = true) →
    (a.sigOn sig = true) →
    (a.sigLevel sig ≠ level) →
    (a.dsrc d = 4 ∧ a.rd F.ANG_AD_SIG_A d = sig ∧ level = !a.is F.ANG_AD_EDGE d ∧ a.dst d = dSYNCED) →
    (T = a.time.now - glitchNs (a.rd F.ANG_AI_FILT (sig / 2))) →
    ((a.adom d).last = some l) →
    ((a.adom d).refAt = some l) →
    ((a.adom d).pos = 0) →
    (T - l < 2 ^ 32) →
    (∀ dev, edgeCause a d (T - l) true false dev = none) →
    Does (.angleEdge dt sig level) s fun t =>
      t.dst d = dSYNCED ∧
      ((t.adom d).last = some T ∧ (t.adom d).rev = ((a.adom d).rev + 1) % 65536 ∧ (t.adom d).pos = 0) ∧
      t.rd F.ANG_PERIOD_PERIOD d = T - l ∧
      Moves (traceParts ++ [.time, .mbx, .img, .scn, .prg, .fld, .ana, .ang, .pair, .free]) (traceObjs ++ [F.objANG_STATUS]) [F.AG_CHSTAT_LATCH, F.AG_CHSTAT_PRESENT, F.AG_CONV_SLOT_ABORT, F.AG_CONV_TRIG_DROP, F.ANG_AI_LEVEL_N, F.ANG_AI_LEVEL_P, F.ANG_CAPPOS_CAPPOS, F.ANG_EV_FIRED, F.ANG_EV_LAST_FIRE, F.ANG_EV_LATE, F.ANG_EV_STATE, F.ANG_PERIOD_PERIOD, F.DG_CHSTAT_BSHORT, F.DG_CHSTAT_CLAMP, F.DG_CHSTAT_LOCKED, F.DG_CHSTAT_PENDING, F.DG_COS_COS, F.DG_GSTAT_BC_V, F.DG_GSTAT_RATE, F.DG_GSTAT_WORD, F.MBX_QUEUES_CQ_FREE, F.MBX_QUEUES_CR_FREE, F.MBX_USE_HANDLES_USED, F.MBX_USE_SESSIONS_OPEN, F.PLT_PSTATE_MIR_MISS, F.PLT_PSTATE_ROLE, F.PPR_STAT_MAINS_FREE, F.PPR_WINSTAT_EVENT, F.PPR_WINSTAT_EVINIT, F.PPR_WINSTAT_INIT, F.PPR_WINSTAT_STATE, F.PRG_ACT_PENDING, F.SCN_MODE_CAUSE, F.SCN_MODE_MODE, F.SCN_MODE_PENDING, F.SCN_MODE_RETAIN_STALE, F.SCN_MODE_RET_MISS, F.SCN_TSTAT_RUNSKIP, F.SCN_TSTAT_SKIPS] a t) ∧
  (∀ (dt : Elapsed) (s : State) (sig : Nat) (level : Bool) (d T l c : Nat), let a := advance dt s
    (sig < 16) →
    (d < 4) →
    (a.time.link = true) →
    (a.sigOn sig = true) →
    (a.sigLevel sig ≠ level) →
    (a.dsrc d = 4 ∧ a.rd F.ANG_AD_SIG_A d = sig ∧ level = !a.is F.ANG_AD_EDGE d ∧ a.dst d = dSYNCED) →
    (T = a.time.now - glitchNs (a.rd F.ANG_AI_FILT (sig / 2))) →
    ((a.adom d).last = some l) →
    (∀ dev, edgeCause a d (T - l) true false dev = some c) →
    Does (.angleEdge dt sig level) s fun t =>
      (t.dst d = dLOST ∧ t.rd F.ANG_STATUS_CAUSE d = c % 2 ^ F.ANG_STATUS_CAUSE.width) ∧
      (∀ e, e < 1024 → a.rd F.ANG_EV_STATE e ≠ 0 → a.rd F.ANG_EV_DOMAIN e = d → t.rd F.ANG_EV_STATE e = if a.is F.ANG_EV_MODE e = true then 2 else 0) ∧
      Moves (traceParts ++ [.time, .mbx, .img, .scn, .prg, .fld, .ana, .ang, .pair, .free]) (traceObjs ++ [F.objANG_STATUS]) [F.AG_CHSTAT_LATCH, F.AG_CHSTAT_PRESENT, F.AG_CONV_SLOT_ABORT, F.AG_CONV_TRIG_DROP, F.ANG_AI_LEVEL_N, F.ANG_AI_LEVEL_P, F.ANG_CAPPOS_CAPPOS, F.ANG_EV_FIRED, F.ANG_EV_LAST_FIRE, F.ANG_EV_LATE, F.ANG_EV_STATE, F.ANG_PERIOD_PERIOD, F.DG_CHSTAT_BSHORT, F.DG_CHSTAT_CLAMP, F.DG_CHSTAT_LOCKED, F.DG_CHSTAT_PENDING, F.DG_COS_COS, F.DG_GSTAT_BC_V, F.DG_GSTAT_RATE, F.DG_GSTAT_WORD, F.MBX_QUEUES_CQ_FREE, F.MBX_QUEUES_CR_FREE, F.MBX_USE_HANDLES_USED, F.MBX_USE_SESSIONS_OPEN, F.PLT_PSTATE_MIR_MISS, F.PLT_PSTATE_ROLE, F.PPR_STAT_MAINS_FREE, F.PPR_WINSTAT_EVENT, F.PPR_WINSTAT_EVINIT, F.PPR_WINSTAT_INIT, F.PPR_WINSTAT_STATE, F.PRG_ACT_PENDING, F.SCN_MODE_CAUSE, F.SCN_MODE_MODE, F.SCN_MODE_PENDING, F.SCN_MODE_RETAIN_STALE, F.SCN_MODE_RET_MISS, F.SCN_TSTAT_RUNSKIP, F.SCN_TSTAT_SKIPS] a t) ∧
  (∀ (dt : Elapsed) (s : State) (d l : Nat), let a := advance dt s
    (d < 4) →
    ((a.adom d).last = some l) →
    (a.dsrc d ≠ 5) →
    (a.dst d = dSYNCING ∨ a.dst d = dSYNCED) →
    (l + a.arc d (a.adom d).pos (a.spanAt d (a.adom d).pos) * 1000000000 / (65536 * max 1 (a.rd F.ANG_AD_SPD_MIN d)) ≤ a.time.now) →
    Does (.speedTimeout dt d) s fun t =>
      (t.dst d = dLOST ∧ t.rd F.ANG_STATUS_CAUSE d = 3) ∧
      (t.angle d = a.angle d ∧ t.dspeed d = 0) ∧
      (∀ e, e < 1024 → a.rd F.ANG_EV_STATE e ≠ 0 → a.rd F.ANG_EV_DOMAIN e = d → t.rd F.ANG_EV_STATE e = if a.is F.ANG_EV_MODE e = true then 2 else 0) ∧
      (∀ j, j < 4 → j ≠ d → t.dst j = a.dst j ∧ t.adom j = a.adom j) ∧
      Logged Ev.SYNC ([d, dLOST, 3, 0] ++ leBytes 4 (a.angle d)) a t ∧
      Moves (traceParts ++ [.fld, .ang]) traceObjs [F.ANG_CAPPOS_CAPPOS, F.ANG_EV_STATE, F.ANG_STATUS_BSHORT, F.ANG_STATUS_CAUSE, F.ANG_STATUS_STATE, F.DG_CHSTAT_BSHORT, F.DG_CHSTAT_CLAMP, F.DG_CHSTAT_LOCKED, F.DG_CHSTAT_PENDING, F.DG_GSTAT_BC_V, F.DG_GSTAT_RATE, F.DG_GSTAT_WORD] a t) ∧
  (∀ (dt : Elapsed) (s : State) (n : Nat), let a := advance dt s
    (n < 8) →
    (a.rd F.ANG_AI_MODE n = 1) →
    (a.rd F.ANG_AI_FAULT n = 0) →
    Does (.inputFault dt n) s fun t =>
      t.rd F.ANG_AI_FAULT n = 1 ∧
      (∀ d, d < 4 → usesInput a d n = true → a.dst d = dSYNCING ∨ a.dst d = dSYNCED → t.dst d = dLOST ∧ t.rd F.ANG_STATUS_CAUSE d = 6) ∧
      (∀ d, d < 4 → usesInput a d n = false → t.dst d = a.dst d ∧ t.rd F.ANG_STATUS_CAUSE d = a.rd F.ANG_STATUS_CAUSE d) ∧
      Moves (traceParts ++ [.fld, .ang]) traceObjs [F.ANG_AI_FAULT, F.ANG_CAPPOS_CAPPOS, F.ANG_EV_STATE, F.ANG_STATUS_BSHORT, F.ANG_STATUS_CAUSE, F.ANG_STATUS_STATE, F.DG_CHSTAT_BSHORT, F.DG_CHSTAT_CLAMP, F.DG_CHSTAT_LOCKED, F.DG_CHSTAT_PENDING, F.DG_GSTAT_BC_V, F.DG_GSTAT_RATE, F.DG_GSTAT_WORD] a t) ∧
  (∀ (dt : Elapsed) (s : State) (n : Nat), let a := advance dt s
    (n < 8) →
    Does (.inputFaultClear dt n) s fun t =>
      t.rd F.ANG_AI_FAULT n = 0 ∧
      OnlyAt [F.ANG_AI_FAULT] n a t ∧
      Moves [] [] [F.ANG_AI_FAULT] a t) ∧
  (∀ (dt : Elapsed) (s : State) (d : Nat), let a := advance dt s
    (d < 4) →
    (a.dst d = dLOST) →
    Does (.resync dt d) s fun t =>
      (t.dst d = dSEEKING ∧ t.rd F.ANG_STATUS_RELATIVE d = 0) ∧
      t.angle d = a.angle d ∧
      (∀ j, j < 4 → j ≠ d → t.dst j = a.dst j ∧ t.adom j = a.adom j) ∧
      Moves (traceParts ++ [.ang]) traceObjs [F.ANG_CAPPOS_CAPPOS, F.ANG_STATUS_CAUSE, F.ANG_STATUS_RELATIVE, F.ANG_STATUS_STATE] a t) ∧
  (∀ (dt : Elapsed) (s : State) (d n : Nat), let a := advance dt s
    (d < 4) →
    (n < 2 ^ F.ANG_AD_SYNSPD.width) →
    Does (.synspd dt d n) s fun t =>
      t.rd F.ANG_AD_SYNSPD d = n ∧
      (a.dsrc d = 5 → a.dst d = dSYNCED → t.angle d = a.angle d) ∧
      (a.dsrc d = 5 → n ≠ 0 → 65536 * 1000000000 / n < 2 ^ 32 → t.rd F.ANG_PERIOD_PERIOD d = 65536 * 1000000000 / n) ∧
      OnlyAt [F.ANG_AD_SYNSPD, F.ANG_PERIOD_PERIOD] d a t ∧
      Moves [.ang, .free] [] [F.ANG_AD_SYNSPD, F.ANG_PERIOD_PERIOD] a t)

/-- A host write of ARM arms a ONCE entry whose angle lies ahead in a SYNCED domain; a cyclic one waits for its next
occurrence, or SUSPENDED for SYNCED; an entry without action, with a domain OFF or a ONCE entry of a domain that is not
SYNCED is refused and counted; an entry of the program stands. ARM 0 makes the entry IDLE and cancels its command that is
not final. A write of ANGLE of an IDLE entry is stored. The command of an armed entry is sent within 250 µs of its instant.
A fire whose action acts sets FIRED and LAST_FIRE at its instant, makes a ONCE entry IDLE and drops its command; an output
goes off or is commanded on unless a later event overrules it, a capture enters its buffer; one whose outputs are released
sets no FIRED. A pulse end takes the output off. A lost frame stream during a bridge stops PWM outputs and sends bound
channels to their LOSS level OFF. Nothing outside the frames changes. -/
def Obligations.AngleEvents : Prop :=
  (∀ (dt : Elapsed) (s : State) (e : Nat) (v : Bool), let a := advance dt s
    (1024 ≤ e ∨ a.rd F.ANG_EV_OWNER e = 0) →
    Does (.arm dt e v) s fun t =>
      t = a) ∧
  (∀ (dt : Elapsed) (s : State) (e d : Nat), let a := advance dt s
    (e < 1024) →
    (a.rd F.ANG_EV_OWNER e = 1) →
    (a.rd F.ANG_EV_DOMAIN e = d) →
    (a.rd F.ANG_EV_ACTION e = 0 ∨ a.dst d = dOFF ∨ a.rd F.ANG_EV_MODE e = 0 ∧ a.dst d ≠ dSYNCED) →
    Does (.arm dt e true) s fun t =>
      t.rd F.ANG_STATUS_REFUSED d = min (2 ^ F.ANG_STATUS_REFUSED.width - 1) (a.rd F.ANG_STATUS_REFUSED d + 1) ∧
      Moves [] [] [F.ANG_STATUS_REFUSED] a t) ∧
  (∀ (dt : Elapsed) (s : State) (e d : Nat), let a := advance dt s
    (e < 1024) →
    (a.rd F.ANG_EV_OWNER e = 1) →
    (a.rd F.ANG_EV_DOMAIN e = d) →
    (a.rd F.ANG_EV_ACTION e ≠ 0) →
    (a.rd F.ANG_EV_ACTION e ≤ 3 → a.mode ≠ mSTOP ∧ a.mode ≠ mFAULT) →
    (a.dst d = dSYNCED) →
    (a.rd F.ANG_EV_MODE e = 0) →
    (0 < ahead (a.rd F.ANG_EV_ANGLE e) (a.angle d)) →
    Does (.arm dt e true) s fun t =>
      (t.rd F.ANG_EV_STATE e = 1 ∧ (t.aev e).next = a.rd F.ANG_EV_ANGLE e) ∧
      (∀ j, j < 1024 → j ≠ e → t.rd F.ANG_EV_STATE j = a.rd F.ANG_EV_STATE j ∧ t.aev j = a.aev j) ∧
      Moves [.ang] [] [F.ANG_EV_STATE] a t) ∧
  (∀ (dt : Elapsed) (s : State) (e d : Nat), let a := advance dt s
    (e < 1024) →
    (a.rd F.ANG_EV_OWNER e = 1) →
    (a.rd F.ANG_EV_DOMAIN e = d) →
    (a.rd F.ANG_EV_ACTION e ≠ 0) →
    (a.rd F.ANG_EV_ACTION e ≤ 3 → a.mode ≠ mSTOP ∧ a.mode ≠ mFAULT) →
    (a.dst d ≠ dSYNCED) →
    (a.dst d ≠ dOFF) →
    (a.rd F.ANG_EV_MODE e = 1) →
    Does (.arm dt e true) s fun t =>
      t.rd F.ANG_EV_STATE e = 2 ∧
      Moves [] [] [F.ANG_EV_STATE] a t) ∧
  (∀ (dt : Elapsed) (s : State) (e : Nat), let a := advance dt s
    (e < 1024) →
    (a.rd F.ANG_EV_OWNER e = 1) →
    Does (.arm dt e false) s fun t =>
      t.rd F.ANG_EV_STATE e = 0 ∧
      (t.ang.cmds = a.ang.cmds.filter fun c => decide (c.entry ≠ e) || a.final c) ∧
      OnlyAt [F.ANG_EV_STATE] e a t ∧
      Moves [.ang] [] [F.ANG_EV_STATE] a t) ∧
  (∀ (dt : Elapsed) (s : State) (e v : Nat), let a := advance dt s
    (e < 1024) →
    (a.rd F.ANG_EV_OWNER e = 1) →
    (a.rd F.ANG_EV_STATE e = 0) →
    (v < 2 ^ 32) →
    Does (.angle dt e v) s fun t =>
      t.rd F.ANG_EV_ANGLE e = v ∧
      OnlyAt [F.ANG_EV_ANGLE] e a t ∧
      Moves [] [] [F.ANG_EV_ANGLE] a t) ∧
  (∀ (dt : Elapsed) (s : State) (e i : Nat), let a := advance dt s
    (live a e = true) →
    (inUnit a e = false) →
    (a.instantOf (a.rd F.ANG_EV_DOMAIN e) (a.aev e).next = some i) →
    (a.time.now + 3000 ≤ i) →
    (i ≤ a.time.now + 250000) →
    (∀ c ∈ a.ang.cmds, c.entry ≠ e) →
    ((a.ang.cmds.filter fun c => decide (dieOf a c.entry = dieOf a e)).length < 32) →
    Does (.eventCommandSend dt e) s fun t =>
      t.ang.cmds = a.ang.cmds ++ [⟨e, (a.aev e).next, i⟩] ∧
      Moves [.ang] [] [] a t) ∧
  (∀ (dt : Elapsed) (s : State) (e i : Nat), let a := advance dt s
    (live a e = true) →
    (inUnit a e = false) →
    (a.instantOf (a.rd F.ANG_EV_DOMAIN e) (a.aev e).next = some i) →
    (a.time.now + 250000 < i) →
    Does (.eventCommandSend dt e) s fun t =>
      t = a) ∧
  (∀ (dt : Elapsed) (s : State) (e ch : Nat) (x : TimedCmd), let a := advance dt s
    (e < 1024) →
    (a.ang.cmds.find? (fun c => decide (c.entry = e)) = some x) →
    (x.at_ ≤ a.time.now) →
    (inUnit a e = false) →
    (a.rd F.ANG_EV_TARGET e % 16 / 2 * 16 + a.rd F.ANG_EV_TARGET e % 16 % 2 = ch) →
    ((act (dropCmds a e) e x.angle x.at_ false).2 = true) →
    Does (.eventFire dt e) s fun t =>
      (t.rd F.ANG_EV_FIRED e = 1 ∧ t.rd F.ANG_EV_LAST_FIRE e = a.stationAt x.at_ % 2 ^ F.ANG_EV_LAST_FIRE.width) ∧
      (t.rd F.ANG_EV_STATE e = if a.is F.ANG_EV_MODE e = true then a.rd F.ANG_EV_STATE e else 0) ∧
      ((t.aev e).fired = some x.angle ∧ ∀ c ∈ t.ang.cmds, c.entry ≠ e) ∧
      (a.rd F.ANG_EV_ACTION e = 1 → overruled (dropCmds a e) ch x.at_ e = false → (t.dch ch).cmd = true) ∧
      (a.rd F.ANG_EV_ACTION e = 2 → overruled (dropCmds a e) ch x.at_ e = false → (t.dch ch).cmd = false ∧ (t.dch ch).drv = false) ∧
      (a.rd F.ANG_EV_ACTION e = 3 → ⟨e, ch, x.at_ + 1000 * a.rd F.ANG_EV_WIDTH e⟩ ∈ t.ang.pulses) ∧
      (a.rd F.ANG_EV_ACTION e = 5 → t.rd F.ANG_CAPPOS_CAPPOS (a.rd F.ANG_EV_DOMAIN e) = (a.rd F.ANG_CAPPOS_CAPPOS (a.rd F.ANG_EV_DOMAIN e) + 16) % 2 ^ 32) ∧
      Moves (traceParts ++ [.time, .mbx, .img, .scn, .prg, .fld, .ana, .ang, .pair]) traceObjs [F.AG_CONV_SLOT_ABORT, F.AG_CONV_TRIG_DROP, F.ANG_CAPPOS_CAPPOS, F.ANG_EV_FIRED, F.ANG_EV_LAST_FIRE, F.ANG_EV_LATE, F.ANG_EV_STATE, F.ANG_STATUS_BSHORT, F.ANG_STATUS_LATE_CNT, F.DG_CHSTAT_BSHORT, F.DG_CHSTAT_CLAMP, F.DG_CHSTAT_LOCKED, F.DG_CHSTAT_PENDING, F.DG_COS_COS, F.DG_GSTAT_BC_V, F.DG_GSTAT_RATE, F.DG_GSTAT_WORD, F.MBX_QUEUES_CQ_FREE, F.MBX_QUEUES_CR_FREE, F.MBX_USE_HANDLES_USED, F.MBX_USE_SESSIONS_OPEN, F.PLT_PSTATE_MIR_MISS, F.PLT_PSTATE_ROLE, F.PPR_WINSTAT_EVENT, F.PRG_ACT_PENDING, F.SCN_MODE_CAUSE, F.SCN_MODE_MODE, F.SCN_MODE_PENDING, F.SCN_MODE_RETAIN_STALE, F.SCN_MODE_RET_MISS, F.SCN_TSTAT_RUNSKIP, F.SCN_TSTAT_SKIPS] a t) ∧
  (∀ (dt : Elapsed) (s : State) (e : Nat) (x : TimedCmd), let a := advance dt s
    (e < 1024) →
    (a.ang.cmds.find? (fun c => decide (c.entry = e)) = some x) →
    (x.at_ ≤ a.time.now) →
    (inUnit a e = false) →
    (1 ≤ a.rd F.ANG_EV_ACTION e ∧ a.rd F.ANG_EV_ACTION e ≤ 3) →
    ((a.dgg (a.rd F.ANG_EV_TARGET e % 16 / 2)).released = true) →
    Does (.eventFire dt e) s fun t =>
      (t.rd F.ANG_EV_FIRED e = a.rd F.ANG_EV_FIRED e ∧ t.rd F.ANG_EV_LAST_FIRE e = a.rd F.ANG_EV_LAST_FIRE e) ∧
      t.fld = a.fld ∧
      (a.rd F.ANG_EV_MODE e = 0 → t.rd F.ANG_EV_STATE e = 0) ∧
      Moves [.ang] [] [F.ANG_EV_STATE] a t) ∧
  (∀ (dt : Elapsed) (s : State) (e i : Nat), let a := advance dt s
    (live a e = true) →
    (inUnit a e = true) →
    (∀ c ∈ a.ang.cmds, c.entry ≠ e) →
    (a.instantOf (a.rd F.ANG_EV_DOMAIN e) (a.aev e).next = some i) →
    (i ≤ a.time.now) →
    Does (.angleAction dt e) s fun t =>
      (t.rd F.ANG_EV_FIRED e = 1 ∧ t.rd F.ANG_EV_LAST_FIRE e = a.stationAt i % 2 ^ F.ANG_EV_LAST_FIRE.width) ∧
      (t.rd F.ANG_EV_STATE e = if a.is F.ANG_EV_MODE e = true then 1 else 0) ∧
      (a.rd F.ANG_EV_ACTION e = 7 → a.rd F.ANG_EV_DOMAIN e < 4 → t.latch (a.rd F.ANG_EV_DOMAIN e) = true) ∧
      (a.rd F.ANG_EV_ACTION e = 5 → t.rd F.ANG_CAPPOS_CAPPOS (a.rd F.ANG_EV_DOMAIN e) = (a.rd F.ANG_CAPPOS_CAPPOS (a.rd F.ANG_EV_DOMAIN e) + 16) % 2 ^ 32) ∧
      Moves (traceParts ++ [.time, .mbx, .img, .scn, .prg, .fld, .ana, .ang, .pair]) traceObjs [F.AG_CONV_SLOT_ABORT, F.AG_CONV_TRIG_DROP, F.ANG_CAPPOS_CAPPOS, F.ANG_EV_FIRED, F.ANG_EV_LAST_FIRE, F.ANG_EV_LATE, F.ANG_EV_STATE, F.ANG_STATUS_BSHORT, F.ANG_STATUS_LATE_CNT, F.DG_CHSTAT_BSHORT, F.DG_CHSTAT_CLAMP, F.DG_CHSTAT_LOCKED, F.DG_CHSTAT_PENDING, F.DG_COS_COS, F.DG_GSTAT_BC_V, F.DG_GSTAT_RATE, F.DG_GSTAT_WORD, F.MBX_QUEUES_CQ_FREE, F.MBX_QUEUES_CR_FREE, F.MBX_USE_HANDLES_USED, F.MBX_USE_SESSIONS_OPEN, F.PLT_PSTATE_MIR_MISS, F.PLT_PSTATE_ROLE, F.PPR_WINSTAT_EVENT, F.PRG_ACT_PENDING, F.SCN_MODE_CAUSE, F.SCN_MODE_MODE, F.SCN_MODE_PENDING, F.SCN_MODE_RETAIN_STALE, F.SCN_MODE_RET_MISS, F.SCN_TSTAT_RUNSKIP, F.SCN_TSTAT_SKIPS] a t) ∧
  (∀ (dt : Elapsed) (s : State) (e : Nat) (x : PulseEnd), let a := advance dt s
    (a.ang.pulses.find? (fun p => decide (p.entry = e)) = some x) →
    (x.at_ ≤ a.time.now) →
    Does (.outPulseEnd dt e) s fun t =>
      (t.ang.pulses = a.ang.pulses.filter fun y => decide (y ≠ x)) ∧
      ((∀ y ∈ onChannel t x.chan, ¬(x.at_ < y.1 ∧ y.1 < x.at_ + 2000) ∧ ¬(y.1 = x.at_ ∧ e < y.2)) → (t.dch x.chan).drv = false ∧ (t.dch x.chan).cmd = false) ∧
      (∀ j, j ≠ x.chan → t.dch j = a.dch j) ∧
      Moves (traceParts ++ [.fld, .ang]) traceObjs [F.DG_CHSTAT_BSHORT, F.DG_CHSTAT_CLAMP, F.DG_CHSTAT_LOCKED, F.DG_CHSTAT_PENDING, F.DG_GSTAT_BC_V, F.DG_GSTAT_RATE, F.DG_GSTAT_WORD] a t) ∧
  (∀ (dt : Elapsed) (s : State) (g : Nat), let a := advance dt s
    (g < 8) →
    (a.time.link = false) →
    ((a.dgg g).stream = true) →
    ((a.dgg g).rein = 0) →
    (a.dieRuns g = true) →
    Does (.frameStreamLoss dt g) s fun t =>
      (t.dgg g).stream = false ∧
      (∀ k, k < 16 → a.dmode (16 * g + k) = 4 → (t.dch (16 * g + k)).drv = false ∧ (t.dch (16 * g + k)).cmd = false) ∧
      (∀ k, k < 2 → a.rdE F.ANG_FC_BOUND 0 (4 * (2 * g + k)) = 1 → a.rdE F.ANG_FC_LOSS_ON 0 (4 * (2 * g + k)) = 0 → (a.dgg g).safe = 0 → (t.dch (16 * g + k)).drv = false) ∧
      (∀ j, j / 16 ≠ g → t.dch j = a.dch j) ∧
      Moves (traceParts ++ [.fld]) traceObjs [F.DG_CHSTAT_BSHORT, F.DG_CHSTAT_CLAMP, F.DG_CHSTAT_LOCKED, F.DG_CHSTAT_PENDING, F.DG_GSTAT_BC_V, F.DG_GSTAT_RATE, F.DG_GSTAT_WORD] a t)
end

