-- ==== Sys2Proof/Laws/Crypto.lean ====
section
/-!
SUPPORT. The shape of what SHA-256 and HMAC answer: 32 values, each a byte.
-/

namespace Sys2Proof.Machine.Crypto

theorem round_length (v : List Nat) (kw : Nat × Nat) (h : v.length = 8) : (round v kw).length = 8 := by
  unfold round
  split
  · rfl
  · exact h

theorem rounds_length (l : List (Nat × Nat)) (v : List Nat) (h : v.length = 8) : (l.foldl round v).length = 8 := by
  induction l generalizing v with
  | nil => exact h
  | cons a l ih => exact ih _ (round_length v a h)

theorem block_length (h b : List Nat) (hh : h.length = 8) : (block h b).length = 8 := by
  unfold block
  rw [List.length_zipWith, rounds_length _ _ hh, hh]
  rfl

theorem blocks_length (k : Nat) (h m : List Nat) (hh : h.length = 8) : (blocks k h m).length = 8 := by
  induction k generalizing h m with
  | zero => exact hh
  | succ k ih => exact ih _ _ (block_length h _ hh)

theorem leBytes_length (n w : Nat) : (leBytes n w).length = n := by
  induction n generalizing w with
  | zero => rfl
  | succ n ih => rw [leBytes, List.length_cons, ih]

theorem leBytes_lt (n w b : Nat) (h : b ∈ leBytes n w) : b < 256 := by
  induction n generalizing w with
  | zero => simp [leBytes] at h
  | succ n ih =>
    rw [leBytes, List.mem_cons] at h
    rcases h with h | h
    · omega
    · exact ih _ h

/-- The big-endian bytes of words, one after the other. -/
theorem words_length (l : List Nat) : (l.foldr (fun w l => beBytes 4 w ++ l) []).length = 4 * l.length := by
  induction l with
  | nil => rfl
  | cons a l ih => rw [List.foldr_cons, List.length_append, ih, beBytes, List.length_reverse, leBytes_length, List.length_cons]; omega

theorem words_lt (l : List Nat) (b : Nat) (h : b ∈ l.foldr (fun w l => beBytes 4 w ++ l) []) : b < 256 := by
  induction l with
  | nil => simp at h
  | cons a l ih =>
    rw [List.foldr_cons, List.mem_append] at h
    rcases h with h | h
    · rw [beBytes, List.mem_reverse] at h
      exact leBytes_lt 4 a b h
    · exact ih h

theorem sha256_length (m : List Nat) : (sha256 m).length = 32 := by
  unfold sha256
  rw [words_length, blocks_length _ _ _ rfl]

theorem hmac_length (k m : List Nat) : (hmac k m).length = 32 := sha256_length _

theorem hmac_lt (k m : List Nat) (b : Nat) (h : b ∈ hmac k m) : b < 256 := words_lt _ _ h

end Sys2Proof.Machine.Crypto
end

