-- ==== Sys2Proof/Laws/State.lean ====
section
/-!
SUPPORT. The register file and the named updates of State: what a read gives after a write, and one lemma per field for
each update, so that no proof unfolds a record update.
-/

namespace Sys2Proof

/-! ### Tables -/

theorem Table.find_drop_same {α : Type} (d : α) (t : Table α) (k : Nat) : Table.find d (Table.drop t k) k = d := by
  induction t with
  | nil => rfl
  | cons p t ih => obtain ⟨a, v⟩ := p; by_cases h : a = k <;> simp [Table.drop, Table.find, h, ih]

theorem Table.find_drop_ne {α : Type} (d : α) (t : Table α) {j k : Nat} (h : j ≠ k) :
    Table.find d (Table.drop t k) j = Table.find d t j := by
  induction t with
  | nil => rfl
  | cons p t ih =>
    obtain ⟨a, v⟩ := p
    by_cases ha : a = k
    · subst ha; simp [Table.drop, Table.find, ih, Ne.symm h]
    · simp only [Table.drop, ha, if_false, Table.find, ih]

theorem Table.find_insert_drop {α : Type} (d : α) (t : Table α) (j k : Nat) (v : α) :
    Table.find d (Table.insert (Table.drop t k) k v) j = if j = k then v else Table.find d t j := by
  induction t with
  | nil =>
    simp only [Table.drop, Table.insert, Table.find]
    by_cases h : k = j
    · simp [h]
    · simp [h, Ne.symm h]
  | cons p t ih =>
    obtain ⟨a, w⟩ := p
    by_cases ha : a = k
    · subst ha
      by_cases hj : j = a
      · subst hj; simpa [Table.drop] using ih
      · simpa [Table.drop, Table.find, hj, Ne.symm hj] using ih
    · by_cases hk : k < a
      · simp only [Table.drop, ha, if_false, Table.insert, hk, if_true, Table.find]
        by_cases hj : j = k
        · subst hj; simp
        · simp [hj, Ne.symm hj, Table.find_drop_ne d t hj]
      · simp only [Table.drop, ha, if_false, Table.insert, hk, Table.find, ih]
        by_cases hja : a = j
        · subst hja; simp [ha]
        · simp [hja]

/-- A read after a write: the written value at its key, and every other key as before. -/
theorem Table.find_put {α : Type} [DecidableEq α] (d : α) (t : Table α) (j k : Nat) (v : α) :
    Table.find d (Table.put d t k v) j = if j = k then v else Table.find d t j := by
  unfold Table.put
  split
  · rename_i h; subst h
    by_cases hj : j = k
    · subst hj; simp [Table.find_drop_same]
    · simp [hj, Table.find_drop_ne _ t hj]
  · exact Table.find_insert_drop d t j k v

theorem Table.wfFrom_mono {α : Type} [DecidableEq α] (d : α) {a b : Nat} (h : a ≤ b) {t : Table α}
    (ht : Table.wfFrom d b t = true) : Table.wfFrom d a t = true := by
  cases t with
  | nil => rfl
  | cons p t =>
    simp only [Table.wfFrom, Bool.and_eq_true, decide_eq_true_eq] at ht ⊢
    exact ⟨⟨h.trans ht.1.1, ht.1.2⟩, ht.2⟩

theorem Table.wfFrom_drop {α : Type} [DecidableEq α] (d : α) (t : Table α) (k : Nat) :
    ∀ lo, Table.wfFrom d lo t = true → Table.wfFrom d lo (Table.drop t k) = true := by
  induction t with
  | nil => intro lo h; exact h
  | cons p t ih =>
    obtain ⟨a, v⟩ := p
    intro lo h
    simp only [Table.wfFrom, Bool.and_eq_true, decide_eq_true_eq] at h
    by_cases ha : a = k
    · simp only [Table.drop, ha, if_true]
      exact Table.wfFrom_mono d (by omega) (ih _ h.2)
    · simp [Table.drop, ha, Table.wfFrom, h.1, ih _ h.2]

theorem Table.wfFrom_insert {α : Type} [DecidableEq α] (d : α) (t : Table α) (k : Nat) (v : α) (hv : v ≠ d) :
    ∀ lo, lo ≤ k → Table.wfFrom d lo (Table.drop t k) = true → Table.wfFrom d lo (Table.insert (Table.drop t k) k v) = true := by
  induction t with
  | nil => intro lo h _; simp [Table.drop, Table.insert, Table.wfFrom, h, hv]
  | cons p t ih =>
    obtain ⟨a, w⟩ := p
    intro lo h hw
    by_cases ha : a = k
    · simp only [Table.drop, ha, if_true] at hw ⊢
      exact ih lo h hw
    · simp only [Table.drop, ha, if_false, Table.wfFrom, Bool.and_eq_true, decide_eq_true_eq] at hw ⊢
      by_cases hk : k < a
      · simp only [Table.insert, hk, if_true, Table.wfFrom, Bool.and_eq_true, decide_eq_true_eq]
        exact ⟨⟨h, hv⟩, ⟨by omega, hw.1.2⟩, hw.2⟩
      · simp only [Table.insert, hk, if_false, Table.wfFrom, Bool.and_eq_true, decide_eq_true_eq]
        exact ⟨hw.1, ih (a + 1) (by omega) hw.2⟩

/-- A write keeps the canonical form of a table. -/
theorem Table.wf_put {α : Type} [DecidableEq α] (d : α) (t : Table α) (k : Nat) (v : α) (h : Table.wf d t = true) :
    Table.wf d (Table.put d t k v) = true := by
  unfold Table.put Table.wf
  split
  · exact Table.wfFrom_drop d t k 0 h
  · rename_i hv
    exact Table.wfFrom_insert d t k v hv 0 (Nat.zero_le _) (Table.wfFrom_drop d t k 0 h)

/-- A byte written is read back, and every other byte is unchanged. -/
theorem Memory.read_write (m : Memory) (a b : Nat) (v : Byte) :
    Memory.read (Memory.write m b v) a = if a = b then v else Memory.read m a :=
  Table.find_put 0 m a b v

/-- Every write keeps a memory's canonical form. -/
theorem Memory.wf_write (m : Memory) (a : Nat) (v : Byte) (h : m.wf = true) : (m.write a v).wf = true :=
  Table.wf_put 0 m a v h

namespace Machine

/-! ### The register file -/

/-- Two fields of the register file are kept apart when their keys differ. -/
theorem State.rdE_wrE (s : State) (f g : Fld) (i j e d v : Nat) (hd : g.key j d = f.key i e → g.dflt = f.dflt) :
    (s.wrE f i e v).rdE g j d = if g.key j d = f.key i e then v % 2 ^ f.width else s.rdE g j d := by
  simp only [State.rdE, State.wrE]
  by_cases h : g.key j d = f.key i e
  · simp [h, hd h, Table.find_put]
  · simp only [h, if_false]
    have : ∀ x : Nat, Table.find x (Table.put f.dflt s.regs (f.key i e) (v % 2 ^ f.width)) (g.key j d) =
        Table.find x s.regs (g.key j d) := by
      intro x
      unfold Table.put
      split
      · exact Table.find_drop_ne x _ h
      · simpa [h] using Table.find_insert_drop x s.regs (g.key j d) (f.key i e) (v % 2 ^ f.width)
    exact this _

@[simp] theorem State.rdE_wrE_same (s : State) (f : Fld) (i e v : Nat) : (s.wrE f i e v).rdE f i e = v % 2 ^ f.width := by
  simp [State.rdE_wrE]

theorem State.rdE_wrE_ne (s : State) (f g : Fld) (i j e d v : Nat) (h : g.key j d ≠ f.key i e) :
    (s.wrE f i e v).rdE g j d = s.rdE g j d := by
  rw [State.rdE_wrE _ _ _ _ _ _ _ _ (fun h' => absurd h' h), if_neg h]

@[simp] theorem State.rd_wr_same (s : State) (f : Fld) (v i : Nat) : (s.wr f v i).rd f i = v % 2 ^ f.width :=
  State.rdE_wrE_same s f i 0 v

theorem State.rd_wr_ne (s : State) (f g : Fld) (v i j : Nat) (h : g.key j 0 ≠ f.key i 0) :
    (s.wr f v i).rd g j = s.rd g j := State.rdE_wrE_ne s f g i j 0 0 v h

/-- Fields of different objects have different keys. -/
theorem Fld.key_obj {f g : Fld} {i j e d : Nat} (h : g.obj ≠ f.obj) : g.key j d ≠ f.key i e := by
  simp only [Fld.key]; omega

/-- Fields at different bits of one object have different keys, whatever the index. -/
theorem Fld.key_lo {f g : Fld} {i j e d : Nat} (h : g.lo + d ≠ f.lo + e)
    (he : f.lo + e < 65536) (hd : g.lo + d < 65536) : g.key j d ≠ f.key i e := by
  simp only [Fld.key]; omega

/-! ### One lemma per field per update -/

@[simp] theorem State.wrE_time (s : State) (f : Fld) (i e v : Nat) : (s.wrE f i e v).time = s.time := rfl
@[simp] theorem State.wrE_ring (s : State) (f : Fld) (i e v : Nat) : (s.wrE f i e v).ring = s.ring := rfl
@[simp] theorem State.wrE_clk (s : State) (f : Fld) (i e v : Nat) : (s.wrE f i e v).clk = s.clk := rfl
@[simp] theorem State.wrE_sto (s : State) (f : Fld) (i e v : Nat) : (s.wrE f i e v).sto = s.sto := rfl
@[simp] theorem State.wrE_int (s : State) (f : Fld) (i e v : Nat) : (s.wrE f i e v).int = s.int := rfl
@[simp] theorem State.wrE_mbx (s : State) (f : Fld) (i e v : Nat) : (s.wrE f i e v).mbx = s.mbx := rfl
@[simp] theorem State.wrE_img (s : State) (f : Fld) (i e v : Nat) : (s.wrE f i e v).img = s.img := rfl
@[simp] theorem State.wrE_scn (s : State) (f : Fld) (i e v : Nat) : (s.wrE f i e v).scn = s.scn := rfl
@[simp] theorem State.wrE_prg (s : State) (f : Fld) (i e v : Nat) : (s.wrE f i e v).prg = s.prg := rfl
@[simp] theorem State.wrE_fld (s : State) (f : Fld) (i e v : Nat) : (s.wrE f i e v).fld = s.fld := rfl
@[simp] theorem State.wrE_ana (s : State) (f : Fld) (i e v : Nat) : (s.wrE f i e v).ana = s.ana := rfl
@[simp] theorem State.wrE_ang (s : State) (f : Fld) (i e v : Nat) : (s.wrE f i e v).ang = s.ang := rfl
@[simp] theorem State.wrE_plt (s : State) (f : Fld) (i e v : Nat) : (s.wrE f i e v).plt = s.plt := rfl
@[simp] theorem State.wrE_pair (s : State) (f : Fld) (i e v : Nat) : (s.wrE f i e v).pair = s.pair := rfl
@[simp] theorem State.wrE_rtc (s : State) (f : Fld) (i e v : Nat) : (s.wrE f i e v).rtc = s.rtc := rfl
@[simp] theorem State.wrE_pwr (s : State) (f : Fld) (i e v : Nat) : (s.wrE f i e v).pwr = s.pwr := rfl
@[simp] theorem State.wrE_sec (s : State) (f : Fld) (i e v : Nat) : (s.wrE f i e v).sec = s.sec := rfl
@[simp] theorem State.wrE_free (s : State) (f : Fld) (i e v : Nat) : (s.wrE f i e v).free = s.free := rfl
@[simp] theorem State.wrE_pending (s : State) (f : Fld) (i e v : Nat) : (s.wrE f i e v).pending = s.pending := rfl

@[simp] theorem State.wr_time (s : State) (f : Fld) (v i : Nat) : (s.wr f v i).time = s.time := rfl
@[simp] theorem State.wr_ring (s : State) (f : Fld) (v i : Nat) : (s.wr f v i).ring = s.ring := rfl
@[simp] theorem State.wr_clk (s : State) (f : Fld) (v i : Nat) : (s.wr f v i).clk = s.clk := rfl
@[simp] theorem State.wr_sto (s : State) (f : Fld) (v i : Nat) : (s.wr f v i).sto = s.sto := rfl
@[simp] theorem State.wr_int (s : State) (f : Fld) (v i : Nat) : (s.wr f v i).int = s.int := rfl
@[simp] theorem State.wr_mbx (s : State) (f : Fld) (v i : Nat) : (s.wr f v i).mbx = s.mbx := rfl
@[simp] theorem State.wr_img (s : State) (f : Fld) (v i : Nat) : (s.wr f v i).img = s.img := rfl
@[simp] theorem State.wr_scn (s : State) (f : Fld) (v i : Nat) : (s.wr f v i).scn = s.scn := rfl
@[simp] theorem State.wr_prg (s : State) (f : Fld) (v i : Nat) : (s.wr f v i).prg = s.prg := rfl
@[simp] theorem State.wr_fld (s : State) (f : Fld) (v i : Nat) : (s.wr f v i).fld = s.fld := rfl
@[simp] theorem State.wr_ana (s : State) (f : Fld) (v i : Nat) : (s.wr f v i).ana = s.ana := rfl
@[simp] theorem State.wr_ang (s : State) (f : Fld) (v i : Nat) : (s.wr f v i).ang = s.ang := rfl
@[simp] theorem State.wr_plt (s : State) (f : Fld) (v i : Nat) : (s.wr f v i).plt = s.plt := rfl
@[simp] theorem State.wr_pair (s : State) (f : Fld) (v i : Nat) : (s.wr f v i).pair = s.pair := rfl
@[simp] theorem State.wr_rtc (s : State) (f : Fld) (v i : Nat) : (s.wr f v i).rtc = s.rtc := rfl
@[simp] theorem State.wr_pwr (s : State) (f : Fld) (v i : Nat) : (s.wr f v i).pwr = s.pwr := rfl
@[simp] theorem State.wr_sec (s : State) (f : Fld) (v i : Nat) : (s.wr f v i).sec = s.sec := rfl
@[simp] theorem State.wr_free (s : State) (f : Fld) (v i : Nat) : (s.wr f v i).free = s.free := rfl
@[simp] theorem State.wr_pending (s : State) (f : Fld) (v i : Nat) : (s.wr f v i).pending = s.pending := rfl

@[simp] theorem State.inc_time (s : State) (f : Fld) (i n : Nat) : (s.inc f i n).time = s.time := rfl
@[simp] theorem State.inc_ring (s : State) (f : Fld) (i n : Nat) : (s.inc f i n).ring = s.ring := rfl
@[simp] theorem State.inc_clk (s : State) (f : Fld) (i n : Nat) : (s.inc f i n).clk = s.clk := rfl
@[simp] theorem State.inc_sto (s : State) (f : Fld) (i n : Nat) : (s.inc f i n).sto = s.sto := rfl
@[simp] theorem State.inc_int (s : State) (f : Fld) (i n : Nat) : (s.inc f i n).int = s.int := rfl
@[simp] theorem State.inc_mbx (s : State) (f : Fld) (i n : Nat) : (s.inc f i n).mbx = s.mbx := rfl
@[simp] theorem State.inc_img (s : State) (f : Fld) (i n : Nat) : (s.inc f i n).img = s.img := rfl
@[simp] theorem State.inc_scn (s : State) (f : Fld) (i n : Nat) : (s.inc f i n).scn = s.scn := rfl
@[simp] theorem State.inc_prg (s : State) (f : Fld) (i n : Nat) : (s.inc f i n).prg = s.prg := rfl
@[simp] theorem State.inc_fld (s : State) (f : Fld) (i n : Nat) : (s.inc f i n).fld = s.fld := rfl
@[simp] theorem State.inc_ana (s : State) (f : Fld) (i n : Nat) : (s.inc f i n).ana = s.ana := rfl
@[simp] theorem State.inc_ang (s : State) (f : Fld) (i n : Nat) : (s.inc f i n).ang = s.ang := rfl
@[simp] theorem State.inc_plt (s : State) (f : Fld) (i n : Nat) : (s.inc f i n).plt = s.plt := rfl
@[simp] theorem State.inc_pair (s : State) (f : Fld) (i n : Nat) : (s.inc f i n).pair = s.pair := rfl
@[simp] theorem State.inc_rtc (s : State) (f : Fld) (i n : Nat) : (s.inc f i n).rtc = s.rtc := rfl
@[simp] theorem State.inc_pwr (s : State) (f : Fld) (i n : Nat) : (s.inc f i n).pwr = s.pwr := rfl
@[simp] theorem State.inc_sec (s : State) (f : Fld) (i n : Nat) : (s.inc f i n).sec = s.sec := rfl
@[simp] theorem State.inc_free (s : State) (f : Fld) (i n : Nat) : (s.inc f i n).free = s.free := rfl
@[simp] theorem State.inc_pending (s : State) (f : Fld) (i n : Nat) : (s.inc f i n).pending = s.pending := rfl

@[simp] theorem State.incTo_time (s : State) (f : Fld) (i n top : Nat) : (s.incTo f i n top).time = s.time := rfl
@[simp] theorem State.incTo_ring (s : State) (f : Fld) (i n top : Nat) : (s.incTo f i n top).ring = s.ring := rfl
@[simp] theorem State.incTo_clk (s : State) (f : Fld) (i n top : Nat) : (s.incTo f i n top).clk = s.clk := rfl
@[simp] theorem State.incTo_sto (s : State) (f : Fld) (i n top : Nat) : (s.incTo f i n top).sto = s.sto := rfl
@[simp] theorem State.incTo_int (s : State) (f : Fld) (i n top : Nat) : (s.incTo f i n top).int = s.int := rfl
@[simp] theorem State.incTo_mbx (s : State) (f : Fld) (i n top : Nat) : (s.incTo f i n top).mbx = s.mbx := rfl
@[simp] theorem State.incTo_img (s : State) (f : Fld) (i n top : Nat) : (s.incTo f i n top).img = s.img := rfl
@[simp] theorem State.incTo_scn (s : State) (f : Fld) (i n top : Nat) : (s.incTo f i n top).scn = s.scn := rfl
@[simp] theorem State.incTo_prg (s : State) (f : Fld) (i n top : Nat) : (s.incTo f i n top).prg = s.prg := rfl
@[simp] theorem State.incTo_fld (s : State) (f : Fld) (i n top : Nat) : (s.incTo f i n top).fld = s.fld := rfl
@[simp] theorem State.incTo_ana (s : State) (f : Fld) (i n top : Nat) : (s.incTo f i n top).ana = s.ana := rfl
@[simp] theorem State.incTo_ang (s : State) (f : Fld) (i n top : Nat) : (s.incTo f i n top).ang = s.ang := rfl
@[simp] theorem State.incTo_plt (s : State) (f : Fld) (i n top : Nat) : (s.incTo f i n top).plt = s.plt := rfl
@[simp] theorem State.incTo_pair (s : State) (f : Fld) (i n top : Nat) : (s.incTo f i n top).pair = s.pair := rfl
@[simp] theorem State.incTo_rtc (s : State) (f : Fld) (i n top : Nat) : (s.incTo f i n top).rtc = s.rtc := rfl
@[simp] theorem State.incTo_pwr (s : State) (f : Fld) (i n top : Nat) : (s.incTo f i n top).pwr = s.pwr := rfl
@[simp] theorem State.incTo_sec (s : State) (f : Fld) (i n top : Nat) : (s.incTo f i n top).sec = s.sec := rfl
@[simp] theorem State.incTo_free (s : State) (f : Fld) (i n top : Nat) : (s.incTo f i n top).free = s.free := rfl
@[simp] theorem State.incTo_pending (s : State) (f : Fld) (i n top : Nat) : (s.incTo f i n top).pending = s.pending := rfl

@[simp] theorem State.useFree_time (s : State) : (s.useFree).time = s.time := rfl
@[simp] theorem State.useFree_regs (s : State) : (s.useFree).regs = s.regs := rfl
@[simp] theorem State.useFree_ring (s : State) : (s.useFree).ring = s.ring := rfl
@[simp] theorem State.useFree_clk (s : State) : (s.useFree).clk = s.clk := rfl
@[simp] theorem State.useFree_sto (s : State) : (s.useFree).sto = s.sto := rfl
@[simp] theorem State.useFree_int (s : State) : (s.useFree).int = s.int := rfl
@[simp] theorem State.useFree_mbx (s : State) : (s.useFree).mbx = s.mbx := rfl
@[simp] theorem State.useFree_img (s : State) : (s.useFree).img = s.img := rfl
@[simp] theorem State.useFree_scn (s : State) : (s.useFree).scn = s.scn := rfl
@[simp] theorem State.useFree_prg (s : State) : (s.useFree).prg = s.prg := rfl
@[simp] theorem State.useFree_fld (s : State) : (s.useFree).fld = s.fld := rfl
@[simp] theorem State.useFree_ana (s : State) : (s.useFree).ana = s.ana := rfl
@[simp] theorem State.useFree_ang (s : State) : (s.useFree).ang = s.ang := rfl
@[simp] theorem State.useFree_plt (s : State) : (s.useFree).plt = s.plt := rfl
@[simp] theorem State.useFree_pair (s : State) : (s.useFree).pair = s.pair := rfl
@[simp] theorem State.useFree_rtc (s : State) : (s.useFree).rtc = s.rtc := rfl
@[simp] theorem State.useFree_pwr (s : State) : (s.useFree).pwr = s.pwr := rfl
@[simp] theorem State.useFree_sec (s : State) : (s.useFree).sec = s.sec := rfl
@[simp] theorem State.useFree_pending (s : State) : (s.useFree).pending = s.pending := rfl

@[simp] theorem State.advance_regs (dt : Elapsed) (s : State) : (advance dt s).regs = s.regs := rfl
@[simp] theorem State.advance_ring (dt : Elapsed) (s : State) : (advance dt s).ring = s.ring := rfl
@[simp] theorem State.advance_clk (dt : Elapsed) (s : State) : (advance dt s).clk = s.clk := rfl
@[simp] theorem State.advance_sto (dt : Elapsed) (s : State) : (advance dt s).sto = s.sto := rfl
@[simp] theorem State.advance_int (dt : Elapsed) (s : State) : (advance dt s).int = s.int := rfl
@[simp] theorem State.advance_mbx (dt : Elapsed) (s : State) : (advance dt s).mbx = s.mbx := rfl
@[simp] theorem State.advance_img (dt : Elapsed) (s : State) : (advance dt s).img = s.img := rfl
@[simp] theorem State.advance_scn (dt : Elapsed) (s : State) : (advance dt s).scn = s.scn := rfl
@[simp] theorem State.advance_prg (dt : Elapsed) (s : State) : (advance dt s).prg = s.prg := rfl
@[simp] theorem State.advance_fld (dt : Elapsed) (s : State) : (advance dt s).fld = s.fld := rfl
@[simp] theorem State.advance_ana (dt : Elapsed) (s : State) : (advance dt s).ana = s.ana := rfl
@[simp] theorem State.advance_ang (dt : Elapsed) (s : State) : (advance dt s).ang = s.ang := rfl
@[simp] theorem State.advance_plt (dt : Elapsed) (s : State) : (advance dt s).plt = s.plt := rfl
@[simp] theorem State.advance_pair (dt : Elapsed) (s : State) : (advance dt s).pair = s.pair := rfl
@[simp] theorem State.advance_rtc (dt : Elapsed) (s : State) : (advance dt s).rtc = s.rtc := rfl
@[simp] theorem State.advance_pwr (dt : Elapsed) (s : State) : (advance dt s).pwr = s.pwr := rfl
@[simp] theorem State.advance_sec (dt : Elapsed) (s : State) : (advance dt s).sec = s.sec := rfl
@[simp] theorem State.advance_free (dt : Elapsed) (s : State) : (advance dt s).free = s.free := rfl
@[simp] theorem State.advance_pending (dt : Elapsed) (s : State) : (advance dt s).pending = s.pending := rfl

@[simp] theorem State.holdStation_regs (s : State) : (holdStation s).regs = s.regs := rfl
@[simp] theorem State.holdStation_ring (s : State) : (holdStation s).ring = s.ring := rfl
@[simp] theorem State.holdStation_clk (s : State) : (holdStation s).clk = s.clk := rfl
@[simp] theorem State.holdStation_sto (s : State) : (holdStation s).sto = s.sto := rfl
@[simp] theorem State.holdStation_int (s : State) : (holdStation s).int = s.int := rfl
@[simp] theorem State.holdStation_mbx (s : State) : (holdStation s).mbx = s.mbx := rfl
@[simp] theorem State.holdStation_img (s : State) : (holdStation s).img = s.img := rfl
@[simp] theorem State.holdStation_scn (s : State) : (holdStation s).scn = s.scn := rfl
@[simp] theorem State.holdStation_prg (s : State) : (holdStation s).prg = s.prg := rfl
@[simp] theorem State.holdStation_fld (s : State) : (holdStation s).fld = s.fld := rfl
@[simp] theorem State.holdStation_ana (s : State) : (holdStation s).ana = s.ana := rfl
@[simp] theorem State.holdStation_ang (s : State) : (holdStation s).ang = s.ang := rfl
@[simp] theorem State.holdStation_plt (s : State) : (holdStation s).plt = s.plt := rfl
@[simp] theorem State.holdStation_pair (s : State) : (holdStation s).pair = s.pair := rfl
@[simp] theorem State.holdStation_rtc (s : State) : (holdStation s).rtc = s.rtc := rfl
@[simp] theorem State.holdStation_pwr (s : State) : (holdStation s).pwr = s.pwr := rfl
@[simp] theorem State.holdStation_sec (s : State) : (holdStation s).sec = s.sec := rfl
@[simp] theorem State.holdStation_free (s : State) : (holdStation s).free = s.free := rfl
@[simp] theorem State.holdStation_pending (s : State) : (holdStation s).pending = s.pending := rfl

@[simp] theorem State.setStation_regs (s : State) (v t : Nat) : (setStation s v t).regs = s.regs := rfl
@[simp] theorem State.setStation_ring (s : State) (v t : Nat) : (setStation s v t).ring = s.ring := rfl
@[simp] theorem State.setStation_clk (s : State) (v t : Nat) : (setStation s v t).clk = s.clk := rfl
@[simp] theorem State.setStation_sto (s : State) (v t : Nat) : (setStation s v t).sto = s.sto := rfl
@[simp] theorem State.setStation_int (s : State) (v t : Nat) : (setStation s v t).int = s.int := rfl
@[simp] theorem State.setStation_mbx (s : State) (v t : Nat) : (setStation s v t).mbx = s.mbx := rfl
@[simp] theorem State.setStation_img (s : State) (v t : Nat) : (setStation s v t).img = s.img := rfl
@[simp] theorem State.setStation_scn (s : State) (v t : Nat) : (setStation s v t).scn = s.scn := rfl
@[simp] theorem State.setStation_prg (s : State) (v t : Nat) : (setStation s v t).prg = s.prg := rfl
@[simp] theorem State.setStation_fld (s : State) (v t : Nat) : (setStation s v t).fld = s.fld := rfl
@[simp] theorem State.setStation_ana (s : State) (v t : Nat) : (setStation s v t).ana = s.ana := rfl
@[simp] theorem State.setStation_ang (s : State) (v t : Nat) : (setStation s v t).ang = s.ang := rfl
@[simp] theorem State.setStation_plt (s : State) (v t : Nat) : (setStation s v t).plt = s.plt := rfl
@[simp] theorem State.setStation_pair (s : State) (v t : Nat) : (setStation s v t).pair = s.pair := rfl
@[simp] theorem State.setStation_rtc (s : State) (v t : Nat) : (setStation s v t).rtc = s.rtc := rfl
@[simp] theorem State.setStation_pwr (s : State) (v t : Nat) : (setStation s v t).pwr = s.pwr := rfl
@[simp] theorem State.setStation_sec (s : State) (v t : Nat) : (setStation s v t).sec = s.sec := rfl
@[simp] theorem State.setStation_free (s : State) (v t : Nat) : (setStation s v t).free = s.free := rfl
@[simp] theorem State.setStation_pending (s : State) (v t : Nat) : (setStation s v t).pending = s.pending := rfl

@[simp] theorem State.stopRunTicks_regs (s : State) : (stopRunTicks s).regs = s.regs := rfl
@[simp] theorem State.stopRunTicks_ring (s : State) : (stopRunTicks s).ring = s.ring := rfl
@[simp] theorem State.stopRunTicks_clk (s : State) : (stopRunTicks s).clk = s.clk := rfl
@[simp] theorem State.stopRunTicks_sto (s : State) : (stopRunTicks s).sto = s.sto := rfl
@[simp] theorem State.stopRunTicks_int (s : State) : (stopRunTicks s).int = s.int := rfl
@[simp] theorem State.stopRunTicks_mbx (s : State) : (stopRunTicks s).mbx = s.mbx := rfl
@[simp] theorem State.stopRunTicks_img (s : State) : (stopRunTicks s).img = s.img := rfl
@[simp] theorem State.stopRunTicks_scn (s : State) : (stopRunTicks s).scn = s.scn := rfl
@[simp] theorem State.stopRunTicks_prg (s : State) : (stopRunTicks s).prg = s.prg := rfl
@[simp] theorem State.stopRunTicks_fld (s : State) : (stopRunTicks s).fld = s.fld := rfl
@[simp] theorem State.stopRunTicks_ana (s : State) : (stopRunTicks s).ana = s.ana := rfl
@[simp] theorem State.stopRunTicks_ang (s : State) : (stopRunTicks s).ang = s.ang := rfl
@[simp] theorem State.stopRunTicks_plt (s : State) : (stopRunTicks s).plt = s.plt := rfl
@[simp] theorem State.stopRunTicks_pair (s : State) : (stopRunTicks s).pair = s.pair := rfl
@[simp] theorem State.stopRunTicks_rtc (s : State) : (stopRunTicks s).rtc = s.rtc := rfl
@[simp] theorem State.stopRunTicks_pwr (s : State) : (stopRunTicks s).pwr = s.pwr := rfl
@[simp] theorem State.stopRunTicks_sec (s : State) : (stopRunTicks s).sec = s.sec := rfl
@[simp] theorem State.stopRunTicks_free (s : State) : (stopRunTicks s).free = s.free := rfl
@[simp] theorem State.stopRunTicks_pending (s : State) : (stopRunTicks s).pending = s.pending := rfl

@[simp] theorem State.startRunTicks_regs (s : State) : (startRunTicks s).regs = s.regs := rfl
@[simp] theorem State.startRunTicks_ring (s : State) : (startRunTicks s).ring = s.ring := rfl
@[simp] theorem State.startRunTicks_clk (s : State) : (startRunTicks s).clk = s.clk := rfl
@[simp] theorem State.startRunTicks_sto (s : State) : (startRunTicks s).sto = s.sto := rfl
@[simp] theorem State.startRunTicks_int (s : State) : (startRunTicks s).int = s.int := rfl
@[simp] theorem State.startRunTicks_mbx (s : State) : (startRunTicks s).mbx = s.mbx := rfl
@[simp] theorem State.startRunTicks_img (s : State) : (startRunTicks s).img = s.img := rfl
@[simp] theorem State.startRunTicks_scn (s : State) : (startRunTicks s).scn = s.scn := rfl
@[simp] theorem State.startRunTicks_prg (s : State) : (startRunTicks s).prg = s.prg := rfl
@[simp] theorem State.startRunTicks_fld (s : State) : (startRunTicks s).fld = s.fld := rfl
@[simp] theorem State.startRunTicks_ana (s : State) : (startRunTicks s).ana = s.ana := rfl
@[simp] theorem State.startRunTicks_ang (s : State) : (startRunTicks s).ang = s.ang := rfl
@[simp] theorem State.startRunTicks_plt (s : State) : (startRunTicks s).plt = s.plt := rfl
@[simp] theorem State.startRunTicks_pair (s : State) : (startRunTicks s).pair = s.pair := rfl
@[simp] theorem State.startRunTicks_rtc (s : State) : (startRunTicks s).rtc = s.rtc := rfl
@[simp] theorem State.startRunTicks_pwr (s : State) : (startRunTicks s).pwr = s.pwr := rfl
@[simp] theorem State.startRunTicks_sec (s : State) : (startRunTicks s).sec = s.sec := rfl
@[simp] theorem State.startRunTicks_free (s : State) : (startRunTicks s).free = s.free := rfl
@[simp] theorem State.startRunTicks_pending (s : State) : (startRunTicks s).pending = s.pending := rfl

@[simp] theorem State.ringUpdate_time (s : State) (k v : Nat) : (ringUpdate s k v).time = s.time := rfl
@[simp] theorem State.ringUpdate_regs (s : State) (k v : Nat) : (ringUpdate s k v).regs = s.regs := rfl
@[simp] theorem State.ringUpdate_ring (s : State) (k v : Nat) : (ringUpdate s k v).ring = s.ring := rfl
@[simp] theorem State.ringUpdate_clk (s : State) (k v : Nat) : (ringUpdate s k v).clk = s.clk := rfl
@[simp] theorem State.ringUpdate_int (s : State) (k v : Nat) : (ringUpdate s k v).int = s.int := rfl
@[simp] theorem State.ringUpdate_mbx (s : State) (k v : Nat) : (ringUpdate s k v).mbx = s.mbx := rfl
@[simp] theorem State.ringUpdate_img (s : State) (k v : Nat) : (ringUpdate s k v).img = s.img := rfl
@[simp] theorem State.ringUpdate_scn (s : State) (k v : Nat) : (ringUpdate s k v).scn = s.scn := rfl
@[simp] theorem State.ringUpdate_prg (s : State) (k v : Nat) : (ringUpdate s k v).prg = s.prg := rfl
@[simp] theorem State.ringUpdate_fld (s : State) (k v : Nat) : (ringUpdate s k v).fld = s.fld := rfl
@[simp] theorem State.ringUpdate_ana (s : State) (k v : Nat) : (ringUpdate s k v).ana = s.ana := rfl
@[simp] theorem State.ringUpdate_ang (s : State) (k v : Nat) : (ringUpdate s k v).ang = s.ang := rfl
@[simp] theorem State.ringUpdate_plt (s : State) (k v : Nat) : (ringUpdate s k v).plt = s.plt := rfl
@[simp] theorem State.ringUpdate_pair (s : State) (k v : Nat) : (ringUpdate s k v).pair = s.pair := rfl
@[simp] theorem State.ringUpdate_rtc (s : State) (k v : Nat) : (ringUpdate s k v).rtc = s.rtc := rfl
@[simp] theorem State.ringUpdate_pwr (s : State) (k v : Nat) : (ringUpdate s k v).pwr = s.pwr := rfl
@[simp] theorem State.ringUpdate_sec (s : State) (k v : Nat) : (ringUpdate s k v).sec = s.sec := rfl
@[simp] theorem State.ringUpdate_free (s : State) (k v : Nat) : (ringUpdate s k v).free = s.free := rfl
@[simp] theorem State.ringUpdate_pending (s : State) (k v : Nat) : (ringUpdate s k v).pending = s.pending := rfl

@[simp] theorem State.putLatch_time (s : State) (b : Nat) (v : Bool) : (putLatch s b v).time = s.time := rfl
@[simp] theorem State.putLatch_ring (s : State) (b : Nat) (v : Bool) : (putLatch s b v).ring = s.ring := rfl
@[simp] theorem State.putLatch_clk (s : State) (b : Nat) (v : Bool) : (putLatch s b v).clk = s.clk := rfl
@[simp] theorem State.putLatch_sto (s : State) (b : Nat) (v : Bool) : (putLatch s b v).sto = s.sto := rfl
@[simp] theorem State.putLatch_int (s : State) (b : Nat) (v : Bool) : (putLatch s b v).int = s.int := rfl
@[simp] theorem State.putLatch_mbx (s : State) (b : Nat) (v : Bool) : (putLatch s b v).mbx = s.mbx := rfl
@[simp] theorem State.putLatch_img (s : State) (b : Nat) (v : Bool) : (putLatch s b v).img = s.img := rfl
@[simp] theorem State.putLatch_scn (s : State) (b : Nat) (v : Bool) : (putLatch s b v).scn = s.scn := rfl
@[simp] theorem State.putLatch_prg (s : State) (b : Nat) (v : Bool) : (putLatch s b v).prg = s.prg := rfl
@[simp] theorem State.putLatch_fld (s : State) (b : Nat) (v : Bool) : (putLatch s b v).fld = s.fld := rfl
@[simp] theorem State.putLatch_ana (s : State) (b : Nat) (v : Bool) : (putLatch s b v).ana = s.ana := rfl
@[simp] theorem State.putLatch_ang (s : State) (b : Nat) (v : Bool) : (putLatch s b v).ang = s.ang := rfl
@[simp] theorem State.putLatch_plt (s : State) (b : Nat) (v : Bool) : (putLatch s b v).plt = s.plt := rfl
@[simp] theorem State.putLatch_pair (s : State) (b : Nat) (v : Bool) : (putLatch s b v).pair = s.pair := rfl
@[simp] theorem State.putLatch_rtc (s : State) (b : Nat) (v : Bool) : (putLatch s b v).rtc = s.rtc := rfl
@[simp] theorem State.putLatch_pwr (s : State) (b : Nat) (v : Bool) : (putLatch s b v).pwr = s.pwr := rfl
@[simp] theorem State.putLatch_sec (s : State) (b : Nat) (v : Bool) : (putLatch s b v).sec = s.sec := rfl
@[simp] theorem State.putLatch_free (s : State) (b : Nat) (v : Bool) : (putLatch s b v).free = s.free := rfl
@[simp] theorem State.putLatch_pending (s : State) (b : Nat) (v : Bool) : (putLatch s b v).pending = s.pending := rfl

@[simp] theorem State.putSrc_time (s : State) (n v : Nat) : (putSrc s n v).time = s.time := rfl
@[simp] theorem State.putSrc_ring (s : State) (n v : Nat) : (putSrc s n v).ring = s.ring := rfl
@[simp] theorem State.putSrc_clk (s : State) (n v : Nat) : (putSrc s n v).clk = s.clk := rfl
@[simp] theorem State.putSrc_sto (s : State) (n v : Nat) : (putSrc s n v).sto = s.sto := rfl
@[simp] theorem State.putSrc_int (s : State) (n v : Nat) : (putSrc s n v).int = s.int := rfl
@[simp] theorem State.putSrc_mbx (s : State) (n v : Nat) : (putSrc s n v).mbx = s.mbx := rfl
@[simp] theorem State.putSrc_img (s : State) (n v : Nat) : (putSrc s n v).img = s.img := rfl
@[simp] theorem State.putSrc_scn (s : State) (n v : Nat) : (putSrc s n v).scn = s.scn := rfl
@[simp] theorem State.putSrc_prg (s : State) (n v : Nat) : (putSrc s n v).prg = s.prg := rfl
@[simp] theorem State.putSrc_fld (s : State) (n v : Nat) : (putSrc s n v).fld = s.fld := rfl
@[simp] theorem State.putSrc_ana (s : State) (n v : Nat) : (putSrc s n v).ana = s.ana := rfl
@[simp] theorem State.putSrc_ang (s : State) (n v : Nat) : (putSrc s n v).ang = s.ang := rfl
@[simp] theorem State.putSrc_plt (s : State) (n v : Nat) : (putSrc s n v).plt = s.plt := rfl
@[simp] theorem State.putSrc_pair (s : State) (n v : Nat) : (putSrc s n v).pair = s.pair := rfl
@[simp] theorem State.putSrc_rtc (s : State) (n v : Nat) : (putSrc s n v).rtc = s.rtc := rfl
@[simp] theorem State.putSrc_pwr (s : State) (n v : Nat) : (putSrc s n v).pwr = s.pwr := rfl
@[simp] theorem State.putSrc_sec (s : State) (n v : Nat) : (putSrc s n v).sec = s.sec := rfl
@[simp] theorem State.putSrc_free (s : State) (n v : Nat) : (putSrc s n v).free = s.free := rfl
@[simp] theorem State.putSrc_pending (s : State) (n v : Nat) : (putSrc s n v).pending = s.pending := rfl

@[simp] theorem State.queueSub_time (s : State) (t dest : Nat) (body : List Nat) : (queueSub s t dest body).time = s.time := rfl
@[simp] theorem State.queueSub_regs (s : State) (t dest : Nat) (body : List Nat) : (queueSub s t dest body).regs = s.regs := rfl
@[simp] theorem State.queueSub_clk (s : State) (t dest : Nat) (body : List Nat) : (queueSub s t dest body).clk = s.clk := rfl
@[simp] theorem State.queueSub_sto (s : State) (t dest : Nat) (body : List Nat) : (queueSub s t dest body).sto = s.sto := rfl
@[simp] theorem State.queueSub_int (s : State) (t dest : Nat) (body : List Nat) : (queueSub s t dest body).int = s.int := rfl
@[simp] theorem State.queueSub_mbx (s : State) (t dest : Nat) (body : List Nat) : (queueSub s t dest body).mbx = s.mbx := rfl
@[simp] theorem State.queueSub_img (s : State) (t dest : Nat) (body : List Nat) : (queueSub s t dest body).img = s.img := rfl
@[simp] theorem State.queueSub_scn (s : State) (t dest : Nat) (body : List Nat) : (queueSub s t dest body).scn = s.scn := rfl
@[simp] theorem State.queueSub_prg (s : State) (t dest : Nat) (body : List Nat) : (queueSub s t dest body).prg = s.prg := rfl
@[simp] theorem State.queueSub_fld (s : State) (t dest : Nat) (body : List Nat) : (queueSub s t dest body).fld = s.fld := rfl
@[simp] theorem State.queueSub_ana (s : State) (t dest : Nat) (body : List Nat) : (queueSub s t dest body).ana = s.ana := rfl
@[simp] theorem State.queueSub_ang (s : State) (t dest : Nat) (body : List Nat) : (queueSub s t dest body).ang = s.ang := rfl
@[simp] theorem State.queueSub_plt (s : State) (t dest : Nat) (body : List Nat) : (queueSub s t dest body).plt = s.plt := rfl
@[simp] theorem State.queueSub_pair (s : State) (t dest : Nat) (body : List Nat) : (queueSub s t dest body).pair = s.pair := rfl
@[simp] theorem State.queueSub_rtc (s : State) (t dest : Nat) (body : List Nat) : (queueSub s t dest body).rtc = s.rtc := rfl
@[simp] theorem State.queueSub_pwr (s : State) (t dest : Nat) (body : List Nat) : (queueSub s t dest body).pwr = s.pwr := rfl
@[simp] theorem State.queueSub_sec (s : State) (t dest : Nat) (body : List Nat) : (queueSub s t dest body).sec = s.sec := rfl
@[simp] theorem State.queueSub_free (s : State) (t dest : Nat) (body : List Nat) : (queueSub s t dest body).free = s.free := rfl
@[simp] theorem State.queueSub_pending (s : State) (t dest : Nat) (body : List Nat) : (queueSub s t dest body).pending = s.pending := rfl

@[simp] theorem State.noEffect_time (s : State) : (noEffect s).time = s.time := rfl
@[simp] theorem State.noEffect_regs (s : State) : (noEffect s).regs = s.regs := rfl
@[simp] theorem State.noEffect_ring (s : State) : (noEffect s).ring = s.ring := rfl
@[simp] theorem State.noEffect_clk (s : State) : (noEffect s).clk = s.clk := rfl
@[simp] theorem State.noEffect_sto (s : State) : (noEffect s).sto = s.sto := rfl
@[simp] theorem State.noEffect_int (s : State) : (noEffect s).int = s.int := rfl
@[simp] theorem State.noEffect_mbx (s : State) : (noEffect s).mbx = s.mbx := rfl
@[simp] theorem State.noEffect_img (s : State) : (noEffect s).img = s.img := rfl
@[simp] theorem State.noEffect_scn (s : State) : (noEffect s).scn = s.scn := rfl
@[simp] theorem State.noEffect_prg (s : State) : (noEffect s).prg = s.prg := rfl
@[simp] theorem State.noEffect_fld (s : State) : (noEffect s).fld = s.fld := rfl
@[simp] theorem State.noEffect_ana (s : State) : (noEffect s).ana = s.ana := rfl
@[simp] theorem State.noEffect_ang (s : State) : (noEffect s).ang = s.ang := rfl
@[simp] theorem State.noEffect_plt (s : State) : (noEffect s).plt = s.plt := rfl
@[simp] theorem State.noEffect_pair (s : State) : (noEffect s).pair = s.pair := rfl
@[simp] theorem State.noEffect_rtc (s : State) : (noEffect s).rtc = s.rtc := rfl
@[simp] theorem State.noEffect_pwr (s : State) : (noEffect s).pwr = s.pwr := rfl
@[simp] theorem State.noEffect_sec (s : State) : (noEffect s).sec = s.sec := rfl
@[simp] theorem State.noEffect_free (s : State) : (noEffect s).free = s.free := rfl
@[simp] theorem State.noEffect_pending (s : State) : (noEffect s).pending = s.pending := rfl

end Machine

end Sys2Proof
end

