-- ==== Sys2Proof/Laws/Frame.lean ====
section
/-!
SUPPORT. The frame relation `Leaves`: it composes, and every update of a part of the state or of a field of the register
file leaves the rest as it was.
-/

namespace Sys2Proof.Machine

theorem Leaves.refl (ps : List Part) (os : List Nat) (s : State) : Leaves ps os s s := by
  refine ⟨fun p _ => ?_, fun _ _ _ _ => rfl⟩
  cases p <;> rfl

theorem Leaves.trans {ps : List Part} {os : List Nat} {a b c : State} (h : Leaves ps os a b) (h' : Leaves ps os b c) :
    Leaves ps os a c := by
  refine ⟨fun p hp => ?_, fun f i e ho => (h'.2 f i e ho).trans (h.2 f i e ho)⟩
  have h1 := h.1 p hp
  have h2 := h'.1 p hp
  cases p <;> exact Eq.trans h2 h1

theorem Leaves.transR {ps : List Part} {os : List Nat} {a b c : State} (h' : Leaves ps os b c) (h : Leaves ps os a b) :
    Leaves ps os a c := h.trans h'

theorem Leaves.mono {ps qs : List Part} {os us : List Nat} {a b : State} (h : Leaves ps os a b) (hp : ps ⊆ qs)
    (ho : os ⊆ us) : Leaves qs us a b :=
  ⟨fun p hq => h.1 p fun x => hq (hp x), fun f i e hu => h.2 f i e fun x => hu (ho x)⟩

/-- One more step whose parts and objects are among those of the frame. -/
theorem Leaves.step {ps qs : List Part} {os us : List Nat} {a b c : State} (h : Leaves ps os b c) (h0 : Leaves qs us a b)
    (hp : ps.all (qs.contains ·) = true) (ho : os.all (us.contains ·) = true) : Leaves qs us a c :=
  h0.trans (h.mono (fun x hx => by simpa using List.all_eq_true.mp hp x hx)
    (fun x hx => by simpa using List.all_eq_true.mp ho x hx))

/-- One step alone. -/
theorem Leaves.one {ps qs : List Part} {os us : List Nat} {a c : State} (h : Leaves ps os a c)
    (hp : ps.all (qs.contains ·) = true) (ho : os.all (us.contains ·) = true) : Leaves qs us a c :=
  Leaves.step h (Leaves.refl ..) hp ho

theorem Leaves.ite {c : Prop} [Decidable c] {ps : List Part} {os : List Nat} {s a b : State} (h : Leaves ps os s a)
    (h' : Leaves ps os s b) : Leaves ps os s (if c then a else b) := by
  split
  · exact h
  · exact h'

theorem Leaves.ite1 {α : Type} {c : Prop} [Decidable c] {ps : List Part} {os : List Nat} {s : State} {a b : State × α}
    (h : Leaves ps os s a.1) (h' : Leaves ps os s b.1) : Leaves ps os s (if c then a else b).1 := by
  split
  · exact h
  · exact h'

theorem Leaves.ite2 {α : Type} {c : Prop} [Decidable c] {ps : List Part} {os : List Nat} {s : State} {a b : α × State}
    (h : Leaves ps os s a.2) (h' : Leaves ps os s b.2) : Leaves ps os s (if c then a else b).2 := by
  split
  · exact h
  · exact h'

theorem Leaves.foldl {α : Type} {ps : List Part} {os : List Nat} (g : State → α → State) (l : List α)
    (h : ∀ s x, x ∈ l → Leaves ps os s (g s x)) (s : State) : Leaves ps os s (l.foldl g s) := by
  induction l generalizing s with
  | nil => exact Leaves.refl _ _ _
  | cons x l ih =>
    exact (h s x (List.mem_cons_self ..)).trans (ih (fun s y hy => h s y (List.mem_cons_of_mem _ hy)) _)

/-- A state on the way stands within the frame, and the rest follows from that. -/
theorem Leaves.have {ps : List Part} {os : List Nat} {s e : State} (x : State) (h : Leaves ps os s x)
    (k : Leaves ps os s x → Leaves ps os s e) : Leaves ps os s e := k h

/-- A change of the parts `ps` alone. -/
theorem Leaves.upd {ps : List Part} {s t : State} (hr : t.regs = s.regs) (h : ∀ p, p ∉ ps → s.samePart t p) :
    Leaves ps [] s t := ⟨h, fun f i e _ => by simp only [State.rdE, hr]⟩

theorem Leaves.set_time (s : State) (x : TimeSt) : Leaves [.time] [] s { s with time := x } :=
  Leaves.upd rfl fun p hp => by cases p <;> first | rfl | exact absurd (by decide) hp
theorem Leaves.set_ring (s : State) (x : RingSt) : Leaves [.ring] [] s { s with ring := x } :=
  Leaves.upd rfl fun p hp => by cases p <;> first | rfl | exact absurd (by decide) hp
theorem Leaves.set_clk (s : State) (x : ClkSt) : Leaves [.clk] [] s { s with clk := x } :=
  Leaves.upd rfl fun p hp => by cases p <;> first | rfl | exact absurd (by decide) hp
theorem Leaves.set_sto (s : State) (x : StoSt) : Leaves [.sto] [] s { s with sto := x } :=
  Leaves.upd rfl fun p hp => by cases p <;> first | rfl | exact absurd (by decide) hp
theorem Leaves.set_int (s : State) (x : IntSt) : Leaves [.int] [] s { s with int := x } :=
  Leaves.upd rfl fun p hp => by cases p <;> first | rfl | exact absurd (by decide) hp
theorem Leaves.set_mbx (s : State) (x : MbxSt) : Leaves [.mbx] [] s { s with mbx := x } :=
  Leaves.upd rfl fun p hp => by cases p <;> first | rfl | exact absurd (by decide) hp
theorem Leaves.set_img (s : State) (x : ImgSt) : Leaves [.img] [] s { s with img := x } :=
  Leaves.upd rfl fun p hp => by cases p <;> first | rfl | exact absurd (by decide) hp
theorem Leaves.set_scn (s : State) (x : ScnSt) : Leaves [.scn] [] s { s with scn := x } :=
  Leaves.upd rfl fun p hp => by cases p <;> first | rfl | exact absurd (by decide) hp
theorem Leaves.set_prg (s : State) (x : PrgSt) : Leaves [.prg] [] s { s with prg := x } :=
  Leaves.upd rfl fun p hp => by cases p <;> first | rfl | exact absurd (by decide) hp
theorem Leaves.set_fld (s : State) (x : FieldSt) : Leaves [.fld] [] s { s with fld := x } :=
  Leaves.upd rfl fun p hp => by cases p <;> first | rfl | exact absurd (by decide) hp
theorem Leaves.set_ana (s : State) (x : AnaSt) : Leaves [.ana] [] s { s with ana := x } :=
  Leaves.upd rfl fun p hp => by cases p <;> first | rfl | exact absurd (by decide) hp
theorem Leaves.set_ang (s : State) (x : AngSt) : Leaves [.ang] [] s { s with ang := x } :=
  Leaves.upd rfl fun p hp => by cases p <;> first | rfl | exact absurd (by decide) hp
theorem Leaves.set_plt (s : State) (x : PltSt) : Leaves [.plt] [] s { s with plt := x } :=
  Leaves.upd rfl fun p hp => by cases p <;> first | rfl | exact absurd (by decide) hp
theorem Leaves.set_pair (s : State) (x : PairSt) : Leaves [.pair] [] s { s with pair := x } :=
  Leaves.upd rfl fun p hp => by cases p <;> first | rfl | exact absurd (by decide) hp
theorem Leaves.set_rtc (s : State) (x : RtcSt) : Leaves [.rtc] [] s { s with rtc := x } :=
  Leaves.upd rfl fun p hp => by cases p <;> first | rfl | exact absurd (by decide) hp
theorem Leaves.set_pwr (s : State) (x : PwrSt) : Leaves [.pwr] [] s { s with pwr := x } :=
  Leaves.upd rfl fun p hp => by cases p <;> first | rfl | exact absurd (by decide) hp
theorem Leaves.set_sec (s : State) (x : SecSt) : Leaves [.sec] [] s { s with sec := x } :=
  Leaves.upd rfl fun p hp => by cases p <;> first | rfl | exact absurd (by decide) hp
theorem Leaves.set_free (s : State) (x : Nat) : Leaves [.free] [] s { s with free := x } :=
  Leaves.upd rfl fun p hp => by cases p <;> first | rfl | exact absurd (by decide) hp
theorem Leaves.set_pending (s : State) (x : List Instr) : Leaves [.pending] [] s { s with pending := x } :=
  Leaves.upd rfl fun p hp => by cases p <;> first | rfl | exact absurd (by decide) hp

/-! ### The register file -/

/-- A write of a field changes its object alone. -/
theorem State.wrE_leaves (s : State) (f : Fld) (i e v : Nat) : Leaves [] [f.obj] s (s.wrE f i e v) :=
  ⟨fun p _ => by cases p <;> rfl,
    fun _ _ _ ho => State.rdE_wrE_ne _ _ _ _ _ _ _ _ (Fld.key_obj fun h => ho (by simp [h]))⟩

theorem State.wr_leaves (s : State) (f : Fld) (v i : Nat) : Leaves [] [f.obj] s (s.wr f v i) := s.wrE_leaves f i 0 v

theorem State.inc_leaves (s : State) (f : Fld) (i n : Nat) : Leaves [] [f.obj] s (s.inc f i n) := s.wr_leaves f _ i

theorem State.incTo_leaves (s : State) (f : Fld) (i n top : Nat) : Leaves [] [f.obj] s (s.incTo f i n top) :=
  s.wr_leaves f _ i

/-! ### Parts alone, where the objects depend on what is written -/

theorem Keeps.refl (ps : List Part) (s : State) : Keeps ps s s := (Leaves.refl ps [] s).1

theorem Keeps.trans {ps : List Part} {a b c : State} (h : Keeps ps a b) (h' : Keeps ps b c) : Keeps ps a c := by
  intro p hp
  have h1 := h p hp
  have h2 := h' p hp
  cases p <;> exact Eq.trans h2 h1

theorem Keeps.transR {ps : List Part} {a b c : State} (h' : Keeps ps b c) (h : Keeps ps a b) : Keeps ps a c := h.trans h'

theorem Keeps.mono {ps qs : List Part} {a b : State} (h : Keeps ps a b) (hp : ps ⊆ qs) : Keeps qs a b :=
  fun p hq => h p fun x => hq (hp x)

theorem Keeps.step {ps qs : List Part} {a b c : State} (h : Keeps ps b c) (h0 : Keeps qs a b)
    (hp : ps.all (qs.contains ·) = true) : Keeps qs a c :=
  h0.trans (h.mono fun x hx => by simpa using List.all_eq_true.mp hp x hx)

theorem Keeps.one {ps qs : List Part} {a c : State} (h : Keeps ps a c) (hp : ps.all (qs.contains ·) = true) :
    Keeps qs a c := Keeps.step h (Keeps.refl qs a) hp

theorem Keeps.ite {c : Prop} [Decidable c] {ps : List Part} {s a b : State} (h : Keeps ps s a) (h' : Keeps ps s b) :
    Keeps ps s (if c then a else b) := by
  split
  · exact h
  · exact h'

theorem Keeps.ite1 {α : Type} {c : Prop} [Decidable c] {ps : List Part} {s : State} {a b : State × α}
    (h : Keeps ps s a.1) (h' : Keeps ps s b.1) : Keeps ps s (if c then a else b).1 := by
  split
  · exact h
  · exact h'

theorem Keeps.foldl {α : Type} {ps : List Part} (g : State → α → State) (l : List α)
    (h : ∀ s x, x ∈ l → Keeps ps s (g s x)) (s : State) : Keeps ps s (l.foldl g s) := by
  induction l generalizing s with
  | nil => exact Keeps.refl _ _
  | cons x l ih =>
    exact (h s x (List.mem_cons_self ..)).trans (ih (fun s y hy => h s y (List.mem_cons_of_mem _ hy)) _)

theorem Keeps.have {ps : List Part} {s e : State} (x : State) (h : Keeps ps s x) (k : Keeps ps s x → Keeps ps s e) :
    Keeps ps s e := k h

theorem Keeps.upd {ps : List Part} {s t : State} (h : ∀ p, p ∉ ps → s.samePart t p) : Keeps ps s t := h

end Sys2Proof.Machine
end

