-- ==== Sys2Proof/Laws/Frames.lean ====
section
/-!
SUPPORT. What each operation of the machine can change: one lemma `<operation>_leaves` for every operation that answers a
state, with the parts of the state and the objects of the register file it may touch; everything outside them stands.
-/

namespace Sys2Proof.Machine

theorem State.rest_leaves (s : State) :
    Leaves [.pending] [] s (State.rest s) := by
  unfold State.rest
  exact Leaves.one (Leaves.set_pending _ _) rfl rfl

theorem State.useFree_leaves (s : State) :
    Leaves [.free] [] s (State.useFree s) := by
  unfold State.useFree
  exact Leaves.one (Leaves.set_free _ _) rfl rfl

theorem State.withFetchWord_leaves (s : State) (nbits : Nat) (w : Nat) :
    Leaves [.pending] [] s (State.withFetchWord s nbits w) := by
  unfold State.withFetchWord
  split
  · exact Leaves.one (Leaves.set_pending _ _) rfl rfl
  · exact Leaves.refl ..

theorem drillFault_leaves (s : State) (f : Drill → Drill) :
    Leaves [.pair] [] s (drillFault s f) := by
  unfold drillFault
  split
  · exact Leaves.ite (Leaves.one (Leaves.set_pair _ _) rfl rfl) (Leaves.refl ..)
  · exact Leaves.refl ..

theorem queueSub_leaves (s : State) (t : Nat) (dest : Nat) (body : List Nat) :
    Leaves [.ring] [] s (queueSub s t dest body) := by
  unfold queueSub
  exact Leaves.one (Leaves.set_ring _ _) rfl rfl

theorem attnCheck_leaves (s : State) :
    Leaves [.ring] [F.objINT_STAT] s (attnCheck s) := by
  unfold attnCheck
  extract_lets -merge +onlyGivenNames x0 x1
  try clear_value x0
  refine Leaves.have x1 (by unfold x1; exact Leaves.one (State.wr_leaves ..) rfl rfl) fun hx1 => ?_
  try clear_value x1
  split
  · exact Leaves.step (State.wr_leaves ..) (Leaves.step (Leaves.set_ring _ _) hx1 rfl rfl) rfl rfl
  · extract_lets -merge +onlyGivenNames x2
    refine Leaves.have x2 (by unfold x2; exact Leaves.step (State.wr_leaves ..) hx1 rfl rfl) fun hx2 => ?_
    try clear_value x2
    extract_lets -merge +onlyGivenNames x3
    try clear_value x3
    refine Leaves.ite ?_ ?_
    · extract_lets -merge +onlyGivenNames x4
      refine Leaves.have x4 (by unfold x4; exact Leaves.step (queueSub_leaves ..) hx2 rfl rfl) fun hx4 => ?_
      try clear_value x4
      exact Leaves.step (Leaves.set_ring _ _) hx4 rfl rfl
    · exact hx2

theorem putSrc_leaves (s : State) (n : Nat) (v : Nat) :
    Leaves [] [F.objINT_STATE] s (putSrc s n v) := by
  unfold putSrc
  exact Leaves.one (State.wrE_leaves ..) rfl rfl

theorem ringUpdate_leaves (s : State) (k : Nat) (v : Nat) :
    Leaves [.sto] [] s (ringUpdate s k v) := by
  unfold ringUpdate
  extract_lets -merge +onlyGivenNames x0
  try clear_value x0
  exact Leaves.one (Leaves.set_sto _ _) rfl rfl

theorem reserveCheck_leaves (s : State) :
    Leaves [.sto] [] s (reserveCheck s) := by
  unfold reserveCheck
  refine Leaves.ite ?_ ?_
  · extract_lets -merge +onlyGivenNames x0
    try clear_value x0
    exact Leaves.ite (Leaves.one (ringUpdate_leaves ..) rfl rfl) (Leaves.refl ..)
  · exact Leaves.refl ..

theorem pushRec_leaves (s : State) (r : Rec) :
    Leaves [.sto] [F.objREC_STAT] s (pushRec s r) := by
  unfold pushRec
  extract_lets -merge +onlyGivenNames x0 x1
  try clear_value x0
  refine Leaves.have x1 (by unfold x1; exact Leaves.one (Leaves.set_sto _ _) rfl rfl) fun hx1 => ?_
  try clear_value x1
  extract_lets -merge +onlyGivenNames x2
  refine Leaves.have x2 (by unfold x2; exact Leaves.step (State.wr_leaves ..) hx1 rfl rfl) fun hx2 => ?_
  try clear_value x2
  extract_lets -merge +onlyGivenNames x3
  try clear_value x3
  exact Leaves.step (Leaves.set_sto _ _) hx2 rfl rfl

theorem createRec_leaves (s : State) (e : Nat × Nat) (arg : List Nat) :
    Leaves [.sto] [F.objREC_STAT] s (createRec s e arg) := by
  unfold createRec
  refine Leaves.ite ?_ ?_
  · extract_lets -merge +onlyGivenNames x0
    try clear_value x0
    refine Leaves.step (reserveCheck_leaves ..) ?_ rfl rfl
    exact Leaves.step (State.wr_leaves ..) (Leaves.one (pushRec_leaves ..) rfl rfl) rfl rfl
  · exact Leaves.one (pushRec_leaves ..) rfl rfl

theorem stormCount_leaves (s : State) (n : Nat) :
    Leaves [.sto, .int] [F.objINT_STAT, F.objINT_STATE, F.objINT_STORMED, F.objREC_STAT] s (stormCount s n) := by
  unfold stormCount
  extract_lets -merge +onlyGivenNames x0 x1 x2
  try clear_value x0 x1
  refine Leaves.have x2 (by unfold x2; exact Leaves.one (Leaves.set_int _ _) rfl rfl) fun hx2 => ?_
  try clear_value x2
  extract_lets -merge +onlyGivenNames x3
  try clear_value x3
  refine Leaves.ite ?_ ?_
  · refine Leaves.step (createRec_leaves ..) ?_ rfl rfl
    refine Leaves.step (State.inc_leaves ..) ?_ rfl rfl
    exact Leaves.step (State.wrE_leaves ..) (Leaves.step (putSrc_leaves ..) hx2 rfl rfl) rfl rfl
  · exact hx2

theorem srcEdge_leaves (s : State) (n : Nat) (rise : Bool) :
    Leaves [.sto, .int] [F.objINT_STAT, F.objINT_STATE, F.objINT_STORMED, F.objREC_STAT] s (srcEdge s n rise) := by
  unfold srcEdge
  refine Leaves.ite ?_ ?_
  · exact Leaves.one (putSrc_leaves ..) rfl rfl
  · refine Leaves.ite ?_ ?_
    · refine Leaves.ite ?_ ?_
      · exact Leaves.step (stormCount_leaves ..) (Leaves.one (putSrc_leaves ..) rfl rfl) rfl rfl
      · exact Leaves.one (putSrc_leaves ..) rfl rfl
    · split
      · exact Leaves.one (putSrc_leaves ..) rfl rfl
      · exact Leaves.one (putSrc_leaves ..) rfl rfl
      · exact Leaves.step (State.inc_leaves ..) (Leaves.one (putSrc_leaves ..) rfl rfl) rfl rfl
      · exact Leaves.one (State.inc_leaves ..) rfl rfl
      · exact Leaves.refl ..

theorem hostSync_leaves (n : Nat) (s : State) :
    Leaves [.ring, .sto, .int] [F.objINT_STAT, F.objINT_STATE, F.objINT_STORMED, F.objREC_STAT] s (hostSync n s) := by
  unfold hostSync
  refine Leaves.ite ?_ ?_
  · exact Leaves.refl ..
  · extract_lets -merge +onlyGivenNames x0
    try clear_value x0
    refine Leaves.ite ?_ ?_
    · exact Leaves.refl ..
    · extract_lets -merge +onlyGivenNames x1 x2
      try clear_value x1
      refine Leaves.have x2 (by unfold x2; exact Leaves.one (Leaves.set_int _ _) rfl rfl) fun hx2 => ?_
      try clear_value x2
      exact Leaves.step (attnCheck_leaves ..) (Leaves.step (srcEdge_leaves ..) hx2 rfl rfl) rfl rfl

theorem putLatch_leaves (s : State) (b : Nat) (v : Bool) :
    Leaves [] [F.objINT_LATCH] s (putLatch s b v) := by
  unfold putLatch
  extract_lets -merge +onlyGivenNames x0
  refine Leaves.step (State.wr_leaves ..) ?_ rfl (by (try unfold x0); unfold Sys2Proof.Machine.latchFld; (try dsimp only); first | rfl | (simp only [List.all_cons, List.all_nil, Bool.and_true]; (repeat' split) <;> rfl))
  exact Leaves.refl ..

theorem setLatch_leaves (b : Nat) (s : State) :
    Leaves [.ring, .sto, .int] [F.objINT_LATCH, F.objINT_STAT, F.objINT_STATE, F.objINT_STORMED, F.objREC_STAT] s
      (setLatch b s) := by
  unfold setLatch
  exact Leaves.step (hostSync_leaves ..) (Leaves.one (putLatch_leaves ..) rfl rfl) rfl rfl

theorem log_leaves (e : Nat × Nat) (arg : List Nat) (s : State) :
    Leaves [.ring, .sto, .int] [F.objINT_LATCH, F.objINT_STAT, F.objINT_STATE, F.objINT_STORMED, F.objREC_STAT] s (log e
      arg s) := by
  unfold log
  refine Leaves.ite ?_ ?_
  · exact Leaves.refl ..
  · refine Leaves.ite ?_ ?_
    · extract_lets -merge +onlyGivenNames x0
      refine Leaves.have x0 (by unfold x0; exact Leaves.one (State.inc_leaves ..) rfl rfl) fun hx0 => ?_
      try clear_value x0
      exact Leaves.step (Leaves.set_sto _ _) hx0 rfl rfl
    · extract_lets -merge +onlyGivenNames x1
      refine Leaves.have x1 ?_ fun hx1 => ?_
      · unfold x1
        refine Leaves.step (hostSync_leaves ..) ?_ rfl rfl
        exact Leaves.step (hostSync_leaves ..) (Leaves.one (createRec_leaves ..) rfl rfl) rfl rfl
      try clear_value x1
      refine Leaves.ite ?_ ?_
      · exact Leaves.step (setLatch_leaves ..) hx1 rfl rfl
      · exact Leaves.ite (Leaves.step (setLatch_leaves ..) hx1 rfl rfl) hx1

theorem logDiag_leaves (s : State) (key : Nat) (e : Nat × Nat) (arg : List Nat) :
    Leaves [.ring, .sto, .int, .fld] [F.objINT_LATCH, F.objINT_STAT, F.objINT_STATE, F.objINT_STORMED, F.objREC_STAT] s
      (logDiag s key e arg) := by
  unfold logDiag
  extract_lets -merge +onlyGivenNames x0
  try clear_value x0
  refine Leaves.ite ?_ ?_
  · extract_lets -merge +onlyGivenNames x1 x2
    try clear_value x1
    refine Leaves.have x2 ?_ fun hx2 => ?_
    · unfold x2
      exact Leaves.ite (Leaves.refl ..) (Leaves.one (log_leaves ..) rfl rfl)
    try clear_value x2
    exact Leaves.step (log_leaves ..) (Leaves.step (Leaves.set_fld _ _) hx2 rfl rfl) rfl rfl
  · exact Leaves.one (Leaves.set_fld _ _) rfl rfl

theorem aDiag_leaves (s : State) (c : Nat) (k : Nat) (present : Bool) :
    Leaves [.ring, .sto, .int, .fld, .pair] [F.objAG_CHSTAT, F.objINT_LATCH, F.objINT_STAT, F.objINT_STATE,
      F.objINT_STORMED, F.objREC_STAT] s (aDiag s c k present) := by
  unfold aDiag
  extract_lets -merge +onlyGivenNames x0
  try clear_value x0
  refine Leaves.ite ?_ ?_
  · exact Leaves.one (State.wr_leaves ..) rfl rfl
  · extract_lets -merge +onlyGivenNames x1
    refine Leaves.have x1 ?_ fun hx1 => ?_
    · unfold x1
      exact Leaves.step (State.wr_leaves ..) (Leaves.one (State.wr_leaves ..) rfl rfl) rfl rfl
    try clear_value x1
    extract_lets -merge +onlyGivenNames x2
    refine Leaves.have x2 (by unfold x2; exact Leaves.ite (Leaves.step (drillFault_leaves ..) hx1 rfl rfl) hx1) fun hx2 => ?_
    try clear_value x2
    exact Leaves.step (hostSync_leaves ..) (Leaves.ite hx2 (Leaves.step (logDiag_leaves ..) hx2 rfl rfl)) rfl rfl

theorem abandonBuffer_leaves (s : State) :
    Leaves [.sto] [] s (abandonBuffer s) := by
  unfold abandonBuffer
  split
  · exact Leaves.one (Leaves.set_sto _ _) rfl rfl
  · exact Leaves.one (Leaves.set_sto _ _) rfl rfl

theorem putSlice_leaves (s : State) (g : Nat) (k : Nat) (st : Nat) (pos : Nat) (cause : Nat) :
    Leaves [.ana] [F.objAG_CS] s (putSlice s g k st pos cause) := by
  unfold putSlice
  extract_lets -merge +onlyGivenNames x0 x1
  try clear_value x0
  refine Leaves.have x1 ?_ fun hx1 => ?_
  · unfold x1
    refine Leaves.step (State.wr_leaves ..) ?_ rfl rfl
    exact Leaves.step (State.wr_leaves ..) (Leaves.one (State.wr_leaves ..) rfl rfl) rfl rfl
  try clear_value x1
  exact Leaves.ite hx1 (Leaves.step (Leaves.set_ana _ _) hx1 rfl rfl)

theorem putSlicePw_leaves (s : State) (i : Nat) (x : SlicePw) :
    Leaves [.ana] [] s (putSlicePw s i x) := by
  unfold putSlicePw
  exact Leaves.one (Leaves.set_ana _ _) rfl rfl

theorem slicesFollow_leaves (s : State) (g : Nat) :
    Leaves [.ana] [] s (slicesFollow s g) := by
  unfold slicesFollow
  refine Leaves.transR (Leaves.foldl _ _ (fun y0 z0 _ => by
    extract_lets -merge +onlyGivenNames x1 x2 x3
    try clear_value x1 x2 x3
    refine Leaves.ite ?_ ?_
    · exact Leaves.one (putSlicePw_leaves ..) rfl rfl
    · refine Leaves.ite ?_ ?_
      · exact Leaves.ite (Leaves.one (putSlicePw_leaves ..) rfl rfl) (Leaves.refl ..)
      · exact Leaves.ite (Leaves.refl ..) (Leaves.one (putSlicePw_leaves ..) rfl rfl)
    ) _) ?_
  exact Leaves.refl ..

theorem putAgg_leaves (s : State) (g : Nat) (x : AnGrp) :
    Leaves [.ana] [] s (putAgg s g x) := by
  unfold putAgg
  exact Leaves.one (Leaves.set_ana _ _) rfl rfl

theorem updRot_leaves (s : State) (g : Nat) (f : Rotation → Rotation) :
    Leaves [.ana] [] s (updRot s g f) := by
  unfold updRot
  exact Leaves.one (putAgg_leaves ..) rfl rfl

theorem nextWait_leaves (s : State) (g : Nat) :
    Leaves [.ana, .free] [] s (nextWait s g) := by
  unfold nextWait
  extract_lets -merge +onlyGivenNames x0
  try clear_value x0
  refine Leaves.ite ?_ ?_
  · exact Leaves.one (updRot_leaves ..) rfl rfl
  · extract_lets -merge +onlyGivenNames x1
    try clear_value x1
    exact Leaves.step (updRot_leaves ..) (Leaves.one (State.useFree_leaves ..) rfl rfl) rfl rfl

theorem abandonCal_leaves (s : State) (g : Nat) :
    Leaves [.ana, .free] [F.objAG_CS] s (abandonCal s g) := by
  unfold abandonCal
  extract_lets -merge +onlyGivenNames x0
  try clear_value x0
  split
  · exact Leaves.refl ..
  · extract_lets -merge +onlyGivenNames x1
    refine Leaves.have x1 ?_ fun hx1 => ?_
    · unfold x1
      exact Leaves.ite (Leaves.one (putSlice_leaves ..) rfl rfl) (Leaves.one (putSlice_leaves ..) rfl rfl)
    try clear_value x1
    refine Leaves.step (slicesFollow_leaves ..) ?_ rfl rfl
    exact Leaves.step (nextWait_leaves ..) (Leaves.step (updRot_leaves ..) hx1 rfl rfl) rfl rfl

theorem updPair_leaves (s : State) (f : PairSt → PairSt) :
    Leaves [.pair] [] s (updPair s f) := by
  unfold updPair
  exact Leaves.one (Leaves.set_pair _ _) rfl rfl

theorem abandonIdle_leaves (s : State) :
    Leaves [.scn, .pair] [F.objPLT_PSTATE, F.objSCN_MODE] s (abandonIdle s) := by
  unfold abandonIdle
  extract_lets -merge +onlyGivenNames x0 x1 x2
  try clear_value x0 x1
  refine Leaves.have x2 ?_ fun hx2 => ?_
  · unfold x2
    exact Leaves.step (State.incTo_leaves ..) (Leaves.one (Leaves.set_scn _ _) rfl rfl) rfl rfl
  try clear_value x2
  extract_lets -merge +onlyGivenNames x3
  refine Leaves.have x3 ?_ fun hx3 => ?_
  · unfold x3
    exact Leaves.ite (Leaves.ite (Leaves.step (State.wr_leaves ..) hx2 rfl rfl) hx2) (Leaves.refl ..)
  try clear_value x3
  exact Leaves.ite (Leaves.step (State.incTo_leaves ..) (Leaves.step (updPair_leaves ..) hx3 rfl rfl) rfl rfl) hx3

theorem putAslot_leaves (s : State) (c : Nat) (x : AnSlot) :
    Leaves [.ana] [] s (putAslot s c x) := by
  unfold putAslot
  exact Leaves.one (Leaves.set_ana _ _) rfl rfl

theorem putApos_leaves (s : State) (i : Nat) (x : AnPos) :
    Leaves [.ana] [] s (putApos s i x) := by
  unfold putApos
  exact Leaves.one (Leaves.set_ana _ _) rfl rfl

theorem abortSlot_leaves (s : State) (g : Nat) (p : Nat) (c : Nat) :
    Leaves [.ana] [F.objAG_CONV] s (abortSlot s g p c) := by
  unfold abortSlot
  extract_lets -merge +onlyGivenNames x0 x1 x2
  try clear_value x0 x1
  refine Leaves.have x2 (by unfold x2; exact Leaves.one (putAslot_leaves ..) rfl rfl) fun hx2 => ?_
  try clear_value x2
  extract_lets -merge +onlyGivenNames x3
  refine Leaves.have x3 (by unfold x3; exact Leaves.step (putApos_leaves ..) hx2 rfl rfl) fun hx3 => ?_
  try clear_value x3
  exact Leaves.step (State.inc_leaves ..) (Leaves.step (Leaves.set_ana _ _) hx3 rfl rfl) rfl rfl

theorem ackSub_leaves (s : State) (fseq : Nat) (status : Nat) (rep : Bool) :
    Leaves [.ring] [] s (ackSub s fseq status rep) := by
  unfold ackSub
  exact Leaves.one (queueSub_leaves ..) rfl rfl

theorem seenFrame_leaves (s : State) (fseq : Nat) (high : Nat) (status : Nat) :
    Leaves [.ring] [F.objNRL_FSEQ_HIGH] s (seenFrame s fseq high status) := by
  unfold seenFrame
  refine Leaves.ite ?_ ?_
  · exact Leaves.refl ..
  · extract_lets -merge +onlyGivenNames x0
    refine Leaves.have x0 (by unfold x0; exact Leaves.one (State.wr_leaves ..) rfl rfl) fun hx0 => ?_
    try clear_value x0
    exact Leaves.step (Leaves.set_ring _ _) hx0 rfl rfl

theorem ackFlow_leaves {P : List Part} {O : List Nat} {s : State} {f : RxFrame} {act : State → State × Nat}
    (h : ∀ t, Leaves P O t (act t).1) (hp : [Part.ring].all (P.contains ·) = true)
    (ho : [F.objNRL_FSEQ_HIGH].all (O.contains ·) = true) : Leaves P O s (ackFlow s f act) := by
  have hs : ∀ n r b (t : State), Leaves P O s t → Leaves P O s (ackSub t n r b) := fun n r b t ht =>
    Leaves.step (ackSub_leaves ..) ht hp rfl
  have hf : ∀ n m r (t : State), Leaves P O s t → Leaves P O s (seenFrame t n m r) := fun n m r t ht =>
    Leaves.step (seenFrame_leaves ..) ht hp ho
  have ha := h s
  have hr := Leaves.refl P O s
  unfold ackFlow
  dsimp only
  refine Leaves.ite ha (Leaves.ite (hs _ _ _ _ ha) (Leaves.ite (hs _ _ _ _ hr) ?_))
  repeat' first
    | exact hs _ _ _ _ hr
    | exact hs _ _ _ _ (hf _ _ _ _ ha)
    | refine Leaves.ite ?_ ?_
    | split

theorem putDch_leaves (s : State) (c : Nat) (x : DgCh) :
    Leaves [.fld] [] s (putDch s c x) := by
  unfold putDch
  exact Leaves.one (Leaves.set_fld _ _) rfl rfl

theorem stageOff_leaves (s : State) (c : Nat) :
    Leaves [.fld] [F.objDG_CHSTAT] s (stageOff s c) := by
  unfold stageOff
  extract_lets -merge +onlyGivenNames x0 x1
  try clear_value x0
  refine Leaves.have x1 (by unfold x1; exact Leaves.one (putDch_leaves ..) rfl rfl) fun hx1 => ?_
  try clear_value x1
  exact Leaves.ite (Leaves.step (State.wr_leaves ..) hx1 rfl rfl) hx1

theorem putDgg_leaves (s : State) (g : Nat) (x : DgGrp) :
    Leaves [.fld] [] s (putDgg s g x) := by
  unfold putDgg
  exact Leaves.one (Leaves.set_fld _ _) rfl rfl

theorem settleBc_leaves (s : State) (g : Nat) :
    Leaves [.fld] [] s (settleBc s g) := by
  unfold settleBc
  exact Leaves.one (putDgg_leaves ..) rfl rfl

theorem dgSync_leaves (s : State) (g : Nat) :
    Leaves [.ring, .sto, .int] [F.objDG_GSTAT, F.objINT_STAT, F.objINT_STATE, F.objINT_STORMED, F.objREC_STAT] s (dgSync s
      g) := by
  unfold dgSync
  refine Leaves.step (hostSync_leaves ..) ?_ rfl rfl
  refine Leaves.step (State.wr_leaves ..) ?_ rfl rfl
  exact Leaves.step (State.wr_leaves ..) (Leaves.one (State.wr_leaves ..) rfl rfl) rfl rfl

theorem stageOn_leaves (s : State) (c : Nat) (boost : Bool) :
    Leaves [.ring, .sto, .int, .fld] [F.objDG_CHSTAT, F.objDG_GSTAT, F.objINT_STAT, F.objINT_STATE, F.objINT_STORMED,
      F.objREC_STAT] s (stageOn s c boost) := by
  unfold stageOn
  extract_lets -merge +onlyGivenNames x0 x1
  try clear_value x0 x1
  refine Leaves.ite ?_ ?_
  · exact Leaves.refl ..
  · refine Leaves.ite ?_ ?_
    · refine Leaves.ite ?_ ?_
      · refine Leaves.ite ?_ ?_
        · extract_lets -merge +onlyGivenNames x2 x3
          try clear_value x2
          refine Leaves.have x3 (by unfold x3; exact Leaves.one (settleBc_leaves ..) rfl rfl) fun hx3 => ?_
          try clear_value x3
          extract_lets -merge +onlyGivenNames x4 x5
          try clear_value x4
          refine Leaves.have x5 (by unfold x5; exact Leaves.step (putDgg_leaves ..) hx3 rfl rfl) fun hx5 => ?_
          try clear_value x5
          exact Leaves.step (dgSync_leaves ..) (Leaves.step (putDch_leaves ..) hx5 rfl rfl) rfl rfl
        · exact Leaves.step (State.wr_leaves ..) (Leaves.one (putDch_leaves ..) rfl rfl) rfl rfl
      · exact Leaves.one (putDch_leaves ..) rfl rfl
    · exact Leaves.one (putDch_leaves ..) rfl rfl

theorem drive_leaves (s : State) (c : Nat) (on : Bool) (boost : Bool) (ev : Option Nat) :
    Leaves [.ring, .sto, .int, .fld] [F.objDG_CHSTAT, F.objDG_GSTAT, F.objINT_STAT, F.objINT_STATE, F.objINT_STORMED,
      F.objREC_STAT] s (drive s c on boost ev) := by
  unfold drive
  extract_lets -merge +onlyGivenNames x0 x1
  try clear_value x0
  refine Leaves.have x1 (by unfold x1; exact Leaves.one (putDch_leaves ..) rfl rfl) fun hx1 => ?_
  try clear_value x1
  refine Leaves.ite ?_ ?_
  · extract_lets -merge +onlyGivenNames x2
    refine Leaves.have x2 ?_ fun hx2 => ?_
    · unfold x2
      exact Leaves.step (State.wr_leaves ..) (Leaves.step (State.wr_leaves ..) hx1 rfl rfl) rfl rfl
    try clear_value x2
    exact Leaves.step (stageOff_leaves ..) (Leaves.step (putDch_leaves ..) hx2 rfl rfl) rfl rfl
  · refine Leaves.ite ?_ ?_
    · exact hx1
    · refine Leaves.ite ?_ ?_
      · exact Leaves.step (State.wr_leaves ..) (Leaves.step (putDch_leaves ..) hx1 rfl rfl) rfl rfl
      · exact Leaves.step (stageOn_leaves ..) hx1 rfl rfl

theorem putDom_leaves (s : State) (d : Nat) (x : AngDom) :
    Leaves [.ang] [] s (putDom s d x) := by
  unfold putDom
  exact Leaves.one (Leaves.set_ang _ _) rfl rfl

theorem boostShort_leaves (s : State) (d : Nat) (e : Nat) :
    Leaves [.ring, .sto, .int, .ang] [F.objANG_STATUS, F.objINT_LATCH, F.objINT_STAT, F.objINT_STATE, F.objINT_STORMED,
      F.objREC_STAT] s (boostShort s d e) := by
  unfold boostShort
  extract_lets -merge +onlyGivenNames x0 x1
  try clear_value x0
  refine Leaves.have x1 ?_ fun hx1 => ?_
  · unfold x1
    exact Leaves.step (putDom_leaves ..) (Leaves.one (State.inc_leaves ..) rfl rfl) rfl rfl
  try clear_value x1
  exact Leaves.step (log_leaves ..) hx1 rfl rfl

theorem outputAction_leaves (s : State) (e : Nat) (c : Nat) (on : Bool) :
    Leaves [.ring, .sto, .int, .fld, .ang] [F.objANG_STATUS, F.objDG_CHSTAT, F.objDG_GSTAT, F.objINT_LATCH, F.objINT_STAT,
      F.objINT_STATE, F.objINT_STORMED, F.objREC_STAT] s (outputAction s e c on).1 := by
  unfold outputAction
  refine Leaves.ite1 ?_ ?_
  · exact Leaves.one (drive_leaves ..) rfl rfl
  · refine Leaves.ite1 ?_ ?_
    · extract_lets -merge +onlyGivenNames x0
      try clear_value x0
      refine Leaves.ite1 ?_ ?_
      · exact Leaves.one (drive_leaves ..) rfl rfl
      · extract_lets -merge +onlyGivenNames x1
        refine Leaves.have x1 (by unfold x1; exact Leaves.one (boostShort_leaves ..) rfl rfl) fun hx1 => ?_
        try clear_value x1
        exact Leaves.ite1 hx1 (Leaves.step (drive_leaves ..) hx1 rfl rfl)
    · exact Leaves.one (drive_leaves ..) rfl rfl

theorem sendSample_leaves (s : State) (x : InFlight) :
    Leaves [.ana] [] s (sendSample s x) := by
  unfold sendSample
  exact Leaves.one (Leaves.set_ana _ _) rfl rfl

theorem countConv_leaves (s : State) (c : Nat) :
    Leaves [.ana] [] s (countConv s c) := by
  unfold countConv
  extract_lets -merge +onlyGivenNames x0
  try clear_value x0
  refine Leaves.ite ?_ ?_
  · exact Leaves.ite (Leaves.one (putAslot_leaves ..) rfl rfl) (Leaves.one (putAslot_leaves ..) rfl rfl)
  · exact Leaves.refl ..

theorem takeTrigger_leaves (s : State) (g : Nat) (p : Nat) (e : Nat) (angle : Nat) (t : Nat) (late : Bool) :
    Leaves [.ana] [] s (takeTrigger s g p e angle t late) := by
  unfold takeTrigger
  extract_lets -merge +onlyGivenNames x0 x1 x2 x3
  try clear_value x0 x1 x2
  refine Leaves.have x3 (by unfold x3; exact Leaves.one (putApos_leaves ..) rfl rfl) fun hx3 => ?_
  try clear_value x3
  exact Leaves.step (sendSample_leaves ..) (Leaves.step (countConv_leaves ..) hx3 rfl rfl) rfl rfl

theorem trigger_leaves (s : State) (g : Nat) (p : Nat) (e : Nat) (angle : Nat) (t : Nat) (late : Bool) :
    Leaves [.ana] [F.objAG_CONV] s (trigger s g p e angle t late) := by
  unfold trigger
  refine Leaves.ite ?_ ?_
  · exact Leaves.refl ..
  · extract_lets -merge +onlyGivenNames x0 x1 x2 x3 x4 x5
    try clear_value x0 x1 x2 x3 x4
    refine Leaves.have x5 ?_ fun hx5 => ?_
    · unfold x5
      exact Leaves.ite (Leaves.one (abortSlot_leaves ..) rfl rfl) (Leaves.refl ..)
    try clear_value x5
    extract_lets -merge +onlyGivenNames x6 x7 x8 x9 x10
    try clear_value x6 x7 x8 x9 x10
    refine Leaves.ite ?_ ?_
    · exact Leaves.step (State.inc_leaves ..) hx5 rfl rfl
    · exact Leaves.ite (Leaves.step (putApos_leaves ..) hx5 rfl rfl) (Leaves.step (takeTrigger_leaves ..) hx5 rfl rfl)

theorem putCapture_leaves (s : State) (d : Nat) (bs : List Nat) :
    Leaves [.ang] [F.objANG_CAPPOS] s (putCapture s d bs) := by
  unfold putCapture
  extract_lets -merge +onlyGivenNames x0 x1
  try clear_value x0 x1
  exact Leaves.step (State.wr_leaves ..) (Leaves.one (Leaves.set_ang _ _) rfl rfl) rfl rfl

theorem clearPend_leaves (s : State) :
    Leaves [.scn] [F.objSCN_MODE] s (clearPend s) := by
  unfold clearPend
  exact Leaves.step (State.wr_leaves ..) (Leaves.one (Leaves.set_scn _ _) rfl rfl) rfl rfl

theorem queueRegs_leaves (s : State) :
    Leaves [.ring, .sto, .int] [F.objINT_STAT, F.objINT_STATE, F.objINT_STORMED, F.objMBX_QUEUES, F.objREC_STAT] s
      (queueRegs s) := by
  unfold queueRegs
  extract_lets -merge +onlyGivenNames x0
  try clear_value x0
  refine Leaves.step (hostSync_leaves ..) ?_ rfl rfl
  refine Leaves.step (hostSync_leaves ..) ?_ rfl rfl
  refine Leaves.step (hostSync_leaves ..) ?_ rfl rfl
  refine Leaves.step (hostSync_leaves ..) ?_ rfl rfl
  exact Leaves.step (State.wr_leaves ..) (Leaves.one (State.wr_leaves ..) rfl rfl) rfl rfl

theorem readyCpl_leaves (s : State) (q : Nat) (n : Nat) :
    Leaves [.ring] [] s (readyCpl s q n) := by
  unfold readyCpl
  extract_lets -merge +onlyGivenNames x0
  exact Leaves.one (Leaves.set_ring _ _) rfl rfl

theorem readyAll_leaves (k : Nat) (s : State) (q n : Nat) : Leaves [.ring] [] s (readyAll k s q n) := by
  induction k generalizing s q n with
  | zero => exact Leaves.refl ..
  | succ k ih => exact Leaves.ite (Leaves.refl ..) ((readyCpl_leaves ..).trans (ih _ _ _))

theorem placeRecs_leaves (s : State) (kind : Nat) (rep : Bool) (session : Nat) (clseq : Nat) (opcode : Nat) (status : Nat)
  (handle : Nat) (cinch : Nat) (result : Nat) (data : List Nat) (usb : Bool) :
    Leaves [.ring, .sto, .int, .mbx] [F.objINT_STAT, F.objINT_STATE, F.objINT_STORMED, F.objMBX_QUEUES, F.objREC_STAT] s
      (placeRecs s kind rep session clseq opcode status handle cinch result data usb) := by
  unfold placeRecs
  extract_lets -merge +onlyGivenNames x0 x1 x2 x3 x4
  try clear_value x0 x1 x2 x3
  refine Leaves.have x4 (by unfold x4; exact Leaves.one (Leaves.set_mbx _ _) rfl rfl) fun hx4 => ?_
  try clear_value x4
  exact Leaves.step (queueRegs_leaves ..) (Leaves.step (readyAll_leaves ..) hx4 rfl rfl) rfl rfl

theorem putHdl_leaves (s : State) (h : Hdl) :
    Leaves [.mbx] [] s (putHdl s h) := by
  unfold putHdl
  exact Leaves.one (Leaves.set_mbx _ _) rfl rfl

theorem useRegs_leaves (s : State) :
    Leaves [] [F.objMBX_USE] s (useRegs s) := by
  unfold useRegs
  exact Leaves.step (State.wr_leaves ..) (Leaves.one (State.wr_leaves ..) rfl rfl) rfl rfl

theorem freeHdl_leaves (s : State) (k : Nat) :
    Leaves [.mbx] [F.objMBX_USE] s (freeHdl s k) := by
  unfold freeHdl
  exact Leaves.step (useRegs_leaves ..) (Leaves.one (Leaves.set_mbx _ _) rfl rfl) rfl rfl

theorem finHdl_leaves (s : State) (k : Nat) (status : Nat) (result : Nat) (data : List Nat) (cinch : Nat) :
    Leaves [.ring, .sto, .int, .mbx] [F.objINT_LATCH, F.objINT_STAT, F.objINT_STATE, F.objINT_STORMED, F.objMBX_QUEUES,
      F.objMBX_USE, F.objREC_STAT] s (finHdl s k status result data cinch) := by
  unfold finHdl
  split
  · exact Leaves.refl ..
  · refine Leaves.ite ?_ ?_
    · exact Leaves.refl ..
    · refine Leaves.ite ?_ ?_
      · extract_lets -merge +onlyGivenNames x0
        refine Leaves.have x0 (by unfold x0; exact Leaves.one (placeRecs_leaves ..) rfl rfl) fun hx0 => ?_
        try clear_value x0
        exact Leaves.step (putHdl_leaves ..) hx0 rfl rfl
      · exact Leaves.step (freeHdl_leaves ..) (Leaves.one (log_leaves ..) rfl rfl) rfl rfl

theorem fin_leaves (s : State) (k : Nat) (status : Nat) (result : Nat) (data : List Nat) :
    Leaves [.ring, .sto, .int, .mbx] [F.objINT_LATCH, F.objINT_STAT, F.objINT_STATE, F.objINT_STORMED, F.objMBX_QUEUES,
      F.objMBX_USE, F.objREC_STAT] s (fin s k status result data) := by
  unfold fin
  exact Leaves.one (finHdl_leaves ..) rfl rfl

theorem finNum_leaves (s : State) (n : Nat) (status : Nat) (result : Nat) (data : List Nat) :
    Leaves [.ring, .sto, .int, .mbx] [F.objINT_LATCH, F.objINT_STAT, F.objINT_STATE, F.objINT_STORMED, F.objMBX_QUEUES,
      F.objMBX_USE, F.objREC_STAT] s (finNum s n status result data) := by
  unfold finNum
  exact Leaves.one (fin_leaves ..) rfl rfl

theorem finMode_leaves (s : State) (p : PendMode) (status : Nat) :
    Leaves [.ring, .sto, .int, .mbx] [F.objINT_LATCH, F.objINT_STAT, F.objINT_STATE, F.objINT_STORMED, F.objMBX_QUEUES,
      F.objMBX_USE, F.objREC_STAT] s (finMode s p status) := by
  unfold finMode
  exact Leaves.ite (Leaves.refl ..) (Leaves.one (finNum_leaves ..) rfl rfl)

theorem discardTasks_leaves (s : State) :
    Leaves [] [F.objINT_STAT, F.objINT_STATE] s (discardTasks s) := by
  unfold discardTasks
  refine Leaves.transR (Leaves.foldl _ _ (fun y0 z0 _ => by
    exact Leaves.step (State.inc_leaves ..) (Leaves.one (putSrc_leaves ..) rfl rfl) rfl rfl
    ) _) ?_
  exact Leaves.refl ..

theorem putSnap_leaves (s : State) (x : Snap) :
    Leaves [.img] [] s (putSnap s x) := by
  unfold putSnap
  exact Leaves.one (Leaves.set_img _ _) rfl rfl

theorem closeSnap_leaves (s : State) (n : Nat) (noexec : Bool) (uncommitted : Bool) (damaged : Bool) (sArea : Memory) :
    Leaves [.img] [] s (closeSnap s n noexec uncommitted damaged sArea) := by
  unfold closeSnap
  split
  · exact Leaves.refl ..
  · exact Leaves.ite (Leaves.refl ..) (Leaves.one (putSnap_leaves ..) rfl rfl)

theorem closeOpen_leaves (s : State) :
    Leaves [.img] [] s (closeOpen s) := by
  unfold closeOpen
  refine Leaves.transR (Leaves.foldl _ _ (fun y0 z0 _ => by
    exact Leaves.one (closeSnap_leaves ..) rfl rfl
    ) _) ?_
  exact Leaves.refl ..

theorem sendCommand_leaves (s : State) (kind : Nat) :
    Leaves [.fld] [] s (sendCommand s kind) := by
  unfold sendCommand
  exact Leaves.one (Leaves.set_fld _ _) rfl rfl

theorem setYield_leaves (s : State) :
    Leaves [.pair] [] s (setYield s) := by
  unfold setYield
  exact Leaves.ite (Leaves.one (updPair_leaves ..) rfl rfl) (Leaves.refl ..)

theorem disarmOutputs_leaves (s : State) :
    Leaves [] [F.objANG_EV] s (disarmOutputs s) := by
  unfold disarmOutputs
  refine Leaves.transR (Leaves.foldl _ _ (fun y0 z0 _ => by
    extract_lets -merge +onlyGivenNames x1
    try clear_value x1
    exact Leaves.ite (Leaves.one (State.wr_leaves ..) rfl rfl) (Leaves.refl ..)
    ) _) ?_
  exact Leaves.refl ..

theorem safeCommand_leaves (s : State) (kind : Nat) :
    Leaves [.fld, .pair] [F.objANG_EV] s (safeCommand s kind) := by
  unfold safeCommand
  refine Leaves.ite ?_ ?_
  · refine Leaves.step (sendCommand_leaves ..) ?_ rfl rfl
    exact Leaves.step (updPair_leaves ..) (Leaves.one (setYield_leaves ..) rfl rfl) rfl rfl
  · exact Leaves.step (disarmOutputs_leaves ..) (Leaves.one (sendCommand_leaves ..) rfl rfl) rfl rfl

theorem stopRunTicks_leaves (s : State) :
    Leaves [.time] [] s (stopRunTicks s) := by
  unfold stopRunTicks
  exact Leaves.one (Leaves.set_time _ _) rfl rfl

theorem startRunTicks_leaves (s : State) :
    Leaves [.time] [] s (startRunTicks s) := by
  unfold startRunTicks
  exact Leaves.one (Leaves.set_time _ _) rfl rfl

theorem setRole_leaves (s : State) (r : Nat) :
    Leaves [] [F.objPLT_PSTATE] s (setRole s r) := by
  unfold setRole
  exact Leaves.one (State.wr_leaves ..) rfl rfl

theorem roleOff_leaves (s : State) :
    Leaves [.pair] [F.objPLT_PSTATE] s (roleOff s) := by
  unfold roleOff
  exact Leaves.ite (Leaves.refl ..) (Leaves.step (updPair_leaves ..) (Leaves.one (setRole_leaves ..) rfl rfl) rfl rfl)

theorem setMode_leaves (s : State) (new : Nat) (cause : Nat) (restart : Nat) :
    Leaves [.time, .ring, .sto, .int, .img, .scn, .pair] [F.objINT_LATCH, F.objINT_STAT, F.objINT_STATE, F.objINT_STORMED,
      F.objPLT_PSTATE, F.objREC_STAT, F.objSCN_MODE] s (setMode s new cause restart) := by
  unfold setMode
  extract_lets -merge +onlyGivenNames x0 x1
  try clear_value x0
  refine Leaves.have x1 ?_ fun hx1 => ?_
  · unfold x1
    exact Leaves.ite (Leaves.one (stopRunTicks_leaves ..) rfl rfl) (Leaves.refl ..)
  try clear_value x1
  extract_lets -merge +onlyGivenNames x2
  refine Leaves.have x2 (by unfold x2; exact Leaves.step (State.wr_leaves ..) hx1 rfl rfl) fun hx2 => ?_
  try clear_value x2
  extract_lets -merge +onlyGivenNames x3
  refine Leaves.have x3 ?_ fun hx3 => ?_
  · unfold x3
    exact Leaves.ite (Leaves.step (startRunTicks_leaves ..) hx2 rfl rfl) hx2
  try clear_value x3
  extract_lets -merge +onlyGivenNames x4
  refine Leaves.have x4 (by unfold x4; exact Leaves.ite hx3 (Leaves.step (roleOff_leaves ..) hx3 rfl rfl)) fun hx4 => ?_
  try clear_value x4
  extract_lets -merge +onlyGivenNames x5
  refine Leaves.have x5 (by unfold x5; exact Leaves.step (log_leaves ..) hx4 rfl rfl) fun hx5 => ?_
  try clear_value x5
  extract_lets -merge +onlyGivenNames x6 x7 x8
  try clear_value x6 x7
  refine Leaves.have x8 ?_ fun hx8 => ?_
  · unfold x8
    refine Leaves.step (Leaves.upd (ps := [.img, .scn]) (s := x5) rfl (by intro p hp; cases p <;> first | rfl | exact absurd (by decide) hp)) ?_ rfl rfl
    exact hx5
  try clear_value x8
  exact Leaves.step (hostSync_leaves ..) (Leaves.step (setLatch_leaves ..) hx8 rfl rfl) rfl rfl

theorem endActivation_leaves (s : State) (status : Nat) :
    Leaves [.ring, .sto, .int, .mbx, .prg] [F.objINT_LATCH, F.objINT_STAT, F.objINT_STATE, F.objINT_STORMED,
      F.objMBX_QUEUES, F.objMBX_USE, F.objPRG_ACT, F.objREC_STAT] s (endActivation s status) := by
  unfold endActivation
  split
  · exact Leaves.refl ..
  · extract_lets -merge +onlyGivenNames x0 x1
    try clear_value x0
    refine Leaves.have x1 ?_ fun hx1 => ?_
    · unfold x1
      exact Leaves.step (State.wr_leaves ..) (Leaves.one (Leaves.set_prg _ _) rfl rfl) rfl rfl
    try clear_value x1
    exact Leaves.ite hx1 (Leaves.step (finNum_leaves ..) hx1 rfl rfl)

theorem endPending_leaves (s : State) (status : Nat) :
    Leaves [.ring, .sto, .int, .mbx, .prg] [F.objINT_LATCH, F.objINT_STAT, F.objINT_STATE, F.objINT_STORMED,
      F.objMBX_QUEUES, F.objMBX_USE, F.objPRG_ACT, F.objREC_STAT] s (endPending s status) := by
  unfold endPending
  split
  · exact Leaves.ite (Leaves.refl ..) (Leaves.one (endActivation_leaves ..) rfl rfl)
  · exact Leaves.refl ..

theorem enterFault_leaves (s : State) (cause : Nat) :
    Leaves [.time, .ring, .sto, .int, .mbx, .img, .scn, .prg, .fld, .pair] [F.objANG_EV, F.objINT_LATCH, F.objINT_STAT,
      F.objINT_STATE, F.objINT_STORMED, F.objMBX_QUEUES, F.objMBX_USE, F.objPLT_PSTATE, F.objPRG_ACT, F.objREC_STAT,
      F.objSCN_MODE] s (enterFault s cause) := by
  unfold enterFault
  refine Leaves.ite ?_ ?_
  · exact Leaves.refl ..
  · extract_lets -merge +onlyGivenNames x0
    refine Leaves.have x0 ?_ fun hx0 => ?_
    · unfold x0
      split
      · exact Leaves.step (clearPend_leaves ..) (Leaves.one (finMode_leaves ..) rfl rfl) rfl rfl
      · exact Leaves.refl ..
    try clear_value x0
    extract_lets -merge +onlyGivenNames x1
    refine Leaves.have x1 (by unfold x1; exact Leaves.step (discardTasks_leaves ..) hx0 rfl rfl) fun hx1 => ?_
    try clear_value x1
    extract_lets -merge +onlyGivenNames x2 x3
    try clear_value x2
    refine Leaves.have x3 ?_ fun hx3 => ?_
    · unfold x3
      exact Leaves.step (closeOpen_leaves ..) (Leaves.step (Leaves.set_scn _ _) hx1 rfl rfl) rfl rfl
    try clear_value x3
    extract_lets -merge +onlyGivenNames x4 x5 x6
    try clear_value x4 x5
    refine Leaves.have x6 ?_ fun hx6 => ?_
    · unfold x6
      refine Leaves.step (Leaves.upd (ps := [.int, .prg]) (s := x3) rfl (by intro p hp; cases p <;> first | rfl | exact absurd (by decide) hp)) ?_ rfl rfl
      exact hx3
    try clear_value x6
    extract_lets -merge +onlyGivenNames x7
    refine Leaves.have x7 (by unfold x7; exact Leaves.step (safeCommand_leaves ..) hx6 rfl rfl) fun hx7 => ?_
    try clear_value x7
    extract_lets -merge +onlyGivenNames x8
    refine Leaves.have x8 ?_ fun hx8 => ?_
    · unfold x8
      exact Leaves.step (setMode_leaves ..) (Leaves.step (State.wr_leaves ..) hx7 rfl rfl) rfl rfl
    try clear_value x8
    exact Leaves.step (endPending_leaves ..) hx8 rfl rfl

theorem countSkip_leaves (s : State) (task : Nat) :
    Leaves [.time, .ring, .sto, .int, .mbx, .img, .scn, .prg, .fld, .pair] [F.objANG_EV, F.objINT_LATCH, F.objINT_STAT,
      F.objINT_STATE, F.objINT_STORMED, F.objMBX_QUEUES, F.objMBX_USE, F.objPLT_PSTATE, F.objPRG_ACT, F.objREC_STAT,
      F.objSCN_MODE, F.objSCN_TSTAT] s (countSkip s task) := by
  unfold countSkip
  extract_lets -merge +onlyGivenNames x0
  refine Leaves.have x0 ?_ fun hx0 => ?_
  · unfold x0
    exact Leaves.step (State.inc_leaves ..) (Leaves.one (State.inc_leaves ..) rfl rfl) rfl rfl
  try clear_value x0
  extract_lets -merge +onlyGivenNames x1
  try clear_value x1
  exact Leaves.ite (Leaves.step (enterFault_leaves ..) hx0 rfl rfl) hx0

theorem unwait_leaves (s : State) (x : Exec) :
    Leaves [.scn] [] s (unwait s x) := by
  unfold unwait
  exact Leaves.one (Leaves.set_scn _ _) rfl rfl

theorem dispatch_leaves (s : State) :
    Leaves [.scn] [] s (dispatch s) := by
  unfold dispatch
  split
  · split
    · exact Leaves.one (Leaves.set_scn _ _) rfl rfl
    · exact Leaves.refl ..
  · split
    · extract_lets -merge +onlyGivenNames x0
      refine Leaves.have x0 (by unfold x0; exact Leaves.one (unwait_leaves ..) rfl rfl) fun hx0 => ?_
      try clear_value x0
      exact Leaves.step (Leaves.set_scn _ _) hx0 rfl rfl
    · refine Leaves.ite ?_ ?_
      · extract_lets -merge +onlyGivenNames x1
        refine Leaves.have x1 (by unfold x1; exact Leaves.one (unwait_leaves ..) rfl rfl) fun hx1 => ?_
        try clear_value x1
        exact Leaves.step (Leaves.set_scn _ _) hx1 rfl rfl
      · exact Leaves.one (Leaves.set_scn _ _) rfl rfl
    · refine Leaves.ite ?_ ?_
      · extract_lets -merge +onlyGivenNames x2
        refine Leaves.have x2 (by unfold x2; exact Leaves.one (unwait_leaves ..) rfl rfl) fun hx2 => ?_
        try clear_value x2
        exact Leaves.step (Leaves.set_scn _ _) hx2 rfl rfl
      · exact Leaves.refl ..

theorem releaseTask_leaves (s : State) (task : Nat) (src : Nat) (snap : Option Nat) :
    Leaves [.time, .ring, .sto, .int, .mbx, .img, .scn, .prg, .fld, .pair] [F.objANG_EV, F.objINT_LATCH, F.objINT_STAT,
      F.objINT_STATE, F.objINT_STORMED, F.objMBX_QUEUES, F.objMBX_USE, F.objPLT_PSTATE, F.objPRG_ACT, F.objREC_STAT,
      F.objSCN_MODE, F.objSCN_TSTAT] s (releaseTask s task src snap) := by
  unfold releaseTask
  refine Leaves.ite ?_ ?_
  · exact Leaves.refl ..
  · refine Leaves.ite ?_ ?_
    · exact Leaves.step (countSkip_leaves ..) (Leaves.one (abandonIdle_leaves ..) rfl rfl) rfl rfl
    · extract_lets -merge +onlyGivenNames x0
      refine Leaves.have x0 (by unfold x0; exact Leaves.one (abandonIdle_leaves ..) rfl rfl) fun hx0 => ?_
      try clear_value x0
      extract_lets -merge +onlyGivenNames x1
      try clear_value x1
      refine Leaves.ite ?_ ?_
      · exact Leaves.step (Leaves.set_prg _ _) hx0 rfl rfl
      · exact Leaves.step (dispatch_leaves ..) (Leaves.step (Leaves.set_scn _ _) hx0 rfl rfl) rfl rfl

theorem clearFlag_leaves (s : State) (n : Nat) :
    Leaves [.int] [F.objDG_COS, F.objINT_LATCH, F.objPPR_WINSTAT] s (clearFlag s n) := by
  unfold clearFlag
  extract_lets -merge +onlyGivenNames x0 x1
  try clear_value x0
  refine Leaves.have x1 ?_ fun hx1 => ?_
  · unfold x1
    refine Leaves.ite ?_ ?_
    · exact Leaves.one (State.wr_leaves ..) rfl rfl
    · exact Leaves.ite (Leaves.one (State.wr_leaves ..) rfl rfl) (Leaves.one (putLatch_leaves ..) rfl rfl)
  try clear_value x1
  exact Leaves.step (Leaves.set_int _ _) hx1 rfl rfl

theorem takeTask_leaves (s : State) (n : Nat) :
    Leaves [.time, .ring, .sto, .int, .mbx, .img, .scn, .prg, .fld, .pair] [F.objANG_EV, F.objDG_COS, F.objINT_LATCH,
      F.objINT_STAT, F.objINT_STATE, F.objINT_STORMED, F.objMBX_QUEUES, F.objMBX_USE, F.objPLT_PSTATE, F.objPPR_WINSTAT,
      F.objPRG_ACT, F.objREC_STAT, F.objSCN_MODE, F.objSCN_TSTAT] s (takeTask s n) := by
  unfold takeTask
  refine Leaves.ite ?_ ?_
  · exact Leaves.refl ..
  · refine Leaves.ite ?_ ?_
    · exact Leaves.step (State.inc_leaves ..) (Leaves.one (putSrc_leaves ..) rfl rfl) rfl rfl
    · refine Leaves.ite ?_ ?_
      · exact Leaves.refl ..
      · extract_lets -merge +onlyGivenNames x0 x1
        try clear_value x0
        refine Leaves.have x1 (by unfold x1; exact Leaves.one (clearFlag_leaves ..) rfl rfl) fun hx1 => ?_
        try clear_value x1
        refine Leaves.ite ?_ ?_
        · exact Leaves.step (State.inc_leaves ..) (Leaves.step (putSrc_leaves ..) hx1 rfl rfl) rfl rfl
        · refine Leaves.ite ?_ ?_
          · exact Leaves.step (countSkip_leaves ..) (Leaves.step (putSrc_leaves ..) hx1 rfl rfl) rfl rfl
          · extract_lets -merge +onlyGivenNames x2
            refine Leaves.have x2 (by unfold x2; exact Leaves.step (putSrc_leaves ..) hx1 rfl rfl) fun hx2 => ?_
            try clear_value x2
            extract_lets -merge +onlyGivenNames x3 x4
            try clear_value x3
            refine Leaves.have x4 (by unfold x4; exact Leaves.step (Leaves.set_int _ _) hx2 rfl rfl) fun hx4 => ?_
            try clear_value x4
            exact Leaves.step (releaseTask_leaves ..) hx4 rfl rfl

theorem srcEvent_leaves {P : List Part} {O : List Nat} {s : State} {n : Nat} {already : Bool} {set : State → State}
    (h : ∀ t, Leaves P O t (set t))
    (hp : [Part.time, .ring, .sto, .int, .mbx, .img, .scn, .prg, .fld, .pair].all (P.contains ·) = true)
    (ho : [F.objANG_EV, F.objDG_COS, F.objINT_LATCH, F.objINT_STAT, F.objINT_STATE, F.objINT_STORMED, F.objMBX_QUEUES,
      F.objMBX_USE, F.objPLT_PSTATE, F.objPPR_WINSTAT, F.objPRG_ACT, F.objREC_STAT, F.objSCN_MODE, F.objSCN_TSTAT].all
        (O.contains ·) = true) : Leaves P O s (srcEvent s n already set) := by
  simp only [List.all_cons, List.all_nil, Bool.and_true, Bool.and_eq_true] at hp ho
  unfold srcEvent
  refine Leaves.ite ?_ ?_
  · refine Leaves.step (countSkip_leaves ..) (Leaves.step (State.inc_leaves ..) (Leaves.refl ..) rfl ?_) ?_ ?_ <;>
      simp only [List.all_cons, List.all_nil, Bool.and_true, Bool.and_eq_true] <;> tauto
  · refine Leaves.step (takeTask_leaves ..) (Leaves.step (hostSync_leaves ..) (h _) ?_ ?_) ?_ ?_ <;>
      simp only [List.all_cons, List.all_nil, Bool.and_true, Bool.and_eq_true] <;> tauto

theorem act_leaves (s : State) (e : Nat) (angle : Nat) (t : Nat) (late : Bool) :
    Leaves [.time, .ring, .sto, .int, .mbx, .img, .scn, .prg, .fld, .ana, .ang, .pair] [F.objAG_CONV, F.objANG_CAPPOS,
      F.objANG_EV, F.objANG_STATUS, F.objDG_CHSTAT, F.objDG_COS, F.objDG_GSTAT, F.objINT_LATCH, F.objINT_STAT,
      F.objINT_STATE, F.objINT_STORMED, F.objMBX_QUEUES, F.objMBX_USE, F.objPLT_PSTATE, F.objPPR_WINSTAT, F.objPRG_ACT,
      F.objREC_STAT, F.objSCN_MODE, F.objSCN_TSTAT] s (act s e angle t late).1 := by
  unfold act
  extract_lets -merge +onlyGivenNames x0 x1 x2 x3 x4
  try clear_value x0 x1 x2 x3 x4
  refine Leaves.ite1 ?_ ?_
  · exact Leaves.refl ..
  · split
    · exact Leaves.ite1 (Leaves.refl ..) (Leaves.one (outputAction_leaves ..) rfl rfl)
    · exact Leaves.ite1 (Leaves.refl ..) (Leaves.one (outputAction_leaves ..) rfl rfl)
    · extract_lets -merge +onlyGivenNames x5
      refine Leaves.have x5.1 ?_ fun hx5 => ?_
      · unfold x5
        exact Leaves.ite1 (Leaves.refl ..) (Leaves.one (outputAction_leaves ..) rfl rfl)
      try clear_value x5
      refine Leaves.ite1 ?_ ?_
      · extract_lets -merge +onlyGivenNames x6
        refine Leaves.have x6 (by unfold x6; exact hx5) fun hx6 => ?_
        try clear_value x6
        exact Leaves.step (Leaves.set_ang _ _) hx6 rfl rfl
      · exact hx5
    · refine Leaves.transR (Leaves.foldl _ _ (fun y7 z7 _ => by
        exact Leaves.ite (Leaves.one (trigger_leaves ..) rfl rfl) (Leaves.refl ..)
        ) _) ?_
      exact Leaves.refl ..
    · extract_lets -merge +onlyGivenNames x8
      try clear_value x8
      exact Leaves.one (putCapture_leaves ..) rfl rfl
    · exact Leaves.one (releaseTask_leaves ..) rfl rfl
    · refine Leaves.transR (srcEvent_leaves (fun y9 => by
        exact Leaves.one (putLatch_leaves ..) rfl rfl
        ) rfl rfl) ?_
      exact Leaves.refl ..
    · exact Leaves.refl ..

theorem refuse_leaves (s : State) (code : Nat) :
    Leaves [] [] s (refuse s code).1 := by
  unfold refuse
  exact Leaves.refl ..

theorem gate_leaves {P : List Part} {O : List Nat} {w : Win} {b s : State} {k : State × Ans} (h0 : Leaves P O b s)
    (h : Leaves P O b k.1) : Leaves P O b (gate w s k).1 := by
  unfold gate
  split
  · exact h0
  · exact h

theorem gate_keeps {P : List Part} {w : Win} {b s : State} {k : State × Ans} (h0 : Keeps P b s) (h : Keeps P b k.1) :
    Keeps P b (gate w s k).1 := by
  unfold gate
  split
  · exact h0
  · exact h

theorem startHdl_leaves (s : State) (k : Nat) :
    Leaves [.mbx] [] s (startHdl s k) := by
  unfold startHdl
  split
  · exact Leaves.one (putHdl_leaves ..) rfl rfl
  · exact Leaves.refl ..

theorem putAct_leaves (s : State) (a : Option Act) :
    Leaves [.prg] [] s (putAct s a) := by
  unfold putAct
  exact Leaves.one (Leaves.set_prg _ _) rfl rfl

theorem pairSub_leaves (s : State) (ptype : Nat) (body : List Nat) :
    Leaves [.ring] [] s (pairSub s ptype body) := by
  unfold pairSub
  exact Leaves.one (queueSub_leaves ..) rfl rfl

theorem activate_leaves (c : Cmd) (a1 : Session) (s : State) :
    Leaves [.ring, .mbx, .prg] [F.objPRG_ACT] s (activate c a1 s).1 := by
  unfold activate
  extract_lets -merge +onlyGivenNames x0 x1 x2
  try clear_value x0 x1 x2
  refine Leaves.ite1 ?_ ?_
  · exact Leaves.one (refuse_leaves ..) rfl rfl
  · refine gate_leaves ?_ ?_
    · exact Leaves.refl ..
    · split
      · exact Leaves.one (refuse_leaves ..) rfl rfl
      · exact Leaves.refl ..

theorem setBankSt_leaves (s : State) (k : Nat) (v : Nat) :
    Leaves [] [F.objPRG_BANKA, F.objPRG_BANKB] s (setBankSt s k v) := by
  unfold setBankSt
  refine Leaves.step (State.wr_leaves ..) ?_ rfl (by unfold Sys2Proof.Machine.bankFld; (try dsimp only); first | rfl | (simp only [List.all_cons, List.all_nil, Bool.and_true]; (repeat' split) <;> rfl))
  exact Leaves.refl ..

theorem persistReg_leaves (s : State) :
    Leaves [] [F.objSCN_MODE] s (persistReg s) := by
  unfold persistReg
  exact Leaves.one (State.wr_leaves ..) rfl rfl

theorem takeTables_leaves (s : State) (b : Bank) :
    Leaves [] [F.objSCN_MODE, F.objSCN_RETAIN, F.objSCN_T] s (takeTables s b) := by
  unfold takeTables
  extract_lets -merge +onlyGivenNames x0
  refine Leaves.have x0 ?_ fun hx0 => ?_
  · unfold x0
    refine Leaves.transR (Leaves.foldl _ _ (fun y1 z1 _ => by
      extract_lets -merge +onlyGivenNames x2
      try clear_value x2
      refine Leaves.step (State.wr_leaves ..) ?_ rfl rfl
      refine Leaves.step (State.wr_leaves ..) ?_ rfl rfl
      refine Leaves.step (State.wr_leaves ..) ?_ rfl rfl
      exact Leaves.step (State.wr_leaves ..) (Leaves.one (State.wr_leaves ..) rfl rfl) rfl rfl
      ) _) ?_
    exact Leaves.refl ..
  try clear_value x0
  extract_lets -merge +onlyGivenNames x3
  refine Leaves.have x3 ?_ fun hx3 => ?_
  · unfold x3
    refine Leaves.transR (Leaves.foldl _ _ (fun y4 z4 _ => by
      extract_lets -merge +onlyGivenNames x5
      try clear_value x5
      refine Leaves.step (State.wrE_leaves ..) ?_ rfl rfl
      exact Leaves.step (State.wrE_leaves ..) (Leaves.one (State.wrE_leaves ..) rfl rfl) rfl rfl
      ) _) ?_
    exact hx0
  try clear_value x3
  exact Leaves.step (persistReg_leaves ..) hx3 rfl rfl

theorem activateBank_leaves (s : State) (k : Nat) :
    Leaves [.prg] [F.objPRG_ACT, F.objPRG_BANKA, F.objPRG_BANKB, F.objSCN_MODE, F.objSCN_RETAIN, F.objSCN_T] s
      (activateBank s k) := by
  unfold activateBank
  extract_lets -merge +onlyGivenNames x0
  refine Leaves.have x0 ?_ fun hx0 => ?_
  · unfold x0
    split
    · exact Leaves.one (setBankSt_leaves ..) rfl rfl
    · exact Leaves.refl ..
  try clear_value x0
  extract_lets -merge +onlyGivenNames x1
  refine Leaves.have x1 ?_ fun hx1 => ?_
  · unfold x1
    exact Leaves.step (State.wr_leaves ..) (Leaves.step (setBankSt_leaves ..) hx0 rfl rfl) rfl rfl
  try clear_value x1
  exact Leaves.step (takeTables_leaves ..) (Leaves.step (Leaves.set_prg _ _) hx1 rfl rfl) rfl rfl

theorem noEffect_leaves (s : State) :
    Leaves [] [] s (noEffect s) := by
  unfold noEffect
  exact Leaves.refl ..

theorem putRec_leaves (s : State) (r : StoRec) :
    Leaves [.sto] [] s (putRec s r) := by
  unfold putRec
  extract_lets -merge +onlyGivenNames x0
  try clear_value x0
  exact Leaves.one (Leaves.set_sto _ _) rfl rfl

theorem inconsRegs_leaves (s : State) :
    Leaves [] [F.objSTO_STATUS] s (inconsRegs s) := by
  unfold inconsRegs
  exact Leaves.one (State.wr_leaves ..) rfl rfl

theorem setIncons_leaves (s : State) (key : Nat × Nat) (b : Bool) :
    Leaves [.sto] [F.objSTO_STATUS] s (setIncons s key b) := by
  unfold setIncons
  extract_lets -merge +onlyGivenNames x0
  try clear_value x0
  exact Leaves.step (inconsRegs_leaves ..) (Leaves.one (Leaves.set_sto _ _) rfl rfl) rfl rfl

theorem writeRec_leaves (s : State) (kind : Nat) (index : Nat) (setgen : Nat) (data : List Nat) :
    Leaves [.sto] [F.objSTO_STATUS] s (writeRec s kind index setgen data) := by
  unfold writeRec
  extract_lets -merge +onlyGivenNames x0 x1
  try clear_value x0
  extract_lets -merge +onlyGivenNames x2 x3 x4
  try clear_value x2 x3
  refine Leaves.have x4 (by unfold x4; exact Leaves.one (putRec_leaves ..) rfl rfl) fun hx4 => ?_
  try clear_value x4
  exact Leaves.ite hx4 (Leaves.step (setIncons_leaves ..) hx4 rfl rfl)

theorem finishActivation_leaves (s : State) (a : Act) :
    Leaves [.ring, .sto, .int, .mbx, .prg] [F.objINT_LATCH, F.objINT_STAT, F.objINT_STATE, F.objINT_STORMED,
      F.objMBX_QUEUES, F.objMBX_USE, F.objPRG_ACT, F.objREC_STAT] s (finishActivation s a) := by
  unfold finishActivation
  extract_lets -merge +onlyGivenNames x0
  refine Leaves.have x0 ?_ fun hx0 => ?_
  · unfold x0
    exact Leaves.step (State.wr_leaves ..) (Leaves.one (putAct_leaves ..) rfl rfl) rfl rfl
  try clear_value x0
  exact Leaves.ite hx0 (Leaves.step (finNum_leaves ..) hx0 rfl rfl)

theorem activationRecordWrite_leaves (s : State) :
    Leaves [.ring, .sto, .int, .mbx, .prg] [F.objINT_LATCH, F.objINT_STAT, F.objINT_STATE, F.objINT_STORMED,
      F.objMBX_QUEUES, F.objMBX_USE, F.objPRG_ACT, F.objREC_STAT, F.objSTO_STATUS] s (activationRecordWrite s) := by
  unfold activationRecordWrite
  split
  · exact Leaves.one (noEffect_leaves ..) rfl rfl
  · refine Leaves.ite ?_ ?_
    · exact Leaves.one (noEffect_leaves ..) rfl rfl
    · extract_lets -merge +onlyGivenNames x0
      refine Leaves.have x0 (by unfold x0; exact Leaves.one (writeRec_leaves ..) rfl rfl) fun hx0 => ?_
      try clear_value x0
      extract_lets -merge +onlyGivenNames x1 x2
      try clear_value x1
      refine Leaves.have x2 (by unfold x2; exact Leaves.step (Leaves.set_prg _ _) hx0 rfl rfl) fun hx2 => ?_
      try clear_value x2
      exact Leaves.ite (Leaves.step (putAct_leaves ..) hx2 rfl rfl) (Leaves.step (finishActivation_leaves ..) hx2 rfl rfl)

theorem setDom_leaves (s : State) (d : Nat) (st : Nat) (cause : Nat) :
    Leaves [.ring, .sto, .int, .ang] [F.objANG_CAPPOS, F.objANG_STATUS, F.objINT_LATCH, F.objINT_STAT, F.objINT_STATE,
      F.objINT_STORMED, F.objREC_STAT] s (setDom s d st cause) := by
  unfold setDom
  refine Leaves.ite ?_ ?_
  · exact Leaves.refl ..
  · extract_lets -merge +onlyGivenNames x0 x1
    try clear_value x0
    refine Leaves.have x1 (by unfold x1; exact Leaves.one (State.wr_leaves ..) rfl rfl) fun hx1 => ?_
    try clear_value x1
    extract_lets -merge +onlyGivenNames x2
    refine Leaves.have x2 (by unfold x2; exact Leaves.ite (Leaves.step (State.wr_leaves ..) hx1 rfl rfl) hx1) fun hx2 => ?_
    try clear_value x2
    extract_lets -merge +onlyGivenNames x3 x4
    try clear_value x3
    refine Leaves.have x4 (by unfold x4; exact Leaves.step (log_leaves ..) hx2 rfl rfl) fun hx4 => ?_
    try clear_value x4
    extract_lets -merge +onlyGivenNames x5
    refine Leaves.have x5 (by unfold x5; exact Leaves.step (putCapture_leaves ..) hx4 rfl rfl) fun hx5 => ?_
    try clear_value x5
    exact Leaves.step (setLatch_leaves ..) hx5 rfl rfl

theorem putEv_leaves (s : State) (e : Nat) (x : EvSt) :
    Leaves [.ang] [] s (putEv s e x) := by
  unfold putEv
  exact Leaves.one (Leaves.set_ang _ _) rfl rfl

theorem resumeEvents_leaves (s : State) (d : Nat) :
    Leaves [.ang] [F.objANG_EV] s (resumeEvents s d) := by
  unfold resumeEvents
  extract_lets -merge +onlyGivenNames x0
  try clear_value x0
  refine Leaves.transR (Leaves.foldl _ _ (fun y1 z1 _ => by
    refine Leaves.ite ?_ ?_
    · extract_lets -merge +onlyGivenNames x2
      try clear_value x2
      exact Leaves.step (putEv_leaves ..) (Leaves.one (State.wr_leaves ..) rfl rfl) rfl rfl
    · exact Leaves.refl ..
    ) _) ?_
  exact Leaves.refl ..

theorem enterSynced_leaves (s : State) (d : Nat) :
    Leaves [.ring, .sto, .int, .ang] [F.objANG_CAPPOS, F.objANG_EV, F.objANG_STATUS, F.objINT_LATCH, F.objINT_STAT,
      F.objINT_STATE, F.objINT_STORMED, F.objREC_STAT] s (enterSynced s d) := by
  unfold enterSynced
  exact Leaves.step (resumeEvents_leaves ..) (Leaves.one (setDom_leaves ..) rfl rfl) rfl rfl

theorem fit32_leaves (s : State) (v : Nat) :
    Leaves [.free] [] s (fit32 s v).2 := by
  unfold fit32
  exact Leaves.ite2 (Leaves.refl ..) (Leaves.one (State.useFree_leaves ..) rfl rfl)

theorem synPeriod_leaves (s : State) (d : Nat) :
    Leaves [.free] [F.objANG_PERIOD] s (synPeriod s d) := by
  unfold synPeriod
  extract_lets -merge +onlyGivenNames x0 x1
  try clear_value x0
  refine Leaves.have x1.2 (by unfold x1; exact Leaves.one (fit32_leaves ..) rfl rfl) fun hx1 => ?_
  try clear_value x1
  exact Leaves.step (State.wr_leaves ..) hx1 rfl rfl

theorem seek_leaves (s : State) (d : Nat) :
    Leaves [.ring, .sto, .int, .ang] [F.objANG_CAPPOS, F.objANG_STATUS, F.objINT_LATCH, F.objINT_STAT, F.objINT_STATE,
      F.objINT_STORMED, F.objREC_STAT] s (seek s d) := by
  unfold seek
  extract_lets -merge +onlyGivenNames x0 x1
  try clear_value x0 x1
  refine Leaves.step (setDom_leaves ..) ?_ rfl rfl
  exact Leaves.step (State.wr_leaves ..) (Leaves.one (putDom_leaves ..) rfl rfl) rfl rfl

theorem startDomain_leaves (s : State) (d : Nat) :
    Leaves [.ring, .sto, .int, .ang, .free] [F.objANG_CAPPOS, F.objANG_EV, F.objANG_PERIOD, F.objANG_STATUS,
      F.objINT_LATCH, F.objINT_STAT, F.objINT_STATE, F.objINT_STORMED, F.objREC_STAT] s (startDomain s d) := by
  unfold startDomain
  split
  · refine Leaves.step (setDom_leaves ..) ?_ rfl rfl
    exact Leaves.step (State.wr_leaves ..) (Leaves.one (putDom_leaves ..) rfl rfl) rfl rfl
  · extract_lets -merge +onlyGivenNames x0
    refine Leaves.have x0 (by unfold x0; exact Leaves.one (putDom_leaves ..) rfl rfl) fun hx0 => ?_
    try clear_value x0
    refine Leaves.step (enterSynced_leaves ..) ?_ rfl rfl
    exact Leaves.step (synPeriod_leaves ..) (Leaves.step (State.wr_leaves ..) hx0 rfl rfl) rfl rfl
  · exact Leaves.one (seek_leaves ..) rfl rfl

theorem suspend_leaves (s : State) (d : Nat) :
    Leaves [.ang] [F.objANG_EV] s (suspend s d) := by
  unfold suspend
  extract_lets -merge +onlyGivenNames x0
  refine Leaves.have x0 ?_ fun hx0 => ?_
  · unfold x0
    refine Leaves.transR (Leaves.foldl _ _ (fun y1 z1 _ => by
      exact Leaves.one (State.wr_leaves ..) rfl rfl
      ) _) ?_
    exact Leaves.refl ..
  try clear_value x0
  exact Leaves.step (Leaves.set_ang _ _) hx0 rfl rfl

theorem restartDomain_leaves (s : State) (d : Nat) :
    Leaves [.ring, .sto, .int, .ang, .free] [F.objANG_CAPPOS, F.objANG_EV, F.objANG_PERIOD, F.objANG_STATUS,
      F.objINT_LATCH, F.objINT_STAT, F.objINT_STATE, F.objINT_STORMED, F.objREC_STAT] s (restartDomain s d) := by
  unfold restartDomain
  refine Leaves.step (startDomain_leaves ..) ?_ rfl rfl
  exact Leaves.step (State.wr_leaves ..) (Leaves.one (suspend_leaves ..) rfl rfl) rfl rfl

theorem adChange_leaves (old : State) (s : State) (d : Nat) :
    Leaves [.ring, .sto, .int, .ang, .free] [F.objANG_CAPPOS, F.objANG_EV, F.objANG_PERIOD, F.objANG_STATUS,
      F.objINT_LATCH, F.objINT_STAT, F.objINT_STATE, F.objINT_STORMED, F.objREC_STAT] s (adChange old s d) := by
  unfold adChange
  exact Leaves.ite (Leaves.one (restartDomain_leaves ..) rfl rfl) (Leaves.one (State.wr_leaves ..) rfl rfl)

theorem addAge_leaves (s : State) (j : Nat) (t : Nat) :
    Leaves [.pwr] [] s (addAge s j t) := by
  unfold addAge
  exact Leaves.one (Leaves.set_pwr _ _) rfl rfl

theorem setLane_leaves (s : State) (k : Nat) (v : Nat) :
    Leaves [] [F.objPLT_LANE, F.objSCN_MODE] s (setLane s k v) := by
  unfold setLane
  extract_lets -merge +onlyGivenNames x0
  refine Leaves.have x0 ?_ fun hx0 => ?_
  · unfold x0
    refine Leaves.step (State.wr_leaves ..) ?_ rfl (by unfold Sys2Proof.Machine.laneStFld; (try dsimp only); first | rfl | (simp only [List.all_cons, List.all_nil, Bool.and_true]; (repeat' split) <;> rfl))
    exact Leaves.refl ..
  try clear_value x0
  exact Leaves.step (persistReg_leaves ..) (Leaves.step (State.wr_leaves ..) hx0 rfl rfl) rfl rfl

theorem updPlt_leaves (s : State) (f : PltSt → PltSt) :
    Leaves [.plt] [] s (updPlt s f) := by
  unfold updPlt
  exact Leaves.one (Leaves.set_plt _ _) rfl rfl

theorem admitRetry_leaves (k : Nat) (s : State) :
    Leaves [.plt] [F.objPLT_LANE, F.objSCN_MODE] s (admitRetry k s) := by
  unfold admitRetry
  split
  · refine Leaves.ite ?_ ?_
    · exact Leaves.step (setLane_leaves ..) (Leaves.one (updPlt_leaves ..) rfl rfl) rfl rfl
    · exact Leaves.one (noEffect_leaves ..) rfl rfl
  · exact Leaves.one (noEffect_leaves ..) rfl rfl

theorem advance_leaves (dt : Elapsed) (s : State) :
    Leaves [.time] [] s (advance dt s) := by
  unfold advance
  extract_lets -merge +onlyGivenNames x0
  try clear_value x0
  exact Leaves.one (Leaves.set_time _ _) rfl rfl

theorem afterChange_leaves (s : State) (n : Nat) :
    Leaves [.ring, .clk, .sto, .int] [F.objCLK_LOST_CYCLES, F.objINT_LATCH, F.objINT_STAT, F.objINT_STATE,
      F.objINT_STORMED, F.objREC_STAT] s (afterChange s n) := by
  unfold afterChange
  split
  · exact Leaves.refl ..
  · extract_lets -merge +onlyGivenNames x0 x1 x2
    try clear_value x0 x1
    refine Leaves.have x2 ?_ fun hx2 => ?_
    · unfold x2
      exact Leaves.step (State.wr_leaves ..) (Leaves.one (Leaves.set_clk _ _) rfl rfl) rfl rfl
    try clear_value x2
    exact Leaves.step (log_leaves ..) hx2 rfl rfl

theorem afterClear_leaves (s : State) (o : Nat) (i : Nat) :
    Leaves [.ring, .sto, .int] [F.objINT_STAT, F.objINT_STATE, F.objINT_STORMED, F.objREC_STAT] s (afterClear s o i) := by
  unfold afterClear
  extract_lets -merge +onlyGivenNames x0
  have hx0 : ∀ w1_0 w1_5, Leaves [.ring, .sto, .int] [F.objINT_STAT, F.objINT_STATE, F.objINT_STORMED, F.objREC_STAT] w1_5 (x0 w1_0 w1_5) := by
    intro w1_0 w1_5
    unfold x0
    refine Leaves.transR (Leaves.foldl _ _ (fun y1 z1 _ => by
      exact Leaves.one (hostSync_leaves ..) rfl rfl
      ) _) ?_
    exact Leaves.refl ..
  try clear_value x0
  refine Leaves.ite ?_ ?_
  · exact Leaves.one (hostSync_leaves ..) rfl rfl
  · refine Leaves.ite ?_ ?_
    · exact Leaves.transR (hx0 ..) (Leaves.refl ..)
    · refine Leaves.ite ?_ ?_
      · exact Leaves.one (hostSync_leaves ..) rfl rfl
      · refine Leaves.ite ?_ ?_
        · exact Leaves.one (hostSync_leaves ..) rfl rfl
        · refine Leaves.ite ?_ ?_
          · exact Leaves.one (hostSync_leaves ..) rfl rfl
          · refine Leaves.ite ?_ ?_
            · exact Leaves.one (hostSync_leaves ..) rfl rfl
            · refine Leaves.ite ?_ ?_
              · exact Leaves.one (hostSync_leaves ..) rfl rfl
              · exact Leaves.ite (Leaves.transR (hx0 ..) (Leaves.refl ..)) (Leaves.refl ..)

theorem clearRead_leaves {O : List Nat} (s : State) (d : ObjDef) (i lo hi : Nat)
    (h : ∀ r ∈ d.fields, r.acc = .rc → O.contains r.fld.obj = true) : Leaves [] O s (clearRead s d i lo hi) := by
  unfold clearRead
  refine Leaves.foldl _ _ (fun y r hr => ?_) _
  split
  · rename_i hc
    exact Leaves.step (State.wr_leaves ..) (Leaves.refl ..) rfl (by simpa using h r hr hc.1)
  · exact Leaves.refl ..

theorem afterRead_keeps (s : State) (t : Target) : Keeps [] s (afterRead s t) := by
  have hc : ∀ (d : ObjDef) i lo hi, Keeps [] s (clearRead s d i lo hi) := fun d i lo hi =>
    (clearRead_leaves (O := d.fields.map (·.fld.obj)) s d i lo hi
      (fun r hr _ => by simpa using List.mem_map_of_mem (f := fun r : FieldRow => r.fld.obj) hr)).1
  unfold afterRead
  split
  · exact Keeps.ite (State.wr_leaves ..).1 (Keeps.refl _ _)
  · exact hc _ _ _ _

theorem putAch_leaves (s : State) (c : Nat) (x : AnCh) :
    Leaves [.ana] [] s (putAch s c x) := by
  unfold putAch
  exact Leaves.one (Leaves.set_ana _ _) rfl rfl

theorem agChange_leaves (old : State) (s : State) (c : Nat) :
    Leaves [.ana] [F.objAG_CHSTAT] s (agChange old s c) := by
  unfold agChange
  extract_lets -merge +onlyGivenNames x0 x1 x2 x3
  try clear_value x0 x1 x2
  refine Leaves.have x3 ?_ fun hx3 => ?_
  · unfold x3
    exact Leaves.ite (Leaves.step (State.wr_leaves ..) (Leaves.one (putAch_leaves ..) rfl rfl) rfl rfl) (Leaves.refl ..)
  try clear_value x3
  exact Leaves.ite (Leaves.step (putAslot_leaves ..) hx3 rfl rfl) hx3

theorem setDie_leaves (s : State) (g : Nat) (b : Bool) :
    Leaves [.clk] [] s (setDie s g b) := by
  unfold setDie
  exact Leaves.one (Leaves.set_clk _ _) rfl rfl

theorem agSync_leaves (s : State) (g : Nat) :
    Leaves [.ring, .sto, .int] [F.objAG_GSTAT, F.objINT_STAT, F.objINT_STATE, F.objINT_STORMED, F.objREC_STAT] s (agSync s
      g) := by
  unfold agSync
  extract_lets -merge +onlyGivenNames x0 x1
  try clear_value x0
  refine Leaves.have x1 (by unfold x1; exact Leaves.one (State.wr_leaves ..) rfl rfl) fun hx1 => ?_
  try clear_value x1
  extract_lets -merge +onlyGivenNames x2
  refine Leaves.have x2 (by unfold x2; exact Leaves.step (State.wr_leaves ..) hx1 rfl rfl) fun hx2 => ?_
  try clear_value x2
  extract_lets -merge +onlyGivenNames x3
  refine Leaves.have x3 (by unfold x3; exact Leaves.step (State.wr_leaves ..) hx2 rfl rfl) fun hx3 => ?_
  try clear_value x3
  extract_lets -merge +onlyGivenNames x4
  refine Leaves.have x4 (by unfold x4; exact Leaves.step (State.wr_leaves ..) hx3 rfl rfl) fun hx4 => ?_
  try clear_value x4
  extract_lets -merge +onlyGivenNames x5
  refine Leaves.have x5 (by unfold x5; exact Leaves.step (State.wr_leaves ..) hx4 rfl rfl) fun hx5 => ?_
  try clear_value x5
  extract_lets -merge +onlyGivenNames x6
  refine Leaves.have x6 (by unfold x6; exact Leaves.step (State.wr_leaves ..) hx5 rfl rfl) fun hx6 => ?_
  try clear_value x6
  extract_lets -merge +onlyGivenNames x7
  refine Leaves.have x7 (by unfold x7; exact Leaves.step (State.wr_leaves ..) hx6 rfl rfl) fun hx7 => ?_
  try clear_value x7
  extract_lets -merge +onlyGivenNames x8
  refine Leaves.have x8 (by unfold x8; exact Leaves.step (State.wr_leaves ..) hx7 rfl rfl) fun hx8 => ?_
  try clear_value x8
  extract_lets -merge +onlyGivenNames x9
  refine Leaves.have x9 (by unfold x9; exact Leaves.step (State.wr_leaves ..) hx8 rfl rfl) fun hx9 => ?_
  try clear_value x9
  extract_lets -merge +onlyGivenNames x10
  refine Leaves.have x10 (by unfold x10; exact Leaves.step (State.wr_leaves ..) hx9 rfl rfl) fun hx10 => ?_
  try clear_value x10
  extract_lets -merge +onlyGivenNames x11
  refine Leaves.have x11 (by unfold x11; exact Leaves.step (State.wr_leaves ..) hx10 rfl rfl) fun hx11 => ?_
  try clear_value x11
  extract_lets -merge +onlyGivenNames x12
  refine Leaves.have x12 (by unfold x12; exact Leaves.step (State.wr_leaves ..) hx11 rfl rfl) fun hx12 => ?_
  try clear_value x12
  exact Leaves.step (hostSync_leaves ..) (Leaves.step (State.wr_leaves ..) hx12 rfl rfl) rfl rfl

theorem updAgg_leaves (s : State) (g : Nat) (f : AnGrp → AnGrp) :
    Leaves [.ring, .sto, .int, .ana] [F.objAG_GSTAT, F.objINT_STAT, F.objINT_STATE, F.objINT_STORMED, F.objREC_STAT] s
      (updAgg s g f) := by
  unfold updAgg
  exact Leaves.step (agSync_leaves ..) (Leaves.one (putAgg_leaves ..) rfl rfl) rfl rfl

theorem agPowerLoss_leaves (s : State) (g : Nat) :
    Leaves [.ring, .clk, .sto, .int, .ana] [F.objAG_CHSTAT, F.objAG_GSTAT, F.objCLK_START, F.objINT_STAT, F.objINT_STATE,
      F.objINT_STORMED, F.objREC_STAT] s (agPowerLoss s g) := by
  unfold agPowerLoss
  extract_lets -merge +onlyGivenNames x0
  refine Leaves.have x0 ?_ fun hx0 => ?_
  · unfold x0
    exact Leaves.step (setDie_leaves ..) (Leaves.one (State.wr_leaves ..) rfl rfl) rfl rfl
  try clear_value x0
  extract_lets -merge +onlyGivenNames x1
  refine Leaves.have x1 (by unfold x1; exact Leaves.step (updAgg_leaves ..) hx0 rfl rfl) fun hx1 => ?_
  try clear_value x1
  refine Leaves.transR (Leaves.foldl _ _ (fun y2 z2 _ => by
    extract_lets -merge +onlyGivenNames x3
    try clear_value x3
    exact Leaves.step (State.wr_leaves ..) (Leaves.one (putAch_leaves ..) rfl rfl) rfl rfl
    ) _) ?_
  exact hx1

theorem ageRegs_leaves (s : State) :
    Leaves [] [F.objPWR_SENSE] s (ageRegs s) := by
  unfold ageRegs
  extract_lets -merge +onlyGivenNames x0
  try clear_value x0
  exact Leaves.step (State.wr_leaves ..) (Leaves.one (State.wr_leaves ..) rfl rfl) rfl rfl

theorem ringSoon_leaves (s : State) (k : Nat) (v : Nat) :
    Leaves [.sto] [] s (ringSoon s k v) := by
  unfold ringSoon
  refine Leaves.ite ?_ ?_
  · exact Leaves.step (ringUpdate_leaves ..) (Leaves.one (Leaves.set_sto _ _) rfl rfl) rfl rfl
  · exact Leaves.one (Leaves.set_sto _ _) rfl rfl

theorem ageRingUpdate_leaves (s : State) :
    Leaves [.sto, .pwr] [] s (ageRingUpdate s) := by
  unfold ageRingUpdate
  refine Leaves.ite ?_ ?_
  · exact Leaves.one (noEffect_leaves ..) rfl rfl
  · refine Leaves.transR (Leaves.foldl _ _ (fun y0 z0 _ => by
      exact Leaves.one (ringSoon_leaves ..) rfl rfl
      ) _) ?_
    exact Leaves.one (Leaves.set_pwr _ _) rfl rfl

theorem ageingSample_leaves (tl : Nat) (td : List Nat) (ta : List Nat) (s : State) :
    Leaves [.pwr] [F.objPWR_SENSE, F.objPWR_STATUS] s (ageingSample tl td ta s) := by
  unfold ageingSample
  refine Leaves.ite ?_ ?_
  · exact Leaves.one (noEffect_leaves ..) rfl rfl
  · extract_lets -merge +onlyGivenNames x0 x1
    try clear_value x0
    refine Leaves.have x1 ?_ fun hx1 => ?_
    · unfold x1
      exact Leaves.step (addAge_leaves ..) (Leaves.one (Leaves.set_pwr _ _) rfl rfl) rfl rfl
    try clear_value x1
    extract_lets -merge +onlyGivenNames x2
    refine Leaves.have x2 ?_ fun hx2 => ?_
    · unfold x2
      refine Leaves.transR (Leaves.foldl _ _ (fun y3 z3 _ => by
        exact Leaves.ite (Leaves.one (addAge_leaves ..) rfl rfl) (Leaves.refl ..)
        ) _) ?_
      exact hx1
    try clear_value x2
    extract_lets -merge +onlyGivenNames x4
    refine Leaves.have x4 ?_ fun hx4 => ?_
    · unfold x4
      refine Leaves.transR (Leaves.foldl _ _ (fun y5 z5 _ => by
        exact Leaves.one (addAge_leaves ..) rfl rfl
        ) _) ?_
      exact hx2
    try clear_value x4
    extract_lets -merge +onlyGivenNames x6
    refine Leaves.have x6 ?_ fun hx6 => ?_
    · unfold x6
      exact Leaves.step (ageRegs_leaves ..) (Leaves.step (State.wr_leaves ..) hx4 rfl rfl) rfl rfl
    try clear_value x6
    exact Leaves.ite (Leaves.step (State.wr_leaves ..) hx6 rfl rfl) hx6

theorem allocHdl_leaves (s : State) (session : Nat) (clseq : Nat) (opcode : Nat) (op : LongOp) (usb : Bool) :
    Leaves [.mbx] [F.objMBX_USE] s (allocHdl s session clseq opcode op usb).1 := by
  unfold allocHdl
  extract_lets -merge +onlyGivenNames x0 x1 x2 x3 x4 x5
  try clear_value x0 x1 x2 x3 x4 x5
  exact Leaves.step (useRegs_leaves ..) (Leaves.one (Leaves.set_mbx _ _) rfl rfl) rfl rfl

theorem analogueDiag_leaves (c : Nat) (k : Nat) (present : Bool) (s : State) :
    Leaves [.ring, .sto, .int, .fld, .pair] [F.objAG_CHSTAT, F.objINT_LATCH, F.objINT_STAT, F.objINT_STATE,
      F.objINT_STORMED, F.objREC_STAT] s (analogueDiag c k present s) := by
  unfold analogueDiag
  refine Leaves.ite ?_ ?_
  · exact Leaves.one (noEffect_leaves ..) rfl rfl
  · refine Leaves.ite ?_ ?_
    · exact Leaves.ite (Leaves.one (aDiag_leaves ..) rfl rfl) (Leaves.one (noEffect_leaves ..) rfl rfl)
    · exact Leaves.one (aDiag_leaves ..) rfl rfl

theorem applyOut_leaves (s : State) (c : Nat) :
    Leaves [.ana] [] s (applyOut s c) := by
  unfold applyOut
  extract_lets -merge +onlyGivenNames x0
  try clear_value x0
  refine Leaves.ite ?_ ?_
  · extract_lets -merge +onlyGivenNames x1 x2 x3
    try clear_value x1 x2 x3
    exact Leaves.one (putAch_leaves ..) rfl rfl
  · exact Leaves.one (putAch_leaves ..) rfl rfl

theorem applyOuts_leaves (s : State) (g : Nat) :
    Leaves [.ana] [] s (applyOuts s g) := by
  unfold applyOuts
  refine Leaves.transR (Leaves.foldl _ _ (fun y0 z0 _ => by
    exact Leaves.one (applyOut_leaves ..) rfl rfl
    ) _) ?_
  exact Leaves.refl ..

theorem openAnalogue_leaves (s : State) :
    Leaves [.ring, .sto, .int, .ana] [F.objAG_GSTAT, F.objINT_STAT, F.objINT_STATE, F.objINT_STORMED, F.objREC_STAT] s
      (openAnalogue s) := by
  unfold openAnalogue
  refine Leaves.transR (Leaves.foldl _ _ (fun y0 z0 _ => by
    exact Leaves.ite (Leaves.step (applyOuts_leaves ..) (Leaves.one (updAgg_leaves ..) rfl rfl) rfl rfl) (Leaves.refl ..)
    ) _) ?_
  exact Leaves.refl ..

theorem released_leaves (s : State) :
    Leaves [.ring, .sto, .int, .ana, .pair] [F.objAG_GSTAT, F.objINT_STAT, F.objINT_STATE, F.objINT_STORMED,
      F.objREC_STAT] s (released s) := by
  unfold released
  refine Leaves.ite ?_ ?_
  · exact Leaves.step (openAnalogue_leaves ..) (Leaves.one (updPair_leaves ..) rfl rfl) rfl rfl
  · exact Leaves.one (noEffect_leaves ..) rfl rfl

theorem analogueGateTimeout_leaves (s : State) :
    Leaves [.ring, .sto, .int, .ana, .pair] [F.objAG_GSTAT, F.objINT_STAT, F.objINT_STATE, F.objINT_STORMED,
      F.objREC_STAT] s (analogueGateTimeout s) := by
  unfold analogueGateTimeout
  split
  · exact Leaves.ite (Leaves.one (released_leaves ..) rfl rfl) (Leaves.one (noEffect_leaves ..) rfl rfl)
  · exact Leaves.one (noEffect_leaves ..) rfl rfl

theorem dropCmds_leaves (s : State) (e : Nat) :
    Leaves [.ang] [] s (dropCmds s e) := by
  unfold dropCmds
  exact Leaves.one (Leaves.set_ang _ _) rfl rfl

theorem evLate_leaves (s : State) (e : Nat) :
    Leaves [] [F.objANG_EV, F.objANG_STATUS] s (evLate s e) := by
  unfold evLate
  exact Leaves.step (State.inc_leaves ..) (Leaves.one (State.wr_leaves ..) rfl rfl) rfl rfl

theorem fire_leaves (s : State) (e : Nat) (angle : Nat) (t : Nat) (late : Bool) :
    Leaves [.time, .ring, .sto, .int, .mbx, .img, .scn, .prg, .fld, .ana, .ang, .pair] [F.objAG_CONV, F.objANG_CAPPOS,
      F.objANG_EV, F.objANG_STATUS, F.objDG_CHSTAT, F.objDG_COS, F.objDG_GSTAT, F.objINT_LATCH, F.objINT_STAT,
      F.objINT_STATE, F.objINT_STORMED, F.objMBX_QUEUES, F.objMBX_USE, F.objPLT_PSTATE, F.objPPR_WINSTAT, F.objPRG_ACT,
      F.objREC_STAT, F.objSCN_MODE, F.objSCN_TSTAT] s (fire s e angle t late) := by
  unfold fire
  extract_lets -merge +onlyGivenNames x0
  refine Leaves.have x0 (by unfold x0; exact Leaves.one (dropCmds_leaves ..) rfl rfl) fun hx0 => ?_
  try clear_value x0
  extract_lets -merge +onlyGivenNames x1
  refine Leaves.have x1.1 (by unfold x1; exact Leaves.step (act_leaves ..) hx0 rfl rfl) fun hx1 => ?_
  try clear_value x1
  extract_lets -merge +onlyGivenNames x2
  refine Leaves.have x2 (by unfold x2; exact hx1) fun hx2 => ?_
  try clear_value x2
  extract_lets -merge +onlyGivenNames x3
  refine Leaves.have x3 ?_ fun hx3 => ?_
  · unfold x3
    exact Leaves.ite (Leaves.step (State.wr_leaves ..) (Leaves.step (State.wr_leaves ..) hx2 rfl rfl) rfl rfl) hx2
  try clear_value x3
  extract_lets -merge +onlyGivenNames x4 x5 x6
  try clear_value x4 x5
  refine Leaves.have x6 ?_ fun hx6 => ?_
  · unfold x6
    exact Leaves.ite (Leaves.step (putDom_leaves ..) (Leaves.step (evLate_leaves ..) hx3 rfl rfl) rfl rfl) hx3
  try clear_value x6
  extract_lets -merge +onlyGivenNames x7 x8
  try clear_value x7
  refine Leaves.have x8 (by unfold x8; exact Leaves.step (putEv_leaves ..) hx6 rfl rfl) fun hx8 => ?_
  try clear_value x8
  refine Leaves.ite ?_ ?_
  · exact Leaves.ite (Leaves.step (putEv_leaves ..) hx8 rfl rfl) hx8
  · exact Leaves.step (State.wr_leaves ..) hx8 rfl rfl

theorem angleAction_leaves (e : Nat) (s : State) :
    Leaves [.time, .ring, .sto, .int, .mbx, .img, .scn, .prg, .fld, .ana, .ang, .pair] [F.objAG_CONV, F.objANG_CAPPOS,
      F.objANG_EV, F.objANG_STATUS, F.objDG_CHSTAT, F.objDG_COS, F.objDG_GSTAT, F.objINT_LATCH, F.objINT_STAT,
      F.objINT_STATE, F.objINT_STORMED, F.objMBX_QUEUES, F.objMBX_USE, F.objPLT_PSTATE, F.objPPR_WINSTAT, F.objPRG_ACT,
      F.objREC_STAT, F.objSCN_MODE, F.objSCN_TSTAT] s (angleAction e s) := by
  unfold angleAction
  refine Leaves.ite ?_ ?_
  · exact Leaves.one (noEffect_leaves ..) rfl rfl
  · split
    · exact Leaves.ite (Leaves.one (fire_leaves ..) rfl rfl) (Leaves.one (noEffect_leaves ..) rfl rfl)
    · refine Leaves.ite ?_ ?_
      · split
        · exact Leaves.ite (Leaves.one (fire_leaves ..) rfl rfl) (Leaves.one (noEffect_leaves ..) rfl rfl)
        · exact Leaves.one (noEffect_leaves ..) rfl rfl
      · exact Leaves.one (noEffect_leaves ..) rfl rfl

theorem seekingEdge_leaves (s : State) (d : Nat) (t : Nat) (ref : Bool) (back : Bool) :
    Leaves [.ring, .sto, .int, .ang] [F.objANG_CAPPOS, F.objANG_EV, F.objANG_STATUS, F.objINT_LATCH, F.objINT_STAT,
      F.objINT_STATE, F.objINT_STORMED, F.objREC_STAT] s (seekingEdge s d t ref back) := by
  unfold seekingEdge
  extract_lets -merge +onlyGivenNames x0 x1 x2 x3 x4 x5 x6
  try clear_value x0 x1 x2 x3 x4 x5 x6
  refine Leaves.ite ?_ ?_
  · extract_lets -merge +onlyGivenNames x7 x8
    try clear_value x7
    refine Leaves.have x8 (by unfold x8; exact Leaves.one (putDom_leaves ..) rfl rfl) fun hx8 => ?_
    try clear_value x8
    extract_lets -merge +onlyGivenNames x9
    refine Leaves.have x9 (by unfold x9; exact Leaves.step (putDom_leaves ..) hx8 rfl rfl) fun hx9 => ?_
    try clear_value x9
    refine Leaves.ite ?_ ?_
    · exact Leaves.step (enterSynced_leaves ..) (Leaves.step (State.wr_leaves ..) hx9 rfl rfl) rfl rfl
    · exact Leaves.step (setDom_leaves ..) hx9 rfl rfl
  · exact Leaves.one (putDom_leaves ..) rfl rfl

theorem lossLevel_leaves (s : State) (d : Nat) (c : Nat × Bool) :
    Leaves [.ring, .sto, .int, .fld, .ang] [F.objANG_STATUS, F.objDG_CHSTAT, F.objDG_GSTAT, F.objINT_LATCH, F.objINT_STAT,
      F.objINT_STATE, F.objINT_STORMED, F.objREC_STAT] s (lossLevel s d c) := by
  unfold lossLevel
  extract_lets -merge +onlyGivenNames x0
  try clear_value x0
  refine Leaves.ite ?_ ?_
  · exact Leaves.refl ..
  · refine Leaves.ite ?_ ?_
    · exact Leaves.one (drive_leaves ..) rfl rfl
    · refine Leaves.ite ?_ ?_
      · exact Leaves.one (drive_leaves ..) rfl rfl
      · extract_lets -merge +onlyGivenNames x1
        refine Leaves.have x1 (by unfold x1; exact Leaves.one (boostShort_leaves ..) rfl rfl) fun hx1 => ?_
        try clear_value x1
        exact Leaves.ite hx1 (Leaves.step (drive_leaves ..) hx1 rfl rfl)

theorem enterLost_leaves (s : State) (d : Nat) (cause : Nat) :
    Leaves [.ring, .sto, .int, .fld, .ang] [F.objANG_CAPPOS, F.objANG_EV, F.objANG_STATUS, F.objDG_CHSTAT, F.objDG_GSTAT,
      F.objINT_LATCH, F.objINT_STAT, F.objINT_STATE, F.objINT_STORMED, F.objREC_STAT] s (enterLost s d cause) := by
  unfold enterLost
  extract_lets -merge +onlyGivenNames x0 x1
  try clear_value x0
  refine Leaves.have x1 (by unfold x1; exact Leaves.one (setDom_leaves ..) rfl rfl) fun hx1 => ?_
  try clear_value x1
  extract_lets -merge +onlyGivenNames x2 x3
  try clear_value x2
  refine Leaves.have x3 (by unfold x3; exact Leaves.step (putDom_leaves ..) hx1 rfl rfl) fun hx3 => ?_
  try clear_value x3
  refine Leaves.transR (Leaves.foldl _ _ (fun y4 z4 _ => by
    exact Leaves.one (lossLevel_leaves ..) rfl rfl
    ) _) ?_
  exact Leaves.step (suspend_leaves ..) hx3 rfl rfl

theorem finalise_leaves (s : State) (d : Nat) (t : Nat) :
    Leaves [.ang] [] s (finalise s d t) := by
  unfold finalise
  refine Leaves.transR (Leaves.foldl _ _ (fun y0 z0 _ => by
    refine Leaves.ite ?_ ?_
    · split
      · exact Leaves.ite (Leaves.one (Leaves.set_ang _ _) rfl rfl) (Leaves.refl ..)
      · exact Leaves.refl ..
    · exact Leaves.refl ..
    ) _) ?_
  exact Leaves.refl ..

theorem putAwin_leaves (s : State) (w : Nat) (x : WinSt) :
    Leaves [.ana] [] s (putAwin s w x) := by
  unfold putAwin
  exact Leaves.one (Leaves.set_ana _ _) rfl rfl

theorem winInit_leaves (s : State) (w : Nat) (settling : Bool) :
    Leaves [] [F.objPPR_WINSTAT] s (winInit s w settling) := by
  unfold winInit
  exact Leaves.ite (Leaves.one (State.wr_leaves ..) rfl rfl) (Leaves.refl ..)

theorem winEvent_leaves (s : State) (w : Nat) (leaving : Bool) (first : Bool) :
    Leaves [.time, .ring, .sto, .int, .mbx, .img, .scn, .prg, .fld, .pair] [F.objANG_EV, F.objDG_COS, F.objINT_LATCH,
      F.objINT_STAT, F.objINT_STATE, F.objINT_STORMED, F.objMBX_QUEUES, F.objMBX_USE, F.objPLT_PSTATE, F.objPPR_WINSTAT,
      F.objPRG_ACT, F.objREC_STAT, F.objSCN_MODE, F.objSCN_TSTAT] s (winEvent s w leaving first) := by
  unfold winEvent
  extract_lets -merge +onlyGivenNames x0
  try clear_value x0
  refine Leaves.ite ?_ ?_
  · extract_lets -merge +onlyGivenNames x1
    refine Leaves.have x1 ?_ fun hx1 => ?_
    · unfold x1
      exact Leaves.ite (Leaves.one (State.wr_leaves ..) rfl rfl) (Leaves.refl ..)
    try clear_value x1
    refine Leaves.transR (srcEvent_leaves (fun y2 => by
      exact Leaves.one (State.wr_leaves ..) rfl rfl
      ) rfl rfl) ?_
    exact hx1
  · exact Leaves.refl ..

theorem winValue_leaves (s : State) (w : Nat) (word : Nat) (valid : Bool) (settling : Bool) :
    Leaves [.time, .ring, .sto, .int, .mbx, .img, .scn, .prg, .fld, .ana, .pair] [F.objANG_EV, F.objDG_COS,
      F.objINT_LATCH, F.objINT_STAT, F.objINT_STATE, F.objINT_STORMED, F.objMBX_QUEUES, F.objMBX_USE, F.objPLT_PSTATE,
      F.objPPR_WINSTAT, F.objPRG_ACT, F.objREC_STAT, F.objSCN_MODE, F.objSCN_TSTAT] s (winValue s w word valid settling)
      := by
  unfold winValue
  extract_lets -merge +onlyGivenNames x0 x1
  try clear_value x0 x1
  refine Leaves.ite ?_ ?_
  · exact Leaves.step (putAwin_leaves ..) (Leaves.one (State.wr_leaves ..) rfl rfl) rfl rfl
  · extract_lets -merge +onlyGivenNames x2 x3 x4
    try clear_value x2 x3 x4
    refine Leaves.ite ?_ ?_
    · extract_lets -merge +onlyGivenNames x5 x6
      try clear_value x5
      refine Leaves.have x6 ?_ fun hx6 => ?_
      · unfold x6
        exact Leaves.step (putAwin_leaves ..) (Leaves.one (State.wr_leaves ..) rfl rfl) rfl rfl
      try clear_value x6
      extract_lets -merge +onlyGivenNames x7
      refine Leaves.have x7 (by unfold x7; exact Leaves.step (State.wr_leaves ..) hx6 rfl rfl) fun hx7 => ?_
      try clear_value x7
      exact Leaves.step (winInit_leaves ..) (Leaves.ite (Leaves.step (winEvent_leaves ..) hx7 rfl rfl) hx7) rfl rfl
    · extract_lets -merge +onlyGivenNames x8
      try clear_value x8
      split
      · exact Leaves.step (winInit_leaves ..) (Leaves.one (putAwin_leaves ..) rfl rfl) rfl rfl
      · extract_lets -merge +onlyGivenNames x9
        try clear_value x9
        refine Leaves.ite ?_ ?_
        · extract_lets -merge +onlyGivenNames x10
          refine Leaves.have x10 ?_ fun hx10 => ?_
          · unfold x10
            exact Leaves.step (putAwin_leaves ..) (Leaves.one (State.wr_leaves ..) rfl rfl) rfl rfl
          try clear_value x10
          exact Leaves.step (winInit_leaves ..) (Leaves.step (winEvent_leaves ..) hx10 rfl rfl) rfl rfl
        · exact Leaves.step (winInit_leaves ..) (Leaves.one (putAwin_leaves ..) rfl rfl) rfl rfl

theorem windows_leaves (s : State) (c : Nat) (word : Nat) (valid : Bool) (settling : Bool) :
    Leaves [.time, .ring, .sto, .int, .mbx, .img, .scn, .prg, .fld, .ana, .pair] [F.objANG_EV, F.objDG_COS,
      F.objINT_LATCH, F.objINT_STAT, F.objINT_STATE, F.objINT_STORMED, F.objMBX_QUEUES, F.objMBX_USE, F.objPLT_PSTATE,
      F.objPPR_WINSTAT, F.objPRG_ACT, F.objREC_STAT, F.objSCN_MODE, F.objSCN_TSTAT] s (windows s c word valid settling) :=
      by
  unfold windows
  refine Leaves.transR (Leaves.foldl _ _ (fun y0 z0 _ => by
    exact Leaves.ite (Leaves.one (winValue_leaves ..) rfl rfl) (Leaves.refl ..)
    ) _) ?_
  exact Leaves.refl ..

theorem handOver_leaves (s : State) (c : Nat) (check : Bool) :
    Leaves [.time, .ring, .sto, .int, .mbx, .img, .scn, .prg, .fld, .ana, .pair] [F.objAG_CHSTAT, F.objANG_EV,
      F.objDG_COS, F.objINT_LATCH, F.objINT_STAT, F.objINT_STATE, F.objINT_STORMED, F.objMBX_QUEUES, F.objMBX_USE,
      F.objPLT_PSTATE, F.objPPR_WINSTAT, F.objPRG_ACT, F.objREC_STAT, F.objSCN_MODE, F.objSCN_TSTAT] s (handOver s c
      check) := by
  unfold handOver
  extract_lets -merge +onlyGivenNames x0 x1 x2 x3 x4 x5 x6 x7 x8 x9
  try clear_value x0 x1 x2 x3 x4 x5 x6 x7 x8
  refine Leaves.have x9 (by unfold x9; exact Leaves.one (putAch_leaves ..) rfl rfl) fun hx9 => ?_
  try clear_value x9
  extract_lets -merge +onlyGivenNames x10 x11
  try clear_value x10
  refine Leaves.have x11 (by unfold x11; exact Leaves.ite (Leaves.step (aDiag_leaves ..) hx9 rfl rfl) hx9) fun hx11 => ?_
  try clear_value x11
  exact Leaves.step (windows_leaves ..) hx11 rfl rfl

theorem freeDiv_leaves (s : State) (a : ℤ) (b : ℤ) :
    Leaves [.free] [] s (freeDiv s a b).2 := by
  unfold freeDiv
  exact Leaves.ite2 (Leaves.refl ..) (Leaves.one (State.useFree_leaves ..) rfl rfl)

theorem mainsOut_leaves (s : State) (c : Nat) (e : Nat) :
    Leaves [.ana, .free] [] s (mainsOut s c e) := by
  unfold mainsOut
  extract_lets -merge +onlyGivenNames x0 x1 x2
  try clear_value x0 x1 x2
  split
  · exact Leaves.step (putAch_leaves ..) (Leaves.one (State.useFree_leaves ..) rfl rfl) rfl rfl
  · extract_lets -merge +onlyGivenNames x3
    refine Leaves.have x3.2 (by unfold x3; exact Leaves.one (freeDiv_leaves ..) rfl rfl) fun hx3 => ?_
    try clear_value x3
    exact Leaves.step (putAch_leaves ..) hx3 rfl rfl

theorem mainsEdge_leaves (s : State) (c : Nat) (e : Nat) :
    Leaves [.time, .ring, .sto, .int, .mbx, .img, .scn, .prg, .fld, .ana, .pair, .free] [F.objAG_CHSTAT, F.objANG_EV,
      F.objDG_COS, F.objINT_LATCH, F.objINT_STAT, F.objINT_STATE, F.objINT_STORMED, F.objMBX_QUEUES, F.objMBX_USE,
      F.objPLT_PSTATE, F.objPPR_WINSTAT, F.objPRG_ACT, F.objREC_STAT, F.objSCN_MODE, F.objSCN_TSTAT] s (mainsEdge s c e)
      := by
  unfold mainsEdge
  refine Leaves.ite ?_ ?_
  · exact Leaves.one (putAch_leaves ..) rfl rfl
  · exact Leaves.step (handOver_leaves ..) (Leaves.one (mainsOut_leaves ..) rfl rfl) rfl rfl

theorem domainEdge_leaves (s : State) (d : Nat) (e : Nat) :
    Leaves [.time, .ring, .sto, .int, .mbx, .img, .scn, .prg, .fld, .ana, .pair, .free] [F.objAG_CHSTAT, F.objANG_EV,
      F.objDG_COS, F.objINT_LATCH, F.objINT_STAT, F.objINT_STATE, F.objINT_STORMED, F.objMBX_QUEUES, F.objMBX_USE,
      F.objPLT_PSTATE, F.objPPR_STAT, F.objPPR_WINSTAT, F.objPRG_ACT, F.objREC_STAT, F.objSCN_MODE, F.objSCN_TSTAT] s
      (domainEdge s d e) := by
  unfold domainEdge
  refine Leaves.transR (Leaves.foldl _ _ (fun y0 z0 _ => by
    refine Leaves.ite ?_ ?_
    · exact Leaves.step (mainsEdge_leaves ..) (Leaves.one (State.wr_leaves ..) rfl rfl) rfl rfl
    · exact Leaves.refl ..
    ) _) ?_
  exact Leaves.refl ..

theorem referenceEdge_leaves (s : State) (d : Nat) (t : Nat) (iv : Nat) (dev : Bool) :
    Leaves [.time, .ring, .sto, .int, .mbx, .img, .scn, .prg, .fld, .ana, .ang, .pair, .free] [F.objAG_CHSTAT,
      F.objANG_CAPPOS, F.objANG_EV, F.objANG_PERIOD, F.objANG_STATUS, F.objDG_COS, F.objINT_LATCH, F.objINT_STAT,
      F.objINT_STATE, F.objINT_STORMED, F.objMBX_QUEUES, F.objMBX_USE, F.objPLT_PSTATE, F.objPPR_STAT, F.objPPR_WINSTAT,
      F.objPRG_ACT, F.objREC_STAT, F.objSCN_MODE, F.objSCN_TSTAT] s (referenceEdge s d t iv dev) := by
  unfold referenceEdge
  extract_lets -merge +onlyGivenNames x0 x1
  try clear_value x0
  refine Leaves.have x1.2 (by unfold x1; exact Leaves.one (fit32_leaves ..) rfl rfl) fun hx1 => ?_
  try clear_value x1
  extract_lets -merge +onlyGivenNames x2
  refine Leaves.have x2 (by unfold x2; exact Leaves.step (State.wr_leaves ..) hx1 rfl rfl) fun hx2 => ?_
  try clear_value x2
  extract_lets -merge +onlyGivenNames x3 x4 x5
  try clear_value x3 x4
  refine Leaves.have x5 (by unfold x5; exact Leaves.step (putDom_leaves ..) hx2 rfl rfl) fun hx5 => ?_
  try clear_value x5
  extract_lets -merge +onlyGivenNames x6
  refine Leaves.have x6 (by unfold x6; exact Leaves.ite (Leaves.step (enterSynced_leaves ..) hx5 rfl rfl) hx5) fun hx6 => ?_
  try clear_value x6
  exact Leaves.step (domainEdge_leaves ..) hx6 rfl rfl

theorem firePassed_leaves (s : State) (d : Nat) :
    Leaves [.time, .ring, .sto, .int, .mbx, .img, .scn, .prg, .fld, .ana, .ang, .pair] [F.objAG_CONV, F.objANG_CAPPOS,
      F.objANG_EV, F.objANG_STATUS, F.objDG_CHSTAT, F.objDG_COS, F.objDG_GSTAT, F.objINT_LATCH, F.objINT_STAT,
      F.objINT_STATE, F.objINT_STORMED, F.objMBX_QUEUES, F.objMBX_USE, F.objPLT_PSTATE, F.objPPR_WINSTAT, F.objPRG_ACT,
      F.objREC_STAT, F.objSCN_MODE, F.objSCN_TSTAT] s (firePassed s d) := by
  unfold firePassed
  extract_lets -merge +onlyGivenNames x0
  try clear_value x0
  refine Leaves.transR (Leaves.foldl _ _ (fun y1 z1 _ => by
    extract_lets -merge +onlyGivenNames x2
    try clear_value x2
    exact Leaves.ite (Leaves.one (fire_leaves ..) rfl rfl) (Leaves.refl ..)
    ) _) ?_
  exact Leaves.refl ..

theorem syncedEdge_leaves (s : State) (d : Nat) (t : Nat) (ref : Bool) (back : Bool) :
    Leaves [.time, .ring, .sto, .int, .mbx, .img, .scn, .prg, .fld, .ana, .ang, .pair, .free] [F.objAG_CHSTAT,
      F.objAG_CONV, F.objANG_CAPPOS, F.objANG_EV, F.objANG_PERIOD, F.objANG_STATUS, F.objDG_CHSTAT, F.objDG_COS,
      F.objDG_GSTAT, F.objINT_LATCH, F.objINT_STAT, F.objINT_STATE, F.objINT_STORMED, F.objMBX_QUEUES, F.objMBX_USE,
      F.objPLT_PSTATE, F.objPPR_STAT, F.objPPR_WINSTAT, F.objPRG_ACT, F.objREC_STAT, F.objSCN_MODE, F.objSCN_TSTAT] s
      (syncedEdge s d t ref back) := by
  unfold syncedEdge
  extract_lets -merge +onlyGivenNames x0 x1 x2 x3 x4 x5
  try clear_value x0 x1 x2 x3 x4
  refine Leaves.have x5 ?_ fun hx5 => ?_
  · unfold x5
    exact Leaves.ite (Leaves.step (putDom_leaves ..) (Leaves.one (State.inc_leaves ..) rfl rfl) rfl rfl) (Leaves.refl ..)
  try clear_value x5
  split
  · exact Leaves.step (enterLost_leaves ..) hx5 rfl rfl
  · extract_lets -merge +onlyGivenNames x6
    refine Leaves.have x6 (by unfold x6; exact Leaves.step (finalise_leaves ..) hx5 rfl rfl) fun hx6 => ?_
    try clear_value x6
    extract_lets -merge +onlyGivenNames x7 x8 x9 x10 x11 x12 x13
    try clear_value x7 x8 x9 x10 x11 x12
    refine Leaves.have x13 (by unfold x13; exact Leaves.step (putDom_leaves ..) hx6 rfl rfl) fun hx13 => ?_
    try clear_value x13
    extract_lets -merge +onlyGivenNames x14
    refine Leaves.have x14 (by unfold x14; exact Leaves.step (putDom_leaves ..) hx13 rfl rfl) fun hx14 => ?_
    try clear_value x14
    extract_lets -merge +onlyGivenNames x15
    refine Leaves.have x15 ?_ fun hx15 => ?_
    · unfold x15
      exact Leaves.ite (Leaves.step (referenceEdge_leaves ..) hx14 rfl rfl) hx14
    try clear_value x15
    exact Leaves.step (firePassed_leaves ..) hx15 rfl rfl

theorem domEdge_leaves (s : State) (d : Nat) (t : Nat) (back : Bool) :
    Leaves [.time, .ring, .sto, .int, .mbx, .img, .scn, .prg, .fld, .ana, .ang, .pair, .free] [F.objAG_CHSTAT,
      F.objAG_CONV, F.objANG_CAPPOS, F.objANG_EV, F.objANG_PERIOD, F.objANG_STATUS, F.objDG_CHSTAT, F.objDG_COS,
      F.objDG_GSTAT, F.objINT_LATCH, F.objINT_STAT, F.objINT_STATE, F.objINT_STORMED, F.objMBX_QUEUES, F.objMBX_USE,
      F.objPLT_PSTATE, F.objPPR_STAT, F.objPPR_WINSTAT, F.objPRG_ACT, F.objREC_STAT, F.objSCN_MODE, F.objSCN_TSTAT] s
      (domEdge s d t back) := by
  unfold domEdge
  extract_lets -merge +onlyGivenNames x0
  refine Leaves.have x0 (by unfold x0; exact Leaves.ite (Leaves.one (seek_leaves ..) rfl rfl) (Leaves.refl ..)) fun hx0 => ?_
  try clear_value x0
  extract_lets -merge +onlyGivenNames x1 x2
  try clear_value x1 x2
  split
  · exact Leaves.step (seekingEdge_leaves ..) hx0 rfl rfl
  · exact Leaves.step (syncedEdge_leaves ..) hx0 rfl rfl
  · exact Leaves.step (syncedEdge_leaves ..) hx0 rfl rfl
  · exact hx0

theorem signalEdge_leaves (s : State) (d : Nat) (sig : Nat) (t : Nat) (level : Bool) :
    Leaves [.time, .ring, .sto, .int, .mbx, .img, .scn, .prg, .fld, .ana, .ang, .pair, .free] [F.objAG_CHSTAT,
      F.objAG_CONV, F.objANG_CAPPOS, F.objANG_EV, F.objANG_PERIOD, F.objANG_STATUS, F.objDG_CHSTAT, F.objDG_COS,
      F.objDG_GSTAT, F.objINT_LATCH, F.objINT_STAT, F.objINT_STATE, F.objINT_STORMED, F.objMBX_QUEUES, F.objMBX_USE,
      F.objPLT_PSTATE, F.objPPR_STAT, F.objPPR_WINSTAT, F.objPRG_ACT, F.objREC_STAT, F.objSCN_MODE, F.objSCN_TSTAT] s
      (signalEdge s d sig t level) := by
  unfold signalEdge
  extract_lets -merge +onlyGivenNames x0 x1 x2 x3 x4
  try clear_value x0 x1 x2 x3
  refine Leaves.have x4 ?_ fun hx4 => ?_
  · unfold x4
    exact Leaves.ite (Leaves.one (putDom_leaves ..) rfl rfl) (Leaves.refl ..)
  try clear_value x4
  refine Leaves.ite ?_ ?_
  · extract_lets -merge +onlyGivenNames x5 x6 x7
    try clear_value x5 x6 x7
    refine Leaves.ite ?_ ?_
    · exact Leaves.step (domEdge_leaves ..) hx4 rfl rfl
    · exact Leaves.ite (Leaves.step (domEdge_leaves ..) hx4 rfl rfl) hx4
  · exact Leaves.ite (Leaves.step (domEdge_leaves ..) hx4 rfl rfl) hx4

theorem angleEdge_leaves (sig : Nat) (level : Bool) (s : State) :
    Leaves [.time, .ring, .sto, .int, .mbx, .img, .scn, .prg, .fld, .ana, .ang, .pair, .free] [F.objAG_CHSTAT,
      F.objAG_CONV, F.objANG_AI, F.objANG_CAPPOS, F.objANG_EV, F.objANG_PERIOD, F.objANG_STATUS, F.objDG_CHSTAT,
      F.objDG_COS, F.objDG_GSTAT, F.objINT_LATCH, F.objINT_STAT, F.objINT_STATE, F.objINT_STORMED, F.objMBX_QUEUES,
      F.objMBX_USE, F.objPLT_PSTATE, F.objPPR_STAT, F.objPPR_WINSTAT, F.objPRG_ACT, F.objREC_STAT, F.objSCN_MODE,
      F.objSCN_TSTAT] s (angleEdge sig level s) := by
  unfold angleEdge
  refine Leaves.ite ?_ ?_
  · exact Leaves.one (noEffect_leaves ..) rfl rfl
  · extract_lets -merge +onlyGivenNames x0 x1 x2
    try clear_value x0 x1
    refine Leaves.have x2 ?_ fun hx2 => ?_
    · unfold x2
      refine Leaves.step (State.wr_leaves ..) ?_ rfl (by (try dsimp only); first | rfl | (simp only [List.all_cons, List.all_nil, Bool.and_true]; (repeat' split) <;> rfl))
      exact Leaves.refl ..
    try clear_value x2
    refine Leaves.transR (Leaves.foldl _ _ (fun y3 z3 _ => by
      exact Leaves.one (signalEdge_leaves ..) rfl rfl
      ) _) ?_
    exact hx2

theorem refuseArm_leaves (s : State) (e : Nat) :
    Leaves [] [F.objANG_STATUS] s (refuseArm s e) := by
  unfold refuseArm
  exact Leaves.one (State.inc_leaves ..) rfl rfl

theorem arm_leaves (s : State) (e : Nat) (a : Nat) :
    Leaves [.time, .ring, .sto, .int, .mbx, .img, .scn, .prg, .fld, .ana, .ang, .pair] [F.objAG_CONV, F.objANG_CAPPOS,
      F.objANG_EV, F.objANG_STATUS, F.objDG_CHSTAT, F.objDG_COS, F.objDG_GSTAT, F.objINT_LATCH, F.objINT_STAT,
      F.objINT_STATE, F.objINT_STORMED, F.objMBX_QUEUES, F.objMBX_USE, F.objPLT_PSTATE, F.objPPR_WINSTAT, F.objPRG_ACT,
      F.objREC_STAT, F.objSCN_MODE, F.objSCN_TSTAT] s (arm s e a) := by
  unfold arm
  extract_lets -merge +onlyGivenNames x0 x1 x2
  try clear_value x0 x1 x2
  refine Leaves.ite ?_ ?_
  · exact Leaves.one (refuseArm_leaves ..) rfl rfl
  · refine Leaves.ite ?_ ?_
    · exact Leaves.step (State.wr_leaves ..) (Leaves.one (State.wr_leaves ..) rfl rfl) rfl rfl
    · extract_lets -merge +onlyGivenNames x3 x4
      try clear_value x3 x4
      refine Leaves.ite ?_ ?_
      · extract_lets -merge +onlyGivenNames x5 x6
        try clear_value x5
        refine Leaves.have x6 (by unfold x6; exact Leaves.one (State.wr_leaves ..) rfl rfl) fun hx6 => ?_
        try clear_value x6
        refine Leaves.ite ?_ ?_
        · exact Leaves.step (State.wr_leaves ..) hx6 rfl rfl
        · extract_lets -merge +onlyGivenNames x7
          refine Leaves.have x7 (by unfold x7; exact Leaves.step (State.wr_leaves ..) hx6 rfl rfl) fun hx7 => ?_
          try clear_value x7
          split
          · exact Leaves.step (putEv_leaves ..) hx7 rfl rfl
          · extract_lets -merge +onlyGivenNames x8 x9 x10
            try clear_value x8 x9
            refine Leaves.have x10 ?_ fun hx10 => ?_
            · unfold x10
              exact Leaves.step (putEv_leaves ..) (Leaves.step (dropCmds_leaves ..) hx7 rfl rfl) rfl rfl
            try clear_value x10
            extract_lets -merge +onlyGivenNames x11 x12
            try clear_value x11 x12
            exact Leaves.ite (Leaves.step (fire_leaves ..) hx10 rfl rfl) hx10
      · extract_lets -merge +onlyGivenNames x13
        try clear_value x13
        refine Leaves.ite ?_ ?_
        · extract_lets -merge +onlyGivenNames x14
          refine Leaves.have x14 ?_ fun hx14 => ?_
          · unfold x14
            exact Leaves.step (State.wr_leaves ..) (Leaves.one (State.wr_leaves ..) rfl rfl) rfl rfl
          try clear_value x14
          split
          · exact Leaves.step (putEv_leaves ..) hx14 rfl rfl
          · exact Leaves.step (putEv_leaves ..) (Leaves.step (dropCmds_leaves ..) hx14 rfl rfl) rfl rfl
        · refine Leaves.ite ?_ ?_
          · refine Leaves.step (fire_leaves ..) ?_ rfl rfl
            exact Leaves.step (State.wr_leaves ..) (Leaves.one (State.wr_leaves ..) rfl rfl) rfl rfl
          · exact Leaves.one (refuseArm_leaves ..) rfl rfl

theorem angleWrite_leaves (e : Nat) (a : Nat) (s : State) :
    Leaves [.time, .ring, .sto, .int, .mbx, .img, .scn, .prg, .fld, .ana, .ang, .pair] [F.objAG_CONV, F.objANG_CAPPOS,
      F.objANG_EV, F.objANG_STATUS, F.objDG_CHSTAT, F.objDG_COS, F.objDG_GSTAT, F.objINT_LATCH, F.objINT_STAT,
      F.objINT_STATE, F.objINT_STORMED, F.objMBX_QUEUES, F.objMBX_USE, F.objPLT_PSTATE, F.objPPR_WINSTAT, F.objPRG_ACT,
      F.objREC_STAT, F.objSCN_MODE, F.objSCN_TSTAT] s (angleWrite e a s) := by
  unfold angleWrite
  refine Leaves.ite ?_ ?_
  · exact Leaves.one (noEffect_leaves ..) rfl rfl
  · exact Leaves.ite (Leaves.one (State.wr_leaves ..) rfl rfl) (Leaves.one (arm_leaves ..) rfl rfl)

theorem answer_leaves (s : State) (c : Cmd) (r : Resp) (rep : Bool) :
    Leaves [.ring, .sto, .int, .mbx] [F.objINT_STAT, F.objINT_STATE, F.objINT_STORMED, F.objMBX_QUEUES, F.objREC_STAT] s
      (answer s c r rep) := by
  unfold answer
  exact Leaves.one (placeRecs_leaves ..) rfl rfl

theorem answerOnly_leaves (s : State) (c : Cmd) (status : Nat) :
    Leaves [.ring, .sto, .int, .mbx] [F.objINT_STAT, F.objINT_STATE, F.objINT_STORMED, F.objMBX_QUEUES, F.objREC_STAT] s
      (answerOnly s c status) := by
  unfold answerOnly
  exact Leaves.one (answer_leaves ..) rfl rfl

theorem applyAck_leaves (s : State) (a : Nat) (usb : Bool) :
    Leaves [.ring, .sto, .int, .mbx] [F.objINT_STAT, F.objINT_STATE, F.objINT_STORMED, F.objMBX_QUEUES, F.objMBX_USE,
      F.objREC_STAT] s (applyAck s a usb) := by
  unfold applyAck
  extract_lets -merge +onlyGivenNames x0
  try clear_value x0
  split
  · exact Leaves.refl ..
  · refine Leaves.ite ?_ ?_
    · extract_lets -merge +onlyGivenNames x1
      extract_lets -merge +onlyGivenNames x2 x3 x4 x5 x6
      try clear_value x2 x3 x4 x5 x6
      refine Leaves.step (queueRegs_leaves ..) ?_ rfl rfl
      refine Leaves.transR (Leaves.foldl _ _ (fun y7 z7 _ => by
        exact Leaves.one (freeHdl_leaves ..) rfl rfl
        ) _) ?_
      exact Leaves.one (Leaves.set_mbx _ _) rfl rfl
    · exact Leaves.refl ..

theorem forward_leaves (s : State) (f : RxFrame) (body : List Nat) (changed : Bool) :
    Leaves [.ring] [] s (forward s f body changed) := by
  unfold forward
  extract_lets -merge +onlyGivenNames x0 x1
  try clear_value x0 x1
  refine Leaves.ite ?_ ?_
  · exact Leaves.one (Leaves.set_ring _ _) rfl rfl
  · extract_lets -merge +onlyGivenNames x2 x3 x4 x5 x6
    try clear_value x2 x3 x4 x5 x6
    exact Leaves.one (Leaves.set_ring _ _) rfl rfl

theorem countFrame_leaves (s : State) (f : RxFrame) :
    Leaves [] [F.objNRL_PORTA_ERR, F.objNRL_PORTA_LINK, F.objNRL_PORTB_ERR, F.objNRL_PORTB_LINK] s (countFrame s f) := by
  unfold countFrame
  split
  · exact Leaves.refl ..
  · refine Leaves.step (State.inc_leaves ..) ?_ rfl (by unfold Sys2Proof.Machine.upstreamErr; (try dsimp only); first | rfl | (simp only [List.all_cons, List.all_nil, Bool.and_true]; (repeat' split) <;> rfl))
    exact Leaves.refl ..
  · refine Leaves.step (State.inc_leaves ..) ?_ rfl (by unfold Sys2Proof.Machine.crcErr; (try dsimp only); first | rfl | (simp only [List.all_cons, List.all_nil, Bool.and_true]; (repeat' split) <;> rfl))
    exact Leaves.refl ..

theorem pass_leaves (s : State) (f : RxFrame) :
    Leaves [.ring] [F.objNRL_PORTA_ERR, F.objNRL_PORTA_LINK, F.objNRL_PORTB_ERR, F.objNRL_PORTB_LINK] s (pass s f) := by
  unfold pass
  exact Leaves.step (forward_leaves ..) (Leaves.one (countFrame_leaves ..) rfl rfl) rfl rfl

theorem applyFrame_leaves {P : List Part} {O : List Nat} {s : State} {t : Nat} {f : RxFrame} {act : State → State × Nat}
    (h : ∀ t, Leaves P O t (act t).1) (hp : [Part.ring].all (P.contains ·) = true)
    (ho : [F.objNRL_FSEQ_HIGH, F.objNRL_PORTA_ERR, F.objNRL_PORTA_LINK, F.objNRL_PORTB_ERR, F.objNRL_PORTB_LINK].all
      (O.contains ·) = true) : Leaves P O s (applyFrame s t f act) := by
  simp only [List.all_cons, List.all_nil, Bool.and_true, Bool.and_eq_true] at hp ho
  have hpass : Leaves P O s (pass s f) := Leaves.step (pass_leaves ..) (Leaves.refl ..) (by simpa using hp) (by simpa using ho.2)
  unfold applyFrame
  exact Leaves.ite (Leaves.refl ..) (Leaves.ite (hpass.trans (ackFlow_leaves h (by simpa using hp) (by simpa using ho.1))) hpass)

theorem applyRestart_leaves (s : State) (restart : Nat) :
    Leaves [.scn] [] s (applyRestart s restart) := by
  unfold applyRestart
  extract_lets -merge +onlyGivenNames x0 x1
  try clear_value x0
  split
  · try unfold x1
    exact Leaves.one (Leaves.set_scn _ _) rfl rfl
  · try unfold x1
    exact Leaves.one (Leaves.set_scn _ _) rfl rfl
  · exact Leaves.refl ..

theorem firstState_leaves (s : State) (c : Nat) (level : Bool) :
    Leaves [.fld] [F.objDG_CHSTAT] s (firstState s c level) := by
  unfold firstState
  exact Leaves.step (State.wr_leaves ..) (Leaves.one (putDch_leaves ..) rfl rfl) rfl rfl

theorem pwmStart_leaves (s : State) (c : Nat) :
    Leaves [.ring, .sto, .int, .fld] [F.objDG_CHSTAT, F.objDG_GSTAT, F.objINT_STAT, F.objINT_STATE, F.objINT_STORMED,
      F.objREC_STAT] s (pwmStart s c) := by
  unfold pwmStart
  extract_lets -merge +onlyGivenNames x0 x1 x2
  try clear_value x0 x1
  refine Leaves.have x2 (by unfold x2; exact Leaves.one (putDch_leaves ..) rfl rfl) fun hx2 => ?_
  try clear_value x2
  exact Leaves.step (drive_leaves ..) hx2 rfl rfl

theorem driveSafe_leaves (s : State) (c : Nat) (kind : Nat) :
    Leaves [.ring, .sto, .int, .fld] [F.objDG_CHSTAT, F.objDG_GSTAT, F.objINT_STAT, F.objINT_STATE, F.objINT_STORMED,
      F.objREC_STAT] s (driveSafe s c kind) := by
  unfold driveSafe
  extract_lets -merge +onlyGivenNames x0 x1
  try clear_value x0 x1
  split
  · exact Leaves.one (drive_leaves ..) rfl rfl
  · exact Leaves.ite (Leaves.refl ..) (Leaves.one (drive_leaves ..) rfl rfl)
  · exact Leaves.ite (Leaves.refl ..) (Leaves.step (pwmStart_leaves ..) (Leaves.one (putDch_leaves ..) rfl rfl) rfl rfl)
  · exact Leaves.refl ..

theorem dgChange_leaves (level : Bool) (old : State) (s : State) (c : Nat) :
    Leaves [.ring, .sto, .int, .fld] [F.objDG_CHSTAT, F.objDG_GSTAT, F.objINT_STAT, F.objINT_STATE, F.objINT_STORMED,
      F.objREC_STAT] s (dgChange level old s c) := by
  unfold dgChange
  extract_lets -merge +onlyGivenNames x0 x1
  try clear_value x0
  refine Leaves.have x1 ?_ fun hx1 => ?_
  · unfold x1
    exact Leaves.ite (Leaves.step (State.wr_leaves ..) (Leaves.one (drive_leaves ..) rfl rfl) rfl rfl) (Leaves.refl ..)
  try clear_value x1
  extract_lets -merge +onlyGivenNames x2
  refine Leaves.have x2 (by unfold x2; exact Leaves.ite (Leaves.step (firstState_leaves ..) hx1 rfl rfl) hx1) fun hx2 => ?_
  try clear_value x2
  extract_lets -merge +onlyGivenNames x3
  try clear_value x3
  exact Leaves.ite (Leaves.step (driveSafe_leaves ..) hx2 rfl rfl) hx2

theorem winReset_leaves (s : State) (c : Nat) :
    Leaves [.ana] [] s (winReset s c) := by
  unfold winReset
  refine Leaves.transR (Leaves.foldl _ _ (fun y0 z0 _ => by
    exact Leaves.ite (Leaves.one (putAwin_leaves ..) rfl rfl) (Leaves.refl ..)
    ) _) ?_
  exact Leaves.refl ..

theorem syncReset_leaves (s : State) (c : Nat) :
    Leaves [.ana] [F.objPPR_STAT] s (syncReset s c) := by
  unfold syncReset
  extract_lets -merge +onlyGivenNames x0 x1
  try clear_value x0
  refine Leaves.have x1 (by unfold x1; exact Leaves.one (putAch_leaves ..) rfl rfl) fun hx1 => ?_
  try clear_value x1
  refine Leaves.step (winReset_leaves ..) ?_ rfl rfl
  exact Leaves.step (State.wr_leaves ..) (Leaves.step (State.wr_leaves ..) hx1 rfl rfl) rfl rfl

theorem posChange_leaves (old : State) (s : State) (g : Nat) :
    Leaves [.ana] [F.objPPR_STAT] s (posChange old s g) := by
  unfold posChange
  refine Leaves.transR (Leaves.foldl _ _ (fun y0 z0 _ => by
    refine Leaves.transR (Leaves.foldl _ _ (fun y1 z1 _ => by
      exact Leaves.one (syncReset_leaves ..) rfl rfl
      ) _) ?_
    exact Leaves.refl ..
    ) _) ?_
  exact Leaves.refl ..

theorem winChange_leaves (old : State) (s : State) (w : Nat) :
    Leaves [.ana] [] s (winChange old s w) := by
  unfold winChange
  exact Leaves.ite (Leaves.one (putAwin_leaves ..) rfl rfl) (Leaves.refl ..)

theorem disarm_leaves (s : State) (e : Nat) :
    Leaves [.ang] [F.objANG_EV] s (disarm s e) := by
  unfold disarm
  extract_lets -merge +onlyGivenNames x0
  refine Leaves.have x0 (by unfold x0; exact Leaves.one (State.wr_leaves ..) rfl rfl) fun hx0 => ?_
  try clear_value x0
  exact Leaves.step (Leaves.set_ang _ _) hx0 rfl rfl

theorem evChange_leaves (old : State) (s : State) (e : Nat) :
    Leaves [.ang] [F.objANG_EV] s (evChange old s e) := by
  unfold evChange
  exact Leaves.ite (Leaves.one (disarm_leaves ..) rfl rfl) (Leaves.refl ..)

theorem subsChange_leaves (old : State) (s : State) :
    Leaves [.img] [] s (subsChange old s) := by
  unfold subsChange
  extract_lets -merge +onlyGivenNames x0
  exact Leaves.one (Leaves.set_img _ _) rfl rfl

theorem refreshPair_leaves (s : State) :
    Leaves [.pair] [F.objPLT_PSTATE] s (refreshPair s) := by
  unfold refreshPair
  extract_lets -merge +onlyGivenNames x0 x1
  try clear_value x0
  refine Leaves.have x1 ?_ fun hx1 => ?_
  · unfold x1
    refine Leaves.step (State.wr_leaves ..) ?_ rfl rfl
    exact Leaves.step (State.wr_leaves ..) (Leaves.one (State.wr_leaves ..) rfl rfl) rfl rfl
  try clear_value x1
  exact Leaves.step (updPair_leaves ..) hx1 rfl rfl

theorem clearPresent_leaves (s : State) (c : Nat) (k : Nat) :
    Leaves [] [F.objDG_CHSTAT] s (clearPresent s c k) := by
  unfold clearPresent
  exact Leaves.one (State.wr_leaves ..) rfl rfl

theorem updDgg_leaves (s : State) (g : Nat) (f : DgGrp → DgGrp) :
    Leaves [.ring, .sto, .int, .fld] [F.objDG_GSTAT, F.objINT_STAT, F.objINT_STATE, F.objINT_STORMED, F.objREC_STAT] s
      (updDgg s g f) := by
  unfold updDgg
  exact Leaves.step (dgSync_leaves ..) (Leaves.one (putDgg_leaves ..) rfl rfl) rfl rfl

theorem releaseDg_leaves (s : State) (g : Nat) :
    Leaves [.ring, .sto, .int, .fld] [F.objDG_CHSTAT, F.objDG_GSTAT, F.objINT_STAT, F.objINT_STATE, F.objINT_STORMED,
      F.objREC_STAT] s (releaseDg s g) := by
  unfold releaseDg
  extract_lets -merge +onlyGivenNames x0
  refine Leaves.have x0 ?_ fun hx0 => ?_
  · unfold x0
    refine Leaves.transR (Leaves.foldl _ _ (fun y1 z1 _ => by
      extract_lets -merge +onlyGivenNames x2
      try clear_value x2
      refine Leaves.step (clearPresent_leaves ..) ?_ rfl rfl
      exact Leaves.step (clearPresent_leaves ..) (Leaves.one (stageOff_leaves ..) rfl rfl) rfl rfl
      ) _) ?_
    exact Leaves.refl ..
  try clear_value x0
  exact Leaves.step (updDgg_leaves ..) hx0 rfl rfl

theorem releaseDigital_leaves (s : State) :
    Leaves [.ring, .sto, .int, .fld] [F.objDG_CHSTAT, F.objDG_GSTAT, F.objINT_STAT, F.objINT_STATE, F.objINT_STORMED,
      F.objREC_STAT] s (releaseDigital s) := by
  unfold releaseDigital
  refine Leaves.transR (Leaves.foldl _ _ (fun y0 z0 _ => by
    exact Leaves.one (releaseDg_leaves ..) rfl rfl
    ) _) ?_
  exact Leaves.refl ..

theorem releaseAnalogue_leaves (s : State) :
    Leaves [.ring, .sto, .int, .ana] [F.objAG_GSTAT, F.objINT_STAT, F.objINT_STATE, F.objINT_STORMED, F.objREC_STAT] s
      (releaseAnalogue s) := by
  unfold releaseAnalogue
  refine Leaves.transR (Leaves.foldl _ _ (fun y0 z0 _ => by
    exact Leaves.step (applyOuts_leaves ..) (Leaves.one (updAgg_leaves ..) rfl rfl) rfl rfl
    ) _) ?_
  exact Leaves.refl ..

theorem standbyOutputs_leaves (s : State) :
    Leaves [.ring, .sto, .int, .fld, .ana] [F.objAG_GSTAT, F.objDG_CHSTAT, F.objDG_GSTAT, F.objINT_STAT, F.objINT_STATE,
      F.objINT_STORMED, F.objREC_STAT] s (standbyOutputs s) := by
  unfold standbyOutputs
  exact Leaves.step (releaseDigital_leaves ..) (Leaves.one (releaseAnalogue_leaves ..) rfl rfl) rfl rfl

theorem claim_leaves (s : State) (t : Nat) (lead : Nat) :
    Leaves [.pair] [] s (claim s t lead) := by
  unfold claim
  exact Leaves.ite (Leaves.refl ..) (Leaves.one (updPair_leaves ..) rfl rfl)

theorem finishDrill_leaves (s : State) (d : Drill) (returned : Bool) :
    Leaves [.ring, .sto, .int, .mbx, .pair] [F.objINT_LATCH, F.objINT_STAT, F.objINT_STATE, F.objINT_STORMED,
      F.objMBX_QUEUES, F.objMBX_USE, F.objPLT_PSTATE, F.objREC_STAT] s (finishDrill s d returned) := by
  unfold finishDrill
  extract_lets -merge +onlyGivenNames x0 x1 x2
  try clear_value x0 x1
  refine Leaves.have x2 ?_ fun hx2 => ?_
  · unfold x2
    exact Leaves.step (State.wr_leaves ..) (Leaves.one (updPair_leaves ..) rfl rfl) rfl rfl
  try clear_value x2
  exact Leaves.step (finNum_leaves ..) hx2 rfl rfl

theorem openDg_leaves (s : State) (g : Nat) :
    Leaves [.ring, .sto, .int, .fld] [F.objDG_CHSTAT, F.objDG_GSTAT, F.objINT_STAT, F.objINT_STATE, F.objINT_STORMED,
      F.objREC_STAT] s (openDg s g) := by
  unfold openDg
  refine Leaves.ite ?_ ?_
  · exact Leaves.refl ..
  · extract_lets -merge +onlyGivenNames x0
    refine Leaves.have x0 (by unfold x0; exact Leaves.one (updDgg_leaves ..) rfl rfl) fun hx0 => ?_
    try clear_value x0
    refine Leaves.transR (Leaves.foldl _ _ (fun y1 z1 _ => by
      extract_lets -merge +onlyGivenNames x2
      try clear_value x2
      split
      · exact Leaves.one (drive_leaves ..) rfl rfl
      · exact Leaves.one (pwmStart_leaves ..) rfl rfl
      · exact Leaves.refl ..
      ) _) ?_
    exact hx0

theorem openDigital_leaves (s : State) :
    Leaves [.ring, .sto, .int, .fld] [F.objDG_CHSTAT, F.objDG_GSTAT, F.objINT_STAT, F.objINT_STATE, F.objINT_STORMED,
      F.objREC_STAT] s (openDigital s) := by
  unfold openDigital
  refine Leaves.transR (Leaves.foldl _ _ (fun y0 z0 _ => by
    exact Leaves.one (openDg_leaves ..) rfl rfl
    ) _) ?_
  exact Leaves.refl ..

theorem pairChange_leaves (old : State) (s : State) :
    Leaves [.ring, .sto, .int, .mbx, .fld, .ana, .pair] [F.objAG_GSTAT, F.objDG_CHSTAT, F.objDG_GSTAT, F.objINT_LATCH,
      F.objINT_STAT, F.objINT_STATE, F.objINT_STORMED, F.objMBX_QUEUES, F.objMBX_USE, F.objPLT_PSTATE, F.objREC_STAT] s
      (pairChange old s) := by
  unfold pairChange
  extract_lets -merge +onlyGivenNames x0
  have hx0 : ∀ w1_0, Leaves [.ring, .sto, .int, .mbx, .fld, .ana, .pair] [F.objAG_GSTAT, F.objDG_CHSTAT, F.objDG_GSTAT, F.objINT_LATCH, F.objINT_STAT, F.objINT_STATE, F.objINT_STORMED, F.objMBX_QUEUES, F.objMBX_USE, F.objPLT_PSTATE, F.objREC_STAT] w1_0 (x0 w1_0) := by
    intro w1_0
    unfold x0
    exact Leaves.step (refreshPair_leaves ..) (Leaves.one (updPair_leaves ..) rfl rfl) rfl rfl
  try clear_value x0
  refine Leaves.ite ?_ ?_
  · exact Leaves.transR (hx0 ..) (Leaves.refl ..)
  · refine Leaves.ite ?_ ?_
    · extract_lets -merge +onlyGivenNames x1
      refine Leaves.have x1 ?_ fun hx1 => ?_
      · unfold x1
        exact Leaves.transR (hx0 ..) (Leaves.one (Leaves.set_pair _ _) rfl rfl)
      try clear_value x1
      refine Leaves.ite ?_ ?_
      · refine Leaves.ite ?_ ?_
        · exact Leaves.step (standbyOutputs_leaves ..) (Leaves.step (setRole_leaves ..) hx1 rfl rfl) rfl rfl
        · exact Leaves.step (claim_leaves ..) hx1 rfl rfl
      · exact hx1
    · extract_lets -merge +onlyGivenNames x2
      refine Leaves.have x2 ?_ fun hx2 => ?_
      · unfold x2
        split
        · exact Leaves.one (finishDrill_leaves ..) rfl rfl
        · exact Leaves.refl ..
      try clear_value x2
      extract_lets -merge +onlyGivenNames x3
      refine Leaves.have x3 ?_ fun hx3 => ?_
      · unfold x3
        exact Leaves.step (openAnalogue_leaves ..) (Leaves.step (openDigital_leaves ..) hx2 rfl rfl) rfl rfl
      try clear_value x3
      extract_lets -merge +onlyGivenNames x4
      refine Leaves.have x4 ?_ fun hx4 => ?_
      · unfold x4
        refine Leaves.step (State.wr_leaves ..) ?_ rfl rfl
        exact Leaves.step (setRole_leaves ..) (Leaves.step (Leaves.set_pair _ _) hx3 rfl rfl) rfl rfl
      try clear_value x4
      exact Leaves.step (refreshPair_leaves ..) (Leaves.step (State.wr_leaves ..) hx4 rfl rfl) rfl rfl

theorem intChange_leaves (old : State) (s : State) (a : Nat) (n : Nat) :
    Leaves [.time, .ring, .sto, .int, .mbx, .img, .scn, .prg, .fld, .pair] [F.objANG_EV, F.objDG_COS, F.objINT_LATCH,
      F.objINT_STAT, F.objINT_STATE, F.objINT_STORMED, F.objMBX_QUEUES, F.objMBX_USE, F.objPLT_PSTATE, F.objPPR_WINSTAT,
      F.objPRG_ACT, F.objREC_STAT, F.objSCN_MODE, F.objSCN_TSTAT] s (intChange old s a n) := by
  unfold intChange
  refine Leaves.step (attnCheck_leaves ..) ?_ rfl rfl
  refine Leaves.transR (Leaves.foldl _ _ (fun y0 z0 _ => by
    refine Leaves.ite ?_ ?_
    · exact Leaves.refl ..
    · extract_lets -merge +onlyGivenNames x1 x2
      try clear_value x1
      refine Leaves.have x2 ?_ fun hx2 => ?_
      · unfold x2
        exact Leaves.step (putSrc_leaves ..) (Leaves.one (Leaves.set_int _ _) rfl rfl) rfl rfl
      try clear_value x2
      exact Leaves.ite (Leaves.step (takeTask_leaves ..) (Leaves.step (srcEdge_leaves ..) hx2 rfl rfl) rfl rfl) hx2
    ) _) ?_
  exact Leaves.refl ..

theorem objChange_leaves (levels : Nat) (old : State) (s : State) (p : Nat × Nat) :
    Leaves [.time, .ring, .sto, .int, .mbx, .img, .scn, .prg, .fld, .ana, .ang, .pair, .free] [F.objAG_CHSTAT,
      F.objAG_GSTAT, F.objANG_CAPPOS, F.objANG_EV, F.objANG_PERIOD, F.objANG_STATUS, F.objDG_CHSTAT, F.objDG_COS,
      F.objDG_GSTAT, F.objINT_LATCH, F.objINT_STAT, F.objINT_STATE, F.objINT_STORMED, F.objMBX_QUEUES, F.objMBX_USE,
      F.objPLT_PSTATE, F.objPPR_STAT, F.objPPR_WINSTAT, F.objPRG_ACT, F.objREC_STAT, F.objSCN_MODE, F.objSCN_TSTAT] s
      (objChange levels old s p) := by
  unfold objChange
  extract_lets -merge +onlyGivenNames x0 x1
  try clear_value x0 x1
  refine Leaves.ite ?_ ?_
  · exact Leaves.one (dgChange_leaves ..) rfl rfl
  · refine Leaves.ite ?_ ?_
    · exact Leaves.one (agChange_leaves ..) rfl rfl
    · refine Leaves.ite ?_ ?_
      · exact Leaves.one (posChange_leaves ..) rfl rfl
      · refine Leaves.ite ?_ ?_
        · exact Leaves.ite (Leaves.one (syncReset_leaves ..) rfl rfl) (Leaves.refl ..)
        · refine Leaves.ite ?_ ?_
          · exact Leaves.one (winChange_leaves ..) rfl rfl
          · refine Leaves.ite ?_ ?_
            · exact Leaves.one (adChange_leaves ..) rfl rfl
            · refine Leaves.ite ?_ ?_
              · exact Leaves.one (evChange_leaves ..) rfl rfl
              · refine Leaves.ite ?_ ?_
                · exact Leaves.one (subsChange_leaves ..) rfl rfl
                · refine Leaves.ite ?_ ?_
                  · exact Leaves.one (pairChange_leaves ..) rfl rfl
                  · refine Leaves.ite ?_ ?_
                    · exact Leaves.one (intChange_leaves ..) rfl rfl
                    · refine Leaves.ite ?_ ?_
                      · exact Leaves.one (intChange_leaves ..) rfl rfl
                      · refine Leaves.ite ?_ ?_
                        · exact Leaves.one (intChange_leaves ..) rfl rfl
                        · refine Leaves.ite ?_ ?_
                          · exact Leaves.one (intChange_leaves ..) rfl rfl
                          · exact Leaves.ite (Leaves.one (attnCheck_leaves ..) rfl rfl) (Leaves.refl ..)

theorem withWrites_keeps (s : State) (ws : List Wr) :
    Keeps [] s (withWrites s ws) := by
  unfold withWrites
  refine Keeps.transR (Keeps.foldl _ _ (fun y0 z0 _ => by
    exact Keeps.ite (Keeps.one (State.wrE_leaves ..).1 rfl) (Keeps.refl _ _)
    ) _) ?_
  exact Keeps.refl _ _

theorem readmit_leaves (mask : Nat) (s : State) :
    Leaves [.plt] [F.objPLT_LANE, F.objSCN_MODE] s (readmit mask s) := by
  unfold readmit
  extract_lets -merge +onlyGivenNames x0
  try clear_value x0
  refine Leaves.ite ?_ ?_
  · refine Leaves.transR (Leaves.foldl _ _ (fun y1 z1 _ => by
      exact Leaves.step (setLane_leaves ..) (Leaves.one (updPlt_leaves ..) rfl rfl) rfl rfl
      ) _) ?_
    exact Leaves.refl ..
  · exact Leaves.one (noEffect_leaves ..) rfl rfl

theorem pltCase_leaves (i : Nat) (e : Nat × Nat) (lanes : Nat) (cls : Nat) (group : Nat) (value : Nat) (s : State) :
    Leaves [.ring, .sto, .int] [F.objINT_LATCH, F.objINT_STAT, F.objINT_STATE, F.objINT_STORMED, F.objREC_STAT] s (pltCase
      i e lanes cls group value s) := by
  unfold pltCase
  exact Leaves.step (setLatch_leaves ..) (Leaves.one (log_leaves ..) rfl rfl) rfl rfl

theorem lanesLost_leaves (s : State) :
    Leaves [.time, .ring, .sto, .int, .mbx, .img, .scn, .prg, .fld, .pair] [F.objANG_EV, F.objINT_LATCH, F.objINT_STAT,
      F.objINT_STATE, F.objINT_STORMED, F.objMBX_QUEUES, F.objMBX_USE, F.objPLT_PSTATE, F.objPRG_ACT, F.objREC_STAT,
      F.objSCN_MODE] s (lanesLost s) := by
  unfold lanesLost
  exact Leaves.ite (Leaves.step (enterFault_leaves ..) (Leaves.one (pltCase_leaves ..) rfl rfl) rfl rfl) (Leaves.refl ..)

theorem dualHandover_leaves (s : State) :
    Leaves [.pair] [] s (dualHandover s) := by
  unfold dualHandover
  exact Leaves.ite (Leaves.one (setYield_leaves ..) rfl rfl) (Leaves.refl ..)

theorem retireLane_leaves (s : State) (k : Nat) (cause : Nat) :
    Leaves [.time, .ring, .sto, .int, .mbx, .img, .scn, .prg, .fld, .plt, .pair] [F.objANG_EV, F.objINT_LATCH,
      F.objINT_STAT, F.objINT_STATE, F.objINT_STORMED, F.objMBX_QUEUES, F.objMBX_USE, F.objPLT_COUNT, F.objPLT_LANE,
      F.objPLT_PSTATE, F.objPRG_ACT, F.objREC_STAT, F.objSCN_MODE] s (retireLane s k cause) := by
  unfold retireLane
  refine Leaves.ite ?_ ?_
  · exact Leaves.refl ..
  · extract_lets -merge +onlyGivenNames x0
    refine Leaves.have x0 ?_ fun hx0 => ?_
    · unfold x0
      refine Leaves.step (State.inc_leaves ..) ?_ rfl rfl
      refine Leaves.step (setLane_leaves ..) ?_ rfl rfl
      refine Leaves.step (State.wr_leaves ..) ?_ rfl (by unfold Sys2Proof.Machine.laneCauseFld; (try dsimp only); first | rfl | (simp only [List.all_cons, List.all_nil, Bool.and_true]; (repeat' split) <;> rfl))
      exact Leaves.refl ..
    try clear_value x0
    extract_lets -merge +onlyGivenNames x1
    refine Leaves.have x1 (by unfold x1; exact Leaves.step (pltCase_leaves ..) hx0 rfl rfl) fun hx1 => ?_
    try clear_value x1
    extract_lets -merge +onlyGivenNames x2 x3
    try clear_value x2
    refine Leaves.have x3 (by unfold x3; exact Leaves.step (updPlt_leaves ..) hx1 rfl rfl) fun hx3 => ?_
    try clear_value x3
    extract_lets -merge +onlyGivenNames x4
    refine Leaves.have x4 ?_ fun hx4 => ?_
    · unfold x4
      refine Leaves.ite ?_ ?_
      · refine Leaves.step (setLane_leaves ..) ?_ rfl rfl
        refine Leaves.step (State.wr_leaves ..) ?_ rfl (by unfold Sys2Proof.Machine.laneCauseFld; (try dsimp only); first | rfl | (simp only [List.all_cons, List.all_nil, Bool.and_true]; (repeat' split) <;> rfl))
        exact hx3
      · exact Leaves.ite (Leaves.step (setLane_leaves ..) hx3 rfl rfl) hx3
    try clear_value x4
    exact Leaves.step (lanesLost_leaves ..) (Leaves.step (dualHandover_leaves ..) hx4 rfl rfl) rfl rfl

theorem retire_leaves (mask : Nat) (s : State) :
    Leaves [.time, .ring, .sto, .int, .mbx, .img, .scn, .prg, .fld, .plt, .pair] [F.objANG_EV, F.objINT_LATCH,
      F.objINT_STAT, F.objINT_STATE, F.objINT_STORMED, F.objMBX_QUEUES, F.objMBX_USE, F.objPLT_COUNT, F.objPLT_LANE,
      F.objPLT_PSTATE, F.objPRG_ACT, F.objREC_STAT, F.objSCN_MODE] s (retire mask s) := by
  unfold retire
  refine Leaves.ite ?_ ?_
  · exact Leaves.one (noEffect_leaves ..) rfl rfl
  · refine Leaves.transR (Leaves.foldl _ _ (fun y0 z0 _ => by
      exact Leaves.one (retireLane_leaves ..) rfl rfl
      ) _) ?_
    exact Leaves.refl ..

theorem armWrite_leaves (e : Nat) (v : Bool) (s : State) :
    Leaves [.time, .ring, .sto, .int, .mbx, .img, .scn, .prg, .fld, .ana, .ang, .pair] [F.objAG_CONV, F.objANG_CAPPOS,
      F.objANG_EV, F.objANG_STATUS, F.objDG_CHSTAT, F.objDG_COS, F.objDG_GSTAT, F.objINT_LATCH, F.objINT_STAT,
      F.objINT_STATE, F.objINT_STORMED, F.objMBX_QUEUES, F.objMBX_USE, F.objPLT_PSTATE, F.objPPR_WINSTAT, F.objPRG_ACT,
      F.objREC_STAT, F.objSCN_MODE, F.objSCN_TSTAT] s (armWrite e v s) := by
  unfold armWrite
  refine Leaves.ite ?_ ?_
  · exact Leaves.one (noEffect_leaves ..) rfl rfl
  · exact Leaves.ite (Leaves.one (arm_leaves ..) rfl rfl) (Leaves.one (disarm_leaves ..) rfl rfl)

theorem synspd_leaves (d : Nat) (v : Nat) (s : State) :
    Leaves [.ang, .free] [F.objANG_AD, F.objANG_PERIOD] s (synspd d v s) := by
  unfold synspd
  refine Leaves.ite ?_ ?_
  · exact Leaves.one (noEffect_leaves ..) rfl rfl
  · refine Leaves.ite ?_ ?_
    · exact Leaves.one (State.wr_leaves ..) rfl rfl
    · extract_lets -merge +onlyGivenNames x0 x1 x2 x3
      try clear_value x0 x1 x2
      refine Leaves.have x3 (by unfold x3; exact Leaves.ite (Leaves.refl ..) (Leaves.one (putDom_leaves ..) rfl rfl)) fun hx3 => ?_
      try clear_value x3
      exact Leaves.step (synPeriod_leaves ..) (Leaves.step (State.wr_leaves ..) hx3 rfl rfl) rfl rfl

theorem resync_leaves (d : Nat) (s : State) :
    Leaves [.ring, .sto, .int, .ang] [F.objANG_CAPPOS, F.objANG_STATUS, F.objINT_LATCH, F.objINT_STAT, F.objINT_STATE,
      F.objINT_STORMED, F.objREC_STAT] s (resync d s) := by
  unfold resync
  exact Leaves.ite (Leaves.one (seek_leaves ..) rfl rfl) (Leaves.one (noEffect_leaves ..) rfl rfl)

theorem cntWrite_leaves (c : Nat) (v : Nat) (s : State) :
    Leaves [] [F.objDG_CNT] s (cntWrite c v s) := by
  unfold cntWrite
  exact Leaves.ite (Leaves.one (State.wr_leaves ..) rfl rfl) (Leaves.one (noEffect_leaves ..) rfl rfl)

theorem retest_leaves (g : Nat) (k : Nat) (s : State) :
    Leaves [.ana] [F.objAG_CS] s (retest g k s) := by
  unfold retest
  refine Leaves.ite ?_ ?_
  · extract_lets -merge +onlyGivenNames x0 x1
    try clear_value x0
    refine Leaves.have x1 (by unfold x1; exact Leaves.one (putSlice_leaves ..) rfl rfl) fun hx1 => ?_
    try clear_value x1
    exact Leaves.step (slicesFollow_leaves ..) (Leaves.step (updRot_leaves ..) hx1 rfl rfl) rfl rfl
  · exact Leaves.one (noEffect_leaves ..) rfl rfl

theorem holdTest_leaves (s : State) :
    Leaves [.pwr] [] s (holdTest s) := by
  unfold holdTest
  exact Leaves.ite (Leaves.one (Leaves.set_pwr _ _) rfl rfl) (Leaves.one (noEffect_leaves ..) rfl rfl)

theorem liftStorm_leaves (n : Nat) (s : State) :
    Leaves [.ring, .sto, .int] [F.objINT_STAT, F.objINT_STATE, F.objINT_STORMED, F.objREC_STAT] s (liftStorm n s) := by
  unfold liftStorm
  refine Leaves.ite ?_ ?_
  · exact Leaves.one (noEffect_leaves ..) rfl rfl
  · extract_lets -merge +onlyGivenNames x0 x1
    try clear_value x0
    refine Leaves.have x1 ?_ fun hx1 => ?_
    · unfold x1
      exact Leaves.step (State.wrE_leaves ..) (Leaves.one (Leaves.set_int _ _) rfl rfl) rfl rfl
    try clear_value x1
    exact Leaves.ite (Leaves.step (attnCheck_leaves ..) (Leaves.step (srcEdge_leaves ..) hx1 rfl rfl) rfl rfl) hx1

theorem rebase_leaves (s : State) (v : Nat) :
    Leaves [.rtc] [] s (rebase s v) := by
  unfold rebase
  exact Leaves.one (Leaves.set_rtc _ _) rfl rfl

theorem trimWrite_leaves (v : Nat) (s : State) :
    Leaves [.rtc] [F.objRTC_TRIM] s (trimWrite v s) := by
  unfold trimWrite
  exact Leaves.step (State.wr_leaves ..) (Leaves.one (rebase_leaves ..) rfl rfl) rfl rfl

theorem rtcWake_leaves (period : Nat) (pwrEn : Bool) (en : Bool) (s : State) :
    Leaves [.rtc] [F.objRTC_WAKE] s (rtcWake period pwrEn en s) := by
  unfold rtcWake
  refine Leaves.ite ?_ ?_
  · exact Leaves.one (noEffect_leaves ..) rfl rfl
  · extract_lets -merge +onlyGivenNames x0 x1
    try clear_value x0
    refine Leaves.have x1 (by unfold x1; exact Leaves.one (Leaves.set_rtc _ _) rfl rfl) fun hx1 => ?_
    try clear_value x1
    refine Leaves.step (State.wr_leaves ..) ?_ rfl rfl
    exact Leaves.step (State.wr_leaves ..) (Leaves.step (State.wr_leaves ..) hx1 rfl rfl) rfl rfl

theorem off_leaves (s : State) :
    Leaves [.ring, .sto, .int, .rtc] [F.objINT_LATCH, F.objINT_STAT, F.objINT_STATE, F.objINT_STORMED, F.objREC_STAT,
      F.objRTC_STATUS] s (off s) := by
  unfold off
  refine Leaves.ite ?_ ?_
  · exact Leaves.one (noEffect_leaves ..) rfl rfl
  · extract_lets -merge +onlyGivenNames x0 x1
    try clear_value x0
    refine Leaves.have x1 ?_ fun hx1 => ?_
    · unfold x1
      exact Leaves.step (State.wr_leaves ..) (Leaves.one (Leaves.set_rtc _ _) rfl rfl) rfl rfl
    try clear_value x1
    extract_lets -merge +onlyGivenNames x2
    refine Leaves.have x2 (by unfold x2; exact Leaves.step (log_leaves ..) hx1 rfl rfl) fun hx2 => ?_
    try clear_value x2
    exact Leaves.step (Leaves.set_sto _ _) hx2 rfl rfl

theorem liveApply_keeps (s : State) (w : Wr) :
    Keeps [.time, .ring, .sto, .int, .mbx, .img, .scn, .prg, .fld, .ana, .ang, .plt, .pair, .rtc, .pwr, .free] s (liveApply s w) := by
  unfold liveApply
  extract_lets -merge +onlyGivenNames x0
  extract_lets -merge +onlyGivenNames x1
  try clear_value x1
  refine Keeps.ite ?_ ?_
  · exact Keeps.ite (Keeps.one (readmit_leaves ..).1 rfl) (Keeps.refl _ _)
  · refine Keeps.ite ?_ ?_
    · exact Keeps.ite (Keeps.one (retire_leaves ..).1 rfl) (Keeps.refl _ _)
    · refine Keeps.ite ?_ ?_
      · exact Keeps.one (angleWrite_leaves ..).1 rfl
      · refine Keeps.ite ?_ ?_
        · exact Keeps.one (armWrite_leaves ..).1 rfl
        · refine Keeps.ite ?_ ?_
          · exact Keeps.one (synspd_leaves ..).1 rfl
          · refine Keeps.ite ?_ ?_
            · exact Keeps.ite (Keeps.one (resync_leaves ..).1 rfl) (Keeps.refl _ _)
            · refine Keeps.ite ?_ ?_
              · exact Keeps.one (cntWrite_leaves ..).1 rfl
              · refine Keeps.ite ?_ ?_
                · exact Keeps.ite (Keeps.one (retest_leaves ..).1 rfl) (Keeps.refl _ _)
                · refine Keeps.ite ?_ ?_
                  · exact Keeps.ite (Keeps.one (holdTest_leaves ..).1 rfl) (Keeps.refl _ _)
                  · refine Keeps.ite ?_ ?_
                    · refine Keeps.step (hostSync_leaves ..).1 ?_ rfl
                      exact Keeps.step (hostSync_leaves ..).1 (Keeps.one (State.wr_leaves ..).1 rfl) rfl
                    · refine Keeps.ite ?_ ?_
                      · exact Keeps.ite (Keeps.one (liftStorm_leaves ..).1 rfl) (Keeps.refl _ _)
                      · refine Keeps.ite ?_ ?_
                        · exact Keeps.refl _ _
                        · refine Keeps.ite ?_ ?_
                          · exact Keeps.one (trimWrite_leaves ..).1 rfl
                          · refine Keeps.ite ?_ ?_
                            · exact Keeps.one (rtcWake_leaves ..).1 rfl
                            · refine Keeps.ite ?_ ?_
                              · exact Keeps.one (rtcWake_leaves ..).1 rfl
                              · refine Keeps.ite ?_ ?_
                                · exact Keeps.one (rtcWake_leaves ..).1 rfl
                                · refine Keeps.ite ?_ ?_
                                  · exact Keeps.ite (Keeps.one (off_leaves ..).1 rfl) (Keeps.refl _ _)
                                  · refine Keeps.ite ?_ ?_
                                    · extract_lets -merge +onlyGivenNames x2
                                      try clear_value x2
                                      refine Keeps.step (afterClear_leaves ..).1 ?_ rfl
                                      exact Keeps.one (State.wrE_leaves ..).1 rfl
                                    · exact Keeps.one (State.wrE_leaves ..).1 rfl

theorem timeLink_leaves (s : State) :
    Leaves [.ring, .sto, .int, .rtc] [F.objINT_LATCH, F.objINT_STAT, F.objINT_STATE, F.objINT_STORMED, F.objREC_STAT] s
      (timeLink s) := by
  unfold timeLink
  exact Leaves.step (log_leaves ..) (Leaves.one (Leaves.set_rtc _ _) rfl rfl) rfl rfl

theorem fireWake_leaves (s : State) (alarm : Bool) :
    Leaves [.ring, .sto, .int, .rtc] [F.objINT_STAT, F.objINT_STATE, F.objINT_STORMED, F.objREC_STAT, F.objRTC_STATUS] s
      (fireWake s alarm) := by
  unfold fireWake
  extract_lets -merge +onlyGivenNames x0
  refine Leaves.have x0 ?_ fun hx0 => ?_
  · unfold x0
    refine Leaves.step (State.wr_leaves ..) ?_ rfl (by (try dsimp only); first | rfl | (simp only [List.all_cons, List.all_nil, Bool.and_true]; (repeat' split) <;> rfl))
    exact Leaves.refl ..
  try clear_value x0
  extract_lets -merge +onlyGivenNames x1 x2
  try clear_value x1
  refine Leaves.have x2 ?_ fun hx2 => ?_
  · unfold x2
    exact Leaves.step (State.wr_leaves ..) (Leaves.step (Leaves.set_rtc _ _) hx0 rfl rfl) rfl rfl
  try clear_value x2
  extract_lets -merge +onlyGivenNames x3
  refine Leaves.have x3 ?_ fun hx3 => ?_
  · unfold x3
    exact Leaves.ite (Leaves.step (State.wr_leaves ..) (Leaves.step (State.wr_leaves ..) hx2 rfl rfl) rfl rfl) hx0
  try clear_value x3
  exact Leaves.step (hostSync_leaves ..) hx3 rfl rfl

theorem rtcTimeWrite_leaves (secs : Nat) (sub : Nat) (session : Nat) (s : State) :
    Leaves [.ring, .sto, .int, .rtc] [F.objINT_LATCH, F.objINT_STAT, F.objINT_STATE, F.objINT_STORMED, F.objREC_STAT,
      F.objRTC_STATUS] s (rtcTimeWrite secs sub session s) := by
  unfold rtcTimeWrite
  refine Leaves.ite ?_ ?_
  · exact Leaves.one (noEffect_leaves ..) rfl rfl
  · extract_lets -merge +onlyGivenNames x0 x1 x2
    try clear_value x0 x1
    refine Leaves.have x2 (by unfold x2; exact Leaves.one (rebase_leaves ..) rfl rfl) fun hx2 => ?_
    try clear_value x2
    extract_lets -merge +onlyGivenNames x3 x4
    try clear_value x3
    refine Leaves.have x4 (by unfold x4; exact Leaves.step (Leaves.set_rtc _ _) hx2 rfl rfl) fun hx4 => ?_
    try clear_value x4
    extract_lets -merge +onlyGivenNames x5
    refine Leaves.have x5 ?_ fun hx5 => ?_
    · unfold x5
      exact Leaves.step (State.wr_leaves ..) (Leaves.step (State.wr_leaves ..) hx4 rfl rfl) rfl rfl
    try clear_value x5
    extract_lets -merge +onlyGivenNames x6
    refine Leaves.have x6 (by unfold x6; exact Leaves.step (log_leaves ..) hx5 rfl rfl) fun hx6 => ?_
    try clear_value x6
    extract_lets -merge +onlyGivenNames x7
    refine Leaves.have x7 (by unfold x7; exact Leaves.ite (Leaves.step (timeLink_leaves ..) hx6 rfl rfl) hx6) fun hx7 => ?_
    try clear_value x7
    extract_lets -merge +onlyGivenNames x8
    try clear_value x8
    exact Leaves.ite (Leaves.step (fireWake_leaves ..) hx7 rfl rfl) hx7

theorem liveAll_keeps (ses : Nat) (s : State) (ws : List Wr) :
    Keeps [.time, .ring, .sto, .int, .mbx, .img, .scn, .prg, .fld, .ana, .ang, .plt, .pair, .rtc, .pwr, .free] s (liveAll ses s ws) := by
  unfold liveAll
  extract_lets -merge +onlyGivenNames x0
  refine Keeps.have x0 ?_ fun hx0 => ?_
  · unfold x0
    refine Keeps.transR (Keeps.foldl _ _ (fun y1 z1 _ => by
      exact Keeps.one (liveApply_keeps _ _) rfl
      ) _) ?_
    exact Keeps.refl _ _
  try clear_value x0
  split
  · exact hx0
  · exact Keeps.step (rtcTimeWrite_leaves ..).1 hx0 rfl

theorem stepSplit_leaves (s : State) :
    Leaves [] [F.objAG_CONV] s (stepSplit s) := by
  unfold stepSplit
  refine Leaves.transR (Leaves.foldl _ _ (fun y0 z0 _ => by
    extract_lets -merge +onlyGivenNames x1
    try clear_value x1
    exact Leaves.one (State.wr_leaves ..) rfl rfl
    ) _) ?_
  exact Leaves.refl ..

theorem feeds_leaves (s : State) (g : Nat) :
    Leaves [.fld] [] s (feeds s g) := by
  unfold feeds
  refine Leaves.transR (Leaves.foldl _ _ (fun y0 z0 _ => by
    extract_lets -merge +onlyGivenNames x1
    try clear_value x1
    exact Leaves.one (putDch_leaves ..) rfl rfl
    ) _) ?_
  exact Leaves.refl ..

theorem setQuad_leaves (s : State) (g : Nat) (q : Nat) (st : Nat) :
    Leaves [.ring, .sto, .int, .ana] [F.objAG_GSTAT, F.objINT_STAT, F.objINT_STATE, F.objINT_STORMED, F.objREC_STAT] s
      (setQuad s g q st) := by
  unfold setQuad
  exact Leaves.one (updAgg_leaves ..) rfl rfl

theorem quadsFollow_leaves (s : State) (g : Nat) :
    Leaves [.ring, .sto, .int, .ana] [F.objAG_GSTAT, F.objINT_STAT, F.objINT_STATE, F.objINT_STORMED, F.objREC_STAT] s
      (quadsFollow s g) := by
  unfold quadsFollow
  refine Leaves.transR (Leaves.foldl _ _ (fun y0 z0 _ => by
    extract_lets -merge +onlyGivenNames x1
    try clear_value x1
    split
    · exact Leaves.ite (Leaves.one (setQuad_leaves ..) rfl rfl) (Leaves.refl ..)
    · exact Leaves.ite (Leaves.refl ..) (Leaves.one (setQuad_leaves ..) rfl rfl)
    · refine Leaves.ite ?_ ?_
      · exact Leaves.refl ..
      · extract_lets -merge +onlyGivenNames x2
        refine Leaves.have x2 ?_ fun hx2 => ?_
        · unfold x2
          refine Leaves.transR (Leaves.foldl _ _ (fun y3 z3 _ => by
            extract_lets -merge +onlyGivenNames x4
            try clear_value x4
            exact Leaves.one (putAch_leaves ..) rfl rfl
            ) _) ?_
          exact Leaves.refl ..
        try clear_value x2
        exact Leaves.step (updAgg_leaves ..) (Leaves.step (setQuad_leaves ..) hx2 rfl rfl) rfl rfl
    · exact Leaves.one (updAgg_leaves ..) rfl rfl
    ) _) ?_
  exact Leaves.refl ..

theorem groupsFollow_leaves (m : Nat) (s : State) :
    Leaves [.ring, .sto, .int, .fld, .ana] [F.objAG_GSTAT, F.objDG_GSTAT, F.objINT_STAT, F.objINT_STATE, F.objINT_STORMED,
      F.objREC_STAT] s (groupsFollow m s) := by
  unfold groupsFollow
  extract_lets -merge +onlyGivenNames x0
  refine Leaves.have x0 ?_ fun hx0 => ?_
  · unfold x0
    refine Leaves.transR (Leaves.foldl _ _ (fun y1 z1 _ => by
      refine Leaves.ite ?_ ?_
      · exact Leaves.step (dgSync_leaves ..) (Leaves.ite (Leaves.one (feeds_leaves ..) rfl rfl) (Leaves.refl ..)) rfl rfl
      · exact Leaves.refl ..
      ) _) ?_
    exact Leaves.refl ..
  try clear_value x0
  refine Leaves.transR (Leaves.foldl _ _ (fun y2 z2 _ => by
    refine Leaves.ite ?_ ?_
    · refine Leaves.step (agSync_leaves ..) ?_ rfl rfl
      refine Leaves.step (applyOuts_leaves ..) ?_ rfl rfl
      exact Leaves.step (slicesFollow_leaves ..) (Leaves.one (quadsFollow_leaves ..) rfl rfl) rfl rfl
    · exact Leaves.refl ..
    ) _) ?_
  exact hx0

theorem applySet_keeps (ses : Nat) (levels : Nat) (s : State) (ws : List Wr) :
    Keeps [.time, .ring, .sto, .int, .mbx, .img, .scn, .prg, .fld, .ana, .ang, .plt, .pair, .rtc, .pwr, .free] s (applySet ses levels s ws) := by
  unfold applySet
  extract_lets -merge +onlyGivenNames x0 x1 x2
  try clear_value x0 x1
  refine Keeps.have x2 ?_ fun hx2 => ?_
  · unfold x2
    refine Keeps.transR (Keeps.foldl _ _ (fun y3 z3 _ => by
      exact Keeps.ite (Keeps.one (settleBc_leaves ..).1 rfl) (Keeps.refl _ _)
      ) _) ?_
    exact Keeps.refl _ _
  try clear_value x2
  extract_lets -merge +onlyGivenNames x4
  refine Keeps.have x4 (by unfold x4; exact hx2) fun hx4 => ?_
  try clear_value x4
  extract_lets -merge +onlyGivenNames x5 x6
  try clear_value x5
  refine Keeps.have x6 ?_ fun hx6 => ?_
  · unfold x6
    refine Keeps.transR (Keeps.foldl _ _ (fun y7 z7 _ => by
      exact Keeps.one (objChange_leaves ..).1 rfl
      ) _) ?_
    exact Keeps.step (withWrites_keeps _ _) hx2 rfl
  try clear_value x6
  extract_lets -merge +onlyGivenNames x8
  refine Keeps.have x8 (by unfold x8; exact Keeps.step (liveAll_keeps _ _ _) hx6 rfl) fun hx8 => ?_
  try clear_value x8
  refine Keeps.step (persistReg_leaves ..).1 ?_ rfl
  exact Keeps.step (stepSplit_leaves ..).1 (Keeps.step (groupsFollow_leaves ..).1 hx8 rfl) rfl

theorem stageRegs_leaves (s : State) :
    Leaves [] [F.objIMG_STATUS] s (stageRegs s) := by
  unfold stageRegs
  exact Leaves.one (State.wr_leaves ..) rfl rfl

theorem applyStaged_leaves (s : State) (n : Nat) :
    Leaves [.img] [F.objIMG_STATUS] s (applyStaged s n) := by
  unfold applyStaged
  extract_lets -merge +onlyGivenNames x0
  extract_lets -merge +onlyGivenNames x1 x2
  try clear_value x1 x2
  exact Leaves.step (stageRegs_leaves ..) (Leaves.one (Leaves.set_img _ _) rfl rfl) rfl rfl

theorem setStation_leaves (s : State) (v : Nat) (at_ : Nat) :
    Leaves [.time] [] s (setStation s v at_) := by
  unfold setStation
  exact Leaves.one (Leaves.set_time _ _) rfl rfl

theorem applyTime_leaves (s : State) (n : Nat) (at_ : Nat) :
    Leaves [.time, .ring, .sto, .int, .rtc] [F.objCLK_START, F.objINT_LATCH, F.objINT_STAT, F.objINT_STATE,
      F.objINT_STORMED, F.objNRL_STATE, F.objREC_STAT] s (applyTime s n at_) := by
  unfold applyTime
  split
  · refine Leaves.ite ?_ ?_
    · extract_lets -merge +onlyGivenNames x0 x1
      try clear_value x0
      refine Leaves.have x1 ?_ fun hx1 => ?_
      · unfold x1
        exact Leaves.step (setStation_leaves ..) (Leaves.one (Leaves.set_ring _ _) rfl rfl) rfl rfl
      try clear_value x1
      refine Leaves.step (timeLink_leaves ..) ?_ rfl rfl
      exact Leaves.step (State.wr_leaves ..) (Leaves.step (State.wr_leaves ..) hx1 rfl rfl) rfl rfl
    · exact Leaves.refl ..
  · exact Leaves.refl ..

theorem applyVoted_leaves (s : State) (c : Nat) (bit : Option ℤ) (duty : Option ℤ) :
    Leaves [.ring, .sto, .int, .fld] [F.objDG_CHSTAT, F.objDG_CNT, F.objDG_GSTAT, F.objINT_STAT, F.objINT_STATE,
      F.objINT_STORMED, F.objREC_STAT] s (applyVoted s c bit duty) := by
  unfold applyVoted
  extract_lets -merge +onlyGivenNames x0 x1 x2 x3 x4
  try clear_value x0 x1 x2 x3
  refine Leaves.have x4 (by unfold x4; exact Leaves.one (putDch_leaves ..) rfl rfl) fun hx4 => ?_
  try clear_value x4
  extract_lets -merge +onlyGivenNames x5
  refine Leaves.have x5 (by unfold x5; exact Leaves.ite (Leaves.step (State.wr_leaves ..) hx4 rfl rfl) hx4) fun hx5 => ?_
  try clear_value x5
  refine Leaves.ite ?_ ?_
  · exact Leaves.step (driveSafe_leaves ..) hx5 rfl rfl
  · split
    · exact Leaves.step (drive_leaves ..) hx5 rfl rfl
    · exact Leaves.ite hx5 (Leaves.ite hx5 (Leaves.step (pwmStart_leaves ..) hx5 rfl rfl))
    · exact hx5

theorem authFailure_leaves (s : State) (r : Nat) :
    Leaves [.mbx] [] s (authFailure s r) := by
  unfold authFailure
  extract_lets -merge +onlyGivenNames x0
  try clear_value x0
  exact Leaves.ite (Leaves.one (Leaves.set_mbx _ _) rfl rfl) (Leaves.one (Leaves.set_mbx _ _) rfl rfl)

theorem authLockedExpiry_leaves (s : State) :
    Leaves [.mbx] [] s (authLockedExpiry s) := by
  unfold authLockedExpiry
  exact Leaves.one (Leaves.set_mbx _ _) rfl rfl

theorem pinRegs_leaves (s : State) :
    Leaves [] [F.objIMG_PINS, F.objIMG_STATUS] s (pinRegs s) := by
  unfold pinRegs
  extract_lets -merge +onlyGivenNames x0 x1
  try clear_value x0
  refine Leaves.have x1 (by unfold x1; exact Leaves.one (State.wr_leaves ..) rfl rfl) fun hx1 => ?_
  try clear_value x1
  extract_lets -merge +onlyGivenNames x2
  refine Leaves.have x2 (by unfold x2; exact Leaves.step (State.wr_leaves ..) hx1 rfl rfl) fun hx2 => ?_
  try clear_value x2
  refine Leaves.transR (Leaves.foldl _ _ (fun y3 z3 _ => by
    exact Leaves.one (State.wrE_leaves ..) rfl rfl
    ) _) ?_
  exact hx2

theorem svcRegs_leaves (s : State) :
    Leaves [] [F.objMBX_USE, F.objSEC_STATUS] s (svcRegs s) := by
  unfold svcRegs
  exact Leaves.step (useRegs_leaves ..) (Leaves.one (State.wr_leaves ..) rfl rfl) rfl rfl

theorem putBank_leaves (s : State) (k : Nat) (b : Option Bank) :
    Leaves [.prg] [F.objPRG_BANKA, F.objPRG_BANKB] s (putBank s k b) := by
  unfold putBank
  extract_lets -merge +onlyGivenNames x0 x1 x2
  try clear_value x0 x1
  refine Leaves.have x2 (by unfold x2; exact Leaves.one (Leaves.set_prg _ _) rfl rfl) fun hx2 => ?_
  try clear_value x2
  extract_lets -merge +onlyGivenNames x3 x4
  try clear_value x3
  have hx4 : ∀ w5_0 w5_5 w5_10, Leaves [.prg] [F.objPRG_BANKA, F.objPRG_BANKB] w5_0 (x4 w5_0 w5_5 w5_10) := by
    intro w5_0 w5_5 w5_10
    unfold x4
    refine Leaves.step (State.wr_leaves ..) ?_ rfl (by unfold Sys2Proof.Machine.bankFld; (try dsimp only); first | rfl | (simp only [List.all_cons, List.all_nil, Bool.and_true]; (repeat' split) <;> rfl))
    exact Leaves.refl ..
  try clear_value x4
  extract_lets -merge +onlyGivenNames x5
  refine Leaves.have x5 ?_ fun hx5 => ?_
  · unfold x5
    exact Leaves.transR (hx4 ..) (Leaves.transR (hx4 ..) (Leaves.transR (hx4 ..) hx2))
  try clear_value x5
  extract_lets -merge +onlyGivenNames x6
  refine Leaves.have x6 (by unfold x6; exact Leaves.transR (hx4 ..) (Leaves.transR (hx4 ..) hx5)) fun hx6 => ?_
  try clear_value x6
  exact Leaves.transR (hx4 ..) (Leaves.transR (hx4 ..) hx6)

theorem emptyBank_leaves (s : State) (k : Nat) :
    Leaves [.prg] [F.objPRG_BANKA, F.objPRG_BANKB] s (emptyBank s k) := by
  unfold emptyBank
  exact Leaves.step (setBankSt_leaves ..) (Leaves.one (putBank_leaves ..) rfl rfl) rfl rfl

theorem endLoad_leaves (s : State) (status : Nat) (result : Nat) (loaded : Bool) :
    Leaves [.ring, .sto, .int, .mbx, .prg] [F.objINT_LATCH, F.objINT_STAT, F.objINT_STATE, F.objINT_STORMED,
      F.objMBX_QUEUES, F.objMBX_USE, F.objPRG_BANKA, F.objPRG_BANKB, F.objREC_STAT] s (endLoad s status result loaded) :=
      by
  unfold endLoad
  split
  · exact Leaves.refl ..
  · extract_lets -merge +onlyGivenNames x0 x1
    try clear_value x0
    refine Leaves.have x1 (by unfold x1; exact Leaves.one (Leaves.set_prg _ _) rfl rfl) fun hx1 => ?_
    try clear_value x1
    extract_lets -merge +onlyGivenNames x2
    refine Leaves.have x2 ?_ fun hx2 => ?_
    · unfold x2
      exact Leaves.ite (Leaves.step (setBankSt_leaves ..) hx1 rfl rfl) (Leaves.step (emptyBank_leaves ..) hx1 rfl rfl)
    try clear_value x2
    exact Leaves.step (finNum_leaves ..) hx2 rfl rfl

theorem cancelLoad_leaves (s : State) :
    Leaves [.ring, .sto, .int, .mbx, .prg] [F.objINT_LATCH, F.objINT_STAT, F.objINT_STATE, F.objINT_STORMED,
      F.objMBX_QUEUES, F.objMBX_USE, F.objPRG_BANKA, F.objPRG_BANKB, F.objREC_STAT] s (cancelLoad s) := by
  unfold cancelLoad
  exact Leaves.one (endLoad_leaves ..) rfl rfl

theorem cancelDrill_leaves (s : State) :
    Leaves [.pair] [] s (cancelDrill s) := by
  unfold cancelDrill
  exact Leaves.one (updPair_leaves ..) rfl rfl

theorem endStage_leaves (s : State) (status : Nat) (result : Nat) (valid : Bool) :
    Leaves [.ring, .sto, .int, .mbx, .sec] [F.objINT_LATCH, F.objINT_STAT, F.objINT_STATE, F.objINT_STORMED,
      F.objMBX_QUEUES, F.objMBX_USE, F.objREC_STAT, F.objSEC_FW] s (endStage s status result valid) := by
  unfold endStage
  split
  · exact Leaves.refl ..
  · extract_lets -merge +onlyGivenNames x0 x1
    try clear_value x0
    refine Leaves.have x1 ?_ fun hx1 => ?_
    · unfold x1
      exact Leaves.step (State.wrE_leaves ..) (Leaves.one (Leaves.set_sec _ _) rfl rfl) rfl rfl
    try clear_value x1
    exact Leaves.step (finNum_leaves ..) hx1 rfl rfl

theorem cancelRun_leaves (s : State) (h : Hdl) :
    Leaves [.ring, .sto, .int, .mbx, .prg, .pair, .sec] [F.objINT_LATCH, F.objINT_STAT, F.objINT_STATE, F.objINT_STORMED,
      F.objMBX_QUEUES, F.objMBX_USE, F.objPRG_ACT, F.objPRG_BANKA, F.objPRG_BANKB, F.objREC_STAT, F.objSEC_FW] s
      (cancelRun s h) := by
  unfold cancelRun
  split
  · exact Leaves.one (cancelLoad_leaves ..) rfl rfl
  · exact Leaves.one (endActivation_leaves ..) rfl rfl
  · exact Leaves.step (cancelDrill_leaves ..) (Leaves.one (putHdl_leaves ..) rfl rfl) rfl rfl
  · exact Leaves.one (endStage_leaves ..) rfl rfl
  · exact Leaves.one (fin_leaves ..) rfl rfl

theorem closeSession_leaves (s : State) (no : Nat) :
    Leaves [.ring, .sto, .int, .mbx, .img, .prg, .pair, .sec] [F.objIMG_PINS, F.objIMG_STATUS, F.objINT_LATCH,
      F.objINT_STAT, F.objINT_STATE, F.objINT_STORMED, F.objMBX_QUEUES, F.objMBX_USE, F.objPRG_ACT, F.objPRG_BANKA,
      F.objPRG_BANKB, F.objREC_STAT, F.objSEC_FW, F.objSEC_STATUS] s (closeSession s no) := by
  unfold closeSession
  refine Leaves.ite ?_ ?_
  · exact Leaves.refl ..
  · extract_lets -merge +onlyGivenNames x0 x1 x2
    try clear_value x0 x1
    refine Leaves.have x2 ?_ fun hx2 => ?_
    · unfold x2
      refine Leaves.step (Leaves.upd (ps := [.mbx, .img]) (s := s) rfl (by intro p hp; cases p <;> first | rfl | exact absurd (by decide) hp)) ?_ rfl rfl
      exact Leaves.refl ..
    try clear_value x2
    extract_lets -merge +onlyGivenNames x3
    refine Leaves.have x3 (by unfold x3; exact Leaves.step (pinRegs_leaves ..) hx2 rfl rfl) fun hx3 => ?_
    try clear_value x3
    extract_lets -merge +onlyGivenNames x4
    try clear_value x4
    refine Leaves.step (svcRegs_leaves ..) ?_ rfl rfl
    refine Leaves.transR (Leaves.foldl _ _ (fun y5 z5 _ => by
      exact Leaves.ite (Leaves.one (cancelRun_leaves ..) rfl rfl) (Leaves.refl ..)
      ) _) ?_
    exact hx3

theorem closeAll_leaves (s : State) (l : List Nat) :
    Leaves [.ring, .sto, .int, .mbx, .img, .prg, .pair, .sec] [F.objIMG_PINS, F.objIMG_STATUS, F.objINT_LATCH,
      F.objINT_STAT, F.objINT_STATE, F.objINT_STORMED, F.objMBX_QUEUES, F.objMBX_USE, F.objPRG_ACT, F.objPRG_BANKA,
      F.objPRG_BANKB, F.objREC_STAT, F.objSEC_FW, F.objSEC_STATUS] s (closeAll s l) := by
  unfold closeAll
  refine Leaves.transR (Leaves.foldl _ _ (fun y0 z0 _ => by
    exact Leaves.one (closeSession_leaves ..) rfl rfl
    ) _) ?_
  exact Leaves.refl ..

theorem authTimeout_leaves (s : State) :
    Leaves [.ring, .sto, .int, .mbx, .img, .prg, .pair, .sec] [F.objIMG_PINS, F.objIMG_STATUS, F.objINT_LATCH,
      F.objINT_STAT, F.objINT_STATE, F.objINT_STORMED, F.objMBX_QUEUES, F.objMBX_USE, F.objPRG_ACT, F.objPRG_BANKA,
      F.objPRG_BANKB, F.objREC_STAT, F.objSEC_FW, F.objSEC_STATUS] s (authTimeout s) := by
  unfold authTimeout
  exact Leaves.ite (Leaves.one (noEffect_leaves ..) rfl rfl) (Leaves.one (closeAll_leaves ..) rfl rfl)

theorem dropStartup_leaves (s : State) :
    Leaves [.scn, .plt] [] s (dropStartup s) := by
  unfold dropStartup
  extract_lets -merge +onlyGivenNames x0 x1
  try clear_value x0
  refine Leaves.have x1 (by unfold x1; exact Leaves.one (Leaves.set_scn _ _) rfl rfl) fun hx1 => ?_
  try clear_value x1
  exact Leaves.step (updPlt_leaves ..) hx1 rfl rfl

theorem putPend_leaves (s : State) (p : PendMode) :
    Leaves [.scn] [F.objSCN_MODE] s (putPend s p) := by
  unfold putPend
  exact Leaves.step (State.wr_leaves ..) (Leaves.one (Leaves.set_scn _ _) rfl rfl) rfl rfl

theorem startNext_leaves (s : State) :
    Leaves [.scn] [] s (startNext s) := by
  unfold startNext
  split
  · exact Leaves.step (dispatch_leaves ..) (Leaves.one (Leaves.set_scn _ _) rfl rfl) rfl rfl
  · split
    · exact Leaves.ite (Leaves.one (Leaves.set_scn _ _) rfl rfl) (Leaves.refl ..)
    · exact Leaves.refl ..

theorem beginRun_leaves (s : State) (restart : Nat) (handle : Nat) :
    Leaves [.scn, .plt] [F.objSCN_MODE] s (beginRun s restart handle) := by
  unfold beginRun
  extract_lets -merge +onlyGivenNames x0
  refine Leaves.have x0 (by unfold x0; exact Leaves.one (applyRestart_leaves ..) rfl rfl) fun hx0 => ?_
  try clear_value x0
  extract_lets -merge +onlyGivenNames x1
  refine Leaves.have x1 (by unfold x1; exact Leaves.step (updPlt_leaves ..) hx0 rfl rfl) fun hx1 => ?_
  try clear_value x1
  extract_lets -merge +onlyGivenNames x2
  try clear_value x2
  refine Leaves.ite ?_ ?_
  · exact Leaves.step (putPend_leaves ..) hx1 rfl rfl
  · extract_lets -merge +onlyGivenNames x3
    try clear_value x3
    refine Leaves.step (startNext_leaves ..) ?_ rfl rfl
    extract_lets -merge +onlyGivenNames x4
    refine Leaves.have x4 (by unfold x4; exact Leaves.step (putPend_leaves ..) hx1 rfl rfl) fun hx4 => ?_
    try clear_value x4
    exact Leaves.step (Leaves.set_scn _ _) hx4 rfl rfl

theorem beginMode_leaves (s : State) (target : Nat) (restart : Nat) (handle : Nat) :
    Leaves [.ring, .sto, .int, .mbx, .scn, .plt] [F.objINT_LATCH, F.objINT_STAT, F.objINT_STATE, F.objINT_STORMED,
      F.objMBX_QUEUES, F.objMBX_USE, F.objREC_STAT, F.objSCN_MODE] s (beginMode s target restart handle) := by
  unfold beginMode
  split
  · extract_lets -merge +onlyGivenNames x0
    refine Leaves.have x0 ?_ fun hx0 => ?_
    · unfold x0
      exact Leaves.step (clearPend_leaves ..) (Leaves.one (finMode_leaves ..) rfl rfl) rfl rfl
    try clear_value x0
    refine Leaves.ite ?_ ?_
    · exact Leaves.step (finMode_leaves ..) (Leaves.step (dropStartup_leaves ..) hx0 rfl rfl) rfl rfl
    · exact Leaves.step (putPend_leaves ..) hx0 rfl rfl
  · extract_lets -merge +onlyGivenNames x1
    try clear_value x1
    refine Leaves.ite ?_ ?_
    · exact Leaves.one (finMode_leaves ..) rfl rfl
    · exact Leaves.ite (Leaves.one (beginRun_leaves ..) rfl rfl) (Leaves.one (putPend_leaves ..) rfl rfl)

theorem autorun_leaves (s : State) :
    Leaves [.ring, .clk, .sto, .int, .mbx, .scn, .plt] [F.objINT_LATCH, F.objINT_STAT, F.objINT_STATE, F.objINT_STORMED,
      F.objMBX_QUEUES, F.objMBX_USE, F.objREC_STAT, F.objSCN_MODE] s (autorun s) := by
  unfold autorun
  extract_lets -merge +onlyGivenNames x0
  try clear_value x0
  refine Leaves.ite ?_ ?_
  · exact Leaves.one (noEffect_leaves ..) rfl rfl
  · extract_lets -merge +onlyGivenNames x1 x2
    try clear_value x1
    refine Leaves.have x2 (by unfold x2; exact Leaves.one (Leaves.set_clk _ _) rfl rfl) fun hx2 => ?_
    try clear_value x2
    extract_lets -merge +onlyGivenNames x3
    split
    · try unfold x3
      exact Leaves.step (log_leaves ..) hx2 rfl rfl
    · refine Leaves.ite ?_ ?_
      · try unfold x3
        exact Leaves.step (log_leaves ..) hx2 rfl rfl
      · split
        · try unfold x3
          exact Leaves.step (log_leaves ..) hx2 rfl rfl
        · exact Leaves.step (beginMode_leaves ..) hx2 rfl rfl

theorem avplusMonitor_leaves (g : Nat) (avplus : Nat) (agOpen : Bool) (strap : Nat) (s : State) :
    Leaves [.ring, .clk, .sto, .int, .ana, .free] [F.objAG_CHSTAT, F.objAG_CS, F.objAG_GSTAT, F.objCLK_START,
      F.objINT_STAT, F.objINT_STATE, F.objINT_STORMED, F.objREC_STAT] s (avplusMonitor g avplus agOpen strap s) := by
  unfold avplusMonitor
  refine Leaves.ite ?_ ?_
  · exact Leaves.one (noEffect_leaves ..) rfl rfl
  · extract_lets -merge +onlyGivenNames x0 x1 x2 x3
    try clear_value x0 x1 x2
    refine Leaves.have x3 (by unfold x3; exact Leaves.one (updAgg_leaves ..) rfl rfl) fun hx3 => ?_
    try clear_value x3
    refine Leaves.ite ?_ ?_
    · refine Leaves.step (slicesFollow_leaves ..) ?_ rfl rfl
      exact Leaves.step (abandonCal_leaves ..) (Leaves.step (agPowerLoss_leaves ..) hx3 rfl rfl) rfl rfl
    · refine Leaves.ite ?_ ?_
      · refine Leaves.transR (Leaves.foldl _ _ (fun y4 z4 _ => by
          exact Leaves.one (putAch_leaves ..) rfl rfl
          ) _) ?_
        exact hx3
      · exact hx3

theorem backupPowerLoss_leaves (s : State) :
    Leaves [.sto, .rtc] [F.objRTC_STATUS] s (backupPowerLoss s) := by
  unfold backupPowerLoss
  refine Leaves.ite ?_ ?_
  · exact Leaves.one (noEffect_leaves ..) rfl rfl
  · extract_lets -merge +onlyGivenNames x0 x1 x2
    try clear_value x0 x1
    refine Leaves.have x2 ?_ fun hx2 => ?_
    · unfold x2
      refine Leaves.step (Leaves.upd (ps := [.sto, .rtc]) (s := s) rfl (by intro p hp; cases p <;> first | rfl | exact absurd (by decide) hp)) ?_ rfl rfl
      exact Leaves.refl ..
    try clear_value x2
    exact Leaves.step (State.wr_leaves ..) (Leaves.step (State.wr_leaves ..) hx2 rfl rfl) rfl rfl

theorem backupPowerOn_keeps (logic : Bool) (s : State) :
    Keeps [.sto, .rtc] s (backupPowerOn logic s) := by
  unfold backupPowerOn
  refine Keeps.ite ?_ ?_
  · exact Keeps.one (noEffect_leaves ..).1 rfl
  · extract_lets -merge +onlyGivenNames x0
    extract_lets -merge +onlyGivenNames x1 x2
    try clear_value x1
    refine Keeps.have x2 ?_ fun hx2 => ?_
    · unfold x2
      refine Keeps.step (Keeps.upd (ps := [.sto, .rtc]) (s := s) (by intro p hp; cases p <;> first | rfl | exact absurd (by decide) hp)) ?_ rfl
      exact Keeps.refl _ _
    try clear_value x2
    exact Keeps.step (State.wr_leaves ..).1 hx2 rfl

theorem banksLoaded_leaves (s : State) :
    Leaves [.prg] [F.objCLK_START, F.objPLT_LANE, F.objPRG_ACT, F.objPRG_BANKA, F.objPRG_BANKB, F.objSCN_MODE,
      F.objSCN_RETAIN, F.objSCN_T] s (banksLoaded s) := by
  unfold banksLoaded
  refine Leaves.ite ?_ ?_
  · exact Leaves.one (noEffect_leaves ..) rfl rfl
  · extract_lets -merge +onlyGivenNames x0
    have hx0 : ∀ w1_0 w1_5, Leaves [.prg] [F.objCLK_START, F.objPLT_LANE, F.objPRG_ACT, F.objPRG_BANKA, F.objPRG_BANKB, F.objSCN_MODE, F.objSCN_RETAIN, F.objSCN_T] w1_0 (x0 w1_0 w1_5) := by
      intro w1_0 w1_5
      unfold x0
      split
      · exact Leaves.one (emptyBank_leaves ..) rfl rfl
      · extract_lets -merge +onlyGivenNames x1 x2
        try clear_value x1 x2
        refine Leaves.ite ?_ ?_
        · exact Leaves.step (setBankSt_leaves ..) (Leaves.one (putBank_leaves ..) rfl rfl) rfl rfl
        · exact Leaves.one (emptyBank_leaves ..) rfl rfl
    try clear_value x0
    extract_lets -merge +onlyGivenNames x3
    refine Leaves.have x3 ?_ fun hx3 => ?_
    · unfold x3
      exact Leaves.transR (hx0 ..) (Leaves.transR (hx0 ..) (Leaves.refl ..))
    try clear_value x3
    extract_lets -merge +onlyGivenNames x4
    refine Leaves.have x4 ?_ fun hx4 => ?_
    · unfold x4
      split
      · exact hx3
      · extract_lets -merge +onlyGivenNames x5
        try clear_value x5
        exact Leaves.ite (Leaves.step (activateBank_leaves ..) hx3 rfl rfl) hx3
    try clear_value x4
    extract_lets -merge +onlyGivenNames x6
    refine Leaves.have x6 ?_ fun hx6 => ?_
    · unfold x6
      refine Leaves.transR (Leaves.foldl _ _ (fun y7 z7 _ => by
        exact Leaves.ite (Leaves.one (setLane_leaves ..) rfl rfl) (Leaves.refl ..)
        ) _) ?_
      exact hx4
    try clear_value x6
    exact Leaves.step (State.wr_leaves ..) hx6 rfl rfl

theorem baseConfig_keeps (s : State) :
    Keeps [] s (baseConfig s) := by
  unfold baseConfig
  extract_lets -merge +onlyGivenNames x0
  extract_lets -merge +onlyGivenNames x1
  refine Keeps.have x1 (by unfold x1; exact Keeps.refl _ _) fun hx1 => ?_
  try clear_value x1
  extract_lets -merge +onlyGivenNames x2
  refine Keeps.have x2 ?_ fun hx2 => ?_
  · unfold x2
    refine Keeps.transR (Keeps.foldl _ _ (fun y3 z3 _ => by
      exact Keeps.one (State.wr_leaves ..).1 rfl
      ) _) ?_
    exact hx1
  try clear_value x2
  refine Keeps.transR (Keeps.foldl _ _ (fun y4 z4 _ => by
    exact Keeps.one (State.wr_leaves ..).1 rfl
    ) _) ?_
  exact hx2

theorem baseValue_leaves (s : State) (c : Nat) (x : ℤ) :
    Leaves [.free] [] s (baseValue s c x).2 := by
  unfold baseValue
  split
  · extract_lets -merge +onlyGivenNames x0 x1
    try clear_value x0 x1
    exact Leaves.one (State.useFree_leaves ..) rfl rfl
  · exact Leaves.refl ..
  · exact Leaves.refl ..

theorem baseline_leaves (s : State) (kind : Nat) (index : Nat) :
    Leaves [.ana] [F.objAG_CS] s (baseline s kind index) := by
  unfold baseline
  refine Leaves.ite ?_ ?_
  · exact Leaves.step (State.wr_leaves ..) (Leaves.one (State.wr_leaves ..) rfl rfl) rfl rfl
  · exact Leaves.ite (Leaves.one (Leaves.set_ana _ _) rfl rfl) (Leaves.refl ..)

theorem completeTask_leaves (s : State) (task : Nat) :
    Leaves [.time, .ring, .sto, .int, .mbx, .img, .scn, .prg, .fld, .pair] [F.objANG_EV, F.objDG_COS, F.objINT_LATCH,
      F.objINT_STAT, F.objINT_STATE, F.objINT_STORMED, F.objMBX_QUEUES, F.objMBX_USE, F.objPLT_PSTATE, F.objPPR_WINSTAT,
      F.objPRG_ACT, F.objREC_STAT, F.objSCN_MODE, F.objSCN_TSTAT] s (completeTask s task) := by
  unfold completeTask
  extract_lets -merge +onlyGivenNames x0 x1 x2
  try clear_value x0 x1
  refine Leaves.have x2 (by unfold x2; exact Leaves.one (Leaves.set_int _ _) rfl rfl) fun hx2 => ?_
  try clear_value x2
  refine Leaves.transR (Leaves.foldl _ _ (fun y3 z3 _ => by
    refine Leaves.ite ?_ ?_
    · exact Leaves.step (takeTask_leaves ..) (Leaves.one (putSrc_leaves ..) rfl rfl) rfl rfl
    · exact Leaves.one (putSrc_leaves ..) rfl rfl
    ) _) ?_
  exact hx2

theorem releaseDeferred_leaves (s : State) :
    Leaves [.time, .ring, .sto, .int, .mbx, .img, .scn, .prg, .fld, .pair] [F.objANG_EV, F.objDG_COS, F.objINT_LATCH,
      F.objINT_STAT, F.objINT_STATE, F.objINT_STORMED, F.objMBX_QUEUES, F.objMBX_USE, F.objPLT_PSTATE, F.objPPR_WINSTAT,
      F.objPRG_ACT, F.objREC_STAT, F.objSCN_MODE, F.objSCN_TSTAT] s (releaseDeferred s) := by
  unfold releaseDeferred
  extract_lets -merge +onlyGivenNames x0 x1 x2
  try clear_value x0 x1
  refine Leaves.have x2 (by unfold x2; exact Leaves.one (Leaves.set_prg _ _) rfl rfl) fun hx2 => ?_
  try clear_value x2
  refine Leaves.transR (Leaves.foldl _ _ (fun y3 z3 _ => by
    refine Leaves.ite ?_ ?_
    · exact Leaves.step (completeTask_leaves ..) (Leaves.one (State.incTo_leaves ..) rfl rfl) rfl rfl
    · extract_lets -merge +onlyGivenNames x4 x5
      try clear_value x4 x5
      exact Leaves.step (dispatch_leaves ..) (Leaves.one (Leaves.set_scn _ _) rfl rfl) rfl rfl
    ) _) ?_
  exact hx2

theorem makeSwap_leaves (s : State) (a : Act) (cinch : Nat) :
    Leaves [.time, .ring, .sto, .int, .mbx, .img, .scn, .prg, .fld, .pair] [F.objANG_EV, F.objDG_COS, F.objINT_LATCH,
      F.objINT_STAT, F.objINT_STATE, F.objINT_STORMED, F.objMBX_QUEUES, F.objMBX_USE, F.objPLT_PSTATE, F.objPPR_WINSTAT,
      F.objPRG_ACT, F.objPRG_BANKA, F.objPRG_BANKB, F.objREC_STAT, F.objSCN_MODE, F.objSCN_RETAIN, F.objSCN_T,
      F.objSCN_TSTAT] s (makeSwap s a cinch) := by
  unfold makeSwap
  split
  · exact Leaves.refl ..
  · extract_lets -merge +onlyGivenNames x0 x1 x2
    try clear_value x0 x1
    refine Leaves.have x2 (by unfold x2; exact Leaves.one (Leaves.set_scn _ _) rfl rfl) fun hx2 => ?_
    try clear_value x2
    extract_lets -merge +onlyGivenNames x3
    refine Leaves.have x3 (by unfold x3; exact Leaves.step (activateBank_leaves ..) hx2 rfl rfl) fun hx3 => ?_
    try clear_value x3
    extract_lets -merge +onlyGivenNames x4
    refine Leaves.have x4 ?_ fun hx4 => ?_
    · unfold x4
      exact Leaves.step (State.wr_leaves ..) (Leaves.step (State.wr_leaves ..) hx3 rfl rfl) rfl rfl
    try clear_value x4
    extract_lets -merge +onlyGivenNames x5
    refine Leaves.have x5 (by unfold x5; exact Leaves.step (log_leaves ..) hx4 rfl rfl) fun hx5 => ?_
    try clear_value x5
    exact Leaves.step (releaseDeferred_leaves ..) (Leaves.step (putAct_leaves ..) hx5 rfl rfl) rfl rfl

theorem pairEvent_leaves (s : State) (e : Nat) :
    Leaves [.pair] [] s (pairEvent s e) := by
  unfold pairEvent
  exact Leaves.one (updPair_leaves ..) rfl rfl

theorem swapInRun_leaves (s : State) (a : Act) :
    Leaves [.time, .ring, .sto, .int, .mbx, .img, .scn, .prg, .fld, .pair] [F.objANG_EV, F.objDG_COS, F.objINT_LATCH,
      F.objINT_STAT, F.objINT_STATE, F.objINT_STORMED, F.objMBX_QUEUES, F.objMBX_USE, F.objPLT_PSTATE, F.objPPR_WINSTAT,
      F.objPRG_ACT, F.objPRG_BANKA, F.objPRG_BANKB, F.objREC_STAT, F.objSCN_MODE, F.objSCN_RETAIN, F.objSCN_T,
      F.objSCN_TSTAT] s (swapInRun s a) := by
  unfold swapInRun
  extract_lets -merge +onlyGivenNames x0 x1
  try clear_value x0
  refine Leaves.have x1 (by unfold x1; exact Leaves.one (makeSwap_leaves ..) rfl rfl) fun hx1 => ?_
  try clear_value x1
  refine Leaves.ite ?_ ?_
  · exact hx1
  · exact Leaves.ite (Leaves.step (pairSub_leaves ..) hx1 rfl rfl) (Leaves.step (pairEvent_leaves ..) hx1 rfl rfl)

theorem swapped_leaves (s : State) :
    Leaves [.time, .ring, .sto, .int, .mbx, .img, .scn, .prg, .fld, .pair] [F.objANG_EV, F.objDG_COS, F.objINT_LATCH,
      F.objINT_STAT, F.objINT_STATE, F.objINT_STORMED, F.objMBX_QUEUES, F.objMBX_USE, F.objPLT_PSTATE, F.objPPR_WINSTAT,
      F.objPRG_ACT, F.objPRG_BANKA, F.objPRG_BANKB, F.objREC_STAT, F.objSCN_MODE, F.objSCN_RETAIN, F.objSCN_T,
      F.objSCN_TSTAT] s (swapped s) := by
  unfold swapped
  split
  · exact Leaves.one (noEffect_leaves ..) rfl rfl
  · refine Leaves.ite ?_ ?_
    · exact Leaves.one (noEffect_leaves ..) rfl rfl
    · refine Leaves.ite ?_ ?_
      · exact Leaves.step (State.wr_leaves ..) (Leaves.one (putAct_leaves ..) rfl rfl) rfl rfl
      · refine Leaves.ite ?_ ?_
        · extract_lets -merge +onlyGivenNames x0
          refine Leaves.have x0 (by unfold x0; exact Leaves.one (putAct_leaves ..) rfl rfl) fun hx0 => ?_
          try clear_value x0
          extract_lets -merge +onlyGivenNames x1 x2
          try clear_value x1
          refine Leaves.have x2 (by unfold x2; exact Leaves.step (Leaves.set_prg _ _) hx0 rfl rfl) fun hx2 => ?_
          try clear_value x2
          exact Leaves.ite (Leaves.step (swapInRun_leaves ..) hx2 rfl rfl) hx2
        · exact Leaves.one (noEffect_leaves ..) rfl rfl

theorem noswap_leaves (s : State) :
    Leaves [.time, .ring, .sto, .int, .mbx, .img, .scn, .prg, .fld, .pair] [F.objANG_EV, F.objDG_COS, F.objINT_LATCH,
      F.objINT_STAT, F.objINT_STATE, F.objINT_STORMED, F.objMBX_QUEUES, F.objMBX_USE, F.objPLT_PSTATE, F.objPPR_WINSTAT,
      F.objPRG_ACT, F.objREC_STAT, F.objSCN_MODE, F.objSCN_TSTAT] s (noswap s) := by
  unfold noswap
  split
  · exact Leaves.one (noEffect_leaves ..) rfl rfl
  · refine Leaves.ite ?_ ?_
    · refine Leaves.step (releaseDeferred_leaves ..) ?_ rfl rfl
      exact Leaves.step (State.wr_leaves ..) (Leaves.one (putAct_leaves ..) rfl rfl) rfl rfl
    · exact Leaves.one (noEffect_leaves ..) rfl rfl

theorem tookOver_leaves (s : State) :
    Leaves [.ring, .sto, .int, .mbx, .prg, .fld, .ana, .pair, .free] [F.objAG_GSTAT, F.objANG_EV, F.objDG_CHSTAT,
      F.objDG_GSTAT, F.objINT_LATCH, F.objINT_STAT, F.objINT_STATE, F.objINT_STORMED, F.objMBX_QUEUES, F.objMBX_USE,
      F.objPLT_PSTATE, F.objPRG_ACT, F.objREC_STAT] s (tookOver s) := by
  unfold tookOver
  refine Leaves.ite ?_ ?_
  · exact Leaves.one (noEffect_leaves ..) rfl rfl
  · extract_lets -merge +onlyGivenNames x0 x1
    try clear_value x0
    refine Leaves.have x1 ?_ fun hx1 => ?_
    · unfold x1
      refine Leaves.step (updPair_leaves ..) ?_ rfl rfl
      exact Leaves.step (releaseDigital_leaves ..) (Leaves.one (releaseAnalogue_leaves ..) rfl rfl) rfl rfl
    try clear_value x1
    extract_lets -merge +onlyGivenNames x2
    refine Leaves.have x2 ?_ fun hx2 => ?_
    · unfold x2
      refine Leaves.ite ?_ ?_
      · exact Leaves.step (setRole_leaves ..) hx1 rfl rfl
      · exact Leaves.step (disarmOutputs_leaves ..) (Leaves.step (setRole_leaves ..) hx1 rfl rfl) rfl rfl
    try clear_value x2
    extract_lets -merge +onlyGivenNames x3
    refine Leaves.have x3 ?_ fun hx3 => ?_
    · unfold x3
      exact Leaves.step (pltCase_leaves ..) (Leaves.step (State.incTo_leaves ..) hx2 rfl rfl) rfl rfl
    try clear_value x3
    extract_lets -merge +onlyGivenNames x4
    refine Leaves.have x4 ?_ fun hx4 => ?_
    · unfold x4
      refine Leaves.step (refreshPair_leaves ..) ?_ rfl rfl
      exact Leaves.step (endPending_leaves ..) (Leaves.step (pairEvent_leaves ..) hx3 rfl rfl) rfl rfl
    try clear_value x4
    split
    · exact hx4
    · refine Leaves.ite ?_ ?_
      · exact Leaves.step (updPair_leaves ..) hx4 rfl rfl
      · refine Leaves.ite ?_ ?_
        · exact Leaves.step (finishDrill_leaves ..) (Leaves.step (State.useFree_leaves ..) hx4 rfl rfl) rfl rfl
        · exact hx4

theorem beatEvent_leaves (s : State) (b1 : Nat) :
    Leaves [.time, .ring, .sto, .int, .mbx, .img, .scn, .prg, .fld, .ana, .pair, .free] [F.objAG_GSTAT, F.objANG_EV,
      F.objDG_CHSTAT, F.objDG_COS, F.objDG_GSTAT, F.objINT_LATCH, F.objINT_STAT, F.objINT_STATE, F.objINT_STORMED,
      F.objMBX_QUEUES, F.objMBX_USE, F.objPLT_PSTATE, F.objPPR_WINSTAT, F.objPRG_ACT, F.objPRG_BANKA, F.objPRG_BANKB,
      F.objREC_STAT, F.objSCN_MODE, F.objSCN_RETAIN, F.objSCN_T, F.objSCN_TSTAT] s (beatEvent s b1) := by
  unfold beatEvent
  extract_lets -merge +onlyGivenNames x0 x1
  try clear_value x0 x1
  refine Leaves.ite ?_ ?_
  · exact Leaves.refl ..
  · extract_lets -merge +onlyGivenNames x2
    refine Leaves.have x2 (by unfold x2; exact Leaves.one (updPair_leaves ..) rfl rfl) fun hx2 => ?_
    try clear_value x2
    split
    · exact Leaves.step (swapped_leaves ..) hx2 rfl rfl
    · exact Leaves.step (noswap_leaves ..) hx2 rfl rfl
    · exact Leaves.step (tookOver_leaves ..) hx2 rfl rfl
    · exact Leaves.step (released_leaves ..) hx2 rfl rfl
    · exact hx2

theorem beginBridge_leaves (s : State) :
    Leaves [.clk] [F.objCLK_STATUS] s (beginBridge s) := by
  unfold beginBridge
  exact Leaves.step (State.wr_leaves ..) (Leaves.one (Leaves.set_clk _ _) rfl rfl) rfl rfl

theorem setRef_leaves (s : State) (v : Nat) :
    Leaves [] [F.objCLK_STATUS, F.objNRL_STATE] s (setRef s v) := by
  unfold setRef
  exact Leaves.step (State.wr_leaves ..) (Leaves.one (State.wr_leaves ..) rfl rfl) rfl rfl

theorem beginPhaseB_leaves (lineEnd : Bool) (compat : Bool) (xtal : Bool) (s : State) :
    Leaves [.clk, .pwr] [F.objCLK_STATUS, F.objNRL_STATE, F.objRTC_STATUS] s (beginPhaseB lineEnd compat xtal s) := by
  unfold beginPhaseB
  extract_lets -merge +onlyGivenNames x0 x1 x2
  try clear_value x0 x1
  refine Leaves.have x2 ?_ fun hx2 => ?_
  · unfold x2
    refine Leaves.step (Leaves.upd (ps := [.clk, .pwr]) (s := s) rfl (by intro p hp; cases p <;> first | rfl | exact absurd (by decide) hp)) ?_ rfl rfl
    exact Leaves.refl ..
  try clear_value x2
  extract_lets -merge +onlyGivenNames x3
  refine Leaves.have x3 ?_ fun hx3 => ?_
  · unfold x3
    refine Leaves.step (State.wr_leaves ..) ?_ rfl rfl
    exact Leaves.step (State.wr_leaves ..) (Leaves.step (State.wr_leaves ..) hx2 rfl rfl) rfl rfl
  try clear_value x3
  extract_lets -merge +onlyGivenNames x4
  refine Leaves.have x4 ?_ fun hx4 => ?_
  · unfold x4
    exact Leaves.ite (Leaves.step (State.wr_leaves ..) (Leaves.step (State.wr_leaves ..) hx3 rfl rfl) rfl rfl) hx3
  try clear_value x4
  exact Leaves.step (setRef_leaves ..) (Leaves.step (State.wr_leaves ..) hx4 rfl rfl) rfl rfl

theorem beginSlot_leaves (s : State) (c : Nat) (phase : Nat) (t : Nat) :
    Leaves [.ana] [] s (beginSlot s c phase t) := by
  unfold beginSlot
  extract_lets -merge +onlyGivenNames x0
  try clear_value x0
  exact Leaves.one (putAslot_leaves ..) rfl rfl

theorem boostEnd_leaves (c : Nat) (s : State) :
    Leaves [.fld] [] s (boostEnd c s) := by
  unfold boostEnd
  exact Leaves.ite (Leaves.one (putDch_leaves ..) rfl rfl) (Leaves.one (noEffect_leaves ..) rfl rfl)

theorem boostPlan_leaves (s : State) (g : Nat) :
    Leaves [.ring, .sto, .int] [F.objANG_BOOST_PLAN, F.objINT_LATCH, F.objINT_STAT, F.objINT_STATE, F.objINT_STORMED,
      F.objREC_STAT] s (boostPlan s g) := by
  unfold boostPlan
  refine Leaves.ite ?_ ?_
  · exact Leaves.refl ..
  · extract_lets -merge +onlyGivenNames x0
    try clear_value x0
    exact Leaves.step (log_leaves ..) (Leaves.one (State.wr_leaves ..) rfl rfl) rfl rfl

theorem boostcapMeasure_leaves (g : Nat) (cmeas : Nat) (above20 : Bool) (s : State) :
    Leaves [.ring, .sto, .int, .fld] [F.objDG_GSTAT, F.objINT_STAT, F.objINT_STATE, F.objINT_STORMED, F.objREC_STAT] s
      (boostcapMeasure g cmeas above20 s) := by
  unfold boostcapMeasure
  refine Leaves.ite ?_ ?_
  · extract_lets -merge +onlyGivenNames x0
    refine Leaves.have x0 ?_ fun hx0 => ?_
    · unfold x0
      exact Leaves.step (State.wr_leaves ..) (Leaves.one (settleBc_leaves ..) rfl rfl) rfl rfl
    try clear_value x0
    extract_lets -merge +onlyGivenNames x1
    try clear_value x1
    exact Leaves.step (updDgg_leaves ..) hx0 rfl rfl
  · exact Leaves.one (noEffect_leaves ..) rfl rfl

theorem loseClaim_leaves (s : State) :
    Leaves [.ring, .sto, .int, .fld, .ana, .pair] [F.objAG_GSTAT, F.objDG_CHSTAT, F.objDG_GSTAT, F.objINT_STAT,
      F.objINT_STATE, F.objINT_STORMED, F.objPLT_PSTATE, F.objREC_STAT] s (loseClaim s) := by
  unfold loseClaim
  extract_lets -merge +onlyGivenNames x0
  refine Leaves.have x0 (by unfold x0; exact Leaves.one (updPair_leaves ..) rfl rfl) fun hx0 => ?_
  try clear_value x0
  extract_lets -merge +onlyGivenNames x1
  refine Leaves.have x1 (by unfold x1; exact Leaves.step (State.wr_leaves ..) hx0 rfl rfl) fun hx1 => ?_
  try clear_value x1
  exact Leaves.ite (Leaves.step (standbyOutputs_leaves ..) (Leaves.step (setRole_leaves ..) hx1 rfl rfl) rfl rfl) hx1

theorem conflict_leaves (s : State) :
    Leaves [.ring, .sto, .int, .fld, .ana, .pair] [F.objAG_GSTAT, F.objDG_CHSTAT, F.objDG_GSTAT, F.objINT_LATCH,
      F.objINT_STAT, F.objINT_STATE, F.objINT_STORMED, F.objPLT_PSTATE, F.objREC_STAT] s (conflict s) := by
  unfold conflict
  extract_lets -merge +onlyGivenNames x0
  refine Leaves.have x0 ?_ fun hx0 => ?_
  · unfold x0
    exact Leaves.step (pltCase_leaves ..) (Leaves.one (State.incTo_leaves ..) rfl rfl) rfl rfl
  try clear_value x0
  exact Leaves.ite hx0 (Leaves.step (loseClaim_leaves ..) hx0 rfl rfl)

theorem boundaryPair_leaves (s : State) :
    Leaves [.ring, .sto, .int, .fld, .ana, .pair] [F.objAG_GSTAT, F.objDG_CHSTAT, F.objDG_GSTAT, F.objINT_LATCH,
      F.objINT_STAT, F.objINT_STATE, F.objINT_STORMED, F.objPLT_PSTATE, F.objREC_STAT] s (boundaryPair s) := by
  unfold boundaryPair
  exact Leaves.ite (Leaves.step (conflict_leaves ..) (Leaves.one (updPair_leaves ..) rfl rfl) rfl rfl) (Leaves.refl ..)

theorem breakPin_leaves (s : State) (n : Nat) :
    Leaves [.ring, .sto, .int, .mbx, .img] [F.objIMG_PINS, F.objIMG_STATUS, F.objINT_LATCH, F.objINT_STAT, F.objINT_STATE,
      F.objINT_STORMED, F.objMBX_QUEUES, F.objMBX_USE, F.objREC_STAT] s (breakPin s n) := by
  unfold breakPin
  extract_lets -merge +onlyGivenNames x0 x1 x2
  try clear_value x0 x1
  refine Leaves.have x2 (by unfold x2; exact Leaves.one (Leaves.set_img _ _) rfl rfl) fun hx2 => ?_
  try clear_value x2
  extract_lets -merge +onlyGivenNames x3
  refine Leaves.have x3 ?_ fun hx3 => ?_
  · unfold x3
    refine Leaves.step (hostSync_leaves ..) ?_ rfl rfl
    exact Leaves.step (State.wr_leaves ..) (Leaves.step (log_leaves ..) hx2 rfl rfl) rfl rfl
  try clear_value x3
  extract_lets -merge +onlyGivenNames x4
  try clear_value x4
  refine Leaves.step (pinRegs_leaves ..) ?_ rfl rfl
  refine Leaves.transR (Leaves.foldl _ _ (fun y5 z5 _ => by
    exact Leaves.one (fin_leaves ..) rfl rfl
    ) _) ?_
  exact hx3

theorem dropAngle_leaves (s : State) (g : Nat) :
    Leaves [.ang] [] s (dropAngle s g) := by
  unfold dropAngle
  exact Leaves.one (Leaves.set_ang _ _) rfl rfl

theorem reinStopDg_leaves (s : State) (g : Nat) :
    Leaves [.ring, .sto, .int, .fld, .ang] [F.objDG_CHSTAT, F.objDG_GSTAT, F.objINT_STAT, F.objINT_STATE,
      F.objINT_STORMED, F.objREC_STAT] s (reinStopDg s g) := by
  unfold reinStopDg
  refine Leaves.ite ?_ ?_
  · exact Leaves.refl ..
  · extract_lets -merge +onlyGivenNames x0
    refine Leaves.have x0 (by unfold x0; exact Leaves.one (updDgg_leaves ..) rfl rfl) fun hx0 => ?_
    try clear_value x0
    refine Leaves.ite ?_ ?_
    · exact hx0
    · refine Leaves.transR (Leaves.foldl _ _ (fun y1 z1 _ => by
        exact Leaves.one (drive_leaves ..) rfl rfl
        ) _) ?_
      exact Leaves.step (dropAngle_leaves ..) hx0 rfl rfl

theorem reinStopAg_leaves (s : State) (g : Nat) :
    Leaves [.ring, .sto, .int, .ana] [F.objAG_GSTAT, F.objINT_STAT, F.objINT_STATE, F.objINT_STORMED, F.objREC_STAT] s
      (reinStopAg s g) := by
  unfold reinStopAg
  refine Leaves.ite ?_ ?_
  · exact Leaves.refl ..
  · extract_lets -merge +onlyGivenNames x0 x1
    try clear_value x0
    refine Leaves.have x1 (by unfold x1; exact Leaves.one (updAgg_leaves ..) rfl rfl) fun hx1 => ?_
    try clear_value x1
    refine Leaves.ite ?_ ?_
    · exact hx1
    · refine Leaves.transR (Leaves.foldl _ _ (fun y2 z2 _ => by
        extract_lets -merge +onlyGivenNames x3
        try clear_value x3
        exact Leaves.ite (Leaves.one (putAch_leaves ..) rfl rfl) (Leaves.refl ..)
        ) _) ?_
      exact hx1

theorem reinTimeout_leaves (g : Nat) (s : State) :
    Leaves [.ring, .sto, .int, .fld, .ana, .ang] [F.objAG_GSTAT, F.objDG_CHSTAT, F.objDG_GSTAT, F.objINT_STAT,
      F.objINT_STATE, F.objINT_STORMED, F.objREC_STAT] s (reinTimeout g s) := by
  unfold reinTimeout
  refine Leaves.ite ?_ ?_
  · exact Leaves.one (noEffect_leaves ..) rfl rfl
  · refine Leaves.ite ?_ ?_
    · exact Leaves.one (reinStopDg_leaves ..) rfl rfl
    · exact Leaves.ite (Leaves.one (reinStopAg_leaves ..) rfl rfl) (Leaves.one (noEffect_leaves ..) rfl rfl)

theorem bridgeFrame_leaves (s : State) :
    Leaves [.ring, .clk, .sto, .int, .fld, .ana, .ang] [F.objAG_GSTAT, F.objDG_CHSTAT, F.objDG_GSTAT, F.objINT_STAT,
      F.objINT_STATE, F.objINT_STORMED, F.objREC_STAT] s (bridgeFrame s) := by
  unfold bridgeFrame
  split
  · exact Leaves.one (noEffect_leaves ..) rfl rfl
  · extract_lets -merge +onlyGivenNames x0 x1 x2
    try clear_value x0 x1 x2
    refine Leaves.transR (Leaves.foldl _ _ (fun y3 z3 _ => by
      exact Leaves.one (reinTimeout_leaves ..) rfl rfl
      ) _) ?_
    exact Leaves.one (Leaves.set_clk _ _) rfl rfl

theorem openEvent_leaves (s : State) :
    Leaves [.ring, .clk, .sto, .int] [F.objINT_STAT, F.objINT_STATE, F.objINT_STORMED, F.objREC_STAT] s (openEvent s) :=
      by
  unfold openEvent
  refine Leaves.transR (Leaves.foldl _ _ (fun y0 z0 _ => by
    exact Leaves.one (hostSync_leaves ..) rfl rfl
    ) _) ?_
  exact Leaves.one (Leaves.set_clk _ _) rfl rfl

theorem openSys_leaves (s : State) :
    Leaves [.clk, .mbx] [] s (openSys s) := by
  unfold openSys
  extract_lets -merge +onlyGivenNames x0
  try clear_value x0
  refine Leaves.step (Leaves.upd (ps := [.clk, .mbx]) (s := s) rfl (by intro p hp; cases p <;> first | rfl | exact absurd (by decide) hp)) ?_ rfl rfl
  exact Leaves.refl ..

theorem heal_leaves (s : State) (p : Port) :
    Leaves [.ring] [] s (heal s p) := by
  unfold heal
  exact Leaves.one (queueSub_leaves ..) rfl rfl

theorem setPort_leaves (s : State) (p : Port) (v : Nat) :
    Leaves [.ring, .sto, .int] [F.objINT_LATCH, F.objINT_STAT, F.objINT_STATE, F.objINT_STORMED, F.objNRL_CTRL,
      F.objNRL_PORTA_LINK, F.objNRL_PORTB_LINK, F.objNRL_STATE, F.objREC_STAT] s (setPort s p v) := by
  unfold setPort
  extract_lets -merge +onlyGivenNames x0
  try clear_value x0
  refine Leaves.ite ?_ ?_
  · exact Leaves.refl ..
  · extract_lets -merge +onlyGivenNames x1
    refine Leaves.have x1 ?_ fun hx1 => ?_
    · unfold x1
      refine Leaves.step (State.wr_leaves ..) ?_ rfl (by unfold Sys2Proof.Machine.wrapFld; (try dsimp only); first | rfl | (simp only [List.all_cons, List.all_nil, Bool.and_true]; (repeat' split) <;> rfl))
      refine Leaves.step (State.wr_leaves ..) ?_ rfl (by unfold Sys2Proof.Machine.portFld; (try dsimp only); first | rfl | (simp only [List.all_cons, List.all_nil, Bool.and_true]; (repeat' split) <;> rfl))
      exact Leaves.refl ..
    try clear_value x1
    extract_lets -merge +onlyGivenNames x2
    refine Leaves.have x2 ?_ fun hx2 => ?_
    · unfold x2
      refine Leaves.ite ?_ ?_
      · refine Leaves.step (State.inc_leaves ..) ?_ rfl (by unfold Sys2Proof.Machine.lockLoss; (try dsimp only); first | rfl | (simp only [List.all_cons, List.all_nil, Bool.and_true]; (repeat' split) <;> rfl))
        exact hx1
      · exact hx1
    try clear_value x2
    extract_lets -merge +onlyGivenNames x3
    refine Leaves.have x3 (by unfold x3; exact Leaves.ite (Leaves.step (State.wr_leaves ..) hx2 rfl rfl) hx2) fun hx3 => ?_
    try clear_value x3
    extract_lets -merge +onlyGivenNames x4
    refine Leaves.have x4 (by unfold x4; exact Leaves.step (log_leaves ..) hx3 rfl rfl) fun hx4 => ?_
    try clear_value x4
    exact Leaves.ite (Leaves.step (setLatch_leaves ..) (Leaves.step (heal_leaves ..) hx4 rfl rfl) rfl rfl) hx4

theorem portsTrain_leaves (s : State) :
    Leaves [.ring, .sto, .int] [F.objINT_LATCH, F.objINT_STAT, F.objINT_STATE, F.objINT_STORMED, F.objNRL_CTRL,
      F.objNRL_PORTA_LINK, F.objNRL_PORTB_LINK, F.objNRL_STATE, F.objREC_STAT] s (portsTrain s) := by
  unfold portsTrain
  extract_lets -merge +onlyGivenNames x0
  have hx0 : ∀ w1_0 w1_5, Leaves [.ring, .sto, .int] [F.objINT_LATCH, F.objINT_STAT, F.objINT_STATE, F.objINT_STORMED, F.objNRL_CTRL, F.objNRL_PORTA_LINK, F.objNRL_PORTB_LINK, F.objNRL_STATE, F.objREC_STAT] w1_0 (x0 w1_0 w1_5) := by
    intro w1_0 w1_5
    unfold x0
    exact Leaves.ite (Leaves.one (setPort_leaves ..) rfl rfl) (Leaves.refl ..)
  try clear_value x0
  extract_lets -merge +onlyGivenNames x1
  refine Leaves.have x1 (by unfold x1; exact Leaves.transR (hx0 ..) (Leaves.transR (hx0 ..) (Leaves.refl ..))) fun hx1 => ?_
  try clear_value x1
  exact Leaves.ite (Leaves.step (State.wr_leaves ..) hx1 rfl rfl) hx1

theorem reopenDomain_leaves (s : State) (d : Nat) :
    Leaves [.ring, .sto, .int, .fld, .ang, .free] [F.objANG_CAPPOS, F.objANG_EV, F.objANG_PERIOD, F.objANG_STATUS,
      F.objDG_CHSTAT, F.objDG_GSTAT, F.objINT_LATCH, F.objINT_STAT, F.objINT_STATE, F.objINT_STORMED, F.objREC_STAT] s
      (reopenDomain s d) := by
  unfold reopenDomain
  split
  · exact Leaves.refl ..
  · exact Leaves.step (startDomain_leaves ..) (Leaves.one (suspend_leaves ..) rfl rfl) rfl rfl
  · exact Leaves.ite (Leaves.refl ..) (Leaves.one (enterLost_leaves ..) rfl rfl)

theorem syncResetGroup_leaves (s : State) (g : Nat) :
    Leaves [.ana] [F.objPPR_STAT] s (syncResetGroup s g) := by
  unfold syncResetGroup
  refine Leaves.transR (Leaves.foldl _ _ (fun y0 z0 _ => by
    exact Leaves.one (syncReset_leaves ..) rfl rfl
    ) _) ?_
  exact Leaves.refl ..

theorem reopenField_leaves (s : State) :
    Leaves [.ring, .sto, .int, .fld, .ana, .ang, .free] [F.objANG_CAPPOS, F.objANG_EV, F.objANG_PERIOD, F.objANG_STATUS,
      F.objDG_CHSTAT, F.objDG_GSTAT, F.objINT_LATCH, F.objINT_STAT, F.objINT_STATE, F.objINT_STORMED, F.objPPR_STAT,
      F.objREC_STAT] s (reopenField s) := by
  unfold reopenField
  extract_lets -merge +onlyGivenNames x0 x1
  try clear_value x0
  refine Leaves.have x1 (by unfold x1; exact Leaves.one (Leaves.set_fld _ _) rfl rfl) fun hx1 => ?_
  try clear_value x1
  extract_lets -merge +onlyGivenNames x2
  refine Leaves.have x2 ?_ fun hx2 => ?_
  · unfold x2
    refine Leaves.transR (Leaves.foldl _ _ (fun y3 z3 _ => by
      exact Leaves.one (reopenDomain_leaves ..) rfl rfl
      ) _) ?_
    exact hx1
  try clear_value x2
  extract_lets -merge +onlyGivenNames x4
  refine Leaves.have x4 ?_ fun hx4 => ?_
  · unfold x4
    refine Leaves.transR (Leaves.foldl _ _ (fun y5 z5 _ => by
      exact Leaves.one (syncResetGroup_leaves ..) rfl rfl
      ) _) ?_
    exact hx2
  try clear_value x4
  refine Leaves.transR (Leaves.foldl _ _ (fun y6 z6 _ => by
    exact Leaves.ite (Leaves.one (pwmStart_leaves ..) rfl rfl) (Leaves.refl ..)
    ) _) ?_
  exact hx4

theorem shiftExecs_leaves (s : State) (n : Nat) :
    Leaves [.scn, .prg] [] s (shiftExecs s n) := by
  unfold shiftExecs
  extract_lets -merge +onlyGivenNames x0
  refine Leaves.step (Leaves.upd (ps := [.scn, .prg]) (s := s) rfl (by intro p hp; cases p <;> first | rfl | exact absurd (by decide) hp)) ?_ rfl rfl
  exact Leaves.refl ..

theorem openLane_leaves (s : State) :
    Leaves [.time, .ring, .clk, .sto, .int, .scn, .prg] [F.objCLK_PARK_TIME, F.objINT_LATCH, F.objINT_STAT,
      F.objINT_STATE, F.objINT_STORMED, F.objREC_STAT, F.objSCN_MODE] s (openLane s) := by
  unfold openLane
  extract_lets -merge +onlyGivenNames x0
  refine Leaves.have x0 ?_ fun hx0 => ?_
  · unfold x0
    split
    · exact Leaves.refl ..
    · extract_lets -merge +onlyGivenNames x1
      try clear_value x1
      refine Leaves.step (log_leaves ..) ?_ rfl rfl
      exact Leaves.step (State.wr_leaves ..) (Leaves.one (shiftExecs_leaves ..) rfl rfl) rfl rfl
  try clear_value x0
  extract_lets -merge +onlyGivenNames x2 x3
  try clear_value x2
  refine Leaves.have x3 (by unfold x3; exact Leaves.step (Leaves.set_clk _ _) hx0 rfl rfl) fun hx3 => ?_
  try clear_value x3
  exact Leaves.step (persistReg_leaves ..) (Leaves.ite (Leaves.step (startRunTicks_leaves ..) hx3 rfl rfl) hx3) rfl rfl

theorem clockEvent_leaves (f : Fld) (s : State) :
    Leaves [.ring, .sto, .int] [f.obj, F.objINT_LATCH, F.objINT_STAT, F.objINT_STATE, F.objINT_STORMED, F.objREC_STAT] s
      (clockEvent f s) := by
  unfold clockEvent
  exact Leaves.trans (Leaves.trans ((State.wr_leaves s f 1 0).mono (by simp) (by simp)) ((log_leaves ..).mono (by simp) (by simp)))
    ((hostSync_leaves ..).mono (by simp) (by simp))

theorem bridgeGates_leaves (s : State) :
    Leaves [.time, .ring, .clk, .sto, .int, .mbx, .img, .scn, .prg, .fld, .ana, .ang, .pair, .free] [F.objANG_CAPPOS,
      F.objANG_EV, F.objANG_PERIOD, F.objANG_STATUS, F.objCLK_EVENTS, F.objCLK_PARK_TIME, F.objCLK_STATUS, F.objDG_CHSTAT,
      F.objDG_GSTAT, F.objINT_LATCH, F.objINT_STAT, F.objINT_STATE, F.objINT_STORMED, F.objMBX_QUEUES, F.objMBX_USE,
      F.objNRL_CTRL, F.objNRL_PORTA_LINK, F.objNRL_PORTB_LINK, F.objNRL_STATE, F.objPLT_PSTATE, F.objPPR_STAT,
      F.objPRG_ACT, F.objREC_STAT, F.objSCN_MODE] s (bridgeGates s) := by
  unfold bridgeGates
  extract_lets -merge +onlyGivenNames x0 x1 x2 x3 x4
  try clear_value x0 x1 x2 x3
  refine Leaves.have x4 ?_ fun hx4 => ?_
  · unfold x4
    refine Leaves.step (Leaves.upd (ps := [.time, .clk]) (s := s) rfl (by intro p hp; cases p <;> first | rfl | exact absurd (by decide) hp)) ?_ rfl rfl
    exact Leaves.refl ..
  try clear_value x4
  extract_lets -merge +onlyGivenNames x5
  refine Leaves.have x5 ?_ fun hx5 => ?_
  · unfold x5
    refine Leaves.step (openEvent_leaves ..) ?_ rfl rfl
    exact Leaves.step (openSys_leaves ..) (Leaves.step (State.wr_leaves ..) hx4 rfl rfl) rfl rfl
  try clear_value x5
  extract_lets -merge +onlyGivenNames x6
  refine Leaves.have x6 ?_ fun hx6 => ?_
  · unfold x6
    refine Leaves.step (portsTrain_leaves ..) ?_ rfl rfl
    exact Leaves.step (reopenField_leaves ..) (Leaves.step (openLane_leaves ..) hx5 rfl rfl) rfl rfl
  try clear_value x6
  exact Leaves.ite (Leaves.step (enterFault_leaves ..) (Leaves.step (clockEvent_leaves ..) hx6 rfl rfl) rfl rfl) hx6

theorem bufRegs_leaves (s : State) :
    Leaves [.ring, .sto, .int] [F.objINT_STAT, F.objINT_STATE, F.objINT_STORMED, F.objREC_STAT] s (bufRegs s) := by
  unfold bufRegs
  refine Leaves.step (hostSync_leaves ..) ?_ rfl rfl
  exact Leaves.step (hostSync_leaves ..) (Leaves.one (State.wr_leaves ..) rfl rfl) rfl rfl

theorem cosClear_leaves (s : State) (g : Nat) :
    Leaves [.ring, .sto, .int] [F.objDG_COS, F.objINT_STAT, F.objINT_STATE, F.objINT_STORMED, F.objREC_STAT] s (cosClear s
      g) := by
  unfold cosClear
  refine Leaves.ite ?_ ?_
  · extract_lets -merge +onlyGivenNames x0
    refine Leaves.have x0 (by unfold x0; exact Leaves.one (State.wr_leaves ..) rfl rfl) fun hx0 => ?_
    try clear_value x0
    refine Leaves.transR (Leaves.foldl _ _ (fun y1 z1 _ => by
      exact Leaves.one (hostSync_leaves ..) rfl rfl
      ) _) ?_
    exact hx0
  · exact Leaves.refl ..

theorem freezeDg_leaves (s : State) (good : Bool) (g : Nat) :
    Leaves [.ring, .sto, .int, .img, .fld] [F.objDG_GSTAT, F.objINT_STAT, F.objINT_STATE, F.objINT_STORMED, F.objREC_STAT]
      s (freezeDg s good g) := by
  unfold freezeDg
  extract_lets -merge +onlyGivenNames x0 x1 x2 x3
  try clear_value x0 x1 x2
  refine Leaves.have x3 (by unfold x3; exact Leaves.one (putDgg_leaves ..) rfl rfl) fun hx3 => ?_
  try clear_value x3
  extract_lets -merge +onlyGivenNames x4 x5
  try clear_value x4
  extract_lets -merge +onlyGivenNames x6 x7 x8 x9 x10 x11
  try clear_value x6 x7 x8 x9 x10
  refine Leaves.have x11 ?_ fun hx11 => ?_
  · unfold x11
    exact Leaves.step (dgSync_leaves ..) (Leaves.step (Leaves.set_img _ _) hx3 rfl rfl) rfl rfl
  try clear_value x11
  refine Leaves.ite ?_ ?_
  · extract_lets -merge +onlyGivenNames x12
    refine Leaves.have x12 ?_ fun hx12 => ?_
    · unfold x12
      refine Leaves.transR (Leaves.foldl _ _ (fun y13 z13 _ => by
        extract_lets -merge +onlyGivenNames x14
        try clear_value x14
        exact Leaves.one (putDch_leaves ..) rfl rfl
        ) _) ?_
      exact hx11
    try clear_value x12
    extract_lets -merge +onlyGivenNames x15 x16 x17
    try clear_value x15 x16
    refine Leaves.have x17 ?_ fun hx17 => ?_
    · unfold x17
      exact Leaves.ite (Leaves.step (Leaves.set_fld _ _) hx12 rfl rfl) hx12
    try clear_value x17
    exact Leaves.step (dgSync_leaves ..) (Leaves.step (putDgg_leaves ..) hx17 rfl rfl) rfl rfl
  · exact hx11

theorem freezeAg_leaves (s : State) (good : Bool) (g : Nat) :
    Leaves [.ring, .sto, .int, .img, .fld, .ana] [F.objAG_GSTAT, F.objINT_STAT, F.objINT_STATE, F.objINT_STORMED,
      F.objREC_STAT] s (freezeAg s good g) := by
  unfold freezeAg
  extract_lets -merge +onlyGivenNames x0 x1 x2
  try clear_value x0 x1
  refine Leaves.have x2 (by unfold x2; exact Leaves.one (updAgg_leaves ..) rfl rfl) fun hx2 => ?_
  try clear_value x2
  extract_lets -merge +onlyGivenNames x3 x4 x5 x6 x7
  try clear_value x3 x4 x5 x6
  refine Leaves.have x7 (by unfold x7; exact Leaves.step (Leaves.set_img _ _) hx2 rfl rfl) fun hx7 => ?_
  try clear_value x7
  extract_lets -merge +onlyGivenNames x8
  refine Leaves.have x8 ?_ fun hx8 => ?_
  · unfold x8
    refine Leaves.ite ?_ ?_
    · refine Leaves.transR (Leaves.foldl _ _ (fun y9 z9 _ => by
        exact Leaves.one (putAch_leaves ..) rfl rfl
        ) _) ?_
      exact hx7
    · exact hx7
  try clear_value x8
  extract_lets -merge +onlyGivenNames x10
  try clear_value x10
  refine Leaves.ite ?_ ?_
  · extract_lets -merge +onlyGivenNames x11 x12
    try clear_value x11
    refine Leaves.have x12 (by unfold x12; exact Leaves.step (Leaves.set_fld _ _) hx8 rfl rfl) fun hx12 => ?_
    try clear_value x12
    exact Leaves.step (putAgg_leaves ..) hx12 rfl rfl
  · exact hx8

theorem freezeAngles_leaves (s : State) (t : Nat) :
    Leaves [.img, .ang] [] s (freezeAngles s t) := by
  unfold freezeAngles
  refine Leaves.transR (Leaves.foldl _ _ (fun y0 z0 _ => by
    extract_lets -merge +onlyGivenNames x1 x2 x3
    try clear_value x1 x2
    refine Leaves.have x3 (by unfold x3; exact Leaves.one (Leaves.set_img _ _) rfl rfl) fun hx3 => ?_
    try clear_value x3
    exact Leaves.step (putDom_leaves ..) hx3 rfl rfl
    ) _) ?_
  exact Leaves.refl ..

theorem freezeWin_leaves (s : State) :
    Leaves [.img] [] s (freezeWin s) := by
  unfold freezeWin
  extract_lets -merge +onlyGivenNames x0
  try clear_value x0
  exact Leaves.one (Leaves.set_img _ _) rfl rfl

theorem freezeFrames_leaves (s : State) (t : Nat) (bad : Nat) :
    Leaves [.ring, .sto, .int, .img, .fld, .ana, .ang] [F.objAG_GSTAT, F.objDG_COS, F.objDG_GSTAT, F.objINT_STAT,
      F.objINT_STATE, F.objINT_STORMED, F.objREC_STAT] s (freezeFrames s t bad) := by
  unfold freezeFrames
  extract_lets -merge +onlyGivenNames x0
  refine Leaves.have x0 ?_ fun hx0 => ?_
  · unfold x0
    refine Leaves.transR (Leaves.foldl _ _ (fun y1 z1 _ => by
      exact Leaves.step (cosClear_leaves ..) (Leaves.one (freezeDg_leaves ..) rfl rfl) rfl rfl
      ) _) ?_
    exact Leaves.refl ..
  try clear_value x0
  extract_lets -merge +onlyGivenNames x2
  refine Leaves.have x2 ?_ fun hx2 => ?_
  · unfold x2
    refine Leaves.transR (Leaves.foldl _ _ (fun y3 z3 _ => by
      exact Leaves.one (freezeAg_leaves ..) rfl rfl
      ) _) ?_
    exact hx0
  try clear_value x2
  exact Leaves.step (freezeAngles_leaves ..) (Leaves.step (freezeWin_leaves ..) hx2 rfl rfl) rfl rfl

theorem buildPeers_leaves (s : State) (n : Nat) :
    Leaves [.img] [F.objIMG_STATUS] s (buildPeers s n) := by
  unfold buildPeers
  extract_lets -merge +onlyGivenNames x0 x1
  try clear_value x0 x1
  exact Leaves.step (State.wr_leaves ..) (Leaves.one (Leaves.set_img _ _) rfl rfl) rfl rfl

theorem buildImage_leaves (s : State) (kind : Nat) (n : Nat) (time : Nat) (bad : Nat) :
    Leaves [.ring, .sto, .int, .img, .scn, .fld, .ana, .ang] [F.objAG_GSTAT, F.objDG_COS, F.objDG_GSTAT, F.objIMG_STATUS,
      F.objINT_STAT, F.objINT_STATE, F.objINT_STORMED, F.objREC_STAT] s (buildImage s kind n time bad) := by
  unfold buildImage
  extract_lets -merge +onlyGivenNames x0
  refine Leaves.have x0 ?_ fun hx0 => ?_
  · unfold x0
    exact Leaves.ite (Leaves.refl ..) (Leaves.one (applyStaged_leaves ..) rfl rfl)
  try clear_value x0
  extract_lets -merge +onlyGivenNames x1
  refine Leaves.have x1 (by unfold x1; exact Leaves.step (freezeFrames_leaves ..) hx0 rfl rfl) fun hx1 => ?_
  try clear_value x1
  extract_lets -merge +onlyGivenNames x2
  refine Leaves.have x2 (by unfold x2; exact Leaves.step (buildPeers_leaves ..) hx1 rfl rfl) fun hx2 => ?_
  try clear_value x2
  refine Leaves.step (Leaves.upd (ps := [.img, .scn]) (s := x2) rfl (by intro p hp; cases p <;> first | rfl | exact absurd (by decide) hp)) ?_ rfl rfl
  exact hx2

theorem uncorrectable_leaves (s : State) (part : Nat) (addr : Nat) :
    Leaves [.ring, .sto, .int] [F.objINT_LATCH, F.objINT_STAT, F.objINT_STATE, F.objINT_STORMED, F.objREC_STAT,
      F.objSTO_COUNT] s (uncorrectable s part addr) := by
  unfold uncorrectable
  exact Leaves.step (log_leaves ..) (Leaves.one (State.inc_leaves ..) rfl rfl) rfl rfl

theorem damageSlot_leaves (s : State) (kind : Nat) (index : Nat) (slot : Nat) :
    Leaves [.sto] [] s (damageSlot s kind index slot) := by
  unfold damageSlot
  extract_lets -merge +onlyGivenNames x0 x1
  try clear_value x0
  exact Leaves.one (putRec_leaves ..) rfl rfl

theorem healGroup_leaves (s : State) (e : Nat × Nat × Nat × Nat × Nat) :
    Leaves [.ring, .sto, .int] [F.objINT_LATCH, F.objINT_STAT, F.objINT_STATE, F.objINT_STORMED, F.objREC_STAT,
      F.objSTO_COUNT, F.objSTO_STATUS] s (healGroup s e) := by
  unfold healGroup
  split
  · extract_lets -merge +onlyGivenNames x0
    refine Leaves.have x0 (by unfold x0; exact Leaves.one (uncorrectable_leaves ..) rfl rfl) fun hx0 => ?_
    try clear_value x0
    refine Leaves.ite ?_ ?_
    · exact hx0
    · extract_lets -merge +onlyGivenNames x1
      refine Leaves.have x1 (by unfold x1; exact Leaves.step (damageSlot_leaves ..) hx0 rfl rfl) fun hx1 => ?_
      try clear_value x1
      split
      · exact Leaves.ite (Leaves.step (writeRec_leaves ..) hx1 rfl rfl) (Leaves.step (State.inc_leaves ..) hx1 rfl rfl)
      · exact hx1

theorem burnishPage_leaves (fixed : Nat) (margin : Nat) (uncorr : List (Nat × Nat × Nat × Nat × Nat)) (s : State) :
    Leaves [.ring, .sto, .int, .pwr] [F.objINT_LATCH, F.objINT_STAT, F.objINT_STATE, F.objINT_STORMED, F.objPWR_SENSE,
      F.objREC_STAT, F.objSTO_COUNT, F.objSTO_STATUS] s (burnishPage fixed margin uncorr s) := by
  unfold burnishPage
  extract_lets -merge +onlyGivenNames x0
  try clear_value x0
  refine Leaves.ite ?_ ?_
  · exact Leaves.one (noEffect_leaves ..) rfl rfl
  · extract_lets -merge +onlyGivenNames x1 x2
    try clear_value x1
    refine Leaves.have x2 (by unfold x2; exact Leaves.one (State.inc_leaves ..) rfl rfl) fun hx2 => ?_
    try clear_value x2
    extract_lets -merge +onlyGivenNames x3 x4
    try clear_value x3
    refine Leaves.have x4 (by unfold x4; exact Leaves.step (State.inc_leaves ..) hx2 rfl rfl) fun hx4 => ?_
    try clear_value x4
    extract_lets -merge +onlyGivenNames x5 x6
    try clear_value x5
    refine Leaves.have x6 ?_ fun hx6 => ?_
    · unfold x6
      exact Leaves.ite (Leaves.step (Leaves.set_sto _ _) hx2 rfl rfl) (Leaves.step (Leaves.set_sto _ _) hx4 rfl rfl)
    try clear_value x6
    extract_lets -merge +onlyGivenNames x7 x8
    try clear_value x7
    refine Leaves.have x8 ?_ fun hx8 => ?_
    · unfold x8
      refine Leaves.transR (Leaves.foldl _ _ (fun y9 z9 _ => by
        exact Leaves.one (healGroup_leaves ..) rfl rfl
        ) _) ?_
      exact Leaves.step (Leaves.set_sto _ _) hx6 rfl rfl
    try clear_value x8
    refine Leaves.ite ?_ ?_
    · exact hx8
    · extract_lets -merge +onlyGivenNames x10
      refine Leaves.have x10 (by unfold x10; exact Leaves.step (log_leaves ..) hx8 rfl rfl) fun hx10 => ?_
      try clear_value x10
      extract_lets -merge +onlyGivenNames x11 x12
      try clear_value x11
      refine Leaves.have x12 (by unfold x12; exact Leaves.step (Leaves.set_pwr _ _) hx10 rfl rfl) fun hx12 => ?_
      try clear_value x12
      exact Leaves.step (State.wr_leaves ..) (Leaves.step (State.wr_leaves ..) hx12 rfl rfl) rfl rfl

theorem burnishPass_leaves (s : State) :
    Leaves [.sto] [F.objSTO_STATUS] s (burnishPass s) := by
  unfold burnishPass
  refine Leaves.ite ?_ ?_
  · exact Leaves.one (noEffect_leaves ..) rfl rfl
  · exact Leaves.step (State.wr_leaves ..) (Leaves.one (Leaves.set_sto _ _) rfl rfl) rfl rfl

theorem calAge_leaves (s : State) (i : Nat) :
    Leaves [] [F.objAG_CS] s (calAge s i) := by
  unfold calAge
  extract_lets -merge +onlyGivenNames x0
  try clear_value x0
  exact Leaves.one (State.wr_leaves ..) rfl rfl

theorem noteDrift_leaves (s : State) (g : Nat) (i : Nat) (offs : ℤ) :
    Leaves [.pwr] [F.objPWR_SENSE] s (noteDrift s g i offs) := by
  unfold noteDrift
  split
  · exact Leaves.refl ..
  · extract_lets -merge +onlyGivenNames x0 x1 x2
    try clear_value x0 x1
    refine Leaves.have x2 (by unfold x2; exact Leaves.one (Leaves.set_pwr _ _) rfl rfl) fun hx2 => ?_
    try clear_value x2
    exact Leaves.step (State.wr_leaves ..) hx2 rfl rfl

theorem retireSlice_leaves (s : State) (g : Nat) (k : Nat) (pos : Nat) (cause : Nat) :
    Leaves [.ring, .sto, .int, .ana] [F.objAG_CONV, F.objAG_CS, F.objINT_LATCH, F.objINT_STAT, F.objINT_STATE,
      F.objINT_STORMED, F.objREC_STAT] s (retireSlice s g k pos cause) := by
  unfold retireSlice
  extract_lets -merge +onlyGivenNames x0
  refine Leaves.have x0 ?_ fun hx0 => ?_
  · unfold x0
    exact Leaves.step (State.wr_leaves ..) (Leaves.one (putSlice_leaves ..) rfl rfl) rfl rfl
  try clear_value x0
  extract_lets -merge +onlyGivenNames x1
  refine Leaves.have x1 (by unfold x1; exact Leaves.step (updRot_leaves ..) hx0 rfl rfl) fun hx1 => ?_
  try clear_value x1
  exact Leaves.step (slicesFollow_leaves ..) (Leaves.step (log_leaves ..) hx1 rfl rfl) rfl rfl

theorem endStep_leaves (s : State) (g : Nat) :
    Leaves [.ana, .free] [F.objAG_CONV] s (endStep s g) := by
  unfold endStep
  extract_lets -merge +onlyGivenNames x0 x1
  try clear_value x0
  refine Leaves.have x1 (by unfold x1; exact Leaves.one (updRot_leaves ..) rfl rfl) fun hx1 => ?_
  try clear_value x1
  extract_lets -merge +onlyGivenNames x2
  refine Leaves.have x2 (by unfold x2; exact Leaves.ite (Leaves.step (State.wr_leaves ..) hx1 rfl rfl) hx1) fun hx2 => ?_
  try clear_value x2
  exact Leaves.step (slicesFollow_leaves ..) (Leaves.step (nextWait_leaves ..) hx2 rfl rfl) rfl rfl

theorem handSlice_leaves (s : State) (g : Nat) (k : Nat) (p : Nat) :
    Leaves [.ana] [F.objAG_CS] s (handSlice s g k p) := by
  unfold handSlice
  extract_lets -merge +onlyGivenNames x0
  refine Leaves.have x0 ?_ fun hx0 => ?_
  · unfold x0
    split
    · exact Leaves.one (putSlice_leaves ..) rfl rfl
    · exact Leaves.refl ..
  try clear_value x0
  exact Leaves.step (updRot_leaves ..) (Leaves.step (putSlice_leaves ..) hx0 rfl rfl) rfl rfl

theorem calDone_leaves (g : Nat) (offs : ℤ) (gain : ℤ) (ok : Bool) (s : State) :
    Leaves [.ring, .sto, .int, .ana, .pwr, .free] [F.objAG_CONV, F.objAG_CS, F.objINT_LATCH, F.objINT_STAT,
      F.objINT_STATE, F.objINT_STORMED, F.objPWR_SENSE, F.objREC_STAT] s (calDone g offs gain ok s) := by
  unfold calDone
  extract_lets -merge +onlyGivenNames x0
  try clear_value x0
  split
  · exact Leaves.one (noEffect_leaves ..) rfl rfl
  · refine Leaves.ite ?_ ?_
    · exact Leaves.one (noEffect_leaves ..) rfl rfl
    · extract_lets -merge +onlyGivenNames x1 x2
      try clear_value x1
      refine Leaves.have x2 ?_ fun hx2 => ?_
      · unfold x2
        exact Leaves.ite (Leaves.one (noteDrift_leaves ..) rfl rfl) (Leaves.refl ..)
      try clear_value x2
      extract_lets -merge +onlyGivenNames x3
      refine Leaves.have x3 ?_ fun hx3 => ?_
      · unfold x3
        refine Leaves.ite ?_ ?_
        · refine Leaves.step (State.wr_leaves ..) ?_ rfl rfl
          exact Leaves.step (State.wr_leaves ..) (Leaves.step (State.wr_leaves ..) hx2 rfl rfl) rfl rfl
        · exact hx2
      try clear_value x3
      extract_lets -merge +onlyGivenNames x4 x5
      try clear_value x4
      refine Leaves.have x5 (by unfold x5; exact Leaves.ite (Leaves.step (Leaves.set_ana _ _) hx3 rfl rfl) hx3) fun hx5 => ?_
      try clear_value x5
      split
      · refine Leaves.ite ?_ ?_
        · refine Leaves.step (slicesFollow_leaves ..) ?_ rfl rfl
          exact Leaves.step (updRot_leaves ..) (Leaves.step (putSlice_leaves ..) hx5 rfl rfl) rfl rfl
        · exact Leaves.step (retireSlice_leaves ..) hx5 rfl rfl
      · refine Leaves.ite ?_ ?_
        · extract_lets -merge +onlyGivenNames x6
          refine Leaves.have x6 ?_ fun hx6 => ?_
          · unfold x6
            exact Leaves.step (State.wr_leaves ..) (Leaves.step (putSlice_leaves ..) hx5 rfl rfl) rfl rfl
          try clear_value x6
          refine Leaves.step (slicesFollow_leaves ..) ?_ rfl rfl
          exact Leaves.step (nextWait_leaves ..) (Leaves.step (updRot_leaves ..) hx6 rfl rfl) rfl rfl
        · extract_lets -merge +onlyGivenNames x7
          try clear_value x7
          refine Leaves.ite ?_ ?_
          · exact Leaves.step (endStep_leaves ..) (Leaves.step (handSlice_leaves ..) hx5 rfl rfl) rfl rfl
          · extract_lets -merge +onlyGivenNames x8
            refine Leaves.have x8 (by unfold x8; exact Leaves.step (putSlice_leaves ..) hx5 rfl rfl) fun hx8 => ?_
            try clear_value x8
            exact Leaves.step (updRot_leaves ..) hx8 rfl rfl

theorem newRound_leaves (s : State) (g : Nat) :
    Leaves [.ring, .sto, .int, .ana, .free] [F.objAG_CONV, F.objINT_LATCH, F.objINT_STAT, F.objINT_STATE,
      F.objINT_STORMED, F.objREC_STAT] s (newRound s g) := by
  unfold newRound
  extract_lets -merge +onlyGivenNames x0 x1
  try clear_value x0
  refine Leaves.have x1 ?_ fun hx1 => ?_
  · unfold x1
    exact Leaves.ite (Leaves.refl ..) (Leaves.step (log_leaves ..) (Leaves.one (State.wr_leaves ..) rfl rfl) rfl rfl)
  try clear_value x1
  refine Leaves.ite ?_ ?_
  · exact Leaves.step (updRot_leaves ..) hx1 rfl rfl
  · extract_lets -merge +onlyGivenNames x2
    try clear_value x2
    exact Leaves.step (updRot_leaves ..) (Leaves.step (State.useFree_leaves ..) hx1 rfl rfl) rfl rfl

theorem calStepStart_leaves (g : Nat) (s : State) :
    Leaves [.ring, .sto, .int, .ana, .free] [F.objAG_CONV, F.objAG_CS, F.objINT_LATCH, F.objINT_STAT, F.objINT_STATE,
      F.objINT_STORMED, F.objREC_STAT] s (calStepStart g s) := by
  unfold calStepStart
  extract_lets -merge +onlyGivenNames x0
  try clear_value x0
  refine Leaves.ite ?_ ?_
  · exact Leaves.one (noEffect_leaves ..) rfl rfl
  · split
    · exact Leaves.one (noEffect_leaves ..) rfl rfl
    · extract_lets -merge +onlyGivenNames x1
      refine Leaves.have x1 ?_ fun hx1 => ?_
      · unfold x1
        exact Leaves.ite (Leaves.one (newRound_leaves ..) rfl rfl) (Leaves.refl ..)
      try clear_value x1
      extract_lets -merge +onlyGivenNames x2
      refine Leaves.have x2 (by unfold x2; exact Leaves.step (putSlice_leaves ..) hx1 rfl rfl) fun hx2 => ?_
      try clear_value x2
      exact Leaves.step (slicesFollow_leaves ..) (Leaves.step (updRot_leaves ..) hx2 rfl rfl) rfl rfl

theorem capRead_leaves (c : Cmd) (a1 : Session) (s : State) :
    Leaves [.mbx] [] s (capRead c a1 s).1 := by
  unfold capRead
  extract_lets -merge +onlyGivenNames x0 x1 x2 x3
  try clear_value x0 x1 x2 x3
  refine Leaves.ite1 ?_ ?_
  · exact Leaves.one (refuse_leaves ..) rfl rfl
  · refine gate_leaves ?_ ?_
    · exact Leaves.refl ..
    · refine Leaves.ite1 ?_ ?_
      · exact Leaves.refl ..
      · refine Leaves.ite1 ?_ ?_
        · exact Leaves.refl ..
        · extract_lets -merge +onlyGivenNames x4 x5
          try clear_value x4 x5
          exact Leaves.refl ..

theorem capReadConfirm_leaves (k : Nat) (s : State) :
    Leaves [.ring, .sto, .int, .mbx] [F.objINT_LATCH, F.objINT_STAT, F.objINT_STATE, F.objINT_STORMED, F.objMBX_QUEUES,
      F.objMBX_USE, F.objREC_STAT] s (capReadConfirm k s) := by
  unfold capReadConfirm
  split
  · exact Leaves.one (noEffect_leaves ..) rfl rfl
  · split
    · refine Leaves.ite ?_ ?_
      · exact Leaves.one (noEffect_leaves ..) rfl rfl
      · exact Leaves.ite (Leaves.one (fin_leaves ..) rfl rfl) (Leaves.one (fin_leaves ..) rfl rfl)
    · exact Leaves.one (noEffect_leaves ..) rfl rfl

theorem captureResult_leaves (s : State) (z : InFlight) (word : Nat) :
    Leaves [.ang] [F.objANG_CAPPOS] s (captureResult s z word) := by
  unfold captureResult
  split
  · exact Leaves.refl ..
  · refine Leaves.ite ?_ ?_
    · extract_lets -merge +onlyGivenNames x0
      try clear_value x0
      exact Leaves.one (putCapture_leaves ..) rfl rfl
    · exact Leaves.refl ..

theorem markPlaced_leaves (s : State) (q : Nat) (n : Nat) :
    Leaves [.mbx] [] s (markPlaced s q n) := by
  unfold markPlaced
  exact Leaves.one (Leaves.set_mbx _ _) rfl rfl

theorem fillCarrier_leaves (k : Nat) (s : State) (b : List Nat) (fill room : Nat) :
    Leaves [.ring, .mbx] [] s (fillCarrier k s b fill room).1 := by
  induction k generalizing s b fill with
  | zero => exact Leaves.refl ..
  | succ k ih =>
    have hq : ∀ x, Leaves [.ring, .mbx] [] s { s with ring := x } := fun x =>
      Leaves.step (Leaves.set_ring s x) (Leaves.refl ..) rfl rfl
    unfold fillCarrier
    split
    · exact Leaves.refl ..
    · exact Leaves.ite1 ((hq _).trans (ih ..)) (Leaves.refl ..)
    · refine Leaves.ite1 ((hq _).trans (ih ..)) (Leaves.ite1 (Leaves.refl ..) ?_)
      exact ((hq _).trans ((markPlaced_leaves ..).mono (by simp) (by simp))).trans (ih ..)

theorem carrier_leaves (f : RxFrame) (s : State) :
    Leaves [.ring, .mbx] [F.objNRL_PORTA_ERR, F.objNRL_PORTA_LINK, F.objNRL_PORTB_ERR, F.objNRL_PORTB_LINK] s (carrier f
      s) := by
  unfold carrier
  refine Leaves.ite ?_ ?_
  · exact Leaves.refl ..
  · refine Leaves.ite ?_ ?_
    · exact Leaves.one (pass_leaves ..) rfl rfl
    · extract_lets -merge +onlyGivenNames x0 x1
      try clear_value x0
      extract_lets -merge +onlyGivenNames x2
      refine Leaves.have x2 (by unfold x2; exact Leaves.one (countFrame_leaves ..) rfl rfl) fun hx2 => ?_
      try clear_value x2
      extract_lets -merge +onlyGivenNames x3 x4 x5 x6 x7
      try clear_value x3 x4 x5 x6
      refine Leaves.have x7.1 (by unfold x7; exact Leaves.step (fillCarrier_leaves ..) hx2 rfl rfl) fun hx7 => ?_
      try clear_value x7
      extract_lets -merge +onlyGivenNames x8 x9
      try clear_value x8 x9
      exact Leaves.step (forward_leaves ..) hx7 rfl rfl

theorem putSession_leaves (s : State) (x : Session) :
    Leaves [.mbx] [] s (putSession s x) := by
  unfold putSession
  extract_lets -merge +onlyGivenNames x0 x1
  try clear_value x0 x1
  exact Leaves.one (Leaves.set_mbx _ _) rfl rfl

theorem record_leaves (s : State) (no : Nat) (clseq : Nat) (r : Resp) :
    Leaves [.mbx] [] s (record s no clseq r) := by
  unfold record
  split
  · exact Leaves.refl ..
  · extract_lets -merge +onlyGivenNames x0 x1 x2
    try clear_value x0 x1 x2
    exact Leaves.one (putSession_leaves ..) rfl rfl

theorem popCmd_leaves (s : State) :
    Leaves [.ring, .sto, .int, .mbx] [F.objINT_STAT, F.objINT_STATE, F.objINT_STORMED, F.objMBX_QUEUES, F.objREC_STAT] s
      (popCmd s) := by
  unfold popCmd
  exact Leaves.step (queueRegs_leaves ..) (Leaves.one (Leaves.set_mbx _ _) rfl rfl) rfl rfl

/-- The answer of a handler and what it leaves to do stay within the frame. -/
def AnsLeaves (P : List Part) (O : List Nat) (s : State) (r : State × Ans) : Prop :=
  Leaves P O s r.1 ∧ (∀ st next, r.2 = .act st next → ∀ t, Leaves P O t (next t)) ∧
    ∀ op start, r.2 = .long op start → ∀ n t, Leaves P O t (start n t)

/-- The parts and objects the command path itself changes (MBX-2 to MBX-8). -/
def cmdParts : List Part := [.ring, .sto, .int, .mbx, .sec]
def cmdObjs : List Nat :=
  [F.objINT_LATCH, F.objINT_STAT, F.objINT_STATE, F.objINT_STORMED, F.objMBX_QUEUES, F.objMBX_USE, F.objREC_STAT]

theorem record_answer_leaves {P : List Part} {O : List Nat} (s t : State) (c : Cmd) (ss cs : Nat) (a : Resp) (b : Bool)
    (hp : cmdParts ⊆ P) (ho : cmdObjs ⊆ O) (h : Leaves P O s t) : Leaves P O s (record (answer t c a b) ss cs a) :=
  (h.trans ((answer_leaves ..).mono (fun x hx => hp (by revert hx; revert x; decide)) (fun x hx => ho (by revert hx; revert x; decide)))).trans
    ((record_leaves ..).mono (fun x hx => hp (by revert hx; revert x; decide)) (by simp))

theorem runCmd_leaves {P : List Part} {O : List Nat} {c : Cmd} {x : Session} {h : Cmd → Session → State → State × Ans} {s
  : State}
    (hh : AnsLeaves P O s (h c x s)) (hp : cmdParts ⊆ P) (ho : cmdObjs ⊆ O) : Leaves P O s (runCmd c x h s) := by
  have hr : ∀ st, Leaves P O s (record (answer s c (respNow s c st 0 0 []) false) c.session c.clseq (respNow s c st 0 0 [])) :=
    fun st => record_answer_leaves _ _ _ _ _ _ _ hp ho (Leaves.refl ..)
  unfold runCmd
  dsimp only
  refine Leaves.ite (hr _) ?_
  split
  · exact record_answer_leaves _ _ _ _ _ _ _ hp ho hh.1
  · rename_i st next he
    exact (record_answer_leaves _ _ _ _ _ _ _ hp ho hh.1).trans (hh.2.1 _ _ he _)
  · exact Leaves.ite (hr _) (Leaves.ite (hr _) (hr _))
  · rename_i op start he
    refine Leaves.ite (hr _) (Leaves.ite (hr _) (Leaves.trans ?_ (hh.2.2 _ _ he _ _)))
    exact record_answer_leaves _ _ _ _ _ _ _ hp ho (hh.1.trans
      ((allocHdl_leaves ..).mono (fun y hy => hp (by revert hy; revert y; decide)) (fun y hy => ho (by revert hy; revert y; decide))))

theorem checkSeq_leaves {P : List Part} {O : List Nat} {c : Cmd} {x : Session} {r : Option Nat}
    {h : Cmd → Session → State → State × Ans} {s : State}
    (hh : AnsLeaves P O s (h c x s)) (hp : cmdParts ⊆ P) (ho : cmdObjs ⊆ O) : Leaves P O s (checkSeq c x r h s) := by
  have hr : ∀ st, Leaves P O s (record (answer s c (respNow s c st 0 0 []) false) c.session c.clseq (respNow s c st 0 0 [])) :=
    fun st => record_answer_leaves _ _ _ _ _ _ _ hp ho (Leaves.refl ..)
  have ha : ∀ st, Leaves P O s (answerOnly s c st) := fun st =>
    (answerOnly_leaves ..).mono (fun y hy => hp (by revert hy; revert y; decide)) (fun y hy => ho (by revert hy; revert y; decide))
  have hb : ∀ a b, Leaves P O s (answer s c a b) := fun a b =>
    (answer_leaves ..).mono (fun y hy => hp (by revert hy; revert y; decide)) (fun y hy => ho (by revert hy; revert y; decide))
  have hc := runCmd_leaves hh hp ho
  unfold checkSeq
  extract_lets d old window ahead refused
  have hr' : ∀ st, Leaves P O s (refused st) := fun st => hr st
  clear_value refused ahead window old d
  refine Leaves.ite (ha _) ?_
  split
  · exact hb _ _
  · refine Leaves.ite ?_ (ha _)
    split
    · exact hr' _
    · exact Leaves.ite (hr' _) hc

theorem takeCmd_leaves {P : List Part} {O : List Nat} {c : Cmd} {r : Option Nat}
    {h : Cmd → Session → State → State × Ans} {s : State}
    (hh : ∀ x t, AnsLeaves P O t (h c x t)) (hp : cmdParts ⊆ P) (ho : cmdObjs ⊆ O) : Leaves P O s (takeCmd c r h s) := by
  have ha : ∀ t st, Leaves P O s t → Leaves P O s (answerOnly t c st) := fun t st ht => ht.trans
    ((answerOnly_leaves ..).mono (fun y hy => hp (by revert hy; revert y; decide)) (fun y hy => ho (by revert hy; revert y; decide)))
  unfold takeCmd
  refine Leaves.ite (ha _ _ (Leaves.refl ..)) (Leaves.ite (ha _ _ (Leaves.refl ..)) ?_)
  split
  · refine Leaves.trans ?_ (checkSeq_leaves (hh _ _) hp ho)
    exact Leaves.trans ((Leaves.set_sec s _).mono (fun y hy => hp (by revert hy; revert y; decide)) (by simp))
      ((putSession_leaves ..).mono (fun y hy => hp (by revert hy; revert y; decide)) (by simp))
  · refine ha _ _ (Leaves.ite ?_ (Leaves.refl ..))
    exact Leaves.trans ((State.inc_leaves s _ _ _).mono (by simp) (fun y hy => ho (by revert hy; revert y; decide)))
      ((log_leaves ..).mono (fun y hy => hp (by revert hy; revert y; decide)) (fun y hy => ho (by revert hy; revert y; decide)))

/-- Everything one mailbox command can change, from what its handler can change. -/
theorem mbxRun_leaves {P : List Part} {O : List Nat} {opc role : Nat} {h : Cmd → Session → State → State × Ans} {s :
  State}
    (hh : ∀ c x t, AnsLeaves P O t (h c x t)) (hp : cmdParts ⊆ P) (ho : cmdObjs ⊆ O) : Leaves P O s (mbxRun opc role h s) := by
  unfold mbxRun
  split
  · refine Leaves.ite (Leaves.trans ?_ (takeCmd_leaves (fun x t => hh _ x t) hp ho)) (Leaves.refl ..)
    exact (popCmd_leaves ..).mono (fun y hy => hp (by revert hy; revert y; decide)) (fun y hy => ho (by revert hy; revert y; decide))
  · exact Leaves.refl ..

theorem chooseSwap_leaves (s : State) (a : Act) :
    Leaves [.ring, .prg] [] s (chooseSwap s a) := by
  unfold chooseSwap
  extract_lets -merge +onlyGivenNames x0 x1 x2 x3
  try clear_value x0 x1 x2 x3
  exact Leaves.step (pairSub_leaves ..) (Leaves.one (putAct_leaves ..) rfl rfl) rfl rfl

theorem standbyMissed_leaves (s : State) (a : Act) :
    Leaves [.time, .ring, .sto, .int, .mbx, .img, .scn, .prg, .fld, .pair] [F.objANG_EV, F.objDG_COS, F.objINT_LATCH,
      F.objINT_STAT, F.objINT_STATE, F.objINT_STORMED, F.objMBX_QUEUES, F.objMBX_USE, F.objPLT_PSTATE, F.objPPR_WINSTAT,
      F.objPRG_ACT, F.objREC_STAT, F.objSCN_MODE, F.objSCN_TSTAT] s (standbyMissed s a) := by
  unfold standbyMissed
  refine Leaves.ite ?_ ?_
  · refine Leaves.step (releaseDeferred_leaves ..) ?_ rfl rfl
    exact Leaves.step (State.wr_leaves ..) (Leaves.one (putAct_leaves ..) rfl rfl) rfl rfl
  · exact Leaves.step (releaseDeferred_leaves ..) (Leaves.one (putAct_leaves ..) rfl rfl) rfl rfl

theorem latchSwap_leaves (s : State) :
    Leaves [.time, .ring, .sto, .int, .mbx, .img, .scn, .prg, .fld, .pair] [F.objANG_EV, F.objDG_COS, F.objINT_LATCH,
      F.objINT_STAT, F.objINT_STATE, F.objINT_STORMED, F.objMBX_QUEUES, F.objMBX_USE, F.objPLT_PSTATE, F.objPPR_WINSTAT,
      F.objPRG_ACT, F.objREC_STAT, F.objSCN_MODE, F.objSCN_TSTAT] s (latchSwap s) := by
  unfold latchSwap
  split
  · exact Leaves.refl ..
  · refine Leaves.ite ?_ ?_
    · exact Leaves.refl ..
    · refine Leaves.ite ?_ ?_
      · exact Leaves.ite (Leaves.one (standbyMissed_leaves ..) rfl rfl) (Leaves.refl ..)
      · exact Leaves.ite (Leaves.one (State.wr_leaves ..) rfl rfl) (Leaves.refl ..)

theorem latchPair_leaves (s : State) :
    Leaves [.time, .ring, .sto, .int, .mbx, .img, .scn, .prg, .fld, .ana, .pair] [F.objAG_GSTAT, F.objANG_EV,
      F.objDG_CHSTAT, F.objDG_COS, F.objDG_GSTAT, F.objINT_LATCH, F.objINT_STAT, F.objINT_STATE, F.objINT_STORMED,
      F.objMBX_QUEUES, F.objMBX_USE, F.objPLT_PSTATE, F.objPPR_WINSTAT, F.objPRG_ACT, F.objREC_STAT, F.objSCN_MODE,
      F.objSCN_TSTAT] s (latchPair s) := by
  unfold latchPair
  refine Leaves.ite ?_ ?_
  · refine Leaves.step (latchSwap_leaves ..) ?_ rfl rfl
    exact Leaves.step (boundaryPair_leaves ..) (Leaves.one (updPair_leaves ..) rfl rfl) rfl rfl
  · exact Leaves.refl ..

theorem disagree_leaves (s : State) (k : Nat) (cls : Nat) (value : Nat) :
    Leaves [.ring, .sto, .int, .plt] [F.objINT_LATCH, F.objINT_STAT, F.objINT_STATE, F.objINT_STORMED, F.objPLT_COUNT,
      F.objREC_STAT] s (disagree s k cls value).1 := by
  unfold disagree
  extract_lets -merge +onlyGivenNames x0 x1 x2
  try clear_value x0 x1
  refine Leaves.have x2 ?_ fun hx2 => ?_
  · unfold x2
    refine Leaves.step (updPlt_leaves ..) ?_ rfl rfl
    refine Leaves.step (State.inc_leaves ..) ?_ rfl (by unfold Sys2Proof.Machine.disFld; (try dsimp only); first | rfl | (simp only [List.all_cons, List.all_nil, Bool.and_true]; (repeat' split) <;> rfl))
    exact Leaves.refl ..
  try clear_value x2
  extract_lets -merge +onlyGivenNames x3
  try clear_value x3
  exact Leaves.ite1 hx2 (Leaves.step (pltCase_leaves ..) hx2 rfl rfl)

theorem putSplitRun_leaves (s : State) (g : Nat) (n : Nat) :
    Leaves [.fld, .ana] [] s (putSplitRun s g n) := by
  unfold putSplitRun
  exact Leaves.ite (Leaves.one (putDgg_leaves ..) rfl rfl) (Leaves.one (putAgg_leaves ..) rfl rfl)

theorem voteReport_leaves (s : State) (r : VoteReport) :
    Leaves [.time, .ring, .sto, .int, .mbx, .img, .scn, .prg, .fld, .ana, .plt, .pair] [F.objANG_EV, F.objINT_LATCH,
      F.objINT_STAT, F.objINT_STATE, F.objINT_STORMED, F.objMBX_QUEUES, F.objMBX_USE, F.objPLT_COUNT, F.objPLT_LANE,
      F.objPLT_PSTATE, F.objPRG_ACT, F.objREC_STAT, F.objSCN_MODE] s (voteReport s r) := by
  unfold voteReport
  extract_lets -merge +onlyGivenNames x0
  refine Leaves.have x0 ?_ fun hx0 => ?_
  · unfold x0
    exact Leaves.step (pltCase_leaves ..) (Leaves.one (State.inc_leaves ..) rfl rfl) rfl rfl
  try clear_value x0
  extract_lets -merge +onlyGivenNames x1
  refine Leaves.have x1 ?_ fun hx1 => ?_
  · unfold x1
    refine Leaves.ite ?_ ?_
    · exact Leaves.refl ..
    · refine Leaves.transR (Leaves.foldl _ _ (fun y2 z2 _ => by
        refine Leaves.ite ?_ ?_
        · extract_lets -merge +onlyGivenNames x3
          refine Leaves.have x3.1 ?_ fun hx3 => ?_
          · unfold x3
            exact Leaves.step (disagree_leaves ..) (Leaves.one (updPlt_leaves ..) rfl rfl) rfl rfl
          try clear_value x3
          exact Leaves.ite (Leaves.step (retireLane_leaves ..) hx3 rfl rfl) hx3
        · exact Leaves.refl ..
        ) _) ?_
      exact hx0
  try clear_value x1
  refine Leaves.ite ?_ ?_
  · extract_lets -merge +onlyGivenNames x4
    refine Leaves.have x4 ?_ fun hx4 => ?_
    · unfold x4
      exact Leaves.step (pltCase_leaves ..) (Leaves.step (State.inc_leaves ..) hx1 rfl rfl) rfl rfl
    try clear_value x4
    extract_lets -merge +onlyGivenNames x5 x6
    try clear_value x5
    refine Leaves.have x6 (by unfold x6; exact Leaves.step (putSplitRun_leaves ..) hx4 rfl rfl) fun hx6 => ?_
    try clear_value x6
    exact Leaves.ite (Leaves.step (setYield_leaves ..) (Leaves.step (State.wr_leaves ..) hx6 rfl rfl) rfl rfl) hx6
  · exact Leaves.step (putSplitRun_leaves ..) hx1 rfl rfl

theorem processReports_leaves (s : State) :
    Leaves [.time, .ring, .sto, .int, .mbx, .img, .scn, .prg, .fld, .ana, .plt, .pair] [F.objANG_EV, F.objINT_LATCH,
      F.objINT_STAT, F.objINT_STATE, F.objINT_STORMED, F.objMBX_QUEUES, F.objMBX_USE, F.objPLT_COUNT, F.objPLT_LANE,
      F.objPLT_PSTATE, F.objPRG_ACT, F.objREC_STAT, F.objSCN_MODE] s (processReports s) := by
  unfold processReports
  extract_lets -merge +onlyGivenNames x0
  try clear_value x0
  refine Leaves.transR (Leaves.foldl _ _ (fun y1 z1 _ => by
    exact Leaves.one (voteReport_leaves ..) rfl rfl
    ) _) ?_
  exact Leaves.one (Leaves.set_fld _ _) rfl rfl

theorem dropFwAct_leaves (s : State) (t : Nat) :
    Leaves [.sec] [] s (dropFwAct s t) := by
  unfold dropFwAct
  exact Leaves.one (Leaves.set_sec _ _) rfl rfl

theorem putFw_leaves (s : State) (f : Fld) (t : Nat) (v : Nat) :
    Leaves [] [f.obj] s (putFw s f t v) := by
  unfold putFw
  exact Leaves.one (State.wrE_leaves ..) rfl (by simp)

theorem fwRuns_leaves (s : State) (t : Nat) (k : Nat) :
    Leaves [] [F.objSEC_FW] s (fwRuns s t k) := by
  unfold fwRuns
  exact Leaves.step (putFw_leaves ..) (Leaves.one (putFw_leaves ..) rfl rfl) rfl rfl

theorem putUnsel_leaves (s : State) (t : Nat) (st : Nat) :
    Leaves [] [F.objSEC_FW] s (putUnsel s t st) := by
  unfold putUnsel
  exact Leaves.step (putFw_leaves ..) (Leaves.one (putFw_leaves ..) rfl rfl) rfl rfl

theorem selRegs_leaves (s : State) (t : Nat) :
    Leaves [] [F.objSEC_FW] s (selRegs s t) := by
  unfold selRegs
  exact Leaves.step (putFw_leaves ..) (Leaves.one (putFw_leaves ..) rfl rfl) rfl rfl

theorem fwRegs_leaves (s : State) (t : Nat) :
    Leaves [] [F.objSEC_FW] s (fwRegs s t) := by
  unfold fwRegs
  exact Leaves.step (putUnsel_leaves ..) (Leaves.one (selRegs_leaves ..) rfl rfl) rfl rfl

theorem finishFw_leaves (s : State) (a : FwAct) (status : Nat) (result : Nat) :
    Leaves [.ring, .sto, .int, .mbx, .sec] [F.objINT_LATCH, F.objINT_STAT, F.objINT_STATE, F.objINT_STORMED,
      F.objMBX_QUEUES, F.objMBX_USE, F.objREC_STAT, F.objSEC_FW] s (finishFw s a status result) := by
  unfold finishFw
  extract_lets -merge +onlyGivenNames x0 x1 x2 x3
  try clear_value x0 x1 x2
  refine Leaves.have x3 (by unfold x3; exact Leaves.one (dropFwAct_leaves ..) rfl rfl) fun hx3 => ?_
  try clear_value x3
  extract_lets -merge +onlyGivenNames x4
  refine Leaves.have x4 (by unfold x4; exact Leaves.ite (Leaves.step (fwRuns_leaves ..) hx3 rfl rfl) hx3) fun hx4 => ?_
  try clear_value x4
  extract_lets -merge +onlyGivenNames x5
  refine Leaves.have x5 (by unfold x5; exact Leaves.step (ringSoon_leaves ..) hx4 rfl rfl) fun hx5 => ?_
  try clear_value x5
  extract_lets -merge +onlyGivenNames x6
  refine Leaves.have x6 ?_ fun hx6 => ?_
  · unfold x6
    exact Leaves.ite (Leaves.step (fwRegs_leaves ..) (Leaves.step (ringSoon_leaves ..) hx5 rfl rfl) rfl rfl) hx4
  try clear_value x6
  exact Leaves.step (finNum_leaves ..) (Leaves.step (log_leaves ..) hx6 rfl rfl) rfl rfl

theorem ucodeLost_leaves (s : State) (k : Nat) :
    Leaves [.ring, .sto, .int, .mbx, .sec] [F.objINT_LATCH, F.objINT_STAT, F.objINT_STATE, F.objINT_STORMED,
      F.objMBX_QUEUES, F.objMBX_USE, F.objREC_STAT, F.objSEC_FW] s (ucodeLost s k) := by
  unfold ucodeLost
  split
  · exact Leaves.one (finishFw_leaves ..) rfl rfl
  · exact Leaves.refl ..

theorem copyFailed_leaves (s : State) (k : Nat) :
    Leaves [.ring, .sto, .int, .mbx, .plt, .sec] [F.objINT_LATCH, F.objINT_STAT, F.objINT_STATE, F.objINT_STORMED,
      F.objMBX_QUEUES, F.objMBX_USE, F.objPLT_LANE, F.objREC_STAT, F.objSCN_MODE, F.objSEC_FW] s (copyFailed s k) := by
  unfold copyFailed
  extract_lets -merge +onlyGivenNames x0 x1
  try clear_value x0
  refine Leaves.have x1 (by unfold x1; exact Leaves.one (pltCase_leaves ..) rfl rfl) fun hx1 => ?_
  try clear_value x1
  extract_lets -merge +onlyGivenNames x2
  refine Leaves.have x2 (by unfold x2; exact Leaves.step (updPlt_leaves ..) hx1 rfl rfl) fun hx2 => ?_
  try clear_value x2
  refine Leaves.ite ?_ ?_
  · refine Leaves.step (ucodeLost_leaves ..) ?_ rfl rfl
    refine Leaves.step (setLane_leaves ..) ?_ rfl rfl
    refine Leaves.step (State.wr_leaves ..) ?_ rfl (by unfold Sys2Proof.Machine.laneCauseFld; (try dsimp only); first | rfl | (simp only [List.all_cons, List.all_nil, Bool.and_true]; (repeat' split) <;> rfl))
    exact hx2
  · exact Leaves.step (setLane_leaves ..) (Leaves.step (updPlt_leaves ..) hx2 rfl rfl) rfl rfl

theorem latchLanes_leaves (s : State) :
    Leaves [.ring, .sto, .int, .mbx, .plt, .sec] [F.objINT_LATCH, F.objINT_STAT, F.objINT_STATE, F.objINT_STORMED,
      F.objMBX_QUEUES, F.objMBX_USE, F.objPLT_LANE, F.objREC_STAT, F.objSCN_MODE, F.objSEC_FW] s (latchLanes s) := by
  unfold latchLanes
  refine Leaves.transR (Leaves.foldl _ _ (fun y0 z0 _ => by
    extract_lets -merge +onlyGivenNames x1
    refine Leaves.have x1 (by unfold x1; exact Leaves.one (updPlt_leaves ..) rfl rfl) fun hx1 => ?_
    try clear_value x1
    refine Leaves.ite ?_ ?_
    · extract_lets -merge +onlyGivenNames x2 x3
      try clear_value x2
      refine Leaves.have x3 (by unfold x3; exact Leaves.step (updPlt_leaves ..) hx1 rfl rfl) fun hx3 => ?_
      try clear_value x3
      exact Leaves.ite (Leaves.step (copyFailed_leaves ..) hx3 rfl rfl) hx3
    · exact hx1
    ) _) ?_
  exact Leaves.refl ..

theorem dropSnap_leaves (s : State) (n : Nat) :
    Leaves [.img] [] s (dropSnap s n) := by
  unfold dropSnap
  exact Leaves.one (Leaves.set_img _ _) rfl rfl

theorem makeRoom_leaves (s : State) :
    Leaves [.ring, .sto, .int, .mbx, .img] [F.objIMG_PINS, F.objIMG_STATUS, F.objINT_LATCH, F.objINT_STAT, F.objINT_STATE,
      F.objINT_STORMED, F.objMBX_QUEUES, F.objMBX_USE, F.objREC_STAT] s (makeRoom s) := by
  unfold makeRoom
  refine Leaves.ite ?_ ?_
  · exact Leaves.refl ..
  · extract_lets -merge +onlyGivenNames x0
    try clear_value x0
    split
    · exact Leaves.one (dropSnap_leaves ..) rfl rfl
    · extract_lets -merge +onlyGivenNames x1
      try clear_value x1
      split
      · exact Leaves.step (dropSnap_leaves ..) (Leaves.one (breakPin_leaves ..) rfl rfl) rfl rfl
      · exact Leaves.refl ..

theorem openSnap_leaves (s : State) (n : Nat) (time : Nat) (hw : Nat) (subst : Bool) :
    Leaves [.ring, .sto, .int, .mbx, .img] [F.objIMG_PINS, F.objIMG_STATUS, F.objINT_LATCH, F.objINT_STAT, F.objINT_STATE,
      F.objINT_STORMED, F.objMBX_QUEUES, F.objMBX_USE, F.objREC_STAT] s (openSnap s n time hw subst) := by
  unfold openSnap
  extract_lets -merge +onlyGivenNames x0
  refine Leaves.have x0 (by unfold x0; exact Leaves.one (makeRoom_leaves ..) rfl rfl) fun hx0 => ?_
  try clear_value x0
  extract_lets -merge +onlyGivenNames x1
  try clear_value x1
  exact Leaves.step (Leaves.set_img _ _) hx0 rfl rfl

theorem latchNow_leaves (s : State) (n : Nat) (at_ : Nat) (kind : Nat) (bad : Nat) :
    Leaves [.time, .ring, .clk, .sto, .int, .mbx, .img, .scn, .prg, .fld, .ana, .ang, .plt, .pair, .rtc, .sec]
      [F.objAG_GSTAT, F.objANG_EV, F.objCLK_LOST_CYCLES, F.objCLK_START, F.objDG_CHSTAT, F.objDG_COS, F.objDG_GSTAT,
      F.objIMG_PINS, F.objIMG_STATUS, F.objINT_LATCH, F.objINT_STAT, F.objINT_STATE, F.objINT_STORMED, F.objMBX_QUEUES,
      F.objMBX_USE, F.objNRL_STATE, F.objPLT_COUNT, F.objPLT_LANE, F.objPLT_PSTATE, F.objPPR_WINSTAT, F.objPRG_ACT,
      F.objREC_STAT, F.objSCN_MODE, F.objSCN_TSTAT, F.objSEC_FW] s (latchNow s n at_ kind bad) := by
  unfold latchNow
  extract_lets -merge +onlyGivenNames x0 x1
  try clear_value x0
  refine Leaves.have x1 (by unfold x1; exact Leaves.one (Leaves.set_ring _ _) rfl rfl) fun hx1 => ?_
  try clear_value x1
  extract_lets -merge +onlyGivenNames x2
  refine Leaves.have x2 ?_ fun hx2 => ?_
  · unfold x2
    exact Leaves.step (afterChange_leaves ..) (Leaves.step (applyTime_leaves ..) hx1 rfl rfl) rfl rfl
  try clear_value x2
  extract_lets -merge +onlyGivenNames x3
  refine Leaves.have x3 ?_ fun hx3 => ?_
  · unfold x3
    exact Leaves.step (latchPair_leaves ..) (Leaves.step (persistReg_leaves ..) hx2 rfl rfl) rfl rfl
  try clear_value x3
  refine Leaves.ite ?_ ?_
  · exact hx3
  · extract_lets -merge +onlyGivenNames x4 x5 x6
    try clear_value x4 x5
    refine Leaves.have x6 (by unfold x6; exact Leaves.step (Leaves.set_img _ _) hx3 rfl rfl) fun hx6 => ?_
    try clear_value x6
    extract_lets -merge +onlyGivenNames x7
    refine Leaves.have x7 ?_ fun hx7 => ?_
    · unfold x7
      exact Leaves.step (processReports_leaves ..) (Leaves.step (buildImage_leaves ..) hx6 rfl rfl) rfl rfl
    try clear_value x7
    exact Leaves.step (latchLanes_leaves ..) (Leaves.step (openSnap_leaves ..) hx7 rfl rfl) rfl rfl

theorem cinchLatch_leaves (bad : Nat) (s : State) :
    Leaves [.time, .ring, .clk, .sto, .int, .mbx, .img, .scn, .prg, .fld, .ana, .ang, .plt, .pair, .rtc, .sec]
      [F.objAG_GSTAT, F.objANG_EV, F.objCLK_LOST_CYCLES, F.objCLK_START, F.objDG_CHSTAT, F.objDG_COS, F.objDG_GSTAT,
      F.objIMG_PINS, F.objIMG_STATUS, F.objINT_LATCH, F.objINT_STAT, F.objINT_STATE, F.objINT_STORMED, F.objMBX_QUEUES,
      F.objMBX_USE, F.objNRL_CINCH_ERR, F.objNRL_STATE, F.objPLT_COUNT, F.objPLT_LANE, F.objPLT_PSTATE, F.objPPR_WINSTAT,
      F.objPRG_ACT, F.objREC_STAT, F.objSCN_MODE, F.objSCN_TSTAT, F.objSEC_FW] s (cinchLatch bad s) := by
  unfold cinchLatch
  split
  · exact Leaves.one (noEffect_leaves ..) rfl rfl
  · refine Leaves.ite ?_ ?_
    · exact Leaves.one (noEffect_leaves ..) rfl rfl
    · extract_lets -merge +onlyGivenNames x0
      refine Leaves.have x0 ?_ fun hx0 => ?_
      · unfold x0
        exact Leaves.ite (Leaves.one (State.inc_leaves ..) rfl rfl) (Leaves.refl ..)
      try clear_value x0
      extract_lets -merge +onlyGivenNames x1 x2
      try clear_value x1
      refine Leaves.have x2 (by unfold x2; exact Leaves.step (Leaves.set_ring _ _) hx0 rfl rfl) fun hx2 => ?_
      try clear_value x2
      exact Leaves.step (latchNow_leaves ..) hx2 rfl rfl

theorem stopLatching_leaves (s : State) :
    Leaves [.time, .ring, .sto, .int, .mbx, .img, .scn, .prg, .fld, .pair] [F.objANG_EV, F.objINT_LATCH, F.objINT_STAT,
      F.objINT_STATE, F.objINT_STORMED, F.objMBX_QUEUES, F.objMBX_USE, F.objNRL_CTRL, F.objPLT_PSTATE, F.objPRG_ACT,
      F.objREC_STAT, F.objSCN_MODE] s (stopLatching s) := by
  unfold stopLatching
  extract_lets -merge +onlyGivenNames x0 x1
  try clear_value x0
  refine Leaves.have x1 (by unfold x1; exact Leaves.one (Leaves.set_ring _ _) rfl rfl) fun hx1 => ?_
  try clear_value x1
  extract_lets -merge +onlyGivenNames x2
  refine Leaves.have x2 ?_ fun hx2 => ?_
  · unfold x2
    refine Leaves.step (setLatch_leaves ..) ?_ rfl rfl
    exact Leaves.step (log_leaves ..) (Leaves.step (State.wr_leaves ..) hx1 rfl rfl) rfl rfl
  try clear_value x2
  extract_lets -merge +onlyGivenNames x3
  refine Leaves.have x3 (by unfold x3; exact Leaves.ite (Leaves.step (enterFault_leaves ..) hx2 rfl rfl) hx2) fun hx3 => ?_
  try clear_value x3
  exact Leaves.step (persistReg_leaves ..) hx3 rfl rfl

theorem cinchLost_leaves (s : State) :
    Leaves [.time, .ring, .sto, .int, .mbx, .img, .scn, .prg, .fld, .pair] [F.objANG_EV, F.objINT_LATCH, F.objINT_STAT,
      F.objINT_STATE, F.objINT_STORMED, F.objMBX_QUEUES, F.objMBX_USE, F.objNRL_CTRL, F.objPLT_PSTATE, F.objPRG_ACT,
      F.objREC_STAT, F.objSCN_MODE] s (cinchLost s) := by
  unfold cinchLost
  exact Leaves.ite (Leaves.one (stopLatching_leaves ..) rfl rfl) (Leaves.one (noEffect_leaves ..) rfl rfl)

theorem secondCopy_leaves (p : Port) (s : State) :
    Leaves [.ring] [F.objNRL_CINCH_CNT] s (secondCopy p s) := by
  unfold secondCopy
  extract_lets -merge +onlyGivenNames x0 x1
  try clear_value x0
  refine Leaves.have x1 ?_ fun hx1 => ?_
  · unfold x1
    exact Leaves.ite (Leaves.one (State.inc_leaves ..) rfl rfl) (Leaves.refl ..)
  try clear_value x1
  exact Leaves.step (Leaves.set_ring _ _) hx1 rfl rfl

theorem setDue_leaves (s : State) (n : Nat) (p : Port) (ann : Bool) :
    Leaves [.ring, .img] [F.objNRL_CINCH_CNT] s (setDue s n p ann) := by
  unfold setDue
  extract_lets -merge +onlyGivenNames x0 x1 x2
  try clear_value x0 x1
  refine Leaves.have x2 (by unfold x2; exact Leaves.one (Leaves.set_img _ _) rfl rfl) fun hx2 => ?_
  try clear_value x2
  split
  · exact Leaves.step (Leaves.set_ring _ _) hx2 rfl rfl
  · refine Leaves.ite ?_ ?_
    · exact hx2
    · extract_lets -merge +onlyGivenNames x3
      refine Leaves.have x3 ?_ fun hx3 => ?_
      · unfold x3
        exact Leaves.ite (Leaves.step (State.inc_leaves ..) hx2 rfl rfl) hx2
      try clear_value x3
      extract_lets -merge +onlyGivenNames x4
      try clear_value x4
      exact Leaves.step (Leaves.set_ring _ _) hx3 rfl rfl

theorem timedMarker_leaves (s : State) (p : Port) (n : Nat) (ann : Bool) :
    Leaves [.ring, .img] [F.objNRL_CINCH_CNT, F.objNRL_CINCH_ERR] s (timedMarker s p n ann) := by
  unfold timedMarker
  extract_lets -merge +onlyGivenNames x0
  try clear_value x0
  refine Leaves.ite ?_ ?_
  · exact Leaves.ite (Leaves.one (secondCopy_leaves ..) rfl rfl) (Leaves.one (State.inc_leaves ..) rfl rfl)
  · exact Leaves.ite (Leaves.one (State.inc_leaves ..) rfl rfl) (Leaves.one (setDue_leaves ..) rfl rfl)

theorem cinchMarker_leaves (p : Port) (lanes : Nat) (r0 : Nat) (r1 : Nat) (flags : Nat) (check : Nat) (s : State) :
    Leaves [.ring, .img] [F.objNRL_CINCH_CNT, F.objNRL_CINCH_ERR] s (cinchMarker p lanes r0 r1 flags check s) := by
  unfold cinchMarker
  refine Leaves.ite ?_ ?_
  · exact Leaves.one (noEffect_leaves ..) rfl rfl
  · extract_lets -merge +onlyGivenNames x0 x1 x2
    try clear_value x0 x1 x2
    refine Leaves.ite ?_ ?_
    · refine Leaves.ite ?_ ?_
      · exact Leaves.one (timedMarker_leaves ..) rfl rfl
      · exact Leaves.step (timedMarker_leaves ..) (Leaves.one (State.inc_leaves ..) rfl rfl) rfl rfl
    · refine Leaves.ite ?_ ?_
      · split
        · exact Leaves.one (noEffect_leaves ..) rfl rfl
        · refine Leaves.ite ?_ ?_
          · exact Leaves.one (State.inc_leaves ..) rfl rfl
          · extract_lets -merge +onlyGivenNames x3
            try clear_value x3
            refine Leaves.ite ?_ ?_
            · exact Leaves.one (setDue_leaves ..) rfl rfl
            · exact Leaves.ite (Leaves.one (Leaves.set_ring _ _) rfl rfl) (Leaves.one (noEffect_leaves ..) rfl rfl)
      · exact Leaves.one (noEffect_leaves ..) rfl rfl

theorem unresolved_leaves (s : State) (cls : Nat) (value : Nat) :
    Leaves [.time, .ring, .sto, .int, .mbx, .img, .scn, .prg, .fld, .plt, .pair] [F.objANG_EV, F.objINT_LATCH,
      F.objINT_STAT, F.objINT_STATE, F.objINT_STORMED, F.objMBX_QUEUES, F.objMBX_USE, F.objPLT_COUNT, F.objPLT_LANE,
      F.objPLT_PSTATE, F.objPRG_ACT, F.objREC_STAT, F.objSCN_MODE] s (unresolved s cls value) := by
  unfold unresolved
  extract_lets -merge +onlyGivenNames x0 x1
  try clear_value x0
  refine Leaves.have x1 ?_ fun hx1 => ?_
  · unfold x1
    exact Leaves.step (pltCase_leaves ..) (Leaves.one (State.inc_leaves ..) rfl rfl) rfl rfl
  try clear_value x1
  extract_lets -merge +onlyGivenNames x2
  refine Leaves.have x2 ?_ fun hx2 => ?_
  · unfold x2
    refine Leaves.transR (Leaves.foldl _ _ (fun y3 z3 _ => by
      refine Leaves.ite ?_ ?_
      · refine Leaves.step (setLane_leaves ..) ?_ rfl rfl
        refine Leaves.step (State.wr_leaves ..) ?_ rfl (by unfold Sys2Proof.Machine.laneCauseFld; (try dsimp only); first | rfl | (simp only [List.all_cons, List.all_nil, Bool.and_true]; (repeat' split) <;> rfl))
        exact Leaves.refl ..
      · exact Leaves.refl ..
      ) _) ?_
    exact hx1
  try clear_value x2
  exact Leaves.step (enterFault_leaves ..) (Leaves.step (updPlt_leaves ..) hx2 rfl rfl) rfl rfl

theorem ringWords_leaves (s : State) :
    Leaves [.time, .ring, .sto, .int, .mbx, .img, .scn, .prg, .fld, .plt, .pair] [F.objANG_EV, F.objINT_LATCH,
      F.objINT_STAT, F.objINT_STATE, F.objINT_STORMED, F.objMBX_QUEUES, F.objMBX_USE, F.objPLT_COUNT, F.objPLT_LANE,
      F.objPLT_PSTATE, F.objPRG_ACT, F.objREC_STAT, F.objSCN_MODE] s (ringWords s) := by
  unfold ringWords
  extract_lets -merge +onlyGivenNames x0
  try clear_value x0
  refine Leaves.transR (Leaves.foldl _ _ (fun y1 z1 _ => by
    refine Leaves.ite ?_ ?_
    · exact Leaves.refl ..
    · extract_lets -merge +onlyGivenNames x2
      try clear_value x2
      split
      · exact Leaves.one (unresolved_leaves ..) rfl rfl
      · extract_lets -merge +onlyGivenNames x3
        try clear_value x3
        exact Leaves.one (Leaves.set_sto _ _) rfl rfl
    ) _) ?_
  exact Leaves.refl ..

theorem cinchWork_leaves (s : State) :
    Leaves [.time, .ring, .sto, .int, .mbx, .img, .scn, .prg, .fld, .plt, .pair] [F.objANG_EV, F.objINT_LATCH,
      F.objINT_STAT, F.objINT_STATE, F.objINT_STORMED, F.objMBX_QUEUES, F.objMBX_USE, F.objPLT_COUNT, F.objPLT_LANE,
      F.objPLT_PSTATE, F.objPRG_ACT, F.objREC_STAT, F.objSCN_MODE] s (cinchWork s) := by
  unfold cinchWork
  refine Leaves.ite ?_ ?_
  · exact Leaves.refl ..
  · extract_lets -merge +onlyGivenNames x0 x1 x2
    try clear_value x0 x1
    refine Leaves.have x2 ?_ fun hx2 => ?_
    · unfold x2
      exact Leaves.ite (Leaves.one (Leaves.set_scn _ _) rfl rfl) (Leaves.refl ..)
    try clear_value x2
    extract_lets -merge +onlyGivenNames x3
    refine Leaves.have x3 (by unfold x3; exact Leaves.step (ringWords_leaves ..) hx2 rfl rfl) fun hx3 => ?_
    try clear_value x3
    exact Leaves.ite (Leaves.step (updPair_leaves ..) hx3 rfl rfl) hx3

theorem claimEffect_leaves (s : State) :
    Leaves [.time, .ring, .sto, .int, .mbx, .img, .scn, .prg, .fld, .pair] [F.objANG_EV, F.objDG_COS, F.objINT_LATCH,
      F.objINT_STAT, F.objINT_STATE, F.objINT_STORMED, F.objMBX_QUEUES, F.objMBX_USE, F.objPLT_PSTATE, F.objPPR_WINSTAT,
      F.objPRG_ACT, F.objREC_STAT, F.objSCN_MODE, F.objSCN_TSTAT] s (claimEffect s) := by
  unfold claimEffect
  split
  · exact Leaves.one (noEffect_leaves ..) rfl rfl
  · refine Leaves.ite ?_ ?_
    · exact Leaves.one (noEffect_leaves ..) rfl rfl
    · extract_lets -merge +onlyGivenNames x0
      refine Leaves.have x0 ?_ fun hx0 => ?_
      · unfold x0
        split
        · refine Leaves.ite ?_ ?_
          · refine Leaves.step (releaseDeferred_leaves ..) ?_ rfl rfl
            exact Leaves.step (State.wr_leaves ..) (Leaves.one (putAct_leaves ..) rfl rfl) rfl rfl
          · exact Leaves.refl ..
        · exact Leaves.refl ..
      try clear_value x0
      refine Leaves.step (refreshPair_leaves ..) ?_ rfl rfl
      exact Leaves.step (updPair_leaves ..) (Leaves.step (setRole_leaves ..) hx0 rfl rfl) rfl rfl

theorem endWait_leaves (s : State) (c : Nat) :
    Leaves [.ring, .sto, .int, .fld] [F.objDG_CHSTAT, F.objDG_GSTAT, F.objINT_STAT, F.objINT_STATE, F.objINT_STORMED,
      F.objREC_STAT] s (endWait s c).1 := by
  unfold endWait
  extract_lets -merge +onlyGivenNames x0
  try clear_value x0
  refine Leaves.ite1 ?_ ?_
  · extract_lets -merge +onlyGivenNames x1 x2
    try clear_value x1
    refine Leaves.have x2 ?_ fun hx2 => ?_
    · unfold x2
      exact Leaves.step (State.wr_leaves ..) (Leaves.one (putDch_leaves ..) rfl rfl) rfl rfl
    try clear_value x2
    exact Leaves.step (stageOn_leaves ..) hx2 rfl rfl
  · exact Leaves.refl ..

theorem resumeStage_leaves (s : State) (c : Nat) :
    Leaves [.ring, .sto, .int, .fld] [F.objANG_EV, F.objANG_STATUS, F.objDG_CHSTAT, F.objDG_GSTAT, F.objINT_STAT,
      F.objINT_STATE, F.objINT_STORMED, F.objREC_STAT] s (resumeStage s c) := by
  unfold resumeStage
  extract_lets -merge +onlyGivenNames x0
  refine Leaves.have x0.1 (by unfold x0; exact Leaves.one (endWait_leaves ..) rfl rfl) fun hx0 => ?_
  try clear_value x0
  split
  · exact Leaves.step (evLate_leaves ..) hx0 rfl rfl
  · exact hx0

theorem clampEnd_leaves (c : Nat) (s : State) :
    Leaves [.ring, .sto, .int, .fld] [F.objANG_EV, F.objANG_STATUS, F.objDG_CHSTAT, F.objDG_GSTAT, F.objINT_STAT,
      F.objINT_STATE, F.objINT_STORMED, F.objREC_STAT] s (clampEnd c s) := by
  unfold clampEnd
  refine Leaves.ite ?_ ?_
  · exact Leaves.step (resumeStage_leaves ..) (Leaves.one (State.wr_leaves ..) rfl rfl) rfl rfl
  · exact Leaves.one (noEffect_leaves ..) rfl rfl

theorem putFwAct_leaves (s : State) (a : FwAct) :
    Leaves [.sec] [] s (putFwAct s a) := by
  unfold putFwAct
  exact Leaves.one (Leaves.set_sec _ _) rfl rfl

theorem ucodeJoined_leaves (s : State) (k : Nat) :
    Leaves [.ring, .sto, .int, .mbx, .sec] [F.objINT_LATCH, F.objINT_STAT, F.objINT_STATE, F.objINT_STORMED,
      F.objMBX_QUEUES, F.objMBX_USE, F.objREC_STAT, F.objSEC_FW] s (ucodeJoined s k) := by
  unfold ucodeJoined
  split
  · exact Leaves.refl ..
  · refine Leaves.ite ?_ ?_
    · exact Leaves.one (finishFw_leaves ..) rfl rfl
    · exact Leaves.ite (Leaves.one (finishFw_leaves ..) rfl rfl) (Leaves.one (putFwAct_leaves ..) rfl rfl)

theorem clearLane_leaves (s : State) (k : Nat) :
    Leaves [.ring, .sto, .int, .mbx, .scn, .plt, .sec] [F.objINT_LATCH, F.objINT_STAT, F.objINT_STATE, F.objINT_STORMED,
      F.objMBX_QUEUES, F.objMBX_USE, F.objPLT_LANE, F.objREC_STAT, F.objSCN_MODE, F.objSEC_FW] s (clearLane s k) := by
  unfold clearLane
  extract_lets -merge +onlyGivenNames x0 x1
  try clear_value x0
  refine Leaves.have x1 (by unfold x1; exact Leaves.one (Leaves.set_scn _ _) rfl rfl) fun hx1 => ?_
  try clear_value x1
  refine Leaves.step (ucodeJoined_leaves ..) ?_ rfl rfl
  exact Leaves.step (setLane_leaves ..) (Leaves.step (updPlt_leaves ..) hx1 rfl rfl) rfl rfl

theorem clearLost_leaves (s : State) (no : Nat) :
    Leaves [.img] [] s (clearLost s no) := by
  unfold clearLost
  exact Leaves.one (Leaves.set_img _ _) rfl rfl

theorem closeEvent_leaves (s : State) :
    Leaves [.clk] [] s (closeEvent s) := by
  unfold closeEvent
  exact Leaves.one (Leaves.set_clk _ _) rfl rfl

theorem closeLane_leaves (s : State) :
    Leaves [.time, .clk] [F.objSCN_MODE] s (closeLane s) := by
  unfold closeLane
  refine Leaves.ite ?_ ?_
  · exact Leaves.refl ..
  · extract_lets -merge +onlyGivenNames x0 x1
    try clear_value x0
    refine Leaves.have x1 ?_ fun hx1 => ?_
    · unfold x1
      exact Leaves.step (stopRunTicks_leaves ..) (Leaves.one (Leaves.set_clk _ _) rfl rfl) rfl rfl
    try clear_value x1
    exact Leaves.step (persistReg_leaves ..) hx1 rfl rfl

theorem closeLink_leaves (s : State) :
    Leaves [.time, .ring, .clk] [] s (closeLink s) := by
  unfold closeLink
  refine Leaves.step (Leaves.upd (ps := [.time, .ring, .clk]) (s := s) rfl (by intro p hp; cases p <;> first | rfl | exact absurd (by decide) hp)) ?_ rfl rfl
  exact Leaves.refl ..

theorem closeSys_leaves (s : State) :
    Leaves [.clk, .mbx] [] s (closeSys s) := by
  unfold closeSys
  refine Leaves.step (Leaves.upd (ps := [.clk, .mbx]) (s := s) rfl (by intro p hp; cases p <;> first | rfl | exact absurd (by decide) hp)) ?_ rfl rfl
  exact Leaves.refl ..

theorem closeUncommitted_leaves (s : State) (x : Exec) (damaged : Bool) :
    Leaves [.img] [] s (closeUncommitted s x damaged) := by
  unfold closeUncommitted
  split
  · exact Leaves.one (closeSnap_leaves ..) rfl rfl
  · exact Leaves.refl ..

theorem flushNow_leaves (s : State) :
    Leaves [.ring, .sto, .int] [F.objINT_LATCH, F.objINT_STAT, F.objINT_STATE, F.objINT_STORMED, F.objREC_STAT] s
      (flushNow s) := by
  unfold flushNow
  refine Leaves.ite ?_ ?_
  · exact Leaves.refl ..
  · extract_lets -merge +onlyGivenNames x0
    have hx0 : ∀ w1_0, Leaves [.ring, .sto, .int] [F.objINT_LATCH, F.objINT_STAT, F.objINT_STATE, F.objINT_STORMED, F.objREC_STAT] w1_0 (x0 w1_0) := by
      intro w1_0
      unfold x0
      extract_lets -merge +onlyGivenNames x1
      try clear_value x1
      exact Leaves.one (Leaves.set_sto _ _) rfl rfl
    try clear_value x0
    extract_lets -merge +onlyGivenNames x2
    refine Leaves.have x2 (by unfold x2; exact Leaves.transR (hx0 ..) (Leaves.refl ..)) fun hx2 => ?_
    try clear_value x2
    refine Leaves.ite ?_ ?_
    · exact Leaves.step (bufRegs_leaves ..) hx2 rfl rfl
    · extract_lets -merge +onlyGivenNames x3 x4 x5
      try clear_value x3 x4
      refine Leaves.have x5 (by unfold x5; exact Leaves.step (Leaves.set_sto _ _) hx2 rfl rfl) fun hx5 => ?_
      try clear_value x5
      refine Leaves.step (bufRegs_leaves ..) ?_ rfl rfl
      refine Leaves.transR (hx0 ..) ?_
      exact Leaves.step (setLatch_leaves ..) (Leaves.step (createRec_leaves ..) hx5 rfl rfl) rfl rfl

theorem closingFlush_leaves (s : State) :
    Leaves [.ring, .sto, .int] [F.objINT_LATCH, F.objINT_STAT, F.objINT_STATE, F.objINT_STORMED, F.objREC_STAT] s
      (closingFlush s) := by
  unfold closingFlush
  extract_lets -merge +onlyGivenNames x0
  refine Leaves.have x0 (by unfold x0; exact Leaves.one (flushNow_leaves ..) rfl rfl) fun hx0 => ?_
  try clear_value x0
  refine Leaves.ite ?_ ?_
  · extract_lets -merge +onlyGivenNames x1
    refine Leaves.have x1 (by unfold x1; exact Leaves.step (ringUpdate_leaves ..) hx0 rfl rfl) fun hx1 => ?_
    try clear_value x1
    exact Leaves.step (Leaves.set_sto _ _) hx1 rfl rfl
  · exact hx0

theorem commitRun_keeps (levels : Nat) (h : Hdl) (chk : Bool) (cinch : Nat) (x : Session) (s : State) :
    Keeps [.time, .ring, .sto, .int, .mbx, .img, .scn, .prg, .fld, .ana, .ang, .plt, .pair, .rtc, .pwr, .free] s (commitRun levels h chk cinch x s) := by
  unfold commitRun
  extract_lets -merge +onlyGivenNames x0 x1
  try clear_value x0 x1
  refine Keeps.ite ?_ ?_
  · exact Keeps.one (finHdl_leaves ..).1 rfl
  · refine Keeps.ite ?_ ?_
    · exact Keeps.one (finHdl_leaves ..).1 rfl
    · split
      · exact Keeps.one (finHdl_leaves ..).1 rfl
      · refine Keeps.ite ?_ ?_
        · exact Keeps.one (finHdl_leaves ..).1 rfl
        · refine Keeps.step (finHdl_leaves ..).1 ?_ rfl
          exact Keeps.step (applySet_keeps _ _ _ _) (Keeps.one (putSession_leaves ..).1 rfl) rfl

theorem commitApply_keeps (levels : Nat) (s : State) :
    Keeps [.time, .ring, .sto, .int, .mbx, .img, .scn, .prg, .fld, .ana, .ang, .plt, .pair, .rtc, .pwr, .free] s (commitApply levels s) := by
  unfold commitApply
  extract_lets -merge +onlyGivenNames x0
  try clear_value x0
  split
  · exact Keeps.one (noEffect_leaves ..).1 rfl
  · refine Keeps.ite ?_ ?_
    · exact Keeps.one (noEffect_leaves ..).1 rfl
    · split
      · exact Keeps.one (commitRun_keeps _ _ _ _ _ _) rfl
      · exact Keeps.one (noEffect_leaves ..).1 rfl

theorem endExec_leaves (s : State) (x : Exec) :
    Leaves [.time, .ring, .sto, .int, .mbx, .img, .scn, .prg, .fld, .pair] [F.objANG_EV, F.objDG_COS, F.objINT_LATCH,
      F.objINT_STAT, F.objINT_STATE, F.objINT_STORMED, F.objMBX_QUEUES, F.objMBX_USE, F.objPLT_PSTATE, F.objPPR_WINSTAT,
      F.objPRG_ACT, F.objREC_STAT, F.objSCN_MODE, F.objSCN_TSTAT] s (endExec s x) := by
  unfold endExec
  extract_lets -merge +onlyGivenNames x0 x1
  try clear_value x0
  refine Leaves.have x1 ?_ fun hx1 => ?_
  · unfold x1
    exact Leaves.step (State.wr_leaves ..) (Leaves.one (State.wr_leaves ..) rfl rfl) rfl rfl
  try clear_value x1
  extract_lets -merge +onlyGivenNames x2 x3
  try clear_value x2
  refine Leaves.have x3 (by unfold x3; exact Leaves.step (Leaves.set_scn _ _) hx1 rfl rfl) fun hx3 => ?_
  try clear_value x3
  extract_lets -merge +onlyGivenNames x4
  refine Leaves.have x4 (by unfold x4; exact Leaves.step (State.wr_leaves ..) hx3 rfl rfl) fun hx4 => ?_
  try clear_value x4
  exact Leaves.step (completeTask_leaves ..) hx4 rfl rfl

theorem evArm_leaves (s : State) (e : Nat) (a : Nat) :
    Leaves [.time, .ring, .sto, .int, .mbx, .img, .scn, .prg, .fld, .ana, .ang, .pair] [F.objAG_CONV, F.objANG_CAPPOS,
      F.objANG_EV, F.objANG_STATUS, F.objDG_CHSTAT, F.objDG_COS, F.objDG_GSTAT, F.objINT_LATCH, F.objINT_STAT,
      F.objINT_STATE, F.objINT_STORMED, F.objMBX_QUEUES, F.objMBX_USE, F.objPLT_PSTATE, F.objPPR_WINSTAT, F.objPRG_ACT,
      F.objREC_STAT, F.objSCN_MODE, F.objSCN_TSTAT] s (evArm s e a) := by
  unfold evArm
  exact Leaves.ite (Leaves.one (refuseArm_leaves ..) rfl rfl) (Leaves.one (arm_leaves ..) rfl rfl)

theorem evDis_leaves (s : State) (e : Nat) :
    Leaves [.ang] [F.objANG_EV, F.objANG_STATUS] s (evDis s e) := by
  unfold evDis
  exact Leaves.ite (Leaves.one (refuseArm_leaves ..) rfl rfl) (Leaves.one (disarm_leaves ..) rfl rfl)

theorem request_leaves (s : State) (r : Request) :
    Leaves [.time, .ring, .sto, .int, .mbx, .img, .scn, .prg, .fld, .ana, .ang, .pair] [F.objAG_CONV, F.objANG_CAPPOS,
      F.objANG_EV, F.objANG_STATUS, F.objDG_CHSTAT, F.objDG_COS, F.objDG_GSTAT, F.objIMG_PINS, F.objIMG_STATUS,
      F.objINT_LATCH, F.objINT_STAT, F.objINT_STATE, F.objINT_STORMED, F.objMBX_QUEUES, F.objMBX_USE, F.objPLT_PSTATE,
      F.objPPR_WINSTAT, F.objPRG_ACT, F.objREC_STAT, F.objSCN_MODE, F.objSCN_TSTAT] s (request s r) := by
  unfold request
  split
  · exact Leaves.one (evArm_leaves ..) rfl rfl
  · exact Leaves.one (evDis_leaves ..) rfl rfl
  · extract_lets -merge +onlyGivenNames x0
    try clear_value x0
    split
    · extract_lets -merge +onlyGivenNames x1 x2 x3
      try clear_value x1 x2 x3
      exact Leaves.step (pinRegs_leaves ..) (Leaves.one (Leaves.set_img _ _) rfl rfl) rfl rfl
    · exact Leaves.refl ..
  · extract_lets -merge +onlyGivenNames x4 x5 x6
    try clear_value x4 x5 x6
    exact Leaves.step (pinRegs_leaves ..) (Leaves.one (Leaves.set_img _ _) rfl rfl) rfl rfl

theorem shadowCommit_leaves (s : State) (own : Nat → Memory) (mask : Memory) :
    Leaves [.scn, .plt] [] s (shadowCommit s own mask) := by
  unfold shadowCommit
  extract_lets -merge +onlyGivenNames x0 x1
  try clear_value x0
  extract_lets -merge +onlyGivenNames x2
  refine Leaves.have x2 (by unfold x2; exact Leaves.one (updPlt_leaves ..) rfl rfl) fun hx2 => ?_
  try clear_value x2
  extract_lets -merge +onlyGivenNames x3
  try clear_value x3
  exact Leaves.step (Leaves.set_scn _ _) hx2 rfl rfl

theorem sendCopies_leaves (s : State) :
    Leaves [.fld] [] s (sendCopies s) := by
  unfold sendCopies
  extract_lets -merge +onlyGivenNames x0
  try clear_value x0
  exact Leaves.one (Leaves.set_fld _ _) rfl rfl

theorem drillAtC_leaves (s : State) (so : Nat) :
    Leaves [.ring, .sto, .int, .mbx, .fld, .pair] [F.objINT_LATCH, F.objINT_STAT, F.objINT_STATE, F.objINT_STORMED,
      F.objMBX_QUEUES, F.objMBX_USE, F.objPLT_PSTATE, F.objREC_STAT] s (drillAtC s so) := by
  unfold drillAtC
  split
  · exact Leaves.refl ..
  · refine Leaves.ite ?_ ?_
    · extract_lets -merge +onlyGivenNames x0
      refine Leaves.have x0 ?_ fun hx0 => ?_
      · unfold x0
        refine Leaves.transR (Leaves.foldl _ _ (fun y1 z1 _ => by
          exact Leaves.one (putDch_leaves ..) rfl rfl
          ) _) ?_
        exact Leaves.refl ..
      try clear_value x0
      exact Leaves.step (updPair_leaves ..) hx0 rfl rfl
    · exact Leaves.ite (Leaves.one (finishDrill_leaves ..) rfl rfl) (Leaves.refl ..)

theorem openGates_leaves (s : State) :
    Leaves [.ring, .sto, .int, .mbx, .fld, .ana, .pair] [F.objAG_GSTAT, F.objDG_CHSTAT, F.objDG_GSTAT, F.objINT_LATCH,
      F.objINT_STAT, F.objINT_STATE, F.objINT_STORMED, F.objMBX_QUEUES, F.objMBX_USE, F.objPLT_PSTATE, F.objREC_STAT] s
      (openGates s) := by
  unfold openGates
  refine Leaves.ite ?_ ?_
  · exact Leaves.refl ..
  · extract_lets -merge +onlyGivenNames x0 x1
    try clear_value x0
    refine Leaves.have x1 ?_ fun hx1 => ?_
    · unfold x1
      exact Leaves.step (pairEvent_leaves ..) (Leaves.one (openDigital_leaves ..) rfl rfl) rfl rfl
    try clear_value x1
    extract_lets -merge +onlyGivenNames x2
    refine Leaves.have x2 ?_ fun hx2 => ?_
    · unfold x2
      refine Leaves.ite ?_ ?_
      · refine Leaves.step (pltCase_leaves ..) ?_ rfl rfl
        exact Leaves.step (State.incTo_leaves ..) (Leaves.step (State.wr_leaves ..) hx1 rfl rfl) rfl rfl
      · exact hx1
    try clear_value x2
    extract_lets -merge +onlyGivenNames x3
    refine Leaves.have x3 (by unfold x3; exact Leaves.step (updPair_leaves ..) hx2 rfl rfl) fun hx3 => ?_
    try clear_value x3
    extract_lets -merge +onlyGivenNames x4
    refine Leaves.have x4 (by unfold x4; exact Leaves.step (drillAtC_leaves ..) hx3 rfl rfl) fun hx4 => ?_
    try clear_value x4
    exact Leaves.ite (Leaves.step (openAnalogue_leaves ..) hx4 rfl rfl) hx4

theorem commitExec_leaves (s : State) (x : Exec) (r : VoteRes) :
    Leaves [.time, .ring, .sto, .int, .mbx, .img, .scn, .prg, .fld, .ana, .ang, .plt, .pair] [F.objAG_CONV, F.objAG_GSTAT,
      F.objANG_CAPPOS, F.objANG_EV, F.objANG_STATUS, F.objDG_CHSTAT, F.objDG_COS, F.objDG_GSTAT, F.objIMG_PINS,
      F.objIMG_STATUS, F.objINT_LATCH, F.objINT_STAT, F.objINT_STATE, F.objINT_STORMED, F.objMBX_QUEUES, F.objMBX_USE,
      F.objPLT_COUNT, F.objPLT_LANE, F.objPLT_PSTATE, F.objPPR_WINSTAT, F.objPRG_ACT, F.objREC_STAT, F.objSCN_MODE,
      F.objSCN_TSTAT] s (commitExec s x r) := by
  unfold commitExec
  refine Leaves.ite ?_ ?_
  · extract_lets -merge +onlyGivenNames x0
    refine Leaves.have x0 (by unfold x0; exact Leaves.one (updPlt_leaves ..) rfl rfl) fun hx0 => ?_
    try clear_value x0
    refine Leaves.step (startNext_leaves ..) ?_ rfl rfl
    refine Leaves.step (endExec_leaves ..) ?_ rfl rfl
    refine Leaves.transR (Leaves.foldl _ _ (fun y1 z1 _ => by
      exact Leaves.one (request_leaves ..) rfl rfl
      ) _) ?_
    exact hx0
  · extract_lets -merge +onlyGivenNames x2 x3 x4
    try clear_value x2 x3
    refine Leaves.have x4 (by unfold x4; exact Leaves.one (Leaves.set_img _ _) rfl rfl) fun hx4 => ?_
    try clear_value x4
    extract_lets -merge +onlyGivenNames x5
    refine Leaves.have x5 (by unfold x5; exact Leaves.step (shadowCommit_leaves ..) hx4 rfl rfl) fun hx5 => ?_
    try clear_value x5
    extract_lets -merge +onlyGivenNames x6
    refine Leaves.have x6 ?_ fun hx6 => ?_
    · unfold x6
      exact Leaves.ite (Leaves.step (updPlt_leaves ..) hx5 rfl rfl) (Leaves.refl ..)
    try clear_value x6
    extract_lets -merge +onlyGivenNames x7 x8
    try clear_value x7
    refine Leaves.have x8 (by unfold x8; exact Leaves.step (Leaves.set_img _ _) hx6 rfl rfl) fun hx8 => ?_
    try clear_value x8
    extract_lets -merge +onlyGivenNames x9
    refine Leaves.have x9 ?_ fun hx9 => ?_
    · unfold x9
      split
      · exact Leaves.step (closeSnap_leaves ..) hx8 rfl rfl
      · exact hx8
    try clear_value x9
    extract_lets -merge +onlyGivenNames x10
    refine Leaves.have x10 ?_ fun hx10 => ?_
    · unfold x10
      refine Leaves.transR (Leaves.foldl _ _ (fun y11 z11 _ => by
        exact Leaves.one (request_leaves ..) rfl rfl
        ) _) ?_
      exact hx9
    try clear_value x10
    extract_lets -merge +onlyGivenNames x12
    extract_lets -merge +onlyGivenNames x13
    refine Leaves.have x13 (by unfold x13; exact Leaves.step (shadowCommit_leaves ..) hx10 rfl rfl) fun hx13 => ?_
    try clear_value x13
    extract_lets -merge +onlyGivenNames x14
    refine Leaves.have x14 ?_ fun hx14 => ?_
    · unfold x14
      exact Leaves.ite (Leaves.step (sendCopies_leaves ..) hx13 rfl rfl) hx13
    try clear_value x14
    extract_lets -merge +onlyGivenNames x15
    refine Leaves.have x15 ?_ fun hx15 => ?_
    · unfold x15
      exact Leaves.step (openGates_leaves ..) (Leaves.step (endExec_leaves ..) hx14 rfl rfl) rfl rfl
    try clear_value x15
    exact Leaves.ite (Leaves.step (cinchWork_leaves ..) hx15 rfl rfl) hx15

theorem openDiag_leaves (s : State) (c : Nat) :
    Leaves [.ring, .sto, .int, .fld, .ana, .pair] [F.objAG_CHSTAT, F.objINT_LATCH, F.objINT_STAT, F.objINT_STATE,
      F.objINT_STORMED, F.objPPR_STAT, F.objREC_STAT] s (openDiag s c) := by
  unfold openDiag
  extract_lets -merge +onlyGivenNames x0
  try clear_value x0
  refine Leaves.ite ?_ ?_
  · exact Leaves.refl ..
  · refine Leaves.ite ?_ ?_
    · exact Leaves.one (aDiag_leaves ..) rfl rfl
    · exact Leaves.step (syncReset_leaves ..) (Leaves.one (aDiag_leaves ..) rfl rfl) rfl rfl

theorem convVerdict_leaves (s : State) (c : Nat) (fail : Bool) :
    Leaves [.ring, .sto, .int, .fld, .ana, .pair] [F.objAG_CHSTAT, F.objINT_LATCH, F.objINT_STAT, F.objINT_STATE,
      F.objINT_STORMED, F.objPPR_STAT, F.objREC_STAT] s (convVerdict s c fail) := by
  unfold convVerdict
  extract_lets -merge +onlyGivenNames x0 x1
  try clear_value x0 x1
  exact Leaves.step (openDiag_leaves ..) (Leaves.one (putAslot_leaves ..) rfl rfl) rfl rfl

theorem iirStep_leaves (s : State) (c : Nat) (x : ℤ) :
    Leaves [.ana, .free] [] s (iirStep s c x) := by
  unfold iirStep
  extract_lets -merge +onlyGivenNames x0 x1
  try clear_value x0
  refine Leaves.have x1.2 (by unfold x1; exact Leaves.one (freeDiv_leaves ..) rfl rfl) fun hx1 => ?_
  try clear_value x1
  exact Leaves.step (putAch_leaves ..) hx1 rfl rfl

theorem repeatSample_leaves (s : State) (c : Nat) :
    Leaves [.ana, .free] [] s (repeatSample s c) := by
  unfold repeatSample
  extract_lets -merge +onlyGivenNames x0
  try clear_value x0
  split
  · exact Leaves.refl ..
  · extract_lets -merge +onlyGivenNames x1
    refine Leaves.have x1 (by unfold x1; exact Leaves.one (putAch_leaves ..) rfl rfl) fun hx1 => ?_
    try clear_value x1
    exact Leaves.ite (Leaves.step (iirStep_leaves ..) hx1 rfl rfl) hx1

theorem conversionStep_leaves (g : Nat) (p : Nat) (s : State) :
    Leaves [.ana, .free] [] s (conversionStep g p s) := by
  unfold conversionStep
  refine Leaves.ite ?_ ?_
  · exact Leaves.one (noEffect_leaves ..) rfl rfl
  · split
    · exact Leaves.one (noEffect_leaves ..) rfl rfl
    · extract_lets -merge +onlyGivenNames x0 x1 x2 x3 x4
      try clear_value x0 x1 x2 x3
      refine Leaves.have x4 (by unfold x4; exact Leaves.one (putApos_leaves ..) rfl rfl) fun hx4 => ?_
      try clear_value x4
      refine Leaves.ite ?_ ?_
      · exact Leaves.step (repeatSample_leaves ..) hx4 rfl rfl
      · extract_lets -merge +onlyGivenNames x5 x6
        try clear_value x5
        refine Leaves.have x6 (by unfold x6; exact Leaves.step (putApos_leaves ..) hx4 rfl rfl) fun hx6 => ?_
        try clear_value x6
        refine Leaves.ite ?_ ?_
        · refine Leaves.step (repeatSample_leaves ..) ?_ rfl rfl
          exact Leaves.step (sendSample_leaves ..) (Leaves.step (beginSlot_leaves ..) hx6 rfl rfl) rfl rfl
        · exact Leaves.step (sendSample_leaves ..) (Leaves.step (countConv_leaves ..) hx6 rfl rfl) rfl rfl

theorem copyLane_leaves (s : State) (j : Nat) (k : Nat) :
    Leaves [.scn, .plt] [] s (copyLane s j k) := by
  unfold copyLane
  extract_lets -merge +onlyGivenNames x0 x1 x2 x3
  try clear_value x0 x1 x2
  refine Leaves.have x3 (by unfold x3; exact Leaves.one (Leaves.set_scn _ _) rfl rfl) fun hx3 => ?_
  try clear_value x3
  exact Leaves.step (updPlt_leaves ..) hx3 rfl rfl

theorem cosEdge_leaves (s : State) (c : Nat) (up : Bool) :
    Leaves [.time, .ring, .sto, .int, .mbx, .img, .scn, .prg, .fld, .pair] [F.objANG_EV, F.objDG_COS, F.objINT_LATCH,
      F.objINT_STAT, F.objINT_STATE, F.objINT_STORMED, F.objMBX_QUEUES, F.objMBX_USE, F.objPLT_PSTATE, F.objPPR_WINSTAT,
      F.objPRG_ACT, F.objREC_STAT, F.objSCN_MODE, F.objSCN_TSTAT] s (cosEdge s c up) := by
  unfold cosEdge
  refine Leaves.ite ?_ ?_
  · extract_lets -merge +onlyGivenNames x0 x1
    try clear_value x0 x1
    refine Leaves.transR (srcEvent_leaves (fun y2 => by
      exact Leaves.one (State.wr_leaves ..) rfl rfl
      ) rfl rfl) ?_
    exact Leaves.refl ..
  · exact Leaves.refl ..

theorem countEdge_leaves (s : State) (c : Nat) (up : Bool) :
    Leaves [] [F.objDG_CNT] s (countEdge s c up) := by
  unfold countEdge
  refine Leaves.ite ?_ ?_
  · exact Leaves.refl ..
  · extract_lets -merge +onlyGivenNames x0
    try clear_value x0
    split
    · exact Leaves.ite (Leaves.one (State.wr_leaves ..) rfl rfl) (Leaves.refl ..)
    · exact Leaves.one (State.wr_leaves ..) rfl rfl
    · exact Leaves.ite (Leaves.one (State.wr_leaves ..) rfl rfl) (Leaves.refl ..)

theorem counterRingUpdate_leaves (s : State) :
    Leaves [.sto] [] s (counterRingUpdate s) := by
  unfold counterRingUpdate
  split
  · exact Leaves.one (noEffect_leaves ..) rfl rfl
  · refine Leaves.ite ?_ ?_
    · exact Leaves.one (noEffect_leaves ..) rfl rfl
    · exact Leaves.step (ringUpdate_leaves ..) (Leaves.one (Leaves.set_sto _ _) rfl rfl) rfl rfl

theorem replaceAll_leaves (s : State) :
    Leaves [.ring, .mbx] [] s (replaceAll s) := by
  unfold replaceAll
  extract_lets -merge +onlyGivenNames x0
  extract_lets -merge +onlyGivenNames x1 x2 x3
  try clear_value x1 x2
  refine Leaves.have x3 ?_ fun hx3 => ?_
  · unfold x3
    refine Leaves.step (Leaves.upd (ps := [.ring, .mbx]) (s := s) rfl (by intro p hp; cases p <;> first | rfl | exact absurd (by decide) hp)) ?_ rfl rfl
    exact Leaves.refl ..
  try clear_value x3
  refine Leaves.transR (Leaves.foldl _ _ (fun y4 z4 _ => by
    exact Leaves.one (readyCpl_leaves ..) rfl rfl
    ) _) ?_
  exact hx3

theorem cqReplace_leaves (s : State) :
    Leaves [.ring, .mbx] [] s (cqReplace s) := by
  unfold cqReplace
  extract_lets -merge +onlyGivenNames x0
  extract_lets -merge +onlyGivenNames x1
  refine Leaves.have x1 ?_ fun hx1 => ?_
  · unfold x1
    exact Leaves.ite (Leaves.one (replaceAll_leaves ..) rfl rfl) (Leaves.refl ..)
  try clear_value x1
  exact Leaves.ite (Leaves.step (Leaves.set_mbx _ _) hx1 rfl rfl) hx1

theorem deferStep_leaves (s : State) (t : Nat) :
    Leaves [.ring, .sto, .int, .pwr] [F.objINT_LATCH, F.objINT_STAT, F.objINT_STATE, F.objINT_STORMED, F.objPWR_PLAN,
      F.objREC_STAT] s (deferStep s t) := by
  unfold deferStep
  extract_lets -merge +onlyGivenNames x0 x1
  try clear_value x0
  refine Leaves.have x1 (by unfold x1; exact Leaves.one (Leaves.set_pwr _ _) rfl rfl) fun hx1 => ?_
  try clear_value x1
  extract_lets -merge +onlyGivenNames x2
  refine Leaves.have x2 ?_ fun hx2 => ?_
  · unfold x2
    exact Leaves.step (State.wr_leaves ..) (Leaves.step (State.wr_leaves ..) hx1 rfl rfl) rfl rfl
  try clear_value x2
  exact Leaves.step (setLatch_leaves ..) (Leaves.step (log_leaves ..) hx2 rfl rfl) rfl rfl

theorem deferredTrigger_leaves (g : Nat) (p : Nat) (s : State) :
    Leaves [.ana] [] s (deferredTrigger g p s) := by
  unfold deferredTrigger
  split
  · exact Leaves.ite (Leaves.one (takeTrigger_leaves ..) rfl rfl) (Leaves.one (noEffect_leaves ..) rfl rfl)
  · exact Leaves.one (noEffect_leaves ..) rfl rfl

theorem dgPowerLoss_leaves (s : State) (g : Nat) :
    Leaves [.clk, .fld] [F.objCLK_START, F.objDG_CHSTAT, F.objDG_CNT] s (dgPowerLoss s g) := by
  unfold dgPowerLoss
  extract_lets -merge +onlyGivenNames x0
  refine Leaves.have x0 ?_ fun hx0 => ?_
  · unfold x0
    exact Leaves.step (setDie_leaves ..) (Leaves.one (State.wr_leaves ..) rfl rfl) rfl rfl
  try clear_value x0
  refine Leaves.transR (Leaves.foldl _ _ (fun y1 z1 _ => by
    extract_lets -merge +onlyGivenNames x2 x3
    try clear_value x2
    refine Leaves.have x3 (by unfold x3; exact Leaves.one (putDch_leaves ..) rfl rfl) fun hx3 => ?_
    try clear_value x3
    refine Leaves.step (State.wr_leaves ..) ?_ rfl rfl
    refine Leaves.step (State.wr_leaves ..) ?_ rfl rfl
    refine Leaves.step (State.wr_leaves ..) ?_ rfl rfl
    refine Leaves.step (State.wr_leaves ..) ?_ rfl rfl
    exact Leaves.step (State.wr_leaves ..) (Leaves.step (State.wr_leaves ..) hx3 rfl rfl) rfl rfl
    ) _) ?_
  exact hx0

theorem setPresent_leaves (s : State) (c : Nat) (k : Nat) :
    Leaves [.ring, .sto, .int, .fld, .pair] [F.objDG_CHSTAT, F.objINT_LATCH, F.objINT_STAT, F.objINT_STATE,
      F.objINT_STORMED, F.objREC_STAT] s (setPresent s c k) := by
  unfold setPresent
  extract_lets -merge +onlyGivenNames x0 x1
  try clear_value x0
  refine Leaves.have x1 ?_ fun hx1 => ?_
  · unfold x1
    exact Leaves.step (State.wr_leaves ..) (Leaves.one (State.wr_leaves ..) rfl rfl) rfl rfl
  try clear_value x1
  extract_lets -merge +onlyGivenNames x2
  refine Leaves.have x2 (by unfold x2; exact Leaves.ite (Leaves.step (drillFault_leaves ..) hx1 rfl rfl) hx1) fun hx2 => ?_
  try clear_value x2
  exact Leaves.step (hostSync_leaves ..) (Leaves.ite hx2 (Leaves.step (logDiag_leaves ..) hx2 rfl rfl)) rfl rfl

theorem diagDetect_leaves (c : Nat) (k : Nat) (present : Bool) (s : State) :
    Leaves [.ring, .sto, .int, .fld, .pair] [F.objDG_CHSTAT, F.objINT_LATCH, F.objINT_STAT, F.objINT_STATE,
      F.objINT_STORMED, F.objREC_STAT] s (diagDetect c k present s) := by
  unfold diagDetect
  refine Leaves.ite ?_ ?_
  · exact Leaves.one (noEffect_leaves ..) rfl rfl
  · refine Leaves.ite ?_ ?_
    · exact Leaves.ite (Leaves.one (setPresent_leaves ..) rfl rfl) (Leaves.one (noEffect_leaves ..) rfl rfl)
    · refine Leaves.ite ?_ ?_
      · exact Leaves.one (noEffect_leaves ..) rfl rfl
      · exact Leaves.ite (Leaves.one (noEffect_leaves ..) rfl rfl) (Leaves.one (clearPresent_leaves ..) rfl rfl)

theorem done_leaves (s : State) :
    Leaves [] [] s (done s).1 := by
  unfold done
  exact Leaves.refl ..

theorem dropFactory_leaves (s : State) (t : Nat) (k : Nat) :
    Leaves [.sto] [] s (dropFactory s t k) := by
  unfold dropFactory
  refine Leaves.ite ?_ ?_
  · extract_lets -merge +onlyGivenNames x0
    try clear_value x0
    exact Leaves.one (Leaves.set_sto _ _) rfl rfl
  · exact Leaves.refl ..

theorem dropImage_leaves (s : State) (k : Nat) :
    Leaves [.sto] [F.objSTO_STATUS] s (dropImage s k) := by
  unfold dropImage
  extract_lets -merge +onlyGivenNames x0
  try clear_value x0
  exact Leaves.ite (Leaves.refl ..) (Leaves.step (setIncons_leaves ..) (Leaves.one (putRec_leaves ..) rfl rfl) rfl rfl)

theorem dropWaiting_leaves (s : State) :
    Leaves [.time, .ring, .sto, .int, .mbx, .img, .scn, .prg, .fld, .pair] [F.objANG_EV, F.objDG_COS, F.objINT_LATCH,
      F.objINT_STAT, F.objINT_STATE, F.objINT_STORMED, F.objMBX_QUEUES, F.objMBX_USE, F.objPLT_PSTATE, F.objPPR_WINSTAT,
      F.objPRG_ACT, F.objREC_STAT, F.objSCN_MODE, F.objSCN_TSTAT] s (dropWaiting s) := by
  unfold dropWaiting
  extract_lets -merge +onlyGivenNames x0
  try clear_value x0
  refine Leaves.transR (Leaves.foldl _ _ (fun y1 z1 _ => by
    exact Leaves.one (completeTask_leaves ..) rfl rfl
    ) _) ?_
  exact Leaves.one (Leaves.set_scn _ _) rfl rfl

theorem endCheck_leaves (s : State) :
    Leaves [.scn] [] s (endCheck s) := by
  unfold endCheck
  split
  · exact Leaves.refl ..
  · exact Leaves.ite (Leaves.step (dispatch_leaves ..) (Leaves.one (Leaves.set_scn _ _) rfl rfl) rfl rfl) (Leaves.refl ..)

theorem planStep_leaves (s : State) (item : Nat) (old : Nat) (new : Nat) (group : Nat) (metric : Nat) :
    Leaves [.ring, .sto, .int] [F.objINT_LATCH, F.objINT_STAT, F.objINT_STATE, F.objINT_STORMED, F.objREC_STAT] s
      (planStep s item old new group metric) := by
  unfold planStep
  exact Leaves.step (setLatch_leaves ..) (Leaves.one (log_leaves ..) rfl rfl) rfl rfl

theorem putWmark_leaves (s : State) (k : Nat) :
    Leaves [.ring, .sto, .int] [F.objINT_STAT, F.objINT_STATE, F.objINT_STORMED, F.objPWR_PLAN, F.objREC_STAT] s (putWmark
      s k) := by
  unfold putWmark
  extract_lets -merge +onlyGivenNames x0
  refine Leaves.have x0 ?_ fun hx0 => ?_
  · unfold x0
    refine Leaves.step (State.wr_leaves ..) ?_ rfl rfl
    exact Leaves.step (State.wr_leaves ..) (Leaves.one (State.wr_leaves ..) rfl rfl) rfl rfl
  try clear_value x0
  extract_lets -merge +onlyGivenNames x1
  refine Leaves.have x1 ?_ fun hx1 => ?_
  · unfold x1
    exact Leaves.step (hostSync_leaves ..) (Leaves.step (hostSync_leaves ..) hx0 rfl rfl) rfl rfl
  try clear_value x1
  exact Leaves.ite (Leaves.step (Leaves.set_sto _ _) hx1 rfl rfl) hx1

theorem stepWmark_leaves (s : State) (ind : Nat) :
    Leaves [.ring, .sto, .int] [F.objINT_LATCH, F.objINT_STAT, F.objINT_STATE, F.objINT_STORMED, F.objPWR_PLAN,
      F.objREC_STAT] s (stepWmark s ind) := by
  unfold stepWmark
  extract_lets -merge +onlyGivenNames x0 x1
  try clear_value x0 x1
  exact Leaves.ite (Leaves.refl ..) (Leaves.step (planStep_leaves ..) (Leaves.one (putWmark_leaves ..) rfl rfl) rfl rfl)

theorem laneFreq_leaves (s : State) :
    Leaves [] [F.objCLK_STATUS] s (laneFreq s) := by
  unfold laneFreq
  exact Leaves.one (State.wr_leaves ..) rfl rfl

theorem putPlan_leaves (s : State) (i : Nat) (k : Nat) :
    Leaves [.ring, .sto, .int, .fld] [F.objAG_CONV, F.objANG_BOOST_PLAN, F.objCLK_STATUS, F.objDG_GSTAT, F.objINT_LATCH,
      F.objINT_STAT, F.objINT_STATE, F.objINT_STORMED, F.objPWR_PLAN, F.objREC_STAT, F.objSTO_STATUS] s (putPlan s i k) :=
      by
  unfold putPlan
  refine Leaves.ite ?_ ?_
  · exact Leaves.step (laneFreq_leaves ..) (Leaves.one (State.wr_leaves ..) rfl rfl) rfl rfl
  · refine Leaves.ite ?_ ?_
    · exact Leaves.step (State.wr_leaves ..) (Leaves.one (State.wr_leaves ..) rfl rfl) rfl rfl
    · refine Leaves.ite ?_ ?_
      · exact Leaves.one (putWmark_leaves ..) rfl rfl
      · refine Leaves.ite ?_ ?_
        · extract_lets -merge +onlyGivenNames x0 x1
          try clear_value x0
          refine Leaves.have x1 (by unfold x1; exact Leaves.one (State.wr_leaves ..) rfl rfl) fun hx1 => ?_
          try clear_value x1
          refine Leaves.step (boostPlan_leaves ..) ?_ rfl rfl
          refine Leaves.step (dgSync_leaves ..) ?_ rfl rfl
          exact Leaves.step (State.wr_leaves ..) (Leaves.step (settleBc_leaves ..) hx1 rfl rfl) rfl rfl
        · extract_lets -merge +onlyGivenNames x2
          try clear_value x2
          exact Leaves.step (State.wr_leaves ..) (Leaves.one (State.wr_leaves ..) rfl rfl) rfl rfl

theorem evalItem_leaves (s : State) (i : Nat) :
    Leaves [.ring, .sto, .int, .fld, .pwr] [F.objAG_CONV, F.objANG_BOOST_PLAN, F.objCLK_STATUS, F.objDG_GSTAT,
      F.objINT_LATCH, F.objINT_STAT, F.objINT_STATE, F.objINT_STORMED, F.objPWR_PLAN, F.objREC_STAT, F.objSTO_STATUS] s
      (evalItem s i) := by
  unfold evalItem
  split
  · exact Leaves.refl ..
  · extract_lets -merge +onlyGivenNames x0 x1 x2
    try clear_value x0 x1 x2
    split
    · extract_lets -merge +onlyGivenNames x3 x4
      try clear_value x3
      refine Leaves.have x4 (by unfold x4; exact Leaves.one (Leaves.set_pwr _ _) rfl rfl) fun hx4 => ?_
      try clear_value x4
      extract_lets -merge +onlyGivenNames x5 x6 x7
      try clear_value x5 x6
      refine Leaves.have x7 ?_ fun hx7 => ?_
      · unfold x7
        refine Leaves.ite ?_ ?_
        · exact Leaves.step (stepWmark_leaves ..) hx4 rfl rfl
        · refine Leaves.ite ?_ ?_
          · exact hx4
          · refine Leaves.ite ?_ ?_
            · exact Leaves.step (Leaves.set_pwr _ _) hx4 rfl rfl
            · exact Leaves.step (planStep_leaves ..) (Leaves.step (putPlan_leaves ..) hx4 rfl rfl) rfl rfl
      try clear_value x7
      refine Leaves.ite ?_ ?_
      · extract_lets -merge +onlyGivenNames x8
        refine Leaves.have x8 (by unfold x8; exact Leaves.step (State.wr_leaves ..) hx7 rfl rfl) fun hx8 => ?_
        try clear_value x8
        exact Leaves.ite hx8 (Leaves.step (setLatch_leaves ..) (Leaves.step (log_leaves ..) hx8 rfl rfl) rfl rfl)
      · exact hx7

theorem putForecast_leaves (s : State) (item : Nat) (w : Nat × Nat × Nat) (next end_ : Fld) :
    Leaves [.ring, .sto, .int] [next.obj, end_.obj, F.objINT_LATCH, F.objINT_STAT, F.objINT_STATE, F.objINT_STORMED,
      F.objPWR_PLAN, F.objREC_STAT] s (putForecast s item w next end_) := by
  have hw : ∀ (t : State) f v, f.obj ∈ [next.obj, end_.obj, F.objPWR_PLAN] → Leaves [.ring, .sto, .int] [next.obj, end_.obj,
      F.objINT_LATCH, F.objINT_STAT, F.objINT_STATE, F.objINT_STORMED, F.objPWR_PLAN, F.objREC_STAT] t (t.wr f v) :=
    fun t f v hf => (State.wr_leaves t f v 0).mono (by simp) (by
      intro x hx; simp only [List.mem_cons, List.not_mem_nil, or_false] at hx hf ⊢; subst hx; tauto)
  have h2 := (hw s next w.1 (by simp)).trans (hw _ end_ w.2.1 (by simp))
  have h3 := h2.trans (hw _ F.PWR_PLAN_FORECAST_WARN 1 (by simp; exact Or.inr (Or.inr rfl)))
  unfold putForecast
  refine Leaves.ite h2 (Leaves.ite h3 (h3.trans ?_))
  exact Leaves.trans ((log_leaves ..).mono (by simp) (by simp)) ((setLatch_leaves ..).mono (by simp) (by simp))

theorem forecasts_leaves (s : State) :
    Leaves [.ring, .sto, .int] [F.objINT_LATCH, F.objINT_STAT, F.objINT_STATE, F.objINT_STORMED, F.objPWR_FORECAST,
      F.objPWR_PLAN, F.objREC_STAT] s (forecasts s) := by
  unfold forecasts
  extract_lets -merge +onlyGivenNames x0
  extract_lets -merge +onlyGivenNames x1 x2 x3 x4 x5 x6 x7
  try clear_value x1 x2 x3 x4 x5 x6
  refine Leaves.have x7 (by unfold x7; exact Leaves.one (State.wr_leaves ..) rfl rfl) fun hx7 => ?_
  try clear_value x7
  extract_lets -merge +onlyGivenNames x8
  refine Leaves.have x8 (by unfold x8; exact Leaves.step (putForecast_leaves ..) hx7 rfl rfl) fun hx8 => ?_
  try clear_value x8
  extract_lets -merge +onlyGivenNames x9
  refine Leaves.have x9 (by unfold x9; exact Leaves.step (putForecast_leaves ..) hx8 rfl rfl) fun hx9 => ?_
  try clear_value x9
  extract_lets -merge +onlyGivenNames x10
  refine Leaves.have x10 (by unfold x10; exact Leaves.step (putForecast_leaves ..) hx9 rfl rfl) fun hx10 => ?_
  try clear_value x10
  exact Leaves.step (putForecast_leaves ..) hx10 rfl rfl

theorem writeEpoch_leaves (s : State) :
    Leaves [.sto, .pwr] [F.objSTO_STATUS] s (writeEpoch s) := by
  unfold writeEpoch
  refine Leaves.ite ?_ ?_
  · exact Leaves.one (Leaves.set_pwr _ _) rfl rfl
  · extract_lets -merge +onlyGivenNames x0 x1 x2
    try clear_value x0 x1
    refine Leaves.have x2 (by unfold x2; exact Leaves.one (writeRec_leaves ..) rfl rfl) fun hx2 => ?_
    try clear_value x2
    refine Leaves.step (Leaves.upd (ps := [.sto, .pwr]) (s := x2) rfl (by intro p hp; cases p <;> first | rfl | exact absurd (by decide) hp)) ?_ rfl rfl
    exact hx2

theorem endEpoch_leaves (s : State) :
    Leaves [.ring, .sto, .int, .fld, .pwr] [F.objAG_CONV, F.objANG_BOOST_PLAN, F.objCLK_STATUS, F.objDG_GSTAT,
      F.objINT_LATCH, F.objINT_STAT, F.objINT_STATE, F.objINT_STORMED, F.objPWR_FORECAST, F.objPWR_PLAN, F.objREC_STAT,
      F.objSTO_STATUS] s (endEpoch s) := by
  unfold endEpoch
  extract_lets -merge +onlyGivenNames x0
  refine Leaves.have x0 ?_ fun hx0 => ?_
  · unfold x0
    refine Leaves.transR (Leaves.foldl _ _ (fun y1 z1 _ => by
      exact Leaves.one (evalItem_leaves ..) rfl rfl
      ) _) ?_
    exact Leaves.one (State.wr_leaves ..) rfl rfl
  try clear_value x0
  extract_lets -merge +onlyGivenNames x2 x3 x4
  try clear_value x2 x3
  refine Leaves.have x4 (by unfold x4; exact Leaves.step (Leaves.set_pwr _ _) hx0 rfl rfl) fun hx4 => ?_
  try clear_value x4
  refine Leaves.step (forecasts_leaves ..) ?_ rfl rfl
  exact Leaves.step (writeEpoch_leaves ..) (Leaves.step (log_leaves ..) hx4 rfl rfl) rfl rfl

theorem enterRunRole_leaves (s : State) :
    Leaves [.ring, .sto, .int, .fld, .ana, .pair] [F.objAG_GSTAT, F.objDG_CHSTAT, F.objDG_GSTAT, F.objINT_STAT,
      F.objINT_STATE, F.objINT_STORMED, F.objPLT_PSTATE, F.objREC_STAT] s (enterRunRole s) := by
  unfold enterRunRole
  refine Leaves.ite ?_ ?_
  · exact Leaves.refl ..
  · refine Leaves.ite ?_ ?_
    · exact Leaves.refl ..
    · refine Leaves.ite ?_ ?_
      · exact Leaves.step (standbyOutputs_leaves ..) (Leaves.one (setRole_leaves ..) rfl rfl) rfl rfl
      · exact Leaves.step (updPair_leaves ..) (Leaves.one (standbyOutputs_leaves ..) rfl rfl) rfl rfl

theorem enumFrame_leaves {P : List Part} {O : List Nat} {m : Nat} {edit : State → List Nat → List Nat} {take : State →
  State}
    {f : RxFrame} {s : State} (h : ∀ t, Leaves P O t (take t)) (hp : [Part.ring].all (P.contains ·) = true)
    (ho : [F.objNRL_FSEQ_HIGH, F.objNRL_PORTA_ERR, F.objNRL_PORTA_LINK, F.objNRL_PORTB_ERR, F.objNRL_PORTB_LINK].all
      (O.contains ·) = true) : Leaves P O s (enumFrame m edit take f s) := by
  simp only [List.all_cons, List.all_nil, Bool.and_true, Bool.and_eq_true] at hp ho
  have hpass : Leaves P O s (pass s f) := Leaves.step (pass_leaves ..) (Leaves.refl ..) (by simpa using hp) (by simpa using ho.2)
  have hfw : Leaves P O s (forward (countFrame s f) f (edit s f.body) true) :=
    Leaves.step (forward_leaves ..) (Leaves.step (countFrame_leaves ..) (Leaves.refl ..) rfl (by simpa using ho.2))
      (by simpa using hp) rfl
  unfold enumFrame
  refine Leaves.ite (Leaves.refl ..) (Leaves.ite hpass (Leaves.ite hfw (Leaves.ite (hfw.trans ?_) (hfw.trans (h _)))))
  exact ackFlow_leaves (fun t => h t) (by simpa using hp) (by simpa using ho.1)

theorem enumTake_leaves (next : Nat) (s : State) :
    Leaves [.time, .ring, .sto, .int, .mbx, .img, .scn, .prg, .fld, .pair] [F.objANG_EV, F.objCLK_START, F.objINT_LATCH,
      F.objINT_STAT, F.objINT_STATE, F.objINT_STORMED, F.objMBX_QUEUES, F.objMBX_USE, F.objNRL_CTRL, F.objNRL_FSEQ_HIGH,
      F.objNRL_POS, F.objNRL_STATE, F.objPLT_PSTATE, F.objPRG_ACT, F.objREC_STAT, F.objSCN_MODE] s (enumTake next s) := by
  unfold enumTake
  extract_lets -merge +onlyGivenNames x0 x1 x2
  try clear_value x0 x1
  refine Leaves.have x2 ?_ fun hx2 => ?_
  · unfold x2
    exact Leaves.step (State.wr_leaves ..) (Leaves.one (Leaves.set_ring _ _) rfl rfl) rfl rfl
  try clear_value x2
  extract_lets -merge +onlyGivenNames x3
  refine Leaves.have x3 ?_ fun hx3 => ?_
  · unfold x3
    refine Leaves.ite ?_ ?_
    · refine Leaves.step (updPair_leaves ..) ?_ rfl rfl
      refine Leaves.step (State.wr_leaves ..) ?_ rfl rfl
      exact Leaves.step (State.wr_leaves ..) (Leaves.step (State.wr_leaves ..) hx2 rfl rfl) rfl rfl
    · refine Leaves.step (State.wr_leaves ..) ?_ rfl rfl
      exact Leaves.step (State.wr_leaves ..) (Leaves.step (State.wr_leaves ..) hx2 rfl rfl) rfl rfl
  try clear_value x3
  extract_lets -merge +onlyGivenNames x4
  refine Leaves.have x4 (by unfold x4; exact Leaves.step (State.wr_leaves ..) hx3 rfl rfl) fun hx4 => ?_
  try clear_value x4
  exact Leaves.ite (Leaves.step (stopLatching_leaves ..) hx4 rfl rfl) hx4

theorem epochEnd_leaves (s : State) :
    Leaves [.ring, .sto, .int, .fld, .pwr] [F.objAG_CONV, F.objANG_BOOST_PLAN, F.objCLK_STATUS, F.objDG_GSTAT,
      F.objINT_LATCH, F.objINT_STAT, F.objINT_STATE, F.objINT_STORMED, F.objPWR_FORECAST, F.objPWR_PLAN, F.objREC_STAT,
      F.objSTO_STATUS] s (epochEnd s) := by
  unfold epochEnd
  refine Leaves.ite ?_ ?_
  · exact Leaves.one (noEffect_leaves ..) rfl rfl
  · refine Leaves.ite ?_ ?_
    · exact Leaves.one (writeEpoch_leaves ..) rfl rfl
    · exact Leaves.ite (Leaves.one (endEpoch_leaves ..) rfl rfl) (Leaves.one (noEffect_leaves ..) rfl rfl)

theorem eventCommandSend_leaves (e : Nat) (s : State) :
    Leaves [.time, .ring, .sto, .int, .mbx, .img, .scn, .prg, .fld, .ana, .ang, .pair] [F.objAG_CONV, F.objANG_CAPPOS,
      F.objANG_EV, F.objANG_STATUS, F.objDG_CHSTAT, F.objDG_COS, F.objDG_GSTAT, F.objINT_LATCH, F.objINT_STAT,
      F.objINT_STATE, F.objINT_STORMED, F.objMBX_QUEUES, F.objMBX_USE, F.objPLT_PSTATE, F.objPPR_WINSTAT, F.objPRG_ACT,
      F.objREC_STAT, F.objSCN_MODE, F.objSCN_TSTAT] s (eventCommandSend e s) := by
  unfold eventCommandSend
  refine Leaves.ite ?_ ?_
  · exact Leaves.one (noEffect_leaves ..) rfl rfl
  · extract_lets -merge +onlyGivenNames x0
    try clear_value x0
    split
    · exact Leaves.one (noEffect_leaves ..) rfl rfl
    · refine Leaves.ite ?_ ?_
      · exact Leaves.one (noEffect_leaves ..) rfl rfl
      · split
        · exact Leaves.ite (Leaves.one (noEffect_leaves ..) rfl rfl) (Leaves.one (Leaves.set_ang _ _) rfl rfl)
        · extract_lets -merge +onlyGivenNames x1
          try clear_value x1
          refine Leaves.ite ?_ ?_
          · exact Leaves.one (fire_leaves ..) rfl rfl
          · exact Leaves.ite (Leaves.one (noEffect_leaves ..) rfl rfl) (Leaves.one (Leaves.set_ang _ _) rfl rfl)

theorem eventFire_leaves (e : Nat) (s : State) :
    Leaves [.time, .ring, .sto, .int, .mbx, .img, .scn, .prg, .fld, .ana, .ang, .pair] [F.objAG_CONV, F.objANG_CAPPOS,
      F.objANG_EV, F.objANG_STATUS, F.objDG_CHSTAT, F.objDG_COS, F.objDG_GSTAT, F.objINT_LATCH, F.objINT_STAT,
      F.objINT_STATE, F.objINT_STORMED, F.objMBX_QUEUES, F.objMBX_USE, F.objPLT_PSTATE, F.objPPR_WINSTAT, F.objPRG_ACT,
      F.objREC_STAT, F.objSCN_MODE, F.objSCN_TSTAT] s (eventFire e s) := by
  unfold eventFire
  split
  · exact Leaves.ite (Leaves.one (fire_leaves ..) rfl rfl) (Leaves.one (noEffect_leaves ..) rfl rfl)
  · exact Leaves.one (noEffect_leaves ..) rfl rfl

theorem haltCheck_leaves (s : State) :
    Leaves [.time, .ring, .sto, .int, .mbx, .img, .scn, .prg, .fld, .pair] [F.objANG_EV, F.objINT_LATCH, F.objINT_STAT,
      F.objINT_STATE, F.objINT_STORMED, F.objMBX_QUEUES, F.objMBX_USE, F.objPLT_PSTATE, F.objPRG_ACT, F.objREC_STAT,
      F.objSCN_MODE] s (haltCheck s) := by
  unfold haltCheck
  split
  · exact Leaves.refl ..
  · split
    · exact Leaves.refl ..
    · exact Leaves.ite (Leaves.step (enterFault_leaves ..) (Leaves.one (log_leaves ..) rfl rfl) rfl rfl) (Leaves.refl ..)

theorem laneStep_leaves (ok : Nat → Bool) (f : LaneFn) (s : State) (k : Nat) :
    Leaves [.scn] [] s (laneStep ok f s k) := by
  unfold laneStep
  split
  · exact Leaves.refl ..
  · refine Leaves.ite ?_ ?_
    · extract_lets -merge +onlyGivenNames x0
      try clear_value x0
      exact Leaves.one (Leaves.set_scn _ _) rfl rfl
    · exact Leaves.refl ..

theorem zenOn_leaves (ok : Nat → Bool) (f : LaneFn) (s : State) :
    Leaves [.time, .ring, .sto, .int, .mbx, .img, .scn, .prg, .fld, .pair] [F.objANG_EV, F.objINT_LATCH, F.objINT_STAT,
      F.objINT_STATE, F.objINT_STORMED, F.objMBX_QUEUES, F.objMBX_USE, F.objPLT_PSTATE, F.objPRG_ACT, F.objREC_STAT,
      F.objSCN_MODE] s (zenOn ok f s) := by
  unfold zenOn
  refine Leaves.ite ?_ ?_
  · refine Leaves.step (endCheck_leaves ..) ?_ rfl rfl
    refine Leaves.step (haltCheck_leaves ..) ?_ rfl rfl
    refine Leaves.step (laneStep_leaves ..) ?_ rfl rfl
    exact Leaves.step (laneStep_leaves ..) (Leaves.one (laneStep_leaves ..) rfl rfl) rfl rfl
  · exact Leaves.refl ..

theorem zen_leaves (i : Instr) (f : LaneFn) (s : State) :
    Leaves [.time, .ring, .sto, .int, .mbx, .img, .scn, .prg, .fld, .pair] [F.objANG_EV, F.objINT_LATCH, F.objINT_STAT,
      F.objINT_STATE, F.objINT_STORMED, F.objMBX_QUEUES, F.objMBX_USE, F.objPLT_PSTATE, F.objPRG_ACT, F.objREC_STAT,
      F.objSCN_MODE] s (zen i f s) := by
  unfold zen
  exact Leaves.one (zenOn_leaves ..) rfl rfl

theorem portClockDetect_leaves (p : Port) (s : State) :
    Leaves [.ring, .clk, .sto, .int] [F.objCLK_STATUS, F.objINT_LATCH, F.objINT_STAT, F.objINT_STATE, F.objINT_STORMED,
      F.objNRL_CTRL, F.objNRL_PORTA_LINK, F.objNRL_PORTB_LINK, F.objNRL_STATE, F.objREC_STAT] s (portClockDetect p s) :=
      by
  unfold portClockDetect
  extract_lets -merge +onlyGivenNames x0 x1 x2 x3
  try clear_value x0 x1 x2
  refine Leaves.have x3 (by unfold x3; exact Leaves.one (Leaves.set_clk _ _) rfl rfl) fun hx3 => ?_
  try clear_value x3
  extract_lets -merge +onlyGivenNames x4
  refine Leaves.have x4 (by unfold x4; exact Leaves.ite hx3 (Leaves.step (setRef_leaves ..) hx3 rfl rfl)) fun hx4 => ?_
  try clear_value x4
  exact Leaves.ite (Leaves.step (setPort_leaves ..) hx4 rfl rfl) hx4

theorem portTrained_leaves (p : Port) (s : State) :
    Leaves [.ring, .sto, .int] [F.objINT_LATCH, F.objINT_STAT, F.objINT_STATE, F.objINT_STORMED, F.objNRL_CTRL,
      F.objNRL_PORTA_LINK, F.objNRL_PORTB_LINK, F.objNRL_STATE, F.objREC_STAT] s (portTrained p s) := by
  unfold portTrained
  exact Leaves.ite (Leaves.one (setPort_leaves ..) rfl rfl) (Leaves.one (noEffect_leaves ..) rfl rfl)

theorem portFault_leaves (p : Port) (errors : Nat) (s : State) :
    Leaves [.ring, .sto, .int] [F.objINT_LATCH, F.objINT_STAT, F.objINT_STATE, F.objINT_STORMED, F.objNRL_CTRL,
      F.objNRL_PORTA_ERR, F.objNRL_PORTA_LINK, F.objNRL_PORTB_ERR, F.objNRL_PORTB_LINK, F.objNRL_STATE, F.objREC_STAT] s
      (portFault p errors s) := by
  unfold portFault
  refine Leaves.ite ?_ ?_
  · refine Leaves.step (setPort_leaves ..) ?_ rfl rfl
    refine Leaves.step (State.inc_leaves ..) ?_ rfl (by unfold Sys2Proof.Machine.codeErr; (try dsimp only); first | rfl | (simp only [List.all_cons, List.all_nil, Bool.and_true]; (repeat' split) <;> rfl))
    exact Leaves.refl ..
  · exact Leaves.one (noEffect_leaves ..) rfl rfl

theorem portQualify_leaves (p : Port) (s : State) :
    Leaves [.ring, .sto, .int] [F.objINT_LATCH, F.objINT_STAT, F.objINT_STATE, F.objINT_STORMED, F.objNRL_CTRL,
      F.objNRL_PORTA_LINK, F.objNRL_PORTB_LINK, F.objNRL_STATE, F.objREC_STAT] s (portQualify p s) := by
  unfold portQualify
  refine Leaves.ite ?_ ?_
  · extract_lets -merge +onlyGivenNames x0
    refine Leaves.have x0 (by unfold x0; exact Leaves.one (setPort_leaves ..) rfl rfl) fun hx0 => ?_
    try clear_value x0
    split
    · exact Leaves.step (Leaves.set_ring _ _) hx0 rfl rfl
    · exact Leaves.step (Leaves.set_ring _ _) hx0 rfl rfl
  · exact Leaves.one (noEffect_leaves ..) rfl rfl

theorem portReady_leaves (p : Port) (s : State) :
    Leaves [.ring, .sto, .int] [F.objINT_LATCH, F.objINT_STAT, F.objINT_STATE, F.objINT_STORMED, F.objNRL_CTRL,
      F.objNRL_PORTA_LINK, F.objNRL_PORTB_LINK, F.objNRL_STATE, F.objREC_STAT] s (portReady p s) := by
  unfold portReady
  exact Leaves.ite (Leaves.one (setPort_leaves ..) rfl rfl) (Leaves.one (noEffect_leaves ..) rfl rfl)

theorem unwrapNow_leaves (s : State) :
    Leaves [.ring, .sto, .int] [F.objCLK_STATUS, F.objINT_LATCH, F.objINT_STAT, F.objINT_STATE, F.objINT_STORMED,
      F.objNRL_CTRL, F.objNRL_PORTA_LINK, F.objNRL_PORTB_LINK, F.objNRL_STATE, F.objREC_STAT] s (unwrapNow s) := by
  unfold unwrapNow
  extract_lets -merge +onlyGivenNames x0
  have hx0 : ∀ w1_0 w1_5, Leaves [.ring, .sto, .int] [F.objCLK_STATUS, F.objINT_LATCH, F.objINT_STAT, F.objINT_STATE, F.objINT_STORMED, F.objNRL_CTRL, F.objNRL_PORTA_LINK, F.objNRL_PORTB_LINK, F.objNRL_STATE, F.objREC_STAT] w1_0 (x0 w1_0 w1_5) := by
    intro w1_0 w1_5
    unfold x0
    refine Leaves.ite ?_ ?_
    · exact Leaves.refl ..
    · refine Leaves.ite ?_ ?_
      · extract_lets -merge +onlyGivenNames x1
        refine Leaves.have x1 (by unfold x1; exact Leaves.one (setPort_leaves ..) rfl rfl) fun hx1 => ?_
        try clear_value x1
        exact Leaves.ite (Leaves.step (setRef_leaves ..) hx1 rfl rfl) hx1
      · exact Leaves.step (heal_leaves ..) (Leaves.one (State.wr_leaves ..) rfl rfl) rfl rfl
  try clear_value x0
  exact Leaves.transR (hx0 ..) (Leaves.transR (hx0 ..) (Leaves.one (Leaves.set_ring _ _) rfl rfl))

theorem unwrap_leaves (apply : Nat) (s : State) :
    Leaves [.ring, .sto, .int] [F.objCLK_STATUS, F.objINT_LATCH, F.objINT_STAT, F.objINT_STATE, F.objINT_STORMED,
      F.objNRL_CTRL, F.objNRL_PORTA_LINK, F.objNRL_PORTB_LINK, F.objNRL_STATE, F.objREC_STAT] s (unwrap apply s) := by
  unfold unwrap
  exact Leaves.ite (Leaves.one (unwrapNow_leaves ..) rfl rfl) (Leaves.one (Leaves.set_ring _ _) rfl rfl)

theorem unwrapApply_leaves (s : State) :
    Leaves [.ring, .sto, .int] [F.objCLK_STATUS, F.objINT_LATCH, F.objINT_STAT, F.objINT_STATE, F.objINT_STORMED,
      F.objNRL_CTRL, F.objNRL_PORTA_LINK, F.objNRL_PORTB_LINK, F.objNRL_STATE, F.objREC_STAT] s (unwrapApply s) := by
  unfold unwrapApply
  split
  · exact Leaves.ite (Leaves.one (unwrapNow_leaves ..) rfl rfl) (Leaves.one (noEffect_leaves ..) rfl rfl)
  · exact Leaves.one (noEffect_leaves ..) rfl rfl

theorem peerTake_leaves (s : State) (k : Nat) (part : List Nat) :
    Leaves [.img] [F.objIMG_STITCH] s (peerTake s k part) := by
  unfold peerTake
  extract_lets -merge +onlyGivenNames x0
  try clear_value x0
  refine Leaves.ite ?_ ?_
  · exact Leaves.one (State.inc_leaves ..) rfl rfl
  · extract_lets -merge +onlyGivenNames x1 x2 x3 x4
    try clear_value x1 x2 x3 x4
    refine Leaves.ite ?_ ?_
    · exact Leaves.refl ..
    · extract_lets -merge +onlyGivenNames x5 x6
      try clear_value x5 x6
      exact Leaves.one (Leaves.set_img _ _) rfl rfl

theorem peerOffer_leaves (s : State) (src : Nat) (part : List Nat) :
    Leaves [.img] [F.objIMG_STITCH] s (peerOffer s src part) := by
  unfold peerOffer
  refine Leaves.transR (Leaves.foldl _ _ (fun y0 z0 _ => by
    exact Leaves.ite (Leaves.one (peerTake_leaves ..) rfl rfl) (Leaves.refl ..)
    ) _) ?_
  exact Leaves.refl ..

theorem fillUp_leaves (s : State) (up : Nat) (n : Nat) :
    Leaves [] [F.objIMG_STATUS] s (fillUp s up n).2 := by
  unfold fillUp
  extract_lets -merge +onlyGivenNames x0 x1 x2 x3
  try clear_value x0 x1 x2
  refine Leaves.have x3.2 ?_ fun hx3 => ?_
  · unfold x3
    split
    · exact Leaves.refl ..
    · refine Leaves.ite2 ?_ ?_
      · exact Leaves.refl ..
      · refine Leaves.ite2 ?_ ?_
        · exact Leaves.refl ..
        · extract_lets -merge +onlyGivenNames x4
          try clear_value x4
          exact Leaves.ite (Leaves.one (State.wr_leaves ..) rfl rfl) (Leaves.refl ..)
  try clear_value x3
  exact hx3

theorem stageWrite_leaves (s : State) (e : StagedWrite) :
    Leaves [.img] [F.objIMG_STATUS] s (stageWrite s e) := by
  unfold stageWrite
  exact Leaves.step (stageRegs_leaves ..) (Leaves.one (Leaves.set_img _ _) rfl rfl) rfl rfl

theorem stageDown_leaves (s : State) (part : List Nat) (wc : Nat) :
    Leaves [.ring, .img] [F.objIMG_STATUS, F.objIMG_STITCH] s (stageDown s part wc) := by
  unfold stageDown
  extract_lets -merge +onlyGivenNames x0 x1
  try clear_value x0 x1
  split
  · exact Leaves.one (State.wr_leaves ..) rfl rfl
  · extract_lets -merge +onlyGivenNames x2 x3
    try clear_value x2 x3
    refine Leaves.ite ?_ ?_
    · exact Leaves.one (State.inc_leaves ..) rfl rfl
    · extract_lets -merge +onlyGivenNames x4
      refine Leaves.have x4 ?_ fun hx4 => ?_
      · unfold x4
        refine Leaves.transR (Leaves.foldl _ _ (fun y5 z5 _ => by
          exact Leaves.one (stageWrite_leaves ..) rfl rfl
          ) _) ?_
        exact Leaves.refl ..
      try clear_value x4
      exact Leaves.ite (Leaves.step (Leaves.set_ring _ _) hx4 rfl rfl) hx4

theorem takeDown_leaves (s : State) (body : List Nat) (off : Nat) (dn : Nat) (wc : Nat) :
    Leaves [.ring, .img] [F.objIMG_STATUS, F.objIMG_STITCH] s (takeDown s body off dn wc) := by
  unfold takeDown
  extract_lets -merge +onlyGivenNames x0 x1
  try clear_value x0
  refine Leaves.have x1 (by unfold x1; exact Leaves.one (Leaves.set_ring _ _) rfl rfl) fun hx1 => ?_
  try clear_value x1
  refine Leaves.ite ?_ ?_
  · exact hx1
  · extract_lets -merge +onlyGivenNames x2
    try clear_value x2
    exact Leaves.ite (Leaves.step (stageDown_leaves ..) hx1 rfl rfl) (Leaves.step (Leaves.set_ring _ _) hx1 rfl rfl)

theorem imageFrame_leaves (f : RxFrame) (s : State) :
    Leaves [.ring, .img] [F.objIMG_STATUS, F.objIMG_STITCH, F.objNRL_PORTA_ERR, F.objNRL_PORTA_LINK, F.objNRL_PORTB_ERR,
      F.objNRL_PORTB_LINK] s (imageFrame f s) := by
  unfold imageFrame
  refine Leaves.ite ?_ ?_
  · exact Leaves.refl ..
  · refine Leaves.ite ?_ ?_
    · exact Leaves.one (pass_leaves ..) rfl rfl
    · extract_lets -merge +onlyGivenNames x0 x1 x2 x3 x4 x5 x6
      try clear_value x0 x1 x2 x3 x4 x5
      refine Leaves.have x6 (by unfold x6; exact Leaves.one (countFrame_leaves ..) rfl rfl) fun hx6 => ?_
      try clear_value x6
      extract_lets -merge +onlyGivenNames x7
      refine Leaves.have x7 ?_ fun hx7 => ?_
      · unfold x7
        refine Leaves.transR (Leaves.foldl _ _ (fun y8 z8 _ => by
          exact Leaves.ite (Leaves.refl ..) (Leaves.one (peerOffer_leaves ..) rfl rfl)
          ) _) ?_
        exact hx6
      try clear_value x7
      refine Leaves.ite ?_ ?_
      · exact Leaves.step (forward_leaves ..) hx7 rfl rfl
      · extract_lets -merge +onlyGivenNames x9 x10
        try clear_value x9
        refine Leaves.have x10.2 (by unfold x10; exact Leaves.step (fillUp_leaves ..) hx7 rfl rfl) fun hx10 => ?_
        try clear_value x10
        extract_lets -merge +onlyGivenNames x11
        refine Leaves.have x11 (by unfold x11; exact Leaves.step (takeDown_leaves ..) hx10 rfl rfl) fun hx11 => ?_
        try clear_value x11
        extract_lets -merge +onlyGivenNames x12 x13
        try clear_value x12 x13
        exact Leaves.step (forward_leaves ..) hx11 rfl rfl

theorem takeSlots_leaves (s : State) (n : Nat) (usb : Bool) (b : List Nat) :
    Leaves [.ring, .sto, .int, .mbx] [F.objINT_STAT, F.objINT_STATE, F.objINT_STORMED, F.objMBX_QUEUES, F.objREC_STAT] s
      (takeSlots s n usb b) := by
  unfold takeSlots
  exact Leaves.step (queueRegs_leaves ..) (Leaves.one (Leaves.set_mbx _ _) rfl rfl) rfl rfl

theorem mbxw_leaves (f : RxFrame) (s : State) :
    Leaves [.ring, .sto, .int, .mbx] [F.objINT_STAT, F.objINT_STATE, F.objINT_STORMED, F.objMBX_QUEUES, F.objMBX_USE,
      F.objREC_STAT] s (mbxw f s).1 := by
  unfold mbxw
  extract_lets -merge +onlyGivenNames x0
  try clear_value x0
  refine Leaves.ite1 ?_ ?_
  · exact Leaves.refl ..
  · refine Leaves.ite1 ?_ ?_
    · exact Leaves.refl ..
    · extract_lets -merge +onlyGivenNames x1
      refine Leaves.have x1 (by unfold x1; exact Leaves.one (applyAck_leaves ..) rfl rfl) fun hx1 => ?_
      try clear_value x1
      exact Leaves.ite1 hx1 (Leaves.step (takeSlots_leaves ..) hx1 rfl rfl)

theorem nrlTime_leaves (apply : Nat) (value : Nat) (s : State) :
    Leaves [.time, .ring, .sto, .int, .rtc] [F.objINT_LATCH, F.objINT_STAT, F.objINT_STATE, F.objINT_STORMED,
      F.objREC_STAT] s (nrlTime apply value s) := by
  unfold nrlTime
  refine Leaves.ite ?_ ?_
  · exact Leaves.one (noEffect_leaves ..) rfl rfl
  · refine Leaves.ite ?_ ?_
    · exact Leaves.step (timeLink_leaves ..) (Leaves.one (setStation_leaves ..) rfl rfl) rfl rfl
    · exact Leaves.one (Leaves.set_ring _ _) rfl rfl

/-- The objects of the link register map. -/
def linkObjs : List Nat :=
  [F.objNRL_CINCH_CNT, F.objNRL_CINCH_DELAY_A, F.objNRL_CINCH_DELAY_B, F.objNRL_CINCH_ERR, F.objNRL_CTRL, F.objNRL_CYCLE,
    F.objNRL_FSEQ_HIGH, F.objNRL_ID, F.objNRL_PORTA_ERR, F.objNRL_PORTA_LINK, F.objNRL_PORTB_ERR, F.objNRL_PORTB_LINK,
    F.objNRL_POS, F.objNRL_PROBE_A, F.objNRL_PROBE_B, F.objNRL_PROBE_ID, F.objNRL_STATE, F.objNRL_TIME]

theorem linkReg_objs (a k : Nat) (d : ObjDef) (h : linkReg a = some (d, k)) :
    ∀ r ∈ d.fields, linkObjs.contains r.fld.obj = true := by
  unfold linkReg at h
  split at h <;> first | (simp only [Option.some.injEq, Prod.mk.injEq] at h; obtain ⟨rfl, -⟩ := h; decide) | exact absurd h (by simp)

theorem linkPut_leaves (s : State) (a w : Nat) : Leaves [] linkObjs s (linkPut s a w) := by
  unfold linkPut
  split
  · exact Leaves.refl ..
  · rename_i d k hd
    refine Leaves.foldl _ _ (fun y r hr => ?_) _
    have hm := linkReg_objs _ _ _ hd r hr
    have hw : ∀ v, Leaves [] linkObjs y (y.wr r.fld v) := fun v =>
      Leaves.step (State.wr_leaves ..) (Leaves.refl ..) rfl (by simpa using hm)
    split
    · exact hw _
    · exact Leaves.ite (Leaves.refl ..) (hw _)
    · exact Leaves.refl ..

theorem linkApply_leaves (s : State) (a : Nat) (ws : List Nat) :
    Leaves [.time, .ring, .sto, .int, .mbx, .img, .scn, .prg, .fld, .pair] [F.objANG_EV, F.objINT_LATCH, F.objINT_STAT,
      F.objINT_STATE, F.objINT_STORMED, F.objMBX_QUEUES, F.objMBX_USE, F.objNRL_CINCH_CNT, F.objNRL_CINCH_DELAY_A,
      F.objNRL_CINCH_DELAY_B, F.objNRL_CINCH_ERR, F.objNRL_CTRL, F.objNRL_CYCLE, F.objNRL_FSEQ_HIGH, F.objNRL_ID,
      F.objNRL_PORTA_ERR, F.objNRL_PORTA_LINK, F.objNRL_PORTB_ERR, F.objNRL_PORTB_LINK, F.objNRL_POS, F.objNRL_PROBE_A,
      F.objNRL_PROBE_B, F.objNRL_PROBE_ID, F.objNRL_STATE, F.objNRL_TIME, F.objPLT_PSTATE, F.objPRG_ACT, F.objREC_STAT,
      F.objSCN_MODE] s (linkApply s a ws) := by
  unfold linkApply
  extract_lets -merge +onlyGivenNames x0
  refine Leaves.have x0 ?_ fun hx0 => ?_
  · unfold x0
    refine Leaves.transR (Leaves.foldl _ _ (fun y1 z1 _ => by
      exact Leaves.one (linkPut_leaves ..) rfl rfl
      ) _) ?_
    exact Leaves.refl ..
  try clear_value x0
  extract_lets -merge +onlyGivenNames x2
  refine Leaves.have x2 (by unfold x2; exact Leaves.ite (Leaves.step (enterFault_leaves ..) hx0 rfl rfl) hx0) fun hx2 => ?_
  try clear_value x2
  exact Leaves.step (persistReg_leaves ..) hx2 rfl rfl

theorem mgmtPlace_leaves (s : State) (addr : Nat) (apply : Nat) (ws : List Nat) :
    Leaves [.time, .ring, .sto, .int, .mbx, .img, .scn, .prg, .fld, .pair, .rtc] [F.objANG_EV, F.objCLK_STATUS,
      F.objINT_LATCH, F.objINT_STAT, F.objINT_STATE, F.objINT_STORMED, F.objMBX_QUEUES, F.objMBX_USE, F.objNRL_CINCH_CNT,
      F.objNRL_CINCH_DELAY_A, F.objNRL_CINCH_DELAY_B, F.objNRL_CINCH_ERR, F.objNRL_CTRL, F.objNRL_CYCLE,
      F.objNRL_FSEQ_HIGH, F.objNRL_ID, F.objNRL_PORTA_ERR, F.objNRL_PORTA_LINK, F.objNRL_PORTB_ERR, F.objNRL_PORTB_LINK,
      F.objNRL_POS, F.objNRL_PROBE_A, F.objNRL_PROBE_B, F.objNRL_PROBE_ID, F.objNRL_STATE, F.objNRL_TIME, F.objPLT_PSTATE,
      F.objPRG_ACT, F.objREC_STAT, F.objSCN_MODE] s (mgmtPlace s addr apply ws) := by
  unfold mgmtPlace
  extract_lets -merge +onlyGivenNames x0 x1
  try clear_value x0
  refine Leaves.have x1 ?_ fun hx1 => ?_
  · unfold x1
    exact Leaves.ite (Leaves.one (nrlTime_leaves ..) rfl rfl) (Leaves.refl ..)
  try clear_value x1
  extract_lets -merge +onlyGivenNames x2
  refine Leaves.have x2 (by unfold x2; exact Leaves.ite (Leaves.step (unwrap_leaves ..) hx1 rfl rfl) hx1) fun hx2 => ?_
  try clear_value x2
  exact Leaves.ite (Leaves.step (linkApply_leaves ..) hx2 rfl rfl) (Leaves.step (Leaves.set_ring _ _) hx2 rfl rfl)

theorem mgmtWrite_leaves (body : List Nat) (s : State) :
    Leaves [.time, .ring, .sto, .int, .mbx, .img, .scn, .prg, .fld, .pair, .rtc] [F.objANG_EV, F.objCLK_STATUS,
      F.objINT_LATCH, F.objINT_STAT, F.objINT_STATE, F.objINT_STORMED, F.objMBX_QUEUES, F.objMBX_USE, F.objNRL_CINCH_CNT,
      F.objNRL_CINCH_DELAY_A, F.objNRL_CINCH_DELAY_B, F.objNRL_CINCH_ERR, F.objNRL_CTRL, F.objNRL_CYCLE,
      F.objNRL_FSEQ_HIGH, F.objNRL_ID, F.objNRL_PORTA_ERR, F.objNRL_PORTA_LINK, F.objNRL_PORTB_ERR, F.objNRL_PORTB_LINK,
      F.objNRL_POS, F.objNRL_PROBE_A, F.objNRL_PROBE_B, F.objNRL_PROBE_ID, F.objNRL_STATE, F.objNRL_TIME, F.objPLT_PSTATE,
      F.objPRG_ACT, F.objREC_STAT, F.objSCN_MODE] s (mgmtWrite body s).1 := by
  unfold mgmtWrite
  extract_lets -merge +onlyGivenNames x0 x1 x2
  try clear_value x0 x1 x2
  refine Leaves.ite1 ?_ ?_
  · exact Leaves.refl ..
  · extract_lets -merge +onlyGivenNames x3 x4
    try clear_value x3 x4
    exact Leaves.ite1 (Leaves.refl ..) (Leaves.ite1 (Leaves.refl ..) (Leaves.one (mgmtPlace_leaves ..) rfl rfl))

theorem linkRegApply_leaves (s : State) :
    Leaves [.time, .ring, .sto, .int, .mbx, .img, .scn, .prg, .fld, .pair] [F.objANG_EV, F.objINT_LATCH, F.objINT_STAT,
      F.objINT_STATE, F.objINT_STORMED, F.objMBX_QUEUES, F.objMBX_USE, F.objNRL_CINCH_CNT, F.objNRL_CINCH_DELAY_A,
      F.objNRL_CINCH_DELAY_B, F.objNRL_CINCH_ERR, F.objNRL_CTRL, F.objNRL_CYCLE, F.objNRL_FSEQ_HIGH, F.objNRL_ID,
      F.objNRL_PORTA_ERR, F.objNRL_PORTA_LINK, F.objNRL_PORTB_ERR, F.objNRL_PORTB_LINK, F.objNRL_POS, F.objNRL_PROBE_A,
      F.objNRL_PROBE_B, F.objNRL_PROBE_ID, F.objNRL_STATE, F.objNRL_TIME, F.objPLT_PSTATE, F.objPRG_ACT, F.objREC_STAT,
      F.objSCN_MODE] s (linkRegApply s) := by
  unfold linkRegApply
  extract_lets -merge +onlyGivenNames x0 x1 x2
  try clear_value x0 x1
  refine Leaves.have x2 (by unfold x2; exact Leaves.one (Leaves.set_ring _ _) rfl rfl) fun hx2 => ?_
  try clear_value x2
  refine Leaves.transR (Leaves.foldl _ _ (fun y3 z3 _ => by
    exact Leaves.one (linkApply_leaves ..) rfl rfl
    ) _) ?_
  exact hx2

theorem linkReg_clears (a k : Nat) (d : ObjDef) (h : linkReg a = some (d, k)) :
    ∀ r ∈ d.fields, r.acc = .rc → linkClears.contains r.fld.obj = true := by
  unfold linkReg at h
  split at h <;> first | (simp only [Option.some.injEq, Prod.mk.injEq] at h; obtain ⟨rfl, -⟩ := h; decide) | exact absurd h (by simp)

theorem linkRead_leaves (n : Nat) (s : State) (a : Nat) : Leaves [] linkClears s (linkRead n s a).2 := by
  induction n generalizing s a with
  | zero => exact Leaves.refl ..
  | succ n ih =>
    unfold linkRead
    split
    · exact ih s _
    · rename_i d k hd
      exact (clearRead_leaves s d 0 _ _ (linkReg_clears _ _ _ hd)).trans (ih _ _)

theorem mgmtRead_leaves (fseq : Nat) (body : List Nat) (s : State) :
    Leaves [.ring] [F.objNRL_CINCH_CNT, F.objNRL_CINCH_ERR, F.objNRL_PORTA_ERR, F.objNRL_PORTA_LINK, F.objNRL_PORTB_ERR,
      F.objNRL_PORTB_LINK] s (mgmtRead fseq body s).1 := by
  unfold mgmtRead
  extract_lets -merge +onlyGivenNames x0 x1
  try clear_value x0 x1
  refine Leaves.ite1 ?_ ?_
  · exact Leaves.refl ..
  · refine Leaves.ite1 ?_ ?_
    · exact Leaves.refl ..
    · extract_lets -merge +onlyGivenNames x2
      refine Leaves.have x2.2 (by unfold x2; exact Leaves.one (linkRead_leaves ..) rfl rfl) fun hx2 => ?_
      try clear_value x2
      exact Leaves.step (queueSub_leaves ..) hx2 rfl rfl

theorem peerEntries_leaves (k : Nat) (s : State) (b : List Nat) : Leaves [.img] [F.objIMG_STITCH] s (peerEntries k s b) :=
  by
  induction k generalizing s b with
  | zero => exact Leaves.refl ..
  | succ k ih => exact Leaves.ite (Leaves.refl ..) (Leaves.ite (Leaves.refl ..) ((peerOffer_leaves ..).trans (ih ..)))

theorem peerFrame_leaves (f : RxFrame) (s : State) :
    Leaves [.ring, .img] [F.objIMG_STITCH, F.objNRL_PORTA_ERR, F.objNRL_PORTA_LINK, F.objNRL_PORTB_ERR,
      F.objNRL_PORTB_LINK] s (peerFrame f s) := by
  unfold peerFrame
  refine Leaves.ite ?_ ?_
  · exact Leaves.refl ..
  · extract_lets -merge +onlyGivenNames x0 x1
    try clear_value x0
    refine Leaves.have x1 (by unfold x1; exact Leaves.one (pass_leaves ..) rfl rfl) fun hx1 => ?_
    try clear_value x1
    exact Leaves.ite (Leaves.step (peerEntries_leaves ..) hx1 rfl rfl) hx1

theorem substituteLatch_leaves (bad : Nat) (s : State) :
    Leaves [.time, .ring, .clk, .sto, .int, .mbx, .img, .scn, .prg, .fld, .ana, .ang, .plt, .pair, .rtc, .sec]
      [F.objAG_GSTAT, F.objANG_EV, F.objCLK_LOST_CYCLES, F.objCLK_START, F.objDG_CHSTAT, F.objDG_COS, F.objDG_GSTAT,
      F.objIMG_PINS, F.objIMG_STATUS, F.objINT_LATCH, F.objINT_STAT, F.objINT_STATE, F.objINT_STORMED, F.objMBX_QUEUES,
      F.objMBX_USE, F.objNRL_CINCH_CNT, F.objNRL_STATE, F.objPLT_COUNT, F.objPLT_LANE, F.objPLT_PSTATE, F.objPPR_WINSTAT,
      F.objPRG_ACT, F.objREC_STAT, F.objSCN_MODE, F.objSCN_TSTAT, F.objSEC_FW] s (substituteLatch bad s) := by
  unfold substituteLatch
  refine Leaves.ite ?_ ?_
  · extract_lets -merge +onlyGivenNames x0 x1 x2
    try clear_value x0 x1
    refine Leaves.have x2 (by unfold x2; exact Leaves.one (State.inc_leaves ..) rfl rfl) fun hx2 => ?_
    try clear_value x2
    extract_lets -merge +onlyGivenNames x3 x4
    try clear_value x3
    refine Leaves.have x4 (by unfold x4; exact Leaves.step (Leaves.set_ring _ _) hx2 rfl rfl) fun hx4 => ?_
    try clear_value x4
    exact Leaves.step (latchNow_leaves ..) (Leaves.step (Leaves.set_img _ _) hx4 rfl rfl) rfl rfl
  · exact Leaves.one (noEffect_leaves ..) rfl rfl

theorem localLatch_leaves (bad : Nat) (s : State) :
    Leaves [.time, .ring, .sto, .int, .mbx, .img, .scn, .prg, .fld, .ana, .ang, .plt, .pair] [F.objAG_GSTAT, F.objANG_EV,
      F.objDG_CHSTAT, F.objDG_COS, F.objDG_GSTAT, F.objIMG_STATUS, F.objINT_LATCH, F.objINT_STAT, F.objINT_STATE,
      F.objINT_STORMED, F.objMBX_QUEUES, F.objMBX_USE, F.objPLT_COUNT, F.objPLT_LANE, F.objPLT_PSTATE, F.objPRG_ACT,
      F.objREC_STAT, F.objSCN_MODE] s (localLatch bad s) := by
  unfold localLatch
  extract_lets -merge +onlyGivenNames x0
  try clear_value x0
  refine Leaves.ite ?_ ?_
  · exact Leaves.one (noEffect_leaves ..) rfl rfl
  · extract_lets -merge +onlyGivenNames x1 x2 x3
    try clear_value x1 x2
    refine Leaves.have x3 ?_ fun hx3 => ?_
    · unfold x3
      exact Leaves.step (boundaryPair_leaves ..) (Leaves.one (Leaves.set_ring _ _) rfl rfl) rfl rfl
    try clear_value x3
    exact Leaves.ite hx3 (Leaves.step (processReports_leaves ..) (Leaves.step (buildImage_leaves ..) hx3 rfl rfl) rfl rfl)

theorem probe_leaves (p : Port) (b0 : Nat) (b1 : Nat) (b2 : Nat) (check : Nat) (s : State) :
    Leaves [] [F.objNRL_PROBE_A, F.objNRL_PROBE_B, F.objNRL_PROBE_ID] s (probe p b0 b1 b2 check s) := by
  unfold probe
  refine Leaves.ite ?_ ?_
  · extract_lets -merge +onlyGivenNames x0
    try clear_value x0
    split
    · exact Leaves.step (State.wr_leaves ..) (Leaves.one (State.wr_leaves ..) rfl rfl) rfl rfl
    · exact Leaves.step (State.wr_leaves ..) (Leaves.one (State.wr_leaves ..) rfl rfl) rfl rfl
  · exact Leaves.one (noEffect_leaves ..) rfl rfl

theorem heardPartner_leaves (s : State) :
    Leaves [.pair] [F.objPLT_PSTATE] s (heardPartner s) := by
  unfold heardPartner
  exact Leaves.step (State.wr_leaves ..) (Leaves.one (updPair_leaves ..) rfl rfl) rfl rfl

theorem judgePartner_leaves (s : State) :
    Leaves [.ring, .sto, .int, .fld, .ana, .pair] [F.objAG_GSTAT, F.objDG_CHSTAT, F.objDG_GSTAT, F.objINT_LATCH,
      F.objINT_STAT, F.objINT_STATE, F.objINT_STORMED, F.objPLT_PSTATE, F.objREC_STAT] s (judgePartner s) := by
  unfold judgePartner
  extract_lets -merge +onlyGivenNames x0
  refine Leaves.have x0 ?_ fun hx0 => ?_
  · unfold x0
    exact Leaves.ite (Leaves.one (conflict_leaves ..) rfl rfl) (Leaves.refl ..)
  try clear_value x0
  extract_lets -merge +onlyGivenNames x1 x2
  try clear_value x1
  refine Leaves.have x2 ?_ fun hx2 => ?_
  · unfold x2
    exact Leaves.ite (Leaves.ite (Leaves.step (setYield_leaves ..) hx0 rfl rfl) hx0) (Leaves.refl ..)
  try clear_value x2
  extract_lets -merge +onlyGivenNames x3
  refine Leaves.have x3 (by unfold x3; exact Leaves.ite (Leaves.step (updPair_leaves ..) hx2 rfl rfl) hx2) fun hx3 => ?_
  try clear_value x3
  extract_lets -merge +onlyGivenNames x4
  refine Leaves.have x4 ?_ fun hx4 => ?_
  · unfold x4
    exact Leaves.ite (Leaves.step (standbyOutputs_leaves ..) (Leaves.step (setRole_leaves ..) hx3 rfl rfl) rfl rfl) hx3
  try clear_value x4
  refine Leaves.ite ?_ ?_
  · extract_lets -merge +onlyGivenNames x5
    refine Leaves.have x5 (by unfold x5; exact Leaves.step (updPair_leaves ..) hx4 rfl rfl) fun hx5 => ?_
    try clear_value x5
    exact Leaves.step (claim_leaves ..) hx5 rfl rfl
  · exact hx4

theorem pairbeatReceive_leaves (p : Port) (b0 : Nat) (b1 : Nat) (b2 : Nat) (check : Nat) (s : State) :
    Leaves [.time, .ring, .sto, .int, .mbx, .img, .scn, .prg, .fld, .ana, .pair, .free] [F.objAG_GSTAT, F.objANG_EV,
      F.objDG_CHSTAT, F.objDG_COS, F.objDG_GSTAT, F.objINT_LATCH, F.objINT_STAT, F.objINT_STATE, F.objINT_STORMED,
      F.objMBX_QUEUES, F.objMBX_USE, F.objPLT_PSTATE, F.objPPR_WINSTAT, F.objPRG_ACT, F.objPRG_BANKA, F.objPRG_BANKB,
      F.objREC_STAT, F.objSCN_MODE, F.objSCN_RETAIN, F.objSCN_T, F.objSCN_TSTAT] s (pairbeatReceive p b0 b1 b2 check s) :=
      by
  unfold pairbeatReceive
  refine Leaves.ite ?_ ?_
  · exact Leaves.one (noEffect_leaves ..) rfl rfl
  · extract_lets -merge +onlyGivenNames x0
    refine Leaves.have x0 (by unfold x0; exact Leaves.one (heardPartner_leaves ..) rfl rfl) fun hx0 => ?_
    try clear_value x0
    extract_lets -merge +onlyGivenNames x1
    refine Leaves.have x1 ?_ fun hx1 => ?_
    · unfold x1
      exact Leaves.step (State.wr_leaves ..) (Leaves.step (State.wr_leaves ..) hx0 rfl rfl) rfl rfl
    try clear_value x1
    extract_lets -merge +onlyGivenNames x2
    refine Leaves.have x2 (by unfold x2; exact Leaves.step (State.wr_leaves ..) hx1 rfl rfl) fun hx2 => ?_
    try clear_value x2
    extract_lets -merge +onlyGivenNames x3
    refine Leaves.have x3 (by unfold x3; exact Leaves.step (updPair_leaves ..) hx2 rfl rfl) fun hx3 => ?_
    try clear_value x3
    refine Leaves.step (refreshPair_leaves ..) ?_ rfl rfl
    exact Leaves.step (beatEvent_leaves ..) (Leaves.step (judgePartner_leaves ..) hx3 rfl rfl) rfl rfl

theorem pairbeatSend_leaves (s : State) :
    Leaves [.pair] [F.objPLT_PSTATE] s (pairbeatSend s) := by
  unfold pairbeatSend
  refine Leaves.ite ?_ ?_
  · exact Leaves.one (noEffect_leaves ..) rfl rfl
  · extract_lets -merge +onlyGivenNames x0
    refine Leaves.have x0 (by unfold x0; exact Leaves.one (refreshPair_leaves ..) rfl rfl) fun hx0 => ?_
    try clear_value x0
    extract_lets -merge +onlyGivenNames x1
    try clear_value x1
    exact Leaves.step (updPair_leaves ..) hx0 rfl rfl

theorem portsDown_leaves (s : State) :
    Leaves [.ring, .sto, .int] [F.objINT_LATCH, F.objINT_STAT, F.objINT_STATE, F.objINT_STORMED, F.objNRL_CTRL,
      F.objNRL_PORTA_LINK, F.objNRL_PORTB_LINK, F.objNRL_STATE, F.objREC_STAT] s (portsDown s) := by
  unfold portsDown
  extract_lets -merge +onlyGivenNames x0
  refine Leaves.have x0 (by unfold x0; exact Leaves.one (setPort_leaves ..) rfl rfl) fun hx0 => ?_
  try clear_value x0
  exact Leaves.ite hx0 (Leaves.step (setPort_leaves ..) hx0 rfl rfl)

theorem lostLink_leaves (s : State) :
    Leaves [.ring] [F.objCLK_START, F.objNRL_STATE, F.objSCN_MODE] s (lostLink s) := by
  unfold lostLink
  extract_lets -merge +onlyGivenNames x0
  refine Leaves.have x0 (by unfold x0; exact Leaves.one (State.wr_leaves ..) rfl rfl) fun hx0 => ?_
  try clear_value x0
  extract_lets -merge +onlyGivenNames x1
  refine Leaves.have x1 (by unfold x1; exact Leaves.step (State.wr_leaves ..) hx0 rfl rfl) fun hx1 => ?_
  try clear_value x1
  extract_lets -merge +onlyGivenNames x2 x3
  try clear_value x2
  refine Leaves.have x3 (by unfold x3; exact Leaves.step (Leaves.set_ring _ _) hx1 rfl rfl) fun hx3 => ?_
  try clear_value x3
  exact Leaves.step (persistReg_leaves ..) hx3 rfl rfl

theorem loseLclk_leaves (missed : Bool) (s : State) :
    Leaves [.time, .ring, .clk, .sto, .int, .mbx, .ana, .free] [F.objAG_CS, F.objCLK_EVENTS, F.objCLK_START,
      F.objCLK_STATUS, F.objINT_LATCH, F.objINT_STAT, F.objINT_STATE, F.objINT_STORMED, F.objNRL_CTRL,
      F.objNRL_PORTA_LINK, F.objNRL_PORTB_LINK, F.objNRL_STATE, F.objREC_STAT, F.objSCN_MODE] s (loseLclk missed s) := by
  unfold loseLclk
  refine Leaves.ite ?_ ?_
  · exact Leaves.one (noEffect_leaves ..) rfl rfl
  · extract_lets -merge +onlyGivenNames x0
    refine Leaves.have x0 (by unfold x0; exact Leaves.one (clockEvent_leaves ..) rfl rfl) fun hx0 => ?_
    try clear_value x0
    extract_lets -merge +onlyGivenNames x1
    refine Leaves.have x1 (by unfold x1; exact Leaves.ite (Leaves.step (clockEvent_leaves ..) hx0 rfl rfl) hx0) fun hx1 => ?_
    try clear_value x1
    extract_lets -merge +onlyGivenNames x2 x3
    try clear_value x2
    refine Leaves.have x3 ?_ fun hx3 => ?_
    · unfold x3
      refine Leaves.step (closeLink_leaves ..) ?_ rfl rfl
      refine Leaves.step (closeEvent_leaves ..) ?_ rfl rfl
      exact Leaves.step (closeSys_leaves ..) (Leaves.step (closeLane_leaves ..) hx1 rfl rfl) rfl rfl
    try clear_value x3
    extract_lets -merge +onlyGivenNames x4
    refine Leaves.have x4 ?_ fun hx4 => ?_
    · unfold x4
      exact Leaves.step (portsDown_leaves ..) (Leaves.step (lostLink_leaves ..) hx3 rfl rfl) rfl rfl
    try clear_value x4
    extract_lets -merge +onlyGivenNames x5
    refine Leaves.have x5 ?_ fun hx5 => ?_
    · unfold x5
      refine Leaves.transR (Leaves.foldl _ _ (fun y6 z6 _ => by
        exact Leaves.one (abandonCal_leaves ..) rfl rfl
        ) _) ?_
      exact hx4
    try clear_value x5
    refine Leaves.step (beginBridge_leaves ..) ?_ rfl rfl
    refine Leaves.step (Leaves.upd (ps := [.ring, .clk]) (s := x5) rfl (by intro p hp; cases p <;> first | rfl | exact absurd (by decide) hp)) ?_ rfl rfl
    exact hx5

theorem parkedBridge_leaves (s : State) :
    Leaves [.time, .ring, .clk, .sto, .int, .ana, .free] [F.objAG_CS, F.objCLK_STATUS, F.objINT_LATCH, F.objINT_STAT,
      F.objINT_STATE, F.objINT_STORMED, F.objNRL_CTRL, F.objNRL_PORTA_LINK, F.objNRL_PORTB_LINK, F.objNRL_STATE,
      F.objREC_STAT] s (parkedBridge s) := by
  unfold parkedBridge
  extract_lets -merge +onlyGivenNames x0
  refine Leaves.have x0 ?_ fun hx0 => ?_
  · unfold x0
    exact Leaves.step (closeLink_leaves ..) (Leaves.one (closeEvent_leaves ..) rfl rfl) rfl rfl
  try clear_value x0
  extract_lets -merge +onlyGivenNames x1
  have hx1 : ∀ w2_0 w2_5, Leaves [.time, .ring, .clk, .sto, .int, .ana, .free] [F.objAG_CS, F.objCLK_STATUS, F.objINT_LATCH, F.objINT_STAT, F.objINT_STATE, F.objINT_STORMED, F.objNRL_CTRL, F.objNRL_PORTA_LINK, F.objNRL_PORTB_LINK, F.objNRL_STATE, F.objREC_STAT] w2_0 (x1 w2_0 w2_5) := by
    intro w2_0 w2_5
    unfold x1
    exact Leaves.ite (Leaves.one (setPort_leaves ..) rfl rfl) (Leaves.refl ..)
  try clear_value x1
  extract_lets -merge +onlyGivenNames x2
  refine Leaves.have x2 (by unfold x2; exact Leaves.transR (hx1 ..) (Leaves.transR (hx1 ..) hx0)) fun hx2 => ?_
  try clear_value x2
  refine Leaves.step (beginBridge_leaves ..) ?_ rfl rfl
  refine Leaves.transR (Leaves.foldl _ _ (fun y3 z3 _ => by
    exact Leaves.one (abandonCal_leaves ..) rfl rfl
    ) _) ?_
  exact hx2

theorem pllLost_leaves (pll : Nat) (s : State) :
    Leaves [.time, .ring, .clk, .sto, .int, .mbx, .ana, .free] [F.objAG_CS, F.objCLK_EVENTS, F.objCLK_START,
      F.objCLK_STATUS, F.objINT_LATCH, F.objINT_STAT, F.objINT_STATE, F.objINT_STORMED, F.objNRL_CTRL,
      F.objNRL_PORTA_LINK, F.objNRL_PORTB_LINK, F.objNRL_STATE, F.objREC_STAT, F.objSCN_MODE] s (pllLost pll s) := by
  unfold pllLost
  split
  · refine Leaves.ite ?_ ?_
    · exact Leaves.one (noEffect_leaves ..) rfl rfl
    · extract_lets -merge +onlyGivenNames x0
      refine Leaves.have x0 (by unfold x0; exact Leaves.one (clockEvent_leaves ..) rfl rfl) fun hx0 => ?_
      try clear_value x0
      exact Leaves.ite (Leaves.step (parkedBridge_leaves ..) hx0 rfl rfl) (Leaves.step (loseLclk_leaves ..) hx0 rfl rfl)
  · refine Leaves.ite ?_ ?_
    · exact Leaves.step (closeLane_leaves ..) (Leaves.one (clockEvent_leaves ..) rfl rfl) rfl rfl
    · exact Leaves.one (noEffect_leaves ..) rfl rfl
  · refine Leaves.ite ?_ ?_
    · refine Leaves.step (closeEvent_leaves ..) ?_ rfl rfl
      exact Leaves.step (closeSys_leaves ..) (Leaves.one (clockEvent_leaves ..) rfl rfl) rfl rfl
    · exact Leaves.one (noEffect_leaves ..) rfl rfl
  · exact Leaves.one (noEffect_leaves ..) rfl rfl

theorem judgeWindow_leaves (lclk : Nat) (link : Nat) (lane : Nat) (sys : Nat) (s : State) :
    Leaves [.time, .ring, .clk, .sto, .int, .mbx, .ana, .free] [F.objAG_CS, F.objCLK_EVENTS, F.objCLK_START,
      F.objCLK_STATUS, F.objINT_LATCH, F.objINT_STAT, F.objINT_STATE, F.objINT_STORMED, F.objNRL_CTRL,
      F.objNRL_PORTA_LINK, F.objNRL_PORTB_LINK, F.objNRL_STATE, F.objREC_STAT, F.objSCN_MODE] s (judgeWindow lclk link
      lane sys s) := by
  unfold judgeWindow
  extract_lets -merge +onlyGivenNames x0
  try clear_value x0
  refine Leaves.ite ?_ ?_
  · exact Leaves.one (noEffect_leaves ..) rfl rfl
  · refine Leaves.ite ?_ ?_
    · split
      · extract_lets -merge +onlyGivenNames x1
        refine Leaves.have x1 ?_ fun hx1 => ?_
        · unfold x1
          exact Leaves.ite (Leaves.one (clockEvent_leaves ..) rfl rfl) (Leaves.refl ..)
        try clear_value x1
        refine Leaves.step (laneFreq_leaves ..) ?_ rfl rfl
        exact Leaves.step (State.wr_leaves ..) (Leaves.step (State.wr_leaves ..) hx1 rfl rfl) rfl rfl
      · extract_lets -merge +onlyGivenNames x2
        refine Leaves.have x2 ?_ fun hx2 => ?_
        · unfold x2
          exact Leaves.step (clockEvent_leaves ..) (Leaves.one (portsDown_leaves ..) rfl rfl) rfl rfl
        try clear_value x2
        exact Leaves.ite hx2 (Leaves.step (State.wr_leaves ..) hx2 rfl rfl)
    · refine Leaves.ite ?_ ?_
      · extract_lets -merge +onlyGivenNames x3 x4 x5 x6 x7
        try clear_value x3 x4 x5 x6
        refine Leaves.have x7 (by unfold x7; exact Leaves.one (Leaves.set_clk _ _) rfl rfl) fun hx7 => ?_
        try clear_value x7
        refine Leaves.ite ?_ ?_
        · exact Leaves.step (loseLclk_leaves ..) hx7 rfl rfl
        · extract_lets -merge +onlyGivenNames x8
          refine Leaves.have x8 ?_ fun hx8 => ?_
          · unfold x8
            exact Leaves.ite (Leaves.step (pllLost_leaves ..) hx7 rfl rfl) hx7
          try clear_value x8
          extract_lets -merge +onlyGivenNames x9
          refine Leaves.have x9 ?_ fun hx9 => ?_
          · unfold x9
            exact Leaves.ite (Leaves.step (pllLost_leaves ..) hx8 rfl rfl) hx8
          try clear_value x9
          exact Leaves.ite (Leaves.step (pllLost_leaves ..) hx9 rfl rfl) hx9
      · exact Leaves.one (noEffect_leaves ..) rfl rfl

theorem refSwitch_leaves (s : State) :
    Leaves [.ring, .clk, .sto, .int] [F.objCLK_EVENTS, F.objCLK_STATUS, F.objINT_LATCH, F.objINT_STAT, F.objINT_STATE,
      F.objINT_STORMED, F.objNRL_STATE, F.objREC_STAT] s (refSwitch s) := by
  unfold refSwitch
  extract_lets -merge +onlyGivenNames x0 x1
  try clear_value x0 x1
  refine Leaves.ite ?_ ?_
  · exact Leaves.one (noEffect_leaves ..) rfl rfl
  · extract_lets -merge +onlyGivenNames x2 x3 x4
    try clear_value x2 x3 x4
    refine Leaves.step (clockEvent_leaves ..) ?_ rfl rfl
    exact Leaves.step (setRef_leaves ..) (Leaves.one (Leaves.set_clk _ _) rfl rfl) rfl rfl

theorem lclkLoss_leaves (s : State) :
    Leaves [.time, .ring, .clk, .sto, .int, .mbx, .ana, .free] [F.objAG_CS, F.objCLK_EVENTS, F.objCLK_START,
      F.objCLK_STATUS, F.objINT_LATCH, F.objINT_STAT, F.objINT_STATE, F.objINT_STORMED, F.objNRL_CTRL,
      F.objNRL_PORTA_LINK, F.objNRL_PORTB_LINK, F.objNRL_STATE, F.objREC_STAT, F.objSCN_MODE] s (lclkLoss s) := by
  unfold lclkLoss
  extract_lets -merge +onlyGivenNames x0 x1
  try clear_value x0
  refine Leaves.have x1 (by unfold x1; exact Leaves.one (Leaves.set_clk _ _) rfl rfl) fun hx1 => ?_
  try clear_value x1
  exact Leaves.ite (Leaves.step (parkedBridge_leaves ..) hx1 rfl rfl) (Leaves.step (loseLclk_leaves ..) hx1 rfl rfl)

theorem firstGates_leaves (s : State) :
    Leaves [.time, .ring, .clk, .sto, .int, .fld] [F.objCLK_STATUS, F.objINT_LATCH, F.objINT_STAT, F.objINT_STATE,
      F.objINT_STORMED, F.objNRL_CTRL, F.objNRL_PORTA_LINK, F.objNRL_PORTB_LINK, F.objNRL_STATE, F.objREC_STAT] s
      (firstGates s) := by
  unfold firstGates
  extract_lets -merge +onlyGivenNames x0 x1
  try clear_value x0
  refine Leaves.have x1 ?_ fun hx1 => ?_
  · unfold x1
    exact Leaves.step (setStation_leaves ..) (Leaves.one (Leaves.set_time _ _) rfl rfl) rfl rfl
  try clear_value x1
  extract_lets -merge +onlyGivenNames x2
  refine Leaves.have x2 (by unfold x2; exact Leaves.step (State.wr_leaves ..) hx1 rfl rfl) fun hx2 => ?_
  try clear_value x2
  extract_lets -merge +onlyGivenNames x3 x4 x5
  try clear_value x3 x4
  refine Leaves.have x5 ?_ fun hx5 => ?_
  · unfold x5
    refine Leaves.step (Leaves.upd (ps := [.clk, .fld]) (s := x2) rfl (by intro p hp; cases p <;> first | rfl | exact absurd (by decide) hp)) ?_ rfl rfl
    exact hx2
  try clear_value x5
  exact Leaves.step (portsTrain_leaves ..) (Leaves.step (log_leaves ..) hx5 rfl rfl) rfl rfl

theorem pllGatesOpen_leaves (pll : Nat) (s : State) :
    Leaves [.time, .ring, .clk, .sto, .int, .mbx, .img, .scn, .prg, .fld, .ana, .ang, .pair, .free] [F.objANG_CAPPOS,
      F.objANG_EV, F.objANG_PERIOD, F.objANG_STATUS, F.objCLK_EVENTS, F.objCLK_PARK_TIME, F.objCLK_STATUS, F.objDG_CHSTAT,
      F.objDG_GSTAT, F.objINT_LATCH, F.objINT_STAT, F.objINT_STATE, F.objINT_STORMED, F.objMBX_QUEUES, F.objMBX_USE,
      F.objNRL_CTRL, F.objNRL_PORTA_LINK, F.objNRL_PORTB_LINK, F.objNRL_STATE, F.objPLT_PSTATE, F.objPPR_STAT,
      F.objPRG_ACT, F.objREC_STAT, F.objSCN_MODE] s (pllGatesOpen pll s) := by
  unfold pllGatesOpen
  extract_lets -merge +onlyGivenNames x0
  try clear_value x0
  split
  · exact Leaves.ite (Leaves.one (openLane_leaves ..) rfl rfl) (Leaves.one (noEffect_leaves ..) rfl rfl)
  · refine Leaves.ite ?_ ?_
    · exact Leaves.step (openEvent_leaves ..) (Leaves.one (openSys_leaves ..) rfl rfl) rfl rfl
    · exact Leaves.one (noEffect_leaves ..) rfl rfl
  · refine Leaves.ite ?_ ?_
    · exact Leaves.one (noEffect_leaves ..) rfl rfl
    · exact Leaves.ite (Leaves.one (bridgeGates_leaves ..) rfl rfl) (Leaves.one (firstGates_leaves ..) rfl rfl)
  · exact Leaves.one (noEffect_leaves ..) rfl rfl

theorem holdStation_leaves (s : State) :
    Leaves [.time] [] s (holdStation s) := by
  unfold holdStation
  exact Leaves.one (Leaves.set_time _ _) rfl rfl

theorem park_leaves (s : State) :
    Leaves [.time, .ring, .clk, .sto, .int, .mbx] [F.objCLK_EVENTS, F.objCLK_START, F.objCLK_STATUS, F.objINT_LATCH,
      F.objINT_STAT, F.objINT_STATE, F.objINT_STORMED, F.objNRL_STATE, F.objREC_STAT, F.objSCN_MODE] s (park s) := by
  unfold park
  split
  · exact Leaves.one (noEffect_leaves ..) rfl rfl
  · refine Leaves.ite ?_ ?_
    · exact Leaves.one (noEffect_leaves ..) rfl rfl
    · extract_lets -merge +onlyGivenNames x0 x1
      try clear_value x0
      refine Leaves.have x1 (by unfold x1; exact Leaves.one (clockEvent_leaves ..) rfl rfl) fun hx1 => ?_
      try clear_value x1
      extract_lets -merge +onlyGivenNames x2
      refine Leaves.have x2 ?_ fun hx2 => ?_
      · unfold x2
        refine Leaves.step (holdStation_leaves ..) ?_ rfl rfl
        exact Leaves.step (closeSys_leaves ..) (Leaves.step (closeLane_leaves ..) hx1 rfl rfl) rfl rfl
      try clear_value x2
      extract_lets -merge +onlyGivenNames x3 x4
      try clear_value x3
      refine Leaves.have x4 ?_ fun hx4 => ?_
      · unfold x4
        exact Leaves.step (lostLink_leaves ..) (Leaves.step (Leaves.set_ring _ _) hx2 rfl rfl) rfl rfl
      try clear_value x4
      exact Leaves.step (State.wr_leaves ..) (Leaves.step (Leaves.set_clk _ _) hx4 rfl rfl) rfl rfl

theorem takeLaneStep_leaves (s : State) (k : Nat) :
    Leaves [.ring, .sto, .int, .pwr] [F.objCLK_STATUS, F.objINT_LATCH, F.objINT_STAT, F.objINT_STATE, F.objINT_STORMED,
      F.objPWR_PLAN, F.objREC_STAT] s (takeLaneStep s k) := by
  unfold takeLaneStep
  extract_lets -merge +onlyGivenNames x0 x1 x2
  try clear_value x0 x1
  refine Leaves.have x2 ?_ fun hx2 => ?_
  · unfold x2
    exact Leaves.ite (Leaves.one (State.wr_leaves ..) rfl rfl) (Leaves.refl ..)
  try clear_value x2
  extract_lets -merge +onlyGivenNames x3 x4
  try clear_value x3
  refine Leaves.have x4 (by unfold x4; exact Leaves.step (Leaves.set_pwr _ _) hx2 rfl rfl) fun hx4 => ?_
  try clear_value x4
  extract_lets -merge +onlyGivenNames x5
  refine Leaves.have x5 ?_ fun hx5 => ?_
  · unfold x5
    refine Leaves.step (laneFreq_leaves ..) ?_ rfl rfl
    exact Leaves.step (State.wr_leaves ..) (Leaves.step (State.wr_leaves ..) hx4 rfl rfl) rfl rfl
  try clear_value x5
  exact Leaves.step (setLatch_leaves ..) (Leaves.step (log_leaves ..) hx5 rfl rfl) rfl rfl

theorem laneStepChange_leaves (s : State) :
    Leaves [.ring, .sto, .int, .pwr] [F.objCLK_STATUS, F.objINT_LATCH, F.objINT_STAT, F.objINT_STATE, F.objINT_STORMED,
      F.objPWR_PLAN, F.objREC_STAT] s (laneStepChange s) := by
  unfold laneStepChange
  split
  · exact Leaves.one (noEffect_leaves ..) rfl rfl
  · extract_lets -merge +onlyGivenNames x0
    try clear_value x0
    refine Leaves.ite ?_ ?_
    · exact Leaves.one (noEffect_leaves ..) rfl rfl
    · refine Leaves.ite ?_ ?_
      · refine Leaves.ite ?_ ?_
        · exact Leaves.one (noEffect_leaves ..) rfl rfl
        · split
          · exact Leaves.one (deferStep_leaves ..) rfl rfl
          · exact Leaves.one (takeLaneStep_leaves ..) rfl rfl
      · exact Leaves.one (takeLaneStep_leaves ..) rfl rfl

theorem oscStop_leaves (s : State) :
    Leaves [.ring, .sto, .int, .rtc] [F.objCLK_STATUS, F.objINT_LATCH, F.objINT_STAT, F.objINT_STATE, F.objINT_STORMED,
      F.objREC_STAT, F.objRTC_STATUS] s (oscStop s) := by
  unfold oscStop
  refine Leaves.ite ?_ ?_
  · exact Leaves.one (noEffect_leaves ..) rfl rfl
  · extract_lets -merge +onlyGivenNames x0
    refine Leaves.have x0 ?_ fun hx0 => ?_
    · unfold x0
      refine Leaves.step (State.wr_leaves ..) ?_ rfl rfl
      exact Leaves.step (State.wr_leaves ..) (Leaves.one (State.wr_leaves ..) rfl rfl) rfl rfl
    try clear_value x0
    refine Leaves.ite ?_ ?_
    · exact hx0
    · extract_lets -merge +onlyGivenNames x1 x2
      try clear_value x1
      refine Leaves.have x2 (by unfold x2; exact Leaves.step (Leaves.set_rtc _ _) hx0 rfl rfl) fun hx2 => ?_
      try clear_value x2
      refine Leaves.step (log_leaves ..) ?_ rfl rfl
      exact Leaves.step (State.wr_leaves ..) (Leaves.step (State.wr_leaves ..) hx2 rfl rfl) rfl rfl

theorem xtalResume_leaves (s : State) :
    Leaves [] [F.objCLK_STATUS, F.objRTC_STATUS] s (xtalResume s) := by
  unfold xtalResume
  refine Leaves.ite ?_ ?_
  · exact Leaves.one (noEffect_leaves ..) rfl rfl
  · extract_lets -merge +onlyGivenNames x0
    refine Leaves.have x0 (by unfold x0; exact Leaves.one (State.wr_leaves ..) rfl rfl) fun hx0 => ?_
    try clear_value x0
    exact Leaves.ite hx0 (Leaves.step (State.wr_leaves ..) (Leaves.step (State.wr_leaves ..) hx0 rfl rfl) rfl rfl)

theorem xtalLimited_leaves (s : State) :
    Leaves [.time, .ring, .clk, .sto, .int, .fld] [F.objCLK_STATUS, F.objINT_LATCH, F.objINT_STAT, F.objINT_STATE,
      F.objINT_STORMED, F.objNRL_CTRL, F.objNRL_PORTA_LINK, F.objNRL_PORTB_LINK, F.objNRL_STATE, F.objREC_STAT] s
      (xtalLimited s) := by
  unfold xtalLimited
  refine Leaves.ite ?_ ?_
  · exact Leaves.one (noEffect_leaves ..) rfl rfl
  · extract_lets -merge +onlyGivenNames x0 x1
    try clear_value x0
    refine Leaves.have x1 ?_ fun hx1 => ?_
    · unfold x1
      exact Leaves.step (firstGates_leaves ..) (Leaves.one (Leaves.set_clk _ _) rfl rfl) rfl rfl
    try clear_value x1
    exact Leaves.step (State.wr_leaves ..) (Leaves.step (Leaves.set_clk _ _) hx1 rfl rfl) rfl rfl

theorem hardReset_keeps (kind : Nat) (s : State) :
    Keeps [.time, .ring, .clk, .sto, .int, .mbx, .img, .scn, .prg, .fld, .ana, .ang, .plt, .pair, .pwr, .sec] s (hardReset kind s) := by
  unfold hardReset
  extract_lets -merge +onlyGivenNames x0 x1 x2
  try clear_value x0 x1
  extract_lets -merge +onlyGivenNames x3 x4
  try clear_value x3
  refine Keeps.have x4 ?_ fun hx4 => ?_
  · unfold x4
    refine Keeps.step (Keeps.upd (ps := [.time, .ring, .clk, .sto, .int, .mbx, .img, .scn, .prg, .fld, .ana, .ang, .plt, .pair, .pwr, .sec]) (s := s) (by intro p hp; cases p <;> first | rfl | exact absurd (by decide) hp)) ?_ rfl
    exact Keeps.refl _ _
  try clear_value x4
  extract_lets -merge +onlyGivenNames x5
  refine Keeps.have x5 (by unfold x5; exact Keeps.step (State.wr_leaves ..).1 hx4 rfl) fun hx5 => ?_
  try clear_value x5
  exact Keeps.ite (Keeps.step (log_leaves ..).1 hx5 rfl) hx5

theorem por_keeps (rising : Bool) (s : State) :
    Keeps [.time, .ring, .clk, .sto, .int, .mbx, .img, .scn, .prg, .fld, .ana, .ang, .plt, .pair, .pwr, .sec] s (por rising s) := by
  unfold por
  refine Keeps.ite ?_ ?_
  · extract_lets -merge +onlyGivenNames x0
    refine Keeps.have x0 ?_ fun hx0 => ?_
    · unfold x0
      exact Keeps.step (hardReset_keeps _ _) (Keeps.one (abandonBuffer_leaves ..).1 rfl) rfl
    try clear_value x0
    exact Keeps.ite (Keeps.step (State.wr_leaves ..).1 hx0 rfl) hx0
  · refine Keeps.ite ?_ ?_
    · exact Keeps.one (noEffect_leaves ..).1 rfl
    · exact Keeps.step (hardReset_keeps _ _) (Keeps.one (abandonBuffer_leaves ..).1 rfl) rfl

theorem flushRings_leaves (s : State) :
    Leaves [.sto] [] s (flushRings s) := by
  unfold flushRings
  refine Leaves.ite ?_ ?_
  · exact Leaves.refl ..
  · refine Leaves.transR (Leaves.foldl _ _ (fun y0 z0 _ => by
      exact Leaves.one (ringUpdate_leaves ..) rfl rfl
      ) _) ?_
    exact Leaves.one (Leaves.set_sto _ _) rfl rfl

theorem shutdownNow_keeps (s : State) :
    Keeps [.time, .ring, .clk, .sto, .int, .mbx, .img, .scn, .prg, .fld, .ana, .ang, .plt, .pair, .pwr, .sec] s (shutdownNow s) := by
  unfold shutdownNow
  extract_lets -merge +onlyGivenNames x0 x1
  try clear_value x0
  refine Keeps.have x1 ?_ fun hx1 => ?_
  · unfold x1
    exact Keeps.step (log_leaves ..).1 (Keeps.one (State.wr_leaves ..).1 rfl) rfl
  try clear_value x1
  refine Keeps.step (hardReset_keeps _ _) ?_ rfl
  refine Keeps.step (abandonBuffer_leaves ..).1 ?_ rfl
  refine Keeps.step (closingFlush_leaves ..).1 ?_ rfl
  exact Keeps.step (flushRings_leaves ..).1 (Keeps.step (flushNow_leaves ..).1 hx1 rfl) rfl

theorem flushReset_keeps (kind : Nat) (up : Bool) (s : State) :
    Keeps [.time, .ring, .clk, .sto, .int, .mbx, .img, .scn, .prg, .fld, .ana, .ang, .plt, .pair, .pwr, .sec] s (flushReset kind up s) := by
  unfold flushReset
  extract_lets -merge +onlyGivenNames x0
  refine Keeps.have x0 ?_ fun hx0 => ?_
  · unfold x0
    exact Keeps.ite (Keeps.one (closingFlush_leaves ..).1 rfl) (Keeps.refl _ _)
  try clear_value x0
  exact Keeps.step (hardReset_keeps _ _) (Keeps.step (abandonBuffer_leaves ..).1 hx0 rfl) rfl

theorem otherReset_keeps (kind : Nat) (up : Bool) (s : State) :
    Keeps [.time, .ring, .clk, .sto, .int, .mbx, .img, .scn, .prg, .fld, .ana, .ang, .plt, .pair, .pwr, .sec] s (otherReset kind up s) := by
  unfold otherReset
  exact Keeps.ite (Keeps.one (shutdownNow_keeps _) rfl) (Keeps.one (flushReset_keeps _ _ _) rfl)

theorem pinReset_keeps (lowNs : Nat) (s : State) :
    Keeps [.time, .ring, .clk, .sto, .int, .mbx, .img, .scn, .prg, .fld, .ana, .ang, .plt, .pair, .pwr, .sec, .free] s (pinReset lowNs s) := by
  unfold pinReset
  extract_lets -merge +onlyGivenNames x0
  have hx0 : ∀ w1_0, Keeps [.time, .ring, .clk, .sto, .int, .mbx, .img, .scn, .prg, .fld, .ana, .ang, .plt, .pair, .pwr, .sec, .free] w1_0 (x0 w1_0) := by
    intro w1_0
    unfold x0
    extract_lets -merge +onlyGivenNames x1
    refine Keeps.have x1 (by unfold x1; exact Keeps.one (otherReset_keeps _ _ _) rfl) fun hx1 => ?_
    try clear_value x1
    refine Keeps.step (Keeps.upd (ps := [.clk]) (s := x1) (by intro p hp; cases p <;> first | rfl | exact absurd (by decide) hp)) ?_ rfl
    exact hx1
  try clear_value x0
  refine Keeps.ite ?_ ?_
  · exact Keeps.one (noEffect_leaves ..).1 rfl
  · refine Keeps.ite ?_ ?_
    · exact Keeps.transR (hx0 _) (Keeps.refl _ _)
    · refine Keeps.ite ?_ ?_
      · exact Keeps.transR (hx0 _) (Keeps.one (State.useFree_leaves ..).1 rfl)
      · exact Keeps.one (State.useFree_leaves ..).1 rfl

theorem moduleResetStart_keeps (s : State) :
    Keeps [.time, .ring, .clk, .sto, .int, .mbx, .img, .scn, .prg, .fld, .ana, .ang, .plt, .pair, .pwr, .sec] s (moduleResetStart s) := by
  unfold moduleResetStart
  split
  · exact Keeps.one (noEffect_leaves ..).1 rfl
  · extract_lets -merge +onlyGivenNames x0
    try clear_value x0
    refine Keeps.ite ?_ ?_
    · exact Keeps.one (noEffect_leaves ..).1 rfl
    · refine Keeps.ite ?_ ?_
      · exact Keeps.one (shutdownNow_keeps _) rfl
      · extract_lets -merge +onlyGivenNames x1 x2 x3
        try clear_value x1 x2
        refine Keeps.have x3 (by unfold x3; exact Keeps.one (flushReset_keeps _ _ _) rfl) fun hx3 => ?_
        try clear_value x3
        exact Keeps.ite (Keeps.step (beginPhaseB_leaves ..).1 hx3 rfl) hx3

theorem nextStore_leaves (s : State) :
    Leaves [.mbx] [] s (nextStore s) := by
  unfold nextStore
  split
  · exact Leaves.one (startHdl_leaves ..) rfl rfl
  · exact Leaves.refl ..

theorem failOp_leaves (s : State) (h : Hdl) :
    Leaves [.ring, .sto, .int, .mbx, .scn, .sec] [F.objINT_LATCH, F.objINT_STAT, F.objINT_STATE, F.objINT_STORMED,
      F.objMBX_QUEUES, F.objMBX_USE, F.objREC_STAT, F.objSCN_MODE, F.objSEC_FW] s (failOp s h) := by
  unfold failOp
  extract_lets -merge +onlyGivenNames x0
  have hx0 : ∀ w1_0, Leaves [.ring, .sto, .int, .mbx, .scn, .sec] [F.objINT_LATCH, F.objINT_STAT, F.objINT_STATE, F.objINT_STORMED, F.objMBX_QUEUES, F.objMBX_USE, F.objREC_STAT, F.objSCN_MODE, F.objSEC_FW] w1_0 (x0 w1_0) := by
    intro w1_0
    unfold x0
    exact Leaves.one (fin_leaves ..) rfl rfl
  try clear_value x0
  refine Leaves.ite ?_ ?_
  · exact Leaves.refl ..
  · split
    · exact Leaves.transR (hx0 ..) (Leaves.one (Leaves.set_sto _ _) rfl rfl)
    · exact Leaves.transR (hx0 ..) (Leaves.refl ..)
    · exact Leaves.transR (hx0 ..) (Leaves.refl ..)
    · exact Leaves.transR (hx0 ..) (Leaves.refl ..)
    · split
      · exact Leaves.one (finishFw_leaves ..) rfl rfl
      · exact Leaves.refl ..
    · split
      · refine Leaves.ite ?_ ?_
        · exact Leaves.step (clearPend_leaves ..) (Leaves.one (finMode_leaves ..) rfl rfl) rfl rfl
        · exact Leaves.refl ..
      · exact Leaves.refl ..
    · exact Leaves.refl ..

theorem svWatchdog_keeps (bothSilent : Bool) (storeUp : Bool) (s : State) :
    Keeps [.time, .ring, .clk, .sto, .int, .mbx, .img, .scn, .prg, .fld, .ana, .ang, .plt, .pair, .pwr, .sec] s (svWatchdog bothSilent storeUp s) := by
  unfold svWatchdog
  refine Keeps.ite ?_ ?_
  · exact Keeps.one (noEffect_leaves ..).1 rfl
  · refine Keeps.ite ?_ ?_
    · exact Keeps.one (otherReset_keeps _ _ _) rfl
    · extract_lets -merge +onlyGivenNames x0 x1
      try clear_value x0
      refine Keeps.have x1 ?_ fun hx1 => ?_
      · unfold x1
        exact Keeps.step (State.wr_leaves ..).1 (Keeps.one (State.wr_leaves ..).1 rfl) rfl
      try clear_value x1
      extract_lets -merge +onlyGivenNames x2 x3
      try clear_value x2
      refine Keeps.have x3 ?_ fun hx3 => ?_
      · unfold x3
        refine Keeps.step (log_leaves ..).1 ?_ rfl
        refine Keeps.step (Keeps.upd (ps := [.clk]) (s := x1) (by intro p hp; cases p <;> first | rfl | exact absurd (by decide) hp)) ?_ rfl
        exact hx1
      try clear_value x3
      refine Keeps.step (nextStore_leaves ..).1 ?_ rfl
      refine Keeps.transR (Keeps.foldl _ _ (fun y4 z4 _ => by
        exact Keeps.one (failOp_leaves ..).1 rfl
        ) _) ?_
      exact Keeps.step (hostSync_leaves ..).1 (Keeps.step (hostSync_leaves ..).1 hx3 rfl) rfl

theorem startupWatchdog_keeps (storeUp : Bool) (s : State) :
    Keeps [.time, .ring, .clk, .sto, .int, .mbx, .img, .scn, .prg, .fld, .ana, .ang, .plt, .pair, .pwr, .sec] s (startupWatchdog storeUp s) := by
  unfold startupWatchdog
  split
  · exact Keeps.one (noEffect_leaves ..).1 rfl
  · refine Keeps.ite ?_ ?_
    · exact Keeps.one (noEffect_leaves ..).1 rfl
    · refine Keeps.ite ?_ ?_
      · exact Keeps.one (shutdownNow_keeps _) rfl
      · extract_lets -merge +onlyGivenNames x0 x1
        try clear_value x0
        refine Keeps.have x1 (by unfold x1; exact Keeps.one (flushReset_keeps _ _ _) rfl) fun hx1 => ?_
        try clear_value x1
        refine Keeps.step (Keeps.upd (ps := [.clk]) (s := x1) (by intro p hp; cases p <;> first | rfl | exact absurd (by decide) hp)) ?_ rfl
        exact hx1

theorem porRelease_leaves (lineEnd : Bool) (compat : Bool) (xtal : Bool) (s : State) :
    Leaves [.clk, .pwr] [F.objCLK_STATUS, F.objNRL_STATE, F.objRTC_STATUS] s (porRelease lineEnd compat xtal s) := by
  unfold porRelease
  exact Leaves.ite (Leaves.one (noEffect_leaves ..) rfl rfl) (Leaves.one (beginPhaseB_leaves ..) rfl rfl)

theorem resolveRec_leaves (s : State) (r : StoRec) :
    Leaves [.ring, .sto, .int] [F.objINT_LATCH, F.objINT_STAT, F.objINT_STATE, F.objINT_STORMED, F.objREC_STAT,
      F.objSTO_STATUS] s (resolveRec s r) := by
  unfold resolveRec
  extract_lets -merge +onlyGivenNames x0
  have hx0 : ∀ w1_0, Leaves [.ring, .sto, .int] [F.objINT_LATCH, F.objINT_STAT, F.objINT_STATE, F.objINT_STORMED, F.objREC_STAT, F.objSTO_STATUS] w1_0 (x0 w1_0) := by
    intro w1_0
    unfold x0
    exact Leaves.one (log_leaves ..) rfl rfl
  try clear_value x0
  split
  · exact Leaves.refl ..
  · exact Leaves.transR (hx0 ..) (Leaves.refl ..)
  · extract_lets -merge +onlyGivenNames x1
    try clear_value x1
    exact Leaves.transR (hx0 ..) (Leaves.one (setIncons_leaves ..) rfl rfl)

theorem restoreSlices_leaves (s : State) (g : Nat) :
    Leaves [.ana] [F.objAG_CS] s (restoreSlices s g) := by
  unfold restoreSlices
  refine Leaves.transR (Leaves.foldl _ _ (fun y0 z0 _ => by
    extract_lets -merge +onlyGivenNames x1
    try clear_value x1
    exact Leaves.one (putSlice_leaves ..) rfl rfl
    ) _) ?_
  exact Leaves.refl ..

theorem setNext_leaves (s : State) :
    Leaves [.ring, .sto, .int] [F.objINT_LATCH, F.objINT_STAT, F.objINT_STATE, F.objINT_STORMED, F.objREC_STAT] s (setNext
      s) := by
  unfold setNext
  extract_lets -merge +onlyGivenNames x0 x1 x2 x3 x4 x5 x6 x7 x8
  try clear_value x0 x1 x2 x3 x4 x5 x6 x7
  refine Leaves.have x8 (by unfold x8; exact Leaves.one (Leaves.set_sto _ _) rfl rfl) fun hx8 => ?_
  try clear_value x8
  extract_lets -merge +onlyGivenNames x9
  refine Leaves.have x9 ?_ fun hx9 => ?_
  · unfold x9
    exact Leaves.step (bufRegs_leaves ..) (Leaves.step (State.wr_leaves ..) hx8 rfl rfl) rfl rfl
  try clear_value x9
  extract_lets -merge +onlyGivenNames x10
  refine Leaves.have x10 (by unfold x10; exact Leaves.ite hx9 (Leaves.step (setLatch_leaves ..) hx9 rfl rfl)) fun hx10 => ?_
  try clear_value x10
  exact Leaves.step (ringSoon_leaves ..) hx10 rfl rfl

theorem keyRegs_leaves (s : State) :
    Leaves [] [F.objSEC_STATUS] s (keyRegs s) := by
  unfold keyRegs
  extract_lets -merge +onlyGivenNames x0
  try clear_value x0
  exact Leaves.step (State.wr_leaves ..) (Leaves.one (State.wr_leaves ..) rfl rfl) rfl rfl

theorem storeRecallDone_leaves (header : Bool) (bad : List (Nat × Nat × Nat)) (uncorr : List (Nat × Nat)) (s : State) :
    Leaves [.ring, .sto, .int, .ana, .pwr] [F.objAG_CS, F.objCLK_START, F.objINT_LATCH, F.objINT_STAT, F.objINT_STATE,
      F.objINT_STORMED, F.objREC_STAT, F.objSCN_MODE, F.objSEC_STATUS, F.objSTO_COUNT, F.objSTO_STATUS] s (storeRecallDone
      header bad uncorr s) := by
  unfold storeRecallDone
  refine Leaves.ite ?_ ?_
  · exact Leaves.one (noEffect_leaves ..) rfl rfl
  · extract_lets -merge +onlyGivenNames x0 x1 x2
    try clear_value x0 x1
    refine Leaves.have x2 ?_ fun hx2 => ?_
    · unfold x2
      exact Leaves.step (State.wr_leaves ..) (Leaves.one (Leaves.set_sto _ _) rfl rfl) rfl rfl
    try clear_value x2
    extract_lets -merge +onlyGivenNames x3
    refine Leaves.have x3 ?_ fun hx3 => ?_
    · unfold x3
      refine Leaves.transR (Leaves.foldl _ _ (fun y4 z4 _ => by
        exact Leaves.one (uncorrectable_leaves ..) rfl rfl
        ) _) ?_
      exact hx2
    try clear_value x3
    extract_lets -merge +onlyGivenNames x5
    refine Leaves.have x5 ?_ fun hx5 => ?_
    · unfold x5
      refine Leaves.transR (Leaves.foldl _ _ (fun y6 z6 _ => by
        exact Leaves.step (baseline_leaves ..) (Leaves.one (damageSlot_leaves ..) rfl rfl) rfl rfl
        ) _) ?_
      exact hx3
    try clear_value x5
    extract_lets -merge +onlyGivenNames x7
    refine Leaves.have x7 ?_ fun hx7 => ?_
    · unfold x7
      refine Leaves.transR (Leaves.foldl _ _ (fun y8 z8 _ => by
        exact Leaves.one (resolveRec_leaves ..) rfl rfl
        ) _) ?_
      exact hx5
    try clear_value x7
    extract_lets -merge +onlyGivenNames x9
    refine Leaves.have x9 (by unfold x9; exact Leaves.step (State.wr_leaves ..) hx7 rfl rfl) fun hx9 => ?_
    try clear_value x9
    extract_lets -merge +onlyGivenNames x10
    refine Leaves.have x10 (by unfold x10; exact Leaves.step (State.wr_leaves ..) hx9 rfl rfl) fun hx10 => ?_
    try clear_value x10
    extract_lets -merge +onlyGivenNames x11
    refine Leaves.have x11 (by unfold x11; exact Leaves.step (State.wr_leaves ..) hx10 rfl rfl) fun hx11 => ?_
    try clear_value x11
    extract_lets -merge +onlyGivenNames x12 x13 x14
    try clear_value x12 x13
    refine Leaves.have x14 ?_ fun hx14 => ?_
    · unfold x14
      refine Leaves.step (Leaves.upd (ps := [.sto, .pwr]) (s := x11) rfl (by intro p hp; cases p <;> first | rfl | exact absurd (by decide) hp)) ?_ rfl rfl
      exact hx11
    try clear_value x14
    extract_lets -merge +onlyGivenNames x15
    refine Leaves.have x15 ?_ fun hx15 => ?_
    · unfold x15
      refine Leaves.transR (Leaves.foldl _ _ (fun y16 z16 _ => by
        exact Leaves.one (restoreSlices_leaves ..) rfl rfl
        ) _) ?_
      exact hx14
    try clear_value x15
    extract_lets -merge +onlyGivenNames x17
    refine Leaves.have x17 ?_ fun hx17 => ?_
    · unfold x17
      exact Leaves.step (setNext_leaves ..) (Leaves.step (keyRegs_leaves ..) hx15 rfl rfl) rfl rfl
    try clear_value x17
    extract_lets -merge +onlyGivenNames x18
    refine Leaves.have x18 ?_ fun hx18 => ?_
    · unfold x18
      exact Leaves.ite (Leaves.step (ringSoon_leaves ..) hx17 rfl rfl) hx17
    try clear_value x18
    exact Leaves.step (State.wr_leaves ..) hx18 rfl rfl

theorem loadFailed_leaves (s : State) (t : Nat) (m : Nat) :
    Leaves [.ring, .sto, .int, .fld, .ana, .sec] [F.objAG_GSTAT, F.objDG_GSTAT, F.objINT_STAT, F.objINT_STATE,
      F.objINT_STORMED, F.objREC_STAT, F.objSEC_STATUS] s (loadFailed s t m) := by
  unfold loadFailed
  split
  · exact Leaves.step (State.wr_leaves ..) (Leaves.one (State.wr_leaves ..) rfl rfl) rfl rfl
  · exact Leaves.one (Leaves.set_sec _ _) rfl rfl
  · extract_lets -merge +onlyGivenNames x0 x1
    try clear_value x0
    refine Leaves.have x1 (by unfold x1; exact Leaves.one (Leaves.set_sec _ _) rfl rfl) fun hx1 => ?_
    try clear_value x1
    refine Leaves.transR (Leaves.foldl _ _ (fun y2 z2 _ => by
      exact Leaves.ite (Leaves.one (updDgg_leaves ..) rfl rfl) (Leaves.refl ..)
      ) _) ?_
    exact hx1
  · extract_lets -merge +onlyGivenNames x3 x4
    try clear_value x3
    refine Leaves.have x4 (by unfold x4; exact Leaves.one (Leaves.set_sec _ _) rfl rfl) fun hx4 => ?_
    try clear_value x4
    refine Leaves.transR (Leaves.foldl _ _ (fun y5 z5 _ => by
      exact Leaves.ite (Leaves.one (updAgg_leaves ..) rfl rfl) (Leaves.refl ..)
      ) _) ?_
    exact hx4

theorem pullUp_leaves (s : State) :
    Leaves [] [F.objSEC_STATUS] s (pullUp s) := by
  unfold pullUp
  exact Leaves.ite (Leaves.one (State.wr_leaves ..) rfl rfl) (Leaves.refl ..)

theorem supEntries_leaves (s : State) :
    Leaves [] [F.objINT_CFG, F.objINT_SUP] s (supEntries s) := by
  unfold supEntries
  extract_lets -merge +onlyGivenNames x0
  have hx0 : ∀ w1_0 w1_5, Leaves [] [F.objINT_CFG, F.objINT_SUP] w1_0 (x0 w1_0 w1_5) := by
    intro w1_0 w1_5
    unfold x0
    extract_lets -merge +onlyGivenNames x1
    try clear_value x1
    refine Leaves.step (State.wrE_leaves ..) ?_ rfl rfl
    exact Leaves.step (State.wrE_leaves ..) (Leaves.one (State.wrE_leaves ..) rfl rfl) rfl rfl
  try clear_value x0
  extract_lets -merge +onlyGivenNames x2
  refine Leaves.have x2 ?_ fun hx2 => ?_
  · unfold x2
    refine Leaves.transR (Leaves.foldl _ _ (fun y3 z3 _ => by
      exact Leaves.transR (hx0 ..) (Leaves.refl ..)
      ) _) ?_
    exact Leaves.refl ..
  try clear_value x2
  exact Leaves.step (State.wr_leaves ..) (Leaves.step (State.wr_leaves ..) hx2 rfl rfl) rfl rfl

theorem fwBegins_leaves (s : State) :
    Leaves [.clk] [F.objINT_CFG, F.objINT_SUP, F.objSEC_STATUS] s (fwBegins s) := by
  unfold fwBegins
  extract_lets -merge +onlyGivenNames x0 x1
  try clear_value x0
  refine Leaves.have x1 (by unfold x1; exact Leaves.one (Leaves.set_clk _ _) rfl rfl) fun hx1 => ?_
  try clear_value x1
  refine Leaves.step (pullUp_leaves ..) ?_ rfl rfl
  refine Leaves.step (keyRegs_leaves ..) ?_ rfl rfl
  exact Leaves.step (supEntries_leaves ..) (Leaves.step (State.wr_leaves ..) hx1 rfl rfl) rfl rfl

theorem targetLoad_leaves (t : Nat) (fails : Nat) (s : State) :
    Leaves [.ring, .clk, .sto, .int, .fld, .ana, .sec] [F.objAG_GSTAT, F.objDG_GSTAT, F.objINT_CFG, F.objINT_LATCH,
      F.objINT_STAT, F.objINT_STATE, F.objINT_STORMED, F.objINT_SUP, F.objREC_STAT, F.objSEC_FW, F.objSEC_STATUS] s
      (targetLoad t fails s) := by
  unfold targetLoad
  extract_lets -merge +onlyGivenNames x0
  try clear_value x0
  refine Leaves.ite ?_ ?_
  · exact Leaves.one (noEffect_leaves ..) rfl rfl
  · extract_lets -merge +onlyGivenNames x1 x2 x3 x4 x5
    try clear_value x1 x2 x3 x4
    refine Leaves.have x5 ?_ fun hx5 => ?_
    · unfold x5
      exact Leaves.step (fwRegs_leaves ..) (Leaves.one (Leaves.set_sec _ _) rfl rfl) rfl rfl
    try clear_value x5
    refine Leaves.ite ?_ ?_
    · exact Leaves.step (loadFailed_leaves ..) hx5 rfl rfl
    · extract_lets -merge +onlyGivenNames x6
      refine Leaves.have x6 ?_ fun hx6 => ?_
      · unfold x6
        refine Leaves.ite ?_ ?_
        · exact Leaves.step (fwRuns_leaves ..) (Leaves.step (putFw_leaves ..) hx5 rfl rfl) rfl rfl
        · refine Leaves.step (log_leaves ..) ?_ rfl rfl
          exact Leaves.step (fwRuns_leaves ..) (Leaves.step (putFw_leaves ..) hx5 rfl rfl) rfl rfl
      try clear_value x6
      extract_lets -merge +onlyGivenNames x7
      try clear_value x7
      refine Leaves.ite ?_ ?_
      · exact Leaves.ite (Leaves.step (loadFailed_leaves ..) hx6 rfl rfl) (Leaves.step (fwBegins_leaves ..) hx6 rfl rfl)
      · exact Leaves.ite (Leaves.step (loadFailed_leaves ..) hx6 rfl rfl) hx6

theorem marginPlanDone_leaves (s : State) :
    Leaves [.ring, .sto, .int, .fld, .pwr] [F.objAG_CONV, F.objANG_BOOST_PLAN, F.objCLK_START, F.objCLK_STATUS,
      F.objDG_GSTAT, F.objINT_LATCH, F.objINT_STAT, F.objINT_STATE, F.objINT_STORMED, F.objPWR_FORECAST, F.objPWR_PLAN,
      F.objPWR_SENSE, F.objREC_STAT, F.objSTO_STATUS] s (marginPlanDone s) := by
  unfold marginPlanDone
  refine Leaves.ite ?_ ?_
  · exact Leaves.one (noEffect_leaves ..) rfl rfl
  · extract_lets -merge +onlyGivenNames x0 x1
    try clear_value x0
    extract_lets -merge +onlyGivenNames x2 x3 x4 x5
    try clear_value x2 x3 x4
    refine Leaves.have x5 (by unfold x5; exact Leaves.one (Leaves.set_pwr _ _) rfl rfl) fun hx5 => ?_
    try clear_value x5
    extract_lets -merge +onlyGivenNames x6
    refine Leaves.have x6 (by unfold x6; exact Leaves.ite (Leaves.step (State.wr_leaves ..) hx5 rfl rfl) hx5) fun hx6 => ?_
    try clear_value x6
    extract_lets -merge +onlyGivenNames x7
    refine Leaves.have x7 ?_ fun hx7 => ?_
    · unfold x7
      refine Leaves.step (ageRegs_leaves ..) ?_ rfl rfl
      refine Leaves.transR (Leaves.foldl _ _ (fun y8 z8 _ => by
        exact Leaves.one (putPlan_leaves ..) rfl rfl
        ) _) ?_
      exact hx6
    try clear_value x7
    extract_lets -merge +onlyGivenNames x9
    refine Leaves.have x9 (by unfold x9; exact Leaves.step (State.wr_leaves ..) hx7 rfl rfl) fun hx9 => ?_
    try clear_value x9
    exact Leaves.ite (Leaves.step (endEpoch_leaves ..) hx9 rfl rfl) hx9

theorem refused450_leaves (s : State) (p : Nat × Nat) :
    Leaves [.ring, .sto, .int] [F.objINT_LATCH, F.objINT_STAT, F.objINT_STATE, F.objINT_STORMED, F.objREC_STAT,
      F.objSTO_STATUS] s (refused450 s p) := by
  unfold refused450
  extract_lets -merge +onlyGivenNames x0
  try clear_value x0
  exact Leaves.step (log_leaves ..) (Leaves.one (setIncons_leaves ..) rfl rfl) rfl rfl

theorem wakeRecord_leaves (s : State) :
    Leaves [.ring, .sto, .int] [F.objINT_LATCH, F.objINT_STAT, F.objINT_STATE, F.objINT_STORMED, F.objREC_STAT,
      F.objRTC_STATUS] s (wakeRecord s) := by
  unfold wakeRecord
  extract_lets -merge +onlyGivenNames x0
  try clear_value x0
  exact Leaves.ite (Leaves.refl ..) (Leaves.step (State.wr_leaves ..) (Leaves.one (log_leaves ..) rfl rfl) rfl rfl)

theorem stopReady_keeps (levels : Nat) (s : State) :
    Keeps [.time, .ring, .clk, .sto, .int, .mbx, .img, .scn, .prg, .fld, .ana, .ang, .plt, .pair, .rtc, .pwr, .free] s (stopReady levels s) := by
  unfold stopReady
  refine Keeps.ite ?_ ?_
  · exact Keeps.one (noEffect_leaves ..).1 rfl
  · extract_lets -merge +onlyGivenNames x0
    refine Keeps.have x0 (by unfold x0; exact Keeps.one (baseConfig_keeps _) rfl) fun hx0 => ?_
    try clear_value x0
    extract_lets -merge +onlyGivenNames x1 x2
    try clear_value x1
    refine Keeps.have x2 ?_ fun hx2 => ?_
    · unfold x2
      refine Keeps.transR (Keeps.foldl _ _ (fun y3 z3 _ => by
        exact Keeps.one (refused450_leaves ..).1 rfl
        ) _) ?_
      exact hx0
    try clear_value x2
    extract_lets -merge +onlyGivenNames x4 x5
    try clear_value x4
    refine Keeps.have x5 ?_ fun hx5 => ?_
    · unfold x5
      refine Keeps.step (Keeps.upd (ps := [.clk]) (s := x2) (by intro p hp; cases p <;> first | rfl | exact absurd (by decide) hp)) ?_ rfl
      exact hx2
    try clear_value x5
    extract_lets -merge +onlyGivenNames x6 x7
    try clear_value x6
    refine Keeps.have x7 ?_ fun hx7 => ?_
    · unfold x7
      exact Keeps.step (withWrites_keeps _ _) (Keeps.step (applySet_keeps _ _ _ _) hx5 rfl) rfl
    try clear_value x7
    extract_lets -merge +onlyGivenNames x8
    refine Keeps.have x8 (by unfold x8; exact Keeps.step (groupsFollow_leaves ..).1 hx7 rfl) fun hx8 => ?_
    try clear_value x8
    extract_lets -merge +onlyGivenNames x9
    refine Keeps.have x9 ?_ fun hx9 => ?_
    · unfold x9
      exact Keeps.step (safeCommand_leaves ..).1 (Keeps.step (setMode_leaves ..).1 hx8 rfl) rfl
    try clear_value x9
    extract_lets -merge +onlyGivenNames x10
    refine Keeps.have x10 ?_ fun hx10 => ?_
    · unfold x10
      refine Keeps.transR (Keeps.foldl _ _ (fun y11 z11 _ => by
        exact Keeps.one (hostSync_leaves ..).1 rfl
        ) _) ?_
      exact hx9
    try clear_value x10
    exact Keeps.step (wakeRecord_leaves ..).1 (Keeps.step (persistReg_leaves ..).1 hx10 rfl) rfl

theorem rbOnly_leaves (s : State) (g : Nat) :
    Leaves [] [F.objDG_CHSTAT] s (rbOnly s g) := by
  unfold rbOnly
  refine Leaves.transR (Leaves.foldl _ _ (fun y0 z0 _ => by
    extract_lets -merge +onlyGivenNames x1
    try clear_value x1
    exact Leaves.one (State.wr_leaves ..) rfl rfl
    ) _) ?_
  exact Leaves.refl ..

theorem loadDg_leaves (s : State) (g : Nat) (levels : Nat) :
    Leaves [.ring, .clk, .sto, .int, .fld, .ang] [F.objCLK_START, F.objDG_CHSTAT, F.objDG_GSTAT, F.objINT_STAT,
      F.objINT_STATE, F.objINT_STORMED, F.objREC_STAT] s (loadDg s g levels) := by
  unfold loadDg
  refine Leaves.ite ?_ ?_
  · exact Leaves.refl ..
  · extract_lets -merge +onlyGivenNames x0
    refine Leaves.have x0 ?_ fun hx0 => ?_
    · unfold x0
      refine Leaves.step (setDie_leaves ..) ?_ rfl rfl
      exact Leaves.step (dropAngle_leaves ..) (Leaves.one (State.wr_leaves ..) rfl rfl) rfl rfl
    try clear_value x0
    extract_lets -merge +onlyGivenNames x1
    refine Leaves.have x1 ?_ fun hx1 => ?_
    · unfold x1
      refine Leaves.transR (Leaves.foldl _ _ (fun y2 z2 _ => by
        extract_lets -merge +onlyGivenNames x3 x4
        try clear_value x3
        refine Leaves.have x4 ?_ fun hx4 => ?_
        · unfold x4
          exact Leaves.step (putDch_leaves ..) (Leaves.one (stageOff_leaves ..) rfl rfl) rfl rfl
        try clear_value x4
        extract_lets -merge +onlyGivenNames x5
        refine Leaves.have x5 ?_ fun hx5 => ?_
        · unfold x5
          refine Leaves.step (State.wr_leaves ..) ?_ rfl rfl
          exact Leaves.step (State.wr_leaves ..) (Leaves.step (State.wr_leaves ..) hx4 rfl rfl) rfl rfl
        try clear_value x5
        exact Leaves.step (firstState_leaves ..) hx5 rfl rfl
        ) _) ?_
      exact hx0
    try clear_value x1
    extract_lets -merge +onlyGivenNames x6
    refine Leaves.have x6 (by unfold x6; exact Leaves.step (updDgg_leaves ..) hx1 rfl rfl) fun hx6 => ?_
    try clear_value x6
    extract_lets -merge +onlyGivenNames x7
    refine Leaves.have x7 (by unfold x7; exact Leaves.step (rbOnly_leaves ..) hx6 rfl rfl) fun hx7 => ?_
    try clear_value x7
    exact Leaves.ite (Leaves.step (feeds_leaves ..) hx7 rfl rfl) hx7

theorem loadAg_leaves (s : State) (g : Nat) :
    Leaves [.ring, .clk, .sto, .int, .ana, .free] [F.objAG_GSTAT, F.objCLK_START, F.objINT_STAT, F.objINT_STATE,
      F.objINT_STORMED, F.objPPR_STAT, F.objREC_STAT] s (loadAg s g) := by
  unfold loadAg
  refine Leaves.ite ?_ ?_
  · exact Leaves.refl ..
  · extract_lets -merge +onlyGivenNames x0
    refine Leaves.have x0 ?_ fun hx0 => ?_
    · unfold x0
      exact Leaves.step (setDie_leaves ..) (Leaves.one (State.wr_leaves ..) rfl rfl) rfl rfl
    try clear_value x0
    extract_lets -merge +onlyGivenNames x1
    refine Leaves.have x1 (by unfold x1; exact Leaves.step (updAgg_leaves ..) hx0 rfl rfl) fun hx1 => ?_
    try clear_value x1
    extract_lets -merge +onlyGivenNames x2
    refine Leaves.have x2 ?_ fun hx2 => ?_
    · unfold x2
      refine Leaves.transR (Leaves.foldl _ _ (fun y3 z3 _ => by
        exact Leaves.one (putAch_leaves ..) rfl rfl
        ) _) ?_
      exact hx1
    try clear_value x2
    refine Leaves.step (nextWait_leaves ..) ?_ rfl rfl
    refine Leaves.step (slicesFollow_leaves ..) ?_ rfl rfl
    exact Leaves.step (quadsFollow_leaves ..) (Leaves.step (syncResetGroup_leaves ..) hx2 rfl rfl) rfl rfl

theorem groupLoad_leaves (g : Nat) (levels : Nat) (s : State) :
    Leaves [.ring, .clk, .sto, .int, .fld, .ana, .ang, .free] [F.objAG_GSTAT, F.objCLK_START, F.objDG_CHSTAT,
      F.objDG_GSTAT, F.objINT_STAT, F.objINT_STATE, F.objINT_STORMED, F.objPPR_STAT, F.objREC_STAT] s (groupLoad g levels
      s) := by
  unfold groupLoad
  refine Leaves.ite ?_ ?_
  · exact Leaves.one (noEffect_leaves ..) rfl rfl
  · extract_lets -merge +onlyGivenNames x0
    refine Leaves.have x0 ?_ fun hx0 => ?_
    · unfold x0
      exact Leaves.ite (Leaves.one (loadDg_leaves ..) rfl rfl) (Leaves.one (loadAg_leaves ..) rfl rfl)
    try clear_value x0
    extract_lets -merge +onlyGivenNames x1
    try clear_value x1
    exact Leaves.ite hx0 (Leaves.step (Leaves.set_fld _ _) hx0 rfl rfl)

theorem setHold_leaves (s : State) (v : Nat) :
    Leaves [] [F.objCLK_START, F.objPWR_STATUS, F.objSTO_STATUS] s (setHold s v) := by
  unfold setHold
  extract_lets -merge +onlyGivenNames x0
  refine Leaves.have x0 ?_ fun hx0 => ?_
  · unfold x0
    exact Leaves.step (State.wr_leaves ..) (Leaves.one (State.wr_leaves ..) rfl rfl) rfl rfl
  try clear_value x0
  extract_lets -merge +onlyGivenNames x1
  try clear_value x1
  refine Leaves.step (State.wr_leaves ..) ?_ rfl rfl
  exact Leaves.step (State.wr_leaves ..) (Leaves.step (State.wr_leaves ..) hx0 rfl rfl) rfl rfl

theorem holdThreshold_leaves (v : Nat) (s : State) :
    Leaves [.pwr] [F.objCLK_START, F.objPWR_STATUS, F.objSTO_STATUS] s (holdThreshold v s) := by
  unfold holdThreshold
  extract_lets -merge +onlyGivenNames x0
  refine Leaves.have x0 (by unfold x0; exact Leaves.one (setHold_leaves ..) rfl rfl) fun hx0 => ?_
  try clear_value x0
  extract_lets -merge +onlyGivenNames x1 x2
  try clear_value x1
  refine Leaves.have x2 (by unfold x2; exact Leaves.ite (Leaves.step (State.wr_leaves ..) hx0 rfl rfl) hx0) fun hx2 => ?_
  try clear_value x2
  refine Leaves.ite ?_ ?_
  · exact hx2
  · refine Leaves.ite ?_ ?_
    · exact Leaves.step (State.wr_leaves ..) (Leaves.step (Leaves.set_pwr _ _) hx2 rfl rfl) rfl rfl
    · exact Leaves.ite (Leaves.step (State.wr_leaves ..) (Leaves.step (Leaves.set_pwr _ _) hx2 rfl rfl) rfl rfl) hx2

theorem rememberTag_leaves (s : State) (t : OpenTag) :
    Leaves [.mbx] [] s (rememberTag s t) := by
  unfold rememberTag
  extract_lets -merge +onlyGivenNames x0
  try clear_value x0
  exact Leaves.one (Leaves.set_mbx _ _) rfl rfl

theorem openNow_leaves (s : State) (c : Cmd) (n : Nat) :
    Leaves [.ring, .sto, .int, .mbx, .free] [F.objINT_STAT, F.objINT_STATE, F.objINT_STORMED, F.objMBX_QUEUES,
      F.objMBX_USE, F.objREC_STAT, F.objSEC_STATUS] s (openNow s c n) := by
  unfold openNow
  extract_lets -merge +onlyGivenNames x0 x1 x2 x3
  try clear_value x0 x1 x2
  refine Leaves.have x3 ?_ fun hx3 => ?_
  · unfold x3
    refine Leaves.step (svcRegs_leaves ..) ?_ rfl rfl
    exact Leaves.step (putSession_leaves ..) (Leaves.one (Leaves.set_free _ _) rfl rfl) rfl rfl
  try clear_value x3
  extract_lets -merge +onlyGivenNames x4
  try clear_value x4
  exact Leaves.step (answer_leaves ..) (Leaves.step (rememberTag_leaves ..) hx3 rfl rfl) rfl rfl

theorem sesOpen_leaves (s : State) :
    Leaves [.ring, .sto, .int, .mbx, .free] [F.objINT_STAT, F.objINT_STATE, F.objINT_STORMED, F.objMBX_QUEUES,
      F.objMBX_USE, F.objREC_STAT, F.objSEC_STATUS] s (sesOpen s) := by
  unfold sesOpen
  split
  · refine Leaves.ite ?_ ?_
    · exact Leaves.one (noEffect_leaves ..) rfl rfl
    · extract_lets -merge +onlyGivenNames x0
      refine Leaves.have x0 (by unfold x0; exact Leaves.one (popCmd_leaves ..) rfl rfl) fun hx0 => ?_
      try clear_value x0
      extract_lets -merge +onlyGivenNames x1
      try clear_value x1
      refine Leaves.ite ?_ ?_
      · exact Leaves.step (answerOnly_leaves ..) hx0 rfl rfl
      · refine Leaves.ite ?_ ?_
        · exact Leaves.step (answerOnly_leaves ..) hx0 rfl rfl
        · split
          · exact Leaves.step (answer_leaves ..) hx0 rfl rfl
          · extract_lets -merge +onlyGivenNames x2
            try clear_value x2
            refine Leaves.ite ?_ ?_
            · exact Leaves.step (answerOnly_leaves ..) hx0 rfl rfl
            · refine Leaves.ite ?_ ?_
              · exact Leaves.step (openNow_leaves ..) hx0 rfl rfl
              · exact Leaves.step (Leaves.set_mbx _ _) hx0 rfl rfl
  · exact Leaves.one (noEffect_leaves ..) rfl rfl

theorem sesAuth_leaves (c : Cmd) (x : Session) (s : State) :
    Leaves [.ring, .sto, .int, .mbx, .img, .prg, .pair, .sec] [F.objIMG_PINS, F.objIMG_STATUS, F.objINT_LATCH,
      F.objINT_STAT, F.objINT_STATE, F.objINT_STORMED, F.objMBX_QUEUES, F.objMBX_USE, F.objPRG_ACT, F.objPRG_BANKA,
      F.objPRG_BANKB, F.objREC_STAT, F.objSEC_FW, F.objSEC_STATUS] s (sesAuth c x s).1 := by
  unfold sesAuth
  extract_lets -merge +onlyGivenNames x0
  try clear_value x0
  refine Leaves.ite1 ?_ ?_
  · exact Leaves.one (refuse_leaves ..) rfl rfl
  · refine Leaves.ite1 ?_ ?_
    · extract_lets -merge +onlyGivenNames x1 x2
      try clear_value x1
      refine Leaves.have x2 ?_ fun hx2 => ?_
      · unfold x2
        split
        · exact Leaves.one (putSession_leaves ..) rfl rfl
        · exact Leaves.refl ..
      try clear_value x2
      exact hx2
    · extract_lets -merge +onlyGivenNames x3
      refine Leaves.have x3 ?_ fun hx3 => ?_
      · unfold x3
        exact Leaves.step (authFailure_leaves ..) (Leaves.one (log_leaves ..) rfl rfl) rfl rfl
      try clear_value x3
      exact Leaves.step (refuse_leaves ..) (Leaves.step (closeSession_leaves ..) hx3 rfl rfl) rfl rfl

theorem sesClose_leaves (c : Cmd) (x : Session) (s : State) :
    Leaves [.ring, .sto, .int, .mbx, .img, .prg, .pair, .sec] [F.objIMG_PINS, F.objIMG_STATUS, F.objINT_LATCH,
      F.objINT_STAT, F.objINT_STATE, F.objINT_STORMED, F.objMBX_QUEUES, F.objMBX_USE, F.objPRG_ACT, F.objPRG_BANKA,
      F.objPRG_BANKB, F.objREC_STAT, F.objSEC_FW, F.objSEC_STATUS] s (sesClose c x s).1 := by
  unfold sesClose
  extract_lets -merge +onlyGivenNames x0
  try clear_value x0
  refine Leaves.ite1 ?_ ?_
  · exact Leaves.one (refuse_leaves ..) rfl rfl
  · exact Leaves.ite1 (Leaves.one (refuse_leaves ..) rfl rfl) (Leaves.refl ..)

theorem sesLimit_leaves (c : Cmd) (x : Session) (s : State) :
    Leaves [.mbx] [] s (sesLimit c x s).1 := by
  unfold sesLimit
  extract_lets -merge +onlyGivenNames x0 x1
  try clear_value x0 x1
  refine Leaves.ite1 ?_ ?_
  · exact Leaves.one (refuse_leaves ..) rfl rfl
  · refine Leaves.ite1 ?_ ?_
    · exact Leaves.one (refuse_leaves ..) rfl rfl
    · split
      · exact Leaves.one (putSession_leaves ..) rfl rfl
      · exact Leaves.one (refuse_leaves ..) rfl rfl

theorem sesIdle_leaves (c : Cmd) (x : Session) (s : State) :
    Leaves [.mbx] [] s (sesIdle c x s).1 := by
  unfold sesIdle
  extract_lets -merge +onlyGivenNames x0
  try clear_value x0
  refine Leaves.ite1 ?_ ?_
  · exact Leaves.one (refuse_leaves ..) rfl rfl
  · split
    · exact Leaves.step (done_leaves ..) (Leaves.one (putSession_leaves ..) rfl rfl) rfl rfl
    · exact Leaves.one (refuse_leaves ..) rfl rfl

theorem sesList_leaves (c : Cmd) (a1 : Session) (s : State) :
    Leaves [.ring, .sto, .int, .mbx] [F.objINT_LATCH, F.objINT_STAT, F.objINT_STATE, F.objINT_STORMED, F.objMBX_QUEUES,
      F.objMBX_USE, F.objREC_STAT] s (sesList c a1 s).1 := by
  unfold sesList
  exact Leaves.ite1 (Leaves.one (refuse_leaves ..) rfl rfl) (Leaves.refl ..)

theorem hdlQuery_leaves (c : Cmd) (x : Session) (s : State) :
    Leaves [] [] s (hdlQuery c x s).1 := by
  unfold hdlQuery
  refine Leaves.ite1 ?_ ?_
  · exact Leaves.one (refuse_leaves ..) rfl rfl
  · split
    · exact Leaves.one (refuse_leaves ..) rfl rfl
    · exact Leaves.refl ..
    · exact Leaves.ite1 (Leaves.one (refuse_leaves ..) rfl rfl) (Leaves.refl ..)

theorem hdlCancel_leaves (c : Cmd) (x : Session) (s : State) :
    Leaves [.ring, .sto, .int, .mbx, .prg, .pair, .sec] [F.objINT_LATCH, F.objINT_STAT, F.objINT_STATE, F.objINT_STORMED,
      F.objMBX_QUEUES, F.objMBX_USE, F.objPRG_ACT, F.objPRG_BANKA, F.objPRG_BANKB, F.objREC_STAT, F.objSEC_FW] s
      (hdlCancel c x s).1 := by
  unfold hdlCancel
  refine Leaves.ite1 ?_ ?_
  · exact Leaves.one (refuse_leaves ..) rfl rfl
  · split
    · exact Leaves.one (refuse_leaves ..) rfl rfl
    · exact Leaves.one (refuse_leaves ..) rfl rfl
    · refine Leaves.ite1 ?_ ?_
      · exact Leaves.one (refuse_leaves ..) rfl rfl
      · refine Leaves.ite1 ?_ ?_
        · exact Leaves.one (refuse_leaves ..) rfl rfl
        · refine Leaves.ite1 ?_ ?_
          · exact Leaves.one (done_leaves ..) rfl rfl
          · exact Leaves.ite1 (Leaves.refl ..) (Leaves.one (refuse_leaves ..) rfl rfl)

theorem sesRegs_leaves (s : State) (i : Nat) :
    Leaves [] [F.objMBX_SES] s (sesRegs s i) := by
  unfold sesRegs
  extract_lets -merge +onlyGivenNames x0
  try clear_value x0
  refine Leaves.step (State.wr_leaves ..) ?_ rfl rfl
  exact Leaves.step (State.wr_leaves ..) (Leaves.one (State.wr_leaves ..) rfl rfl) rfl rfl

theorem recRegs_leaves (s : State) :
    Leaves [] [F.objREC_STAT] s (recRegs s) := by
  unfold recRegs
  exact Leaves.ite (Leaves.step (State.wr_leaves ..) (Leaves.one (State.wr_leaves ..) rfl rfl) rfl rfl) (Leaves.refl ..)

theorem refreshRtc_leaves (s : State) :
    Leaves [] [F.objRTC_DATE, F.objRTC_TIME] s (refreshRtc s) := by
  unfold refreshRtc
  extract_lets -merge +onlyGivenNames x0 x1
  try clear_value x0 x1
  split
  · extract_lets -merge +onlyGivenNames x2
    refine Leaves.have x2 ?_ fun hx2 => ?_
    · unfold x2
      exact Leaves.step (State.wr_leaves ..) (Leaves.one (State.wr_leaves ..) rfl rfl) rfl rfl
    try clear_value x2
    extract_lets -merge +onlyGivenNames x3
    refine Leaves.have x3 ?_ fun hx3 => ?_
    · unfold x3
      refine Leaves.step (State.wr_leaves ..) ?_ rfl rfl
      exact Leaves.step (State.wr_leaves ..) (Leaves.step (State.wr_leaves ..) hx2 rfl rfl) rfl rfl
    try clear_value x3
    extract_lets -merge +onlyGivenNames x4
    refine Leaves.have x4 ?_ fun hx4 => ?_
    · unfold x4
      exact Leaves.step (State.wr_leaves ..) (Leaves.step (State.wr_leaves ..) hx3 rfl rfl) rfl rfl
    try clear_value x4
    refine Leaves.step (State.wr_leaves ..) ?_ rfl rfl
    exact Leaves.step (State.wr_leaves ..) (Leaves.step (State.wr_leaves ..) hx4 rfl rfl) rfl rfl

theorem refreshObj_leaves (s : State) (d : ObjDef) (i : Nat) :
    Leaves [.ring, .sto, .int, .pair] [F.objAG_CS, F.objAG_GSTAT, F.objDG_GSTAT, F.objINT_STAT, F.objINT_STATE,
      F.objINT_STORMED, F.objMBX_SES, F.objPLT_PSTATE, F.objPWR_DOMAINS, F.objREC_STAT, F.objRTC_DATE, F.objRTC_TIME,
      F.objSEC_FW, F.objSEC_RNG] s (refreshObj s d i) := by
  unfold refreshObj
  refine Leaves.ite ?_ ?_
  · exact Leaves.one (sesRegs_leaves ..) rfl rfl
  · refine Leaves.ite ?_ ?_
    · exact Leaves.one (recRegs_leaves ..) rfl rfl
    · refine Leaves.ite ?_ ?_
      · exact Leaves.one (refreshPair_leaves ..) rfl rfl
      · refine Leaves.ite ?_ ?_
        · exact Leaves.one (refreshRtc_leaves ..) rfl rfl
        · refine Leaves.ite ?_ ?_
          · exact Leaves.one (calAge_leaves ..) rfl rfl
          · refine Leaves.ite ?_ ?_
            · exact Leaves.one (dgSync_leaves ..) rfl rfl
            · refine Leaves.ite ?_ ?_
              · exact Leaves.one (agSync_leaves ..) rfl rfl
              · refine Leaves.ite ?_ ?_
                · extract_lets -merge +onlyGivenNames x0
                  try clear_value x0
                  exact Leaves.one (State.wr_leaves ..) rfl rfl
                · refine Leaves.ite ?_ ?_
                  · exact Leaves.one (State.wr_leaves ..) rfl rfl
                  · refine Leaves.ite ?_ ?_
                    · refine Leaves.transR (Leaves.foldl _ _ (fun y1 z1 _ => by
                        exact Leaves.one (selRegs_leaves ..) rfl rfl
                        ) _) ?_
                      exact Leaves.refl ..
                    · exact Leaves.refl ..

theorem gateStore_leaves {P : List Part} {O : List Nat} {w : Win} {b s : State} {k : State × Ans} (h0 : Leaves P O b s)
    (h : Leaves P O b k.1) : Leaves P O b (gateStore w s k).1 :=
  gate_leaves h0 (Leaves.ite1 h0 h)

theorem gateStore_keeps {P : List Part} {w : Win} {b s : State} {k : State × Ans} (h0 : Keeps P b s) (h : Keeps P b k.1) :
    Keeps P b (gateStore w s k).1 := gate_keeps h0 (Keeps.ite1 h0 h)

theorem objGet_keeps (c : Cmd) (a1 : Session) (s : State) :
    Keeps [.ring, .sto, .int, .mbx, .pair] s (objGet c a1 s).1 := by
  unfold objGet
  split
  · exact Keeps.one (refuse_leaves ..).1 rfl
  · extract_lets -merge +onlyGivenNames x0 x1
    try clear_value x0
    refine Keeps.have x1 (by unfold x1; exact Keeps.one (refreshObj_leaves ..).1 rfl) fun hx1 => ?_
    try clear_value x1
    extract_lets -merge +onlyGivenNames x2 x3 x4 x5 x6
    try clear_value x2 x3 x4 x5 x6
    refine Keeps.ite1 ?_ ?_
    · exact Keeps.one (refuse_leaves ..).1 rfl
    · refine gate_keeps ?_ ?_
      · exact Keeps.refl _ _
      · refine Keeps.ite1 ?_ ?_
        · exact Keeps.step (afterRead_keeps _ _) hx1 rfl
        · extract_lets -merge +onlyGivenNames x7
          try clear_value x7
          exact Keeps.refl _ _

theorem objSet_keeps (c : Cmd) (x : Session) (s : State) :
    Keeps [.time, .ring, .sto, .int, .mbx, .img, .scn, .prg, .fld, .ana, .ang, .plt, .pair, .rtc, .pwr, .free] s (objSet c x s).1 := by
  unfold objSet
  split
  · exact Keeps.one (refuse_leaves ..).1 rfl
  · refine gate_keeps ?_ ?_
    · exact Keeps.refl _ _
    · extract_lets -merge +onlyGivenNames x0 x1 x2 x3 x4 x5 x6
      try clear_value x0 x1 x2 x3 x4 x5 x6
      refine Keeps.ite1 ?_ ?_
      · exact Keeps.one (refuse_leaves ..).1 rfl
      · refine Keeps.ite1 ?_ ?_
        · exact Keeps.one (refuse_leaves ..).1 rfl
        · refine Keeps.ite1 ?_ ?_
          · exact Keeps.one (refuse_leaves ..).1 rfl
          · refine Keeps.step (done_leaves ..).1 ?_ rfl
            refine Keeps.step (liveAll_keeps _ _ _) ?_ rfl
            exact Keeps.ite (Keeps.refl _ _) (Keeps.one (putSession_leaves ..).1 rfl)

theorem objCommit_leaves (c : Cmd) (x : Session) (s : State) :
    Leaves [] [] s (objCommit c x s).1 := by
  unfold objCommit
  extract_lets -merge +onlyGivenNames x0 x1
  try clear_value x0 x1
  refine Leaves.ite1 ?_ ?_
  · exact Leaves.one (refuse_leaves ..) rfl rfl
  · refine gate_leaves ?_ ?_
    · exact Leaves.refl ..
    · exact Leaves.ite1 (Leaves.refl ..) (Leaves.refl ..)

theorem objDiscard_leaves (c : Cmd) (x : Session) (s : State) :
    Leaves [.mbx] [] s (objDiscard c x s).1 := by
  unfold objDiscard
  extract_lets -merge +onlyGivenNames x0
  try clear_value x0
  exact Leaves.ite1 (Leaves.one (refuse_leaves ..) rfl rfl) (Leaves.one (putSession_leaves ..) rfl rfl)

theorem objStore_leaves (c : Cmd) (x : Session) (s : State) :
    Leaves [.sto, .mbx] [] s (objStore c x s).1 := by
  unfold objStore
  split
  · exact Leaves.one (refuse_leaves ..) rfl rfl
  · refine Leaves.ite1 ?_ ?_
    · exact Leaves.one (refuse_leaves ..) rfl rfl
    · extract_lets -merge +onlyGivenNames x0
      try clear_value x0
      refine gateStore_leaves ?_ ?_
      · exact Leaves.refl ..
      · exact Leaves.refl ..

theorem writeAbandoned_leaves (s : State) (kind : Nat) (index : Nat) (opcode : Nat) :
    Leaves [.ring, .sto, .int] [F.objINT_LATCH, F.objINT_STAT, F.objINT_STATE, F.objINT_STORMED, F.objREC_STAT,
      F.objSTO_COUNT] s (writeAbandoned s kind index opcode) := by
  unfold writeAbandoned
  exact Leaves.step (log_leaves ..) (Leaves.one (State.inc_leaves ..) rfl rfl) rfl rfl

theorem objStoreDone_leaves (s : State) :
    Leaves [.ring, .sto, .int, .mbx] [F.objINT_LATCH, F.objINT_STAT, F.objINT_STATE, F.objINT_STORMED, F.objMBX_QUEUES,
      F.objMBX_USE, F.objREC_STAT, F.objSTO_COUNT, F.objSTO_STATUS] s (objStoreDone s) := by
  unfold objStoreDone
  split
  · exact Leaves.one (noEffect_leaves ..) rfl rfl
  · extract_lets -merge +onlyGivenNames x0 x1
    try clear_value x0
    refine Leaves.have x1 (by unfold x1; exact Leaves.one (Leaves.set_sto _ _) rfl rfl) fun hx1 => ?_
    try clear_value x1
    extract_lets -merge +onlyGivenNames x2
    refine Leaves.have x2 ?_ fun hx2 => ?_
    · unfold x2
      split
      · exact Leaves.step (startHdl_leaves ..) hx1 rfl rfl
      · exact hx1
    try clear_value x2
    refine Leaves.ite ?_ ?_
    · exact Leaves.step (finNum_leaves ..) (Leaves.step (writeAbandoned_leaves ..) hx2 rfl rfl) rfl rfl
    · extract_lets -merge +onlyGivenNames x3 x4
      try clear_value x3
      refine Leaves.have x4 ?_ fun hx4 => ?_
      · unfold x4
        refine Leaves.transR (Leaves.foldl _ _ (fun y5 z5 _ => by
          exact Leaves.one (writeRec_leaves ..) rfl rfl
          ) _) ?_
        exact hx2
      try clear_value x4
      extract_lets -merge +onlyGivenNames x6
      refine Leaves.have x6 (by unfold x6; exact Leaves.step (writeRec_leaves ..) hx4 rfl rfl) fun hx6 => ?_
      try clear_value x6
      extract_lets -merge +onlyGivenNames x7
      refine Leaves.have x7 ?_ fun hx7 => ?_
      · unfold x7
        refine Leaves.transR (Leaves.foldl _ _ (fun y8 z8 _ => by
          split
          · exact Leaves.one (setIncons_leaves ..) rfl rfl
          · exact Leaves.refl ..
          ) _) ?_
        exact hx6
      try clear_value x7
      exact Leaves.step (finNum_leaves ..) hx7 rfl rfl

theorem objList_leaves (c : Cmd) (a1 : Session) (s : State) :
    Leaves [.ring, .sto, .int, .mbx] [F.objINT_LATCH, F.objINT_STAT, F.objINT_STATE, F.objINT_STORMED, F.objMBX_QUEUES,
      F.objMBX_USE, F.objREC_STAT] s (objList c a1 s).1 := by
  unfold objList
  split
  · exact Leaves.one (refuse_leaves ..) rfl rfl
  · refine Leaves.ite1 ?_ ?_
    · exact Leaves.one (refuse_leaves ..) rfl rfl
    · split
      · exact Leaves.one (refuse_leaves ..) rfl rfl
      · exact Leaves.ite1 (Leaves.one (refuse_leaves ..) rfl rfl) (Leaves.refl ..)

theorem imgWrite_leaves (c : Cmd) (a1 : Session) (s : State) :
    Leaves [.img] [F.objIMG_STATUS] s (imgWrite c a1 s).1 := by
  unfold imgWrite
  extract_lets -merge +onlyGivenNames x0 x1 x2
  try clear_value x0 x1 x2
  refine Leaves.ite1 ?_ ?_
  · exact Leaves.one (refuse_leaves ..) rfl rfl
  · refine Leaves.ite1 ?_ ?_
    · exact Leaves.one (refuse_leaves ..) rfl rfl
    · refine Leaves.ite1 ?_ ?_
      · exact Leaves.one (refuse_leaves ..) rfl rfl
      · refine gate_leaves ?_ ?_
        · exact Leaves.refl ..
        · exact Leaves.ite1 (Leaves.one (refuse_leaves ..) rfl rfl) (Leaves.one (stageWrite_leaves ..) rfl rfl)

theorem snapPin_leaves (c : Cmd) (x : Session) (s : State) :
    Leaves [.img] [F.objIMG_PINS, F.objIMG_STATUS] s (snapPin c x s).1 := by
  unfold snapPin
  refine Leaves.ite1 ?_ ?_
  · exact Leaves.one (refuse_leaves ..) rfl rfl
  · refine gate_leaves ?_ ?_
    · exact Leaves.refl ..
    · split
      · exact Leaves.one (clearLost_leaves ..) rfl rfl
      · split
        · exact Leaves.one (refuse_leaves ..) rfl rfl
        · extract_lets -merge +onlyGivenNames x0
          try clear_value x0
          refine Leaves.ite1 ?_ ?_
          · exact Leaves.refl ..
          · refine Leaves.ite1 ?_ ?_
            · exact Leaves.one (refuse_leaves ..) rfl rfl
            · exact Leaves.step (pinRegs_leaves ..) (Leaves.one (Leaves.set_img _ _) rfl rfl) rfl rfl

theorem snapRead_leaves (c : Cmd) (x : Session) (s : State) :
    Leaves [.mbx, .img] [] s (snapRead c x s).1 := by
  unfold snapRead
  extract_lets -merge +onlyGivenNames x0 x1 x2
  try clear_value x0 x1 x2
  refine Leaves.ite1 ?_ ?_
  · exact Leaves.one (refuse_leaves ..) rfl rfl
  · refine gate_leaves ?_ ?_
    · exact Leaves.refl ..
    · split
      · exact Leaves.ite1 (Leaves.refl ..) (Leaves.one (clearLost_leaves ..) rfl rfl)
      · split
        · exact Leaves.refl ..
        · exact Leaves.refl ..

theorem snapReadConfirm_leaves (k : Nat) (bad : List Nat) (s : State) :
    Leaves [.ring, .sto, .int, .mbx] [F.objINT_LATCH, F.objINT_STAT, F.objINT_STATE, F.objINT_STORMED, F.objMBX_QUEUES,
      F.objMBX_USE, F.objREC_STAT] s (snapReadConfirm k bad s) := by
  unfold snapReadConfirm
  split
  · exact Leaves.one (noEffect_leaves ..) rfl rfl
  · split
    · refine Leaves.ite ?_ ?_
      · exact Leaves.one (noEffect_leaves ..) rfl rfl
      · split
        · exact Leaves.one (fin_leaves ..) rfl rfl
        · extract_lets -merge +onlyGivenNames x0
          try clear_value x0
          refine Leaves.ite ?_ ?_
          · exact Leaves.one (fin_leaves ..) rfl rfl
          · extract_lets -merge +onlyGivenNames x1
            have hx1 : ∀ w2_0 w2_5, Leaves [.ring, .sto, .int, .mbx] [F.objINT_LATCH, F.objINT_STAT, F.objINT_STATE, F.objINT_STORMED, F.objMBX_QUEUES, F.objMBX_USE, F.objREC_STAT] w2_0 (x1 w2_0 w2_5) := by
              intro w2_0 w2_5
              unfold x1
              exact Leaves.one (log_leaves ..) rfl rfl
            try clear_value x1
            refine Leaves.step (fin_leaves ..) ?_ rfl rfl
            refine Leaves.transR (Leaves.foldl _ _ (fun y2 z2 _ => by
              exact Leaves.transR (hx1 ..) (Leaves.refl ..)
              ) _) ?_
            exact Leaves.refl ..
    · exact Leaves.one (noEffect_leaves ..) rfl rfl

theorem snapUnpin_leaves (c : Cmd) (x : Session) (s : State) :
    Leaves [.img] [F.objIMG_PINS, F.objIMG_STATUS] s (snapUnpin c x s).1 := by
  unfold snapUnpin
  extract_lets -merge +onlyGivenNames x0
  try clear_value x0
  refine Leaves.ite1 ?_ ?_
  · exact Leaves.one (refuse_leaves ..) rfl rfl
  · refine gate_leaves ?_ ?_
    · exact Leaves.refl ..
    · refine Leaves.ite1 ?_ ?_
      · refine Leaves.step (done_leaves ..) ?_ rfl rfl
        exact Leaves.step (pinRegs_leaves ..) (Leaves.one (Leaves.set_img _ _) rfl rfl) rfl rfl
      · exact Leaves.one (refuse_leaves ..) rfl rfl

theorem modeSet_leaves (c : Cmd) (a1 : Session) (s : State) :
    Leaves [.ring, .sto, .int, .mbx, .scn, .plt] [F.objINT_LATCH, F.objINT_STAT, F.objINT_STATE, F.objINT_STORMED,
      F.objMBX_QUEUES, F.objMBX_USE, F.objREC_STAT, F.objSCN_MODE] s (modeSet c a1 s).1 := by
  unfold modeSet
  extract_lets -merge +onlyGivenNames x0 x1
  try clear_value x0 x1
  refine Leaves.ite1 ?_ ?_
  · exact Leaves.one (refuse_leaves ..) rfl rfl
  · refine gate_leaves ?_ ?_
    · exact Leaves.refl ..
    · refine Leaves.ite1 ?_ ?_
      · exact Leaves.one (refuse_leaves ..) rfl rfl
      · split
        · exact Leaves.refl ..
        · exact Leaves.refl ..

theorem modReset_leaves (c : Cmd) (a1 : Session) (s : State) :
    Leaves [.clk] [] s (modReset c a1 s).1 := by
  unfold modReset
  extract_lets -merge +onlyGivenNames x0
  try clear_value x0
  refine Leaves.ite1 ?_ ?_
  · exact Leaves.one (refuse_leaves ..) rfl rfl
  · refine gate_leaves ?_ ?_
    · exact Leaves.refl ..
    · exact Leaves.step (done_leaves ..) (Leaves.one (Leaves.set_clk _ _) rfl rfl) rfl rfl

theorem loadBegin_leaves (c : Cmd) (a1 : Session) (s : State) :
    Leaves [.sto, .mbx, .prg] [F.objPRG_BANKA, F.objPRG_BANKB, F.objSTO_STATUS] s (loadBegin c a1 s).1 := by
  unfold loadBegin
  extract_lets -merge +onlyGivenNames x0 x1
  try clear_value x0 x1
  refine Leaves.ite1 ?_ ?_
  · exact Leaves.one (refuse_leaves ..) rfl rfl
  · refine Leaves.ite1 ?_ ?_
    · exact Leaves.one (refuse_leaves ..) rfl rfl
    · refine gateStore_leaves ?_ ?_
      · exact Leaves.refl ..
      · extract_lets -merge +onlyGivenNames x2
        try clear_value x2
        exact Leaves.ite1 (Leaves.refl ..) (Leaves.ite1 (Leaves.refl ..) (Leaves.ite1 (Leaves.refl ..) (Leaves.refl ..)))

theorem loadData_leaves (c : Cmd) (a1 : Session) (s : State) :
    Leaves [.sto] [] s (loadData c a1 s).1 := by
  unfold loadData
  extract_lets -merge +onlyGivenNames x0 x1
  try clear_value x0 x1
  refine Leaves.ite1 ?_ ?_
  · exact Leaves.one (refuse_leaves ..) rfl rfl
  · refine gateStore_leaves ?_ ?_
    · exact Leaves.refl ..
    · split
      · exact Leaves.one (refuse_leaves ..) rfl rfl
      · refine Leaves.ite1 ?_ ?_
        · exact Leaves.one (refuse_leaves ..) rfl rfl
        · extract_lets -merge +onlyGivenNames x2 x3 x4
          try clear_value x2 x3 x4
          exact Leaves.step (done_leaves ..) (Leaves.one (Leaves.set_sto _ _) rfl rfl) rfl rfl

theorem loadEnd_leaves (c : Cmd) (a1 : Session) (s : State) :
    Leaves [.prg] [] s (loadEnd c a1 s).1 := by
  unfold loadEnd
  refine gate_leaves ?_ ?_
  · exact Leaves.refl ..
  · split
    · exact Leaves.one (refuse_leaves ..) rfl rfl
    · exact Leaves.step (done_leaves ..) (Leaves.one (Leaves.set_prg _ _) rfl rfl) rfl rfl

theorem note_leaves (s : State) (k : Nat) (progress : Nat) :
    Leaves [.ring, .sto, .int, .mbx] [F.objINT_STAT, F.objINT_STATE, F.objINT_STORMED, F.objMBX_QUEUES, F.objREC_STAT] s
      (note s k progress) := by
  unfold note
  split
  · exact Leaves.refl ..
  · refine Leaves.ite ?_ ?_
    · exact Leaves.step (placeRecs_leaves ..) (Leaves.one (putHdl_leaves ..) rfl rfl) rfl rfl
    · exact Leaves.one (putHdl_leaves ..) rfl rfl

theorem loadChecks_leaves (s : State) :
    Leaves [.ring, .sto, .int, .mbx, .prg] [F.objINT_LATCH, F.objINT_STAT, F.objINT_STATE, F.objINT_STORMED,
      F.objMBX_QUEUES, F.objMBX_USE, F.objPRG_BANKA, F.objPRG_BANKB, F.objREC_STAT] s (loadChecks s) := by
  unfold loadChecks
  split
  · exact Leaves.one (noEffect_leaves ..) rfl rfl
  · refine Leaves.ite ?_ ?_
    · exact Leaves.one (noEffect_leaves ..) rfl rfl
    · split
      · exact Leaves.one (endLoad_leaves ..) rfl rfl
      · exact Leaves.step (note_leaves ..) (Leaves.one (Leaves.set_prg _ _) rfl rfl) rfl rfl

theorem laneBankCopy_leaves (bad : Nat) (s : State) :
    Leaves [.ring, .sto, .int, .mbx, .prg] [F.objINT_LATCH, F.objINT_STAT, F.objINT_STATE, F.objINT_STORMED,
      F.objMBX_QUEUES, F.objMBX_USE, F.objPRG_BANKA, F.objPRG_BANKB, F.objREC_STAT, F.objSTO_COUNT, F.objSTO_STATUS] s
      (laneBankCopy bad s) := by
  unfold laneBankCopy
  split
  · exact Leaves.one (noEffect_leaves ..) rfl rfl
  · refine Leaves.ite ?_ ?_
    · exact Leaves.one (noEffect_leaves ..) rfl rfl
    · refine Leaves.ite ?_ ?_
      · exact Leaves.one (endLoad_leaves ..) rfl rfl
      · refine Leaves.ite ?_ ?_
        · exact Leaves.step (endLoad_leaves ..) (Leaves.one (writeAbandoned_leaves ..) rfl rfl) rfl rfl
        · extract_lets -merge +onlyGivenNames x0 x1
          try clear_value x0
          refine Leaves.have x1 ?_ fun hx1 => ?_
          · unfold x1
            exact Leaves.step (writeRec_leaves ..) (Leaves.one (putBank_leaves ..) rfl rfl) rfl rfl
          try clear_value x1
          exact Leaves.step (endLoad_leaves ..) hx1 rfl rfl

theorem loadAbort_leaves (c : Cmd) (a1 : Session) (s : State) :
    Leaves [.ring, .sto, .int, .mbx, .prg] [F.objINT_LATCH, F.objINT_STAT, F.objINT_STATE, F.objINT_STORMED,
      F.objMBX_QUEUES, F.objMBX_USE, F.objPRG_BANKA, F.objPRG_BANKB, F.objREC_STAT] s (loadAbort c a1 s).1 := by
  unfold loadAbort
  refine gate_leaves ?_ ?_
  · exact Leaves.refl ..
  · split
    · refine Leaves.ite1 ?_ ?_
      · exact Leaves.step (done_leaves ..) (Leaves.one (cancelLoad_leaves ..) rfl rfl) rfl rfl
      · exact Leaves.one (refuse_leaves ..) rfl rfl
    · split
      · exact Leaves.ite1 (Leaves.one (refuse_leaves ..) rfl rfl) (Leaves.one (refuse_leaves ..) rfl rfl)
      · exact Leaves.one (refuse_leaves ..) rfl rfl

theorem nextCandidate_leaves (s : State) (a : Act) :
    Leaves [.ring, .sto, .int, .mbx, .prg] [F.objINT_LATCH, F.objINT_STAT, F.objINT_STATE, F.objINT_STORMED,
      F.objMBX_QUEUES, F.objMBX_USE, F.objPRG_ACT, F.objREC_STAT] s (nextCandidate s a) := by
  unfold nextCandidate
  refine Leaves.ite ?_ ?_
  · exact Leaves.step (endActivation_leaves ..) (Leaves.one (putAct_leaves ..) rfl rfl) rfl rfl
  · exact Leaves.ite (Leaves.one (chooseSwap_leaves ..) rfl rfl) (Leaves.one (putAct_leaves ..) rfl rfl)

theorem restartCopies_leaves (s : State) :
    Leaves [.plt] [] s (restartCopies s) := by
  unfold restartCopies
  exact Leaves.one (updPlt_leaves ..) rfl rfl

theorem swapQuietPoint_leaves (s : State) :
    Leaves [.ring, .sto, .int, .mbx, .prg, .plt] [F.objINT_LATCH, F.objINT_STAT, F.objINT_STATE, F.objINT_STORMED,
      F.objMBX_QUEUES, F.objMBX_USE, F.objPRG_ACT, F.objREC_STAT] s (swapQuietPoint s) := by
  unfold swapQuietPoint
  split
  · exact Leaves.one (noEffect_leaves ..) rfl rfl
  · extract_lets -merge +onlyGivenNames x0
    try clear_value x0
    refine Leaves.ite ?_ ?_
    · exact Leaves.one (noEffect_leaves ..) rfl rfl
    · refine Leaves.ite ?_ ?_
      · exact Leaves.one (nextCandidate_leaves ..) rfl rfl
      · refine Leaves.ite ?_ ?_
        · extract_lets -merge +onlyGivenNames x1 x2
          try clear_value x1
          refine Leaves.have x2 (by unfold x2; exact Leaves.one (putAct_leaves ..) rfl rfl) fun hx2 => ?_
          try clear_value x2
          exact Leaves.step (restartCopies_leaves ..) (Leaves.step (Leaves.set_prg _ _) hx2 rfl rfl) rfl rfl
        · exact Leaves.one (noEffect_leaves ..) rfl rfl

theorem programSwap_leaves (s : State) :
    Leaves [.time, .ring, .sto, .int, .mbx, .img, .scn, .prg, .fld, .pair] [F.objANG_EV, F.objDG_COS, F.objINT_LATCH,
      F.objINT_STAT, F.objINT_STATE, F.objINT_STORMED, F.objMBX_QUEUES, F.objMBX_USE, F.objPLT_PSTATE, F.objPPR_WINSTAT,
      F.objPRG_ACT, F.objPRG_BANKA, F.objPRG_BANKB, F.objREC_STAT, F.objSCN_MODE, F.objSCN_RETAIN, F.objSCN_T,
      F.objSCN_TSTAT] s (programSwap s) := by
  unfold programSwap
  split
  · exact Leaves.one (noEffect_leaves ..) rfl rfl
  · refine Leaves.ite ?_ ?_
    · exact Leaves.one (noEffect_leaves ..) rfl rfl
    · refine Leaves.ite ?_ ?_
      · exact Leaves.ite (Leaves.one (makeSwap_leaves ..) rfl rfl) (Leaves.one (noEffect_leaves ..) rfl rfl)
      · extract_lets -merge +onlyGivenNames x0
        try clear_value x0
        exact Leaves.ite (Leaves.one (swapInRun_leaves ..) rfl rfl) (Leaves.one (noEffect_leaves ..) rfl rfl)

theorem swapDeadline_leaves (s : State) :
    Leaves [.time, .ring, .sto, .int, .mbx, .img, .scn, .prg, .fld, .pair] [F.objANG_EV, F.objDG_COS, F.objINT_LATCH,
      F.objINT_STAT, F.objINT_STATE, F.objINT_STORMED, F.objMBX_QUEUES, F.objMBX_USE, F.objPLT_PSTATE, F.objPPR_WINSTAT,
      F.objPRG_ACT, F.objREC_STAT, F.objSCN_MODE, F.objSCN_TSTAT] s (swapDeadline s) := by
  unfold swapDeadline
  split
  · exact Leaves.one (noEffect_leaves ..) rfl rfl
  · refine Leaves.ite ?_ ?_
    · exact Leaves.one (noEffect_leaves ..) rfl rfl
    · refine Leaves.ite ?_ ?_
      · exact Leaves.ite (Leaves.one (standbyMissed_leaves ..) rfl rfl) (Leaves.one (noEffect_leaves ..) rfl rfl)
      · refine Leaves.ite ?_ ?_
        · exact Leaves.one (noEffect_leaves ..) rfl rfl
        · extract_lets -merge +onlyGivenNames x0
          refine Leaves.have x0 (by unfold x0; exact Leaves.one (releaseDeferred_leaves ..) rfl rfl) fun hx0 => ?_
          try clear_value x0
          extract_lets -merge +onlyGivenNames x1
          refine Leaves.have x1 ?_ fun hx1 => ?_
          · unfold x1
            exact Leaves.ite (Leaves.step (pairEvent_leaves ..) hx0 rfl rfl) hx0
          try clear_value x1
          exact Leaves.step (nextCandidate_leaves ..) hx1 rfl rfl

theorem standbyLagSwap_leaves (s : State) :
    Leaves [.time, .ring, .sto, .int, .mbx, .img, .scn, .prg, .fld, .pair] [F.objANG_EV, F.objDG_COS, F.objINT_LATCH,
      F.objINT_STAT, F.objINT_STATE, F.objINT_STORMED, F.objMBX_QUEUES, F.objMBX_USE, F.objPLT_PSTATE, F.objPPR_WINSTAT,
      F.objPRG_ACT, F.objPRG_BANKA, F.objPRG_BANKB, F.objREC_STAT, F.objSCN_MODE, F.objSCN_RETAIN, F.objSCN_T,
      F.objSCN_TSTAT] s (standbyLagSwap s) := by
  unfold standbyLagSwap
  split
  · exact Leaves.one (noEffect_leaves ..) rfl rfl
  · extract_lets -merge +onlyGivenNames x0
    try clear_value x0
    refine Leaves.ite ?_ ?_
    · exact Leaves.one (noEffect_leaves ..) rfl rfl
    · extract_lets -merge +onlyGivenNames x1 x2
      try clear_value x1
      refine Leaves.have x2 ?_ fun hx2 => ?_
      · unfold x2
        refine Leaves.step (log_leaves ..) ?_ rfl rfl
        exact Leaves.step (State.wr_leaves ..) (Leaves.one (makeSwap_leaves ..) rfl rfl) rfl rfl
      try clear_value x2
      exact Leaves.step (pairSub_leaves ..) hx2 rfl rfl

theorem pairLease_leaves (c : Cmd) (a1 : Session) (s : State) :
    Leaves [.pair] [F.objPLT_PSTATE] s (pairLease c a1 s).1 := by
  unfold pairLease
  extract_lets -merge +onlyGivenNames x0 x1 x2
  try clear_value x0 x1
  refine Leaves.have x2 (by unfold x2; exact Leaves.one (refreshPair_leaves ..) rfl rfl) fun hx2 => ?_
  try clear_value x2
  extract_lets -merge +onlyGivenNames x3
  try clear_value x3
  refine Leaves.ite1 ?_ ?_
  · exact Leaves.step (refuse_leaves ..) hx2 rfl rfl
  · refine gate_leaves ?_ ?_
    · exact hx2
    · refine Leaves.ite1 ?_ ?_
      · exact Leaves.step (refuse_leaves ..) hx2 rfl rfl
      · refine Leaves.ite1 ?_ ?_
        · extract_lets -merge +onlyGivenNames x4
          refine Leaves.have x4 ?_ fun hx4 => ?_
          · unfold x4
            exact Leaves.step (refreshPair_leaves ..) (Leaves.step (updPair_leaves ..) hx2 rfl rfl) rfl rfl
          try clear_value x4
          exact hx4
        · refine Leaves.ite1 ?_ ?_
          · exact Leaves.step (refuse_leaves ..) hx2 rfl rfl
          · refine Leaves.ite1 ?_ ?_
            · exact Leaves.step (refuse_leaves ..) hx2 rfl rfl
            · refine Leaves.ite1 ?_ ?_
              · exact Leaves.step (refuse_leaves ..) hx2 rfl rfl
              · extract_lets -merge +onlyGivenNames x5 x6
                try clear_value x5
                refine Leaves.have x6 (by unfold x6; exact Leaves.step (updPair_leaves ..) hx2 rfl rfl) fun hx6 => ?_
                try clear_value x6
                extract_lets -merge +onlyGivenNames x7
                refine Leaves.have x7 ?_ fun hx7 => ?_
                · unfold x7
                  refine Leaves.ite ?_ ?_
                  · refine Leaves.ite ?_ ?_
                    · exact Leaves.step (claim_leaves ..) hx6 rfl rfl
                    · exact Leaves.step (setYield_leaves ..) hx6 rfl rfl
                  · exact hx6
                try clear_value x7
                exact Leaves.step (refreshPair_leaves ..) hx7 rfl rfl

theorem pairDrill_leaves (c : Cmd) (a1 : Session) (s : State) :
    Leaves [.mbx, .pair] [F.objPLT_PSTATE] s (pairDrill c a1 s).1 := by
  unfold pairDrill
  extract_lets -merge +onlyGivenNames x0 x1
  try clear_value x0
  refine Leaves.have x1 (by unfold x1; exact Leaves.one (refreshPair_leaves ..) rfl rfl) fun hx1 => ?_
  try clear_value x1
  refine Leaves.ite1 ?_ ?_
  · exact Leaves.step (refuse_leaves ..) hx1 rfl rfl
  · refine gate_leaves ?_ ?_
    · exact hx1
    · exact Leaves.ite1 hx1 (Leaves.ite1 hx1 (Leaves.ite1 hx1 (Leaves.ite1 hx1 hx1)))

theorem recRead_leaves (c : Cmd) (a1 : Session) (s : State) :
    Leaves [.mbx] [] s (recRead c a1 s).1 := by
  unfold recRead
  extract_lets -merge +onlyGivenNames x0 x1 x2 x3
  try clear_value x0 x1 x2 x3
  refine Leaves.ite1 ?_ ?_
  · exact Leaves.one (refuse_leaves ..) rfl rfl
  · refine gate_leaves ?_ ?_
    · exact Leaves.refl ..
    · exact Leaves.ite1 (Leaves.refl ..) (Leaves.ite1 (Leaves.refl ..) (Leaves.refl ..))

theorem markLog_leaves (uncorr : Bool) (s : State) (k : Nat) :
    Leaves [.ring, .sto, .int] [F.objINT_LATCH, F.objINT_STAT, F.objINT_STATE, F.objINT_STORMED, F.objREC_STAT,
      F.objSTO_COUNT] s (markLog uncorr s k) := by
  unfold markLog
  split
  · exact Leaves.refl ..
  · extract_lets -merge +onlyGivenNames x0 x1 x2
    try clear_value x0 x1
    refine Leaves.have x2 (by unfold x2; exact Leaves.one (Leaves.set_sto _ _) rfl rfl) fun hx2 => ?_
    try clear_value x2
    exact Leaves.ite (Leaves.step (uncorrectable_leaves ..) hx2 rfl rfl) hx2

theorem recReadConfirm_leaves (k : Nat) (uncorr : List Nat) (crc : List Nat) (s : State) :
    Leaves [.ring, .sto, .int, .mbx] [F.objINT_LATCH, F.objINT_STAT, F.objINT_STATE, F.objINT_STORMED, F.objMBX_QUEUES,
      F.objMBX_USE, F.objREC_STAT, F.objSTO_COUNT] s (recReadConfirm k uncorr crc s) := by
  unfold recReadConfirm
  split
  · exact Leaves.one (noEffect_leaves ..) rfl rfl
  · split
    · extract_lets -merge +onlyGivenNames x0
      refine Leaves.have x0 ?_ fun hx0 => ?_
      · unfold x0
        refine Leaves.transR (Leaves.foldl _ _ (fun y2 z2 _ => by
          exact Leaves.one (markLog_leaves ..) rfl rfl
          ) _) ?_
        refine Leaves.transR (Leaves.foldl _ _ (fun y1 z1 _ => by
          exact Leaves.one (markLog_leaves ..) rfl rfl
          ) _) ?_
        exact Leaves.refl ..
      try clear_value x0
      extract_lets -merge +onlyGivenNames x3 x4
      try clear_value x3 x4
      exact Leaves.ite (Leaves.step (fin_leaves ..) hx0 rfl rfl) (Leaves.step (fin_leaves ..) hx0 rfl rfl)
    · exact Leaves.one (noEffect_leaves ..) rfl rfl

theorem recClear_leaves (c : Cmd) (a1 : Session) (s : State) :
    Leaves [.mbx] [] s (recClear c a1 s).1 := by
  unfold recClear
  extract_lets -merge +onlyGivenNames x0 x1 x2
  try clear_value x0 x1 x2
  refine Leaves.ite1 ?_ ?_
  · exact Leaves.one (refuse_leaves ..) rfl rfl
  · refine gateStore_leaves ?_ ?_
    · exact Leaves.refl ..
    · exact Leaves.ite1 (Leaves.refl ..) (Leaves.refl ..)

theorem fwBegin_leaves (c : Cmd) (a1 : Session) (s : State) :
    Leaves [.sto, .mbx, .sec] [F.objSEC_FW] s (fwBegin c a1 s).1 := by
  unfold fwBegin
  extract_lets -merge +onlyGivenNames x0 x1
  try clear_value x0 x1
  refine Leaves.ite1 ?_ ?_
  · exact Leaves.one (refuse_leaves ..) rfl rfl
  · refine Leaves.ite1 ?_ ?_
    · exact Leaves.one (refuse_leaves ..) rfl rfl
    · refine gateStore_leaves ?_ ?_
      · exact Leaves.refl ..
      · exact Leaves.ite1 (Leaves.refl ..) (Leaves.refl ..)

theorem fwData_leaves (c : Cmd) (a1 : Session) (s : State) :
    Leaves [.sto] [] s (fwData c a1 s).1 := by
  unfold fwData
  extract_lets -merge +onlyGivenNames x0 x1
  try clear_value x0 x1
  refine Leaves.ite1 ?_ ?_
  · exact Leaves.one (refuse_leaves ..) rfl rfl
  · refine gateStore_leaves ?_ ?_
    · exact Leaves.refl ..
    · split
      · exact Leaves.one (refuse_leaves ..) rfl rfl
      · refine Leaves.ite1 ?_ ?_
        · exact Leaves.one (refuse_leaves ..) rfl rfl
        · extract_lets -merge +onlyGivenNames x2
          try clear_value x2
          exact Leaves.step (done_leaves ..) (Leaves.one (Leaves.set_sto _ _) rfl rfl) rfl rfl

theorem fwEnd_leaves (c : Cmd) (a1 : Session) (s : State) :
    Leaves [.sec] [] s (fwEnd c a1 s).1 := by
  unfold fwEnd
  refine Leaves.ite1 ?_ ?_
  · exact Leaves.one (refuse_leaves ..) rfl rfl
  · refine gate_leaves ?_ ?_
    · exact Leaves.refl ..
    · split
      · exact Leaves.one (refuse_leaves ..) rfl rfl
      · exact Leaves.step (done_leaves ..) (Leaves.one (Leaves.set_sec _ _) rfl rfl) rfl rfl

theorem fwChecks_leaves (s : State) :
    Leaves [.ring, .sto, .int, .mbx, .sec] [F.objINT_LATCH, F.objINT_STAT, F.objINT_STATE, F.objINT_STORMED,
      F.objMBX_QUEUES, F.objMBX_USE, F.objREC_STAT, F.objSEC_FW] s (fwChecks s) := by
  unfold fwChecks
  split
  · exact Leaves.one (noEffect_leaves ..) rfl rfl
  · refine Leaves.ite ?_ ?_
    · exact Leaves.one (noEffect_leaves ..) rfl rfl
    · extract_lets -merge +onlyGivenNames x0 x1 x2 x3 x4
      try clear_value x0 x1 x2 x3
      refine Leaves.have x4 (by unfold x4; exact Leaves.one (Leaves.set_sec _ _) rfl rfl) fun hx4 => ?_
      try clear_value x4
      extract_lets -merge +onlyGivenNames x5
      refine Leaves.have x5 (by unfold x5; exact Leaves.ite hx4 (Leaves.step (note_leaves ..) hx4 rfl rfl)) fun hx5 => ?_
      try clear_value x5
      refine Leaves.ite ?_ ?_
      · exact Leaves.step (putUnsel_leaves ..) (Leaves.step (endStage_leaves ..) hx5 rfl rfl) rfl rfl
      · extract_lets -merge +onlyGivenNames x6 x7
        try clear_value x6
        refine Leaves.have x7 (by unfold x7; exact Leaves.step (log_leaves ..) hx5 rfl rfl) fun hx7 => ?_
        try clear_value x7
        exact Leaves.step (putUnsel_leaves ..) (Leaves.step (endStage_leaves ..) hx7 rfl rfl) rfl rfl

theorem fwActivate_leaves (c : Cmd) (a1 : Session) (s : State) :
    Leaves [.ring, .sto, .int, .mbx, .sec] [F.objINT_LATCH, F.objINT_STAT, F.objINT_STATE, F.objINT_STORMED,
      F.objMBX_QUEUES, F.objMBX_USE, F.objREC_STAT, F.objSEC_FW] s (fwActivate c a1 s).1 := by
  unfold fwActivate
  extract_lets -merge +onlyGivenNames x0
  try clear_value x0
  refine Leaves.ite1 ?_ ?_
  · exact Leaves.one (refuse_leaves ..) rfl rfl
  · refine gate_leaves ?_ ?_
    · exact Leaves.refl ..
    · exact Leaves.ite1 (Leaves.refl ..) (Leaves.refl ..)

theorem svHandover_leaves (spareOk : Bool) (s : State) :
    Leaves [.ring, .sto, .int, .mbx, .sec] [F.objINT_LATCH, F.objINT_STAT, F.objINT_STATE, F.objINT_STORMED,
      F.objMBX_QUEUES, F.objMBX_USE, F.objREC_STAT, F.objSEC_FW, F.objSEC_STATUS] s (svHandover spareOk s) := by
  unfold svHandover
  split
  · exact Leaves.one (noEffect_leaves ..) rfl rfl
  · refine Leaves.ite ?_ ?_
    · exact Leaves.one (noEffect_leaves ..) rfl rfl
    · extract_lets -merge +onlyGivenNames x0 x1
      try clear_value x0
      refine Leaves.have x1 ?_ fun hx1 => ?_
      · unfold x1
        exact Leaves.step (log_leaves ..) (Leaves.one (State.wr_leaves ..) rfl rfl) rfl rfl
      try clear_value x1
      extract_lets -merge +onlyGivenNames x2
      refine Leaves.have x2 ?_ fun hx2 => ?_
      · unfold x2
        exact Leaves.step (State.wr_leaves ..) (Leaves.step (State.wr_leaves ..) hx1 rfl rfl) rfl rfl
      try clear_value x2
      exact Leaves.step (finishFw_leaves ..) hx2 rfl rfl

theorem fieldBankSwap_leaves (g : Nat) (ok : Bool) (s : State) :
    Leaves [.ring, .sto, .int, .mbx, .ana, .sec, .free] [F.objAG_CS, F.objINT_LATCH, F.objINT_STAT, F.objINT_STATE,
      F.objINT_STORMED, F.objMBX_QUEUES, F.objMBX_USE, F.objREC_STAT, F.objSEC_FW] s (fieldBankSwap g ok s) := by
  unfold fieldBankSwap
  extract_lets -merge +onlyGivenNames x0
  try clear_value x0
  split
  · refine Leaves.ite ?_ ?_
    · exact Leaves.one (noEffect_leaves ..) rfl rfl
    · extract_lets -merge +onlyGivenNames x1
      refine Leaves.have x1 ?_ fun hx1 => ?_
      · unfold x1
        exact Leaves.ite (Leaves.one (abandonCal_leaves ..) rfl rfl) (Leaves.refl ..)
      try clear_value x1
      extract_lets -merge +onlyGivenNames x2 x3
      try clear_value x2
      refine Leaves.have x3 (by unfold x3; exact Leaves.step (putFwAct_leaves ..) hx1 rfl rfl) fun hx3 => ?_
      try clear_value x3
      refine Leaves.ite ?_ ?_
      · exact hx3
      · exact Leaves.ite (Leaves.step (finishFw_leaves ..) hx3 rfl rfl) (Leaves.step (finishFw_leaves ..) hx3 rfl rfl)
  · exact Leaves.one (noEffect_leaves ..) rfl rfl

theorem laneUcodeSwap_leaves (k : Nat) (s : State) :
    Leaves [.ring, .sto, .int, .plt, .sec] [F.objINT_LATCH, F.objINT_STAT, F.objINT_STATE, F.objINT_STORMED,
      F.objPLT_COUNT, F.objPLT_LANE, F.objREC_STAT, F.objSCN_MODE] s (laneUcodeSwap k s) := by
  unfold laneUcodeSwap
  split
  · exact Leaves.one (noEffect_leaves ..) rfl rfl
  · refine Leaves.ite ?_ ?_
    · exact Leaves.one (noEffect_leaves ..) rfl rfl
    · extract_lets -merge +onlyGivenNames x0
      refine Leaves.have x0 ?_ fun hx0 => ?_
      · unfold x0
        refine Leaves.step (State.inc_leaves ..) ?_ rfl rfl
        refine Leaves.step (setLane_leaves ..) ?_ rfl rfl
        refine Leaves.step (State.wr_leaves ..) ?_ rfl (by unfold Sys2Proof.Machine.laneCauseFld; (try dsimp only); first | rfl | (simp only [List.all_cons, List.all_nil, Bool.and_true]; (repeat' split) <;> rfl))
        exact Leaves.refl ..
      try clear_value x0
      extract_lets -merge +onlyGivenNames x1
      refine Leaves.have x1 (by unfold x1; exact Leaves.step (pltCase_leaves ..) hx0 rfl rfl) fun hx1 => ?_
      try clear_value x1
      extract_lets -merge +onlyGivenNames x2
      refine Leaves.have x2 ?_ fun hx2 => ?_
      · unfold x2
        exact Leaves.step (setLane_leaves ..) (Leaves.step (updPlt_leaves ..) hx1 rfl rfl) rfl rfl
      try clear_value x2
      exact Leaves.step (putFwAct_leaves ..) hx2 rfl rfl

theorem keySet_leaves (c : Cmd) (x : Session) (s : State) :
    Leaves [.ring, .sto, .int, .mbx, .img, .prg, .pair, .sec] [F.objIMG_PINS, F.objIMG_STATUS, F.objINT_LATCH,
      F.objINT_STAT, F.objINT_STATE, F.objINT_STORMED, F.objMBX_QUEUES, F.objMBX_USE, F.objPRG_ACT, F.objPRG_BANKA,
      F.objPRG_BANKB, F.objREC_STAT, F.objSEC_FW, F.objSEC_STATUS, F.objSTO_STATUS] s (keySet c x s).1 := by
  unfold keySet
  extract_lets -merge +onlyGivenNames x0 x1 x2 x3
  try clear_value x0 x1 x2 x3
  refine Leaves.ite1 ?_ ?_
  · exact Leaves.one (refuse_leaves ..) rfl rfl
  · refine gateStore_leaves ?_ ?_
    · exact Leaves.refl ..
    · refine Leaves.ite1 ?_ ?_
      · exact Leaves.one (refuse_leaves ..) rfl rfl
      · refine Leaves.ite1 ?_ ?_
        · exact Leaves.one (refuse_leaves ..) rfl rfl
        · extract_lets -merge +onlyGivenNames x4
          refine Leaves.have x4 ?_ fun hx4 => ?_
          · unfold x4
            exact Leaves.step (keyRegs_leaves ..) (Leaves.one (writeRec_leaves ..) rfl rfl) rfl rfl
          try clear_value x4
          extract_lets -merge +onlyGivenNames x5
          refine Leaves.have x5 (by unfold x5; exact Leaves.step (closeAll_leaves ..) hx4 rfl rfl) fun hx5 => ?_
          try clear_value x5
          extract_lets -merge +onlyGivenNames x6 x7
          try clear_value x6
          refine Leaves.have x7 (by unfold x7; exact Leaves.step (Leaves.set_mbx _ _) hx5 rfl rfl) fun hx7 => ?_
          try clear_value x7
          exact Leaves.step (done_leaves ..) (Leaves.step (log_leaves ..) hx7 rfl rfl) rfl rfl

theorem nop_leaves (c : Cmd) (a1 : Session) (s : State) :
    Leaves [] [] s (nop c a1 s).1 := by
  unfold nop
  exact Leaves.ite1 (Leaves.one (done_leaves ..) rfl rfl) (Leaves.one (refuse_leaves ..) rfl rfl)

theorem sessionIdleTimeout_leaves (s : State) :
    Leaves [.ring, .sto, .int, .mbx, .img, .prg, .pair, .sec] [F.objIMG_PINS, F.objIMG_STATUS, F.objINT_LATCH,
      F.objINT_STAT, F.objINT_STATE, F.objINT_STORMED, F.objMBX_QUEUES, F.objMBX_USE, F.objPRG_ACT, F.objPRG_BANKA,
      F.objPRG_BANKB, F.objREC_STAT, F.objSEC_FW, F.objSEC_STATUS] s (sessionIdleTimeout s) := by
  unfold sessionIdleTimeout
  exact Leaves.ite (Leaves.one (noEffect_leaves ..) rfl rfl) (Leaves.one (closeAll_leaves ..) rfl rfl)

theorem modeRunEntry_leaves (s : State) :
    Leaves [.time, .ring, .sto, .int, .mbx, .img, .scn, .fld, .ana, .plt, .pair] [F.objAG_GSTAT, F.objDG_CHSTAT,
      F.objDG_GSTAT, F.objINT_LATCH, F.objINT_STAT, F.objINT_STATE, F.objINT_STORMED, F.objMBX_QUEUES, F.objMBX_USE,
      F.objPLT_PSTATE, F.objREC_STAT, F.objSCN_MODE] s (modeRunEntry s) := by
  unfold modeRunEntry
  split
  · exact Leaves.one (noEffect_leaves ..) rfl rfl
  · refine Leaves.ite ?_ ?_
    · exact Leaves.one (noEffect_leaves ..) rfl rfl
    · extract_lets -merge +onlyGivenNames x0 x1
      try clear_value x0
      refine Leaves.have x1 (by unfold x1; exact Leaves.one (clearPend_leaves ..) rfl rfl) fun hx1 => ?_
      try clear_value x1
      extract_lets -merge +onlyGivenNames x2 x3 x4
      try clear_value x2 x3
      refine Leaves.have x4 ?_ fun hx4 => ?_
      · unfold x4
        refine Leaves.step (Leaves.upd (ps := [.img, .scn]) (s := x1) rfl (by intro p hp; cases p <;> first | rfl | exact absurd (by decide) hp)) ?_ rfl rfl
        exact hx1
      try clear_value x4
      extract_lets -merge +onlyGivenNames x5
      refine Leaves.have x5 ?_ fun hx5 => ?_
      · unfold x5
        exact Leaves.ite (Leaves.step (enterRunRole_leaves ..) (Leaves.step (updPlt_leaves ..) hx4 rfl rfl) rfl rfl) hx4
      try clear_value x5
      exact Leaves.step (finMode_leaves ..) (Leaves.step (setMode_leaves ..) hx5 rfl rfl) rfl rfl

theorem swapInStop_leaves (s : State) :
    Leaves [.prg] [] s (swapInStop s) := by
  unfold swapInStop
  split
  · exact Leaves.ite (Leaves.refl ..) (Leaves.one (putAct_leaves ..) rfl rfl)
  · exact Leaves.refl ..

theorem settleMode_leaves (s : State) :
    Leaves [.time, .ring, .sto, .int, .mbx, .img, .scn, .prg, .pair] [F.objIMG_PINS, F.objIMG_STATUS, F.objINT_LATCH,
      F.objINT_STAT, F.objINT_STATE, F.objINT_STORMED, F.objMBX_QUEUES, F.objMBX_USE, F.objPLT_PSTATE, F.objPRG_ACT,
      F.objREC_STAT, F.objSCN_MODE] s (settleMode s) := by
  unfold settleMode
  split
  · exact Leaves.refl ..
  · refine Leaves.ite ?_ ?_
    · exact Leaves.refl ..
    · extract_lets -merge +onlyGivenNames x0
      refine Leaves.have x0 (by unfold x0; exact Leaves.one (clearPend_leaves ..) rfl rfl) fun hx0 => ?_
      try clear_value x0
      refine Leaves.ite ?_ ?_
      · extract_lets -merge +onlyGivenNames x1 x2 x3 x4
        try clear_value x1 x2 x3
        refine Leaves.have x4 ?_ fun hx4 => ?_
        · unfold x4
          refine Leaves.step (Leaves.upd (ps := [.img, .scn, .prg]) (s := x0) rfl (by intro p hp; cases p <;> first | rfl | exact absurd (by decide) hp)) ?_ rfl rfl
          exact hx0
        try clear_value x4
        extract_lets -merge +onlyGivenNames x5
        refine Leaves.have x5 ?_ fun hx5 => ?_
        · unfold x5
          exact Leaves.step (setMode_leaves ..) (Leaves.step (pinRegs_leaves ..) hx4 rfl rfl) rfl rfl
        try clear_value x5
        exact Leaves.step (finMode_leaves ..) (Leaves.step (swapInStop_leaves ..) hx5 rfl rfl) rfl rfl
      · extract_lets -merge +onlyGivenNames x6
        refine Leaves.have x6 (by unfold x6; exact Leaves.step (setMode_leaves ..) hx0 rfl rfl) fun hx6 => ?_
        try clear_value x6
        extract_lets -merge +onlyGivenNames x7 x8
        try clear_value x7
        refine Leaves.have x8 (by unfold x8; exact Leaves.step (Leaves.set_prg _ _) hx6 rfl rfl) fun hx8 => ?_
        try clear_value x8
        exact Leaves.step (endPending_leaves ..) (Leaves.step (finMode_leaves ..) hx8 rfl rfl) rfl rfl

theorem modeHoldEntry_leaves (s : State) :
    Leaves [.time, .ring, .sto, .int, .mbx, .img, .scn, .prg, .fld, .pair] [F.objANG_EV, F.objDG_COS, F.objIMG_PINS,
      F.objIMG_STATUS, F.objINT_LATCH, F.objINT_STAT, F.objINT_STATE, F.objINT_STORMED, F.objMBX_QUEUES, F.objMBX_USE,
      F.objPLT_PSTATE, F.objPPR_WINSTAT, F.objPRG_ACT, F.objREC_STAT, F.objSCN_MODE, F.objSCN_TSTAT] s (modeHoldEntry s)
      := by
  unfold modeHoldEntry
  split
  · refine Leaves.ite ?_ ?_
    · refine Leaves.step (settleMode_leaves ..) ?_ rfl rfl
      exact Leaves.step (dropWaiting_leaves ..) (Leaves.one (putPend_leaves ..) rfl rfl) rfl rfl
    · exact Leaves.one (noEffect_leaves ..) rfl rfl
  · exact Leaves.one (noEffect_leaves ..) rfl rfl

theorem modeStopEntry_leaves (s : State) :
    Leaves [.time, .ring, .sto, .int, .mbx, .img, .scn, .prg, .fld, .pair] [F.objANG_EV, F.objDG_COS, F.objIMG_PINS,
      F.objIMG_STATUS, F.objINT_LATCH, F.objINT_STAT, F.objINT_STATE, F.objINT_STORMED, F.objMBX_QUEUES, F.objMBX_USE,
      F.objPLT_PSTATE, F.objPPR_WINSTAT, F.objPRG_ACT, F.objREC_STAT, F.objSCN_MODE, F.objSCN_TSTAT] s (modeStopEntry s)
      := by
  unfold modeStopEntry
  split
  · refine Leaves.ite ?_ ?_
    · extract_lets -merge +onlyGivenNames x0
      refine Leaves.have x0 ?_ fun hx0 => ?_
      · unfold x0
        refine Leaves.step (safeCommand_leaves ..) ?_ rfl rfl
        exact Leaves.step (dropWaiting_leaves ..) (Leaves.one (putPend_leaves ..) rfl rfl) rfl rfl
      try clear_value x0
      extract_lets -merge +onlyGivenNames x1
      exact Leaves.step (settleMode_leaves ..) (Leaves.step (Leaves.set_scn _ _) hx0 rfl rfl) rfl rfl
    · exact Leaves.one (noEffect_leaves ..) rfl rfl
  · exact Leaves.one (noEffect_leaves ..) rfl rfl

theorem faultExit_leaves (s : State) :
    Leaves [.time, .ring, .sto, .int, .mbx, .img, .scn, .fld, .pair] [F.objANG_EV, F.objINT_LATCH, F.objINT_STAT,
      F.objINT_STATE, F.objINT_STORMED, F.objMBX_QUEUES, F.objMBX_USE, F.objPLT_PSTATE, F.objREC_STAT, F.objSCN_MODE] s
      (faultExit s) := by
  unfold faultExit
  split
  · refine Leaves.ite ?_ ?_
    · refine Leaves.step (finMode_leaves ..) ?_ rfl rfl
      refine Leaves.step (safeCommand_leaves ..) ?_ rfl rfl
      exact Leaves.step (setMode_leaves ..) (Leaves.one (clearPend_leaves ..) rfl rfl) rfl rfl
    · exact Leaves.one (noEffect_leaves ..) rfl rfl
  · exact Leaves.one (noEffect_leaves ..) rfl rfl

theorem startupLimit_leaves (s : State) :
    Leaves [.time, .ring, .sto, .int, .mbx, .img, .scn, .prg, .fld, .pair] [F.objANG_EV, F.objINT_LATCH, F.objINT_STAT,
      F.objINT_STATE, F.objINT_STORMED, F.objMBX_QUEUES, F.objMBX_USE, F.objPLT_PSTATE, F.objPRG_ACT, F.objREC_STAT,
      F.objSCN_MODE] s (startupLimit s) := by
  unfold startupLimit
  split
  · exact Leaves.ite (Leaves.one (enterFault_leaves ..) rfl rfl) (Leaves.one (noEffect_leaves ..) rfl rfl)
  · exact Leaves.one (noEffect_leaves ..) rfl rfl

theorem holdLimit_leaves (s : State) :
    Leaves [.ring, .sto, .int, .mbx, .scn] [F.objINT_LATCH, F.objINT_STAT, F.objINT_STATE, F.objINT_STORMED,
      F.objMBX_QUEUES, F.objMBX_USE, F.objREC_STAT, F.objSCN_MODE] s (holdLimit s) := by
  unfold holdLimit
  refine Leaves.ite ?_ ?_
  · exact Leaves.one (noEffect_leaves ..) rfl rfl
  · extract_lets -merge +onlyGivenNames x0
    have hx0 : ∀ w1_0, Leaves [.ring, .sto, .int, .mbx, .scn] [F.objINT_LATCH, F.objINT_STAT, F.objINT_STATE, F.objINT_STORMED, F.objMBX_QUEUES, F.objMBX_USE, F.objREC_STAT, F.objSCN_MODE] w1_0 (x0 w1_0) := by
      intro w1_0
      unfold x0
      exact Leaves.one (putPend_leaves ..) rfl rfl
    try clear_value x0
    split
    · refine Leaves.ite ?_ ?_
      · exact Leaves.one (noEffect_leaves ..) rfl rfl
      · exact Leaves.transR (hx0 ..) (Leaves.step (clearPend_leaves ..) (Leaves.one (finMode_leaves ..) rfl rfl) rfl rfl)
    · exact Leaves.transR (hx0 ..) (Leaves.refl ..)

theorem t0Release_leaves (s : State) :
    Leaves [.time, .ring, .sto, .int, .mbx, .img, .scn, .prg, .fld, .pair] [F.objANG_EV, F.objINT_LATCH, F.objINT_STAT,
      F.objINT_STATE, F.objINT_STORMED, F.objMBX_QUEUES, F.objMBX_USE, F.objPLT_PSTATE, F.objPRG_ACT, F.objREC_STAT,
      F.objSCN_MODE, F.objSCN_TSTAT] s (t0Release s) := by
  unfold t0Release
  refine Leaves.ite ?_ ?_
  · exact Leaves.one (noEffect_leaves ..) rfl rfl
  · extract_lets -merge +onlyGivenNames x0 x1
    try clear_value x0
    refine Leaves.have x1 (by unfold x1; exact Leaves.one (Leaves.set_scn _ _) rfl rfl) fun hx1 => ?_
    try clear_value x1
    extract_lets -merge +onlyGivenNames x2 x3
    try clear_value x2
    refine Leaves.have x3 (by unfold x3; exact Leaves.ite (Leaves.step (updPair_leaves ..) hx1 rfl rfl) hx1) fun hx3 => ?_
    try clear_value x3
    extract_lets -merge +onlyGivenNames x4
    refine Leaves.have x4 (by unfold x4; exact Leaves.step (releaseTask_leaves ..) hx3 rfl rfl) fun hx4 => ?_
    try clear_value x4
    exact Leaves.step (Leaves.set_scn _ _) hx4 rfl rfl

theorem periodicRelease_leaves (task : Nat) (s : State) :
    Leaves [.time, .ring, .sto, .int, .mbx, .img, .scn, .prg, .fld, .pair] [F.objANG_EV, F.objINT_LATCH, F.objINT_STAT,
      F.objINT_STATE, F.objINT_STORMED, F.objMBX_QUEUES, F.objMBX_USE, F.objPLT_PSTATE, F.objPRG_ACT, F.objREC_STAT,
      F.objSCN_MODE, F.objSCN_TSTAT] s (periodicRelease task s) := by
  unfold periodicRelease
  extract_lets -merge +onlyGivenNames x0 x1
  try clear_value x0 x1
  refine Leaves.ite ?_ ?_
  · exact Leaves.one (noEffect_leaves ..) rfl rfl
  · exact Leaves.step (releaseTask_leaves ..) (Leaves.one (Leaves.set_scn _ _) rfl rfl) rfl rfl

theorem taskWatchdog_leaves (s : State) :
    Leaves [.time, .ring, .sto, .int, .mbx, .img, .scn, .prg, .fld, .pair] [F.objANG_EV, F.objINT_LATCH, F.objINT_STAT,
      F.objINT_STATE, F.objINT_STORMED, F.objMBX_QUEUES, F.objMBX_USE, F.objPLT_PSTATE, F.objPRG_ACT, F.objREC_STAT,
      F.objSCN_MODE] s (taskWatchdog s) := by
  unfold taskWatchdog
  extract_lets -merge +onlyGivenNames x0
  exact Leaves.ite (Leaves.one (enterFault_leaves ..) rfl rfl) (Leaves.one (noEffect_leaves ..) rfl rfl)

theorem snapshotNoexec_leaves (s : State) :
    Leaves [.img] [] s (snapshotNoexec s) := by
  unfold snapshotNoexec
  extract_lets -merge +onlyGivenNames x0
  try clear_value x0
  exact Leaves.ite (Leaves.one (noEffect_leaves ..) rfl rfl) (Leaves.one (closeSnap_leaves ..) rfl rfl)

theorem plaitCommit_leaves (wc : Nat) (late : Nat) (unc : Nat) (off : Nat) (s : State) :
    Leaves [.time, .ring, .sto, .int, .mbx, .img, .scn, .prg, .fld, .ana, .ang, .plt, .pair] [F.objAG_CONV, F.objAG_GSTAT,
      F.objANG_CAPPOS, F.objANG_EV, F.objANG_STATUS, F.objDG_CHSTAT, F.objDG_COS, F.objDG_GSTAT, F.objIMG_PINS,
      F.objIMG_STATUS, F.objIMG_STITCH, F.objINT_LATCH, F.objINT_STAT, F.objINT_STATE, F.objINT_STORMED, F.objMBX_QUEUES,
      F.objMBX_USE, F.objPLT_COUNT, F.objPLT_LANE, F.objPLT_PSTATE, F.objPPR_WINSTAT, F.objPRG_ACT, F.objREC_STAT,
      F.objSCN_MODE, F.objSCN_TSTAT] s (plaitCommit wc late unc off s) := by
  unfold plaitCommit
  split
  · exact Leaves.one (noEffect_leaves ..) rfl rfl
  · extract_lets -merge +onlyGivenNames x0 x1
    try clear_value x0
    refine Leaves.have x1 (by unfold x1; exact Leaves.one (Leaves.set_scn _ _) rfl rfl) fun hx1 => ?_
    try clear_value x1
    extract_lets -merge +onlyGivenNames x2 x3
    try clear_value x2
    extract_lets -merge +onlyGivenNames x4 x5 x6
    try clear_value x4 x5
    refine Leaves.have x6 ?_ fun hx6 => ?_
    · unfold x6
      refine Leaves.transR (Leaves.foldl _ _ (fun y7 z7 _ => by
        exact Leaves.ite (Leaves.step (log_leaves ..) (Leaves.one (State.inc_leaves ..) rfl rfl) rfl rfl) (Leaves.refl ..)
        ) _) ?_
      exact hx1
    try clear_value x6
    extract_lets -merge +onlyGivenNames x8
    refine Leaves.have x8 (by unfold x8; exact Leaves.step (updPlt_leaves ..) hx6 rfl rfl) fun hx8 => ?_
    try clear_value x8
    extract_lets -merge +onlyGivenNames x9
    extract_lets -merge +onlyGivenNames x10 x11
    try clear_value x10
    have hx11 : ∀ w12_0 w12_6, Leaves [.time, .ring, .sto, .int, .mbx, .img, .scn, .prg, .fld, .ana, .ang, .plt, .pair] [F.objAG_CONV, F.objAG_GSTAT, F.objANG_CAPPOS, F.objANG_EV, F.objANG_STATUS, F.objDG_CHSTAT, F.objDG_COS, F.objDG_GSTAT, F.objIMG_PINS, F.objIMG_STATUS, F.objIMG_STITCH, F.objINT_LATCH, F.objINT_STAT, F.objINT_STATE, F.objINT_STORMED, F.objMBX_QUEUES, F.objMBX_USE, F.objPLT_COUNT, F.objPLT_LANE, F.objPLT_PSTATE, F.objPPR_WINSTAT, F.objPRG_ACT, F.objREC_STAT, F.objSCN_MODE, F.objSCN_TSTAT] w12_0 (x11 w12_0 w12_6) := by
      intro w12_0 w12_6
      unfold x11
      split
      · exact Leaves.refl ..
      · extract_lets -merge +onlyGivenNames x12
        refine Leaves.have x12.1 ?_ fun hx12 => ?_
        · unfold x12
          exact Leaves.step (disagree_leaves ..) (Leaves.one (updPlt_leaves ..) rfl rfl) rfl rfl
        try clear_value x12
        refine Leaves.ite ?_ ?_
        · exact hx12
        · refine Leaves.ite ?_ ?_
          · exact Leaves.step (retireLane_leaves ..) hx12 rfl rfl
          · refine Leaves.ite ?_ ?_
            · exact Leaves.step (retireLane_leaves ..) hx12 rfl rfl
            · exact Leaves.ite (Leaves.step (retireLane_leaves ..) hx12 rfl rfl) hx12
    try clear_value x11
    extract_lets -merge +onlyGivenNames x13
    refine Leaves.have x13 ?_ fun hx13 => ?_
    · unfold x13
      refine Leaves.transR (Leaves.foldl _ _ (fun y14 z14 _ => by
        exact Leaves.transR (hx11 ..) (Leaves.refl ..)
        ) _) ?_
      exact hx8
    try clear_value x13
    split
    · extract_lets -merge +onlyGivenNames x15
      refine Leaves.have x15 ?_ fun hx15 => ?_
      · unfold x15
        exact Leaves.ite hx13 (Leaves.step (log_leaves ..) (Leaves.step (State.inc_leaves ..) hx13 rfl rfl) rfl rfl)
      try clear_value x15
      refine Leaves.step (settleMode_leaves ..) ?_ rfl rfl
      exact Leaves.step (unresolved_leaves ..) (Leaves.step (closeUncommitted_leaves ..) hx15 rfl rfl) rfl rfl
    · refine Leaves.ite ?_ ?_
      · exact hx13
      · refine Leaves.ite ?_ ?_
        · refine Leaves.step (settleMode_leaves ..) ?_ rfl rfl
          exact Leaves.step (completeTask_leaves ..) (Leaves.step (closeUncommitted_leaves ..) hx13 rfl rfl) rfl rfl
        · exact Leaves.step (settleMode_leaves ..) (Leaves.step (commitExec_leaves ..) hx13 rfl rfl) rfl rfl

theorem Leaves.foldl1 {α β : Type} {ps : List Part} {os : List Nat} (g : State × β → α → State × β) (l : List α)
    (h : ∀ p x, Leaves ps os p.1 (g p x).1) (p : State × β) : Leaves ps os p.1 (l.foldl g p).1 := by
  induction l generalizing p with
  | nil => exact Leaves.refl _ _ _
  | cons x l ih => exact (h p x).trans (ih _)

theorem fieldVoteDg_leaves (s : State) (g bad : Nat) (x : CopySet) :
    Leaves [.ring, .sto, .int, .fld] [F.objDG_CHSTAT, F.objDG_CNT, F.objDG_GSTAT, F.objINT_STAT, F.objINT_STATE,
      F.objINT_STORMED, F.objREC_STAT] s (fieldVoteDg s g bad x) := by
  unfold fieldVoteDg
  refine Leaves.step (updDgg_leaves ..) ?_ rfl rfl
  exact Leaves.transR (Leaves.foldl1 _ _ (fun _ _ => applyVoted_leaves ..) (_, _))
    (Leaves.step (putDgg_leaves ..) (Leaves.refl ..) rfl rfl)

theorem fieldVoteAg_leaves (s : State) (g bad : Nat) (x : CopySet) :
    Leaves [.ring, .sto, .int, .ana] [F.objAG_GSTAT, F.objINT_STAT, F.objINT_STATE, F.objINT_STORMED, F.objREC_STAT] s
      (fieldVoteAg s g bad x) := by
  unfold fieldVoteAg
  extract_lets ks one s1 r diff s2
  have hone : ∀ p k, Leaves [.ring, .sto, .int, .ana]
      [F.objAG_GSTAT, F.objINT_STAT, F.objINT_STATE, F.objINT_STORMED, F.objREC_STAT] p.1 (one p k).1 := by
    intro p k
    simp only [one]
    split
    · exact Leaves.step (putAch_leaves ..) (Leaves.refl ..) rfl rfl
    · exact Leaves.refl ..
  have h1 : Leaves [.ring, .sto, .int, .ana]
      [F.objAG_GSTAT, F.objINT_STAT, F.objINT_STATE, F.objINT_STORMED, F.objREC_STAT] s s1 :=
    Leaves.step (updAgg_leaves ..) (Leaves.refl ..) rfl rfl
  have hr : Leaves [.ring, .sto, .int, .ana]
      [F.objAG_GSTAT, F.objINT_STAT, F.objINT_STATE, F.objINT_STORMED, F.objREC_STAT] s r.1 := by
    unfold r
    exact Leaves.transR (Leaves.foldl1 one _ hone (s1, 0)) h1
  have h2 : Leaves [.ring, .sto, .int, .ana]
      [F.objAG_GSTAT, F.objINT_STAT, F.objINT_STATE, F.objINT_STORMED, F.objREC_STAT] s s2 := by
    unfold s2
    clear_value r
    exact Leaves.step (updAgg_leaves ..) hr rfl rfl
  clear_value s2
  exact Leaves.ite h2 (Leaves.step (applyOuts_leaves ..) h2 rfl rfl)

theorem fieldVote_leaves (g : Nat) (bad : Nat) (s : State) :
    Leaves [.ring, .sto, .int, .fld, .ana] [F.objAG_GSTAT, F.objDG_CHSTAT, F.objDG_CNT, F.objDG_GSTAT, F.objINT_STAT,
      F.objINT_STATE, F.objINT_STORMED, F.objREC_STAT] s (fieldVote g bad s) := by
  unfold fieldVote
  split
  · exact Leaves.one (noEffect_leaves ..) rfl rfl
  · extract_lets -merge +onlyGivenNames x0 x1
    try clear_value x0
    refine Leaves.have x1 (by unfold x1; exact Leaves.one (Leaves.set_fld _ _) rfl rfl) fun hx1 => ?_
    try clear_value x1
    refine Leaves.ite ?_ ?_
    · exact Leaves.ite (Leaves.step (fieldVoteDg_leaves ..) hx1 rfl rfl) hx1
    · exact Leaves.ite (Leaves.step (fieldVoteAg_leaves ..) hx1 rfl rfl) hx1

theorem safeDg_leaves (s : State) (g : Nat) (kind : Nat) :
    Leaves [.ring, .sto, .int, .fld] [F.objDG_CHSTAT, F.objDG_GSTAT, F.objINT_STAT, F.objINT_STATE, F.objINT_STORMED,
      F.objREC_STAT] s (safeDg s g kind) := by
  unfold safeDg
  extract_lets -merge +onlyGivenNames x0 x1
  try clear_value x0
  refine Leaves.have x1 (by unfold x1; exact Leaves.one (updDgg_leaves ..) rfl rfl) fun hx1 => ?_
  try clear_value x1
  refine Leaves.ite ?_ ?_
  · exact hx1
  · refine Leaves.transR (Leaves.foldl _ _ (fun y2 z2 _ => by
      exact Leaves.one (driveSafe_leaves ..) rfl rfl
      ) _) ?_
    exact hx1

theorem safeAg_leaves (s : State) (g : Nat) (kind : Nat) :
    Leaves [.ring, .sto, .int, .ana] [F.objAG_GSTAT, F.objINT_STAT, F.objINT_STATE, F.objINT_STORMED, F.objREC_STAT] s
      (safeAg s g kind) := by
  unfold safeAg
  extract_lets -merge +onlyGivenNames x0 x1
  try clear_value x0
  refine Leaves.have x1 (by unfold x1; exact Leaves.one (updAgg_leaves ..) rfl rfl) fun hx1 => ?_
  try clear_value x1
  exact Leaves.ite hx1 (Leaves.step (applyOuts_leaves ..) hx1 rfl rfl)

theorem safeValueCommand_leaves (g : Nat) (s : State) :
    Leaves [.ring, .sto, .int, .fld, .ana] [F.objAG_GSTAT, F.objDG_CHSTAT, F.objDG_GSTAT, F.objINT_STAT, F.objINT_STATE,
      F.objINT_STORMED, F.objREC_STAT] s (safeValueCommand g s) := by
  unfold safeValueCommand
  split
  · refine Leaves.ite ?_ ?_
    · exact Leaves.one (noEffect_leaves ..) rfl rfl
    · extract_lets -merge +onlyGivenNames x0 x1
      try clear_value x0
      refine Leaves.have x1 (by unfold x1; exact Leaves.one (Leaves.set_fld _ _) rfl rfl) fun hx1 => ?_
      try clear_value x1
      refine Leaves.ite ?_ ?_
      · exact Leaves.ite (Leaves.step (safeDg_leaves ..) hx1 rfl rfl) hx1
      · exact Leaves.ite (Leaves.step (safeAg_leaves ..) hx1 rfl rfl) hx1
  · exact Leaves.one (noEffect_leaves ..) rfl rfl

theorem holdDg_leaves (s : State) (g : Nat) :
    Leaves [.ring, .sto, .int, .fld] [F.objDG_GSTAT, F.objINT_STAT, F.objINT_STATE, F.objINT_STORMED, F.objREC_STAT] s
      (holdDg s g) := by
  unfold holdDg
  exact Leaves.one (updDgg_leaves ..) rfl rfl

theorem pairHoldCommand_leaves (g : Nat) (s : State) :
    Leaves [.ring, .sto, .int, .fld, .ana] [F.objAG_GSTAT, F.objDG_GSTAT, F.objINT_STAT, F.objINT_STATE, F.objINT_STORMED,
      F.objREC_STAT] s (pairHoldCommand g s) := by
  unfold pairHoldCommand
  refine Leaves.ite ?_ ?_
  · extract_lets -merge +onlyGivenNames x0 x1
    try clear_value x0
    refine Leaves.have x1 (by unfold x1; exact Leaves.one (Leaves.set_fld _ _) rfl rfl) fun hx1 => ?_
    try clear_value x1
    exact Leaves.ite (Leaves.step (holdDg_leaves ..) hx1 rfl rfl) (Leaves.step (updAgg_leaves ..) hx1 rfl rfl)
  · exact Leaves.one (noEffect_leaves ..) rfl rfl

theorem retainMiss_leaves (s : State) :
    Leaves [.scn] [F.objSCN_MODE] s (retainMiss s) := by
  unfold retainMiss
  extract_lets -merge +onlyGivenNames x0 x1 x2
  try clear_value x0 x1
  refine Leaves.have x2 ?_ fun hx2 => ?_
  · unfold x2
    exact Leaves.step (State.incTo_leaves ..) (Leaves.one (Leaves.set_scn _ _) rfl rfl) rfl rfl
  try clear_value x2
  exact Leaves.ite (Leaves.step (State.wr_leaves ..) hx2 rfl rfl) hx2

theorem retentiveCopy_leaves (s : State) :
    Leaves [.time, .ring, .sto, .int, .mbx, .img, .scn, .prg, .fld, .plt, .pair] [F.objANG_EV, F.objINT_LATCH,
      F.objINT_STAT, F.objINT_STATE, F.objINT_STORMED, F.objMBX_QUEUES, F.objMBX_USE, F.objPLT_COUNT, F.objPLT_LANE,
      F.objPLT_PSTATE, F.objPRG_ACT, F.objREC_STAT, F.objSCN_MODE, F.objSTO_STATUS] s (retentiveCopy s) := by
  unfold retentiveCopy
  refine Leaves.ite ?_ ?_
  · exact Leaves.one (noEffect_leaves ..) rfl rfl
  · extract_lets -merge +onlyGivenNames x0 x1 x2 x3
    try clear_value x0 x1 x2 x3
    split
    · exact Leaves.step (unresolved_leaves ..) (Leaves.one (retainMiss_leaves ..) rfl rfl) rfl rfl
    · refine Leaves.ite ?_ ?_
      · exact Leaves.one (retainMiss_leaves ..) rfl rfl
      · extract_lets -merge +onlyGivenNames x4
        refine Leaves.have x4 (by unfold x4; exact Leaves.one (writeRec_leaves ..) rfl rfl) fun hx4 => ?_
        try clear_value x4
        extract_lets -merge +onlyGivenNames x5 x6 x7
        try clear_value x5 x6
        refine Leaves.have x7 ?_ fun hx7 => ?_
        · unfold x7
          refine Leaves.step (Leaves.upd (ps := [.scn, .prg]) (s := x4) rfl (by intro p hp; cases p <;> first | rfl | exact absurd (by decide) hp)) ?_ rfl rfl
          exact hx4
        try clear_value x7
        exact Leaves.step (State.wr_leaves ..) (Leaves.step (State.wr_leaves ..) hx7 rfl rfl) rfl rfl

theorem ucodeFailed_leaves (s : State) (k : Nat) :
    Leaves [.sec] [] s (ucodeFailed s k) := by
  unfold ucodeFailed
  split
  · exact Leaves.ite (Leaves.one (putFwAct_leaves ..) rfl rfl) (Leaves.one (putFwAct_leaves ..) rfl rfl)
  · exact Leaves.refl ..

theorem laneTest_leaves (k : Nat) (pass : Bool) (s : State) :
    Leaves [.ring, .sto, .int, .mbx, .scn, .plt, .sec] [F.objINT_LATCH, F.objINT_STAT, F.objINT_STATE, F.objINT_STORMED,
      F.objMBX_QUEUES, F.objMBX_USE, F.objPLT_LANE, F.objREC_STAT, F.objSCN_MODE, F.objSEC_FW] s (laneTest k pass s) := by
  unfold laneTest
  refine Leaves.ite ?_ ?_
  · exact Leaves.one (noEffect_leaves ..) rfl rfl
  · extract_lets -merge +onlyGivenNames x0 x1
    try clear_value x0
    refine Leaves.have x1 (by unfold x1; exact Leaves.one (updPlt_leaves ..) rfl rfl) fun hx1 => ?_
    try clear_value x1
    refine Leaves.ite ?_ ?_
    · extract_lets -merge +onlyGivenNames x2
      refine Leaves.have x2 (by unfold x2; exact Leaves.step (pltCase_leaves ..) hx1 rfl rfl) fun hx2 => ?_
      try clear_value x2
      refine Leaves.ite ?_ ?_
      · exact Leaves.step (ucodeFailed_leaves ..) hx2 rfl rfl
      · refine Leaves.step (ucodeLost_leaves ..) ?_ rfl rfl
        refine Leaves.step (setLane_leaves ..) ?_ rfl rfl
        refine Leaves.step (State.wr_leaves ..) ?_ rfl (by unfold Sys2Proof.Machine.laneCauseFld; (try dsimp only); first | rfl | (simp only [List.all_cons, List.all_nil, Bool.and_true]; (repeat' split) <;> rfl))
        exact hx2
    · refine Leaves.ite ?_ ?_
      · exact Leaves.step (clearLane_leaves ..) hx1 rfl rfl
      · exact Leaves.ite hx1 (Leaves.step (setLane_leaves ..) (Leaves.step (updPlt_leaves ..) hx1 rfl rfl) rfl rfl)

theorem laneCopyPass_leaves (k : Nat) (s : State) :
    Leaves [.scn, .plt] [] s (laneCopyPass k s) := by
  unfold laneCopyPass
  split
  · exact Leaves.one (noEffect_leaves ..) rfl rfl
  · refine Leaves.ite ?_ ?_
    · exact Leaves.one (noEffect_leaves ..) rfl rfl
    · exact Leaves.step (updPlt_leaves ..) (Leaves.one (copyLane_leaves ..) rfl rfl) rfl rfl

theorem laneJoin_leaves (k : Nat) (s : State) :
    Leaves [.ring, .sto, .int, .mbx, .scn, .plt, .sec] [F.objINT_LATCH, F.objINT_STAT, F.objINT_STATE, F.objINT_STORMED,
      F.objMBX_QUEUES, F.objMBX_USE, F.objPLT_COUNT, F.objPLT_LANE, F.objREC_STAT, F.objSCN_MODE, F.objSEC_FW] s (laneJoin
      k s) := by
  unfold laneJoin
  split
  · exact Leaves.one (noEffect_leaves ..) rfl rfl
  · refine Leaves.ite ?_ ?_
    · exact Leaves.one (noEffect_leaves ..) rfl rfl
    · extract_lets -merge +onlyGivenNames x0
      refine Leaves.have x0 ?_ fun hx0 => ?_
      · unfold x0
        exact Leaves.step (updPlt_leaves ..) (Leaves.one (copyLane_leaves ..) rfl rfl) rfl rfl
      try clear_value x0
      extract_lets -merge +onlyGivenNames x1 x2
      try clear_value x1
      refine Leaves.have x2 ?_ fun hx2 => ?_
      · unfold x2
        exact Leaves.step (setLane_leaves ..) (Leaves.step (Leaves.set_scn _ _) hx0 rfl rfl) rfl rfl
      try clear_value x2
      refine Leaves.step (ucodeJoined_leaves ..) ?_ rfl rfl
      exact Leaves.step (pltCase_leaves ..) (Leaves.step (State.inc_leaves ..) hx2 rfl rfl) rfl rfl

theorem helloSend_leaves (s : State) :
    Leaves [.ring, .pair] [] s (helloSend s) := by
  unfold helloSend
  refine Leaves.ite ?_ ?_
  · extract_lets -merge +onlyGivenNames x0
    try clear_value x0
    exact Leaves.step (updPair_leaves ..) (Leaves.one (pairSub_leaves ..) rfl rfl) rfl rfl
  · exact Leaves.one (noEffect_leaves ..) rfl rfl

theorem hello_leaves (b : List Nat) (s : State) :
    Leaves [.pair] [F.objPLT_PSTATE] s (hello b s) := by
  unfold hello
  refine Leaves.ite ?_ ?_
  · refine Leaves.step (refreshPair_leaves ..) ?_ rfl rfl
    exact Leaves.step (updPair_leaves ..) (Leaves.one (heardPartner_leaves ..) rfl rfl) rfl rfl
  · exact Leaves.one (noEffect_leaves ..) rfl rfl

theorem ident_leaves (b : List Nat) (s : State) :
    Leaves [.ring, .sto, .int, .mbx, .prg, .pair] [F.objINT_LATCH, F.objINT_STAT, F.objINT_STATE, F.objINT_STORMED,
      F.objMBX_QUEUES, F.objMBX_USE, F.objPLT_PSTATE, F.objPRG_ACT, F.objREC_STAT] s (ident b s) := by
  unfold ident
  refine Leaves.ite ?_ ?_
  · exact Leaves.one (noEffect_leaves ..) rfl rfl
  · extract_lets -merge +onlyGivenNames x0
    refine Leaves.have x0 (by unfold x0; exact Leaves.one (heardPartner_leaves ..) rfl rfl) fun hx0 => ?_
    try clear_value x0
    extract_lets -merge +onlyGivenNames x1
    try clear_value x1
    refine Leaves.ite ?_ ?_
    · extract_lets -merge +onlyGivenNames x2 x3
      try clear_value x2
      refine Leaves.have x3 (by unfold x3; exact Leaves.ite (Leaves.step (putAct_leaves ..) hx0 rfl rfl) hx0) fun hx3 => ?_
      try clear_value x3
      exact Leaves.step (pairSub_leaves ..) hx3 rfl rfl
    · split
      · refine Leaves.ite ?_ ?_
        · exact hx0
        · refine Leaves.ite ?_ ?_
          · exact Leaves.step (chooseSwap_leaves ..) hx0 rfl rfl
          · exact Leaves.step (endActivation_leaves ..) hx0 rfl rfl
      · exact hx0

theorem identTimeout_leaves (s : State) :
    Leaves [.ring, .sto, .int, .mbx, .prg] [F.objINT_LATCH, F.objINT_STAT, F.objINT_STATE, F.objINT_STORMED,
      F.objMBX_QUEUES, F.objMBX_USE, F.objPRG_ACT, F.objREC_STAT] s (identTimeout s) := by
  unfold identTimeout
  split
  · exact Leaves.ite (Leaves.one (endActivation_leaves ..) rfl rfl) (Leaves.one (noEffect_leaves ..) rfl rfl)
  · exact Leaves.one (noEffect_leaves ..) rfl rfl

theorem swapAt_leaves (b : List Nat) (s : State) :
    Leaves [.ring, .prg, .pair] [F.objPLT_PSTATE, F.objPRG_ACT] s (swapAt b s) := by
  unfold swapAt
  refine Leaves.ite ?_ ?_
  · exact Leaves.one (noEffect_leaves ..) rfl rfl
  · extract_lets -merge +onlyGivenNames x0
    refine Leaves.have x0 (by unfold x0; exact Leaves.one (heardPartner_leaves ..) rfl rfl) fun hx0 => ?_
    try clear_value x0
    split
    · refine Leaves.ite ?_ ?_
      · extract_lets -merge +onlyGivenNames x1 x2
        try clear_value x1 x2
        refine Leaves.step (pairSub_leaves ..) ?_ rfl rfl
        exact Leaves.step (State.wr_leaves ..) (Leaves.step (putAct_leaves ..) hx0 rfl rfl) rfl rfl
      · exact hx0
    · exact hx0

theorem swapAck_leaves (b : List Nat) (s : State) :
    Leaves [.prg, .pair] [F.objPLT_PSTATE] s (swapAck b s) := by
  unfold swapAck
  refine Leaves.ite ?_ ?_
  · exact Leaves.one (noEffect_leaves ..) rfl rfl
  · extract_lets -merge +onlyGivenNames x0
    refine Leaves.have x0 (by unfold x0; exact Leaves.one (heardPartner_leaves ..) rfl rfl) fun hx0 => ?_
    try clear_value x0
    split
    · exact Leaves.ite (Leaves.step (putAct_leaves ..) hx0 rfl rfl) hx0
    · exact hx0

theorem swapDone_leaves (b : List Nat) (s : State) :
    Leaves [.ring, .sto, .int, .mbx, .prg, .pair] [F.objINT_LATCH, F.objINT_STAT, F.objINT_STATE, F.objINT_STORMED,
      F.objMBX_QUEUES, F.objMBX_USE, F.objPLT_PSTATE, F.objPRG_ACT, F.objREC_STAT] s (swapDone b s) := by
  unfold swapDone
  refine Leaves.ite ?_ ?_
  · exact Leaves.one (noEffect_leaves ..) rfl rfl
  · extract_lets -merge +onlyGivenNames x0
    refine Leaves.have x0 (by unfold x0; exact Leaves.one (heardPartner_leaves ..) rfl rfl) fun hx0 => ?_
    try clear_value x0
    extract_lets -merge +onlyGivenNames x1
    try clear_value x1
    split
    · refine Leaves.ite ?_ ?_
      · exact hx0
      · extract_lets -merge +onlyGivenNames x2
        refine Leaves.have x2 (by unfold x2; exact Leaves.step (State.wr_leaves ..) hx0 rfl rfl) fun hx2 => ?_
        try clear_value x2
        extract_lets -merge +onlyGivenNames x3
        refine Leaves.have x3 (by unfold x3; exact Leaves.ite hx2 (Leaves.step (log_leaves ..) hx2 rfl rfl)) fun hx3 => ?_
        try clear_value x3
        extract_lets -merge +onlyGivenNames x4
        try clear_value x4
        refine Leaves.ite ?_ ?_
        · exact Leaves.step (finishActivation_leaves ..) hx3 rfl rfl
        · exact Leaves.step (putAct_leaves ..) hx3 rfl rfl
    · exact hx0

theorem partnerSilence_leaves (s : State) :
    Leaves [.ring, .sto, .int, .mbx, .prg, .pair] [F.objINT_LATCH, F.objINT_STAT, F.objINT_STATE, F.objINT_STORMED,
      F.objMBX_QUEUES, F.objMBX_USE, F.objPLT_PSTATE, F.objPRG_ACT, F.objREC_STAT] s (partnerSilence s) := by
  unfold partnerSilence
  refine Leaves.ite ?_ ?_
  · exact Leaves.one (noEffect_leaves ..) rfl rfl
  · extract_lets -merge +onlyGivenNames x0
    refine Leaves.have x0 ?_ fun hx0 => ?_
    · unfold x0
      exact Leaves.step (refreshPair_leaves ..) (Leaves.one (State.wr_leaves ..) rfl rfl) rfl rfl
    try clear_value x0
    extract_lets -merge +onlyGivenNames x1
    refine Leaves.have x1 (by unfold x1; exact Leaves.step (updPair_leaves ..) hx0 rfl rfl) fun hx1 => ?_
    try clear_value x1
    extract_lets -merge +onlyGivenNames x2
    refine Leaves.have x2 ?_ fun hx2 => ?_
    · unfold x2
      exact Leaves.ite (Leaves.step (pltCase_leaves ..) (Leaves.step (State.wr_leaves ..) hx1 rfl rfl) rfl rfl) hx0
    try clear_value x2
    extract_lets -merge +onlyGivenNames x3
    refine Leaves.have x3 ?_ fun hx3 => ?_
    · unfold x3
      split
      · refine Leaves.ite ?_ ?_
        · exact Leaves.step (finishActivation_leaves ..) hx2 rfl rfl
        · exact Leaves.ite (Leaves.step (putAct_leaves ..) hx2 rfl rfl) hx2
      · exact hx2
    try clear_value x3
    split
    · exact Leaves.step (finishDrill_leaves ..) hx3 rfl rfl
    · exact hx3

theorem pairHoldExpiry_leaves (s : State) :
    Leaves [.fld, .pair] [F.objANG_EV, F.objPLT_PSTATE] s (pairHoldExpiry s) := by
  unfold pairHoldExpiry
  split
  · refine Leaves.ite ?_ ?_
    · refine Leaves.step (roleOff_leaves ..) ?_ rfl rfl
      refine Leaves.step (disarmOutputs_leaves ..) ?_ rfl rfl
      exact Leaves.step (sendCommand_leaves ..) (Leaves.one (updPair_leaves ..) rfl rfl) rfl rfl
    · exact Leaves.one (noEffect_leaves ..) rfl rfl
  · exact Leaves.one (noEffect_leaves ..) rfl rfl

theorem leaseExpiry_leaves (s : State) :
    Leaves [.pair] [F.objPLT_PSTATE] s (leaseExpiry s) := by
  unfold leaseExpiry
  split
  · refine Leaves.ite ?_ ?_
    · exact Leaves.step (refreshPair_leaves ..) (Leaves.one (updPair_leaves ..) rfl rfl) rfl rfl
    · exact Leaves.one (noEffect_leaves ..) rfl rfl
  · exact Leaves.one (noEffect_leaves ..) rfl rfl

theorem returnHold_leaves (partnerLease : Bool) (s : State) :
    Leaves [.pair] [F.objPLT_PSTATE] s (returnHold partnerLease s) := by
  unfold returnHold
  extract_lets -merge +onlyGivenNames x0
  refine Leaves.have x0 (by unfold x0; exact Leaves.one (refreshPair_leaves ..) rfl rfl) fun hx0 => ?_
  try clear_value x0
  extract_lets -merge +onlyGivenNames x1
  try clear_value x1
  split
  · exact Leaves.ite (Leaves.step (claim_leaves ..) hx0 rfl rfl) (Leaves.step (noEffect_leaves ..) hx0 rfl rfl)
  · exact Leaves.step (noEffect_leaves ..) hx0 rfl rfl

theorem mirrorSubs_leaves (k : Nat) (s : State) (n o total : Nat) (img : List Nat) :
    Leaves [.ring] [] s (mirrorSubs k s n o total img) := by
  induction k generalizing s o img with
  | zero => exact Leaves.refl ..
  | succ k ih => exact Leaves.ite (Leaves.refl ..) ((queueSub_leaves ..).trans (ih ..))

theorem mirrorCapture_leaves (s : State) :
    Leaves [.time, .ring, .sto, .int, .mbx, .img, .scn, .prg, .fld, .plt, .pair] [F.objANG_EV, F.objINT_LATCH,
      F.objINT_STAT, F.objINT_STATE, F.objINT_STORMED, F.objMBX_QUEUES, F.objMBX_USE, F.objPLT_COUNT, F.objPLT_LANE,
      F.objPLT_PSTATE, F.objPRG_ACT, F.objREC_STAT, F.objSCN_MODE] s (mirrorCapture s) := by
  unfold mirrorCapture
  refine Leaves.ite ?_ ?_
  · exact Leaves.one (noEffect_leaves ..) rfl rfl
  · extract_lets -merge +onlyGivenNames x0
    refine Leaves.have x0 (by unfold x0; exact Leaves.one (updPair_leaves ..) rfl rfl) fun hx0 => ?_
    try clear_value x0
    extract_lets -merge +onlyGivenNames x1 x2
    try clear_value x1 x2
    split
    · exact Leaves.step (unresolved_leaves ..) hx0 rfl rfl
    · extract_lets -merge +onlyGivenNames x3 x4 x5
      try clear_value x3 x4 x5
      exact Leaves.step (mirrorSubs_leaves ..) hx0 rfl rfl

theorem mirrorIn_leaves (b : List Nat) (s : State) :
    Leaves [.pair] [F.objPLT_PSTATE] s (mirrorIn b s) := by
  unfold mirrorIn
  refine Leaves.ite ?_ ?_
  · exact Leaves.one (noEffect_leaves ..) rfl rfl
  · extract_lets -merge +onlyGivenNames x0
    refine Leaves.have x0 (by unfold x0; exact Leaves.one (heardPartner_leaves ..) rfl rfl) fun hx0 => ?_
    try clear_value x0
    extract_lets -merge +onlyGivenNames x1 x2 x3 x4
    try clear_value x1 x2 x3 x4
    refine Leaves.ite ?_ ?_
    · exact hx0
    · extract_lets -merge +onlyGivenNames x5
      try clear_value x5
      split
      · exact hx0
      · refine Leaves.ite ?_ ?_
        · exact hx0
        · extract_lets -merge +onlyGivenNames x6 x7
          try clear_value x6 x7
          refine Leaves.ite ?_ ?_
          · exact Leaves.step (updPair_leaves ..) hx0 rfl rfl
          · extract_lets -merge +onlyGivenNames x8
            refine Leaves.have x8 (by unfold x8; exact Leaves.step (updPair_leaves ..) hx0 rfl rfl) fun hx8 => ?_
            try clear_value x8
            refine Leaves.ite ?_ ?_
            · extract_lets -merge +onlyGivenNames x9
              refine Leaves.have x9 ?_ fun hx9 => ?_
              · unfold x9
                exact Leaves.ite (Leaves.step (State.incTo_leaves ..) hx8 rfl rfl) hx8
              try clear_value x9
              exact Leaves.step (updPair_leaves ..) hx9 rfl rfl
            · exact hx8

theorem mirrorApply_leaves (s : State) :
    Leaves [.scn, .pair] [F.objPLT_PSTATE] s (mirrorApply s) := by
  unfold mirrorApply
  split
  · exact Leaves.one (noEffect_leaves ..) rfl rfl
  · refine Leaves.ite ?_ ?_
    · exact Leaves.one (noEffect_leaves ..) rfl rfl
    · extract_lets -merge +onlyGivenNames x0 x1 x2 x3
      try clear_value x0 x1 x2
      extract_lets -merge +onlyGivenNames x4
      try clear_value x4
      refine Leaves.step (refreshPair_leaves ..) ?_ rfl rfl
      exact Leaves.step (updPair_leaves ..) (Leaves.one (Leaves.set_scn _ _) rfl rfl) rfl rfl

theorem speedTimeout_leaves (d : Nat) (s : State) :
    Leaves [.ring, .sto, .int, .fld, .ang] [F.objANG_CAPPOS, F.objANG_EV, F.objANG_STATUS, F.objDG_CHSTAT, F.objDG_GSTAT,
      F.objINT_LATCH, F.objINT_STAT, F.objINT_STATE, F.objINT_STORMED, F.objREC_STAT] s (speedTimeout d s) := by
  unfold speedTimeout
  extract_lets -merge +onlyGivenNames x0 x1
  try clear_value x0 x1
  split
  · exact Leaves.ite (Leaves.one (enterLost_leaves ..) rfl rfl) (Leaves.one (noEffect_leaves ..) rfl rfl)
  · exact Leaves.one (noEffect_leaves ..) rfl rfl

theorem inputFault_leaves (n : Nat) (s : State) :
    Leaves [.ring, .sto, .int, .fld, .ang] [F.objANG_AI, F.objANG_CAPPOS, F.objANG_EV, F.objANG_STATUS, F.objDG_CHSTAT,
      F.objDG_GSTAT, F.objINT_LATCH, F.objINT_STAT, F.objINT_STATE, F.objINT_STORMED, F.objREC_STAT] s (inputFault n s) :=
      by
  unfold inputFault
  refine Leaves.ite ?_ ?_
  · exact Leaves.one (noEffect_leaves ..) rfl rfl
  · refine Leaves.transR (Leaves.foldl _ _ (fun y0 z0 _ => by
      exact Leaves.ite (Leaves.one (enterLost_leaves ..) rfl rfl) (Leaves.refl ..)
      ) _) ?_
    exact Leaves.one (State.wr_leaves ..) rfl rfl

theorem inputFaultClear_leaves (n : Nat) (s : State) :
    Leaves [] [F.objANG_AI] s (inputFaultClear n s) := by
  unfold inputFaultClear
  exact Leaves.ite (Leaves.one (State.wr_leaves ..) rfl rfl) (Leaves.one (noEffect_leaves ..) rfl rfl)

theorem frameStreamLoss_leaves (g : Nat) (s : State) :
    Leaves [.ring, .sto, .int, .fld] [F.objDG_CHSTAT, F.objDG_GSTAT, F.objINT_STAT, F.objINT_STATE, F.objINT_STORMED,
      F.objREC_STAT] s (frameStreamLoss g s) := by
  unfold frameStreamLoss
  refine Leaves.ite ?_ ?_
  · exact Leaves.one (noEffect_leaves ..) rfl rfl
  · extract_lets -merge +onlyGivenNames x0 x1
    try clear_value x0
    refine Leaves.have x1 (by unfold x1; exact Leaves.one (putDgg_leaves ..) rfl rfl) fun hx1 => ?_
    try clear_value x1
    refine Leaves.ite ?_ ?_
    · exact hx1
    · extract_lets -merge +onlyGivenNames x2
      refine Leaves.have x2 ?_ fun hx2 => ?_
      · unfold x2
        refine Leaves.transR (Leaves.foldl _ _ (fun y3 z3 _ => by
          extract_lets -merge +onlyGivenNames x4
          try clear_value x4
          exact Leaves.ite (Leaves.one (drive_leaves ..) rfl rfl) (Leaves.refl ..)
          ) _) ?_
        exact hx1
      try clear_value x2
      refine Leaves.transR (Leaves.foldl _ _ (fun y5 z5 _ => by
        exact Leaves.ite (Leaves.one (drive_leaves ..) rfl rfl) (Leaves.refl ..)
        ) _) ?_
      exact hx2

theorem inputChange_leaves (c : Nat) (level : Bool) (s : State) :
    Leaves [.time, .ring, .sto, .int, .mbx, .img, .scn, .prg, .fld, .pair] [F.objANG_EV, F.objDG_CHSTAT, F.objDG_CNT,
      F.objDG_COS, F.objINT_LATCH, F.objINT_STAT, F.objINT_STATE, F.objINT_STORMED, F.objMBX_QUEUES, F.objMBX_USE,
      F.objPLT_PSTATE, F.objPPR_WINSTAT, F.objPRG_ACT, F.objREC_STAT, F.objSCN_MODE, F.objSCN_TSTAT] s (inputChange c
      level s) := by
  unfold inputChange
  extract_lets -merge +onlyGivenNames x0
  try clear_value x0
  refine Leaves.ite ?_ ?_
  · exact Leaves.one (noEffect_leaves ..) rfl rfl
  · extract_lets -merge +onlyGivenNames x1 x2
    try clear_value x1
    refine Leaves.have x2 ?_ fun hx2 => ?_
    · unfold x2
      exact Leaves.step (State.wr_leaves ..) (Leaves.one (putDch_leaves ..) rfl rfl) rfl rfl
    try clear_value x2
    extract_lets -merge +onlyGivenNames x3
    try clear_value x3
    exact Leaves.step (cosEdge_leaves ..) (Leaves.step (countEdge_leaves ..) hx2 rfl rfl) rfl rfl

theorem stormWindow_leaves (s : State) :
    Leaves [.int] [] s (stormWindow s) := by
  unfold stormWindow
  exact Leaves.ite (Leaves.one (noEffect_leaves ..) rfl rfl) (Leaves.one (Leaves.set_int _ _) rfl rfl)

theorem putActive_leaves (s : State) (c : Nat) (l : List Nat) :
    Leaves [.int] [] s (putActive s c l) := by
  unfold putActive
  exact Leaves.one (Leaves.set_int _ _) rfl rfl

theorem svTake_leaves (c : Nat) (s : State) :
    Leaves [.int] [F.objINT_STATE] s (svTake c s) := by
  unfold svTake
  refine Leaves.ite ?_ ?_
  · exact Leaves.one (noEffect_leaves ..) rfl rfl
  · extract_lets -merge +onlyGivenNames x0
    try clear_value x0
    split
    · exact Leaves.one (noEffect_leaves ..) rfl rfl
    · refine Leaves.ite ?_ ?_
      · exact Leaves.one (noEffect_leaves ..) rfl rfl
      · exact Leaves.step (putActive_leaves ..) (Leaves.one (putSrc_leaves ..) rfl rfl) rfl rfl

theorem svComplete_leaves (c : Nat) (s : State) :
    Leaves [.int] [F.objINT_STATE] s (svComplete c s) := by
  unfold svComplete
  refine Leaves.ite ?_ ?_
  · exact Leaves.one (noEffect_leaves ..) rfl rfl
  · split
    · exact Leaves.one (noEffect_leaves ..) rfl rfl
    · exact Leaves.step (putActive_leaves ..) (Leaves.one (putSrc_leaves ..) rfl rfl) rfl rfl

theorem filtWrite_leaves (c : Nat) (v : Nat) (s : State) :
    Leaves [] [F.objDG_CH] s (filtWrite c v s) := by
  unfold filtWrite
  exact Leaves.ite (Leaves.one (State.wr_leaves ..) rfl rfl) (Leaves.one (noEffect_leaves ..) rfl rfl)

theorem overloadOff_leaves (s : State) (c : Nat) :
    Leaves [.ring, .sto, .int, .fld, .pair] [F.objDG_CHSTAT, F.objINT_LATCH, F.objINT_STAT, F.objINT_STATE,
      F.objINT_STORMED, F.objREC_STAT] s (overloadOff s c) := by
  unfold overloadOff
  extract_lets -merge +onlyGivenNames x0
  refine Leaves.have x0 ?_ fun hx0 => ?_
  · unfold x0
    exact Leaves.step (setPresent_leaves ..) (Leaves.one (stageOff_leaves ..) rfl rfl) rfl rfl
  try clear_value x0
  exact Leaves.ite (Leaves.step (putDch_leaves ..) hx0 rfl rfl) (Leaves.step (State.wr_leaves ..) hx0 rfl rfl)

theorem overload_leaves (c : Nat) (s : State) :
    Leaves [.ring, .sto, .int, .fld, .pair] [F.objDG_CHSTAT, F.objINT_LATCH, F.objINT_STAT, F.objINT_STATE,
      F.objINT_STORMED, F.objREC_STAT] s (overload c s) := by
  unfold overload
  exact Leaves.ite (Leaves.one (overloadOff_leaves ..) rfl rfl) (Leaves.one (noEffect_leaves ..) rfl rfl)

theorem overloadRetry_leaves (c : Nat) (s : State) :
    Leaves [.ring, .sto, .int, .fld] [F.objDG_CHSTAT, F.objDG_GSTAT, F.objINT_STAT, F.objINT_STATE, F.objINT_STORMED,
      F.objREC_STAT] s (overloadRetry c s) := by
  unfold overloadRetry
  refine Leaves.ite ?_ ?_
  · exact Leaves.step (endWait_leaves ..) (Leaves.one (putDch_leaves ..) rfl rfl) rfl rfl
  · exact Leaves.one (noEffect_leaves ..) rfl rfl

theorem shedOutputs_leaves (n : Nat) (s : State) (g : Nat) :
    Leaves [.ring, .sto, .int, .fld, .pair]
      [F.objDG_CHSTAT, F.objINT_LATCH, F.objINT_STAT, F.objINT_STATE, F.objINT_STORMED, F.objREC_STAT] s (shedOutputs n s
        g) := by
  induction n generalizing s with
  | zero => exact Leaves.refl ..
  | succ n ih =>
    unfold shedOutputs
    split
    · exact (overloadOff_leaves ..).trans (ih _)
    · exact Leaves.refl ..

theorem groupOvercurrent_leaves (g : Nat) (limited : Nat) (more : Nat) (s : State) :
    Leaves [.ring, .sto, .int, .fld, .pair] [F.objDG_CHSTAT, F.objDG_GSTAT, F.objINT_LATCH, F.objINT_STAT, F.objINT_STATE,
      F.objINT_STORMED, F.objREC_STAT] s (groupOvercurrent g limited more s) := by
  unfold groupOvercurrent
  refine Leaves.ite ?_ ?_
  · extract_lets -merge +onlyGivenNames x0
    refine Leaves.have x0 ?_ fun hx0 => ?_
    · unfold x0
      refine Leaves.transR (Leaves.foldl _ _ (fun y1 z1 _ => by
        exact Leaves.ite (Leaves.one (overloadOff_leaves ..) rfl rfl) (Leaves.refl ..)
        ) _) ?_
      exact Leaves.refl ..
    try clear_value x0
    exact Leaves.step (updDgg_leaves ..) (Leaves.step (shedOutputs_leaves ..) hx0 rfl rfl) rfl rfl
  · exact Leaves.one (noEffect_leaves ..) rfl rfl

theorem overtemp_leaves (c : Nat) (s : State) :
    Leaves [.ring, .sto, .int, .fld, .pair] [F.objDG_CHSTAT, F.objINT_LATCH, F.objINT_STAT, F.objINT_STATE,
      F.objINT_STORMED, F.objREC_STAT] s (overtemp c s) := by
  unfold overtemp
  refine Leaves.ite ?_ ?_
  · exact Leaves.step (setPresent_leaves ..) (Leaves.one (stageOff_leaves ..) rfl rfl) rfl rfl
  · exact Leaves.one (noEffect_leaves ..) rfl rfl

theorem overtempClear_leaves (c : Nat) (s : State) :
    Leaves [.ring, .sto, .int, .fld] [F.objANG_EV, F.objANG_STATUS, F.objDG_CHSTAT, F.objDG_GSTAT, F.objINT_STAT,
      F.objINT_STATE, F.objINT_STORMED, F.objREC_STAT] s (overtempClear c s) := by
  unfold overtempClear
  refine Leaves.ite ?_ ?_
  · exact Leaves.step (resumeStage_leaves ..) (Leaves.one (clearPresent_leaves ..) rfl rfl) rfl rfl
  · exact Leaves.one (noEffect_leaves ..) rfl rfl

theorem pwmPeriod_leaves (c : Nat) (s : State) :
    Leaves [.ring, .sto, .int, .fld] [F.objDG_CHSTAT, F.objDG_GSTAT, F.objINT_STAT, F.objINT_STATE, F.objINT_STORMED,
      F.objREC_STAT] s (pwmPeriod c s) := by
  unfold pwmPeriod
  extract_lets -merge +onlyGivenNames x0 x1
  try clear_value x0 x1
  refine Leaves.ite ?_ ?_
  · exact Leaves.one (noEffect_leaves ..) rfl rfl
  · extract_lets -merge +onlyGivenNames x2
    try clear_value x2
    refine Leaves.ite ?_ ?_
    · exact Leaves.step (drive_leaves ..) (Leaves.one (putDch_leaves ..) rfl rfl) rfl rfl
    · exact Leaves.one (pwmStart_leaves ..) rfl rfl

theorem feedOff_leaves (s : State) (c : Nat) :
    Leaves [.ring, .sto, .int, .fld, .pair] [F.objDG_CHSTAT, F.objINT_LATCH, F.objINT_STAT, F.objINT_STATE,
      F.objINT_STORMED, F.objREC_STAT] s (feedOff s c) := by
  unfold feedOff
  exact Leaves.step (setPresent_leaves ..) (Leaves.one (putDch_leaves ..) rfl rfl) rfl rfl

theorem sfOvl_leaves (c : Nat) (s : State) :
    Leaves [.ring, .sto, .int, .fld, .pair] [F.objDG_CHSTAT, F.objINT_LATCH, F.objINT_STAT, F.objINT_STATE,
      F.objINT_STORMED, F.objREC_STAT] s (sfOvl c s) := by
  unfold sfOvl
  exact Leaves.ite (Leaves.one (feedOff_leaves ..) rfl rfl) (Leaves.one (noEffect_leaves ..) rfl rfl)

theorem sfRetry_leaves (c : Nat) (s : State) :
    Leaves [.fld] [] s (sfRetry c s) := by
  unfold sfRetry
  exact Leaves.ite (Leaves.one (putDch_leaves ..) rfl rfl) (Leaves.one (noEffect_leaves ..) rfl rfl)

theorem shedFeeds_leaves (n : Nat) (s : State) (g : Nat) :
    Leaves [.ring, .sto, .int, .fld, .pair]
      [F.objDG_CHSTAT, F.objINT_LATCH, F.objINT_STAT, F.objINT_STATE, F.objINT_STORMED, F.objREC_STAT] s (shedFeeds n s g)
        := by
  induction n generalizing s with
  | zero => exact Leaves.refl ..
  | succ n ih =>
    unfold shedFeeds
    split
    · exact (feedOff_leaves ..).trans (ih _)
    · exact Leaves.refl ..

theorem sfGrp_leaves (g : Nat) (n : Nat) (s : State) :
    Leaves [.ring, .sto, .int, .fld, .pair] [F.objDG_CHSTAT, F.objDG_GSTAT, F.objINT_LATCH, F.objINT_STAT, F.objINT_STATE,
      F.objINT_STORMED, F.objREC_STAT] s (sfGrp g n s) := by
  unfold sfGrp
  refine Leaves.ite ?_ ?_
  · exact Leaves.step (updDgg_leaves ..) (Leaves.one (shedFeeds_leaves ..) rfl rfl) rfl rfl
  · exact Leaves.one (noEffect_leaves ..) rfl rfl

theorem rbMismatch_leaves (c : Nat) (s : State) :
    Leaves [.ring, .sto, .int, .fld, .pair] [F.objDG_CHSTAT, F.objINT_LATCH, F.objINT_STAT, F.objINT_STATE,
      F.objINT_STORMED, F.objREC_STAT] s (rbMismatch c s) := by
  unfold rbMismatch
  refine Leaves.ite ?_ ?_
  · exact Leaves.step (setPresent_leaves ..) (Leaves.one (putDch_leaves ..) rfl rfl) rfl rfl
  · exact Leaves.one (noEffect_leaves ..) rfl rfl

theorem senseTest_leaves (g : Nat) (pass : Bool) (s : State) :
    Leaves [.ring, .sto, .int, .fld] [F.objDG_CHSTAT, F.objDG_GSTAT, F.objINT_STAT, F.objINT_STATE, F.objINT_STORMED,
      F.objREC_STAT] s (senseTest g pass s) := by
  unfold senseTest
  refine Leaves.ite ?_ ?_
  · extract_lets -merge +onlyGivenNames x0
    refine Leaves.have x0 (by unfold x0; exact Leaves.one (updDgg_leaves ..) rfl rfl) fun hx0 => ?_
    try clear_value x0
    extract_lets -merge +onlyGivenNames x1
    refine Leaves.have x1 ?_ fun hx1 => ?_
    · unfold x1
      refine Leaves.ite ?_ ?_
      · exact hx0
      · refine Leaves.transR (Leaves.foldl _ _ (fun y2 z2 _ => by
          exact Leaves.one (clearPresent_leaves ..) rfl rfl
          ) _) ?_
        exact hx0
    try clear_value x1
    exact Leaves.step (rbOnly_leaves ..) hx1 rfl rfl
  · exact Leaves.one (noEffect_leaves ..) rfl rfl

theorem lplusMonitor_leaves (g : Nat) (lplus : Nat) (mOpen : Bool) (s : State) :
    Leaves [.ring, .clk, .sto, .int, .fld] [F.objCLK_START, F.objDG_CHSTAT, F.objDG_CNT, F.objDG_GSTAT, F.objINT_STAT,
      F.objINT_STATE, F.objINT_STORMED, F.objREC_STAT] s (lplusMonitor g lplus mOpen s) := by
  unfold lplusMonitor
  refine Leaves.ite ?_ ?_
  · exact Leaves.one (noEffect_leaves ..) rfl rfl
  · extract_lets -merge +onlyGivenNames x0
    refine Leaves.have x0 (by unfold x0; exact Leaves.one (settleBc_leaves ..) rfl rfl) fun hx0 => ?_
    try clear_value x0
    extract_lets -merge +onlyGivenNames x1 x2 x3 x4
    try clear_value x1 x2 x3
    refine Leaves.have x4 (by unfold x4; exact Leaves.step (updDgg_leaves ..) hx0 rfl rfl) fun hx4 => ?_
    try clear_value x4
    refine Leaves.ite ?_ ?_
    · exact Leaves.step (dgSync_leaves ..) (Leaves.step (dgPowerLoss_leaves ..) hx4 rfl rfl) rfl rfl
    · refine Leaves.ite ?_ ?_
      · refine Leaves.transR (Leaves.foldl _ _ (fun y5 z5 _ => by
          extract_lets -merge +onlyGivenNames x6
          try clear_value x6
          exact Leaves.step (stageOff_leaves ..) (Leaves.one (putDch_leaves ..) rfl rfl) rfl rfl
          ) _) ?_
        exact hx4
      · refine Leaves.ite ?_ ?_
        · refine Leaves.transR (Leaves.foldl _ _ (fun y7 z7 _ => by
            extract_lets -merge +onlyGivenNames x8
            try clear_value x8
            exact Leaves.one (putDch_leaves ..) rfl rfl
            ) _) ?_
          exact hx4
        · exact hx4

theorem reinResumeDg_leaves (s : State) (g : Nat) :
    Leaves [.ring, .sto, .int, .fld] [F.objDG_GSTAT, F.objINT_LATCH, F.objINT_STAT, F.objINT_STATE, F.objINT_STORMED,
      F.objREC_STAT] s (reinResumeDg s g) := by
  unfold reinResumeDg
  extract_lets -merge +onlyGivenNames x0
  try clear_value x0
  exact Leaves.ite (Leaves.refl ..) (Leaves.step (log_leaves ..) (Leaves.one (updDgg_leaves ..) rfl rfl) rfl rfl)

theorem heartbeatResume_leaves (g : Nat) (s : State) :
    Leaves [.ring, .sto, .int, .fld, .ana] [F.objAG_GSTAT, F.objDG_GSTAT, F.objINT_LATCH, F.objINT_STAT, F.objINT_STATE,
      F.objINT_STORMED, F.objREC_STAT] s (heartbeatResume g s) := by
  unfold heartbeatResume
  refine Leaves.ite ?_ ?_
  · exact Leaves.one (reinResumeDg_leaves ..) rfl rfl
  · extract_lets -merge +onlyGivenNames x0
    try clear_value x0
    refine Leaves.ite ?_ ?_
    · exact Leaves.step (log_leaves ..) (Leaves.one (updAgg_leaves ..) rfl rfl) rfl rfl
    · exact Leaves.one (noEffect_leaves ..) rfl rfl

theorem rtdShort_leaves (s : State) (c : Nat) (x : ℤ) :
    Leaves [.ring, .sto, .int, .fld, .pair] [F.objAG_CHSTAT, F.objINT_LATCH, F.objINT_STAT, F.objINT_STATE,
      F.objINT_STORMED, F.objREC_STAT] s (rtdShort s c x) := by
  unfold rtdShort
  refine Leaves.ite ?_ ?_
  · extract_lets -merge +onlyGivenNames x0
    try clear_value x0
    exact Leaves.ite (Leaves.refl ..) (Leaves.one (aDiag_leaves ..) rfl rfl)
  · exact Leaves.refl ..

theorem slotVerdict_leaves (s : State) (c : Nat) (after : ℤ) :
    Leaves [.ring, .sto, .int, .fld, .ana, .pair] [F.objAG_CHSTAT, F.objINT_LATCH, F.objINT_STAT, F.objINT_STATE,
      F.objINT_STORMED, F.objPPR_STAT, F.objREC_STAT] s (slotVerdict s c after) := by
  unfold slotVerdict
  extract_lets -merge +onlyGivenNames x0 x1 x2
  try clear_value x0 x1 x2
  refine Leaves.ite ?_ ?_
  · refine Leaves.step (openDiag_leaves ..) ?_ rfl rfl
    exact Leaves.step (putAslot_leaves ..) (Leaves.one (State.wr_leaves ..) rfl rfl) rfl rfl
  · extract_lets -merge +onlyGivenNames x3 x4 x5
    try clear_value x3 x4
    refine Leaves.have x5 ?_ fun hx5 => ?_
    · unfold x5
      exact Leaves.step (putAch_leaves ..) (Leaves.one (State.wr_leaves ..) rfl rfl) rfl rfl
    try clear_value x5
    exact Leaves.step (openDiag_leaves ..) (Leaves.step (putAslot_leaves ..) hx5 rfl rfl) rfl rfl

theorem filterSample_leaves (s : State) (c : Nat) (v : ℤ) (at_ : Nat) :
    Leaves [.ana, .free] [F.objPPR_STAT] s (filterSample s c v at_) := by
  unfold filterSample
  extract_lets -merge +onlyGivenNames x0 x1 x2 x3
  try clear_value x0 x1 x2
  refine Leaves.have x3 ?_ fun hx3 => ?_
  · unfold x3
    exact Leaves.step (State.wr_leaves ..) (Leaves.one (putAch_leaves ..) rfl rfl) rfl rfl
  try clear_value x3
  refine Leaves.ite ?_ ?_
  · exact Leaves.step (putAch_leaves ..) hx3 rfl rfl
  · split
    · exact Leaves.step (putAch_leaves ..) hx3 rfl rfl
    · extract_lets -merge +onlyGivenNames x4
      try clear_value x4
      exact Leaves.step (putAch_leaves ..) hx3 rfl rfl
    · extract_lets -merge +onlyGivenNames x5
      refine Leaves.have x5 (by unfold x5; exact Leaves.step (iirStep_leaves ..) hx3 rfl rfl) fun hx5 => ?_
      try clear_value x5
      extract_lets -merge +onlyGivenNames x6
      refine Leaves.have x6.2 (by unfold x6; exact Leaves.step (freeDiv_leaves ..) hx5 rfl rfl) fun hx6 => ?_
      try clear_value x6
      exact Leaves.step (putAch_leaves ..) hx6 rfl rfl
    · exact hx3

theorem valueResult_leaves (s : State) (z : InFlight) (x : ℤ) (atLimit : Bool) :
    Leaves [.time, .ring, .sto, .int, .mbx, .img, .scn, .prg, .fld, .ana, .ang, .pair, .free] [F.objAG_CHSTAT,
      F.objANG_CAPPOS, F.objANG_EV, F.objDG_COS, F.objINT_LATCH, F.objINT_STAT, F.objINT_STATE, F.objINT_STORMED,
      F.objMBX_QUEUES, F.objMBX_USE, F.objPLT_PSTATE, F.objPPR_STAT, F.objPPR_WINSTAT, F.objPRG_ACT, F.objREC_STAT,
      F.objSCN_MODE, F.objSCN_TSTAT] s (valueResult s z x atLimit) := by
  unfold valueResult
  extract_lets -merge +onlyGivenNames x0 x1
  try clear_value x0
  refine Leaves.have x1.2 (by unfold x1; exact Leaves.one (baseValue_leaves ..) rfl rfl) fun hx1 => ?_
  try clear_value x1
  extract_lets -merge +onlyGivenNames x2
  refine Leaves.have x2 (by unfold x2; exact Leaves.step (rtdShort_leaves ..) hx1 rfl rfl) fun hx2 => ?_
  try clear_value x2
  extract_lets -merge +onlyGivenNames x3 x4
  try clear_value x3
  refine Leaves.have x4 (by unfold x4; exact Leaves.ite (Leaves.step (convVerdict_leaves ..) hx2 rfl rfl) hx2) fun hx4 => ?_
  try clear_value x4
  extract_lets -merge +onlyGivenNames x5
  refine Leaves.have x5 (by unfold x5; exact Leaves.ite (Leaves.step (slotVerdict_leaves ..) hx4 rfl rfl) hx4) fun hx5 => ?_
  try clear_value x5
  extract_lets -merge +onlyGivenNames x6 x7
  try clear_value x6
  refine Leaves.have x7 ?_ fun hx7 => ?_
  · unfold x7
    exact Leaves.step (filterSample_leaves ..) (Leaves.step (putAch_leaves ..) hx5 rfl rfl) rfl rfl
  try clear_value x7
  extract_lets -merge +onlyGivenNames x8 x9
  try clear_value x8
  refine Leaves.have x9 (by unfold x9; exact Leaves.ite hx7 (Leaves.step (handOver_leaves ..) hx7 rfl rfl)) fun hx9 => ?_
  try clear_value x9
  exact Leaves.step (captureResult_leaves ..) hx9 rfl rfl

theorem failedResult_leaves (s : State) (z : InFlight) :
    Leaves [.time, .ring, .sto, .int, .mbx, .img, .scn, .prg, .fld, .ana, .ang, .pair, .free] [F.objANG_CAPPOS,
      F.objANG_EV, F.objDG_COS, F.objINT_LATCH, F.objINT_STAT, F.objINT_STATE, F.objINT_STORMED, F.objMBX_QUEUES,
      F.objMBX_USE, F.objPLT_PSTATE, F.objPPR_WINSTAT, F.objPRG_ACT, F.objREC_STAT, F.objSCN_MODE, F.objSCN_TSTAT] s
      (failedResult s z) := by
  unfold failedResult
  extract_lets -merge +onlyGivenNames x0 x1
  try clear_value x0
  refine Leaves.have x1 (by unfold x1; exact Leaves.one (putAch_leaves ..) rfl rfl) fun hx1 => ?_
  try clear_value x1
  extract_lets -merge +onlyGivenNames x2
  refine Leaves.have x2 (by unfold x2; exact Leaves.step (repeatSample_leaves ..) hx1 rfl rfl) fun hx2 => ?_
  try clear_value x2
  extract_lets -merge +onlyGivenNames x3
  refine Leaves.have x3 (by unfold x3; exact Leaves.step (windows_leaves ..) hx2 rfl rfl) fun hx3 => ?_
  try clear_value x3
  exact Leaves.step (captureResult_leaves ..) (Leaves.step (log_leaves ..) hx3 rfl rfl) rfl rfl

theorem resultProcess_leaves (g : Nat) (p : Nat) (x : ℤ) (aqOk : Bool) (atLimit : Bool) (s : State) :
    Leaves [.time, .ring, .sto, .int, .mbx, .img, .scn, .prg, .fld, .ana, .ang, .pair, .free] [F.objAG_CHSTAT,
      F.objANG_CAPPOS, F.objANG_EV, F.objDG_COS, F.objINT_LATCH, F.objINT_STAT, F.objINT_STATE, F.objINT_STORMED,
      F.objMBX_QUEUES, F.objMBX_USE, F.objPLT_PSTATE, F.objPPR_STAT, F.objPPR_WINSTAT, F.objPRG_ACT, F.objREC_STAT,
      F.objSCN_MODE, F.objSCN_TSTAT] s (resultProcess g p x aqOk atLimit s) := by
  unfold resultProcess
  split
  · exact Leaves.one (noEffect_leaves ..) rfl rfl
  · extract_lets -merge +onlyGivenNames x0 x1
    try clear_value x0
    refine Leaves.have x1 (by unfold x1; exact Leaves.one (Leaves.set_ana _ _) rfl rfl) fun hx1 => ?_
    try clear_value x1
    extract_lets -merge +onlyGivenNames x2 x3
    try clear_value x2
    refine Leaves.have x3 (by unfold x3; exact Leaves.ite (Leaves.step (updRot_leaves ..) hx1 rfl rfl) hx1) fun hx3 => ?_
    try clear_value x3
    refine Leaves.ite ?_ ?_
    · extract_lets -merge +onlyGivenNames x4
      try clear_value x4
      refine Leaves.ite ?_ ?_
      · exact Leaves.step (putAslot_leaves ..) hx3 rfl rfl
      · exact Leaves.step (putAslot_leaves ..) (Leaves.step (log_leaves ..) hx3 rfl rfl) rfl rfl
    · refine Leaves.ite ?_ ?_
      · exact Leaves.step (valueResult_leaves ..) hx3 rfl rfl
      · exact Leaves.step (failedResult_leaves ..) hx3 rfl rfl

theorem mainsFreeEdge_leaves (c : Nat) (s : State) :
    Leaves [.time, .ring, .sto, .int, .mbx, .img, .scn, .prg, .fld, .ana, .pair, .free] [F.objAG_CHSTAT, F.objANG_EV,
      F.objDG_COS, F.objINT_LATCH, F.objINT_STAT, F.objINT_STATE, F.objINT_STORMED, F.objMBX_QUEUES, F.objMBX_USE,
      F.objPLT_PSTATE, F.objPPR_STAT, F.objPPR_WINSTAT, F.objPRG_ACT, F.objREC_STAT, F.objSCN_MODE, F.objSCN_TSTAT] s
      (mainsFreeEdge c s) := by
  unfold mainsFreeEdge
  extract_lets -merge +onlyGivenNames x0
  try clear_value x0
  refine Leaves.ite ?_ ?_
  · exact Leaves.one (noEffect_leaves ..) rfl rfl
  · extract_lets -merge +onlyGivenNames x1 x2
    try clear_value x1 x2
    exact Leaves.step (mainsEdge_leaves ..) (Leaves.one (State.wr_leaves ..) rfl rfl) rfl rfl

theorem overlapDone_leaves (g : Nat) (pass : Bool) (s : State) :
    Leaves [.ring, .sto, .int, .ana, .free] [F.objAG_CONV, F.objAG_CS, F.objINT_LATCH, F.objINT_STAT, F.objINT_STATE,
      F.objINT_STORMED, F.objREC_STAT] s (overlapDone g pass s) := by
  unfold overlapDone
  extract_lets -merge +onlyGivenNames x0
  try clear_value x0
  split
  · refine Leaves.ite ?_ ?_
    · exact Leaves.one (noEffect_leaves ..) rfl rfl
    · refine Leaves.ite ?_ ?_
      · exact Leaves.step (endStep_leaves ..) (Leaves.one (handSlice_leaves ..) rfl rfl) rfl rfl
      · extract_lets -merge +onlyGivenNames x1
        refine Leaves.have x1 (by unfold x1; exact Leaves.one (State.inc_leaves ..) rfl rfl) fun hx1 => ?_
        try clear_value x1
        extract_lets -merge +onlyGivenNames x2 x3 x4
        try clear_value x2 x3
        refine Leaves.have x4 (by unfold x4; exact Leaves.step (updRot_leaves ..) hx1 rfl rfl) fun hx4 => ?_
        try clear_value x4
        refine Leaves.ite ?_ ?_
        · exact Leaves.step (retireSlice_leaves ..) hx4 rfl rfl
        · refine Leaves.ite ?_ ?_
          · split
            · exact Leaves.step (retireSlice_leaves ..) (Leaves.step (handSlice_leaves ..) hx4 rfl rfl) rfl rfl
            · exact Leaves.step (endStep_leaves ..) (Leaves.step (handSlice_leaves ..) hx4 rfl rfl) rfl rfl
          · exact Leaves.step (endStep_leaves ..) (Leaves.step (putSlice_leaves ..) hx4 rfl rfl) rfl rfl
  · exact Leaves.one (noEffect_leaves ..) rfl rfl

theorem overlapTimeout_leaves (g : Nat) (s : State) :
    Leaves [.ana] [] s (overlapTimeout g s) := by
  unfold overlapTimeout
  extract_lets -merge +onlyGivenNames x0
  try clear_value x0
  exact Leaves.ite (Leaves.one (updRot_leaves ..) rfl rfl) (Leaves.one (noEffect_leaves ..) rfl rfl)

theorem slicePowerUp_leaves (g : Nat) (k : Nat) (s : State) :
    Leaves [.ana] [] s (slicePowerUp g k s) := by
  unfold slicePowerUp
  extract_lets -merge +onlyGivenNames x0
  try clear_value x0
  exact Leaves.ite (Leaves.one (putSlicePw_leaves ..) rfl rfl) (Leaves.one (noEffect_leaves ..) rfl rfl)

theorem quadPowerUp_leaves (g : Nat) (q : Nat) (s : State) :
    Leaves [.ring, .sto, .int, .ana] [F.objAG_GSTAT, F.objINT_STAT, F.objINT_STATE, F.objINT_STORMED, F.objPPR_STAT,
      F.objREC_STAT] s (quadPowerUp g q s) := by
  unfold quadPowerUp
  refine Leaves.ite ?_ ?_
  · extract_lets -merge +onlyGivenNames x0
    refine Leaves.have x0 (by unfold x0; exact Leaves.one (setQuad_leaves ..) rfl rfl) fun hx0 => ?_
    try clear_value x0
    refine Leaves.transR (Leaves.foldl _ _ (fun y1 z1 _ => by
      exact Leaves.step (applyOut_leaves ..) (Leaves.one (syncReset_leaves ..) rfl rfl) rfl rfl
      ) _) ?_
    exact hx0
  · exact Leaves.one (noEffect_leaves ..) rfl rfl

theorem quadPowerDown_leaves (g : Nat) (q : Nat) (s : State) :
    Leaves [.ring, .sto, .int, .ana] [F.objAG_GSTAT, F.objINT_STAT, F.objINT_STATE, F.objINT_STORMED, F.objREC_STAT] s
      (quadPowerDown g q s) := by
  unfold quadPowerDown
  exact Leaves.ite (Leaves.one (setQuad_leaves ..) rfl rfl) (Leaves.one (noEffect_leaves ..) rfl rfl)

theorem reconfigDone_leaves (c : Nat) (s : State) :
    Leaves [.ana] [F.objPPR_STAT] s (reconfigDone c s) := by
  unfold reconfigDone
  split
  · exact Leaves.one (noEffect_leaves ..) rfl rfl
  · refine Leaves.ite ?_ ?_
    · refine Leaves.step (applyOut_leaves ..) ?_ rfl rfl
      exact Leaves.step (syncReset_leaves ..) (Leaves.one (putAch_leaves ..) rfl rfl) rfl rfl
    · exact Leaves.one (noEffect_leaves ..) rfl rfl

theorem quadTemp_leaves (g : Nat) (q : Nat) (t : Nat) (s : State) :
    Leaves [.ring, .sto, .int, .fld, .ana, .pair] [F.objAG_CHSTAT, F.objAG_GSTAT, F.objINT_LATCH, F.objINT_STAT,
      F.objINT_STATE, F.objINT_STORMED, F.objREC_STAT] s (quadTemp g q t s) := by
  unfold quadTemp
  refine Leaves.ite ?_ ?_
  · exact Leaves.one (noEffect_leaves ..) rfl rfl
  · extract_lets -merge +onlyGivenNames x0 x1 x2 x3
    try clear_value x0 x1 x2
    refine Leaves.have x3 ?_ fun hx3 => ?_
    · unfold x3
      refine Leaves.step (State.wr_leaves ..) ?_ rfl (by unfold Sys2Proof.Machine.quadTempFld; (try dsimp only); first | rfl | (simp only [List.all_cons, List.all_nil, Bool.and_true]; (repeat' split) <;> rfl))
      exact Leaves.refl ..
    try clear_value x3
    extract_lets -merge +onlyGivenNames x4
    refine Leaves.have x4 (by unfold x4; exact Leaves.step (updAgg_leaves ..) hx3 rfl rfl) fun hx4 => ?_
    try clear_value x4
    extract_lets -merge +onlyGivenNames x5
    refine Leaves.have x5 ?_ fun hx5 => ?_
    · unfold x5
      refine Leaves.transR (Leaves.foldl _ _ (fun y6 z6 _ => by
        extract_lets -merge +onlyGivenNames x7 x8
        try clear_value x7
        refine Leaves.have x8 ?_ fun hx8 => ?_
        · unfold x8
          exact Leaves.ite (Leaves.refl ..) (Leaves.one (aDiag_leaves ..) rfl rfl)
        try clear_value x8
        exact Leaves.ite (Leaves.step (applyOut_leaves ..) hx8 rfl rfl) hx8
        ) _) ?_
      exact hx4
    try clear_value x5
    exact Leaves.step (quadsFollow_leaves ..) hx5 rfl rfl

theorem flenWrite_leaves (c : Nat) (v : Nat) (s : State) :
    Leaves [] [F.objPPR_CH] s (flenWrite c v s) := by
  unfold flenWrite
  exact Leaves.ite (Leaves.one (State.wr_leaves ..) rfl rfl) (Leaves.one (noEffect_leaves ..) rfl rfl)

theorem windowThreshold_leaves (w : Nat) (high : Bool) (v : Nat) (s : State) :
    Leaves [] [F.objPPR_WIN] s (windowThreshold w high v s) := by
  unfold windowThreshold
  refine Leaves.ite ?_ ?_
  · exact Leaves.one (noEffect_leaves ..) rfl rfl
  · refine Leaves.ite ?_ ?_
    · refine Leaves.step (State.wr_leaves ..) ?_ rfl (by (try dsimp only); first | rfl | (simp only [List.all_cons, List.all_nil, Bool.and_true]; (repeat' split) <;> rfl))
      exact Leaves.refl ..
    · exact Leaves.one (noEffect_leaves ..) rfl rfl

theorem recorderFlush_leaves (s : State) :
    Leaves [.ring, .sto, .int] [F.objINT_LATCH, F.objINT_STAT, F.objINT_STATE, F.objINT_STORMED, F.objREC_STAT] s
      (recorderFlush s) := by
  unfold recorderFlush
  extract_lets -merge +onlyGivenNames x0
  try clear_value x0
  refine Leaves.ite ?_ ?_
  · exact Leaves.one (noEffect_leaves ..) rfl rfl
  · extract_lets -merge +onlyGivenNames x1
    refine Leaves.have x1 (by unfold x1; exact Leaves.one (flushNow_leaves ..) rfl rfl) fun hx1 => ?_
    try clear_value x1
    exact Leaves.ite (Leaves.step (flushRings_leaves ..) hx1 rfl rfl) hx1

theorem recorderAge_leaves (s : State) :
    Leaves [.sto] [] s (recorderAge s) := by
  unfold recorderAge
  split
  · exact Leaves.one (noEffect_leaves ..) rfl rfl
  · exact Leaves.ite (Leaves.one (noEffect_leaves ..) rfl rfl) (Leaves.one (Leaves.set_sto _ _) rfl rfl)

theorem operatingTime_leaves (s : State) :
    Leaves [.sto, .pwr] [] s (operatingTime s) := by
  unfold operatingTime
  extract_lets -merge +onlyGivenNames x0
  try clear_value x0
  refine Leaves.ite ?_ ?_
  · exact Leaves.one (noEffect_leaves ..) rfl rfl
  · exact Leaves.step (ringSoon_leaves ..) (Leaves.one (Leaves.set_pwr _ _) rfl rfl) rfl rfl

theorem timeLinkHour_leaves (s : State) :
    Leaves [.ring, .sto, .int, .rtc] [F.objINT_LATCH, F.objINT_STAT, F.objINT_STATE, F.objINT_STORMED, F.objREC_STAT] s
      (timeLinkHour s) := by
  unfold timeLinkHour
  exact Leaves.ite (Leaves.one (noEffect_leaves ..) rfl rfl) (Leaves.one (timeLink_leaves ..) rfl rfl)

theorem powerFail_keeps (vsys : Nat) (hold : Nat) (s : State) :
    Keeps [.time, .ring, .clk, .sto, .int, .mbx, .img, .scn, .prg, .fld, .ana, .ang, .plt, .pair, .pwr, .sec] s (powerFail vsys hold s) := by
  unfold powerFail
  refine Keeps.ite ?_ ?_
  · exact Keeps.one (noEffect_leaves ..).1 rfl
  · extract_lets -merge +onlyGivenNames x0
    refine Keeps.have x0 ?_ fun hx0 => ?_
    · unfold x0
      exact Keeps.step (State.wr_leaves ..).1 (Keeps.one (setHold_leaves ..).1 rfl) rfl
    try clear_value x0
    extract_lets -merge +onlyGivenNames x1
    refine Keeps.have x1 ?_ fun hx1 => ?_
    · unfold x1
      exact Keeps.step (State.wr_leaves ..).1 (Keeps.step (State.wr_leaves ..).1 hx0 rfl) rfl
    try clear_value x1
    extract_lets -merge +onlyGivenNames x2 x3
    try clear_value x2
    refine Keeps.have x3 ?_ fun hx3 => ?_
    · unfold x3
      refine Keeps.step (Keeps.upd (ps := [.pwr]) (s := x1) (by intro p hp; cases p <;> first | rfl | exact absurd (by decide) hp)) ?_ rfl
      exact hx1
    try clear_value x3
    extract_lets -merge +onlyGivenNames x4
    refine Keeps.have x4 (by unfold x4; exact Keeps.step (log_leaves ..).1 hx3 rfl) fun hx4 => ?_
    try clear_value x4
    extract_lets -merge +onlyGivenNames x5 x6
    try clear_value x5
    refine Keeps.have x6 ?_ fun hx6 => ?_
    · unfold x6
      refine Keeps.step (State.wr_leaves ..).1 ?_ rfl
      refine Keeps.step (Keeps.upd (ps := [.sto]) (s := x4) (by intro p hp; cases p <;> first | rfl | exact absurd (by decide) hp)) ?_ rfl
      exact hx4
    try clear_value x6
    extract_lets -merge +onlyGivenNames x7
    refine Keeps.have x7 (by unfold x7; exact Keeps.step (setLatch_leaves ..).1 hx6 rfl) fun hx7 => ?_
    try clear_value x7
    exact Keeps.ite (Keeps.step (shutdownNow_keeps _) hx7 rfl) hx7

theorem rideReturn_leaves (vsys : Nat) (hold : Nat) (s : State) :
    Leaves [.ring, .sto, .int, .pwr] [F.objCLK_START, F.objINT_LATCH, F.objINT_STAT, F.objINT_STATE, F.objINT_STORMED,
      F.objPWR_STATUS, F.objREC_STAT, F.objSTO_STATUS] s (rideReturn vsys hold s) := by
  unfold rideReturn
  refine Leaves.ite ?_ ?_
  · exact Leaves.one (noEffect_leaves ..) rfl rfl
  · extract_lets -merge +onlyGivenNames x0 x1 x2
    try clear_value x0 x1
    refine Leaves.have x2 ?_ fun hx2 => ?_
    · unfold x2
      refine Leaves.step (State.wr_leaves ..) ?_ rfl rfl
      exact Leaves.step (State.wr_leaves ..) (Leaves.one (setHold_leaves ..) rfl rfl) rfl rfl
    try clear_value x2
    extract_lets -merge +onlyGivenNames x3 x4
    try clear_value x3
    refine Leaves.have x4 ?_ fun hx4 => ?_
    · unfold x4
      refine Leaves.step (State.inc_leaves ..) ?_ rfl rfl
      exact Leaves.step (State.wr_leaves ..) (Leaves.step (Leaves.set_pwr _ _) hx2 rfl rfl) rfl rfl
    try clear_value x4
    exact Leaves.step (log_leaves ..) hx4 rfl rfl

theorem shutdown_keeps (hold : Nat) (s : State) :
    Keeps [.time, .ring, .clk, .sto, .int, .mbx, .img, .scn, .prg, .fld, .ana, .ang, .plt, .pair, .pwr, .sec] s (shutdown hold s) := by
  unfold shutdown
  refine Keeps.ite ?_ ?_
  · exact Keeps.one (noEffect_leaves ..).1 rfl
  · extract_lets -merge +onlyGivenNames x0
    try clear_value x0
    refine Keeps.step (shutdownNow_keeps _) ?_ rfl
    exact Keeps.step (State.wr_leaves ..).1 (Keeps.one (setHold_leaves ..).1 rfl) rfl

theorem holdTestRun_leaves (s : State) :
    Leaves [.pwr] [F.objPWR_STATUS] s (holdTestRun s) := by
  unfold holdTestRun
  refine Leaves.ite ?_ ?_
  · exact Leaves.one (noEffect_leaves ..) rfl rfl
  · exact Leaves.step (State.wr_leaves ..) (Leaves.one (Leaves.set_pwr _ _) rfl rfl) rfl rfl

theorem holdTestDone_leaves (cap : Nat) (esr : Nat) (hold : Nat) (s : State) :
    Leaves [.ring, .sto, .int, .pwr] [F.objCLK_START, F.objINT_LATCH, F.objINT_STAT, F.objINT_STATE, F.objINT_STORMED,
      F.objPWR_HOLDUP, F.objPWR_PLAN, F.objPWR_STATUS, F.objREC_STAT, F.objSTO_STATUS] s (holdTestDone cap esr hold s) :=
      by
  unfold holdTestDone
  refine Leaves.ite ?_ ?_
  · exact Leaves.one (noEffect_leaves ..) rfl rfl
  · extract_lets -merge +onlyGivenNames x0 x1 x2
    try clear_value x0 x1
    refine Leaves.have x2 ?_ fun hx2 => ?_
    · unfold x2
      refine Leaves.step (State.wr_leaves ..) ?_ rfl rfl
      exact Leaves.step (State.wr_leaves ..) (Leaves.one (State.wr_leaves ..) rfl rfl) rfl rfl
    try clear_value x2
    extract_lets -merge +onlyGivenNames x3
    refine Leaves.have x3 ?_ fun hx3 => ?_
    · unfold x3
      exact Leaves.step (State.wr_leaves ..) (Leaves.step (State.wr_leaves ..) hx2 rfl rfl) rfl rfl
    try clear_value x3
    extract_lets -merge +onlyGivenNames x4 x5
    try clear_value x4
    refine Leaves.have x5 (by unfold x5; exact Leaves.step (Leaves.set_pwr _ _) hx3 rfl rfl) fun hx5 => ?_
    try clear_value x5
    extract_lets -merge +onlyGivenNames x6 x7
    try clear_value x6
    refine Leaves.have x7 (by unfold x7; exact Leaves.step (log_leaves ..) hx5 rfl rfl) fun hx7 => ?_
    try clear_value x7
    exact Leaves.step (holdThreshold_leaves ..) (Leaves.step (stepWmark_leaves ..) hx7 rfl rfl) rfl rfl

theorem slackSample_leaves (a : ℤ) (b : ℤ) (c : ℤ) (s : State) :
    Leaves [.pwr] [F.objPWR_PLAN, F.objPWR_SENSE] s (slackSample a b c s) := by
  unfold slackSample
  refine Leaves.ite ?_ ?_
  · exact Leaves.one (noEffect_leaves ..) rfl rfl
  · extract_lets -merge +onlyGivenNames x0
    extract_lets -merge +onlyGivenNames x1
    refine Leaves.have x1 ?_ fun hx1 => ?_
    · unfold x1
      refine Leaves.step (State.wr_leaves ..) ?_ rfl rfl
      exact Leaves.step (State.wr_leaves ..) (Leaves.one (State.wr_leaves ..) rfl rfl) rfl rfl
    try clear_value x1
    extract_lets -merge +onlyGivenNames x2 x3
    try clear_value x2
    refine Leaves.have x3 (by unfold x3; exact Leaves.step (State.wr_leaves ..) hx1 rfl rfl) fun hx3 => ?_
    try clear_value x3
    extract_lets -merge +onlyGivenNames x4 x5
    try clear_value x4
    refine Leaves.have x5 (by unfold x5; exact Leaves.step (Leaves.set_pwr _ _) hx3 rfl rfl) fun hx5 => ?_
    try clear_value x5
    extract_lets -merge +onlyGivenNames x6
    try clear_value x6
    exact Leaves.ite (Leaves.step (Leaves.set_pwr _ _) hx5 rfl rfl) hx5

theorem vbatMeasure_leaves (v : Nat) (s : State) :
    Leaves [.ring, .sto, .int, .rtc] [F.objINT_LATCH, F.objINT_STAT, F.objINT_STATE, F.objINT_STORMED, F.objREC_STAT,
      F.objRTC_STATUS] s (vbatMeasure v s) := by
  unfold vbatMeasure
  refine Leaves.ite ?_ ?_
  · exact Leaves.one (noEffect_leaves ..) rfl rfl
  · extract_lets -merge +onlyGivenNames x0 x1
    try clear_value x0
    refine Leaves.have x1 ?_ fun hx1 => ?_
    · unfold x1
      exact Leaves.step (State.wr_leaves ..) (Leaves.one (Leaves.set_rtc _ _) rfl rfl) rfl rfl
    try clear_value x1
    refine Leaves.ite ?_ ?_
    · exact Leaves.ite hx1 (Leaves.step (log_leaves ..) (Leaves.step (State.wr_leaves ..) hx1 rfl rfl) rfl rfl)
    · exact Leaves.ite (Leaves.step (State.wr_leaves ..) hx1 rfl rfl) hx1

theorem secondBoundary_leaves (s : State) :
    Leaves [.ring, .sto, .int, .rtc] [F.objINT_STAT, F.objINT_STATE, F.objINT_STORMED, F.objREC_STAT, F.objRTC_STATUS] s
      (secondBoundary s) := by
  unfold secondBoundary
  extract_lets -merge +onlyGivenNames x0 x1
  try clear_value x0 x1
  refine Leaves.ite ?_ ?_
  · exact Leaves.one (noEffect_leaves ..) rfl rfl
  · extract_lets -merge +onlyGivenNames x2 x3 x4
    try clear_value x2 x3
    refine Leaves.have x4 (by unfold x4; exact Leaves.one (Leaves.set_rtc _ _) rfl rfl) fun hx4 => ?_
    try clear_value x4
    extract_lets -merge +onlyGivenNames x5
    refine Leaves.have x5 ?_ fun hx5 => ?_
    · unfold x5
      exact Leaves.ite (Leaves.step (State.wr_leaves ..) (Leaves.step (State.wr_leaves ..) hx4 rfl rfl) rfl rfl) hx4
    try clear_value x5
    exact Leaves.ite (Leaves.step (fireWake_leaves ..) hx5 rfl rfl) hx5

theorem wakePeriod_leaves (s : State) :
    Leaves [.ring, .sto, .int, .rtc] [F.objINT_STAT, F.objINT_STATE, F.objINT_STORMED, F.objREC_STAT, F.objRTC_STATUS] s
      (wakePeriod s) := by
  unfold wakePeriod
  extract_lets -merge +onlyGivenNames x0
  try clear_value x0
  refine Leaves.ite ?_ ?_
  · exact Leaves.one (noEffect_leaves ..) rfl rfl
  · exact Leaves.step (fireWake_leaves ..) (Leaves.one (Leaves.set_rtc _ _) rfl rfl) rfl rfl

theorem offDelayExpiry_leaves (s : State) :
    Leaves [.rtc] [F.objRTC_STATUS] s (offDelayExpiry s) := by
  unfold offDelayExpiry
  split
  · exact Leaves.one (noEffect_leaves ..) rfl rfl
  · refine Leaves.ite ?_ ?_
    · exact Leaves.one (noEffect_leaves ..) rfl rfl
    · refine Leaves.step (State.wr_leaves ..) ?_ rfl rfl
      exact Leaves.step (State.wr_leaves ..) (Leaves.one (Leaves.set_rtc _ _) rfl rfl) rfl rfl

theorem rngFailure_leaves (s : State) (kind : Nat) :
    Leaves [.ring, .sto, .int, .sec] [F.objINT_LATCH, F.objINT_STAT, F.objINT_STATE, F.objINT_STORMED, F.objREC_STAT,
      F.objSEC_RNG] s (rngFailure s kind) := by
  unfold rngFailure
  extract_lets -merge +onlyGivenNames x0
  refine Leaves.have x0 ?_ fun hx0 => ?_
  · unfold x0
    refine Leaves.step (State.inc_leaves ..) ?_ rfl (by (try dsimp only); first | rfl | (simp only [List.all_cons, List.all_nil, Bool.and_true]; (repeat' split) <;> rfl))
    exact Leaves.refl ..
  try clear_value x0
  extract_lets -merge +onlyGivenNames x1 x2 x3 x4
  try clear_value x1 x2 x3
  refine Leaves.have x4 (by unfold x4; exact Leaves.step (Leaves.set_sec _ _) hx0 rfl rfl) fun hx4 => ?_
  try clear_value x4
  extract_lets -merge +onlyGivenNames x5
  refine Leaves.have x5 ?_ fun hx5 => ?_
  · unfold x5
    exact Leaves.step (State.wr_leaves ..) (Leaves.step (State.wr_leaves ..) hx4 rfl rfl) rfl rfl
  try clear_value x5
  exact Leaves.step (hostSync_leaves ..) (Leaves.step (log_leaves ..) hx5 rfl rfl) rfl rfl

theorem rngFail_leaves (kind : Nat) (s : State) :
    Leaves [.ring, .sto, .int, .sec] [F.objINT_LATCH, F.objINT_STAT, F.objINT_STATE, F.objINT_STORMED, F.objREC_STAT,
      F.objSEC_RNG] s (rngFail kind s) := by
  unfold rngFail
  exact Leaves.ite (Leaves.one (noEffect_leaves ..) rfl rfl) (Leaves.one (rngFailure_leaves ..) rfl rfl)

theorem serveOpen_leaves (s : State) :
    Leaves [.ring, .sto, .int, .mbx, .free] [F.objINT_STAT, F.objINT_STATE, F.objINT_STORMED, F.objMBX_QUEUES,
      F.objMBX_USE, F.objREC_STAT, F.objSEC_STATUS] s (serveOpen s) := by
  unfold serveOpen
  split
  · exact Leaves.refl ..
  · refine Leaves.ite ?_ ?_
    · exact Leaves.refl ..
    · extract_lets -merge +onlyGivenNames x0 x1 x2
      try clear_value x0 x1
      refine Leaves.have x2 (by unfold x2; exact Leaves.one (Leaves.set_mbx _ _) rfl rfl) fun hx2 => ?_
      try clear_value x2
      extract_lets -merge +onlyGivenNames x3
      try clear_value x3
      exact Leaves.ite (Leaves.step (answerOnly_leaves ..) hx2 rfl rfl) (Leaves.step (openNow_leaves ..) hx2 rfl rfl)

theorem rngGood_leaves (s : State) :
    Leaves [.ring, .sto, .int, .mbx, .free] [F.objINT_STAT, F.objINT_STATE, F.objINT_STORMED, F.objMBX_QUEUES,
      F.objMBX_USE, F.objREC_STAT, F.objSEC_RNG, F.objSEC_STATUS] s (rngGood s) := by
  unfold rngGood
  refine Leaves.step (serveOpen_leaves ..) ?_ rfl rfl
  exact Leaves.step (hostSync_leaves ..) (Leaves.one (State.wr_leaves ..) rfl rfl) rfl rfl

theorem rngRetest_leaves (kind : Nat) (s : State) :
    Leaves [.ring, .sto, .int, .mbx, .sec, .free] [F.objINT_LATCH, F.objINT_STAT, F.objINT_STATE, F.objINT_STORMED,
      F.objMBX_QUEUES, F.objMBX_USE, F.objREC_STAT, F.objSEC_RNG, F.objSEC_STATUS] s (rngRetest kind s) := by
  unfold rngRetest
  refine Leaves.ite ?_ ?_
  · exact Leaves.one (noEffect_leaves ..) rfl rfl
  · refine Leaves.ite ?_ ?_
    · exact Leaves.step (rngGood_leaves ..) (Leaves.one (log_leaves ..) rfl rfl) rfl rfl
    · exact Leaves.one (rngFailure_leaves ..) rfl rfl

theorem usbIdle_leaves (s : State) :
    Leaves [.sec] [] s (usbIdle s) := by
  unfold usbIdle
  exact Leaves.one (Leaves.set_sec _ _) rfl rfl

theorem usbAttach_leaves (s : State) :
    Leaves [.sec] [F.objSEC_STATUS] s (usbAttach s) := by
  unfold usbAttach
  refine Leaves.ite ?_ ?_
  · exact Leaves.one (noEffect_leaves ..) rfl rfl
  · refine Leaves.step (pullUp_leaves ..) ?_ rfl rfl
    exact Leaves.step (usbIdle_leaves ..) (Leaves.one (Leaves.set_sec _ _) rfl rfl) rfl rfl

theorem usbLoss_leaves (s : State) :
    Leaves [.ring, .sto, .int, .mbx, .img, .prg, .pair, .sec] [F.objIMG_PINS, F.objIMG_STATUS, F.objINT_LATCH,
      F.objINT_STAT, F.objINT_STATE, F.objINT_STORMED, F.objMBX_QUEUES, F.objMBX_USE, F.objPRG_ACT, F.objPRG_BANKA,
      F.objPRG_BANKB, F.objREC_STAT, F.objSEC_FW, F.objSEC_STATUS] s (usbLoss s) := by
  unfold usbLoss
  refine Leaves.ite ?_ ?_
  · exact Leaves.one (noEffect_leaves ..) rfl rfl
  · extract_lets -merge +onlyGivenNames x0 x1
    try clear_value x0
    refine Leaves.have x1 ?_ fun hx1 => ?_
    · unfold x1
      refine Leaves.step (State.wr_leaves ..) ?_ rfl rfl
      exact Leaves.step (usbIdle_leaves ..) (Leaves.one (Leaves.set_sec _ _) rfl rfl) rfl rfl
    try clear_value x1
    exact Leaves.step (closeAll_leaves ..) hx1 rfl rfl

theorem usbBulkOut_leaves (b : List Nat) (s : State) :
    Leaves [.ring, .sto, .int, .mbx] [F.objINT_STAT, F.objINT_STATE, F.objINT_STORMED, F.objMBX_QUEUES, F.objMBX_USE,
      F.objREC_STAT] s (usbBulkOut b s) := by
  unfold usbBulkOut
  extract_lets -merge +onlyGivenNames x0
  try clear_value x0
  refine Leaves.ite ?_ ?_
  · exact Leaves.one (noEffect_leaves ..) rfl rfl
  · exact Leaves.step (takeSlots_leaves ..) (Leaves.one (applyAck_leaves ..) rfl rfl) rfl rfl

theorem usbSuspend_leaves (b : Bool) (s : State) :
    Leaves [.sec] [] s (usbSuspend b s) := by
  unfold usbSuspend
  exact Leaves.ite (Leaves.one (Leaves.set_sec _ _) rfl rfl) (Leaves.one (noEffect_leaves ..) rfl rfl)

theorem qualifyingCodeError_leaves (p : Port) (s : State) :
    Leaves [.ring, .sto, .int] [F.objINT_LATCH, F.objINT_STAT, F.objINT_STATE, F.objINT_STORMED, F.objNRL_CTRL,
      F.objNRL_PORTA_ERR, F.objNRL_PORTA_LINK, F.objNRL_PORTB_ERR, F.objNRL_PORTB_LINK, F.objNRL_STATE, F.objREC_STAT] s
      (qualifyingCodeError p s) := by
  unfold qualifyingCodeError
  refine Leaves.ite ?_ ?_
  · refine Leaves.step (setPort_leaves ..) ?_ rfl rfl
    refine Leaves.step (State.inc_leaves ..) ?_ rfl (by unfold Sys2Proof.Machine.codeErr; (try dsimp only); first | rfl | (simp only [List.all_cons, List.all_nil, Bool.and_true]; (repeat' split) <;> rfl))
    exact Leaves.refl ..
  · exact Leaves.one (noEffect_leaves ..) rfl rfl

theorem initFilterElapsed_leaves (c : Nat) (s : State) :
    Leaves [] [F.objDG_CHSTAT] s (initFilterElapsed c s) := by
  unfold initFilterElapsed
  exact Leaves.ite (Leaves.one (State.wr_leaves ..) rfl rfl) (Leaves.one (noEffect_leaves ..) rfl rfl)

theorem outPulseEnd_leaves (e : Nat) (s : State) :
    Leaves [.ring, .sto, .int, .fld, .ang] [F.objDG_CHSTAT, F.objDG_GSTAT, F.objINT_STAT, F.objINT_STATE,
      F.objINT_STORMED, F.objREC_STAT] s (outPulseEnd e s) := by
  unfold outPulseEnd
  split
  · refine Leaves.ite ?_ ?_
    · exact Leaves.one (noEffect_leaves ..) rfl rfl
    · extract_lets -merge +onlyGivenNames x0 x1
      try clear_value x0
      refine Leaves.have x1 (by unfold x1; exact Leaves.one (Leaves.set_ang _ _) rfl rfl) fun hx1 => ?_
      try clear_value x1
      exact Leaves.ite hx1 (Leaves.step (drive_leaves ..) hx1 rfl rfl)
  · exact Leaves.one (noEffect_leaves ..) rfl rfl

theorem triggeredDiagSlot_leaves (g : Nat) (p : Nat) (s : State) :
    Leaves [.ana] [] s (triggeredDiagSlot g p s) := by
  unfold triggeredDiagSlot
  extract_lets -merge +onlyGivenNames x0 x1 x2
  try clear_value x0 x1 x2
  split
  · exact Leaves.one (noEffect_leaves ..) rfl rfl
  · extract_lets -merge +onlyGivenNames x3
    try clear_value x3
    refine Leaves.ite ?_ ?_
    · exact Leaves.one (noEffect_leaves ..) rfl rfl
    · extract_lets -merge +onlyGivenNames x4
      try clear_value x4
      refine Leaves.ite ?_ ?_
      · exact Leaves.one (putAslot_leaves ..) rfl rfl
      · extract_lets -merge +onlyGivenNames x5
        refine Leaves.have x5 ?_ fun hx5 => ?_
        · unfold x5
          exact Leaves.step (putApos_leaves ..) (Leaves.one (beginSlot_leaves ..) rfl rfl) rfl rfl
        try clear_value x5
        exact Leaves.step (sendSample_leaves ..) hx5 rfl rfl

theorem rngStartup_leaves (kind : Nat) (s : State) :
    Leaves [.ring, .sto, .int, .mbx, .sec, .free] [F.objINT_LATCH, F.objINT_STAT, F.objINT_STATE, F.objINT_STORMED,
      F.objMBX_QUEUES, F.objMBX_USE, F.objREC_STAT, F.objSEC_RNG, F.objSEC_STATUS] s (rngStartup kind s) := by
  unfold rngStartup
  refine Leaves.ite ?_ ?_
  · exact Leaves.one (noEffect_leaves ..) rfl rfl
  · exact Leaves.ite (Leaves.one (rngGood_leaves ..) rfl rfl) (Leaves.one (rngFailure_leaves ..) rfl rfl)

theorem nonceWaitTimeout_leaves (s : State) :
    Leaves [.ring, .sto, .int, .mbx] [F.objINT_STAT, F.objINT_STATE, F.objINT_STORMED, F.objMBX_QUEUES, F.objREC_STAT] s
      (nonceWaitTimeout s) := by
  unfold nonceWaitTimeout
  split
  · exact Leaves.one (noEffect_leaves ..) rfl rfl
  · refine Leaves.ite ?_ ?_
    · exact Leaves.one (noEffect_leaves ..) rfl rfl
    · exact Leaves.step (answerOnly_leaves ..) (Leaves.one (Leaves.set_mbx _ _) rfl rfl) rfl rfl

theorem resetNRelease_leaves (lineEnd : Bool) (compat : Bool) (xtal : Bool) (s : State) :
    Leaves [.clk, .pwr] [F.objCLK_STATUS, F.objNRL_STATE, F.objRTC_STATUS] s (resetNRelease lineEnd compat xtal s) := by
  unfold resetNRelease
  refine Leaves.ite ?_ ?_
  · exact Leaves.one (noEffect_leaves ..) rfl rfl
  · extract_lets -merge +onlyGivenNames x0 x1
    try clear_value x0
    refine Leaves.have x1 (by unfold x1; exact Leaves.one (Leaves.set_clk _ _) rfl rfl) fun hx1 => ?_
    try clear_value x1
    exact Leaves.ite (Leaves.step (beginPhaseB_leaves ..) hx1 rfl rfl) hx1

theorem recClearDone_leaves (s : State) :
    Leaves [.ring, .sto, .int, .mbx] [F.objINT_LATCH, F.objINT_STAT, F.objINT_STATE, F.objINT_STORMED, F.objMBX_QUEUES,
      F.objMBX_USE, F.objREC_STAT, F.objSTO_COUNT, F.objSTO_STATUS] s (recClearDone s) := by
  unfold recClearDone
  split
  · exact Leaves.one (noEffect_leaves ..) rfl rfl
  · split
    · refine Leaves.ite ?_ ?_
      · exact Leaves.one (noEffect_leaves ..) rfl rfl
      · refine Leaves.ite ?_ ?_
        · exact Leaves.step (fin_leaves ..) (Leaves.one (writeAbandoned_leaves ..) rfl rfl) rfl rfl
        · extract_lets -merge +onlyGivenNames x0 x1
          try clear_value x0
          refine Leaves.have x1 ?_ fun hx1 => ?_
          · unfold x1
            exact Leaves.step (writeRec_leaves ..) (Leaves.one (flushNow_leaves ..) rfl rfl) rfl rfl
          try clear_value x1
          extract_lets -merge +onlyGivenNames x2
          refine Leaves.have x2 ?_ fun hx2 => ?_
          · unfold x2
            exact Leaves.step (flushNow_leaves ..) (Leaves.step (log_leaves ..) hx1 rfl rfl) rfl rfl
          try clear_value x2
          exact Leaves.step (fin_leaves ..) hx2 rfl rfl
    · exact Leaves.one (noEffect_leaves ..) rfl rfl

theorem supplyChangeover_leaves (logic : Bool) (s : State) :
    Leaves [] [F.objRTC_STATUS] s (supplyChangeover logic s) := by
  unfold supplyChangeover
  refine Leaves.ite ?_ ?_
  · exact Leaves.one (noEffect_leaves ..) rfl rfl
  · extract_lets -merge +onlyGivenNames x0
    refine Leaves.have x0 (by unfold x0; exact Leaves.one (State.wr_leaves ..) rfl rfl) fun hx0 => ?_
    try clear_value x0
    exact Leaves.ite (Leaves.step (State.wr_leaves ..) hx0 rfl rfl) hx0

theorem usbControl_leaves (rt : Nat) (rq : Nat) (v : Nat) (i : Nat) (len : Nat) (s : State) :
    Leaves [.sec] [] s (usbControl rt rq v i len s) := by
  unfold usbControl
  refine Leaves.ite ?_ ?_
  · exact Leaves.one (noEffect_leaves ..) rfl rfl
  · extract_lets -merge +onlyGivenNames x0
    try clear_value x0
    refine Leaves.ite ?_ ?_
    · exact Leaves.one (Leaves.set_sec _ _) rfl rfl
    · extract_lets -merge +onlyGivenNames x1 x2 x3
      try clear_value x1 x2 x3
      exact Leaves.one (Leaves.set_sec _ _) rfl rfl

theorem handoverAbandoned_leaves (s : State) :
    Leaves [.ring, .sto, .int, .mbx, .sec] [F.objINT_LATCH, F.objINT_STAT, F.objINT_STATE, F.objINT_STORMED,
      F.objMBX_QUEUES, F.objMBX_USE, F.objREC_STAT, F.objSEC_FW] s (handoverAbandoned s) := by
  unfold handoverAbandoned
  split
  · exact Leaves.one (noEffect_leaves ..) rfl rfl
  · exact Leaves.ite (Leaves.one (noEffect_leaves ..) rfl rfl) (Leaves.one (finishFw_leaves ..) rfl rfl)

theorem unitIdle_leaves (s : State) :
    Leaves [.sec] [] s (unitIdle s) := by
  unfold unitIdle
  split
  · exact Leaves.one (noEffect_leaves ..) rfl rfl
  · exact Leaves.ite (Leaves.one (noEffect_leaves ..) rfl rfl) (Leaves.one (Leaves.set_sec _ _) rfl rfl)

end Sys2Proof.Machine
end

