-- ==== Sys2Proof/Laws/Lanes.lean ====
section
/-!
SUPPORT. What one lane instruction does to the machine: every voting lane carries it out, and while none of them halts or
ends nothing else changes.
-/

namespace Sys2Proof.Machine

theorem Trio.get_set_same {α : Type} (t : Trio α) (k : Nat) (x : α) : (t.set k x).get k = x := by
  match k with
  | 0 => rfl
  | 1 => rfl
  | _ + 2 => rfl

theorem Trio.get_set_ne {α : Type} (t : Trio α) {j k : Nat} (x : α) (hj : j < 3) (hk : k < 3) (h : j ≠ k) :
    (t.set k x).get j = t.get j := by
  match j, k with
  | 0, 0 => exact absurd rfl h
  | 0, 1 => rfl
  | 0, _ + 2 => rfl
  | 1, 0 => rfl
  | 1, 1 => exact absurd rfl h
  | 1, _ + 2 => rfl
  | _ + 2, 0 => rfl
  | _ + 2, 1 => rfl
  | 2, 2 => exact absurd rfl h
  | _ + 3, _ => omega
  | 2, _ + 3 => omega

/-- The state in which the lanes of the running execution are replaced. -/
def State.withLanes (s : State) (x : Exec) (L : Trio LaneCtx) (M : Trio LaneMem) : State :=
  { s with scn := { s.scn with running := some { x with lanes := L }, lanes := M } }

@[simp] theorem State.withLanes_votes (s : State) (x : Exec) (L M) (k : Nat) : (s.withLanes x L M).votes k = s.votes k := rfl
@[simp] theorem State.withLanes_fetch (s : State) (x : Exec) (L M) (p : Nat) : fetch (s.withLanes x L M) p = fetch s p := rfl
@[simp] theorem State.withLanes_running (s : State) (x : Exec) (L M) :
    (s.withLanes x L M).scn.running = some { x with lanes := L } := rfl
@[simp] theorem State.withLanes_lanes (s : State) (x : Exec) (L M) : (s.withLanes x L M).scn.lanes = M := rfl
@[simp] theorem State.withLanes_env (s : State) (x : Exec) (L M) (L' : Trio LaneCtx) :
    envOf (s.withLanes x L M) { x with lanes := L' } = envOf s x := rfl

/-- One lane's part of an instruction. -/
theorem laneStep_withLanes (ok : Nat → Bool) (f : LaneFn) (s : State) (x : Exec) (L M) (k : Nat) :
    laneStep ok f (s.withLanes x L M) k =
      if s.votes k && decide ((L.get k).run = .running) && ok (L.get k).pc then
        s.withLanes x (L.set k (f (envOf s x) ⟨L.get k, M.get k⟩).c) (M.set k (f (envOf s x) ⟨L.get k, M.get k⟩).m)
      else s.withLanes x L M := rfl

/-- The lane of `L` and `M` after lane `k` has had its turn. -/
theorem lanes_after (s : State) (x : Exec) (ok : Nat → Bool) (f : LaneFn)
    (h : ∀ k, k < 3 → s.votes k = true → (x.lanes.get k).run = .running ∧ ok (x.lanes.get k).pc = true) :
    ∃ L M, laneStep ok f (laneStep ok f (laneStep ok f (s.withLanes x x.lanes s.scn.lanes) 0) 1) 2 = s.withLanes x L M ∧
      ∀ k, k < 3 → if s.votes k = true then (⟨L.get k, M.get k⟩ : Lane) = f (envOf s x) (laneOf s x k)
        else L.get k = x.lanes.get k ∧ M.get k = s.scn.lanes.get k := by
  have key : ∀ n, n ≤ 3 → ∃ L M,
      (List.range n).foldl (fun t k => laneStep ok f t k) (s.withLanes x x.lanes s.scn.lanes) = s.withLanes x L M ∧
      ∀ k, k < 3 → if s.votes k = true ∧ k < n then (⟨L.get k, M.get k⟩ : Lane) = f (envOf s x) (laneOf s x k)
        else L.get k = x.lanes.get k ∧ M.get k = s.scn.lanes.get k := by
    intro n
    induction n with
    | zero => intro _; exact ⟨_, _, rfl, fun k _ => by simp⟩
    | succ n ih =>
      intro hn
      obtain ⟨L, M, h1, h2⟩ := ih (by omega)
      rw [List.range_succ, List.foldl_append, h1]
      simp only [List.foldl_cons, List.foldl_nil, laneStep_withLanes]
      have hN := h2 n (by omega)
      simp only [lt_irrefl, and_false, if_false] at hN
      by_cases hv : s.votes n = true
      · obtain ⟨r1, r2⟩ := h n (by omega) hv
        rw [hN.1, hN.2]
        simp only [hv, r1, r2, decide_true, Bool.and_self, if_true]
        refine ⟨_, _, rfl, fun k hk => ?_⟩
        by_cases hkn : k = n
        · subst hkn
          simp [hv, Trio.get_set_same, laneOf]
        · rw [Trio.get_set_ne _ _ hk (by omega) hkn, Trio.get_set_ne _ _ hk (by omega) hkn]
          have := h2 k hk
          by_cases hlt : k < n
          · simpa [hlt, Nat.lt_succ_of_lt hlt] using this
          · have : ¬ k < n + 1 := by omega
            simpa [hlt, this] using h2 k hk
      · simp only [Bool.not_eq_true] at hv
        simp only [hv, Bool.false_and, Bool.false_eq_true, if_false]
        refine ⟨L, M, rfl, fun k hk => ?_⟩
        have := h2 k hk
        by_cases hkn : k = n
        · subst hkn; simpa [hv] using this
        · by_cases hlt : k < n
          · simpa [hlt, Nat.lt_succ_of_lt hlt] using this
          · have h3 : ¬ k < n + 1 := by omega
            simpa [hlt, h3] using this
  obtain ⟨L, M, h1, h2⟩ := key 3 le_rfl
  refine ⟨L, M, h1, fun k hk => ?_⟩
  have := h2 k hk
  simpa [hk] using this

theorem withLanes_self (s : State) (x : Exec) (h : s.scn.running = some x) : s.withLanes x x.lanes s.scn.lanes = s := by
  obtain ⟨⟩ := s
  simp only [State.withLanes] at *
  congr
  rename_i a b c d e f g h1 h2
  simp_all

theorem haltCodes_none (s : State) (x : Exec) (L M)
    (h : ∀ k, k < 3 → s.votes k = true → (L.get k).run = .running) :
    haltCodes (s.withLanes x L M) { x with lanes := L } = [] := by
  unfold haltCodes
  rw [List.filterMap_eq_nil_iff]
  intro k hk
  by_cases hv : s.votes k = true
  · simp [hv, h k (List.mem_range.mp hk) hv]
  · simp [hv]

/-- A lane instruction in whose course no voting lane halts or ends: each voting lane carries it out, nothing else changes. -/
theorem zenOn_lanes (ok : Nat → Bool) (f : LaneFn) (s : State) (x : Exec) (hc : s.clk.lane = true)
    (hr : s.scn.running = some x) (hv : ∃ k, k < 3 ∧ s.votes k = true)
    (h : ∀ k, k < 3 → s.votes k = true → (x.lanes.get k).run = .running ∧ ok (x.lanes.get k).pc = true)
    (hf : ∀ k, k < 3 → s.votes k = true → (f (envOf s x) (laneOf s x k)).c.run = .running) :
    LanesStep s x (fun e l l' => l' = f e l) (zenOn ok f s) := by
  obtain ⟨L, M, h1, h2⟩ := lanes_after s x ok f h
  rw [withLanes_self s x hr] at h1
  have hrun : ∀ k, k < 3 → s.votes k = true → (L.get k).run = .running := by
    intro k hk hvk
    have := h2 k hk
    rw [if_pos hvk] at this
    have e : L.get k = (f (envOf s x) (laneOf s x k)).c := congrArg Lane.c this
    rw [e]; exact hf k hk hvk
  refine ⟨L, M, ?_, h2⟩
  unfold zenOn
  rw [if_pos hc, h1]
  have e1 : haltCheck (s.withLanes x L M) = s.withLanes x L M := by
    unfold haltCheck
    simp only [State.withLanes_running, haltCodes_none s x L M hrun]
  rw [e1]
  unfold endCheck
  simp only [State.withLanes_running]
  have e2 : allDone (s.withLanes x L M) { x with lanes := L } = false := by
    obtain ⟨k, hk, hvk⟩ := hv
    unfold allDone
    rw [List.all_eq_false]
    exact ⟨k, List.mem_range.mpr hk, by simp [hvk, hrun k hk hvk]⟩
  rw [e2]
  rfl

/-- The same for an instruction the lanes meet next. -/
theorem zen_lanes {i : Instr} {f : LaneFn} {s : State} {x : Exec} {R : Env → Lane → Lane → Prop} (h : LaneAt i s x)
    (hf : ∀ e l, (f e l).c.run = l.c.run) (hR : ∀ e l, R e l (f e l)) : LanesStep s x R (zen i f s) := by
  have := zenOn_lanes (fun pc => decide (fetch s pc = some i)) f s x h.clk h.run h.voter
    (fun k hk hv => ⟨(h.here k hk hv).1, by simp [(h.here k hk hv).2]⟩)
    (fun k hk hv => by rw [hf]; exact (h.here k hk hv).1)
  obtain ⟨L, M, e1, e2⟩ := this
  refine ⟨L, M, e1, fun k hk => ?_⟩
  have := e2 k hk
  split at this
  · rename_i hv; rw [if_pos hv, this]; exact hR _ _
  · rename_i hv; rw [if_neg hv]; exact this

end Sys2Proof.Machine
end

