-- ==== Sys2Proof/Laws/LaneOps.lean ====
section
/-!
SUPPORT. The small updates of a lane and what each leaves: registers, index registers, flags, accumulator.
-/

namespace Sys2Proof.Machine

theorem setBits_testBit (w k j : Nat) (b : Bool) : (setBits w k k (b2n b)).testBit j = if j = k then b else w.testBit j := by
  have hw : w = 2 ^ k * (w / 2 ^ k) + w % 2 ^ k := (Nat.div_add_mod w _).symm
  have hlt : w % 2 ^ k < 2 ^ k := Nat.mod_lt _ (Nat.two_pow_pos k)
  have hb : b2n b = b.toNat := by cases b <;> rfl
  have hs : setBits w k k (b2n b) = 2 ^ k * (2 * (w / 2 ^ k / 2) + b.toNat) + w % 2 ^ k := by
    unfold setBits bits
    rw [show k + 1 - k = 1 by omega, pow_one, Nat.shiftRight_eq_div_pow, hb]
    have e1 : b.toNat % 2 = b.toNat := by cases b <;> rfl
    have e2 : w / 2 ^ k = 2 * (w / 2 ^ k / 2) + w / 2 ^ k % 2 := (Nat.div_add_mod _ 2).symm
    rw [e1]
    generalize w / 2 ^ k % 2 = r at *
    generalize w / 2 ^ k / 2 = q at *
    rw [e2] at hw
    generalize w % 2 ^ k = m at *
    subst hw
    have : 2 ^ k * (2 * q + r) + m - r * 2 ^ k = 2 ^ k * (2 * q) + m := by
      rw [Nat.mul_add, Nat.mul_comm r]; omega
    rw [this, Nat.mul_add, Nat.mul_comm b.toNat]; omega
  rw [hs, Nat.testBit_two_pow_mul_add _ hlt]
  conv_rhs => rw [hw, Nat.testBit_two_pow_mul_add _ hlt]
  by_cases h : j < k
  · simp [h, show j ≠ k by omega]
  · simp only [h, if_false]
    by_cases hj : j = k
    · subst hj; cases b <;> simp
    · simp only [hj, if_false]
      obtain ⟨m, hm⟩ : ∃ m, j - k = m + 1 := ⟨j - k - 1, by omega⟩
      rw [hm, Nat.testBit_succ, Nat.testBit_succ]
      congr 1
      cases b
      · simp
      · simp; omega

@[simp] theorem Lane.setV_ix (l : Lane) (d : Nat) (w : Word) (j : Nat) : (l.setV d w).ix j = l.ix j := rfl
@[simp] theorem Lane.setV_flag (l : Lane) (d : Nat) (w : Word) (j : Nat) : (l.setV d w).flag j = l.flag j := rfl
@[simp] theorem Lane.setV_inst (l : Lane) (d : Nat) (w : Word) (j : Nat) : (l.setV d w).inst j = l.inst j := rfl
@[simp] theorem Lane.setV_c_pc (l : Lane) (d : Nat) (w : Word) : (l.setV d w).c.pc = l.c.pc := rfl
@[simp] theorem Lane.setV_c_ba (l : Lane) (d : Nat) (w : Word) : (l.setV d w).c.ba = l.c.ba := rfl
@[simp] theorem Lane.setV_c_acc (l : Lane) (d : Nat) (w : Word) : (l.setV d w).c.acc = l.c.acc := rfl
@[simp] theorem Lane.setV_c_sat (l : Lane) (d : Nat) (w : Word) : (l.setV d w).c.sat = l.c.sat := rfl
@[simp] theorem Lane.setV_c_stack (l : Lane) (d : Nat) (w : Word) : (l.setV d w).c.stack = l.c.stack := rfl
@[simp] theorem Lane.setV_c_q (l : Lane) (d : Nat) (w : Word) : (l.setV d w).c.q = l.c.q := rfl
@[simp] theorem Lane.setV_c_qmask (l : Lane) (d : Nat) (w : Word) : (l.setV d w).c.qmask = l.c.qmask := rfl
@[simp] theorem Lane.setV_c_reqs (l : Lane) (d : Nat) (w : Word) : (l.setV d w).c.reqs = l.c.reqs := rfl
@[simp] theorem Lane.setV_c_cycles (l : Lane) (d : Nat) (w : Word) : (l.setV d w).c.cycles = l.c.cycles := rfl
@[simp] theorem Lane.setV_c_run (l : Lane) (d : Nat) (w : Word) : (l.setV d w).c.run = l.c.run := rfl
@[simp] theorem Lane.setV_m_m (l : Lane) (d : Nat) (w : Word) : (l.setV d w).m.m = l.m.m := rfl
@[simp] theorem Lane.setV_m_d (l : Lane) (d : Nat) (w : Word) : (l.setV d w).m.d = l.m.d := rfl
@[simp] theorem Lane.setV_m_inst (l : Lane) (d : Nat) (w : Word) : (l.setV d w).m.inst = l.m.inst := rfl
@[simp] theorem Lane.setIx_v (l : Lane) (d n : Nat) (j : Nat) : (l.setIx d n).v j = l.v j := rfl
@[simp] theorem Lane.setIx_flag (l : Lane) (d n : Nat) (j : Nat) : (l.setIx d n).flag j = l.flag j := rfl
@[simp] theorem Lane.setIx_inst (l : Lane) (d n : Nat) (j : Nat) : (l.setIx d n).inst j = l.inst j := rfl
@[simp] theorem Lane.setIx_c_pc (l : Lane) (d n : Nat) : (l.setIx d n).c.pc = l.c.pc := rfl
@[simp] theorem Lane.setIx_c_ba (l : Lane) (d n : Nat) : (l.setIx d n).c.ba = l.c.ba := rfl
@[simp] theorem Lane.setIx_c_acc (l : Lane) (d n : Nat) : (l.setIx d n).c.acc = l.c.acc := rfl
@[simp] theorem Lane.setIx_c_sat (l : Lane) (d n : Nat) : (l.setIx d n).c.sat = l.c.sat := rfl
@[simp] theorem Lane.setIx_c_stack (l : Lane) (d n : Nat) : (l.setIx d n).c.stack = l.c.stack := rfl
@[simp] theorem Lane.setIx_c_q (l : Lane) (d n : Nat) : (l.setIx d n).c.q = l.c.q := rfl
@[simp] theorem Lane.setIx_c_qmask (l : Lane) (d n : Nat) : (l.setIx d n).c.qmask = l.c.qmask := rfl
@[simp] theorem Lane.setIx_c_reqs (l : Lane) (d n : Nat) : (l.setIx d n).c.reqs = l.c.reqs := rfl
@[simp] theorem Lane.setIx_c_cycles (l : Lane) (d n : Nat) : (l.setIx d n).c.cycles = l.c.cycles := rfl
@[simp] theorem Lane.setIx_c_run (l : Lane) (d n : Nat) : (l.setIx d n).c.run = l.c.run := rfl
@[simp] theorem Lane.setIx_m_m (l : Lane) (d n : Nat) : (l.setIx d n).m.m = l.m.m := rfl
@[simp] theorem Lane.setIx_m_d (l : Lane) (d n : Nat) : (l.setIx d n).m.d = l.m.d := rfl
@[simp] theorem Lane.setIx_m_inst (l : Lane) (d n : Nat) : (l.setIx d n).m.inst = l.m.inst := rfl
@[simp] theorem Lane.setBa_v (l : Lane) (b : Bool) (j : Nat) : (l.setBa b).v j = l.v j := rfl
@[simp] theorem Lane.setBa_ix (l : Lane) (b : Bool) (j : Nat) : (l.setBa b).ix j = l.ix j := rfl
@[simp] theorem Lane.setBa_flag (l : Lane) (b : Bool) (j : Nat) : (l.setBa b).flag j = l.flag j := rfl
@[simp] theorem Lane.setBa_inst (l : Lane) (b : Bool) (j : Nat) : (l.setBa b).inst j = l.inst j := rfl
@[simp] theorem Lane.setBa_c_pc (l : Lane) (b : Bool) : (l.setBa b).c.pc = l.c.pc := rfl
@[simp] theorem Lane.setBa_c_acc (l : Lane) (b : Bool) : (l.setBa b).c.acc = l.c.acc := rfl
@[simp] theorem Lane.setBa_c_sat (l : Lane) (b : Bool) : (l.setBa b).c.sat = l.c.sat := rfl
@[simp] theorem Lane.setBa_c_stack (l : Lane) (b : Bool) : (l.setBa b).c.stack = l.c.stack := rfl
@[simp] theorem Lane.setBa_c_q (l : Lane) (b : Bool) : (l.setBa b).c.q = l.c.q := rfl
@[simp] theorem Lane.setBa_c_qmask (l : Lane) (b : Bool) : (l.setBa b).c.qmask = l.c.qmask := rfl
@[simp] theorem Lane.setBa_c_reqs (l : Lane) (b : Bool) : (l.setBa b).c.reqs = l.c.reqs := rfl
@[simp] theorem Lane.setBa_c_cycles (l : Lane) (b : Bool) : (l.setBa b).c.cycles = l.c.cycles := rfl
@[simp] theorem Lane.setBa_c_run (l : Lane) (b : Bool) : (l.setBa b).c.run = l.c.run := rfl
@[simp] theorem Lane.setBa_m_m (l : Lane) (b : Bool) : (l.setBa b).m.m = l.m.m := rfl
@[simp] theorem Lane.setBa_m_d (l : Lane) (b : Bool) : (l.setBa b).m.d = l.m.d := rfl
@[simp] theorem Lane.setBa_m_inst (l : Lane) (b : Bool) : (l.setBa b).m.inst = l.m.inst := rfl
@[simp] theorem Lane.setFlag_v (l : Lane) (d : Nat) (b : Bool) (j : Nat) : (l.setFlag d b).v j = l.v j := rfl
@[simp] theorem Lane.setFlag_ix (l : Lane) (d : Nat) (b : Bool) (j : Nat) : (l.setFlag d b).ix j = l.ix j := rfl
@[simp] theorem Lane.setFlag_inst (l : Lane) (d : Nat) (b : Bool) (j : Nat) : (l.setFlag d b).inst j = l.inst j := rfl
@[simp] theorem Lane.setFlag_c_pc (l : Lane) (d : Nat) (b : Bool) : (l.setFlag d b).c.pc = l.c.pc := rfl
@[simp] theorem Lane.setFlag_c_ba (l : Lane) (d : Nat) (b : Bool) : (l.setFlag d b).c.ba = l.c.ba := rfl
@[simp] theorem Lane.setFlag_c_acc (l : Lane) (d : Nat) (b : Bool) : (l.setFlag d b).c.acc = l.c.acc := rfl
@[simp] theorem Lane.setFlag_c_sat (l : Lane) (d : Nat) (b : Bool) : (l.setFlag d b).c.sat = l.c.sat := rfl
@[simp] theorem Lane.setFlag_c_stack (l : Lane) (d : Nat) (b : Bool) : (l.setFlag d b).c.stack = l.c.stack := rfl
@[simp] theorem Lane.setFlag_c_q (l : Lane) (d : Nat) (b : Bool) : (l.setFlag d b).c.q = l.c.q := rfl
@[simp] theorem Lane.setFlag_c_qmask (l : Lane) (d : Nat) (b : Bool) : (l.setFlag d b).c.qmask = l.c.qmask := rfl
@[simp] theorem Lane.setFlag_c_reqs (l : Lane) (d : Nat) (b : Bool) : (l.setFlag d b).c.reqs = l.c.reqs := rfl
@[simp] theorem Lane.setFlag_c_cycles (l : Lane) (d : Nat) (b : Bool) : (l.setFlag d b).c.cycles = l.c.cycles := rfl
@[simp] theorem Lane.setFlag_c_run (l : Lane) (d : Nat) (b : Bool) : (l.setFlag d b).c.run = l.c.run := rfl
@[simp] theorem Lane.setFlag_m_m (l : Lane) (d : Nat) (b : Bool) : (l.setFlag d b).m.m = l.m.m := rfl
@[simp] theorem Lane.setFlag_m_d (l : Lane) (d : Nat) (b : Bool) : (l.setFlag d b).m.d = l.m.d := rfl
@[simp] theorem Lane.setFlag_m_inst (l : Lane) (d : Nat) (b : Bool) : (l.setFlag d b).m.inst = l.m.inst := rfl
@[simp] theorem Lane.next_v (l : Lane) (n : Nat) (j : Nat) : (l.next n).v j = l.v j := rfl
@[simp] theorem Lane.next_ix (l : Lane) (n : Nat) (j : Nat) : (l.next n).ix j = l.ix j := rfl
@[simp] theorem Lane.next_flag (l : Lane) (n : Nat) (j : Nat) : (l.next n).flag j = l.flag j := rfl
@[simp] theorem Lane.next_inst (l : Lane) (n : Nat) (j : Nat) : (l.next n).inst j = l.inst j := rfl
@[simp] theorem Lane.next_c_ba (l : Lane) (n : Nat) : (l.next n).c.ba = l.c.ba := rfl
@[simp] theorem Lane.next_c_acc (l : Lane) (n : Nat) : (l.next n).c.acc = l.c.acc := rfl
@[simp] theorem Lane.next_c_sat (l : Lane) (n : Nat) : (l.next n).c.sat = l.c.sat := rfl
@[simp] theorem Lane.next_c_stack (l : Lane) (n : Nat) : (l.next n).c.stack = l.c.stack := rfl
@[simp] theorem Lane.next_c_q (l : Lane) (n : Nat) : (l.next n).c.q = l.c.q := rfl
@[simp] theorem Lane.next_c_qmask (l : Lane) (n : Nat) : (l.next n).c.qmask = l.c.qmask := rfl
@[simp] theorem Lane.next_c_reqs (l : Lane) (n : Nat) : (l.next n).c.reqs = l.c.reqs := rfl
@[simp] theorem Lane.next_c_run (l : Lane) (n : Nat) : (l.next n).c.run = l.c.run := rfl
@[simp] theorem Lane.next_m_m (l : Lane) (n : Nat) : (l.next n).m.m = l.m.m := rfl
@[simp] theorem Lane.next_m_d (l : Lane) (n : Nat) : (l.next n).m.d = l.m.d := rfl
@[simp] theorem Lane.next_m_inst (l : Lane) (n : Nat) : (l.next n).m.inst = l.m.inst := rfl
@[simp] theorem Lane.jump_v (l : Lane) (t n : Nat) (j : Nat) : (l.jump t n).v j = l.v j := rfl
@[simp] theorem Lane.jump_ix (l : Lane) (t n : Nat) (j : Nat) : (l.jump t n).ix j = l.ix j := rfl
@[simp] theorem Lane.jump_flag (l : Lane) (t n : Nat) (j : Nat) : (l.jump t n).flag j = l.flag j := rfl
@[simp] theorem Lane.jump_inst (l : Lane) (t n : Nat) (j : Nat) : (l.jump t n).inst j = l.inst j := rfl
@[simp] theorem Lane.jump_c_ba (l : Lane) (t n : Nat) : (l.jump t n).c.ba = l.c.ba := rfl
@[simp] theorem Lane.jump_c_acc (l : Lane) (t n : Nat) : (l.jump t n).c.acc = l.c.acc := rfl
@[simp] theorem Lane.jump_c_sat (l : Lane) (t n : Nat) : (l.jump t n).c.sat = l.c.sat := rfl
@[simp] theorem Lane.jump_c_stack (l : Lane) (t n : Nat) : (l.jump t n).c.stack = l.c.stack := rfl
@[simp] theorem Lane.jump_c_q (l : Lane) (t n : Nat) : (l.jump t n).c.q = l.c.q := rfl
@[simp] theorem Lane.jump_c_qmask (l : Lane) (t n : Nat) : (l.jump t n).c.qmask = l.c.qmask := rfl
@[simp] theorem Lane.jump_c_reqs (l : Lane) (t n : Nat) : (l.jump t n).c.reqs = l.c.reqs := rfl
@[simp] theorem Lane.jump_c_run (l : Lane) (t n : Nat) : (l.jump t n).c.run = l.c.run := rfl
@[simp] theorem Lane.jump_m_m (l : Lane) (t n : Nat) : (l.jump t n).m.m = l.m.m := rfl
@[simp] theorem Lane.jump_m_d (l : Lane) (t n : Nat) : (l.jump t n).m.d = l.m.d := rfl
@[simp] theorem Lane.jump_m_inst (l : Lane) (t n : Nat) : (l.jump t n).m.inst = l.m.inst := rfl
@[simp] theorem Lane.halt_v (l : Lane) (t n : Nat) (j : Nat) : (l.halt t n).v j = l.v j := rfl
@[simp] theorem Lane.halt_ix (l : Lane) (t n : Nat) (j : Nat) : (l.halt t n).ix j = l.ix j := rfl
@[simp] theorem Lane.halt_flag (l : Lane) (t n : Nat) (j : Nat) : (l.halt t n).flag j = l.flag j := rfl
@[simp] theorem Lane.halt_inst (l : Lane) (t n : Nat) (j : Nat) : (l.halt t n).inst j = l.inst j := rfl
@[simp] theorem Lane.halt_c_pc (l : Lane) (t n : Nat) : (l.halt t n).c.pc = l.c.pc := rfl
@[simp] theorem Lane.halt_c_ba (l : Lane) (t n : Nat) : (l.halt t n).c.ba = l.c.ba := rfl
@[simp] theorem Lane.halt_c_acc (l : Lane) (t n : Nat) : (l.halt t n).c.acc = l.c.acc := rfl
@[simp] theorem Lane.halt_c_sat (l : Lane) (t n : Nat) : (l.halt t n).c.sat = l.c.sat := rfl
@[simp] theorem Lane.halt_c_stack (l : Lane) (t n : Nat) : (l.halt t n).c.stack = l.c.stack := rfl
@[simp] theorem Lane.halt_c_q (l : Lane) (t n : Nat) : (l.halt t n).c.q = l.c.q := rfl
@[simp] theorem Lane.halt_c_qmask (l : Lane) (t n : Nat) : (l.halt t n).c.qmask = l.c.qmask := rfl
@[simp] theorem Lane.halt_c_reqs (l : Lane) (t n : Nat) : (l.halt t n).c.reqs = l.c.reqs := rfl
@[simp] theorem Lane.halt_m_m (l : Lane) (t n : Nat) : (l.halt t n).m.m = l.m.m := rfl
@[simp] theorem Lane.halt_m_d (l : Lane) (t n : Nat) : (l.halt t n).m.d = l.m.d := rfl
@[simp] theorem Lane.halt_m_inst (l : Lane) (t n : Nat) : (l.halt t n).m.inst = l.m.inst := rfl

@[simp] theorem Lane.setV_v (l : Lane) (d : Nat) (w : Word) (j : Nat) : (l.setV d w).v j = if j = d then w else l.v j :=
  Table.find_put 0 l.c.v j d w

@[simp] theorem Lane.setIx_ix (l : Lane) (d n j : Nat) : (l.setIx d n).ix j = if j = d then n % 2 ^ 20 else l.ix j :=
  Table.find_put 0 l.c.ix j d (n % 2 ^ 20)

@[simp] theorem Lane.setFlag_flag (l : Lane) (d : Nat) (b : Bool) (j : Nat) :
    (l.setFlag d b).flag j = if j = d then b else l.flag j := setBits_testBit l.c.flags d j b

@[simp] theorem Lane.setBa_ba (l : Lane) (b : Bool) : (l.setBa b).c.ba = b := rfl
@[simp] theorem Lane.next_pc (l : Lane) (n : Nat) : (l.next n).c.pc = l.c.pc + 1 := rfl
@[simp] theorem Lane.next_cycles (l : Lane) (n : Nat) : (l.next n).c.cycles = l.c.cycles + n := rfl
@[simp] theorem Lane.jump_pc (l : Lane) (t n : Nat) : (l.jump t n).c.pc = t := rfl
@[simp] theorem Lane.jump_cycles (l : Lane) (t n : Nat) : (l.jump t n).c.cycles = l.c.cycles + n := rfl
@[simp] theorem Lane.halt_run (l : Lane) (t n : Nat) : (l.halt t n).c.run = .halted t := rfl
@[simp] theorem Lane.halt_cycles (l : Lane) (t n : Nat) : (l.halt t n).c.cycles = l.c.cycles + n := rfl

@[simp] theorem Lane.stick_flag (l : Lane) (d : Nat) (b : Bool) (j : Nat) :
    (l.stick d b).flag j = if j = d then (l.flag j || b) else l.flag j := by
  cases b <;> by_cases h : j = d <;> simp [Lane.stick, h]
@[simp] theorem Lane.stick_v (l : Lane) (d : Nat) (b : Bool) (j : Nat) : (l.stick d b).v j = l.v j := by
  cases b <;> rfl
@[simp] theorem Lane.stick_ix (l : Lane) (d : Nat) (b : Bool) (j : Nat) : (l.stick d b).ix j = l.ix j := by
  cases b <;> rfl
@[simp] theorem Lane.stick_inst (l : Lane) (d : Nat) (b : Bool) (j : Nat) : (l.stick d b).inst j = l.inst j := by
  cases b <;> rfl
@[simp] theorem Lane.stick_c_pc (l : Lane) (d : Nat) (b : Bool) : (l.stick d b).c.pc = l.c.pc := by
  cases b <;> rfl
@[simp] theorem Lane.stick_c_ba (l : Lane) (d : Nat) (b : Bool) : (l.stick d b).c.ba = l.c.ba := by
  cases b <;> rfl
@[simp] theorem Lane.stick_c_acc (l : Lane) (d : Nat) (b : Bool) : (l.stick d b).c.acc = l.c.acc := by
  cases b <;> rfl
@[simp] theorem Lane.stick_c_sat (l : Lane) (d : Nat) (b : Bool) : (l.stick d b).c.sat = l.c.sat := by
  cases b <;> rfl
@[simp] theorem Lane.stick_c_stack (l : Lane) (d : Nat) (b : Bool) : (l.stick d b).c.stack = l.c.stack := by
  cases b <;> rfl
@[simp] theorem Lane.stick_c_q (l : Lane) (d : Nat) (b : Bool) : (l.stick d b).c.q = l.c.q := by
  cases b <;> rfl
@[simp] theorem Lane.stick_c_qmask (l : Lane) (d : Nat) (b : Bool) : (l.stick d b).c.qmask = l.c.qmask := by
  cases b <;> rfl
@[simp] theorem Lane.stick_c_reqs (l : Lane) (d : Nat) (b : Bool) : (l.stick d b).c.reqs = l.c.reqs := by
  cases b <;> rfl
@[simp] theorem Lane.stick_c_cycles (l : Lane) (d : Nat) (b : Bool) : (l.stick d b).c.cycles = l.c.cycles := by
  cases b <;> rfl
@[simp] theorem Lane.stick_c_run (l : Lane) (d : Nat) (b : Bool) : (l.stick d b).c.run = l.c.run := by
  cases b <;> rfl
@[simp] theorem Lane.stick_m_m (l : Lane) (d : Nat) (b : Bool) : (l.stick d b).m.m = l.m.m := by
  cases b <;> rfl
@[simp] theorem Lane.stick_m_d (l : Lane) (d : Nat) (b : Bool) : (l.stick d b).m.d = l.m.d := by
  cases b <;> rfl
@[simp] theorem Lane.stick_m_inst (l : Lane) (d : Nat) (b : Bool) : (l.stick d b).m.inst = l.m.inst := by
  cases b <;> rfl

@[simp] theorem Lane.setInst_inst (e : Env) (l : Lane) (id : Nat) (x : Inst) (j : Nat) :
    (Lane.setInst e l id x).inst j = if j = id then x else l.inst j := by
  have : (Lane.setInst e l id x).inst j = Table.find {} (Table.put {} l.m.inst id x) j := by
    simp only [Lane.setInst, Lane.inst, LaneMem.touch]; split <;> rfl
  rw [this]; exact Table.find_put {} l.m.inst j id x
@[simp] theorem Lane.setInst_v (e : Env) (l : Lane) (id : Nat) (x : Inst) (j : Nat) : (Lane.setInst e l id x).v j = l.v j := rfl
@[simp] theorem Lane.setInst_ix (e : Env) (l : Lane) (id : Nat) (x : Inst) (j : Nat) : (Lane.setInst e l id x).ix j = l.ix j := rfl
@[simp] theorem Lane.setInst_flag (e : Env) (l : Lane) (id : Nat) (x : Inst) (j : Nat) : (Lane.setInst e l id x).flag j = l.flag j := rfl
@[simp] theorem Lane.setInst_c_pc (e : Env) (l : Lane) (id : Nat) (x : Inst) : (Lane.setInst e l id x).c.pc = l.c.pc := rfl
@[simp] theorem Lane.setInst_c_ba (e : Env) (l : Lane) (id : Nat) (x : Inst) : (Lane.setInst e l id x).c.ba = l.c.ba := rfl
@[simp] theorem Lane.setInst_c_acc (e : Env) (l : Lane) (id : Nat) (x : Inst) : (Lane.setInst e l id x).c.acc = l.c.acc := rfl
@[simp] theorem Lane.setInst_c_sat (e : Env) (l : Lane) (id : Nat) (x : Inst) : (Lane.setInst e l id x).c.sat = l.c.sat := rfl
@[simp] theorem Lane.setInst_c_stack (e : Env) (l : Lane) (id : Nat) (x : Inst) : (Lane.setInst e l id x).c.stack = l.c.stack := rfl
@[simp] theorem Lane.setInst_c_q (e : Env) (l : Lane) (id : Nat) (x : Inst) : (Lane.setInst e l id x).c.q = l.c.q := rfl
@[simp] theorem Lane.setInst_c_qmask (e : Env) (l : Lane) (id : Nat) (x : Inst) : (Lane.setInst e l id x).c.qmask = l.c.qmask := rfl
@[simp] theorem Lane.setInst_c_reqs (e : Env) (l : Lane) (id : Nat) (x : Inst) : (Lane.setInst e l id x).c.reqs = l.c.reqs := rfl
@[simp] theorem Lane.setInst_c_cycles (e : Env) (l : Lane) (id : Nat) (x : Inst) : (Lane.setInst e l id x).c.cycles = l.c.cycles := rfl
@[simp] theorem Lane.setInst_c_run (e : Env) (l : Lane) (id : Nat) (x : Inst) : (Lane.setInst e l id x).c.run = l.c.run := rfl
@[simp] theorem Lane.setInst_m_m (e : Env) (l : Lane) (id : Nat) (x : Inst) : (Lane.setInst e l id x).m.m = l.m.m := by
  simp only [Lane.setInst, LaneMem.touch]; split <;> rfl
@[simp] theorem Lane.setInst_m_d (e : Env) (l : Lane) (id : Nat) (x : Inst) : (Lane.setInst e l id x).m.d = l.m.d := by
  simp only [Lane.setInst, LaneMem.touch]; split <;> rfl

/-- A lane instruction that leaves every lane running does what its lane function does. -/
theorem laneDoesIf_of {C : Lane → Prop} {i : Instr} {f : LaneFn} {R : Env → Lane → Lane → Prop}
    (hx : ∀ s, exec i s = .next (zen i f s)) (hf : ∀ e l, C l → (f e l).c.run = l.c.run)
    (hR : ∀ e l, C l → R e l (f e l)) : LaneDoesIf C i R := by
  intro s x h hc
  refine ⟨_, hx s, ?_⟩
  have hrun : ∀ k, k < 3 → s.votes k = true → (f (envOf s x) (laneOf s x k)).c.run = .running := by
    intro k hk hv; rw [hf _ _ (hc k hk hv)]; exact (h.here k hk hv).1
  obtain ⟨L, M, e1, e2⟩ := zenOn_lanes (fun pc => decide (fetch s pc = some i)) f s x h.clk h.run h.voter
    (fun k hk hv => ⟨(h.here k hk hv).1, by simp [(h.here k hk hv).2]⟩) hrun
  refine ⟨L, M, e1, fun k hk => ?_⟩
  have := e2 k hk
  split at this
  · rename_i hv; rw [if_pos hv, this]; exact hR _ _ (hc k hk hv)
  · rename_i hv; rw [if_neg hv]; exact this

theorem laneDoes_of {i : Instr} {f : LaneFn} {R : Env → Lane → Lane → Prop} (hx : ∀ s, exec i s = .next (zen i f s))
    (hf : ∀ e l, (f e l).c.run = l.c.run) (hR : ∀ e l, R e l (f e l)) : LaneDoes i R :=
  laneDoesIf_of hx (fun e l _ => hf e l) fun e l _ => hR e l

/-- A read changes OV alone, and only outside the area. -/
theorem readN_fst (e : Env) (l : Lane) (area a n : Nat) : (readN e l area a n).1 = wordIn e l area a n := by
  unfold readN wordIn; split <;> rfl

theorem readN_snd (e : Env) (l : Lane) (area a n : Nat) : (readN e l area a n).2 = l.stick fOV (!(inArea e area a n)) := by
  unfold readN
  by_cases h : inArea e area a n = true
  · simp only [h, if_true, Bool.not_true]; rfl
  · simp only [Bool.not_eq_true] at h; simp only [h, Bool.not_false]; rfl

end Sys2Proof.Machine
end

