-- ==== Sys2Proof/Laws/PerInstr.lean ====
section
/-!
SUPPORT. Per instruction: the step the encoder writes for a well-formed command fits its 32 bits (R206); a command that is
no lane instruction has step 0.
-/

namespace Sys2Proof.Laws.Fits

/-- The encoded step fits 32 bits. -/
def Statement (i : Instr) : Prop := i.wf = true → Zen.encodeStep i < 2 ^ 32

theorem emb_lt {op : Nat} {b : BitOp} (h : op < 256) (ha : b.area < 8) (hi : b.ixn < 4) (hd : b.addr < 131072) :
    Zen.emb op b < 2 ^ 32 := by
  have := Bool.toNat_lt b.x
  have := Bool.toNat_lt b.n
  unfold Zen.emb
  omega

theorem ema_lt {op : Nat} {o : MaOp} (h : op < 256) (ha : o.area < 8) (hi : o.ixn < 4) (hs : o.size < 4)
    (hd : o.addr < 65536) : Zen.ema op o < 2 ^ 32 := by
  have := Bool.toNat_lt o.x
  unfold Zen.ema
  omega

theorem emv_lt {op : Nat} {o : MvOp} (h : op < 256) (ha : o.area < 8) (hi : o.ixn < 4) (hv : o.v < 16)
    (hd : o.addr < 16384) : Zen.emv op o < 2 ^ 32 := by
  have := Bool.toNat_lt o.x
  unfold Zen.emv
  omega

theorem er_lt {op d s t i : Nat} (h : op < 256) (hd : d < 16) (hs : s < 16) (ht : t < 16) (hi : i < 4096) :
    Zen.er op d s t i < 2 ^ 32 := by unfold Zen.er; omega

theorem en_lt {op v u id : Nat} (h : op < 256) (hv : v < 16) (hu : u < 4) (hi : id < 65536) :
    Zen.en op v u id < 2 ^ 32 := by unfold Zen.en; omega

theorem zLD (b : BitOp) : Statement (.zLD b) := fun (h : (b.wfRead) = true) => by
  simp only [BitOp.wfRead, indexOk, Bool.and_eq_true, decide_eq_true_eq] at h
  exact emb_lt (by decide) (by omega) (by omega) (by omega)

theorem zAND (b : BitOp) : Statement (.zAND b) := fun (h : (b.wfRead) = true) => by
  simp only [BitOp.wfRead, indexOk, Bool.and_eq_true, decide_eq_true_eq] at h
  exact emb_lt (by decide) (by omega) (by omega) (by omega)

theorem zOR (b : BitOp) : Statement (.zOR b) := fun (h : (b.wfRead) = true) => by
  simp only [BitOp.wfRead, indexOk, Bool.and_eq_true, decide_eq_true_eq] at h
  exact emb_lt (by decide) (by omega) (by omega) (by omega)

theorem zXOR (b : BitOp) : Statement (.zXOR b) := fun (h : (b.wfRead) = true) => by
  simp only [BitOp.wfRead, indexOk, Bool.and_eq_true, decide_eq_true_eq] at h
  exact emb_lt (by decide) (by omega) (by omega) (by omega)

theorem zST (b : BitOp) : Statement (.zST b) := fun (h : (b.wfStore) = true) => by
  simp only [BitOp.wfStore, storeArea, indexOk, Bool.and_eq_true, decide_eq_true_eq] at h
  exact emb_lt (by decide) (by omega) (by omega) (by omega)

theorem zSET (b : BitOp) : Statement (.zSET b) := fun (h : (b.wfStore && !b.n) = true) => by
  simp only [BitOp.wfStore, storeArea, indexOk, Bool.and_eq_true, decide_eq_true_eq] at h
  exact emb_lt (by decide) (by omega) (by omega) (by omega)

theorem zRST (b : BitOp) : Statement (.zRST b) := fun (h : (b.wfStore && !b.n) = true) => by
  simp only [BitOp.wfStore, storeArea, indexOk, Bool.and_eq_true, decide_eq_true_eq] at h
  exact emb_lt (by decide) (by omega) (by omega) (by omega)

theorem zNOT : Statement (.zNOT) := fun _ => by decide

theorem zSETBA : Statement (.zSETBA) := fun _ => by decide

theorem zCLRBA : Statement (.zCLRBA) := fun _ => by decide

theorem zLDF (f : Nat) : Statement (.zLDF f) := fun (h : (decide (f ≤ 5)) = true) => by
  replace h := of_decide_eq_true h
  show 0x0B000000 + f < 2 ^ 32
  omega

theorem zBTST (vs k : Nat) (neg : Bool) : Statement (.zBTST vs k neg) := fun (h : (vReg vs && decide (k < 32)) = true) => by
  have := Bool.toNat_lt neg
  simp only [vReg, Bool.and_eq_true, decide_eq_true_eq] at h
  exact er_lt (by decide) (by omega) (by omega) (by omega) (by omega)

theorem zBST (vd k : Nat) : Statement (.zBST vd k) := fun (h : (vReg vd && decide (k < 32)) = true) => by
  simp only [vReg, Bool.and_eq_true, decide_eq_true_eq] at h
  exact er_lt (by decide) (by omega) (by omega) (by omega) (by omega)

theorem zBOPEN (o : Nat) (neg : Bool) : Statement (.zBOPEN o neg) := fun (h : (decide (o ≤ 2)) = true) => by
  have := Bool.toNat_lt neg
  replace h := of_decide_eq_true h
  show 0x10000000 + neg.toNat * 4 + o < 2 ^ 32
  omega

theorem zBCLOSE : Statement (.zBCLOSE) := fun _ => by decide

theorem zEDGR (id : Nat) : Statement (.zEDGR id) := fun (h : (instId id) = true) => by
  simp only [instId, Bool.and_eq_true, decide_eq_true_eq] at h
  exact en_lt (by decide) (by omega) (by omega) (by omega)

theorem zEDGF (id : Nat) : Statement (.zEDGF id) := fun (h : (instId id) = true) => by
  simp only [instId, Bool.and_eq_true, decide_eq_true_eq] at h
  exact en_lt (by decide) (by omega) (by omega) (by omega)

theorem zTON (id vp unit : Nat) : Statement (.zTON id vp unit) := fun (h : (instId id && vReg vp && decide (unit < 3)) = true) => by
  simp only [vReg, instId, Bool.and_eq_true, decide_eq_true_eq] at h
  exact en_lt (by decide) (by omega) (by omega) (by omega)

theorem zTOF (id vp unit : Nat) : Statement (.zTOF id vp unit) := fun (h : (instId id && vReg vp && decide (unit < 3)) = true) => by
  simp only [vReg, instId, Bool.and_eq_true, decide_eq_true_eq] at h
  exact en_lt (by decide) (by omega) (by omega) (by omega)

theorem zTP (id vp unit : Nat) : Statement (.zTP id vp unit) := fun (h : (instId id && vReg vp && decide (unit < 3)) = true) => by
  simp only [vReg, instId, Bool.and_eq_true, decide_eq_true_eq] at h
  exact en_lt (by decide) (by omega) (by omega) (by omega)

theorem zTRST (id : Nat) : Statement (.zTRST id) := fun (h : (instId id) = true) => by
  simp only [instId, Bool.and_eq_true, decide_eq_true_eq] at h
  exact en_lt (by decide) (by omega) (by omega) (by omega)

theorem zTRD (v id : Nat) : Statement (.zTRD v id) := fun (h : (vReg v && instId id) = true) => by
  simp only [vReg, instId, Bool.and_eq_true, decide_eq_true_eq] at h
  exact en_lt (by decide) (by omega) (by omega) (by omega)

theorem zCTU (v id : Nat) : Statement (.zCTU v id) := fun (h : (vReg v && instId id) = true) => by
  simp only [vReg, instId, Bool.and_eq_true, decide_eq_true_eq] at h
  exact en_lt (by decide) (by omega) (by omega) (by omega)

theorem zCTD (id : Nat) : Statement (.zCTD id) := fun (h : (instId id) = true) => by
  simp only [instId, Bool.and_eq_true, decide_eq_true_eq] at h
  exact en_lt (by decide) (by omega) (by omega) (by omega)

theorem zCRST (id : Nat) : Statement (.zCRST id) := fun (h : (instId id) = true) => by
  simp only [instId, Bool.and_eq_true, decide_eq_true_eq] at h
  exact en_lt (by decide) (by omega) (by omega) (by omega)

theorem zCLDV (v id : Nat) : Statement (.zCLDV v id) := fun (h : (vReg v && instId id) = true) => by
  simp only [vReg, instId, Bool.and_eq_true, decide_eq_true_eq] at h
  exact en_lt (by decide) (by omega) (by omega) (by omega)

theorem zCRD (v id : Nat) : Statement (.zCRD v id) := fun (h : (vReg v && instId id) = true) => by
  simp only [vReg, instId, Bool.and_eq_true, decide_eq_true_eq] at h
  exact en_lt (by decide) (by omega) (by omega) (by omega)

theorem zLDA (o : MaOp) : Statement (.zLDA o) := fun (h : (o.wfRead) = true) => by
  simp only [MaOp.wfRead, indexOk, Bool.and_eq_true, decide_eq_true_eq] at h
  exact ema_lt (by decide) (by omega) (by omega) (by omega) (by omega)

theorem zADD (o : MaOp) : Statement (.zADD o) := fun (h : (o.wfRead) = true) => by
  simp only [MaOp.wfRead, indexOk, Bool.and_eq_true, decide_eq_true_eq] at h
  exact ema_lt (by decide) (by omega) (by omega) (by omega) (by omega)

theorem zSUB (o : MaOp) : Statement (.zSUB o) := fun (h : (o.wfRead) = true) => by
  simp only [MaOp.wfRead, indexOk, Bool.and_eq_true, decide_eq_true_eq] at h
  exact ema_lt (by decide) (by omega) (by omega) (by omega) (by omega)

theorem zSTW (o : MaOp) : Statement (.zSTW o) := fun (h : (o.wfStore) = true) => by
  simp only [MaOp.wfStore, storeArea, indexOk, Bool.and_eq_true, decide_eq_true_eq] at h
  exact ema_lt (by decide) (by omega) (by omega) (by omega) (by omega)

theorem zCMPA (o : MaOp) : Statement (.zCMPA o) := fun (h : (o.wfRead) = true) => by
  simp only [MaOp.wfRead, indexOk, Bool.and_eq_true, decide_eq_true_eq] at h
  exact ema_lt (by decide) (by omega) (by omega) (by omega) (by omega)

theorem zLDAV (vs : Nat) : Statement (.zLDAV vs) := fun (h : (vReg vs) = true) => by
  simp only [vReg, Bool.and_eq_true, decide_eq_true_eq] at h
  exact er_lt (by decide) (by omega) (by omega) (by omega) (by omega)

theorem zADDA (vs : Nat) : Statement (.zADDA vs) := fun (h : (vReg vs) = true) => by
  simp only [vReg, Bool.and_eq_true, decide_eq_true_eq] at h
  exact er_lt (by decide) (by omega) (by omega) (by omega) (by omega)

theorem zSUBA (vs : Nat) : Statement (.zSUBA vs) := fun (h : (vReg vs) = true) => by
  simp only [vReg, Bool.and_eq_true, decide_eq_true_eq] at h
  exact er_lt (by decide) (by omega) (by omega) (by omega) (by omega)

theorem zMAC (vs vt sh : Nat) : Statement (.zMAC vs vt sh) := fun (h : (vReg vs && vReg vt && decide (sh < 32)) = true) => by
  simp only [vReg, Bool.and_eq_true, decide_eq_true_eq] at h
  exact er_lt (by decide) (by omega) (by omega) (by omega) (by omega)

theorem zNEGA : Statement (.zNEGA) := fun _ => by decide

theorem zSTAV (vd : Nat) : Statement (.zSTAV vd) := fun (h : (vReg vd) = true) => by
  simp only [vReg, Bool.and_eq_true, decide_eq_true_eq] at h
  exact er_lt (by decide) (by omega) (by omega) (by omega) (by omega)

theorem zASRA (n : Nat) : Statement (.zASRA n) := fun (h : (decide (n ≤ 39)) = true) => by
  replace h := of_decide_eq_true h
  show 0x4E000000 + n < 2 ^ 32
  omega

theorem zSHLA (n : Nat) : Statement (.zSHLA n) := fun (h : (decide (n ≤ 8)) = true) => by
  replace h := of_decide_eq_true h
  show 0x4F000000 + n < 2 ^ 32
  omega

theorem zCLRA : Statement (.zCLRA) := fun _ => by decide

theorem zRDAH (vd : Nat) : Statement (.zRDAH vd) := fun (h : (vReg vd) = true) => by
  simp only [vReg, Bool.and_eq_true, decide_eq_true_eq] at h
  exact er_lt (by decide) (by omega) (by omega) (by omega) (by omega)

theorem zLDV (o : MvOp) : Statement (.zLDV o) := fun (h : (o.wfRead) = true) => by
  simp only [MvOp.wfRead, vReg, indexOk, Bool.and_eq_true, decide_eq_true_eq] at h
  exact emv_lt (by decide) (by omega) (by omega) (by omega) (by omega)

theorem zSTV (o : MvOp) : Statement (.zSTV o) := fun (h : (o.wfStore) = true) => by
  simp only [MvOp.wfStore, vReg, storeArea, indexOk, Bool.and_eq_true, decide_eq_true_eq] at h
  exact emv_lt (by decide) (by omega) (by omega) (by omega) (by omega)

theorem zLDI (vd imm : Nat) : Statement (.zLDI vd imm) := fun (h : (vReg vd && decide (imm < 65536)) = true) => by
  simp only [vReg, Bool.and_eq_true, decide_eq_true_eq] at h
  show 0x62000000 + vd * 2 ^ 20 + imm < 2 ^ 32
  omega

theorem zLDIH (vd imm : Nat) : Statement (.zLDIH vd imm) := fun (h : (vReg vd && decide (imm < 65536)) = true) => by
  simp only [vReg, Bool.and_eq_true, decide_eq_true_eq] at h
  show 0x63000000 + vd * 2 ^ 20 + imm < 2 ^ 32
  omega

theorem zMOV (vd vs : Nat) : Statement (.zMOV vd vs) := fun (h : (vReg vd && vReg vs) = true) => by
  simp only [vReg, Bool.and_eq_true, decide_eq_true_eq] at h
  exact er_lt (by decide) (by omega) (by omega) (by omega) (by omega)

theorem zIADD (vd vs vt : Nat) : Statement (.zIADD vd vs vt) := fun (h : (vReg vd && vReg vs && vReg vt) = true) => by
  simp only [vReg, Bool.and_eq_true, decide_eq_true_eq] at h
  exact er_lt (by decide) (by omega) (by omega) (by omega) (by omega)

theorem zISUB (vd vs vt : Nat) : Statement (.zISUB vd vs vt) := fun (h : (vReg vd && vReg vs && vReg vt) = true) => by
  simp only [vReg, Bool.and_eq_true, decide_eq_true_eq] at h
  exact er_lt (by decide) (by omega) (by omega) (by omega) (by omega)

theorem zIMUL (vd vs vt : Nat) : Statement (.zIMUL vd vs vt) := fun (h : (vReg vd && vReg vs && vReg vt) = true) => by
  simp only [vReg, Bool.and_eq_true, decide_eq_true_eq] at h
  exact er_lt (by decide) (by omega) (by omega) (by omega) (by omega)

theorem zIDIV (vd vs vt : Nat) : Statement (.zIDIV vd vs vt) := fun (h : (vReg vd && vReg vs && vReg vt) = true) => by
  simp only [vReg, Bool.and_eq_true, decide_eq_true_eq] at h
  exact er_lt (by decide) (by omega) (by omega) (by omega) (by omega)

theorem zIMOD (vd vs vt : Nat) : Statement (.zIMOD vd vs vt) := fun (h : (vReg vd && vReg vs && vReg vt) = true) => by
  simp only [vReg, Bool.and_eq_true, decide_eq_true_eq] at h
  exact er_lt (by decide) (by omega) (by omega) (by omega) (by omega)

theorem zIADDI (vd vs imm : Nat) : Statement (.zIADDI vd vs imm) := fun (h : (vReg vd && vReg vs && decide (imm < 4096)) = true) => by
  simp only [vReg, Bool.and_eq_true, decide_eq_true_eq] at h
  exact er_lt (by decide) (by omega) (by omega) (by omega) (by omega)

theorem zWAND (vd vs vt : Nat) : Statement (.zWAND vd vs vt) := fun (h : (vReg vd && vReg vs && vReg vt) = true) => by
  simp only [vReg, Bool.and_eq_true, decide_eq_true_eq] at h
  exact er_lt (by decide) (by omega) (by omega) (by omega) (by omega)

theorem zWOR (vd vs vt : Nat) : Statement (.zWOR vd vs vt) := fun (h : (vReg vd && vReg vs && vReg vt) = true) => by
  simp only [vReg, Bool.and_eq_true, decide_eq_true_eq] at h
  exact er_lt (by decide) (by omega) (by omega) (by omega) (by omega)

theorem zWXOR (vd vs vt : Nat) : Statement (.zWXOR vd vs vt) := fun (h : (vReg vd && vReg vs && vReg vt) = true) => by
  simp only [vReg, Bool.and_eq_true, decide_eq_true_eq] at h
  exact er_lt (by decide) (by omega) (by omega) (by omega) (by omega)

theorem zWNOT (vd vs : Nat) : Statement (.zWNOT vd vs) := fun (h : (vReg vd && vReg vs) = true) => by
  simp only [vReg, Bool.and_eq_true, decide_eq_true_eq] at h
  exact er_lt (by decide) (by omega) (by omega) (by omega) (by omega)

theorem zSHL (vd vs : Nat) (n : Shift) : Statement (.zSHL vd vs n) := fun (h : (vReg vd && vReg vs && n.wf) = true) => by
  simp only [vReg, Bool.and_eq_true, decide_eq_true_eq] at h
  cases n with
  | imm m =>
    have hm : m < 32 := of_decide_eq_true h.2
    exact er_lt (by decide) (by omega) (by omega) (by omega) (by omega)
  | reg m =>
    have hm : m < 16 := of_decide_eq_true h.2
    exact er_lt (by decide) (by omega) (by omega) (by omega) (by omega)

theorem zSHR (vd vs : Nat) (n : Shift) : Statement (.zSHR vd vs n) := fun (h : (vReg vd && vReg vs && n.wf) = true) => by
  simp only [vReg, Bool.and_eq_true, decide_eq_true_eq] at h
  cases n with
  | imm m =>
    have hm : m < 32 := of_decide_eq_true h.2
    exact er_lt (by decide) (by omega) (by omega) (by omega) (by omega)
  | reg m =>
    have hm : m < 16 := of_decide_eq_true h.2
    exact er_lt (by decide) (by omega) (by omega) (by omega) (by omega)

theorem zASR (vd vs : Nat) (n : Shift) : Statement (.zASR vd vs n) := fun (h : (vReg vd && vReg vs && n.wf) = true) => by
  simp only [vReg, Bool.and_eq_true, decide_eq_true_eq] at h
  cases n with
  | imm m =>
    have hm : m < 32 := of_decide_eq_true h.2
    exact er_lt (by decide) (by omega) (by omega) (by omega) (by omega)
  | reg m =>
    have hm : m < 16 := of_decide_eq_true h.2
    exact er_lt (by decide) (by omega) (by omega) (by omega) (by omega)

theorem zROL (vd vs : Nat) (n : Shift) : Statement (.zROL vd vs n) := fun (h : (vReg vd && vReg vs && n.wf) = true) => by
  simp only [vReg, Bool.and_eq_true, decide_eq_true_eq] at h
  cases n with
  | imm m =>
    have hm : m < 32 := of_decide_eq_true h.2
    exact er_lt (by decide) (by omega) (by omega) (by omega) (by omega)
  | reg m =>
    have hm : m < 16 := of_decide_eq_true h.2
    exact er_lt (by decide) (by omega) (by omega) (by omega) (by omega)

theorem zCMP (vs vt : Nat) : Statement (.zCMP vs vt) := fun (h : (vReg vs && vReg vt) = true) => by
  simp only [vReg, Bool.and_eq_true, decide_eq_true_eq] at h
  exact er_lt (by decide) (by omega) (by omega) (by omega) (by omega)

theorem zCMPI (vs imm : Nat) : Statement (.zCMPI vs imm) := fun (h : (vReg vs && decide (imm < 4096)) = true) => by
  simp only [vReg, Bool.and_eq_true, decide_eq_true_eq] at h
  exact er_lt (by decide) (by omega) (by omega) (by omega) (by omega)

theorem zLDIX (ix imm : Nat) : Statement (.zLDIX ix imm) := fun (h : (decide (ix < 4) && decide (imm < 1048576)) = true) => by
  simp only [Bool.and_eq_true, decide_eq_true_eq] at h
  show 0x78000000 + ix * 2 ^ 22 + imm < 2 ^ 32
  omega

theorem zMOVIX (ix vs : Nat) : Statement (.zMOVIX ix vs) := fun (h : (decide (ix < 4) && vReg vs) = true) => by
  simp only [vReg, Bool.and_eq_true, decide_eq_true_eq] at h
  show 0x79000000 + ix * 2 ^ 22 + vs < 2 ^ 32
  omega

theorem zADDIX (ix imm : Nat) : Statement (.zADDIX ix imm) := fun (h : (decide (ix < 4) && decide (imm < 1048576)) = true) => by
  simp only [Bool.and_eq_true, decide_eq_true_eq] at h
  show 0x7A000000 + ix * 2 ^ 22 + imm < 2 ^ 32
  omega

theorem zRDIX (vd ix : Nat) : Statement (.zRDIX vd ix) := fun (h : (vReg vd && decide (ix < 4)) = true) => by
  simp only [vReg, Bool.and_eq_true, decide_eq_true_eq] at h
  show 0x7B000000 + ix * 2 ^ 22 + vd < 2 ^ 32
  omega

theorem zFADD (vd vs vt : Nat) : Statement (.zFADD vd vs vt) := fun (h : (vReg vd && vReg vs && vReg vt) = true) => by
  simp only [vReg, Bool.and_eq_true, decide_eq_true_eq] at h
  exact er_lt (by decide) (by omega) (by omega) (by omega) (by omega)

theorem zFSUB (vd vs vt : Nat) : Statement (.zFSUB vd vs vt) := fun (h : (vReg vd && vReg vs && vReg vt) = true) => by
  simp only [vReg, Bool.and_eq_true, decide_eq_true_eq] at h
  exact er_lt (by decide) (by omega) (by omega) (by omega) (by omega)

theorem zFMUL (vd vs vt : Nat) : Statement (.zFMUL vd vs vt) := fun (h : (vReg vd && vReg vs && vReg vt) = true) => by
  simp only [vReg, Bool.and_eq_true, decide_eq_true_eq] at h
  exact er_lt (by decide) (by omega) (by omega) (by omega) (by omega)

theorem zFDIV (vd vs vt : Nat) : Statement (.zFDIV vd vs vt) := fun (h : (vReg vd && vReg vs && vReg vt) = true) => by
  simp only [vReg, Bool.and_eq_true, decide_eq_true_eq] at h
  exact er_lt (by decide) (by omega) (by omega) (by omega) (by omega)

theorem zFSQRT (vd vs : Nat) : Statement (.zFSQRT vd vs) := fun (h : (vReg vd && vReg vs) = true) => by
  simp only [vReg, Bool.and_eq_true, decide_eq_true_eq] at h
  exact er_lt (by decide) (by omega) (by omega) (by omega) (by omega)

theorem zFABS (vd vs : Nat) : Statement (.zFABS vd vs) := fun (h : (vReg vd && vReg vs) = true) => by
  simp only [vReg, Bool.and_eq_true, decide_eq_true_eq] at h
  exact er_lt (by decide) (by omega) (by omega) (by omega) (by omega)

theorem zFNEG (vd vs : Nat) : Statement (.zFNEG vd vs) := fun (h : (vReg vd && vReg vs) = true) => by
  simp only [vReg, Bool.and_eq_true, decide_eq_true_eq] at h
  exact er_lt (by decide) (by omega) (by omega) (by omega) (by omega)

theorem zFMIN (vd vs vt : Nat) : Statement (.zFMIN vd vs vt) := fun (h : (vReg vd && vReg vs && vReg vt) = true) => by
  simp only [vReg, Bool.and_eq_true, decide_eq_true_eq] at h
  exact er_lt (by decide) (by omega) (by omega) (by omega) (by omega)

theorem zFMAX (vd vs vt : Nat) : Statement (.zFMAX vd vs vt) := fun (h : (vReg vd && vReg vs && vReg vt) = true) => by
  simp only [vReg, Bool.and_eq_true, decide_eq_true_eq] at h
  exact er_lt (by decide) (by omega) (by omega) (by omega) (by omega)

theorem zFCMP (vs vt : Nat) : Statement (.zFCMP vs vt) := fun (h : (vReg vs && vReg vt) = true) => by
  simp only [vReg, Bool.and_eq_true, decide_eq_true_eq] at h
  exact er_lt (by decide) (by omega) (by omega) (by omega) (by omega)

theorem zITOF (vd vs : Nat) : Statement (.zITOF vd vs) := fun (h : (vReg vd && vReg vs) = true) => by
  simp only [vReg, Bool.and_eq_true, decide_eq_true_eq] at h
  exact er_lt (by decide) (by omega) (by omega) (by omega) (by omega)

theorem zFTOI (vd vs : Nat) : Statement (.zFTOI vd vs) := fun (h : (vReg vd && vReg vs) = true) => by
  simp only [vReg, Bool.and_eq_true, decide_eq_true_eq] at h
  exact er_lt (by decide) (by omega) (by omega) (by omega) (by omega)

theorem zNOP : Statement (.zNOP) := fun _ => by decide

theorem zJMP (t : Nat) : Statement (.zJMP t) := fun (h : (decide (t < 131072)) = true) => by
  replace h := of_decide_eq_true h
  show 0x90000000 + t < 2 ^ 32
  omega

theorem zJC (sel : Nat) (sense : Bool) (t : Nat) : Statement (.zJC sel sense t) := fun (h : (decide (sel ≤ 6) && decide (t < 131072)) = true) => by
  have := Bool.toNat_lt sense
  simp only [Bool.and_eq_true, decide_eq_true_eq] at h
  show 0x93000000 + sel * 2 ^ 21 + sense.toNat * 2 ^ 20 + t < 2 ^ 32
  omega

theorem zCALL (t : Nat) : Statement (.zCALL t) := fun (h : (decide (t < 131072)) = true) => by
  replace h := of_decide_eq_true h
  show 0x94000000 + t < 2 ^ 32
  omega

theorem zRET : Statement (.zRET) := fun _ => by decide

theorem zLOOP (ix t : Nat) : Statement (.zLOOP ix t) := fun (h : (decide (ix < 4) && decide (t < 131072)) = true) => by
  simp only [Bool.and_eq_true, decide_eq_true_eq] at h
  show 0x96000000 + ix * 2 ^ 21 + t < 2 ^ 32
  omega

theorem zEND : Statement (.zEND) := fun _ => by decide

theorem zHALT (code : Nat) : Statement (.zHALT code) := fun (h : (decide (code ≤ 0xFEFF)) = true) => by
  replace h := of_decide_eq_true h
  show 0x98000000 + code < 2 ^ 32
  omega

theorem zCLRF (mask : Nat) : Statement (.zCLRF mask) := fun (h : (decide (mask < 64)) = true) => by
  replace h := of_decide_eq_true h
  show 0x99000000 + mask < 2 ^ 32
  omega

theorem zRDF (vd : Nat) : Statement (.zRDF vd) := fun (h : (vReg vd) = true) => by
  simp only [vReg, Bool.and_eq_true, decide_eq_true_eq] at h
  exact er_lt (by decide) (by omega) (by omega) (by omega) (by omega)

theorem zBMOV (sa da n : Nat) : Statement (.zBMOV sa da n) := fun (h : (decide (sa < 7) && storeArea da && decide (1 ≤ n) && decide (n < 64)) = true) => by
  simp only [storeArea, Bool.and_eq_true, decide_eq_true_eq] at h
  show 0xA0000000 + sa * 2 ^ 21 + da * 2 ^ 18 + n < 2 ^ 32
  omega

theorem zBFILL (da n : Nat) : Statement (.zBFILL da n) := fun (h : (storeArea da && decide (1 ≤ n) && decide (n < 64)) = true) => by
  simp only [storeArea, Bool.and_eq_true, decide_eq_true_eq] at h
  show 0xA1000000 + da * 2 ^ 18 + n < 2 ^ 32
  omega

theorem zEVARM (vs vt : Nat) : Statement (.zEVARM vs vt) := fun (h : (vReg vs && vReg vt) = true) => by
  simp only [vReg, Bool.and_eq_true, decide_eq_true_eq] at h
  exact er_lt (by decide) (by omega) (by omega) (by omega) (by omega)

theorem zEVDIS (vs : Nat) : Statement (.zEVDIS vs) := fun (h : (vReg vs) = true) => by
  simp only [vReg, Bool.and_eq_true, decide_eq_true_eq] at h
  exact er_lt (by decide) (by omega) (by omega) (by omega) (by omega)

theorem zCAPRD (vd ad ix : Nat) : Statement (.zCAPRD vd ad ix) := fun (h : (vReg vd && decide (ad < 4) && decide (ix < 4)) = true) => by
  simp only [vReg, Bool.and_eq_true, decide_eq_true_eq] at h
  exact er_lt (by decide) (by omega) (by omega) (by omega) (by omega)

theorem zCAPPTR (vd ad : Nat) : Statement (.zCAPPTR vd ad) := fun (h : (vReg vd && decide (ad < 4)) = true) => by
  simp only [vReg, Bool.and_eq_true, decide_eq_true_eq] at h
  exact er_lt (by decide) (by omega) (by omega) (by omega) (by omega)

theorem zSNHOLD (k : Nat) : Statement (.zSNHOLD k) := fun (h : (decide (k < 2)) = true) => by
  replace h := of_decide_eq_true h
  show 0xC0000000 + k < 2 ^ 32
  omega

theorem zSNREL (k : Nat) : Statement (.zSNREL k) := fun (h : (decide (k < 2)) = true) => by
  replace h := of_decide_eq_true h
  show 0xC1000000 + k < 2 ^ 32
  omega

theorem zRDTIM (vd : Nat) : Statement (.zRDTIM vd) := fun (h : (vReg vd) = true) => by
  simp only [vReg, Bool.and_eq_true, decide_eq_true_eq] at h
  exact er_lt (by decide) (by omega) (by omega) (by omega) (by omega)

theorem portClockDetect (dt : Elapsed) (p : Port) : Statement (.portClockDetect dt p) := fun _ => (by decide : 0 < 2 ^ 32)

theorem portTrained (dt : Elapsed) (p : Port) : Statement (.portTrained dt p) := fun _ => (by decide : 0 < 2 ^ 32)

theorem portFault (dt : Elapsed) (p : Port) (errors : Nat) : Statement (.portFault dt p errors) := fun _ => (by decide : 0 < 2 ^ 32)

theorem portQualify (dt : Elapsed) (p : Port) : Statement (.portQualify dt p) := fun _ => (by decide : 0 < 2 ^ 32)

theorem portReady (dt : Elapsed) (p : Port) : Statement (.portReady dt p) := fun _ => (by decide : 0 < 2 ^ 32)

theorem unwrap (dt : Elapsed) (apply : Nat) : Statement (.unwrap dt apply) := fun _ => (by decide : 0 < 2 ^ 32)

theorem unwrapApply (dt : Elapsed) : Statement (.unwrapApply dt) := fun _ => (by decide : 0 < 2 ^ 32)

theorem imageFrame (dt : Elapsed) (f : RxFrame) : Statement (.imageFrame dt f) := fun _ => (by decide : 0 < 2 ^ 32)

theorem carrier (dt : Elapsed) (f : RxFrame) : Statement (.carrier dt f) := fun _ => (by decide : 0 < 2 ^ 32)

theorem mbxw (dt : Elapsed) (f : RxFrame) : Statement (.mbxw dt f) := fun _ => (by decide : 0 < 2 ^ 32)

theorem mgmtW (dt : Elapsed) (f : RxFrame) : Statement (.mgmtW dt f) := fun _ => (by decide : 0 < 2 ^ 32)

theorem linkRegApply (dt : Elapsed) : Statement (.linkRegApply dt) := fun _ => (by decide : 0 < 2 ^ 32)

theorem nrlTime (dt : Elapsed) (apply value : Nat) : Statement (.nrlTime dt apply value) := fun _ => (by decide : 0 < 2 ^ 32)

theorem mgmtR (dt : Elapsed) (f : RxFrame) : Statement (.mgmtR dt f) := fun _ => (by decide : 0 < 2 ^ 32)

theorem enumAssign (dt : Elapsed) (f : RxFrame) : Statement (.enumAssign dt f) := fun _ => (by decide : 0 < 2 ^ 32)

theorem enumVerify (dt : Elapsed) (f : RxFrame) : Statement (.enumVerify dt f) := fun _ => (by decide : 0 < 2 ^ 32)

theorem peerFrame (dt : Elapsed) (f : RxFrame) : Statement (.peerFrame dt f) := fun _ => (by decide : 0 < 2 ^ 32)

theorem cinchMarker (dt : Elapsed) (p : Port) (lanes r0 r1 flags check : Nat) : Statement (.cinchMarker dt p lanes r0 r1 flags check) := fun _ => (by decide : 0 < 2 ^ 32)

theorem cinchLatch (dt : Elapsed) (bad : Nat) : Statement (.cinchLatch dt bad) := fun _ => (by decide : 0 < 2 ^ 32)

theorem substituteLatch (dt : Elapsed) (bad : Nat) : Statement (.substituteLatch dt bad) := fun _ => (by decide : 0 < 2 ^ 32)

theorem cinchLost (dt : Elapsed) : Statement (.cinchLost dt) := fun _ => (by decide : 0 < 2 ^ 32)

theorem localLatch (dt : Elapsed) (bad : Nat) : Statement (.localLatch dt bad) := fun _ => (by decide : 0 < 2 ^ 32)

theorem probe (dt : Elapsed) (p : Port) (b0 b1 b2 check : Nat) : Statement (.probe dt p b0 b1 b2 check) := fun _ => (by decide : 0 < 2 ^ 32)

theorem pairbeatReceive (dt : Elapsed) (p : Port) (b0 b1 b2 check : Nat) : Statement (.pairbeatReceive dt p b0 b1 b2 check) := fun _ => (by decide : 0 < 2 ^ 32)

theorem pairbeatSend (dt : Elapsed) : Statement (.pairbeatSend dt) := fun _ => (by decide : 0 < 2 ^ 32)

theorem judgeWindow (dt : Elapsed) (lclk link lane sys : Nat) : Statement (.judgeWindow dt lclk link lane sys) := fun _ => (by decide : 0 < 2 ^ 32)

theorem refSwitch (dt : Elapsed) : Statement (.refSwitch dt) := fun _ => (by decide : 0 < 2 ^ 32)

theorem lclkLoss (dt : Elapsed) : Statement (.lclkLoss dt) := fun _ => (by decide : 0 < 2 ^ 32)

theorem pllLockLoss (dt : Elapsed) (pll : Nat) : Statement (.pllLockLoss dt pll) := fun _ => (by decide : 0 < 2 ^ 32)

theorem pllGatesOpen (dt : Elapsed) (pll : Nat) : Statement (.pllGatesOpen dt pll) := fun _ => (by decide : 0 < 2 ^ 32)

theorem bridgeFrame (dt : Elapsed) : Statement (.bridgeFrame dt) := fun _ => (by decide : 0 < 2 ^ 32)

theorem park (dt : Elapsed) : Statement (.park dt) := fun _ => (by decide : 0 < 2 ^ 32)

theorem laneStepChange (dt : Elapsed) : Statement (.laneStepChange dt) := fun _ => (by decide : 0 < 2 ^ 32)

theorem oscStop (dt : Elapsed) : Statement (.oscStop dt) := fun _ => (by decide : 0 < 2 ^ 32)

theorem xtalResume (dt : Elapsed) : Statement (.xtalResume dt) := fun _ => (by decide : 0 < 2 ^ 32)

theorem xtalLimited (dt : Elapsed) : Statement (.xtalLimited dt) := fun _ => (by decide : 0 < 2 ^ 32)

theorem por (dt : Elapsed) (rising : Bool) : Statement (.por dt rising) := fun _ => (by decide : 0 < 2 ^ 32)

theorem pinReset (dt : Elapsed) (lowNs : Nat) : Statement (.pinReset dt lowNs) := fun _ => (by decide : 0 < 2 ^ 32)

theorem moduleResetStart (dt : Elapsed) : Statement (.moduleResetStart dt) := fun _ => (by decide : 0 < 2 ^ 32)

theorem svWatchdog (dt : Elapsed) (bothSilent storeUp : Bool) : Statement (.svWatchdog dt bothSilent storeUp) := fun _ => (by decide : 0 < 2 ^ 32)

theorem startupWatchdog (dt : Elapsed) (storeUp : Bool) : Statement (.startupWatchdog dt storeUp) := fun _ => (by decide : 0 < 2 ^ 32)

theorem porRelease (dt : Elapsed) (lineEnd compat xtal : Bool) : Statement (.porRelease dt lineEnd compat xtal) := fun _ => (by decide : 0 < 2 ^ 32)

theorem storeRecallDone (dt : Elapsed) (header : Bool) (bad : List (Nat × Nat × Nat)) (uncorr : List (Nat × Nat)) : Statement (.storeRecallDone dt header bad uncorr) := fun _ => (by decide : 0 < 2 ^ 32)

theorem targetLoad (dt : Elapsed) (t fails : Nat) : Statement (.targetLoad dt t fails) := fun _ => (by decide : 0 < 2 ^ 32)

theorem banksLoaded (dt : Elapsed) : Statement (.banksLoaded dt) := fun _ => (by decide : 0 < 2 ^ 32)

theorem marginPlanDone (dt : Elapsed) : Statement (.marginPlanDone dt) := fun _ => (by decide : 0 < 2 ^ 32)

theorem stopReady (dt : Elapsed) (levels : Nat) : Statement (.stopReady dt levels) := fun _ => (by decide : 0 < 2 ^ 32)

theorem groupLoad (dt : Elapsed) (g levels : Nat) : Statement (.groupLoad dt g levels) := fun _ => (by decide : 0 < 2 ^ 32)

theorem autorun (dt : Elapsed) : Statement (.autorun dt) := fun _ => (by decide : 0 < 2 ^ 32)

theorem holdThreshold (dt : Elapsed) (v : Nat) : Statement (.holdThreshold dt v) := fun _ => (by decide : 0 < 2 ^ 32)

theorem sesOpen (dt : Elapsed) : Statement (.sesOpen dt) := fun _ => (by decide : 0 < 2 ^ 32)

theorem sesAuth (dt : Elapsed) : Statement (.sesAuth dt) := fun _ => (by decide : 0 < 2 ^ 32)

theorem sesClose (dt : Elapsed) : Statement (.sesClose dt) := fun _ => (by decide : 0 < 2 ^ 32)

theorem sesLimit (dt : Elapsed) : Statement (.sesLimit dt) := fun _ => (by decide : 0 < 2 ^ 32)

theorem sesIdle (dt : Elapsed) : Statement (.sesIdle dt) := fun _ => (by decide : 0 < 2 ^ 32)

theorem sesList (dt : Elapsed) : Statement (.sesList dt) := fun _ => (by decide : 0 < 2 ^ 32)

theorem hdlQuery (dt : Elapsed) : Statement (.hdlQuery dt) := fun _ => (by decide : 0 < 2 ^ 32)

theorem hdlCancel (dt : Elapsed) : Statement (.hdlCancel dt) := fun _ => (by decide : 0 < 2 ^ 32)

theorem objGet (dt : Elapsed) : Statement (.objGet dt) := fun _ => (by decide : 0 < 2 ^ 32)

theorem objSet (dt : Elapsed) : Statement (.objSet dt) := fun _ => (by decide : 0 < 2 ^ 32)

theorem objCommit (dt : Elapsed) : Statement (.objCommit dt) := fun _ => (by decide : 0 < 2 ^ 32)

theorem commitApply (dt : Elapsed) (levels : Nat) : Statement (.commitApply dt levels) := fun _ => (by decide : 0 < 2 ^ 32)

theorem objDiscard (dt : Elapsed) : Statement (.objDiscard dt) := fun _ => (by decide : 0 < 2 ^ 32)

theorem objStore (dt : Elapsed) : Statement (.objStore dt) := fun _ => (by decide : 0 < 2 ^ 32)

theorem objStoreDone (dt : Elapsed) : Statement (.objStoreDone dt) := fun _ => (by decide : 0 < 2 ^ 32)

theorem objList (dt : Elapsed) : Statement (.objList dt) := fun _ => (by decide : 0 < 2 ^ 32)

theorem imgWrite (dt : Elapsed) : Statement (.imgWrite dt) := fun _ => (by decide : 0 < 2 ^ 32)

theorem snapPin (dt : Elapsed) : Statement (.snapPin dt) := fun _ => (by decide : 0 < 2 ^ 32)

theorem snapRead (dt : Elapsed) : Statement (.snapRead dt) := fun _ => (by decide : 0 < 2 ^ 32)

theorem snapReadConfirm (dt : Elapsed) (k : Nat) (bad : List Nat) : Statement (.snapReadConfirm dt k bad) := fun _ => (by decide : 0 < 2 ^ 32)

theorem snapUnpin (dt : Elapsed) : Statement (.snapUnpin dt) := fun _ => (by decide : 0 < 2 ^ 32)

theorem capRead (dt : Elapsed) : Statement (.capRead dt) := fun _ => (by decide : 0 < 2 ^ 32)

theorem capReadConfirm (dt : Elapsed) (k : Nat) : Statement (.capReadConfirm dt k) := fun _ => (by decide : 0 < 2 ^ 32)

theorem modeSet (dt : Elapsed) : Statement (.modeSet dt) := fun _ => (by decide : 0 < 2 ^ 32)

theorem modReset (dt : Elapsed) : Statement (.modReset dt) := fun _ => (by decide : 0 < 2 ^ 32)

theorem prgLoadBegin (dt : Elapsed) : Statement (.prgLoadBegin dt) := fun _ => (by decide : 0 < 2 ^ 32)

theorem prgLoadData (dt : Elapsed) : Statement (.prgLoadData dt) := fun _ => (by decide : 0 < 2 ^ 32)

theorem prgLoadEnd (dt : Elapsed) : Statement (.prgLoadEnd dt) := fun _ => (by decide : 0 < 2 ^ 32)

theorem prgLoadChecks (dt : Elapsed) : Statement (.prgLoadChecks dt) := fun _ => (by decide : 0 < 2 ^ 32)

theorem laneBankCopy (dt : Elapsed) (bad : Nat) : Statement (.laneBankCopy dt bad) := fun _ => (by decide : 0 < 2 ^ 32)

theorem prgActivate (dt : Elapsed) : Statement (.prgActivate dt) := fun _ => (by decide : 0 < 2 ^ 32)

theorem prgAbort (dt : Elapsed) : Statement (.prgAbort dt) := fun _ => (by decide : 0 < 2 ^ 32)

theorem swapQuietPoint (dt : Elapsed) : Statement (.swapQuietPoint dt) := fun _ => (by decide : 0 < 2 ^ 32)

theorem programSwap (dt : Elapsed) : Statement (.programSwap dt) := fun _ => (by decide : 0 < 2 ^ 32)

theorem swapDeadline (dt : Elapsed) : Statement (.swapDeadline dt) := fun _ => (by decide : 0 < 2 ^ 32)

theorem activationRecordWrite (dt : Elapsed) : Statement (.activationRecordWrite dt) := fun _ => (by decide : 0 < 2 ^ 32)

theorem standbyLagSwap (dt : Elapsed) : Statement (.standbyLagSwap dt) := fun _ => (by decide : 0 < 2 ^ 32)

theorem pairLease (dt : Elapsed) : Statement (.pairLease dt) := fun _ => (by decide : 0 < 2 ^ 32)

theorem pairDrill (dt : Elapsed) : Statement (.pairDrill dt) := fun _ => (by decide : 0 < 2 ^ 32)

theorem recRead (dt : Elapsed) : Statement (.recRead dt) := fun _ => (by decide : 0 < 2 ^ 32)

theorem recReadConfirm (dt : Elapsed) (k : Nat) (uncorr crc : List Nat) : Statement (.recReadConfirm dt k uncorr crc) := fun _ => (by decide : 0 < 2 ^ 32)

theorem recClear (dt : Elapsed) : Statement (.recClear dt) := fun _ => (by decide : 0 < 2 ^ 32)

theorem fwStageBegin (dt : Elapsed) : Statement (.fwStageBegin dt) := fun _ => (by decide : 0 < 2 ^ 32)

theorem fwStageData (dt : Elapsed) : Statement (.fwStageData dt) := fun _ => (by decide : 0 < 2 ^ 32)

theorem fwStageEnd (dt : Elapsed) : Statement (.fwStageEnd dt) := fun _ => (by decide : 0 < 2 ^ 32)

theorem fwStageChecks (dt : Elapsed) : Statement (.fwStageChecks dt) := fun _ => (by decide : 0 < 2 ^ 32)

theorem fwActivate (dt : Elapsed) : Statement (.fwActivate dt) := fun _ => (by decide : 0 < 2 ^ 32)

theorem svHandover (dt : Elapsed) (spareOk : Bool) : Statement (.svHandover dt spareOk) := fun _ => (by decide : 0 < 2 ^ 32)

theorem fieldBankSwap (dt : Elapsed) (g : Nat) (ok : Bool) : Statement (.fieldBankSwap dt g ok) := fun _ => (by decide : 0 < 2 ^ 32)

theorem laneUcodeSwap (dt : Elapsed) (k : Nat) : Statement (.laneUcodeSwap dt k) := fun _ => (by decide : 0 < 2 ^ 32)

theorem keySet (dt : Elapsed) : Statement (.keySet dt) := fun _ => (by decide : 0 < 2 ^ 32)

theorem mbxNop (dt : Elapsed) : Statement (.mbxNop dt) := fun _ => (by decide : 0 < 2 ^ 32)

theorem authTimeout (dt : Elapsed) : Statement (.authTimeout dt) := fun _ => (by decide : 0 < 2 ^ 32)

theorem sessionIdleTimeout (dt : Elapsed) : Statement (.sessionIdleTimeout dt) := fun _ => (by decide : 0 < 2 ^ 32)

theorem cqReplace (dt : Elapsed) : Statement (.cqReplace dt) := fun _ => (by decide : 0 < 2 ^ 32)

theorem modeRunEntry (dt : Elapsed) : Statement (.modeRunEntry dt) := fun _ => (by decide : 0 < 2 ^ 32)

theorem modeHoldEntry (dt : Elapsed) : Statement (.modeHoldEntry dt) := fun _ => (by decide : 0 < 2 ^ 32)

theorem modeStopEntry (dt : Elapsed) : Statement (.modeStopEntry dt) := fun _ => (by decide : 0 < 2 ^ 32)

theorem faultExit (dt : Elapsed) : Statement (.faultExit dt) := fun _ => (by decide : 0 < 2 ^ 32)

theorem startupLimitExpiry (dt : Elapsed) : Statement (.startupLimitExpiry dt) := fun _ => (by decide : 0 < 2 ^ 32)

theorem holdLimitExpiry (dt : Elapsed) : Statement (.holdLimitExpiry dt) := fun _ => (by decide : 0 < 2 ^ 32)

theorem t0Release (dt : Elapsed) : Statement (.t0Release dt) := fun _ => (by decide : 0 < 2 ^ 32)

theorem periodicRelease (dt : Elapsed) (task : Nat) : Statement (.periodicRelease dt task) := fun _ => (by decide : 0 < 2 ^ 32)

theorem taskWatchdog (dt : Elapsed) : Statement (.taskWatchdog dt) := fun _ => (by decide : 0 < 2 ^ 32)

theorem snapshotNoexec (dt : Elapsed) : Statement (.snapshotNoexec dt) := fun _ => (by decide : 0 < 2 ^ 32)

theorem plaitCommit (dt : Elapsed) (wc late unc off : Nat) : Statement (.plaitCommit dt wc late unc off) := fun _ => (by decide : 0 < 2 ^ 32)

theorem fieldVote (dt : Elapsed) (g bad : Nat) : Statement (.fieldVote dt g bad) := fun _ => (by decide : 0 < 2 ^ 32)

theorem safeValueCommand (dt : Elapsed) (g : Nat) : Statement (.safeValueCommand dt g) := fun _ => (by decide : 0 < 2 ^ 32)

theorem pairHoldCommand (dt : Elapsed) (g : Nat) : Statement (.pairHoldCommand dt g) := fun _ => (by decide : 0 < 2 ^ 32)

theorem retentiveCopy (dt : Elapsed) : Statement (.retentiveCopy dt) := fun _ => (by decide : 0 < 2 ^ 32)

theorem counterRingUpdate (dt : Elapsed) : Statement (.counterRingUpdate dt) := fun _ => (by decide : 0 < 2 ^ 32)

theorem laneTest (dt : Elapsed) (k : Nat) (pass : Bool) : Statement (.laneTest dt k pass) := fun _ => (by decide : 0 < 2 ^ 32)

theorem laneCopyPass (dt : Elapsed) (k : Nat) : Statement (.laneCopyPass dt k) := fun _ => (by decide : 0 < 2 ^ 32)

theorem laneJoin (dt : Elapsed) (k : Nat) : Statement (.laneJoin dt k) := fun _ => (by decide : 0 < 2 ^ 32)

theorem admitRetry (dt : Elapsed) (k : Nat) : Statement (.admitRetry dt k) := fun _ => (by decide : 0 < 2 ^ 32)

theorem helloSend (dt : Elapsed) : Statement (.helloSend dt) := fun _ => (by decide : 0 < 2 ^ 32)

theorem hello (dt : Elapsed) (body : List Nat) : Statement (.hello dt body) := fun _ => (by decide : 0 < 2 ^ 32)

theorem ident (dt : Elapsed) (body : List Nat) : Statement (.ident dt body) := fun _ => (by decide : 0 < 2 ^ 32)

theorem identTimeout (dt : Elapsed) : Statement (.identTimeout dt) := fun _ => (by decide : 0 < 2 ^ 32)

theorem swapAt (dt : Elapsed) (body : List Nat) : Statement (.swapAt dt body) := fun _ => (by decide : 0 < 2 ^ 32)

theorem swapAck (dt : Elapsed) (body : List Nat) : Statement (.swapAck dt body) := fun _ => (by decide : 0 < 2 ^ 32)

theorem swapDone (dt : Elapsed) (body : List Nat) : Statement (.swapDone dt body) := fun _ => (by decide : 0 < 2 ^ 32)

theorem swapped (dt : Elapsed) : Statement (.swapped dt) := fun _ => (by decide : 0 < 2 ^ 32)

theorem noswap (dt : Elapsed) : Statement (.noswap dt) := fun _ => (by decide : 0 < 2 ^ 32)

theorem claimEffect (dt : Elapsed) : Statement (.claimEffect dt) := fun _ => (by decide : 0 < 2 ^ 32)

theorem partnerSilence (dt : Elapsed) : Statement (.partnerSilence dt) := fun _ => (by decide : 0 < 2 ^ 32)

theorem tookOver (dt : Elapsed) : Statement (.tookOver dt) := fun _ => (by decide : 0 < 2 ^ 32)

theorem released (dt : Elapsed) : Statement (.released dt) := fun _ => (by decide : 0 < 2 ^ 32)

theorem analogueGateTimeout (dt : Elapsed) : Statement (.analogueGateTimeout dt) := fun _ => (by decide : 0 < 2 ^ 32)

theorem pairHoldExpiry (dt : Elapsed) : Statement (.pairHoldExpiry dt) := fun _ => (by decide : 0 < 2 ^ 32)

theorem leaseExpiry (dt : Elapsed) : Statement (.leaseExpiry dt) := fun _ => (by decide : 0 < 2 ^ 32)

theorem returnHoldExpiry (dt : Elapsed) (partnerLease : Bool) : Statement (.returnHoldExpiry dt partnerLease) := fun _ => (by decide : 0 < 2 ^ 32)

theorem drillDwellEnd (dt : Elapsed) : Statement (.drillDwellEnd dt) := fun _ => (by decide : 0 < 2 ^ 32)

theorem mirrorCapture (dt : Elapsed) : Statement (.mirrorCapture dt) := fun _ => (by decide : 0 < 2 ^ 32)

theorem mirror (dt : Elapsed) (body : List Nat) : Statement (.mirror dt body) := fun _ => (by decide : 0 < 2 ^ 32)

theorem mirrorApply (dt : Elapsed) : Statement (.mirrorApply dt) := fun _ => (by decide : 0 < 2 ^ 32)

theorem angleEdge (dt : Elapsed) (sig : Nat) (level : Bool) : Statement (.angleEdge dt sig level) := fun _ => (by decide : 0 < 2 ^ 32)

theorem speedTimeout (dt : Elapsed) (d : Nat) : Statement (.speedTimeout dt d) := fun _ => (by decide : 0 < 2 ^ 32)

theorem inputFault (dt : Elapsed) (n : Nat) : Statement (.inputFault dt n) := fun _ => (by decide : 0 < 2 ^ 32)

theorem inputFaultClear (dt : Elapsed) (n : Nat) : Statement (.inputFaultClear dt n) := fun _ => (by decide : 0 < 2 ^ 32)

theorem frameStreamLoss (dt : Elapsed) (g : Nat) : Statement (.frameStreamLoss dt g) := fun _ => (by decide : 0 < 2 ^ 32)

theorem eventCommandSend (dt : Elapsed) (e : Nat) : Statement (.eventCommandSend dt e) := fun _ => (by decide : 0 < 2 ^ 32)

theorem eventFire (dt : Elapsed) (e : Nat) : Statement (.eventFire dt e) := fun _ => (by decide : 0 < 2 ^ 32)

theorem angleAction (dt : Elapsed) (e : Nat) : Statement (.angleAction dt e) := fun _ => (by decide : 0 < 2 ^ 32)

theorem arm (dt : Elapsed) (e : Nat) (v : Bool) : Statement (.arm dt e v) := fun _ => (by decide : 0 < 2 ^ 32)

theorem angle (dt : Elapsed) (e a : Nat) : Statement (.angle dt e a) := fun _ => (by decide : 0 < 2 ^ 32)

theorem resync (dt : Elapsed) (d : Nat) : Statement (.resync dt d) := fun _ => (by decide : 0 < 2 ^ 32)

theorem synspd (dt : Elapsed) (d v : Nat) : Statement (.synspd dt d v) := fun _ => (by decide : 0 < 2 ^ 32)

theorem inputChange (dt : Elapsed) (c : Nat) (level : Bool) : Statement (.inputChange dt c level) := fun _ => (by decide : 0 < 2 ^ 32)

theorem stormWindow (dt : Elapsed) : Statement (.stormWindow dt) := fun _ => (by decide : 0 < 2 ^ 32)

theorem stormed (dt : Elapsed) (n : Nat) : Statement (.stormed dt n) := fun _ => (by decide : 0 < 2 ^ 32)

theorem svTake (dt : Elapsed) (c : Nat) : Statement (.svTake dt c) := fun _ => (by decide : 0 < 2 ^ 32)

theorem svComplete (dt : Elapsed) (c : Nat) : Statement (.svComplete dt c) := fun _ => (by decide : 0 < 2 ^ 32)

theorem cnt (dt : Elapsed) (c v : Nat) : Statement (.cnt dt c v) := fun _ => (by decide : 0 < 2 ^ 32)

theorem filt (dt : Elapsed) (c v : Nat) : Statement (.filt dt c v) := fun _ => (by decide : 0 < 2 ^ 32)

theorem overload (dt : Elapsed) (c : Nat) : Statement (.overload dt c) := fun _ => (by decide : 0 < 2 ^ 32)

theorem overloadRetry (dt : Elapsed) (c : Nat) : Statement (.overloadRetry dt c) := fun _ => (by decide : 0 < 2 ^ 32)

theorem groupOvercurrent (dt : Elapsed) (g limited more : Nat) : Statement (.groupOvercurrent dt g limited more) := fun _ => (by decide : 0 < 2 ^ 32)

theorem overtemp (dt : Elapsed) (c : Nat) : Statement (.overtemp dt c) := fun _ => (by decide : 0 < 2 ^ 32)

theorem overtempClear (dt : Elapsed) (c : Nat) : Statement (.overtempClear dt c) := fun _ => (by decide : 0 < 2 ^ 32)

theorem clampEnd (dt : Elapsed) (c : Nat) : Statement (.clampEnd dt c) := fun _ => (by decide : 0 < 2 ^ 32)

theorem boostEnd (dt : Elapsed) (c : Nat) : Statement (.boostEnd dt c) := fun _ => (by decide : 0 < 2 ^ 32)

theorem pwmPeriod (dt : Elapsed) (c : Nat) : Statement (.pwmPeriod dt c) := fun _ => (by decide : 0 < 2 ^ 32)

theorem sfOvl (dt : Elapsed) (c : Nat) : Statement (.sfOvl dt c) := fun _ => (by decide : 0 < 2 ^ 32)

theorem sfRetry (dt : Elapsed) (c : Nat) : Statement (.sfRetry dt c) := fun _ => (by decide : 0 < 2 ^ 32)

theorem sfGrp (dt : Elapsed) (g n : Nat) : Statement (.sfGrp dt g n) := fun _ => (by decide : 0 < 2 ^ 32)

theorem diagDetect (dt : Elapsed) (c k : Nat) (present : Bool) : Statement (.diagDetect dt c k present) := fun _ => (by decide : 0 < 2 ^ 32)

theorem rbMismatch (dt : Elapsed) (c : Nat) : Statement (.rbMismatch dt c) := fun _ => (by decide : 0 < 2 ^ 32)

theorem senseTest (dt : Elapsed) (g : Nat) (pass : Bool) : Statement (.senseTest dt g pass) := fun _ => (by decide : 0 < 2 ^ 32)

theorem lplusMonitor (dt : Elapsed) (g lplus : Nat) (mOpen : Bool) : Statement (.lplusMonitor dt g lplus mOpen) := fun _ => (by decide : 0 < 2 ^ 32)

theorem boostcapMeasure (dt : Elapsed) (g cmeas : Nat) (above20 : Bool) : Statement (.boostcapMeasure dt g cmeas above20) := fun _ => (by decide : 0 < 2 ^ 32)

theorem reinTimeout (dt : Elapsed) (g : Nat) : Statement (.reinTimeout dt g) := fun _ => (by decide : 0 < 2 ^ 32)

theorem heartbeatResume (dt : Elapsed) (g : Nat) : Statement (.heartbeatResume dt g) := fun _ => (by decide : 0 < 2 ^ 32)

theorem conversionStep (dt : Elapsed) (g p : Nat) : Statement (.conversionStep dt g p) := fun _ => (by decide : 0 < 2 ^ 32)

theorem deferredTrigger (dt : Elapsed) (g p : Nat) : Statement (.deferredTrigger dt g p) := fun _ => (by decide : 0 < 2 ^ 32)

theorem resultProcess (dt : Elapsed) (g p : Nat) (x : Int) (aqOk atLimit : Bool) : Statement (.resultProcess dt g p x aqOk atLimit) := fun _ => (by decide : 0 < 2 ^ 32)

theorem mainsFreeEdge (dt : Elapsed) (c : Nat) : Statement (.mainsFreeEdge dt c) := fun _ => (by decide : 0 < 2 ^ 32)

theorem calStepStart (dt : Elapsed) (g : Nat) : Statement (.calStepStart dt g) := fun _ => (by decide : 0 < 2 ^ 32)

theorem calDone (dt : Elapsed) (g : Nat) (offs gain : Int) (ok : Bool) : Statement (.calDone dt g offs gain ok) := fun _ => (by decide : 0 < 2 ^ 32)

theorem overlapDone (dt : Elapsed) (g : Nat) (pass : Bool) : Statement (.overlapDone dt g pass) := fun _ => (by decide : 0 < 2 ^ 32)

theorem overlapTimeout (dt : Elapsed) (g : Nat) : Statement (.overlapTimeout dt g) := fun _ => (by decide : 0 < 2 ^ 32)

theorem slicePowerUp (dt : Elapsed) (g k : Nat) : Statement (.slicePowerUp dt g k) := fun _ => (by decide : 0 < 2 ^ 32)

theorem quadPowerUp (dt : Elapsed) (g q : Nat) : Statement (.quadPowerUp dt g q) := fun _ => (by decide : 0 < 2 ^ 32)

theorem quadPowerDown (dt : Elapsed) (g q : Nat) : Statement (.quadPowerDown dt g q) := fun _ => (by decide : 0 < 2 ^ 32)

theorem reconfigDone (dt : Elapsed) (c : Nat) : Statement (.reconfigDone dt c) := fun _ => (by decide : 0 < 2 ^ 32)

theorem quadTemp (dt : Elapsed) (g q t : Nat) : Statement (.quadTemp dt g q t) := fun _ => (by decide : 0 < 2 ^ 32)

theorem avplusMonitor (dt : Elapsed) (g avplus : Nat) (agOpen : Bool) (strap : Nat) : Statement (.avplusMonitor dt g avplus agOpen strap) := fun _ => (by decide : 0 < 2 ^ 32)

theorem analogueDiag (dt : Elapsed) (c k : Nat) (present : Bool) : Statement (.analogueDiag dt c k present) := fun _ => (by decide : 0 < 2 ^ 32)

theorem retest (dt : Elapsed) (g k : Nat) : Statement (.retest dt g k) := fun _ => (by decide : 0 < 2 ^ 32)

theorem flen (dt : Elapsed) (c v : Nat) : Statement (.flen dt c v) := fun _ => (by decide : 0 < 2 ^ 32)

theorem windowThreshold (dt : Elapsed) (w : Nat) (high : Bool) (v : Nat) : Statement (.windowThreshold dt w high v) := fun _ => (by decide : 0 < 2 ^ 32)

theorem burnishPass (dt : Elapsed) : Statement (.burnishPass dt) := fun _ => (by decide : 0 < 2 ^ 32)

theorem burnishPage (dt : Elapsed) (fixed margin : Nat) (uncorr : List (Nat × Nat × Nat × Nat × Nat)) : Statement (.burnishPage dt fixed margin uncorr) := fun _ => (by decide : 0 < 2 ^ 32)

theorem recorderFlush (dt : Elapsed) : Statement (.recorderFlush dt) := fun _ => (by decide : 0 < 2 ^ 32)

theorem recorderAgeExpiry (dt : Elapsed) : Statement (.recorderAgeExpiry dt) := fun _ => (by decide : 0 < 2 ^ 32)

theorem operatingTimeUpdate (dt : Elapsed) : Statement (.operatingTimeUpdate dt) := fun _ => (by decide : 0 < 2 ^ 32)

theorem timeLink (dt : Elapsed) : Statement (.timeLink dt) := fun _ => (by decide : 0 < 2 ^ 32)

theorem powerFail (dt : Elapsed) (vsys hold : Nat) : Statement (.powerFail dt vsys hold) := fun _ => (by decide : 0 < 2 ^ 32)

theorem rideReturn (dt : Elapsed) (vsys hold : Nat) : Statement (.rideReturn dt vsys hold) := fun _ => (by decide : 0 < 2 ^ 32)

theorem shutdown (dt : Elapsed) (hold : Nat) : Statement (.shutdown dt hold) := fun _ => (by decide : 0 < 2 ^ 32)

theorem holdTest (dt : Elapsed) : Statement (.holdTest dt) := fun _ => (by decide : 0 < 2 ^ 32)

theorem holdTestRun (dt : Elapsed) : Statement (.holdTestRun dt) := fun _ => (by decide : 0 < 2 ^ 32)

theorem holdTestDone (dt : Elapsed) (cap esr hold : Nat) : Statement (.holdTestDone dt cap esr hold) := fun _ => (by decide : 0 < 2 ^ 32)

theorem slackSample (dt : Elapsed) (a b c : Int) : Statement (.slackSample dt a b c) := fun _ => (by decide : 0 < 2 ^ 32)

theorem ageingSample (dt : Elapsed) (tl : Nat) (td ta : List Nat) : Statement (.ageingSample dt tl td ta) := fun _ => (by decide : 0 < 2 ^ 32)

theorem ageRingUpdate (dt : Elapsed) : Statement (.ageRingUpdate dt) := fun _ => (by decide : 0 < 2 ^ 32)

theorem epochEnd (dt : Elapsed) : Statement (.epochEnd dt) := fun _ => (by decide : 0 < 2 ^ 32)

theorem backupPowerOn (dt : Elapsed) (logic : Bool) : Statement (.backupPowerOn dt logic) := fun _ => (by decide : 0 < 2 ^ 32)

theorem vbatMeasure (dt : Elapsed) (v : Nat) : Statement (.vbatMeasure dt v) := fun _ => (by decide : 0 < 2 ^ 32)

theorem secondBoundary (dt : Elapsed) : Statement (.secondBoundary dt) := fun _ => (by decide : 0 < 2 ^ 32)

theorem wakePeriod (dt : Elapsed) : Statement (.wakePeriod dt) := fun _ => (by decide : 0 < 2 ^ 32)

theorem rtcTime (dt : Elapsed) (secs sub session : Nat) : Statement (.rtcTime dt secs sub session) := fun _ => (by decide : 0 < 2 ^ 32)

theorem rtcWake (dt : Elapsed) (period : Nat) (pwrEn en : Bool) : Statement (.rtcWake dt period pwrEn en) := fun _ => (by decide : 0 < 2 ^ 32)

theorem off (dt : Elapsed) : Statement (.off dt) := fun _ => (by decide : 0 < 2 ^ 32)

theorem offDelayExpiry (dt : Elapsed) : Statement (.offDelayExpiry dt) := fun _ => (by decide : 0 < 2 ^ 32)

theorem rngFail (dt : Elapsed) (kind : Nat) : Statement (.rngFail dt kind) := fun _ => (by decide : 0 < 2 ^ 32)

theorem rngRetest (dt : Elapsed) (kind : Nat) : Statement (.rngRetest dt kind) := fun _ => (by decide : 0 < 2 ^ 32)

theorem usbVbusAttach (dt : Elapsed) : Statement (.usbVbusAttach dt) := fun _ => (by decide : 0 < 2 ^ 32)

theorem usbVbusLoss (dt : Elapsed) : Statement (.usbVbusLoss dt) := fun _ => (by decide : 0 < 2 ^ 32)

theorem usbBulkOut (dt : Elapsed) (b : List Nat) : Statement (.usbBulkOut dt b) := fun _ => (by decide : 0 < 2 ^ 32)

theorem usbSuspend (dt : Elapsed) (b : Bool) : Statement (.usbSuspend dt b) := fun _ => (by decide : 0 < 2 ^ 32)

theorem readmit (dt : Elapsed) (mask : Nat) : Statement (.readmit dt mask) := fun _ => (by decide : 0 < 2 ^ 32)

theorem retire (dt : Elapsed) (mask : Nat) : Statement (.retire dt mask) := fun _ => (by decide : 0 < 2 ^ 32)

theorem qualifyingCodeError (dt : Elapsed) (p : Port) : Statement (.qualifyingCodeError dt p) := fun _ => (by decide : 0 < 2 ^ 32)

theorem initFilterElapsed (dt : Elapsed) (c : Nat) : Statement (.initFilterElapsed dt c) := fun _ => (by decide : 0 < 2 ^ 32)

theorem outPulseEnd (dt : Elapsed) (e : Nat) : Statement (.outPulseEnd dt e) := fun _ => (by decide : 0 < 2 ^ 32)

theorem triggeredDiagSlot (dt : Elapsed) (g p : Nat) : Statement (.triggeredDiagSlot dt g p) := fun _ => (by decide : 0 < 2 ^ 32)

theorem rngStartupTestsDone (dt : Elapsed) (kind : Nat) : Statement (.rngStartupTestsDone dt kind) := fun _ => (by decide : 0 < 2 ^ 32)

theorem nonceWaitTimeout (dt : Elapsed) : Statement (.nonceWaitTimeout dt) := fun _ => (by decide : 0 < 2 ^ 32)

theorem authLockedExpiry (dt : Elapsed) : Statement (.authLockedExpiry dt) := fun _ => (by decide : 0 < 2 ^ 32)

theorem resetNRelease (dt : Elapsed) (lineEnd compat xtal : Bool) : Statement (.resetNRelease dt lineEnd compat xtal) := fun _ => (by decide : 0 < 2 ^ 32)

theorem recClearDone (dt : Elapsed) : Statement (.recClearDone dt) := fun _ => (by decide : 0 < 2 ^ 32)

theorem backupSupplyChangeover (dt : Elapsed) (logic : Bool) : Statement (.backupSupplyChangeover dt logic) := fun _ => (by decide : 0 < 2 ^ 32)

theorem backupPowerLoss (dt : Elapsed) : Statement (.backupPowerLoss dt) := fun _ => (by decide : 0 < 2 ^ 32)

theorem usbControlRequest (dt : Elapsed) (rt rq v i len : Nat) : Statement (.usbControlRequest dt rt rq v i len) := fun _ => (by decide : 0 < 2 ^ 32)

theorem handoverAbandoned (dt : Elapsed) : Statement (.handoverAbandoned dt) := fun _ => (by decide : 0 < 2 ^ 32)

theorem securityUnitIdle (dt : Elapsed) : Statement (.securityUnitIdle dt) := fun _ => (by decide : 0 < 2 ^ 32)

end Sys2Proof.Laws.Fits
end

