-- ==== Sys2Proof/Laws/Trace.lean ====
section
/-!
SUPPORT. What a reader of the state sees after an event is recorded, a latch set or a source looked at: every part but the
store, the controller and the ring, and every field outside REC.STAT and the INT objects, as before.
-/

namespace Sys2Proof.Machine

/-- The frame of recording and interrupts. -/
abbrev Trace (s t : State) : Prop := Leaves traceParts traceObjs s t

theorem trace_log (e : Nat × Nat) (arg : List Nat) (s : State) : Trace s (log e arg s) :=
  (log_leaves e arg s).mono (by decide) (by decide)

theorem log_rd (e : Nat × Nat) (arg : List Nat) (s : State) (f : Fld) (i : Nat) (ho : f.obj ∉ traceObjs) :
    (log e arg s).rd f i = s.rd f i := (trace_log e arg s).2 f i 0 ho

@[simp] theorem log_time (e : Nat × Nat) (arg : List Nat) (s : State) : (log e arg s).time = s.time := (trace_log e arg s).1 .time (by decide)
@[simp] theorem log_clk (e : Nat × Nat) (arg : List Nat) (s : State) : (log e arg s).clk = s.clk := (trace_log e arg s).1 .clk (by decide)
@[simp] theorem log_mbx (e : Nat × Nat) (arg : List Nat) (s : State) : (log e arg s).mbx = s.mbx := (trace_log e arg s).1 .mbx (by decide)
@[simp] theorem log_img (e : Nat × Nat) (arg : List Nat) (s : State) : (log e arg s).img = s.img := (trace_log e arg s).1 .img (by decide)
@[simp] theorem log_scn (e : Nat × Nat) (arg : List Nat) (s : State) : (log e arg s).scn = s.scn := (trace_log e arg s).1 .scn (by decide)
@[simp] theorem log_prg (e : Nat × Nat) (arg : List Nat) (s : State) : (log e arg s).prg = s.prg := (trace_log e arg s).1 .prg (by decide)
@[simp] theorem log_fld (e : Nat × Nat) (arg : List Nat) (s : State) : (log e arg s).fld = s.fld := (trace_log e arg s).1 .fld (by decide)
@[simp] theorem log_ana (e : Nat × Nat) (arg : List Nat) (s : State) : (log e arg s).ana = s.ana := (trace_log e arg s).1 .ana (by decide)
@[simp] theorem log_ang (e : Nat × Nat) (arg : List Nat) (s : State) : (log e arg s).ang = s.ang := (trace_log e arg s).1 .ang (by decide)
@[simp] theorem log_plt (e : Nat × Nat) (arg : List Nat) (s : State) : (log e arg s).plt = s.plt := (trace_log e arg s).1 .plt (by decide)
@[simp] theorem log_pair (e : Nat × Nat) (arg : List Nat) (s : State) : (log e arg s).pair = s.pair := (trace_log e arg s).1 .pair (by decide)
@[simp] theorem log_rtc (e : Nat × Nat) (arg : List Nat) (s : State) : (log e arg s).rtc = s.rtc := (trace_log e arg s).1 .rtc (by decide)
@[simp] theorem log_pwr (e : Nat × Nat) (arg : List Nat) (s : State) : (log e arg s).pwr = s.pwr := (trace_log e arg s).1 .pwr (by decide)
@[simp] theorem log_sec (e : Nat × Nat) (arg : List Nat) (s : State) : (log e arg s).sec = s.sec := (trace_log e arg s).1 .sec (by decide)
@[simp] theorem log_free (e : Nat × Nat) (arg : List Nat) (s : State) : (log e arg s).free = s.free := (trace_log e arg s).1 .free (by decide)
@[simp] theorem log_pending (e : Nat × Nat) (arg : List Nat) (s : State) : (log e arg s).pending = s.pending := (trace_log e arg s).1 .pending (by decide)

theorem trace_setLatch (b : Nat) (s : State) : Trace s (setLatch b s) :=
  (setLatch_leaves b s).mono (by decide) (by decide)

theorem setLatch_rd (b : Nat) (s : State) (f : Fld) (i : Nat) (ho : f.obj ∉ traceObjs) :
    (setLatch b s).rd f i = s.rd f i := (trace_setLatch b s).2 f i 0 ho

@[simp] theorem setLatch_time (b : Nat) (s : State) : (setLatch b s).time = s.time := (trace_setLatch b s).1 .time (by decide)
@[simp] theorem setLatch_clk (b : Nat) (s : State) : (setLatch b s).clk = s.clk := (trace_setLatch b s).1 .clk (by decide)
@[simp] theorem setLatch_mbx (b : Nat) (s : State) : (setLatch b s).mbx = s.mbx := (trace_setLatch b s).1 .mbx (by decide)
@[simp] theorem setLatch_img (b : Nat) (s : State) : (setLatch b s).img = s.img := (trace_setLatch b s).1 .img (by decide)
@[simp] theorem setLatch_scn (b : Nat) (s : State) : (setLatch b s).scn = s.scn := (trace_setLatch b s).1 .scn (by decide)
@[simp] theorem setLatch_prg (b : Nat) (s : State) : (setLatch b s).prg = s.prg := (trace_setLatch b s).1 .prg (by decide)
@[simp] theorem setLatch_fld (b : Nat) (s : State) : (setLatch b s).fld = s.fld := (trace_setLatch b s).1 .fld (by decide)
@[simp] theorem setLatch_ana (b : Nat) (s : State) : (setLatch b s).ana = s.ana := (trace_setLatch b s).1 .ana (by decide)
@[simp] theorem setLatch_ang (b : Nat) (s : State) : (setLatch b s).ang = s.ang := (trace_setLatch b s).1 .ang (by decide)
@[simp] theorem setLatch_plt (b : Nat) (s : State) : (setLatch b s).plt = s.plt := (trace_setLatch b s).1 .plt (by decide)
@[simp] theorem setLatch_pair (b : Nat) (s : State) : (setLatch b s).pair = s.pair := (trace_setLatch b s).1 .pair (by decide)
@[simp] theorem setLatch_rtc (b : Nat) (s : State) : (setLatch b s).rtc = s.rtc := (trace_setLatch b s).1 .rtc (by decide)
@[simp] theorem setLatch_pwr (b : Nat) (s : State) : (setLatch b s).pwr = s.pwr := (trace_setLatch b s).1 .pwr (by decide)
@[simp] theorem setLatch_sec (b : Nat) (s : State) : (setLatch b s).sec = s.sec := (trace_setLatch b s).1 .sec (by decide)
@[simp] theorem setLatch_free (b : Nat) (s : State) : (setLatch b s).free = s.free := (trace_setLatch b s).1 .free (by decide)
@[simp] theorem setLatch_pending (b : Nat) (s : State) : (setLatch b s).pending = s.pending := (trace_setLatch b s).1 .pending (by decide)

theorem trace_hostSync (n : Nat) (s : State) : Trace s (hostSync n s) :=
  (hostSync_leaves n s).mono (by decide) (by decide)

theorem hostSync_rd (n : Nat) (s : State) (f : Fld) (i : Nat) (ho : f.obj ∉ traceObjs) :
    (hostSync n s).rd f i = s.rd f i := (trace_hostSync n s).2 f i 0 ho

@[simp] theorem hostSync_time (n : Nat) (s : State) : (hostSync n s).time = s.time := (trace_hostSync n s).1 .time (by decide)
@[simp] theorem hostSync_clk (n : Nat) (s : State) : (hostSync n s).clk = s.clk := (trace_hostSync n s).1 .clk (by decide)
@[simp] theorem hostSync_mbx (n : Nat) (s : State) : (hostSync n s).mbx = s.mbx := (trace_hostSync n s).1 .mbx (by decide)
@[simp] theorem hostSync_img (n : Nat) (s : State) : (hostSync n s).img = s.img := (trace_hostSync n s).1 .img (by decide)
@[simp] theorem hostSync_scn (n : Nat) (s : State) : (hostSync n s).scn = s.scn := (trace_hostSync n s).1 .scn (by decide)
@[simp] theorem hostSync_prg (n : Nat) (s : State) : (hostSync n s).prg = s.prg := (trace_hostSync n s).1 .prg (by decide)
@[simp] theorem hostSync_fld (n : Nat) (s : State) : (hostSync n s).fld = s.fld := (trace_hostSync n s).1 .fld (by decide)
@[simp] theorem hostSync_ana (n : Nat) (s : State) : (hostSync n s).ana = s.ana := (trace_hostSync n s).1 .ana (by decide)
@[simp] theorem hostSync_ang (n : Nat) (s : State) : (hostSync n s).ang = s.ang := (trace_hostSync n s).1 .ang (by decide)
@[simp] theorem hostSync_plt (n : Nat) (s : State) : (hostSync n s).plt = s.plt := (trace_hostSync n s).1 .plt (by decide)
@[simp] theorem hostSync_pair (n : Nat) (s : State) : (hostSync n s).pair = s.pair := (trace_hostSync n s).1 .pair (by decide)
@[simp] theorem hostSync_rtc (n : Nat) (s : State) : (hostSync n s).rtc = s.rtc := (trace_hostSync n s).1 .rtc (by decide)
@[simp] theorem hostSync_pwr (n : Nat) (s : State) : (hostSync n s).pwr = s.pwr := (trace_hostSync n s).1 .pwr (by decide)
@[simp] theorem hostSync_sec (n : Nat) (s : State) : (hostSync n s).sec = s.sec := (trace_hostSync n s).1 .sec (by decide)
@[simp] theorem hostSync_free (n : Nat) (s : State) : (hostSync n s).free = s.free := (trace_hostSync n s).1 .free (by decide)
@[simp] theorem hostSync_pending (n : Nat) (s : State) : (hostSync n s).pending = s.pending := (trace_hostSync n s).1 .pending (by decide)

end Sys2Proof.Machine
end

