-- ==== Sys2Proof/Tests/Slice0.lean ====
section
/-!
SUPPORT. Small tests (terms the well-formedness checks refuse, lane steps written out from the encoding tables, single steps)
and, for every statement with hypotheses, a state and operands that meet all of them together.
-/

set_option Elab.async false
set_option linter.unusedVariables false

namespace Sys2Proof.Tests

open Sys2Proof Sys2Proof.Machine

/-! ### Terms that the well-formedness checks refuse -/

theorem test_wf_area_read : (Instr.zLD ⟨7, false, 0, false, 0⟩).wf = false := by decide +kernel
theorem test_wf_area_store : (Instr.zST ⟨4, false, 0, false, 0⟩).wf = false := by decide +kernel
theorem test_wf_index_without_x : (Instr.zLD ⟨1, false, 2, false, 0⟩).wf = false := by decide +kernel
theorem test_wf_bit_address : (Instr.zLD ⟨1, false, 0, false, 131072⟩).wf = false := by decide +kernel
theorem test_wf_set_inverted : (Instr.zSET ⟨1, false, 0, true, 0⟩).wf = false := by decide +kernel
theorem test_wf_acc_operand :
    (Instr.zLDA ⟨1, false, 0, 4, 0⟩).wf = false ∧ (Instr.zSTW ⟨0, false, 0, 0, 0⟩).wf = false ∧
    (Instr.zADD ⟨1, false, 0, 0, 65536⟩).wf = false := by decide +kernel
theorem test_wf_reg_operand :
    (Instr.zLDV ⟨1, false, 0, 16, 0⟩).wf = false ∧ (Instr.zSTV ⟨5, false, 0, 0, 0⟩).wf = false ∧
    (Instr.zLDV ⟨1, false, 0, 0, 16384⟩).wf = false := by decide +kernel
theorem test_wf_flag_number : (Instr.zLDF 6).wf = false := by decide +kernel
theorem test_wf_bit_number : (Instr.zBTST 0 32 false).wf = false ∧ (Instr.zBST 16 0).wf = false := by decide +kernel
theorem test_wf_branch : (Instr.zBOPEN 3 false).wf = false := by decide +kernel
theorem test_wf_instance_id : (Instr.zEDGR 0).wf = false ∧ (Instr.zCTU 0 65535).wf = false := by decide +kernel
theorem test_wf_timer_unit : (Instr.zTON 1 0 3).wf = false ∧ (Instr.zTP 1 16 0).wf = false := by decide +kernel
theorem test_wf_shifts :
    (Instr.zMAC 0 0 32).wf = false ∧ (Instr.zASRA 40).wf = false ∧ (Instr.zSHLA 9).wf = false ∧
    (Instr.zSHL 0 0 (.imm 32)).wf = false ∧ (Instr.zROL 0 0 (.reg 16)).wf = false := by decide +kernel
theorem test_wf_immediates :
    (Instr.zLDI 0 65536).wf = false ∧ (Instr.zIADDI 0 0 4096).wf = false ∧ (Instr.zCMPI 0 4096).wf = false ∧
    (Instr.zLDIX 0 1048576).wf = false ∧ (Instr.zADDIX 4 0).wf = false := by decide +kernel
theorem test_wf_registers :
    (Instr.zMOV 16 0).wf = false ∧ (Instr.zIADD 0 0 16).wf = false ∧ (Instr.zMOVIX 0 16).wf = false ∧
    (Instr.zRDIX 0 4).wf = false ∧ (Instr.zFCMP 16 0).wf = false := by decide +kernel
theorem test_wf_flow :
    (Instr.zJMP 131072).wf = false ∧ (Instr.zJC 7 true 0).wf = false ∧ (Instr.zLOOP 4 0).wf = false ∧
    (Instr.zHALT 0xFF00).wf = false ∧ (Instr.zCLRF 64).wf = false := by decide +kernel
theorem test_wf_blocks :
    (Instr.zBMOV 7 1 1).wf = false ∧ (Instr.zBMOV 0 0 1).wf = false ∧ (Instr.zBMOV 0 1 0).wf = false ∧
    (Instr.zBFILL 1 64).wf = false := by decide +kernel
theorem test_wf_requests :
    (Instr.zCAPRD 0 4 0).wf = false ∧ (Instr.zCAPPTR 0 4).wf = false ∧ (Instr.zSNHOLD 2).wf = false ∧
    (Instr.zEVARM 16 0).wf = false := by decide +kernel
theorem test_wf_bytes :
    (Instr.cinchMarker .zero .A 256 0 0 0 0).wf = false ∧ (Instr.probe .zero .A 0 0 256 0).wf = false ∧
    (Instr.hello .zero [256]).wf = false ∧ (Instr.mbxw .zero ⟨.A, [256], false, false⟩).wf = false := by decide +kernel
theorem test_wf_lanes :
    (Instr.cinchLatch .zero 8).wf = false ∧ (Instr.laneTest .zero 3 true).wf = false ∧
    (Instr.plaitCommit .zero 8 0 0 0).wf = false ∧ (Instr.plaitCommit .zero 0 0 3 0).wf = false ∧
    (Instr.readmit .zero 8).wf = false := by decide +kernel
theorem test_wf_groups :
    (Instr.groupLoad .zero 12 0).wf = false ∧ (Instr.senseTest .zero 8 true).wf = false ∧
    (Instr.calStepStart .zero 4).wf = false ∧ (Instr.quadTemp .zero 0 4 0).wf = false ∧
    (Instr.slicePowerUp .zero 0 5).wf = false ∧ (Instr.conversionStep .zero 0 4).wf = false := by decide +kernel
theorem test_wf_channels :
    (Instr.inputChange .zero 128 true).wf = false ∧ (Instr.flen .zero 64 0).wf = false ∧
    (Instr.diagDetect .zero 0 8 true).wf = false ∧ (Instr.filt .zero 0 8).wf = false := by decide +kernel
theorem test_wf_numbers :
    (Instr.periodicRelease .zero 0).wf = false ∧ (Instr.periodicRelease .zero 64).wf = false ∧
    (Instr.arm .zero 1024 true).wf = false ∧ (Instr.synspd .zero 4 0).wf = false ∧ (Instr.angleEdge .zero 16 true).wf = false ∧
    (Instr.inputFault .zero 8).wf = false ∧ (Instr.stormed .zero 309).wf = false ∧ (Instr.svTake .zero 2).wf = false ∧
    (Instr.targetLoad .zero 4 0).wf = false ∧ (Instr.windowThreshold .zero 64 true 0).wf = false ∧
    (Instr.capReadConfirm .zero 2048).wf = false ∧ (Instr.rngFail .zero 3).wf = false ∧
    (Instr.pllLockLoss .zero 3).wf = false ∧ (Instr.pllGatesOpen .zero 4).wf = false := by decide +kernel
theorem test_wf_widths :
    (Instr.unwrap .zero (2 ^ 32)).wf = false ∧ (Instr.nrlTime .zero 0 (2 ^ 64)).wf = false ∧
    (Instr.holdThreshold .zero 65536).wf = false ∧ (Instr.stopReady .zero (2 ^ 128)).wf = false ∧
    (Instr.rtcTime .zero (2 ^ 49) 0 0).wf = false ∧ (Instr.rtcTime .zero 0 32768 0).wf = false ∧
    (Instr.rtcWake .zero 0 true true).wf = false ∧ (Instr.usbControlRequest .zero 256 0 0 0 0).wf = false ∧
    (Instr.avplusMonitor .zero 0 0 false 3).wf = false := by decide +kernel
theorem test_wf_lists :
    (Instr.ageingSample .zero 0 [] []).wf = false ∧ (Instr.storeRecallDone .zero true [(256, 0, 0)] []).wf = false ∧
    (Instr.burnishPage .zero 4096 1 []).wf = false ∧ (Instr.burnishPage .zero 0 0 [(4, 0, 0, 0, 0)]).wf = false := by decide +kernel
theorem test_wf_accepts :
    (Instr.zLD ⟨6, true, 3, true, 131071⟩).wf = true ∧ (Instr.zHALT 0xFEFF).wf = true ∧
    (Instr.inputChange .zero 127 true).wf = true := by decide +kernel

/-! ### Lane steps written out bit by bit from ZEN-4 to ZEN-12 -/

/-- LD of bit 5 of byte 3 of Q, inverted: opcode 0x01, AREA 1, X 0, IXN 0, N 1, bit address 29. -/
theorem test_decode_bit : Zen.decodeStep 0b00000001_001_0_00_1_00000000000011101 = some (.zLD ⟨1, false, 0, true, 29⟩) := by decide
/-- BOPEN of an OR branch, not inverted. -/
theorem test_decode_branch : Zen.decodeStep 0b00010000_00000000_00000000_00000_0_01 = some (.zBOPEN 1 false) := by decide
/-- TON of instance 6 with its preset in V3, unit 1. -/
theorem test_decode_timer : Zen.decodeStep 0b00100000_0011_01_00_0000000000000110 = some (.zTON 6 3 1) := by decide
/-- CTU of instance 9 with V2. -/
theorem test_decode_counter : Zen.decodeStep 0b00101000_0010_0000_0000000000001001 = some (.zCTU 2 9) := by decide
/-- LDA of the half word 7 of M, indexed by IX2. -/
theorem test_decode_acc : Zen.decodeStep 0b01000000_010_1_10_01_0000000000000111 = some (.zLDA ⟨2, true, 2, 1, 7⟩) := by decide
/-- STV of V9 into word 4 of D. -/
theorem test_decode_reg_store : Zen.decodeStep 0b01100001_011_0_00_1001_00000000000100 = some (.zSTV ⟨3, false, 0, 9, 4⟩) := by decide
/-- IADD V1, V2, V3. -/
theorem test_decode_integer : Zen.decodeStep 0b01100101_0001_0010_0011_000000000000 = some (.zIADD 1 2 3) := by decide
/-- SHL V1, V2 by 5, and by V4. -/
theorem test_decode_shift :
    Zen.decodeStep 0b01101111_0001_0010_0000_0_000000_00101 = some (.zSHL 1 2 (.imm 5)) ∧
    Zen.decodeStep 0b01101111_0001_0010_0100_1_000000_00000 = some (.zSHL 1 2 (.reg 4)) := by decide
/-- LDIX IX3 with 65,536. -/
theorem test_decode_index : Zen.decodeStep 0b01111000_11_00_00010000000000000000 = some (.zLDIX 3 65536) := by decide
/-- FADD V4, V5, V6. -/
theorem test_decode_float : Zen.decodeStep 0b10000000_0100_0101_0110_000000000000 = some (.zFADD 4 5 6) := by decide
/-- JC to step 12 when flag 2 is 1, and LOOP with IX1 to step 12. -/
theorem test_decode_flow :
    Zen.decodeStep 0b10010011_010_1_000_00000000000001100 = some (.zJC 2 true 12) ∧
    Zen.decodeStep 0b10010110_0_01_0000_00000000000001100 = some (.zLOOP 1 12) := by decide
/-- BMOV of 5 words from M into D. -/
theorem test_decode_block : Zen.decodeStep 0b10100000_010_011_000000000000_000101 = some (.zBMOV 2 3 5) := by decide
/-- EVARM V1, V2 and CAPRD V7 of domain 2, index 1. -/
theorem test_decode_angle :
    Zen.decodeStep 0b10110000_0000_0001_0010_000000000000 = some (.zEVARM 1 2) ∧
    Zen.decodeStep 0b10110010_0111_0000000000000000_01_10 = some (.zCAPRD 7 2 1) := by decide
/-- SNHOLD 1. -/
theorem test_decode_snapshot : Zen.decodeStep 0b11000000_00000000_00000000_0000000_1 = some (.zSNHOLD 1) := by decide
/-- Undefined encodings (R210): an opcode without a row, a reserved bit set, an area a store may not name, IXN without X. -/
theorem test_decode_refuses :
    Zen.decodeStep 0xFF000000 = none ∧ Zen.decodeStep 0x00000001 = none ∧
    Zen.decodeStep 0b00000101_000_0_00_0_00000000000000000 = none ∧
    Zen.decodeStep 0b00000001_001_0_01_0_00000000000000000 = none := by decide

/-! ### States for the witnesses -/

/-- A small state for witnesses: `s` with fields `l` written, given as (field, index, value). -/
def wst (l : List (Fld × Nat × Nat)) (s : State := State.reset) : State := l.foldl (fun s x => s.wr x.1 x.2.2 x.2.1) s

/-- A frame as NRL-5 lays it out, with correct CRCs. -/
def wframe (p : Port) (typ flags dest fseq : Nat) (body : List Nat) : RxFrame :=
  let h := [typ, flags, dest, 0] ++ leBytes 3 body.length ++ [0] ++ leBytes 4 fseq ++ List.replicate 16 0
  let h := h ++ leBytes 4 (crc32 h)
  ⟨p, h ++ body ++ leBytes 4 (crc32 (h ++ body)), false, false⟩

/-- A placed module whose link domain runs and whose ports are UP. -/
def wlink (l : List (Fld × Nat × Nat) := []) : State :=
  let s := wst ([(F.NRL_STATE_MOD_ST, 0, 3), (F.NRL_CTRL_PA_ST, 0, 2), (F.NRL_STATE_PB_ST, 0, 2), (F.NRL_POS_POS, 0, 5),
    (F.NRL_POS_PLACED, 0, 1)] ++ l)
  { s with time := { s.time with link := true, now := 5000000 } }

/-- A command of session 1 with a correct MAC. -/
def wcmd (op : Nat) (payload : List Nat) (arg : Nat := 0) : RingCmd :=
  let n := if payload.length ≤ 40 then 1 else 1 + (payload.length - 40 + 63) / 64
  let h := leBytes 2 1 ++ leBytes 2 op ++ leBytes 4 1 ++ [n, 0] ++ leBytes 2 payload.length ++ leBytes 4 arg
  ⟨n, slice (h ++ slice (Crypto.hmac (List.replicate 32 0) (h ++ payload)) 0 8 ++ payload) 0 (64 * n), false, false⟩

/-- Session 1 of role `r`. -/
def wses (r : Nat := 3) : Session := ⟨1, 2, r, 8, 60, 0, false, [], [], [], List.replicate 32 0, 0, [], []⟩

/-- `s` with the mailbox running and one command in the ring. -/
def wmbx (r : RingCmd) (s : State := wlink) (role : Nat := 3) : State :=
  { s with clk := { s.clk with supv := true, fwRunning := true }
           mbx := { s.mbx with ring := [r], sessions := [wses role] } }

/-- A module of a pair in RUN. -/
def wpair (l : List (Fld × Nat × Nat) := []) (f : PairSt → PairSt := id) : State :=
  let s := wlink ([(F.PLT_PAIR_EN, 0, 1), (F.SCN_MODE_MODE, 0, 2)] ++ l)
  { s with pair := f s.pair }

/-- An ELIGIBLE standby of a pair. -/
def welig (l : List (Fld × Nat × Nat) := []) (f : PairSt → PairSt := id) : State :=
  let s := wpair ([(F.PLT_PSTATE_ROLE, 0, 2), (F.PLT_LANE_VOTING, 0, 7)] ++ l)
  let s := { s with fld := { s.fld with dgg := (List.range 8).map fun g => (g, { supply := 2 }) }
                    ana := { s.ana with grp := (List.range 4).map fun g => (g, { supply := 2 }) } }
  { s with pair := f { s.pair with applied := some 0, hello := some (3, s.mirDig, s.activeBuild) } }

/-- A module in mode `m` with a program in bank A, its domains running and a local time base. -/
def wrun (m : Nat) (l : List (Fld × Nat × Nat) := []) (f : ScnSt → ScnSt := id) : State :=
  let s := wlink ([(F.SCN_MODE_MODE, 0, m), (F.SCN_T_PERIOD, 0, 1000), (F.SCN_T_SRC, 0, 1), (F.SCN_T_SKIP_MAX, 0, 255),
    (F.NRL_CYCLE_CYCLE, 0, 1000), (F.PLT_LANE_VOTING, 0, 7), (F.CLK_START_LANES_LOADED, 0, 1), (F.CLK_START_PLAN_DONE, 0, 1),
    (F.CLK_START_HOLD_30, 0, 1), (F.CLK_START_HOLD_38, 0, 1), (F.NRL_STATE_MOD_ST, 0, 4)] ++ l)
  { s with clk := { s.clk with lane := true, supv := true, image := true, event := true, stopReady := true, inReset := false }
           prg := { s.prg with a := some { codeLen := 4 }, active := some 0 }
           ring := { s.ring with lastLocal := 4000000, lastLatch := 4000000, latching := true }, scn := f s.scn }

/-- A pending transition accepted at 0. -/
def wpend (target handle : Nat) : PendMode := ⟨target, 0, handle, 0, false, 0, false, 0⟩

/-- A RUNNING long operation of session 1 in slot 0. -/
def whdl (op : LongOp) : Hdl := ⟨0, 1, 2, 1, 7, 0x40, 0, op, 0, false⟩

/-- `s` with the handle of `op` live. -/
def wlong (op : LongOp) (s : State) : State :=
  let s := wmbx (wcmd 0xF0 []) s
  { s with mbx := { s.mbx with ring := [], hdls := [whdl op] } }

/-- A SES_OPEN of role 4 by the service port. -/
def wopen (role : Nat := 4) : RingCmd :=
  let p := [role, 0, 0, 0] ++ List.replicate 16 1 ++ List.replicate 8 2
  ⟨1, slice (leBytes 2 0xFFFF ++ leBytes 2 1 ++ leBytes 4 0 ++ [1, 0] ++ leBytes 2 28 ++ leBytes 4 0 ++ List.replicate 8 0 ++ p) 0 64, true, false⟩

/-- A pending session of CUSTODIAN, and its SES_AUTH with payload `p`. -/
def wpending : Session := ⟨1, 1, 4, 8, 60, 0, true, List.replicate 16 1, List.replicate 16 2, [], [], 0, [], []⟩
def wauth (p : List Nat) : RingCmd :=
  ⟨1, slice (leBytes 2 1 ++ leBytes 2 2 ++ leBytes 4 1 ++ [1, 0] ++ leBytes 2 32 ++ leBytes 4 0 ++ List.replicate 8 0 ++ p) 0 64, true, false⟩
def wauthS (p : List Nat) (fs : List (Nat × Nat) := []) : State :=
  let s := wmbx (wauth p)
  { s with mbx := { s.mbx with sessions := [wpending], fails := fs } }

theorem slice_append (l m : List Nat) (o n : Nat) (h : o + n ≤ l.length) : slice (l ++ m) o n = slice l o n := by
  unfold slice
  rw [List.drop_append_of_le_length (by omega), List.take_append_of_le_length (by rw [List.length_drop]; omega)]

/-- The header of a SES_AUTH. -/
def wauthHead : List Nat :=
  leBytes 2 1 ++ leBytes 2 2 ++ leBytes 4 1 ++ [1, 0] ++ leBytes 2 32 ++ leBytes 4 0 ++ List.replicate 8 0

theorem wauth_bytes (p : List Nat) (hp : p.length = 32) : (wauth p).bytes = wauthHead ++ (p ++ List.replicate 8 0) := by
  have h : (wauthHead ++ p).length = 56 := by rw [List.length_append, hp]; rfl
  show slice (wauthHead ++ p) 0 64 = _
  unfold slice
  rw [List.drop_zero, List.take_of_length_le (by omega)]
  show (wauthHead ++ p) ++ List.replicate (64 - (wauthHead ++ p).length) 0 = _
  rw [h, List.append_assoc]

theorem wauth_parse (p : List Nat) (hp : p.length = 32) :
    parse (wauth p) = ⟨1, 2, 1, 0, List.replicate 8 0, wauthHead.take 16, p, true, true⟩ := by
  have hb := wauth_bytes p hp
  have hl (o n : Nat) (h : o + n ≤ 24) : leAt (wauth p).bytes o n = leAt wauthHead o n := by
    rw [hb, leAt, slice_append _ _ _ _ h, leAt]
  have hs (o n : Nat) (h : o + n ≤ 24) : slice (wauth p).bytes o n = slice wauthHead o n := by
    rw [hb, slice_append _ _ _ _ h]
  have hd : slice ((wauth p).bytes.drop 24) 0 32 = p := by
    rw [hb, List.drop_append_of_le_length (Nat.le_refl 24)]
    show slice (p ++ List.replicate 8 0) 0 32 = p
    rw [slice_append _ _ _ _ (by omega), slice, List.drop_zero, List.take_of_length_le (by omega), hp]
    exact List.append_nil p
  have h10 : leAt wauthHead 10 2 = 32 := by decide
  unfold parse
  simp only [hl _ _ (show 10 + 2 ≤ 24 by decide), hl _ _ (show 2 + 2 ≤ 24 by decide), hl _ _ (show 0 + 2 ≤ 24 by decide),
    hl _ _ (show 4 + 4 ≤ 24 by decide), hl _ _ (show 12 + 4 ≤ 24 by decide), hl _ _ (show 9 + 1 ≤ 24 by decide),
    hs _ _ (show 16 + 8 ≤ 24 by decide), hs _ _ (show 0 + 16 ≤ 24 by decide), h10, hd]
  rfl

theorem wauth_taken (p : List Nat) (hp : p.length = 32) (fs : List (Nat × Nat)) :
    Taken 2 0 (advance ⟨0, 0⟩ (wauthS p fs)) (wauth p) wpending ∧ (parse (wauth p)).payload = p := by
  unfold Taken
  rw [wauth_parse p hp]
  exact ⟨⟨rfl, rfl, rfl, rfl, rfl, rfl, show (1 : Nat) ≠ 0 by decide, show 1 ≤ (1 + 2 ^ 32 - 0) % 2 ^ 32 by decide,
    show (1 + 2 ^ 32 - 0) % 2 ^ 32 < 2 ^ 31 by decide, Nat.zero_le _, rfl⟩, rfl⟩

/-- The proof of the session under the commissioning key, and a state whose role 4 has failed three times. -/
def wproof : List Nat := proof (leBytes 32 Config.commissioningKey) 0x41 1 4 (List.replicate 16 1) (List.replicate 16 2)
def wauthBad : State := wauthS (List.replicate 32 300) [(4, 0), (4, 0), (4, 0)]

theorem wauth_key (p : List Nat) : (advance ⟨0, 0⟩ (wauthS p)).roleKey wpending.role = some (leBytes 32 Config.commissioningKey) := rfl

theorem wauth_ok : let a := advance ⟨0, 0⟩ (wauthS wproof)
    Taken 2 0 a (wauth wproof) wpending ∧
    (parse (wauth wproof)).payload = proof ((a.roleKey wpending.role).getD []) 0x41 wpending.no wpending.role wpending.hostNonce wpending.mNonce := by
  intro a
  have h := wauth_taken wproof (Crypto.hmac_length _ _) []
  refine ⟨h.1, ?_⟩
  rw [h.2, show a.roleKey wpending.role = some (leBytes 32 Config.commissioningKey) from wauth_key _, Option.getD_some]
  rfl

theorem wauth_bad : let a := advance ⟨0, 0⟩ wauthBad
    Taken 2 0 a (wauth (List.replicate 32 300)) wpending ∧ (parse (wauth (List.replicate 32 300))).payload.length = 32 ∧
    (parse (wauth (List.replicate 32 300))).payload ≠ proof ((a.roleKey wpending.role).getD []) 0x41 wpending.no wpending.role wpending.hostNonce wpending.mNonce := by
  intro a
  have h := wauth_taken (List.replicate 32 300) (List.length_replicate ..) [(4, 0), (4, 0), (4, 0)]
  refine ⟨h.1, by rw [h.2]; exact List.length_replicate .., ?_⟩
  rw [h.2]
  intro e
  have hm : (300 : Nat) ∈ List.replicate 32 300 := List.mem_replicate.2 ⟨by decide, rfl⟩
  rw [e] at hm
  exact absurd (Crypto.hmac_lt _ _ 300 hm) (by decide)

/-- The path SCN.CFG.HOLD_LIMIT, what it names, and an OBJ_SET of it to `v`. -/
def wpath : List Nat := "SCN.CFG.HOLD_LIMIT".toList.map Char.toNat
def wtarget : Target := (findTarget wpath).getD ⟨objMBX_CFG, 0, none⟩
def wrow : FieldRow := wtarget.field.getD ⟨0, F.SCN_CFG_HOLD_LIMIT, .ro, 0, false, []⟩
def wset (flags v : Nat) : RingCmd := wcmd 0x21 (pathBytes wpath ++ [flags, 0] ++ leBytes 2 4 ++ leBytes 4 v)

/-- `x` has HOLD_LIMIT staged as 7, and a RUNNING commit of it waits, in mode `m`. -/
def wstaged (v : Nat := 7) : StagedField := ⟨F.objSCN_CFG, 0, F.SCN_CFG_HOLD_LIMIT.lo, F.SCN_CFG_HOLD_LIMIT.hi, 0, v⟩
def wcommit (m : Nat) (chk : Bool) (l : List StagedField) (regs : List (Fld × Nat × Nat) := []) : State :=
  let s := wlong (.commit chk 0 m) (wrun m regs)
  { s with mbx := { s.mbx with sessions := [{ wses with staging := l }], hdls := [{ whdl (.commit chk 0 m) with state := 1 }] } }

/-- A clear-on-read field. -/
def wpathRC : List Nat := "NRL.CINCH_CNT.CINCH_SKEW".toList.map Char.toNat

/-- A start with a bank A that its record and its image agree on. -/
def wbanks : State :=
  let s := wrun 0 [(F.CLK_START_RECALL_DONE, 0, 1), (F.CLK_START_LANES_LOADED, 0, 0)]
  let d := leBytes 12 (4 * 2 ^ 64) ++ Crypto.sha256 (s.imageBytes 0 4)
  { s with clk := { s.clk with fwRunning := true }, sec := { s.sec with loaded := 15 }, prg := { s.prg with a := none, active := none }
           sto := { s.sto with recs := [⟨kBANKLOAD, 0, some ⟨1, 0, d, true⟩, none⟩, ⟨kACTIVATION, 0, some ⟨1, 0, [0], true⟩, none⟩] } }

/-- The least image that loads: T0 alone and one step. -/
def wimage : List Nat :=
  leBytes 4 0x4752505A ++ [1, 0, 0, 0] ++ leBytes 4 7 ++ leBytes 4 1 ++ leBytes 4 0 ++ leBytes 4 1 ++ List.replicate 40 0 ++
    (leBytes 4 0 ++ leBytes 4 1000 ++ leBytes 4 0 ++ [0, 1, 0, 0]) ++ List.replicate 1072 0 ++ leBytes 4 (Zen.encodeStep .zRET)

/-- An open load of bank B at `stage`, with the image `img` written. -/
def wload (stage : Nat) (img : List Nat) (dig : Nat) (m : Nat := 1) : State :=
  let s := wlong (.load 1) (wrun m [(F.PRG_BANKB_STATE, 0, 1)])
  { s with prg := { s.prg with load := some ⟨2048, 1, img.length, dig, stage⟩ }, sto := { s.sto with progB := memPut s.sto.progB 0 img } }

/-- An activation of bank B (LOADED, identifying its successor) of module state `s`. -/
def wact (phase : Nat) (s : State := wrun 2) : State :=
  let s := wlong .activate (wst [(F.PRG_BANKA_STATE, 0, 3), (F.PRG_BANKB_STATE, 0, 2), (F.PRG_ACT_PENDING, 0, 1)] s)
  { s with prg := { s.prg with b := some { codeLen := 4, build := 9, tasks := [⟨0, 1000, 0, 0, 1⟩] }
                               act := some ⟨1, 2048, 2, 0, 0, 0, phase, 0, 4900000, 0, 0, false⟩ } }

/-- A closed snapshot of cinch `n`. -/
def wsnap (n : Nat) : Snap := ⟨n, true, false, false, false, false, 5, 6, 0, [], [], []⟩
def wsnaps (r : RingCmd) (s : State := wlink) : State :=
  let s := wmbx r s
  { s with img := { s.img with snaps := [wsnap 7, wsnap 8] } }

/-- A lane context that has ended, having written byte `v` into Q byte 0, and an execution of task 1 with these three. -/
def wctx (v : Nat) (run : LaneRun := .ended) : LaneCtx := { freshCtx 0 with run := run, q := [(0, BitVec.ofNat 8 v)], qmask := [(0, 0xFF#8)] }
def wexec (l : Trio LaneCtx) : Exec := ⟨1, 0, 1, 0, 0, true, none, false, [], [], [], [], false, 0, l⟩
def wpres (l : Trio LaneCtx) (m : Nat := 2) (regs : List (Fld × Nat × Nat) := []) : State :=
  let s := wrun m ([(F.PLT_CFG_DIS_LIMIT, 0, 5), (F.PLT_CFG_RETIRE_MAX, 0, 5)] ++ regs)
  { s with scn := { s.scn with presented := [wexec l] } }

/-- A module in RUN with angle domains `dom`, entry states `ev`, commands and pulses. -/
def wang (l : List (Fld × Nat × Nat)) (dom : Table AngDom := []) (ev : Table EvSt := []) (cmds : List TimedCmd := []) (pulses : List PulseEnd := []) : State :=
  let s := wrun 2 l
  { s with ang := { s.ang with dom := dom, ev := ev, cmds := cmds, pulses := pulses } }

/-- Domain 0 a SYNCED PULSE domain on signal 0. -/
def wpulse : List (Fld × Nat × Nat) :=
  [(F.ANG_AI_MODE, 0, 2), (F.ANG_AD_SRC, 0, 4), (F.ANG_AD_COUNT, 0, 1), (F.ANG_AD_SPD_MAX, 0, 2 ^ 31), (F.ANG_AD_SPD_MIN, 0, 100),
   (F.ANG_AD_DEV_MAX, 0, 50), (F.ANG_STATUS_STATE, 0, 3)]
def wdom (last : Nat) : AngDom := { last := some last, refAt := some last, hist := [20000000], edges := 9 }

/-- A module in RUN whose lanes all stand, as `f` makes them, at step 0 of bank A, which is `i`. -/
def wlx (f : LaneCtx → LaneCtx := id) : Exec :=
  let c := f { freshCtx 0 with run := .running }
  wexec ⟨c, c, c⟩
def wlane (i : Instr) (f : LaneCtx → LaneCtx := id) : State :=
  let s := wrun 2
  { s with prg := { s.prg with a := some { codeLen := 4, words := Table.put 0 [] 0 (Zen.encodeStep i) } }
           scn := { s.scn with running := some (wlx f) } }
def wlaneOk (i : Instr) (f : LaneCtx → LaneCtx := id) : Bool :=
  let s := wlane i f
  s.clk.lane && s.votes 0 && s.votes 1 && s.votes 2 && decide (fetch s 0 = some i)

theorem wlane_at (i : Instr) (f : LaneCtx → LaneCtx) (hf : (f { freshCtx 0 with run := .running }).pc = 0)
    (hr : (f { freshCtx 0 with run := .running }).run = .running) (h : wlaneOk i f = true) :
    LaneAt i (wlane i f) (wlx f) := by
  simp only [wlaneOk, Bool.and_eq_true, decide_eq_true_eq] at h
  refine ⟨h.1.1.1.1, rfl, ⟨0, by decide, h.1.1.1.2⟩, fun k hk _ => ?_⟩
  have e : (wlx f).lanes.get k = f { freshCtx 0 with run := .running } := by
    obtain rfl | rfl | rfl : k = 0 ∨ k = 1 ∨ k = 2 := by omega
    all_goals rfl
  rw [e, hf]
  exact ⟨hr, h.2⟩

/-- Every instruction of a list has a state in which the lanes meet it. -/
theorem wlane_all (l : List Instr) (h : l.all (fun i => wlaneOk i) = true) : ∀ i ∈ l, ∃ s x, LaneAt i s x :=
  fun i hi => ⟨wlane i, wlx, wlane_at i id rfl rfl (List.all_eq_true.1 h i hi)⟩

theorem witness_LaneBitLogic_1 : ∀ i ∈ [Instr.zLD ⟨0, false, 0, false, 0⟩, .zAND ⟨1, true, 3, true, 131071⟩,
    .zOR ⟨6, false, 0, false, 8⟩, .zXOR ⟨2, false, 0, true, 9⟩, .zNOT, .zSETBA, .zCLRBA, .zLDF 5, .zBTST 15 31 true, .zBST 15 31],
    ∃ s x, LaneAt i s x := wlane_all _ (by decide +kernel)
theorem witness_LaneBitStores_1 : ∀ i ∈ [Instr.zST ⟨1, false, 0, true, 3⟩, .zSET ⟨2, true, 1, false, 3⟩, .zRST ⟨3, false, 0, false, 3⟩],
    ∃ s x, LaneAt i s x := wlane_all _ (by decide +kernel)
theorem witness_LaneBranchStack_1 : ∃ s x, LaneAt (.zBOPEN 2 true) s x ∧ ∀ k, k < 3 → (laneOf s x k).c.stack.length < 16 :=
  ⟨wlane (.zBOPEN 2 true), wlx, wlane_at _ id rfl rfl (by decide +kernel), by decide +kernel⟩
theorem witness_LaneBranchStack_2 : ∃ s x, LaneAt .zBCLOSE s x ∧ ∀ k, k < 3 → (laneOf s x k).c.stack = .bit true (1 + 4 * b2n true) :: [] :=
  ⟨wlane .zBCLOSE fun c => { c with stack := [.bit true 5] }, wlx fun c => { c with stack := [.bit true 5] },
    wlane_at _ _ rfl rfl (by decide +kernel), by decide +kernel⟩
theorem witness_LaneBranchStack_3 : ∃ s x, LaneAt (.zCALL 3) s x ∧ ∀ k, k < 3 → (laneOf s x k).c.stack.length < 16 :=
  ⟨wlane (.zCALL 3), wlx, wlane_at _ id rfl rfl (by decide +kernel), by decide +kernel⟩
theorem witness_LaneBranchStack_4 : ∃ s x, LaneAt .zRET s x ∧ ∀ k, k < 3 → (laneOf s x k).c.stack = .call 9 :: [] :=
  ⟨wlane .zRET fun c => { c with stack := [.call 9] }, wlx fun c => { c with stack := [.call 9] },
    wlane_at _ _ rfl rfl (by decide +kernel), by decide +kernel⟩
theorem witness_LaneEdgesAndCounters_1 : ∀ i ∈ [Instr.zEDGR 1, .zEDGF 0xFFFE, .zCTU 15 2, .zCTD 3, .zCRST 4, .zCLDV 1 5, .zCRD 2 6],
    ∃ s x, LaneAt i s x := wlane_all _ (by decide +kernel)
theorem witness_LaneTimers_1 : ∀ i ∈ [Instr.zTON 1 15 2, .zTOF 2 0 0, .zTP 3 1 1, .zTRST 4, .zTRD 3 5], ∃ s x, LaneAt i s x :=
  wlane_all _ (by decide +kernel)
theorem witness_LaneAccumulator_1 : ∀ i ∈ [Instr.zLDA ⟨0, false, 0, 3, 9⟩, .zADD ⟨2, true, 1, 0, 65535⟩, .zSUB ⟨1, false, 0, 1, 0⟩,
    .zCMPA ⟨6, false, 0, 2, 0⟩, .zLDAV 1, .zADDA 2, .zSUBA 3, .zMAC 4 5 31, .zNEGA, .zASRA 39, .zSHLA 8, .zCLRA, .zRDAH 15],
    ∃ s x, LaneAt i s x := wlane_all _ (by decide +kernel)
theorem witness_LaneWordStores_1 : ∀ i ∈ [Instr.zSTW ⟨3, false, 0, 3, 9⟩, .zSTAV 4, .zSTV ⟨1, false, 0, 2, 16383⟩, .zLDV ⟨5, true, 0, 1, 3⟩],
    ∃ s x, LaneAt i s x := wlane_all _ (by decide +kernel)
theorem witness_LaneIntegers_1 : ∀ i ∈ [Instr.zIADD 1 2 3, .zISUB 3 3 3, .zIADDI 1 2 4095, .zIMUL 0 1 2, .zIDIV 1 2 3, .zIMOD 1 2 3,
    .zCMP 1 2, .zCMPI 3 4095], ∃ s x, LaneAt i s x := wlane_all _ (by decide +kernel)
theorem witness_LaneWordLogic_1 : ∀ i ∈ [Instr.zLDI 1 65535, .zLDIH 2 65535, .zMOV 1 2, .zWAND 1 2 3, .zWOR 1 2 3, .zWXOR 1 2 3,
    .zWNOT 4 5, .zSHL 1 2 (.imm 31), .zSHR 1 2 (.reg 15), .zASR 3 4 (.imm 0)], ∃ s x, LaneAt i s x := wlane_all _ (by decide +kernel)
theorem witness_LaneWordLogic_2 : ∃ s x, LaneAt (.zROL 1 2 (.imm 31)) s x ∧ ∀ k, k < 3 → shAmt (laneOf s x k) (.imm 31) < 32 :=
  ⟨wlane (.zROL 1 2 (.imm 31)), wlx, wlane_at _ id rfl rfl (by decide +kernel), by decide +kernel⟩
theorem witness_LaneIndexAndFlow_1 : ∀ i ∈ [Instr.zLDIX 3 1048575, .zMOVIX 2 1, .zADDIX 1 1048575, .zRDIX 1 0, .zNOP, .zJMP 131071,
    .zJC 6 true 4, .zLOOP 3 2, .zRDF 7], ∃ s x, LaneAt i s x := wlane_all _ (by decide +kernel)
theorem witness_LaneIndexAndFlow_2 : ∃ s x, LaneAt (.zCLRF 63) s x ∧ ∀ k, k < 3 → (laneOf s x k).c.flags < 64 :=
  ⟨wlane (.zCLRF 63), wlx, wlane_at _ id rfl rfl (by decide +kernel), by decide +kernel⟩
theorem witness_LaneFloats_1 : ∀ i ∈ [Instr.zFADD 1 2 3, .zFSUB 1 2 3, .zFMUL 1 2 3, .zFDIV 1 2 3, .zFSQRT 1 2, .zFABS 1 2, .zFNEG 1 2,
    .zFMIN 1 2 3, .zFMAX 1 2 3, .zFCMP 1 2, .zITOF 1 2, .zFTOI 1 2], ∃ s x, LaneAt i s x := wlane_all _ (by decide +kernel)
theorem witness_LaneBlocksAndRequests_1 : ∀ i ∈ [Instr.zBMOV 6 3 63, .zBFILL 1 1, .zEVARM 1 2, .zEVDIS 15, .zSNHOLD 1, .zSNREL 0,
    .zCAPRD 1 3 3, .zCAPPTR 2 3, .zRDTIM 15], ∃ s x, LaneAt i s x := wlane_all _ (by decide +kernel)
theorem witness_LaneEndAndHalt_1 : ∃ s x, LaneAt .zEND s x ∧ s.scn.waiting = [] ∧ s.scn.preempted = [] :=
  ⟨wlane .zEND, wlx, wlane_at _ id rfl rfl (by decide +kernel), by decide +kernel⟩
theorem witness_LaneEndAndHalt_2 : ∃ (s : State) (x : Exec) (c pc : Nat), s.clk.lane = true ∧ s.scn.running = some x ∧
    (∃ k, k < 3 ∧ s.votes k = true) ∧
    (∀ k, k < 3 → s.votes k = true → (x.lanes.get k).run = .running ∧ (x.lanes.get k).pc = pc ∧ haltAt s pc = some c) ∧
    s.mode ≠ mINIT ∧ s.mode ≠ mFAULT :=
  ⟨wlane (.zHALT 0x12), wlx, 0x12, 0, by decide +kernel, by decide +kernel, ⟨0, by decide +kernel⟩, by decide +kernel, by decide +kernel⟩
theorem witness_MailboxChecks_raw : ∃ (s : State) (r : RingCmd) (x : Session), s.mbxReady = true ∧ s.mbx.ring.head? = some r ∧
    (parse r).opcode = 0xF0 ∧ s.clk.startFailed = false ∧ (parse r).formOk = true ∧ checkSession s (parse r) = (Code.OK, some x) :=
  ⟨wmbx (wcmd 0xF0 []), wcmd 0xF0 [], wses, by decide +kernel⟩
theorem witness_MailboxChecks_form : ∃ (s : State) (r : RingCmd), s.mbxReady = true ∧ s.mbx.ring.head? = some r ∧
    (parse r).opcode = 0xF0 ∧ s.clk.startFailed = false ∧ (parse r).formOk = false :=
  ⟨wmbx ⟨1, [1, 0, 0xF0, 0, 1, 0, 0, 0, 1, 1], false, false⟩, ⟨1, [1, 0, 0xF0, 0, 1, 0, 0, 0, 1, 1], false, false⟩, by decide +kernel⟩
theorem witness_MailboxChecks_stale : ∃ (s : State) (r : RingCmd) (x : Session), s.mbxReady = true ∧ s.mbx.ring.head? = some r ∧
    (parse r).opcode = 0xF0 ∧ checkSession s (parse r) = (Code.OK, some x) ∧ 2 ^ 31 ≤ ((parse r).clseq + 2 ^ 32 - x.high) % 2 ^ 32 ∧
    ((parse r).clseq + 2 ^ 32 - x.high) % 2 ^ 32 < 2 ^ 32 - 63 :=
  ⟨(let s := wmbx (wcmd 0xF0 []); { s with mbx := { s.mbx with sessions := [{ wses with high := 100 }] } }), wcmd 0xF0 [],
    { wses with high := 100 }, by decide +kernel⟩
theorem witness_MailboxChecks_again : ∃ (s : State) (r : RingCmd) (x : Session) (e : Nat × Resp), s.mbxReady = true ∧
    s.mbx.ring.head? = some r ∧ (parse r).opcode = 0xF0 ∧ checkSession s (parse r) = (Code.OK, some x) ∧ (parse r).clseq ≠ 0 ∧
    ((parse r).clseq + 2 ^ 32 - x.high) % 2 ^ 32 = 0 ∧ x.seen.find? (fun e => decide (e.1 = (parse r).clseq)) = some e :=
  ⟨(let s := wmbx (wcmd 0xF0 []); { s with mbx := { s.mbx with sessions := [{ wses with high := 1, seen := [(1, ⟨0, 0, 0, 0, [], 0xF0⟩)] }] } }),
    wcmd 0xF0 [], { wses with high := 1, seen := [(1, ⟨0, 0, 0, 0, [], 0xF0⟩)] }, (1, ⟨0, 0, 0, 0, [], 0xF0⟩), by decide +kernel⟩
theorem witness_MailboxChecks_role : ∃ (s : State) (r : RingCmd) (x : Session), s.mbxReady = true ∧ s.mbx.ring.head? = some r ∧
    (parse r).opcode = 0x30 ∧ checkSession s (parse r) = (Code.OK, some x) ∧ x.role < 3 ∧ (parse r).clseq ≠ 0 :=
  ⟨wmbx (wcmd 0x30 []) wlink 1, wcmd 0x30 [], wses 1, by decide +kernel⟩
theorem witness_MailboxChecks_idle : ∃ s : State, s.mbxReady = false := ⟨State.reset, by decide +kernel⟩
theorem witness_Commits_raw : ∃ (s : State) (h : Hdl) (c : Bool) (at_ m : Nat), h.op = .commit c at_ m ∧
    (s.mode = mRUN ∨ s.mode = mHOLD) ∧ s.time.now < at_ + 100000 ∧ s.ring.lastLocal ≤ s.time.now :=
  ⟨wrun 2, whdl (.commit false 4950000 2), false, 4950000, 2, by decide +kernel⟩
theorem witness_ProgramActivation_raw : ∃ rs : List Reloc, relocBad rs = none ∧ rs ≠ [] :=
  ⟨[⟨2, 0, 0, 4, 1⟩], by decide +kernel⟩

/-! ### Witnesses -/

theorem witness_PortStates_1 : ∃ (s : State) (p : Port), let a := advance ⟨0, 0⟩ s
    (a.time.link = true) ∧ (a.port p = pDOWN) ∧ (a.heldPort p = false) :=
  ⟨wlink [(F.NRL_CTRL_PA_ST, 0, 0)], .A, by decide +kernel⟩

theorem witness_PortStates_2 : ∃ (s : State) (p : Port), let a := advance ⟨0, 0⟩ s
    (a.time.link = false) :=
  ⟨State.reset, .B, by decide +kernel⟩

theorem witness_PortStates_3 : ∃ (s : State) (p : Port), let a := advance ⟨0, 0⟩ s
    (a.port p = pTRAINING) :=
  ⟨wlink [(F.NRL_STATE_PB_ST, 0, 1)], .B, by decide +kernel⟩

theorem witness_PortStates_4 : ∃ (s : State) (p : Port) (n : Nat), let a := advance ⟨0, 0⟩ s
    (a.port p = pUP) :=
  ⟨wlink, .A, 3, by decide +kernel⟩

theorem witness_PortStates_5 : ∃ (s : State) (p : Port), let a := advance ⟨0, 0⟩ s
    (a.port p = pFAULTED) ∧ (a.heldPort p = false) :=
  ⟨wlink [(F.NRL_CTRL_PA_ST, 0, 3)], .A, by decide +kernel⟩

theorem witness_PortStates_6 : ∃ (s : State) (p : Port), let a := advance ⟨0, 0⟩ s
    (a.port p = pQUALIFYING) ∧ (a.qualFrom p + 1000000 ≤ a.time.now) :=
  ⟨wlink [(F.NRL_CTRL_PA_ST, 0, 4)], .A, by decide +kernel⟩

theorem witness_PortStates_7 : ∃ (s : State) (p : Port), let a := advance ⟨0, 0⟩ s
    (a.port p = pQUALIFYING) :=
  ⟨wlink [(F.NRL_STATE_PB_ST, 0, 4)], .B, by decide +kernel⟩

theorem witness_LinkRegisters_1 : ∃ (s : State) (n : Nat), let a := advance ⟨0, 0⟩ s
    (n ≠ 0) :=
  ⟨State.reset, 7, by decide +kernel⟩

theorem witness_LinkRegisters_2 : ∃ (s : State) (n : Nat) (p : Port), let a := advance ⟨0, 0⟩ s
    (a.ring.pendUnwrap = some n) ∧ (a.cinchPassed n = true) ∧ (a.port p = pREADY) ∧ (a.heldPort p = false) ∧ (a.port (otherPort p) = pUP) :=
  ⟨(let s := wlink [(F.NRL_CTRL_PA_ST, 0, 5)] ; { s with ring := { s.ring with pendUnwrap := some 3, latched := true, cinch := 3 } }), 3, .A, by decide +kernel⟩

theorem witness_LinkRegisters_3 : ∃ (s : State) (n : Nat) (p : Port), let a := advance ⟨0, 0⟩ s
    (a.ring.pendUnwrap = some n) ∧ (a.cinchPassed n = true) ∧ (a.port p = pFAULTED) ∧ (a.heldPort p = false) ∧ (a.port (otherPort p) = pUP) :=
  ⟨(let s := wlink [(F.NRL_STATE_PB_ST, 0, 3)] ; { s with ring := { s.ring with pendUnwrap := some 3, latched := true, cinch := 4 } }), 3, .B, by decide +kernel⟩

theorem witness_LinkRegisters_4 : ∃ (s : State) (n v : Nat), let a := advance ⟨0, 0⟩ s
    (a.placed = true) ∧ (n ≠ 0) :=
  ⟨wlink, 3, 1000, by decide +kernel⟩

theorem witness_LinkRegisters_5 : ∃ (s : State) (v : Nat), let a := advance ⟨0, 0⟩ s
    (a.placed = true) :=
  ⟨wlink, 1000, by decide +kernel⟩

theorem witness_LinkRegisters_6 : ∃ (s : State) (f : RxFrame) (w n : Nat), let a := advance ⟨0, 0⟩ s
    (Hears a f 4) ∧ (a.placed = true) ∧ (f.ackreq = false) ∧ (f.body = leBytes 2 0x10 ++ leBytes 2 1 ++ leBytes 4 n ++ leBytes 4 w) ∧ (n < 2 ^ 32) ∧ (w < 2 ^ 24) ∧ (n ≠ 0) ∧ ((a.timed && a.cinchPassed n) = false) :=
  ⟨wlink, wframe .A 4 0 5 0 [0x10, 0, 1, 0, 9, 0, 0, 0, 0xE8, 3, 0, 0], 1000, 9, by decide +kernel⟩

theorem witness_LinkRegisters_7 : ∃ (s : State) (f : RxFrame) (w : Nat), let a := advance ⟨0, 0⟩ s
    (Hears a f 4) ∧ (a.placed = true) ∧ (f.ackreq = false) ∧ (a.mode = mSTOP) ∧ (f.body = leBytes 2 0x10 ++ leBytes 2 1 ++ leBytes 4 0 ++ leBytes 4 w) ∧ (w < 2 ^ 24) :=
  ⟨wlink [(F.SCN_MODE_MODE, 0, 1)], wframe .B 4 0 5 0 [0x10, 0, 1, 0, 0, 0, 0, 0, 0xE8, 3, 0, 0], 1000, by decide +kernel⟩

theorem witness_LinkRegisters_8 : ∃ (s : State) (n w : Nat), let a := advance ⟨0, 0⟩ s
    (a.ring.held = [⟨n, 0x10, [w]⟩]) ∧ (a.cinchPassed n = true) ∧ (a.mode = mSTOP) :=
  ⟨(let s := wlink [(F.SCN_MODE_MODE, 0, 1)] ; { s with ring := { s.ring with held := [⟨3, 0x10, [1000]⟩], latched := true, cinch := 3 } }), 3, 1000, by decide +kernel⟩

theorem witness_LinkRegisters_9 : ∃ (s : State) (f : RxFrame), let a := advance ⟨0, 0⟩ s
    (Hears a f 5) ∧ (a.placed = true) ∧ (f.ackreq = false) ∧ (f.body.length = 4) ∧ (linkMapped (leAt f.body 0 2) (leAt f.body 2 2) = true) :=
  ⟨wlink, wframe .A 5 0 5 0 [0, 0, 2, 0], by decide +kernel⟩

theorem witness_Enumeration_1 : ∃ (s : State) (f : RxFrame) (n : Nat), let a := advance ⟨0, 0⟩ s
    (Hears a f 6) ∧ (f.len = 12) ∧ (leAt f.body 0 1 = 1) ∧ (leAt f.body 1 1 = n) ∧ (n ≤ 63) ∧ (f.ackreq = false) ∧ (a.timed = false) ∧ (a.port (otherPort f.port) = pUP) :=
  ⟨wlink, wframe .A 6 0 0xFF 0 [1, 7, 0, 0, 0, 0, 0, 0, 0, 0, 0, 0], 7, by decide +kernel⟩

theorem witness_Enumeration_2 : ∃ (s : State) (f : RxFrame), let a := advance ⟨0, 0⟩ s
    (Hears a f 6) ∧ (f.len = 12) ∧ (leAt f.body 0 1 = 1) ∧ (63 < leAt f.body 1 1) ∧ (f.ackreq = false) ∧ (a.timed = false) :=
  ⟨wlink, wframe .A 6 0 0xFF 0 [1, 64, 0, 0, 0, 0, 0, 0, 0, 0, 0, 0], by decide +kernel⟩

theorem witness_Enumeration_3 : ∃ (s : State) (f : RxFrame) (n : Nat), let a := advance ⟨0, 0⟩ s
    (Hears a f 6) ∧ (f.len = 12) ∧ (leAt f.body 0 1 = 2) ∧ (leAt f.body 1 1 = n) ∧ (f.ackreq = false) ∧ (a.port (otherPort f.port) = pUP) ∧ (a.rd F.NRL_POS_POS < 64) :=
  ⟨wlink, wframe .A 6 0 0xFF 0 [2, 7, 0, 0, 0, 0, 0, 0, 0, 0, 0, 0], 7, by decide +kernel⟩

theorem witness_MarkersAndLatches_1 : ∃ (s : State) (p : Port) (lanes r0 r1 fl ck n : Nat), let a := advance ⟨0, 0⟩ s
    (a.hears p = true) ∧ (3 ≤ lanes) ∧ (a.timed = true) ∧ (a.rd F.NRL_CYCLE_CYCLE ≠ 0) ∧ (crc8 [r0, r1, fl] = ck) ∧ (n = nearest ((a.ring.cinch + 1) % 2 ^ 32) (r0 % 256 + 256 * (r1 % 256))) ∧ (after32 n a.ring.cinch = true) ∧ (a.substFixed = false) ∧ (∀ d ∈ a.ring.due, d.cinch ≠ n) :=
  ⟨(let s := wlink [(F.NRL_STATE_MOD_ST, 0, 4), (F.NRL_CYCLE_CYCLE, 0, 1000)] ; { s with ring := { s.ring with cinch := 8, latched := true, latching := true, lastLatch := 5000000 } }), .A, 4, 9, 0, 1, crc8 [9, 0, 1], 9, by decide +kernel⟩

theorem witness_MarkersAndLatches_2 : ∃ (s : State) (p : Port) (lanes r0 r1 fl ck n : Nat), let a := advance ⟨0, 0⟩ s
    (a.hears p = true) ∧ (3 ≤ lanes) ∧ (a.timed = true) ∧ (a.rd F.NRL_CYCLE_CYCLE ≠ 0) ∧ (crc8 [r0, r1, fl] ≠ ck) ∧ (n = (a.ring.cinch + 1) % 2 ^ 32) ∧ (after32 n a.ring.cinch = true) ∧ (a.substFixed = false) ∧ (a.ring.due = []) :=
  ⟨(let s := wlink [(F.NRL_STATE_MOD_ST, 0, 4), (F.NRL_CYCLE_CYCLE, 0, 1000)] ; { s with ring := { s.ring with cinch := 8, latched := true, latching := true, lastLatch := 5000000 } }), .A, 4, 9, 0, 1, crc8 [9, 0, 1] + 1, 9, by decide +kernel⟩

theorem witness_MarkersAndLatches_3 : ∃ (s : State) (bad : Nat) (d : DueLatch) (ds : List DueLatch), let a := advance ⟨0, 0⟩ s
    (a.ring.due = d :: ds) ∧ (d.at_ ≤ a.time.now) :=
  ⟨(let s := wlink [(F.NRL_STATE_MOD_ST, 0, 4), (F.NRL_CYCLE_CYCLE, 0, 1000), (F.SCN_MODE_MODE, 0, 1)] ; { s with ring := { s.ring with due := [⟨9, 4000000, .A, false⟩] }, clk := { s.clk with image := true } }), 0, ⟨9, 4000000, .A, false⟩, [], by decide +kernel⟩

theorem witness_MarkersAndLatches_4 : ∃ (s : State) (bad : Nat), let a := advance ⟨0, 0⟩ s
    (a.substFixed = true) ∧ (a.expected ≤ a.time.now) ∧ (a.ring.substRun < 2) :=
  ⟨(let s := wlink [(F.NRL_STATE_MOD_ST, 0, 4), (F.NRL_CYCLE_CYCLE, 0, 1000), (F.SCN_MODE_MODE, 0, 1)] ; { s with ring := { s.ring with latching := true, lastLatch := 3999000 }, clk := { s.clk with image := true } }), 0, by decide +kernel⟩

theorem witness_MarkersAndLatches_5 : ∃ (s : State), let a := advance ⟨0, 0⟩ s
    (a.substFixed = true) ∧ (a.ring.substRun = 2) ∧ (a.rd F.SCN_CFG_CINCH_LOST_ACT ≠ 1) :=
  ⟨(let s := wlink [(F.NRL_STATE_MOD_ST, 0, 4), (F.NRL_CYCLE_CYCLE, 0, 1000), (F.SCN_MODE_MODE, 0, 1)] ; { s with ring := { s.ring with latching := true, lastLatch := 3999000, substRun := 2 }, clk := { s.clk with image := true } }), by decide +kernel⟩

theorem witness_MarkersAndLatches_6 : ∃ (s : State) (bad : Nat), let a := advance ⟨0, 0⟩ s
    (a.ring.localOn = true) ∧ (50 ≤ a.rd F.SCN_T_PERIOD 0) ∧ (a.nextBoundary ≤ a.time.now) ∧ (a.ring.latching = false) ∧ (a.mode = mSTOP) ∧ (a.clk.image = true) ∧ (a.ring.due = []) ∧ (a.pair.both = false) ∧ (a.fld.reports = []) :=
  ⟨(let s := wlink [(F.SCN_T_PERIOD, 0, 1000), (F.SCN_MODE_MODE, 0, 1)] ; { s with ring := { s.ring with localOn := true, lastLocal := 3900000 }, clk := { s.clk with image := true } }), 0, by decide +kernel⟩

theorem witness_MarkersAndLatches_7 : ∃ (s : State) (p : Port) (b0 b1 b2 ck : Nat), let a := advance ⟨0, 0⟩ s
    (a.hears p = true) ∧ (crc8 [b0, b1, b2] = ck) :=
  ⟨wlink, .A, 7, 0, 0, crc8 [7, 0, 0], by decide +kernel⟩

theorem witness_FramesServed_1 : ∃ (s : State) (f : RxFrame), let a := advance ⟨0, 0⟩ s
    (Hears a f 2) ∧ (a.placed = true) ∧ (20 ≤ f.body.length) ∧ (a.hostActive ≠ []) ∧ (a.ring.subq = []) ∧ (a.port (otherPort f.port) = pUP) ∧ (a.rd F.NRL_POS_POS < 64) :=
  ⟨(wlink [(F.INT_SYS_EN, 0, 1), (F.INT_SYS_TARGET, 0, 3)]).wrE F.INT_STATE_ST 0 560 2, wframe .A 2 0 0xFF 0 (List.replicate 64 0), by decide +kernel⟩

theorem witness_FramesServed_2 : ∃ (s : State) (f : RxFrame) (b : List Nat), let a := advance ⟨0, 0⟩ s
    (Hears a f 2) ∧ (a.placed = true) ∧ (20 ≤ f.body.length) ∧ (f.body.length = f.len) ∧ (a.ring.subq = [.sub b]) ∧ (leAt f.body 16 4 + b.length ≤ f.len - 20) ∧ (0 < b.length) ∧ (a.port (otherPort f.port) = pUP) :=
  ⟨(let s := wlink ; { s with ring := { s.ring with subq := [.sub [7, 8]] } }), wframe .A 2 0 0xFF 0 (List.replicate 64 0), [7, 8], by decide +kernel⟩

theorem witness_FramesServed_3 : ∃ (s : State) (f : RxFrame) (b : List Nat), let a := advance ⟨0, 0⟩ s
    (Hears a f 2) ∧ (a.placed = true) ∧ (20 ≤ f.body.length) ∧ (a.ring.subq = [.sub b]) ∧ (f.len - 20 < leAt f.body 16 4 + b.length) ∧ (a.port (otherPort f.port) = pUP) ∧ (a.rd F.NRL_POS_POS < 64) :=
  ⟨(let s := wlink ; { s with ring := { s.ring with subq := [.sub (List.replicate 9 1)] } }), wframe .A 2 0 0xFF 0 (List.replicate 24 0), List.replicate 9 1, by decide +kernel⟩

theorem witness_FramesServed_4 : ∃ (s : State) (f : RxFrame) (pos : Nat), let a := advance ⟨0, 0⟩ s
    (Hears a f 1) ∧ (a.placed = true) ∧ (imageLimits f = true) ∧ (a.clk.image = true) ∧ (a.rd F.NRL_POS_POS = pos) ∧ (leAt f.body 4 1 ≤ pos) ∧ (pos < leAt f.body 4 1 + leAt f.body 5 1) ∧ (a.port (otherPort f.port) = pUP) :=
  ⟨(let s := wlink ; { s with clk := { s.clk with image := true } }), wframe .A 1 0 0xFF 0 ([64, 0, 0, 0, 5, 1, 0, 0, 0, 0, 0, 0, 0, 0, 0, 0, 0, 0, 0, 0] ++ List.replicate 64 0), 5, by decide +kernel⟩

theorem witness_FramesServed_5 : ∃ (s : State) (f : RxFrame), let a := advance ⟨0, 0⟩ s
    (Hears a f 7) ∧ (a.port (otherPort f.port) = pUP) :=
  ⟨wlink, wframe .A 7 0 0xFF 0 [4, 0, 0, 0, 1, 2, 3, 4], by decide +kernel⟩

theorem witness_PairHeartbeat_1 : ∃ (s : State) (p : Port) (b0 b1 b2 ck : Nat), let a := advance ⟨0, 0⟩ s
    (a.paired = true) ∧ (p = a.sharedPort) ∧ (a.hears p = true) ∧ (crc8 [b0, b1, b2] = ck) :=
  ⟨wpair [(F.PLT_PSTATE_ROLE, 0, 2), (F.PLT_PSTATE_SOLO, 0, 1)] fun x => { x with quiet := 2 }, .B, 0x55, 0, 0, crc8 [0x55, 0, 0], by decide +kernel⟩

theorem witness_PairHeartbeat_2 : ∃ (s : State) (p : Port) (b0 b1 b2 ck : Nat), let a := advance ⟨0, 0⟩ s
    (a.paired = false ∨ p ≠ a.sharedPort ∨ a.hears p = false ∨ crc8 [b0, b1, b2] ≠ ck) :=
  ⟨wpair, .B, 0x55, 0, 0, 1 + crc8 [0x55, 0, 0], by decide +kernel⟩

theorem witness_PairHeartbeat_3 : ∃ (s : State), let a := advance ⟨0, 0⟩ s
    (a.paired = true) ∧ (a.placed = true) ∧ (a.port a.sharedPort = pUP) ∧ (a.time.link = true) :=
  ⟨welig, by decide +kernel⟩

theorem witness_PairHeartbeat_4 : ∃ (s : State), let a := advance ⟨0, 0⟩ s
    (a.paired = true) ∧ (a.placed = true) ∧ (500 ≤ a.pair.helloRun) :=
  ⟨wpair [] fun x => { x with helloRun := 500 }, by decide +kernel⟩

theorem witness_PairHeartbeat_5 : ∃ (s : State) (b : List Nat), let a := advance ⟨0, 0⟩ s
    (a.pairBody 1 b = true) :=
  ⟨wpair, [1, 0, 0, 0, 3, 0, 0, 0, 0, 0, 0, 0], by decide +kernel⟩

theorem witness_PairRoles_1 : ∃ (s : State) (n lead : Nat), let a := advance ⟨0, 0⟩ s
    (a.pair.claim = some (n, lead)) ∧ (n + lead ≤ a.ring.lastLocal) ∧ (a.mode = mRUN) :=
  ⟨(let s := wpair [(F.PLT_PSTATE_ROLE, 0, 2)] (fun x => { x with claim := some (100, 20000) }) ; { s with ring := { s.ring with lastLocal := 3000000 } }), 100, 20000, by decide +kernel⟩

theorem witness_PairRoles_2 : ∃ (s : State) (n lead : Nat), let a := advance ⟨0, 0⟩ s
    (a.pair.claim = some (n, lead)) ∧ (a.ring.lastLocal < n + lead ∨ a.mode ≠ mRUN) :=
  ⟨wpair [(F.PLT_PSTATE_ROLE, 0, 2)] (fun x => { x with claim := some (100, 20000) }), 100, 20000, by decide +kernel⟩

theorem witness_PairRoles_3 : ∃ (s : State), let a := advance ⟨0, 0⟩ s
    (a.paired = true) ∧ (3 ≤ a.pair.quiet) ∧ (a.rd F.PLT_PSTATE_PSTATE ≠ 4) ∧ (a.role = 2) ∧ (a.mode = mRUN) ∧ (a.rd F.PLT_PAIR_SILENCE_ACT = 0) :=
  ⟨wpair [(F.PLT_PSTATE_ROLE, 0, 2)] fun x => { x with quiet := 3 }, by decide +kernel⟩

theorem witness_PairRoles_4 : ∃ (s : State), let a := advance ⟨0, 0⟩ s
    (a.paired = true) ∧ (3 ≤ a.pair.quiet) ∧ (a.rd F.PLT_PSTATE_PSTATE ≠ 4) ∧ (a.rd F.PLT_PAIR_SILENCE_ACT = 1) :=
  ⟨wpair [(F.PLT_PSTATE_ROLE, 0, 2), (F.PLT_PAIR_SILENCE_ACT, 0, 1)] fun x => { x with quiet := 3 }, by decide +kernel⟩

theorem witness_PairRoles_5 : ∃ (s : State), let a := advance ⟨0, 0⟩ s
    (a.paired = true) ∧ (a.role = 1) :=
  ⟨wpair [(F.PLT_PSTATE_ROLE, 0, 1)] fun x => { x with yieldAt := some 5, hold := some 1 }, by decide +kernel⟩

theorem witness_PairRoles_6 : ∃ (s : State) (n : Nat), let a := advance ⟨0, 0⟩ s
    (a.pair.cAt = some n) :=
  ⟨(let s := wpair [(F.PLT_PSTATE_ROLE, 0, 1)] (fun x => { x with cAt := some 7 }) ; { s with ana := { s.ana with grp := [(1, { released := true })] } }), 7, by decide +kernel⟩

theorem witness_PairRoles_7 : ∃ (s : State) (n : Nat), let a := advance ⟨0, 0⟩ s
    (a.pair.cAt = some n) ∧ (n + 150000 ≤ a.time.now) :=
  ⟨(let s := wpair [(F.PLT_PSTATE_ROLE, 0, 1)] (fun x => { x with cAt := some 7 }) ; { s with ana := { s.ana with grp := [(1, { released := true })] } }), 7, by decide +kernel⟩

theorem witness_PairRoles_8 : ∃ (s : State) (kind y : Nat), let a := advance ⟨0, 0⟩ s
    (a.pair.hold = some kind) ∧ (a.pair.yieldAt = some y) ∧ (y + 2000 * a.rd F.SCN_T_PERIOD 0 + 300000 ≤ a.time.now) :=
  ⟨wpair [(F.PLT_PSTATE_ROLE, 0, 1), (F.SCN_MODE_MODE, 0, 1)] (fun x => { x with yieldAt := some 5, hold := some 1 }), 1, 5, by decide +kernel⟩

theorem witness_PairRoles_9 : ∃ (s : State) (pl : Bool) (n : Nat), let a := advance ⟨0, 0⟩ s
    (a.eligible = true) ∧ (a.rd F.PLT_PAIR_AUTO_RETURN = 1) ∧ (a.rd F.PLT_PAIR_PREFERRED = 1) ∧ (a.pair.lease = none) ∧ (a.pair.drill = none) ∧ (a.pair.eligFrom = some n) ∧ (n + 32768 * a.rd F.PLT_PAIR_RETURN_HOLD ≤ a.time.xt) ∧ (a.pair.claim = none) :=
  ⟨(let s := welig [(F.PLT_PAIR_AUTO_RETURN, 0, 1), (F.PLT_PAIR_PREFERRED, 0, 1), (F.PLT_PAIR_RETURN_HOLD, 0, 1)] (fun x => { x with hello := x.hello.map fun h => (2, h.2.1, h.2.2), eligFrom := some 0 }) ; { s with time := { s.time with xt := 40000 } }), false, 0, by decide +kernel⟩

theorem witness_PairSwapMessages_1 : ∃ (s : State) (b : List Nat) (k : Nat), let a := advance ⟨0, 0⟩ s
    (a.pairBody 2 b = true) ∧ (leAt b 4 1 = k) ∧ (k ≤ 1) ∧ (leAt b 6 1 = 0) :=
  ⟨wpair, [2, 0, 0, 0, 1], 1, by decide +kernel⟩

theorem witness_PairSwapMessages_2 : ∃ (s : State) (b : List Nat) (x : Act), let a := advance ⟨0, 0⟩ s
    (a.pairBody 2 b = true) ∧ (a.prg.act = some x) ∧ (leAt b 4 1 = x.bank) ∧ (x.bank ≤ 1) ∧ (leAt b 6 1 ≠ 0) ∧ (x.standby = false) ∧ (x.phase = 3) ∧ (a.sameIdent b = false) :=
  ⟨(let s := wmbx (wcmd 0xF0 []) wpair ; { s with prg := { s.prg with act := some ⟨1, 2048, 10, 0, 0, 0, 3, 0, 0, 0, 0, false⟩ }, mbx := { s.mbx with hdls := [⟨0, 1, 2, 1, 7, 0x53, 0, .activate, 0, false⟩] } }), [2, 0, 0, 0, 1, 0, 1], ⟨1, 2048, 10, 0, 0, 0, 3, 0, 0, 0, 0, false⟩, by decide +kernel⟩

theorem witness_PairSwapMessages_3 : ∃ (s : State) (x : Act), let a := advance ⟨0, 0⟩ s
    (a.prg.act = some x) ∧ (x.standby = false) ∧ (x.phase = 3) ∧ (3 ≤ (a.ring.cinch + 2 ^ 32 - x.asked) % 2 ^ 32) :=
  ⟨(let s := wmbx (wcmd 0xF0 []) wpair ; { s with prg := { s.prg with act := some ⟨1, 2048, 10, 0, 0, 0, 3, 0, 0, 0, 0, false⟩ }, ring := { s.ring with cinch := 3 }, mbx := { s.mbx with hdls := [⟨0, 1, 2, 1, 7, 0x53, 0, .activate, 0, false⟩] } }), ⟨1, 2048, 10, 0, 0, 0, 3, 0, 0, 0, 0, false⟩, by decide +kernel⟩

theorem witness_PairSwapMessages_4 : ∃ (s : State) (b : List Nat) (x : Act), let a := advance ⟨0, 0⟩ s
    (a.pairBody 3 b = true) ∧ (a.prg.act = some x) ∧ (x.standby = true) ∧ (x.phase = 3 ∨ x.phase = 5 ∨ x.phase = 8) :=
  ⟨(let s := wpair ; { s with prg := { s.prg with act := some ⟨1, 0, 0, 0, 0, 0, 3, 0, 0, 0, 0, true⟩ } }), [3, 0, 0, 0, 9], ⟨1, 0, 0, 0, 0, 0, 3, 0, 0, 0, 0, true⟩, by decide +kernel⟩

theorem witness_PairSwapMessages_5 : ∃ (s : State) (b : List Nat) (x : Act), let a := advance ⟨0, 0⟩ s
    (a.pairBody 4 b = true) ∧ (a.prg.act = some x) ∧ (x.standby = false) ∧ (x.phase = 4) :=
  ⟨(let s := wpair ; { s with prg := { s.prg with act := some ⟨1, 5, 0, 0, 0, 0, 4, 9, 0, 0, 0, false⟩ } }), [4, 0, 0, 0, 9], ⟨1, 5, 0, 0, 0, 0, 4, 9, 0, 0, 0, false⟩, by decide +kernel⟩

theorem witness_PairSwapMessages_6 : ∃ (s : State) (b : List Nat) (x : Act) (n : Nat), let a := advance ⟨0, 0⟩ s
    (a.pairBody 5 b = true) ∧ (a.prg.act = some x) ∧ (x.standby = false) ∧ (x.phase = 2) ∧ (leAt b 4 4 = n) ∧ (n ≠ x.cinch) :=
  ⟨(let s := wpair ; { s with prg := { s.prg with act := some ⟨1, 5, 0, 0, 0, 0, 2, 9, 0, 0, 0, false⟩ } }), [5, 0, 0, 0, 10], ⟨1, 5, 0, 0, 0, 0, 2, 9, 0, 0, 0, false⟩, 10, by decide +kernel⟩

theorem witness_PairSwapMessages_7 : ∃ (s : State) (b : List Nat) (x : Act), let a := advance ⟨0, 0⟩ s
    (a.pairBody 5 b = true) ∧ (a.prg.act = some x) ∧ (x.standby = false) ∧ (x.phase = 9) ∧ (leAt b 4 4 = x.cinch) :=
  ⟨(let s := wmbx (wcmd 0xF0 []) wpair ; { s with prg := { s.prg with act := some ⟨1, 2048, 0, 0, 0, 0, 9, 9, 0, 0, 0, false⟩ }, mbx := { s.mbx with hdls := [⟨0, 1, 2, 1, 7, 0x53, 0, .activate, 0, false⟩] } }), [5, 0, 0, 0, 9], ⟨1, 2048, 0, 0, 0, 0, 9, 9, 0, 0, 0, false⟩, by decide +kernel⟩

theorem witness_PairSwapMessages_8 : ∃ (s : State) (x : Act), let a := advance ⟨0, 0⟩ s
    (a.prg.act = some x) ∧ (x.standby = true) ∧ (a.mode = mRUN) ∧ ((x.phase = 1 ∨ x.phase = 5) ∧ a.noExec = false ∨ x.phase = 8) :=
  ⟨(let s := wpair ; { s with prg := { s.prg with act := some ⟨1, 0, 0, 0, 0, 0, 8, 9, 0, 0, 0, true⟩ } }), ⟨1, 0, 0, 0, 0, 0, 8, 9, 0, 0, 0, true⟩, by decide +kernel⟩

theorem witness_PairSwapMessages_9 : ∃ (s : State) (x : Act), let a := advance ⟨0, 0⟩ s
    (a.prg.act = some x) ∧ (x.standby = true) ∧ (x.phase = 1 ∨ x.phase = 5 ∨ x.phase = 8) ∧ (a.prg.deferred = []) :=
  ⟨(let s := wpair ; { s with prg := { s.prg with act := some ⟨1, 0, 0, 0, 0, 0, 5, 9, 0, 0, 0, true⟩ } }), ⟨1, 0, 0, 0, 0, 0, 5, 9, 0, 0, 0, true⟩, by decide +kernel⟩

theorem witness_PairMirror_1 : ∃ (s : State) (d : List Nat), let a := advance ⟨0, 0⟩ s
    (a.pair.capDue = true) ∧ (a.paired = true) ∧ (a.role = 1) ∧ (a.lanesIdle = true) ∧ (a.clk.lane = true) ∧ (a.rd F.PRG_ACT_LAGGED = 0) ∧ (mirrorData (a.activeBank.getD {}) (((List.range 3).filter fun k => a.votes k).map fun k => a.scn.lanes.get k) (mirrorItems a) 16 [] = .ok d) ∧ (d.length ≤ 980) :=
  ⟨(let s := (wpair [(F.PLT_PSTATE_ROLE, 0, 1), (F.PLT_LANE_VOTING, 0, 7), (F.PLT_MIRROR_AREA, 0, 1), (F.PLT_MIRROR_COUNT, 0, 1)] fun x => { x with capDue := true }) ; let l : LaneMem := ⟨[(0, 7)], [], [], []⟩ ; { s with clk := { s.clk with lane := true }, scn := { s.scn with lanes := ⟨l, l, l⟩ } }), [7, 0, 0, 0], by decide +kernel⟩

theorem witness_PairMirror_2 : ∃ (s : State) (o : Nat), let a := advance ⟨0, 0⟩ s
    (a.pair.capDue = true) ∧ (a.paired = true) ∧ (a.role = 1) ∧ (a.mode = mRUN) ∧ (a.lanesIdle = true) ∧ (a.clk.lane = true) ∧ (a.rd F.PRG_ACT_LAGGED = 0) ∧ (mirrorData (a.activeBank.getD {}) (((List.range 3).filter fun k => a.votes k).map fun k => a.scn.lanes.get k) (mirrorItems a) 16 [] = .error o) :=
  ⟨(let s := (wpair [(F.PLT_PSTATE_ROLE, 0, 1), (F.PLT_LANE_VOTING, 0, 7), (F.PLT_MIRROR_AREA, 0, 1), (F.PLT_MIRROR_COUNT, 0, 1)] fun x => { x with capDue := true }) ; { s with clk := { s.clk with lane := true }, scn := { s.scn with lanes := ⟨⟨[(0, 7)], [], [], []⟩, ⟨[(0, 8)], [], [], []⟩, ⟨[(0, 9)], [], [], []⟩⟩ } }), 16, by decide +kernel⟩

theorem witness_PairMirror_3 : ∃ (s : State) (b : List Nat) (n : Nat) (d : List Nat), let a := advance ⟨0, 0⟩ s
    (a.paired = true) ∧ (a.placed = true) ∧ (a.time.link = true) ∧ (a.role = 2) ∧ (a.rd F.PRG_ACT_LAGGED = 0) ∧ (a.pair.rx = none) ∧ (n < 2 ^ 32) ∧ (b = leBytes 4 n ++ [0, 0] ++ leBytes 2 d.length ++ d) ∧ (4 ≤ d.length) ∧ (d.length ≤ 1000) ∧ (crc32 (d.take (d.length - 4)) = leAt d (d.length - 4) 4) :=
  ⟨wpair [(F.PLT_PSTATE_ROLE, 0, 2)] fun x => { x with quiet := 2, ready := some (8, []) }, [9, 0, 0, 0, 0, 0, 8, 0, 1, 2, 3, 4] ++ leBytes 4 (crc32 [1, 2, 3, 4]), 9, [1, 2, 3, 4] ++ leBytes 4 (crc32 [1, 2, 3, 4]), by decide +kernel⟩

theorem witness_PairMirror_4 : ∃ (s : State) (n : Nat) (img : List Nat), let a := advance ⟨0, 0⟩ s
    (a.pair.ready = some (n, img)) ∧ (a.paired = true) ∧ (a.role = 2) ∧ (a.mode = mRUN) ∧ (a.noExec = true) ∧ (a.clk.lane = true) ∧ (a.rd F.PRG_ACT_LAGGED = 0) ∧ (a.cycNs (400 + img.length / 2) + 2000 < a.nextRelease) :=
  ⟨(let s := (wpair [(F.PLT_PSTATE_ROLE, 0, 2), (F.PLT_LANE_VOTING, 0, 6), (F.PLT_MIRROR_AREA, 0, 1), (F.PLT_MIRROR_COUNT, 0, 1), (F.SCN_T_PERIOD, 0, 1000)] fun x => { x with ready := some (3, List.replicate 16 0 ++ [7, 0, 0, 0]) }) ; { s with clk := { s.clk with lane := true }, ring := { s.ring with lastLocal := 4900000 } }), 3, List.replicate 16 0 ++ [7, 0, 0, 0], by decide +kernel⟩

theorem witness_PairLeaseAndDrill_1 : ∃ (s : State) (r : RingCmd) (x : Session) (l sec : Nat), let a := advance ⟨0, 0⟩ s
    (Taken 0x60 2 a r x) ∧ ((parse r).payload = [l, 0] ++ leBytes 2 sec) ∧ (1 ≤ sec) ∧ (sec ≤ 3600) ∧ (a.pstate = 2) ∧ (a.pairBusy = false) ∧ ((l = 1 ∨ l = 2) ∧ (a.role = l ∨ a.role = 0) ∨ l = 1 ∧ a.eligible = true ∧ a.rd F.PLT_PSTATE_PARTNER_MODE = 1) :=
  ⟨wmbx (wcmd 0x60 [1, 0, 60, 0]) (welig [(F.PLT_PSTATE_PARTNER_MODE, 0, 1)] fun x => { x with hello := x.hello.map fun h => (3, h.2.1, h.2.2) }), wcmd 0x60 [1, 0, 60, 0], wses, 1, 60, by decide +kernel⟩

theorem witness_PairLeaseAndDrill_2 : ∃ (s : State) (r : RingCmd) (x : Session) (sec : Nat), let a := advance ⟨0, 0⟩ s
    (Taken 0x60 2 a r x) ∧ ((parse r).payload = [2, 0] ++ leBytes 2 sec) ∧ (1 ≤ sec) ∧ (sec ≤ 3600) ∧ (a.pstate = 2) ∧ (a.pairBusy = false) ∧ (a.role = 1) ∧ (a.mode = mRUN) ∧ (a.rd F.PLT_PSTATE_PARTNER_MODE = 1) ∧ (a.pElig = true) :=
  ⟨wmbx (wcmd 0x60 [2, 0, 60, 0]) (welig [(F.PLT_PSTATE_ROLE, 0, 1), (F.PLT_PSTATE_PARTNER_MODE, 0, 1), (F.PLT_PSTATE_PARTNER_ELIG, 0, 1)]), wcmd 0x60 [2, 0, 60, 0], wses, 60, by decide +kernel⟩

theorem witness_PairLeaseAndDrill_3 : ∃ (s : State) (r : RingCmd) (x : Session) (l : Nat), let a := advance ⟨0, 0⟩ s
    (Taken 0x60 2 a r x) ∧ ((parse r).payload = [l, 0, 0, 0]) ∧ (l = 1 ∨ l = 2) :=
  ⟨wmbx (wcmd 0x60 [1, 0, 0, 0]) (welig [] fun x => { x with lease := some (1, 9) }), wcmd 0x60 [1, 0, 0, 0], wses, 1, by decide +kernel⟩

theorem witness_PairLeaseAndDrill_4 : ∃ (s : State) (l e : Nat), let a := advance ⟨0, 0⟩ s
    (a.pair.lease = some (l, e)) ∧ (e ≤ a.time.xt) :=
  ⟨wpair [(F.PLT_PSTATE_LEASED, 0, 1)] fun x => { x with lease := some (1, 0) }, 1, 0, by decide +kernel⟩

theorem witness_PairLeaseAndDrill_5 : ∃ (s : State) (r : RingCmd) (x : Session) (f : Nat), let a := advance ⟨0, 0⟩ s
    (Taken 0x61 3 a r x) ∧ ((parse r).payload = [f, 0, 0, 0]) ∧ (f ≤ 1) ∧ (a.pstate = 2) ∧ (a.mode = mRUN) ∧ (a.rd F.PLT_PSTATE_PARTNER_MODE = 1) ∧ (a.eligible = true ∨ a.role = 1 ∧ a.pElig = true) ∧ (a.pairBusy = false) ∧ (HasHandle a x) :=
  ⟨wmbx (wcmd 0x61 [1, 0, 0, 0]) (welig [(F.PLT_PSTATE_PARTNER_MODE, 0, 1)]), wcmd 0x61 [1, 0, 0, 0], wses, 1, by decide +kernel⟩

theorem witness_PairLeaseAndDrill_6 : ∃ (s : State) (d : Drill), let a := advance ⟨0, 0⟩ s
    (a.pair.drill = some d) ∧ (d.phase = 1) ∧ (d.side = 1) ∧ (d.ret = false) ∧ (d.doFault = 0 ∧ d.aoFault = 0) ∧ (d.from_ + 32768 * a.rd F.PLT_PAIR_DRILL_DWELL ≤ a.time.xt ∨ d.cancelled = true) :=
  ⟨(let s := wmbx (wcmd 0xF0 []) (wpair [(F.PLT_PAIR_DRILL_DWELL, 0, 1), (F.PLT_PSTATE_DRILL, 0, 1)] fun x => { x with drill := some ⟨2048, false, 1, 1, 0, 0, 0, 0, 0, 17, 0, 0, false, false⟩ }) ; { s with time := { s.time with xt := 40000 }, mbx := { s.mbx with hdls := [⟨0, 1, 2, 1, 7, 0x61, 0, .drill, 0, false⟩] } }), ⟨2048, false, 1, 1, 0, 0, 0, 0, 0, 17, 0, 0, false, false⟩, by decide +kernel⟩

theorem witness_PairLeaseAndDrill_7 : ∃ (s : State) (d : Drill), let a := advance ⟨0, 0⟩ s
    (a.pair.drill = some d) ∧ (d.phase = 1) ∧ (d.side = 1) ∧ (d.ret = true) ∧ (d.doFault = 0 ∧ d.aoFault = 0) ∧ (d.from_ + 32768 * a.rd F.PLT_PAIR_DRILL_DWELL ≤ a.time.xt) ∧ (a.paired = true) ∧ (a.role = 1) ∧ (a.pair.yieldAt = none) :=
  ⟨(let s := (wpair [(F.PLT_PAIR_DRILL_DWELL, 0, 1), (F.PLT_PSTATE_DRILL, 0, 1), (F.PLT_PSTATE_ROLE, 0, 1)] fun x => { x with drill := some ⟨2048, true, 1, 1, 0, 0, 0, 0, 0, 17, 0, 0, false, false⟩ }) ; { s with time := { s.time with xt := 40000 } }), ⟨2048, true, 1, 1, 0, 0, 0, 0, 0, 17, 0, 0, false, false⟩, by decide +kernel⟩

theorem witness_ClockJudging_1 : ∃ (s : State) (lclk link lane sys n : Nat), let a := advance ⟨0, 0⟩ s
    (a.clk.inReset = false) ∧ (a.rd F.CLK_STATUS_XTAL_OK = 1) ∧ (a.rd F.RTC_STATUS_XTAL_SUBST = 0) ∧ (a.rd F.CLK_STATUS_CLK_PHASE = 0 ∨ a.rd F.CLK_STATUS_CLK_PHASE = 1) ∧ (n = 3 ∧ 12085 ≤ lclk ∧ lclk ≤ 12329 ∨ n = 2 ∧ 6043 ≤ lclk ∧ lclk ≤ 6164 ∨ n = 1 ∧ 3022 ≤ lclk ∧ lclk ≤ 3082) :=
  ⟨(let s := wst [(F.CLK_STATUS_CLK_PHASE, 0, 1), (F.CLK_STATUS_XTAL_OK, 0, 1)] ; { s with clk := { s.clk with inReset := false } }), 12085, 0, 0, 0, 3, by decide +kernel⟩

theorem witness_ClockJudging_2 : ∃ (s : State) (lclk link lane sys : Nat), let a := advance ⟨0, 0⟩ s
    (a.clk.inReset = false) ∧ (a.rd F.CLK_STATUS_XTAL_OK = 1) ∧ (a.rd F.RTC_STATUS_XTAL_SUBST = 0) ∧ (a.rd F.CLK_STATUS_CLK_PHASE = 0 ∨ a.rd F.CLK_STATUS_CLK_PHASE = 1) ∧ ((lclk < 12085 ∨ 12329 < lclk) ∧ (lclk < 6043 ∨ 6164 < lclk) ∧ (lclk < 3022 ∨ 3082 < lclk)) :=
  ⟨(let s := wst [(F.CLK_STATUS_CLK_PHASE, 0, 1), (F.CLK_STATUS_XTAL_OK, 0, 1), (F.NRL_CTRL_PA_ST, 0, 1)] ; { s with clk := { s.clk with inReset := false } }), 12330, 0, 0, 0, by decide +kernel⟩

theorem witness_ClockJudging_3 : ∃ (s : State) (lclk link lane sys : Nat), let a := advance ⟨0, 0⟩ s
    (a.clk.inReset = false) ∧ (a.rd F.CLK_STATUS_XTAL_OK = 1) ∧ (a.rd F.RTC_STATUS_XTAL_SUBST = 0) ∧ (a.rd F.CLK_STATUS_CLK_PHASE = 3) ∧ (lclkOf lclk ≠ some (a.rd F.CLK_STATUS_LCLK_NOM)) ∧ (a.ring.announced = none) ∧ (a.clk.parked = false) ∧ (1 ≤ a.clk.badWindows) ∧ (a.clk.bridgeFrom = none) ∧ (a.time.link = true) :=
  ⟨(let s := wlink [(F.CLK_STATUS_CLK_PHASE, 0, 3), (F.CLK_STATUS_XTAL_OK, 0, 1), (F.CLK_STATUS_LCLK_NOM, 0, 3)] ; { s with clk := { s.clk with inReset := false, lane := true, supv := true, badWindows := 1 } }), 0, 0, 0, 0, by decide +kernel⟩

theorem witness_ClockJudging_4 : ∃ (s : State), let a := advance ⟨0, 0⟩ s
    (a.clk.bridgeFrom = none) ∧ (a.time.link = true) :=
  ⟨(let s := wlink [(F.CLK_STATUS_CLK_PHASE, 0, 3)] ; { s with clk := { s.clk with inReset := false, lane := true, supv := true, clkA := true } }), by decide +kernel⟩

theorem witness_ClockJudging_5 : ∃ (s : State) (n : Nat), let a := advance ⟨0, 0⟩ s
    (a.time.link = true) ∧ (a.rd F.CLK_STATUS_REFPORT = n) ∧ (n = 0 ∧ a.clk.clkB = true ∨ n = 1 ∧ a.clk.clkA = true) :=
  ⟨(let s := wlink ; { s with clk := { s.clk with clkA := true, clkB := true } }), 0, by decide +kernel⟩

theorem witness_ClockJudging_6 : ∃ (s : State), let a := advance ⟨0, 0⟩ s
    (a.clk.lane = true) :=
  ⟨(let s := wlink ; { s with clk := { s.clk with lane := true, supv := true } }), by decide +kernel⟩

theorem witness_ClockJudging_7 : ∃ (s : State), let a := advance ⟨0, 0⟩ s
    (a.clk.supv = true) :=
  ⟨(let s := wlink ; { s with clk := { s.clk with lane := true, supv := true } }), by decide +kernel⟩

theorem witness_ClockGatesParksAndSteps_1 : ∃ (s : State), let a := advance ⟨0, 0⟩ s
    (a.rd F.CLK_STATUS_CLK_PHASE = 2) ∧ (a.clk.bridgeFrom = none) :=
  ⟨wst [(F.CLK_STATUS_CLK_PHASE, 0, 2)], by decide +kernel⟩

theorem witness_ClockGatesParksAndSteps_2 : ∃ (s : State) (n : Nat), let a := advance ⟨0, 0⟩ s
    (a.rd F.CLK_STATUS_CLK_PHASE = 2) ∧ (a.clk.bridgeFrom = some n) :=
  ⟨(let s := wst [(F.CLK_STATUS_CLK_PHASE, 0, 2), (F.SCN_MODE_MODE, 0, 2)] ; { s with clk := { s.clk with bridgeFrom := some 4, bridgeLong := true } }), 4, by decide +kernel⟩

theorem witness_ClockGatesParksAndSteps_3 : ∃ (s : State) (n : Nat), let a := advance ⟨0, 0⟩ s
    (a.rd F.CLK_STATUS_CLK_PHASE = 3) ∧ (a.clk.lane = false) ∧ (a.clk.limited = false) ∧ (a.clk.laneFrom = some n) :=
  ⟨(let s := wlink [(F.CLK_STATUS_CLK_PHASE, 0, 3), (F.SCN_MODE_MODE, 0, 2)] ; { s with clk := { s.clk with laneFrom := some 4 }, time := { s.time with xt := 90 } }), 4, by decide +kernel⟩

theorem witness_ClockGatesParksAndSteps_4 : ∃ (s : State) (n : Nat), let a := advance ⟨0, 0⟩ s
    (a.clk.bridgeFrom = some n) ∧ (∀ g ∈ List.range 12, (a.time.xt - n) * 1000 < a.reinTo g * 32768) :=
  ⟨(let s := wst ((List.range 8).map (fun g => (F.DG_GROUP_REIN_TO, g, 100)) ++ (List.range 4).map (fun g => (F.AG_GROUP_REIN_TO, g, 100))) ; { s with clk := { s.clk with bridgeFrom := some 4 }, time := { s.time with xt := 90 } }), 4, by decide +kernel⟩

theorem witness_ClockGatesParksAndSteps_5 : ∃ (s : State) (n : Nat), let a := advance ⟨0, 0⟩ s
    (a.ring.announced = some n) ∧ (a.clk.parked = false) ∧ (a.timed = true) ∧ (a.time.link = true) ∧ (a.nextBoundary ≤ a.time.now) ∧ (a.t0Runs = false) :=
  ⟨(let s := wlink [(F.NRL_STATE_MOD_ST, 0, 4), (F.SCN_T_PERIOD, 0, 1000)] ; { s with ring := { s.ring with announced := some 9 }, clk := { s.clk with lane := true } }), 9, by decide +kernel⟩

theorem witness_ClockGatesParksAndSteps_6 : ∃ (s : State) (k : Nat), let a := advance ⟨0, 0⟩ s
    (a.pwr.laneTo = some k) ∧ (a.clk.lane = true) ∧ (a.mode ≠ mRUN ∧ a.mode ≠ mHOLD) ∧ (k < 4) :=
  ⟨(let s := wlink [(F.SCN_MODE_MODE, 0, 1), (F.CLK_STATUS_LCLK_NOM, 0, 3)] ; { s with clk := { s.clk with lane := true }, pwr := { s.pwr with laneTo := some 2 } }), 2, by decide +kernel⟩

theorem witness_ClockGatesParksAndSteps_7 : ∃ (s : State) (k n : Nat), let a := advance ⟨0, 0⟩ s
    (a.pwr.laneTo = some k) ∧ (a.clk.lane = true) ∧ (a.mode = mRUN ∨ a.mode = mHOLD) ∧ (a.pwr.laneUrgent = false) ∧ (a.pwr.laneDefer = false) ∧ (a.lanesIdle = true) ∧ (a.scn.presented = []) ∧ (a.time.now + 230000 ≤ a.nextBoundary + 4000) ∧ (a.budgetFails (a.stepMHz k) = some n) ∧ (n < 64) :=
  ⟨(let s := wlink [(F.SCN_MODE_MODE, 0, 2), (F.SCN_T_PERIOD, 0, 1000)] ; { s with clk := { s.clk with lane := true }, pwr := { s.pwr with laneTo := some 2 }, ring := { s.ring with lastLocal := 4900000 }, scn := { s.scn with peak := [(0, 900000)] } }), 2, 0, by decide +kernel⟩

theorem witness_ClockGatesParksAndSteps_8 : ∃ (s : State), let a := advance ⟨0, 0⟩ s
    (a.rtc.powered = true) ∧ (a.rd F.RTC_STATUS_XTAL_RUN = 1) ∧ (a.clk.inReset = false) :=
  ⟨(let s := wlink [(F.RTC_STATUS_XTAL_RUN, 0, 1), (F.CLK_STATUS_XTAL_OK, 0, 1)] ; { s with clk := { s.clk with inReset := false } }), by decide +kernel⟩

theorem witness_ClockGatesParksAndSteps_9 : ∃ (s : State), let a := advance ⟨0, 0⟩ s
    (a.rtc.powered = true) ∧ (a.rd F.RTC_STATUS_XTAL_RUN = 0) ∧ (a.clk.inReset = false) :=
  ⟨(let s := wlink [(F.RTC_STATUS_XTAL_SUBST, 0, 1)] ; { s with clk := { s.clk with inReset := false } }), by decide +kernel⟩

theorem witness_ClockGatesParksAndSteps_10 : ∃ (s : State), let a := advance ⟨0, 0⟩ s
    (a.clk.inReset = false) ∧ (a.clk.gatesOpened = none) ∧ (a.rd F.CLK_STATUS_XTAL_OK = 0) :=
  ⟨(let s := State.reset ; { s with clk := { s.clk with inReset := false } }), by decide +kernel⟩

theorem witness_ResetsAndWatchdogs_1 : ∃ (s : State) (rising : Bool), let a := advance ⟨0, 0⟩ s
    (rising = true ∨ a.riding = false) :=
  ⟨wlink [(F.SCN_MODE_MODE, 0, 2)], true, by decide +kernel⟩

theorem witness_ResetsAndWatchdogs_2 : ∃ (s : State), let a := advance ⟨0, 0⟩ s
    (a.riding = true) :=
  ⟨wlink [(F.PWR_STATUS_PSTATE, 0, 2)], by decide +kernel⟩

theorem witness_ResetsAndWatchdogs_3 : ∃ (s : State) (n : Nat), let a := advance ⟨0, 0⟩ s
    (10000 ≤ n) ∧ (a.riding = false) :=
  ⟨wlink [(F.SCN_MODE_MODE, 0, 2)], 10000, by decide +kernel⟩

theorem witness_ResetsAndWatchdogs_4 : ∃ (s : State) (n : Nat), let a := advance ⟨0, 0⟩ s
    (n < 1000) :=
  ⟨wlink [(F.SCN_MODE_MODE, 0, 2)], 999, by decide +kernel⟩

theorem witness_ResetsAndWatchdogs_5 : ∃ (s : State) (n : Nat), let a := advance ⟨0, 0⟩ s
    (1000 ≤ n) ∧ (n < 10000) ∧ (a.riding = false) :=
  ⟨wlink [(F.SCN_MODE_MODE, 0, 2)], 1000, by decide +kernel⟩

theorem witness_ResetsAndWatchdogs_6 : ∃ (s : State) (le cs xt : Bool), let a := advance ⟨0, 0⟩ s
    (a.clk.inReset = true) ∧ (a.clk.pinLow = false) :=
  ⟨State.reset, true, false, true, by decide +kernel⟩

theorem witness_ResetsAndWatchdogs_7 : ∃ (s : State) (le cs xt : Bool), let a := advance ⟨0, 0⟩ s
    (a.clk.pinLow = true) ∧ (a.clk.inReset = true) :=
  ⟨(let s := State.reset ; { s with clk := { s.clk with pinLow := true } }), true, false, true, by decide +kernel⟩

theorem witness_ResetsAndWatchdogs_8 : ∃ (s : State) (kind seq : Nat), let a := advance ⟨0, 0⟩ s
    (a.clk.pendReset = some (kind, seq)) ∧ (a.mbx.cq.find? (fun r => decide (r.seq = seq)) = none) ∧ (a.riding = false) ∧ (kind = 3 ∨ kind = 4) :=
  ⟨(let s := wlink [(F.SCN_MODE_MODE, 0, 2)] ; { s with clk := { s.clk with pendReset := some (4, 9) } }), 4, 9, by decide +kernel⟩

theorem witness_ResetsAndWatchdogs_9 : ∃ (s : State) (up : Bool) (n : Nat), let a := advance ⟨0, 0⟩ s
    (a.clk.gatesOpened = some n) ∧ (a.clk.stopReady = false) ∧ (a.clk.startFailed = false) ∧ (a.rd F.SEC_STATUS_RECOVERY = 0) ∧ (n + 8192 ≤ a.time.xt) ∧ (a.riding = false) :=
  ⟨(let s := wlink ; { s with clk := { s.clk with gatesOpened := some 0, startRuns := 2 }, time := { s.time with xt := 8192 } }), true, 0, by decide +kernel⟩

theorem witness_ResetsAndWatchdogs_10 : ∃ (s : State) (both up : Bool), let a := advance ⟨0, 0⟩ s
    (a.clk.supv = true) ∧ (a.clk.inReset = false) ∧ (a.riding = false) ∧ (both = true ∨ a.rd F.SEC_STATUS_SPARE_READY = 0) :=
  ⟨(let s := wlink [(F.SCN_MODE_MODE, 0, 2)] ; { s with clk := { s.clk with supv := true, inReset := false } }), true, true, by decide +kernel⟩

theorem witness_ResetsAndWatchdogs_11 : ∃ (s : State) (both up : Bool), let a := advance ⟨0, 0⟩ s
    (a.clk.supv = true) ∧ (a.clk.inReset = false) ∧ (both = false) ∧ (a.rd F.SEC_STATUS_SPARE_READY = 1) ∧ (a.rd F.SEC_STATUS_ACTIVE_SV ≤ 1) :=
  ⟨(let s := wlink [(F.SCN_MODE_MODE, 0, 2), (F.SEC_STATUS_SPARE_READY, 0, 1)] ; { s with clk := { s.clk with supv := true, inReset := false } }), false, true, by decide +kernel⟩

theorem witness_ModeCommands_1 : ∃ (s : State) (r : RingCmd) (x : Session) (g k : Nat), let a := advance ⟨0, 0⟩ s
    (Taken 0x40 2 a r x) ∧ ((parse r).payload = [g, k, 0, 0]) ∧ (a.window (modeWin g) = none) ∧ (g = mRUN → a.storeFault = false) ∧ (a.scn.pend = none) ∧ (k ≤ 2) ∧ ((a.mode = mRUN ∨ a.mode = mHOLD) ∧ g = mSTOP ∨ a.mode = mRUN ∧ g = mHOLD ∨ a.mode = mHOLD ∧ g = mRUN ∧ k = 0 ∨ a.mode = mSTOP ∧ g = mRUN ∧ k = 0 ∧ a.prg.active.isSome = true ∧ a.cycleOk = true ∧ a.scn.intact = true ∨ a.mode = mFAULT ∧ g = mSTOP ∧ a.faultPersists = false) ∧ (HasHandle a x) :=
  ⟨wmbx (wcmd 0x40 [1, 0, 0, 0]) (wrun 2), wcmd 0x40 [1, 0, 0, 0], wses, 1, 0, by decide +kernel⟩

theorem witness_ModeCommands_2 : ∃ (s : State) (r : RingCmd) (x : Session) (k : Nat), let a := advance ⟨0, 0⟩ s
    (Taken 0x40 2 a r x) ∧ ((parse r).payload = [mHOLD, k, 0, 0]) ∧ (a.window (modeWin mHOLD) = none) ∧ (a.scn.pend = none) ∧ (k ≤ 2) ∧ (a.mode = mSTOP) ∧ (HasHandle a x) :=
  ⟨wmbx (wcmd 0x40 [3, 0, 0, 0]) (wrun 1), wcmd 0x40 [3, 0, 0, 0], wses, 0, by decide +kernel⟩

theorem witness_ModeCommands_3 : ∃ (s : State) (k : Nat), let a := advance ⟨0, 0⟩ s
    (a.rd F.SCN_CFG_AUTORUN = k) ∧ (k ≠ 0) ∧ (a.clk.autorunDone = false) ∧ (a.clk.coldReset = true) ∧ (a.clk.stopReady = true) ∧ (a.timed = true) ∧ (a.rd F.CLK_START_HOLD_38 = 1) ∧ (a.window (modeWin mRUN) = none) ∧ (a.storeFault = false) ∧ (modeRefusal a mRUN k = none) ∧ (a.mode = mSTOP) ∧ (a.scn.pend = none) :=
  ⟨wrun 1 [(F.SCN_CFG_AUTORUN, 0, 2)], 2, by decide +kernel⟩

theorem witness_ModeCommands_4 : ∃ (s : State) (k st : Nat), let a := advance ⟨0, 0⟩ s
    (a.rd F.SCN_CFG_AUTORUN = k) ∧ (k ≠ 0) ∧ (a.clk.autorunDone = false) ∧ (a.clk.coldReset = true) ∧ (a.clk.stopReady = true) ∧ (a.timed = true) ∧ (a.rd F.CLK_START_HOLD_38 = 1) ∧ (a.window (modeWin mRUN) = some st) :=
  ⟨wrun 1 [(F.SCN_CFG_AUTORUN, 0, 2), (F.CLK_START_LANES_LOADED, 0, 0)], 2, Code.LANES_LOADING, by decide +kernel⟩

theorem witness_ModeCommands_5 : ∃ (s : State) (p : PendMode), let a := advance ⟨0, 0⟩ s
    (a.scn.pend = some p) ∧ (p.startup = true) ∧ (p.xt + a.rd F.SCN_CFG_STARTUP_LIMIT * 32768 / 1000 ≤ a.time.xt) ∧ (a.mode ≠ mINIT ∧ a.mode ≠ mFAULT) :=
  ⟨(let s := wlong (.modeSet 2 2) (wrun 1 [(F.SCN_CFG_STARTUP_LIMIT, 0, 100)] fun x => { x with pend := some { wpend 2 2048 with startup := true } }) ; { s with time := { s.time with xt := 4000 } }), { wpend 2 2048 with startup := true }, by decide +kernel⟩

theorem witness_ModeCommands_6 : ∃ (s : State), let a := advance ⟨0, 0⟩ s
    (a.mode = mHOLD) ∧ (a.scn.enterXt + 32768 * a.rd F.SCN_CFG_HOLD_LIMIT ≤ a.time.xt) ∧ (a.scn.pend = none) :=
  ⟨wrun 3 [(F.SCN_CFG_HOLD_LIMIT, 0, 0)], by decide +kernel⟩

theorem witness_ModeTransitions_1 : ∃ (s : State) (p : PendMode), let a := advance ⟨0, 0⟩ s
    (a.scn.pend = some p) ∧ (p.target = mRUN) ∧ (p.startup = false) ∧ (a.runLatch p.readyAt = true) ∧ (a.clk.lane = true) ∧ (a.mode = mSTOP ∧ a.commitWaits = false ∨ a.mode = mHOLD) :=
  ⟨(let s := wlong (.modeSet 2 2) (wrun 1 [] fun x => { x with pend := some (wpend 2 2048) }) ; { s with img := { s.img with latchKind := 1 }, time := { s.time with now := 4000000 } }), wpend 2 2048, by decide +kernel⟩

theorem witness_ModeTransitions_2 : ∃ (s : State) (p : PendMode), let a := advance ⟨0, 0⟩ s
    (a.leaveNow mHOLD = some p) ∧ (a.mode = mRUN) ∧ (a.noExec = true) ∧ (a.prg.act = none) :=
  ⟨wlong (.modeSet 3 0) (wrun 2 [] fun x => { x with pend := some (wpend 3 2048) }), wpend 3 2048, by decide +kernel⟩

theorem witness_ModeTransitions_3 : ∃ (s : State) (p : PendMode) (x : Exec), let a := advance ⟨0, 0⟩ s
    (a.leaveNow mHOLD = some p) ∧ (a.mode = mRUN) ∧ (a.scn.running = some x) ∧ (a.scn.waiting = []) :=
  ⟨wlong (.modeSet 3 0) (wrun 2 [] fun x => { x with pend := some (wpend 3 2048), running := some (newExec (wrun 2) 0 1 none) }), wpend 3 2048, newExec (wrun 2) 0 1 none, by decide +kernel⟩

theorem witness_ModeTransitions_4 : ∃ (s : State) (p : PendMode), let a := advance ⟨0, 0⟩ s
    (a.leaveNow mSTOP = some p) ∧ (a.mode = mRUN ∨ a.mode = mHOLD) ∧ (a.noExec = true) ∧ (a.prg.act = none) :=
  ⟨wlong (.modeSet 1 0) (wrun 2 [] fun x => { x with pend := some (wpend 1 2048) }), wpend 1 2048, by decide +kernel⟩

theorem witness_ModeTransitions_5 : ∃ (s : State) (p : PendMode), let a := advance ⟨0, 0⟩ s
    (a.scn.pend = some p) ∧ (a.mode = mFAULT) ∧ (p.target = mSTOP) ∧ (a.commitWaits = false) ∧ (a.paired = false) :=
  ⟨wlong (.modeSet 1 0) (wrun 4 [] fun x => { x with pend := some (wpend 1 2048) }), wpend 1 2048, by decide +kernel⟩

theorem witness_TaskReleases_1 : ∃ (s : State), let a := advance ⟨0, 0⟩ s
    (a.scn.t0Due = true) ∧ (a.ring.lastLocal + 4000 ≤ a.time.now) ∧ (a.mode = mRUN) ∧ (a.cut = false) ∧ (a.rd F.SCN_T_SRC 0 = 1) ∧ (a.clk.lane = true) ∧ (a.prg.active.isSome = true) ∧ (a.lanesIdle = true) ∧ (a.prg.deferring = false) ∧ (a.prg.deferred = []) :=
  ⟨wrun 2 [] fun x => { x with t0Due := true }, by decide +kernel⟩

theorem witness_TaskReleases_2 : ∃ (s : State) (x : Exec), let a := advance ⟨0, 0⟩ s
    (a.scn.t0Due = true) ∧ (a.ring.lastLocal + 4000 ≤ a.time.now) ∧ (a.mode = mRUN) ∧ (a.cut = false) ∧ (a.rd F.SCN_T_SRC 0 = 1) ∧ (a.clk.lane = true) ∧ (a.prg.active.isSome = true) ∧ (a.scn.running = some x) ∧ (x.task = 0) ∧ (a.rd F.SCN_T_SKIP_MAX 0 = 255) :=
  ⟨wrun 2 [] fun x => { x with t0Due := true, running := some (newExec (wrun 2) 0 1 none) }, newExec (wrun 2) 0 1 none, by decide +kernel⟩

theorem witness_TaskReleases_3 : ∃ (s : State) (k : Nat), let a := advance ⟨0, 0⟩ s
    (1 ≤ k ∧ k < 64) ∧ (a.rd F.SCN_T_SRC k = 1) ∧ (a.rd F.SCN_T_PERIOD k ≠ 0) ∧ (a.time.stHeld = false) ∧ (a.clk.lane = true) ∧ (a.station % a.rd F.SCN_T_PERIOD k = a.rd F.SCN_T_PHASE k % a.rd F.SCN_T_PERIOD k) ∧ (Table.find 0 a.scn.perLast k ≠ a.station + 1) ∧ (a.mode = mRUN) ∧ (a.cut = false) ∧ (a.prg.active.isSome = true) ∧ (a.lanesIdle = true) ∧ (a.prg.deferring = false) ∧ (a.prg.deferred = []) :=
  ⟨wrun 2 [(F.SCN_T_SRC, 5, 1), (F.SCN_T_PERIOD, 5, 500)], 5, by decide +kernel⟩

theorem witness_TaskReleases_4 : ∃ (s : State) (x : Exec), let a := advance ⟨0, 0⟩ s
    (a.clk.lane = true) ∧ (x ∈ a.allExecs) ∧ (a.rd F.SCN_T_WD_LIMIT x.task ≠ 0) ∧ (x.relXt + a.rd F.SCN_T_WD_LIMIT x.task ≤ a.time.xt) ∧ (a.mode ≠ mINIT ∧ a.mode ≠ mFAULT) :=
  ⟨(let s := wrun 2 [(F.SCN_T_WD_LIMIT, 0, 9)] (fun x => { x with running := some (newExec (wrun 2) 0 1 none) }) ; { s with time := { s.time with xt := 9 } }), newExec (wrun 2) 0 1 none, by decide +kernel⟩

theorem witness_TaskReleases_5 : ∃ (s : State) (x : Snap), let a := advance ⟨0, 0⟩ s
    (a.img.latchKind ≠ 2) ∧ (a.ring.lastLatch + 4000 ≤ a.time.now) ∧ (∀ e ∈ a.allExecs, e.snap ≠ some a.ring.cinch) ∧ (a.mode ≠ mRUN) ∧ (a.snap? a.ring.cinch = some x) ∧ (x.closed = false) :=
  ⟨(let s := wrun 1 ; { s with img := { s.img with latchKind := 1, q := [(0, 9)], snaps := [⟨0, false, false, false, false, false, 0, 0, 0, [], [], []⟩] } }), ⟨0, false, false, false, false, false, 0, 0, 0, [], [], []⟩, by decide +kernel⟩

theorem witness_TaskReleases_6 : ∃ (s : State) (items : List (List Nat)) (d : List Nat), let a := advance ⟨0, 0⟩ s
    (a.scn.retBusy = true) ∧ (a.mode = mRUN) ∧ (a.noExec = true) ∧ (a.clk.lane = true) ∧ (a.storeOk = true) ∧ (retainData (a.activeBank.getD {}) (((List.range 3).filter fun k => a.votes k).map fun k => a.scn.lanes.get k) 0 (retainItems a.retainRows (((a.activeBank.getD {}).insts.filter (·.retain)).map (·.id))) = .ok items) ∧ (d = retainHead (a.activeBank.getD {}).build a.retainRows ((a.activeBank.getD {}).insts.filter (·.retain)) ++ items.flatten) :=
  ⟨(let s := wrun 2 [(F.SCN_RETAIN_AREA, 0, 1), (F.SCN_RETAIN_COUNT, 0, 32)] (fun x => { x with retBusy := true, lanes := ⟨⟨[(0, 7)], [], [], []⟩, ⟨[(0, 7)], [], [], []⟩, ⟨[(0, 8)], [], [], []⟩⟩ }) ; s), [[7, 0, 0, 0]], leBytes 4 0 ++ [1, 0, 0, 0, 0, 0, 32, 0] ++ List.replicate 56 0 ++ [0, 0, 0, 0, 7, 0, 0, 0], by decide +kernel⟩

theorem witness_TaskReleases_7 : ∃ (s : State) (items : List (List Nat)), let a := advance ⟨0, 0⟩ s
    (a.scn.retBusy = true) ∧ (a.mode = mRUN) ∧ (a.noExec = true) ∧ (a.clk.lane = true) ∧ (a.storeOk = false) ∧ (retainData (a.activeBank.getD {}) (((List.range 3).filter fun k => a.votes k).map fun k => a.scn.lanes.get k) 0 (retainItems a.retainRows (((a.activeBank.getD {}).insts.filter (·.retain)).map (·.id))) = .ok items) :=
  ⟨wrun 2 [(F.CLK_START_HOLD_30, 0, 0)] (fun x => { x with retBusy := true, retRun := 2 }), [], by decide +kernel⟩

theorem witness_TaskReleases_8 : ∃ (s : State) (k v : Nat), let a := advance ⟨0, 0⟩ s
    ((a.sto.ringPend.find? fun e => decide (64 ≤ e.1) || a.noExec) = some (k, v)) ∧ (a.storeOk = true) :=
  ⟨(let s := wrun 1 ; { s with sto := { s.sto with ringPend := [(5, 0xFFFFFFFF)] } }), 5, 0xFFFFFFFF, by decide +kernel⟩

theorem witness_MailboxChecks_3 : ∃ (s : State) (r : RingCmd) (x : Session), let a := advance ⟨0, 0⟩ s
    (Taken 0xF0 1 a r x) ∧ ((parse r).payload = []) :=
  ⟨wmbx (wcmd 0xF0 []), wcmd 0xF0 [], wses, by decide +kernel⟩

theorem witness_MailboxChecks_4 : ∃ (s : State) (r : RingCmd) (x : Session) (op : Nat), let a := advance ⟨0, 0⟩ s
    (Taken op 0 a r x) ∧ (opcodes.contains op = false) :=
  ⟨wmbx (wcmd 0x99 []), wcmd 0x99 [], wses, 0x99, by decide +kernel⟩

theorem witness_Sessions_1 : ∃ (s : State) (r : RingCmd) (n : Nat), let a := advance ⟨0, 0⟩ s
    (a.mbxReady = true) ∧ (a.mbx.ring.head? = some r) ∧ ((parse r).opcode = 1) ∧ (a.clk.startFailed = false) ∧ ((parse r).formOk = true) ∧ (∀ g ∈ a.mbx.tags, g.tag ≠ slice (parse r).payload 20 8) ∧ (a.openCheck (parse r) = (Code.OK, n)) ∧ (a.rngOk = true) :=
  ⟨(let s := wmbx wopen (wlink [(F.SEC_RNG_STATE, 0, 1)]) ; { s with mbx := { s.mbx with sessions := [] } }), wopen, 0, by decide +kernel⟩

theorem witness_Sessions_2 : ∃ (s : State) (r : RingCmd) (n : Nat), let a := advance ⟨0, 0⟩ s
    (a.mbxReady = true) ∧ (a.mbx.ring.head? = some r) ∧ ((parse r).opcode = 1) ∧ (a.clk.startFailed = false) ∧ ((parse r).formOk = true) ∧ (∀ g ∈ a.mbx.tags, g.tag ≠ slice (parse r).payload 20 8) ∧ (a.openCheck (parse r) = (Code.OK, n)) ∧ (a.rngOk = false) :=
  ⟨(let s := wmbx wopen ; { s with mbx := { s.mbx with sessions := [] } }), wopen, 0, by decide +kernel⟩

theorem witness_Sessions_3 : ∃ (s : State) (r : RingCmd) (st n : Nat), let a := advance ⟨0, 0⟩ s
    (a.mbxReady = true) ∧ (a.mbx.ring.head? = some r) ∧ ((parse r).opcode = 1) ∧ (a.clk.startFailed = false) ∧ ((parse r).formOk = true) ∧ (∀ g ∈ a.mbx.tags, g.tag ≠ slice (parse r).payload 20 8) ∧ (a.openCheck (parse r) = (st, n)) ∧ (st ≠ Code.OK) :=
  ⟨wmbx (wopen 5), wopen 5, Code.BAD_PAYLOAD, 0, by decide +kernel⟩

theorem witness_Sessions_4 : ∃ (s : State) (r : RingCmd) (n : Nat), let a := advance ⟨0, 0⟩ s
    (a.mbx.waitOpen = some (r, n)) ∧ (a.clk.supv = true) ∧ (n + 10000000 ≤ a.time.now) :=
  ⟨(let s := wmbx wopen ; { s with mbx := { s.mbx with ring := [], waitOpen := some (wopen, 0) }, time := { s.time with now := 10000000 } }), wopen, 0, by decide +kernel⟩

theorem witness_Sessions_5 : ∃ (s : State) (r : RingCmd) (x : Session), let a := advance ⟨0, 0⟩ s
    (Taken 2 0 a r x) ∧ ((parse r).payload = proof ((a.roleKey x.role).getD []) 0x41 x.no x.role x.hostNonce x.mNonce) :=
  ⟨wauthS wproof, wauth wproof, wpending, wauth_ok⟩

theorem witness_Sessions_6 : ∃ (s : State) (r : RingCmd) (x : Session), let a := advance ⟨0, 0⟩ s
    (Taken 2 0 a r x) ∧ ((parse r).payload.length = 32) ∧ ((parse r).payload ≠ proof ((a.roleKey x.role).getD []) 0x41 x.no x.role x.hostNonce x.mNonce) :=
  ⟨wauthBad, wauth (List.replicate 32 300), wpending, wauth_bad⟩

theorem witness_Sessions_7 : ∃ (s : State) (r : RingCmd) (x : Session), let a := advance ⟨0, 0⟩ s
    (Taken 3 1 a r x) ∧ ((parse r).payload = []) ∧ ((parse r).arg = 0xFFFF) :=
  ⟨wmbx (wcmd 3 [] 0xFFFF), wcmd 3 [] 0xFFFF, wses, by decide +kernel⟩

theorem witness_Sessions_8 : ∃ (s : State) (r : RingCmd) (x : Session), let a := advance ⟨0, 0⟩ s
    (Taken 3 1 a r x) ∧ ((parse r).payload = []) ∧ ((parse r).arg < 256) ∧ ((parse r).arg ≠ x.no) ∧ (x.role < 4) :=
  ⟨wmbx (wcmd 3 [] 9), wcmd 3 [] 9, wses, by decide +kernel⟩

theorem witness_Sessions_9 : ∃ (s : State) (r : RingCmd) (x : Session) (n : Nat), let a := advance ⟨0, 0⟩ s
    (Taken 4 3 a r x) ∧ ((parse r).payload = leBytes 2 n) ∧ (1 ≤ n) ∧ (n ≤ 2048) ∧ ((parse r).arg = 0xFFFF) :=
  ⟨wmbx (wcmd 4 [5, 0] 0xFFFF), wcmd 4 [5, 0] 0xFFFF, wses, 5, by decide +kernel⟩

theorem witness_Sessions_10 : ∃ (s : State) (r : RingCmd) (x : Session) (n : Nat), let a := advance ⟨0, 0⟩ s
    (Taken 5 1 a r x) ∧ ((parse r).payload = leBytes 2 n) ∧ (1 ≤ n) ∧ (n ≤ 3600) :=
  ⟨wmbx (wcmd 5 [5, 0] 0xFFFF), wcmd 5 [5, 0] 0xFFFF, wses, 5, by decide +kernel⟩

theorem witness_Sessions_11 : ∃ (s : State) (r : RingCmd) (x : Session), let a := advance ⟨0, 0⟩ s
    (Taken 6 1 a r x) ∧ ((parse r).payload = []) ∧ (HasHandle a x) ∧ (HandlesOk a) :=
  ⟨wmbx (wcmd 6 []), wcmd 6 [], wses, by decide +kernel⟩

theorem witness_Sessions_12 : ∃ (s : State), let a := advance ⟨0, 0⟩ s
    (a.clk.supv = true) :=
  ⟨(let s := wauthS [] ; { s with time := { s.time with xt := 32768 } }), by decide +kernel⟩

theorem witness_Sessions_13 : ∃ (s : State), let a := advance ⟨0, 0⟩ s
    (a.clk.supv = true) :=
  ⟨(let s := wmbx (wcmd 6 []) ; { s with time := { s.time with xt := 60 * 32768 } }), by decide +kernel⟩

theorem witness_HandlesAndQueues_1 : ∃ (s : State) (f : RxFrame) (n : Nat), let a := advance ⟨0, 0⟩ s
    (Hears a f 3) ∧ (a.placed = true) ∧ (f.ackreq = false) ∧ (f.dest ≠ 0xFF) ∧ (leAt f.body 4 2 = n) ∧ (f.body.length = 8 + 64 * n) ∧ (a.slotsUsed + n ≤ 512) :=
  ⟨wlink, wframe .A 3 0 5 0 ([0, 0, 0, 0, 1, 0, 0, 0] ++ List.replicate 64 0), 1, by decide +kernel⟩

theorem witness_HandlesAndQueues_2 : ∃ (s : State) (f : RxFrame) (n p : Nat), let a := advance ⟨0, 0⟩ s
    (Hears a f 3) ∧ (a.placed = true) ∧ (f.ackreq = false) ∧ (f.dest ≠ 0xFF) ∧ (f.body.length = 8 + 64 * leAt f.body 4 2) ∧ (leAt f.body 4 2 ≤ 512) ∧ (leAt f.body 0 4 = n) ∧ (a.lastPlaced false = some p) ∧ (atOrBeyond n a.mbx.ack = true) ∧ (atOrBeyond p n = true) ∧ (n ≠ a.mbx.ack) :=
  ⟨(let s := wlink ; { s with mbx := { s.mbx with cq := [⟨1, 1, false, 0, 1, 1, 0xF0, 0, 0, 0, 0, 0, [], false, true, 0⟩], nextSeq := 2 } }), wframe .A 3 0 5 0 [1, 0, 0, 0, 0, 0, 0, 0], 1, 1, by decide +kernel⟩

theorem witness_HandlesAndQueues_3 : ∃ (s : State), let a := advance ⟨0, 0⟩ s
    (a.mbx.cq.any (·.placed) = true) ∧ (a.rd F.MBX_CFG_CQ_TIMEOUT * 1000 ≤ a.time.now - a.mbx.ackAt) :=
  ⟨(let s := wlink [(F.MBX_CFG_CQ_TIMEOUT, 0, 100)] ; { s with mbx := { s.mbx with cq := [⟨1, 1, false, 0, 1, 1, 0xF0, 0, 0, 0, 0, 0, [], false, true, 0⟩], nextSeq := 2 } }), by decide +kernel⟩

theorem witness_HandlesAndQueues_4 : ∃ (s : State) (r : RingCmd) (x : Session) (h : Hdl), let a := advance ⟨0, 0⟩ s
    (Taken 0x10 1 a r x) ∧ ((parse r).payload = []) ∧ ((parse r).arg / 2048 ≠ 0) ∧ ((parse r).arg / 2048 = Table.find 0 a.mbx.gens ((parse r).arg % 2048)) ∧ (a.hdl? ((parse r).arg % 2048) = some h) ∧ (h.session = x.no) :=
  ⟨(let s := wlong .objStore wlink ; { s with mbx := { s.mbx with ring := [wcmd 0x10 [] 2048], gens := [(0, 1)] } }), wcmd 0x10 [] 2048, wses, whdl .objStore, by decide +kernel⟩

theorem witness_HandlesAndQueues_5 : ∃ (s : State) (r : RingCmd) (x : Session), let a := advance ⟨0, 0⟩ s
    (Taken 0x10 1 a r x) ∧ ((parse r).payload = []) ∧ ((parse r).arg / 2048 ≠ Table.find 0 a.mbx.gens ((parse r).arg % 2048)) :=
  ⟨(let s := wlong .objStore wlink ; { s with mbx := { s.mbx with ring := [wcmd 0x10 [] 4096], gens := [(0, 1)] } }), wcmd 0x10 [] 4096, wses, by decide +kernel⟩

theorem witness_HandlesAndQueues_6 : ∃ (s : State) (r : RingCmd) (x : Session) (h : Hdl) (co : Bool) (n m : Nat), let a := advance ⟨0, 0⟩ s
    (Taken 0x11 1 a r x) ∧ ((parse r).payload = []) ∧ ((parse r).arg / 2048 ≠ 0) ∧ ((parse r).arg / 2048 = Table.find 0 a.mbx.gens ((parse r).arg % 2048)) ∧ (a.hdl? ((parse r).arg % 2048) = some h) ∧ (h.session = x.no ∨ x.role = 4) ∧ (h.state = 4 ∨ h.state = 1 ∧ (h.op = .commit co n m ∨ h.op = .objStore)) :=
  ⟨(let s := wlong (.commit false 0 1) wlink ; { s with mbx := { s.mbx with ring := [wcmd 0x11 [] 2048], gens := [(0, 1)], hdls := [{ whdl (.commit false 0 1) with state := 1 }] } }), wcmd 0x11 [] 2048, wses, { whdl (.commit false 0 1) with state := 1 }, false, 0, 1, by decide +kernel⟩

theorem witness_HandlesAndQueues_7 : ∃ (s : State) (r : RingCmd) (x : Session) (k : Nat), let a := advance ⟨0, 0⟩ s
    (Taken 0x41 3 a r x) ∧ ((parse r).payload = [k, 0, 0, 0]) ∧ (k ≤ 1) :=
  ⟨wmbx (wcmd 0x41 [1, 0, 0, 0]), wcmd 0x41 [1, 0, 0, 0], wses, 1, by decide +kernel⟩

theorem witness_ObjectAccess_1 : ∃ (s : State) (r : RingCmd) (x : Session) (q : Target) (row : FieldRow), let a := advance ⟨0, 0⟩ s
    (Taken 0x20 1 a r x) ∧ (takeTarget (parse r).payload = .ok (q, [])) ∧ (q.field = some row) ∧ (row.fld.width ≤ 64) ∧ (row.acc ≠ .rc) ∧ ([F.objMBX_USE, F.objMBX_QUEUES, F.objMBX_SES, F.objREC_STAT, F.objPLT_PSTATE, F.objRTC_TIME, F.objRTC_DATE, F.objAG_CS, F.objDG_GSTAT, F.objAG_GSTAT, F.objPWR_DOMAINS, F.objPWR_HIST, F.objSTO_INCONS, F.objSEC_RNG, F.objSEC_FW].contains q.d.id = false) ∧ (a.window { groups := groupMask q.d q.i } = none) :=
  ⟨wmbx (wcmd 0x20 (pathBytes wpath)), wcmd 0x20 (pathBytes wpath), wses, wtarget, wrow, by decide +kernel⟩

theorem witness_ObjectAccess_2 : ∃ (s : State) (r : RingCmd) (x : Session) (q : Target) (row : FieldRow), let a := advance ⟨0, 0⟩ s
    (Taken 0x20 1 a r x) ∧ (takeTarget (parse r).payload = .ok (q, [])) ∧ (q.field = some row) ∧ (row.fld.width ≤ 64) ∧ (row.acc = .rc) ∧ ([F.objREC_STAT, F.objPLT_PSTATE, F.objAG_CS, F.objDG_GSTAT, F.objAG_GSTAT, F.objPWR_DOMAINS, F.objPWR_HIST, F.objSTO_INCONS, F.objSEC_RNG, F.objSEC_FW].contains q.d.id = false) ∧ (a.window { groups := groupMask q.d q.i } = none) :=
  ⟨wmbx (wcmd 0x20 (pathBytes wpathRC)) (wlink [(F.NRL_CINCH_CNT_CINCH_SKEW, 0, 9)]), wcmd 0x20 (pathBytes wpathRC), wses, (findTarget wpathRC).getD wtarget, (((findTarget wpathRC).getD wtarget).field).getD wrow, by decide +kernel⟩

theorem witness_ObjectAccess_3 : ∃ (s : State) (r : RingCmd) (x : Session) (e : Nat), let a := advance ⟨0, 0⟩ s
    (Taken 0x20 1 a r x) ∧ (takeTarget (parse r).payload = .error e) :=
  ⟨wmbx (wcmd 0x20 [2, 0x41, 0x2E, 0]), wcmd 0x20 [2, 0x41, 0x2E, 0], wses, Code.BAD_PATH, by decide +kernel⟩

theorem witness_ObjectAccess_4 : ∃ (s : State) (r : RingCmd) (x : Session) (q : Target) (row : FieldRow) (n : Nat), let a := advance ⟨0, 0⟩ s
    (Taken 0x21 1 a r x) ∧ (setCheck x (parse r).payload = .ok (q, false, [⟨row, q.i, 0, n⟩])) ∧ (q.field = some row) ∧ (row.acc = .rw) ∧ (special row = false) ∧ (a.window { groups := groupMask q.d q.i } = none) ∧ (a.lockedBy x.no q.d.id q.i = false) ∧ (liveStatus a false [⟨row, q.i, 0, n⟩] ⟨row, q.i, 0, n⟩ = Code.OK) :=
  ⟨wmbx (wset 0 600), wset 0 600, wses, wtarget, wrow, 600, by decide +kernel⟩

theorem witness_ObjectAccess_5 : ∃ (s : State) (r : RingCmd) (x : Session) (q : Target) (st : Bool) (ws : List Wr), let a := advance ⟨0, 0⟩ s
    (Taken 0x21 1 a r x) ∧ (setCheck x (parse r).payload = .ok (q, st, ws)) ∧ (st = true ∨ ∀ w ∈ ws, w.row.acc = .st) ∧ (ws ≠ []) ∧ (a.window { groups := groupMask q.d q.i } = none) ∧ (a.lockedBy x.no q.d.id q.i = false) ∧ ((stagedObjs (ws.foldl stageOne x.staging)).length ≤ 512) ∧ (((a.mbx.sessions.filter fun y => decide (y.no ≠ x.no)).map fun y => (stagedObjs y.staging).length).foldl (· + ·) 0 + (stagedObjs (ws.foldl stageOne x.staging)).length ≤ 4096) :=
  ⟨wmbx (wset 1 600), wset 1 600, wses, wtarget, true, [⟨wrow, 0, 0, 600⟩], by decide +kernel⟩

theorem witness_ObjectAccess_6 : ∃ (s : State) (r : RingCmd) (x : Session) (e : Nat), let a := advance ⟨0, 0⟩ s
    (Taken 0x21 1 a r x) ∧ (setCheck x (parse r).payload = .error e) :=
  ⟨wmbx (wset 0 4000), wset 0 4000, wses, Code.OUT_OF_RANGE, by decide +kernel⟩

theorem witness_ObjectAccess_7 : ∃ (s : State) (r : RingCmd) (x : Session) (q : Target) (st : Bool) (ws : List Wr), let a := advance ⟨0, 0⟩ s
    (Taken 0x21 1 a r x) ∧ (setCheck x (parse r).payload = .ok (q, st, ws)) ∧ (a.window { groups := groupMask q.d q.i } = none) ∧ (a.lockedBy x.no q.d.id q.i = true) ∧ ((stagedObjs (ws.foldl stageOne x.staging)).length ≤ 512) ∧ (((a.mbx.sessions.filter fun y => decide (y.no ≠ x.no)).map fun y => (stagedObjs y.staging).length).foldl (· + ·) 0 + (stagedObjs (ws.foldl stageOne x.staging)).length ≤ 4096) ∧ (st = true ∨ ∀ w ∈ ws, w.row.acc = .st) :=
  ⟨(let s := wmbx (wset 1 600) ; { s with mbx := { s.mbx with sessions := s.mbx.sessions ++ [{ wses with no := 2, staging := [wstaged] }] } }), wset 1 600, wses, wtarget, true, [⟨wrow, 0, 0, 600⟩], by decide +kernel⟩

theorem witness_ObjectAccess_8 : ∃ (s : State) (r : RingCmd) (x : Session) (l : List Nat) (names : List (List Nat)), let a := advance ⟨0, 0⟩ s
    (Taken 0x25 1 a r x) ∧ (takePath (parse r).payload = some (l, [])) ∧ (pathForm l = true) ∧ (children l = some names) ∧ (HasHandle a x) :=
  ⟨wmbx (wcmd 0x25 (pathBytes (wpath.take 7))), wcmd 0x25 (pathBytes (wpath.take 7)), wses, wpath.take 7, (children (wpath.take 7)).getD [], by decide +kernel⟩

theorem witness_ObjectAccess_9 : ∃ (s : State) (r : RingCmd) (x : Session), let a := advance ⟨0, 0⟩ s
    (Taken 0x23 3 a r x) ∧ ((parse r).payload = []) :=
  ⟨wmbx (wcmd 0x23 []), wcmd 0x23 [], wses, by decide +kernel⟩

theorem witness_Commits_1 : ∃ (s : State) (r : RingCmd) (x : Session) (k : Nat), let a := advance ⟨0, 0⟩ s
    (Taken 0x22 3 a r x) ∧ ((parse r).payload = [k, 0, 0, 0]) ∧ (k ≤ 1) ∧ (x.staging ≠ []) ∧ (a.window { groups := stagedGroups x.staging } = none) ∧ (HasHandle a x) :=
  ⟨(let s := wmbx (wcmd 0x22 [0, 0, 0, 0]) (wrun 2) ; { s with time := { s.time with now := 4000000 }, mbx := { s.mbx with sessions := [{ wses with staging := [wstaged] }] } }), wcmd 0x22 [0, 0, 0, 0], { wses with staging := [wstaged] }, 0, by decide +kernel⟩

theorem witness_Commits_2 : ∃ (s : State) (r : RingCmd) (x : Session) (k : Nat), let a := advance ⟨0, 0⟩ s
    (Taken 0x22 3 a r x) ∧ ((parse r).payload = [k, 0, 0, 0]) ∧ (k ≤ 1) ∧ (x.staging = []) ∧ (a.window {} = none) ∧ (HasHandle a x) :=
  ⟨wmbx (wcmd 0x22 [0, 0, 0, 0]), wcmd 0x22 [0, 0, 0, 0], wses, 0, by decide +kernel⟩

theorem witness_Commits_3 : ∃ (s : State) (levels : Nat), let a := advance ⟨0, 0⟩ s
    (∀ h ∈ a.mbx.hdls, a.commitDue h = none) :=
  ⟨wcommit 0 false [wstaged], 0, by decide +kernel⟩

theorem witness_Commits_5 : ∃ (s : State) (levels : Nat) (h : Hdl) (x : Session) (n : Nat) (c : Bool) (at_ m : Nat) (w : Violation), let a := advance ⟨0, 0⟩ s
    (a.mbx.hdls.findSome? (fun h => (a.commitDue h).map fun n => (h, n)) = some (h, n)) ∧ (a.clk.supv = true) ∧ (h.op = .commit c at_ m) ∧ (h.slot < 2048) ∧ (a.session? h.session = some x) ∧ (x.staging ≠ []) ∧ (a.prg.act = none) ∧ (disagreement a (withWrites a (x.staging.filterMap stagedWr)) (stagedObjs x.staging) = some w) :=
  ⟨wcommit 1 false [{ wstaged with obj := F.objANG_AD, lo := F.ANG_AD_SRC.lo, hi := F.ANG_AD_SRC.hi, value := 1 }], 0, { whdl (.commit false 0 1) with state := 1 }, { wses with staging := [{ wstaged with obj := F.objANG_AD, lo := F.ANG_AD_SRC.lo, hi := F.ANG_AD_SRC.hi, value := 1 }] }, (wcommit 1 false []).cinchNow, false, 0, 1, ((disagreement (wcommit 1 false []) (withWrites (wcommit 1 false []) ([{ wstaged with obj := F.objANG_AD, lo := F.ANG_AD_SRC.lo, hi := F.ANG_AD_SRC.hi, value := 1 }].filterMap stagedWr)) [(F.objANG_AD, 0)]).getD ⟨0, 0, 0, 0⟩), by decide +kernel⟩

theorem witness_Commits_6 : ∃ (s : State) (levels : Nat) (h : Hdl) (x : Session) (n : Nat) (at_ m : Nat), let a := advance ⟨0, 0⟩ s
    (a.mbx.hdls.findSome? (fun h => (a.commitDue h).map fun n => (h, n)) = some (h, n)) ∧ (a.clk.supv = true) ∧ (h.op = .commit true at_ m) ∧ (h.slot < 2048) ∧ (a.session? h.session = some x) ∧ (x.staging ≠ []) ∧ (a.prg.act = none) ∧ (disagreement a (withWrites a (x.staging.filterMap stagedWr)) (stagedObjs x.staging) = none) :=
  ⟨wcommit 1 true [wstaged], 0, { whdl (.commit true 0 1) with state := 1 }, { wses with staging := [wstaged] }, (wcommit 1 true []).cinchNow, 0, 1, by decide +kernel⟩

theorem witness_Commits_7 : ∃ (s : State) (levels : Nat) (h : Hdl) (x : Session) (n : Nat) (at_ m : Nat) (y : StagedField) (w : Wr), let a := advance ⟨0, 0⟩ s
    (a.mbx.hdls.findSome? (fun h => (a.commitDue h).map fun n => (h, n)) = some (h, n)) ∧ (a.clk.supv = true) ∧ (h.op = .commit false at_ m) ∧ (h.slot < 2048) ∧ (a.session? h.session = some x) ∧ (x.staging = [y]) ∧ (stagedWr y = some w) ∧ (kept w.row = true) ∧ (special w.row = false) ∧ ([F.objIMG_SUBS, F.objPLT_PAIR, F.objPLT_CFG, F.objPLT_MIRROR, F.objPPR_CH, F.objPPR_WIN, F.objANG_AD, F.objANG_EV, F.objINT_COS, F.objINT_GRP, F.objINT_WIN, F.objINT_SYS, F.objINT_CFG].contains w.row.fld.obj = false) ∧ (touchedGroups [(w.row.fld.obj, w.i)] = 0) ∧ (a.prg.act = none) ∧ (disagreement a (withWrites a [w]) (stagedObjs [y]) = none) :=
  ⟨wcommit 1 false [wstaged], 0, { whdl (.commit false 0 1) with state := 1 }, { wses with staging := [wstaged] }, (wcommit 1 false []).cinchNow, 0, 1, wstaged, ⟨wrow, 0, 0, 7⟩, by decide +kernel⟩

theorem witness_Commits_8 : ∃ (s : State) (r : RingCmd) (x : Session) (l : List (ObjDef × Nat)), let a := advance ⟨0, 0⟩ s
    (Taken 0x24 3 a r x) ∧ (storePaths 16 (parse r).payload = .ok l) ∧ (l ≠ []) ∧ (a.window { store := true } = none) ∧ (a.storeFault = false) ∧ (HasHandle a x) :=
  ⟨wmbx (wcmd 0x24 (pathBytes (wpath.take 7))) (wrun 1), wcmd 0x24 (pathBytes (wpath.take 7)), wses, [(objSCN_CFG, 0)], by decide +kernel⟩

theorem witness_Commits_9 : ∃ (s : State) (y : StoreOp) (q : List StoreOp) (g : Nat), let a := advance ⟨0, 0⟩ s
    (a.sto.ops = y :: q) ∧ (a.storeOk = true) ∧ (a.setGen = some g) ∧ (g + 1 < 2 ^ 32) ∧ ((y.objs.map (·.1)).Nodup) :=
  ⟨(let s := wlong .objStore (wrun 1) ; { s with sto := { s.sto with ops := [⟨2048, 1, [(5, [1,2,3,4,5,6,7,8])]⟩] } }), ⟨2048, 1, [(5, [1,2,3,4,5,6,7,8])]⟩, [], 0, by decide +kernel⟩

theorem witness_Commits_10 : ∃ (s : State) (y : StoreOp) (q : List StoreOp), let a := advance ⟨0, 0⟩ s
    (a.sto.ops = y :: q) ∧ (a.storeOk = false) :=
  ⟨(let s := wlong .objStore (wrun 1 [(F.CLK_START_HOLD_30, 0, 0)]) ; { s with sto := { s.sto with ops := [⟨2048, 1, [(5, [1,2,3,4,5,6,7,8])]⟩] } }), ⟨2048, 1, [(5, [1,2,3,4,5,6,7,8])]⟩, [], by decide +kernel⟩

theorem witness_StartUp_1 : ∃ (s : State) (header : Bool) (bad : List (Nat × Nat × Nat)) (uncorr : List (Nat × Nat)), let a := advance ⟨0, 0⟩ s
    (a.clk.supv = true) ∧ (a.clk.gatesOpened ≠ none) ∧ (a.rd F.CLK_START_RECALL_DONE = 0) :=
  ⟨(let s := wrun 0 ; { s with clk := { s.clk with gatesOpened := some 5 }, sto := { s.sto with recs := [⟨1, 5, some ⟨1, 0, [1], true⟩, none⟩] } }), true, [(1, 5, 0)], [(3, 64)], by decide +kernel⟩

theorem witness_StartUp_2 : ∃ (s : State) (t0 fails : Nat), let a := advance ⟨0, 0⟩ s
    (t0 < 4) ∧ (a.clk.gatesOpened ≠ none) ∧ (a.clk.supv = true) ∧ (a.clk.startFailed = false) ∧ (a.sec.loaded.testBit t0 = false) ∧ ((if t0 = 0 then a.is F.CLK_START_RECALL_DONE && !a.clk.fwRunning else a.clk.fwRunning) = true) ∧ (a.fwCheck t0 (a.fwSel t0) none = 0) ∧ (fails % (allCopies t0 + 1) = 0) :=
  ⟨(let s := wrun 0 [(F.CLK_START_RECALL_DONE, 0, 1)] ; { s with clk := { s.clk with gatesOpened := some 5, fwRunning := false } }), 0, 0, by decide +kernel⟩

theorem witness_StartUp_3 : ∃ (s : State) (t0 fails c : Nat), let a := advance ⟨0, 0⟩ s
    (t0 < 4) ∧ (a.clk.gatesOpened ≠ none) ∧ (a.clk.supv = true) ∧ (a.clk.startFailed = false) ∧ (a.sec.loaded.testBit t0 = false) ∧ ((if t0 = 0 then a.is F.CLK_START_RECALL_DONE && !a.clk.fwRunning else a.clk.fwRunning) = true) ∧ (a.fwCheck t0 (a.fwSel t0) none = c) ∧ (c ≠ 0) ∧ (a.fwCheck t0 (1 - a.fwSel t0) none = 0) ∧ (fails % (allCopies t0 + 1) = 0) :=
  ⟨(let s := wrun 0 ; { s with clk := { s.clk with gatesOpened := some 5, fwRunning := true }, sto := { s.sto with ringPend := [(84, 2)] } }), 1, 0, 1, by decide +kernel⟩

theorem witness_StartUp_4 : ∃ (s : State) (t0 fails : Nat), let a := advance ⟨0, 0⟩ s
    (t0 < 4) ∧ (a.clk.gatesOpened ≠ none) ∧ (a.clk.supv = true) ∧ (a.clk.startFailed = false) ∧ (a.sec.loaded.testBit t0 = false) ∧ ((if t0 = 0 then a.is F.CLK_START_RECALL_DONE && !a.clk.fwRunning else a.clk.fwRunning) = true) ∧ (a.fwCheck t0 (a.fwSel t0) none ≠ 0) ∧ (a.fwCheck t0 (1 - a.fwSel t0) none ≠ 0) :=
  ⟨(let s := wrun 0 ; { s with clk := { s.clk with gatesOpened := some 5, fwRunning := true }, sto := { s.sto with factory := 0 } }), 2, 0, by decide +kernel⟩

theorem witness_StartUp_5 : ∃ (s : State), let a := advance ⟨0, 0⟩ s
    (a.rd F.CLK_START_RECALL_DONE = 1) ∧ (a.rd F.CLK_START_LANES_LOADED = 0) ∧ (a.clk.lane = true ∨ a.clk.limited = true) ∧ (a.mode = mINIT) ∧ (a.clk.fwRunning = true) ∧ (a.sec.loaded.testBit 1 = true) ∧ (a.sec.laneBad = false) ∧ (a.prg.active = none) :=
  ⟨wbanks, by decide +kernel⟩

theorem witness_StartUp_6 : ∃ (s : State), let a := advance ⟨0, 0⟩ s
    (a.rd F.CLK_START_RECALL_DONE = 1) ∧ (a.rd F.CLK_START_PLAN_DONE = 0) ∧ (a.clk.supv = true) ∧ (a.rd F.CLK_STATUS_RESET_CAUSE ≠ 1) :=
  ⟨(let s := wrun 0 [(F.CLK_START_RECALL_DONE, 0, 1), (F.CLK_START_PLAN_DONE, 0, 0), (F.CLK_STATUS_RESET_CAUSE, 0, 2)] ; { s with sto := { s.sto with recs := [⟨8, 0, some ⟨1, 0, [9, 0, 0, 0, 1, 2, 1], true⟩, none⟩] } }), by decide +kernel⟩

theorem witness_StartUp_7 : ∃ (s : State), let a := advance ⟨0, 0⟩ s
    (a.rd F.CLK_START_RECALL_DONE = 1) ∧ (a.rd F.CLK_START_PLAN_DONE = 0) ∧ (a.clk.supv = true) ∧ (a.rd F.CLK_STATUS_RESET_CAUSE = 1) :=
  ⟨wrun 0 [(F.CLK_START_RECALL_DONE, 0, 1), (F.CLK_START_PLAN_DONE, 0, 0), (F.CLK_STATUS_RESET_CAUSE, 0, 1)], by decide +kernel⟩

theorem witness_StartUp_8 : ∃ (s : State) (g levels : Nat), let a := advance ⟨0, 0⟩ s
    (g < 8) ∧ (a.clk.fwRunning = true) ∧ (a.sec.loaded.testBit 2 = true) ∧ (a.sec.groupBad.testBit g = false) ∧ ((a.dgg g).supply ≠ 0) :=
  ⟨(let s := wrun 1 ; { s with clk := { s.clk with fwRunning := true }, sec := { s.sec with loaded := 15 }, fld := { s.fld with dgg := [(3, { supply := 2 })] } }), 3, 2, by decide +kernel⟩

theorem witness_StartUp_9 : ∃ (s : State) (g levels : Nat), let a := advance ⟨0, 0⟩ s
    (8 ≤ g) ∧ (g < 12) ∧ (a.clk.fwRunning = true) ∧ (a.sec.loaded.testBit 3 = true) ∧ (a.sec.groupBad.testBit g = false) ∧ ((a.agg (g - 8)).supply ≠ 0) :=
  ⟨(let s := wrun 4 ; { s with clk := { s.clk with fwRunning := true }, sec := { s.sec with loaded := 15 }, ana := { s.ana with grp := [(1, { supply := 2 })] } }), 9, 0, by decide +kernel⟩

theorem witness_StartUp_10 : ∃ (s : State) (v : Nat), let a := advance ⟨0, 0⟩ s
    (v < 2 ^ F.PWR_STATUS_HOLD_V.width) :=
  ⟨wrun 1, 4100, by decide +kernel⟩

theorem witness_StartUp_11 : ∃ (s : State) (levels : Nat), let a := advance ⟨0, 0⟩ s
    (a.bootDone = true) :=
  ⟨(let s := wrun 0 [(F.CLK_START_PLAN_DONE, 0, 1)] ; { s with clk := { s.clk with fwRunning := true, stopReady := false } }), 0, by decide +kernel⟩

theorem witness_ProgramLoading_1 : ∃ (s : State) (r : RingCmd) (x : Session) (k size : Nat) (dig : List Nat), let a := advance ⟨0, 0⟩ s
    (Taken 0x50 3 a r x) ∧ ((parse r).payload = [k, 0, 0, 0] ++ leBytes 4 size ++ dig) ∧ (dig.length = 32) ∧ (k ≤ 1) ∧ (1156 ≤ size) ∧ (size ≤ 664704) ∧ (a.window { lanes := true, store := true } = none) ∧ (a.storeFault = false) ∧ (a.prg.active ≠ some k) ∧ (a.prg.load = none) ∧ (∀ b, a.prg.act = some b → b.bank ≠ k) ∧ (HasHandle a x) :=
  ⟨wmbx (wcmd 0x50 ([1, 0, 0, 0] ++ leBytes 4 1156 ++ List.replicate 32 0)) (wrun 1), wcmd 0x50 ([1, 0, 0, 0] ++ leBytes 4 1156 ++ List.replicate 32 0), wses, 1, 1156, List.replicate 32 0, by decide +kernel⟩

theorem witness_ProgramLoading_2 : ∃ (s : State) (r : RingCmd) (x : Session) (l : Load) (o : Nat) (d : List Nat), let a := advance ⟨0, 0⟩ s
    (Taken 0x51 3 a r x) ∧ ((parse r).payload = leBytes 4 o ++ d) ∧ (o < 2 ^ 32) ∧ (d.length ≤ 996) ∧ (a.window { lanes := true, store := true } = none) ∧ (a.storeFault = false) ∧ (a.loadOf (parse r).arg = some l) ∧ (o + d.length ≤ l.size) :=
  ⟨(let s := wload 0 [] 0 ; { s with prg := { s.prg with load := some ⟨2048, 1, 10, 0, 0⟩ }, mbx := { s.mbx with ring := [wcmd 0x51 (leBytes 4 8 ++ [5, 6]) 2048] } }), wcmd 0x51 (leBytes 4 8 ++ [5, 6]) 2048, wses, ⟨2048, 1, 10, 0, 0⟩, 8, [5, 6], by decide +kernel⟩

theorem witness_ProgramLoading_3 : ∃ (s : State) (r : RingCmd) (x : Session) (l : Load) (o : Nat) (d : List Nat), let a := advance ⟨0, 0⟩ s
    (Taken 0x51 3 a r x) ∧ ((parse r).payload = leBytes 4 o ++ d) ∧ (o < 2 ^ 32) ∧ (d.length ≤ 996) ∧ (a.window { lanes := true, store := true } = none) ∧ (a.storeFault = false) ∧ (a.loadOf (parse r).arg = some l) ∧ (l.size < o + d.length) :=
  ⟨(let s := wload 0 [] 0 ; { s with prg := { s.prg with load := some ⟨2048, 1, 10, 0, 0⟩ }, mbx := { s.mbx with ring := [wcmd 0x51 (leBytes 4 9 ++ [5, 6]) 2048] } }), wcmd 0x51 (leBytes 4 9 ++ [5, 6]) 2048, wses, ⟨2048, 1, 10, 0, 0⟩, 9, [5, 6], by decide +kernel⟩

theorem witness_ProgramLoading_4 : ∃ (s : State) (r : RingCmd) (x : Session) (l : Load), let a := advance ⟨0, 0⟩ s
    (Taken 0x52 3 a r x) ∧ (a.window { lanes := true } = none) ∧ (a.loadOf (parse r).arg = some l) :=
  ⟨(let s := wload 0 [] 0 ; { s with mbx := { s.mbx with ring := [wcmd 0x52 [] 2048] } }), wcmd 0x52 [] 2048, wses, ⟨2048, 1, 0, 0, 0⟩, by decide +kernel⟩

theorem witness_ProgramLoading_5 : ∃ (s : State) (l : Load) (st res : Nat), let a := advance ⟨0, 0⟩ s
    (a.prg.load = some l) ∧ (l.bank ≤ 1) ∧ (l.stage = 1) ∧ (a.clk.supv = true) ∧ ((checkImage a l).1 = some (st, res)) :=
  ⟨wload 1 [1, 2, 3, 4] 0, ⟨2048, 1, 4, 0, 1⟩, Code.DIGEST_MISMATCH, 0, by decide +kernel⟩

theorem witness_ProgramLoading_6 : ∃ (s : State) (l : Load), let a := advance ⟨0, 0⟩ s
    (a.prg.load = some l) ∧ (l.stage = 1) ∧ (a.clk.supv = true) ∧ ((checkImage a l).1 = none) :=
  ⟨wload 1 wimage (beNat (Crypto.sha256 wimage)), ⟨2048, 1, 1156, beNat (Crypto.sha256 wimage), 1⟩, by decide +kernel⟩

theorem witness_ProgramLoading_7 : ∃ (s : State) (bad : Nat) (l : Load), let a := advance ⟨0, 0⟩ s
    (a.prg.load = some l) ∧ (l.bank ≤ 1) ∧ (l.stage = 2) ∧ (a.lanesIdle = true) ∧ (a.clk.lane = true) ∧ (a.clk.supv = true) ∧ (bad % 8 = 0) ∧ (a.storeOk = true) :=
  ⟨wload 2 [1, 2, 3, 4] 0, 0, ⟨2048, 1, 4, 0, 2⟩, by decide +kernel⟩

theorem witness_ProgramLoading_8 : ∃ (s : State) (bad : Nat) (l : Load), let a := advance ⟨0, 0⟩ s
    (a.prg.load = some l) ∧ (l.bank ≤ 1) ∧ (l.stage = 2) ∧ (a.lanesIdle = true) ∧ (a.clk.lane = true) ∧ (a.clk.supv = true) ∧ (bad % 8 ≠ 0 ∨ a.storeOk = false) :=
  ⟨wload 2 [1, 2, 3, 4] 0, 5, ⟨2048, 1, 4, 0, 2⟩, by decide +kernel⟩

theorem witness_ProgramLoading_9 : ∃ (s : State) (r : RingCmd) (x : Session) (l : Load), let a := advance ⟨0, 0⟩ s
    (Taken 0x54 3 a r x) ∧ (a.window { lanes := true } = none) ∧ (a.prg.load = some l) ∧ (l.handle = (parse r).arg) ∧ (l.bank ≤ 1) :=
  ⟨(let s := wload 0 [] 0 ; { s with mbx := { s.mbx with ring := [wcmd 0x54 [] 2048] } }), wcmd 0x54 [] 2048, wses, ⟨2048, 1, 0, 0, 0⟩, by decide +kernel⟩

theorem witness_ProgramActivation_1 : ∃ (s : State) (r : RingCmd) (x : Session) (k w st : Nat), let a := advance ⟨0, 0⟩ s
    (Taken 0x53 3 a r x) ∧ ((parse r).payload = [k, w, 0, 0]) ∧ (k ≤ 1) ∧ (a.window { plan := true, lanes := true } = none) ∧ (activateBad a ⟨k, 0, if w = 0 then 10 else w, 0, a.time.now, a.rd F.PRG_CFG_SWAP_MARGIN, 0, 0, 0, 0, a.cinchNow, false⟩ = some st) :=
  ⟨wmbx (wcmd 0x53 [1, 0, 0, 0]) (wrun 1), wcmd 0x53 [1, 0, 0, 0], wses, 1, 0, Code.BANK_EMPTY, by decide +kernel⟩

theorem witness_ProgramActivation_2 : ∃ (s : State) (r : RingCmd) (x : Session) (k w : Nat), let a := advance ⟨0, 0⟩ s
    (Taken 0x53 3 a r x) ∧ ((parse r).payload = [k, w, 0, 0]) ∧ (k ≤ 1) ∧ (w < 256) ∧ (a.window { plan := true, lanes := true } = none) ∧ (activateBad a ⟨k, 0, if w = 0 then 10 else w, 0, a.time.now, a.rd F.PRG_CFG_SWAP_MARGIN, 0, 0, 0, 0, a.cinchNow, false⟩ = none) ∧ (HasHandle a x) :=
  ⟨(let s := wact 0 (wrun 1 [(F.CLK_START_PLAN_DONE, 0, 1)]) ; { s with prg := { s.prg with act := none }, mbx := { s.mbx with ring := [wcmd 0x53 [1, 0, 0, 0]], hdls := [] } }), wcmd 0x53 [1, 0, 0, 0], wses, 1, 0, by decide +kernel⟩

theorem witness_ProgramActivation_3 : ∃ (s : State) (b : Act), let a := advance ⟨0, 0⟩ s
    (a.prg.act = some b) ∧ (a.mode = mRUN) ∧ (a.paired = false) ∧ (b.phase = 0) ∧ (b.acceptedAt + 100000 ≤ a.swapL b - a.swapLead b) ∧ (a.swapL b - a.swapLead b ≤ a.time.now) ∧ (a.time.now < a.swapL b) :=
  ⟨(let s := wact 0 ; { s with time := { s.time with now := 4999000 } }), ⟨1, 2048, 2, 0, 0, 0, 0, 0, 4900000, 0, 0, false⟩, by decide +kernel⟩

theorem witness_ProgramActivation_4 : ∃ (s : State) (b : Act) (new : Bank), let a := advance ⟨0, 0⟩ s
    (a.prg.act = some b) ∧ (a.bank? b.bank = some new) ∧ (a.clk.lane = true) ∧ (a.noExec = true) ∧ (b.bank ≤ 1) ∧ ((a.mode = mSTOP ∨ a.mode = mFAULT) ∧ b.phase = 0 ∨ a.mode = mRUN ∧ a.time.now ≤ a.swapDeadline b ∧ (if b.standby = true then b.phase = 6 else b.phase = 1)) ∧ (a.prg.active ≠ some b.bank) ∧ (∀ k, a.prg.active = some k → k ≤ 1) ∧ (a.prg.deferred = []) :=
  ⟨(let s := wact 1 ; { s with prg := { s.prg with act := some ⟨1, 2048, 2, 0, 0, 0, 1, 0, 4900000, 0, 0, false⟩ }, time := { s.time with now := 4000000 } }), ⟨1, 2048, 2, 0, 0, 0, 1, 0, 4900000, 0, 0, false⟩, { codeLen := 4, build := 9, tasks := [⟨0, 1000, 0, 0, 1⟩] }, by decide +kernel⟩

theorem witness_ProgramActivation_6 : ∃ (s : State) (b : Act), let a := advance ⟨0, 0⟩ s
    (a.prg.act = some b) ∧ (a.mode = mRUN) ∧ (b.standby = false) ∧ (a.paired = false) ∧ (b.phase = 1) ∧ (a.swapDeadline b < a.time.now) ∧ (a.prg.deferred = []) ∧ (b.tries < b.wait) :=
  ⟨(let s := wact 1 ; { s with prg := { s.prg with act := some ⟨1, 2048, 2, 0, 0, 0, 1, 0, 4900000, 0, 0, false⟩ } }), ⟨1, 2048, 2, 0, 0, 0, 1, 0, 4900000, 0, 0, false⟩, by decide +kernel⟩

theorem witness_ProgramActivation_7 : ∃ (s : State) (b : Act), let a := advance ⟨0, 0⟩ s
    (a.prg.act = some b) ∧ (a.mode = mRUN) ∧ (b.standby = false) ∧ (a.paired = false) ∧ (b.phase = 1) ∧ (a.swapDeadline b < a.time.now) ∧ (a.prg.deferred = []) ∧ (b.wait ≤ b.tries) :=
  ⟨(let s := wact 1 ; { s with prg := { s.prg with act := some ⟨1, 2048, 2, 2, 0, 0, 1, 0, 4900000, 0, 0, false⟩ } }), ⟨1, 2048, 2, 2, 0, 0, 1, 0, 4900000, 0, 0, false⟩, by decide +kernel⟩

theorem witness_ProgramActivation_8 : ∃ (s : State) (b : Act), let a := advance ⟨0, 0⟩ s
    (a.prg.act = some b) ∧ (b.phase = 2) ∧ (b.standby = false) ∧ (a.storeOk = true) ∧ (a.paired = false) :=
  ⟨(let s := wact 2 ; { s with prg := { s.prg with act := some ⟨1, 2048, 2, 0, 0, 0, 2, 0, 0, 0, 0, false⟩ } }), ⟨1, 2048, 2, 0, 0, 0, 2, 0, 0, 0, 0, false⟩, by decide +kernel⟩

theorem witness_ProgramActivation_9 : ∃ (s : State) (b : Act) (new : Bank), let a := advance ⟨0, 0⟩ s
    (a.prg.act = some b) ∧ (a.bank? b.bank = some new) ∧ (b.bank ≤ 1) ∧ (b.phase = 7) ∧ (a.mode = mRUN) ∧ (a.noExec = true) ∧ (a.clk.lane = true) ∧ (a.boundaryAhead - a.swapLead b ≤ a.time.now) ∧ (a.time.now ≤ a.boundaryAhead - a.swapTime b) ∧ (a.prg.active ≠ some b.bank) ∧ (∀ k, a.prg.active = some k → k ≤ 1) ∧ (a.prg.deferred = []) :=
  ⟨(let s := wact 7 (wrun 2 [(F.PLT_PAIR_EN, 0, 1), (F.PLT_PSTATE_ROLE, 0, 2)]) ; { s with prg := { s.prg with act := some ⟨1, 2048, 2, 0, 0, 0, 7, 0, 0, 0, 0, true⟩ }, time := { s.time with now := 4990000 } }), ⟨1, 2048, 2, 0, 0, 0, 7, 0, 0, 0, 0, true⟩, { codeLen := 4, build := 9, tasks := [⟨0, 1000, 0, 0, 1⟩] }, by decide +kernel⟩

theorem witness_ImageCommands_1 : ∃ (s : State) (r : RingCmd) (x : Session) (off : Nat) (d : List Nat), let a := advance ⟨0, 0⟩ s
    (Taken 0x30 2 a r x) ∧ ((parse r).payload = [1, 0] ++ leBytes 2 off ++ [d.length, 0, 0, 0] ++ d) ∧ (1 ≤ d.length) ∧ (d.length ≤ 32) ∧ (off + d.length ≤ 2048) ∧ (a.window {} = none) ∧ (a.stagedUse 1 + 4 + (d.length + 3) / 4 * 4 ≤ 8192) :=
  ⟨wmbx (wcmd 0x30 [1, 0, 5, 0, 2, 0, 0, 0, 8, 9]), wcmd 0x30 [1, 0, 5, 0, 2, 0, 0, 0, 8, 9], wses, 5, [8, 9], by decide +kernel⟩

theorem witness_ImageCommands_2 : ∃ (s : State) (r : RingCmd) (x : Session) (off : Nat) (d : List Nat), let a := advance ⟨0, 0⟩ s
    (Taken 0x30 2 a r x) ∧ ((parse r).payload = [1, 0] ++ leBytes 2 off ++ [d.length, 0, 0, 0] ++ d) ∧ (off < 65536) ∧ (1 ≤ d.length) ∧ (d.length ≤ 32) ∧ (2048 < off + d.length ∨ a.window {} = none ∧ 8192 < a.stagedUse 1 + 4 + (d.length + 3) / 4 * 4) :=
  ⟨wmbx (wcmd 0x30 [1, 0, 255, 7, 2, 0, 0, 0, 8, 9]), wcmd 0x30 [1, 0, 255, 7, 2, 0, 0, 0, 8, 9], wses, 2047, [8, 9], by decide +kernel⟩

theorem witness_ImageCommands_3 : ∃ (s : State) (r : RingCmd) (x : Session) (n : Nat) (y : Snap), let a := advance ⟨0, 0⟩ s
    (Taken 0x31 1 a r x) ∧ ((parse r).payload = leBytes 4 n) ∧ (n < 2 ^ 32) ∧ (a.window {} = none) ∧ (a.lostPin x.no = none) ∧ (a.namedSnap n = .ok y) ∧ ((x.no, y.cinch) ∉ a.img.pins) ∧ ((a.img.pins.filter fun p => decide (p.1 = x.no)).length < 4) ∧ (a.pinned.length < 4 ∨ y.cinch ∈ a.pinned) :=
  ⟨wsnaps (wcmd 0x31 (leBytes 4 0)), wcmd 0x31 (leBytes 4 0), wses, 0, wsnap 8, by decide +kernel⟩

theorem witness_ImageCommands_4 : ∃ (s : State) (r : RingCmd) (x : Session) (n e : Nat), let a := advance ⟨0, 0⟩ s
    (Taken 0x31 1 a r x) ∧ ((parse r).payload = leBytes 4 n) ∧ (n < 2 ^ 32) ∧ (a.window {} = none) ∧ (a.lostPin x.no = none) ∧ (a.namedSnap n = .error e ∨ (∃ y, a.namedSnap n = .ok y ∧ (x.no, y.cinch) ∉ a.img.pins ∧ e = Code.PIN_LIMIT ∧ (4 ≤ (a.img.pins.filter fun p => decide (p.1 = x.no)).length ∨ 4 ≤ a.pinned.length ∧ y.cinch ∉ a.pinned))) :=
  ⟨wsnaps (wcmd 0x31 (leBytes 4 9)), wcmd 0x31 (leBytes 4 9), wses, 9, Code.NO_SNAPSHOT, ⟨by decide +kernel, by decide +kernel, by decide +kernel, by decide +kernel, by decide +kernel, Or.inl (by decide +kernel)⟩⟩

theorem witness_ImageCommands_5 : ∃ (s : State) (r : RingCmd) (x : Session) (n k : Nat), let a := advance ⟨0, 0⟩ s
    (Taken 0x31 1 a r x) ∧ ((parse r).payload = leBytes 4 n) ∧ (a.window {} = none) ∧ (a.lostPin x.no = some k) :=
  ⟨(let s := wsnaps (wcmd 0x31 (leBytes 4 9)) ; { s with img := { s.img with lost := [(1, 5)] } }), wcmd 0x31 (leBytes 4 9), wses, 9, 5, by decide +kernel⟩

theorem witness_ImageCommands_6 : ∃ (s : State) (r : RingCmd) (x : Session) (n : Nat), let a := advance ⟨0, 0⟩ s
    (Taken 0x33 1 a r x) ∧ ((parse r).payload = leBytes 4 n) ∧ (n < 2 ^ 32) ∧ (a.window {} = none) :=
  ⟨(let s := wsnaps (wcmd 0x33 (leBytes 4 8)) ; { s with img := { s.img with pins := [(1, 8), (2, 8)] } }), wcmd 0x33 (leBytes 4 8), wses, 8, by decide +kernel⟩

theorem witness_ImageCommands_7 : ∃ (s : State) (r : RingCmd) (x : Session) (n off len : Nat) (y : Snap), let a := advance ⟨0, 0⟩ s
    (Taken 0x32 1 a r x) ∧ ((parse r).payload = leBytes 4 n ++ leBytes 2 off ++ leBytes 2 len) ∧ (n < 2 ^ 32) ∧ (len ≤ 1536) ∧ (off + len ≤ 16384) ∧ (a.window {} = none) ∧ (a.lostPin x.no = none) ∧ (a.namedSnap n = .ok y) ∧ (HasHandle a x) :=
  ⟨wsnaps (wcmd 0x32 (leBytes 4 7 ++ [0, 0, 64, 0])), wcmd 0x32 (leBytes 4 7 ++ [0, 0, 64, 0]), wses, 7, 0, 64, wsnap 7, by decide +kernel⟩

theorem witness_ImageCommands_8 : ∃ (s : State) (r : RingCmd) (x : Session) (n off len e : Nat), let a := advance ⟨0, 0⟩ s
    (Taken 0x32 1 a r x) ∧ ((parse r).payload = leBytes 4 n ++ leBytes 2 off ++ leBytes 2 len) ∧ (n < 2 ^ 32) ∧ (len ≤ 1536) ∧ (off + len ≤ 16384) ∧ (a.window {} = none) ∧ (a.lostPin x.no = none) ∧ (a.namedSnap n = .error e) ∧ (HasHandle a x) :=
  ⟨wsnaps (wcmd 0x32 (leBytes 4 9 ++ [0, 0, 64, 0])), wcmd 0x32 (leBytes 4 9 ++ [0, 0, 64, 0]), wses, 9, 0, 64, Code.NO_SNAPSHOT, by decide +kernel⟩

theorem witness_ImageCommands_9 : ∃ (s : State) (k : Nat) (bad : List Nat) (h : Hdl) (n off len b : Nat) (y : Snap), let a := advance ⟨0, 0⟩ s
    (a.hdl? k = some h) ∧ (k < 2048) ∧ (h.op = .snapRead n off len b) ∧ (a.clk.supv = true) ∧ (a.snap? n = some y) ∧ (∀ j ∈ bad, off + len ≤ 64 + 256 * j ∨ 64 + 256 * (j + 1) ≤ off) :=
  ⟨(let s := wlong (.snapRead 7 0 4 0) (wsnaps (wcmd 0xF0 [])) ; s), 0, [5], whdl (.snapRead 7 0 4 0), 7, 0, 4, 0, wsnap 7, by decide +kernel⟩

theorem witness_ImageCommands_10 : ∃ (s : State) (k : Nat) (bad : List Nat) (h : Hdl) (n off len b : Nat) (y : Snap), let a := advance ⟨0, 0⟩ s
    (a.hdl? k = some h) ∧ (k < 2048) ∧ (h.op = .snapRead n off len b) ∧ (a.clk.supv = true) ∧ (a.snap? n = some y) ∧ (∃ j ∈ bad, off < 64 + 256 * (j + 1) ∧ 64 + 256 * j < off + len) :=
  ⟨(let s := wlong (.snapRead 7 0 100 0) (wsnaps (wcmd 0xF0 [])) ; s), 0, [0], whdl (.snapRead 7 0 100 0), 7, 0, 100, 0, wsnap 7, by decide +kernel⟩

theorem witness_ImageCommands_11 : ∃ (s : State) (k : Nat) (bad : List Nat) (h : Hdl) (n off len b : Nat), let a := advance ⟨0, 0⟩ s
    (a.hdl? k = some h) ∧ (k < 2048) ∧ (h.op = .snapRead n off len b) ∧ (a.clk.supv = true) ∧ (a.snap? n = none) :=
  ⟨(let s := wlong (.snapRead 6 0 100 0) (wsnaps (wcmd 0xF0 [])) ; s), 0, [], whdl (.snapRead 6 0 100 0), 6, 0, 100, 0, by decide +kernel⟩

theorem witness_ImageCommands_12 : ∃ (s : State) (r : RingCmd) (x : Session) (d n off : Nat), let a := advance ⟨0, 0⟩ s
    (Taken 0x38 1 a r x) ∧ ((parse r).payload = [d, 0] ++ leBytes 2 n ++ leBytes 4 off) ∧ (d ≤ 3) ∧ (n ≤ 1536) ∧ (off < 2 ^ 32) ∧ (off % 16 = 0) ∧ (n % 16 = 0) ∧ (a.window {} = none) ∧ (after32 (off + n) (a.rd F.ANG_CAPPOS_CAPPOS d) = false) ∧ (a.capGone d off = false) ∧ (HasHandle a x) :=
  ⟨wmbx (wcmd 0x38 ([2, 0, 16, 0] ++ leBytes 4 0)) (wlink [(F.ANG_CAPPOS_CAPPOS, 2, 32)]), wcmd 0x38 ([2, 0, 16, 0] ++ leBytes 4 0), wses, 2, 16, 0, by decide +kernel⟩

theorem witness_ImageCommands_13 : ∃ (s : State) (r : RingCmd) (x : Session) (d n off : Nat), let a := advance ⟨0, 0⟩ s
    (Taken 0x38 1 a r x) ∧ ((parse r).payload = [d, 0] ++ leBytes 2 n ++ leBytes 4 off) ∧ (d ≤ 3) ∧ (n ≤ 1536) ∧ (off < 2 ^ 32) ∧ (off % 16 = 0) ∧ (n % 16 = 0) ∧ (a.window {} = none) ∧ (after32 (off + n) (a.rd F.ANG_CAPPOS_CAPPOS d) = true) ∧ (HasHandle a x) :=
  ⟨wmbx (wcmd 0x38 ([2, 0, 16, 0] ++ leBytes 4 32)) (wlink [(F.ANG_CAPPOS_CAPPOS, 2, 32)]), wcmd 0x38 ([2, 0, 16, 0] ++ leBytes 4 32), wses, 2, 16, 32, by decide +kernel⟩

theorem witness_ImageCommands_14 : ∃ (s : State) (k : Nat) (h : Hdl) (d off n : Nat) (data : List Nat), let a := advance ⟨0, 0⟩ s
    (a.hdl? k = some h) ∧ (k < 2048) ∧ (h.op = .capRead d off n data) ∧ (a.clk.supv = true) :=
  ⟨wlong (.capRead 2 0 2 [1, 2]) (wlink [(F.ANG_CAPPOS_CAPPOS, 2, 32)]), 0, whdl (.capRead 2 0 2 [1, 2]), 2, 0, 2, [1, 2], by decide +kernel⟩

theorem witness_FaultMasked_1 : ∃ (s : State) (wc late off : Nat) (x : Exec) (rest : List Exec) (p q j : Nat), let a := advance ⟨0, 0⟩ s
    (a.scn.presented = x :: rest) ∧ (a.rd F.PLT_LANE_VOTING = 7) ∧ (p < 3 ∧ q < 3 ∧ j < 3 ∧ p ≠ q ∧ p ≠ j ∧ q ≠ j) ∧ (wc.testBit p = false ∧ wc.testBit q = false ∧ late.testBit p = false ∧ late.testBit q = false) ∧ ((x.lanes.get p).run = .ended ∧ (x.lanes.get q).run = .ended) ∧ ((x.lanes.get p).q = (x.lanes.get q).q ∧ (x.lanes.get p).qmask = (x.lanes.get q).qmask) ∧ ((x.lanes.get p).reqs = (x.lanes.get q).reqs ∧ (x.lanes.get p).sig = (x.lanes.get q).sig) ∧ (x.discard = false) ∧ (a.mode ≠ mFAULT) ∧ (¬(x.src = 4 ∧ a.mode = mSTOP)) ∧ (x.task ≠ 0 ∨ a.plt.open_ = true) :=
  ⟨wpres ⟨wctx 5, wctx 9, wctx 5⟩, 0, 0, 0, wexec ⟨wctx 5, wctx 9, wctx 5⟩, [], 0, 2, 1, by decide +kernel⟩

theorem witness_FaultMasked_2 : ∃ (s : State) (wc late unc off : Nat) (x : Exec) (rest : List Exec), let a := advance ⟨0, 0⟩ s
    (a.scn.presented = x :: rest) ∧ (a.mode = mRUN ∨ a.mode = mHOLD) ∧ (unc = 0 ∧ ((List.range 3).filter fun k => a.votes k && !(wc.testBit k || late.testBit k || decide ((x.lanes.get k).run ≠ .ended))).length < 2 ∨ unc = 1 ∨ unc = 2) :=
  ⟨wpres ⟨wctx 5, wctx 9 .running, wctx 5⟩, 0, 4, 0, 0, wexec ⟨wctx 5, wctx 9 .running, wctx 5⟩, [], by decide +kernel⟩

theorem witness_LanesReturn_1 : ∃ (s : State) (mask : Nat), let a := advance ⟨0, 0⟩ s
    (¬((a.mode = mRUN ∨ a.mode = mHOLD) ∧ leftVoting a mask < 2)) :=
  ⟨wpres ⟨wctx 5, wctx 9, wctx 5⟩ 2 [(F.PLT_CFG_AUTO_ADMIT, 0, 1)], 2, by decide +kernel⟩

theorem witness_LanesReturn_2 : ∃ (s : State) (mask : Nat), let a := advance ⟨0, 0⟩ s
    (a.mode = mRUN ∨ a.mode = mHOLD) ∧ (leftVoting a mask < 2) :=
  ⟨wpres ⟨wctx 5, wctx 9, wctx 5⟩, 3, by decide +kernel⟩

theorem witness_LanesReturn_3 : ∃ (s : State) (mask : Nat), let a := advance ⟨0, 0⟩ s
    (∀ k, k < 3 → mask.testBit k = true → a.laneSt k = lRETIRED ∨ a.laneSt k = lFAILED) :=
  ⟨wst [(F.PLT_LANE_VOTING, 0, 3), (F.PLT_LANE_STATE_C, 0, 5)], 4, by decide +kernel⟩

theorem witness_LanesReturn_4 : ∃ (s : State) (k n : Nat), let a := advance ⟨0, 0⟩ s
    (k < 3) ∧ (a.plt.retry.get k = some n) ∧ (1000 ≤ n) ∧ (a.laneSt k = lRETIRED) ∧ (a.rd F.PLT_CFG_AUTO_ADMIT = 1) :=
  ⟨(let s := wst [(F.PLT_LANE_VOTING, 0, 5), (F.PLT_LANE_STATE_B, 0, 1), (F.PLT_CFG_AUTO_ADMIT, 0, 1)] ; { s with plt := { s.plt with retry := ⟨none, some 1000, none⟩ } }), 1, 1000, by decide +kernel⟩

theorem witness_LanesReturn_5 : ∃ (s : State) (k : Nat), let a := advance ⟨0, 0⟩ s
    (k < 3) ∧ (a.laneSt k = lTESTING) ∧ (a.clk.lane = true) ∧ (a.ucodeLoading k = false) ∧ (a.ucodeRetests k = false) :=
  ⟨wrun 2 [(F.PLT_LANE_VOTING, 0, 5), (F.PLT_LANE_STATE_B, 0, 2)], 1, by decide +kernel⟩

theorem witness_LanesReturn_6 : ∃ (s : State) (k : Nat), let a := advance ⟨0, 0⟩ s
    (k < 3) ∧ (a.laneSt k = lTESTING) ∧ (a.clk.lane = true) ∧ (a.ucodeLoading k = false) ∧ (a.mode = mRUN ∨ a.mode = mHOLD ∨ a.mode = mSTOP ∧ a.plt.suspect.testBit k = false) :=
  ⟨wrun 2 [(F.PLT_LANE_VOTING, 0, 5), (F.PLT_LANE_STATE_B, 0, 2)], 1, by decide +kernel⟩

theorem witness_LanesReturn_7 : ∃ (s : State) (k : Nat), let a := advance ⟨0, 0⟩ s
    (k < 3) ∧ (a.laneSt k = lTESTING) ∧ (a.clk.lane = true) ∧ (a.ucodeLoading k = false) ∧ (a.mode = mFAULT ∨ a.mode = mSTOP ∧ a.plt.suspect.testBit k = true) :=
  ⟨wrun 4 [(F.PLT_LANE_VOTING, 0, 5), (F.PLT_LANE_STATE_B, 0, 2)], 1, by decide +kernel⟩

theorem witness_LanesReturn_8 : ∃ (s : State) (k j : Nat), let a := advance ⟨0, 0⟩ s
    (k < 3) ∧ (a.copySource = some j) ∧ (j ≠ k) ∧ (a.laneSt k = lCOPYING) ∧ (a.lanesIdle = true) ∧ (a.clk.lane = true) :=
  ⟨(let s := wrun 2 [(F.PLT_LANE_VOTING, 0, 5), (F.PLT_LANE_STATE_B, 0, 3)] ; { s with scn := { s.scn with lanes := s.scn.lanes.set 0 ⟨[(3, 7#8)], [], [], [1]⟩ } }), 1, 0, by decide +kernel⟩

theorem witness_LanesReturn_9 : ∃ (s : State) (k j : Nat), let a := advance ⟨0, 0⟩ s
    (k < 3) ∧ (a.copySource = some j) ∧ (j ≠ k) ∧ (a.joinOk k = true) ∧ (a.img.latchKind ≠ 2) ∧ (a.ring.lastLocal = a.ring.lastLatch) ∧ (a.time.now ≤ a.ring.lastLatch + 4000) ∧ (a.clk.lane = true) :=
  ⟨(let s := wrun 2 [(F.PLT_LANE_VOTING, 0, 5), (F.PLT_LANE_STATE_B, 0, 3)] ; { s with plt := { s.plt with passes := ⟨0, 1, 0⟩ }, time := { s.time with now := 4001000 } }), 1, 0, by decide +kernel⟩

theorem witness_FieldCommands_1 : ∃ (s : State) (g bad : Nat) (x : CopySet), let a := advance ⟨0, 0⟩ s
    (g < 8) ∧ (a.fld.copies.find? (fun p => decide (p.1 = g)) = some (g, x)) ∧ (goodCopies x bad = [0, 1, 2]) ∧ (a.dgLoaded g = true) :=
  ⟨(let s := wrun 2 [(F.CLK_START_DG_LOADED, 0, 2)] ; { s with fld := { s.fld with copies := [(1, ⟨⟨[(2, 1#8)], [(2, 2#8)], [(2, 1#8)]⟩, 0, []⟩)] } }), 1, 0, ⟨⟨[(2, 1#8)], [(2, 2#8)], [(2, 1#8)]⟩, 0, []⟩, by decide +kernel⟩

theorem witness_FieldCommands_2 : ∃ (s : State) (g bad : Nat) (x : CopySet), let a := advance ⟨0, 0⟩ s
    (8 ≤ g) ∧ (a.fld.copies.find? (fun p => decide (p.1 = g)) = some (g, x)) ∧ (goodCopies x bad = [0, 1, 2]) ∧ (a.agLoaded (g - 8) = true) :=
  ⟨(let s := wrun 2 [(F.CLK_START_AG_LOADED, 0, 1)] ; { s with fld := { s.fld with copies := [(8, ⟨⟨[(16, 9#8)], [(16, 7#8)], [(16, 1#8)]⟩, 0, []⟩)] } }), 8, 0, ⟨⟨[(16, 9#8)], [(16, 7#8)], [(16, 1#8)]⟩, 0, []⟩, by decide +kernel⟩

theorem witness_FieldCommands_3 : ∃ (s : State) (g k : Nat), let a := advance ⟨0, 0⟩ s
    (g < 8) ∧ (a.nextCmd g = some k) ∧ (k = 1 ∨ k = 2) ∧ (a.dgLoaded g = true) ∧ ((a.dgg g).rein ≠ 1) :=
  ⟨(let s := wrun 1 [(F.CLK_START_DG_LOADED, 0, 2), (F.DG_CH_MODE, 16, 3)] ; { s with fld := { s.fld with cmds := [(1, 1)], dg := [(16, { drv := true })] } }), 1, 1, by decide +kernel⟩

theorem witness_FieldCommands_4 : ∃ (s : State) (g k : Nat), let a := advance ⟨0, 0⟩ s
    (8 ≤ g) ∧ (a.nextCmd g = some k) ∧ (k = 1 ∨ k = 2) ∧ (a.agLoaded (g - 8) = true) :=
  ⟨(let s := wrun 4 [(F.CLK_START_AG_LOADED, 0, 1)] ; { s with fld := { s.fld with cmds := [(8, 2)] } }), 8, 2, by decide +kernel⟩

theorem witness_FieldCommands_5 : ∃ (s : State) (g : Nat), let a := advance ⟨0, 0⟩ s
    (a.nextCmd g = some 3) :=
  ⟨(let s := wrun 3 ; { s with fld := { s.fld with cmds := [(3, 3)] } }), 3, by decide +kernel⟩

theorem witness_AngleDomains_1 : ∃ (s : State) (sig : Nat) (level : Bool), let a := advance ⟨0, 0⟩ s
    (sig < 16) ∧ (a.time.link = true) ∧ (a.sigOn sig = true) ∧ (a.sigLevel sig ≠ level) :=
  ⟨wang wpulse [(0, wdom 4000000)], 0, true, by decide +kernel⟩

theorem witness_AngleDomains_2 : ∃ (s : State) (sig : Nat) (level : Bool) (d T l : Nat), let a := advance ⟨0, 0⟩ s
    (sig < 16) ∧ (d < 4) ∧ (a.time.link = true) ∧ (a.sigOn sig = true) ∧ (a.sigLevel sig ≠ level) ∧ (a.dsrc d = 4 ∧ a.rd F.ANG_AD_SIG_A d = sig ∧ level = !a.is F.ANG_AD_EDGE d ∧ a.dst d = dSYNCED) ∧ (T = a.time.now - glitchNs (a.rd F.ANG_AI_FILT (sig / 2))) ∧ ((a.adom d).last = some l) ∧ ((a.adom d).refAt = some l) ∧ ((a.adom d).pos = 0) ∧ (T - l < 2 ^ 32) ∧ (∀ dev, edgeCause a d (T - l) true false dev = none) :=
  ⟨wang wpulse [(0, wdom 4000000)], 0, true, 0, 5000000, 4000000, ⟨by decide +kernel, by decide +kernel, by decide +kernel, by decide +kernel, by decide +kernel, by decide +kernel, by decide +kernel, by decide +kernel, by decide +kernel, by decide +kernel, by decide +kernel, fun dev => by cases dev <;> decide +kernel⟩⟩

theorem witness_AngleDomains_3 : ∃ (s : State) (sig : Nat) (level : Bool) (d T l c : Nat), let a := advance ⟨0, 0⟩ s
    (sig < 16) ∧ (d < 4) ∧ (a.time.link = true) ∧ (a.sigOn sig = true) ∧ (a.sigLevel sig ≠ level) ∧ (a.dsrc d = 4 ∧ a.rd F.ANG_AD_SIG_A d = sig ∧ level = !a.is F.ANG_AD_EDGE d ∧ a.dst d = dSYNCED) ∧ (T = a.time.now - glitchNs (a.rd F.ANG_AI_FILT (sig / 2))) ∧ ((a.adom d).last = some l) ∧ (∀ dev, edgeCause a d (T - l) true false dev = some c) :=
  ⟨wang wpulse [(0, wdom 4999999)], 0, true, 0, 5000000, 4999999, 4, ⟨by decide +kernel, by decide +kernel, by decide +kernel, by decide +kernel, by decide +kernel, by decide +kernel, by decide +kernel, by decide +kernel, fun dev => by cases dev <;> decide +kernel⟩⟩

theorem witness_AngleDomains_4 : ∃ (s : State) (d l : Nat), let a := advance ⟨0, 0⟩ s
    (d < 4) ∧ ((a.adom d).last = some l) ∧ (a.dsrc d ≠ 5) ∧ (a.dst d = dSYNCING ∨ a.dst d = dSYNCED) ∧ (l + a.arc d (a.adom d).pos (a.spanAt d (a.adom d).pos) * 1000000000 / (65536 * max 1 (a.rd F.ANG_AD_SPD_MIN d)) ≤ a.time.now) :=
  ⟨(let s := wang (wpulse ++ [(F.ANG_AD_SPD_MIN, 0, 2 ^ 31)]) [(0, wdom 4000000)] ; { s with time := { s.time with now := 10 ^ 12 } }), 0, 4000000, by decide +kernel⟩

theorem witness_AngleDomains_5 : ∃ (s : State) (n : Nat), let a := advance ⟨0, 0⟩ s
    (n < 8) ∧ (a.rd F.ANG_AI_MODE n = 1) ∧ (a.rd F.ANG_AI_FAULT n = 0) :=
  ⟨wang (wpulse ++ [(F.ANG_AI_MODE, 0, 1)]) [(0, wdom 4000000)], 0, by decide +kernel⟩

theorem witness_AngleDomains_6 : ∃ (s : State) (n : Nat), let a := advance ⟨0, 0⟩ s
    (n < 8) :=
  ⟨wang [(F.ANG_AI_FAULT, 2, 1)], 2, by decide +kernel⟩

theorem witness_AngleDomains_7 : ∃ (s : State) (d : Nat), let a := advance ⟨0, 0⟩ s
    (d < 4) ∧ (a.dst d = dLOST) :=
  ⟨wang [(F.ANG_STATUS_STATE, 1, 4)] [(1, { held := 77 })], 1, by decide +kernel⟩

theorem witness_AngleDomains_8 : ∃ (s : State) (d n : Nat), let a := advance ⟨0, 0⟩ s
    (d < 4) ∧ (n < 2 ^ F.ANG_AD_SYNSPD.width) :=
  ⟨wang [(F.ANG_AD_SRC, 2, 5), (F.ANG_STATUS_STATE, 2, 3), (F.ANG_AD_SYNSPD, 2, 1000)] [(2, { syn := 4000000, synAt := 5000500, synOld := 7 })], 2, 65536, by decide +kernel⟩

theorem witness_AngleEvents_1 : ∃ (s : State) (e : Nat) (v : Bool), let a := advance ⟨0, 0⟩ s
    (1024 ≤ e ∨ a.rd F.ANG_EV_OWNER e = 0) :=
  ⟨wang [], 5, true, by decide +kernel⟩

theorem witness_AngleEvents_2 : ∃ (s : State) (e d : Nat), let a := advance ⟨0, 0⟩ s
    (e < 1024) ∧ (a.rd F.ANG_EV_OWNER e = 1) ∧ (a.rd F.ANG_EV_DOMAIN e = d) ∧ (a.rd F.ANG_EV_ACTION e = 0 ∨ a.dst d = dOFF ∨ a.rd F.ANG_EV_MODE e = 0 ∧ a.dst d ≠ dSYNCED) :=
  ⟨wang [(F.ANG_EV_OWNER, 5, 1)], 5, 0, by decide +kernel⟩

theorem witness_AngleEvents_3 : ∃ (s : State) (e d : Nat), let a := advance ⟨0, 0⟩ s
    (e < 1024) ∧ (a.rd F.ANG_EV_OWNER e = 1) ∧ (a.rd F.ANG_EV_DOMAIN e = d) ∧ (a.rd F.ANG_EV_ACTION e ≠ 0) ∧ (a.rd F.ANG_EV_ACTION e ≤ 3 → a.mode ≠ mSTOP ∧ a.mode ≠ mFAULT) ∧ (a.dst d = dSYNCED) ∧ (a.rd F.ANG_EV_MODE e = 0) ∧ (0 < ahead (a.rd F.ANG_EV_ANGLE e) (a.angle d)) :=
  ⟨wang (wpulse ++ [(F.ANG_EV_OWNER, 5, 1), (F.ANG_EV_ACTION, 5, 7), (F.ANG_EV_ANGLE, 5, 40000)]) [(0, wdom 4000000)], 5, 0, by decide +kernel⟩

theorem witness_AngleEvents_4 : ∃ (s : State) (e d : Nat), let a := advance ⟨0, 0⟩ s
    (e < 1024) ∧ (a.rd F.ANG_EV_OWNER e = 1) ∧ (a.rd F.ANG_EV_DOMAIN e = d) ∧ (a.rd F.ANG_EV_ACTION e ≠ 0) ∧ (a.rd F.ANG_EV_ACTION e ≤ 3 → a.mode ≠ mSTOP ∧ a.mode ≠ mFAULT) ∧ (a.dst d ≠ dSYNCED) ∧ (a.dst d ≠ dOFF) ∧ (a.rd F.ANG_EV_MODE e = 1) :=
  ⟨wang (wpulse ++ [(F.ANG_EV_OWNER, 5, 1), (F.ANG_EV_ACTION, 5, 7), (F.ANG_EV_MODE, 5, 1), (F.ANG_STATUS_STATE, 0, 1)]), 5, 0, by decide +kernel⟩

theorem witness_AngleEvents_5 : ∃ (s : State) (e : Nat), let a := advance ⟨0, 0⟩ s
    (e < 1024) ∧ (a.rd F.ANG_EV_OWNER e = 1) :=
  ⟨wang [(F.ANG_EV_OWNER, 5, 1), (F.ANG_EV_STATE, 5, 1)] [] [] [⟨5, 0, 9000000⟩], 5, by decide +kernel⟩

theorem witness_AngleEvents_6 : ∃ (s : State) (e v : Nat), let a := advance ⟨0, 0⟩ s
    (e < 1024) ∧ (a.rd F.ANG_EV_OWNER e = 1) ∧ (a.rd F.ANG_EV_STATE e = 0) ∧ (v < 2 ^ 32) :=
  ⟨wang [(F.ANG_EV_OWNER, 5, 1)], 5, 40000, by decide +kernel⟩

theorem witness_AngleEvents_7 : ∃ (s : State) (e i : Nat), let a := advance ⟨0, 0⟩ s
    (live a e = true) ∧ (inUnit a e = false) ∧ (a.instantOf (a.rd F.ANG_EV_DOMAIN e) (a.aev e).next = some i) ∧ (a.time.now + 3000 ≤ i) ∧ (i ≤ a.time.now + 250000) ∧ (∀ c ∈ a.ang.cmds, c.entry ≠ e) ∧ ((a.ang.cmds.filter fun c => decide (dieOf a c.entry = dieOf a e)).length < 32) :=
  ⟨wang [(F.ANG_AD_SRC, 0, 5), (F.ANG_AD_SYNSPD, 0, 1000000), (F.ANG_STATUS_STATE, 0, 3), (F.ANG_EV_STATE, 5, 1), (F.ANG_EV_ACTION, 5, 2)] [(0, { synAt := 5000000 })] [(5, { next := 100 })], 5, 5100000, by decide +kernel⟩

theorem witness_AngleEvents_8 : ∃ (s : State) (e i : Nat), let a := advance ⟨0, 0⟩ s
    (live a e = true) ∧ (inUnit a e = false) ∧ (a.instantOf (a.rd F.ANG_EV_DOMAIN e) (a.aev e).next = some i) ∧ (a.time.now + 250000 < i) :=
  ⟨wang [(F.ANG_AD_SRC, 0, 5), (F.ANG_AD_SYNSPD, 0, 1000000), (F.ANG_STATUS_STATE, 0, 3), (F.ANG_EV_STATE, 5, 1), (F.ANG_EV_ACTION, 5, 2)] [(0, { synAt := 5000000 })] [(5, { next := 1000 })], 5, 6000000, by decide +kernel⟩

theorem witness_AngleEvents_9 : ∃ (s : State) (e ch : Nat) (x : TimedCmd), let a := advance ⟨0, 0⟩ s
    (e < 1024) ∧ (a.ang.cmds.find? (fun c => decide (c.entry = e)) = some x) ∧ (x.at_ ≤ a.time.now) ∧ (inUnit a e = false) ∧ (a.rd F.ANG_EV_TARGET e % 16 / 2 * 16 + a.rd F.ANG_EV_TARGET e % 16 % 2 = ch) ∧ ((act (dropCmds a e) e x.angle x.at_ false).2 = true) :=
  ⟨(let s := wang [(F.ANG_EV_STATE, 5, 1), (F.ANG_EV_ACTION, 5, 2), (F.ANG_EV_TARGET, 5, 1)] [] [] [⟨5, 100, 4999000⟩] ; { s with fld := { s.fld with dg := [(1, { drv := true, cmd := true })] } }), 5, 1, ⟨5, 100, 4999000⟩, by decide +kernel⟩

theorem witness_AngleEvents_10 : ∃ (s : State) (e : Nat) (x : TimedCmd), let a := advance ⟨0, 0⟩ s
    (e < 1024) ∧ (a.ang.cmds.find? (fun c => decide (c.entry = e)) = some x) ∧ (x.at_ ≤ a.time.now) ∧ (inUnit a e = false) ∧ (1 ≤ a.rd F.ANG_EV_ACTION e ∧ a.rd F.ANG_EV_ACTION e ≤ 3) ∧ ((a.dgg (a.rd F.ANG_EV_TARGET e % 16 / 2)).released = true) :=
  ⟨(let s := wang [(F.ANG_EV_STATE, 5, 1), (F.ANG_EV_ACTION, 5, 2), (F.ANG_EV_TARGET, 5, 1)] [] [] [⟨5, 100, 4999000⟩] ; { s with fld := { s.fld with dgg := [(0, { released := true })] } }), 5, ⟨5, 100, 4999000⟩, by decide +kernel⟩

theorem witness_AngleEvents_11 : ∃ (s : State) (e i : Nat), let a := advance ⟨0, 0⟩ s
    (live a e = true) ∧ (inUnit a e = true) ∧ (∀ c ∈ a.ang.cmds, c.entry ≠ e) ∧ (a.instantOf (a.rd F.ANG_EV_DOMAIN e) (a.aev e).next = some i) ∧ (i ≤ a.time.now) :=
  ⟨wang [(F.ANG_AD_SRC, 0, 5), (F.ANG_AD_SYNSPD, 0, 1000000), (F.ANG_STATUS_STATE, 0, 3), (F.ANG_EV_STATE, 5, 1), (F.ANG_EV_ACTION, 5, 7)] [(0, { synAt := 5000000 })] [(5, { next := 0 })], 5, 5000000, by decide +kernel⟩

theorem witness_AngleEvents_12 : ∃ (s : State) (e : Nat) (x : PulseEnd), let a := advance ⟨0, 0⟩ s
    (a.ang.pulses.find? (fun p => decide (p.entry = e)) = some x) ∧ (x.at_ ≤ a.time.now) :=
  ⟨(let s := wang [] [] [] [] [⟨5, 1, 5000000⟩] ; { s with fld := { s.fld with dg := [(1, { drv := true, cmd := true })] } }), 5, ⟨5, 1, 5000000⟩, by decide +kernel⟩

theorem witness_AngleEvents_13 : ∃ (s : State) (g : Nat), let a := advance ⟨0, 0⟩ s
    (g < 8) ∧ (a.time.link = false) ∧ ((a.dgg g).stream = true) ∧ ((a.dgg g).rein = 0) ∧ (a.dieRuns g = true) :=
  ⟨(let s := wang [(F.DG_CH_MODE, 17, 4), (F.CLK_START_DG_LOADED, 0, 2)] ; { s with time := { s.time with link := false }, clk := { s.clk with dieCode := 2 }, fld := { s.fld with dg := [(17, { drv := true, cmd := true })], dgg := [(1, { supply := 2, stream := true })] } }), 1, by decide +kernel⟩

end Sys2Proof.Tests
end

section
/-!
The frame `Moves` as a calculus: it composes, it widens, and a write of a field moves that field alone. What recording an
event and the interrupt controller keep of the ring and of the recorder's buffer.
-/

namespace Sys2Proof.Machine

/-! ### Frames by fields -/

/-- Every field of `ws` is among the objects `us` or the fields `vs`. -/
def fieldsWithin (us : List Nat) (vs ws : List Fld) : Bool := ws.all fun w => us.contains w.obj || vs.contains w

/-- Field `f` lies outside the objects `os` and apart from the fields `ws`. -/
def fieldOutside (os : List Nat) (ws : List Fld) (f : Fld) : Bool :=
  !os.contains f.obj && ws.all fun w => decide (w.obj ≠ f.obj) || decide (w.lo % 65536 ≠ f.lo % 65536)

section
variable {ps qs : List Part} {os us : List Nat} {ws vs : List Fld} {a b c s t : State}

theorem Moves.refl (s : State) : Moves ps os ws s s := ⟨Leaves.refl .., fun _ _ _ _ _ => rfl⟩

theorem Moves.trans (h : Moves ps os ws a b) (h' : Moves ps os ws b c) : Moves ps os ws a c :=
  ⟨h.1.trans h'.1, fun f i hf ho hw => (h'.2 f i hf ho hw).trans (h.2 f i hf ho hw)⟩

theorem Moves.mono (h : Moves ps os ws a b) (hp : ps ⊆ qs) (ho : os ⊆ us) (hw : ∀ w ∈ ws, w.obj ∈ us ∨ w ∈ vs) :
    Moves qs us vs a b := by
  refine ⟨h.1.mono hp fun o hm => ?_, fun f i _ hn hsep => ?_⟩
  · rcases List.mem_append.mp hm with hm | hm
    · exact List.mem_append_left _ (ho hm)
    · obtain ⟨w, hwm, rfl⟩ := List.mem_map.mp hm
      rcases hw w hwm with h1 | h1
      · exact List.mem_append_left _ h1
      · exact List.mem_append_right _ (List.mem_map_of_mem h1)
  · by_cases hf : f.obj ∈ ws.map (·.obj)
    · refine h.2 f i hf (fun x => hn (ho x)) fun w hwm e => hsep w ?_ e
      exact (hw w hwm).resolve_left fun x => hn (e ▸ x)
    · refine h.1.2 f i 0 fun x => ?_
      rcases List.mem_append.mp x with x | x
      · exact hn (ho x)
      · exact hf x

/-- One more step whose frame lies within. -/
theorem Moves.step (h : Moves ps os ws b c) (h0 : Moves qs us vs a b) (hp : ps.all (qs.contains ·) = true)
    (ho : os.all (us.contains ·) = true) (hw : fieldsWithin us vs ws = true) : Moves qs us vs a c := by
  refine h0.trans (h.mono (fun x hx => by simpa using List.all_eq_true.mp hp x hx)
    (fun x hx => by simpa using List.all_eq_true.mp ho x hx) fun w hx => ?_)
  simpa using List.all_eq_true.mp hw w hx

/-- One step alone. -/
theorem Moves.one (h : Moves ps os ws a c) (hp : ps.all (qs.contains ·) = true) (ho : os.all (us.contains ·) = true)
    (hw : fieldsWithin us vs ws = true) : Moves qs us vs a c := h.step (Moves.refl a) hp ho hw

theorem Moves.ite {d : Prop} [Decidable d] (h : Moves ps os ws s a) (h' : Moves ps os ws s b) :
    Moves ps os ws s (if d then a else b) := by
  split
  · exact h
  · exact h'

theorem Leaves.moves (h : Leaves ps os s t) : Moves ps os [] s t :=
  ⟨h.mono (fun _ x => x) (by simp), fun _ _ hf => absurd hf (by simp)⟩

/-- A step within the frame that is given by its objects. -/
theorem Moves.after (h : Leaves ps os b c) (h0 : Moves qs us vs a b) (hp : ps.all (qs.contains ·) = true)
    (ho : os.all (us.contains ·) = true) : Moves qs us vs a c := h.moves.step h0 hp ho rfl

/-- A field apart from those of the frame reads as before. -/
theorem Moves.rd (h : Moves ps os ws s t) (f : Fld) (i : Nat) (hf : fieldOutside os ws f = true) : t.rd f i = s.rd f i := by
  simp only [fieldOutside, Bool.and_eq_true, Bool.not_eq_true', List.all_eq_true, Bool.or_eq_true, decide_eq_true_eq,
    List.contains_eq_mem, decide_eq_false_iff_not] at hf
  obtain ⟨hos, hws⟩ := hf
  by_cases hm : f.obj ∈ ws.map (·.obj)
  · exact h.2 f i hm hos fun w hw e => (hws w hw).resolve_left fun x => x e
  · exact h.1.2 f i 0 fun x => (List.mem_append.mp x).elim hos hm

end

/-- Fields of one index apart in object or bit have different keys. -/
theorem Fld.key_apart {f g : Fld} {i j : Nat} (h : g.obj = f.obj → g.lo % 65536 ≠ f.lo % 65536) :
    g.key j 0 ≠ f.key i 0 := by
  simp only [Fld.key]
  omega

/-- A write moves the field written alone. -/
theorem State.wr_moves (s : State) (f : Fld) (v i : Nat) : Moves [] [] [f] s (s.wr f v i) :=
  ⟨(s.wr_leaves f v i).mono (fun _ x => x) (by simp), fun g j _ _ hw =>
    State.rd_wr_ne s f g v i j (Fld.key_apart fun e => (hw f (by simp) e.symm).symm)⟩

theorem State.inc_moves (s : State) (f : Fld) (i n : Nat) : Moves [] [] [f] s (s.inc f i n) := s.wr_moves f _ i

/-- A counter field after it rose: it stops at the top of its width. -/
theorem State.rd_inc_same (s : State) (f : Fld) (i n : Nat) :
    (s.inc f i n).rd f i = min (2 ^ f.width - 1) (s.rd f i + n) := by
  have := Nat.two_pow_pos f.width
  rw [State.inc, State.rd_wr_same, Nat.mod_eq_of_lt (by omega)]

/-! ### What recording and interrupts keep of the ring -/

/-- The ring interface without what waits for a carrier, the ATTN sent last and the NRL.TIME that waits for its cinch. -/
def RingSt.core (r : RingSt) : RingSt := { r with subq := [], attnLast := none, pendTime := none }

theorem attnCheck_core (s : State) : (attnCheck s).ring.core = s.ring.core := by
  unfold attnCheck
  extract_lets l u
  split
  · rfl
  · extract_lets v new
    split <;> rfl

@[simp] theorem hostSync_core (n : Nat) (s : State) : (hostSync n s).ring.core = s.ring.core := by
  unfold hostSync
  split
  · rfl
  · extract_lets +onlyGivenNames c
    split
    · rfl
    · extract_lets +onlyGivenNames _ u
      rw [attnCheck_core, (srcEdge_leaves u n c).1 .ring (by decide)]

@[simp] theorem setLatch_core (b : Nat) (s : State) : (setLatch b s).ring.core = s.ring.core := by
  rw [setLatch, hostSync_core, State.putLatch_ring]

@[simp] theorem log_core (e : Nat × Nat) (arg : List Nat) (s : State) : (log e arg s).ring.core = s.ring.core := by
  have hrec : (hostSync 37 (hostSync 5 (createRec s e arg))).ring.core = s.ring.core := by
    rw [hostSync_core, hostSync_core, (createRec_leaves s e arg).1 .ring (by decide)]
  unfold log
  split
  · rfl
  · split
    · rfl
    · extract_lets u
      split
      · rw [setLatch_core, hrec]
      · split
        · rw [setLatch_core, hrec]
        · exact hrec

/-! ### What stays in the recorder's buffer -/

/-- No record leaves the buffer. -/
def BufGrows (s t : State) : Prop := s.sto.buf <+: t.sto.buf

theorem BufGrows.of_sto {s t : State} (h : t.sto = s.sto) : BufGrows s t := by rw [BufGrows, h]

theorem BufGrows.trans {a b c : State} (h : BufGrows a b) (h' : BufGrows b c) : BufGrows a c := List.IsPrefix.trans h h'

theorem BufGrows.ite {c : Prop} [Decidable c] {s a b : State} (ha : BufGrows s a) (hb : BufGrows s b) :
    BufGrows s (if c then a else b) := by
  split
  · exact ha
  · exact hb

theorem reserveCheck_grows (s : State) : BufGrows s (reserveCheck s) := by
  unfold reserveCheck
  refine .ite ?_ (.of_sto rfl)
  extract_lets r
  clear_value r
  exact .ite (List.prefix_refl _) (.of_sto rfl)

theorem pushRec_grows (s : State) (r : Rec) : BufGrows s (pushRec s r) := List.prefix_append s.sto.buf [r]

theorem mem_pushRec (s : State) (r : Rec) : r ∈ (pushRec s r).sto.buf :=
  List.mem_append_right s.sto.buf (List.mem_singleton_self r)

theorem createRec_grows (s : State) (e : Nat × Nat) (arg : List Nat) : BufGrows s (createRec s e arg) := by
  unfold createRec
  split
  · extract_lets n
    exact ((pushRec_grows ..).trans (.of_sto (State.wr_sto ..))).trans (reserveCheck_grows _)
  · exact pushRec_grows ..

/-- A record created stands in the buffer. -/
theorem mem_createRec (s : State) (e : Nat × Nat) (arg : List Nat) :
    ∃ q, s.mkRec e arg q ∈ (createRec s e arg).sto.buf := by
  unfold createRec
  split
  · extract_lets n
    exact ⟨_, (BufGrows.trans (.of_sto (State.wr_sto ..)) (reserveCheck_grows _)).subset (mem_pushRec s _)⟩
  · exact ⟨none, mem_pushRec ..⟩

theorem stormCount_grows (s : State) (n : Nat) : BufGrows s (stormCount s n) := by
  unfold stormCount
  extract_lets +onlyGivenNames c _ u m
  have hu : u.sto = s.sto := rfl
  split
  · exact BufGrows.trans (.of_sto (by simp [hu])) (createRec_grows ..)
  · exact .of_sto hu

theorem srcEdge_grows (s : State) (n : Nat) (rise : Bool) : BufGrows s (srcEdge s n rise) := by
  unfold srcEdge
  split
  · exact .of_sto (by simp)
  · split
    · split
      · exact BufGrows.trans (.of_sto (by simp)) (stormCount_grows ..)
      · exact .of_sto (by simp)
    · split <;> exact .of_sto (by simp)

theorem hostSync_grows (n : Nat) (s : State) : BufGrows s (hostSync n s) := by
  unfold hostSync
  split
  · exact BufGrows.of_sto rfl
  · extract_lets +onlyGivenNames c
    split
    · exact BufGrows.of_sto rfl
    · extract_lets +onlyGivenNames _ u
      have hu : BufGrows s u := BufGrows.of_sto rfl
      exact (hu.trans (srcEdge_grows u n c)).trans (.of_sto ((attnCheck_leaves _).1 .sto (by decide)))

theorem setLatch_grows (b : Nat) (s : State) : BufGrows s (setLatch b s) :=
  BufGrows.trans (.of_sto (State.putLatch_sto ..)) (hostSync_grows ..)

/-- An event reported while the recorder has room stands recorded. -/
theorem logged_log (e : Nat × Nat) (arg : List Nat) (s : State) : Logged e arg s (log e arg s) := by
  intro hs hroom
  obtain ⟨q, hq⟩ := mem_createRec s e arg
  have hmem : s.mkRec e arg q ∈ (hostSync 37 (hostSync 5 (createRec s e arg))).sto.buf :=
    ((hostSync_grows ..).trans (hostSync_grows ..)).subset hq
  refine ⟨s.mkRec e arg q, ?_, rfl, rfl, rfl⟩
  unfold log
  rw [if_neg (by simp [hs]), if_neg (by omega)]
  extract_lets u
  split
  · exact (setLatch_grows ..).subset hmem
  · split
    · exact (setLatch_grows ..).subset hmem
    · exact hmem

/-- What is recorded stays recorded, and a step before it that keeps the store does not matter. -/
theorem Logged.within {e : Nat × Nat} {arg : List Nat} {a s t u : State} (h : Logged e arg s t) (hs : s.sto = a.sto)
    (ht : BufGrows t u) : Logged e arg a u := by
  intro hseal hroom
  obtain ⟨r, hr, hcode, hsev, harg⟩ := h (by rw [hs]; exact hseal) (by rw [State.bufCnt, hs]; exact hroom)
  exact ⟨r, ht.subset hr, hcode, hsev, harg⟩

end Sys2Proof.Machine
end

section
/-!
The ports of the ring (NRL-3): what a change of a port's state shows in the registers, what it reports and what it leaves.
-/

namespace Sys2Proof.Machine

/-- The fields that a change of a port's state moves. -/
def portFlds : List Fld :=
  [F.NRL_CTRL_PA_ST, F.NRL_PORTA_LINK_LOCK_LOSS_A, F.NRL_PORTB_LINK_LOCK_LOSS_B, F.NRL_STATE_MOD_ST, F.NRL_STATE_PB_ST,
    F.NRL_STATE_WRAP_A, F.NRL_STATE_WRAP_B]

/-- A port's state and wrap bit (R35), before the counter and the module's state follow. -/
def portWritten (s : State) (p : Port) (v : Nat) : State :=
  (s.wr (portFld p) v).wr (wrapFld p) (b2n (decide (3 ≤ v)))

/-- A port's registers after its change to state `v`, before the change is reported. -/
def portShown (s : State) (p : Port) (v : Nat) : State :=
  let s := portWritten s p v
  let s := if v = pFAULTED then s.inc (lockLoss p) else s
  if v = pUP ∧ s.rd F.NRL_STATE_MOD_ST = 1 then s.wr F.NRL_STATE_MOD_ST 2 else s

/-- A change of state: the registers, the record, and for a change into or out of FAULTED and into READY HEAL and the
latch RING (R52). -/
theorem setPort_of_ne {s : State} {p : Port} {v : Nat} (h : s.port p ≠ v) :
    setPort s p v =
      if s.port p = pFAULTED ∨ v = pFAULTED ∨ v = pREADY then
        setLatch 24 (heal (log Ev.PORT_STATE [portNo p, v] (portShown s p v)) p)
      else log Ev.PORT_STATE [portNo p, v] (portShown s p v) := by
  unfold setPort
  exact if_neg h

section
variable (s : State) (p : Port) (v : Nat)

/-! ### The registers -/

theorem portWritten_moves : Moves [] [] [portFld p, wrapFld p] s (portWritten s p v) :=
  (State.wr_moves ..).step ((State.wr_moves ..).one rfl rfl (by cases p <;> rfl)) rfl rfl (by cases p <;> rfl)

theorem portShown_after : Moves [] [] [lockLoss p, F.NRL_STATE_MOD_ST] (portWritten s p v) (portShown s p v) := by
  unfold portShown
  extract_lets x y
  have hy : Moves [] [] [lockLoss p, F.NRL_STATE_MOD_ST] x y :=
    .ite ((State.inc_moves ..).one rfl rfl (by cases p <;> rfl)) (.refl x)
  exact .ite ((State.wr_moves ..).step hy rfl rfl (by cases p <;> rfl)) hy

theorem portShown_moves : Moves [] [] portFlds s (portShown s p v) :=
  (portShown_after s p v).step ((portWritten_moves s p v).one rfl rfl (by cases p <;> rfl)) rfl rfl (by cases p <;> rfl)

theorem portShown_sto : (portShown s p v).sto = s.sto := (portShown_moves s p v).1.1 .sto (by decide)

theorem portShown_port (hv : v < 16) : (portShown s p v).port p = v := by
  rw [State.port, (portShown_after s p v).rd _ _ (by cases p <;> rfl), portWritten,
    State.rd_wr_ne _ _ _ _ _ _ (by cases p <;> decide), State.rd_wr_same, show (portFld p).width = 4 by cases p <;> rfl]
  exact Nat.mod_eq_of_lt hv

theorem portShown_wrap : (portShown s p v).rd (wrapFld p) = b2n (decide (3 ≤ v)) := by
  rw [(portShown_after s p v).rd _ _ (by cases p <;> rfl), portWritten, State.rd_wr_same,
    show (wrapFld p).width = 1 by cases p <;> rfl]
  cases decide (3 ≤ v) <;> rfl

theorem portShown_other : (portShown s p v).port (otherPort p) = s.port (otherPort p) := by
  rw [State.port, (portShown_after s p v).rd _ _ (by cases p <;> rfl), (portWritten_moves s p v).rd _ _ (by cases p <;> rfl),
    State.port]

theorem portShown_lockLoss :
    (portShown s p pFAULTED).rd (lockLoss p) = min (2 ^ (lockLoss p).width - 1) (s.rd (lockLoss p) + 1) := by
  have hshown : portShown s p pFAULTED = (portWritten s p pFAULTED).inc (lockLoss p) := rfl
  rw [hshown, State.rd_inc_same, (portWritten_moves s p _).rd _ _ (by cases p <;> rfl)]

theorem portShown_modSt :
    (portShown s p pUP).rd F.NRL_STATE_MOD_ST = if s.rd F.NRL_STATE_MOD_ST = 1 then 2 else s.rd F.NRL_STATE_MOD_ST := by
  have hw : (portWritten s p pUP).rd F.NRL_STATE_MOD_ST = s.rd F.NRL_STATE_MOD_ST :=
    (portWritten_moves s p pUP).rd _ _ (by cases p <;> rfl)
  have hshown : portShown s p pUP = if (portWritten s p pUP).rd F.NRL_STATE_MOD_ST = 1
      then (portWritten s p pUP).wr F.NRL_STATE_MOD_ST 2 else portWritten s p pUP := by
    unfold portShown
    simp only [if_neg (show pUP ≠ pFAULTED by decide), true_and]
  rw [hshown, hw]
  split
  · exact State.rd_wr_same ..
  · exact hw

/-! ### The report -/

variable {s p v} (h : s.port p ≠ v)
include h

theorem setPort_trace : Trace (portShown s p v) (setPort s p v) := by
  rw [setPort_of_ne h]
  have hlog := trace_log Ev.PORT_STATE [portNo p, v] (portShown s p v)
  have hheal : Trace (portShown s p v) (heal (log Ev.PORT_STATE [portNo p, v] (portShown s p v)) p) :=
    (heal_leaves _ p).step hlog rfl rfl
  split
  · exact hheal.trans (trace_setLatch ..)
  · exact hlog

theorem setPort_logged : Logged Ev.PORT_STATE [portNo p, v] s (setPort s p v) := by
  rw [setPort_of_ne h]
  have hlog := logged_log Ev.PORT_STATE [portNo p, v] (portShown s p v)
  split
  · refine hlog.within (portShown_sto s p v) (BufGrows.trans (.of_sto ?_) (setLatch_grows ..))
    exact (heal_leaves _ p).1 .sto (by decide)
  · exact hlog.within (portShown_sto s p v) (List.prefix_refl _)

theorem setPort_rd (f : Fld) (i : Nat) (hf : fieldOutside traceObjs [] f = true) :
    (setPort s p v).rd f i = (portShown s p v).rd f i := (setPort_trace h).moves.rd f i hf

theorem setPort_moves : Moves traceParts traceObjs portFlds s (setPort s p v) :=
  .after (setPort_trace h) ((portShown_moves s p v).one rfl rfl rfl) rfl rfl

theorem setPort_port (hv : v < 16) : (setPort s p v).port p = v := by
  rw [State.port, setPort_rd h _ _ (by cases p <;> rfl)]
  exact portShown_port s p v hv

theorem setPort_wrap : (setPort s p v).rd (wrapFld p) = b2n (decide (3 ≤ v)) := by
  rw [setPort_rd h _ _ (by cases p <;> rfl), portShown_wrap]

theorem setPort_other : (setPort s p v).port (otherPort p) = s.port (otherPort p) := by
  rw [State.port, setPort_rd h _ _ (by cases p <;> rfl)]
  exact portShown_other s p v

end

/-! ### The commands of a port -/

/-- A clock is received on port `p`. -/
def clockSeen (p : Port) (s : State) : State :=
  { s with clk := match p with
      | .A => { s.clk with clkA := true }
      | .B => { s.clk with clkB := true } }

theorem clockSeen_moves (p : Port) (s : State) : Moves [.clk] [] [] s (clockSeen p s) := (Leaves.set_clk s _).moves

theorem clockSeen_on (p : Port) (s : State) : (clockSeen p s).clockOn p = true := by cases p <;> rfl

theorem clockSeen_other (p : Port) (s : State) :
    (clockSeen p s).clockOn (otherPort p) = s.clockOn (otherPort p) := by cases p <;> rfl

/-- The effects of a clock: the reference before the PLL runs, then the port. -/
theorem portClockDetect_eq (p : Port) (s : State) :
    portClockDetect p s =
      let u := if s.time.link then clockSeen p s else setRef (clockSeen p s) (b2n (!(clockSeen p s).clk.clkA))
      if u.time.link && decide (u.port p = pDOWN) && !u.heldPort p then setPort u p pTRAINING else u := by
  cases p <;> rfl

theorem portClockDetect_running {p : Port} {s : State} (hl : s.time.link = true) (hd : s.port p = pDOWN)
    (hh : s.heldPort p = false) : portClockDetect p s = setPort (clockSeen p s) p pTRAINING := by
  have hl' : (clockSeen p s).time.link = true := hl
  have hd' : (clockSeen p s).port p = pDOWN := hd
  have hh' : (clockSeen p s).heldPort p = false := hh
  simp only [portClockDetect_eq, hl, hl', hd', hh', if_true, decide_true, Bool.and_true, Bool.not_false]

theorem portClockDetect_before {p : Port} {s : State} (hl : s.time.link = false) :
    portClockDetect p s = setRef (clockSeen p s) (b2n (!(clockSeen p s).clk.clkA)) := by
  have hl' : (setRef (clockSeen p s) (b2n (!(clockSeen p s).clk.clkA))).time.link = false := hl
  simp only [portClockDetect_eq, hl, hl', Bool.false_and, Bool.false_eq_true, if_false]

end Sys2Proof.Machine
end

section
/-!
The commands of a port (NRL-3), each at the state that time has brought about.
-/

namespace Sys2Proof.Machine

/-- The fields of the ports' registers and of the clock reference. -/
def clockFlds : List Fld :=
  [F.CLK_STATUS_REFPORT, F.NRL_CTRL_PA_ST, F.NRL_PORTA_LINK_LOCK_LOSS_A, F.NRL_PORTB_LINK_LOCK_LOSS_B,
    F.NRL_STATE_CLKSRC, F.NRL_STATE_MOD_ST, F.NRL_STATE_PB_ST, F.NRL_STATE_WRAP_A, F.NRL_STATE_WRAP_B]

/-- The fields that a code error moves with the change of state it causes. -/
def faultFlds : List Fld :=
  [F.NRL_CTRL_PA_ST, F.NRL_PORTA_ERR_CODE_ERR_A, F.NRL_PORTA_LINK_LOCK_LOSS_A, F.NRL_PORTB_ERR_CODE_ERR_B,
    F.NRL_PORTB_LINK_LOCK_LOSS_B, F.NRL_STATE_MOD_ST, F.NRL_STATE_PB_ST, F.NRL_STATE_WRAP_A, F.NRL_STATE_WRAP_B]

section
variable {a : State} {p : Port}

theorem clockDetect_trains (hl : a.time.link = true) (hd : a.port p = pDOWN) (hh : a.heldPort p = false) :
    let t := portClockDetect p a
    t.port p = pTRAINING ∧ t.clockOn p = true ∧ t.clockOn (otherPort p) = a.clockOn (otherPort p) ∧
      Logged Ev.PORT_STATE [portNo p, pTRAINING] a t ∧ Moves (traceParts ++ [.clk]) traceObjs clockFlds a t := by
  have hne : (clockSeen p a).port p ≠ pTRAINING := by
    have : (clockSeen p a).port p = pDOWN := hd
    rw [this]
    decide
  have hclk : (setPort (clockSeen p a) p pTRAINING).clk = (clockSeen p a).clk := (setPort_moves hne).1.1 .clk (by decide)
  have hon : ∀ q, (setPort (clockSeen p a) p pTRAINING).clockOn q = (clockSeen p a).clockOn q := by
    intro q
    cases q <;> simp only [State.clockOn, hclk]
  rw [portClockDetect_running hl hd hh]
  refine ⟨setPort_port hne (by decide), ?_, ?_, (setPort_logged hne).within rfl (List.prefix_refl _), ?_⟩
  · rw [hon, clockSeen_on]
  · rw [hon, clockSeen_other]
  · exact (setPort_moves hne).step ((clockSeen_moves p a).one rfl rfl rfl) rfl rfl rfl

theorem setRef_moves (s : State) (v : Nat) : Moves [] [] [F.NRL_STATE_CLKSRC, F.CLK_STATUS_REFPORT] s (setRef s v) :=
  (State.wr_moves ..).step ((State.wr_moves ..).one rfl rfl rfl) rfl rfl rfl

theorem clockDetect_refers (hl : a.time.link = false) :
    let t := portClockDetect p a
    t.clockOn p = true ∧ t.port p = a.port p ∧ t.rd F.CLK_STATUS_REFPORT = b2n (!t.clk.clkA) ∧
      t.rd F.NRL_STATE_CLKSRC = b2n (!t.clk.clkA) ∧ Moves (traceParts ++ [.clk]) traceObjs clockFlds a t := by
  have hbit : ∀ c, b2n c % 2 ^ 1 = b2n c := by decide
  rw [portClockDetect_before hl]
  refine ⟨clockSeen_on p a, ?_, ?_, ?_, ?_⟩
  · exact (setRef_moves ..).rd _ _ (by cases p <;> rfl)
  · exact (State.rd_wr_same ..).trans (hbit _)
  · rw [setRef, State.rd_wr_ne _ _ _ _ _ _ (by decide)]
    exact (State.rd_wr_same ..).trans (hbit _)
  · exact (setRef_moves ..).step ((clockSeen_moves p a).one rfl rfl rfl) rfl rfl rfl

theorem trained_up (ht : a.port p = pTRAINING) :
    let t := portTrained p a
    t.port p = pUP ∧ t.rd (wrapFld p) = 0 ∧
      (t.rd F.NRL_STATE_MOD_ST = if a.rd F.NRL_STATE_MOD_ST = 1 then 2 else a.rd F.NRL_STATE_MOD_ST) ∧
      t.port (otherPort p) = a.port (otherPort p) ∧ Logged Ev.PORT_STATE [portNo p, pUP] a t ∧
      Moves traceParts traceObjs portFlds a t := by
  have hne : a.port p ≠ pUP := by rw [ht]; decide
  rw [portTrained, if_pos ht]
  refine ⟨setPort_port hne (by decide), setPort_wrap hne, ?_, setPort_other hne, setPort_logged hne, setPort_moves hne⟩
  rw [setPort_rd hne _ _ rfl, portShown_modSt]

/-- Code errors that fault a port: the counters, the state, the wrap and the record. -/
theorem setPort_faulted (n : Nat) (hne : a.port p ≠ pFAULTED) :
    let t := setPort (a.inc (codeErr p) 0 n) p pFAULTED
    t.port p = pFAULTED ∧ t.rd (wrapFld p) = 1 ∧
      t.rd (codeErr p) = min (2 ^ (codeErr p).width - 1) (a.rd (codeErr p) + n) ∧
      t.rd (lockLoss p) = min (2 ^ (lockLoss p).width - 1) (a.rd (lockLoss p) + 1) ∧
      t.port (otherPort p) = a.port (otherPort p) ∧ Logged Ev.PORT_STATE [portNo p, pFAULTED] a t ∧
      Moves traceParts traceObjs faultFlds a t := by
  have hinc := State.inc_moves a (codeErr p) 0 n
  have hport : ∀ q, (a.inc (codeErr p) 0 n).port q = a.port q := fun q =>
    hinc.rd _ _ (by cases p <;> cases q <;> rfl)
  have hne' : (a.inc (codeErr p) 0 n).port p ≠ pFAULTED := by rwa [hport]
  refine ⟨setPort_port hne' (by decide), setPort_wrap hne', ?_, ?_, ?_, ?_, ?_⟩
  · rw [setPort_rd hne' _ _ (by cases p <;> rfl), (portShown_moves ..).rd _ _ (by cases p <;> rfl), State.rd_inc_same]
  · rw [setPort_rd hne' _ _ (by cases p <;> rfl), portShown_lockLoss, hinc.rd _ _ (by cases p <;> rfl)]
  · rw [setPort_other hne', hport]
  · exact (setPort_logged hne').within (hinc.1.1 .sto (by decide)) (List.prefix_refl _)
  · exact (setPort_moves hne').step (hinc.one rfl rfl (by cases p <;> rfl)) rfl rfl rfl

theorem fault_wraps (n : Nat) (hu : a.port p = pUP) :
    let t := portFault p n a
    t.port p = pFAULTED ∧ t.rd (wrapFld p) = 1 ∧
      t.rd (codeErr p) = min (2 ^ (codeErr p).width - 1) (a.rd (codeErr p) + n) ∧
      t.rd (lockLoss p) = min (2 ^ (lockLoss p).width - 1) (a.rd (lockLoss p) + 1) ∧
      t.port (otherPort p) = a.port (otherPort p) ∧ Logged Ev.PORT_STATE [portNo p, pFAULTED] a t ∧
      Moves traceParts traceObjs faultFlds a t := by
  rw [portFault, if_pos hu]
  exact setPort_faulted n (by rw [hu]; decide)

theorem codeError_ends_qualifying (hq : a.port p = pQUALIFYING) :
    let t := qualifyingCodeError p a
    t.port p = pFAULTED ∧ t.rd (codeErr p) = min (2 ^ (codeErr p).width - 1) (a.rd (codeErr p) + 1) ∧
      t.rd (wrapFld p) = 1 ∧ Moves traceParts traceObjs faultFlds a t := by
  obtain ⟨hport, hwrap, hcode, -, -, -, hmoves⟩ := setPort_faulted 1 (show a.port p ≠ pFAULTED by rw [hq]; decide)
  rw [qualifyingCodeError, if_pos hq]
  exact ⟨hport, hcode, hwrap, hmoves⟩

/-- From now on the port qualifies. -/
def qualFromNow (s : State) (p : Port) : State :=
  { s with ring := match p with
      | .A => { s.ring with qualA := s.time.now }
      | .B => { s.ring with qualB := s.time.now } }

theorem qualFromNow_moves (s : State) (p : Port) : Moves [.ring] [] [] s (qualFromNow s p) := (Leaves.set_ring s _).moves

theorem qualFromNow_from (s : State) (p : Port) : (qualFromNow s p).qualFrom p = s.time.now := by cases p <;> rfl

theorem qualifies (hf : a.port p = pFAULTED) (hh : a.heldPort p = false) :
    let t := portQualify p a
    t.port p = pQUALIFYING ∧ t.rd (wrapFld p) = 1 ∧ t.qualFrom p = a.time.now ∧
      Moves traceParts traceObjs portFlds a t := by
  have hne : a.port p ≠ pQUALIFYING := by rw [hf]; decide
  have hq : portQualify p a = qualFromNow (setPort a p pQUALIFYING) p := by
    rw [portQualify, if_pos ⟨hf, by simp [hh]⟩]
    cases p <;> rfl
  rw [hq]
  refine ⟨setPort_port hne (by decide), setPort_wrap hne, ?_, (qualFromNow_moves ..).step (setPort_moves hne) rfl rfl rfl⟩
  rw [qualFromNow_from, (setPort_moves hne).1.1 .time (by decide)]

theorem ready_after_qualifying (hq : a.port p = pQUALIFYING) (ht : a.qualFrom p + 1000000 ≤ a.time.now) :
    let t := portReady p a
    t.port p = pREADY ∧ t.rd (wrapFld p) = 1 ∧ Logged Ev.PORT_STATE [portNo p, pREADY] a t ∧
      Moves traceParts traceObjs portFlds a t := by
  have hne : a.port p ≠ pREADY := by rw [hq]; decide
  rw [portReady, if_pos ⟨hq, ht⟩]
  exact ⟨setPort_port hne (by decide), setPort_wrap hne, setPort_logged hne, setPort_moves hne⟩

end

/-- Settles O13: every change goes through `setPort`, whose registers, record and frame are stated once. -/
theorem portStates : Obligations.PortStates := by
  exact ⟨fun _ _ _ hl hd hh => ⟨_, rfl, clockDetect_trains hl hd hh⟩, fun _ _ _ hl => ⟨_, rfl, clockDetect_refers hl⟩,
    fun _ _ _ ht => ⟨_, rfl, trained_up ht⟩, fun _ _ _ n hu => ⟨_, rfl, fault_wraps n hu⟩,
    fun _ _ _ hf hh => ⟨_, rfl, qualifies hf hh⟩, fun _ _ _ hq ht => ⟨_, rfl, ready_after_qualifying hq ht⟩,
    fun _ _ _ hq => ⟨_, rfl, codeError_ends_qualifying hq⟩⟩

end Sys2Proof.Machine
end

section
/-!
Enumeration (R58, R59): a byte of a frame that goes on, and what an ASSIGN does to the module.
-/

namespace Sys2Proof.Machine

/-! ### Single bytes of a list -/

theorem leAt_byte (l : List Nat) (k : Nat) : leAt l k 1 = l[k]?.getD 0 % 256 := by
  have hk : l[k]? = (l.drop k)[0]? := by rw [List.getElem?_drop, Nat.add_zero]
  rw [hk, leAt, slice]
  cases l.drop k <;> simp [leNat]

theorem overlay_byte {l : List Nat} {o : Nat} (b : Nat) (h : o < l.length) : overlay l o [b] = l.set o b := by
  rw [overlay, List.set_eq_take_append_cons_drop, if_pos h]
  simp

theorem leAt_overlay_byte {l : List Nat} {o : Nat} (b k : Nat) (h : o < l.length) :
    leAt (overlay l o [b]) k 1 = if k = o then b % 256 else leAt l k 1 := by
  rw [overlay_byte b h, leAt_byte, leAt_byte, List.getElem?_set]
  by_cases hk : o = k
  · subst hk
    simp [h]
  · simp [hk, Ne.symm hk]

theorem length_overlay_byte {l : List Nat} {o : Nat} (b : Nat) (h : o < l.length) :
    (overlay l o [b]).length = l.length := by rw [overlay_byte b h, List.length_set]

/-- A byte of the middle of three lists. -/
theorem leAt_middle_byte (h b c : List Nat) {k : Nat} (hk : k < b.length) :
    leAt (h ++ b ++ c) (h.length + k) 1 = leAt b k 1 := by
  rw [leAt_byte, leAt_byte, List.getElem?_append_left (by rw [List.length_append]; omega),
    List.getElem?_append_right (by omega), Nat.add_sub_cancel_left]

theorem nextOn_lt (p : Port) (n : Nat) : nextOn p n < 256 := by cases p <;> exact Nat.mod_lt _ (by decide)

/-! ### A good frame -/

/-- A byte of the body where the frame's bytes hold it. -/
theorem body_byte (f : RxFrame) {k : Nat} (hk : k < f.len) : leAt f.bytes (32 + k) 1 = leAt f.body k 1 := by
  rw [leAt_byte, leAt_byte, RxFrame.body, List.getElem?_take_of_lt hk, List.getElem?_drop]

section
variable {f : RxFrame} (h : f.cls = 0)
include h

theorem departs_of_good : f.departs = false := by
  unfold RxFrame.cls at h
  split at h
  · exact absurd h (by decide)
  · split at h
    · exact absurd h (by decide)
    · exact Bool.eq_false_of_not_eq_true ‹_›

theorem length_of_good : f.bytes.length = 36 + f.len := by
  have hd := departs_of_good h
  simp only [RxFrame.departs, Bool.or_eq_false_iff, decide_eq_false_iff_not, ne_eq, not_not] at hd
  exact hd.2

theorem body_length_of_good : f.body.length = f.len := by
  rw [RxFrame.body, List.length_take, List.length_drop, length_of_good h]
  omega

theorem countFrame_of_good (s : State) : countFrame s f = s := by
  rw [countFrame, h]
  rfl

/-- A good frame whose body changed goes on out of the other port, which is UP. -/
theorem forward_lastTx {s : State} (ho : s.port (otherPort f.port) = pUP) (body : List Nat) :
    (forward s f body true).ring.lastTx = [⟨otherPort f.port, f.bytes.take 32 ++ body ++
      leBytes 4 (crc32 (f.bytes.take 32 ++ body)), false⟩] := by
  have hturned : decide (3 ≤ s.port (otherPort f.port)) = false := by rw [ho]; rfl
  unfold forward
  extract_lets +onlyGivenNames out turned
  have hout : s.port out = pUP := ho
  have hturned : turned = false := hturned
  clear_value turned
  subst hturned
  simp [hout, h, departs_of_good h, out]

/-- A byte of the body that goes on. -/
theorem forward_body_byte {s : State} (ho : s.port (otherPort f.port) = pUP) (body : List Nat) :
    ∃ x, (forward s f body true).ring.lastTx = [x] ∧ x.port = otherPort f.port ∧
      ∀ k < body.length, leAt x.bytes (32 + k) 1 = leAt body k 1 := by
  refine ⟨_, forward_lastTx h ho body, rfl, fun k hk => ?_⟩
  have h32 : (f.bytes.take 32).length = 32 := by
    rw [List.length_take, length_of_good h]
    omega
  have := leAt_middle_byte (f.bytes.take 32) body (leBytes 4 (crc32 (f.bytes.take 32 ++ body))) hk
  rwa [h32] at this

end

/-! ### An ENUM frame of the module's mode -/

/-- A good ENUM frame of mode `m` without ACKREQ that the module hears: its edited body goes on, then the module acts. -/
theorem enumFrame_of_hears {s : State} {f : RxFrame} {m : Nat} (hh : Hears s f 6) (hl : f.len = 12)
    (hm : leAt f.body 0 1 = m) (ha : f.ackreq = false) (edit : State → List Nat → List Nat) (take : State → State) :
    enumFrame m edit take f s = take (forward s f (edit s f.body) true) := by
  obtain ⟨hhears, hacts, htyp, hcls⟩ := hh
  simp [enumFrame, hhears, hacts, htyp, hcls, hl, hm, ha, countFrame_of_good hcls]

theorem forward_moves (s : State) (f : RxFrame) (body : List Nat) (c : Bool) :
    Moves [.ring] [] [] s (forward s f body c) := (forward_leaves s f body c).moves

/-! ### ASSIGN -/

/-- The fields an ASSIGN gives (R58). -/
def enumFlds : List Fld :=
  [F.NRL_POS_POS, F.NRL_POS_PLACED, F.NRL_STATE_MOD_ST, F.NRL_FSEQ_HIGH_HIGH, F.CLK_START_TIMED]

/-- The frames on record and the pending NRL.TIME go; the highest frame number restarts (R54). -/
def enumRestart (s : State) : State :=
  State.wr { s with ring := { s.ring with seen := [], pendTime := none } } F.NRL_FSEQ_HIGH_HIGH 0

/-- The registers of a module at position `pos`: whether it is placed, its state, and not TIMED. -/
def enumAt (s : State) (pos placed st : Nat) : State :=
  ((((enumRestart s).wr F.NRL_POS_POS pos).wr F.NRL_POS_PLACED placed).wr F.NRL_STATE_MOD_ST st).wr F.CLK_START_TIMED 0

/-- HELLO is awaited afresh. -/
def helloAfresh (s : State) : State := updPair s fun x => { x with helloRun := 500 }

theorem helloAfresh_moves (s : State) : Moves [.pair] [] [] s (helloAfresh s) := (Leaves.set_pair s _).moves

theorem enumRestart_moves (s : State) : Moves [.ring] [] enumFlds s (enumRestart s) :=
  (State.wr_moves ..).step ((Leaves.set_ring s _).moves.one rfl rfl rfl) rfl rfl rfl

section
variable (s : State) (pos placed st : Nat)

theorem enumAt_moves : Moves [.ring] [] enumFlds s (enumAt s pos placed st) :=
  (State.wr_moves ..).step ((State.wr_moves ..).step ((State.wr_moves ..).step
    ((State.wr_moves ..).step (enumRestart_moves s) rfl rfl rfl) rfl rfl rfl) rfl rfl rfl) rfl rfl rfl

/-- A field written before the last write, which is of a field apart. -/
theorem rd_under_wr {s : State} {f g : Fld} {v x : Nat} (hg : g.key 0 0 ≠ f.key 0 0) (h : s.rd g = x) :
    (s.wr f v).rd g = x := (State.rd_wr_ne _ _ _ _ _ _ hg).trans h

theorem enumAt_timed : (enumAt s pos placed st).rd F.CLK_START_TIMED = 0 := State.rd_wr_same ..

theorem enumAt_modSt : (enumAt s pos placed st).rd F.NRL_STATE_MOD_ST = st % 2 ^ 4 :=
  rd_under_wr (by decide) (State.rd_wr_same ..)

theorem enumAt_placed : (enumAt s pos placed st).rd F.NRL_POS_PLACED = placed % 2 ^ 1 :=
  rd_under_wr (by decide) (rd_under_wr (by decide) (State.rd_wr_same ..))

theorem enumAt_pos : (enumAt s pos placed st).rd F.NRL_POS_POS = pos % 2 ^ 6 :=
  rd_under_wr (by decide) (rd_under_wr (by decide) (rd_under_wr (by decide) (State.rd_wr_same ..)))

theorem enumAt_high : (enumAt s pos placed st).rd F.NRL_FSEQ_HIGH_HIGH = 0 :=
  rd_under_wr (by decide) (rd_under_wr (by decide) (rd_under_wr (by decide) (rd_under_wr (by decide)
    (State.rd_wr_same ..))))

theorem enumAt_ring : (enumAt s pos placed st).ring = { s.ring with seen := [], pendTime := none } := rfl

end

section
variable {s : State} (ht : s.timed = false) {n : Nat}
include ht

theorem enumTake_placed (hn : n ≤ 63) : enumTake n s = helloAfresh (enumAt s n 1 3) := by
  unfold enumTake
  simp only [ht, if_pos hn, Bool.false_eq_true, if_false]
  rfl

theorem enumTake_unplaced (hn : 63 < n) : enumTake n s = enumAt s 0x3F 0 2 := by
  unfold enumTake
  simp only [ht, if_neg (Nat.not_le.mpr hn), Bool.false_eq_true, if_false]
  rfl

end

/-- What an ASSIGN of a position at most 63 leaves in a module not TIMED. -/
theorem enumTake_places {s : State} (ht : s.timed = false) {n : Nat} (hn : n ≤ 63) :
    let t := enumTake n s
    t.rd F.NRL_POS_POS = n ∧ t.rd F.NRL_POS_PLACED = 1 ∧ t.rd F.NRL_STATE_MOD_ST = 3 ∧ t.rd F.NRL_FSEQ_HIGH_HIGH = 0 ∧
      t.rd F.CLK_START_TIMED = 0 ∧ t.ring = { s.ring with seen := [], pendTime := none } ∧
      Moves [.ring, .pair] [] enumFlds s t := by
  rw [enumTake_placed ht hn]
  have hread (f : Fld) : (helloAfresh (enumAt s n 1 3)).rd f = (enumAt s n 1 3).rd f :=
    (helloAfresh_moves _).rd f 0 rfl
  simp only [hread]
  exact ⟨(enumAt_pos ..).trans (Nat.mod_eq_of_lt (by omega)), enumAt_placed .., enumAt_modSt .., enumAt_high ..,
    enumAt_timed .., enumAt_ring s n 1 3, (helloAfresh_moves _).step ((enumAt_moves ..).one rfl rfl rfl) rfl rfl rfl⟩

theorem enumTake_unplaces {s : State} (ht : s.timed = false) {n : Nat} (hn : 63 < n) :
    let t := enumTake n s
    t.rd F.NRL_POS_POS = 0x3F ∧ t.rd F.NRL_POS_PLACED = 0 ∧ t.rd F.NRL_STATE_MOD_ST = 2 ∧ t.placed = false ∧
      Moves [.ring] [] enumFlds s t := by
  rw [enumTake_unplaced ht hn]
  refine ⟨enumAt_pos .., enumAt_placed .., enumAt_modSt .., ?_, enumAt_moves ..⟩
  rw [State.placed, enumAt_modSt]
  rfl

theorem assignBody_next {p : Port} {b : List Nat} (hb : b.length = 12) (hn : leAt b 1 1 ≤ 63) :
    1 < (assignBody p b).length ∧ leAt (assignBody p b) 1 1 = nextOn p (leAt b 1 1) := by
  have h1 : 1 < b.length := by omega
  rw [assignBody, if_pos hn, length_overlay_byte _ h1, leAt_overlay_byte _ _ h1, if_pos rfl]
  exact ⟨h1, Nat.mod_eq_of_lt (nextOn_lt ..)⟩

/-! ### VERIFY -/

/-- The MISMATCH bit of position `pos` (NRL-12). -/
def mismatchBit (b : List Nat) (pos : Nat) : Bool := (leAt b (4 + pos / 8) 1).testBit (pos % 8)

theorem mismatchBit_set {b : List Nat} {pos : Nat} (hp : 4 + pos / 8 < b.length) :
    mismatchBit (overlay b (4 + pos / 8) [setBits (leAt b (4 + pos / 8) 1) (pos % 8) (pos % 8) 1]) pos = true := by
  rw [mismatchBit, leAt_overlay_byte _ _ hp, if_pos rfl, show 256 = 2 ^ 8 from rfl, Nat.testBit_mod_two_pow,
    show (1 : Nat) = b2n true from rfl, setBits_testBit, if_pos rfl, Bool.and_true, decide_eq_true_eq]
  exact Nat.mod_lt _ (by decide)

/-- The body a VERIFY goes on with: NEXT, and the MISMATCH bit of the module's position. -/
theorem verifyBody_bytes {p : Port} {s : State} {b : List Nat} (hb : b.length = 12) (hp : s.rd F.NRL_POS_POS < 64) :
    (verifyBody p s b).length = 12 ∧ leAt (verifyBody p s b) 1 1 = nextOn p (leAt b 1 1) ∧
      mismatchBit (verifyBody p s b) (s.rd F.NRL_POS_POS) =
        (mismatchBit b (s.rd F.NRL_POS_POS) || !(s.placed && decide (leAt b 1 1 = s.rd F.NRL_POS_POS))) := by
  unfold verifyBody
  extract_lets n pos b'
  have hpos : 4 + pos / 8 < b.length := by
    have : pos < 64 := hp
    omega
  have hb' : b'.length = 12 ∧ mismatchBit b' pos = (mismatchBit b pos || !(s.placed && decide (n = pos))) := by
    by_cases hc : s.placed ∧ n = pos
    · have he : b' = b := if_pos hc
      rw [he, hc.1, decide_eq_true hc.2]
      exact ⟨hb, by simp⟩
    · have he : b' = overlay b (4 + pos / 8) [setBits (leAt b (4 + pos / 8) 1) (pos % 8) (pos % 8) 1] := if_neg hc
      have hc' : (s.placed && decide (n = pos)) = false := by
        rw [← Bool.not_eq_true, Bool.and_eq_true, decide_eq_true_eq]
        exact hc
      rw [he, length_overlay_byte _ hpos, mismatchBit_set hpos, hc', Bool.not_false, Bool.or_true]
      exact ⟨hb, rfl⟩
  obtain ⟨hlen, hbit⟩ := hb'
  have h1 : 1 < b'.length := by omega
  refine ⟨(length_overlay_byte _ h1).trans hlen, ?_, ?_⟩
  · rw [leAt_overlay_byte _ _ h1, if_pos rfl]
    exact Nat.mod_eq_of_lt (nextOn_lt ..)
  · rw [← hbit, mismatchBit, leAt_overlay_byte _ _ h1, if_neg (by omega)]
    rfl

/-! ### The obligation -/

section
variable {a : State} {f : RxFrame} (hh : Hears a f 6) (hl : f.len = 12) (ha : f.ackreq = false)
include hh hl ha

theorem assign_places (hm : leAt f.body 0 1 = 1) {n : Nat} (hnext : leAt f.body 1 1 = n) (hn : n ≤ 63)
    (ht : a.timed = false) (ho : a.port (otherPort f.port) = pUP) :
    let t := enumFrame 1 (fun _ b => assignBody f.port b) (enumTake (leAt f.body 1 1)) f a
    t.rd F.NRL_POS_POS = n ∧ t.rd F.NRL_POS_PLACED = 1 ∧ t.rd F.NRL_STATE_MOD_ST = 3 ∧ t.rd F.NRL_FSEQ_HIGH_HIGH = 0 ∧
      t.rd F.CLK_START_TIMED = 0 ∧ t.ring.seen = [] ∧ t.ring.pendTime = none ∧
      (∃ x, t.ring.lastTx = [x] ∧ x.port = otherPort f.port ∧ leAt x.bytes 33 1 = nextOn f.port n) ∧
      Moves [.ring, .pair] [] enumFlds a t := by
  obtain ⟨hlen, hbyte⟩ := assignBody_next (p := f.port) ((body_length_of_good hh.2.2.2).trans hl) (hnext.trans_le hn)
  obtain ⟨x, hx, hport, hbytes⟩ := forward_body_byte hh.2.2.2 ho (assignBody f.port f.body)
  rw [enumFrame_of_hears hh hl hm ha, hnext]
  have hf := forward_moves a f (assignBody f.port f.body) true
  have htimed : (forward a f (assignBody f.port f.body) true).timed = false := by
    rw [State.timed, hf.rd _ _ rfl]
    exact ht
  obtain ⟨hpos, hplaced, hst, hhigh, htm, hring, hmoves⟩ := enumTake_places htimed hn
  refine ⟨hpos, hplaced, hst, hhigh, htm, by rw [hring], by rw [hring], ⟨x, by rw [hring]; exact hx, hport, ?_⟩, ?_⟩
  · rw [← hnext, ← hbyte]
    exact hbytes 1 hlen
  · exact hmoves.step (hf.one rfl rfl rfl) rfl rfl rfl

theorem assign_beyond (hm : leAt f.body 0 1 = 1) (hn : 63 < leAt f.body 1 1) (ht : a.timed = false) :
    let t := enumFrame 1 (fun _ b => assignBody f.port b) (enumTake (leAt f.body 1 1)) f a
    t.rd F.NRL_POS_POS = 0x3F ∧ t.rd F.NRL_POS_PLACED = 0 ∧ t.rd F.NRL_STATE_MOD_ST = 2 ∧ t.placed = false ∧
      Moves [.ring] [] enumFlds a t := by
  rw [enumFrame_of_hears hh hl hm ha]
  have hf := forward_moves a f (assignBody f.port f.body) true
  have htimed : (forward a f (assignBody f.port f.body) true).timed = false := by
    rw [State.timed, hf.rd _ _ rfl]
    exact ht
  obtain ⟨hpos, hplaced, hst, hpl, hmoves⟩ := enumTake_unplaces htimed hn
  exact ⟨hpos, hplaced, hst, hpl, hmoves.step (hf.one rfl rfl rfl) rfl rfl rfl⟩

theorem verify_marks (hm : leAt f.body 0 1 = 2) (ho : a.port (otherPort f.port) = pUP)
    (hp : a.rd F.NRL_POS_POS < 64) :
    let t := enumFrame 2 (verifyBody f.port) id f a
    let pos := a.rd F.NRL_POS_POS
    (∃ x, t.ring.lastTx = [x] ∧ x.port = otherPort f.port ∧ leAt x.bytes 33 1 = nextOn f.port (leAt f.body 1 1) ∧
      (leAt x.bytes (36 + pos / 8) 1).testBit (pos % 8) = ((leAt f.bytes (36 + pos / 8) 1).testBit (pos % 8) ||
        !(a.placed && decide (leAt f.body 1 1 = pos)))) ∧
      Moves [.ring] [] [] a t := by
  rw [enumFrame_of_hears hh hl hm ha]
  obtain ⟨hlen, hbyte, hbit⟩ := verifyBody_bytes (p := f.port) ((body_length_of_good hh.2.2.2).trans hl) hp
  obtain ⟨x, hx, hport, hbytes⟩ := forward_body_byte hh.2.2.2 ho (verifyBody f.port a f.body)
  refine ⟨⟨x, hx, hport, (hbytes 1 (by omega)).trans hbyte, ?_⟩, forward_moves ..⟩
  have hk : 4 + a.rd F.NRL_POS_POS / 8 < 12 := by omega
  have hin := body_byte f (hk.trans_eq hl.symm)
  have hout := hbytes _ (hk.trans_eq hlen.symm)
  rw [← Nat.add_assoc] at hin hout
  rw [hin, hout]
  exact hbit

end

/-- Settles O15: the frame goes on with the bytes the module edits, and the module acts on what it heard. -/
theorem enumeration : Obligations.Enumeration := by
  refine ⟨fun dt s f n hh hl hm hnext hn ha ht ho => ⟨_, rfl, assign_places hh hl ha hm hnext hn ht ho⟩,
    fun dt s f hh hl hm hn ha ht => ⟨_, rfl, assign_beyond hh hl ha hm hn ht⟩,
    fun dt s f n hh hl hm hnext ha ho hp => ⟨_, rfl, ?_⟩⟩
  subst hnext
  exact verify_marks hh hl ha hm ho hp

end Sys2Proof.Machine
end

section
/-!
The frame of a latch: what of the ring and of the register file a latch spares, and the build of the process image in it.
-/

namespace Sys2Proof.Machine

/-! ### A frame that spares the ring's core -/

/-- The core of the ring stands, and so does every field outside the objects `os` and apart from the fields `ws`. -/
def Spares (os : List Nat) (ws : List Fld) (s t : State) : Prop :=
  t.ring.core = s.ring.core ∧ ∀ f i, fieldOutside os ws f = true → t.rd f i = s.rd f i

section
variable {ps : List Part} {os us : List Nat} {ws vs : List Fld} {a b c s t : State}

theorem Spares.refl : Spares os ws s s := ⟨rfl, fun _ _ _ => rfl⟩

/-- A step that leaves the ring and the register file. -/
theorem Spares.same (hr : t.ring = s.ring) (hg : t.regs = s.regs) : Spares os ws s t :=
  ⟨congrArg RingSt.core hr, fun f i _ => by simp only [State.rd, State.rdE, hg]⟩

theorem Spares.trans (h : Spares os ws a b) (h' : Spares os ws b c) : Spares os ws a c :=
  ⟨h'.1.trans h.1, fun f i hf => (h'.2 f i hf).trans (h.2 f i hf)⟩

theorem Spares.ite {d : Prop} [Decidable d] (h : Spares os ws s a) (h' : Spares os ws s b) :
    Spares os ws s (if d then a else b) := by
  split
  · exact h
  · exact h'

theorem Spares.foldl {α : Type} {g : State → α → State} (h : ∀ s x, Spares os ws s (g s x)) (l : List α) (s : State) :
    Spares os ws s (l.foldl g s) := by
  induction l generalizing s with
  | nil => exact .refl
  | cons x l ih => exact (h s x).trans (ih _)

theorem fieldOutside_mono (ho : os.all (us.contains ·) = true) (hw : fieldsWithin us vs ws = true) {f : Fld}
    (hf : fieldOutside us vs f = true) : fieldOutside os ws f = true := by
  simp only [fieldOutside, fieldsWithin, Bool.and_eq_true, Bool.not_eq_true', List.all_eq_true, Bool.or_eq_true,
    decide_eq_true_eq, List.contains_eq_mem, decide_eq_false_iff_not] at ho hw hf ⊢
  obtain ⟨hus, hvs⟩ := hf
  refine ⟨fun hm => hus (ho _ hm), fun w hm => ?_⟩
  rcases hw w hm with h | h
  · exact .inl fun e => hus (e ▸ h)
  · exact hvs w h

/-- A narrower frame within a wider one. -/
theorem Spares.mono (h : Spares os ws s t) (ho : os.all (us.contains ·) = true) (hw : fieldsWithin us vs ws = true) :
    Spares us vs s t := ⟨h.1, fun f i hf => h.2 f i (fieldOutside_mono ho hw hf)⟩

theorem Moves.spares (h : Moves ps os ws s t) (hc : t.ring.core = s.ring.core) (ho : os.all (us.contains ·) = true)
    (hw : fieldsWithin us vs ws = true) : Spares us vs s t :=
  ⟨hc, fun f i hf => h.rd f i (fieldOutside_mono ho hw hf)⟩

/-- A step that touches the ring, but not its core. -/
theorem Leaves.sparesCore (h : Leaves ps os s t) (hc : t.ring.core = s.ring.core) (ho : os.all (us.contains ·) = true) :
    Spares us ws s t := h.moves.spares hc ho rfl

/-- A step that leaves the ring. -/
theorem Leaves.spares (h : Leaves ps os s t) (hr : ps.contains .ring = false) (ho : os.all (us.contains ·) = true) :
    Spares us ws s t := h.sparesCore (congrArg RingSt.core (h.1 .ring (by simpa using hr))) ho

/-- A write of a field of the frame. -/
theorem State.wr_spares (s : State) (f : Fld) (v i : Nat) (hw : fieldsWithin os ws [f] = true) :
    Spares os ws s (s.wr f v i) := (s.wr_moves f v i).spares rfl rfl hw

theorem State.inc_spares (s : State) (f : Fld) (i n : Nat) (hw : fieldsWithin os ws [f] = true) :
    Spares os ws s (s.inc f i n) := s.wr_spares f _ i hw

theorem State.incTo_spares (s : State) (f : Fld) (i n top : Nat) (hw : fieldsWithin os ws [f] = true) :
    Spares os ws s (s.incTo f i n top) := s.wr_spares f _ i hw

/-- With a frame by objects and parts, the fields give a frame by fields. -/
theorem Spares.moves (h : Spares os ws s t) (hl : Leaves ps us s t) (ho : us.all ((os ++ ws.map (·.obj)).contains ·) = true) :
    Moves ps os ws s t := by
  refine ⟨hl.mono (fun _ x => x) fun x hx => by simpa using List.all_eq_true.mp ho x hx, fun f i _ hf hw => h.2 f i ?_⟩
  simp only [fieldOutside, Bool.and_eq_true, Bool.not_eq_true', List.all_eq_true, Bool.or_eq_true,
    decide_eq_true_eq, List.contains_eq_mem, decide_eq_false_iff_not]
  refine ⟨hf, fun w hm => ?_⟩
  by_cases he : w.obj = f.obj
  · exact .inr (hw w hm he)
  · exact .inl he

end

/-! ### The input image (R146) -/

/-- What the build of an image writes: the groups' states, the change-of-state flags, the peers' staleness. -/
def buildObjs : List Nat := traceObjs ++ [F.objAG_GSTAT]
def buildFlds : List Fld :=
  [F.DG_COS_COS, F.DG_GSTAT_BC_V, F.DG_GSTAT_RATE, F.DG_GSTAT_WORD, F.IMG_STATUS_STAGE_FREE, F.IMG_STATUS_STALE_PEER]

abbrev BuildFrame (s t : State) : Prop := Spares buildObjs buildFlds s t

theorem hostSync_build (n : Nat) (s : State) : BuildFrame s (hostSync n s) :=
  (hostSync_leaves n s).sparesCore (hostSync_core n s) rfl

theorem cosClear_build (s : State) (g : Nat) : BuildFrame s (cosClear s g) := by
  unfold cosClear
  extract_lets u
  exact .ite ((State.wr_spares _ _ _ _ rfl).trans (.foldl (fun _ _ => hostSync_build ..) _ _)) .refl

theorem dgSync_build (s : State) (g : Nat) : BuildFrame s (dgSync s g) :=
  (State.wr_spares _ _ _ _ rfl).trans <| (State.wr_spares _ _ _ _ rfl).trans <|
    (State.wr_spares _ _ _ _ rfl).trans <| hostSync_build ..

theorem freezeDg_build (s : State) (good : Bool) (g : Nat) : BuildFrame s (freezeDg s good g) := by
  unfold freezeDg
  extract_lets +onlyGivenNames x0 x1 x2 x3 x4 x5 x6 x7 x8 x9 x10 x11
  have h11 : BuildFrame s x11 :=
    ((putDgg_leaves s g x2).spares rfl rfl).trans <| ((Leaves.set_img x3 _).spares rfl rfl).trans <| dgSync_build ..
  clear_value x11
  refine .ite ?_ h11
  extract_lets +onlyGivenNames x12 x15 x16 x17
  have h12 : BuildFrame x11 x12 := .foldl (fun _ _ => (putDch_leaves ..).spares rfl rfl) _ _
  have h17 : BuildFrame x12 x17 := .ite ((Leaves.set_fld ..).spares rfl rfl) .refl
  exact h11.trans <| h12.trans <| h17.trans <| ((putDgg_leaves ..).spares rfl rfl).trans <| dgSync_build ..

theorem agSync_build (s : State) (g : Nat) : BuildFrame s (agSync s g) := by
  refine (agSync_leaves s g).sparesCore ?_ rfl
  simp only [agSync, hostSync_core, State.wr_ring]

theorem updAgg_build (s : State) (g : Nat) (f : AnGrp → AnGrp) : BuildFrame s (updAgg s g f) :=
  ((putAgg_leaves ..).spares rfl rfl).trans (agSync_build ..)

theorem freezeAg_build (s : State) (good : Bool) (g : Nat) : BuildFrame s (freezeAg s good g) := by
  unfold freezeAg
  extract_lets +onlyGivenNames x0 x1 x2 x3 x4 x5 x6 x7 x8 x10
  have h7 : BuildFrame s x7 := (updAgg_build s g _).trans ((Leaves.set_img x2 _).spares rfl rfl)
  have h8 : BuildFrame x7 x8 := .ite (.foldl (fun _ _ => (putAch_leaves ..).spares rfl rfl) _ _) .refl
  refine (h7.trans h8).trans (.ite ?_ .refl)
  exact ((Leaves.set_fld x8 _).spares rfl rfl).trans ((putAgg_leaves ..).spares rfl rfl)

theorem freezeFrames_build (s : State) (t bad : Nat) : BuildFrame s (freezeFrames s t bad) := by
  unfold freezeFrames
  extract_lets x y
  have hx : BuildFrame s x := .foldl (fun _ _ => (freezeDg_build ..).trans (cosClear_build ..)) _ _
  have hy : BuildFrame x y := .foldl (fun _ _ => freezeAg_build ..) _ _
  exact hx.trans <| hy.trans <| ((freezeWin_leaves ..).spares rfl rfl).trans ((freezeAngles_leaves ..).spares rfl rfl)

theorem buildPeers_build (s : State) (n : Nat) : BuildFrame s (buildPeers s n) := by
  unfold buildPeers
  extract_lets ks r
  exact ((Leaves.set_img s _).spares rfl rfl).trans (State.wr_spares _ _ _ _ rfl)

theorem applyStaged_build (s : State) (n : Nat) : BuildFrame s (applyStaged s n) := by
  unfold applyStaged
  extract_lets due now i
  exact ((Leaves.set_img s _).spares rfl rfl).trans (State.wr_spares _ _ _ _ rfl)

/-- The image once its parts stand: its kind, its instant, and task 0 due. -/
theorem buildImage_build (s : State) (kind n time bad : Nat) : BuildFrame s (buildImage s kind n time bad) := by
  unfold buildImage
  extract_lets x y z
  have hx : BuildFrame s x := .ite .refl (applyStaged_build ..)
  have hz : BuildFrame x z := (freezeFrames_build ..).trans (buildPeers_build ..)
  exact (hx.trans hz).trans (.same rfl rfl)

end Sys2Proof.Machine
end

section
/-!
The frame of a latch through the mailbox, the snapshots, the outputs and the pair.
-/

namespace Sys2Proof.Machine

/-- What a latch writes (R64, R146, R150, R184). -/
def latchObjs : List Nat :=
  traceObjs ++ [F.objAG_GSTAT, F.objIMG_PINS, F.objPLT_COUNT, F.objPLT_LANE, F.objSCN_MODE, F.objSEC_FW]
def latchFlds : List Fld :=
  [F.ANG_EV_STATE, F.CLK_LOST_CYCLES_COUNT, F.CLK_START_TIMED, F.DG_CHSTAT_CLAMP, F.DG_CHSTAT_PRESENT, F.DG_COS_COS,
    F.DG_GSTAT_BC_V, F.DG_GSTAT_RATE, F.DG_GSTAT_WORD, F.IMG_STATUS_PHOLDS, F.IMG_STATUS_PINNED, F.IMG_STATUS_PIN_BROKEN,
    F.IMG_STATUS_STAGE_FREE, F.IMG_STATUS_STALE_PEER, F.MBX_QUEUES_CQ_FREE, F.MBX_QUEUES_CR_FREE, F.MBX_USE_HANDLES_USED,
    F.MBX_USE_SESSIONS_OPEN, F.NRL_STATE_MOD_ST, F.PLT_PSTATE_CONFLICTS, F.PLT_PSTATE_LEASED, F.PLT_PSTATE_MIR_MISS,
    F.PLT_PSTATE_ROLE, F.PPR_WINSTAT_EVENT, F.PRG_ACT_DROPPED, F.PRG_ACT_LAGGED, F.PRG_ACT_PENDING, F.SCN_TSTAT_RUNSKIP,
    F.SCN_TSTAT_SKIPS]

abbrev LatchFrame (s t : State) : Prop := Spares latchObjs latchFlds s t

theorem BuildFrame.latch {s t : State} (h : BuildFrame s t) : LatchFrame s t := h.mono rfl rfl

theorem log_latch (e : Nat × Nat) (arg : List Nat) (s : State) : LatchFrame s (log e arg s) :=
  (log_leaves e arg s).sparesCore (log_core e arg s) rfl

theorem hostSync_latch (n : Nat) (s : State) : LatchFrame s (hostSync n s) := (hostSync_build n s).latch

theorem setLatch_latch (b : Nat) (s : State) : LatchFrame s (setLatch b s) :=
  (setLatch_leaves b s).sparesCore (setLatch_core b s) rfl

theorem pltCase_latch (i : Nat) (e : Nat × Nat) (lanes cls group value : Nat) (s : State) :
    LatchFrame s (pltCase i e lanes cls group value s) := (log_latch ..).trans (setLatch_latch ..)

/-! ### Completions -/

theorem queueRegs_latch (s : State) : LatchFrame s (queueRegs s) := by
  unfold queueRegs
  extract_lets used
  exact (State.wr_spares _ _ _ _ rfl).trans <| (State.wr_spares _ _ _ _ rfl).trans <| (hostSync_latch ..).trans <|
    (hostSync_latch ..).trans <| (hostSync_latch ..).trans <| hostSync_latch ..

theorem readyCpl_latch (s : State) (q n : Nat) : LatchFrame s (readyCpl s q n) :=
  (readyCpl_leaves s q n).sparesCore rfl rfl

theorem readyAll_latch (k : Nat) (s : State) (q n : Nat) : LatchFrame s (readyAll k s q n) := by
  induction k generalizing s q n with
  | zero => exact .refl
  | succ k ih => exact .ite .refl ((readyCpl_latch ..).trans (ih ..))

theorem placeRecs_latch (s : State) (kind : Nat) (rep : Bool) (session clseq opcode status handle cinch result : Nat)
    (data : List Nat) (usb : Bool) :
    LatchFrame s (placeRecs s kind rep session clseq opcode status handle cinch result data usb) := by
  unfold placeRecs
  extract_lets +onlyGivenNames q ds r _ u
  exact ((Leaves.set_mbx s _).spares rfl rfl).trans <| (readyAll_latch 65 u _ _).trans <| queueRegs_latch ..

theorem freeHdl_latch (s : State) (k : Nat) : LatchFrame s (freeHdl s k) :=
  ((Leaves.set_mbx s _).spares rfl rfl).trans <| (State.wr_spares _ _ _ _ rfl).trans (State.wr_spares _ _ _ _ rfl)

theorem finHdl_latch (s : State) (k status result : Nat) (data : List Nat) (cinch : Nat) :
    LatchFrame s (finHdl s k status result data cinch) := by
  unfold finHdl
  split
  · exact .refl
  · refine .ite .refl (.ite ?_ ((log_latch ..).trans (freeHdl_latch ..)))
    extract_lets u
    exact (placeRecs_latch ..).trans ((putHdl_leaves ..).spares rfl rfl)

theorem finNum_latch (s : State) (n status result : Nat) (data : List Nat) :
    LatchFrame s (finNum s n status result data) := finHdl_latch ..

/-! ### Snapshots and pins -/

theorem pinRegs_latch (s : State) : LatchFrame s (pinRegs s) := by
  unfold pinRegs
  extract_lets p u v
  exact (State.wr_spares _ _ _ _ rfl).trans <| (State.wr_spares _ _ _ _ rfl).trans <|
    .foldl (fun _ _ => (State.wrE_leaves ..).spares rfl rfl) _ _

theorem breakPin_latch (s : State) (n : Nat) : LatchFrame s (breakPin s n) := by
  unfold breakPin
  extract_lets +onlyGivenNames who _ u v ends
  have hu : LatchFrame s u := (Leaves.set_img s _).spares rfl rfl
  have hv : LatchFrame u v := (log_latch ..).trans <| (State.wr_spares _ _ _ _ rfl).trans <| hostSync_latch ..
  exact (hu.trans hv).trans <| .trans (.foldl (fun _ _ => finHdl_latch ..) _ _) (pinRegs_latch ..)

theorem makeRoom_latch (s : State) : LatchFrame s (makeRoom s) := by
  unfold makeRoom
  refine .ite .refl ?_
  extract_lets free
  split
  · exact (dropSnap_leaves ..).spares rfl rfl
  · split
    · exact (breakPin_latch ..).trans ((dropSnap_leaves ..).spares rfl rfl)
    · exact .refl

theorem openSnap_latch (s : State) (n time hw : Nat) (subst : Bool) : LatchFrame s (openSnap s n time hw subst) := by
  unfold openSnap
  extract_lets u x
  exact (makeRoom_latch s).trans (.same rfl rfl)

/-! ### Outputs and the pair -/

theorem updDgg_latch (s : State) (g : Nat) (f : DgGrp → DgGrp) : LatchFrame s (updDgg s g f) :=
  ((putDgg_leaves ..).spares rfl rfl).trans (dgSync_build ..).latch

theorem stageOff_latch (s : State) (c : Nat) : LatchFrame s (stageOff s c) := by
  unfold stageOff
  extract_lets x u
  have hu : LatchFrame s u := (putDch_leaves ..).spares rfl rfl
  exact hu.trans (.ite (State.wr_spares _ _ _ _ rfl) .refl)

theorem releaseDg_latch (s : State) (g : Nat) : LatchFrame s (releaseDg s g) := by
  unfold releaseDg
  extract_lets u
  have hu : LatchFrame s u := .foldl (fun _ _ => (stageOff_latch ..).trans <|
    (State.wr_spares _ _ _ _ rfl).trans (State.wr_spares _ _ _ _ rfl)) _ _
  exact hu.trans (updDgg_latch ..)

theorem releaseAnalogue_latch (s : State) : LatchFrame s (releaseAnalogue s) :=
  .foldl (fun _ _ => (updAgg_build ..).latch.trans ((applyOuts_leaves ..).spares rfl rfl)) _ _

theorem standbyOutputs_latch (s : State) : LatchFrame s (standbyOutputs s) :=
  (releaseAnalogue_latch s).trans (.foldl (fun _ _ => releaseDg_latch ..) _ _)

theorem setRole_latch (s : State) (r : Nat) : LatchFrame s (setRole s r) := State.wr_spares _ _ _ _ rfl

theorem loseClaim_latch (s : State) : LatchFrame s (loseClaim s) := by
  unfold loseClaim
  extract_lets u v
  have hv : LatchFrame s v := ((updPair_leaves s _).spares rfl rfl).trans (State.wr_spares _ _ _ _ rfl)
  exact hv.trans (.ite ((setRole_latch ..).trans (standbyOutputs_latch ..)) .refl)

theorem conflict_latch (s : State) : LatchFrame s (conflict s) := by
  unfold conflict
  extract_lets u
  have hu : LatchFrame s u := (State.incTo_spares _ _ _ _ _ rfl).trans (pltCase_latch ..)
  exact hu.trans (.ite .refl (loseClaim_latch ..))

theorem boundaryPair_latch (s : State) : LatchFrame s (boundaryPair s) :=
  .ite (((updPair_leaves s _).spares rfl rfl).trans (conflict_latch ..)) .refl

end Sys2Proof.Machine
end

section
/-!
The frame of a latch through the operating modes, the tasks, the activation and the lanes.
-/

namespace Sys2Proof.Machine

/-! ### FAULT (R184) -/

theorem endActivation_latch (s : State) (status : Nat) : LatchFrame s (endActivation s status) := by
  unfold endActivation
  split
  · exact .refl
  · extract_lets +onlyGivenNames _ u
    have hu : LatchFrame s u := ((Leaves.set_prg s _).spares rfl rfl).trans (State.wr_spares _ _ _ _ rfl)
    exact hu.trans (.ite .refl (finNum_latch ..))

theorem endPending_latch (s : State) (status : Nat) : LatchFrame s (endPending s status) := by
  unfold endPending
  split
  · exact .ite .refl (endActivation_latch ..)
  · exact .refl

theorem disarmOutputs_latch (s : State) : LatchFrame s (disarmOutputs s) :=
  .foldl (fun _ _ => .ite (State.wr_spares _ _ _ _ rfl) .refl) _ _

theorem safeCommand_latch (s : State) (kind : Nat) : LatchFrame s (safeCommand s kind) :=
  .ite (((setYield_leaves ..).spares rfl rfl).trans <| ((updPair_leaves ..).spares rfl rfl).trans <|
    (sendCommand_leaves ..).spares rfl rfl) (((sendCommand_leaves ..).spares rfl rfl).trans (disarmOutputs_latch ..))

theorem roleOff_latch (s : State) : LatchFrame s (roleOff s) :=
  .ite .refl ((setRole_latch ..).trans ((updPair_leaves ..).spares rfl rfl))

theorem setMode_latch (s : State) (new cause restart : Nat) : LatchFrame s (setMode s new cause restart) := by
  unfold setMode
  extract_lets +onlyGivenNames old a b c d e _ _ f
  have ha : LatchFrame s a := .ite ((stopRunTicks_leaves ..).spares rfl rfl) .refl
  have hb : LatchFrame a b := (State.wr_leaves ..).spares rfl rfl
  have hc : LatchFrame b c := .ite ((startRunTicks_leaves ..).spares rfl rfl) .refl
  have hd : LatchFrame c d := .ite .refl (roleOff_latch ..)
  have hf : LatchFrame d f := (log_latch ..).trans (.same rfl rfl)
  exact ha.trans <| hb.trans <| hc.trans <| hd.trans <| hf.trans <| (setLatch_latch ..).trans (hostSync_latch ..)

theorem finMode_latch (s : State) (p : PendMode) (status : Nat) : LatchFrame s (finMode s p status) :=
  .ite .refl (finNum_latch ..)

theorem enterFault_latch (s : State) (cause : Nat) : LatchFrame s (enterFault s cause) := by
  unfold enterFault
  refine .ite .refl ?_
  extract_lets +onlyGivenNames a b _ c _ _ d e f
  have ha : LatchFrame s a := by
    unfold a
    split
    · exact (finMode_latch ..).trans ((clearPend_leaves ..).spares rfl rfl)
    · exact .refl
  have hc : LatchFrame a c := ((discardTasks_leaves a).spares rfl rfl).trans <|
    ((Leaves.set_scn b _).spares rfl rfl).trans ((closeOpen_leaves ..).spares rfl rfl)
  have hd : LatchFrame c d := .same rfl rfl
  have hf : LatchFrame d f := (safeCommand_latch ..).trans <|
    ((State.wr_leaves e _ _ _).spares rfl rfl).trans (setMode_latch ..)
  exact ha.trans <| hc.trans <| hd.trans <| hf.trans (endPending_latch ..)

/-! ### Tasks (R192, R199) -/

theorem abandonIdle_latch (s : State) : LatchFrame s (abandonIdle s) := by
  unfold abandonIdle
  extract_lets +onlyGivenNames n _ v u
  have hv : LatchFrame s v := ((Leaves.set_scn s _).spares rfl rfl).trans (State.incTo_spares _ _ _ _ _ rfl)
  have hu : LatchFrame s u := .ite (hv.trans (.ite (State.wr_spares _ _ _ _ rfl) .refl)) .refl
  exact hu.trans (.ite (((updPair_leaves ..).spares rfl rfl).trans (State.incTo_spares _ _ _ _ _ rfl)) .refl)

theorem countSkip_latch (s : State) (task : Nat) : LatchFrame s (countSkip s task) := by
  unfold countSkip
  extract_lets u m
  have hu : LatchFrame s u := (State.inc_spares _ _ _ _ rfl).trans (State.inc_spares _ _ _ _ rfl)
  exact hu.trans (.ite (enterFault_latch ..) .refl)

theorem releaseTask_latch (s : State) (task src : Nat) (snap : Option Nat) :
    LatchFrame s (releaseTask s task src snap) := by
  unfold releaseTask
  refine .ite .refl (.ite ((abandonIdle_latch ..).trans (countSkip_latch ..)) ?_)
  extract_lets +onlyGivenNames u x
  exact (abandonIdle_latch s).trans (.ite (.same rfl rfl)
    (((Leaves.set_scn u _).spares rfl rfl).trans ((dispatch_leaves ..).spares rfl rfl)))

theorem clearFlag_latch (s : State) (n : Nat) : LatchFrame s (clearFlag s n) := by
  unfold clearFlag
  extract_lets +onlyGivenNames g u
  have hu : LatchFrame s u := .ite (State.wr_spares _ _ _ _ rfl)
    (.ite (State.wr_spares _ _ _ _ rfl) ((putLatch_leaves ..).spares rfl rfl))
  exact hu.trans (.same rfl rfl)

theorem putSrc_latch (s : State) (n v : Nat) : LatchFrame s (putSrc s n v) := (putSrc_leaves s n v).spares rfl rfl

/-- A task start that is given up counts DISCARD. -/
theorem discard_latch (s : State) (n : Nat) : LatchFrame s ((putSrc s n 0).inc F.INT_STAT_DISCARD) :=
  (putSrc_latch ..).trans (State.inc_spares _ _ _ _ rfl)

theorem takeTask_latch (s : State) (n : Nat) : LatchFrame s (takeTask s n) := by
  unfold takeTask
  refine .ite .refl (.ite (discard_latch ..) (.ite .refl ?_))
  extract_lets +onlyGivenNames t u v _ w
  have hw : LatchFrame u w := (putSrc_latch u n 2).trans ((Leaves.set_int v _).spares rfl rfl)
  exact (clearFlag_latch s n).trans <| .ite (discard_latch ..) <| .ite ((putSrc_latch ..).trans (countSkip_latch ..)) <|
    hw.trans (releaseTask_latch ..)

theorem completeTask_latch (s : State) (task : Nat) : LatchFrame s (completeTask s task) := by
  unfold completeTask
  extract_lets +onlyGivenNames l _ u
  have hu : LatchFrame s u := .same rfl rfl
  exact hu.trans (.foldl (fun _ _ => .ite ((putSrc_latch ..).trans (takeTask_latch ..)) (putSrc_latch ..)) _ _)

theorem releaseDeferred_latch (s : State) : LatchFrame s (releaseDeferred s) := by
  unfold releaseDeferred
  extract_lets +onlyGivenNames l _ u
  have hu : LatchFrame s u := .same rfl rfl
  refine hu.trans (.foldl (fun v x => .ite ((State.incTo_spares _ _ _ _ _ rfl).trans (completeTask_latch ..)) ?_) _ _)
  exact ((Leaves.set_scn v _).spares rfl rfl).trans ((dispatch_leaves ..).spares rfl rfl)

/-! ### The activation and the pair at a latch (R259, R260, R283) -/

theorem standbyMissed_latch (s : State) (a : Act) : LatchFrame s (standbyMissed s a) :=
  .ite (((putAct_leaves ..).spares rfl rfl).trans <| (State.wr_spares _ _ _ _ rfl).trans (releaseDeferred_latch ..))
    (((putAct_leaves ..).spares rfl rfl).trans (releaseDeferred_latch ..))

theorem latchSwap_latch (s : State) : LatchFrame s (latchSwap s) := by
  unfold latchSwap
  split
  · exact .refl
  · exact .ite .refl (.ite (.ite (standbyMissed_latch ..) .refl) (.ite (State.wr_spares _ _ _ _ rfl) .refl))

theorem latchPair_latch (s : State) : LatchFrame s (latchPair s) :=
  .ite (((updPair_leaves s _).spares rfl rfl).trans <| (boundaryPair_latch ..).trans (latchSwap_latch ..)) .refl

/-! ### Lanes (R270, R271, R274) -/

theorem finishFw_latch (s : State) (a : FwAct) (status result : Nat) : LatchFrame s (finishFw s a status result) := by
  unfold finishFw
  extract_lets +onlyGivenNames t k v x y w z
  have hx : LatchFrame s x := (dropFwAct_leaves ..).spares rfl rfl
  have hy : LatchFrame x y := .ite ((fwRuns_leaves ..).spares rfl rfl) .refl
  have hz : LatchFrame y z := .ite (((ringSoon_leaves y _ _).spares rfl rfl).trans <|
    ((ringSoon_leaves w _ _).spares rfl rfl).trans <| (fwRegs_leaves ..).spares rfl rfl) .refl
  exact hx.trans <| hy.trans <| hz.trans <| (log_latch ..).trans (finNum_latch ..)

theorem ucodeLost_latch (s : State) (k : Nat) : LatchFrame s (ucodeLost s k) := by
  unfold ucodeLost
  split
  · exact finishFw_latch ..
  · exact .refl

theorem setLane_latch (s : State) (k v : Nat) : LatchFrame s (setLane s k v) := (setLane_leaves s k v).spares rfl rfl

theorem laneCause_latch (s : State) (k v : Nat) : LatchFrame s (s.wr (laneCauseFld k) v) := by
  refine State.wr_spares _ _ _ _ ?_
  unfold laneCauseFld
  split <;> rfl

theorem copyFailed_latch (s : State) (k : Nat) : LatchFrame s (copyFailed s k) := by
  unfold copyFailed
  extract_lets +onlyGivenNames n u v
  have hv : LatchFrame s v := (pltCase_latch ..).trans ((updPlt_leaves u _).spares rfl rfl)
  refine hv.trans (.ite ?_ (((updPlt_leaves ..).spares rfl rfl).trans (setLane_latch ..)))
  exact (laneCause_latch ..).trans <| (setLane_latch ..).trans (ucodeLost_latch ..)

theorem latchLanes_latch (s : State) : LatchFrame s (latchLanes s) := by
  refine .foldl (fun s k => ?_) _ _
  extract_lets +onlyGivenNames u
  have hu : LatchFrame s u := (updPlt_leaves ..).spares rfl rfl
  refine hu.trans (.ite ?_ .refl)
  extract_lets +onlyGivenNames n v
  have hv : LatchFrame u v := (updPlt_leaves ..).spares rfl rfl
  exact hv.trans (.ite (copyFailed_latch ..) .refl)

theorem disagreeCount_latch (s : State) (k : Nat) : LatchFrame s (s.inc (disFld k)) := by
  refine State.inc_spares _ _ _ _ ?_
  unfold disFld
  split <;> rfl

theorem disagree_latch (s : State) (k cls value : Nat) : LatchFrame s (disagree s k cls value).1 := by
  unfold disagree
  extract_lets +onlyGivenNames lim l u hit
  have hu : LatchFrame s u := (disagreeCount_latch ..).trans ((updPlt_leaves ..).spares rfl rfl)
  split
  · exact hu
  · exact hu.trans (pltCase_latch ..)

theorem lanesLost_latch (s : State) : LatchFrame s (lanesLost s) :=
  .ite ((pltCase_latch ..).trans (enterFault_latch ..)) .refl

theorem retireLane_latch (s : State) (k cause : Nat) : LatchFrame s (retireLane s k cause) := by
  unfold retireLane
  refine .ite .refl ?_
  extract_lets +onlyGivenNames u v l w x
  have hu : LatchFrame s u := (laneCause_latch ..).trans <| (setLane_latch ..).trans (State.inc_spares _ _ _ _ rfl)
  have hw : LatchFrame u w := (pltCase_latch ..).trans ((updPlt_leaves v _).spares rfl rfl)
  have hx : LatchFrame w x := .ite ((laneCause_latch ..).trans (setLane_latch ..)) (.ite (setLane_latch ..) .refl)
  exact hu.trans <| hw.trans <| hx.trans <| ((dualHandover_leaves ..).spares rfl rfl).trans (lanesLost_latch ..)

/-! ### The reports of the voters (R284) -/

theorem voteReport_latch (s : State) (r : VoteReport) : LatchFrame s (voteReport s r) := by
  unfold voteReport
  extract_lets +onlyGivenNames u v w n x
  have hu : LatchFrame s u := (State.inc_spares _ _ _ _ rfl).trans (pltCase_latch ..)
  have hv : LatchFrame s v := by
    refine .ite .refl (hu.trans (.foldl (fun t k => .ite ?_ .refl) _ _))
    extract_lets +onlyGivenNames d
    have hd : LatchFrame t d.1 := ((updPlt_leaves ..).spares rfl rfl).trans (disagree_latch ..)
    exact hd.trans (.ite (retireLane_latch ..) .refl)
  have hx : LatchFrame v x := (State.inc_spares _ _ _ _ rfl).trans <| (pltCase_latch ..).trans
    ((putSplitRun_leaves ..).spares rfl rfl)
  refine hv.trans (.ite (hx.trans (.ite ?_ .refl)) ((putSplitRun_leaves ..).spares rfl rfl))
  exact (State.wr_spares _ _ _ _ rfl).trans ((setYield_leaves ..).spares rfl rfl)

theorem processReports_latch (s : State) : LatchFrame s (processReports s) := by
  unfold processReports
  extract_lets +onlyGivenNames l
  exact ((Leaves.set_fld s _).spares rfl rfl).trans (.foldl (fun _ _ => voteReport_latch ..) _ _)

/-! ### The latch (R64) -/

theorem applyTime_latch (s : State) (n at_ : Nat) : LatchFrame s (applyTime s n at_) := by
  unfold applyTime
  split
  · refine .ite ?_ .refl
    extract_lets +onlyGivenNames _ u
    have hu : LatchFrame s u := ((Leaves.set_ring s _).sparesCore rfl rfl).trans ((setStation_leaves ..).spares rfl rfl)
    exact hu.trans <| (State.wr_spares _ _ _ _ rfl).trans <| (State.wr_spares _ _ _ _ rfl).trans <|
      ((Leaves.set_rtc _ _).spares rfl rfl).trans (log_latch ..)
  · exact .refl

theorem afterChange_latch (s : State) (n : Nat) : LatchFrame s (afterChange s n) := by
  unfold afterChange
  split
  · exact .refl
  · extract_lets +onlyGivenNames lost _ u
    have hu : LatchFrame s u := ((Leaves.set_clk s _).spares rfl rfl).trans (State.wr_spares _ _ _ _ rfl)
    exact hu.trans (log_latch ..)

/-- The ring's record of the latch of cinch `n` at instant `at_`. -/
def latchMarked (s : State) (n at_ : Nat) : State :=
  { s with ring := { s.ring with
      cinch := n, latched := true, latching := true, lastLatch := at_, lastLocal := at_, localOn := true } }

theorem latchNow_latch (s : State) (n at_ kind bad : Nat) :
    LatchFrame (latchMarked s n at_) (latchNow s n at_ kind bad) := by
  unfold latchNow
  extract_lets +onlyGivenNames _ a b c t _ d e
  have hb : LatchFrame a b := (applyTime_latch ..).trans (afterChange_latch ..)
  have hc : LatchFrame b c := ((persistReg_leaves ..).spares rfl rfl).trans (latchPair_latch ..)
  have he : LatchFrame c e := ((Leaves.set_img c _).spares rfl rfl).trans <|
    (buildImage_build d ..).latch.trans (processReports_latch ..)
  exact hb.trans <| hc.trans <| .ite .refl (he.trans <| (openSnap_latch ..).trans (latchLanes_latch ..))

end Sys2Proof.Machine
end

section
/-!
The reports of the voters in STOP: no lane lost leads to FAULT (R274), so the image and the mode stand.
-/

namespace Sys2Proof.Machine

/-- What a report of the voters changes in STOP. -/
abbrev VoteFrame (s t : State) : Prop :=
  Moves [.sto, .int, .ring, .fld, .ana, .plt, .pair] (traceObjs ++ [F.objPLT_COUNT, F.objPLT_LANE])
    [F.SCN_MODE_CAUSE_PERSISTS] s t

/-- From a state in STOP the step stays within the voters' frame. -/
structure VotesInStop (s t : State) : Prop where
  frame : s.mode = mSTOP → VoteFrame s t

section
variable {ps : List Part} {os : List Nat} {a b c s t : State}

theorem VotesInStop.refl : VotesInStop s s := ⟨fun _ => .refl s⟩

theorem VotesInStop.trans (h : VotesInStop a b) (h' : VotesInStop b c) : VotesInStop a c :=
  ⟨fun hm => (h.frame hm).trans (h'.frame (((h.frame hm).rd F.SCN_MODE_MODE 0 rfl).trans hm))⟩

theorem VotesInStop.ite {d : Prop} [Decidable d] (h : VotesInStop s a) (h' : VotesInStop s b) :
    VotesInStop s (if d then a else b) := by
  split
  · exact h
  · exact h'

theorem VotesInStop.foldl {α : Type} {g : State → α → State} (h : ∀ s x, VotesInStop s (g s x)) (l : List α) (s : State) :
    VotesInStop s (l.foldl g s) := by
  induction l generalizing s with
  | nil => exact .refl
  | cons x l ih => exact (h s x).trans (ih _)

theorem Leaves.votes (h : Leaves ps os s t)
    (hp : ps.all ([.sto, .int, .ring, .fld, .ana, .plt, .pair].contains ·) = true)
    (ho : os.all ((traceObjs ++ [F.objPLT_COUNT, F.objPLT_LANE]).contains ·) = true) : VotesInStop s t :=
  ⟨fun _ => h.moves.one hp ho rfl⟩

/-- A write of a field of the voters' objects, or of CAUSE_PERSISTS. -/
theorem State.wr_votes (s : State) (f : Fld) (v i : Nat)
    (hf : fieldsWithin (traceObjs ++ [F.objPLT_COUNT, F.objPLT_LANE]) [F.SCN_MODE_CAUSE_PERSISTS] [f] = true) :
    VotesInStop s (s.wr f v i) := ⟨fun _ => (s.wr_moves f v i).one rfl rfl hf⟩

end

theorem updPlt_votes (s : State) (f : PltSt → PltSt) : VotesInStop s (updPlt s f) := (updPlt_leaves s f).votes rfl rfl

theorem pltCase_votes (i : Nat) (e : Nat × Nat) (lanes cls group value : Nat) (s : State) :
    VotesInStop s (pltCase i e lanes cls group value s) := (pltCase_leaves ..).votes rfl rfl

theorem disagree_votes (s : State) (k cls value : Nat) : VotesInStop s (disagree s k cls value).1 :=
  (disagree_leaves s k cls value).votes rfl rfl

theorem putSplitRun_votes (s : State) (g n : Nat) : VotesInStop s (putSplitRun s g n) :=
  (putSplitRun_leaves s g n).votes rfl rfl

theorem laneCause_votes (s : State) (k v : Nat) : VotesInStop s (s.wr (laneCauseFld k) v) := by
  refine s.wr_votes _ _ _ ?_
  unfold laneCauseFld
  split <;> rfl

theorem setLane_votes (s : State) (k v : Nat) : VotesInStop s (setLane s k v) := by
  unfold setLane
  extract_lets u
  have hu : VotesInStop s u := by
    refine s.wr_votes _ _ _ ?_
    unfold laneStFld
    split <;> rfl
  exact hu.trans <| (State.wr_votes _ _ _ _ rfl).trans (State.wr_votes _ _ _ _ rfl)

theorem lanesLost_votes (s : State) : VotesInStop s (lanesLost s) := by
  refine ⟨fun hm => ?_⟩
  rw [lanesLost, if_neg (by rw [hm]; exact fun h => absurd h.2 (by decide))]
  exact .refl s

theorem retireLane_votes (s : State) (k cause : Nat) : VotesInStop s (retireLane s k cause) := by
  unfold retireLane
  refine .ite .refl ?_
  extract_lets +onlyGivenNames u v l w x
  have hu : VotesInStop s u := (laneCause_votes ..).trans <| (setLane_votes ..).trans (State.wr_votes _ _ _ _ rfl)
  have hw : VotesInStop u w := (pltCase_votes ..).trans (updPlt_votes v _)
  have hx : VotesInStop w x := .ite ((laneCause_votes ..).trans (setLane_votes ..)) (.ite (setLane_votes ..) .refl)
  exact hu.trans <| hw.trans <| hx.trans <| ((dualHandover_leaves ..).votes rfl rfl).trans (lanesLost_votes ..)

theorem voteReport_votes (s : State) (r : VoteReport) : VotesInStop s (voteReport s r) := by
  unfold voteReport
  extract_lets +onlyGivenNames u v w n x
  have hu : VotesInStop s u := (State.wr_votes _ _ _ _ rfl).trans (pltCase_votes ..)
  have hv : VotesInStop s v := by
    refine .ite .refl (hu.trans (.foldl (fun t k => .ite ?_ .refl) _ _))
    extract_lets +onlyGivenNames d
    have hd : VotesInStop t d.1 := (updPlt_votes ..).trans (disagree_votes ..)
    exact hd.trans (.ite (retireLane_votes ..) .refl)
  have hx : VotesInStop v x := (State.wr_votes _ _ _ _ rfl).trans <| (pltCase_votes ..).trans (putSplitRun_votes ..)
  refine hv.trans (.ite (hx.trans (.ite ?_ .refl)) (putSplitRun_votes ..))
  exact (State.wr_votes _ _ _ _ rfl).trans ((setYield_leaves ..).votes rfl rfl)

theorem processReports_votes (s : State) : VotesInStop s (processReports s) := by
  unfold processReports
  extract_lets +onlyGivenNames l
  exact ((Leaves.set_fld s _).votes rfl rfl).trans (.foldl (fun _ _ => voteReport_votes ..) _ _)

end Sys2Proof.Machine
end

section
/-!
The commands of markers and latches (R63 to R66), each at the state that time has brought about.
-/

namespace Sys2Proof.Machine

/-! ### Markers (R63) -/

/-- A latch for cinch `n` at `at_` is announced at port `p`. -/
def dueAdded (s : State) (n at_ : Nat) (p : Port) (ann : Bool) : State :=
  let s := { s with img := { s.img with closedFor := some n } }
  { s with ring := { s.ring with due := s.ring.due ++ [⟨n, at_, p, ann⟩] } }

theorem dueAdded_moves (s : State) (n at_ : Nat) (p : Port) (ann : Bool) :
    Moves [.ring, .img] [] [] s (dueAdded s n at_ p ann) := by
  unfold dueAdded
  extract_lets +onlyGivenNames _ u
  have hu : Moves [.ring, .img] [] [] s u := (Leaves.set_img s _).moves.one rfl rfl rfl
  exact (Leaves.set_ring u _).moves.step hu rfl rfl rfl

/-- The first marker of a cinch beyond the last gives its latch. -/
theorem timedMarker_first {s : State} {p : Port} {n : Nat} {ann : Bool} (hn : after32 n s.ring.cinch = true)
    (hs : s.substFixed = false) (hd : ∀ d ∈ s.ring.due, d.cinch ≠ n) :
    timedMarker s p n ann = dueAdded s n (s.time.now + s.delay p) p ann := by
  have hfind : s.ring.due.find? (fun d => decide (d.cinch = n)) = none := by simpa using hd
  simp only [timedMarker, hn, hs, Bool.not_true, Bool.false_eq_true, and_false, if_false]
  unfold setDue
  simp only [hfind]
  rfl

section
variable {a : State} {p : Port} {lanes r0 r1 fl ck n : Nat} (hh : a.hears p = true) (hl : 3 ≤ lanes)
  (ht : a.timed = true) (hc : a.rd F.NRL_CYCLE_CYCLE ≠ 0)
include hh hl ht hc

theorem cinchMarker_timed :
    cinchMarker p lanes r0 r1 fl ck a =
      if decide (crc8 [r0, r1, fl] = ck) then
        timedMarker a p (nearest ((a.ring.cinch + 1) % 2 ^ 32) (r0 % 256 + 256 * (r1 % 256)))
          (decide (crc8 [r0, r1, fl] = ck) && fl.testBit 0)
      else timedMarker (a.inc F.NRL_CINCH_ERR_CINCH_NUMERR) p ((a.ring.cinch + 1) % 2 ^ 32) false := by
  have hno : ¬ (!a.hears p ∨ lanes < 3 ∨ a.rd F.NRL_CYCLE_CYCLE = 0) := by simp [hh, hc, hl]
  unfold cinchMarker
  rw [if_neg hno]
  simp only [ht, if_true]

theorem marker_gives_latch (hck : crc8 [r0, r1, fl] = ck)
    (hn : n = nearest ((a.ring.cinch + 1) % 2 ^ 32) (r0 % 256 + 256 * (r1 % 256))) (ha : after32 n a.ring.cinch = true)
    (hs : a.substFixed = false) (hd : ∀ d ∈ a.ring.due, d.cinch ≠ n) :
    let t := cinchMarker p lanes r0 r1 fl ck a
    t.ring.due = a.ring.due ++ [⟨n, a.time.now + a.delay p, p, fl.testBit 0⟩] ∧ t.img.closedFor = some n ∧
      Moves [.ring, .img] [] [] a t := by
  rw [cinchMarker_timed hh hl ht hc, ← hn, decide_eq_true hck, if_pos rfl, Bool.true_and, timedMarker_first ha hs hd]
  exact ⟨rfl, rfl, dueAdded_moves ..⟩

/-- A marker with a bad check byte stands for the next number. -/
theorem badMarker_counts (hck : crc8 [r0, r1, fl] ≠ ck) (hn : n = (a.ring.cinch + 1) % 2 ^ 32)
    (ha : after32 n a.ring.cinch = true) (hs : a.substFixed = false) (hd : a.ring.due = []) :
    let t := cinchMarker p lanes r0 r1 fl ck a
    t.ring.due = [⟨n, a.time.now + a.delay p, p, false⟩] ∧
      t.rd F.NRL_CINCH_ERR_CINCH_NUMERR =
        min (2 ^ F.NRL_CINCH_ERR_CINCH_NUMERR.width - 1) (a.rd F.NRL_CINCH_ERR_CINCH_NUMERR + 1) ∧
      Moves [.ring, .img] [] [F.NRL_CINCH_ERR_CINCH_NUMERR] a t := by
  have hinc := State.inc_moves a F.NRL_CINCH_ERR_CINCH_NUMERR 0 1
  have hdelay : (a.inc F.NRL_CINCH_ERR_CINCH_NUMERR).delay p = a.delay p := by
    cases p <;> exact hinc.rd _ _ rfl
  have hfixed : (a.inc F.NRL_CINCH_ERR_CINCH_NUMERR).substFixed = false := by
    rw [← hs]
    simp only [State.substFixed, State.latches, State.expected, State.timed, hinc.rd F.NRL_CYCLE_CYCLE 0 rfl,
      hinc.rd F.NRL_STATE_MOD_ST 0 rfl]
    rfl
  have hdue : (a.inc F.NRL_CINCH_ERR_CINCH_NUMERR).ring.due = [] := hd
  rw [cinchMarker_timed hh hl ht hc, ← hn, decide_eq_false hck, if_neg Bool.false_ne_true,
    timedMarker_first (s := a.inc F.NRL_CINCH_ERR_CINCH_NUMERR) ha hfixed (by rw [hdue]; simp)]
  refine ⟨?_, ?_, (dueAdded_moves ..).step (hinc.one rfl rfl rfl) rfl rfl rfl⟩
  · rw [dueAdded, hdue, hdelay]
    rfl
  · rw [(dueAdded_moves ..).rd _ _ rfl, State.rd_inc_same]

end

/-! ### The latch of a cinch (R64) and its substitute (R65) -/

/-- The parts and objects a latch changes. -/
def latchParts : List Part :=
  [.sto, .int, .ring, .time, .clk, .mbx, .img, .scn, .prg, .fld, .ana, .ang, .plt, .pair, .rtc, .sec]

theorem latchNow_moves (s : State) (n at_ kind bad : Nat) :
    Moves latchParts latchObjs latchFlds (latchMarked s n at_) (latchNow s n at_ kind bad) := by
  have hback : Leaves [.ring] [] (latchMarked s n at_) s := Leaves.set_ring (latchMarked s n at_) s.ring
  have hl : Leaves latchParts (latchObjs ++ latchFlds.map (·.obj)) (latchMarked s n at_) (latchNow s n at_ kind bad) :=
    (latchNow_leaves s n at_ kind bad).step (hback.one rfl rfl) rfl rfl
  exact (latchNow_latch s n at_ kind bad).moves hl (by decide)

/-- What the ring shows of a latch. -/
theorem latchNow_ring (s : State) (n at_ kind bad : Nat) :
    let r := (latchNow s n at_ kind bad).ring
    r.cinch = n ∧ r.latched = true ∧ r.lastLatch = at_ ∧ r.due = s.ring.due ∧ r.substRun = s.ring.substRun := by
  have h := (latchNow_latch s n at_ kind bad).1
  generalize latchNow s n at_ kind bad = t at h
  exact ⟨(congrArg RingSt.cinch h :), (congrArg RingSt.latched h :), (congrArg RingSt.lastLatch h :),
    (congrArg RingSt.due h :), (congrArg RingSt.substRun h :)⟩

theorem latchMarked_moves (s : State) (n at_ : Nat) : Moves [.ring] [] [] s (latchMarked s n at_) :=
  (Leaves.set_ring s _).moves

/-- JITTER counts a latch more than 2 µs from E. -/
def jitterCounted (s : State) (at_ : Nat) : State :=
  if s.ring.latching && decide (2000 < apart at_ s.expected) then s.inc F.NRL_CINCH_ERR_CINCH_JITTER else s

theorem jitterCounted_moves (s : State) (at_ : Nat) :
    Moves [] [] [F.NRL_CINCH_ERR_CINCH_JITTER] s (jitterCounted s at_) := .ite (State.inc_moves ..) (.refl s)

theorem jitterCounted_rd (s : State) (at_ : Nat) :
    (jitterCounted s at_).rd F.NRL_CINCH_ERR_CINCH_JITTER =
      if s.ring.latching = true ∧ 2000 < apart at_ s.expected then
        min (2 ^ F.NRL_CINCH_ERR_CINCH_JITTER.width - 1) (s.rd F.NRL_CINCH_ERR_CINCH_JITTER + 1)
      else s.rd F.NRL_CINCH_ERR_CINCH_JITTER := by
  unfold jitterCounted
  simp only [Bool.and_eq_true, decide_eq_true_eq]
  split
  · exact State.rd_inc_same ..
  · rfl

/-- The latch `d` is taken from those that are due. -/
def dueTaken (s : State) (d : DueLatch) (ds : List DueLatch) : State :=
  { s with ring := { s.ring with
      due := ds, substRun := 0, copyPort := some (otherPort d.port), copyAt := d.at_
      announced := if d.ann then some d.cinch else s.ring.announced } }

theorem dueTaken_moves (s : State) (d : DueLatch) (ds : List DueLatch) : Moves [.ring] [] [] s (dueTaken s d ds) :=
  (Leaves.set_ring s _).moves

theorem cinchLatch_due {a : State} {d : DueLatch} {ds : List DueLatch} (hd : a.ring.due = d :: ds)
    (ht : d.at_ ≤ a.time.now) (bad : Nat) :
    cinchLatch bad a = latchNow (dueTaken (jitterCounted a d.at_) d ds) d.cinch d.at_ 1 bad := by
  unfold cinchLatch
  rw [hd]
  exact if_neg (Nat.not_lt.mpr ht)

theorem cinch_latches {a : State} {d : DueLatch} {ds : List DueLatch} (hd : a.ring.due = d :: ds)
    (ht : d.at_ ≤ a.time.now) (bad : Nat) :
    let t := cinchLatch bad a
    t.ring.cinch = d.cinch ∧ t.ring.latched = true ∧ t.ring.lastLatch = d.at_ ∧ t.ring.due = ds ∧ t.ring.substRun = 0 ∧
      (t.rd F.NRL_CINCH_ERR_CINCH_JITTER =
        if a.ring.latching = true ∧ 2000 < apart d.at_ a.expected then
          min (2 ^ F.NRL_CINCH_ERR_CINCH_JITTER.width - 1) (a.rd F.NRL_CINCH_ERR_CINCH_JITTER + 1)
        else a.rd F.NRL_CINCH_ERR_CINCH_JITTER) ∧
      Moves latchParts latchObjs (F.NRL_CINCH_ERR_CINCH_JITTER :: latchFlds) a t := by
  rw [cinchLatch_due hd ht]
  obtain ⟨hcinch, hlatched, hat, hdue, hrun⟩ :=
    latchNow_ring (dueTaken (jitterCounted a d.at_) d ds) d.cinch d.at_ 1 bad
  have hlatch := latchNow_moves (dueTaken (jitterCounted a d.at_) d ds) d.cinch d.at_ 1 bad
  have hmark := latchMarked_moves (dueTaken (jitterCounted a d.at_) d ds) d.cinch d.at_
  have htake := dueTaken_moves (jitterCounted a d.at_) d ds
  have hcount := jitterCounted_moves a d.at_
  refine ⟨hcinch, hlatched, hat, hdue, hrun, ?_, ?_⟩
  · rw [hlatch.rd _ _ rfl, hmark.rd _ _ rfl, htake.rd _ _ rfl, jitterCounted_rd]
  · exact hlatch.step (hmark.step (htake.step (hcount.one rfl rfl rfl) rfl rfl rfl) rfl rfl rfl) rfl rfl rfl

/-- A substitute latch stands for cinch `n`: it is counted, and no copy of a marker is awaited. -/
def substCounted (s : State) (n : Nat) : State :=
  let s := s.inc F.NRL_CINCH_CNT_CINCH_SUBST
  let s := { s with ring := { s.ring with substRun := s.ring.substRun + 1, copyPort := none } }
  { s with img := { s.img with closedFor := some n } }

theorem substCounted_moves (s : State) (n : Nat) :
    Moves [.ring, .img] [] [F.NRL_CINCH_CNT_CINCH_SUBST] s (substCounted s n) := by
  unfold substCounted
  extract_lets +onlyGivenNames u _ v
  have hu : Moves [.ring, .img] [] [F.NRL_CINCH_CNT_CINCH_SUBST] s u := (State.inc_moves ..).one rfl rfl rfl
  have hv : Moves [.ring, .img] [] [F.NRL_CINCH_CNT_CINCH_SUBST] u v := (Leaves.set_ring u _).moves.one rfl rfl rfl
  exact (Leaves.set_img v _).moves.step (hu.trans hv) rfl rfl rfl

theorem substCounted_rd (s : State) (n : Nat) :
    (substCounted s n).rd F.NRL_CINCH_CNT_CINCH_SUBST =
      min (2 ^ F.NRL_CINCH_CNT_CINCH_SUBST.width - 1) (s.rd F.NRL_CINCH_CNT_CINCH_SUBST + 1) :=
  State.rd_inc_same s F.NRL_CINCH_CNT_CINCH_SUBST 0 1

theorem substitute_latches {a : State} (hs : a.substFixed = true) (he : a.expected ≤ a.time.now)
    (hr : a.ring.substRun < 2) (bad : Nat) :
    let t := substituteLatch bad a
    t.ring.cinch = (a.ring.cinch + 1) % 2 ^ 32 ∧ t.ring.lastLatch = a.expected ∧
      t.ring.substRun = a.ring.substRun + 1 ∧
      t.rd F.NRL_CINCH_CNT_CINCH_SUBST =
        min (2 ^ F.NRL_CINCH_CNT_CINCH_SUBST.width - 1) (a.rd F.NRL_CINCH_CNT_CINCH_SUBST + 1) ∧
      Moves latchParts latchObjs (F.NRL_CINCH_CNT_CINCH_SUBST :: latchFlds) a t := by
  have ht : substituteLatch bad a =
      latchNow (substCounted a ((a.ring.cinch + 1) % 2 ^ 32)) ((a.ring.cinch + 1) % 2 ^ 32) a.expected 3 bad :=
    if_pos ⟨hs, he, hr⟩
  rw [ht]
  generalize hn : (a.ring.cinch + 1) % 2 ^ 32 = n
  obtain ⟨hcinch, -, hat, -, hrun⟩ := latchNow_ring (substCounted a n) n a.expected 3 bad
  have hlatch := latchNow_moves (substCounted a n) n a.expected 3 bad
  have hmark := latchMarked_moves (substCounted a n) n a.expected
  have hcount := substCounted_moves a n
  refine ⟨hcinch, hat, hrun, ?_, ?_⟩
  · rw [hlatch.rd _ _ rfl, hmark.rd _ _ rfl, substCounted_rd]
  · exact hlatch.step (hmark.step (hcount.one rfl rfl rfl) rfl rfl rfl) rfl rfl rfl

end Sys2Proof.Machine
end

section
/-!
Latching that stops (R65), the local latch (R185 to R187) and PROBE (R569); the obligation on markers and latches.
-/

namespace Sys2Proof.Machine

/-! ### CINCH_LOST (R65) -/

/-- Latching stops and nothing is due: the ring and the register, before the report. -/
def latchingOff (s : State) : State :=
  let s := { s with ring := { s.ring with latching := false, due := [] } }
  s.wr F.NRL_CTRL_CINCH_LOST 1

theorem latchingOff_moves (s : State) : Moves [.ring] [] [F.NRL_CTRL_CINCH_LOST] s (latchingOff s) := by
  unfold latchingOff
  extract_lets +onlyGivenNames _ u
  exact (State.wr_moves u _ _ _).step ((Leaves.set_ring s _).moves.one rfl rfl rfl) rfl rfl rfl

/-- CINCH_LOST is recorded and its latch set. -/
def cinchLostReported (s : State) : State := setLatch 24 (log Ev.CINCH_LOST (leBytes 4 s.ring.cinch) s)

theorem cinchLostReported_trace (s : State) : Trace s (cinchLostReported s) := (trace_log ..).trans (trace_setLatch ..)

theorem stopLatching_stays {s : State} (hact : s.rd F.SCN_CFG_CINCH_LOST_ACT ≠ 1) :
    stopLatching s = persistReg (cinchLostReported (latchingOff s)) := by
  have hreport : (cinchLostReported (latchingOff s)).rd F.SCN_CFG_CINCH_LOST_ACT ≠ 1 := by
    rwa [(cinchLostReported_trace _).moves.rd _ _ rfl, (latchingOff_moves s).rd _ _ rfl]
  unfold stopLatching
  exact congrArg persistReg (if_neg hreport)

theorem persistReg_moves (s : State) : Moves [] [] [F.SCN_MODE_CAUSE_PERSISTS] s (persistReg s) := State.wr_moves ..

/-- A latch that is set reads as set. -/
theorem setLatch_latch24 (s : State) : (setLatch 24 s).latch 24 = true := by
  have hsync : ∀ (n : Nat) (u : State), (hostSync n u).rd (latchFld 24).1 = u.rd (latchFld 24).1 := fun n u =>
    (hostSync_leaves n u).2 _ _ _ (by decide)
  have hput : (putLatch s 24 true).rd (latchFld 24).1 =
      setBits (s.rd (latchFld 24).1) (latchFld 24).2 (latchFld 24).2 (b2n true) % 2 ^ (latchFld 24).1.width :=
    State.rd_wr_same ..
  rw [State.latch, setLatch, hsync, hput, Nat.testBit_mod_two_pow, setBits_testBit, if_pos rfl]
  rfl

theorem cinchLost_stops {a : State} (hs : a.substFixed = true) (hr : a.ring.substRun = 2)
    (hact : a.rd F.SCN_CFG_CINCH_LOST_ACT ≠ 1) :
    let t := cinchLost a
    t.rd F.NRL_CTRL_CINCH_LOST = 1 ∧ t.ring.latching = false ∧ t.ring.due = [] ∧ t.latch 24 = true ∧ t.mode = a.mode ∧
      Logged Ev.CINCH_LOST (leBytes 4 a.ring.cinch) a t ∧
      Moves traceParts traceObjs [F.NRL_CTRL_CINCH_LOST, F.SCN_MODE_CAUSE_PERSISTS] a t := by
  have ht : cinchLost a = persistReg (cinchLostReported (latchingOff a)) :=
    (if_pos ⟨hs, hr⟩).trans (stopLatching_stays hact)
  rw [ht]
  have hoff := latchingOff_moves a
  have htrace := (cinchLostReported_trace (latchingOff a)).moves
  have hreg := persistReg_moves (cinchLostReported (latchingOff a))
  have hcore : (persistReg (cinchLostReported (latchingOff a))).ring.core = (latchingOff a).ring.core :=
    (setLatch_core ..).trans (log_core ..)
  refine ⟨?_, (congrArg RingSt.latching hcore :), (congrArg RingSt.due hcore :), ?_, ?_, ?_, ?_⟩
  · rw [hreg.rd _ _ rfl, htrace.rd _ _ rfl]
    exact State.rd_wr_same ..
  · rw [State.latch, hreg.rd _ _ rfl]
    exact setLatch_latch24 _
  · rw [State.mode, hreg.rd _ _ rfl, htrace.rd _ _ rfl, hoff.rd _ _ rfl, State.mode]
  · exact (logged_log Ev.CINCH_LOST _ (latchingOff a)).within rfl (setLatch_grows ..)
  · exact hreg.step (htrace.step (hoff.one rfl rfl rfl) rfl rfl rfl) rfl rfl rfl

/-! ### The local latch (R185 to R187) -/

/-- What a latch of its own changes in a module in STOP. -/
def localParts : List Part := [.sto, .int, .ring, .time, .mbx, .img, .scn, .prg, .fld, .ana, .ang, .plt, .pair]
def localObjs : List Nat := traceObjs ++ [F.objAG_GSTAT, F.objPLT_COUNT, F.objPLT_LANE]
def localFlds : List Fld :=
  [F.ANG_EV_STATE, F.DG_CHSTAT_CLAMP, F.DG_CHSTAT_PRESENT, F.DG_COS_COS, F.DG_GSTAT_BC_V, F.DG_GSTAT_RATE,
    F.DG_GSTAT_WORD, F.IMG_STATUS_STAGE_FREE, F.IMG_STATUS_STALE_PEER, F.MBX_QUEUES_CQ_FREE, F.MBX_QUEUES_CR_FREE,
    F.MBX_USE_HANDLES_USED, F.MBX_USE_SESSIONS_OPEN, F.PLT_PSTATE_CONFLICTS, F.PLT_PSTATE_LEASED, F.PLT_PSTATE_ROLE,
    F.PRG_ACT_PENDING, F.SCN_MODE_CAUSE, F.SCN_MODE_CAUSE_PERSISTS, F.SCN_MODE_MODE, F.SCN_MODE_PENDING]

/-- The ring's record of a local latch at `b`. -/
def localMarked (s : State) (b : Nat) : State := { s with ring := { s.ring with lastLocal := b } }

theorem localMarked_moves (s : State) (b : Nat) : Moves [.ring] [] [] s (localMarked s b) := (Leaves.set_ring s _).moves

theorem buildImage_moves (s : State) (kind n time bad : Nat) :
    Moves localParts localObjs localFlds s (buildImage s kind n time bad) := by
  have hl : Leaves [.ring, .sto, .int, .img, .scn, .fld, .ana, .ang] (buildObjs ++ buildFlds.map (·.obj)) s
      (buildImage s kind n time bad) := (buildImage_leaves ..).one rfl rfl
  exact ((buildImage_build s kind n time bad).moves hl (by decide)).one rfl rfl rfl

theorem buildImage_kind (s : State) (kind n time bad : Nat) :
    let t := buildImage s kind n time bad
    t.img.latchKind = kind ∧ t.img.latchTime = time ∧ t.scn.t0Due = true := ⟨rfl, rfl, rfl⟩

section
variable {a : State} (hlocal : a.ring.localOn = true) (hper : 50 ≤ a.rd F.SCN_T_PERIOD 0)
  (hb : a.nextBoundary ≤ a.time.now) (hlatching : a.ring.latching = false) (hmode : a.mode = mSTOP)
  (himg : a.clk.image = true) (hdue : a.ring.due = []) (hboth : a.pair.both = false)
include hlocal hper hb hlatching hmode himg hdue hboth

theorem localLatch_builds (bad : Nat) :
    localLatch bad a = processReports (buildImage (localMarked a a.nextBoundary) 2 a.ring.cinch
      (a.stationAt a.nextBoundary) bad) := by
  have hgo : ¬ (!a.ring.localOn ∨ a.rd F.SCN_T_PERIOD 0 < 50 ∨ a.time.now < a.nextBoundary ∨
      (a.ring.latching ∧ a.expected ≤ a.nextBoundary) ∨ a.mode = mINIT ∨ !a.clk.image) := by
    simp [hlocal, hper, hb, hlatching, hmode, himg, mSTOP, mINIT]
  have hpair : boundaryPair (localMarked a a.nextBoundary) = localMarked a a.nextBoundary :=
    if_neg (by simp [localMarked, hboth])
  have hnear : (a.ring.due.any fun d => decide (d.at_ < a.nextBoundary + 50000)) = false := by rw [hdue]; rfl
  unfold localLatch
  extract_lets +onlyGivenNames b near _ u
  have hu : u = localMarked a a.nextBoundary := hpair
  rw [if_neg hgo, show near = false from hnear, if_neg Bool.false_ne_true, hu]
  rfl

theorem local_latches (bad : Nat) :
    let t := localLatch bad a
    t.ring.lastLocal = a.nextBoundary ∧ t.ring.cinch = a.ring.cinch ∧ t.img.latchKind = 2 ∧
      t.img.latchTime = a.stationAt a.nextBoundary ∧ t.scn.t0Due = true ∧ Moves localParts localObjs localFlds a t := by
  rw [localLatch_builds hlocal hper hb hlatching hmode himg hdue hboth]
  have hmark := localMarked_moves a a.nextBoundary
  have hbuild := buildImage_moves (localMarked a a.nextBoundary) 2 a.ring.cinch (a.stationAt a.nextBoundary) bad
  have hcore := (buildImage_build (localMarked a a.nextBoundary) 2 a.ring.cinch (a.stationAt a.nextBoundary) bad).1
  have hrest := (buildImage_build (localMarked a a.nextBoundary) 2 a.ring.cinch (a.stationAt a.nextBoundary) bad).2
  obtain ⟨hkind, htime, hdue0⟩ :=
    buildImage_kind (localMarked a a.nextBoundary) 2 a.ring.cinch (a.stationAt a.nextBoundary) bad
  generalize buildImage (localMarked a a.nextBoundary) 2 a.ring.cinch (a.stationAt a.nextBoundary) bad = u at *
  have hstop : u.mode = mSTOP := (hrest F.SCN_MODE_MODE 0 rfl).trans hmode
  have hvotes := (processReports_votes u).frame hstop
  have hring := (processReports_latch u).1.trans hcore
  have himg : (processReports u).img = u.img := hvotes.1.1 .img (by decide)
  have hscn : (processReports u).scn = u.scn := hvotes.1.1 .scn (by decide)
  refine ⟨(congrArg RingSt.lastLocal hring :), (congrArg RingSt.cinch hring :), ?_, ?_, ?_, ?_⟩
  · rw [himg, hkind]
  · rw [himg, htime]
  · rw [hscn, hdue0]
  · exact hvotes.step (hbuild.step (hmark.one rfl rfl rfl) rfl rfl rfl) rfl rfl rfl

end

/-! ### PROBE (R569) -/

/-- The fields that hold a port's PROBE: its arrival and its ID. -/
def probeFlds : Port → Fld × Fld
  | .A => (F.NRL_PROBE_A_ARRIVAL, F.NRL_PROBE_ID_ID_A)
  | .B => (F.NRL_PROBE_B_ARRIVAL, F.NRL_PROBE_ID_ID_B)

theorem probe_stores {a : State} {p : Port} {b0 b1 b2 ck : Nat} (hh : a.hears p = true) (hck : crc8 [b0, b1, b2] = ck) :
    let t := probe p b0 b1 b2 ck a
    t.rd (probeFlds p).1 = (a.time.now - a.time.probeAt) % 2 ^ 32 ∧ t.rd (probeFlds p).2 = b0 % 256 ∧
      Moves [] [] [(probeFlds p).1, (probeFlds p).2] a t := by
  have ht : probe p b0 b1 b2 ck a =
      (a.wr (probeFlds p).1 ((a.time.now - a.time.probeAt) % 2 ^ 32)).wr (probeFlds p).2 b0 := by
    refine (if_pos ⟨hh, hck⟩).trans ?_
    cases p <;> rfl
  rw [ht]
  refine ⟨?_, ?_, ?_⟩
  · rw [State.rd_wr_ne _ _ _ _ _ _ (by cases p <;> decide), State.rd_wr_same,
      show (probeFlds p).1.width = 32 by cases p <;> rfl, Nat.mod_mod]
  · rw [State.rd_wr_same, show (probeFlds p).2.width = 8 by cases p <;> rfl]
    rfl
  · exact (State.wr_moves ..).step ((State.wr_moves ..).one rfl rfl (by cases p <;> rfl)) rfl rfl (by cases p <;> rfl)

/-! ### The obligation -/

/-- Settles O16: markers give latches through `setDue`, a latch keeps the core of the ring and its frame through
`latchNow_latch`, and in STOP the voters' reports leave the image. -/
theorem markersAndLatches : Obligations.MarkersAndLatches := by
  refine ⟨fun _ _ _ _ _ _ _ _ _ hh hl ht hc hck hn ha hs hd =>
      ⟨_, rfl, marker_gives_latch hh hl ht hc hck hn ha hs hd⟩,
    fun _ _ _ _ _ _ _ _ _ hh hl ht hc hck hn ha hs hd => ⟨_, rfl, badMarker_counts hh hl ht hc hck hn ha hs hd⟩,
    fun _ _ bad _ _ hd ht => ⟨_, rfl, ?_⟩,
    fun _ _ bad hs he hr => ⟨_, rfl, ?_⟩,
    fun _ _ hs hr hact => ⟨_, rfl, cinchLost_stops hs hr hact⟩,
    fun _ _ bad hlocal hper hb hlatching hmode himg hdue hboth _ =>
      ⟨_, rfl, local_latches hlocal hper hb hlatching hmode himg hdue hboth bad⟩,
    fun _ _ p _ _ _ _ hh hck => ⟨_, rfl, ?_⟩⟩
  · obtain ⟨hcinch, hlatched, hat, hdue, hrun, hjitter, hmoves⟩ := cinch_latches hd ht bad
    exact ⟨hcinch, hlatched, hat, hdue, hrun, hjitter, hmoves.one rfl rfl rfl⟩
  · obtain ⟨hcinch, hat, hrun, hcount, hmoves⟩ := substitute_latches hs he hr bad
    exact ⟨hcinch, hat, hrun, hcount, hmoves.one rfl rfl rfl⟩
  · cases p <;> exact probe_stores hh hck

end Sys2Proof.Machine
end

section
/-!
Two statements of the link that a concrete state refutes.
-/

namespace Sys2Proof.Machine

/-- A ring frame of type `typ` to every module, as NRL-5 lays it out, with correct CRCs. -/
def broadcastFrame (typ : Nat) (body : List Nat) : RxFrame :=
  let h := [typ, 0, 0xFF, 0] ++ leBytes 3 body.length ++ List.replicate 21 0
  let h := h ++ leBytes 4 (crc32 h)
  ⟨.A, h ++ body ++ leBytes 4 (crc32 (h ++ body)), false, false⟩

/-- A placed module at both ends of whose segments the link runs. -/
def State.onRing : State :=
  let s := ((State.reset.wr F.NRL_STATE_MOD_ST 3).wr F.NRL_CTRL_PA_ST pUP).wr F.NRL_STATE_PB_ST pUP
  { s with time := { s.time with link := true } }

/-- An MGMT_W that asks for 5 in NRL.CYCLE at cinch 1: CYCLE admits 0 and 100 to 1,000,000 (NRL-15). -/
def shortCycleWrite : RxFrame := broadcastFrame 4 (leBytes 2 0x10 ++ leBytes 2 1 ++ leBytes 4 1 ++ leBytes 4 5)

/-- Refutes O14: a write of NRL.CYCLE is held only when the value is one CYCLE admits; 5 is below 2^24 and refused. -/
theorem not_linkRegisters : ¬ Obligations.LinkRegisters := by
  rintro ⟨-, -, -, -, -, held, -⟩
  obtain ⟨t, ht, hheld, -⟩ := held .zero .onRing shortCycleWrite 5 1 (by decide +kernel) (by decide +kernel)
    (by decide +kernel) (by decide +kernel) (by decide) (by decide) (by decide) (by decide +kernel)
  obtain rfl : applyFrame (advance .zero .onRing) 4 shortCycleWrite (mgmtWrite shortCycleWrite.body) = t :=
    Host.Outcome.next.inj ht
  exact absurd hheld (by decide +kernel)

/-- The module of `State.onRing` with an active HOST source, a sub-record waiting, and 128 in NRL.POS.POS: the register
file of an arbitrary state is not bound to the six bits of the field. -/
def State.strayPos : State :=
  let s := (State.onRing.wr F.INT_SYS_EN 1).wr F.INT_SYS_TARGET 3
  let s := s.wrE F.INT_STATE_ST 0 (2 * 280) 2
  { s with regs := Table.insert s.regs (F.NRL_POS_POS.key 0 0) 128
           ring := { s.ring with subq := [.sub [7, 8]] } }

/-- A carrier that is empty. -/
def emptyCarrier : RxFrame := broadcastFrame 2 (List.replicate 64 0)

/-- Refutes O17: the clause on a sub-record that fits leaves the position unbound, as its neighbours do not. At position
128 the ATTNMAP mark falls on byte 16 of the body, which is FILL. -/
theorem not_framesServed : ¬ Obligations.FramesServed := by
  rintro ⟨-, fits, -⟩
  obtain ⟨t, ht, -, ⟨x, htx, -, hfill, -⟩, -⟩ := fits .zero .strayPos emptyCarrier [7, 8] (by decide +kernel)
    (by decide +kernel) (by decide +kernel) (by decide +kernel) (by decide +kernel) (by decide +kernel) (by decide)
    (by decide +kernel)
  obtain rfl : carrier emptyCarrier (advance .zero .strayPos) = t := Host.Outcome.next.inj ht
  have hsent : ((carrier emptyCarrier (advance .zero .strayPos)).ring.lastTx.map fun x => leAt x.bytes 48 4) = [3] := by
    decide +kernel
  rw [htx, List.map_singleton, List.singleton_inj, hfill] at hsent
  exact absurd hsent (by decide +kernel)

end Sys2Proof.Machine
end

section
/-!
Clocks: what the frame calculus and the recorder still need for them, the ports that go DOWN or train, and the events of
CLK.EVENTS.
-/

namespace Sys2Proof.Machine

/-! ### Frames -/

section
variable {ps : List Part} {os us : List Nat} {ws vs : List Fld} {s t : State}

theorem Moves.foldl {α : Type} {g : State → α → State} (h : ∀ s x, Moves ps os ws s (g s x)) (l : List α) (s : State) :
    Moves ps os ws s (l.foldl g s) := by
  induction l generalizing s with
  | nil => exact .refl s
  | cons x l ih => exact (h s x).trans (ih _)

/-- What a step leaves by its objects narrows what it spares. -/
theorem Spares.movesWithin {rs : List Nat} (h : Spares os ws s t) (hl : Leaves ps us s t)
    (ho : os.all (fun o => rs.contains o || !us.contains o) = true)
    (hw : ws.all (fun w => rs.contains w.obj || vs.contains w || !us.contains w.obj) = true)
    (hu : us.all ((rs ++ vs.map (·.obj)).contains ·) = true) : Moves ps rs vs s t := by
  refine ⟨hl.mono (fun _ x => x) fun x hx => by simpa using List.all_eq_true.mp hu x hx, fun f i _ hf hsep => ?_⟩
  by_cases hm : f.obj ∈ us
  · refine h.2 f i ?_
    simp only [fieldOutside, Bool.and_eq_true, Bool.not_eq_true', List.all_eq_true, Bool.or_eq_true, decide_eq_true_eq,
      List.contains_eq_mem, decide_eq_false_iff_not] at ho hw ⊢
    refine ⟨fun hos => (ho _ hos).elim hf fun x => x hm, fun w hwm => ?_⟩
    by_cases he : w.obj = f.obj
    · rcases hw w hwm with (h1 | h1) | h1
      · exact absurd (he ▸ h1) hf
      · exact .inr (hsep w h1 he)
      · exact absurd (he ▸ hm) h1
    · exact .inl he
  · exact hl.2 f i 0 hm

end

/-! ### The recorder -/

theorem log_grows (e : Nat × Nat) (arg : List Nat) (s : State) : BufGrows s (log e arg s) := by
  have hrec : BufGrows s (hostSync 37 (hostSync 5 (createRec s e arg))) :=
    (createRec_grows ..).trans <| (hostSync_grows ..).trans (hostSync_grows ..)
  unfold log
  split
  · exact List.prefix_refl _
  · split
    · exact List.prefix_refl _
    · extract_lets u
      exact .ite (hrec.trans (setLatch_grows ..)) (.ite (hrec.trans (setLatch_grows ..)) hrec)

/-- An event reported while the recorder's buffer is not full stands recorded. -/
theorem mem_log (e : Nat × Nat) (arg : List Nat) {s : State} (hs : s.sto.sealed = false) (hroom : s.bufCnt < 256) :
    ∃ r ∈ (log e arg s).sto.buf, r.code = e.1 ∧ r.sev = e.2 ∧ r.arg = slice arg 0 8 := by
  obtain ⟨q, hq⟩ := mem_createRec s e arg
  have hmem : s.mkRec e arg q ∈ (hostSync 37 (hostSync 5 (createRec s e arg))).sto.buf :=
    ((hostSync_grows ..).trans (hostSync_grows ..)).subset hq
  refine ⟨s.mkRec e arg q, ?_, rfl, rfl, rfl⟩
  unfold log
  rw [if_neg (by simp [hs]), if_neg (by omega)]
  extract_lets u
  split
  · exact (setLatch_grows ..).subset hmem
  · split
    · exact (setLatch_grows ..).subset hmem
    · exact hmem

/-- At most `n` records enter the buffer, and the recorder is sealed or open as before. -/
structure Records (n : Nat) (s t : State) : Prop where
  sealed : t.sto.sealed = s.sto.sealed
  count : t.bufCnt ≤ s.bufCnt + n

section
variable {n m : Nat} {a b c s t : State}

theorem Records.of_sto (h : t.sto = s.sto) : Records n s t := ⟨by rw [h], by rw [State.bufCnt, h]; exact Nat.le_add_right ..⟩

theorem Records.trans (h : Records n a b) (h' : Records m b c) : Records (n + m) a c :=
  ⟨h'.sealed.trans h.sealed, by have := h.count; have := h'.count; omega⟩

theorem Records.mono (h : Records n a b) (hn : n ≤ m) : Records m a b := ⟨h.sealed, h.count.trans (by omega)⟩

theorem Records.ite {d : Prop} [Decidable d] (h : Records n s a) (h' : Records n s b) : Records n s (if d then a else b) := by
  split
  · exact h
  · exact h'

end

theorem pushRec_records (s : State) (r : Rec) : Records 1 s (pushRec s r) := by
  refine ⟨rfl, ?_⟩
  exact (List.length_append (as := s.sto.buf) (bs := [r])).le

theorem reserveCheck_records (s : State) : Records 0 s (reserveCheck s) := by
  unfold reserveCheck
  refine .ite ?_ (.of_sto rfl)
  extract_lets r
  exact .ite ⟨rfl, Nat.le_refl _⟩ (.of_sto rfl)

theorem createRec_records (s : State) (e : Nat × Nat) (arg : List Nat) : Records 1 s (createRec s e arg) := by
  unfold createRec
  split
  · extract_lets n
    exact ((pushRec_records ..).trans (.of_sto (n := 0) (State.wr_sto ..))).trans (reserveCheck_records _)
  · exact pushRec_records ..

theorem stormCount_records (s : State) (n : Nat) : Records 1 s (stormCount s n) := by
  unfold stormCount
  extract_lets +onlyGivenNames c _ u m
  have hu : u.sto = s.sto := rfl
  exact .ite ((Records.of_sto (n := 0) (by simp [hu])).trans (createRec_records ..)) (.of_sto hu)

theorem srcEdge_records (s : State) (n : Nat) (rise : Bool) : Records 1 s (srcEdge s n rise) := by
  unfold srcEdge
  refine .ite (.of_sto (by simp)) (.ite (.ite ?_ (.of_sto (by simp))) ?_)
  · exact (Records.of_sto (n := 0) (by simp)).trans (stormCount_records ..)
  · split <;> exact .of_sto (by simp)

theorem hostSync_records (n : Nat) (s : State) : Records 1 s (hostSync n s) := by
  unfold hostSync
  refine .ite (.of_sto rfl) ?_
  extract_lets +onlyGivenNames c
  refine .ite (.of_sto rfl) ?_
  extract_lets +onlyGivenNames _ u
  have hu : Records 0 s u := .of_sto rfl
  exact (hu.trans (srcEdge_records u n c)).trans (.of_sto (n := 0) ((attnCheck_leaves _).1 .sto (by decide)))

theorem setLatch_records (b : Nat) (s : State) : Records 1 s (setLatch b s) :=
  (Records.of_sto (n := 0) (State.putLatch_sto ..)).trans (hostSync_records ..)

theorem log_records (e : Nat × Nat) (arg : List Nat) (s : State) : Records 4 s (log e arg s) := by
  have hrec : Records 3 s (hostSync 37 (hostSync 5 (createRec s e arg))) :=
    ((createRec_records ..).trans (hostSync_records ..)).trans (hostSync_records ..)
  unfold log
  refine .ite (.of_sto rfl) (.ite ⟨rfl, Nat.le_add_right ..⟩ ?_)
  extract_lets u
  exact .ite (hrec.trans (setLatch_records ..)) (.ite (hrec.trans (setLatch_records ..)) (hrec.mono (by decide)))

/-! ### Ports that go DOWN or train -/

/-- The state and wrap bits of both ports. -/
def portStFlds : List Fld := [F.NRL_CTRL_PA_ST, F.NRL_STATE_PB_ST, F.NRL_STATE_WRAP_A, F.NRL_STATE_WRAP_B]

section
variable (s : State) (p : Port) (v : Nat)

theorem setPort_records : Records 5 s (setPort s p v) := by
  by_cases h : s.port p = v
  · rw [setPort, if_pos h]
    exact .of_sto rfl
  · rw [setPort_of_ne h]
    have hlog : Records 4 s (log Ev.PORT_STATE [portNo p, v] (portShown s p v)) :=
      (Records.of_sto (n := 0) (portShown_sto s p v)).trans (log_records ..)
    refine .ite ?_ (hlog.mono (by decide))
    exact (hlog.trans (.of_sto (n := 0) ((heal_leaves _ p).1 .sto (by decide)))).trans (setLatch_records ..)

theorem setPort_grows : BufGrows s (setPort s p v) := by
  by_cases h : s.port p = v
  · rw [setPort, if_pos h]
    exact List.prefix_refl _
  · rw [setPort_of_ne h]
    have hlog : BufGrows s (log Ev.PORT_STATE [portNo p, v] (portShown s p v)) :=
      BufGrows.trans (.of_sto (portShown_sto s p v)) (log_grows ..)
    refine .ite ?_ hlog
    exact hlog.trans <| BufGrows.trans (.of_sto ((heal_leaves _ p).1 .sto (by decide))) (setLatch_grows ..)

variable {v}

/-- A port that neither faults nor comes UP moves its state and its wrap bit alone. -/
theorem setPort_still (hf : v ≠ pFAULTED) (hu : v ≠ pUP) : Moves traceParts traceObjs portStFlds s (setPort s p v) := by
  by_cases h : s.port p = v
  · rw [setPort, if_pos h]
    exact .refl s
  · have hshown : portShown s p v = portWritten s p v := by
      unfold portShown
      simp only [if_neg hf, hu, false_and, if_false]
    have hw := (portWritten_moves s p v).one (us := traceObjs) (vs := portStFlds) (qs := traceParts) rfl rfl
      (by cases p <;> rfl)
    exact .after (hshown ▸ setPort_trace h) hw rfl rfl

theorem setPort_reads (hv : v < 16) : (setPort s p v).port p = v := by
  by_cases h : s.port p = v
  · rw [setPort, if_pos h, h]
  · exact setPort_port h hv

end

theorem portsDown_moves (s : State) : Moves traceParts traceObjs portStFlds s (portsDown s) := by
  have hA := setPort_still s .A (v := pDOWN) (by decide) (by decide)
  exact .ite hA (hA.trans (setPort_still _ .B (by decide) (by decide)))

theorem portsDown_records (s : State) : Records 10 s (portsDown s) :=
  .ite ((setPort_records s .A pDOWN).mono (by decide)) ((setPort_records ..).trans (setPort_records ..))

theorem portsDown_grows (s : State) : BufGrows s (portsDown s) :=
  .ite (setPort_grows ..) ((setPort_grows s .A pDOWN).trans (setPort_grows ..))

theorem portsDown_portA (s : State) : (portsDown s).port .A = pDOWN := by
  have hA := setPort_reads s .A (v := pDOWN) (by decide)
  unfold portsDown
  extract_lets u
  split
  · exact hA
  · by_cases h : u.port .B = pDOWN
    · rwa [setPort, if_pos h]
    · exact (setPort_other h).trans hA

/-! ### CLK.EVENTS -/

section
variable (f : Fld) (s : State)

theorem clockEvent_trace : Trace (s.wr f 1) (clockEvent f s) := (trace_log ..).trans (trace_hostSync ..)

theorem clockEvent_moves : Moves traceParts traceObjs [f] s (clockEvent f s) :=
  .after (clockEvent_trace f s) ((State.wr_moves ..).one rfl rfl (by simp [fieldsWithin])) rfl rfl

theorem clockEvent_rd (ho : f.obj ∉ traceObjs) (hw : 0 < f.width) : (clockEvent f s).rd f = 1 := by
  rw [State.rd, (clockEvent_trace f s).2 f 0 0 ho]
  exact (State.rd_wr_same ..).trans (Nat.mod_eq_of_lt (Nat.one_lt_two_pow hw.ne'))

theorem clockEvent_logged : Logged Ev.CLOCK_EVENT (leBytes 4 (2 ^ f.lo)) s (clockEvent f s) :=
  (logged_log Ev.CLOCK_EVENT _ (s.wr f 1)).within rfl (hostSync_grows ..)

theorem clockEvent_grows : BufGrows s (clockEvent f s) :=
  BufGrows.trans (.of_sto (State.wr_sto s f 1 0)) <| (log_grows ..).trans (hostSync_grows ..)

theorem clockEvent_core : (clockEvent f s).ring.core = s.ring.core := by
  rw [clockEvent, hostSync_core, log_core, State.wr_ring]

/-- An event of CLK.EVENTS after at most 31 other records. -/
theorem clockEvent_logged_after {f : Fld} {s u : State} (h : Records 31 s u) :
    Logged Ev.CLOCK_EVENT (leBytes 4 (2 ^ f.lo)) s (clockEvent f u) := by
  intro hs hroom
  have hc := h.count
  obtain ⟨r, hr, hcode⟩ := mem_log Ev.CLOCK_EVENT (leBytes 4 (2 ^ f.lo)) (s := u.wr f 1) (h.sealed.trans hs)
    (show u.bufCnt < 256 by omega)
  exact ⟨r, (hostSync_grows ..).subset hr, hcode⟩

end

end Sys2Proof.Machine
end

section
/-!
Gates that close (R84, R85, R92) and the bridge that follows: what each leaves, and what a loss of LCLK brings about.
-/

namespace Sys2Proof.Machine

/-! ### Gates close -/

theorem closeLane_of_open {s : State} (h : s.clk.lane = true) :
    closeLane s = persistReg (stopRunTicks { s with clk := { s.clk with lane := false, laneFrom := some s.time.xt } }) :=
  if_neg (by simp [h])

theorem closeLane_of_closed {s : State} (h : s.clk.lane = false) : closeLane s = s := if_pos (by simp [h])

/-- The clock unit with the LANE gates closed. -/
def ClkSt.laneClosed (c : ClkSt) (xt : Nat) : ClkSt :=
  if c.lane = true then { c with lane := false, laneFrom := some xt } else c

theorem closeLane_clk (s : State) : (closeLane s).clk = s.clk.laneClosed s.time.xt := by
  cases h : s.clk.lane with
  | true => rw [closeLane_of_open h, ClkSt.laneClosed, if_pos h]; rfl
  | false => rw [closeLane_of_closed h, ClkSt.laneClosed, if_neg (by simp [h])]

/-- The time bases but for the RUN ticks. -/
def TimeSt.bases (x : TimeSt) : TimeSt := { x with runAcc := 0, runFrom := none }

theorem closeLane_bases (s : State) : (closeLane s).time.bases = s.time.bases := by
  cases h : s.clk.lane with
  | true => rw [closeLane_of_open h]; rfl
  | false => rw [closeLane_of_closed h]

theorem closeLane_moves (s : State) : Moves [.time, .clk] [] [F.SCN_MODE_CAUSE_PERSISTS] s (closeLane s) := by
  cases h : s.clk.lane with
  | false =>
    rw [closeLane_of_closed h]
    exact .refl s
  | true =>
    rw [closeLane_of_open h]
    exact (persistReg_moves _).step ((stopRunTicks_leaves _).moves.step
      ((Leaves.set_clk s _).moves.one rfl rfl rfl) rfl rfl rfl) rfl rfl rfl

theorem ClkSt.laneClosed_lane (c : ClkSt) (xt : Nat) : (c.laneClosed xt).lane = false := by
  unfold laneClosed
  split
  · rfl
  · exact Bool.eq_false_of_not_eq_true ‹_›

theorem ClkSt.laneClosed_clocks (c : ClkSt) (xt : Nat) : (c.laneClosed xt).clkA = c.clkA ∧ (c.laneClosed xt).clkB = c.clkB := by
  unfold laneClosed
  split <;> exact ⟨rfl, rfl⟩

/-- The clock unit with every gate closed that a PLL feeds. -/
def ClkSt.gatesClosed (c : ClkSt) (xt : Nat) : ClkSt :=
  { c.laneClosed xt with supv := false, image := false, event := false, bypass := true }

/-- Every gate that a PLL feeds closes (R84). -/
def gatesClosed (s : State) : State := closeLink (closeEvent (closeSys (closeLane s)))

theorem gatesClosed_clk (s : State) : (gatesClosed s).clk = s.clk.gatesClosed s.time.xt := by
  rw [ClkSt.gatesClosed, ← closeLane_clk]
  rfl

theorem gatesClosed_bases (s : State) : (gatesClosed s).time.bases = { s.time.bases with link := false } := by
  have h : (gatesClosed s).time.bases = { (closeLane s).time.bases with link := false } := rfl
  rw [h, closeLane_bases]

theorem gatesClosed_moves (s : State) :
    Moves [.time, .ring, .clk, .mbx] [] [F.SCN_MODE_CAUSE_PERSISTS] s (gatesClosed s) :=
  (closeLink_leaves _).moves.step ((closeEvent_leaves _).moves.step ((closeSys_leaves _).moves.step
    ((closeLane_moves s).one rfl rfl rfl) rfl rfl rfl) rfl rfl rfl) rfl rfl rfl

/-! ### The link after a loss, calibrations given up -/

/-- Latching stops, at first and locally. -/
def latchingEnds (s : State) : State := { s with ring := { s.ring with latching := false, localOn := false } }

theorem latchingEnds_moves (s : State) : Moves [.ring] [] [] s (latchingEnds s) := (Leaves.set_ring s _).moves

theorem lostLink_eq (s : State) :
    lostLink s = persistReg (latchingEnds
      ((s.wr F.NRL_STATE_MOD_ST (if s.placed then 3 else 0)).wr F.CLK_START_TIMED 0)) := rfl

theorem lostLink_moves (s : State) :
    Moves [.ring] [] [F.NRL_STATE_MOD_ST, F.CLK_START_TIMED, F.SCN_MODE_CAUSE_PERSISTS] s (lostLink s) :=
  (persistReg_moves _).step ((latchingEnds_moves _).step ((State.wr_moves ..).step
    ((State.wr_moves ..).one rfl rfl rfl) rfl rfl rfl) rfl rfl rfl) rfl rfl rfl

theorem lostLink_modSt (s : State) : (lostLink s).rd F.NRL_STATE_MOD_ST = if s.placed then 3 else 0 := by
  rw [lostLink_eq, (persistReg_moves _).rd _ _ rfl, (latchingEnds_moves _).rd _ _ rfl,
    (State.wr_moves _ F.CLK_START_TIMED _ _).rd _ _ rfl, State.rd_wr_same]
  split <;> rfl

theorem putSlice_moves (s : State) (g k st pos cause : Nat) :
    Moves [.ana] [] [F.AG_CS_STATE, F.AG_CS_POS, F.AG_CS_CAUSE] s (putSlice s g k st pos cause) := by
  unfold putSlice
  extract_lets i u
  have hu : Moves [.ana] [] [F.AG_CS_STATE, F.AG_CS_POS, F.AG_CS_CAUSE] s u :=
    (State.wr_moves ..).step ((State.wr_moves ..).step ((State.wr_moves ..).one rfl rfl rfl) rfl rfl rfl) rfl rfl rfl
  exact .ite hu ((Leaves.set_ana u _).moves.step hu rfl rfl rfl)

/-- What a calibration given up moves. -/
abbrev CalMoves (s t : State) : Prop := Moves [.ana, .free] [] [F.AG_CS_STATE, F.AG_CS_POS, F.AG_CS_CAUSE] s t

theorem abandonCal_moves (s : State) (g : Nat) : CalMoves s (abandonCal s g) := by
  unfold abandonCal
  extract_lets r
  split
  · exact .refl s
  · rename_i k _
    extract_lets u
    have hu : CalMoves s u := .ite ((putSlice_moves ..).one rfl rfl rfl) ((putSlice_moves ..).one rfl rfl rfl)
    exact (slicesFollow_leaves _ g).moves.step ((nextWait_leaves _ g).moves.step
      ((updRot_leaves u g _).moves.step hu rfl rfl rfl) rfl rfl rfl) rfl rfl rfl

/-- The calibrations of every group are given up. -/
def calsAbandoned (s : State) : State := (List.range 4).foldl (fun s g => abandonCal s g) s

theorem calsAbandoned_moves (s : State) : CalMoves s (calsAbandoned s) := .foldl abandonCal_moves _ s

/-! ### Bridges -/

/-- The clock unit as a bridge begins at crystal period `xt`. -/
def ClkSt.bridged (c : ClkSt) (xt : Nat) : ClkSt := { c with bridgeFrom := some xt, bridgeAge := 0, bridgeLong := false }

theorem beginBridge_clk (s : State) : (beginBridge s).clk = s.clk.bridged s.time.xt := rfl

theorem beginBridge_phase (s : State) : (beginBridge s).rd F.CLK_STATUS_CLK_PHASE = 5 := State.rd_wr_same ..

theorem beginBridge_moves (s : State) : Moves [.clk] [] [F.CLK_STATUS_CLK_PHASE] s (beginBridge s) :=
  (State.wr_moves ..).step ((Leaves.set_clk s _).moves.one rfl rfl rfl) rfl rfl rfl

/-! ### A loss of LCLK (R84) -/

/-- The loss is reported, with the announcement that was missed (R94). -/
def lossReported (missed : Bool) (s : State) : State :=
  let s := clockEvent F.CLK_EVENTS_LCLK_LOST s
  if missed then clockEvent F.CLK_EVENTS_ANN_MISSED s else s

/-- A module that lost LCLK is not parked, and nothing is announced. -/
def changeForgotten (old : Nat) (s : State) : State :=
  let s := { s with clk := { s.clk with parked := false, badWindows := 0, oldLclk := old } }
  { s with ring := { s.ring with announced := none } }

/-- The gates close, the ports go DOWN, and calibrations are given up. -/
def linkEnds (s : State) : State := calsAbandoned (portsDown (lostLink (gatesClosed s)))

theorem loseLclk_eq {s : State} (missed : Bool) (hb : s.clk.bridgeFrom = none) (hl : s.time.link = true) :
    loseLclk missed s = beginBridge (changeForgotten ((lossReported missed s).rd F.CLK_STATUS_LCLK_NOM)
      (linkEnds (lossReported missed s))) := by
  unfold loseLclk
  rw [if_neg (by simp [hb, hl])]
  extract_lets +onlyGivenNames _ a old _ _ f
  have ha : a = lossReported missed s := rfl
  have hf : f = linkEnds a := rfl
  rw [← ha, ← hf]
  clear_value f
  rfl

theorem lossReported_moves (missed : Bool) (s : State) :
    Moves traceParts traceObjs [F.CLK_EVENTS_LCLK_LOST, F.CLK_EVENTS_ANN_MISSED] s (lossReported missed s) := by
  have h : Moves traceParts traceObjs [F.CLK_EVENTS_LCLK_LOST, F.CLK_EVENTS_ANN_MISSED] s
      (clockEvent F.CLK_EVENTS_LCLK_LOST s) := (clockEvent_moves ..).one rfl rfl rfl
  exact .ite ((clockEvent_moves ..).step h rfl rfl rfl) h

theorem lossReported_lost (missed : Bool) (s : State) : (lossReported missed s).rd F.CLK_EVENTS_LCLK_LOST = 1 := by
  have h : (clockEvent F.CLK_EVENTS_LCLK_LOST s).rd F.CLK_EVENTS_LCLK_LOST = 1 := clockEvent_rd _ _ (by decide) (by decide)
  cases missed with
  | false => exact h
  | true => exact ((clockEvent_moves ..).rd _ _ rfl).trans h

theorem lossReported_missed (missed : Bool) (s : State) : (lossReported missed s).rd F.CLK_EVENTS_ANN_MISSED =
    if missed = true then 1 else s.rd F.CLK_EVENTS_ANN_MISSED := by
  cases missed with
  | false => exact (clockEvent_moves ..).rd _ _ rfl
  | true => exact clockEvent_rd _ _ (by decide) (by decide)

theorem lossReported_logged (missed : Bool) (s : State) :
    Logged Ev.CLOCK_EVENT (leBytes 4 (2 ^ F.CLK_EVENTS_LCLK_LOST.lo)) s (lossReported missed s) :=
  (clockEvent_logged F.CLK_EVENTS_LCLK_LOST s).within rfl (.ite (clockEvent_grows ..) (List.prefix_refl _))

/-- The parts and fields that a loss of LCLK moves. -/
def lossParts : List Part := traceParts ++ [.time, .clk, .mbx, .ana, .free]
def lossFlds : List Fld :=
  [F.AG_CS_CAUSE, F.AG_CS_POS, F.AG_CS_STATE, F.CLK_EVENTS_ANN_MISSED, F.CLK_EVENTS_LCLK_LOST, F.CLK_START_TIMED,
    F.CLK_STATUS_CLK_PHASE, F.NRL_CTRL_PA_ST, F.NRL_STATE_MOD_ST, F.NRL_STATE_PB_ST, F.NRL_STATE_WRAP_A,
    F.NRL_STATE_WRAP_B, F.SCN_MODE_CAUSE_PERSISTS]

/-- The fields of a loss without those of CLK. -/
def linkEndFlds : List Fld :=
  [F.AG_CS_CAUSE, F.AG_CS_POS, F.AG_CS_STATE, F.CLK_START_TIMED, F.NRL_CTRL_PA_ST, F.NRL_STATE_MOD_ST,
    F.NRL_STATE_PB_ST, F.NRL_STATE_WRAP_A, F.NRL_STATE_WRAP_B, F.SCN_MODE_CAUSE_PERSISTS]

section
variable (s : State)

theorem portsDown_cals_moves : Moves (traceParts ++ [.ana, .free]) traceObjs (F.AG_CS_CAUSE :: F.AG_CS_POS ::
    F.AG_CS_STATE :: portStFlds) s (calsAbandoned (portsDown s)) :=
  (calsAbandoned_moves _).step ((portsDown_moves s).one rfl rfl rfl) rfl rfl rfl

theorem linkEnds_moves : Moves lossParts traceObjs linkEndFlds s (linkEnds s) :=
  (portsDown_cals_moves _).step ((lostLink_moves _).step ((gatesClosed_moves s).one rfl rfl rfl) rfl rfl rfl) rfl rfl rfl

theorem linkEnds_clk : (linkEnds s).clk = s.clk.gatesClosed s.time.xt := by
  rw [linkEnds, (portsDown_cals_moves _).1.1 .clk (by decide), (lostLink_moves _).1.1 .clk (by decide), gatesClosed_clk]

theorem linkEnds_bases : (linkEnds s).time.bases = { s.time.bases with link := false } := by
  rw [linkEnds, (portsDown_cals_moves _).1.1 .time (by decide), (lostLink_moves _).1.1 .time (by decide),
    gatesClosed_bases]

theorem linkEnds_modSt : (linkEnds s).rd F.NRL_STATE_MOD_ST = if s.placed = true then 3 else 0 := by
  have hplaced : (gatesClosed s).placed = s.placed := by
    rw [State.placed, (gatesClosed_moves s).rd _ _ rfl, State.placed]
  rw [linkEnds, (portsDown_cals_moves _).rd _ _ rfl, lostLink_modSt, hplaced]

theorem linkEnds_grows : BufGrows s (linkEnds s) := by
  have h : BufGrows s (lostLink (gatesClosed s)) :=
    .of_sto (((lostLink_moves _).1.1 .sto (by decide)).trans ((gatesClosed_moves s).1.1 .sto (by decide)))
  exact (h.trans (portsDown_grows _)).trans (.of_sto ((calsAbandoned_moves _).1.1 .sto (by decide)))

theorem changeForgotten_moves (old : Nat) : Moves [.clk, .ring] [] [] s (changeForgotten old s) := by
  unfold changeForgotten
  extract_lets +onlyGivenNames _ u
  exact (Leaves.set_ring u _).moves.step ((Leaves.set_clk s _).moves.one rfl rfl rfl) rfl rfl rfl

end

/-- What a loss of LCLK brings about; `missed` says that an announcement was missed. -/
structure LclkGone (missed : Bool) (s t : State) : Prop where
  gates : t.clk.lane = false ∧ t.clk.supv = false ∧ t.clk.image = false ∧ t.clk.event = false ∧ t.time.link = false
  clocks : t.clk.clkA = s.clk.clkA ∧ t.clk.clkB = s.clk.clkB
  bridge : t.clk.bridgeFrom = some s.time.xt
  phase : t.rd F.CLK_STATUS_CLK_PHASE = 5
  lost : t.rd F.CLK_EVENTS_LCLK_LOST = 1
  announced : t.rd F.CLK_EVENTS_ANN_MISSED = if missed = true then 1 else s.rd F.CLK_EVENTS_ANN_MISSED
  modSt : t.rd F.NRL_STATE_MOD_ST = if s.placed = true then 3 else 0
  logged : Logged Ev.CLOCK_EVENT (leBytes 4 (2 ^ F.CLK_EVENTS_LCLK_LOST.lo)) s t
  moves : Moves lossParts traceObjs lossFlds s t

theorem loseLclk_loses {s : State} (missed : Bool) (hb : s.clk.bridgeFrom = none) (hl : s.time.link = true) :
    LclkGone missed s (loseLclk missed s) := by
  have hreport := lossReported_moves missed s
  have hends := linkEnds_moves (lossReported missed s)
  have hclk := linkEnds_clk (lossReported missed s)
  have hbases := linkEnds_bases (lossReported missed s)
  have hmod := linkEnds_modSt (lossReported missed s)
  have hplaced : (lossReported missed s).placed = s.placed := by rw [State.placed, hreport.rd _ _ rfl, State.placed]
  rw [hreport.1.1 .clk (by decide), hreport.1.1 .time (by decide)] at hclk
  rw [hreport.1.1 .time (by decide)] at hbases
  have hlogged := (lossReported_logged missed s).within rfl (linkEnds_grows _)
  have hold : (lossReported missed s).rd F.CLK_STATUS_LCLK_NOM = s.rd F.CLK_STATUS_LCLK_NOM := hreport.rd _ _ rfl
  have hlost := (hends.rd F.CLK_EVENTS_LCLK_LOST 0 rfl).trans (lossReported_lost missed s)
  have hann := (hends.rd F.CLK_EVENTS_ANN_MISSED 0 rfl).trans (lossReported_missed missed s)
  have hmoves : Moves lossParts traceObjs lossFlds s (linkEnds (lossReported missed s)) :=
    hends.step (hreport.one rfl rfl rfl) rfl rfl rfl
  rw [loseLclk_eq missed hb hl, hold]
  generalize linkEnds (lossReported missed s) = u at *
  have hforget := changeForgotten_moves u (s.rd F.CLK_STATUS_LCLK_NOM)
  have hbridge := beginBridge_moves (changeForgotten (s.rd F.CLK_STATUS_LCLK_NOM) u)
  have hxt : u.time.xt = s.time.xt := (congrArg TimeSt.xt hbases :)
  exact {
    gates := by
      refine ⟨?_, (congrArg ClkSt.supv hclk :), (congrArg ClkSt.image hclk :), (congrArg ClkSt.event hclk :),
        (congrArg TimeSt.link hbases :)⟩
      exact (congrArg ClkSt.lane hclk :).trans (ClkSt.laneClosed_lane ..)
    clocks := by
      obtain ⟨hA, hB⟩ := s.clk.laneClosed_clocks s.time.xt
      exact ⟨(congrArg ClkSt.clkA hclk :).trans hA, (congrArg ClkSt.clkB hclk :).trans hB⟩
    bridge := congrArg some hxt
    phase := beginBridge_phase _
    lost := by rw [hbridge.rd _ _ rfl, hforget.rd _ _ rfl, hlost]
    announced := by rw [hbridge.rd _ _ rfl, hforget.rd _ _ rfl, hann]
    modSt := by rw [hbridge.rd _ _ rfl, hforget.rd _ _ rfl, hmod, hplaced]
    logged := hlogged.within rfl (.of_sto rfl)
    moves := hbridge.step (hforget.step hmoves rfl rfl rfl) rfl rfl rfl }

end Sys2Proof.Machine
end

section
/-!
Judging (R81, R83), the loss of LCLK of a parked module (R92), a reference switch (R79) and a lost lock (R83); the
obligation on them.
-/

namespace Sys2Proof.Machine

/-! ### Judging windows -/

theorem lclkOf_of_band {n lclk : Nat}
    (h : n = 3 ∧ 12085 ≤ lclk ∧ lclk ≤ 12329 ∨ n = 2 ∧ 6043 ≤ lclk ∧ lclk ≤ 6164 ∨ n = 1 ∧ 3022 ≤ lclk ∧ lclk ≤ 3082) :
    lclkOf lclk = some n := by
  simp only [lclkOf, inBand, Bool.and_eq_true, decide_eq_true_eq]
  obtain ⟨rfl, hlo, hhi⟩ | ⟨rfl, hlo, hhi⟩ | ⟨rfl, hlo, hhi⟩ := h
  · rw [if_pos ⟨hlo, hhi⟩]
  · rw [if_neg (by omega), if_pos ⟨hlo, hhi⟩]
  · rw [if_neg (by omega), if_neg (by omega), if_pos ⟨hlo, hhi⟩]

theorem lclkOf_of_outside {lclk : Nat}
    (h : (lclk < 12085 ∨ 12329 < lclk) ∧ (lclk < 6043 ∨ 6164 < lclk) ∧ (lclk < 3022 ∨ 3082 < lclk)) :
    lclkOf lclk = none := by
  simp only [lclkOf, inBand, Bool.and_eq_true, decide_eq_true_eq]
  rw [if_neg (by omega), if_neg (by omega), if_neg (by omega)]

section
variable {a : State} (hreset : a.clk.inReset = false) (hxtal : a.rd F.CLK_STATUS_XTAL_OK = 1)
  (hsubst : a.rd F.RTC_STATUS_XTAL_SUBST = 0) (lclk link lane sys : Nat)
include hreset hxtal hsubst

/-- The judge runs: the module is out of reset and its crystal oscillates. -/
theorem judge_runs : ¬ (a.clk.inReset ∨ !a.is F.CLK_STATUS_XTAL_OK ∨ a.is F.RTC_STATUS_XTAL_SUBST) := by
  simp [State.is, hreset, hxtal, hsubst]

theorem judgeWindow_identifies {n : Nat}
    (hphase : a.rd F.CLK_STATUS_CLK_PHASE = 0 ∨ a.rd F.CLK_STATUS_CLK_PHASE = 1) (hn : lclkOf lclk = some n) :
    judgeWindow lclk link lane sys a = laneFreq ((a.wr F.CLK_STATUS_LCLK_NOM n).wr F.CLK_STATUS_CLK_PHASE 2) := by
  have h5 : a.rd F.CLK_STATUS_CLK_PHASE ≠ 5 := by omega
  unfold judgeWindow
  simp only [if_neg (judge_runs hreset hxtal hsubst), hn, h5, false_and, or_false, if_pos hphase, if_false]

theorem judgeWindow_fails
    (hphase : a.rd F.CLK_STATUS_CLK_PHASE = 0 ∨ a.rd F.CLK_STATUS_CLK_PHASE = 1) (hn : lclkOf lclk = none) :
    judgeWindow lclk link lane sys a =
      (clockEvent F.CLK_EVENTS_JUDGE_FAIL (portsDown a)).wr F.CLK_STATUS_CLK_PHASE (if lclk = 0 then 0 else 1) := by
  have h5 : a.rd F.CLK_STATUS_CLK_PHASE ≠ 5 := by omega
  unfold judgeWindow
  simp only [if_neg (judge_runs hreset hxtal hsubst), hn, h5, or_false, if_pos hphase, if_false]

/-- A further window out of band is counted. -/
def badCounted (s : State) : State := { s with clk := { s.clk with badWindows := s.clk.badWindows + 1 } }

theorem judgeWindow_loses (hphase : a.rd F.CLK_STATUS_CLK_PHASE = 3)
    (hout : lclkOf lclk ≠ some (a.rd F.CLK_STATUS_LCLK_NOM)) (hann : a.ring.announced = none)
    (hpark : a.clk.parked = false) (hbad : 1 ≤ a.clk.badWindows) :
    judgeWindow lclk link lane sys a = loseLclk false (badCounted a) := by
  have h2 : 2 ≤ a.clk.badWindows + 1 := by omega
  have hn : (if (decide (lclkOf lclk ≠ some (a.rd F.CLK_STATUS_LCLK_NOM)) && !(a.ring.announced.isSome || a.clk.parked)) = true
      then a.clk.badWindows + 1 else 0) = a.clk.badWindows + 1 := if_pos (by simp [hout, hann, hpark])
  unfold judgeWindow
  extract_lets +onlyGivenNames phase failed out ann n _ u
  have hphase : phase = 3 := hphase
  have hn : n = a.clk.badWindows + 1 := hn
  have hu : u = badCounted a := by
    unfold u
    rw [hn]
    rfl
  clear_value phase n u
  rw [if_neg (judge_runs hreset hxtal hsubst), if_neg (by omega), if_pos (.inl hphase), if_pos (by omega), hu]

theorem window_identifies {n : Nat}
    (hphase : a.rd F.CLK_STATUS_CLK_PHASE = 0 ∨ a.rd F.CLK_STATUS_CLK_PHASE = 1)
    (hn : n = 3 ∧ 12085 ≤ lclk ∧ lclk ≤ 12329 ∨ n = 2 ∧ 6043 ≤ lclk ∧ lclk ≤ 6164 ∨ n = 1 ∧ 3022 ≤ lclk ∧ lclk ≤ 3082) :
    let t := judgeWindow lclk link lane sys a
    t.rd F.CLK_STATUS_LCLK_NOM = n ∧ t.rd F.CLK_STATUS_CLK_PHASE = 2 ∧
      (t.rd F.CLK_STATUS_LANE_CLK = if n = 3 then a.rd F.PWR_PLAN_LANE_STEP % 2 ^ F.CLK_STATUS_LANE_CLK.width else 4) ∧
      Moves [] [] [F.CLK_STATUS_LCLK_NOM, F.CLK_STATUS_CLK_PHASE, F.CLK_STATUS_LANE_CLK] a t := by
  have h4 : n < 2 ^ F.CLK_STATUS_LCLK_NOM.width := by
    rw [show F.CLK_STATUS_LCLK_NOM.width = 2 from rfl]
    omega
  rw [judgeWindow_identifies hreset hxtal hsubst lclk link lane sys hphase (lclkOf_of_band hn), laneFreq]
  generalize hu : (a.wr F.CLK_STATUS_LCLK_NOM n).wr F.CLK_STATUS_CLK_PHASE 2 = u
  have hwr : Moves [] [] [F.CLK_STATUS_LCLK_NOM, F.CLK_STATUS_CLK_PHASE] a u :=
    hu ▸ (State.wr_moves ..).step ((State.wr_moves ..).one rfl rfl rfl) rfl rfl rfl
  have hnom : u.rd F.CLK_STATUS_LCLK_NOM = n := by
    rw [← hu, (State.wr_moves ..).rd _ _ rfl, State.rd_wr_same, Nat.mod_eq_of_lt h4]
  have hphase2 : u.rd F.CLK_STATUS_CLK_PHASE = 2 := hu ▸ State.rd_wr_same ..
  have hstep : u.rd F.PWR_PLAN_LANE_STEP = a.rd F.PWR_PLAN_LANE_STEP := hwr.rd _ _ rfl
  have hlane := State.wr_moves u F.CLK_STATUS_LANE_CLK
    (if u.rd F.CLK_STATUS_LCLK_NOM = 3 then u.rd F.PWR_PLAN_LANE_STEP else 4) 0
  refine ⟨(hlane.rd _ _ rfl).trans hnom, (hlane.rd _ _ rfl).trans hphase2, ?_, hlane.step (hwr.one rfl rfl rfl) rfl rfl rfl⟩
  rw [State.rd_wr_same, hnom, hstep]
  split <;> rfl

theorem window_fails
    (hphase : a.rd F.CLK_STATUS_CLK_PHASE = 0 ∨ a.rd F.CLK_STATUS_CLK_PHASE = 1)
    (hn : (lclk < 12085 ∨ 12329 < lclk) ∧ (lclk < 6043 ∨ 6164 < lclk) ∧ (lclk < 3022 ∨ 3082 < lclk)) :
    let t := judgeWindow lclk link lane sys a
    t.rd F.CLK_EVENTS_JUDGE_FAIL = 1 ∧ (t.rd F.CLK_STATUS_CLK_PHASE = if lclk = 0 then 0 else 1) ∧ t.port .A = pDOWN ∧
      Logged Ev.CLOCK_EVENT (leBytes 4 (2 ^ F.CLK_EVENTS_JUDGE_FAIL.lo)) a t ∧
      Moves traceParts traceObjs [F.CLK_EVENTS_JUDGE_FAIL, F.CLK_STATUS_CLK_PHASE, F.NRL_CTRL_PA_ST, F.NRL_STATE_PB_ST,
        F.NRL_STATE_WRAP_A, F.NRL_STATE_WRAP_B] a t := by
  rw [judgeWindow_fails hreset hxtal hsubst lclk link lane sys hphase (lclkOf_of_outside hn)]
  have hports := portsDown_moves a
  have hevent := clockEvent_moves F.CLK_EVENTS_JUDGE_FAIL (portsDown a)
  have hphase' := State.wr_moves (clockEvent F.CLK_EVENTS_JUDGE_FAIL (portsDown a)) F.CLK_STATUS_CLK_PHASE
    (if lclk = 0 then 0 else 1) 0
  refine ⟨?_, ?_, ?_, ?_, ?_⟩
  · rw [hphase'.rd _ _ rfl, clockEvent_rd _ _ (by decide) (by decide)]
  · rw [State.rd_wr_same]
    split <;> rfl
  · rw [State.port, hphase'.rd _ _ rfl, hevent.rd _ _ rfl]
    exact portsDown_portA a
  · exact (clockEvent_logged_after ((portsDown_records a).mono (by decide))).within rfl (.of_sto rfl)
  · exact hphase'.step (hevent.step (hports.one rfl rfl rfl) rfl rfl rfl) rfl rfl rfl

theorem window_loses (hphase : a.rd F.CLK_STATUS_CLK_PHASE = 3)
    (hout : lclkOf lclk ≠ some (a.rd F.CLK_STATUS_LCLK_NOM)) (hann : a.ring.announced = none)
    (hpark : a.clk.parked = false) (hbad : 1 ≤ a.clk.badWindows) (hb : a.clk.bridgeFrom = none) (hl : a.time.link = true) :
    LclkGone false a (judgeWindow lclk link lane sys a) := by
  rw [judgeWindow_loses hreset hxtal hsubst lclk link lane sys hphase hout hann hpark hbad]
  have hcount : Moves [.clk] [] [] a (badCounted a) := (Leaves.set_clk a _).moves
  have h := loseLclk_loses (s := badCounted a) false hb hl
  exact {
    gates := h.gates
    clocks := h.clocks
    bridge := h.bridge
    phase := h.phase
    lost := h.lost
    announced := h.announced
    modSt := h.modSt
    logged := h.logged
    moves := h.moves.step (hcount.one rfl rfl rfl) rfl rfl rfl }

end

/-! ### No edge for 64 LCLK periods (R84, R92) -/

/-- No port receives a clock. -/
def clocksGone (s : State) : State := { s with clk := { s.clk with clkA := false, clkB := false } }

theorem clocksGone_moves (s : State) : Moves [.clk] [] [] s (clocksGone s) := (Leaves.set_clk s _).moves

/-- A port that is UP trains again. -/
def retrained (s : State) (p : Port) : State := if s.port p = pUP then setPort s p pTRAINING else s

theorem retrained_moves (s : State) (p : Port) : Moves traceParts traceObjs portStFlds s (retrained s p) :=
  .ite (setPort_still s p (by decide) (by decide)) (.refl s)

theorem parkedBridge_eq (s : State) : parkedBridge s =
    beginBridge (calsAbandoned (retrained (retrained (closeLink (closeEvent s)) .A) .B)) := rfl

/-- What the loss of LCLK brings about in a parked module: its bridge alone. -/
theorem parkedBridge_begins (s : State) :
    let t := parkedBridge s
    t.clk = { s.clk with event := false, bypass := true }.bridged s.time.xt ∧ t.time = { s.time with link := false } ∧
      t.rd F.CLK_STATUS_CLK_PHASE = 5 ∧ Moves lossParts traceObjs (F.CLK_STATUS_CLK_PHASE :: linkEndFlds) s t := by
  rw [parkedBridge_eq]
  have hclose : Moves [.time, .ring, .clk] [] [] s (closeLink (closeEvent s)) :=
    (closeLink_leaves _).moves.step ((closeEvent_leaves s).moves.one rfl rfl rfl) rfl rfl rfl
  have hA := retrained_moves (closeLink (closeEvent s)) .A
  have hB := retrained_moves (retrained (closeLink (closeEvent s)) .A) .B
  have hcals := calsAbandoned_moves (retrained (retrained (closeLink (closeEvent s)) .A) .B)
  have hports : Moves (traceParts ++ [.ana, .free]) traceObjs (F.AG_CS_STATE :: F.AG_CS_POS :: F.AG_CS_CAUSE :: portStFlds)
      (closeLink (closeEvent s)) (calsAbandoned (retrained (retrained (closeLink (closeEvent s)) .A) .B)) :=
    hcals.step ((hA.trans hB).one rfl rfl rfl) rfl rfl rfl
  have hclk := hports.1.1 .clk (by decide)
  have htime := hports.1.1 .time (by decide)
  generalize calsAbandoned (retrained (retrained (closeLink (closeEvent s)) .A) .B) = u at *
  have hxt : u.time.xt = s.time.xt := (congrArg TimeSt.xt htime :)
  refine ⟨?_, htime, beginBridge_phase u,
    (beginBridge_moves u).step (hports.step (hclose.one rfl rfl rfl) rfl rfl rfl) rfl rfl rfl⟩
  rw [beginBridge_clk, hxt, hclk]
  rfl

/-- A parked module only begins its bridge; any other loses LCLK. -/
theorem no_edge_loses {a : State} (hb : a.clk.bridgeFrom = none) (hl : a.time.link = true) :
    let t := lclkLoss a
    (t.clk.clkA = false ∧ t.clk.clkB = false ∧ t.clk.event = false ∧ t.time.link = false) ∧
      t.clk.bridgeFrom = some a.time.xt ∧ t.rd F.CLK_STATUS_CLK_PHASE = 5 ∧
      (if a.clk.parked = true then t.rd F.CLK_EVENTS_LCLK_LOST = a.rd F.CLK_EVENTS_LCLK_LOST ∧ t.clk.parked = true ∧
          t.clk.supv = a.clk.supv
        else t.rd F.CLK_EVENTS_LCLK_LOST = 1 ∧ t.clk.lane = false ∧ t.clk.supv = false ∧ t.clk.image = false ∧
          t.rd F.NRL_STATE_MOD_ST = (if a.placed = true then 3 else 0) ∧
          t.rd F.CLK_EVENTS_ANN_MISSED = (if a.ring.announced.isSome = true then 1 else a.rd F.CLK_EVENTS_ANN_MISSED)) ∧
      Moves lossParts traceObjs lossFlds a t := by
  have hgone := clocksGone_moves a
  cases hp : a.clk.parked with
  | true =>
    have ht : lclkLoss a = parkedBridge (clocksGone a) := if_pos ⟨hp, hl⟩
    obtain ⟨hclk, htime, hphase, hmoves⟩ := parkedBridge_begins (clocksGone a)
    have hlost := (hmoves.rd F.CLK_EVENTS_LCLK_LOST 0 rfl).trans (hgone.rd _ _ rfl)
    have hparked : (clocksGone a).clk.parked = true := hp
    rw [ht]
    exact ⟨⟨(congrArg ClkSt.clkA hclk :), (congrArg ClkSt.clkB hclk :), (congrArg ClkSt.event hclk :),
      (congrArg TimeSt.link htime :)⟩, (congrArg ClkSt.bridgeFrom hclk :), hphase,
      ⟨hlost, (congrArg ClkSt.parked hclk :).trans hparked, (congrArg ClkSt.supv hclk :)⟩,
      hmoves.step (hgone.one rfl rfl rfl) rfl rfl rfl⟩
  | false =>
    have ht : lclkLoss a = loseLclk a.ring.announced.isSome (clocksGone a) := if_neg (by simp [hp])
    have h := loseLclk_loses (s := clocksGone a) a.ring.announced.isSome hb hl
    rw [ht]
    obtain ⟨hlane, hsupv, himage, hevent, hlink⟩ := h.gates
    exact ⟨⟨h.clocks.1, h.clocks.2, hevent, hlink⟩, h.bridge, h.phase,
      ⟨h.lost, hlane, hsupv, himage, h.modSt, h.announced⟩, h.moves.step (hgone.one rfl rfl rfl) rfl rfl rfl⟩

/-! ### A reference that stops, a PLL that loses lock (R79, R83) -/

/-- Port `n` (0 A, 1 B) receives no clock. -/
def clockGone (n : Nat) (s : State) : State :=
  { s with clk := if n = 0 then { s.clk with clkA := false } else { s.clk with clkB := false } }

theorem reference_switches {a : State} {n : Nat} (hl : a.time.link = true) (hr : a.rd F.CLK_STATUS_REFPORT = n)
    (hn : n = 0 ∧ a.clk.clkB = true ∨ n = 1 ∧ a.clk.clkA = true) :
    let t := refSwitch a
    t.rd F.CLK_STATUS_REFPORT = 1 - n ∧ t.rd F.NRL_STATE_CLKSRC = 1 - n ∧ t.rd F.CLK_EVENTS_REF_SWITCH = 1 ∧
      (t.clk = if n = 0 then { a.clk with clkA := false } else { a.clk with clkB := false }) ∧
      Logged Ev.CLOCK_EVENT (leBytes 4 (2 ^ F.CLK_EVENTS_REF_SWITCH.lo)) a t ∧
      Moves (traceParts ++ [.clk]) traceObjs [F.CLK_EVENTS_REF_SWITCH, F.CLK_STATUS_REFPORT, F.NRL_STATE_CLKSRC] a t := by
  have ht : refSwitch a = clockEvent F.CLK_EVENTS_REF_SWITCH (setRef (clockGone n a) (1 - n)) := by
    subst hr
    refine if_neg ?_
    obtain ⟨h0, hB⟩ | ⟨h1, hA⟩ := hn
    · simp [hl, h0, hB]
    · simp [hl, h1, hA]
  have hbit : (1 - n) % 2 ^ 1 = 1 - n := by omega
  rw [ht]
  have hgone : Moves [.clk] [] [] a (clockGone n a) := (Leaves.set_clk a _).moves
  have href := setRef_moves (clockGone n a) (1 - n)
  have hevent := clockEvent_moves F.CLK_EVENTS_REF_SWITCH (setRef (clockGone n a) (1 - n))
  refine ⟨?_, ?_, clockEvent_rd _ _ (by decide) (by decide), ?_, ?_, ?_⟩
  · exact (hevent.rd _ _ rfl).trans ((State.rd_wr_same ..).trans hbit)
  · refine (hevent.rd _ _ rfl).trans (((State.wr_moves ..).rd _ _ rfl).trans ((State.rd_wr_same ..).trans hbit))
  · exact hevent.1.1 .clk (by decide)
  · exact (clockEvent_logged F.CLK_EVENTS_REF_SWITCH (setRef (clockGone n a) (1 - n))).within rfl (List.prefix_refl _)
  · exact hevent.step (href.step (hgone.one rfl rfl rfl) rfl rfl rfl) rfl rfl rfl

theorem lane_lock_lost {a : State} (h : a.clk.lane = true) :
    let t := pllLost 1 a
    t.clk.lane = false ∧ t.clk.laneFrom = some a.time.xt ∧ (t.time.runFrom = none ∧ t.runTicks = a.runTicks) ∧
      t.rd F.CLK_EVENTS_PLL_OOR = 1 ∧ (t.clk.supv = a.clk.supv ∧ t.time.link = a.time.link) ∧
      Logged Ev.CLOCK_EVENT (leBytes 4 (2 ^ F.CLK_EVENTS_PLL_OOR.lo)) a t ∧
      Moves (traceParts ++ [.time, .clk]) traceObjs [F.CLK_EVENTS_PLL_OOR, F.SCN_MODE_CAUSE_PERSISTS] a t := by
  have ht : pllLost 1 a = closeLane (clockEvent F.CLK_EVENTS_PLL_OOR a) := if_pos h
  rw [ht]
  have hevent := clockEvent_moves F.CLK_EVENTS_PLL_OOR a
  have hrd := clockEvent_rd F.CLK_EVENTS_PLL_OOR a (by decide) (by decide)
  have hlogged := clockEvent_logged F.CLK_EVENTS_PLL_OOR a
  generalize clockEvent F.CLK_EVENTS_PLL_OOR a = u at *
  have hclk : u.clk = a.clk := hevent.1.1 .clk (by decide)
  have htime : u.time = a.time := hevent.1.1 .time (by decide)
  have hclose := closeLane_moves u
  have hsto : (closeLane u).sto = u.sto := hclose.1.1 .sto (by decide)
  have hticks : u.runTicks = a.runTicks := by rw [State.runTicks, htime, State.runTicks]
  have hlane : u.clk.lane = true := by rw [hclk, h]
  refine ⟨?_, ?_, ⟨?_, ?_⟩, (hclose.rd _ _ rfl).trans hrd, ⟨?_, ?_⟩, ?_, ?_⟩
  · rw [closeLane_clk, ClkSt.laneClosed_lane]
  · rw [closeLane_clk, ClkSt.laneClosed, if_pos hlane, htime]
  · rw [closeLane_of_open hlane]
    rfl
  · rw [closeLane_of_open hlane]
    exact hticks
  · rw [closeLane_clk, ClkSt.laneClosed, if_pos hlane, hclk]
  · exact (congrArg TimeSt.link (closeLane_bases u) :).trans (congrArg TimeSt.link htime :)
  · exact hlogged.within rfl (.of_sto hsto)
  · exact hclose.step (hevent.one rfl rfl rfl) rfl rfl rfl

theorem system_lock_lost {a : State} (h : a.clk.supv = true) :
    let t := pllLost 2 a
    (t.clk.supv = false ∧ t.clk.image = false ∧ t.clk.event = false) ∧ t.mbx.stopXt = a.time.xt ∧
      t.rd F.CLK_EVENTS_PLL_OOR = 1 ∧ (t.clk.lane = a.clk.lane ∧ t.time.link = a.time.link) ∧
      Moves (traceParts ++ [.clk, .mbx]) traceObjs [F.CLK_EVENTS_PLL_OOR] a t := by
  have ht : pllLost 2 a = closeEvent (closeSys (clockEvent F.CLK_EVENTS_PLL_OOR a)) := if_pos (.inl h)
  rw [ht]
  have hevent := clockEvent_moves F.CLK_EVENTS_PLL_OOR a
  have hrd := clockEvent_rd F.CLK_EVENTS_PLL_OOR a (by decide) (by decide)
  generalize clockEvent F.CLK_EVENTS_PLL_OOR a = u at *
  have hclk : u.clk = a.clk := hevent.1.1 .clk (by decide)
  have htime : u.time = a.time := hevent.1.1 .time (by decide)
  refine ⟨⟨rfl, rfl, rfl⟩, ?_, hrd, ⟨(congrArg ClkSt.lane hclk :), (congrArg TimeSt.link htime :)⟩, ?_⟩
  · have hstop : (closeEvent (closeSys u)).mbx.stopXt = if u.clk.supv = true then u.time.xt else u.mbx.stopXt := rfl
    rw [hstop, hclk, if_pos h, htime]
  · exact (closeEvent_leaves _).moves.step ((closeSys_leaves u).moves.step (hevent.one rfl rfl rfl) rfl rfl rfl) rfl rfl rfl

/-! ### The obligation -/

/-- Settles O24: every loss of LCLK is `loseLclk`, whose effects `LclkGone` states once; the events of CLK.EVENTS are
`clockEvent`, and the gates close by `gatesClosed`. -/
theorem clockJudging : Obligations.ClockJudging := by
  refine ⟨fun _ _ lclk link lane sys _ hr hx hs hphase hn => ⟨_, rfl, window_identifies hr hx hs lclk link lane sys hphase hn⟩,
    fun _ _ lclk link lane sys hr hx hs hphase hn => ⟨_, rfl, window_fails hr hx hs lclk link lane sys hphase hn⟩,
    fun _ _ lclk link lane sys hr hx hs hphase hout hann hpark hbad hb hl => ⟨_, rfl, ?_⟩,
    fun _ _ hb hl => ⟨_, rfl, ?_⟩,
    fun _ _ _ hl href hn => ⟨_, rfl, reference_switches hl href hn⟩,
    fun _ _ h => ⟨_, rfl, lane_lock_lost h⟩, fun _ _ h => ⟨_, rfl, system_lock_lost h⟩⟩
  · have h := window_loses hr hx hs lclk link lane sys hphase hout hann hpark hbad hb hl
    exact ⟨h.gates, h.bridge, h.phase, h.lost, h.modSt, h.moves.rd _ _ rfl, h.logged, h.moves.one rfl rfl rfl⟩
  · obtain ⟨hgates, hbridge, hphase, hrest, hmoves⟩ := no_edge_loses hb hl
    exact ⟨hgates, hbridge, hphase, hrest, hmoves.one rfl rfl rfl⟩

end Sys2Proof.Machine
end

section
/-!
Resets (R97, CLK-7): what `hardReset` clears and keeps, said once for every kind, and the begin of phase B (CLK-8).
-/

namespace Sys2Proof

/-- A table of which only the keys that `p` admits are kept. -/
theorem Table.find_filter {α : Type} (d : α) (t : Table α) (p : Nat → Bool) (k : Nat) :
    Table.find d (t.filter fun e => p e.1) k = if p k then Table.find d t k else d := by
  induction t with
  | nil => simp [Table.find]
  | cons e t ih =>
    obtain ⟨a, v⟩ := e
    by_cases ha : p a = true
    · rw [List.filter_cons_of_pos (p := fun e : Nat × α => p e.1) ha]
      by_cases hk : a = k
      · subst hk
        simp [Table.find, ha]
      · simp [Table.find, hk, ih]
    · rw [List.filter_cons_of_neg (p := fun e : Nat × α => p e.1) ha, ih]
      by_cases hk : a = k
      · subst hk
        simp [ha]
      · simp [Table.find, hk]

/-- The object of a key. -/
theorem Fld.key_div (f : Fld) (i e : Nat) : f.key i e / 2 ^ 32 = f.obj := by
  simp only [Fld.key]
  omega

namespace Machine

/-! ### What a reset clears and keeps -/

/-- What every reset of `kind` leaves of state `s` before it is recorded. -/
structure Cleared (kind : Nat) (s r : State) : Prop where
  clk : r.clk = resetClk s kind
  units : r.mbx = {} ∧ r.img = {} ∧ r.scn = {} ∧ r.prg = {} ∧ r.ang = {} ∧ r.plt = {} ∧ r.pair = {} ∧
    r.int = {}
  sto : r.sto = keepStore s.sto
  rtc : r.rtc = s.rtc
  pending : r.pending = s.pending
  link : r.time.link = (decide (4 ≤ kind) && s.time.link)
  xt : r.time.xt = s.time.xt
  ring : kind ≤ 3 → r.ring = {}
  cinch : 4 ≤ kind → r.ring.cinch = s.ring.cinch
  cause : r.rd F.CLK_STATUS_RESET_CAUSE = kind % 2 ^ F.CLK_STATUS_RESET_CAUSE.width
  regs : ∀ (f : Fld) (i e : Nat), f.key i e ≠ F.CLK_STATUS_RESET_CAUSE.key 0 0 →
    r.rdE f i e = if keepKey kind (f.key i e) = true then s.rdE f i e else f.dflt

/-- A reset clears the state; one that is at once in phase C is recorded (CLK-7). -/
theorem hardReset_cleared (kind : Nat) (s : State) :
    ∃ r, Cleared kind s r ∧ hardReset kind s = if 4 ≤ kind then log Ev.RESET [kind] r else r := by
  unfold hardReset
  extract_lets +onlyGivenNames warm t sub _ r u
  have hregs : ∀ (f : Fld) (i e : Nat), r.rdE f i e = if keepKey kind (f.key i e) = true then s.rdE f i e else f.dflt :=
    fun f i e => Table.find_filter f.dflt s.regs (keepKey kind) (f.key i e)
  refine ⟨u, ⟨rfl, ⟨rfl, rfl, rfl, rfl, rfl, rfl, rfl, rfl⟩, rfl, rfl, rfl, ?_, ?_, ?_, ?_, State.rd_wr_same .., ?_⟩, ?_⟩
  · have hr : u.time = if warm then { t with runAcc := 0, runFrom := none }
      else { t with link := false, stBase := 0, stHeld := true, runAcc := 0, runFrom := none } := rfl
    rw [hr]
    cases hw : warm <;> simp only [warm, decide_eq_true_eq, decide_eq_false_iff_not] at hw <;> simp [hw, t]
  · have hr : u.time = if warm then { t with runAcc := 0, runFrom := none }
      else { t with link := false, stBase := 0, stHeld := true, runAcc := 0, runFrom := none } := rfl
    rw [hr]
    cases warm <;> rfl
  · intro hk
    exact if_neg (by simp [warm]; omega)
  · intro hk
    have hr : u.ring = if warm then { s.ring with subq := s.ring.subq.filter sub, attnLast := none } else {} := rfl
    rw [hr, if_pos (by simp [warm, hk])]
  · intro f i e hne
    exact (State.rdE_wrE_ne _ _ _ _ _ _ _ _ hne).trans (hregs f i e)
  · simp only [warm, decide_eq_true_eq]

/-- No reset keeps the mode. -/
theorem keepKey_mode (kind : Nat) : keepKey kind (F.SCN_MODE_MODE.key 0 0) = false := by
  unfold keepKey
  generalize decide (kind ≠ 1) = p
  generalize decide (4 ≤ kind) = q
  revert p q
  decide

/-- WARM and WATCHDOG keep the clock phase. -/
theorem keepKey_phase {kind : Nat} (hk : 4 ≤ kind) : keepKey kind (F.CLK_STATUS_CLK_PHASE.key 0 0) = true := by
  unfold keepKey
  rw [decide_eq_true hk]
  generalize decide (kind ≠ 1) = p
  revert p
  decide

/-- Every reset keeps the backup domain (R97). -/
theorem keepKey_backup (kind : Nat) {f : Fld} (i e : Nat) (hl : F.objRTC_TIME ≤ f.obj) (hu : f.obj ≤ F.objRTC_BKP) :
    keepKey kind (f.key i e) = true := by
  simp only [keepKey, f.key_div]
  simp [hl, hu]

/-- The objects outside the backup domain of which POR keeps something, and that of RESET_CAUSE. -/
abbrev porKeptObjs : List Nat :=
  [F.objNRL_STATE, F.objCLK_STATUS, F.objAG_CS, F.objDG_CH, F.objDG_BOOST, F.objDG_GROUP, F.objAG_CH, F.objAG_GROUP]

/-- POR keeps no object beside the backup domain, the ring role, the calibration coefficients and the field dies. -/
theorem keepKey_por {f : Fld} (i e : Nat) (hr : f.obj < F.objRTC_TIME ∨ F.objRTC_BKP < f.obj)
    (ho : f.obj ∉ porKeptObjs) :
    keepKey 1 (f.key i e) = false := by
  simp only [List.mem_cons, List.not_mem_nil, or_false, not_or] at ho
  obtain ⟨hrole, -, hcs, hdies⟩ := ho
  have hne : f.key i e ≠ F.NRL_STATE_ROLE.key 0 0 := Fld.key_obj hrole
  have hback : (decide (F.objRTC_TIME ≤ f.obj) && decide (f.obj ≤ F.objRTC_BKP)) = false := by
    simp only [Bool.and_eq_false_iff, decide_eq_false_iff_not]
    omega
  simp only [keepKey, f.key_div, hback]
  simp [hne, hcs, hdies]

/-- What every reset of `kind` leaves of state `s`. -/
structure AfterReset (kind : Nat) (s t : State) : Prop where
  clk : t.clk = resetClk s kind
  units : t.mbx = {} ∧ t.img = {} ∧ t.scn = {} ∧ t.prg = {}
  link : t.time.link = (decide (4 ≤ kind) && s.time.link)
  cinch : 4 ≤ kind → t.ring.cinch = s.ring.cinch
  cause : t.rd F.CLK_STATUS_RESET_CAUSE = kind % 2 ^ F.CLK_STATUS_RESET_CAUSE.width
  mode : t.mode = mINIT
  phase : 4 ≤ kind → t.rd F.CLK_STATUS_CLK_PHASE = s.rd F.CLK_STATUS_CLK_PHASE

theorem Cleared.after {kind : Nat} {s r : State} (h : Cleared kind s r) : AfterReset kind s r where
  clk := h.clk
  units := by
    obtain ⟨hmbx, himg, hscn, hprg, -⟩ := h.units
    exact ⟨hmbx, himg, hscn, hprg⟩
  link := h.link
  cinch := h.cinch
  cause := h.cause
  mode := by
    have hr := h.regs F.SCN_MODE_MODE 0 0 (by decide)
    rw [keepKey_mode] at hr
    exact hr
  phase hk := by
    have hr := h.regs F.CLK_STATUS_CLK_PHASE 0 0 (by decide)
    rw [keepKey_phase hk] at hr
    exact hr

/-- Recording takes nothing of it away. -/
theorem AfterReset.logged {kind : Nat} {s t : State} (h : AfterReset kind s t) (e : Nat × Nat) (arg : List Nat) :
    AfterReset kind s (log e arg t) := by
  obtain ⟨hkeeps, hregs⟩ := log_leaves e arg t
  have hm := (log_leaves e arg t).moves
  refine ⟨(hkeeps .clk (by decide)).trans h.clk, ?_, ?_, fun hk => ?_, ?_, ?_, fun hk => ?_⟩
  · rw [hkeeps .mbx (by decide), hkeeps .img (by decide), hkeeps .scn (by decide), hkeeps .prg (by decide)]
    exact h.units
  · rw [hkeeps .time (by decide)]
    exact h.link
  · exact (congrArg RingSt.cinch (log_core e arg t) :).trans (h.cinch hk)
  · exact (hm.rd _ _ (by decide)).trans h.cause
  · exact (hm.rd _ _ (by decide)).trans h.mode
  · exact (hm.rd _ _ (by decide)).trans (h.phase hk)

theorem hardReset_after (kind : Nat) (s : State) : AfterReset kind s (hardReset kind s) := by
  obtain ⟨r, hr, he⟩ := hardReset_cleared kind s
  rw [he]
  split
  · exact hr.after.logged ..
  · exact hr.after

theorem hardReset_sto {kind : Nat} (hk : kind ≤ 3) (s : State) : (hardReset kind s).sto = keepStore s.sto := by
  obtain ⟨r, hr, he⟩ := hardReset_cleared kind s
  rw [he, if_neg (by omega), hr.sto]

/-! ### The flush before a reset -/

theorem bufRegs_core (s : State) : (bufRegs s).ring.core = s.ring.core := by
  rw [bufRegs, hostSync_core, hostSync_core, State.wr_ring]

theorem flushNow_core (s : State) : (flushNow s).ring.core = s.ring.core := by
  unfold flushNow
  split
  · rfl
  · extract_lets +onlyGivenNames out u n _ v
    have hu : u.ring = s.ring := rfl
    have hv : v.ring = u.ring := rfl
    have hout : ∀ x, (out x).ring = x.ring := fun _ => rfl
    split
    · rw [bufRegs_core, hu]
    · rw [bufRegs_core, hout, setLatch_core, (createRec_leaves v ..).1 .ring (by decide), hv, hu]

theorem closingFlush_core (s : State) : (closingFlush s).ring.core = s.ring.core := by
  unfold closingFlush
  extract_lets u v
  split
  · exact flushNow_core s
  · exact flushNow_core s

/-- What a flush keeps stands in the reset that follows. -/
theorem AfterReset.of_kept {kind : Nat} {s u t : State} (h : AfterReset kind u t) (hclk : u.clk = s.clk)
    (htime : u.time = s.time) (hcore : u.ring.core = s.ring.core) (hphase : u.rd F.CLK_STATUS_CLK_PHASE = s.rd F.CLK_STATUS_CLK_PHASE) :
    AfterReset kind s t where
  clk := by rw [h.clk, resetClk, resetClk, hclk, htime]
  units := h.units
  link := by rw [h.link, htime]
  cinch hk := (h.cinch hk).trans (congrArg RingSt.cinch hcore :)
  cause := h.cause
  mode := h.mode
  phase hk := (h.phase hk).trans hphase

theorem abandonBuffer_after {kind : Nat} {s t : State} (h : AfterReset kind (abandonBuffer s) t) : AfterReset kind s t := by
  have hl := abandonBuffer_leaves s
  exact h.of_kept (hl.1 .clk (by decide)) (hl.1 .time (by decide)) (congrArg RingSt.core (hl.1 .ring (by decide) :))
    (hl.moves.rd _ _ (by decide))

theorem abandonBuffer_recs (s : State) : (abandonBuffer s).sto.recs = s.sto.recs := by
  unfold abandonBuffer
  split <;> rfl

theorem flushReset_after (kind : Nat) (up : Bool) (s : State) : AfterReset kind s (flushReset kind up s) := by
  unfold flushReset
  extract_lets u
  have hu := abandonBuffer_after (hardReset_after kind (abandonBuffer u))
  cases up
  · exact hu
  · have hl := closingFlush_leaves s
    exact hu.of_kept (hl.1 .clk (by decide)) (hl.1 .time (by decide)) (closingFlush_core s) (hl.moves.rd _ _ (by decide))

theorem otherReset_after {kind : Nat} {s : State} (up : Bool) (hride : s.riding = false) :
    AfterReset kind s (otherReset kind up s) := by
  rw [otherReset, if_neg (by simp [hride])]
  exact flushReset_after ..

end Machine

end Sys2Proof
end

section
/-!
Resets and watchdogs (R97 to R99, R533, CLK-7, CLK-8): the begin of phase B, each way into a reset, and the supervisor's
failover.
-/

namespace Sys2Proof.Machine

/-! ### The begin of phase B -/

/-- What the begin of phase B leaves. -/
structure PhaseB (line compat xtal : Bool) (s t : State) : Prop where
  clk : t.clk = { s.clk with inReset := false, bypass := true, compat := compat, porXt := s.time.xt }
  phase : t.rd F.CLK_STATUS_CLK_PHASE = 1
  role : t.rd F.NRL_STATE_ROLE = b2n line
  xtalOk : t.rd F.CLK_STATUS_XTAL_OK = b2n xtal
  xtalRun : t.rd F.RTC_STATUS_XTAL_RUN = b2n xtal
  refport : t.rd F.CLK_STATUS_REFPORT = b2n (!s.clk.clkA && s.clk.clkB)
  lineEnd : line = true → t.port .B = pFAULTED ∧ t.rd F.NRL_STATE_WRAP_B = 1
  frame : Moves [.clk, .pwr] [] [F.CLK_STATUS_CLK_PHASE, F.CLK_STATUS_REFPORT, F.CLK_STATUS_XTAL_OK, F.NRL_STATE_CLKSRC,
    F.NRL_STATE_PB_ST, F.NRL_STATE_ROLE, F.NRL_STATE_WRAP_B, F.RTC_STATUS_XTAL_RUN] s t

theorem b2n_mod (b : Bool) {n : Nat} (hn : 1 < n) : b2n b % n = b2n b :=
  Nat.mod_eq_of_lt (by cases b <;> simp [b2n] <;> omega)

/-- The fields that the begin of phase B writes. -/
def phaseBFlds : List Fld := [F.CLK_STATUS_CLK_PHASE, F.CLK_STATUS_REFPORT, F.CLK_STATUS_XTAL_OK, F.NRL_STATE_CLKSRC,
  F.NRL_STATE_PB_ST, F.NRL_STATE_ROLE, F.NRL_STATE_WRAP_B, F.RTC_STATUS_XTAL_RUN]

theorem beginPhaseB_begins (line compat xtal : Bool) (s : State) :
    PhaseB line compat xtal s (beginPhaseB line compat xtal s) := by
  unfold beginPhaseB
  extract_lets +onlyGivenNames _ _ u v w
  have hl : Leaves [.clk, .pwr] [] s u :=
    (Leaves.set_pwr { s with clk := u.clk } u.pwr).step ((Leaves.set_clk s u.clk).one rfl rfl) rfl rfl
  have hu : Moves [.clk, .pwr] [] phaseBFlds s u := hl.moves.one rfl rfl rfl
  have hv : Moves [.clk, .pwr] [] phaseBFlds s v :=
    (State.wr_moves ..).step ((State.wr_moves ..).step ((State.wr_moves ..).step hu rfl rfl rfl) rfl rfl rfl) rfl rfl rfl
  have hw : Moves [.clk, .pwr] [] phaseBFlds s w :=
    .ite ((State.wr_moves ..).step ((State.wr_moves ..).step hv rfl rfl rfl) rfl rfl rfl) hv
  have hwc : w.clk = { s.clk with inReset := false, bypass := true, compat := compat, porXt := s.time.xt } := by
    cases line <;> rfl
  refine ⟨?_, ?_, ?_, ?_, ?_, ?_, ?_, ?_⟩
  · cases line <;> rfl
  · simp (disch := decide) [setRef, State.rd_wr_ne]
  · cases line <;> simp (disch := decide) [setRef, State.rd_wr_ne, w, v, b2n_mod]
  · cases line <;> simp (disch := decide) [setRef, State.rd_wr_ne, w, v, b2n_mod]
  · cases line <;> simp (disch := decide) [setRef, State.rd_wr_ne, w, v, b2n_mod]
  · rw [setRef, State.rd_wr_same, hwc]
    exact b2n_mod _ (by decide)
  · rintro rfl
    constructor
    · simp (disch := decide) only [setRef, State.port, portFld, State.rd_wr_ne, w, if_pos, State.rd_wr_same]
      rfl
    · simp (disch := decide) [setRef, State.rd_wr_ne, w]
  · exact (setRef_moves ..).step ((State.wr_moves ..).step hw rfl rfl rfl) rfl rfl rfl

/-! ### Ways into a reset -/

section
variable {a : State}

/-- POR leaves what the obligation says of it. -/
structure PorReset (s t : State) : Prop where
  cause : t.rd F.CLK_STATUS_RESET_CAUSE = 1
  gates : t.clk.inReset = true ∧ t.clk.lane = false ∧ t.clk.supv = false ∧ t.clk.image = false ∧
    t.clk.event = false ∧ t.time.link = false
  mode : t.mode = mINIT
  units : t.ring = {} ∧ t.mbx = {} ∧ t.img = {} ∧ t.scn = {} ∧ t.prg = {} ∧ t.ang = {} ∧
    t.plt = {} ∧ t.pair = {} ∧ t.int = {}
  store : t.sto.recs = s.sto.recs ∧ t.sto.buf = [] ∧ t.pending = s.pending
  regs : ∀ (f : Fld) (i e : Nat), f.obj < F.objRTC_TIME ∨ F.objRTC_BKP < f.obj →
    f.obj ∉ porKeptObjs → t.rdE f i e = f.dflt
  backup : ∀ (f : Fld) (i e : Nat), F.objRTC_TIME ≤ f.obj → f.obj ≤ F.objRTC_BKP →
    f.obj ≠ F.objRTC_STATUS → t.rdE f i e = s.rdE f i e

theorem hardReset_por (s : State) : PorReset s (hardReset 1 (abandonBuffer s)) := by
  have hl := abandonBuffer_leaves s
  have hafter := abandonBuffer_after (hardReset_after 1 (abandonBuffer s))
  obtain ⟨r, hr, he⟩ := hardReset_cleared 1 (abandonBuffer s)
  rw [if_neg (by decide)] at he
  rw [he] at hafter ⊢
  obtain ⟨hmbx, himg, hscn, hprg, hang, hplt, hpair, hint⟩ := hr.units
  have hclk := hafter.clk
  refine ⟨hafter.cause, ?_, hafter.mode, ⟨hr.ring (by decide), hmbx, himg, hscn, hprg, hang, hplt, hpair, hint⟩, ?_, ?_, ?_⟩
  · rw [hclk, hafter.link]
    exact ⟨rfl, rfl, rfl, rfl, rfl, rfl⟩
  · rw [hr.sto, hr.pending]
    exact ⟨abandonBuffer_recs s, rfl, hl.1 .pending (by decide)⟩
  · intro f i e hrange ho
    have hne : f.obj ≠ F.CLK_STATUS_RESET_CAUSE.obj := fun hf => ho (by rw [hf]; decide)
    rw [hr.regs f i e (Fld.key_obj hne), keepKey_por i e hrange ho]
    rfl
  · intro f i e hlo hhi _
    have hne : f.obj ≠ F.CLK_STATUS_RESET_CAUSE.obj := fun hf => by rw [hf] at hlo; exact absurd hlo (by decide)
    rw [hr.regs f i e (Fld.key_obj hne), keepKey_backup 1 i e hlo hhi]
    exact hl.2 f i e (by simp)

/-- Writing RTC.STATUS takes nothing of it away. -/
theorem PorReset.wr {s t : State} (h : PorReset s t) (f : Fld) (v : Nat) (hf : f.obj = F.objRTC_STATUS) :
    PorReset s (t.wr f v) := by
  have hread : ∀ g : Fld, g.obj ≠ F.objRTC_STATUS → ∀ i e, (t.wr f v).rdE g i e = t.rdE g i e :=
    fun g hg i e => State.rdE_wrE_ne _ _ _ _ _ _ _ _ (Fld.key_obj (by rwa [hf]))
  refine ⟨(hread _ (by decide) 0 0).trans h.cause, h.gates, (hread _ (by decide) 0 0).trans h.mode, h.units, h.store, ?_, ?_⟩
  · intro g i e hrange ho
    have hg : g.obj ≠ F.objRTC_STATUS := fun hg => by rw [hg] at hrange; exact absurd hrange (by decide)
    exact (hread g hg i e).trans (h.regs g i e hrange ho)
  · intro g i e hlo hhi hg
    exact (hread g hg i e).trans (h.backup g i e hlo hhi hg)

theorem por_resets (rising : Bool) (h : rising = true ∨ a.riding = false) :
    PorReset a (por rising a) ∧ (rising = true → a.rtc.powered = true → (por rising a).rd F.RTC_STATUS_PWRON_LOW = 1) := by
  unfold por
  cases rising
  · rw [if_neg (by decide), if_neg (by simpa using h)]
    exact ⟨hardReset_por a, nofun⟩
  · rw [if_pos rfl]
    extract_lets u
    have hu : PorReset a u := hardReset_por a
    have hrtc : u.rtc = a.rtc := by
      obtain ⟨r, hr, he⟩ := hardReset_cleared 1 (abandonBuffer a)
      rw [if_neg (by decide)] at he
      exact (congrArg State.rtc he :).trans (hr.rtc.trans ((abandonBuffer_leaves a).1 .rtc (by decide)))
    split
    · exact ⟨hu.wr _ _ rfl, fun _ _ => State.rd_wr_same ..⟩
    · next hp => exact ⟨hu, fun _ hpow => absurd (by rw [hrtc, hpow]) hp⟩

/-- A PIN reset, RESET_N still low. -/
def pinned (s : State) : State :=
  let u := otherReset 2 false s
  { u with clk := { u.clk with pinLow := true } }

theorem pinReset_eq (lowNs : Nat) (s : State) :
    pinReset lowNs s = if lowNs < 1000 then s else if 10000 ≤ lowNs then pinned s
      else if s.nextFree % 2 = 1 then pinned s.useFree else s.useFree := rfl

theorem pinned_resets {s : State} (hride : s.riding = false) :
    (pinned s).rd F.CLK_STATUS_RESET_CAUSE = 2 ∧
      ((pinned s).clk.pinLow = true ∧ (pinned s).clk.inReset = true ∧ (pinned s).clk.lane = false ∧
        (pinned s).time.link = false) ∧
      ((pinned s).mode = mINIT ∧ (pinned s).sto.buf = [] ∧ (pinned s).sto.recs = s.sto.recs) := by
  have h := otherReset_after (kind := 2) false hride
  have hsto : (otherReset 2 false s).sto = keepStore (abandonBuffer s).sto := by
    rw [otherReset, if_neg (by simp [hride])]
    exact hardReset_sto (by decide) _
  refine ⟨h.cause, ⟨rfl, ?_, ?_, h.link⟩, h.mode, ?_, ?_⟩
  · exact (congrArg ClkSt.inReset h.clk :)
  · exact (congrArg ClkSt.lane h.clk :)
  · exact (congrArg StoSt.buf hsto :)
  · exact (congrArg StoSt.recs hsto :).trans (abandonBuffer_recs s)

theorem moduleReset_made {kind seq : Nat} (hpend : a.clk.pendReset = some (kind, seq))
    (hack : a.mbx.cq.find? (fun r => decide (r.seq = seq)) = none) (hride : a.riding = false) (hk : kind = 3 ∨ kind = 4) :
    let t := moduleResetStart a
    t.rd F.CLK_STATUS_RESET_CAUSE = kind ∧
      (t.mode = mINIT ∧ t.clk.pendReset = none ∧ t.clk.inReset = false ∧ t.clk.coldReset = decide (kind = 3)) ∧
      (t.mbx = {} ∧ t.scn = {} ∧ t.img = {} ∧ t.prg = {}) ∧
      (kind = 3 → t.rd F.CLK_STATUS_CLK_PHASE = 1 ∧ t.time.link = false) ∧
      (kind = 4 → t.time.link = a.time.link ∧ t.ring.cinch = a.ring.cinch ∧
        t.rd F.CLK_STATUS_CLK_PHASE = a.rd F.CLK_STATUS_CLK_PHASE) := by
  unfold moduleResetStart
  rw [hpend]
  dsimp only
  rw [hack]
  dsimp only
  rw [if_neg (by decide), if_neg (by simp [hride])]
  have h := flushReset_after kind true a
  obtain ⟨hmbx, himg, hscn, hprg⟩ := h.units
  obtain rfl | rfl := hk
  · rw [if_pos rfl]
    have hb := beginPhaseB_begins (a.is F.NRL_STATE_ROLE) (flushReset 3 true a).clk.compat (a.is F.RTC_STATUS_XTAL_RUN)
      (flushReset 3 true a)
    refine ⟨(hb.frame.rd _ _ (by decide)).trans h.cause, ⟨(hb.frame.rd _ _ (by decide)).trans h.mode, ?_, ?_, ?_⟩, ?_,
      fun _ => ⟨hb.phase, ?_⟩, nofun⟩
    · exact (congrArg ClkSt.pendReset hb.clk :).trans (congrArg ClkSt.pendReset h.clk :)
    · exact (congrArg ClkSt.inReset hb.clk :)
    · exact (congrArg ClkSt.coldReset hb.clk :).trans (congrArg ClkSt.coldReset h.clk :)
    · exact ⟨(hb.frame.1.1 .mbx (by decide)).trans hmbx, (hb.frame.1.1 .scn (by decide)).trans hscn,
        (hb.frame.1.1 .img (by decide)).trans himg, (hb.frame.1.1 .prg (by decide)).trans hprg⟩
    · exact (congrArg TimeSt.link (hb.frame.1.1 .time (by decide)) :).trans h.link
  · rw [if_neg (by decide)]
    refine ⟨h.cause, ⟨h.mode, ?_, ?_, ?_⟩, ⟨hmbx, hscn, himg, hprg⟩, nofun,
      fun _ => ⟨h.link, h.cinch (by decide), h.phase (by decide)⟩⟩
    · exact (congrArg ClkSt.pendReset h.clk :)
    · exact (congrArg ClkSt.inReset h.clk :)
    · exact (congrArg ClkSt.coldReset h.clk :)

theorem startup_resets (up : Bool) {n : Nat} (hgates : a.clk.gatesOpened = some n) (hready : a.clk.stopReady = false)
    (hfailed : a.clk.startFailed = false) (hrec : a.rd F.SEC_STATUS_RECOVERY = 0) (hdue : n + 8192 ≤ a.time.xt)
    (hride : a.riding = false) :
    let t := startupWatchdog up a
    t.rd F.CLK_STATUS_RESET_CAUSE = 5 ∧ t.clk.startRuns = a.clk.startRuns + 1 ∧
      t.clk.startFailed = decide (2 ≤ a.clk.startRuns) ∧ (t.mode = mINIT ∧ t.time.link = a.time.link) := by
  unfold startupWatchdog
  rw [hgates]
  dsimp only
  rw [if_neg (by simp [hready, hfailed, State.is, hrec]; omega), if_neg (by simp [hride])]
  have h := flushReset_after 5 up a
  refine ⟨h.cause, rfl, ?_, h.mode, h.link⟩
  exact decide_eq_decide.mpr (by omega)

theorem supervisor_resets (both up : Bool) (hsupv : a.clk.supv = true) (hin : a.clk.inReset = false)
    (hride : a.riding = false) (hsilent : both = true ∨ a.rd F.SEC_STATUS_SPARE_READY = 0) :
    let t := svWatchdog both up a
    t.rd F.CLK_STATUS_RESET_CAUSE = 5 ∧
      (t.mode = mINIT ∧ t.mbx = {} ∧ t.clk.stopReady = false ∧ t.clk.fwRunning = false) := by
  unfold svWatchdog
  rw [if_neg (by simp [hsupv, hin]), if_pos (by simpa [State.is] using hsilent)]
  have h := otherReset_after (kind := 5) up hride
  exact ⟨h.cause, h.mode, h.units.1, (congrArg ClkSt.stopReady h.clk :), (congrArg ClkSt.fwRunning h.clk :)⟩

end

/-! ### The recorder's buffer while operations end -/

theorem Leaves.grows {ps : List Part} {os : List Nat} {s t : State} (h : Leaves ps os s t) (hs : ps.contains .sto = false) :
    BufGrows s t := .of_sto (h.1 .sto (by simpa using hs))

theorem BufGrows.of_buf {s t : State} (h : t.sto.buf = s.sto.buf) : BufGrows s t := by
  rw [BufGrows, h]

theorem BufGrows.foldl {α : Type} {g : State → α → State} (h : ∀ s x, BufGrows s (g s x)) (l : List α) (s : State) :
    BufGrows s (l.foldl g s) := by
  induction l generalizing s with
  | nil => exact List.prefix_refl _
  | cons x l ih => exact (h s x).trans (ih _)

theorem queueRegs_grows (s : State) : BufGrows s (queueRegs s) := by
  unfold queueRegs
  extract_lets used
  exact (BufGrows.of_sto (by simp)).trans <| (hostSync_grows ..).trans <| (hostSync_grows ..).trans <|
    (hostSync_grows ..).trans (hostSync_grows ..)

theorem placeRecs_grows (s : State) (kind : Nat) (rep : Bool) (session clseq opcode status handle cinch result : Nat)
    (data : List Nat) (usb : Bool) :
    BufGrows s (placeRecs s kind rep session clseq opcode status handle cinch result data usb) := by
  unfold placeRecs
  extract_lets +onlyGivenNames q ds r _ u
  have hu : u.sto = s.sto := rfl
  exact (BufGrows.of_sto hu).trans <| ((readyAll_leaves ..).grows rfl).trans (queueRegs_grows _)

theorem finHdl_grows (s : State) (k status result : Nat) (data : List Nat) (cinch : Nat) :
    BufGrows s (finHdl s k status result data cinch) := by
  unfold finHdl
  split
  · exact List.prefix_refl _
  · refine .ite (List.prefix_refl _) (.ite ?_ ?_)
    · extract_lets u
      exact (placeRecs_grows ..).trans ((putHdl_leaves ..).grows rfl)
    · exact (log_grows ..).trans ((freeHdl_leaves ..).grows rfl)

theorem finMode_grows (s : State) (p : PendMode) (status : Nat) : BufGrows s (finMode s p status) :=
  .ite (List.prefix_refl _) (finHdl_grows ..)

theorem ringSoon_grows (s : State) (k v : Nat) : BufGrows s (ringSoon s k v) :=
  .ite (List.prefix_refl _) (List.prefix_refl _)

theorem finishFw_grows (s : State) (a : FwAct) (status result : Nat) : BufGrows s (finishFw s a status result) := by
  unfold finishFw
  extract_lets t k v u w x y
  have hu : BufGrows s u := .of_buf rfl
  have hw : BufGrows u w := .ite ((fwRuns_leaves u t k).grows rfl) (List.prefix_refl _)
  have hx : BufGrows w x := ringSoon_grows ..
  have hy : BufGrows w y :=
    .ite (hx.trans <| (ringSoon_grows ..).trans ((fwRegs_leaves ..).grows rfl)) (List.prefix_refl _)
  exact hu.trans <| hw.trans <| hy.trans <| (log_grows ..).trans (finHdl_grows ..)

theorem failOp_grows (s : State) (h : Hdl) : BufGrows s (failOp s h) := by
  unfold failOp
  extract_lets out
  have hout : ∀ x : State, BufGrows x (out x) := fun x => finHdl_grows ..
  have hsto : ∀ x : StoSt, x.buf = s.sto.buf → BufGrows s (out { s with sto := x }) :=
    fun x hx => BufGrows.trans (b := { s with sto := x }) (.of_buf hx) (hout _)
  refine .ite (List.prefix_refl _) ?_
  split
  · exact hsto _ rfl
  · exact hout s
  · exact hout s
  · exact hout s
  · split
    · exact finishFw_grows ..
    · exact List.prefix_refl _
  · split
    · exact .ite ((finMode_grows ..).trans ((clearPend_leaves ..).grows rfl)) (List.prefix_refl _)
    · exact List.prefix_refl _
  · exact List.prefix_refl _

/-! ### What an operation that fails over keeps of the modes -/

/-- The mode and the execution that runs stand. -/
def ModeStands (s t : State) : Prop := t.mode = s.mode ∧ t.scn.running = s.scn.running

theorem ModeStands.trans {a b c : State} (h : ModeStands a b) (h' : ModeStands b c) : ModeStands a c :=
  ⟨h'.1.trans h.1, h'.2.trans h.2⟩

theorem Leaves.modeStands {ps : List Part} {os : List Nat} {s t : State} (h : Leaves ps os s t)
    (hs : ps.contains .scn = false) (ho : os.contains F.objSCN_MODE = false) : ModeStands s t :=
  ⟨h.2 F.SCN_MODE_MODE 0 0 fun hm => by simp [show F.objSCN_MODE ∈ os from hm] at ho,
    congrArg ScnSt.running (h.1 .scn (by simpa using hs) :)⟩

theorem ModeStands.foldl {α : Type} {g : State → α → State} (h : ∀ s x, ModeStands s (g s x)) (l : List α) (s : State) :
    ModeStands s (l.foldl g s) := by
  induction l generalizing s with
  | nil => exact ⟨rfl, rfl⟩
  | cons x l ih => exact (h s x).trans (ih _)

theorem clearPend_modeStands (s : State) : ModeStands s (clearPend s) :=
  ⟨State.rd_wr_ne _ _ _ _ _ _ (by decide), rfl⟩

theorem failOp_modeStands (s : State) (h : Hdl) : ModeStands s (failOp s h) := by
  unfold failOp
  extract_lets out
  have hout : ∀ x : State, ModeStands x (out x) := fun x => (fin_leaves ..).modeStands rfl rfl
  have hrefl : ModeStands s s := ⟨rfl, rfl⟩
  split
  · exact hrefl
  · split
    · exact ((Leaves.set_sto s _).modeStands rfl rfl).trans (hout _)
    · exact hout s
    · exact hout s
    · exact hout s
    · split
      · exact (finishFw_leaves ..).modeStands rfl rfl
      · exact hrefl
    · split
      · split
        · exact ((finMode_leaves ..).modeStands rfl rfl).trans (clearPend_modeStands _)
        · exact hrefl
      · exact hrefl
    · exact hrefl

/-! ### The supervisor's failover (R533, CLK-6) -/

/-- The operations of the handles fail over. -/
def opsFailOver (s : State) : State := nextStore (s.mbx.hdls.foldl failOp (hostSync 38 (hostSync 6 s)))

theorem opsFailOver_leaves (s : State) :
    Leaves [.ring, .sto, .int, .mbx, .scn, .sec] [F.objINT_LATCH, F.objINT_STAT, F.objINT_STATE, F.objINT_STORMED,
      F.objMBX_QUEUES, F.objMBX_USE, F.objREC_STAT, F.objSCN_MODE, F.objSEC_FW] s (opsFailOver s) := by
  refine (nextStore_leaves _).step (Leaves.transR (Leaves.foldl failOp _ (fun _ _ _ => failOp_leaves ..) _) ?_) rfl rfl
  exact (hostSync_leaves 38 (hostSync 6 s)).step ((hostSync_leaves 6 s).one rfl rfl) rfl rfl

theorem opsFailOver_grows (s : State) : BufGrows s (opsFailOver s) :=
  (hostSync_grows ..).trans <| (hostSync_grows ..).trans <|
    (BufGrows.foldl failOp_grows _ _).trans ((nextStore_leaves _).grows rfl)

theorem opsFailOver_modeStands (s : State) : ModeStands s (opsFailOver s) :=
  ((hostSync_leaves ..).modeStands rfl rfl).trans <| ((hostSync_leaves ..).modeStands rfl rfl).trans <|
    (ModeStands.foldl failOp_modeStands _ _).trans ((nextStore_leaves _).modeStands rfl rfl)

/-- The spare is the active core. -/
def spareActive (s : State) : State :=
  let u := (s.wr F.SEC_STATUS_ACTIVE_SV (1 - s.rd F.SEC_STATUS_ACTIVE_SV)).wr F.SEC_STATUS_SPARE_READY 0
  { u with clk := { s.clk with svSilent := s.rd F.SEC_STATUS_ACTIVE_SV + 1 } }

theorem spareActive_moves (s : State) :
    Moves [.clk] [] [F.SEC_STATUS_ACTIVE_SV, F.SEC_STATUS_SPARE_READY] s (spareActive s) :=
  (Leaves.set_clk _ _).moves.step ((State.wr_moves ..).step ((State.wr_moves ..).one rfl rfl rfl) rfl rfl rfl) rfl rfl rfl

theorem spareActive_reads (s : State) :
    (spareActive s).rd F.SEC_STATUS_ACTIVE_SV = 1 - s.rd F.SEC_STATUS_ACTIVE_SV ∧
      (spareActive s).rd F.SEC_STATUS_SPARE_READY = 0 := by
  have hr : ∀ f, (spareActive s).rd f =
      ((s.wr F.SEC_STATUS_ACTIVE_SV (1 - s.rd F.SEC_STATUS_ACTIVE_SV)).wr F.SEC_STATUS_SPARE_READY 0).rd f := fun _ => rfl
  rw [hr, hr]
  constructor
  · rw [State.rd_wr_ne _ _ _ _ _ _ (by decide), State.rd_wr_same]
    exact Nat.mod_eq_of_lt ((Nat.sub_le ..).trans_lt (by decide))
  · exact State.rd_wr_same ..

theorem svWatchdog_spare {a : State} (up : Bool) (hsupv : a.clk.supv = true) (hin : a.clk.inReset = false)
    (hspare : a.rd F.SEC_STATUS_SPARE_READY = 1) :
    svWatchdog false up a =
      opsFailOver (log Ev.SV_HANDOVER [1 - a.rd F.SEC_STATUS_ACTIVE_SV, 2] (spareActive a)) := by
  unfold svWatchdog
  rw [if_neg (by simp [hsupv, hin]), if_neg (by simp [State.is, hspare])]
  rfl

/-- A ready spare takes over. -/
theorem spare_takesOver {a : State} (up : Bool) (hsupv : a.clk.supv = true) (hin : a.clk.inReset = false)
    (hspare : a.rd F.SEC_STATUS_SPARE_READY = 1) :
    let t := svWatchdog false up a
    t.rd F.SEC_STATUS_ACTIVE_SV = 1 - a.rd F.SEC_STATUS_ACTIVE_SV ∧ t.rd F.SEC_STATUS_SPARE_READY = 0 ∧
      (t.mode = a.mode ∧ t.scn.running = a.scn.running ∧ t.clk.stopReady = a.clk.stopReady) ∧
      Logged Ev.SV_HANDOVER [1 - a.rd F.SEC_STATUS_ACTIVE_SV, 2] a t := by
  rw [svWatchdog_spare up hsupv hin hspare]
  obtain ⟨hactive, hready⟩ := spareActive_reads a
  have hx := spareActive_moves a
  have hclk : (spareActive a).clk.stopReady = a.clk.stopReady := rfl
  generalize spareActive a = x at *
  have hw := log_leaves Ev.SV_HANDOVER [1 - a.rd F.SEC_STATUS_ACTIVE_SV, 2] x
  have hlog := logged_log Ev.SV_HANDOVER [1 - a.rd F.SEC_STATUS_ACTIVE_SV, 2] x
  generalize log Ev.SV_HANDOVER [1 - a.rd F.SEC_STATUS_ACTIVE_SV, 2] x = w at *
  have hf := opsFailOver_leaves w
  obtain ⟨hmode, hrun⟩ := (hw.modeStands rfl rfl).trans (opsFailOver_modeStands w)
  refine ⟨?_, ?_, ⟨?_, ?_, ?_⟩, ?_⟩
  · exact (hf.moves.rd _ _ (by decide)).trans <| (hw.moves.rd _ _ (by decide)).trans hactive
  · exact (hf.moves.rd _ _ (by decide)).trans <| (hw.moves.rd _ _ (by decide)).trans hready
  · exact hmode.trans (hx.rd _ _ (by decide))
  · exact hrun.trans (congrArg ScnSt.running (hx.1.1 .scn (by decide)))
  · exact (congrArg ClkSt.stopReady (hf.1 .clk (by decide)) :).trans <|
      (congrArg ClkSt.stopReady (hw.1 .clk (by decide)) :).trans hclk
  · exact hlog.within (hx.1.1 .sto (by decide)) (opsFailOver_grows w)

/-! ### The obligation -/

/-- Settles O26: every way into a reset goes through `hardReset`, of which `Cleared` says what it keeps; phase B and the
supervisor's failover are said by `PhaseB` and `spare_takesOver`. -/
theorem resetsAndWatchdogs : Obligations.ResetsAndWatchdogs := by
  unfold Obligations.ResetsAndWatchdogs
  refine ⟨?por, ?ride, ?pin, ?short, ?between, ?release, ?pinRelease, ?module, ?startup, ?silent, ?spare⟩
  case por =>
    intro dt s rising a h
    obtain ⟨hp, hpow⟩ := por_resets rising h
    exact ⟨_, rfl, hp.cause, hp.gates, hp.mode, hp.units, hp.store, hp.regs, hp.backup, hpow⟩
  case ride =>
    intro dt s a hride
    refine ⟨_, rfl, ?_⟩
    rw [por, if_neg (by decide), if_pos hride]
    rfl
  case pin =>
    intro dt s n a hn hride
    refine ⟨_, rfl, ?_⟩
    rw [pinReset_eq, if_neg (by omega), if_pos hn]
    exact pinned_resets hride
  case short =>
    intro dt s n a hn
    refine ⟨_, rfl, ?_⟩
    rw [pinReset_eq]
    exact if_pos hn
  case between =>
    intro dt s n a hlo hhi hride
    refine ⟨_, rfl, ?_⟩
    rw [pinReset_eq, if_neg (by omega), if_neg (by omega)]
    split
    · obtain ⟨hcause, ⟨hlow, hin, -⟩, -⟩ := pinned_resets (s := a.useFree) hride
      exact .inr ⟨hcause, hlow, hin⟩
    · exact .inl rfl
  case release =>
    intro dt s le cs xt a hin hlow
    refine ⟨_, rfl, ?_⟩
    rw [porRelease, if_neg (by simp [a] at hin hlow; simp [hin, hlow])]
    have h := beginPhaseB_begins le cs xt a
    have hclk := h.clk
    exact ⟨⟨(congrArg ClkSt.inReset hclk :), (congrArg ClkSt.bypass hclk :), (congrArg ClkSt.compat hclk :),
      (congrArg ClkSt.porXt hclk :)⟩, h.phase, h.role, ⟨h.xtalOk, h.xtalRun⟩, h.refport, h.lineEnd, h.frame⟩
  case pinRelease =>
    intro dt s le cs xt a hlow hin
    refine ⟨_, rfl, ?_⟩
    rw [resetNRelease, if_neg (by simp [a] at hlow; simp [hlow])]
    extract_lets +onlyGivenNames _ u
    rw [if_pos hin]
    have hu := (Leaves.set_clk a u.clk).moves
    have h := beginPhaseB_begins le cs xt u
    have hclk := h.clk
    exact ⟨⟨(congrArg ClkSt.pinLow hclk :), (congrArg ClkSt.inReset hclk :), (congrArg ClkSt.compat hclk :)⟩, h.phase,
      h.role, h.xtalOk, h.frame.step (hu.one rfl rfl rfl) rfl rfl rfl⟩
  case module =>
    intro dt s kind seq a hpend hack hride hk
    exact ⟨_, rfl, moduleReset_made hpend hack hride hk⟩
  case startup =>
    intro dt s up n a hgates hready hfailed hrec hdue hride
    exact ⟨_, rfl, startup_resets up hgates hready hfailed hrec hdue hride⟩
  case silent =>
    intro dt s both up a hsupv hin hride hsilent
    exact ⟨_, rfl, supervisor_resets both up hsupv hin hride hsilent⟩
  case spare =>
    intro dt s both up a hsupv hin hboth hspare _
    subst hboth
    obtain ⟨hactive, hready, hmode, hlogged⟩ := spare_takesOver up hsupv hin hspare
    exact ⟨_, rfl, hactive, hready, hmode, hlogged, Keeps.mono (svWatchdog_keeps _ _ _) (by decide)⟩

end Sys2Proof.Machine
end

section
/-!
The crystal (R101, R505), lane-clock steps (R95, R484) and announced parks (R91).
-/

namespace Sys2Proof.Machine

/-! ### The crystal -/

/-- The crystal has stopped and a stand-in period counts (R505). -/
def standIn (s : State) : State :=
  let u := ((s.wr F.RTC_STATUS_XTAL_RUN 0).wr F.RTC_STATUS_OSF 1).wr F.RTC_STATUS_OSF_CAUSE 2
  let v := { u with rtc := { s.rtc with subXt := s.time.xt, subAt := s.time.now } }
  (v.wr F.CLK_STATUS_XTAL_OK 0).wr F.RTC_STATUS_XTAL_SUBST 1

/-- The fields of a crystal that stops. -/
def crystalFlds : List Fld :=
  [F.CLK_STATUS_XTAL_OK, F.RTC_STATUS_OSF, F.RTC_STATUS_OSF_CAUSE, F.RTC_STATUS_XTAL_RUN, F.RTC_STATUS_XTAL_SUBST]

theorem standIn_moves (s : State) : Moves [.rtc] [] crystalFlds s (standIn s) := by
  unfold standIn
  extract_lets +onlyGivenNames u _ v
  have hu : Moves [.rtc] [] crystalFlds s u :=
    (State.wr_moves ..).step ((State.wr_moves ..).step ((State.wr_moves ..).one rfl rfl rfl) rfl rfl rfl) rfl rfl rfl
  have hv : Moves [.rtc] [] [] u v := (Leaves.set_rtc u v.rtc).moves
  exact (State.wr_moves ..).step ((State.wr_moves ..).step (hv.step hu rfl rfl rfl) rfl rfl rfl) rfl rfl rfl

theorem standIn_rd (s : State) (f : Fld) : (standIn s).rd f =
    (((((s.wr F.RTC_STATUS_XTAL_RUN 0).wr F.RTC_STATUS_OSF 1).wr F.RTC_STATUS_OSF_CAUSE 2).wr F.CLK_STATUS_XTAL_OK 0).wr
      F.RTC_STATUS_XTAL_SUBST 1).rd f := rfl

section
variable {a : State}

theorem crystal_stops (hpow : a.rtc.powered = true) (hrun : a.rd F.RTC_STATUS_XTAL_RUN = 1) (hin : a.clk.inReset = false) :
    let t := oscStop a
    t.rd F.RTC_STATUS_XTAL_RUN = 0 ∧ t.rd F.RTC_STATUS_OSF = 1 ∧ t.rd F.RTC_STATUS_OSF_CAUSE = 2 ∧
      t.rd F.CLK_STATUS_XTAL_OK = 0 ∧ t.rd F.RTC_STATUS_XTAL_SUBST = 1 ∧ t.time = a.time ∧ Logged Ev.OSC_STOP [2] a t ∧
      Moves (traceParts ++ [.rtc]) traceObjs crystalFlds a t := by
  have ht : oscStop a = log Ev.OSC_STOP [2] (standIn a) := by
    unfold oscStop
    rw [if_neg (by simp [State.is, hpow, hrun])]
    exact if_neg (by simp [hin])
  have hlog := trace_log Ev.OSC_STOP [2] (standIn a)
  have hm := standIn_moves a
  rw [ht]
  refine ⟨?_, ?_, ?_, ?_, ?_, ?_, (logged_log Ev.OSC_STOP [2] (standIn a)).within rfl (List.prefix_refl _), ?_⟩
  · rw [hlog.moves.rd _ _ (by decide), standIn_rd]
    simp (disch := decide) [State.rd_wr_ne]
  · rw [hlog.moves.rd _ _ (by decide), standIn_rd]
    simp (disch := decide) [State.rd_wr_ne]
  · rw [hlog.moves.rd _ _ (by decide), standIn_rd]
    simp (disch := decide) [State.rd_wr_ne]
    decide
  · rw [hlog.moves.rd _ _ (by decide), standIn_rd]
    simp (disch := decide) [State.rd_wr_ne]
  · rw [hlog.moves.rd _ _ (by decide), standIn_rd]
    exact State.rd_wr_same ..
  · exact (log_time ..).trans (hm.1.1 .time (by decide))
  · exact hlog.moves.step (hm.one rfl rfl rfl) rfl rfl rfl

theorem crystal_resumes (hpow : a.rtc.powered = true) (hrun : a.rd F.RTC_STATUS_XTAL_RUN = 0) (hin : a.clk.inReset = false) :
    let t := xtalResume a
    t.rd F.RTC_STATUS_XTAL_RUN = 1 ∧ t.rd F.CLK_STATUS_XTAL_OK = 1 ∧ t.rd F.RTC_STATUS_XTAL_SUBST = 0 ∧
      t.rd F.RTC_STATUS_OSF = a.rd F.RTC_STATUS_OSF ∧
      Moves [] [] [F.CLK_STATUS_XTAL_OK, F.RTC_STATUS_XTAL_RUN, F.RTC_STATUS_XTAL_SUBST] a t := by
  have ht : xtalResume a = ((a.wr F.RTC_STATUS_XTAL_RUN 1).wr F.RTC_STATUS_XTAL_SUBST 0).wr F.CLK_STATUS_XTAL_OK 1 := by
    unfold xtalResume
    rw [if_neg (by simp [State.is, hpow, hrun])]
    exact if_neg (by simp [hin])
  have hm : Moves [] [] [F.CLK_STATUS_XTAL_OK, F.RTC_STATUS_XTAL_RUN, F.RTC_STATUS_XTAL_SUBST] a (xtalResume a) := by
    rw [ht]
    exact (State.wr_moves ..).step ((State.wr_moves ..).step ((State.wr_moves ..).one rfl rfl rfl) rfl rfl rfl) rfl rfl rfl
  refine ⟨?_, ?_, ?_, hm.rd _ _ rfl, hm⟩
  · rw [ht]
    simp (disch := decide) [State.rd_wr_ne]
  · rw [ht]
    exact State.rd_wr_same ..
  · rw [ht]
    simp (disch := decide) [State.rd_wr_ne]

end

/-! ### Lane-clock steps -/

/-- A latch that is set reads as set. -/
theorem setLatch_set {b : Nat} (ho : (latchFld b).1.obj = F.objINT_LATCH) (hw : (latchFld b).2 < (latchFld b).1.width)
    (s : State) : (setLatch b s).latch b = true := by
  have hsync : (setLatch b s).rd (latchFld b).1 = (putLatch s b true).rd (latchFld b).1 :=
    (hostSync_leaves ..).2 _ _ _ (by rw [ho]; decide)
  have hput : (putLatch s b true).rd (latchFld b).1 =
      setBits (s.rd (latchFld b).1) (latchFld b).2 (latchFld b).2 (b2n true) % 2 ^ (latchFld b).1.width :=
    State.rd_wr_same ..
  rw [State.latch, hsync, hput, Nat.testBit_mod_two_pow, setBits_testBit, if_pos rfl, Bool.and_true, decide_eq_true hw]

/-- The record of a step names the least slack (PWR-14). -/
def State.leastSlack (s : State) : Nat :=
  unsgn 32 (min (sgn 16 (s.rd F.PWR_SENSE_SLACK_A)) (min (sgn 16 (s.rd F.PWR_SENSE_SLACK_B)) (sgn 16 (s.rd F.PWR_SENSE_SLACK_C))))

/-- URGENT is shown for an urgent step. -/
def urgentShown (s : State) : State := if s.pwr.laneUrgent then s.wr F.PWR_PLAN_URGENT 1 else s

theorem urgentShown_moves (s : State) : Moves [] [] [F.PWR_PLAN_URGENT] s (urgentShown s) := .ite (State.wr_moves ..) (.refl s)

/-- The supplies with no step asked for. -/
def PwrSt.stepDone (x : PwrSt) : PwrSt := { x with laneTo := none, laneDefer := false, laneUrgent := false }

/-- A step is in force, not yet recorded. -/
def stepForced (s : State) (k : Nat) : State :=
  let u := urgentShown s
  let v := { u with pwr := u.pwr.stepDone }
  laneFreq ((v.wr F.PWR_PLAN_LANE_STEP k).wr F.PWR_PLAN_BUDGET_SHORT 0)

/-- The fields of a step that is taken. -/
def stepFlds : List Fld := [F.PWR_PLAN_LANE_STEP, F.PWR_PLAN_BUDGET_SHORT, F.PWR_PLAN_URGENT, F.CLK_STATUS_LANE_CLK]

theorem takeLaneStep_eq (s : State) (k : Nat) : takeLaneStep s k =
    setLatch 19 (log Ev.PLAN_STEP ([0, s.rd F.PWR_PLAN_LANE_STEP, k, 0] ++ leBytes 4 s.leastSlack) (stepForced s k)) := rfl

theorem laneFreq_moves (s : State) : Moves [] [] [F.CLK_STATUS_LANE_CLK] s (laneFreq s) := State.wr_moves ..

theorem laneFreq_rd (s : State) : (laneFreq s).rd F.CLK_STATUS_LANE_CLK =
    (if s.rd F.CLK_STATUS_LCLK_NOM = 3 then s.rd F.PWR_PLAN_LANE_STEP else 4) % 2 ^ F.CLK_STATUS_LANE_CLK.width :=
  State.rd_wr_same ..

theorem stepForced_moves (s : State) (k : Nat) : Moves [.pwr] [] stepFlds s (stepForced s k) := by
  unfold stepForced
  extract_lets u v
  have hu : Moves [.pwr] [] stepFlds s u := (urgentShown_moves s).one rfl rfl rfl
  have hv : Moves [.pwr] [] stepFlds s v := (Leaves.set_pwr u u.pwr.stepDone).moves.step hu rfl rfl rfl
  exact (laneFreq_moves _).step ((State.wr_moves ..).step ((State.wr_moves ..).step hv rfl rfl rfl) rfl rfl rfl) rfl rfl rfl

theorem stepForced_pwr (s : State) (k : Nat) : (stepForced s k).pwr = s.pwr.stepDone :=
  congrArg PwrSt.stepDone ((urgentShown_moves s).1.1 .pwr (by decide))

theorem stepForced_reads (s : State) {k : Nat} (hk : k < 4) :
    (stepForced s k).rd F.PWR_PLAN_LANE_STEP = k ∧ (stepForced s k).rd F.PWR_PLAN_BUDGET_SHORT = 0 ∧
      (stepForced s k).rd F.CLK_STATUS_LANE_CLK = if s.rd F.CLK_STATUS_LCLK_NOM = 3 then k else 4 := by
  unfold stepForced
  extract_lets u v
  have hnom : v.rd F.CLK_STATUS_LCLK_NOM = s.rd F.CLK_STATUS_LCLK_NOM := (urgentShown_moves s).rd _ _ rfl
  have hmod : k % 2 ^ F.PWR_PLAN_LANE_STEP.width = k := Nat.mod_eq_of_lt hk
  refine ⟨?_, ?_, ?_⟩
  · rw [(laneFreq_moves _).rd _ _ rfl, State.rd_wr_ne _ _ _ _ _ _ (by decide), State.rd_wr_same, hmod]
  · rw [(laneFreq_moves _).rd _ _ rfl]
    exact State.rd_wr_same ..
  · rw [laneFreq_rd]
    simp (disch := decide) only [State.rd_wr_ne, State.rd_wr_same, hmod, hnom]
    exact Nat.mod_eq_of_lt (lt_of_le_of_lt (show _ ≤ 4 by split <;> omega) (by decide))

section
variable {a : State} {k : Nat}

theorem lane_steps (hto : a.pwr.laneTo = some k) (hlane : a.clk.lane = true) (hmode : a.mode ≠ mRUN ∧ a.mode ≠ mHOLD) :
    laneStepChange a = takeLaneStep a k := by
  obtain ⟨hrun, hhold⟩ := hmode
  unfold laneStepChange
  rw [hto]
  extract_lets live
  have hlive : live = false := by simp [live, hrun, hhold]
  simp [hlive, hlane]

theorem step_taken (hto : a.pwr.laneTo = some k) (hlane : a.clk.lane = true) (hmode : a.mode ≠ mRUN ∧ a.mode ≠ mHOLD)
    (hk : k < 4) :
    let t := laneStepChange a
    t.rd F.PWR_PLAN_LANE_STEP = k ∧ t.rd F.PWR_PLAN_BUDGET_SHORT = 0 ∧
      (t.rd F.CLK_STATUS_LANE_CLK = if a.rd F.CLK_STATUS_LCLK_NOM = 3 then k else 4) ∧
      t.pwr = a.pwr.stepDone ∧ t.latch 19 = true ∧
      Logged Ev.PLAN_STEP ([0, a.rd F.PWR_PLAN_LANE_STEP, k, 0] ++ leBytes 4 a.leastSlack) a t ∧
      Moves (traceParts ++ [.pwr]) traceObjs stepFlds a t := by
  rw [lane_steps hto hlane hmode, takeLaneStep_eq]
  have hm := stepForced_moves a k
  obtain ⟨hstep, hshort, hclk⟩ := stepForced_reads a hk
  have hpwr := stepForced_pwr a k
  generalize [0, a.rd F.PWR_PLAN_LANE_STEP, k, 0] ++ leBytes 4 a.leastSlack = arg
  have htrace := (trace_log Ev.PLAN_STEP arg (stepForced a k)).trans (trace_setLatch 19 _)
  refine ⟨?_, ?_, ?_, ?_, setLatch_set (by decide) (by decide) _, ?_, ?_⟩
  · exact (htrace.moves.rd _ _ (by decide)).trans hstep
  · exact (htrace.moves.rd _ _ (by decide)).trans hshort
  · exact (htrace.moves.rd _ _ (by decide)).trans hclk
  · exact (htrace.1 .pwr (by decide)).trans hpwr
  · exact (logged_log Ev.PLAN_STEP arg (stepForced a k)).within (hm.1.1 .sto (by decide)) (setLatch_grows ..)
  · exact htrace.moves.step (hm.one rfl rfl rfl) rfl rfl rfl

/-- A step that does not fit is put off. -/
def stepDeferred (s : State) (n : Nat) : State :=
  let v := { s with pwr := { s.pwr with laneDefer := true } }
  (v.wr F.PWR_PLAN_BUDGET_SHORT 1).wr F.PWR_PLAN_BUDGET_TASK n

theorem stepDeferred_moves (s : State) (n : Nat) :
    Moves [.pwr] [] [F.PWR_PLAN_BUDGET_SHORT, F.PWR_PLAN_BUDGET_TASK] s (stepDeferred s n) :=
  (State.wr_moves ..).step ((State.wr_moves ..).step ((Leaves.set_pwr s _).moves.one rfl rfl rfl) rfl rfl rfl) rfl rfl rfl

theorem deferStep_eq (s : State) (n : Nat) : deferStep s n =
    setLatch 19 (log Ev.BUDGET_SHORT ([n, 0, 0, 0] ++ leBytes 4 (Table.find 0 s.scn.peak n)) (stepDeferred s n)) := rfl

theorem step_deferred {n : Nat} (hto : a.pwr.laneTo = some k) (hlane : a.clk.lane = true)
    (hmode : a.mode = mRUN ∨ a.mode = mHOLD) (hurgent : a.pwr.laneUrgent = false) (hdefer : a.pwr.laneDefer = false)
    (hidle : a.lanesIdle = true) (hpres : a.scn.presented = []) (hahead : a.time.now + 230000 ≤ a.nextBoundary + 4000)
    (hfails : a.budgetFails (a.stepMHz k) = some n) (hn : n < 64) :
    let t := laneStepChange a
    t.pwr = { a.pwr with laneDefer := true } ∧ t.rd F.PWR_PLAN_BUDGET_SHORT = 1 ∧ t.rd F.PWR_PLAN_BUDGET_TASK = n ∧
      t.rd F.PWR_PLAN_LANE_STEP = a.rd F.PWR_PLAN_LANE_STEP ∧
      Logged Ev.BUDGET_SHORT ([n, 0, 0, 0] ++ leBytes 4 (Table.find 0 a.scn.peak n)) a t ∧
      Moves (traceParts ++ [.pwr]) traceObjs [F.PWR_PLAN_BUDGET_SHORT, F.PWR_PLAN_BUDGET_TASK] a t := by
  have ht : laneStepChange a = deferStep a n := by
    unfold laneStepChange
    rw [hto]
    extract_lets live
    have hlive : live = true := by simpa [live] using hmode
    have hnot : ¬ a.nextBoundary + 4000 < a.time.now + 230000 := by omega
    simp [hlive, hlane, hidle, hpres, hnot, hurgent, hdefer, hfails]
  rw [ht, deferStep_eq]
  have hm := stepDeferred_moves a n
  have hpwr : (stepDeferred a n).pwr = { a.pwr with laneDefer := true } := rfl
  have hshort : (stepDeferred a n).rd F.PWR_PLAN_BUDGET_SHORT = 1 :=
    (State.rd_wr_ne _ _ _ _ _ _ (by decide)).trans (State.rd_wr_same ..)
  have htask : (stepDeferred a n).rd F.PWR_PLAN_BUDGET_TASK = n := (State.rd_wr_same ..).trans (Nat.mod_eq_of_lt hn)
  generalize [n, 0, 0, 0] ++ leBytes 4 (Table.find 0 a.scn.peak n) = arg
  have htrace := (trace_log Ev.BUDGET_SHORT arg (stepDeferred a n)).trans (trace_setLatch 19 _)
  refine ⟨?_, ?_, ?_, ?_, ?_, ?_⟩
  · exact (htrace.1 .pwr (by decide)).trans hpwr
  · exact (htrace.moves.rd _ _ (by decide)).trans hshort
  · exact (htrace.moves.rd _ _ (by decide)).trans htask
  · exact (htrace.moves.rd _ _ (by decide)).trans (hm.rd _ _ rfl)
  · exact (logged_log Ev.BUDGET_SHORT arg (stepDeferred a n)).within rfl (setLatch_grows ..)
  · exact htrace.moves.step (hm.one rfl rfl rfl) rfl rfl rfl

end

end Sys2Proof.Machine
end

section
/-!
Announced parks (R91), the LANE gates that open (R85), bridge frames (R86) and the first gates after a reset (CLK-8, R101).
-/

namespace Sys2Proof.Machine

/-! ### Parks -/

theorem station_of_bases {s t : State} (h : t.time.bases = s.time.bases) : t.station = s.station := by
  have hheld : t.time.stHeld = s.time.stHeld := (congrArg TimeSt.stHeld h :)
  have hbase : t.time.stBase = s.time.stBase := (congrArg TimeSt.stBase h :)
  have hnow : t.time.now = s.time.now := (congrArg TimeSt.now h :)
  have hat : t.time.stAt = s.time.stAt := (congrArg TimeSt.stAt h :)
  rw [State.station, State.station, hheld, hbase, hnow, hat]

/-- The gates of a park close and station time is held. -/
def parkClosed (s : State) : State := holdStation (closeSys (closeLane s))

theorem parkClosed_moves (s : State) : Moves [.time, .clk, .mbx] [] [F.SCN_MODE_CAUSE_PERSISTS] s (parkClosed s) :=
  (holdStation_leaves _).moves.step ((closeSys_leaves _).moves.step ((closeLane_moves s).one rfl rfl rfl) rfl rfl rfl) rfl rfl rfl

theorem parkClosed_clk (s : State) :
    (parkClosed s).clk = { s.clk.laneClosed s.time.xt with supv := false, image := false } := by
  rw [← closeLane_clk]
  rfl

theorem parkClosed_holds (s : State) :
    (parkClosed s).time.stHeld = true ∧ (parkClosed s).time.stBase = s.station ∧ (parkClosed s).time.link = s.time.link :=
  ⟨rfl, station_of_bases (closeLane_bases s), (congrArg TimeSt.link (closeLane_bases s) :)⟩

/-- The announcement is taken. -/
def announceTaken (s : State) : State := { s with ring := { s.ring with announced := none, due := [], copyPort := none } }

theorem announceTaken_moves (s : State) : Moves [.ring] [] [] s (announceTaken s) := (Leaves.set_ring s _).moves

theorem lostLink_ring (s : State) : (lostLink s).ring = { s.ring with latching := false, localOn := false } := rfl

/-- The clock unit of a park for the change that cinch number `c` announced. -/
def ClkSt.parkedFor (x : ClkSt) (c old : Nat) : ClkSt :=
  { x with parked := true, changeFrom := some c, oldLclk := old, badWindows := 0 }

/-- The module is parked. -/
def parkBegun (s : State) (c old : Nat) : State := { s with clk := s.clk.parkedFor c old }.wr F.CLK_STATUS_CLK_PHASE 4

theorem parkBegun_moves (s : State) (c old : Nat) : Moves [.clk] [] [F.CLK_STATUS_CLK_PHASE] s (parkBegun s c old) :=
  (State.wr_moves ..).step ((Leaves.set_clk s _).moves.one rfl rfl rfl) rfl rfl rfl

section
variable {a : State} {n : Nat}

theorem park_eq (hann : a.ring.announced = some n) (hpark : a.clk.parked = false) (htimed : a.timed = true)
    (hlink : a.time.link = true) (hdue : a.nextBoundary ≤ a.time.now) (hidle : a.t0Runs = false) :
    park a = parkBegun (lostLink (announceTaken (parkClosed (clockEvent F.CLK_EVENTS_PARK_ANN a)))) n
      (a.rd F.CLK_STATUS_LCLK_NOM) := by
  unfold park
  rw [hann]
  dsimp only
  rw [if_neg (by simp [hpark, htimed, hlink, hidle]; omega)]
  rfl

/-- An announced park at its boundary. -/
theorem park_begins (hann : a.ring.announced = some n) (hpark : a.clk.parked = false) (htimed : a.timed = true)
    (hlink : a.time.link = true) (hdue : a.nextBoundary ≤ a.time.now) (hidle : a.t0Runs = false) :
    let t := park a
    (t.clk.parked = true ∧ t.clk.lane = false ∧ t.clk.supv = false ∧ t.clk.image = false ∧ t.time.link = true) ∧
      t.rd F.CLK_STATUS_CLK_PHASE = 4 ∧ (t.time.stHeld = true ∧ t.station = a.station) ∧
      (t.ring.announced = none ∧ t.clk.changeFrom = some n) ∧ t.rd F.NRL_STATE_MOD_ST = 3 ∧
      t.rd F.CLK_EVENTS_PARK_ANN = 1 ∧
      Logged Ev.CLOCK_EVENT (leBytes 4 (2 ^ F.CLK_EVENTS_PARK_ANN.lo)) a t ∧
      Moves (traceParts ++ [.time, .clk, .mbx]) traceObjs [F.CLK_EVENTS_PARK_ANN, F.CLK_START_TIMED,
        F.CLK_STATUS_CLK_PHASE, F.NRL_STATE_MOD_ST, F.SCN_MODE_CAUSE_PERSISTS] a t := by
  rw [park_eq hann hpark htimed hlink hdue hidle]
  have hev := clockEvent_moves F.CLK_EVENTS_PARK_ANN a
  have hset : (clockEvent F.CLK_EVENTS_PARK_ANN a).rd F.CLK_EVENTS_PARK_ANN = 1 := clockEvent_rd _ _ (by decide) (by decide)
  have hlogged := clockEvent_logged F.CLK_EVENTS_PARK_ANN a
  generalize clockEvent F.CLK_EVENTS_PARK_ANN a = s at *
  have htime : s.time = a.time := hev.1.1 .time (by decide)
  have hclosed := parkClosed_moves s
  have hclk := parkClosed_clk s
  obtain ⟨hheld, hbase, hl⟩ := parkClosed_holds s
  generalize parkClosed s = u at *
  have htaken := announceTaken_moves u
  have hlost := lostLink_moves (announceTaken u)
  have hmod := lostLink_modSt (announceTaken u)
  have hplaced : (announceTaken u).placed = true := by
    rw [State.placed, htaken.rd _ _ rfl, hclosed.rd _ _ rfl, hev.rd _ _ rfl, of_decide_eq_true htimed]
    rfl
  have hann' : (lostLink (announceTaken u)).ring.announced = none := (congrArg RingSt.announced (lostLink_ring _) :)
  have huw : Moves [.ring] [] [F.NRL_STATE_MOD_ST, F.CLK_START_TIMED, F.SCN_MODE_CAUSE_PERSISTS] u (lostLink (announceTaken u)) :=
    hlost.step (htaken.one rfl rfl rfl) rfl rfl rfl
  generalize lostLink (announceTaken u) = w at *
  have hclkw : w.clk = u.clk := huw.1.1 .clk (by decide)
  have htimew : w.time = u.time := huw.1.1 .time (by decide)
  have hbegun := parkBegun_moves w n (a.rd F.CLK_STATUS_LCLK_NOM)
  have hclkt : (parkBegun w n (a.rd F.CLK_STATUS_LCLK_NOM)).clk = u.clk.parkedFor n (a.rd F.CLK_STATUS_LCLK_NOM) := by
    rw [← hclkw]
    rfl
  have htimet : (parkBegun w n (a.rd F.CLK_STATUS_LCLK_NOM)).time = u.time := htimew
  have hphase : (parkBegun w n (a.rd F.CLK_STATUS_LCLK_NOM)).rd F.CLK_STATUS_CLK_PHASE = 4 := State.rd_wr_same ..
  have hring : (parkBegun w n (a.rd F.CLK_STATUS_LCLK_NOM)).ring = w.ring := hbegun.1.1 .ring (by decide)
  have hsto : (parkBegun w n (a.rd F.CLK_STATUS_LCLK_NOM)).sto = s.sto :=
    (hbegun.1.1 .sto (by decide)).trans <| (huw.1.1 .sto (by decide)).trans (hclosed.1.1 .sto (by decide))
  generalize parkBegun w n (a.rd F.CLK_STATUS_LCLK_NOM) = t at *
  refine ⟨⟨?_, ?_, ?_, ?_, ?_⟩, hphase, ⟨?_, ?_⟩, ⟨?_, ?_⟩, ?_, ?_, hlogged.within rfl (.of_sto hsto), ?_⟩
  · rw [hclkt]; rfl
  · rw [hclkt, hclk]; exact ClkSt.laneClosed_lane ..
  · rw [hclkt, hclk]; rfl
  · rw [hclkt, hclk]; rfl
  · rw [htimet, hl, htime, hlink]
  · rw [htimet, hheld]
  · rw [State.station, htimet, if_pos hheld, hbase, State.station, State.station, htime]
  · rw [hring, hann']
  · rw [hclkt]; rfl
  · rw [hbegun.rd _ _ rfl, hmod, if_pos hplaced]
  · rw [hbegun.rd _ _ rfl, huw.rd _ _ rfl, hclosed.rd _ _ rfl, hset]
  · exact hbegun.step (huw.step (hclosed.step (hev.one rfl rfl rfl) rfl rfl rfl) rfl rfl rfl) rfl rfl rfl

end

/-! ### The LANE gates open -/

/-- How long the LANE gates were closed is reported. -/
def laneReported (s : State) (n : Nat) : State :=
  log Ev.PARK (leBytes 4 (s.time.xt - n)) ((shiftExecs s (s.time.xt - n)).wr F.CLK_PARK_TIME_PERIODS (s.time.xt - n))

/-- It is reported where they were closed. -/
def laneTimed (s : State) : State := s.clk.laneFrom.elim s (laneReported s)

def laneOpened (s : State) : State := { s with clk := { s.clk with lane := true, laneFrom := none } }

/-- The RUN ticks count again. -/
def ticksResumed (s : State) : State := if s.mode = mRUN then startRunTicks s else s

theorem openLane_eq (s : State) : openLane s = persistReg (ticksResumed (laneOpened (laneTimed s))) := by
  unfold openLane laneTimed
  cases s.clk.laneFrom <;> rfl

theorem laneReported_moves (s : State) (n : Nat) :
    Moves (traceParts ++ [.scn, .prg]) traceObjs [F.CLK_PARK_TIME_PERIODS] s (laneReported s n) :=
  .after (trace_log ..) ((State.wr_moves ..).step ((shiftExecs_leaves ..).moves.one rfl rfl rfl) rfl rfl rfl) rfl rfl

theorem laneTimed_moves (s : State) : Moves (traceParts ++ [.scn, .prg]) traceObjs [F.CLK_PARK_TIME_PERIODS] s
    (laneTimed s) := by
  unfold laneTimed
  cases s.clk.laneFrom with
  | none => exact .refl s
  | some n => exact laneReported_moves s n

theorem ticksResumed_leaves (s : State) : Leaves [.time] [] s (ticksResumed s) :=
  .ite (startRunTicks_leaves s) (.refl ..)

/-- What opens the LANE gates after their closing is reported. -/
theorem laneOpens_moves (s : State) :
    Moves [.time, .clk] [] [F.SCN_MODE_CAUSE_PERSISTS] s (persistReg (ticksResumed (laneOpened s))) :=
  (persistReg_moves _).step ((ticksResumed_leaves _).moves.step ((Leaves.set_clk s _).moves.one rfl rfl rfl) rfl rfl rfl)
    rfl rfl rfl

theorem openLane_moves (s : State) : Moves (traceParts ++ [.time, .clk, .scn, .prg]) traceObjs
    [F.CLK_PARK_TIME_PERIODS, F.SCN_MODE_CAUSE_PERSISTS] s (openLane s) := by
  rw [openLane_eq]
  exact (laneOpens_moves _).step ((laneTimed_moves s).one rfl rfl rfl) rfl rfl rfl

theorem openLane_clk (s : State) : (openLane s).clk = { s.clk with lane := true, laneFrom := none } := by
  have hticks : (openLane s).clk = (laneOpened (laneTimed s)).clk := by
    rw [openLane_eq]
    exact (ticksResumed_leaves _).1 .clk (by decide)
  have htimed : (laneTimed s).clk = s.clk := (laneTimed_moves s).1.1 .clk (by decide)
  rw [hticks, laneOpened, htimed]

section
variable {a : State} {n : Nat}

/-- A settled lane PLL. -/
theorem lane_opens (hphase : a.rd F.CLK_STATUS_CLK_PHASE = 3) (hlane : a.clk.lane = false) (hlim : a.clk.limited = false)
    (hfrom : a.clk.laneFrom = some n) :
    let t := pllGatesOpen 1 a
    t.clk = { a.clk with lane := true, laneFrom := none } ∧
      t.rd F.CLK_PARK_TIME_PERIODS = (a.time.xt - n) % 2 ^ F.CLK_PARK_TIME_PERIODS.width ∧
      Logged Ev.PARK (leBytes 4 (a.time.xt - n)) a t ∧ (a.mode = mRUN → t.time.runFrom = some a.time.now) ∧
      Moves (traceParts ++ [.time, .clk, .scn, .prg]) traceObjs [F.CLK_PARK_TIME_PERIODS, F.SCN_MODE_CAUSE_PERSISTS] a t := by
  have ht : pllGatesOpen 1 a = openLane a := if_pos (by simp [hphase, hlane, hlim])
  rw [ht]
  refine ⟨openLane_clk a, ?_, ?_, ?_, openLane_moves a⟩
  all_goals
    have htimed : laneTimed a = laneReported a n := by rw [laneTimed, hfrom]; rfl
    rw [openLane_eq, htimed]
  · rw [(laneOpens_moves _).rd _ _ rfl, laneReported, log_rd _ _ _ _ _ (by decide)]
    exact State.rd_wr_same ..
  · exact (logged_log Ev.PARK _ ((shiftExecs a _).wr F.CLK_PARK_TIME_PERIODS _)).within rfl
      (.of_sto ((laneOpens_moves _).1.1 .sto (by decide)))
  · intro hrun
    have hm := laneReported_moves a n
    have hmode : (laneOpened (laneReported a n)).mode = mRUN := (hm.rd F.SCN_MODE_MODE 0 rfl).trans hrun
    rw [ticksResumed, if_pos hmode]
    exact congrArg (fun x : TimeSt => some x.now) (hm.1.1 .time (by decide))

end

/-! ### Bridge frames -/

/-- A bridge frame at which no rein timeout is due carries the age of the bridge. -/
theorem bridge_ages {a : State} {n : Nat} (hfrom : a.clk.bridgeFrom = some n)
    (hnone : ∀ g ∈ List.range 12, (a.time.xt - n) * 1000 < a.reinTo g * 32768) :
    bridgeFrame a = { a with clk := { a.clk with bridgeAge := a.time.xt - n } } := by
  have hdue : (List.range 12).filter (fun g => decide (a.reinTo g * 32768 ≤ (a.time.xt - n) * 1000)) = [] :=
    List.filter_eq_nil_iff.mpr fun g hg => by
      have := hnone g hg
      simp only [decide_eq_true_eq]
      omega
  unfold bridgeFrame
  rw [hfrom]
  simp only [hdue, List.isEmpty_nil, Bool.not_true, Bool.false_and, Bool.or_false, List.foldl_nil]

/-! ### The first gates -/

/-- A port that a clock reaches leaves DOWN. -/
def portTrains (s : State) (p : Port) : State :=
  if s.port p = pDOWN ∧ s.clockOn p ∧ !s.heldPort p then setPort s p pTRAINING else s

/-- A module that was without link searches its place. -/
def linkSearches (s : State) : State := if s.rd F.NRL_STATE_MOD_ST = 0 then s.wr F.NRL_STATE_MOD_ST 1 else s

theorem portsTrain_eq (s : State) : portsTrain s = linkSearches (portTrains (portTrains s .A) .B) := rfl

theorem portTrains_moves (s : State) (p : Port) : Moves traceParts traceObjs portStFlds s (portTrains s p) :=
  .ite (setPort_still s p (by decide) (by decide)) (.refl s)

theorem portTrains_grows (s : State) (p : Port) : BufGrows s (portTrains s p) := .ite (setPort_grows ..) (List.prefix_refl _)

theorem linkSearches_moves (s : State) : Moves [] [] [F.NRL_STATE_MOD_ST] s (linkSearches s) := .ite (State.wr_moves ..) (.refl s)

theorem portsTrain_moves (s : State) : Moves traceParts traceObjs (F.NRL_STATE_MOD_ST :: portStFlds) s (portsTrain s) := by
  rw [portsTrain_eq]
  exact (linkSearches_moves _).step (((portTrains_moves s .A).trans (portTrains_moves _ .B)).one rfl rfl rfl) rfl rfl rfl

theorem portsTrain_grows (s : State) : BufGrows s (portsTrain s) := by
  rw [portsTrain_eq]
  exact (portTrains_grows s .A).trans <| (portTrains_grows _ .B).trans (.of_sto ((linkSearches_moves _).1.1 .sto (by decide)))

theorem portsTrain_modSt (s : State) : (portsTrain s).rd F.NRL_STATE_MOD_ST =
    if s.rd F.NRL_STATE_MOD_ST = 0 then 1 else s.rd F.NRL_STATE_MOD_ST := by
  have hports := (portTrains_moves s .A).trans (portTrains_moves _ .B)
  rw [portsTrain_eq, linkSearches, hports.rd _ _ rfl]
  split
  · exact State.rd_wr_same ..
  · exact hports.rd _ _ rfl

/-- The clock unit with its first gates open. -/
def ClkSt.firstOpened (x : ClkSt) (xt : Nat) : ClkSt :=
  { x with lane := true, supv := true, image := true, event := true, bypass := false, gatesOpened := some xt }

/-- The frame streams to the field dies come back. -/
def FieldSt.streaming (x : FieldSt) : FieldSt := { x with dgg := x.dgg.map fun e => (e.1, { e.2 with stream := true }) }

/-- Station time begins with the link. -/
def stationBegun (s : State) : State :=
  setStation { s with time := { s.time with link := true, probeAt := s.time.now } } 0 s.time.now

/-- The first gates are open, not yet recorded. -/
def firstOpened (s : State) : State :=
  let u := (stationBegun s).wr F.CLK_STATUS_CLK_PHASE 3
  { u with clk := s.clk.firstOpened s.time.xt, fld := s.fld.streaming }

theorem firstOpened_moves (s : State) : Moves [.time, .clk, .fld] [] [F.CLK_STATUS_CLK_PHASE] s (firstOpened s) := by
  have hu : Moves [.time] [] [] s (stationBegun s) := (Leaves.set_time s _).moves
  have hv : Moves [.time] [] [F.CLK_STATUS_CLK_PHASE] s ((stationBegun s).wr F.CLK_STATUS_CLK_PHASE 3) :=
    (State.wr_moves ..).step (hu.one rfl rfl rfl) rfl rfl rfl
  have hw : Leaves [.clk, .fld] [] ((stationBegun s).wr F.CLK_STATUS_CLK_PHASE 3) (firstOpened s) :=
    (Leaves.set_fld { (stationBegun s).wr F.CLK_STATUS_CLK_PHASE 3 with clk := s.clk.firstOpened s.time.xt } _).step
      ((Leaves.set_clk _ _).one rfl rfl) rfl rfl
  exact hw.moves.step (hv.one rfl rfl rfl) rfl rfl rfl

theorem firstGates_eq (s : State) :
    firstGates s = portsTrain (log Ev.RESET [s.rd F.CLK_STATUS_RESET_CAUSE] (firstOpened s)) := by
  rw [← (firstOpened_moves s).rd F.CLK_STATUS_RESET_CAUSE 0 rfl]
  rfl

/-- What the first gates leave. -/
structure FirstGates (s t : State) : Prop where
  clk : t.clk = s.clk.firstOpened s.time.xt
  phase : t.rd F.CLK_STATUS_CLK_PHASE = 3
  link : t.time.link = true
  station : t.station = 0 ∧ t.time.stHeld = false
  modSt : t.rd F.NRL_STATE_MOD_ST = if s.rd F.NRL_STATE_MOD_ST = 0 then 1 else s.rd F.NRL_STATE_MOD_ST
  logged : Logged Ev.RESET [s.rd F.CLK_STATUS_RESET_CAUSE] s t
  frame : Moves (traceParts ++ [.time, .clk, .fld]) traceObjs [F.CLK_STATUS_CLK_PHASE, F.NRL_STATE_MOD_ST, F.NRL_CTRL_PA_ST,
    F.NRL_STATE_PB_ST, F.NRL_STATE_WRAP_A, F.NRL_STATE_WRAP_B] s t

theorem firstGates_open (s : State) : FirstGates s (firstGates s) := by
  have hu := firstOpened_moves s
  have hlog := trace_log Ev.RESET [s.rd F.CLK_STATUS_RESET_CAUSE] (firstOpened s)
  have hports := portsTrain_moves (log Ev.RESET [s.rd F.CLK_STATUS_RESET_CAUSE] (firstOpened s))
  have hmod := portsTrain_modSt (log Ev.RESET [s.rd F.CLK_STATUS_RESET_CAUSE] (firstOpened s))
  have hlogged := logged_log Ev.RESET [s.rd F.CLK_STATUS_RESET_CAUSE] (firstOpened s)
  have hgrows := portsTrain_grows (log Ev.RESET [s.rd F.CLK_STATUS_RESET_CAUSE] (firstOpened s))
  rw [← firstGates_eq] at hports hmod hgrows
  have htime : (firstGates s).time = (stationBegun s).time := (hports.1.1 .time (by decide)).trans (log_time ..)
  refine ⟨?_, ?_, ?_, ⟨?_, ?_⟩, ?_, hlogged.within rfl hgrows, ?_⟩
  · exact (hports.1.1 .clk (by decide)).trans (hlog.1 .clk (by decide))
  · rw [hports.rd _ _ rfl, hlog.moves.rd _ _ rfl]
    exact State.rd_wr_same (stationBegun s) F.CLK_STATUS_CLK_PHASE 3 0
  · rw [htime]; rfl
  · rw [State.station, htime]
    simp [stationBegun, setStation]
  · rw [htime]; rfl
  · rw [hmod, hlog.moves.rd _ _ rfl, hu.rd _ _ rfl]
  · exact hports.step (hlog.moves.step (hu.one rfl rfl rfl) rfl rfl rfl) rfl rfl rfl

/-- The link runs unjudged while the crystal stands. -/
theorem limited_opens {a : State} (hin : a.clk.inReset = false) (hgates : a.clk.gatesOpened = none)
    (hxtal : a.rd F.CLK_STATUS_XTAL_OK = 0) :
    let t := xtalLimited a
    (t.clk.limited = true ∧ t.clk.lane = false ∧ t.clk.supv = true ∧ t.clk.image = true ∧ t.clk.event = true ∧
        t.time.link = true) ∧
      t.rd F.CLK_STATUS_CLK_PHASE = 6 ∧ t.station = 0 ∧
      Moves (traceParts ++ [.time, .clk, .fld]) traceObjs [F.CLK_STATUS_CLK_PHASE, F.NRL_CTRL_PA_ST,
        F.NRL_PORTA_LINK_LOCK_LOSS_A, F.NRL_PORTB_LINK_LOCK_LOSS_B, F.NRL_STATE_MOD_ST, F.NRL_STATE_PB_ST,
        F.NRL_STATE_WRAP_A, F.NRL_STATE_WRAP_B] a t := by
  unfold xtalLimited
  rw [if_neg (by simp [hin, hgates, State.is, hxtal])]
  extract_lets +onlyGivenNames _ u
  have hl : Leaves [.clk] [] a { a with clk := { a.clk with limited := true } } := Leaves.set_clk ..
  have hg : FirstGates { a with clk := { a.clk with limited := true } } u := firstGates_open _
  clear_value u
  have hv : Moves [.clk] [] [] u { u with clk := { u.clk with lane := false } } := (Leaves.set_clk ..).moves
  refine ⟨⟨?_, rfl, ?_, ?_, ?_, hg.link⟩, State.rd_wr_same .., hg.station.1, ?_⟩
  · exact (congrArg ClkSt.limited hg.clk :)
  · exact (congrArg ClkSt.supv hg.clk :)
  · exact (congrArg ClkSt.image hg.clk :)
  · exact (congrArg ClkSt.event hg.clk :)
  · exact (State.wr_moves ..).step (hv.step (hg.frame.step (hl.moves.one rfl rfl rfl) rfl rfl rfl) rfl rfl rfl) rfl rfl rfl

end Sys2Proof.Machine
end

section
/-!
The frame of gates that open after a bridge (R87, R308, R423): which fields each shared operation in it touches.
-/

namespace Sys2Proof.Machine

/-- What opening the gates after a bridge touches. -/
def bridgeParts : List Part :=
  traceParts ++ [.time, .clk, .mbx, .img, .scn, .prg, .fld, .ana, .ang, .pair, .free]
def bridgeFlds : List Fld :=
  [F.ANG_CAPPOS_CAPPOS, F.ANG_EV_STATE, F.ANG_PERIOD_PERIOD, F.ANG_STATUS_BSHORT, F.ANG_STATUS_CAUSE, F.ANG_STATUS_RELATIVE,
    F.ANG_STATUS_STATE, F.CLK_EVENTS_RELOCK_LATE, F.CLK_PARK_TIME_PERIODS, F.CLK_STATUS_CLK_PHASE, F.DG_CHSTAT_BSHORT,
    F.DG_CHSTAT_CLAMP, F.DG_CHSTAT_LOCKED, F.DG_CHSTAT_PENDING, F.DG_GSTAT_BC_V, F.DG_GSTAT_RATE, F.DG_GSTAT_WORD,
    F.MBX_QUEUES_CQ_FREE, F.MBX_QUEUES_CR_FREE, F.MBX_USE_HANDLES_USED, F.MBX_USE_SESSIONS_OPEN, F.NRL_CTRL_PA_ST,
    F.NRL_PORTA_LINK_LOCK_LOSS_A, F.NRL_PORTB_LINK_LOCK_LOSS_B, F.NRL_STATE_MOD_ST, F.NRL_STATE_PB_ST, F.NRL_STATE_WRAP_A,
    F.NRL_STATE_WRAP_B, F.PLT_PSTATE_ROLE, F.PPR_STAT_FRESH, F.PPR_STAT_VERIFIED_OK, F.PRG_ACT_PENDING, F.SCN_MODE_CAUSE,
    F.SCN_MODE_CAUSE_PERSISTS, F.SCN_MODE_MODE, F.SCN_MODE_PENDING]

abbrev BridgeMoves (s t : State) : Prop := Moves bridgeParts traceObjs bridgeFlds s t

section
variable {ps : List Part} {s t : State}

/-- A step that touches no field beside those of the recorder and the interrupt controller. -/
theorem Leaves.bridge {os : List Nat} (h : Leaves ps os s t) (hp : ps.all (bridgeParts.contains ·) = true)
    (ho : os.all (traceObjs.contains ·) = true) : BridgeMoves s t := h.moves.one hp ho rfl

/-- A write of a field of the frame. -/
theorem State.wr_bridge (s : State) (f : Fld) (v i : Nat) (hf : fieldsWithin traceObjs bridgeFlds [f] = true) :
    BridgeMoves s (s.wr f v i) := (State.wr_moves s f v i).one rfl rfl hf

end

/-! ### Digital stages -/

theorem dgSync_bridge (s : State) (g : Nat) : BridgeMoves s (dgSync s g) :=
  ((State.wr_bridge _ _ _ _ rfl).trans <| (State.wr_bridge _ _ _ _ rfl).trans (State.wr_bridge _ _ _ _ rfl)).trans <|
    (hostSync_leaves ..).bridge rfl rfl

theorem stageOff_bridge (s : State) (c : Nat) : BridgeMoves s (stageOff s c) := by
  unfold stageOff
  extract_lets x u
  have hu : BridgeMoves s u := (putDch_leaves ..).bridge rfl rfl
  exact .ite (hu.trans (State.wr_bridge _ _ _ _ rfl)) hu

theorem stageOn_bridge (s : State) (c : Nat) (boost : Bool) : BridgeMoves s (stageOn s c boost) := by
  have hput : ∀ (u : State) (x : DgCh), BridgeMoves u (putDch u c x) := fun u x => (putDch_leaves ..).bridge rfl rfl
  unfold stageOn
  extract_lets +onlyGivenNames x i g u _ v
  have hv : BridgeMoves s v := ((settleBc_leaves s g).bridge rfl rfl).trans ((putDgg_leaves ..).bridge rfl rfl)
  refine .ite (.refl s) (.ite (.ite (.ite ?_ ?_) (hput ..)) (hput ..))
  · exact hv.trans <| (hput ..).trans (dgSync_bridge ..)
  · exact (hput ..).trans (State.wr_bridge _ _ _ _ rfl)

theorem drive_bridge (s : State) (c : Nat) (on boost : Bool) (ev : Option Nat) : BridgeMoves s (drive s c on boost ev) := by
  have hput : ∀ (u : State) (x : DgCh), BridgeMoves u (putDch u c x) := fun u x => (putDch_leaves ..).bridge rfl rfl
  unfold drive
  extract_lets +onlyGivenNames _ u v
  have hu : BridgeMoves s u := hput ..
  have hv : BridgeMoves u v := (State.wr_bridge _ _ _ _ rfl).trans (State.wr_bridge _ _ _ _ rfl)
  refine .ite ?_ (.ite hu (.ite ?_ (hu.trans (stageOn_bridge ..))))
  · exact hu.trans <| hv.trans <| (hput ..).trans (stageOff_bridge ..)
  · exact hu.trans <| (hput ..).trans (State.wr_bridge _ _ _ _ rfl)

theorem pwmStart_bridge (s : State) (c : Nat) : BridgeMoves s (pwmStart s c) := by
  unfold pwmStart
  extract_lets x t u
  exact ((putDch_leaves ..).bridge rfl rfl).trans (drive_bridge ..)

/-! ### Angle domains -/

theorem log_bridge (e : Nat × Nat) (arg : List Nat) (s : State) : BridgeMoves s (log e arg s) :=
  (trace_log ..).bridge rfl rfl

theorem putDom_bridge (s : State) (d : Nat) (x : AngDom) : BridgeMoves s (putDom s d x) := (putDom_leaves ..).bridge rfl rfl

theorem putCapture_bridge (s : State) (d : Nat) (bs : List Nat) : BridgeMoves s (putCapture s d bs) := by
  unfold putCapture
  extract_lets p m
  exact ((Leaves.set_ang s _).bridge rfl rfl).trans (State.wr_bridge _ _ _ _ rfl)

theorem setDom_bridge (s : State) (d st cause : Nat) : BridgeMoves s (setDom s d st cause) := by
  unfold setDom
  refine .ite (.refl s) ?_
  extract_lets a u v c w x
  have hu : BridgeMoves s u := State.wr_bridge _ _ _ _ rfl
  have hv : BridgeMoves u v := .ite (State.wr_bridge _ _ _ _ rfl) (.refl u)
  exact hu.trans <| hv.trans <| (log_bridge ..).trans <| (putCapture_bridge ..).trans ((trace_setLatch ..).bridge rfl rfl)

theorem suspend_bridge (s : State) (d : Nat) : BridgeMoves s (suspend s d) := by
  unfold suspend
  extract_lets +onlyGivenNames u
  have hu : BridgeMoves s u := Moves.foldl (fun s e => State.wr_bridge _ _ _ _ rfl) _ _
  exact hu.trans ((Leaves.set_ang u _).bridge rfl rfl)

theorem boostShort_bridge (s : State) (d e : Nat) : BridgeMoves s (boostShort s d e) := by
  unfold boostShort
  extract_lets +onlyGivenNames _ u
  have hinc : BridgeMoves s (s.inc F.ANG_STATUS_BSHORT d) := State.wr_bridge _ _ _ _ rfl
  exact hinc.trans <| (putDom_bridge ..).trans (log_bridge ..)

theorem lossLevel_bridge (s : State) (d : Nat) (c : Nat × Bool) : BridgeMoves s (lossLevel s d c) := by
  unfold lossLevel
  extract_lets g u
  have hu : BridgeMoves s u := boostShort_bridge ..
  exact .ite (.refl s) (.ite (drive_bridge ..) (.ite (drive_bridge ..) (.ite hu (hu.trans (drive_bridge ..)))))

theorem enterLost_bridge (s : State) (d cause : Nat) : BridgeMoves s (enterLost s d cause) := by
  unfold enterLost
  extract_lets +onlyGivenNames a u _ v
  have hv : BridgeMoves s v := (setDom_bridge s d dLOST cause).trans (putDom_bridge ..)
  exact (hv.trans (suspend_bridge v d)).trans (Moves.foldl (fun s c => lossLevel_bridge s d c) _ _)

theorem resumeEvents_bridge (s : State) (d : Nat) : BridgeMoves s (resumeEvents s d) := by
  unfold resumeEvents
  extract_lets t
  refine Moves.foldl (fun s e => ?_) _ _
  exact .ite ((State.wr_bridge _ _ _ _ rfl).trans ((putEv_leaves ..).bridge rfl rfl)) (.refl s)

theorem synPeriod_bridge (s : State) (d : Nat) : BridgeMoves s (synPeriod s d) := by
  unfold synPeriod
  extract_lets v r
  exact ((fit32_leaves s _).bridge rfl rfl).trans (State.wr_bridge r.2 _ _ _ rfl)

theorem startDomain_bridge (s : State) (d : Nat) : BridgeMoves s (startDomain s d) := by
  have hrel : ∀ u : State, BridgeMoves u (u.wr F.ANG_STATUS_RELATIVE 0 d) := fun u => State.wr_bridge _ _ _ _ rfl
  unfold startDomain
  split
  · exact (putDom_bridge ..).trans <| (hrel _).trans (setDom_bridge ..)
  · extract_lets u
    exact (putDom_bridge s d _).trans <| (hrel u).trans <| (synPeriod_bridge ..).trans <| (setDom_bridge ..).trans <|
      resumeEvents_bridge ..
  · exact (putDom_bridge ..).trans <| (hrel _).trans (setDom_bridge ..)

theorem reopenDomain_bridge (s : State) (d : Nat) : BridgeMoves s (reopenDomain s d) := by
  unfold reopenDomain
  split
  · exact .refl s
  · exact (suspend_bridge ..).trans (startDomain_bridge ..)
  · exact .ite (.refl s) (enterLost_bridge ..)

/-! ### The field side -/

theorem syncReset_bridge (s : State) (c : Nat) : BridgeMoves s (syncReset s c) := by
  unfold syncReset
  extract_lets x u
  have hu : BridgeMoves s u := (putAch_leaves ..).bridge rfl rfl
  exact hu.trans <| (State.wr_bridge _ _ _ _ rfl).trans <| (State.wr_bridge _ _ _ _ rfl).trans <|
    (winReset_leaves ..).bridge rfl rfl

theorem reopenField_bridge (s : State) : BridgeMoves s (reopenField s) := by
  unfold reopenField
  extract_lets +onlyGivenNames _ u v w
  have hu : BridgeMoves s u := (Leaves.set_fld s u.fld).bridge rfl rfl
  have hv : BridgeMoves u v := Moves.foldl reopenDomain_bridge _ _
  have hw : BridgeMoves v w := Moves.foldl (fun s g => Moves.foldl (fun s k => syncReset_bridge ..) _ _) _ _
  exact hu.trans <| hv.trans <| hw.trans (Moves.foldl (fun s c => .ite (pwmStart_bridge s c) (.refl s)) _ _)

/-! ### Entry into FAULT -/

theorem finNum_bridge (s : State) (n status result : Nat) (data : List Nat) :
    BridgeMoves s (finNum s n status result data) :=
  (Spares.movesWithin (finNum_latch ..) (finNum_leaves s n status result data) (rs := traceObjs) (vs := bridgeFlds)
    rfl rfl rfl).one rfl rfl rfl

theorem finMode_bridge (s : State) (p : PendMode) (status : Nat) : BridgeMoves s (finMode s p status) :=
  .ite (.refl s) (finNum_bridge ..)

theorem endActivation_bridge (s : State) (status : Nat) : BridgeMoves s (endActivation s status) := by
  unfold endActivation
  split
  · exact .refl s
  · extract_lets +onlyGivenNames _ u
    have hprg : ∀ x : PrgSt, BridgeMoves s { s with prg := x } := fun x => (Leaves.set_prg s x).bridge rfl rfl
    have hu : BridgeMoves s u := (hprg _).trans (State.wr_bridge _ _ _ _ rfl)
    exact .ite hu (hu.trans (finNum_bridge ..))

theorem endPending_bridge (s : State) (status : Nat) : BridgeMoves s (endPending s status) := by
  unfold endPending
  split
  · exact .ite (.refl s) (endActivation_bridge ..)
  · exact .refl s

theorem clearPend_bridge (s : State) : BridgeMoves s (clearPend s) := by
  have hscn : ∀ x : ScnSt, BridgeMoves s { s with scn := x } := fun x => (Leaves.set_scn s x).bridge rfl rfl
  exact (hscn _).trans (State.wr_bridge _ _ _ _ rfl)

theorem safeCommand_bridge (s : State) (kind : Nat) : BridgeMoves s (safeCommand s kind) := by
  have hsend : ∀ (u : State) (k : Nat), BridgeMoves u (sendCommand u k) := fun u k => (sendCommand_leaves ..).bridge rfl rfl
  have hdisarm : ∀ u : State, BridgeMoves u (disarmOutputs u) := fun u =>
    Moves.foldl (fun s e => .ite (State.wr_bridge _ _ _ _ rfl) (.refl s)) _ _
  exact .ite (((setYield_leaves s).bridge rfl rfl).trans <| ((updPair_leaves ..).bridge rfl rfl).trans (hsend ..))
    ((hsend ..).trans (hdisarm _))

/-- A mode change but for latch MODE and source 301, which follow it. -/
theorem setMode_changes (s : State) (new cause restart : Nat) : ∃ u, BridgeMoves s u ∧ u.time.bases = s.time.bases ∧
    u.mode = new % 2 ^ F.SCN_MODE_MODE.width ∧ setMode s new cause restart = hostSync 301 (setLatch 20 u) := by
  unfold setMode
  extract_lets +onlyGivenNames old a b c d e _ _ f
  have ha : BridgeMoves s a := .ite ((stopRunTicks_leaves ..).bridge rfl rfl) (.refl s)
  have hb : BridgeMoves a b := State.wr_bridge _ _ _ _ rfl
  have hc : Leaves [.time] [] b c := .ite (startRunTicks_leaves ..) (.refl ..)
  have hd : Moves [.pair] [] [F.PLT_PSTATE_ROLE] c d := .ite (.refl c) <| .ite (.refl c) <|
    ((updPair_leaves _ _).moves.step ((State.wr_moves ..).one rfl rfl rfl) rfl rfl rfl)
  have he : Trace d e := trace_log ..
  have hf : Leaves [.scn, .img] [] e f :=
    (Leaves.set_img { e with scn := f.scn } f.img).step ((Leaves.set_scn e f.scn).one rfl rfl) rfl rfl
  have hta : a.time.bases = s.time.bases := by
    unfold a
    split <;> rfl
  have htc : c.time.bases = b.time.bases := by
    unfold c
    split <;> rfl
  refine ⟨f, ?_, ?_, ?_, rfl⟩
  · exact ha.trans <| hb.trans <| (hc.bridge rfl rfl).trans <| (hd.one rfl rfl rfl).trans <|
      (he.bridge rfl rfl).trans (hf.bridge rfl rfl)
  · rw [hf.1 .time (by decide), he.1 .time (by decide), hd.1.1 .time (by decide), htc]
    exact hta
  · rw [State.mode, hf.moves.rd _ _ rfl, he.moves.rd _ _ rfl, hd.rd _ _ rfl, hc.moves.rd _ _ rfl]
    exact State.rd_wr_same ..

/-- What entry into FAULT ends before the mode changes. -/
def faultBegun (s : State) : State :=
  let u := match s.scn.pend with
    | some p => clearPend (finMode s p Code.MODE_FAULT)
    | none => s
  let u := discardTasks u
  let u := closeOpen { u with scn := { u.scn with
    running := none, preempted := [], waiting := [], presented := [], startQueue := [], retBusy := false, intact := false } }
  let u := { u with prg := { u.prg with deferring := false, deferred := [] }, int := { u.int with taken := [] } }
  safeCommand u 2

/-- CAUSE is shown. -/
def faultCaused (s : State) (cause : Nat) : State := (faultBegun s).wr F.SCN_MODE_CAUSE cause

theorem enterFault_eq {s : State} (cause : Nat) (h : ¬ (s.mode = mINIT ∨ s.mode = mFAULT)) :
    enterFault s cause = endPending
      (setMode (faultCaused s cause) mFAULT cause (faultBegun s).scn.restart) Code.ACTIVATE_FAULT :=
  if_neg h

theorem faultBegun_begins (s : State) : BridgeMoves s (faultBegun s) ∧ (faultBegun s).time = s.time := by
  unfold faultBegun
  extract_lets +onlyGivenNames a b _ c _ _ d
  have ha : BridgeMoves s a ∧ a.time = s.time := by
    unfold a
    split
    · exact ⟨(finMode_bridge ..).trans (clearPend_bridge _), (clearPend_leaves _).1 .time (by decide) |>.trans <|
        (finMode_leaves ..).1 .time (by decide)⟩
    · exact ⟨.refl s, rfl⟩
  have hb : Leaves [] [F.objINT_STAT, F.objINT_STATE] a b := discardTasks_leaves a
  have hscn : ∀ x : ScnSt, Leaves [.scn] [] b { b with scn := x } := Leaves.set_scn b
  have hc : Leaves [.img] [] _ c := closeOpen_leaves _
  have hd : Leaves [.prg, .int] [] c d :=
    (Leaves.set_int { c with prg := d.prg } d.int).step ((Leaves.set_prg c d.prg).one rfl rfl) rfl rfl
  refine ⟨?_, ?_⟩
  · exact ha.1.trans <| (hb.bridge rfl rfl).trans <| ((hscn _).bridge rfl rfl).trans <| (hc.bridge rfl rfl).trans <|
      (hd.bridge rfl rfl).trans (safeCommand_bridge ..)
  · rw [(safeCommand_leaves ..).1 .time (by decide), hd.1 .time (by decide), hc.1 .time (by decide)]
    exact (hb.1 .time (by decide)).trans ha.2

theorem enterFault_bridge (s : State) (cause : Nat) : BridgeMoves s (enterFault s cause) := by
  by_cases h : s.mode = mINIT ∨ s.mode = mFAULT
  · rw [enterFault, if_pos h]
    exact .refl s
  · rw [enterFault_eq cause h]
    obtain ⟨u, hu, -, -, he⟩ := setMode_changes (faultCaused s cause) mFAULT cause (faultBegun s).scn.restart
    rw [he]
    exact (faultBegun_begins s).1.trans <| (State.wr_bridge _ _ _ _ rfl).trans <| hu.trans <|
      ((trace_setLatch ..).bridge rfl rfl).trans <| ((trace_hostSync ..).bridge rfl rfl).trans (endPending_bridge ..)

theorem enterFault_bases (s : State) (cause : Nat) : (enterFault s cause).time.bases = s.time.bases := by
  by_cases h : s.mode = mINIT ∨ s.mode = mFAULT
  · rw [enterFault, if_pos h]
  · rw [enterFault_eq cause h]
    obtain ⟨u, -, hu, -, he⟩ := setMode_changes (faultCaused s cause) mFAULT cause (faultBegun s).scn.restart
    rw [he, (endPending_leaves ..).1 .time (by decide), (trace_hostSync ..).1 .time (by decide),
      (trace_setLatch ..).1 .time (by decide), hu, faultCaused, State.wr_time, (faultBegun_begins s).2]

theorem enterFault_mode {s : State} (cause : Nat) (h : s.mode = mRUN) : (enterFault s cause).mode = mFAULT := by
  rw [enterFault_eq cause (by rw [h]; decide)]
  obtain ⟨u, -, -, hu, he⟩ := setMode_changes (faultCaused s cause) mFAULT cause (faultBegun s).scn.restart
  rw [he, State.mode, (endPending_leaves ..).moves.rd _ _ rfl, (trace_hostSync ..).moves.rd _ _ rfl,
    (trace_setLatch ..).moves.rd _ _ rfl]
  exact hu

end Sys2Proof.Machine
end

section
/-!
Gates that open after a bridge (R86 to R88), and the obligation on gates, parks and steps.
-/

namespace Sys2Proof.Machine

/-! ### After a bridge -/

/-- The clock unit and the time bases after a bridge. -/
def ClkSt.bridgeEnded (x : ClkSt) (xt : Nat) : ClkSt :=
  { x with bridgeFrom := none, bridgeAge := xt - x.bridgeFrom.getD xt, bridgeLong := false, parked := false, bypass := false }
def TimeSt.linked (x : TimeSt) : TimeSt := { x with link := true, probeAt := x.now }

/-- The bridge is over. -/
def bridgeEnded (s : State) : State :=
  { s with time := s.time.linked, clk := s.clk.bridgeEnded s.time.xt }.wr F.CLK_STATUS_CLK_PHASE 3

theorem bridgeEnded_moves (s : State) : Moves [.time, .clk] [] [F.CLK_STATUS_CLK_PHASE] s (bridgeEnded s) := by
  have hu : Leaves [.time, .clk] [] s { s with time := s.time.linked, clk := s.clk.bridgeEnded s.time.xt } :=
    (Leaves.set_clk { s with time := s.time.linked } _).step ((Leaves.set_time s _).one rfl rfl) rfl rfl
  exact (State.wr_moves ..).step (hu.moves.one rfl rfl rfl) rfl rfl rfl

/-- The gates open again, from the event unit to the ports. -/
def gatesReopened (s : State) : State := portsTrain (reopenField (openLane (openEvent (openSys s))))

theorem bridgeGates_eq (s : State) : bridgeGates s = if s.clk.bridgeLong then
    enterFault (clockEvent F.CLK_EVENTS_RELOCK_LATE (gatesReopened (bridgeEnded s))) 1
  else gatesReopened (bridgeEnded s) := rfl

theorem TimeSt.link_of_bases {x y : TimeSt} (h : x.bases = y.bases) : x.link = y.link := (congrArg TimeSt.link h :)

theorem openSys_clk (s : State) : (openSys s).clk = { s.clk with supv := true, image := true } := rfl

theorem openEvent_clk (s : State) : (openEvent s).clk = { s.clk with event := true } := by
  have h : Leaves [.ring, .sto, .int] [F.objINT_STAT, F.objINT_STATE, F.objINT_STORMED, F.objREC_STAT]
      { s with clk := { s.clk with event := true } } (openEvent s) :=
    Leaves.transR (Leaves.foldl _ _ (fun _ _ _ => hostSync_leaves ..) _) (.refl ..)
  exact h.1 .clk (by decide)

theorem openLane_bases (s : State) : (openLane s).time.bases = s.time.bases := by
  have hticks : ∀ u : State, (ticksResumed u).time.bases = u.time.bases := fun u => by
    unfold ticksResumed
    split <;> rfl
  have htimed : (laneTimed s).time = s.time := (laneTimed_moves s).1.1 .time (by decide)
  rw [openLane_eq, (persistReg_moves _).1.1 .time (by decide), hticks, ← htimed]
  rfl

/-- The clock unit with every gate open. -/
def ClkSt.reopened (x : ClkSt) : ClkSt :=
  { x with supv := true, image := true, event := true, lane := true, laneFrom := none }

/-- What touches neither the clock unit nor the time bases, the phase nor the mode once the gates are open. -/
theorem fieldTrains_leaves (s : State) : Moves (traceParts ++ [.fld, .ana, .ang, .free]) (traceObjs ++ [F.objANG_CAPPOS,
    F.objANG_EV, F.objANG_PERIOD, F.objANG_STATUS, F.objDG_CHSTAT, F.objDG_GSTAT, F.objPPR_STAT])
    (F.NRL_STATE_MOD_ST :: portStFlds) s (portsTrain (reopenField s)) :=
  (portsTrain_moves _).step ((reopenField_leaves s).moves.one rfl rfl rfl) rfl rfl rfl

theorem gatesReopened_clk (s : State) : (gatesReopened s).clk = s.clk.reopened := by
  rw [gatesReopened, (fieldTrains_leaves _).1.1 .clk (by decide), openLane_clk, openEvent_clk, openSys_clk]
  rfl

theorem gatesReopened_bases (s : State) : (gatesReopened s).time.bases = s.time.bases := by
  rw [gatesReopened, (fieldTrains_leaves _).1.1 .time (by decide), openLane_bases, (openEvent_leaves _).1 .time (by decide),
    (openSys_leaves _).1 .time (by decide)]

theorem gatesReopened_link (s : State) : (gatesReopened s).time.link = s.time.link :=
  TimeSt.link_of_bases (gatesReopened_bases s)

theorem gatesReopened_rd (s : State) {f : Fld} (hf : f = F.CLK_STATUS_CLK_PHASE ∨ f = F.SCN_MODE_MODE) :
    (gatesReopened s).rd f = s.rd f := by
  obtain rfl | rfl := hf
  · rw [gatesReopened, (fieldTrains_leaves _).rd _ _ rfl, (openLane_moves _).rd _ _ rfl, (openEvent_leaves _).moves.rd _ _ rfl,
      (openSys_leaves _).moves.rd _ _ rfl]
  · rw [gatesReopened, (fieldTrains_leaves _).rd _ _ rfl, (openLane_moves _).rd _ _ rfl, (openEvent_leaves _).moves.rd _ _ rfl,
      (openSys_leaves _).moves.rd _ _ rfl]

theorem gatesReopened_bridge (s : State) : BridgeMoves s (gatesReopened s) :=
  ((openSys_leaves s).bridge rfl rfl).trans <| ((openEvent_leaves _).bridge rfl rfl).trans <|
    ((openLane_moves _).one rfl rfl rfl).trans <| (reopenField_bridge _).trans ((portsTrain_moves _).one rfl rfl rfl)

/-- A bridge too long is reported and ends in FAULT. -/
def lateFault (s : State) : State := enterFault (clockEvent F.CLK_EVENTS_RELOCK_LATE s) 1

theorem lateFault_bridge (s : State) : BridgeMoves s (lateFault s) :=
  ((clockEvent_moves F.CLK_EVENTS_RELOCK_LATE s).one rfl rfl rfl).trans (enterFault_bridge ..)

theorem lateFault_clk (s : State) : (lateFault s).clk = s.clk :=
  ((enterFault_leaves ..).1 .clk (by decide)).trans ((clockEvent_moves F.CLK_EVENTS_RELOCK_LATE s).1.1 .clk (by decide))

theorem lateFault_bases (s : State) : (lateFault s).time.bases = s.time.bases := by
  rw [lateFault, enterFault_bases, (clockEvent_moves F.CLK_EVENTS_RELOCK_LATE s).1.1 .time (by decide)]

theorem lateFault_phase (s : State) : (lateFault s).rd F.CLK_STATUS_CLK_PHASE = s.rd F.CLK_STATUS_CLK_PHASE := by
  rw [lateFault, (enterFault_leaves ..).moves.rd _ _ rfl, (clockEvent_moves F.CLK_EVENTS_RELOCK_LATE s).rd _ _ rfl]

theorem lateFault_faults {s : State} (h : s.mode = mRUN) :
    (lateFault s).mode = mFAULT ∧ (lateFault s).rd F.CLK_EVENTS_RELOCK_LATE = 1 := by
  refine ⟨enterFault_mode 1 ?_, ?_⟩
  · exact ((clockEvent_moves F.CLK_EVENTS_RELOCK_LATE s).rd F.SCN_MODE_MODE 0 rfl).trans h
  · rw [lateFault, (enterFault_leaves ..).moves.rd _ _ rfl]
    exact clockEvent_rd _ _ (by decide) (by decide)

/-- What the gates that open after a bridge leave. -/
theorem bridge_ends {a : State} {n : Nat} (hphase : a.rd F.CLK_STATUS_CLK_PHASE = 2) (hfrom : a.clk.bridgeFrom = some n) :
    let t := pllGatesOpen 3 a
    (t.clk.lane = true ∧ t.clk.supv = true ∧ t.clk.image = true ∧ t.clk.event = true ∧ t.time.link = true) ∧
      t.rd F.CLK_STATUS_CLK_PHASE = 3 ∧
      (t.clk.bridgeFrom = none ∧ t.clk.parked = false ∧ t.clk.bridgeAge = a.time.xt - n) ∧
      (a.clk.bridgeLong = true → a.mode = mRUN → t.mode = mFAULT ∧ t.rd F.CLK_EVENTS_RELOCK_LATE = 1) ∧
      BridgeMoves a t := by
  have ht : pllGatesOpen 3 a = if a.clk.bridgeLong then lateFault (gatesReopened (bridgeEnded a))
      else gatesReopened (bridgeEnded a) := by
    unfold pllGatesOpen
    simp only [hphase, ne_eq, not_true_eq_false, if_false, hfrom, Option.isSome_some, if_true]
    exact bridgeGates_eq a
  have hend := bridgeEnded_moves a
  have hframe : BridgeMoves a (gatesReopened (bridgeEnded a)) := (hend.one rfl rfl rfl).trans (gatesReopened_bridge _)
  have hclk : (gatesReopened (bridgeEnded a)).clk = (a.clk.bridgeEnded a.time.xt).reopened := gatesReopened_clk _
  have hlink : (gatesReopened (bridgeEnded a)).time.link = true := gatesReopened_link (bridgeEnded a)
  have hopen : (gatesReopened (bridgeEnded a)).rd F.CLK_STATUS_CLK_PHASE = 3 :=
    (gatesReopened_rd _ (.inl rfl)).trans (State.rd_wr_same ..)
  have hmode : (gatesReopened (bridgeEnded a)).mode = a.mode := (gatesReopened_rd _ (.inr rfl)).trans (hend.rd _ _ rfl)
  generalize gatesReopened (bridgeEnded a) = u at *
  have htclk : (pllGatesOpen 3 a).clk = u.clk := by
    rw [ht]
    split
    · exact lateFault_clk u
    · rfl
  refine ⟨⟨?_, ?_, ?_, ?_, ?_⟩, ?_, ⟨?_, ?_, ?_⟩, ?_, ?_⟩
  · rw [htclk, hclk]; rfl
  · rw [htclk, hclk]; rfl
  · rw [htclk, hclk]; rfl
  · rw [htclk, hclk]; rfl
  · rw [ht]
    split
    · exact (TimeSt.link_of_bases (lateFault_bases u)).trans hlink
    · exact hlink
  · rw [ht]
    split
    · exact (lateFault_phase u).trans hopen
    · exact hopen
  · rw [htclk, hclk]; rfl
  · rw [htclk, hclk]; rfl
  · rw [htclk, hclk, ClkSt.reopened, ClkSt.bridgeEnded, hfrom]
    rfl
  · intro hlong hrun
    rw [ht, if_pos hlong]
    exact lateFault_faults (hmode.trans hrun)
  · rw [ht]
    exact .ite (hframe.trans (lateFault_bridge u)) hframe

/-! ### The obligation -/

/-- Settles O25: gates by `firstGates_open`, `bridge_ends` and `lane_opens`, the rest by a lemma for each command. -/
theorem clockGatesParksAndSteps : Obligations.ClockGatesParksAndSteps := by
  unfold Obligations.ClockGatesParksAndSteps
  refine ⟨?first, ?bridge, ?lane, ?frame, ?park, ?step, ?defer, ?stop, ?resume, ?limited⟩
  case first =>
    intro dt s a hphase hfrom
    have ht : pllGatesOpen 3 a = firstGates a := by
      unfold pllGatesOpen
      simp only [hphase, ne_eq, not_true_eq_false, if_false, hfrom, Option.isSome_none, Bool.false_eq_true]
    have h := firstGates_open a
    rw [← ht] at h
    exact ⟨_, rfl, ⟨(congrArg ClkSt.lane h.clk :), (congrArg ClkSt.supv h.clk :), (congrArg ClkSt.image h.clk :),
      (congrArg ClkSt.event h.clk :), h.link⟩, h.phase, h.station, (congrArg ClkSt.gatesOpened h.clk :), h.modSt, h.logged,
      h.frame⟩
  case bridge =>
    intro dt s n a hphase hfrom
    exact ⟨_, rfl, bridge_ends hphase hfrom⟩
  case lane =>
    intro dt s n a hphase hlane hlim hfrom
    exact ⟨_, rfl, lane_opens hphase hlane hlim hfrom⟩
  case frame =>
    intro dt s n a hfrom hnone
    exact ⟨_, rfl, bridge_ages hfrom hnone⟩
  case park =>
    intro dt s n a hann hpark htimed hlink hdue hidle
    exact ⟨_, rfl, park_begins hann hpark htimed hlink hdue hidle⟩
  case step =>
    intro dt s k a hto hlane hmode hk
    exact ⟨_, rfl, step_taken hto hlane hmode hk⟩
  case defer =>
    intro dt s k n a hto hlane hmode hurgent hdefer hidle hpres hahead hfails hn
    exact ⟨_, rfl, step_deferred hto hlane hmode hurgent hdefer hidle hpres hahead hfails hn⟩
  case stop =>
    intro dt s a hpow hrun hin
    exact ⟨_, rfl, crystal_stops hpow hrun hin⟩
  case resume =>
    intro dt s a hpow hrun hin
    exact ⟨_, rfl, crystal_resumes hpow hrun hin⟩
  case limited =>
    intro dt s a hin hgates hxtal
    exact ⟨_, rfl, limited_opens hin hgates hxtal⟩

end Sys2Proof.Machine
end

section
/-!
The start-up: a concrete state that refutes the statement.
-/

namespace Sys2Proof.Machine

/-- A module whose digital group 0 has supply and valid code, with 256 in CLK.START.DG_LOADED: the register file of an
arbitrary state is not bound to the eight bits of the field. -/
def State.strayLoaded : State :=
  { State.reset with
    regs := Table.insert State.reset.regs (F.CLK_START_DG_LOADED.key 0 0) 256
    clk := { State.reset.clk with fwRunning := true }
    sec := { State.reset.sec with loaded := 4 }
    fld := { State.reset.fld with dgg := [(0, { supply := 2 })] } }

/-- Refutes O35: the clause on the load of a digital group leaves DG_LOADED unbound. A write keeps the eight bits of the
field, so DG_LOADED reads 1 after the load of group 0, and not 256 with bit 0 set. -/
theorem not_startUp : ¬ Obligations.StartUp := by
  rintro ⟨-, -, -, -, -, -, -, loads, -⟩
  obtain ⟨t, ht, hloaded, -⟩ := loads .zero .strayLoaded 0 0 (by decide) rfl (by decide +kernel) (by decide +kernel)
    (by decide +kernel)
  obtain rfl : groupLoad 0 0 (advance .zero .strayLoaded) = t := Host.Outcome.next.inj ht
  exact absurd hloaded (by decide +kernel)

end Sys2Proof.Machine
end

section
/-!
The mailbox's own operations: what popping a command, placing records and answering leave of the queue, the sessions and
the rest of the machine.
-/

namespace Sys2Proof.Machine

/-! ### The ring interface while records are placed -/

theorem State.cinchNow_of_core {s t : State} (h : t.ring.core = s.ring.core) : t.cinchNow = s.cinchNow := by
  have hl : t.ring.latched = s.ring.latched := (congrArg RingSt.latched h :)
  have hc : t.ring.cinch = s.ring.cinch := (congrArg RingSt.cinch h :)
  rw [State.cinchNow, State.cinchNow, hl, hc]

@[simp] theorem queueRegs_core (s : State) : (queueRegs s).ring.core = s.ring.core := by
  unfold queueRegs
  simp

@[simp] theorem readyAll_core (k : Nat) (s : State) (q n : Nat) : (readyAll k s q n).ring.core = s.ring.core := by
  induction k generalizing s q n with
  | zero => rfl
  | succ k ih =>
    unfold readyAll
    split
    · rfl
    · exact ih ..

/-! ### The registers of the queues -/

@[simp] theorem queueRegs_mbx (s : State) : (queueRegs s).mbx = s.mbx := (queueRegs_leaves s).1 .mbx (by decide)
@[simp] theorem queueRegs_time (s : State) : (queueRegs s).time = s.time := (queueRegs_leaves s).1 .time (by decide)
@[simp] theorem readyAll_mbx (k : Nat) (s : State) (q n : Nat) : (readyAll k s q n).mbx = s.mbx :=
  (readyAll_leaves k s q n).1 .mbx (by decide)

/-- The registers that follow the two queues. -/
def queueFlds : List Fld := [F.MBX_QUEUES_CQ_FREE, F.MBX_QUEUES_CR_FREE]

theorem queueRegs_moves (s : State) : Moves traceParts traceObjs queueFlds s (queueRegs s) := by
  unfold queueRegs
  extract_lets used
  have hregs : Moves traceParts traceObjs queueFlds s
      ((s.wr F.MBX_QUEUES_CQ_FREE (2048 - s.mbx.cq.length)).wr F.MBX_QUEUES_CR_FREE (512 - used)) :=
    (State.wr_moves ..).step ((State.wr_moves ..).one rfl rfl rfl) rfl rfl rfl
  exact .after (trace_hostSync ..) (.after (trace_hostSync ..) (.after (trace_hostSync ..) (.after (trace_hostSync ..) hregs
    rfl rfl) rfl rfl) rfl rfl) rfl rfl

theorem queueRegs_records (s : State) : Records 4 s (queueRegs s) := by
  unfold queueRegs
  extract_lets used
  exact ((((Records.of_sto (n := 0) (by simp)).trans (hostSync_records ..)).trans (hostSync_records ..)).trans
    (hostSync_records ..)).trans (hostSync_records ..)

/-! ### Placing records -/

section
variable (s : State) (kind : Nat) (rep : Bool) (session clseq opcode status handle cinch result : Nat) (data : List Nat)
  (usb : Bool)

/-- The DATA records of a status record that is placed now. -/
def State.dataNow : List CqRec := dataRecs session usb s.time.now 64 (s.mbx.nextSeq + 1) 0 data

/-- A status record that is placed now. -/
def State.recNow : CqRec :=
  ⟨s.mbx.nextSeq, kind, rep, (s.dataNow session data usb).length, session, clseq, opcode, status, handle, cinch, result, 0,
    [], usb, false, s.time.now⟩

theorem placeRecs_mbx : (placeRecs s kind rep session clseq opcode status handle cinch result data usb).mbx =
    { s.mbx with
      cq := s.mbx.cq ++ s.recNow kind rep session clseq opcode status handle cinch result data usb ::
        s.dataNow session data usb
      nextSeq := (s.mbx.nextSeq + 1 + (s.dataNow session data usb).length) % 2 ^ 32 } := by
  unfold placeRecs
  simp only [queueRegs_mbx, readyAll_mbx]
  rfl

theorem placeRecs_moves : Moves (traceParts ++ [.mbx]) traceObjs queueFlds s
    (placeRecs s kind rep session clseq opcode status handle cinch result data usb) := by
  unfold placeRecs
  extract_lets +onlyGivenNames q ds r _ u
  have hu : Moves (traceParts ++ [.mbx]) traceObjs queueFlds s u := (Leaves.set_mbx s _).moves.one rfl rfl rfl
  exact (queueRegs_moves _).step (.after (readyAll_leaves ..) hu rfl rfl) rfl rfl rfl

@[simp] theorem placeRecs_core :
    (placeRecs s kind rep session clseq opcode status handle cinch result data usb).ring.core = s.ring.core := by
  unfold placeRecs
  simp

end

theorem popCmd_mbx (s : State) : (popCmd s).mbx = { s.mbx with ring := s.mbx.ring.tail } := queueRegs_mbx _

@[simp] theorem popCmd_core (s : State) : (popCmd s).ring.core = s.ring.core := queueRegs_core _

theorem popCmd_moves (s : State) : Moves (traceParts ++ [.mbx]) traceObjs queueFlds s (popCmd s) :=
  (queueRegs_moves _).step ((Leaves.set_mbx s _).moves.one rfl rfl rfl) rfl rfl rfl

theorem popCmd_records (s : State) : Records 4 s (popCmd s) := by
  have h := queueRegs_records { s with mbx := { s.mbx with ring := s.mbx.ring.tail } }
  exact ⟨h.sealed, h.count⟩

/-! ### Sessions -/

theorem mem_of_session? {s : State} {n : Nat} {x : Session} (h : s.session? n = some x) : x ∈ s.mbx.sessions ∧ x.no = n := by
  have hmem := List.mem_of_find?_eq_some h
  have hno := List.find?_some h
  exact ⟨hmem, by simpa using hno⟩

/-- Session `x` takes the place of every session of its number. -/
theorem find?_map_put (l : List Session) (x : Session) (n : Nat) :
    (l.map fun y => if y.no = x.no then x else y).find? (fun y => decide (y.no = n)) =
      if n = x.no then (l.find? fun y => decide (y.no = n)).map fun _ => x else l.find? fun y => decide (y.no = n) := by
  induction l with
  | nil => simp
  | cons y l ih =>
    simp only [List.map_cons, List.find?_cons, ih]
    by_cases hy : y.no = x.no <;> by_cases hn : n = x.no
    · simp [hy, hn]
    · simp [hy, hn, Ne.symm hn]
    · subst hn
      simp [hy]
    · simp only [hy, hn, if_false]

theorem putSession_session? (s : State) (x : Session) (n : Nat) :
    (putSession s x).session? n = if n = x.no then some x else s.session? n := by
  unfold putSession State.session?
  dsimp only
  split
  · next hany =>
    rw [find?_map_put]
    split
    · next hn =>
      obtain ⟨y, hy⟩ : ∃ y, s.mbx.sessions.find? (fun y => decide (y.no = n)) = some y := by
        rw [← Option.isSome_iff_exists, List.find?_isSome]
        obtain ⟨y, hy, he⟩ := List.any_eq_true.mp hany
        exact ⟨y, hy, hn ▸ he⟩
      rw [hy]
      rfl
    · rfl
  · next hany =>
    rw [List.find?_append]
    have hno : ∀ y ∈ s.mbx.sessions, y.no ≠ x.no := fun y hy he => hany (List.any_eq_true.mpr ⟨y, hy, by simpa using he⟩)
    split
    · next hn =>
      rw [List.find?_eq_none.mpr fun y hy => by simpa [hn] using hno y hy]
      simp [hn]
    · next hn =>
      rw [List.find?_cons_of_neg (by simpa using Ne.symm hn), List.find?_nil, Option.or_none]

theorem putSession_mbx (s : State) (x : Session) :
    (putSession s x).mbx = { s.mbx with sessions := (putSession s x).mbx.sessions } := rfl

/-! ### The answer to a command -/

/-- What an answer keeps beside the queue and the sessions. -/
structure Answers (s t : State) : Prop where
  ring : t.mbx.ring = s.mbx.ring
  hdls : t.mbx.hdls = s.mbx.hdls
  moves : Moves (traceParts ++ [.mbx]) traceObjs queueFlds s t

theorem answer_mbx (s : State) (c : Cmd) (a : Resp) (rep : Bool) : (answer s c a rep).mbx =
    { s.mbx with
      cq := s.mbx.cq ++ s.recNow 1 rep c.session c.clseq a.opcode a.status a.handle a.cinch a.result a.data c.usb ::
        s.dataNow c.session a.data c.usb
      nextSeq := (s.mbx.nextSeq + 1 + (s.dataNow c.session a.data c.usb).length) % 2 ^ 32 } := placeRecs_mbx ..

theorem answer_answers (s : State) (c : Cmd) (a : Resp) (rep : Bool) : Answers s (answer s c a rep) :=
  ⟨by rw [answer_mbx], by rw [answer_mbx], placeRecs_moves ..⟩

theorem answerOnly_answers (s : State) (c : Cmd) (status : Nat) : Answers s (answerOnly s c status) := answer_answers ..

theorem record_mbx (s : State) (no n : Nat) (a : Resp) :
    (record s no n a).mbx = { s.mbx with sessions := (record s no n a).mbx.sessions } := by
  unfold record
  split <;> rfl

/-- A response that the session remembers. -/
def replied (s : State) (c : Cmd) (status handle result : Nat) (data : List Nat) : State :=
  record (answer s c (respNow s c status handle result data) false) c.session c.clseq (respNow s c status handle result data)

section
variable (s : State) (c : Cmd) (status handle result : Nat) (data : List Nat)

theorem replied_mbx : (replied s c status handle result data).mbx =
    { s.mbx with
      cq := s.mbx.cq ++ s.recNow 1 false c.session c.clseq c.opcode status handle s.cinchNow result data c.usb ::
        s.dataNow c.session data c.usb
      nextSeq := (s.mbx.nextSeq + 1 + (s.dataNow c.session data c.usb).length) % 2 ^ 32
      sessions := (replied s c status handle result data).mbx.sessions } := by
  conv_lhs => rw [replied, record_mbx, answer_mbx]
  rfl

theorem replied_answers : Answers s (replied s c status handle result data) :=
  ⟨by rw [replied_mbx], by rw [replied_mbx], .after (record_leaves ..) (answer_answers ..).moves rfl rfl⟩

/-- The session remembers the response under the command's number, and its window moves on with a number ahead of it. -/
theorem replied_session {x : Session} (hx : s.session? c.session = some x) : ∃ y,
    (replied s c status handle result data).session? c.session = some y ∧
    y = { x with high := y.high, seen := y.seen } ∧
    (1 ≤ (c.clseq + 2 ^ 32 - x.high) % 2 ^ 32 → (c.clseq + 2 ^ 32 - x.high) % 2 ^ 32 < 2 ^ 31 →
      y.high = c.clseq ∧ (c.clseq, (⟨status, handle, s.cinchNow, result, data, c.opcode⟩ : Resp)) ∈ y.seen) := by
  have hsess : (answer s c (respNow s c status handle result data) false).session? c.session = some x := by
    rw [State.session?, answer_mbx]
    exact hx
  have hno : c.session = x.no := (mem_of_session? hx).2.symm
  unfold replied record
  rw [hsess]
  refine ⟨_, (putSession_session? ..).trans (if_pos hno), rfl, fun h1 h2 => ?_⟩
  dsimp only
  rw [if_pos ⟨h1, h2⟩]
  refine ⟨rfl, List.mem_filter.mpr ⟨List.mem_append_right _ (List.mem_singleton_self _), ?_⟩⟩
  dsimp only
  rw [Nat.add_sub_cancel_left]
  decide

theorem replied_other {n : Nat} (hn : n ≠ c.session) :
    (replied s c status handle result data).session? n = s.session? n := by
  have hsess : ∀ k, (answer s c (respNow s c status handle result data) false).session? k = s.session? k := by
    intro k
    rw [State.session?, answer_mbx]
    rfl
  unfold replied record
  split
  · exact hsess n
  · next x hx => rw [putSession_session?, if_neg fun h => hn (h.trans (mem_of_session? hx).2), hsess]

end

/-! ### From a command taken to its answer -/

/-- The command has left the ring, and nothing has entered the queue yet. -/
structure Unanswered (a u : State) : Prop where
  mbx : u.mbx = { a.mbx with ring := a.mbx.ring.tail, sessions := u.mbx.sessions }
  time : u.time = a.time
  core : u.ring.core = a.ring.core

section
variable {a u v t : State} {r : RingCmd} {status handle result : Nat} {data : List Nat}

theorem unanswered_popCmd (a : State) : Unanswered a (popCmd a) :=
  ⟨by rw [popCmd_mbx], (popCmd_leaves a).1 .time (by decide), popCmd_core a⟩

/-- A step on the way that touches at most the sessions of the mailbox. -/
theorem Unanswered.step (h : Unanswered a u) (hm : v.mbx = { u.mbx with sessions := v.mbx.sessions }) (ht : v.time = u.time)
    (hc : v.ring.core = u.ring.core) : Unanswered a v := by
  refine ⟨?_, ht.trans h.time, hc.trans h.core⟩
  rw [hm, h.mbx]

theorem Unanswered.placed (h : Unanswered a u) :
    u.mbx.cq ++ u.recNow 1 false (parse r).session (parse r).clseq (parse r).opcode status handle u.cinchNow result data
      (parse r).usb :: u.dataNow (parse r).session data (parse r).usb =
    a.mbx.cq ++ a.recNow 1 false (parse r).session (parse r).clseq (parse r).opcode status handle a.cinchNow result data
      (parse r).usb :: a.dataNow (parse r).session data (parse r).usb := by
  rw [State.cinchNow_of_core h.core, State.recNow, State.recNow, State.dataNow, State.dataNow, h.time, h.mbx]

theorem Unanswered.answeredOnly (h : Unanswered a u) : Answered r status 0 0 [] a (answerOnly u (parse r) status) := by
  refine ⟨?_, ?_⟩
  · rw [(answerOnly_answers ..).ring, h.mbx]
  · have hcq : (answerOnly u (parse r) status).mbx.cq = _ := congrArg MbxSt.cq (answer_mbx ..)
    rw [Responds, hcq]
    exact h.placed ▸ List.prefix_refl _

theorem Unanswered.answered (h : Unanswered a u) :
    Answered r status handle result data a (replied u (parse r) status handle result data) := by
  refine ⟨?_, ?_⟩
  · rw [(replied_answers ..).ring, h.mbx]
  · rw [Responds, replied_mbx]
    exact h.placed ▸ List.prefix_refl _

/-- What enters the queue later stands behind the answer. -/
theorem Answered.grow (h : Answered r status handle result data a u) (hr : t.mbx.ring = u.mbx.ring)
    (hc : u.mbx.cq <+: t.mbx.cq) : Answered r status handle result data a t :=
  ⟨hr.trans h.1, h.2.trans hc⟩

end

end Sys2Proof.Machine
end

section
/-!
The order of checks of a mailbox command (MBX-5) as equations, one for each way through them, and the obligation on them.
-/

namespace Sys2Proof.Machine

/-! ### The first checks -/

section
variable {op least : Nat} {role : Option Nat} {hd : Cmd → Session → State → State × Ans} {s : State} {c : Cmd} {r : RingCmd}
  {x : Session}

theorem mbxRun_of_head (hready : s.mbxReady = true) (hhead : s.mbx.ring.head? = some r) (hop : (parse r).opcode = op) :
    mbxRun op least hd s = takeCmd (parse r) (some least) hd (popCmd s) := by
  have hfront : s.front = some (parse r) := by rw [State.front, if_pos hready, hhead, Option.map_some]
  rw [mbxRun, hfront]
  exact if_pos hop

theorem mbxRun_idle (h : s.mbxReady = false ∨ ∀ r, s.mbx.ring.head? = some r → (parse r).opcode ≠ op) :
    mbxRun op least hd s = s := by
  unfold mbxRun State.front
  rcases h with h | h
  · rw [if_neg (by simp [h])]
    rfl
  · cases hhead : s.mbx.ring.head? with
    | none => split <;> simp_all [noEffect]
    | some r =>
      split
      · next c hc =>
        have : parse r = c := by
          split at hc
          · simpa using hc
          · simp at hc
        rw [if_neg (this ▸ h r hhead)]
        rfl
      · rfl

/-- A wrong MAC is counted and recorded. -/
def macJudged (s : State) (c : Cmd) (st : Nat) : State :=
  if st = Code.BAD_MAC then
    log Ev.BAD_MAC (leBytes 2 c.session ++ leBytes 2 c.opcode ++ leBytes 4 c.clseq) (s.inc F.MBX_USE_BAD_MAC)
  else s

/-- The session a command meets: the command keeps it from its idle timeout. -/
def Session.touched (x : Session) (xt : Nat) : Session := { x with lastXt := xt }

/-- The state in which the sequence number of a command of session `x` is judged. -/
def admitted (s : State) (x : Session) : State :=
  putSession { s with sec := { s.sec with unitAt := some s.time.xt } } (x.touched s.time.xt)

theorem takeCmd_malformed (hstart : s.clk.startFailed = false) (hform : c.formOk = false) :
    takeCmd c role hd s = answerOnly s c Code.BAD_LENGTH := by
  rw [takeCmd, if_neg (by simp [hstart]), if_pos (by simp [hform])]

theorem takeCmd_refused {st : Nat} (hstart : s.clk.startFailed = false) (hform : c.formOk = true)
    (hsess : checkSession s c = (st, none)) : takeCmd c role hd s = answerOnly (macJudged s c st) c st := by
  rw [takeCmd, if_neg (by simp [hstart]), if_neg (by simp [hform]), hsess]
  rfl

theorem takeCmd_admitted {st : Nat} (hstart : s.clk.startFailed = false) (hform : c.formOk = true)
    (hsess : checkSession s c = (st, some x)) :
    takeCmd c role hd s = checkSeq c (x.touched s.time.xt) role hd (admitted s x) := by
  rw [takeCmd, if_neg (by simp [hstart]), if_neg (by simp [hform]), hsess]
  rfl

/-- The session of a command that passes steps 2 and 3. -/
theorem session?_of_checkSession {st : Nat} (h : checkSession s c = (st, some x)) : s.session? c.session = some x := by
  unfold checkSession at h
  split at h
  · simp at h
  · next y hy =>
    repeat' split at h
    all_goals simp_all

theorem checkSession_popCmd (s : State) (c : Cmd) : checkSession (popCmd s) c = checkSession s c := by
  have hsess : (popCmd s).session? c.session = s.session? c.session := by
    rw [State.session?, popCmd_mbx]
    rfl
  rw [checkSession, hsess, checkSession]

@[simp] theorem popCmd_time (s : State) : (popCmd s).time = s.time := (popCmd_leaves s).1 .time (by decide)
@[simp] theorem popCmd_clk (s : State) : (popCmd s).clk = s.clk := (popCmd_leaves s).1 .clk (by decide)

end

/-! ### The sequence number and the role -/

/-- How far a number lies ahead of the newest one of its session, modulo 2^32. -/
def Session.ahead (x : Session) (n : Nat) : Nat := (n + 2 ^ 32 - x.high) % 2 ^ 32

theorem Session.ahead_lt (x : Session) (n : Nat) : x.ahead n < 2 ^ 32 := Nat.mod_lt _ (by decide)

section
variable {least : Nat} {role : Option Nat} {hd : Cmd → Session → State → State × Ans} {s : State} {c : Cmd} {x : Session}

/-- A number that is neither in the window nor ahead is stale. -/
theorem checkSeq_stale (h : c.clseq = 0 ∨ 2 ^ 31 ≤ x.ahead c.clseq ∧ x.ahead c.clseq < 2 ^ 32 - 63) :
    checkSeq c x role hd s = answerOnly s c Code.STALE_SEQ := by
  unfold checkSeq
  extract_lets d old window ahead refused
  change _ ∨ _ ≤ d ∧ d < _ at h
  rcases h with h | ⟨h1, h2⟩
  · rw [if_pos h]
  · split
    · rfl
    · have hw : window = false := by simp only [window, Bool.or_eq_false_iff, decide_eq_false_iff_not]; omega
      have ha : (ahead || decide (2 ^ 32 - 63 ≤ d)) = false := by
        simp only [ahead, Bool.or_eq_false_iff, Bool.and_eq_false_iff, decide_eq_false_iff_not]
        omega
      rw [hw, ha]
      rfl

/-- A number of the window that the session remembers is answered as before. -/
theorem checkSeq_again {e : Nat × Resp} (h0 : c.clseq ≠ 0) (h : x.ahead c.clseq = 0 ∨ 2 ^ 32 - 63 ≤ x.ahead c.clseq)
    (hseen : x.seen.find? (fun e => decide (e.1 = c.clseq)) = some e) : checkSeq c x role hd s = answer s c e.2 true := by
  unfold checkSeq
  extract_lets d old window ahead refused
  change d = 0 ∨ _ ≤ d at h
  have hw : window = true := by simp only [window, Bool.or_eq_true, decide_eq_true_eq]; exact h
  have ho : old = some e := hseen
  rw [if_neg h0, hw, ho]

/-- A number that is ahead is fresh. -/
theorem checkSeq_fresh (h0 : c.clseq ≠ 0) (h1 : 1 ≤ x.ahead c.clseq) (h2 : x.ahead c.clseq < 2 ^ 31) :
    checkSeq c x role hd s = match role with
      | none => replied s c Code.BAD_OPCODE 0 0 []
      | some m => if x.role < m then replied s c Code.ROLE_DENIED 0 0 [] else runCmd c x hd s := by
  unfold checkSeq
  extract_lets d old window ahead refused
  change 1 ≤ d at h1
  change d < _ at h2
  have hw : window = false := by simp only [window, Bool.or_eq_false_iff, decide_eq_false_iff_not]; omega
  have ha : ahead = true := by simp only [ahead, Bool.and_eq_true, decide_eq_true_eq]; exact ⟨h1, h2⟩
  rw [if_neg h0, hw, ha]
  cases role <;> rfl

/-- A session of too low a role runs nothing, whatever the number is. -/
theorem checkSeq_low (h : x.role < least) : Answers s (checkSeq c x (some least) hd s) := by
  unfold checkSeq
  extract_lets d old window ahead refused
  have hrefused : ∀ st, Answers s (refused st) := fun st => replied_answers s c st 0 0 []
  clear_value window old ahead refused
  split
  · exact answerOnly_answers ..
  · split
    · exact answer_answers ..
    · split
      · dsimp only
        rw [if_pos h]
        exact hrefused _
      · exact answerOnly_answers ..

end

/-! ### What stands while a command is checked -/

/-- The frame of a command that touches the mailbox alone. -/
abbrev CmdMoves (s t : State) : Prop :=
  Moves (traceParts ++ [.mbx, .sec]) traceObjs [F.MBX_QUEUES_CQ_FREE, F.MBX_QUEUES_CR_FREE, F.MBX_USE_BAD_MAC,
    F.MBX_USE_HANDLES_USED, F.MBX_USE_SESSIONS_OPEN] s t

section
variable {s t u : State} {c : Cmd} {x : Session}

theorem popCmd_frame (s : State) : CmdMoves s (popCmd s) := (popCmd_moves s).one rfl rfl rfl

theorem Answers.frame (h : Answers s t) : CmdMoves s t := h.moves.one rfl rfl rfl

theorem admitted_frame (s : State) (x : Session) : CmdMoves s (admitted s x) :=
  .after (putSession_leaves ..) ((Leaves.set_sec s _).moves.one rfl rfl rfl) rfl rfl

theorem macJudged_frame (s : State) (c : Cmd) (st : Nat) : CmdMoves s (macJudged s c st) :=
  .ite (.after (trace_log ..) ((State.inc_moves ..).one rfl rfl rfl) rfl rfl) (.refl s)

theorem unanswered_admitted (s : State) (x : Session) : Unanswered s (admitted (popCmd s) x) :=
  (unanswered_popCmd s).step rfl rfl rfl

theorem unanswered_macJudged (s : State) (c : Cmd) (st : Nat) : Unanswered s (macJudged (popCmd s) c st) := by
  refine (unanswered_popCmd s).step ?_ ?_ ?_ <;> unfold macJudged <;> split <;> simp

theorem admitted_session? (s : State) (x : Session) :
    (admitted (popCmd s) x).session? x.no = some (x.touched s.time.xt) :=
  (putSession_session? ..).trans <| (if_pos rfl).trans (by rw [popCmd_time])

/-- Until its answer a command leaves the ring, and no handle, mode or image changes. -/
theorem Answers.stands (h : Answers u t) (hu : Unanswered s u) (hm : CmdMoves s u) :
    t.mbx.ring = s.mbx.ring.tail ∧ t.mbx.hdls = s.mbx.hdls ∧ t.mode = s.mode ∧ t.img = s.img ∧ t.scn = s.scn := by
  have hst : CmdMoves s t := hm.trans h.frame
  refine ⟨?_, ?_, hst.rd _ _ rfl, hst.1.1 .img (by decide), hst.1.1 .scn (by decide)⟩
  · rw [h.ring, hu.mbx]
  · rw [h.hdls, hu.mbx]

/-- A wrong MAC is recorded and counted. -/
theorem macJudged_reports (s : State) (c : Cmd) :
    let t := answerOnly (macJudged (popCmd s) c Code.BAD_MAC) c Code.BAD_MAC
    Logged Ev.BAD_MAC (leBytes 2 c.session ++ leBytes 2 c.opcode ++ leBytes 4 c.clseq) s t ∧
      t.rd F.MBX_USE_BAD_MAC = min (2 ^ F.MBX_USE_BAD_MAC.width - 1) (s.rd F.MBX_USE_BAD_MAC + 1) := by
  intro t
  have hj : macJudged (popCmd s) c Code.BAD_MAC = log Ev.BAD_MAC
      (leBytes 2 c.session ++ leBytes 2 c.opcode ++ leBytes 4 c.clseq) ((popCmd s).inc F.MBX_USE_BAD_MAC) := if_pos rfl
  constructor
  · intro hsealed hroom
    have hrec := popCmd_records s
    obtain ⟨q, hq, hcode⟩ := mem_log Ev.BAD_MAC (leBytes 2 c.session ++ leBytes 2 c.opcode ++ leBytes 4 c.clseq)
      (s := (popCmd s).inc F.MBX_USE_BAD_MAC) (hrec.sealed.trans hsealed)
      (show (popCmd s).bufCnt < 256 by have := hrec.count; omega)
    exact ⟨q, (placeRecs_grows ..).subset (hj ▸ hq), hcode⟩
  · have ht : t.rd F.MBX_USE_BAD_MAC = (macJudged (popCmd s) c Code.BAD_MAC).rd F.MBX_USE_BAD_MAC :=
      (answerOnly_answers ..).moves.rd _ _ rfl
    rw [ht, hj, log_rd _ _ _ _ _ (by decide), State.rd_inc_same, (popCmd_moves s).rd _ _ rfl]

end

/-! ### A command that passes its checks -/

section
variable {op least : Nat} {hd : Cmd → Session → State → State × Ans} {a : State} {r : RingCmd} {x : Session} {c : Cmd}
  {s s' : State}

/-- A command that passes steps 1 to 6 runs. -/
theorem mbxRun_of_taken (h : Taken op least a r x) :
    mbxRun op least hd a = runCmd (parse r) (x.touched a.time.xt) hd (admitted (popCmd a) x) := by
  obtain ⟨hready, hhead, hop, hstart, hform, hsess, h0, h1, h2, hrole, -⟩ := h
  rw [mbxRun_of_head hready hhead hop, takeCmd_admitted ((congrArg ClkSt.startFailed (popCmd_clk a) :).trans hstart) hform
    ((checkSession_popCmd ..).trans hsess), checkSeq_fresh (x := x.touched (popCmd a).time.xt) h0 h1 h2, popCmd_time]
  exact if_neg (Nat.not_lt.mpr hrole)

theorem admitted_recovery (h : a.is F.SEC_STATUS_RECOVERY = false) :
    (admitted (popCmd a) x).is F.SEC_STATUS_RECOVERY = false := by
  have hrd := ((popCmd_frame a).trans (admitted_frame (popCmd a) x)).rd F.SEC_STATUS_RECOVERY 0 rfl
  rw [State.is, hrd]
  exact h

theorem runCmd_imm {st res : Nat} {data : List Nat} (hrec : s.is F.SEC_STATUS_RECOVERY = false)
    (h : hd c x s = (s', .imm st res data)) : runCmd c x hd s = replied s' c st 0 res data := by
  rw [runCmd, hrec, h]
  rfl

theorem runCmd_act {st : Nat} {next : State → State} (hrec : s.is F.SEC_STATUS_RECOVERY = false)
    (h : hd c x s = (s', .act st next)) : runCmd c x hd s = next (replied s' c st 0 0 []) := by
  rw [runCmd, hrec, h]
  rfl

/-- A command that its handler answers at once. -/
theorem mbxRun_imm {st res : Nat} {data : List Nat} (ht : Taken op least a r x)
    (h : hd (parse r) (x.touched a.time.xt) (admitted (popCmd a) x) = (s', .imm st res data)) :
    mbxRun op least hd a = replied s' (parse r) st 0 res data :=
  (mbxRun_of_taken ht).trans (runCmd_imm (admitted_recovery ht.2.2.2.2.2.2.2.2.2.2) h)

/-- A command with an effect that follows its answer. -/
theorem mbxRun_act {st : Nat} {next : State → State} (ht : Taken op least a r x)
    (h : hd (parse r) (x.touched a.time.xt) (admitted (popCmd a) x) = (s', .act st next)) :
    mbxRun op least hd a = next (replied s' (parse r) st 0 0 []) :=
  (mbxRun_of_taken ht).trans (runCmd_act (admitted_recovery ht.2.2.2.2.2.2.2.2.2.2) h)

/-- What a command that its handler answers without a change of its own leaves. -/
structure Replied (r : RingCmd) (st res : Nat) (a t : State) : Prop where
  answered : Answered r st 0 res [] a t
  hdls : t.mbx.hdls = a.mbx.hdls
  frame : CmdMoves a t

theorem replied_replied (st res : Nat) : Replied r st res a (replied (admitted (popCmd a) x) (parse r) st 0 res []) := by
  have hu := unanswered_admitted a x
  have ht := replied_answers (admitted (popCmd a) x) (parse r) st 0 res []
  have hm : CmdMoves a (admitted (popCmd a) x) := (popCmd_frame a).trans (admitted_frame ..)
  exact ⟨hu.answered, (ht.stands hu hm).2.1, hm.trans ht.frame⟩

theorem mbxRun_replied {st res : Nat} (ht : Taken op least a r x)
    (h : hd (parse r) (x.touched a.time.xt) (admitted (popCmd a) x) = (admitted (popCmd a) x, .imm st res [])) :
    Replied r st res a (mbxRun op least hd a) := by
  rw [mbxRun_imm ht h]
  exact replied_replied ..

end

/-! ### NOP and unknown commands -/

section
variable {a : State} {r : RingCmd} {x : Session} {op least : Nat}

theorem front_of_taken (h : Taken op least a r x) : a.front = some (parse r) := by
  obtain ⟨hready, hhead, -⟩ := h
  rw [State.front, if_pos hready, hhead, Option.map_some]

theorem mbxNop_nop (h : Taken 0xF0 1 a r x) : mbxNop a = mbxRun 0xF0 1 nop a := by
  have hop : (parse r).opcode = 0xF0 := h.2.2.1
  rw [mbxNop, mbxRun, front_of_taken h]
  dsimp only
  rw [if_pos hop, if_pos hop]

theorem mbxNop_unknown (h : Taken op 0 a r x) (hop : opcodes.contains op = false) :
    mbxNop a = replied (admitted (popCmd a) x) (parse r) Code.BAD_OPCODE 0 0 [] := by
  have hfront := front_of_taken h
  obtain ⟨-, -, rfl, hstart, hform, hsess, h0, h1, h2, -⟩ := h
  have hne : (parse r).opcode ≠ 0xF0 := fun he => absurd (he ▸ hop) (by decide)
  rw [mbxNop, hfront]
  dsimp only
  rw [if_neg hne, if_neg (by rw [hop]; decide), takeCmd_admitted ((congrArg ClkSt.startFailed (popCmd_clk a) :).trans hstart)
    hform ((checkSession_popCmd ..).trans hsess), checkSeq_fresh (x := x.touched (popCmd a).time.xt) h0 h1 h2]

end

/-! ### The obligation -/

section
variable {op least : Nat} {hd : Cmd → Session → State → State × Ans} {s : State} {r : RingCmd} {x : Session}

/-- Too low a role: the session keeps the refusal under the command's number. -/
theorem denied_remembered (hx : s.session? (parse r).session = some x)
    (h1 : 1 ≤ x.ahead (parse r).clseq) (h2 : x.ahead (parse r).clseq < 2 ^ 31) :
    ∃ y, (replied (admitted (popCmd s) x) (parse r) Code.ROLE_DENIED 0 0 []).session? x.no = some y ∧
      y.high = (parse r).clseq ∧
      ((parse r).clseq, (⟨Code.ROLE_DENIED, 0, s.cinchNow, 0, [], (parse r).opcode⟩ : Resp)) ∈ y.seen := by
  have hno : x.no = (parse r).session := (mem_of_session? hx).2
  obtain ⟨y, hy, -, hseen⟩ := replied_session (admitted (popCmd s) x) (parse r) Code.ROLE_DENIED 0 0 []
    (hno ▸ admitted_session? s x)
  obtain ⟨hhigh, hmem⟩ := hseen h1 h2
  rw [State.cinchNow_of_core (unanswered_admitted s x).core] at hmem
  exact ⟨y, hno ▸ hy, hhigh, hmem⟩

/-- What stands when a command fails one of the checks 1 to 3 and 6. -/
theorem checked_stands (hready : s.mbxReady = true) (hhead : s.mbx.ring.head? = some r) (hop : (parse r).opcode = op)
    (hstart : s.clk.startFailed = false) (h : (parse r).formOk = false ∨ (checkSession s (parse r)).2 = none ∨
      ∃ x, checkSession s (parse r) = (Code.OK, some x) ∧ x.role < least) :
    let t := mbxRun op least hd s
    t.mbx.ring = s.mbx.ring.tail ∧ t.mbx.hdls = s.mbx.hdls ∧ t.mode = s.mode ∧ t.img = s.img ∧ t.scn = s.scn := by
  have hstart' : (popCmd s).clk.startFailed = false := (congrArg ClkSt.startFailed (popCmd_clk s) :).trans hstart
  rw [mbxRun_of_head hready hhead hop]
  cases hform : (parse r).formOk with
  | false =>
    rw [takeCmd_malformed hstart' hform]
    exact (answerOnly_answers ..).stands (unanswered_popCmd s) (popCmd_frame s)
  | true =>
    rcases hsess : checkSession s (parse r) with ⟨st, _ | x⟩
    · rw [takeCmd_refused hstart' hform ((checkSession_popCmd ..).trans hsess)]
      exact (answerOnly_answers ..).stands (unanswered_macJudged ..) ((popCmd_frame s).trans (macJudged_frame ..))
    · have hrole : x.role < least := by
        simp only [hform, hsess, Bool.true_eq_false, reduceCtorEq, false_or, Prod.mk.injEq, Option.some.injEq] at h
        obtain ⟨y, ⟨-, rfl⟩, hy⟩ := h
        exact hy
      rw [takeCmd_admitted hstart' hform ((checkSession_popCmd ..).trans hsess)]
      exact (checkSeq_low (x := x.touched (popCmd s).time.xt) hrole).stands (unanswered_admitted s x) ((popCmd_frame s).trans (admitted_frame ..))

end

/-- Settles O30: each way through the checks by its equation, and what stands by the frame of an answer. -/
theorem mailboxChecks : Obligations.MailboxChecks := by
  unfold Obligations.MailboxChecks
  refine ⟨?order, ?idle, ?nop, ?unknown⟩
  case order =>
    intro op role hd s r hready hhead hop hstart t c
    have hstart' : (popCmd s).clk.startFailed = false := (congrArg ClkSt.startFailed (popCmd_clk s) :).trans hstart
    have ht : t = takeCmd c (some role) hd (popCmd s) := mbxRun_of_head hready hhead hop
    refine ⟨?form, ?session, ?sequence, checked_stands hready hhead hop hstart⟩
    case form =>
      intro hform
      rw [ht, takeCmd_malformed hstart' hform]
      exact (unanswered_popCmd s).answeredOnly
    case session =>
      intro st hform hsess
      have hu := unanswered_macJudged s c st
      rw [ht, takeCmd_refused hstart' hform ((checkSession_popCmd ..).trans hsess)]
      refine ⟨hu.answeredOnly, ?_, fun hst => ?_⟩
      · show (answer ..).mbx.sessions = _
        rw [answer_mbx]
        show (macJudged (popCmd s) c st).mbx.sessions = _
        unfold macJudged
        split <;> simp [popCmd_mbx]
      · subst hst
        exact macJudged_reports s c
    case sequence =>
      intro x hform hsess
      have hu := unanswered_admitted s x
      have hadmitted : t = checkSeq c (x.touched (popCmd s).time.xt) (some role) hd (admitted (popCmd s) x) :=
        ht.trans (takeCmd_admitted hstart' hform ((checkSession_popCmd ..).trans hsess))
      refine ⟨fun hstale => ?stale, fun e h0 hwin hseen => ?again, fun h0 h1 h2 hrole => ?denied⟩
      case stale =>
        rw [hadmitted, checkSeq_stale (x := x.touched (popCmd s).time.xt) hstale]
        exact hu.answeredOnly
      case again =>
        rw [hadmitted, checkSeq_again (x := x.touched (popCmd s).time.xt) h0 hwin hseen, answer_mbx]
        refine ⟨_, ?_, rfl⟩
        rw [State.recNow, State.dataNow, hu.time, hu.mbx]
      case denied =>
        have hdenied : t = replied (admitted (popCmd s) x) c Code.ROLE_DENIED 0 0 [] := by
          rw [hadmitted, checkSeq_fresh (x := x.touched (popCmd s).time.xt) h0 h1 h2]
          exact if_pos hrole
        rw [hdenied]
        exact ⟨hu.answered, denied_remembered (session?_of_checkSession hsess) h1 h2⟩
  case idle =>
    intro op role hd s h
    exact mbxRun_idle h
  case nop =>
    intro dt s r x a htaken hpay
    have h := mbxRun_replied (hd := nop) htaken (st := Code.OK) (res := 0) (if_pos hpay)
    exact ⟨_, rfl, by rw [mbxNop_nop htaken]; exact ⟨h.answered, h.hdls, h.frame⟩⟩
  case unknown =>
    intro dt s r x op a htaken hop
    have h := replied_replied (a := a) (r := r) (x := x) Code.BAD_OPCODE 0
    exact ⟨_, rfl, by rw [mbxNop_unknown htaken hop]; exact ⟨h.answered, h.hdls, h.frame⟩⟩

end Sys2Proof.Machine
end

section
/-!
Three statements of the mailbox that a concrete state refutes.
-/

namespace Sys2Proof.Machine

/-! ### A module that serves one command -/

/-- A command of session 1 in one slot, with the MAC that an empty session key gives it. -/
def signedCmd (op : Nat) (payload : List Nat) : RingCmd :=
  let head := leBytes 2 1 ++ leBytes 2 op ++ leBytes 4 1 ++ [1, 0] ++ leBytes 2 payload.length ++ leBytes 4 0
  ⟨1, slice (head ++ slice (Crypto.hmac [] (head ++ payload)) 0 8 ++ payload) 0 64, false, false⟩

/-- Session 1, open as ENGINEER. -/
def engineer : Session := ⟨1, 2, 3, 8, 60, 0, false, [], [], [], [], 0, [], []⟩

/-- The mailbox runs, `x` is open and `r` stands in the ring. -/
def State.serving (r : RingCmd) (x : Session) : State :=
  { State.reset with
    clk := { State.reset.clk with supv := true, fwRunning := true }
    mbx := { State.reset.mbx with ring := [r], sessions := [x] } }

/-- The answer to a command is the first record of a queue that was empty. -/
theorem Answered.head? {r : RingCmd} {status handle result : Nat} {data : List Nat} {a t : State}
    (h : Answered r status handle result data a t) (hcq : a.mbx.cq = []) :
    t.mbx.cq.head? = some (a.recNow 1 false (parse r).session (parse r).clseq (parse r).opcode status handle a.cinchNow
      result data (parse r).usb) := by
  obtain ⟨l, hl⟩ := h.2
  rw [← hl, hcq]
  rfl

/-! ### Sessions -/

/-- A SES_AUTH of session 1 with a payload that is no proof: its bytes are none. -/
def falseAuth : RingCmd :=
  ⟨1, leBytes 2 1 ++ leBytes 2 2 ++ leBytes 4 1 ++ [1, 0] ++ leBytes 2 32 ++ leBytes 4 0 ++ List.replicate 8 0 ++
    List.replicate 32 300 ++ List.replicate 8 0, false, false⟩

/-- Session 1, pending. -/
def pendingEngineer : Session := { engineer with state := 1 }

/-- A pending session that holds the handle of an activation, while the activation under way has a handle of session 2. -/
def State.strayActivation : State :=
  let s := State.serving falseAuth pendingEngineer
  { s with
    mbx := { s.mbx with
      sessions := [pendingEngineer, { engineer with no := 2 }]
      hdls := [⟨0, 1, 1, 1, 7, 0x53, 0, .activate, 0, false⟩, ⟨1, 1, 2, 2, 7, 0x53, 0, .activate, 0, false⟩] }
    prg := { s.prg with act := some ⟨0, 2049, 0, 0, 0, 0, 0, 0, 0, 0, 0, false⟩ } }

theorem falseAuth_ne_proof (key : List Nat) (letter no role : Nat) (n1 n2 : List Nat) :
    (parse falseAuth).payload ≠ proof key letter no role n1 n2 := by
  intro h
  have hmem : (300 : Nat) ∈ (parse falseAuth).payload := by decide +kernel
  rw [h] at hmem
  exact absurd (Crypto.hmac_lt _ _ _ hmem) (by decide)

theorem sesAuth_wrong {c : Cmd} {x : Session} {s : State} (hlen : c.payload.length = 32)
    (hne : c.payload ≠ proof ((s.roleKey x.role).getD []) 0x41 x.no x.role x.hostNonce x.mNonce) :
    sesAuth c x s = (closeSession (authFailure (log Ev.AUTH_FAILED (leBytes 2 x.no ++ [x.role]) s) x.role) x.no,
      .imm Code.AUTH_FAILED 0 []) := by
  unfold sesAuth
  extract_lets key
  rw [if_neg (by simp [hlen]), if_neg hne]
  rfl

/-- Refutes O31: the clause on a wrong proof leaves the handles unbound. A pending session that holds the handle of an
activation is closed before its answer, and the FIN of the activation under way, of session 2, enters the queue first. -/
theorem not_sessions : ¬ Obligations.Sessions := by
  rintro ⟨-, -, -, -, -, wrong, -⟩
  have htaken : Taken 2 0 (advance .zero .strayActivation) falseAuth pendingEngineer := by decide +kernel
  have hlen : (parse falseAuth).payload.length = 32 := by decide +kernel
  obtain ⟨t, ht, hans, -⟩ := wrong .zero .strayActivation falseAuth pendingEngineer htaken hlen (falseAuth_ne_proof _ _ _ _ _ _)
  obtain rfl : mbxRun 2 0 sesAuth (advance .zero .strayActivation) = t := Host.Outcome.next.inj ht
  have hfirst := congrArg (Option.map CqRec.kind) (hans.head? rfl)
  rw [mbxRun_imm htaken (sesAuth_wrong hlen (falseAuth_ne_proof _ _ _ _ _ _))] at hfirst
  exact absurd hfirst (by decide +kernel)

/-! ### Objects -/

/-- The field INT.STAT.HOST_CNT and an OBJ_GET of it. -/
def hostCntRow : FieldRow := ⟨0x484F53545F434E54, F.INT_STAT_HOST_CNT, .ro, 2, false, []⟩
def hostCntGet : RingCmd := signedCmd 0x20 (pathBytes ("INT.STAT.HOST_CNT".toList.map Char.toNat))

/-- A module after STOP-ready without an active HOST source that shows 5 of them. -/
def State.staleCount : State :=
  let s := (State.serving hostCntGet engineer).wr F.INT_STAT_HOST_CNT 5
  { s with clk := { s.clk with event := true, stopReady := true } }

/-- Refutes O33: the fields of the interrupt controller are not excepted from the clause on OBJ_GET. A command that leaves
the ring makes the controller count its HOST sources afresh, so the read finds 0 where HOST_CNT was 5. -/
theorem not_objectAccess : ¬ Obligations.ObjectAccess := by
  rintro ⟨get, -⟩
  obtain ⟨t, ht, hans, -⟩ := get .zero .staleCount hostCntGet engineer ⟨objINT_STAT, 0, some hostCntRow⟩ hostCntRow
    (by decide +kernel) (by decide +kernel) rfl (by decide) (by decide) (by decide) (by decide +kernel)
  obtain rfl : mbxRun 0x20 1 objGet (advance .zero .staleCount) = t := Host.Outcome.next.inj ht
  exact absurd (congrArg (Option.map CqRec.result) (hans.head? rfl)) (by decide +kernel)

/-! ### Commits -/

/-- An OBJ_COMMIT. -/
def commitCmd : RingCmd := signedCmd 0x22 [0, 0, 0, 0]

/-- `engineer` with SCN.CFG.HOLD_LIMIT staged. -/
def stagingEngineer : Session :=
  { engineer with staging := [⟨F.objSCN_CFG, 0, F.SCN_CFG_HOLD_LIMIT.lo, F.SCN_CFG_HOLD_LIMIT.hi, 0, 7⟩] }

/-- The slot that is taken next holds a live handle already. -/
def State.strayHandle : State :=
  let s := State.serving commitCmd stagingEngineer
  { s with mbx := { s.mbx with hdls := [⟨0, 1, 2, 1, 7, 0x24, 0, .objStore, 0, false⟩] } }

/-- Refutes O34: the clause on an accepted OBJ_COMMIT does not ask that the free slots hold no handle. Where slot 0 holds
an OBJ_STORE and is taken again, the slot of the answered handle still shows the OBJ_STORE. -/
theorem not_commits : ¬ Obligations.Commits := by
  rintro ⟨accepted, -⟩
  obtain ⟨t, ht, ⟨n, hans, hop⟩, -⟩ := accepted .zero .strayHandle commitCmd stagingEngineer 0 (by decide +kernel)
    (by decide +kernel) (by decide) (by decide) (by decide +kernel) (by decide +kernel)
  obtain rfl : mbxRun 0x22 3 objCommit (advance .zero .strayHandle) = t := Host.Outcome.next.inj ht
  have hhandle : (mbxRun 0x22 3 objCommit (advance .zero .strayHandle)).mbx.cq.head?.map CqRec.handle = some 2048 := by
    decide +kernel
  rw [hans.head? rfl] at hhandle
  obtain rfl : n = 2048 := Option.some.inj hhandle
  exact absurd hop (by decide +kernel)

end Sys2Proof.Machine
end

section
/-!
The two queues and their acknowledgement, placing again, the handles and MOD_RESET, and the obligation on them.
-/

namespace Sys2Proof.Machine

/-! ### Acknowledging records (R111, R130) -/

/-- The registers of the two queues, the handles and the sessions. -/
def ackFlds : List Fld :=
  [F.MBX_QUEUES_CQ_FREE, F.MBX_QUEUES_CR_FREE, F.MBX_USE_HANDLES_USED, F.MBX_USE_SESSIONS_OPEN]

/-- The registers of the handles and the sessions. -/
def useFlds : List Fld := [F.MBX_USE_HANDLES_USED, F.MBX_USE_SESSIONS_OPEN]

theorem freeHdl_moves (s : State) (k : Nat) : Moves [.mbx] [] useFlds s (freeHdl s k) :=
  (State.wr_moves ..).step ((State.wr_moves ..).step ((Leaves.set_mbx s _).moves.one rfl rfl rfl) rfl rfl rfl) rfl rfl rfl

theorem freeHdls_mbx (l : List Hdl) (s : State) :
    let t := l.foldl (fun s h => freeHdl s h.slot) s
    t.mbx = { s.mbx with hdls := t.mbx.hdls, freed := t.mbx.freed } := by
  induction l generalizing s with
  | nil => rfl
  | cons h l ih =>
    rw [List.foldl_cons]
    exact ih (freeHdl s h.slot)

theorem freeHdls_moves (l : List Hdl) (s : State) :
    Moves [.mbx] [] useFlds s (l.foldl (fun s h => freeHdl s h.slot) s) :=
  Moves.foldl (g := fun s (h : Hdl) => freeHdl s h.slot) (fun s h => freeHdl_moves s h.slot) l s

theorem applyAck_moves (s : State) (a : Nat) (usb : Bool) :
    Moves (traceParts ++ [.mbx]) traceObjs ackFlds s (applyAck s a usb) := by
  unfold applyAck
  extract_lets +onlyGivenNames old
  split
  · exact .refl s
  · extract_lets gone cq done _ m
    clear_value m done
    refine .ite ?_ (.refl s)
    exact (queueRegs_moves _).step ((freeHdls_moves done _).step ((Leaves.set_mbx s m).moves.one rfl rfl rfl) rfl rfl rfl)
      rfl rfl rfl

/-- An acknowledgement leaves the commands in the ring and the sessions. -/
theorem applyAck_kept (s : State) (a : Nat) (usb : Bool) :
    (applyAck s a usb).mbx.ring = s.mbx.ring ∧ (applyAck s a usb).mbx.sessions = s.mbx.sessions := by
  unfold applyAck
  extract_lets +onlyGivenNames old
  split
  · exact ⟨rfl, rfl⟩
  · extract_lets gone cq done _ m
    split
    · rw [queueRegs_mbx, freeHdls_mbx]
      dsimp only
      unfold m
      split <;> exact ⟨rfl, rfl⟩
    · exact ⟨rfl, rfl⟩

/-- A CQ_ACK that acknowledges placed records takes exactly those from the queue. -/
theorem applyAck_taken {s : State} {n p : Nat} (hp : s.lastPlaced false = some p) (hold : atOrBeyond n s.mbx.ack = true)
    (hnew : atOrBeyond p n = true) (hne : n ≠ s.mbx.ack) :
    let t := applyAck s n false
    (t.mbx.ack = n ∧ t.mbx.ackAt = s.time.now) ∧ t.mbx.cq = s.mbx.cq.filter fun r => !(atOrBeyond n r.seq) := by
  unfold applyAck
  rw [hp]
  simp only [Bool.false_eq_true, if_false, hold, hnew, Bool.and_self, decide_eq_true hne, if_true, queueRegs_mbx,
    Bool.not_false, Bool.or_true, Bool.and_true]
  rw [freeHdls_mbx]
  exact ⟨⟨rfl, rfl⟩, rfl⟩

/-! ### MBXW -/

theorem takeSlots_mbx (s : State) (n : Nat) (usb : Bool) (b : List Nat) :
    (takeSlots s n usb b).mbx = { s.mbx with ring := s.mbx.ring ++ splitSlots 512 n usb b } := queueRegs_mbx _

theorem takeSlots_moves (s : State) (n : Nat) (usb : Bool) (b : List Nat) :
    Moves (traceParts ++ [.mbx]) traceObjs queueFlds s (takeSlots s n usb b) :=
  (queueRegs_moves _).step ((Leaves.set_mbx s _).moves.one rfl rfl rfl) rfl rfl rfl

section
variable {s : State} {f : RxFrame} {n : Nat}

/-- The state an MBXW body leaves: its CQ_ACK is applied, and its slots enter the ring where they fit. -/
theorem mbxw_of_sized (hd : f.dest ≠ 0xFF) (hn : leAt f.body 4 2 = n) (hl : f.body.length = 8 + 64 * n) (h512 : n ≤ 512) :
    (mbxw f s).1 = if 512 < s.slotsUsed + n then applyAck s (leAt f.body 0 4) false
      else takeSlots (applyAck s (leAt f.body 0 4) false) n false (f.body.drop 8) := by
  subst hn
  have hslots : (applyAck s (leAt f.body 0 4) false).slotsUsed = s.slotsUsed := by
    rw [State.slotsUsed, (applyAck_kept ..).1, State.slotsUsed]
  unfold mbxw
  dsimp only
  rw [if_neg hd, if_neg (by omega), hslots]
  split <;> rfl

theorem mbxw_moves (hd : f.dest ≠ 0xFF) (hn : leAt f.body 4 2 = n) (hl : f.body.length = 8 + 64 * n) (h512 : n ≤ 512) :
    Moves (traceParts ++ [.mbx]) traceObjs ackFlds s (mbxw f s).1 := by
  rw [mbxw_of_sized hd hn hl h512]
  exact .ite (applyAck_moves ..) ((takeSlots_moves ..).step (applyAck_moves ..) rfl rfl rfl)

/-- A good frame without ACKREQ to a placed module goes on as it is, and its body is applied. -/
theorem applyFrame_of_hears {ty : Nat} (hh : Hears s f ty) (hp : s.placed = true) (ha : f.ackreq = false)
    (act : State → State × Nat) : applyFrame s ty f act = (act (forward s f f.body false)).1 := by
  obtain ⟨hhears, hacts, htyp, hcls⟩ := hh
  simp [applyFrame, hhears, hacts, htyp, hcls, hp, pass, countFrame_of_good hcls, ackFlow, ha]

@[simp] theorem forward_mbx (body : List Nat) (c : Bool) : (forward s f body c).mbx = s.mbx :=
  (forward_moves s f body c).1.1 .mbx (by decide)

@[simp] theorem forward_time (body : List Nat) (c : Bool) : (forward s f body c).time = s.time :=
  (forward_moves s f body c).1.1 .time (by decide)

end

/-! ### Placing again -/

/-- A sub-record of completion records carries the record of CQSEQ `k`. -/
def Carried (k : Nat) (l : List SubItem) : Prop := ∃ q n, SubItem.cpl q n ∈ l ∧ q ≤ k ∧ k < q + n

/-- The items of sub-records once one more completion record is ready. -/
def withCpl (l : List SubItem) (k : Nat) : List SubItem :=
  match l.getLast? with
  | some (.cpl q n) => if n < 16 ∧ q + n = k then l.dropLast ++ [.cpl q (n + 1)] else l ++ [.cpl k 1]
  | _ => l ++ [.cpl k 1]

theorem readyCpl_subq (s : State) (k : Nat) : (readyCpl s k 1).ring.subq = withCpl s.ring.subq k := by
  rcases hl : s.ring.subq.getLast? with _ | _ | ⟨q, n⟩
  · simp [readyCpl, withCpl, hl]
  · simp [readyCpl, withCpl, hl]
  · by_cases h : n < 16 ∧ q + n = k
    · have h1 : min 1 (16 - n) = 1 := by omega
      simp [readyCpl, withCpl, hl, h, h1]
    · simp [readyCpl, withCpl, hl, h]

theorem carried_withCpl (l : List SubItem) (k : Nat) : Carried k (withCpl l k) := by
  unfold withCpl
  split
  · next q n _ =>
    split
    · next h => exact ⟨q, n + 1, by simp, by omega, by omega⟩
    · exact ⟨k, 1, by simp, by omega, by omega⟩
  · exact ⟨k, 1, by simp, by omega, by omega⟩

theorem Carried.withCpl {l : List SubItem} {j : Nat} (h : Carried j l) (k : Nat) : Carried j (withCpl l k) := by
  obtain ⟨q, n, hm, h1, h2⟩ := h
  have hgrown : ∀ x, Carried j (l ++ [x]) := fun x => ⟨q, n, List.mem_append_left _ hm, h1, h2⟩
  unfold Machine.withCpl
  split
  · next q0 n0 hlast =>
    split
    · rw [← List.dropLast_append_getLast? _ hlast, List.mem_append, List.mem_singleton] at hm
      rcases hm with hm | hm
      · exact ⟨q, n, List.mem_append_left _ hm, h1, h2⟩
      · obtain ⟨rfl, rfl⟩ := SubItem.cpl.inj hm
        exact ⟨q, n + 1, by simp, h1, by omega⟩
    · exact hgrown _
  · exact hgrown _

theorem carried_readyCpls (l : List CqRec) (s : State) (k : Nat) (h : Carried k s.ring.subq ∨ ∃ r ∈ l, r.seq = k) :
    Carried k (l.foldl (fun s r => readyCpl s r.seq 1) s).ring.subq := by
  induction l generalizing s with
  | nil => exact h.resolve_right (by simp)
  | cons r l ih =>
    refine ih _ ?_
    rw [readyCpl_subq]
    rcases h with h | ⟨x, hx, rfl⟩
    · exact .inl (h.withCpl _)
    · rcases List.mem_cons.mp hx with rfl | hx
      · exact .inl (carried_withCpl ..)
      · exact .inr ⟨x, hx, rfl⟩

theorem readyCpls_mbx (l : List CqRec) (s : State) : (l.foldl (fun s r => readyCpl s r.seq 1) s).mbx = s.mbx := by
  induction l generalizing s with
  | nil => rfl
  | cons r l ih => exact ih _

theorem replaceAll_mbx (s : State) : (replaceAll s).mbx = { s.mbx with ackAt := s.time.now } := readyCpls_mbx ..

theorem replaceAll_carried {s : State} {r : CqRec} (h : r ∈ s.mbx.cq) : Carried r.seq (replaceAll s).ring.subq :=
  carried_readyCpls _ _ _ (.inr ⟨r, h, rfl⟩)

/-- What waits for a carrier waits on. -/
theorem attnCheck_subq (s : State) : s.ring.subq ⊆ (attnCheck s).ring.subq := by
  unfold attnCheck
  extract_lets l u
  split
  · exact List.Subset.refl _
  · extract_lets v new
    split
    · exact List.subset_append_left ..
    · exact List.Subset.refl _

theorem hostSync_subq (n : Nat) (s : State) : s.ring.subq ⊆ (hostSync n s).ring.subq := by
  unfold hostSync
  split
  · exact List.Subset.refl _
  · extract_lets +onlyGivenNames c
    split
    · exact List.Subset.refl _
    · extract_lets +onlyGivenNames _ u
      have hring : (srcEdge u n c).ring = s.ring := (srcEdge_leaves u n c).1 .ring (by decide)
      exact hring ▸ attnCheck_subq (srcEdge u n c)

/-- CQ_TIMEOUT has passed: all records are placed again. -/
theorem cqReplace_due {s : State} (hany : s.mbx.cq.any (·.placed) = true)
    (hlate : s.rd F.MBX_CFG_CQ_TIMEOUT * 1000 ≤ s.time.now - s.mbx.ackAt) :
    let t := Machine.cqReplace s
    (t.mbx.ackAt = s.time.now ∧ t.mbx.cq = s.mbx.cq) ∧ t.ring = (replaceAll s).ring := by
  have hmbx := replaceAll_mbx s
  unfold Machine.cqReplace
  extract_lets +onlyGivenNames late u
  have hu : u = replaceAll s := if_pos (by simp [hany, late, hlate])
  rw [hu]
  split <;> exact ⟨⟨(congrArg MbxSt.ackAt hmbx :), (congrArg MbxSt.cq hmbx :)⟩, rfl⟩

/-! ### The end of an operation (R130) -/

section
variable {s : State} {h : Hdl} {k status result cinch : Nat} {data : List Nat}

/-- The FIN of a running operation of an open session enters the queue. -/
theorem finHdl_cq (hk : s.hdl? k = some h) (hst : h.state ≠ 4) (hs : (s.session? h.session).isSome = true) :
    (finHdl s k status result data cinch).mbx.cq =
      s.mbx.cq ++ s.recNow 2 false h.session h.clseq h.opcode status h.num cinch result data h.usb ::
        s.dataNow h.session data h.usb := by
  rw [finHdl, hk]
  dsimp only
  rw [if_neg hst, if_pos hs]
  exact congrArg MbxSt.cq (placeRecs_mbx ..)

/-- A FIN takes no command from the ring and no record from the queue. -/
theorem finHdl_grow (s : State) (k status result : Nat) (data : List Nat) (cinch : Nat) :
    let t := finHdl s k status result data cinch
    t.mbx.ring = s.mbx.ring ∧ s.mbx.cq <+: t.mbx.cq := by
  unfold finHdl
  split
  · exact ⟨rfl, List.prefix_rfl⟩
  · next h _ =>
    split
    · exact ⟨rfl, List.prefix_rfl⟩
    · split
      · have hmbx := placeRecs_mbx s 2 false h.session h.clseq h.opcode status h.num cinch result data h.usb
        exact ⟨(congrArg MbxSt.ring hmbx :), (congrArg MbxSt.cq hmbx :) ▸ List.prefix_append ..⟩
      · have hmbx := log_mbx Ev.UNPLACED_FIN (leBytes 4 h.num ++ leBytes 2 status ++ leBytes 2 h.opcode) s
        exact ⟨(congrArg MbxSt.ring hmbx :), (congrArg MbxSt.cq hmbx :) ▸ List.prefix_rfl⟩

theorem finHdl_moves (s : State) (k status result : Nat) (data : List Nat) (cinch : Nat) :
    Moves (traceParts ++ [.mbx]) traceObjs ackFlds s (finHdl s k status result data cinch) := by
  unfold finHdl
  split
  · exact .refl s
  · next h _ =>
    refine .ite (.refl s) (.ite (.after (putHdl_leaves ..) ?_ rfl rfl) ?_)
    · exact (placeRecs_moves ..).one rfl rfl rfl
    · exact (freeHdl_moves ..).step ((trace_log ..).moves.one rfl rfl rfl) rfl rfl rfl

end

/-! ### Commands on handles -/

section
variable {a u : State} {r : RingCmd} {x : Session} {n : Nat}

/-- A handle number whose generation its slot does not have is stale. -/
theorem current_stale (h : n / 2048 ≠ Table.find 0 a.mbx.gens (n % 2048)) : a.current n = .error () := if_pos (.inr h)

theorem current_live (h0 : n / 2048 ≠ 0) (h : n / 2048 = Table.find 0 a.mbx.gens (n % 2048)) :
    a.current n = .ok (a.hdl? (n % 2048)) := if_neg fun e => e.elim h0 fun hn => hn h

/-- Until a command is answered its handles stand. -/
theorem Unanswered.current (h : Unanswered a u) : u.current n = a.current n := by
  unfold State.current State.hdl?
  rw [h.mbx]

theorem hdlQuery_live {c : Cmd} {h : Hdl} (hp : c.payload = []) (hc : u.current c.arg = .ok (some h))
    (hx : h.session = x.no) : hdlQuery c x u = (u, .imm Code.OK (h.state + 256 * h.progress) []) := by
  rw [hdlQuery, if_neg (by simp [hp]), hc]
  exact if_neg (by simp [hx])

theorem hdlQuery_stale {c : Cmd} (hp : c.payload = []) (hc : u.current c.arg = .error ()) :
    hdlQuery c x u = (u, .imm Code.HANDLE_STALE 0 []) := by
  rw [hdlQuery, if_neg (by simp [hp]), hc]
  rfl

/-- HDL_CANCEL of a handle of the session, or by a CUSTODIAN. -/
theorem hdlCancel_own {c : Cmd} {h : Hdl} (hp : c.payload = []) (hc : u.current c.arg = .ok (some h))
    (hx : h.session = x.no ∨ x.role = 4) : hdlCancel c x u =
      if h.state = 4 then (u, .imm Code.ALREADY_DONE 0 [])
      else if h.state = 3 then (u, .imm Code.OK 0 [])
      else if cancellable u h then (u, .act Code.OK fun s => cancelRun s h)
      else (u, .imm Code.NOT_CANCELLABLE 0 []) := by
  rw [hdlCancel, if_neg (by simp [hp]), hc]
  exact if_neg (by omega)

/-- A session that is open when a command is taken is open when the command is answered. -/
theorem replied_open {st res : Nat} {data : List Nat} (hx : a.session? (parse r).session = some x)
    (h : (a.session? n).isSome = true) :
    ((replied (admitted (popCmd a) x) (parse r) st 0 res data).session? n).isSome = true := by
  have hno : x.no = (parse r).session := (mem_of_session? hx).2
  by_cases hn : n = (parse r).session
  · obtain ⟨y, hy, -⟩ := replied_session (admitted (popCmd a) x) (parse r) st 0 res data (hno ▸ admitted_session? a x)
    rw [hn, hy]
    rfl
  · have hpop : (popCmd a).session? n = a.session? n := by
      rw [State.session?, popCmd_mbx]
      rfl
    have hadm : (admitted (popCmd a) x).session? n = a.session? n :=
      (putSession_session? ..).trans ((if_neg (by simpa [hno, Session.touched] using hn)).trans hpop)
    rw [replied_other _ _ _ _ _ _ hn, hadm, h]

theorem replied_core (s : State) (c : Cmd) (st hd res : Nat) (data : List Nat) :
    (replied s c st hd res data).ring.core = s.ring.core := by
  have hring : (replied s c st hd res data).ring = (answer s c (respNow s c st hd res data) false).ring :=
    (record_leaves ..).1 .ring (by decide)
  rw [hring]
  exact placeRecs_core ..

/-- A live handle's operation that is ended behind the answer of a command leaves its FIN there. -/
theorem fins_replied {h : Hdl} {st res code : Nat} (hx : a.session? (parse r).session = some x)
    (hh : a.hdl? (n % 2048) = some h) :
    Fins n code 0 [] a (fin (replied (admitted (popCmd a) x) (parse r) st 0 res []) h.slot code 0) := by
  intro h' hh' hst hs
  obtain rfl : h = h' := Option.some.inj (hh.symm.trans hh')
  have hu := unanswered_admitted a x
  have hrep := replied_replied (a := a) (r := r) (x := x) st res
  have htime : (replied (admitted (popCmd a) x) (parse r) st 0 res []).time = a.time := hrep.frame.1.1 .time (by decide)
  have hcinch : (replied (admitted (popCmd a) x) (parse r) st 0 res []).cinchNow = a.cinchNow :=
    State.cinchNow_of_core ((replied_core ..).trans hu.core)
  have hslot : h.slot = n % 2048 := by simpa using List.find?_some hh
  have hk : (replied (admitted (popCmd a) x) (parse r) st 0 res []).hdl? h.slot = some h := by
    rw [State.hdl?, hrep.hdls, hslot]
    exact hh
  refine ⟨(replied (admitted (popCmd a) x) (parse r) st 0 res []).mbx.nextSeq, ?_⟩
  rw [fin, finHdl_cq hk hst (replied_open hx hs), State.recNow, State.dataNow, htime, hcinch]
  exact (List.suffix_append ..).isInfix

end

/-! ### MOD_RESET (R142) -/

/-- The reset that MOD_RESET of kind `k` leaves waiting for its answer. -/
def resetPending (s : State) (k : Nat) : State :=
  { s with clk := { s.clk with pendReset := some (if k = 1 then 4 else 3, s.mbx.nextSeq) } }

theorem modReset_of_kind {c : Cmd} {x : Session} {s : State} {k : Nat} (hp : c.payload = [k, 0, 0, 0]) (hk : k ≤ 1)
    (hs : s.clk.startFailed = false) : modReset c x s = (resetPending s k, .imm Code.OK 0 []) := by
  have hpay : payOk c 4 1 3 = true := by simp [payOk, hp, slice]
  have hkind : leAt c.payload 0 1 = k := by
    rw [hp]
    simp [leAt, slice, leNat]
    omega
  have hwin : s.window {} = none := by simp [State.window, hs]
  unfold modReset
  dsimp only
  rw [hkind, if_neg (by simp [hpay, hk]), gate, hwin]
  rfl

/-! ### The obligation -/

section
variable {a : State} {f : RxFrame} {n : Nat}

/-- An MBXW frame that the module hears: its frame of change. -/
theorem mbxwFrame_moves (hd : f.dest ≠ 0xFF) (hn : leAt f.body 4 2 = n) (hl : f.body.length = 8 + 64 * n)
    (h512 : n ≤ 512) : Moves (traceParts ++ [.mbx]) traceObjs ackFlds a (mbxw f (forward a f f.body false)).1 :=
  (mbxw_moves hd hn hl h512).step ((forward_moves ..).one rfl rfl rfl) rfl rfl rfl

theorem forward_slotsUsed (body : List Nat) (c : Bool) : (forward a f body c).slotsUsed = a.slotsUsed := by
  rw [State.slotsUsed, forward_mbx, State.slotsUsed]

theorem forward_lastPlaced (body : List Nat) (c usb : Bool) : (forward a f body c).lastPlaced usb = a.lastPlaced usb := by
  rw [State.lastPlaced, forward_mbx, State.lastPlaced]

end

/-- Settles O32: the acknowledgement and the slots of MBXW by the queues' own lemmas, placing again record by record, and
the commands on handles by what their handlers answer. -/
theorem handlesAndQueues : Obligations.HandlesAndQueues := by
  unfold Obligations.HandlesAndQueues
  refine ⟨?slots, ?acknowledged, ?again, ?query, ?stale, ?cancel, ?reset⟩
  case slots =>
    intro dt s f n a hh hp hack hd hn hl hfit
    have h512 : n ≤ 512 := by omega
    refine ⟨_, congrArg Host.Outcome.next (applyFrame_of_hears hh hp hack _), ?_, ?_, ?_⟩
    · rw [mbxw_of_sized hd hn hl h512, forward_slotsUsed, if_neg (by omega), takeSlots_mbx]
      show (applyAck _ _ _).mbx.ring ++ _ = _
      rw [(applyAck_kept ..).1, forward_mbx]
    · rw [mbxw_of_sized hd hn hl h512, forward_slotsUsed, if_neg (by omega), takeSlots_mbx]
      exact (applyAck_kept ..).2.trans (by rw [forward_mbx])
    · exact (mbxwFrame_moves hd hn hl h512).one rfl rfl rfl
  case acknowledged =>
    intro dt s f n p a hh hp hack hd hl h512 hn hlast hold hnew hne
    have htaken := applyAck_taken (s := forward a f f.body false) ((forward_lastPlaced ..).trans hlast)
      (by rwa [forward_mbx]) hnew (by rwa [forward_mbx])
    rw [forward_time, forward_mbx] at htaken
    refine ⟨_, congrArg Host.Outcome.next (applyFrame_of_hears hh hp hack _), ?_, ?_, ?_, ?_⟩
    · rw [mbxw_of_sized hd rfl hl h512, hn]
      split
      · exact htaken.1
      · rw [takeSlots_mbx]
        exact htaken.1
    · rw [mbxw_of_sized hd rfl hl h512, hn]
      split
      · exact htaken.2
      · rw [takeSlots_mbx]
        exact htaken.2
    · intro hfull
      rw [mbxw_of_sized hd rfl hl h512, forward_slotsUsed, if_pos hfull, (applyAck_kept ..).1, forward_mbx]
    · exact (mbxwFrame_moves hd rfl hl h512).one rfl rfl rfl
  case again =>
    intro dt s a hany hlate
    obtain ⟨⟨hat, hcq⟩, hring⟩ := cqReplace_due hany hlate
    refine ⟨_, rfl, ⟨?_, ?_⟩, fun r hr => ?_, ?_⟩
    · rw [hostSync_mbx, hostSync_mbx, hat]
    · rw [hostSync_mbx, hostSync_mbx, hcq]
    · obtain ⟨q, n, hm, h1, h2⟩ := replaceAll_carried hr
      exact ⟨q, n, hostSync_subq _ _ (hostSync_subq _ _ (hring ▸ hm)), h1, h2⟩
    · exact .after (trace_hostSync ..) (.after (trace_hostSync ..) ((cqReplace_leaves a).moves.one rfl rfl rfl) rfl rfl)
        rfl rfl
  case query =>
    intro dt s r x h a ht hpay h0 hgen hh hx
    have hc : (admitted (popCmd a) x).current (parse r).arg = .ok (some h) :=
      (unanswered_admitted a x).current.trans ((current_live h0 hgen).trans (by rw [hh]))
    have hrep := mbxRun_replied ht (hdlQuery_live (x := x.touched a.time.xt) hpay hc hx)
    exact ⟨_, rfl, hrep.answered, hrep.hdls, hrep.frame⟩
  case stale =>
    intro dt s r x a ht hpay hgen
    have hc := (unanswered_admitted a x).current.trans (current_stale hgen)
    have hrep := mbxRun_replied ht (hdlQuery_stale (x := x.touched a.time.xt) hpay hc)
    exact ⟨_, rfl, hrep.answered, hrep.hdls, hrep.frame⟩
  case cancel =>
    intro dt s r x h co n m a ht hpay h0 hgen hh hx hop
    have hc : (admitted (popCmd a) x).current (parse r).arg = .ok (some h) :=
      (unanswered_admitted a x).current.trans ((current_live h0 hgen).trans (by rw [hh]))
    have hown := hdlCancel_own (x := x.touched a.time.xt) hpay hc hx
    refine ⟨_, rfl, ?_⟩
    rcases hop with hst | ⟨hst, hop | hop⟩
    · rw [if_pos hst] at hown
      have hrep := mbxRun_replied ht hown
      rw [if_pos hst]
      exact ⟨hrep.answered, hrep.frame.one rfl rfl rfl⟩
    · rw [if_neg (by omega), if_neg (by omega), if_pos (by rw [cancellable, hop])] at hown
      have hx : a.session? (parse r).session = some x := session?_of_checkSession ht.2.2.2.2.2.1
      have hrep := replied_replied (a := a) (r := r) (x := x) Code.OK 0
      have hrun : cancelRun (replied (admitted (popCmd a) x) (parse r) Code.OK 0 0 []) h =
          fin (replied (admitted (popCmd a) x) (parse r) Code.OK 0 0 []) h.slot Code.CANCELLED 0 := by
        rw [cancelRun, hop]
      rw [if_neg (by omega), if_neg (by simp [hop]), mbxRun_act ht hown, hrun]
      refine ⟨⟨?_, fins_replied hx hh⟩, ?_⟩
      · exact hrep.answered.grow (finHdl_grow ..).1 (finHdl_grow ..).2
      · exact (finHdl_moves ..).step (hrep.frame.one rfl rfl rfl) rfl rfl rfl
    · rw [if_neg (by omega), if_neg (by omega), if_neg (by simp [cancellable, hop])] at hown
      have hrep := mbxRun_replied ht hown
      rw [if_neg (by omega), if_pos hop]
      exact ⟨hrep.answered, hrep.frame.one rfl rfl rfl⟩
  case reset =>
    intro dt s r x k a ht hpay hk
    have hu := unanswered_admitted a x
    have hclk : (admitted (popCmd a) x).clk = a.clk := popCmd_clk a
    have hres := modReset_of_kind (x := x.touched a.time.xt) (s := admitted (popCmd a) x) hpay hk
      ((congrArg ClkSt.startFailed hclk).trans ht.2.2.2.1)
    have hpu : Unanswered a (resetPending (admitted (popCmd a) x) k) := hu.step rfl rfl rfl
    have hans := replied_answers (resetPending (admitted (popCmd a) x) k) (parse r) Code.OK 0 0 []
    have hpend : Moves (traceParts ++ [.clk, .mbx, .sec]) traceObjs [F.MBX_QUEUES_CQ_FREE, F.MBX_QUEUES_CR_FREE,
        F.MBX_USE_BAD_MAC, F.MBX_USE_HANDLES_USED, F.MBX_USE_SESSIONS_OPEN] a (resetPending (admitted (popCmd a) x) k) :=
      .after (Leaves.set_clk ..) (((popCmd_frame a).trans (admitted_frame ..)).one rfl rfl rfl) rfl rfl
    have hframe := hans.moves.step hpend rfl rfl rfl
    refine ⟨_, congrArg Host.Outcome.next (mbxRun_imm ht hres), ?_, ?_, ?_, hframe⟩
    · rw [hans.moves.1.1 .clk (by decide), resetPending, hclk, hu.mbx]
    · exact hpu.answered
    · exact hframe.rd _ _ rfl

end Sys2Proof.Machine
end

section
/-!
Mode changes: what the change itself, the safe-value command, the FIN of its MODE_SET and the pending transition leave.
-/

namespace Sys2Proof.Machine

/-! ### Records made on the way -/

/-- An event stands recorded if the recorder was open and its buffer not full. -/
def Recorded (e : Nat × Nat) (arg : List Nat) (s t : State) : Prop :=
  s.sto.sealed = false → s.bufCnt < 256 → ∃ r ∈ t.sto.buf, r.code = e.1 ∧ r.sev = e.2 ∧ r.arg = slice arg 0 8

theorem recorded_log (e : Nat × Nat) (arg : List Nat) (s : State) : Recorded e arg s (log e arg s) :=
  fun hs hc => mem_log e arg hs hc

section
variable {e : Nat × Nat} {arg : List Nat} {a s t u : State}

/-- What is recorded stays recorded. -/
theorem Recorded.grow (h : Recorded e arg s t) (hu : BufGrows t u) : Recorded e arg s u := fun hs hc => by
  obtain ⟨r, hr, hcode⟩ := h hs hc
  exact ⟨r, hu.subset hr, hcode⟩

/-- The event is logged, if at most 31 records precede it. -/
theorem Recorded.logged {n : Nat} (h : Recorded e arg s t) (hr : Records n a s) (hn : n ≤ 31) : Logged e arg a t :=
  fun hs hc => h (hr.sealed.trans hs) (by have := hr.count; omega)

end

/-! ### The mode (R171) -/

/-- The record of a mode change (R171). -/
def modeEvent (new : Nat) : Nat × Nat := (Ev.MODE.1, if new = mFAULT then 3 else 1)

/-- What a change of the mode leaves. -/
structure ModeChange (new cause restart : Nat) (s t : State) : Prop where
  mode : t.mode = new
  latch : t.latch 20 = true
  recorded : Recorded (modeEvent new) [s.mode, new, cause, restart] s t
  scn : t.scn = { s.scn with enterXt := s.time.xt }
  img : t.img = { s.img with s := memSet s.img.s 5 1 new }
  bases : t.time.bases = s.time.bases
  entered : s.mode ≠ mRUN → new = mRUN → t.time.runFrom = some s.time.now
  left : s.mode = mRUN → new ≠ mRUN → t.time.runFrom = none ∧ t.runTicks = s.runTicks
  core : t.ring.core = s.ring.core
  frame : Moves (traceParts ++ [.time, .img, .scn, .pair]) traceObjs [F.PLT_PSTATE_ROLE, F.SCN_MODE_MODE] s t

theorem roleOff_moves (s : State) : Moves [.pair] [] [F.PLT_PSTATE_ROLE] s (roleOff s) :=
  .ite (.refl s) ((updPair_leaves _ _).moves.step ((State.wr_moves ..).one rfl rfl rfl) rfl rfl rfl)

/-- The RUN ticks stop as the mode leaves RUN. -/
def ticksLeft (s : State) (new : Nat) : State := if s.mode = mRUN ∧ new ≠ mRUN then stopRunTicks s else s

/-- The RUN ticks start as mode `old` gives way to RUN. -/
def ticksEntered (s : State) (old new : Nat) : State := if old ≠ mRUN ∧ new = mRUN then startRunTicks s else s

/-- The new mode is shown, and the RUN ticks and the pair's role follow it. -/
def modeShown (s : State) (new : Nat) : State :=
  let t := ticksEntered ((ticksLeft s new).wr F.SCN_MODE_MODE new) s.mode new
  if new = mRUN ∨ new = mHOLD then t else roleOff t

theorem ticksLeft_leaves (s : State) (new : Nat) : Leaves [.time] [] s (ticksLeft s new) :=
  .ite (stopRunTicks_leaves s) (.refl ..)

theorem ticksEntered_leaves (s : State) (old new : Nat) : Leaves [.time] [] s (ticksEntered s old new) :=
  .ite (startRunTicks_leaves s) (.refl ..)

theorem roleShown_moves (s : State) (c : Prop) [Decidable c] :
    Moves [.pair] [] [F.PLT_PSTATE_ROLE] s (if c then s else roleOff s) := .ite (.refl s) (roleOff_moves s)

theorem modeShown_moves (s : State) (new : Nat) :
    Moves [.time, .pair] [] [F.PLT_PSTATE_ROLE, F.SCN_MODE_MODE] s (modeShown s new) :=
  (roleShown_moves ..).step (.after (ticksEntered_leaves ..) ((State.wr_moves ..).step
    ((ticksLeft_leaves s new).moves.one rfl rfl rfl) rfl rfl rfl) rfl rfl) rfl rfl rfl

theorem modeShown_mode (s : State) {new : Nat} (hnew : new < 8) : (modeShown s new).mode = new := by
  unfold modeShown
  extract_lets t
  rw [State.mode, (roleShown_moves ..).rd _ _ rfl, (ticksEntered_leaves ..).moves.rd _ _ rfl]
  exact (State.rd_wr_same ..).trans (Nat.mod_eq_of_lt hnew)

theorem ticksLeft_bases (s : State) (new : Nat) : (ticksLeft s new).time.bases = s.time.bases := by
  unfold ticksLeft
  split <;> rfl

theorem ticksEntered_bases (s : State) (old new : Nat) : (ticksEntered s old new).time.bases = s.time.bases := by
  unfold ticksEntered
  split <;> rfl

/-- The time bases as mode `new` is shown. -/
theorem modeShown_time (s : State) (new : Nat) : (modeShown s new).time.bases = s.time.bases ∧
    (s.mode ≠ mRUN → new = mRUN → (modeShown s new).time.runFrom = some s.time.now) ∧
    (s.mode = mRUN → new ≠ mRUN → (modeShown s new).time.runFrom = none ∧ (modeShown s new).runTicks = s.runTicks) := by
  have htime : (modeShown s new).time = (ticksEntered ((ticksLeft s new).wr F.SCN_MODE_MODE new) s.mode new).time :=
    (roleShown_moves ..).1.1 .time (by decide)
  rw [State.runTicks, htime]
  refine ⟨?_, fun hold hnew => ?_, fun hold hnew => ?_⟩
  · rw [ticksEntered_bases, State.wr_time, ticksLeft_bases]
  · rw [ticksEntered, if_pos ⟨hold, hnew⟩, ticksLeft, if_neg (by simp [hold])]
    rfl
  · rw [ticksEntered, if_neg (by simp [hold]), ticksLeft, if_pos ⟨hold, hnew⟩]
    exact ⟨rfl, rfl⟩

/-- The instant of the change, for HOLD_LIMIT, and byte 5 of S. -/
def modeNoted (s : State) (new : Nat) : State :=
  { s with scn := { s.scn with enterXt := s.time.xt }, img := { s.img with s := memSet s.img.s 5 1 new } }

theorem modeNoted_leaves (s : State) (new : Nat) : Leaves [.scn, .img] [] s (modeNoted s new) :=
  (Leaves.set_img { s with scn := (modeNoted s new).scn } (modeNoted s new).img).step
    ((Leaves.set_scn s (modeNoted s new).scn).one rfl rfl) rfl rfl

/-- The record, latch MODE and source 301 of a change of the mode from `old`. -/
def modeReported (s : State) (old new cause restart : Nat) : State :=
  hostSync 301 (setLatch 20 (modeNoted (log (modeEvent new) [old, new, cause, restart] s) new))

theorem setMode_eq (s : State) (new cause restart : Nat) :
    setMode s new cause restart = modeReported (modeShown s new) s.mode new cause restart := rfl

section
variable (s : State) (old new cause restart : Nat)

theorem modeReported_leaves : Leaves (traceParts ++ [.scn, .img]) traceObjs s (modeReported s old new cause restart) :=
  .step (trace_hostSync ..) (.step (trace_setLatch ..) (.step (modeNoted_leaves ..) (.one (trace_log ..) rfl rfl) rfl rfl)
    rfl rfl) rfl rfl

theorem modeReported_latch : (modeReported s old new cause restart).latch 20 = true := by
  rw [modeReported, State.latch, (hostSync_leaves ..).moves.rd _ _ rfl]
  exact setLatch_set (b := 20) rfl (by decide) _

theorem modeReported_recorded :
    Recorded (modeEvent new) [old, new, cause, restart] s (modeReported s old new cause restart) :=
  Recorded.grow (recorded_log _ _ s) <| ((modeNoted_leaves ..).grows rfl).trans <| (setLatch_grows ..).trans (hostSync_grows ..)

theorem modeReported_scn : (modeReported s old new cause restart).scn = { s.scn with enterXt := s.time.xt } := by
  rw [modeReported, hostSync_scn, setLatch_scn, modeNoted]
  simp

theorem modeReported_img : (modeReported s old new cause restart).img = { s.img with s := memSet s.img.s 5 1 new } := by
  rw [modeReported, hostSync_img, setLatch_img, modeNoted]
  simp

theorem modeReported_core : (modeReported s old new cause restart).ring.core = s.ring.core := by
  rw [modeReported, hostSync_core, setLatch_core, (modeNoted_leaves ..).1 .ring (by decide), log_core]

end

theorem setMode_modeChange (s : State) {new : Nat} (hnew : new < 8) (cause restart : Nat) :
    ModeChange new cause restart s (setMode s new cause restart) := by
  rw [setMode_eq]
  have hshown := modeShown_moves s new
  have hmode := modeShown_mode s hnew
  obtain ⟨hbases, hentered, hleft⟩ := modeShown_time s new
  have hscn : (modeShown s new).scn = s.scn := hshown.1.1 .scn (by decide)
  have himg : (modeShown s new).img = s.img := hshown.1.1 .img (by decide)
  have hring : (modeShown s new).ring = s.ring := hshown.1.1 .ring (by decide)
  have hsto : (modeShown s new).sto = s.sto := hshown.1.1 .sto (by decide)
  have hxt : (modeShown s new).time.xt = s.time.xt := (congrArg TimeSt.xt hbases :)
  generalize modeShown s new = u at *
  have hreported := modeReported_leaves u s.mode new cause restart
  have htime : (modeReported u s.mode new cause restart).time = u.time := hreported.1 .time (by decide)
  exact {
    mode := by rw [State.mode, hreported.moves.rd _ _ rfl, ← State.mode, hmode]
    latch := modeReported_latch ..
    recorded := fun hs hc => modeReported_recorded u s.mode new cause restart (hsto ▸ hs) (by rwa [State.bufCnt, hsto])
    scn := by rw [modeReported_scn, hscn, hxt]
    img := by rw [modeReported_img, himg]
    bases := htime ▸ hbases
    entered := fun hold hn => htime ▸ hentered hold hn
    left := fun hold hn => by
      rw [State.runTicks, htime]
      exact hleft hold hn
    core := by rw [modeReported_core, hring]
    frame := .after hreported (hshown.one rfl rfl rfl) rfl rfl }

/-! ### The pending transition and its FIN (R175) -/

theorem clearPend_moves (s : State) : Moves [.scn] [] [F.SCN_MODE_PENDING] s (clearPend s) :=
  (State.wr_moves ..).step ((Leaves.set_scn s _).moves.one rfl rfl rfl) rfl rfl rfl

theorem clearPend_scn (s : State) : (clearPend s).scn = { s.scn with pend := none } := rfl

theorem clearPend_rd (s : State) : (clearPend s).rd F.SCN_MODE_PENDING = 0 := State.rd_wr_same ..

theorem putPend_moves (s : State) (p : PendMode) : Moves [.scn] [] [F.SCN_MODE_PENDING] s (putPend s p) :=
  (State.wr_moves ..).step ((Leaves.set_scn s _).moves.one rfl rfl rfl) rfl rfl rfl

theorem putPend_scn (s : State) (p : PendMode) : (putPend s p).scn = { s.scn with pend := some p } := rfl

theorem putPend_rd (s : State) {p : PendMode} (hp : p.target < 8) : (putPend s p).rd F.SCN_MODE_PENDING = p.target :=
  (State.rd_wr_same ..).trans (Nat.mod_eq_of_lt hp)

section
variable {a u t : State} {n status result : Nat} {data : List Nat}

theorem finMode_moves (s : State) (p : PendMode) (status : Nat) :
    Moves (traceParts ++ [.mbx]) traceObjs ackFlds s (finMode s p status) := .ite (.refl s) (finHdl_moves ..)

/-- The FIN of a handle that the mailbox still knows as `a` knew it. -/
theorem fins_finNum (hm : u.mbx = a.mbx) (ht : u.time.bases = a.time.bases) (hc : u.ring.core = a.ring.core) :
    Fins n status result data a (finNum u n status result data) := by
  intro h hh hst hs
  have hnow : u.time.now = a.time.now := (congrArg TimeSt.now ht :)
  refine ⟨u.mbx.nextSeq, ?_⟩
  rw [finNum, fin, finHdl_cq (h := h) (by rw [State.hdl?, hm]; exact hh) hst (by rw [State.session?, hm]; exact hs),
    State.recNow, State.dataNow, hnow, State.cinchNow_of_core hc]
  exact (List.suffix_append ..).isInfix

/-- What enters the queue later leaves the FIN there. -/
theorem Fins.grow (h : Fins n status result data a u) (hc : u.mbx.cq <+: t.mbx.cq) : Fins n status result data a t :=
  fun x hx hst hs => by
    obtain ⟨q, hq⟩ := h x hx hst hs
    exact ⟨q, hq.trans hc.isInfix⟩

/-- A transition with a handle ends with its FIN, which names the mode. -/
theorem fins_finMode {p : PendMode} (hp : p.handle ≠ 0) (hm : u.mbx = a.mbx) (ht : u.time.bases = a.time.bases)
    (hc : u.ring.core = a.ring.core) : Fins p.handle status u.mode [] a (finMode u p status) := by
  rw [finMode, if_neg hp]
  exact fins_finNum hm ht hc

end

/-- Recording an event sets no latch but STORE and RECORDER. -/
theorem log_latch20 (e : Nat × Nat) (arg : List Nat) (s : State) : (log e arg s).latch 20 = s.latch 20 := by
  have hsync : ∀ (n : Nat) (u : State), (hostSync n u).latch 20 = u.latch 20 := fun n u => by
    rw [State.latch, (hostSync_leaves n u).moves.rd _ _ rfl, State.latch]
  have hrec : (hostSync 37 (hostSync 5 (createRec s e arg))).latch 20 = s.latch 20 := by
    rw [hsync, hsync, State.latch, (createRec_leaves s e arg).moves.rd _ _ rfl, State.latch]
  have hset : ∀ (b : Nat) (u : State), fieldOutside [] [(latchFld b).1] (latchFld 20).1 = true →
      (setLatch b u).latch 20 = u.latch 20 := fun b u hb => by
    have hput : (putLatch u b true).rd (latchFld 20).1 = u.rd (latchFld 20).1 := (State.wr_moves ..).rd _ _ hb
    rw [setLatch, hsync, State.latch, hput, State.latch]
  unfold log
  split
  · rfl
  · split
    · rw [State.latch, State.latch]
      exact congrArg (Nat.testBit · _) ((State.inc_moves s F.REC_STAT_DROPPED 0 1).rd _ _ rfl)
    · extract_lets u
      split
      · rw [hset 22 u rfl, hrec]
      · split
        · rw [hset 23 u rfl, hrec]
        · exact hrec

theorem finMode_latch20 (s : State) (p : PendMode) (status : Nat) : (finMode s p status).latch 20 = s.latch 20 := by
  unfold finMode finNum fin finHdl
  split
  · rfl
  · split
    · rfl
    · split
      · rfl
      · split
        · extract_lets u
          rw [State.latch, (putHdl_leaves ..).moves.rd _ _ rfl, (placeRecs_leaves ..).moves.rd _ _ rfl, State.latch]
        · rw [State.latch, (freeHdl_moves ..).rd _ _ rfl]
          exact log_latch20 ..

/-! ### Safe-value commands (R189) -/

theorem disarmOutputs_moves (s : State) : Moves [] [] [F.ANG_EV_STATE] s (disarmOutputs s) :=
  .foldl (fun s _ => .ite (State.wr_moves ..) (.refl s)) _ s

theorem safeCommand_moves (s : State) (kind : Nat) : Moves [.fld, .pair] [] [F.ANG_EV_STATE] s (safeCommand s kind) :=
  .ite (.after (sendCommand_leaves ..) (.after (updPair_leaves ..) ((setYield_leaves s).moves.one rfl rfl rfl) rfl rfl) rfl rfl)
    ((disarmOutputs_moves _).step ((sendCommand_leaves ..).moves.one rfl rfl rfl) rfl rfl rfl)

theorem safeCommand_cmds (s : State) (kind : Nat) : (safeCommand s kind).fld.cmds =
    s.fld.cmds ++ (List.range 12).map fun g => (g, if s.holdsFor = true then 3 else kind) := by
  unfold safeCommand
  split
  · have hyield : (setYield s).fld = s.fld := (setYield_leaves s).1 .fld (by decide)
    exact congrArg (·.cmds ++ _) hyield
  · exact congrArg FieldSt.cmds ((disarmOutputs_moves _).1.1 .fld (by decide))

end Sys2Proof.Machine
end

section
/-!
The transitions of SCN-2 at their boundary (R177, R181, R182, R184), and the obligation on them.
-/

namespace Sys2Proof.Machine

/-! ### The end of a transition -/

/-- Nothing that a mode change reports has moved yet, and at most `n` events are recorded. -/
structure Ready (n : Nat) (a u : State) : Prop where
  mode : u.mode = a.mode
  mbx : u.mbx = a.mbx
  time : u.time = a.time
  core : u.ring.core = a.ring.core
  records : Records n a u

/-- What the end of a transition into mode `new` reports: the mode, its record and the FIN of its MODE_SET. -/
structure Ends (handle new cause restart : Nat) (a t : State) : Prop where
  mode : t.mode = new
  logged : Logged (modeEvent new) [a.mode, new, cause, restart] a t
  latch : t.latch 20 = true
  fins : handle ≠ 0 → Fins handle Code.OK new [] a t

/-- A transition ends with its FIN; between the change of the mode and the FIN a safe-value command may go out. -/
theorem ends_finMode {n new cause restart : Nat} {p : PendMode} {a u v w : State} (hu : Ready n a u) (hn : n ≤ 31)
    (hv : ModeChange new cause restart u v) (hw : Moves [.prg, .fld, .pair] [] [F.ANG_EV_STATE] v w) :
    Ends p.handle new cause restart a (finMode w p Code.OK) := by
  have hmode : w.mode = new := (hw.rd _ _ rfl).trans hv.mode
  have hmbx : w.mbx = a.mbx := (hw.1.1 .mbx (by decide)).trans ((hv.frame.1.1 .mbx (by decide)).trans hu.mbx)
  have hbases : w.time.bases = a.time.bases := by rw [hw.1.1 .time (by decide), hv.bases, hu.time]
  have hcore : w.ring.core = a.ring.core := by rw [hw.1.1 .ring (by decide), hv.core, hu.core]
  have hlatch : w.latch 20 = true := by
    rw [State.latch, hw.rd _ _ rfl]
    exact hv.latch
  have hrec := (hv.recorded.grow ((hw.1.grows rfl).trans (finMode_grows w p Code.OK))).logged hu.records hn
  exact {
    mode := by rw [State.mode, (finMode_moves ..).rd _ _ rfl, ← State.mode, hmode]
    logged := hu.mode ▸ hrec
    latch := (finMode_latch20 ..).trans hlatch
    fins := fun hp => hmode ▸ fins_finMode hp hmbx hbases hcore }

/-! ### The pair's role at the entry into RUN (R282) -/

theorem agSync_records (s : State) (g : Nat) : Records 1 s (agSync s g) := by
  unfold agSync
  extract_lets +onlyGivenNames x
  exact (Records.of_sto (n := 0) (by simp)).trans (hostSync_records ..)

theorem dgSync_records (s : State) (g : Nat) : Records 1 s (dgSync s g) :=
  (Records.of_sto (n := 0) (by simp)).trans (hostSync_records ..)

theorem Leaves.records {ps : List Part} {os : List Nat} {s t : State} (h : Leaves ps os s t) (hs : ps.contains .sto = false) :
    Records 0 s t := .of_sto (h.1 .sto (by simpa using hs))

theorem Records.foldl {α : Type} {n : Nat} {g : State → α → State} (h : ∀ s x, Records n s (g s x)) (l : List α)
    (s : State) : Records (l.length * n) s (l.foldl g s) := by
  induction l generalizing s with
  | nil => exact .of_sto rfl
  | cons x l ih => exact ((h s x).trans (ih _)).mono (by rw [List.length_cons, Nat.succ_mul, Nat.add_comm])

theorem releaseDg_records (s : State) (g : Nat) : Records 1 s (releaseDg s g) := by
  unfold releaseDg
  extract_lets u
  have hu : Leaves [.fld] [F.objDG_CHSTAT] s u := Leaves.foldl _ _ (fun s k _ =>
    .step (clearPresent_leaves ..) (.step (clearPresent_leaves ..) (stageOff_leaves ..) rfl rfl) rfl rfl) s
  clear_value u
  exact ((hu.records rfl).trans ((putDgg_leaves ..).records rfl)).trans (dgSync_records ..)

theorem updAgg_records (s : State) (g : Nat) (f : AnGrp → AnGrp) : Records 1 s (updAgg s g f) :=
  ((putAgg_leaves ..).records rfl).trans (agSync_records ..)

/-- Each of the twelve groups records at most one event as its outputs are released. -/
theorem standbyOutputs_records (s : State) : Records 12 s (standbyOutputs s) := by
  have hana : Records 4 s (releaseAnalogue s) :=
    Records.foldl (n := 1) (fun s g => (updAgg_records ..).trans ((applyOuts_leaves ..).records rfl)) (List.range 4) s
  have hdig : Records 8 (releaseAnalogue s) (standbyOutputs s) := Records.foldl (n := 1) releaseDg_records (List.range 8) _
  exact hana.trans hdig

theorem enterRunRole_records (s : State) : Records 12 s (enterRunRole s) := by
  have hstay : Records 12 s s := .of_sto rfl
  have hrole : Records 0 s (setRole s 2) := .of_sto rfl
  have hclaim : ∀ (u : State) (f : PairSt → PairSt), Records 0 u (updPair u f) := fun u f => .of_sto rfl
  exact .ite hstay <| .ite hstay <| .ite ((hrole.trans (standbyOutputs_records _)).mono (by decide))
    ((standbyOutputs_records s).trans (hclaim _ _))

/-- What released outputs touch. -/
def releaseFlds : List Fld :=
  [F.DG_CHSTAT_CLAMP, F.DG_CHSTAT_PRESENT, F.DG_GSTAT_BC_V, F.DG_GSTAT_RATE, F.DG_GSTAT_WORD]

theorem standbyOutputs_moves (s : State) : Moves (traceParts ++ [.fld, .ana]) (traceObjs ++ [F.objAG_GSTAT]) releaseFlds s
    (standbyOutputs s) :=
  ((standbyOutputs_latch s).movesWithin (rs := traceObjs ++ [F.objAG_GSTAT]) (vs := releaseFlds)
    (standbyOutputs_leaves s) rfl rfl rfl).one rfl rfl rfl

/-- What the entry into RUN touches of the pair and of released outputs. -/
abbrev RoleMoves (s t : State) : Prop :=
  Moves (traceParts ++ [.fld, .ana, .pair]) (traceObjs ++ [F.objAG_GSTAT]) (F.PLT_PSTATE_ROLE :: releaseFlds) s t

theorem enterRunRole_moves (s : State) : RoleMoves s (enterRunRole s) := by
  have hrole : RoleMoves s (setRole s 2) := (State.wr_moves ..).one rfl rfl rfl
  have hreleased : ∀ u, RoleMoves u (standbyOutputs u) := fun u => (standbyOutputs_moves u).one rfl rfl rfl
  have hclaim : ∀ (u : State) (f : PairSt → PairSt), RoleMoves u (updPair u f) := fun u f =>
    (updPair_leaves u f).moves.one rfl rfl rfl
  exact .ite (.refl s) <| .ite (.refl s) <| .ite (hrole.trans (hreleased _)) ((hreleased s).trans (hclaim _ _))

theorem enterRunRole_core (s : State) : (enterRunRole s).ring.core = s.ring.core := by
  have hreleased : ∀ u, (standbyOutputs u).ring.core = u.ring.core := fun u => (standbyOutputs_latch u).1
  unfold enterRunRole
  split
  · rfl
  · split
    · rfl
    · split
      · exact hreleased (setRole s 2)
      · exact (congrArg RingSt.core ((updPair_leaves ..).1 .ring (by decide))).trans (hreleased s)

/-! ### RUN -/

/-- The pending transition is over, and the restart kind is noted for the tasks. -/
def runNoted (s : State) (p : PendMode) : State :=
  let s := clearPend s
  { s with scn := { s.scn with restart := p.restart, first := true }
           img := { s.img with s := memPut s.img.s 6 [p.restart, 1 + 2 * s.rd F.SCN_MODE_RETAIN_STALE] } }

/-- The same with the pair's role, which the entry into RUN from STOP settles. -/
def runPrepared (s : State) (p : PendMode) : State :=
  if s.mode = mSTOP then enterRunRole (updPlt (runNoted s p) fun x => { x with open_ := false }) else runNoted s p

theorem runNoted_moves (s : State) (p : PendMode) : Moves [.scn, .img] [] [F.SCN_MODE_PENDING] s (runNoted s p) :=
  .after (Leaves.set_img { clearPend s with scn := (runNoted s p).scn } (runNoted s p).img)
    (.after (Leaves.set_scn (clearPend s) (runNoted s p).scn) ((clearPend_moves s).one rfl rfl rfl) rfl rfl) rfl rfl

theorem runNoted_rd (s : State) (p : PendMode) : (runNoted s p).rd F.SCN_MODE_PENDING = 0 := clearPend_rd s

section
variable {a : State} {p : PendMode}

/-- What stands prepared when the mode changes to RUN, after at most `n` records. -/
structure RunReady (n : Nat) (p : PendMode) (a u : State) : Prop where
  scn : u.scn = { a.scn with pend := none, restart := p.restart, first := true }
  pending : u.rd F.SCN_MODE_PENDING = 0
  records : Records n a u
  core : u.ring.core = a.ring.core
  frame : Moves (traceParts ++ [.img, .scn, .fld, .ana, .plt, .pair]) (traceObjs ++ [F.objAG_GSTAT])
    (F.SCN_MODE_PENDING :: F.PLT_PSTATE_ROLE :: releaseFlds) a u

theorem RunReady.ready {n : Nat} {u : State} (h : RunReady n p a u) : Ready n a u :=
  ⟨h.frame.rd _ _ rfl, h.frame.1.1 .mbx (by decide), h.frame.1.1 .time (by decide), h.core, h.records⟩

theorem runReady_runNoted (a : State) (p : PendMode) : RunReady 0 p a (runNoted a p) :=
  ⟨rfl, runNoted_rd a p, .of_sto rfl, rfl, (runNoted_moves a p).one rfl rfl rfl⟩

theorem RunReady.updPlt {n : Nat} {u : State} (h : RunReady n p a u) (f : PltSt → PltSt) : RunReady n p a (updPlt u f) where
  scn := h.scn
  pending := h.pending
  records := ⟨h.records.sealed, h.records.count⟩
  core := h.core
  frame := .after (updPlt_leaves u f) h.frame rfl rfl

theorem RunReady.role {n : Nat} {u : State} (h : RunReady n p a u) : RunReady (n + 12) p a (enterRunRole u) where
  scn := ((enterRunRole_leaves u).1 .scn (by decide)).trans h.scn
  pending := ((enterRunRole_moves u).rd _ _ rfl).trans h.pending
  records := h.records.trans (enterRunRole_records u)
  core := (enterRunRole_core u).trans h.core
  frame := (enterRunRole_moves u).step h.frame rfl rfl rfl

theorem runReady_runPrepared (a : State) (p : PendMode) : RunReady 12 p a (runPrepared a p) := by
  unfold runPrepared
  split
  · exact ((runReady_runNoted a p).updPlt _).role
  · have h := runReady_runNoted a p
    exact { h with records := h.records.mono (by decide) }

theorem modeRunEntry_eq (hp : a.scn.pend = some p) (ht : p.target = mRUN) (hs : p.startup = false)
    (hl : a.runLatch p.readyAt = true) (hlane : a.clk.lane = true)
    (hm : a.mode = mSTOP ∧ a.commitWaits = false ∨ a.mode = mHOLD) :
    modeRunEntry a = finMode (setMode (runPrepared a p) mRUN 0 p.restart) p Code.OK := by
  have hcommit : ¬ (a.mode = mSTOP ∧ a.commitWaits = true) := by
    rintro ⟨hstop, hwaits⟩
    rcases hm with ⟨-, h⟩ | h
    · exact absurd (hwaits.symm.trans h) (by decide)
    · exact absurd (hstop.symm.trans h) (by decide)
  unfold modeRunEntry
  rw [hp]
  dsimp only
  rw [if_neg (by simpa [ht, hs, hl, hlane] using hcommit)]
  unfold runPrepared
  by_cases hstop : a.mode = mSTOP
  · rw [if_pos (by simpa using hstop), if_pos hstop]
    rfl
  · rw [if_neg (by simpa using hstop), if_neg hstop]
    rfl

/-- The entry into RUN at a latch that qualifies it. -/
theorem run_entered (hp : a.scn.pend = some p) (ht : p.target = mRUN) (hs : p.startup = false)
    (hl : a.runLatch p.readyAt = true) (hlane : a.clk.lane = true)
    (hm : a.mode = mSTOP ∧ a.commitWaits = false ∨ a.mode = mHOLD) :
    let t := modeRunEntry a
    Ends p.handle mRUN 0 p.restart a t ∧
      t.scn = { a.scn with pend := none, restart := p.restart, first := true, enterXt := a.time.xt } ∧
      t.rd F.SCN_MODE_PENDING = 0 ∧ t.time.runFrom = some a.time.now ∧
      Moves (traceParts ++ [.time, .mbx, .img, .scn, .fld, .ana, .plt, .pair]) (traceObjs ++ [F.objAG_GSTAT])
        (ackFlds ++ F.SCN_MODE_MODE :: F.SCN_MODE_PENDING :: F.PLT_PSTATE_ROLE :: releaseFlds) a t := by
  have hnotRun : a.mode ≠ mRUN := by
    rcases hm with ⟨h, -⟩ | h <;> rw [h] <;> decide
  rw [modeRunEntry_eq hp ht hs hl hlane hm]
  have hu := runReady_runPrepared a p
  generalize runPrepared a p = u at hu ⊢
  have hready := hu.ready
  have hv := setMode_modeChange u (new := mRUN) (by decide) 0 p.restart
  generalize setMode u mRUN 0 p.restart = v at hv ⊢
  have hfin := finMode_moves v p Code.OK
  refine ⟨ends_finMode hready (by decide) hv (.refl v), ?_, ?_, ?_, ?_⟩
  · rw [hfin.1.1 .scn (by decide), hv.scn, hu.scn, hready.time]
  · rw [hfin.rd _ _ rfl, hv.frame.rd _ _ rfl, hu.pending]
  · rw [hfin.1.1 .time (by decide), hv.entered (hready.mode ▸ hnotRun) rfl, hready.time]
  · exact hfin.step (hv.frame.step (hu.frame.one rfl rfl rfl) rfl rfl rfl) rfl rfl rfl

end

/-! ### Boundaries (R181, R182) -/

section
variable {a s : State} {p : PendMode} {g : Nat}

theorem leaveNow_some (h : a.leaveNow g = some p) : a.scn.pend = some p ∧ p.target = g := by
  unfold State.leaveNow at h
  split at h
  · next q hq =>
    split at h
    · next hc => exact ⟨hq.trans h, Option.some.inj h ▸ hc.1⟩
    · contradiction
  · contradiction

theorem noExec_iff : a.noExec = true ↔ a.lanesIdle = true ∧ a.scn.presented = [] := by
  simp [State.noExec]

theorem lanesIdle_iff :
    a.lanesIdle = true ↔ a.scn.running = none ∧ a.scn.preempted = [] ∧ a.scn.waiting = [] := by
  simp [State.lanesIdle, and_assoc]

/-- With no execution waiting none is dropped. -/
theorem dropWaiting_of_none (h : s.scn.waiting = []) : dropWaiting s = s := by
  have hscn : { s.scn with waiting := [] } = s.scn := by rw [← h]
  unfold dropWaiting
  rw [h, List.foldl_nil, hscn]

/-- The boundary of the pending transition is noted. -/
def cutNoted (s : State) (p : PendMode) : State := putPend s { p with cut := true }

theorem cutNoted_moves (s : State) (p : PendMode) : Moves [.scn] [] [F.SCN_MODE_PENDING] s (cutNoted s p) := putPend_moves ..

theorem cutNoted_scn (s : State) (p : PendMode) : (cutNoted s p).scn = { s.scn with pend := some { p with cut := true } } := rfl

/-- Before the last execution has ended the transition waits. -/
theorem settleMode_waits (h : s.lanesIdle = false) : settleMode s = s := by
  unfold settleMode
  split
  · rfl
  · exact if_pos (.inr (.inl (by simp [h])))

theorem not_unsettled (hc : p.cut = true) (hidle : s.noExec = true) :
    ¬ ((!p.cut) = true ∨ (!s.lanesIdle) = true ∨ (!s.scn.presented.isEmpty) = true) := by
  obtain ⟨hlanes, hpres⟩ := noExec_iff.mp hidle
  simp [hc, hlanes, hpres]

/-- Nothing is deferred any more as the tasks end. -/
def deferralEnded (s : State) : State := { s with prg := { s.prg with deferring := false, deferred := [] } }

theorem deferralEnded_leaves (s : State) : Leaves [.prg] [] s (deferralEnded s) := Leaves.set_prg s _

theorem endPending_of_none (status : Nat) (h : s.prg.act = none) : endPending s status = s := by
  rw [endPending, h]

/-- The module enters HOLD with the last commit. -/
theorem settleMode_hold (hp : s.scn.pend = some p) (hc : p.cut = true) (hidle : s.noExec = true) (ht : p.target = mHOLD)
    (hact : s.prg.act = none) :
    settleMode s = finMode (deferralEnded (setMode (clearPend s) mHOLD 0 s.scn.restart)) p Code.OK := by
  have hprg : (setMode (clearPend s) mHOLD 0 s.scn.restart).prg = s.prg := (setMode_leaves ..).1 .prg (by decide)
  have hend : (finMode (deferralEnded (setMode (clearPend s) mHOLD 0 s.scn.restart)) p Code.OK).prg.act = none := by
    rw [(finMode_leaves ..).1 .prg (by decide), deferralEnded, hprg, hact]
  unfold settleMode
  rw [hp]
  dsimp only
  rw [if_neg (not_unsettled hc hidle), if_neg (by rw [ht]; decide)]
  exact endPending_of_none _ hend

/-- STOP: the lane state is intact for CONTINUE, and the trip captures are released. -/
def stopSettled (s : State) : State :=
  let s := clearPend s
  pinRegs { s with scn := { s.scn with intact := true }, img := { s.img with hold0 := none, hold1 := none }
                   prg := { s.prg with deferring := false, deferred := [] } }

/-- The module enters STOP with the last commit. -/
theorem settleMode_stop (hp : s.scn.pend = some p) (hc : p.cut = true) (hidle : s.noExec = true) (ht : p.target = mSTOP)
    (hact : s.prg.act = none) : settleMode s =
      finMode (setMode (stopSettled s) mSTOP (if p.handle = 0 then 10 else 0) s.scn.restart) p Code.OK := by
  have hprg : (setMode (stopSettled s) mSTOP (if p.handle = 0 then 10 else 0) s.scn.restart).prg.act = none := by
    rw [(setMode_leaves ..).1 .prg (by decide), stopSettled, (pinRegs_leaves _).1 .prg (by decide)]
    exact hact
  have hswap : swapInStop (setMode (stopSettled s) mSTOP (if p.handle = 0 then 10 else 0) s.scn.restart) =
      setMode (stopSettled s) mSTOP (if p.handle = 0 then 10 else 0) s.scn.restart := by
    rw [swapInStop, hprg]
  unfold settleMode
  rw [hp]
  dsimp only
  rw [if_neg (not_unsettled hc hidle), if_pos ht]
  exact congrArg (finMode · p Code.OK) hswap

theorem pinRegs_moves (s : State) :
    Moves [] [F.objIMG_PINS] [F.IMG_STATUS_PINNED, F.IMG_STATUS_PHOLDS] s (pinRegs s) := by
  unfold pinRegs
  extract_lets p u v
  have hv : Moves [] [F.objIMG_PINS] [F.IMG_STATUS_PINNED, F.IMG_STATUS_PHOLDS] s v :=
    (State.wr_moves ..).step ((State.wr_moves ..).one rfl rfl rfl) rfl rfl rfl
  exact hv.trans (.foldl (fun _ _ => (State.wrE_leaves ..).moves.one rfl rfl rfl) _ _)

theorem stopSettled_moves (s : State) : Moves [.scn, .img, .prg] [F.objIMG_PINS]
    [F.SCN_MODE_PENDING, F.IMG_STATUS_PINNED, F.IMG_STATUS_PHOLDS] s (stopSettled s) := by
  unfold stopSettled
  extract_lets +onlyGivenNames c
  refine (pinRegs_moves _).step ?_ rfl rfl rfl
  exact .after (Leaves.set_prg
      { c with scn := { c.scn with intact := true }, img := { c.img with hold0 := none, hold1 := none } } _)
    (.after (Leaves.set_img { c with scn := { c.scn with intact := true } } _)
      (.after (Leaves.set_scn c _) ((clearPend_moves s).one rfl rfl rfl) rfl rfl) rfl rfl) rfl rfl

theorem stopSettled_scn (s : State) : (stopSettled s).scn = { s.scn with pend := none, intact := true } :=
  (pinRegs_leaves _).1 .scn (by decide)

theorem stopSettled_img (s : State) : (stopSettled s).img = { s.img with hold0 := none, hold1 := none } :=
  (pinRegs_leaves _).1 .img (by decide)

theorem stopSettled_rd (s : State) : (stopSettled s).rd F.SCN_MODE_PENDING = 0 :=
  ((pinRegs_moves _).rd _ _ rfl).trans (clearPend_rd s)

theorem stopSettled_ready (s : State) : Ready 0 s (stopSettled s) :=
  ⟨(stopSettled_moves s).rd _ _ rfl, (stopSettled_moves s).1.1 .mbx (by decide), (stopSettled_moves s).1.1 .time (by decide),
    congrArg RingSt.core ((stopSettled_moves s).1.1 .ring (by decide)), .of_sto ((stopSettled_moves s).1.1 .sto (by decide))⟩

theorem modeHoldEntry_eq (hl : a.leaveNow mHOLD = some p) (hm : a.mode = mRUN) (hw : a.scn.waiting = []) :
    modeHoldEntry a = settleMode (cutNoted a p) := by
  rw [modeHoldEntry, hl]
  dsimp only
  rw [if_pos hm]
  exact congrArg settleMode (dropWaiting_of_none hw)

theorem cleared_moves (a : State) (p : PendMode) : Moves [.scn] [] [F.SCN_MODE_PENDING] a (clearPend (cutNoted a p)) :=
  (cutNoted_moves a p).trans (clearPend_moves _)

theorem cleared_ready (a : State) (p : PendMode) : Ready 0 a (clearPend (cutNoted a p)) :=
  ⟨(cleared_moves a p).rd _ _ rfl, rfl, rfl, rfl, .of_sto rfl⟩

/-- HOLD is entered at a boundary at which nothing is in progress. -/
theorem hold_entered (hl : a.leaveNow mHOLD = some p) (hm : a.mode = mRUN) (hidle : a.noExec = true)
    (hact : a.prg.act = none) :
    let t := modeHoldEntry a
    Ends p.handle mHOLD 0 a.scn.restart a t ∧ t.scn.pend = none ∧ t.rd F.SCN_MODE_PENDING = 0 ∧
      (t.time.runFrom = none ∧ t.runTicks = a.runTicks) ∧
      Moves (traceParts ++ [.time, .mbx, .img, .scn, .prg, .pair]) traceObjs
        (ackFlds ++ [F.SCN_MODE_MODE, F.SCN_MODE_PENDING, F.PLT_PSTATE_ROLE]) a t := by
  obtain ⟨-, ht⟩ := leaveNow_some hl
  have hw := (lanesIdle_iff.mp (noExec_iff.mp hidle).1).2.2
  have hrestart : (cutNoted a p).scn.restart = a.scn.restart := rfl
  rw [modeHoldEntry_eq hl hm hw, settleMode_hold (s := cutNoted a p) (p := { p with cut := true }) rfl rfl hidle ht hact,
    hrestart]
  have hready := cleared_ready a p
  have hmoves := cleared_moves a p
  have hrd := clearPend_rd (cutNoted a p)
  have hscn := clearPend_scn (cutNoted a p)
  generalize clearPend (cutNoted a p) = u at hready hmoves hrd hscn ⊢
  have hv := setMode_modeChange u (new := mHOLD) (by decide) 0 a.scn.restart
  generalize setMode u mHOLD 0 a.scn.restart = v at hv ⊢
  have hw : Moves [.prg] [] [] v (deferralEnded v) := (deferralEnded_leaves v).moves
  generalize deferralEnded v = w at hw ⊢
  have hfin := finMode_moves w { p with cut := true } Code.OK
  have htime : (finMode w { p with cut := true } Code.OK).time = v.time :=
    (hfin.1.1 .time (by decide)).trans (hw.1.1 .time (by decide))
  have hticks : u.runTicks = a.runTicks := by rw [State.runTicks, hready.time, State.runTicks]
  refine ⟨ends_finMode hready (by decide) hv (hw.one rfl rfl rfl), ?_, ?_, ?_, ?_⟩
  · rw [hfin.1.1 .scn (by decide), hw.1.1 .scn (by decide), hv.scn, hscn]
  · rw [hfin.rd _ _ rfl, hw.rd _ _ rfl, hv.frame.rd _ _ rfl, hrd]
  · rw [State.runTicks, htime, ← hticks]
    exact hv.left (hready.mode.trans hm) (by decide)
  · exact hfin.step (hw.step (hv.frame.step (hmoves.one rfl rfl rfl) rfl rfl rfl) rfl rfl rfl) rfl rfl rfl

/-- While an execution is in progress the boundary of HOLD is only noted. -/
theorem hold_waits {x : Exec} (hl : a.leaveNow mHOLD = some p) (hm : a.mode = mRUN) (hrun : a.scn.running = some x)
    (hw : a.scn.waiting = []) : modeHoldEntry a = cutNoted a p := by
  rw [modeHoldEntry_eq hl hm hw, settleMode_waits]
  simp [State.lanesIdle, cutNoted_scn, hrun]

/-- The commits of the executions in progress are discarded (R181). -/
def commitsDiscarded (s : State) : State :=
  let off (x : Exec) : Exec := { x with discard := true }
  { s with scn := { s.scn with running := s.scn.running.map off, preempted := s.scn.preempted.map off
                               presented := s.scn.presented.map off } }

theorem commitsDiscarded_of_none (hidle : s.noExec = true) : commitsDiscarded s = s := by
  obtain ⟨hlanes, hpres⟩ := noExec_iff.mp hidle
  obtain ⟨hrun, hpre, -⟩ := lanesIdle_iff.mp hlanes
  have hsame : ∀ c : ScnSt, c.running = none → c.preempted = [] → c.presented = [] →
      { c with running := none, preempted := [], presented := [] } = c := by
    rintro c h1 h2 h3
    cases c
    cases h1
    cases h2
    cases h3
    rfl
  have hscn : (commitsDiscarded s).scn = s.scn := by
    rw [← hsame s.scn hrun hpre hpres]
    simp [commitsDiscarded, hrun, hpre, hpres]
  calc commitsDiscarded s = { s with scn := (commitsDiscarded s).scn } := rfl
    _ = s := by rw [hscn]

theorem modeStopEntry_eq (hl : a.leaveNow mSTOP = some p) (hm : a.mode = mRUN ∨ a.mode = mHOLD) (hidle : a.noExec = true) :
    modeStopEntry a = settleMode (safeCommand (cutNoted a p) 1) := by
  have hw := (lanesIdle_iff.mp (noExec_iff.mp hidle).1).2.2
  have hscn : (safeCommand (cutNoted a p) 1).scn = (cutNoted a p).scn := (safeCommand_moves ..).1.1 .scn (by decide)
  have hidle' : (safeCommand (cutNoted a p) 1).noExec = true := by
    rw [State.noExec, State.lanesIdle, hscn]
    exact hidle
  rw [modeStopEntry, hl]
  dsimp only
  rw [if_pos hm]
  have hdrop : dropWaiting (putPend a { p with cut := true }) = cutNoted a p := dropWaiting_of_none hw
  rw [hdrop]
  exact congrArg settleMode (commitsDiscarded_of_none hidle')

/-- What stands at the boundary of STOP once the safe values are commanded. -/
structure StopCommanded (p : PendMode) (a u : State) : Prop where
  scn : u.scn = { a.scn with pend := some { p with cut := true } }
  cmds : u.fld.cmds = a.fld.cmds ++ (List.range 12).map fun g => (g, if a.holdsFor = true then 3 else 1)
  frame : Moves [.fld, .pair, .scn] [] [F.ANG_EV_STATE, F.SCN_MODE_PENDING] a u

theorem stopCommanded (a : State) (p : PendMode) : StopCommanded p a (safeCommand (cutNoted a p) 1) where
  scn := (safeCommand_moves ..).1.1 .scn (by decide)
  cmds := by
    have hholds : (cutNoted a p).holdsFor = a.holdsFor := by
      have hrd := fun f h => (cutNoted_moves a p).rd f 0 h
      simp only [State.holdsFor, State.paired, State.role, State.pElig, State.silent, State.is, hrd F.PLT_PAIR_EN rfl,
        hrd F.PLT_PSTATE_ROLE rfl, hrd F.PLT_PSTATE_PARTNER_ELIG rfl]
      rfl
    rw [safeCommand_cmds, hholds]
    rfl
  frame := (safeCommand_moves ..).step ((cutNoted_moves a p).one rfl rfl rfl) rfl rfl rfl

theorem StopCommanded.ready {u : State} (h : StopCommanded p a u) : Ready 0 a (stopSettled u) where
  mode := (stopSettled_ready u).mode.trans (h.frame.rd _ _ rfl)
  mbx := (stopSettled_ready u).mbx.trans (h.frame.1.1 .mbx (by decide))
  time := (stopSettled_ready u).time.trans (h.frame.1.1 .time (by decide))
  core := (stopSettled_ready u).core.trans (congrArg RingSt.core (h.frame.1.1 .ring (by decide)))
  records := (h.frame.1.records rfl).trans (stopSettled_ready u).records

/-- STOP is entered at a boundary at which nothing is in progress. -/
theorem stop_entered (hl : a.leaveNow mSTOP = some p) (hm : a.mode = mRUN ∨ a.mode = mHOLD) (hidle : a.noExec = true)
    (hact : a.prg.act = none) :
    let t := modeStopEntry a
    Ends p.handle mSTOP (if p.handle = 0 then 10 else 0) a.scn.restart a t ∧
      (t.scn.pend = none ∧ t.rd F.SCN_MODE_PENDING = 0 ∧ t.scn.intact = true) ∧
      (t.img.hold0 = none ∧ t.img.hold1 = none) ∧
      (t.fld.cmds = a.fld.cmds ++ (List.range 12).map fun g => (g, if a.holdsFor = true then 3 else 1)) ∧
      Moves (traceParts ++ [.time, .mbx, .img, .scn, .prg, .fld, .pair]) (traceObjs ++ [F.objIMG_PINS])
        (ackFlds ++ [F.ANG_EV_STATE, F.IMG_STATUS_PHOLDS, F.IMG_STATUS_PINNED, F.PLT_PSTATE_ROLE, F.SCN_MODE_MODE,
          F.SCN_MODE_PENDING]) a t := by
  obtain ⟨-, ht⟩ := leaveNow_some hl
  rw [modeStopEntry_eq hl hm hidle]
  have hu := stopCommanded a p
  generalize safeCommand (cutNoted a p) 1 = u at hu ⊢
  have hidle' : u.noExec = true := by
    rw [State.noExec, State.lanesIdle, hu.scn]
    exact hidle
  have hact' : u.prg.act = none := (congrArg PrgSt.act (hu.frame.1.1 .prg (by decide))).trans hact
  have hrestart : u.scn.restart = a.scn.restart := by rw [hu.scn]
  rw [settleMode_stop (p := { p with cut := true }) (by rw [hu.scn]) rfl hidle' ht hact', hrestart]
  have hready := hu.ready
  have hset := stopSettled_moves u
  have hscn := stopSettled_scn u
  have himg := stopSettled_img u
  have hrd := stopSettled_rd u
  generalize stopSettled u = v at hready hset hscn himg hrd ⊢
  have hw := setMode_modeChange v (new := mSTOP) (by decide) (if p.handle = 0 then 10 else 0) a.scn.restart
  dsimp only
  generalize setMode v mSTOP (if p.handle = 0 then 10 else 0) a.scn.restart = w at hw ⊢
  have hfin := finMode_moves w { p with cut := true } Code.OK
  refine ⟨ends_finMode hready (by decide) hw (.refl w), ⟨?_, ?_, ?_⟩, ?_, ?_, ?_⟩
  · rw [hfin.1.1 .scn (by decide), hw.scn, hscn]
  · rw [hfin.rd _ _ rfl, hw.frame.rd _ _ rfl, hrd]
  · rw [hfin.1.1 .scn (by decide), hw.scn, hscn]
  · rw [hfin.1.1 .img (by decide), hw.img, himg]
    exact ⟨rfl, rfl⟩
  · rw [hfin.1.1 .fld (by decide), hw.frame.1.1 .fld (by decide), hset.1.1 .fld (by decide), hu.cmds]
  · exact hfin.step (hw.frame.step (hset.step (hu.frame.one rfl rfl rfl) rfl rfl rfl) rfl rfl rfl) rfl rfl rfl

/-- An accepted STOP takes effect in FAULT. -/
theorem fault_left (hp : a.scn.pend = some p) (hm : a.mode = mFAULT) (ht : p.target = mSTOP) (hc : a.commitWaits = false)
    (hpair : a.paired = false) :
    let t := faultExit a
    Ends p.handle mSTOP 0 a.scn.restart a t ∧ (t.scn.pend = none ∧ t.rd F.SCN_MODE_PENDING = 0) ∧
      (t.fld.cmds = a.fld.cmds ++ (List.range 12).map fun g => (g, 1)) ∧
      Moves (traceParts ++ [.time, .mbx, .img, .scn, .fld, .pair]) traceObjs
        (ackFlds ++ [F.ANG_EV_STATE, F.PLT_PSTATE_ROLE, F.SCN_MODE_MODE, F.SCN_MODE_PENDING]) a t := by
  have heq : faultExit a = finMode (safeCommand (setMode (clearPend a) mSTOP 0 a.scn.restart) 1) p Code.OK := by
    rw [faultExit, hp]
    exact if_pos ⟨hm, ht, by simp [hc]⟩
  rw [heq]
  have hu := clearPend_moves a
  have hready : Ready 0 a (clearPend a) := ⟨hu.rd _ _ rfl, rfl, rfl, rfl, .of_sto rfl⟩
  have hv := setMode_modeChange (clearPend a) (new := mSTOP) (by decide) 0 a.scn.restart
  generalize setMode (clearPend a) mSTOP 0 a.scn.restart = v at hv ⊢
  have hholds : v.holdsFor = false := by
    have hpaired : v.paired = false := by
      rw [State.paired, State.is, hv.frame.rd _ _ rfl, hu.rd _ _ rfl]
      exact hpair
    simp [State.holdsFor, hpaired]
  have hw := safeCommand_moves v 1
  have hcmds := safeCommand_cmds v 1
  generalize safeCommand v 1 = w at hw hcmds ⊢
  have hfin := finMode_moves w p Code.OK
  refine ⟨ends_finMode hready (by decide) hv (hw.one rfl rfl rfl), ⟨?_, ?_⟩, ?_, ?_⟩
  · rw [hfin.1.1 .scn (by decide), hw.1.1 .scn (by decide), hv.scn, clearPend_scn]
  · rw [hfin.rd _ _ rfl, hw.rd _ _ rfl, hv.frame.rd _ _ rfl, clearPend_rd]
  · rw [hfin.1.1 .fld (by decide), hcmds, hholds, hv.frame.1.1 .fld (by decide)]
    rfl
  · exact hfin.step (hw.step (hv.frame.step (hu.one rfl rfl rfl) rfl rfl rfl) rfl rfl rfl) rfl rfl rfl

end

/-- Settles O28: each transition prepares, changes the mode by `setMode` and ends with its FIN; what a change of the mode and
the end of a transition leave is stated once for all of them. -/
theorem modeTransitions : Obligations.ModeTransitions := by
  unfold Obligations.ModeTransitions
  refine ⟨?run, ?hold, ?waits, ?stop, ?fault⟩
  case run =>
    intro dt s p a hp ht hs hl hlane hm
    obtain ⟨hends, hscn, hpend, hfrom, hmoves⟩ := run_entered hp ht hs hl hlane hm
    exact ⟨_, rfl, hends.mode, ⟨by rw [hscn], hpend, by rw [hscn]⟩, hfrom, hends.latch, hends.logged, hends.fins,
      hmoves.one rfl rfl rfl⟩
  case hold =>
    intro dt s p a hl hm hidle hact
    obtain ⟨hends, hpend, hrd, hticks, hmoves⟩ := hold_entered hl hm hidle hact
    exact ⟨_, rfl, hends.mode, ⟨hpend, hrd⟩, hticks, hm ▸ hends.logged, hends.fins, hmoves.one rfl rfl rfl⟩
  case waits =>
    intro dt s p x a hl hm hrun hw
    refine ⟨_, congrArg Host.Outcome.next (hold_waits hl hm hrun hw), ?_, rfl, hrun, cutNoted_moves a p⟩
    exact ((cutNoted_moves a p).rd _ _ rfl).trans hm
  case stop =>
    intro dt s p a hl hm hidle hact
    obtain ⟨hends, hpend, hholds, hcmds, hmoves⟩ := stop_entered hl hm hidle hact
    exact ⟨_, rfl, hends.mode, hpend, hholds, hcmds, hends.logged, hends.fins, hmoves.one rfl rfl rfl⟩
  case fault =>
    intro dt s p a hp hm ht hc hpair
    obtain ⟨hends, hpend, hcmds, hmoves⟩ := fault_left hp hm ht hc hpair
    exact ⟨_, rfl, hends.mode, hpend, hcmds, hm ▸ hends.logged, hends.fins, hmoves.one rfl rfl rfl⟩

end Sys2Proof.Machine
end

section
/-!
Entry into FAULT (R184): the mode and its cause, the executions abandoned, the FIN of a pending MODE_SET, and the frame.
-/

namespace Sys2Proof.Machine

/-- What entry into FAULT touches. -/
abbrev FaultMoves (s t : State) : Prop :=
  Moves (traceParts ++ [.time, .mbx, .img, .scn, .prg, .fld, .pair]) traceObjs [F.ANG_EV_STATE, F.MBX_QUEUES_CQ_FREE,
    F.MBX_QUEUES_CR_FREE, F.MBX_USE_HANDLES_USED, F.MBX_USE_SESSIONS_OPEN, F.PLT_PSTATE_ROLE, F.PRG_ACT_PENDING,
    F.SCN_MODE_CAUSE, F.SCN_MODE_MODE, F.SCN_MODE_PENDING] s t

/-! ### The pending activation -/

theorem endActivation_moves (s : State) (status : Nat) :
    Moves (traceParts ++ [.mbx, .prg]) traceObjs (F.PRG_ACT_PENDING :: ackFlds) s (endActivation s status) := by
  unfold endActivation
  split
  · exact .refl s
  · next act _ =>
    extract_lets +onlyGivenNames _ u
    have hu : Moves (traceParts ++ [.mbx, .prg]) traceObjs (F.PRG_ACT_PENDING :: ackFlds) s u :=
      (State.wr_moves ..).step ((Leaves.set_prg s _).moves.one rfl rfl rfl) rfl rfl rfl
    exact .ite hu ((finHdl_moves ..).step hu rfl rfl rfl)

theorem endPending_moves (s : State) (status : Nat) :
    Moves (traceParts ++ [.mbx, .prg]) traceObjs (F.PRG_ACT_PENDING :: ackFlds) s (endPending s status) := by
  unfold endPending
  split
  · exact .ite (.refl s) (endActivation_moves ..)
  · exact .refl s

theorem endPending_grow (s : State) (status : Nat) : s.mbx.cq <+: (endPending s status).mbx.cq := by
  unfold endPending
  split
  · split
    · exact List.prefix_rfl
    · unfold endActivation
      split
      · exact List.prefix_rfl
      · extract_lets +onlyGivenNames _ u
        have hu : u.mbx = s.mbx := rfl
        split
        · exact hu ▸ List.prefix_rfl
        · exact hu ▸ (finHdl_grow u _ _ _ _ _).2
  · exact List.prefix_rfl

/-! ### What ends -/

/-- The pending transition ends with FIN MODE_FAULT. -/
def pendFaulted (s : State) : State :=
  match s.scn.pend with
  | some p => clearPend (finMode s p Code.MODE_FAULT)
  | none => s

/-- Every execution is abandoned, and the open snapshots close without commit. -/
def execsAbandoned (s : State) : State :=
  closeOpen { s with scn := { s.scn with
    running := none, preempted := [], waiting := [], presented := [], startQueue := [], retBusy := false, intact := false } }

/-- Nothing is deferred and no source is taken any more. -/
def takesForgotten (s : State) : State :=
  { s with prg := { s.prg with deferring := false, deferred := [] }, int := { s.int with taken := [] } }

theorem faultBegun_eq (s : State) :
    faultBegun s = safeCommand (takesForgotten (execsAbandoned (discardTasks (pendFaulted s)))) 2 := rfl

section
variable (s : State)

theorem pendFaulted_moves : FaultMoves s (pendFaulted s) := by
  unfold pendFaulted
  split
  · exact (clearPend_moves _).step ((finMode_moves ..).one rfl rfl rfl) rfl rfl rfl
  · exact .refl s

theorem pendFaulted_scn : (pendFaulted s).scn = { s.scn with pend := none } := by
  unfold pendFaulted
  split
  · rw [clearPend_scn, (finMode_moves ..).1.1 .scn (by decide)]
  · next h =>
    rw [← h]

theorem pendFaulted_fins {p : PendMode} (hp : s.scn.pend = some p) (hh : p.handle ≠ 0) :
    Fins p.handle Code.MODE_FAULT s.mode [] s (pendFaulted s) := by
  rw [pendFaulted, hp]
  exact fins_finMode hh rfl rfl rfl

theorem execsAbandoned_leaves : Leaves [.scn, .img] [] s (execsAbandoned s) :=
  .step (closeOpen_leaves _) (.one (Leaves.set_scn s _) rfl rfl) rfl rfl

theorem execsAbandoned_scn : (execsAbandoned s).scn = { s.scn with
    running := none, preempted := [], waiting := [], presented := [], startQueue := [], retBusy := false, intact := false } :=
  (closeOpen_leaves _).1 .scn (by decide)

theorem takesForgotten_leaves : Leaves [.prg, .int] [] s (takesForgotten s) :=
  (Leaves.set_int { s with prg := (takesForgotten s).prg } (takesForgotten s).int).step
    ((Leaves.set_prg s (takesForgotten s).prg).one rfl rfl) rfl rfl

theorem faultBegun_moves : FaultMoves s (faultBegun s) :=
  (safeCommand_moves ..).step (.after (takesForgotten_leaves _) (.after (execsAbandoned_leaves _)
    (.after (discardTasks_leaves _) (pendFaulted_moves s) rfl rfl) rfl rfl) rfl rfl) rfl rfl rfl

theorem faultBegun_scn : (faultBegun s).scn = { s.scn with
    pend := none, running := none, preempted := [], waiting := [], presented := [], startQueue := [], retBusy := false
    intact := false } := by
  rw [faultBegun_eq, (safeCommand_leaves ..).1 .scn (by decide), (takesForgotten_leaves _).1 .scn (by decide),
    execsAbandoned_scn, (discardTasks_leaves _).1 .scn (by decide), pendFaulted_scn]

theorem faultBegun_mbx : (faultBegun s).mbx = (pendFaulted s).mbx := by
  rw [faultBegun_eq, (safeCommand_leaves ..).1 .mbx (by decide), (takesForgotten_leaves _).1 .mbx (by decide),
    (execsAbandoned_leaves _).1 .mbx (by decide), (discardTasks_leaves _).1 .mbx (by decide)]

end

/-- What stands after entry into FAULT with `cause`. -/
structure Faulted (cause : Nat) (s t : State) : Prop where
  mode : t.mode = mFAULT
  cause : t.rd F.SCN_MODE_CAUSE = cause
  pend : t.scn.pend = none
  running : t.scn.running = none
  waiting : t.scn.waiting = []
  presented : t.scn.presented = []
  startQueue : t.scn.startQueue = []
  fins : ∀ p, s.scn.pend = some p → p.handle ≠ 0 → Fins p.handle Code.MODE_FAULT s.mode [] s t
  frame : FaultMoves s t

theorem enterFault_faults {s : State} {cause : Nat} (hc : cause < 256) (hm : s.mode ≠ mINIT ∧ s.mode ≠ mFAULT) :
    Faulted cause s (enterFault s cause) := by
  rw [enterFault_eq cause (by simpa using hm)]
  have hu : FaultMoves s (faultCaused s cause) := (State.wr_moves ..).step (faultBegun_moves s) rfl rfl rfl
  have hcause : (faultCaused s cause).rd F.SCN_MODE_CAUSE = cause := (State.rd_wr_same ..).trans (Nat.mod_eq_of_lt hc)
  have hscn : (faultCaused s cause).scn = (faultBegun s).scn := by rw [faultCaused, State.wr_scn]
  have hmbx : (faultCaused s cause).mbx = (pendFaulted s).mbx := by rw [faultCaused, State.wr_mbx, faultBegun_mbx]
  generalize faultCaused s cause = u at hu hcause hscn hmbx ⊢
  have hv := setMode_modeChange u (new := mFAULT) (by decide) cause (faultBegun s).scn.restart
  generalize setMode u mFAULT cause (faultBegun s).scn.restart = v at hv ⊢
  have hend := endPending_moves v Code.ACTIVATE_FAULT
  have hcq := endPending_grow v Code.ACTIVATE_FAULT
  rw [hv.frame.1.1 .mbx (by decide), hmbx] at hcq
  have hscn' : (endPending v Code.ACTIVATE_FAULT).scn = { u.scn with enterXt := u.time.xt } :=
    (hend.1.1 .scn (by decide)).trans hv.scn
  rw [hscn, faultBegun_scn] at hscn'
  exact {
    mode := by rw [State.mode, hend.rd _ _ rfl, ← State.mode, hv.mode]
    cause := by rw [hend.rd _ _ rfl, hv.frame.rd _ _ rfl, hcause]
    pend := by rw [hscn']
    running := by rw [hscn']
    waiting := by rw [hscn']
    presented := by rw [hscn']
    startQueue := by rw [hscn']
    fins := fun p hp hh => (pendFaulted_fins s hp hh).grow hcq
    frame := hend.step (hv.frame.step hu rfl rfl rfl) rfl rfl rfl }

end Sys2Proof.Machine
end

section
/-!
MODE_SET, AUTORUN and the limits that move the mode (R173 to R179, R183), and the obligation on them.
-/

namespace Sys2Proof.Machine

/-! ### A command that is accepted as a long operation (R109, R129) -/

section
variable {op least : Nat} {hd : Cmd → Session → State → State × Ans} {a u : State} {r : RingCmd} {x : Session}
  {o : LongOp} {status handle result : Nat} {data : List Nat}

/-- A handle is given out for command `r`. -/
def allotted (a : State) (r : RingCmd) (x : Session) (o : LongOp) : State × Nat :=
  allocHdl (admitted (popCmd a) x) (parse r).session (parse r).clseq (parse r).opcode o (parse r).usb

/-- Command `r` is answered ACCEPTED with its handle. -/
def accepted (a : State) (r : RingCmd) (x : Session) (o : LongOp) : State :=
  replied (allotted a r x o).1 (parse r) Code.ACCEPTED (allotted a r x o).2 0 []

/-- An answer that is placed in the queue as it stood when the command was taken. -/
theorem answered_replied (hring : u.mbx.ring = a.mbx.ring.tail) (hcq : u.mbx.cq = a.mbx.cq)
    (hseq : u.mbx.nextSeq = a.mbx.nextSeq) (ht : u.time = a.time) (hc : u.ring.core = a.ring.core) :
    Answered r status handle result data a (replied u (parse r) status handle result data) := by
  refine ⟨?_, ?_⟩
  · rw [(replied_answers ..).ring, hring]
  · rw [Responds, replied_mbx, State.recNow, State.dataNow, hcq, hseq, ht, State.cinchNow_of_core hc]

theorem allotted_moves (a : State) (r : RingCmd) (x : Session) (o : LongOp) :
    Moves [.mbx] [] useFlds (admitted (popCmd a) x) (allotted a r x o).1 := by
  exact (State.wr_moves ..).step ((State.wr_moves ..).step ((Leaves.set_mbx _ _).moves.one rfl rfl rfl) rfl rfl rfl) rfl rfl rfl

theorem accepted_frame (a : State) (r : RingCmd) (x : Session) (o : LongOp) : CmdMoves a (accepted a r x o) :=
  (replied_answers ..).frame.step ((allotted_moves a r x o).step ((popCmd_frame a).trans (admitted_frame ..)) rfl rfl rfl)
    rfl rfl rfl

theorem accepted_answered (a : State) (r : RingCmd) (x : Session) (o : LongOp) :
    Answered r Code.ACCEPTED (allotted a r x o).2 0 [] a (accepted a r x o) := by
  have hu := unanswered_admitted a x
  have htime : (allotted a r x o).1.time = a.time := ((allotted_moves a r x o).1.1 .time (by decide)).trans hu.time
  have hcore : (allotted a r x o).1.ring.core = a.ring.core := by
    rw [(allotted_moves a r x o).1.1 .ring (by decide), hu.core]
  refine answered_replied ?_ ?_ ?_ htime hcore
  · exact (congrArg MbxSt.ring hu.mbx :)
  · exact (congrArg MbxSt.cq hu.mbx :)
  · exact (congrArg MbxSt.nextSeq hu.mbx :)

/-- A handle that is free when a command is taken is free when the command is answered. -/
theorem admitted_hasHandle (hh : HasHandle a x) :
    ¬ (x.touched a.time.xt).limit ≤ (admitted (popCmd a) x).held (x.touched a.time.xt).no ∧
      ¬ 2048 ≤ (admitted (popCmd a) x).mbx.hdls.length := by
  have hhdls : (admitted (popCmd a) x).mbx.hdls = a.mbx.hdls := (congrArg MbxSt.hdls (unanswered_admitted a x).mbx :)
  have hheld : (admitted (popCmd a) x).held x.no = a.held x.no := by rw [State.held, hhdls, State.held]
  exact ⟨Nat.not_le.mpr (hheld ▸ hh.1), hhdls ▸ Nat.not_le.mpr hh.2⟩

/-- With a handle free for its session, a command that its handler accepts goes on from its answer. -/
theorem mbxRun_long {start : Nat → State → State} (ht : Taken op least a r x) (hh : HasHandle a x)
    (h : hd (parse r) (x.touched a.time.xt) (admitted (popCmd a) x) = (admitted (popCmd a) x, .long o start)) :
    mbxRun op least hd a = start (allotted a r x o).2 (accepted a r x o) := by
  obtain ⟨hlimit, hfull⟩ := admitted_hasHandle hh
  rw [mbxRun_of_taken ht, runCmd, admitted_recovery ht.2.2.2.2.2.2.2.2.2.2, h]
  dsimp only
  rw [if_neg (by simp), if_neg hlimit, if_neg hfull]
  rfl

/-- With a handle free for its session, a command that its handler refuses after all checks is answered so. -/
theorem mbxRun_late (ht : Taken op least a r x) (hh : HasHandle a x)
    (h : hd (parse r) (x.touched a.time.xt) (admitted (popCmd a) x) = (admitted (popCmd a) x, .late status)) :
    mbxRun op least hd a = replied (admitted (popCmd a) x) (parse r) status 0 0 [] := by
  obtain ⟨hlimit, hfull⟩ := admitted_hasHandle hh
  rw [mbxRun_of_taken ht, runCmd, admitted_recovery ht.2.2.2.2.2.2.2.2.2.2, h]
  dsimp only
  rw [if_neg (by simp), if_neg hlimit, if_neg hfull]
  rfl

end

/-! ### MODE_SET (R173 to R176) -/

/-- A transition that SCN-2 admits, with the conditions of R176 and R173. -/
abbrev Admits (a : State) (g k : Nat) : Prop :=
  (a.mode = mRUN ∨ a.mode = mHOLD) ∧ g = mSTOP ∨ a.mode = mRUN ∧ g = mHOLD ∨ a.mode = mHOLD ∧ g = mRUN ∧ k = 0 ∨
    a.mode = mSTOP ∧ g = mRUN ∧ k = 0 ∧ a.prg.active.isSome = true ∧ a.cycleOk = true ∧ a.scn.intact = true ∨
    a.mode = mFAULT ∧ g = mSTOP ∧ a.faultPersists = false

section
variable {a s u : State} {c : Cmd} {x : Session} {g k n : Nat}

theorem modeRefusal_of_admits (hp : s.scn.pend = none) (h : Admits s g k) : modeRefusal s g k = none := by
  unfold modeRefusal
  rw [hp]
  rcases h with ⟨hm | hm, rfl⟩ | ⟨hm, rfl⟩ | ⟨hm, rfl, rfl⟩ | ⟨hm, rfl, rfl, hprg, hcyc, hint⟩ | ⟨hm, rfl, hf⟩
  · simp [hm, mSTOP, mRUN, mHOLD]
  · simp [hm, mSTOP, mRUN, mHOLD]
  · simp [hm, mSTOP, mRUN, mHOLD]
  · simp [hm, mSTOP, mRUN, mHOLD]
  · have hload : s.prg.active ≠ none := Option.isSome_iff_ne_none.mp hprg
    simp [hm, mSTOP, mRUN, hload, hcyc, hint]
  · simp [hm, mSTOP, mRUN, mHOLD, mFAULT, hf]

/-- SCN-2 has no transition from STOP to HOLD. -/
theorem modeRefusal_stop_hold (hp : s.scn.pend = none) (hm : s.mode = mSTOP) :
    modeRefusal s mHOLD k = some Code.BAD_TRANSITION := by
  unfold modeRefusal
  rw [hp]
  simp [hm, mSTOP, mRUN, mHOLD, mFAULT]

theorem Admits.target_ne (h : Admits s g k) : g ≠ s.mode := by
  rcases h with ⟨hm | hm, rfl⟩ | ⟨hm, rfl⟩ | ⟨hm, rfl, -⟩ | ⟨hm, rfl, -⟩ | ⟨hm, rfl, -⟩ <;> rw [hm] <;> decide

theorem Admits.target_lt (h : Admits s g k) : g < 4 := by
  rcases h with ⟨-, rfl⟩ | ⟨-, rfl⟩ | ⟨-, rfl, -⟩ | ⟨-, rfl, -⟩ | ⟨-, rfl, -⟩ <;> decide

/-- Out of STOP the one transition is to RUN, and without a restart kind it is CONTINUE. -/
theorem Admits.from_stop (h : Admits s g k) (hm : s.mode = mSTOP) : g = mRUN ∧ k = 0 := by
  rcases h with ⟨h | h, -⟩ | ⟨h, -⟩ | ⟨h, -⟩ | ⟨-, hg, hk, -⟩ | ⟨h, -⟩
  case inr.inr.inr.inl => exact ⟨hg, hk⟩
  all_goals exact absurd (h.symm.trans hm) (by decide)

/-- What a command's own checks leave as it was. -/
structure Unjudged (s t : State) : Prop where
  frame : CmdMoves s t
  clk : t.clk = s.clk
  laneBad : t.sec.laneBad = s.sec.laneBad
  groupBad : t.sec.groupBad = s.sec.groupBad

theorem unjudged_admitted (a : State) (x : Session) : Unjudged a (admitted (popCmd a) x) := by
  have hsec : (popCmd a).sec = a.sec := (popCmd_leaves a).1 .sec (by decide)
  exact ⟨(popCmd_frame a).trans (admitted_frame ..), popCmd_clk a, (congrArg SecSt.laneBad hsec :),
    (congrArg SecSt.groupBad hsec :)⟩

section
variable (h : Unjudged s u)
include h

theorem Unjudged.window (w : Win) : u.window w = s.window w := by
  have hload : u.loadedMask = s.loadedMask := by
    rw [State.loadedMask, h.frame.rd F.CLK_START_DG_LOADED _ rfl, h.frame.rd F.CLK_START_AG_LOADED _ rfl, State.loadedMask]
  unfold State.window State.hold30 State.timed State.is
  rw [hload, h.clk, h.laneBad, h.groupBad, h.frame.rd F.CLK_START_PLAN_DONE _ rfl, h.frame.rd F.CLK_START_LANES_LOADED _ rfl,
    h.frame.rd F.CLK_START_HOLD_30 _ rfl, h.frame.rd F.CLK_START_HOLD_38 _ rfl, h.frame.rd F.NRL_STATE_MOD_ST _ rfl,
    h.frame.rd F.RTC_STATUS_XTAL_SUBST _ rfl]

theorem Unjudged.mode : u.mode = s.mode := h.frame.rd _ _ rfl

theorem Unjudged.scn : u.scn = s.scn := h.frame.1.1 .scn (by decide)

theorem Unjudged.prg : u.prg = s.prg := h.frame.1.1 .prg (by decide)

theorem Unjudged.storeFault : u.storeFault = s.storeFault := by
  rw [State.storeFault, h.frame.rd F.STO_STATUS_STATE _ rfl, State.storeFault]

theorem Unjudged.cycleOk : u.cycleOk = s.cycleOk := by
  rw [State.cycleOk, h.frame.rd F.SCN_T_PERIOD _ rfl, h.frame.rd F.NRL_CYCLE_CYCLE _ rfl, State.cycleOk]

theorem Unjudged.faultPersists (hc : u.ring.core = s.ring.core) : u.faultPersists = s.faultPersists := by
  have hl : u.ring.latching = s.ring.latching := (congrArg RingSt.latching hc :)
  rw [State.faultPersists, State.voting, h.clk, hl, h.prg, h.cycleOk, h.frame.rd F.PLT_LANE_VOTING _ rfl,
    h.frame.rd F.SCN_CFG_CINCH_LOST_ACT _ rfl, State.faultPersists, State.voting]

theorem Unjudged.admits (hc : u.ring.core = s.ring.core) (ha : Admits s g k) : Admits u g k := by
  rwa [Admits, h.mode, h.prg, h.cycleOk, h.scn, h.faultPersists hc]

end

/-- A MODE_SET whose windows are open comes to SCN-2. -/
theorem modeSet_checked (hp : c.payload = [g, k, 0, 0]) (hg : g ≤ 4) (hk : k ≤ 2) (hw : s.window (modeWin g) = none)
    (hf : g = mRUN → s.storeFault = false) :
    (∀ st, modeRefusal s g k = some st → modeSet c x s = (s, .late st)) ∧ (modeRefusal s g k = none →
      modeSet c x s = (s, .long (.modeSet g k) fun h s => beginMode (startHdl s (h % 2048)) g k h)) := by
  have hpay : payOk c 4 2 2 = true := by simp [payOk, hp, slice]
  have htarget : leAt c.payload 0 1 = g := by
    rw [hp]
    simp [leAt, slice, leNat]
    omega
  have hrestart : leAt c.payload 1 1 = k := by
    rw [hp]
    simp [leAt, slice, leNat]
    omega
  unfold modeSet
  dsimp only
  rw [htarget, hrestart, if_neg (by simp [hpay]; omega), gate, hw]
  dsimp only
  rw [if_neg (by rintro ⟨h1, h2⟩; simp [hf h1] at h2)]
  exact ⟨fun st h => by rw [h], fun h => by rw [h]⟩

/-- An admitted transition that starts no start-up tasks is pending from now. -/
theorem beginMode_eq (hp : s.scn.pend = none) (hg : g ≠ s.mode) (hk : s.mode = mSTOP → g = mRUN ∧ k = 0) (n : Nat) :
    ∃ u, Leaves [.plt] [] s u ∧ beginMode s g k n = putPend u (newPend s g k n) := by
  unfold beginMode
  rw [hp]
  dsimp only
  rw [if_neg hg]
  split
  · next hm =>
    obtain ⟨rfl, rfl⟩ := hk hm
    exact ⟨_, updPlt_leaves .., by rw [beginRun, if_pos rfl]; rfl⟩
  · exact ⟨s, .refl .., rfl⟩

end

/-! ### MODE_SET as a whole -/

section
variable {dt : Elapsed} {s a : State} {r : RingCmd} {x : Session} {g k : Nat}

/-- A MODE_SET that is accepted: the transition is pending from the answer. -/
theorem modeSet_pends (ht : Taken 0x40 2 a r x) (hpay : (parse r).payload = [g, k, 0, 0])
    (hw : a.window (modeWin g) = none) (hf : g = mRUN → a.storeFault = false) (hp : a.scn.pend = none) (hk : k ≤ 2)
    (ha : Admits a g k) (hh : HasHandle a x) : ∃ n t, mbxRun 0x40 2 modeSet a = t ∧
      Answered r Code.ACCEPTED n 0 [] a t ∧
      t.scn = { a.scn with pend := some ⟨g, k, n, a.time.now, false, a.time.now, false, a.time.xt⟩ } ∧
      t.rd F.SCN_MODE_PENDING = g ∧
      t.mode = a.mode ∧
      Moves (traceParts ++ [.mbx, .scn, .plt, .sec]) traceObjs [F.MBX_QUEUES_CQ_FREE, F.MBX_QUEUES_CR_FREE, F.MBX_USE_BAD_MAC,
        F.MBX_USE_HANDLES_USED, F.MBX_USE_SESSIONS_OPEN, F.SCN_MODE_PENDING] a t := by
  have hu := unjudged_admitted a x
  have hadm : Admits (admitted (popCmd a) x) g k := hu.admits (unanswered_admitted a x).core ha
  have hrefusal := modeRefusal_of_admits (hu.scn ▸ hp) hadm
  have hrun := mbxRun_long ht hh ((modeSet_checked hpay (Nat.le_of_lt ha.target_lt) hk ((hu.window _).trans hw)
    fun h => hu.storeFault.trans (hf h)).2 hrefusal)
  obtain ⟨hring, hresp⟩ := accepted_answered a r x (.modeSet g k)
  have hframe := accepted_frame a r x (.modeSet g k)
  generalize accepted a r x (.modeSet g k) = b at hrun hring hresp hframe
  generalize (allotted a r x (.modeSet g k)).2 = n at hrun hresp
  have hstart := startHdl_leaves b (n % 2048)
  have hstartq : (startHdl b (n % 2048)).mbx.ring = b.mbx.ring ∧ (startHdl b (n % 2048)).mbx.cq = b.mbx.cq := by
    unfold startHdl
    split <;> exact ⟨rfl, rfl⟩
  generalize startHdl b (n % 2048) = v at hrun hstart hstartq
  have hvscn : v.scn = a.scn := (hstart.1 .scn (by decide)).trans (hframe.1.1 .scn (by decide))
  have hvtime : v.time = a.time := (hstart.1 .time (by decide)).trans (hframe.1.1 .time (by decide))
  have hvmode : v.mode = a.mode := (hstart.moves.rd _ _ rfl).trans (hframe.rd _ _ rfl)
  obtain ⟨w, hw, hbegin⟩ := beginMode_eq (hvscn ▸ hp) (hvmode ▸ ha.target_ne) (fun hm => ha.from_stop (hvmode ▸ hm)) n
  have hput := putPend_moves w (newPend v g k n)
  have hmbx : (putPend w (newPend v g k n)).mbx = v.mbx := (hput.1.1 .mbx (by decide)).trans (hw.1 .mbx (by decide))
  refine ⟨n, _, hrun.trans hbegin, ⟨?_, ?_⟩, ?_, ?_, ?_, ?_⟩
  · rw [hmbx, hstartq.1, hring]
  · rw [Responds, hmbx, hstartq.2]
    exact hresp
  · rw [putPend_scn, hw.1 .scn (by decide), hvscn, newPend, hvtime]
  · exact putPend_rd w (p := newPend v g k n) (Nat.lt_trans ha.target_lt (by decide))
  · rw [State.mode, hput.rd _ _ rfl, hw.moves.rd _ _ rfl, ← State.mode, hvmode]
  · exact hput.step (.after hw (.after hstart (hframe.one rfl rfl rfl) rfl rfl) rfl rfl) rfl rfl rfl

/-- STOP to HOLD is answered BAD_TRANSITION. -/
theorem modeSet_stop_hold (ht : Taken 0x40 2 a r x) (hpay : (parse r).payload = [mHOLD, k, 0, 0])
    (hw : a.window (modeWin mHOLD) = none) (hp : a.scn.pend = none) (hk : k ≤ 2) (hm : a.mode = mSTOP) (hh : HasHandle a x) :
    Replied r Code.BAD_TRANSITION 0 a (mbxRun 0x40 2 modeSet a) := by
  have hu := unjudged_admitted a x
  have hrefusal := modeRefusal_stop_hold (k := k) (hu.scn ▸ hp) (hu.mode.trans hm)
  rw [mbxRun_late ht hh ((modeSet_checked hpay (by decide) hk ((hu.window _).trans hw)
    fun h => absurd h (by decide)).1 _ hrefusal)]
  exact replied_replied ..

end

/-! ### AUTORUN (R179) -/

section
variable {a s t : State} {k st n : Nat}

/-- AUTORUN is due. -/
structure AutorunDue (a : State) (k : Nat) : Prop where
  kind : a.rd F.SCN_CFG_AUTORUN = k
  on : k ≠ 0
  once : a.clk.autorunDone = false
  cold : a.clk.coldReset = true
  ready : a.clk.stopReady = true
  timed : a.timed = true
  hold : a.rd F.CLK_START_HOLD_38 = 1

/-- AUTORUN has come, once. -/
def autorunSpent (a : State) : State := { a with clk := { a.clk with autorunDone := true } }

theorem autorunSpent_leaves (a : State) : Leaves [.clk] [] a (autorunSpent a) := Leaves.set_clk a _

theorem autorun_due (h : AutorunDue a k) : autorun a =
    match a.window (modeWin mRUN) with
    | some st => log Ev.AUTORUN_REFUSED (leBytes 2 st) (autorunSpent a)
    | none =>
      if a.storeFault then log Ev.AUTORUN_REFUSED (leBytes 2 Code.STORE_FAULT) (autorunSpent a)
      else
        match modeRefusal a mRUN k with
        | some st => log Ev.AUTORUN_REFUSED (leBytes 2 st) (autorunSpent a)
        | none => beginMode (autorunSpent a) mRUN k 0 := by
  have hhold : a.is F.CLK_START_HOLD_38 = true := by simp [State.is, h.hold]
  unfold autorun
  rw [if_neg (by simp [h.kind, h.on, h.once, h.cold, h.ready, h.timed, hhold]), h.kind]
  rfl

theorem dispatch_pend (s : State) : (dispatch s).scn.pend = s.scn.pend := by
  unfold dispatch
  split
  · split <;> rfl
  · split
    · rfl
    · split <;> rfl
    · split <;> rfl

/-- Start-up tasks, or their end, leave the target of the pending transition. -/
theorem startNext_pend (s : State) {p : PendMode} (h : s.scn.pend = some p) : ∃ q, (startNext s).scn.pend = some q ∧
    q.target = p.target ∧ q.restart = p.restart ∧ q.handle = p.handle := by
  unfold startNext
  split
  · exact ⟨p, (dispatch_pend _).trans h, rfl, rfl, rfl⟩
  · rw [h]
    dsimp only
    split
    · exact ⟨_, rfl, rfl, rfl, rfl⟩
    · exact ⟨p, h, rfl, rfl, rfl⟩

/-- The start-up tasks `ts` wait for transition `p`. -/
def startupQueued (s : State) (p : PendMode) (ts : List Nat) : State :=
  { s with scn := { s.scn with pend := some p, startQueue := ts } }

theorem startupQueued_leaves (s : State) (p : PendMode) (ts : List Nat) : Leaves [.scn] [] s (startupQueued s p ts) :=
  Leaves.set_scn s _

theorem beginRun_eq (s : State) (hk : k ≠ 0) (n : Nat) : ∃ v p ts, Leaves [.scn, .plt] [] s v ∧
    (p.target = mRUN ∧ p.restart = k ∧ p.handle = n) ∧
    beginRun s k n = startNext (startupQueued (putPend v p) p ts) := by
  unfold beginRun
  extract_lets +onlyGivenNames u v p ts
  exact ⟨v, { p with startup := true }, ts, (updPlt_leaves ..).step ((applyRestart_leaves s k).one rfl rfl) rfl rfl,
    ⟨rfl, rfl, rfl⟩, if_neg hk⟩

/-- The way into RUN by a restart. -/
theorem beginRun_restart (s : State) (hk : k ≠ 0) (n : Nat) :
    (∃ p, (beginRun s k n).scn.pend = some p ∧ p.target = mRUN ∧ p.restart = k ∧ p.handle = n) ∧
      (beginRun s k n).rd F.SCN_MODE_PENDING = mRUN ∧
      Moves [.scn, .plt] [] [F.SCN_MODE_PENDING] s (beginRun s k n) := by
  obtain ⟨v, p, ts, hv, ⟨htarget, hrestart, hhandle⟩, hrun⟩ := beginRun_eq s hk n
  have hput := putPend_rd v (p := p) (by rw [htarget]; decide)
  have hqueue := startupQueued_leaves (putPend v p) p ts
  have hnext := startNext_leaves (startupQueued (putPend v p) p ts)
  rw [hrun]
  refine ⟨?_, ?_, ?_⟩
  · obtain ⟨q, hq, ht, hr, hh⟩ := startNext_pend (startupQueued (putPend v p) p ts) (p := p) rfl
    exact ⟨q, hq, ht.trans htarget, hr.trans hrestart, hh.trans hhandle⟩
  · rw [hnext.moves.rd _ _ rfl, hqueue.moves.rd _ _ rfl, hput, htarget]
  · exact .after hnext (.after hqueue ((putPend_moves ..).step (hv.moves.one rfl rfl rfl) rfl rfl rfl) rfl rfl) rfl rfl

theorem autorun_refused (h : AutorunDue a k) (hw : a.window (modeWin mRUN) = some st) :
    autorun a = log Ev.AUTORUN_REFUSED (leBytes 2 st) (autorunSpent a) := by
  rw [autorun_due h, hw]

theorem autorun_begins (h : AutorunDue a k) (hw : a.window (modeWin mRUN) = none) (hf : a.storeFault = false)
    (hr : modeRefusal a mRUN k = none) (hm : a.mode = mSTOP) (hp : a.scn.pend = none) :
    autorun a = beginRun (autorunSpent a) k 0 := by
  have hmode : (autorunSpent a).mode = mSTOP := hm
  have hpend : (autorunSpent a).scn.pend = none := hp
  rw [autorun_due h, hw, hf, hr]
  dsimp only
  rw [if_neg (by decide), beginMode, hpend]
  dsimp only
  rw [hmode, if_neg (by decide), if_pos rfl]

end

/-! ### The limits (R178, R183) -/

section
variable {s : State} {p : PendMode}

theorem startupLimit_faults (hp : s.scn.pend = some p) (hs : p.startup = true)
    (h : p.xt + s.rd F.SCN_CFG_STARTUP_LIMIT * 32768 / 1000 ≤ s.time.xt) : startupLimit s = enterFault s 8 := by
  rw [startupLimit, hp]
  exact if_pos ⟨hs, h⟩

theorem holdLimit_pends (hm : s.mode = mHOLD) (h : s.scn.enterXt + 32768 * s.rd F.SCN_CFG_HOLD_LIMIT ≤ s.time.xt)
    (hp : s.scn.pend = none) : holdLimit s = putPend s { newPend s mSTOP 0 0 with at_ := s.time.now - 100000 } := by
  rw [holdLimit, if_neg (by simp only [hm]; omega), hp]

end

/-- Settles O27: the checks of MODE_SET and AUTORUN lead to the transition that becomes pending, or to the refusal. -/
theorem modeCommands : Obligations.ModeCommands := by
  unfold Obligations.ModeCommands
  refine ⟨?_, ?_, ?_, ?_, ?_, ?_⟩
  · intro dt s r x g k a ht hpay hw hf hp hk hadm hh
    obtain ⟨n, t, hrun, hans, hscn, hrd, hmode, hframe⟩ := modeSet_pends ht hpay hw hf hp hk hadm hh
    exact ⟨t, congrArg Host.Outcome.next hrun, ⟨n, hans, by rw [hscn]⟩, hrd, hmode, by rw [hscn]; exact ⟨rfl, rfl⟩, hframe⟩
  · intro dt s r x k a ht hpay hw hp hk hm hh
    obtain ⟨hans, hhdls, hframe⟩ := modeSet_stop_hold ht hpay hw hp hk hm hh
    exact ⟨_, rfl, hans, ⟨(hframe.rd _ _ rfl).trans hm, hframe.1.1 .scn (by decide), hhdls⟩, hframe.one rfl rfl rfl⟩
  · intro dt s k a hkind hk honce hcold hready htimed hhold hw hf hr hm hp
    have hrun := autorun_begins ⟨hkind, hk, honce, hcold, hready, htimed, hhold⟩ hw hf hr hm hp
    obtain ⟨hpend, hrd, hmoves⟩ := beginRun_restart (autorunSpent a) hk 0
    refine ⟨_, congrArg Host.Outcome.next hrun, ?_, hpend, hrd, ?_, ?_⟩
    · rw [hmoves.1.1 .clk (by decide), autorunSpent]
    · exact (hmoves.rd _ _ rfl).trans hm
    · exact hmoves.step ((autorunSpent_leaves a).moves.one rfl rfl rfl) rfl rfl rfl
  · intro dt s k st a hkind hk honce hcold hready htimed hhold hw
    have hrun := autorun_refused ⟨hkind, hk, honce, hcold, hready, htimed, hhold⟩ hw
    have hlog := trace_log Ev.AUTORUN_REFUSED (leBytes 2 st) (autorunSpent a)
    refine ⟨_, congrArg Host.Outcome.next hrun, ?_, ?_, ?_, ?_⟩
    · rw [hlog.1 .clk (by decide), autorunSpent]
    · exact hlog.1 .scn (by decide)
    · exact (recorded_log Ev.AUTORUN_REFUSED (leBytes 2 st) (autorunSpent a)).logged (n := 0) ⟨rfl, Nat.le_refl _⟩ (by decide)
    · exact .after hlog ((autorunSpent_leaves a).moves.one rfl rfl rfl) rfl rfl
  · intro dt s p a hp hs hxt hm
    have hfault := enterFault_faults (cause := 8) (by decide) hm
    exact ⟨_, congrArg Host.Outcome.next (startupLimit_faults hp hs hxt), hfault.mode, hfault.cause,
      ⟨hfault.pend, hfault.running, hfault.startQueue⟩, hfault.fins p hp, hfault.frame⟩
  · intro dt s a hm hxt hp
    refine ⟨_, congrArg Host.Outcome.next (holdLimit_pends hm hxt hp), rfl, putPend_rd _ (show mSTOP < 8 by decide), ?_,
      putPend_moves ..⟩
    exact ((putPend_moves ..).rd _ _ rfl).trans hm

end Sys2Proof.Machine
end

section
/-!
Releases and skips, the retentive copy, NOEXEC and the counter rings (R185 to R199, R452), and the obligation on them.
-/

namespace Sys2Proof.Machine

/-! ### A copy that is missed (R199, R286) -/

section
variable (s : State)

/-- The fields of a retentive copy that is missed. -/
def missFlds : List Fld := [F.SCN_MODE_RET_MISS, F.SCN_MODE_RETAIN_STALE]

/-- A copy that is missed is counted, and the run of them. -/
def missCounted : State :=
  { s with scn := { s.scn with retBusy := false, retRun := s.scn.retRun + 1 } }.incTo F.SCN_MODE_RET_MISS 0 1 15

theorem missCounted_moves : Moves [.scn] [] missFlds s (missCounted s) :=
  (State.wr_moves ..).step ((Leaves.set_scn s _).moves.one rfl rfl rfl) rfl rfl rfl

theorem missCounted_rd : (missCounted s).rd F.SCN_MODE_RET_MISS = min 15 (s.rd F.SCN_MODE_RET_MISS + 1) :=
  (State.rd_wr_same ..).trans (Nat.mod_eq_of_lt (Nat.lt_of_le_of_lt (Nat.min_le_left ..) (by decide)))

theorem retainMiss_eq : retainMiss s =
    if 2 ≤ s.scn.retRun then (missCounted s).wr F.SCN_MODE_RETAIN_STALE 1 else missCounted s :=
  if_congr Nat.succ_le_succ_iff rfl rfl

theorem retainMiss_moves : Moves [.scn] [] missFlds s (retainMiss s) := by
  rw [retainMiss_eq]
  exact .ite ((State.wr_moves ..).step (missCounted_moves s) rfl rfl rfl) (missCounted_moves s)

theorem retainMiss_scn : (retainMiss s).scn = { s.scn with retBusy := false, retRun := s.scn.retRun + 1 } := by
  rw [retainMiss_eq]
  split <;> rfl

theorem retainMiss_missed : (retainMiss s).rd F.SCN_MODE_RET_MISS = min 15 (s.rd F.SCN_MODE_RET_MISS + 1) := by
  rw [retainMiss_eq]
  split
  · rw [(State.wr_moves ..).rd F.SCN_MODE_RET_MISS 0 rfl, missCounted_rd]
  · exact missCounted_rd s

theorem retainMiss_stale : (retainMiss s).rd F.SCN_MODE_RETAIN_STALE =
    if 2 ≤ s.scn.retRun then 1 else s.rd F.SCN_MODE_RETAIN_STALE := by
  rw [retainMiss_eq]
  split
  · exact State.rd_wr_same ..
  · exact (State.wr_moves ..).rd F.SCN_MODE_RETAIN_STALE 0 rfl

/-- A retentive copy that still waits is missed. -/
def copyMissed : State := if s.scn.retBusy then retainMiss s else s

/-- A mirror capture that still waits is missed. -/
def captureMissed : State :=
  if s.pair.capDue then (updPair s fun x => { x with capDue := false }).incTo F.PLT_PSTATE_MIR_MISS 0 1 15 else s

theorem abandonIdle_eq : abandonIdle s = captureMissed (copyMissed s) := rfl

theorem copyMissed_moves : Moves [.scn] [] missFlds s (copyMissed s) := .ite (retainMiss_moves s) (.refl s)

theorem captureMissed_moves : Moves [.pair] [] [F.PLT_PSTATE_MIR_MISS] s (captureMissed s) :=
  .ite ((State.wr_moves ..).step ((updPair_leaves ..).moves.one rfl rfl rfl) rfl rfl rfl) (.refl s)

/-- The fields of what a release abandons. -/
def abandonFlds : List Fld := [F.SCN_MODE_RET_MISS, F.SCN_MODE_RETAIN_STALE, F.PLT_PSTATE_MIR_MISS]

theorem abandonIdle_moves : Moves [.scn, .pair] [] abandonFlds s (abandonIdle s) :=
  (captureMissed_moves _).step ((copyMissed_moves s).one rfl rfl rfl) rfl rfl rfl

theorem abandonIdle_scn : ∃ n, (abandonIdle s).scn = { s.scn with retBusy := false, retRun := n } := by
  have hcapture : (captureMissed (copyMissed s)).scn = (copyMissed s).scn := (captureMissed_moves _).1.1 .scn (by decide)
  rw [abandonIdle_eq, hcapture, copyMissed]
  split
  · exact ⟨_, retainMiss_scn s⟩
  · next h => exact ⟨s.scn.retRun, by rw [← Bool.eq_false_of_not_eq_true h]⟩

theorem abandonIdle_capDue : (abandonIdle s).pair.capDue = false := by
  rw [abandonIdle_eq, captureMissed]
  split
  · rfl
  · next h => exact Bool.eq_false_of_not_eq_true h

end

/-! ### A release that starts at once (R188, R203) -/

section
variable {a s t u : State} {task src : Nat} {snap : Option Nat} {x : Exec}

/-- Execution `x` waits for the dispatcher. -/
def queued (s : State) (x : Exec) : State := { s with scn := { s.scn with waiting := s.scn.waiting ++ [x] } }

/-- Execution `x` is the only one and runs. -/
def startedAlone (s : State) (x : Exec) : State :=
  { s with scn := { s.scn with waiting := [], running := some (addCycles { x with started := true } 24) } }

/-- The engine idle and no execution released, the next one released starts. -/
theorem dispatch_idle (h : s.lanesIdle = true) (x : Exec) :
    dispatch (queued s x) = startedAlone s x := by
  obtain ⟨hrun, hpre, hwait⟩ := lanesIdle_iff.mp h
  unfold dispatch
  simp [queued, nextWaiting, hwait, hrun, hpre, unwait, startedAlone]

theorem busy_of_idle (h : s.lanesIdle = true) (hd : s.prg.deferred = []) (task : Nat) : s.busy task = false := by
  obtain ⟨hrun, hpre, hwait⟩ := lanesIdle_iff.mp h
  simp [State.busy, hrun, hpre, hwait, hd]

/-- An execution that is released goes to the dispatcher, or waits for the quiet point's end. -/
def releasedTo (s : State) (x : Exec) : State :=
  if s.prg.deferring then { s with prg := { s.prg with deferred := s.prg.deferred ++ [x] } } else dispatch (queued s x)

/-- The module may release tasks. -/
structure Releases (s : State) : Prop where
  mode : s.mode = mRUN
  cut : s.cut = false
  active : s.prg.active.isSome = true

theorem releaseTask_admitted (h : Releases s) (task src : Nat) (snap : Option Nat) : releaseTask s task src snap =
    if s.busy task then countSkip (abandonIdle s) task
    else releasedTo (abandonIdle s) (newExec (abandonIdle s) task src snap) := by
  have hactive : s.prg.active ≠ none := Option.isSome_iff_ne_none.mp h.active
  unfold releaseTask
  rw [if_neg (by simp [h.mode, h.cut, hactive])]
  rfl

/-- Nothing runs, waits or is deferred. -/
structure Free (s : State) : Prop where
  lanes : s.lanesIdle = true
  deferring : s.prg.deferring = false
  deferred : s.prg.deferred = []

/-- Task `task` starts in `t` on the current image of `s` with the registers of R203. -/
structure Starts (task : Nat) (snap : Option Nat) (s t : State) : Prop where
  exec : ∃ x, t.scn.running = some x ∧ x.task = task ∧ x.started = true ∧ x.i = s.img.i ∧ x.p = s.img.p ∧ x.q0 = s.img.q ∧
    x.snap = snap ∧ ∀ k, k < 3 → x.lanes.get k = { freshCtx (s.rd F.SCN_T_ENTRY task) with cycles := 24 }
  waiting : t.scn.waiting = []
  preempted : t.scn.preempted = []
  t0Due : t.scn.t0Due = s.scn.t0Due
  perLast : t.scn.perLast = s.scn.perLast
  retBusy : t.scn.retBusy = false
  capDue : t.pair.capDue = false
  frame : Moves [.scn, .pair] [] abandonFlds s t

theorem releaseTask_starts (hr : Releases s) (hf : Free s) (task src : Nat) (snap : Option Nat) :
    Starts task snap s (releaseTask s task src snap) := by
  obtain ⟨n, hscn⟩ := abandonIdle_scn s
  have hmoves := abandonIdle_moves s
  have hcap := abandonIdle_capDue s
  rw [releaseTask_admitted hr, if_neg (by simp [busy_of_idle hf.lanes hf.deferred])]
  have himg : (abandonIdle s).img = s.img := hmoves.1.1 .img (by decide)
  have hprg : (abandonIdle s).prg = s.prg := hmoves.1.1 .prg (by decide)
  have hentry : (abandonIdle s).rd F.SCN_T_ENTRY task = s.rd F.SCN_T_ENTRY task := hmoves.rd _ _ rfl
  generalize abandonIdle s = v at *
  have hidle : v.lanesIdle = true := by
    have hlanes := hf.lanes
    rw [State.lanesIdle] at hlanes ⊢
    rw [hscn]
    exact hlanes
  rw [releasedTo, hprg, hf.deferring, if_neg (by decide), dispatch_idle hidle]
  refine {
    exec := ⟨addCycles { newExec v task src snap with started := true } 24, rfl, rfl, rfl, ?_, ?_, ?_, rfl, ?_⟩
    waiting := rfl
    preempted := (lanesIdle_iff.mp hidle).2.1
    t0Due := ?_
    perLast := ?_
    retBusy := ?_
    capDue := hcap
    frame := .after (Leaves.set_scn v _) hmoves rfl rfl }
  · exact congrArg ImgSt.i himg
  · exact congrArg ImgSt.p himg
  · exact congrArg ImgSt.q himg
  · intro k hk
    rw [← hentry]
    match k with
    | 0 => rfl
    | 1 => rfl
    | 2 => rfl
  · exact (congrArg ScnSt.t0Due hscn :)
  · exact (congrArg ScnSt.perLast hscn :)
  · exact (congrArg ScnSt.retBusy hscn :)

/-- A release that finds its task running is skipped and counted, below the limit of skips. -/
theorem releaseTask_skips (hr : Releases s) (hrun : s.scn.running = some x) (hx : x.task = task)
    (hmax : s.rd F.SCN_T_SKIP_MAX task = 255) (src : Nat) (snap : Option Nat) : releaseTask s task src snap =
      ((abandonIdle s).inc F.SCN_TSTAT_SKIPS task).inc F.SCN_TSTAT_RUNSKIP task := by
  have hbusy : s.busy task = true := by simp [State.busy, hrun, hx]
  have hcount : Moves [.scn, .pair] [] (abandonFlds ++ [F.SCN_TSTAT_SKIPS, F.SCN_TSTAT_RUNSKIP]) s
      (((abandonIdle s).inc F.SCN_TSTAT_SKIPS task).inc F.SCN_TSTAT_RUNSKIP task) :=
    (State.inc_moves ..).step ((State.inc_moves ..).step ((abandonIdle_moves s).one rfl rfl rfl) rfl rfl rfl) rfl rfl rfl
  rw [releaseTask_admitted hr, if_pos hbusy, countSkip, hcount.rd _ _ rfl, hmax]
  exact if_neg (by simp)

end

/-! ### T0 and the PERIODIC tasks fall due (R185, R188) -/

section
variable {a s t u : State} {x : Exec} {k : Nat}

/-- T0 falls due. -/
structure T0Due (a : State) : Prop where
  due : a.scn.t0Due = true
  late : a.ring.lastLocal + 4000 ≤ a.time.now
  source : a.rd F.SCN_T_SRC 0 = 1
  lane : a.clk.lane = true

/-- The release of T0 is taken up. -/
def t0Taken (a : State) : State := { a with scn := { a.scn with t0Due := false } }

/-- The tick of the release on a cinch image is kept for the pair. -/
def t0Noted (a : State) : State :=
  if decide (a.img.latchKind ≠ 2) then
    updPair (t0Taken a) fun x => { x with t0Ticks := (((t0Taken a).ring.cinch, (t0Taken a).runTicks) :: x.t0Ticks).take 8 }
  else t0Taken a

/-- The snapshot a release of T0 fills: none on a bridged image. -/
def State.t0Snap (a : State) : Option Nat := if a.img.latchKind = 2 then none else some a.ring.cinch

/-- The first release since the entry into RUN is past. -/
def firstPast (s : State) : State := { s with scn := { s.scn with first := false } }

theorem firstPast_leaves (s : State) : Leaves [.scn] [] s (firstPast s) := Leaves.set_scn s _

theorem t0Noted_leaves (a : State) : Leaves [.scn, .pair] [] a (t0Noted a) :=
  have htaken : Leaves [.scn] [] a (t0Taken a) := Leaves.set_scn a _
  .ite ((updPair_leaves ..).step (htaken.one rfl rfl) rfl rfl) (htaken.one rfl rfl)

theorem t0Noted_scn (a : State) : (t0Noted a).scn = { a.scn with t0Due := false } := by
  unfold t0Noted
  split <;> rfl

theorem t0Release_eq (hd : T0Due a) (hr : Releases a) :
    t0Release a = firstPast (releaseTask (t0Noted a) 0 1 a.t0Snap) := by
  have hlate := hd.late
  have hsnap : a.t0Snap = if decide (a.img.latchKind ≠ 2) = true then some (t0Noted a).ring.cinch else none := by
    rw [(t0Noted_leaves a).1 .ring (by decide), State.t0Snap]
    by_cases h : a.img.latchKind = 2 <;> simp [h]
  unfold t0Release
  rw [if_neg (by simp [hd.due, hr.mode, hr.cut, hd.source, hd.lane]; omega), hsnap]
  rfl

/-- What the admission of a release reads is left as it was. -/
theorem Releases.of_leaves (hr : Releases a) (h : Leaves [.scn, .pair] [] a u) (hp : u.scn.pend = a.scn.pend) :
    Releases u := by
  have hprg : u.prg = a.prg := h.1 .prg (by decide)
  have hring : u.ring = a.ring := h.1 .ring (by decide)
  refine ⟨(h.moves.rd _ _ rfl).trans hr.mode, ?_, hprg ▸ hr.active⟩
  rw [← hr.cut, State.cut, State.cut, hp]
  simp only [State.boundaryCame, hring]

theorem Free.of_leaves (hf : Free a) (h : Leaves [.scn, .pair] [] a u) (hrun : u.scn.running = a.scn.running)
    (hpre : u.scn.preempted = a.scn.preempted) (hwait : u.scn.waiting = a.scn.waiting) : Free u := by
  have hprg : u.prg = a.prg := h.1 .prg (by decide)
  obtain ⟨h1, h2, h3⟩ := lanesIdle_iff.mp hf.lanes
  exact ⟨lanesIdle_iff.mpr ⟨hrun.trans h1, hpre.trans h2, hwait.trans h3⟩, hprg ▸ hf.deferring, hprg ▸ hf.deferred⟩

/-- What starts does so as well before a change of the dispatcher's and the pair's own notes. -/
theorem Starts.of_leaves {task : Nat} {snap : Option Nat} (h : Starts task snap u t) (hu : Leaves [.scn, .pair] [] a u) :
    (∃ x, t.scn.running = some x ∧ x.task = task ∧ x.started = true ∧ x.i = a.img.i ∧ x.p = a.img.p ∧ x.q0 = a.img.q ∧
      x.snap = snap ∧ ∀ k, k < 3 → x.lanes.get k = { freshCtx (a.rd F.SCN_T_ENTRY task) with cycles := 24 }) ∧
      Moves [.scn, .pair] [] abandonFlds a t := by
  have himg : u.img = a.img := hu.1 .img (by decide)
  have hexec := h.exec
  rw [himg, hu.moves.rd _ _ rfl] at hexec
  exact ⟨hexec, h.frame.step (hu.moves.one rfl rfl rfl) rfl rfl rfl⟩

theorem t0Release_starts (hd : T0Due a) (hr : Releases a) (hf : Free a) :
    ∃ t, t0Release a = firstPast t ∧ t.scn.t0Due = false ∧ Starts 0 a.t0Snap (t0Noted a) t := by
  have hleaves := t0Noted_leaves a
  have hscn := t0Noted_scn a
  have hstarts := releaseTask_starts (hr.of_leaves hleaves (by rw [hscn])) (hf.of_leaves hleaves (by rw [hscn]) (by rw [hscn])
    (by rw [hscn])) 0 1 a.t0Snap
  exact ⟨_, t0Release_eq hd hr, hstarts.t0Due.trans (by rw [hscn]), hstarts⟩

theorem t0Release_skips (hd : T0Due a) (hr : Releases a) (hrun : a.scn.running = some x) (hx : x.task = 0)
    (hmax : a.rd F.SCN_T_SKIP_MAX 0 = 255) : t0Release a =
      firstPast (((abandonIdle (t0Noted a)).inc F.SCN_TSTAT_SKIPS 0).inc F.SCN_TSTAT_RUNSKIP 0) := by
  have hleaves := t0Noted_leaves a
  have hscn := t0Noted_scn a
  rw [t0Release_eq hd hr, releaseTask_skips (hr.of_leaves hleaves (by rw [hscn])) (by rw [hscn]; exact hrun) hx
    ((hleaves.moves.rd _ _ rfl).trans hmax)]

/-- A release of T0 that is skipped is counted twice and leaves what runs. -/
theorem skipped_counts
    (ht : t = firstPast (((abandonIdle (t0Noted a)).inc F.SCN_TSTAT_SKIPS 0).inc F.SCN_TSTAT_RUNSKIP 0)) :
    t.rd F.SCN_TSTAT_SKIPS = min (2 ^ F.SCN_TSTAT_SKIPS.width - 1) (a.rd F.SCN_TSTAT_SKIPS + 1) ∧
      t.rd F.SCN_TSTAT_RUNSKIP = min (2 ^ F.SCN_TSTAT_RUNSKIP.width - 1) (a.rd F.SCN_TSTAT_RUNSKIP + 1) ∧
      (t.scn.running = a.scn.running ∧ t.scn.waiting = a.scn.waiting ∧ t.scn.t0Due = false) ∧
      Moves [.scn, .pair] [] [F.SCN_TSTAT_SKIPS, F.SCN_TSTAT_RUNSKIP, F.SCN_MODE_RET_MISS, F.SCN_MODE_RETAIN_STALE,
        F.PLT_PSTATE_MIR_MISS] a t := by
  subst ht
  have hmoves : Moves [.scn, .pair] [] abandonFlds a (abandonIdle (t0Noted a)) :=
    (abandonIdle_moves _).step ((t0Noted_leaves a).moves.one rfl rfl rfl) rfl rfl rfl
  obtain ⟨n, hscn⟩ := abandonIdle_scn (t0Noted a)
  rw [t0Noted_scn] at hscn
  generalize abandonIdle (t0Noted a) = w at *
  have hrunskip : (w.inc F.SCN_TSTAT_SKIPS).rd F.SCN_TSTAT_RUNSKIP = a.rd F.SCN_TSTAT_RUNSKIP :=
    ((State.inc_moves ..).rd _ _ rfl).trans (hmoves.rd _ _ rfl)
  refine ⟨?_, ?_, ⟨?_, ?_, ?_⟩, ?_⟩
  · rw [(firstPast_leaves _).moves.rd _ _ rfl, (State.inc_moves _ F.SCN_TSTAT_RUNSKIP 0 1).rd _ _ rfl, State.rd_inc_same,
      hmoves.rd _ _ rfl]
  · rw [(firstPast_leaves _).moves.rd _ _ rfl, State.rd_inc_same, hrunskip]
  · exact (congrArg ScnSt.running hscn :)
  · exact (congrArg ScnSt.waiting hscn :)
  · exact (congrArg ScnSt.t0Due hscn :)
  · exact .after (firstPast_leaves _) ((State.inc_moves ..).step ((State.inc_moves ..).step (hmoves.one rfl rfl rfl)
      rfl rfl rfl) rfl rfl rfl) rfl rfl

/-- The instant of a release of task `k` is kept. -/
def instantKept (a : State) (k : Nat) : State :=
  { a with scn := { a.scn with perLast := Table.put 0 a.scn.perLast k (a.station + 1) } }

theorem instantKept_leaves (a : State) (k : Nat) : Leaves [.scn] [] a (instantKept a k) := Leaves.set_scn a _

theorem instantKept_find (a : State) (k : Nat) : Table.find 0 (instantKept a k).scn.perLast k = a.station + 1 := by
  rw [instantKept, Table.find_put, if_pos rfl]

/-- A multiple of the period has passed since PHASE. -/
theorem phase_met {p q t : Nat} (h : t % p = q % p) : (t + p - q % p) % p = 0 := by
  rcases Nat.eq_zero_or_pos p with rfl | hp
  · simp_all
  · have hq : q % p ≤ t := h ▸ Nat.mod_le t p
    rw [← h, Nat.add_comm, Nat.add_sub_assoc (Nat.mod_le t p), Nat.add_mod_left]
    exact Nat.sub_mod_eq_zero_of_mod_eq (Nat.mod_mod t p).symm

theorem periodicRelease_eq (hk : 1 ≤ k ∧ k < 64) (hsrc : a.rd F.SCN_T_SRC k = 1) (hp : a.rd F.SCN_T_PERIOD k ≠ 0)
    (hst : a.time.stHeld = false) (hlane : a.clk.lane = true)
    (hphase : a.station % a.rd F.SCN_T_PERIOD k = a.rd F.SCN_T_PHASE k % a.rd F.SCN_T_PERIOD k)
    (hlast : Table.find 0 a.scn.perLast k ≠ a.station + 1) :
    periodicRelease k a = releaseTask (instantKept a k) k 1 none := by
  unfold periodicRelease
  rw [if_neg (by simp [hsrc, hp, hst, hlane, hlast, phase_met hphase]; omega)]
  rfl

end

/-! ### The watchdog and NOEXEC (R193, R194) -/

section
variable {a : State} {x : Exec} {y : Snap}

theorem taskWatchdog_faults (hlane : a.clk.lane = true) (hx : x ∈ a.allExecs) (hw : a.rd F.SCN_T_WD_LIMIT x.task ≠ 0)
    (hlate : x.relXt + a.rd F.SCN_T_WD_LIMIT x.task ≤ a.time.xt) : taskWatchdog a = enterFault a 3 := by
  unfold taskWatchdog
  extract_lets late
  have hany : a.allExecs.any late = true := List.any_eq_true.mpr ⟨x, hx, by simp [late, hw, hlate]⟩
  rw [hlane, hany]
  rfl

theorem snapshotNoexec_closes (hkind : a.img.latchKind ≠ 2) (hlate : a.ring.lastLatch + 4000 ≤ a.time.now)
    (hfree : ∀ e ∈ a.allExecs, e.snap ≠ some a.ring.cinch) (hm : a.mode ≠ mRUN) (hy : a.snap? a.ring.cinch = some y)
    (hopen : y.closed = false) : snapshotNoexec a = putSnap a { y with
      closed := true, noexec := true, uncommitted := false, closeTime := a.station, q := a.img.q, s := a.img.s } := by
  have hany : (a.allExecs.any fun e => decide (e.snap = some a.ring.cinch)) = false := by simpa using hfree
  unfold snapshotNoexec
  extract_lets n
  rw [if_neg (by simp only [n, hany, hm]; simp [hkind]; omega), closeSnap, hy]
  dsimp only
  rw [if_neg (by simp [hopen]), Bool.or_false]

end

/-! ### The retentive copy (R198) -/

section
variable (s : State) (kind index setgen : Nat) (data : List Nat)

theorem stoRec_key : (s.stoRec kind index).kind = kind ∧ (s.stoRec kind index).index = index := by
  unfold State.stoRec
  cases h : s.sto.recs.find? fun r => decide (r.kind = kind) && decide (r.index = index) with
  | none => exact ⟨rfl, rfl⟩
  | some r => simpa using List.find?_some h

/-- The record that is put stands. -/
theorem putRec_stoRec {r : StoRec} (hk : r.kind = kind) (hi : r.index = index) : (putRec s r).stoRec kind index = r := by
  subst hk hi
  have hnone : (s.sto.recs.filter fun x => !(decide (x.kind = r.kind) && decide (x.index = r.index))).find?
      (fun x => decide (x.kind = r.kind) && decide (x.index = r.index)) = none := by
    rw [List.find?_eq_none]
    intro y hy
    have hother := (List.mem_filter.mp hy).2
    simpa only [Bool.not_eq_true', Bool.not_eq_true] using hother
  rw [State.stoRec, putRec, List.find?_append, hnone]
  simp

theorem stoRec_of_sto {s t : State} (h : t.sto = s.sto) : t.stoRec kind index = s.stoRec kind index := by
  rw [State.stoRec, h, State.stoRec]

theorem setIncons_stoRec (key : Nat × Nat) (b : Bool) : (setIncons s key b).stoRec kind index = s.stoRec kind index := rfl

/-- The record written: its data stands in one of its slots. -/
theorem writeRec_eq : ∃ r : StoRec, (r.kind = kind ∧ r.index = index) ∧
    (r.s0.map (·.data) = some (slice data 0 ((data.length + 7) / 8 * 8)) ∨
      r.s1.map (·.data) = some (slice data 0 ((data.length + 7) / 8 * 8))) ∧
    writeRec s kind index setgen data =
      if kind = kCONFIG then putRec s r else setIncons (putRec s r) (inconsKey kind index) false := by
  have hkey := stoRec_key s kind index
  unfold writeRec
  extract_lets -lift +onlyGivenNames r x set r' u
  refine ⟨r', ?_, ?_, rfl⟩
  · unfold r'
    split
    · split <;> exact hkey
    all_goals exact hkey
  · unfold r'
    split
    · split
      · exact .inr rfl
      · exact .inl rfl
    · exact .inr rfl
    · exact .inl rfl
    · exact .inl rfl

theorem writeRec_slot : let t := writeRec s kind index setgen data
    (t.stoRec kind index).s0.map (·.data) = some (slice data 0 ((data.length + 7) / 8 * 8)) ∨
      (t.stoRec kind index).s1.map (·.data) = some (slice data 0 ((data.length + 7) / 8 * 8)) := by
  obtain ⟨r, ⟨hkind, hindex⟩, hdata, hwrite⟩ := writeRec_eq s kind index setgen data
  have hput := putRec_stoRec s kind index hkind hindex
  dsimp only
  rw [hwrite]
  split
  · rwa [hput]
  · rwa [setIncons_stoRec, hput]

theorem writeRec_moves : Moves [.sto] [] [F.STO_STATUS_INCONS] s (writeRec s kind index setgen data) := by
  obtain ⟨r, -, -, hwrite⟩ := writeRec_eq s kind index setgen data
  have hput : Moves [.sto] [] [F.STO_STATUS_INCONS] s (putRec s r) := (putRec_leaves s r).moves.one rfl rfl rfl
  rw [hwrite]
  exact .ite hput ((State.wr_moves ..).step (.after (Leaves.set_sto _ _) hput rfl rfl) rfl rfl rfl)

end

section
variable {a : State} {items : List (List Nat)} {d : List Nat}

/-- A retentive copy may be made. -/
structure CopyReady (a : State) : Prop where
  busy : a.scn.retBusy = true
  mode : a.mode = mRUN
  idle : a.noExec = true
  lane : a.clk.lane = true

/-- The instances of the active bank that are retentive. -/
def State.retainInsts (a : State) : List InstRec := (a.activeBank.getD {}).insts.filter (·.retain)

/-- The retentive data as the voting lanes hold it. -/
def State.retained (a : State) : Except Nat (List (List Nat)) :=
  retainData (a.activeBank.getD {}) (((List.range 3).filter fun k => a.votes k).map fun k => a.scn.lanes.get k) 0
    (retainItems a.retainRows (a.retainInsts.map (·.id)))

/-- The copy of a majority is written as record RETAIN. -/
def copyWritten (a : State) (items : List (List Nat)) : State :=
  writeRec a kRETAIN 0 0 (retainHead (a.activeBank.getD {}).build a.retainRows a.retainInsts ++ items.flatten)

/-- The copy is over. -/
def copyDone (s : State) : State :=
  { s with
    scn := { s.scn with retBusy := false, retRun := 0, retLast := max 1 s.time.now }
    prg := { s.prg with retCopyDue := false } }

/-- The retentive data is shown valid and fresh. -/
def copyShown (s : State) : State := (s.wr F.SCN_MODE_RETAIN_STALE 0).wr F.SCN_MODE_RETAIN_VALID 1

theorem retentiveCopy_eq (h : CopyReady a) (hitems : a.retained = .ok items) : retentiveCopy a =
    if !a.storeOk then retainMiss a else copyShown (copyDone (copyWritten a items)) := by
  unfold State.retained State.retainInsts at hitems
  unfold retentiveCopy
  rw [if_neg (by simp [h.busy, h.mode, h.idle, h.lane])]
  extract_lets b rows insts ls
  rw [hitems]
  rfl

theorem copyDone_leaves (s : State) : Leaves [.scn, .prg] [] s (copyDone s) :=
  (Leaves.set_prg { s with scn := (copyDone s).scn } _).step ((Leaves.set_scn s _).one rfl rfl) rfl rfl

theorem copyShown_moves (s : State) : Moves [] [] [F.SCN_MODE_RETAIN_VALID, F.SCN_MODE_RETAIN_STALE] s (copyShown s) :=
  (State.wr_moves ..).step ((State.wr_moves ..).one rfl rfl rfl) rfl rfl rfl

theorem copyShown_rd (s : State) :
    (copyShown s).rd F.SCN_MODE_RETAIN_VALID = 1 ∧ (copyShown s).rd F.SCN_MODE_RETAIN_STALE = 0 :=
  ⟨State.rd_wr_same .., ((State.wr_moves ..).rd _ _ rfl).trans (State.rd_wr_same ..)⟩

end

/-! ### Counter rings (R452) -/

theorem ringUpdate_value (s : State) (k v j : Nat) :
    (ringUpdate s k v).ringValue j = if j = k then v % 2 ^ 48 else s.ringValue j := by
  have hnew : ∀ r : CntRing, (⟨(r.slot + 1) % 64, r.seq + 1, v % 2 ^ 48⟩ : CntRing) ≠ ⟨63, 0, 0⟩ := fun r h => by
    injection h with _ hseq
    exact absurd hseq (Nat.succ_ne_zero _)
  rw [State.ringValue, ringUpdate]
  dsimp only
  rw [Table.put, if_neg (hnew _), Table.find_insert_drop]
  split <;> rfl

theorem counterRingUpdate_eq {a : State} {k v : Nat}
    (h : (a.sto.ringPend.find? fun e => decide (64 ≤ e.1) || a.noExec) = some (k, v)) (hok : a.storeOk = true) :
    counterRingUpdate a =
      ringUpdate { a with sto := { a.sto with ringPend := Table.drop a.sto.ringPend k } } k (pendingValue k v) := by
  rw [counterRingUpdate, h]
  dsimp only
  rw [hok]
  rfl

/-- Settles O29: each release, copy and ring update leads to one equation, from which its effects are read. -/
theorem taskReleases : Obligations.TaskReleases := by
  unfold Obligations.TaskReleases
  refine ⟨?_, ?_, ?_, ?_, ?_, ?_, ?_, ?_⟩
  · intro dt s a hdue hlate hm hcut hsrc hlane hact hidle hdef hdefd
    obtain ⟨t, hrun, ht0, hstarts⟩ := t0Release_starts ⟨hdue, hlate, hsrc, hlane⟩ ⟨hm, hcut, hact⟩ ⟨hidle, hdef, hdefd⟩
    obtain ⟨hexec, hmoves⟩ := hstarts.of_leaves (t0Noted_leaves a)
    have hfirst := firstPast_leaves t
    refine ⟨_, congrArg Host.Outcome.next hrun, hexec, ⟨ht0, hstarts.waiting, hstarts.preempted⟩, ?_,
      ⟨hstarts.capDue, hstarts.retBusy⟩, .after hfirst (hmoves.one rfl rfl rfl) rfl rfl⟩
    rw [hfirst.moves.rd _ _ rfl, hmoves.rd _ _ rfl]
  · intro dt s x a hdue hlate hm hcut hsrc hlane hact hrun hx hmax
    obtain ⟨hskips, hrunskip, ⟨hr, hw, ht0⟩, hmoves⟩ := skipped_counts
      (t0Release_skips ⟨hdue, hlate, hsrc, hlane⟩ ⟨hm, hcut, hact⟩ hrun hx hmax)
    exact ⟨_, rfl, hskips, hrunskip, ⟨hr.trans hrun, hw, ht0⟩, (hmoves.rd _ _ rfl).trans hm, hmoves⟩
  · intro dt s k a hk hsrc hp hst hlane hphase hlast hm hcut hact hidle hdef hdefd
    have hkept := (instantKept_leaves a k).one (qs := [.scn, .pair]) (us := []) rfl rfl
    have hstarts := releaseTask_starts (task := k) (Releases.of_leaves ⟨hm, hcut, hact⟩ hkept rfl)
      (Free.of_leaves ⟨hidle, hdef, hdefd⟩ hkept rfl rfl rfl) 1 none
    obtain ⟨⟨x, hrun, htask, hstart, hi, -, -, hsnap, hctx⟩, hmoves⟩ := hstarts.of_leaves hkept
    refine ⟨_, congrArg Host.Outcome.next (periodicRelease_eq hk hsrc hp hst hlane hphase hlast),
      ⟨x, hrun, htask, hstart, hi, hsnap, hctx⟩, ?_, ⟨hstarts.waiting, hstarts.preempted⟩, hmoves.one rfl rfl rfl⟩
    rw [hstarts.perLast, instantKept_find]
  · intro dt s x a hlane hx hw hlate hm
    have hfault := enterFault_faults (cause := 3) (by decide) hm
    exact ⟨_, congrArg Host.Outcome.next (taskWatchdog_faults hlane hx hw hlate), hfault.mode, hfault.cause,
      ⟨hfault.running, hfault.waiting, hfault.presented⟩, hfault.frame⟩
  · intro dt s x a hkind hlate hfree hm hx hopen
    exact ⟨_, congrArg Host.Outcome.next (snapshotNoexec_closes hkind hlate hfree hm hx hopen), rfl⟩
  · intro dt s items d a hbusy hm hidle hlane hok hitems hd
    have hrun := retentiveCopy_eq ⟨hbusy, hm, hidle, hlane⟩ hitems
    rw [hok, if_neg (by decide)] at hrun
    have hwritten : Moves [.sto] [] [F.STO_STATUS_INCONS] a (copyWritten a items) := writeRec_moves ..
    have hslot := writeRec_slot a kRETAIN 0 0 d
    have hwrite : writeRec a kRETAIN 0 0 d = copyWritten a items := by rw [hd]; rfl
    have hdone := copyDone_leaves (copyWritten a items)
    have hshown := copyShown_moves (copyDone (copyWritten a items))
    dsimp only at hslot
    rw [hwrite] at hslot
    refine ⟨_, congrArg Host.Outcome.next hrun, ?_, copyShown_rd _, ⟨rfl, ?_⟩, ?_⟩
    · rwa [stoRec_of_sto _ _ ((hshown.1.1 .sto (by decide)).trans (hdone.1 .sto (by decide)))]
    · exact (congrArg ScnSt.lanes (hwritten.1.1 .scn (by decide)) :)
    · exact hshown.step (.after hdone (hwritten.one rfl rfl rfl) rfl rfl) rfl rfl rfl
  · intro dt s items a hbusy hm hidle hlane hok hitems
    have hrun := retentiveCopy_eq ⟨hbusy, hm, hidle, hlane⟩ hitems
    rw [hok, if_pos (by decide)] at hrun
    have hmoves := retainMiss_moves a
    exact ⟨_, congrArg Host.Outcome.next hrun, retainMiss_missed a, ⟨by rw [retainMiss_scn], hmoves.1.1 .sto (by decide)⟩,
      retainMiss_stale a, hmoves⟩
  · intro dt s k v a hpend hok
    refine ⟨_, congrArg Host.Outcome.next (counterRingUpdate_eq hpend hok), ?_, fun j hj => ?_, ?_⟩
    · rw [ringUpdate_value, if_pos rfl, pendingValue]
    · rw [ringUpdate_value, if_neg hj]
      rfl
    · exact .after (ringUpdate_leaves ..) ((Leaves.set_sto a _).moves.one rfl rfl rfl) rfl rfl

end Sys2Proof.Machine
end

section
/-!
What a lane instruction leaves as it was, put together update by update, and what the flag computations give.
-/

namespace Sys2Proof.Machine

/-! ### Flags by number -/

@[simp] theorem fCY_eq : fCY = 0 := rfl
@[simp] theorem fZR_eq : fZR = 1 := rfl
@[simp] theorem fNG_eq : fNG = 2 := rfl
@[simp] theorem fEQ_eq : fEQ = 3 := rfl
@[simp] theorem fOV_eq : fOV = 4 := rfl
@[simp] theorem fGV_eq : fGV = 5 := rfl

/-- ACC takes `x`, saturated or not. -/
def Lane.putAcc (l : Lane) (x : Int) (b : Bool) : Lane := l.upd fun c => { c with acc := x, sat := b }

@[simp] theorem Lane.putAcc_acc (l : Lane) (x : Int) (b : Bool) : (l.putAcc x b).c.acc = x := rfl
@[simp] theorem Lane.putAcc_sat (l : Lane) (x : Int) (b : Bool) : (l.putAcc x b).c.sat = b := rfl
@[simp] theorem Lane.putAcc_flag (l : Lane) (x : Int) (b : Bool) (k : Nat) : (l.putAcc x b).flag k = l.flag k := rfl

/-- The branch stack takes the entries `st`. -/
def Lane.putStack (l : Lane) (st : List BrEntry) : Lane := l.upd fun c => { c with stack := st }

theorem Lane.accLoad_eq (l : Lane) (x : Int) : l.accLoad x = (l.putAcc x false).znAcc := rfl

/-- The four outcomes of an accumulator instruction (R218). -/
theorem Lane.accArith_eq (l : Lane) (x : Int) : l.accArith x =
    if l.c.sat = true then l.znAcc
    else if x < -(2 ^ 39) then ((l.putAcc (-(2 ^ 39)) true).setFlag fGV true).znAcc
    else if 2 ^ 39 ≤ x then ((l.putAcc (2 ^ 39 - 1) true).setFlag fGV true).znAcc
    else (l.putAcc x l.c.sat).znAcc := by
  have hhi : 2 ^ 39 ≤ x ↔ accMax < x := by rw [accMax]; omega
  simp only [hhi]
  rfl

/-! ### The frame, update by update -/

/-- Lane `l'` stands at the step number and cycle count of `l`, and nothing outside `m` has changed. -/
structure Lane.Within (m : May) (l l' : Lane) : Prop extends Lane.Stays m l l' where
  pc : l'.c.pc = l.c.pc
  cycles : l'.c.cycles = l.c.cycles

section
variable {m : May} {l₀ l l' : Lane}

theorem Lane.Within.refl (l : Lane) : l.Within m l where
  v _ _ := rfl
  ix _ _ := rfl
  flags _ _ := rfl
  insts _ _ := rfl
  ba _ := rfl
  acc _ := ⟨rfl, rfl⟩
  stack _ := rfl
  reqs _ := rfl
  mem _ := ⟨rfl, rfl, rfl, rfl⟩
  run := rfl
  pc := rfl
  cycles := rfl

theorem Lane.Within.setV (h : l₀.Within m l) (d : Nat) (w : Word) (hd : d ∈ m.v := by simp) :
    l₀.Within m (l.setV d w) :=
  { h with v := fun k hk => by rw [Lane.setV_v, if_neg (ne_of_mem_of_not_mem hd hk).symm, h.v k hk] }

theorem Lane.Within.setIx (h : l₀.Within m l) (x n : Nat) (hx : x ∈ m.ix := by simp) : l₀.Within m (l.setIx x n) :=
  { h with ix := fun k hk => by rw [Lane.setIx_ix, if_neg (ne_of_mem_of_not_mem hx hk).symm, h.ix k hk] }

theorem Lane.Within.setFlag (h : l₀.Within m l) (f : Nat) (b : Bool) (hf : f ∈ m.flags := by simp) :
    l₀.Within m (l.setFlag f b) :=
  { h with flags := fun k hk => by rw [Lane.setFlag_flag, if_neg (ne_of_mem_of_not_mem hf hk).symm, h.flags k hk] }

theorem Lane.Within.setInst (h : l₀.Within m l) (e : Env) (id : Nat) (x : Inst) (hid : id ∈ m.insts := by simp) :
    l₀.Within m (Lane.setInst e l id x) :=
  { h with
    insts := fun k hk => by rw [Lane.setInst_inst, if_neg (ne_of_mem_of_not_mem hid hk).symm, h.insts k hk]
    mem := fun hm => by rw [Lane.setInst_m_m, Lane.setInst_m_d]; exact h.mem hm }

theorem Lane.Within.setBa (h : l₀.Within m l) (b : Bool) (hm : m.ba = true := by rfl) : l₀.Within m (l.setBa b) :=
  { h with ba := fun hb => absurd hm (by simp [hb]) }

theorem Lane.Within.putAcc (h : l₀.Within m l) (x : Int) (b : Bool) (hm : m.acc = true := by rfl) :
    l₀.Within m (l.putAcc x b) :=
  { h with acc := fun ha => absurd hm (by simp [ha]) }

theorem Lane.Within.putStack (h : l₀.Within m l) (st : List BrEntry) (hm : m.stack = true := by rfl) :
    l₀.Within m (l.putStack st) :=
  { h with stack := fun hs => absurd hm (by simp [hs]) }

theorem Lane.Within.stick (h : l₀.Within m l) (f : Nat) (b : Bool) (hf : f ∈ m.flags := by simp) :
    l₀.Within m (l.stick f b) := by
  cases b
  · exact h
  · exact h.setFlag f true hf

theorem Lane.Within.ite {p : Prop} [Decidable p] (h : l₀.Within m l) (h' : l₀.Within m l') :
    l₀.Within m (if p then l else l') := by
  split
  · exact h
  · exact h'

/-- The step done: the next step follows. -/
theorem Lane.Within.next (h : l₀.Within m l) (cyc : Nat) : l₀.Goes m (l₀.c.pc + 1) cyc (l.next cyc) :=
  ⟨by rw [Lane.next_pc, h.pc], by rw [Lane.next_cycles, h.cycles], { h with }⟩

/-- The step done: step `t` follows. -/
theorem Lane.Within.jump (h : l₀.Within m l) (t cyc : Nat) : l₀.Goes m t cyc (l.jump t cyc) :=
  ⟨rfl, by rw [Lane.jump_cycles, h.cycles], { h with }⟩

theorem Lane.Goes.run {pc cyc : Nat} (h : l.Goes m pc cyc l') : l'.c.run = l.c.run := h.2.2.run

/-! ### Flag computations -/

theorem Lane.Within.zn (h : l₀.Within m l) (w : Word) (hz : fZR ∈ m.flags := by simp) (hn : fNG ∈ m.flags := by simp) :
    l₀.Within m (l.zn w) := (h.setFlag fZR _ hz).setFlag fNG _ hn

theorem Lane.Within.znAcc (h : l₀.Within m l) (hz : fZR ∈ m.flags := by simp) (hn : fNG ∈ m.flags := by simp) :
    l₀.Within m l.znAcc := (h.setFlag fZR _ hz).setFlag fNG _ hn

theorem Lane.Within.putZN (h : l₀.Within m l) (d : Nat) (w : Word) (hd : d ∈ m.v := by simp)
    (hz : fZR ∈ m.flags := by simp) (hn : fNG ∈ m.flags := by simp) : l₀.Within m (l.putZN d w) :=
  (h.setV d w hd).zn w hz hn

theorem Lane.Within.putF (h : l₀.Within m l) (d w : Nat) (hd : d ∈ m.v := by simp) (hz : fZR ∈ m.flags := by simp)
    (hn : fNG ∈ m.flags := by simp) : l₀.Within m (l.putF d w) :=
  ((h.setV d _ hd).setFlag fZR _ hz).setFlag fNG _ hn

theorem Lane.Within.accLoad (h : l₀.Within m l) (x : Int) (ha : m.acc = true := by rfl)
    (hz : fZR ∈ m.flags := by simp) (hn : fNG ∈ m.flags := by simp) : l₀.Within m (l.accLoad x) :=
  (h.putAcc x false ha).znAcc hz hn

theorem Lane.Within.accArith (h : l₀.Within m l) (x : Int) (ha : m.acc = true := by rfl)
    (hz : fZR ∈ m.flags := by simp) (hn : fNG ∈ m.flags := by simp) (hg : fGV ∈ m.flags := by simp) :
    l₀.Within m (l.accArith x) := by
  rw [Lane.accArith_eq]
  exact .ite (h.znAcc hz hn) <| .ite (((h.putAcc _ _ ha).setFlag fGV _ hg).znAcc hz hn) <|
    .ite (((h.putAcc _ _ ha).setFlag fGV _ hg).znAcc hz hn) ((h.putAcc _ _ ha).znAcc hz hn)

end

@[simp] theorem Lane.znAcc_flag (l : Lane) (j : Nat) : l.znAcc.flag j =
    if j = fNG then decide (l.c.acc < 0) else if j = fZR then decide (l.c.acc = 0) else l.flag j := by
  rw [Lane.znAcc, Lane.setFlag_flag, Lane.setFlag_flag]
@[simp] theorem Lane.znAcc_acc (l : Lane) : l.znAcc.c.acc = l.c.acc := rfl
@[simp] theorem Lane.znAcc_sat (l : Lane) : l.znAcc.c.sat = l.c.sat := rfl

@[simp] theorem Lane.putZN_v (l : Lane) (d : Nat) (w : Word) (j : Nat) :
    (l.putZN d w).v j = if j = d then w else l.v j := Lane.setV_v l d w j

@[simp] theorem Lane.putZN_flag (l : Lane) (d : Nat) (w : Word) (j : Nat) :
    (l.putZN d w).flag j = if j = fNG then w.msb else if j = fZR then decide (w = 0) else l.flag j := by
  rw [Lane.putZN, Lane.zn, Lane.setFlag_flag, Lane.setFlag_flag, Lane.setV_flag]

@[simp] theorem Lane.putF_v (l : Lane) (d w : Nat) (j : Nat) :
    (l.putF d w).v j = if j = d then BitVec.ofNat 32 w else l.v j := Lane.setV_v l d _ j

/-- ZR and NG as `putZN` leaves them stand until another instruction writes them. -/
theorem ZN.of_flags {l l' : Lane} {d : Nat} {w : Word} (hz : l'.flag fZR = (l.putZN d w).flag fZR)
    (hn : l'.flag fNG = (l.putZN d w).flag fNG) : ZN l' w := by
  rw [Lane.putZN_flag] at hz hn
  exact ⟨by simpa using hz, by simpa using hn⟩

theorem ZNF_putF (l : Lane) (d w : Nat) : ZNF (l.putF d w) (BitVec.ofNat 32 w) := by
  unfold ZNF nanW
  rw [Lane.putF, Lane.znF]
  simp

/-- The flags after CLRF: those the mask names are 0 (ZEN-11). -/
theorem zCLRF_flag (m : Nat) (e : Env) (l : Lane) (k : Nat) :
    (zCLRF m e l).flag k = (l.flag k && (decide (k < 6) && !(m % 64).testBit k)) := by
  have h : (63 - m % 64).testBit k = (decide (k < 6) && !(m % 64).testBit k) := by
    rw [show 63 - m % 64 = 2 ^ 6 - (m % 64 + 1) by omega, Nat.testBit_two_pow_sub_succ (Nat.mod_lt _ (by decide))]
  show (l.c.flags &&& (63 - m % 64)).testBit k = _
  rw [Nat.testBit_and, h]
  rfl

/-! ### From the lane function to the statement -/

/-- A lane instruction whose lane function, where `C` holds, is one that keeps to a frame. -/
theorem laneDoesIf_eq {C : Lane → Prop} {i : Instr} {f g : LaneFn} {R : Env → Lane → Lane → Prop} {m : May}
    {pc cyc : Lane → Nat} (hx : ∀ s, exec i s = .next (zen i f s)) (hf : ∀ e l, C l → f e l = g e l)
    (hg : ∀ e l, Lane.Goes m (pc l) (cyc l) l (g e l))
    (hR : ∀ e l, C l → Lane.Goes m (pc l) (cyc l) l (g e l) → R e l (g e l)) : LaneDoesIf C i R :=
  laneDoesIf_of hx (fun e l h => hf e l h ▸ (hg e l).run) fun e l h => hf e l h ▸ hR e l h (hg e l)

theorem laneDoes_goes {i : Instr} {f : LaneFn} {R : Env → Lane → Lane → Prop} {m : May} {pc cyc : Lane → Nat}
    (hx : ∀ s, exec i s = .next (zen i f s)) (hg : ∀ e l, Lane.Goes m (pc l) (cyc l) l (f e l))
    (hR : ∀ e l, Lane.Goes m (pc l) (cyc l) l (f e l) → R e l (f e l)) : LaneDoes i R :=
  laneDoes_of hx (fun e l => (hg e l).run) fun e l => hR e l (hg e l)

end Sys2Proof.Machine
end

section
/-!
The operand areas (R205, R207, R208): what a read gives, and what a write of bits or bytes puts and leaves.
-/

namespace Sys2Proof.Machine

/-! ### Reads -/

theorem readAcc_eq (e : Env) (l : Lane) (o : MaOp) : readAcc e l o =
    (accIn e l o, l.stick fOV (!(inArea e o.area (accAddr l o) (sizeBytes o.size)))) :=
  Prod.ext (by simp only [readAcc, readN_fst, accIn, accAddr]) (readN_snd ..)

theorem readWord_eq (e : Env) (l : Lane) (o : MvOp) : readWord e l o =
    (wordIn e l o.area (effAddr l o.x o.ixn o.addr * 4) 4,
      l.stick fOV (!(inArea e o.area (effAddr l o.x o.ixn o.addr * 4) 4))) :=
  Prod.ext (readN_fst ..) (readN_snd ..)

/-! ### Little-endian bytes -/

theorem leNat_leBytes (n w : Nat) : leNat (leBytes n w) = w % 256 ^ n := by
  induction n generalizing w with
  | zero => simp [leBytes, leNat, Nat.mod_one]
  | succ n ih => rw [leBytes, leNat, ih, Nat.mod_mod, pow_succ', Nat.mod_mul]

theorem leNat_map_mod (bs : List Nat) : leNat (bs.map (· % 256)) = leNat bs := by
  induction bs with
  | nil => rfl
  | cons b bs ih => rw [List.map_cons, leNat, leNat, ih, Nat.mod_mod]

/-! ### One byte under a mask -/

/-- Lanes of the same memories and Q copy read every byte alike. -/
theorem areaByte_congr {l l' : Lane} (hm : l'.m.m = l.m.m) (hd : l'.m.d = l.m.d) (hq : l'.c.q = l.c.q)
    (hk : l'.c.qmask = l.c.qmask) (e : Env) (b k : Nat) : areaByte e l' b k = areaByte e l b k := by
  simp only [areaByte, hm, hd, hq, hk]

theorem Lane.Within.areaByte {m : May} {l l' : Lane} (h : l.Within m l') (hm : m.mem = false) (e : Env) (b k : Nat) :
    areaByte e l' b k = areaByte e l b k := by
  obtain ⟨h1, h2, h3, h4⟩ := h.mem hm
  exact areaByte_congr h1 h2 h3 h4 e b k

theorem testBit_not255 {mask : Nat} (h : mask < 256) (j : Nat) :
    (255 - mask).testBit j = (decide (j < 8) && !mask.testBit j) := by
  rw [show 255 - mask = 2 ^ 8 - (mask + 1) by omega, Nat.testBit_two_pow_sub_succ h]

/-- A byte whose bits under `mask` are replaced by those of `v`. -/
theorem testBit_masked {mask : Nat} (h : mask < 256) (old v j : Nat) :
    (BitVec.ofNat 8 ((old &&& (255 - mask)) ||| (v &&& mask))).toNat.testBit j =
      (decide (j < 8) && if mask.testBit j then v.testBit j else old.testBit j) := by
  rw [BitVec.toNat_ofNat, Nat.testBit_mod_two_pow, Nat.testBit_or, Nat.testBit_and, Nat.testBit_and, testBit_not255 h]
  by_cases hj : j < 8 <;> by_cases hb : mask.testBit j <;> simp [hj, hb]

section
variable {area a mask : Nat} (ha : 1 ≤ area ∧ area ≤ 3) (hmask : mask < 256)

theorem areaPutByte_other (e : Env) (l : Lane) (v : Nat) {b k : Nat} (h : ¬ (b = area ∧ k = a)) :
    areaByte e (areaPutByte l area a mask v) b k = areaByte e l b k := by
  unfold areaPutByte
  split <;> unfold areaByte
  all_goals split <;> simp_all [Lane.upd, Memory.read_write]

include ha hmask in
/-- The bits under the mask take the value, the others stand. -/
theorem areaPutByte_same (e : Env) (l : Lane) (v j : Nat) : (areaByte e (areaPutByte l area a mask v) area a).testBit j =
    (decide (j < 8) && if mask.testBit j then v.testBit j else (areaByte e l area a).testBit j) := by
  obtain rfl | rfl | rfl : area = 1 ∨ area = 2 ∨ area = 3 := by omega
  · have hq := (l.c.qmask.read a).isLt
    have hor : (l.c.qmask.read a).toNat ||| mask < 2 ^ 8 := Nat.or_lt_two_pow hq hmask
    have hm : (BitVec.ofNat 8 ((l.c.qmask.read a).toNat ||| mask)).toNat = (l.c.qmask.read a).toNat ||| mask := by
      rw [BitVec.toNat_ofNat, Nat.mod_eq_of_lt hor]
    simp only [areaByte, areaPutByte, Lane.upd, Memory.read_write, if_pos, hm, Nat.testBit_or, Nat.testBit_and,
      testBit_masked hmask, testBit_not255 hor, testBit_not255 hq]
    by_cases hj : j < 8 <;> by_cases hb : mask.testBit j <;> simp [hj, hb]
  · simp only [areaByte, areaPutByte, Memory.read_write, if_pos, testBit_masked hmask]
  · simp only [areaByte, areaPutByte, Memory.read_write, if_pos, testBit_masked hmask]

include ha in
/-- A whole byte written reads back. -/
theorem areaPutByte_whole (e : Env) (l : Lane) (v : Nat) : areaByte e (areaPutByte l area a 255 v) area a = v % 256 := by
  refine Nat.eq_of_testBit_eq fun j => ?_
  rw [areaPutByte_same ha (by decide), show 256 = 2 ^ 8 by rfl, Nat.testBit_mod_two_pow,
    show 255 = 2 ^ 8 - 1 by rfl, Nat.testBit_two_pow_sub_one]
  by_cases hj : j < 8 <;> simp [hj]

end

/-! ### Whole bytes -/

theorem areaPut_byte {area : Nat} (ha : 1 ≤ area ∧ area ≤ 3) (e : Env) (bs : List Nat) (l : Lane) (a b k : Nat) :
    areaByte e (areaPut l area a bs) b k =
      if b = area ∧ a ≤ k ∧ k < a + bs.length then bs.getD (k - a) 0 % 256 else areaByte e l b k := by
  induction bs generalizing l a with
  | nil => rw [areaPut, if_neg (by simp only [List.length_nil]; omega)]
  | cons v bs ih =>
    rw [areaPut, ih, List.length_cons]
    by_cases hb : b = area
    · subst hb
      by_cases hk : k = a
      · subst hk
        rw [if_neg (by omega), if_pos (by omega), areaPutByte_whole ha, Nat.sub_self, List.getD_cons_zero]
      · rw [areaPutByte_other e l v (by simp [hk])]
        by_cases hin : a ≤ k ∧ k < a + (bs.length + 1)
        · rw [if_pos (by omega), if_pos (by omega), show k - a = k - (a + 1) + 1 by omega, List.getD_cons_succ]
        · rw [if_neg (by omega), if_neg (by omega)]
    · rw [if_neg (by simp [hb]), if_neg (by simp [hb]), areaPutByte_other e l v (by simp [hb])]

theorem areaGet_areaPut {area : Nat} (ha : 1 ≤ area ∧ area ≤ 3) (e : Env) (l : Lane) (a : Nat) (bs : List Nat) :
    areaGet e (areaPut l area a bs) area a bs.length = leNat bs := by
  have hbytes : ((List.range bs.length).map fun k => areaByte e (areaPut l area a bs) area (a + k)) =
      bs.map (· % 256) := by
    refine List.ext_getElem (by simp) fun k h1 h2 => ?_
    have hk : k < bs.length := by simpa using h2
    rw [List.getElem_map, List.getElem_range, areaPut_byte ha, if_pos (by omega), Nat.add_sub_cancel_left,
      List.getD_eq_getElem _ _ hk, List.getElem_map]
  rw [areaGet, hbytes, leNat_map_mod]

/-! ### Writes -/

@[simp] theorem LaneMem.touch_m (m : LaneMem) (p : Nat) : (m.touch p).m = m.m := by
  unfold LaneMem.touch; split <;> rfl
@[simp] theorem LaneMem.touch_d (m : LaneMem) (p : Nat) : (m.touch p).d = m.d := by
  unfold LaneMem.touch; split <;> rfl
@[simp] theorem LaneMem.touch_inst (m : LaneMem) (p : Nat) : (m.touch p).inst = m.inst := by
  unfold LaneMem.touch; split <;> rfl

section
variable {m : May} {l₀ l : Lane}

/-- The signature and the dirty pages stand in no frame. -/
theorem Lane.Within.noteWrite (h : l₀.Within m l) (area a : Nat) : l₀.Within m (l.noteWrite area a) := by
  unfold Lane.noteWrite
  split
  · exact { h with
      insts := fun k hk => by rw [← h.insts k hk, Lane.inst, LaneMem.touch_inst]; rfl
      mem := fun hm => by rw [LaneMem.touch_m, LaneMem.touch_d]; exact h.mem hm }
  · exact { h with
      insts := fun k hk => by rw [← h.insts k hk, Lane.inst, LaneMem.touch_inst]; rfl
      mem := fun hm => by rw [LaneMem.touch_m, LaneMem.touch_d]; exact h.mem hm }
  · exact h

theorem Lane.Within.areaPutByte (h : l₀.Within m l) (area a mask v : Nat) (hm : m.mem = true := by rfl) :
    l₀.Within m (areaPutByte l area a mask v) := by
  have hno : ∀ p : Prop, m.mem = false → p := fun _ hf => absurd hm (by simp [hf])
  unfold Machine.areaPutByte
  split
  · exact { h with mem := hno _ }
  · exact { h with mem := hno _ }
  · exact { h with mem := hno _ }
  · exact h

theorem Lane.Within.areaPut (h : l₀.Within m l) (area a : Nat) (bs : List Nat) (hm : m.mem = true := by rfl) :
    l₀.Within m (areaPut l area a bs) := by
  induction bs generalizing l a with
  | nil => exact h
  | cons b bs ih => exact ih (h.areaPutByte area a 255 b hm) (a + 1)

theorem Lane.Within.writeBit (h : l₀.Within m l) (e : Env) (b : BitOp) (v : Bool) (hm : m.mem = true := by rfl)
    (hf : fOV ∈ m.flags := by simp) : l₀.Within m (writeBit e l b v) :=
  .ite ((h.areaPutByte _ _ _ _ hm).noteWrite ..) (h.stick fOV true hf)

theorem Lane.Within.writeN (h : l₀.Within m l) (e : Env) (area a n v : Nat) (hm : m.mem = true := by rfl)
    (hf : fOV ∈ m.flags := by simp) : l₀.Within m (writeN e l area a n v) :=
  .ite ((h.areaPut _ _ _ hm).noteWrite ..) (h.stick fOV true hf)

end

theorem areaByte_noteWrite (e : Env) (l : Lane) (area a b k : Nat) :
    areaByte e (l.noteWrite area a) b k = areaByte e l b k :=
  ((Lane.Within.refl l (m := {})).noteWrite area a).areaByte rfl e b k

/-- A bit operand of Q, M or D takes the value written (R207, R208). -/
theorem writeBit_stored {b : BitOp} (hb : 1 ≤ b.area ∧ b.area ≤ 3) (e : Env) (l : Lane) (v : Bool) :
    BitStored e l ((writeBit e l b v).next (1 + areaCost b.area b.x)) b v := by
  unfold BitStored bitOut
  extract_lets a
  by_cases hin : inArea e b.area (a / 8) 1 = true
  · have hw : writeBit e l b v =
        (areaPutByte l b.area (a / 8) (2 ^ (a % 8)) (b2n v * 2 ^ (a % 8))).noteWrite b.area (a / 8) := if_pos hin
    have hmask : 2 ^ (a % 8) < 256 := Nat.pow_lt_pow_right (a := 2) (n := 8) (by decide) (Nat.mod_lt a (by decide))
    have hbyte : ∀ c k, areaByte e ((writeBit e l b v).next (1 + areaCost b.area b.x)) c k =
        areaByte e (areaPutByte l b.area (a / 8) (2 ^ (a % 8)) (b2n v * 2 ^ (a % 8))) c k := fun c k => by
      rw [hw]; exact areaByte_noteWrite ..
    rw [if_neg (by simpa using hin)]
    refine ⟨fun k hk => ?_, fun c k hck => ?_, ?_⟩
    · rw [hbyte, areaPutByte_same hb hmask, Nat.testBit_two_pow, Nat.testBit_mul_two_pow]
      by_cases h : k = a % 8
      · subst h
        cases v <;> simp [hk, b2n]
      · simp [h, hk, Ne.symm h]
    · rw [hbyte, areaPutByte_other e l _ fun h => hck ⟨h.1, by omega, by omega⟩]
    · rw [hw]
      exact (((Lane.Within.refl l).areaPutByte ..).noteWrite ..).next _
  · have hw : writeBit e l b v = l.stick fOV true := if_neg hin
    rw [if_pos (by simpa using hin), hw]
    exact ⟨by simp, ((Lane.Within.refl l).stick ..).next _⟩

theorem writeN_eq (e : Env) (l : Lane) (area a n v : Nat) : writeN e l area a n v =
    if inArea e area a n = true then (areaPut l area a (leBytes n v)).noteWrite area a else l.stick fOV true := rfl

/-- The bytes after a write of `n` bytes that lie in the area, whatever else but memory changes then. -/
theorem bytes_writeN {e : Env} {l l' : Lane} {area a n v : Nat} {m : May} (ha : 1 ≤ area ∧ area ≤ 3)
    (hv : v < 2 ^ (8 * n)) (hin : inArea e area a n = true) (h : (writeN e l area a n v).Within m l')
    (hm : m.mem = false) :
    areaGet e l' area a n = v ∧ BytesStay e l l' area a n := by
  have hbyte : ∀ c k, areaByte e l' c k = areaByte e (areaPut l area a (leBytes n v)) c k := fun c k => by
    rw [h.areaByte hm, writeN_eq, if_pos hin, areaByte_noteWrite]
  have hlen := Crypto.leBytes_length n v
  refine ⟨?_, fun c k hck => ?_⟩
  · calc areaGet e l' area a n
        = areaGet e (areaPut l area a (leBytes n v)) area a (leBytes n v).length := by simp only [areaGet, hbyte, hlen]
      _ = v % 256 ^ n := by rw [areaGet_areaPut ha, leNat_leBytes]
      _ = v := Nat.mod_eq_of_lt (by rwa [show 256 = 2 ^ 8 by rfl, ← pow_mul])
  · rw [hbyte, areaPut_byte ha, if_neg (by rwa [hlen])]

/-! ### Bit stores -/

/-- Settles O2: each store is one write of the operand bit, or none while BA = 0. -/
theorem laneBitStores : Obligations.LaneBitStores := by
  unfold Obligations.LaneBitStores
  intro b h1 h3
  have hstored := @writeBit_stored b ⟨h1, h3⟩
  have hrun : ∀ (e : Env) (l : Lane) v, l.Within { mem := true, flags := [fOV] } (writeBit e l b v) :=
    fun e l v => (Lane.Within.refl l).writeBit e b v
  refine ⟨?_, ?_, ?_⟩
  · exact laneDoes_of (fun _ => rfl) (fun e l => (hrun e l _).run) fun e l => hstored e l _
  · refine laneDoes_of (fun _ => rfl) (fun e l => (Lane.Within.ite (hrun e l _) (.refl l)).run) fun e l => ?_
    rw [zSET]
    split
    · exact hstored e l true
    · exact (Lane.Within.refl l).next _
  · refine laneDoes_of (fun _ => rfl) (fun e l => (Lane.Within.ite (hrun e l _) (.refl l)).run) fun e l => ?_
    rw [zRST]
    split
    · exact hstored e l false
    · exact (Lane.Within.refl l).next _

end Sys2Proof.Machine
end

section
/-!
The branch stack (R212), edges and counters (R217).
-/

namespace Sys2Proof.Machine

/-! ### The branch stack -/

theorem zBOPEN_open {l : Lane} (h : l.c.stack.length < 16) (o : Nat) (n : Bool) (e : Env) : zBOPEN o n e l =
    (l.putStack (.bit l.c.ba (o + 4 * b2n n) :: l.c.stack)).next 1 := if_neg (by omega)

theorem zCALL_open {l : Lane} (h : l.c.stack.length < 16) (t : Nat) (e : Env) : zCALL t e l =
    (l.putStack (.call (l.c.pc + 1) :: l.c.stack)).jump t 3 := if_neg (by omega)

theorem zBCLOSE_bit {l : Lane} {sv : Bool} {o : Nat} {rest : List BrEntry} (h : l.c.stack = .bit sv o :: rest) (e : Env) :
    zBCLOSE e l = ((l.setBa (brOp o sv l.c.ba)).putStack rest).next 1 := by
  rw [zBCLOSE, h]; rfl

theorem zRET_call {l : Lane} {r : Nat} {rest : List BrEntry} (h : l.c.stack = .call r :: rest) (e : Env) :
    zRET e l = (l.putStack rest).jump r 3 := by
  rw [zRET, h]; rfl

/-! The operator an entry keeps: o in bits 1:0, N in bit 2. -/

theorem brOp_and (n sv b : Bool) : brOp (0 + 4 * b2n n) sv b = (sv && xor b n) := by cases n <;> rfl
theorem brOp_or (n sv b : Bool) : brOp (1 + 4 * b2n n) sv b = (sv || xor b n) := by cases n <;> rfl
theorem brOp_xor (n sv b : Bool) : brOp (2 + 4 * b2n n) sv b = xor sv (xor b n) := by cases n <;> rfl

/-- Settles O3: with room on the stack, or its own entry on top, each of the four is one update of the stack. -/
theorem laneBranchStack : Obligations.LaneBranchStack := by
  unfold Obligations.LaneBranchStack
  refine ⟨fun o n => ?_, fun o n sv rest ho => ?_, fun t => ?_, fun r rest => ?_⟩
  · exact laneDoesIf_eq (fun _ => rfl) (fun e l h => zBOPEN_open h o n e)
      (fun e l => ((Lane.Within.refl l).putStack _).next 1) fun e l _ hg => ⟨rfl, hg⟩
  · refine laneDoesIf_eq (fun _ => rfl) (fun e l h => zBCLOSE_bit h e)
      (fun e l => (((Lane.Within.refl l).setBa _).putStack _).next 1) fun e l _ hg => ⟨?_, rfl, hg⟩
    obtain rfl | rfl | rfl : o = 0 ∨ o = 1 ∨ o = 2 := by omega
    · exact brOp_and n sv l.c.ba
    · exact brOp_or n sv l.c.ba
    · exact brOp_xor n sv l.c.ba
  · exact laneDoesIf_eq (fun _ => rfl) (fun e l h => zCALL_open h t e)
      (fun e l => ((Lane.Within.refl l).putStack _).jump t 3) fun e l _ hg => ⟨rfl, hg⟩
  · exact laneDoesIf_eq (fun _ => rfl) (fun e l h => zRET_call h e)
      (fun e l => ((Lane.Within.refl l).putStack _).jump r 3) fun e l _ hg => ⟨rfl, hg⟩

/-! ### Edges and counters -/

/-- An edge or a counter takes a new state, BA a value, and the next step follows. -/
theorem instStep_goes (e : Env) (l : Lane) (id : Nat) (x : Inst) (b : Bool) (cyc : Nat) :
    l.Goes { ba := true, insts := [id] } (l.c.pc + 1) cyc (((Lane.setInst e l id x).setBa b).next cyc) :=
  (((Lane.Within.refl l).setInst e id x).setBa b).next cyc

theorem instStep_inst (e : Env) (l : Lane) (id : Nat) (x : Inst) (b : Bool) (cyc : Nat) :
    (((Lane.setInst e l id x).setBa b).next cyc).inst id = x := by simp

/-- A counter takes a new state only when BA = 1. -/
theorem instWhen_goes (e : Env) (l : Lane) (id : Nat) (x : Inst) (cyc : Nat) :
    l.Goes { insts := [id] } (l.c.pc + 1) cyc ((if l.c.ba then Lane.setInst e l id x else l).next cyc) :=
  (Lane.Within.ite ((Lane.Within.refl l).setInst e id x) (.refl l)).next cyc

theorem instWhen_inst (e : Env) (l : Lane) (id : Nat) (x : Inst) (cyc : Nat) :
    ((if l.c.ba then Lane.setInst e l id x else l).next cyc).inst id = if l.c.ba = true then x else l.inst id := by
  rw [Lane.next_inst]
  split
  · rw [Lane.setInst_inst, if_pos rfl]
  · rfl

theorem evalCTU_cv (x : Inst) (b : Bool) : (evalCTU x b).cv =
    if x.initU = false ∧ b = true ∧ x.uin = false then min (x.cv + 1) (2 ^ 31 - 1) else x.cv := by
  simp [evalCTU, and_assoc]

theorem evalCTD_cv (x : Inst) (b : Bool) : (evalCTD x b).cv =
    if x.initD = false ∧ b = true ∧ x.din = false then max (x.cv - 1) (-(2 ^ 31)) else x.cv := by
  simp [evalCTD, and_assoc]

/-- Settles O4: an edge or counter instruction is one new state of what it names, and for most a new BA. -/
theorem laneEdgesAndCounters : Obligations.LaneEdgesAndCounters := by
  unfold Obligations.LaneEdgesAndCounters
  refine ⟨fun id => ?_, fun id => ?_, fun v id => ?_, fun id => ?_, fun id => ?_, fun v id => ?_, fun v id => ?_⟩
  · refine laneDoes_goes (fun _ => rfl) (fun e l => instStep_goes ..) fun e l h => ⟨?_, instStep_inst .., h⟩
    exact (Bool.and_assoc ..).symm
  · refine laneDoes_goes (fun _ => rfl) (fun e l => instStep_goes ..) fun e l h => ⟨?_, instStep_inst .., h⟩
    exact (Bool.and_assoc ..).symm
  · refine laneDoes_goes (f := zCTU v id) (fun _ => rfl) (fun e l => instStep_goes ..) fun e l h => ?_
    have hx : (zCTU v id e l).inst id = evalCTU (l.inst id) l.c.ba := instStep_inst ..
    rw [hx]
    exact ⟨evalCTU_cv .., rfl, rfl, rfl, rfl, rfl, h⟩
  · refine laneDoes_goes (f := zCTD id) (fun _ => rfl) (fun e l => instStep_goes ..) fun e l h => ?_
    have hx : (zCTD id e l).inst id = evalCTD (l.inst id) l.c.ba := instStep_inst ..
    rw [hx]
    exact ⟨evalCTD_cv .., rfl, rfl, rfl, rfl, rfl, h⟩
  · exact laneDoes_goes (fun _ => rfl) (fun e l => instWhen_goes ..) fun e l h => ⟨instWhen_inst .., h⟩
  · exact laneDoes_goes (fun _ => rfl) (fun e l => instWhen_goes ..) fun e l h => ⟨instWhen_inst .., h⟩
  · exact laneDoes_goes (fun _ => rfl) (fun e l => ((Lane.Within.refl l).setV v _).next 4) fun e l h =>
      ⟨by simp [zCRD], h⟩

end Sys2Proof.Machine
end

section
/-!
The accumulator (R218, R220) and the word stores (R219).
-/

namespace Sys2Proof.Machine

/-! ### What ACC takes -/

/-- ZR and NG follow ACC. -/
theorem znAcc_follows (l : Lane) (cyc : Nat) : (l.znAcc.next cyc).flag fZR = decide (l.c.acc = 0) ∧
    (l.znAcc.next cyc).flag fNG = decide (l.c.acc < 0) := by
  rw [Lane.next_flag, Lane.next_flag, Lane.znAcc_flag, Lane.znAcc_flag]
  exact ⟨rfl, rfl⟩

theorem accTakes_accArith (l : Lane) (x : Int) (cyc : Nat) : AccTakes l ((l.accArith x).next cyc) x := by
  refine ⟨?_, ?_⟩
  · rw [Lane.accArith_eq, Lane.next_c_acc, Lane.next_c_sat, Lane.next_flag]
    split
    · next hs => simp [hs]
    · next hs =>
      split
      · simp
      · split
        · simp
        · simp [hs]
  · rw [Lane.accArith_eq]
    split_ifs
    · exact znAcc_follows ..
    · exact znAcc_follows ..
    · exact znAcc_follows ..
    · exact znAcc_follows ..

/-- OV does not matter to what ACC takes. -/
theorem accTakes_stick (l l' : Lane) (b : Bool) (x : Int) : AccTakes (l.stick fOV b) l' x ↔ AccTakes l l' x := by
  simp [AccTakes]

theorem accLoads_accLoad (l : Lane) (x : Int) (cyc : Nat) : AccLoads ((l.accLoad x).next cyc) x :=
  ⟨rfl, rfl, znAcc_follows (l.putAcc x false) cyc⟩

@[simp] theorem Lane.accLoad_ov (l : Lane) (x : Int) : (l.accLoad x).flag 4 = l.flag 4 := by
  simp [Lane.accLoad_eq]

@[simp] theorem Lane.accArith_ov (l : Lane) (x : Int) : (l.accArith x).flag 4 = l.flag 4 := by
  rw [Lane.accArith_eq]
  split_ifs <;> simp

theorem fdiv_two_pow (x : Int) (n : Nat) : x.fdiv (2 ^ n) = x / 2 ^ n :=
  Int.fdiv_eq_ediv_of_nonneg x (by positivity)

/-! ### The instructions with a memory operand -/

section
variable (o : MaOp) (e : Env) (l : Lane)

/-- The lane after the read of the operand. -/
def Lane.operandRead : Lane := l.stick fOV (!(inArea e o.area (accAddr l o) (sizeBytes o.size)))

theorem zLDA_eq : zLDA o e l = ((l.operandRead o e).accLoad (accIn e l o)).next (1 + areaCost o.area o.x) := by
  rw [zLDA, readAcc_eq]; rfl

theorem zADD_eq : zADD o e l = ((l.operandRead o e).accArith (l.c.acc + accIn e l o)).next (1 + areaCost o.area o.x) := by
  simp [zADD, readAcc_eq, Lane.operandRead]

theorem zSUB_eq : zSUB o e l = ((l.operandRead o e).accArith (l.c.acc - accIn e l o)).next (1 + areaCost o.area o.x) := by
  simp [zSUB, readAcc_eq, Lane.operandRead]

theorem zCMPA_eq : zCMPA o e l = (((l.operandRead o e).setFlag fEQ (decide (l.c.acc = accIn e l o))).setFlag fNG
    (decide (l.c.acc < accIn e l o))).next (1 + areaCost o.area o.x) := by
  simp [zCMPA, readAcc_eq, Lane.operandRead]

end

theorem Lane.operandRead_ov (o : MaOp) (e : Env) (l : Lane) : (l.operandRead o e).flag 4 =
    (l.flag 4 || !(inArea e o.area (accAddr l o) (sizeBytes o.size))) := by simp [Lane.operandRead]

theorem Lane.Within.operandRead {m : May} (l : Lane) (o : MaOp) (e : Env) (hf : fOV ∈ m.flags := by simp) :
    l.Within m (l.operandRead o e) := (Lane.Within.refl l).stick fOV _ hf

theorem accTakes_operand (l : Lane) (o : MaOp) (e : Env) (x : Int) (cyc : Nat) :
    AccTakes l (((l.operandRead o e).accArith x).next cyc) x := (accTakes_stick ..).mp (accTakes_accArith ..)

theorem zCLRF_gv (m : Nat) (e : Env) (l : Lane) : (zCLRF m e l).flag fGV = (l.flag fGV && !(m.testBit fGV)) := by
  rw [zCLRF_flag, show 64 = 2 ^ 6 by rfl, Nat.testBit_mod_two_pow]
  simp

/-- Settles O6: each instruction reads its operand and hands ACC an exact result, or loads it. -/
theorem laneAccumulator : Obligations.LaneAccumulator := by
  unfold Obligations.LaneAccumulator
  refine ⟨fun o => ?_, fun o => ?_, fun o => ?_, fun o => ?_, fun r => ?_, fun r => ?_, fun r => ?_, fun r q h => ?_, ?_,
    fun n => ?_, fun n => ?_, fun m => ?_, ?_, fun r => ?_⟩
  · refine laneDoesIf_eq (fun _ => rfl) (fun e l _ => zLDA_eq o e l)
      (fun e l => ((Lane.Within.operandRead l o e).accLoad _).next _) fun e l _ hg => ⟨accLoads_accLoad .., ?_, hg⟩
    simp [OvIfOut, Lane.operandRead_ov]
  · refine laneDoesIf_eq (fun _ => rfl) (fun e l _ => zADD_eq o e l)
      (fun e l => ((Lane.Within.operandRead l o e).accArith _).next _) fun e l _ hg => ⟨accTakes_operand .., ?_, hg⟩
    simp [OvIfOut, Lane.operandRead_ov]
  · refine laneDoesIf_eq (fun _ => rfl) (fun e l _ => zSUB_eq o e l)
      (fun e l => ((Lane.Within.operandRead l o e).accArith _).next _) fun e l _ hg => ⟨accTakes_operand .., ?_, hg⟩
    simp [OvIfOut, Lane.operandRead_ov]
  · refine laneDoesIf_eq (fun _ => rfl) (fun e l _ => zCMPA_eq o e l)
      (fun e l => (((Lane.Within.operandRead l o e).setFlag fEQ _).setFlag fNG _).next _)
      fun e l _ hg => ⟨by simp, by simp, ?_, hg⟩
    simp [OvIfOut, Lane.operandRead_ov]
  · exact laneDoes_goes (fun _ => rfl) (fun e l => ((Lane.Within.refl l).accLoad _).next 1) fun e l h =>
      ⟨accLoads_accLoad .., h⟩
  · exact laneDoes_goes (fun _ => rfl) (fun e l => ((Lane.Within.refl l).accArith _).next 1) fun e l h =>
      ⟨accTakes_accArith .., h⟩
  · exact laneDoes_goes (fun _ => rfl) (fun e l => ((Lane.Within.refl l).accArith _).next 1) fun e l h =>
      ⟨accTakes_accArith .., h⟩
  · refine laneDoes_goes (fun _ => rfl) (fun e l => ((Lane.Within.refl l).accArith _).next 3) fun e l hg => ⟨?_, hg⟩
    rw [← fdiv_two_pow]
    exact accTakes_accArith ..
  · exact laneDoes_goes (fun _ => rfl) (fun e l => ((Lane.Within.refl l).accArith _).next 1) fun e l h =>
      ⟨accTakes_accArith .., h⟩
  · have heq : ∀ (e : Env) (l : Lane), zASRA n e l =
        (l.putAcc (if l.c.sat = true then l.c.acc else l.c.acc / 2 ^ n) l.c.sat).znAcc.next 1 := fun e l => by
      simp only [zASRA, fdiv_two_pow]
      split <;> rfl
    exact laneDoesIf_eq (fun _ => rfl) (fun e l _ => heq e l)
      (fun e l => ((Lane.Within.refl l).putAcc _ _).znAcc.next 1) fun e l _ h =>
      ⟨rfl, rfl, and_assoc.mp ⟨znAcc_follows .., h⟩⟩
  · exact laneDoes_goes (fun _ => rfl) (fun e l => ((Lane.Within.refl l).accArith _).next 1) fun e l h =>
      ⟨accTakes_accArith .., h⟩
  · exact laneDoes_of (fun _ => rfl) (fun _ _ => rfl) fun e l => ⟨rfl, rfl, zCLRF_gv m e l⟩
  · exact laneDoes_goes (fun _ => rfl) (fun e l => ((Lane.Within.refl l).accLoad 0).next 1) fun e l h =>
      ⟨accLoads_accLoad .., h⟩
  · refine laneDoes_goes (fun _ => rfl) (fun e l => ((Lane.Within.refl l).setV r _).next 1) fun e l h => ⟨?_, h⟩
    rw [zRDAH, fdiv_two_pow]
    simp

/-! ### The word stores -/

theorem clampI_eq {lo hi : Int} (h : lo ≤ hi) (x : Int) : clampI lo hi x = max lo (min hi x) := by
  unfold clampI
  split
  · omega
  · split <;> omega

/-- ACC held to the range of an access size (R219). -/
def accHeld (sz : Nat) (x : Int) : Int :=
  max ([-(2 ^ 31), -(2 ^ 15), 0, 0].getD sz 0) (min ([2 ^ 31 - 1, 2 ^ 15 - 1, 65535, 255].getD sz 0) x)

theorem accTo_eq {sz : Nat} (h : sz < 4) (x : Int) : accTo sz x = (accHeld sz x, decide (accHeld sz x ≠ x)) := by
  obtain rfl | rfl | rfl | rfl : sz = 0 ∨ sz = 1 ∨ sz = 2 ∨ sz = 3 := by omega
  all_goals
    simp only [accTo]
    rw [clampI_eq (by decide)]
    rfl

theorem unsgn_lt (n : Nat) (i : Int) : unsgn n i < 2 ^ n := by
  have h : i % 2 ^ n < 2 ^ n := Int.emod_lt_of_pos i (by positivity)
  exact (Int.toNat_lt_of_ne_zero (by positivity)).mpr (by exact_mod_cast h)

section
variable {e : Env} {l : Lane} {area a n v : Nat}

theorem writeN_out (h : inArea e area a n = false) : writeN e l area a n v = l.stick fOV true := by
  rw [writeN_eq, if_neg (by simp [h])]

theorem writeN_within {m : May} (h : inArea e area a n = true) (hm : m.mem = true := by rfl) :
    l.Within m (writeN e l area a n v) := by
  rw [writeN_eq, if_pos h]
  exact ((Lane.Within.refl l).areaPut _ _ _ hm).noteWrite ..

/-- A store of `n` bytes of Q, M or D that then moves OV at most. -/
theorem wordStored_of {b : Bool} {m : May} (ha : 1 ≤ area ∧ area ≤ 3) (hv : v < 2 ^ (8 * n))
    (hb : b = true → fOV ∈ m.flags) (cyc : Nat) :
    WordStored e l (((writeN e l area a n v).stick fOV b).next cyc) area a n v cyc m := by
  have hstick : ∀ {m' : May} {l' : Lane}, l.Within m' l' → (b = true → fOV ∈ m'.flags) → l.Within m' (l'.stick fOV b) :=
    fun h hf => by
      cases b
      · exact h
      · exact h.setFlag fOV true (hf rfl)
  unfold WordStored
  split
  · next hin =>
    have hafter : (writeN e l area a n v).Within {flags := [fOV]} ((writeN e l area a n v).stick fOV b) :=
      (Lane.Within.refl _).stick ..
    obtain ⟨hget, hstay⟩ := bytes_writeN ha hv hin hafter rfl
    exact ⟨hget, hstay, (hstick (m' := { m with mem := true }) (writeN_within hin) hb).next cyc⟩
  · next hin =>
    rw [writeN_out (by simpa using hin)]
    exact ⟨by simp, (((Lane.Within.refl l).stick ..).stick ..).next cyc⟩

end

/-- Settles O7: a store is one write of bytes whose value fits them, a load one read. -/
theorem laneWordStores : Obligations.LaneWordStores := by
  unfold Obligations.LaneWordStores
  refine ⟨fun o h1 h3 hs => ?_, fun r => ?_, fun o h1 h3 => ?_, fun o => ?_⟩
  · refine laneDoes_of (fun _ => rfl)
      (fun e l => (((Lane.Within.refl l (m := { mem := true, flags := [fOV] })).writeN ..).stick ..).run) fun e l => ?_
    extract_lets lo hi w
    have hto : accTo o.size l.c.acc = (w, decide (w ≠ l.c.acc)) := accTo_eq hs l.c.acc
    have heq : zSTW o e l = ((writeN e l o.area (accAddr l o) (sizeBytes o.size) (unsgn (8 * sizeBytes o.size) w)).stick
        fOV (decide (w ≠ l.c.acc))).next (1 + areaCost o.area o.x) := by
      rw [zSTW, hto]; rfl
    rw [heq]
    refine ⟨wordStored_of ⟨h1, h3⟩ (unsgn_lt ..) (by simp) _, fun hin => ?_⟩
    rw [Lane.next_flag, Lane.stick_flag, if_pos rfl,
      (writeN_within hin (m := { mem := true })).flags fOV (by simp)]
  · refine laneDoes_goes (m := { v := [r], flags := [fOV] }) (fun _ => rfl)
      (fun e l => (((Lane.Within.refl l).setV r _).stick ..).next 1) fun e l h => ?_
    have hto := accTo_eq (sz := 0) (by decide) l.c.acc
    refine ⟨?_, ?_, h⟩
    · rw [zSTAV, hto, Lane.next_v, Lane.stick_v, Lane.setV_v, if_pos rfl]
      rfl
    · rw [zSTAV, hto, Lane.next_flag, Lane.stick_flag, if_pos rfl, Lane.setV_flag]
      rfl
  · refine laneDoes_of (fun _ => rfl)
      (fun e l => ((Lane.Within.refl l (m := { mem := true, flags := [fOV] })).writeN ..).run) fun e l => ?_
    exact wordStored_of (b := false) ⟨h1, h3⟩ (l.v o.v).isLt (by simp) _
  · have heq : ∀ (e : Env) (l : Lane), zLDV o e l =
        ((l.stick fOV (!(inArea e o.area (effAddr l o.x o.ixn o.addr * 4) 4))).setV o.v
          (BitVec.ofNat 32 (wordIn e l o.area (effAddr l o.x o.ixn o.addr * 4) 4))).next (1 + areaCost o.area o.x) :=
      fun e l => by rw [zLDV, readWord_eq]
    exact laneDoesIf_eq (fun _ => rfl) (fun e l _ => heq e l)
      (fun e l => (((Lane.Within.refl l).stick ..).setV o.v _).next _) fun e l _ h => ⟨by simp, by simp [OvIfOut], h⟩

end Sys2Proof.Machine
end

section
/-!
Integer arithmetic (R221), moves, word logic, shifts and comparisons (R222).
-/

namespace Sys2Proof.Machine

/-! ### Signed numbers of a few bits -/

theorem sgn_range {n : Nat} (hn : 1 ≤ n) (w : Nat) : -(2 ^ (n - 1)) ≤ sgn n w ∧ sgn n w < 2 ^ (n - 1) := by
  obtain ⟨k, rfl⟩ : ∃ k, n = k + 1 := ⟨n - 1, by omega⟩
  have hlt : w % 2 ^ (k + 1) < 2 ^ (k + 1) := Nat.mod_lt _ (Nat.two_pow_pos _)
  have htwo : (2 : Int) ^ (k + 1) = 2 * 2 ^ k := pow_succ' 2 k
  have hcast : ((2 ^ k : Nat) : Int) = 2 ^ k := by push_cast; rfl
  rw [pow_succ'] at hlt
  rw [Nat.add_sub_cancel]
  unfold sgn
  extract_lets m
  have hm : m < 2 * 2 ^ k := by rwa [← pow_succ'] at hlt ⊢
  rw [Nat.add_sub_cancel]
  split <;> omega

/-- A number that fits 32 signed bits is kept by the word that holds it. -/
theorem toInt_ofInt_fits {i : Int} (h : unfit i = false) : (BitVec.ofInt 32 i).toInt = i := by
  simp only [unfit, Bool.or_eq_false_iff, decide_eq_false_iff_not] at h
  exact BitVec.toInt_ofInt_eq_self (by decide) (by omega) (by omega)

theorem unfit_sgn12 (n : Nat) : unfit (sgn 12 n) = false := by
  have := sgn_range (n := 12) (by decide) n
  simp only [unfit, Bool.or_eq_false_iff, decide_eq_false_iff_not]
  omega

theorem toInt_imm12 (n : Nat) : (BitVec.ofInt 32 (sgn 12 n)).toInt = sgn 12 n := toInt_ofInt_fits (unfit_sgn12 n)

/-! ### ZR and NG -/

theorem zn_putZN (l : Lane) (d : Nat) (w : Word) : ZN (l.putZN d w) w := .of_flags (d := d) rfl rfl

theorem ZN.setFlag {l : Lane} {w : Word} (h : ZN l w) {k : Nat} (hk : k ≠ fZR ∧ k ≠ fNG) (b : Bool) :
    ZN (l.setFlag k b) w := by
  rwa [ZN, Lane.setFlag_flag, Lane.setFlag_flag, if_neg hk.1.symm, if_neg hk.2.symm]

theorem ZN.stick {l : Lane} {w : Word} (h : ZN l w) {k : Nat} (hk : k ≠ fZR ∧ k ≠ fNG) (b : Bool) :
    ZN (l.stick k b) w := by
  cases b
  · exact h
  · exact h.setFlag hk true

theorem ZN.next {l : Lane} {w : Word} (h : ZN l w) (cyc : Nat) : ZN (l.next cyc) w := h

/-! ### Sums -/

/-- The frame of an integer instruction that gives a carry. -/
abbrev carryFrame (d : Nat) : May := { v := [d], flags := [fZR, fNG, fCY, fOV] }

theorem over32_eq (i : Int) : over32 i = unfit i := rfl

section
variable (l : Lane) (d : Nat) (a b : Word)

theorem addInto_within : l.Within (carryFrame d) (addInto l d a b) :=
  (((Lane.Within.refl l).putZN d _).setFlag fCY _).stick fOV _

theorem addInto_zn : ZN (addInto l d a b) (a + b) := ((zn_putZN ..).setFlag (by decide) _).stick (by decide) _

theorem addInto_v : (addInto l d a b).v d = a + b := by simp [addInto]

theorem addInto_cy : (addInto l d a b).flag 0 = decide (2 ^ 32 ≤ a.toNat + b.toNat) := by simp [addInto]

theorem addInto_ov : (addInto l d a b).flag 4 = (l.flag 4 || unfit (a.toInt + b.toInt)) := by
  simp [addInto, over32_eq]

end

/-! ### Products and quotients -/

/-- A result and whether it sets OV, put in a register. -/
def Lane.putOv (l : Lane) (d : Nat) (r : Word × Bool) : Lane := (l.putZN d r.1).stick fOV r.2

section
variable (l : Lane) (d : Nat) (r : Word × Bool) (cyc : Nat)

theorem putOv_goes : l.Goes { v := [d], flags := [fZR, fNG, fOV] } (l.c.pc + 1) cyc ((l.putOv d r).next cyc) :=
  (((Lane.Within.refl l).putZN d _).stick fOV _).next cyc

theorem putOv_v : ((l.putOv d r).next cyc).v d = r.1 := by simp [Lane.putOv]

theorem putOv_result : ZN ((l.putOv d r).next cyc) r.1 := ((zn_putZN ..).stick (by decide) _).next cyc

theorem putOv_zn : ZN ((l.putOv d r).next cyc) (((l.putOv d r).next cyc).v d) := by
  rw [putOv_v]
  exact putOv_result ..

theorem putOv_ov : ((l.putOv d r).next cyc).flag fOV = (l.flag fOV || r.2) := by simp [Lane.putOv]

end

theorem idiv_zero (a : Word) : idiv a 0 =
    (if a.toInt = 0 then 0 else if a.toInt < 0 then 0x80000000 else 0x7FFFFFFF, true) := by
  have hmsb : a.msb = decide (a.toInt < 0) := BitVec.msb_eq_toInt
  have hz : a = 0 ↔ a.toInt = 0 := by rw [← BitVec.toInt_inj]; rfl
  rw [idiv, if_pos rfl, hmsb]
  simp only [hz, decide_eq_true_eq]

/-- The one quotient that does not fit 32 bits is that of -2^31 by -1. -/
theorem unfit_tdiv {a b : Word} (hb : b ≠ 0) :
    unfit (a.toInt.tdiv b.toInt) = decide (a.toInt = -(2 ^ 31) ∧ b.toInt = -1) := by
  have ha1 := BitVec.le_toInt a
  have ha2 := BitVec.toInt_lt (x := a)
  have hb0 : b.toInt ≠ 0 := fun h => hb (by rw [← BitVec.toInt_inj, h]; rfl)
  have hle : (a.toInt.tdiv b.toInt).natAbs ≤ a.toInt.natAbs := by
    rw [Int.natAbs_tdiv]
    exact Nat.div_le_self ..
  by_cases hone : b.toInt = -1
  · rw [hone, show (-1 : Int) = -(1) by rfl, Int.tdiv_neg, Int.tdiv_one]
    simp only [unfit, and_true]
    rw [Bool.eq_iff_iff]
    simp only [Bool.or_eq_true, decide_eq_true_eq]
    omega
  · rw [decide_eq_false (by simp [hone])]
    simp only [unfit, Bool.or_eq_false_iff, decide_eq_false_iff_not]
    by_cases hb1 : b.toInt = 1
    · rw [hb1, Int.tdiv_one]; omega
    · have htwo : (a.toInt.tdiv b.toInt).natAbs * 2 ≤ a.toInt.natAbs := by
        rw [Int.natAbs_tdiv]
        exact (Nat.mul_le_mul_left _ (by omega)).trans (Nat.div_mul_le_self ..)
      omega

theorem idiv_of_ne {a b : Word} (hb : b ≠ 0) : idiv a b =
    if a.toInt = -(2 ^ 31) ∧ b.toInt = -1 then (0x7FFFFFFF, true)
    else (BitVec.ofInt 32 (a.toInt.tdiv b.toInt), false) := by
  rw [idiv, if_neg hb]
  simp only [over32_eq, unfit_tdiv hb, decide_eq_true_eq]

theorem toInt_tmod (a b : Word) (hb : b ≠ 0) :
    (BitVec.ofInt 32 (a.toInt.tmod b.toInt)).toInt = a.toInt.tmod b.toInt := by
  have hb1 := BitVec.le_toInt b
  have hb2 := BitVec.toInt_lt (x := b)
  have hb0 : b.toInt ≠ 0 := fun h => hb (by rw [← BitVec.toInt_inj, h]; rfl)
  have hlt : (a.toInt.tmod b.toInt).natAbs < b.toInt.natAbs := by
    rw [Int.natAbs_tmod]
    exact Nat.mod_lt _ (by omega)
  refine toInt_ofInt_fits ?_
  simp only [unfit, Bool.or_eq_false_iff, decide_eq_false_iff_not]
  omega

/-- Settles O8: sums go through `addInto`, the rest put a result with its OV. -/
theorem laneIntegers : Obligations.LaneIntegers := by
  unfold Obligations.LaneIntegers
  refine ⟨fun d a b => ?_, fun d a b => ?_, fun d a n => ?_, fun d a b => ?_, fun d a b => ?_, fun d a b => ?_⟩
  · exact laneDoes_goes (fun _ => rfl) (fun e l => (addInto_within ..).next 1) fun e l h =>
      ⟨addInto_v .., addInto_zn .., addInto_cy .., addInto_ov .., h⟩
  · refine laneDoes_goes (m := carryFrame d) (fun _ => rfl)
      (fun e l => ((((Lane.Within.refl l).putZN d _).setFlag fCY _).stick fOV _).next 1) fun e l h => ?_
    refine ⟨by simp [zISUB], ((zn_putZN ..).setFlag (by decide) _).stick (by decide) _, ?_, ?_, h⟩
    · simp [zISUB, BitVec.ult]
    · simp [zISUB, over32_eq]
  · refine laneDoes_goes (m := carryFrame d) (fun _ => rfl) (fun e l => (addInto_within ..).next 1) fun e l h => ?_
    refine ⟨addInto_v .., addInto_zn .., addInto_cy .., ?_, h⟩
    rw [← toInt_imm12 n]
    exact addInto_ov ..
  · have heq : ∀ e l, zIMUL d a b e l = (l.putOv d (l.v a * l.v b, unfit ((l.v a).toInt * (l.v b).toInt))).next 3 :=
      fun _ _ => rfl
    refine laneDoesIf_eq (fun _ => rfl) (fun e l _ => heq e l) (fun e l => putOv_goes ..) fun e l _ h =>
      ⟨putOv_v .., putOv_result l d (l.v a * l.v b, _) 3, putOv_ov .., h⟩
  · have heq : ∀ e l, zIDIV d a b e l = (l.putOv d (idiv (l.v a) (l.v b))).next 36 := fun _ _ => rfl
    refine laneDoesIf_eq (fun _ => rfl) (fun e l _ => heq e l) (fun e l => putOv_goes ..) fun e l _ h =>
      ⟨?_, putOv_zn .., h⟩
    rw [putOv_v, putOv_ov]
    split
    · next hb =>
      rw [hb, idiv_zero]
      exact ⟨rfl, Bool.or_true _⟩
    · next hb =>
      rw [idiv_of_ne hb]
      split
      · exact ⟨rfl, Bool.or_true _⟩
      · next hne =>
        refine ⟨toInt_ofInt_fits ?_, Bool.or_false _⟩
        rw [unfit_tdiv hb, decide_eq_false hne]
  · have heq : ∀ e l, zIMOD d a b e l = (l.putOv d (imod (l.v a) (l.v b))).next 36 := fun _ _ => rfl
    refine laneDoesIf_eq (fun _ => rfl) (fun e l _ => heq e l) (fun e l => putOv_goes ..) fun e l _ h =>
      ⟨?_, putOv_zn .., h⟩
    rw [putOv_v, putOv_ov, imod]
    split
    · exact ⟨rfl, Bool.or_true _⟩
    · next hb => exact ⟨toInt_tmod _ _ hb, Bool.or_false _⟩

/-! ### Moves and word logic -/

/-- A register takes a result with ZR and NG. -/
theorem putZN_goes (l : Lane) (d : Nat) (w : Word) (cyc : Nat) :
    l.Goes { v := [d], flags := [fZR, fNG] } (l.c.pc + 1) cyc ((l.putZN d w).next cyc) :=
  ((Lane.Within.refl l).putZN d w).next cyc

theorem putZN_reads (l : Lane) (d : Nat) (w : Word) (cyc : Nat) :
    ((l.putZN d w).next cyc).v d = w ∧ ZN ((l.putZN d w).next cyc) (((l.putZN d w).next cyc).v d) := by
  have hv : ((l.putZN d w).next cyc).v d = w := by simp
  exact ⟨hv, hv.symm ▸ (zn_putZN ..).next cyc⟩

theorem upperHalf_toNat (w : Word) {n : Nat} (hn : n < 65536) :
    (BitVec.ofNat 32 (setBits w.toNat 31 16 n)).toNat = n * 65536 + w.toNat % 65536 := by
  have hw := w.isLt
  rw [BitVec.toNat_ofNat, setBits, bits, Nat.shiftRight_eq_div_pow]
  omega

/-! ### Shifts -/

section
variable {f : Word → Nat → Word} {out : Word → Nat → Bool} {d a : Nat} {n : Shift}

theorem zShift_goes (e : Env) (l : Lane) :
    l.Goes { v := [d], flags := [fZR, fNG, fCY] } (l.c.pc + 1) 1 (zShift f out d a n e l) :=
  (Lane.Within.ite ((Lane.Within.refl l).putZN d _) (((Lane.Within.refl l).putZN d _).setFlag fCY _)).next 1

theorem zShift_v (e : Env) (l : Lane) : (zShift f out d a n e l).v d = f (l.v a) (shAmt l n) := by
  rw [zShift, Lane.next_v]
  split <;> simp

theorem zShift_cy (e : Env) (l : Lane) : (zShift f out d a n e l).flag fCY =
    if shAmt l n = 0 then l.flag fCY else out (l.v a) (shAmt l n) := by
  rw [zShift, Lane.next_flag]
  split <;> simp

theorem zShift_zn (e : Env) (l : Lane) : ZN (zShift f out d a n e l) ((zShift f out d a n e l).v d) := by
  rw [zShift_v, zShift]
  refine ZN.next ?_ 1
  split
  · exact zn_putZN ..
  · exact (zn_putZN ..).setFlag (by decide) _

end

theorem rotateLeft_lsb (w : Word) {k : Nat} (h0 : k ≠ 0) :
    (w <<< k ||| w >>> (32 - k)).getLsbD 0 = w.getLsbD (32 - k) := by
  simp [Nat.pos_of_ne_zero h0]

/-! ### Comparisons -/

/-- What a comparison of `a` with `b` gives and leaves. -/
theorem compare_does (l : Lane) (a b : Word) : let l' := (l.compare a b).next 1
    l'.flag fEQ = decide (a = b) ∧ l'.flag fZR = decide (a = b) ∧ l'.flag fNG = decide (a.toInt < b.toInt) ∧
      l'.flag fCY = decide (a.toNat < b.toNat) ∧ l.Goes { flags := [fEQ, fZR, fNG, fCY] } (l.c.pc + 1) 1 l' := by
  refine ⟨?_, ?_, ?_, ?_,
    (((((Lane.Within.refl l).setFlag fEQ _).setFlag fZR _).setFlag fNG _).setFlag fCY _).next 1⟩
  all_goals rw [Lane.next_flag, Lane.compare]
  · simp
  · simp
  · simp [BitVec.slt]
  · simp [BitVec.ult]

/-- Settles O9: a result goes through `putZN`, a shift through `zShift`, a comparison through `compare`. -/
theorem laneWordLogic : Obligations.LaneWordLogic := by
  unfold Obligations.LaneWordLogic
  refine ⟨fun d n => ?_, fun d n hn => ?_, fun d a => ?_, fun d a b => ?_, fun d a b => ?_, fun d a b => ?_, fun d a => ?_,
    fun d a n => ?_, fun d a n => ?_, fun d a n => ?_, fun d a n => ?_, fun a b => ?_, fun a n => ?_⟩
  · exact laneDoes_goes (fun _ => rfl) (fun e l => ((Lane.Within.refl l).setV d _).next 1) fun e l h =>
      ⟨by simp [zLDI], h⟩
  · refine laneDoes_goes (m := { v := [d] }) (fun _ => rfl) (fun e l => ((Lane.Within.refl l).setV d _).next 1)
      fun e l h => ⟨?_, h⟩
    rw [zLDIH, Lane.next_v, Lane.setV_v, if_pos rfl, upperHalf_toNat _ hn]
  · exact laneDoes_goes (fun _ => rfl) (fun e l => ((Lane.Within.refl l).setV d _).next 1) fun e l h =>
      ⟨by simp [zMOV], h⟩
  · exact laneDoes_goes (fun _ => rfl) (fun e l => putZN_goes ..) fun e l h => and_assoc.mp ⟨putZN_reads .., h⟩
  · exact laneDoes_goes (fun _ => rfl) (fun e l => putZN_goes ..) fun e l h => and_assoc.mp ⟨putZN_reads .., h⟩
  · exact laneDoes_goes (fun _ => rfl) (fun e l => putZN_goes ..) fun e l h => and_assoc.mp ⟨putZN_reads .., h⟩
  · exact laneDoes_goes (fun _ => rfl) (fun e l => putZN_goes ..) fun e l h => and_assoc.mp ⟨putZN_reads .., h⟩
  · exact laneDoes_goes (fun _ => rfl) zShift_goes fun e l h => ⟨zShift_v .., zShift_cy .., zShift_zn .., h⟩
  · exact laneDoes_goes (fun _ => rfl) zShift_goes fun e l h => ⟨zShift_v .., zShift_cy .., zShift_zn .., h⟩
  · refine laneDoes_goes (fun _ => rfl) zShift_goes fun e l h => ⟨?_, zShift_cy .., zShift_zn .., h⟩
    rw [zASR, zShift_v, BitVec.toInt_sshiftRight, Int.shiftRight_eq_div_pow]
    rfl
  · refine laneDoesIf_eq (fun _ => rfl) (fun _ _ _ => rfl) zShift_goes fun e l hk h => ?_
    have hrot : (l.v a).rotateLeft (shAmt l n) = l.v a <<< shAmt l n ||| l.v a >>> (32 - shAmt l n) := by
      rw [BitVec.rotateLeft, Nat.mod_eq_of_lt hk]; rfl
    refine ⟨?_, ?_, zShift_zn .., h⟩
    · rw [zROL, zShift_v, hrot]
    · rw [zROL, zShift_v, zShift_cy, hrot]
      split
      · rfl
      · next h0 => rw [rotateLeft_lsb _ h0]
  · exact laneDoes_of (fun _ => rfl) (fun _ _ => rfl) fun e l => compare_does ..
  · refine laneDoes_of (fun _ => rfl) (fun _ _ => rfl) fun e l => ?_
    extract_lets b
    rw [← toInt_imm12 n]
    exact compare_does ..

end Sys2Proof.Machine
end

section
/-!
Index registers (R222) and flow (R225).
-/

namespace Sys2Proof.Machine

theorem unsgn_toInt (n : Nat) (i : Int) : (unsgn n i : Int) = i % 2 ^ n :=
  Int.toNat_of_nonneg (Int.emod_nonneg i (by positivity))

/-- ADDIX's number, of 20 bits already. -/
theorem unsgn_mod (i : Int) : unsgn 20 i % 2 ^ 20 = unsgn 20 i := Nat.mod_eq_of_lt (unsgn_lt 20 i)

theorem zADDIX_ix (x n : Nat) (e : Env) (l : Lane) : (zADDIX x n e l).ix x = unsgn 20 ((l.ix x : Int) + sgn 20 n) := by
  rw [zADDIX, Lane.next_ix, Lane.setFlag_ix, Lane.setIx_ix, if_pos rfl, unsgn_mod]

/-- LOOP's count down modulo 2^20. -/
def loopNext (k : Nat) : Nat := (k + (2 ^ 20 - 1)) % 2 ^ 20

theorem loopNext_toInt (k : Nat) : (loopNext k : Int) = ((k : Int) - 1) % 2 ^ 20 := by
  unfold loopNext
  omega

theorem zLOOP_done {x t : Nat} {l : Lane} (h : loopNext (l.ix x) = 0) (e : Env) :
    zLOOP x t e l = (l.setIx x (loopNext (l.ix x))).next 1 := by
  unfold loopNext at *
  rw [zLOOP]
  rw [if_neg (not_not.mpr h)]

theorem zLOOP_again {x t : Nat} {l : Lane} (h : loopNext (l.ix x) ≠ 0) (e : Env) :
    zLOOP x t e l = (l.setIx x (loopNext (l.ix x))).jump t 2 := by
  unfold loopNext at *
  rw [zLOOP]
  rw [if_pos h]

theorem setIx_loopNext (l : Lane) (x : Nat) : (l.setIx x (loopNext (l.ix x))).ix x = loopNext (l.ix x) := by
  rw [Lane.setIx_ix, if_pos rfl]
  exact Nat.mod_mod ..

theorem zJC_run (c : Nat) (sense : Bool) (t : Nat) (e : Env) (l : Lane) : (zJC c sense t e l).c.run = l.c.run := by
  rw [zJC]
  split <;> rfl

theorem zLOOP_run (x t : Nat) (e : Env) (l : Lane) : (zLOOP x t e l).c.run = l.c.run := by
  by_cases h : loopNext (l.ix x) = 0
  · rw [zLOOP_done h, Lane.next_c_run, Lane.setIx_c_run]
  · rw [zLOOP_again h, Lane.jump_c_run, Lane.setIx_c_run]

theorem zLOOP_does (x t : Nat) (e : Env) (l : Lane) :
    ((zLOOP x t e l).ix x : Int) = ((l.ix x : Int) - 1) % 2 ^ 20 ∧
      if (zLOOP x t e l).ix x = 0 then l.Goes { ix := [x] } (l.c.pc + 1) 1 (zLOOP x t e l)
      else l.Goes { ix := [x] } t 2 (zLOOP x t e l) := by
  have hw : l.Within { ix := [x] } (l.setIx x (loopNext (l.ix x))) := (Lane.Within.refl l).setIx x _
  by_cases h : loopNext (l.ix x) = 0
  · rw [zLOOP_done h, Lane.next_ix, setIx_loopNext, if_pos h]
    exact ⟨loopNext_toInt _, hw.next 1⟩
  · rw [zLOOP_again h, Lane.jump_ix, setIx_loopNext, if_neg h]
    exact ⟨loopNext_toInt _, hw.jump t 2⟩

theorem flag_ge_six {l : Lane} (h : l.c.flags < 64) {k : Nat} (hk : 6 ≤ k) : l.flag k = false :=
  Nat.testBit_lt_two_pow (h.trans_le (Nat.pow_le_pow_right (n := 2) (by decide) hk))

/-- CLRF moves flags alone. -/
theorem zCLRF_goes {l : Lane} (h : l.c.flags < 64) (m : Nat) (e : Env) :
    l.Goes { flags := List.range 6 } (l.c.pc + 1) 1 (zCLRF m e l) := by
  have hw : l.Within { flags := List.range 6 } (l.upd fun c => { c with flags := c.flags &&& (63 - m % 64) }) :=
    { Lane.Within.refl l with
      flags := fun k hk => by
        have hk6 : 6 ≤ k := by simpa using hk
        rw [flag_ge_six h hk6]
        have hz := zCLRF_flag m e l k
        rwa [flag_ge_six h hk6, Bool.false_and] at hz }
  exact hw.next 1

/-- Settles O10: each instruction is one update of its register, or a jump. -/
theorem laneIndexAndFlow : Obligations.LaneIndexAndFlow := by
  unfold Obligations.LaneIndexAndFlow
  refine ⟨fun x n hn => ?_, fun x a => ?_, fun x n => ?_, fun d x => ?_, ?_, fun t => ?_, fun c sense t _ => ?_,
    fun x t => ?_, fun m hm => ?_, fun d => ?_⟩
  · refine laneDoes_goes (m := { ix := [x] }) (fun _ => rfl) (fun e l => ((Lane.Within.refl l).setIx x n).next 1)
      fun e l h => ⟨?_, h⟩
    rw [zLDIX, Lane.next_ix, Lane.setIx_ix, if_pos rfl, Nat.mod_eq_of_lt hn]
  · refine laneDoes_goes (m := { ix := [x], flags := [fOV] }) (fun _ => rfl)
      (fun e l => (((Lane.Within.refl l).setIx x _).stick fOV _).next 1) fun e l h => ⟨by simp [zMOVIX], ?_, h⟩
    rw [zMOVIX, Lane.next_flag, Lane.stick_flag, if_pos rfl, Lane.setIx_flag]
    exact congrArg (l.flag fOV || ·) (decide_eq_decide.mpr (by omega))
  · refine laneDoes_goes (m := { ix := [x], flags := [fZR] }) (fun _ => rfl)
      (fun e l => (((Lane.Within.refl l).setIx x _).setFlag fZR _).next 1) fun e l h => ⟨?_, ?_, h⟩
    · rw [zADDIX_ix, unsgn_toInt]
    · rw [zADDIX_ix, zADDIX, Lane.next_flag, Lane.setFlag_flag, if_pos rfl]
  · exact laneDoes_goes (fun _ => rfl) (fun e l => ((Lane.Within.refl l).setV d _).next 1) fun e l h =>
      ⟨by simp [zRDIX], h⟩
  · exact laneDoes_goes (fun _ => rfl) (fun e l => (Lane.Within.refl l).next 1) fun e l h => h
  · exact laneDoes_goes (fun _ => rfl) (fun e l => (Lane.Within.refl l).jump t 2) fun e l h => h
  · refine laneDoes_of (fun _ => rfl) (zJC_run c sense t) fun e l => ?_
    have hcond : l.cond c = if c = 6 then l.c.ba else l.flag c := rfl
    rw [zJC, ← hcond]
    split
    · exact (Lane.Within.refl l).jump t 2
    · exact (Lane.Within.refl l).next 1
  · exact laneDoes_of (fun _ => rfl) (zLOOP_run x t) (zLOOP_does x t)
  · refine laneDoesIf_of (fun _ => rfl) (fun e l h => (zCLRF_goes h m e).run) fun e l h =>
      ⟨fun k hk => ?_, zCLRF_goes h m e⟩
    rw [zCLRF_flag, Nat.mod_eq_of_lt hm, decide_eq_true hk, Bool.true_and]
  · refine laneDoes_goes (m := { v := [d] }) (fun _ => rfl) (fun e l => ((Lane.Within.refl l).setV d _).next 1)
      fun e l h => ⟨?_, h⟩
    rw [zRDF, Lane.next_v, Lane.setV_v, if_pos rfl]
    cases l.c.ba <;> rfl

end Sys2Proof.Machine
end

section
/-!
Floats (R223, R224): NaNs and zeros of the model's binary32, and the float instructions.
-/

namespace Sys2Proof.Machine

/-! ### NaNs, zeros and the sign bit -/

theorem F32.isNaN_eq (n : Nat) : F32.isNaN n = decide (0x7F800000 < n % 2 ^ 31) := by
  rw [F32.isNaN, ← Bool.decide_and, decide_eq_decide]
  simp only [F32.expo, F32.frac, bits, Nat.shiftRight_eq_div_pow]
  omega

theorem isNaN_iff (w : Word) : F32.isNaN w.toNat = true ↔ nanW w := by
  rw [F32.isNaN_eq, decide_eq_true_eq]
  rfl

theorem isNaN_of {w : Word} (h : nanW w) : F32.isNaN w.toNat = true := (isNaN_iff w).mpr h

theorem isNaN_of_not {w : Word} (h : ¬nanW w) : F32.isNaN w.toNat = false := by
  rw [← Bool.not_eq_true, isNaN_iff]
  exact h

theorem ofNat_and_mask (w : Word) : BitVec.ofNat 32 (w.toNat % 2 ^ 31) = w &&& 0x7FFFFFFF := by
  refine BitVec.eq_of_toNat_eq ?_
  rw [BitVec.toNat_ofNat, BitVec.toNat_and, show (0x7FFFFFFF : Word).toNat = 2 ^ 31 - 1 by rfl,
    Nat.and_two_pow_sub_one_eq_mod]
  omega

theorem ofNat_negate (w : Word) : BitVec.ofNat 32 (F32.negate w.toNat) = w ^^^ 0x80000000 := by
  refine BitVec.eq_of_toNat_eq ?_
  rw [F32.negate, BitVec.toNat_ofNat, BitVec.toNat_xor, Nat.mod_eq_of_lt (Nat.xor_lt_two_pow w.isLt (by decide))]
  rfl

/-! ### A NaN operand gives the one NaN (R223) -/

section
variable {a b : Word}

theorem add_nan (h : nanW a ∨ nanW b) : F32.add a.toNat b.toNat = F32.qnan := by
  rw [F32.add, if_pos]
  simpa only [Bool.or_eq_true, isNaN_iff] using h

theorem mul_nan (h : nanW a ∨ nanW b) : F32.mul a.toNat b.toNat = F32.qnan := by
  rw [F32.mul, if_pos]
  simpa only [Bool.or_eq_true, isNaN_iff] using h

theorem div_nan (h : nanW a ∨ nanW b) : F32.div a.toNat b.toNat = F32.qnan := by
  rw [F32.div, if_pos]
  simpa only [Bool.or_eq_true, isNaN_iff] using h

theorem sub_nan (h : nanW a ∨ nanW b) : F32.sub a.toNat b.toNat = F32.qnan := by
  rw [F32.sub]
  split
  · rfl
  · next hb =>
    rw [isNaN_iff] at hb
    rw [F32.add, if_pos]
    rw [isNaN_of (h.resolve_right hb), Bool.true_or]

theorem sqrt_nan (h : nanW a) : F32.sqrt a.toNat = F32.qnan := by rw [F32.sqrt, if_pos (isNaN_of h)]

theorem ftoi_nan (h : nanW a) : F32.ftoi a.toNat = (0, true) := by rw [F32.ftoi, if_pos (isNaN_of h)]

end

/-! ### The float instructions -/

section
variable (l : Lane) (d w cyc : Nat)

theorem putF_goes : l.Goes { v := [d], flags := [fZR, fNG] } (l.c.pc + 1) cyc ((l.putF d w).next cyc) :=
  ((Lane.Within.refl l).putF d w).next cyc

theorem putF_v : ((l.putF d w).next cyc).v d = BitVec.ofNat 32 w := by simp

theorem putF_znf : ZNF ((l.putF d w).next cyc) (((l.putF d w).next cyc).v d) := by
  rw [putF_v]
  exact ZNF_putF ..

end

section
variable (l : Lane) (d cyc : Nat) {w : Nat}

theorem putF_nan (h : w = F32.qnan) : ((l.putF d w).next cyc).v d = 0x7FC00000 := by
  rw [putF_v, h]
  rfl

theorem putF_word {r : Word} (h : w = r.toNat) : ((l.putF d w).next cyc).v d = r := by
  rw [putF_v, h, BitVec.ofNat_toNat, BitVec.setWidth_eq]

end

/-! ### FMIN, FMAX and FCMP (R224) -/

section
variable {a b : Word}

theorem fmin_nans (ha : nanW a) (hb : nanW b) : F32.fmin a.toNat b.toNat = F32.qnan := by
  rw [F32.fmin, if_pos (isNaN_of ha), if_pos (isNaN_of hb)]

theorem fmin_left_nan (ha : nanW a) (hb : ¬nanW b) : F32.fmin a.toNat b.toNat = b.toNat := by
  rw [F32.fmin, if_pos (isNaN_of ha), isNaN_of_not hb, if_neg Bool.false_ne_true]

theorem fmin_right_nan (ha : ¬nanW a) (hb : nanW b) : F32.fmin a.toNat b.toNat = a.toNat := by
  rw [F32.fmin, isNaN_of_not ha, if_neg Bool.false_ne_true, if_pos (isNaN_of hb)]

theorem fmax_nans (ha : nanW a) (hb : nanW b) : F32.fmax a.toNat b.toNat = F32.qnan := by
  rw [F32.fmax, if_pos (isNaN_of ha), if_pos (isNaN_of hb)]

theorem fmax_left_nan (ha : nanW a) (hb : ¬nanW b) : F32.fmax a.toNat b.toNat = b.toNat := by
  rw [F32.fmax, if_pos (isNaN_of ha), isNaN_of_not hb, if_neg Bool.false_ne_true]

theorem fmax_right_nan (ha : ¬nanW a) (hb : nanW b) : F32.fmax a.toNat b.toNat = a.toNat := by
  rw [F32.fmax, isNaN_of_not ha, if_neg Bool.false_ne_true, if_pos (isNaN_of hb)]

end

/-- The three flags of FCMP. -/
theorem zFCMP_flags (a b : Nat) (e : Env) (l : Lane) :
    let n := F32.isNaN (l.v a).toNat || F32.isNaN (l.v b).toNat
    (zFCMP a b e l).flag fCY = n ∧ (zFCMP a b e l).flag fEQ = (!n && F32.eq (l.v a).toNat (l.v b).toNat) ∧
      (zFCMP a b e l).flag fNG = (!n && F32.lt (l.v a).toNat (l.v b).toNat) := by
  simp [zFCMP]

/-- Settles O11: every instruction but FCMP and FTOI puts a float result; what is claimed of it is a fact of F32. -/
theorem laneFloats : Obligations.LaneFloats := by
  unfold Obligations.LaneFloats
  refine ⟨fun d a b => ?_, fun d a b => ?_, fun d a b => ?_, fun d a b => ?_, fun d a => ?_, fun d a => ?_, fun d a => ?_,
    fun d a b => ?_, fun d a b => ?_, fun a b => ?_, fun d a => ?_, fun d a => ?_⟩
  · exact laneDoes_goes (fun _ => rfl) (fun e l => putF_goes ..) fun e l h =>
      ⟨putF_v .., fun hn => putF_nan _ _ _ (add_nan hn), putF_znf .., h⟩
  · exact laneDoes_goes (fun _ => rfl) (fun e l => putF_goes ..) fun e l h =>
      ⟨putF_v .., fun hn => putF_nan _ _ _ (sub_nan hn), putF_znf .., h⟩
  · exact laneDoes_goes (fun _ => rfl) (fun e l => putF_goes ..) fun e l h =>
      ⟨putF_v .., fun hn => putF_nan _ _ _ (mul_nan hn), putF_znf .., h⟩
  · exact laneDoes_goes (fun _ => rfl) (fun e l => putF_goes ..) fun e l h =>
      ⟨putF_v .., fun hn => putF_nan _ _ _ (div_nan hn), putF_znf .., h⟩
  · exact laneDoes_goes (fun _ => rfl) (fun e l => putF_goes ..) fun e l h =>
      ⟨putF_v .., fun hn => putF_nan _ _ _ (sqrt_nan hn), putF_znf .., h⟩
  · exact laneDoes_goes (fun _ => rfl) (fun e l => putF_goes ..) fun e l h =>
      ⟨(putF_v ..).trans (ofNat_and_mask _), putF_znf .., h⟩
  · exact laneDoes_goes (fun _ => rfl) (fun e l => putF_goes ..) fun e l h =>
      ⟨(putF_v ..).trans (ofNat_negate _), putF_znf .., h⟩
  · exact laneDoes_goes (fun _ => rfl) (fun e l => putF_goes ..) fun e l h =>
      ⟨fun ha hb => putF_nan _ _ _ (fmin_nans ha hb), fun ha hb => putF_word _ _ _ (fmin_left_nan ha hb),
        fun ha hb => putF_word _ _ _ (fmin_right_nan ha hb), fun ha hb => putF_word _ _ _ (by rw [ha, hb]; rfl),
        fun ha hb => putF_word _ _ _ (by rw [ha, hb]; rfl), putF_znf .., h⟩
  · exact laneDoes_goes (fun _ => rfl) (fun e l => putF_goes ..) fun e l h =>
      ⟨fun ha hb => putF_nan _ _ _ (fmax_nans ha hb), fun ha hb => putF_word _ _ _ (fmax_left_nan ha hb),
        fun ha hb => putF_word _ _ _ (fmax_right_nan ha hb), fun ha hb => putF_word _ _ _ (by rw [ha, hb]; rfl),
        fun ha hb => putF_word _ _ _ (by rw [ha, hb]; rfl), putF_znf .., h⟩
  · refine laneDoes_goes (m := { flags := [fCY, fEQ, fNG] }) (fun _ => rfl)
      (fun e l => ((((Lane.Within.refl l).setFlag fCY _).setFlag fEQ _).setFlag fNG _).next 2) fun e l h => ?_
    obtain ⟨hcy, heq, hng⟩ := zFCMP_flags a b e l
    rw [hcy, heq, hng]
    refine ⟨?_, fun hn => ?_, fun hab hna => ?_, fun ha hb => ?_, h⟩
    · rw [Bool.or_eq_true, isNaN_iff, isNaN_iff]
    · rw [hn]; exact ⟨rfl, rfl⟩
    · rw [← hab, isNaN_of_not hna, F32.eq, decide_eq_true rfl, Bool.or_true]; rfl
    · rw [ha, hb]; rfl
  · exact laneDoes_goes (fun _ => rfl) (fun e l => putF_goes ..) fun e l h => ⟨putF_v .., putF_znf .., h⟩
  · have heq : ∀ e l, zFTOI d a e l = (l.putOv d (BitVec.ofNat 32 (F32.ftoi (l.v a).toNat).1,
        (F32.ftoi (l.v a).toNat).2)).next 3 := fun _ _ => rfl
    refine laneDoesIf_eq (fun _ => rfl) (fun e l _ => heq e l) (fun e l => putOv_goes ..) fun e l _ h =>
      ⟨putOv_v .., putOv_ov .., fun hn => ?_, putOv_zn .., h⟩
    rw [putOv_v, putOv_ov, ftoi_nan hn]
    exact ⟨rfl, Bool.or_true _⟩

end Sys2Proof.Machine
end

section
/-!
END and HALT (R210, R227, SCN-4): how the lanes of an execution come to their end, and what follows for the machine.
-/

namespace Sys2Proof.Machine

/-! ### All lanes at once -/

theorem Trio.ext_get {α : Type} {s t : Trio α} (h : ∀ k, k < 3 → s.get k = t.get k) : s = t := by
  obtain ⟨a, b, c⟩ := s
  obtain ⟨a', b', c'⟩ := t
  have ha : a = a' := h 0 (by decide)
  have hb : b = b' := h 1 (by decide)
  have hc : c = c' := h 2 (by decide)
  rw [ha, hb, hc]

theorem Trio.get_map {α β : Type} (f : α → β) (t : Trio α) (k : Nat) : (t.map f).get k = f (t.get k) := by
  match k with
  | 0 => rfl
  | 1 => rfl
  | _ + 2 => rfl

/-- A lane instruction that leaves the lanes' memories: every voting lane carries it out, then the halts and the ends of the
lanes are looked at. -/
theorem zenOn_contexts {ok : Nat → Bool} {f : LaneFn} {g : LaneCtx → LaneCtx} (hf : ∀ e l, f e l = l.upd g) {s : State}
    {x : Exec} (hc : s.clk.lane = true) (hr : s.scn.running = some x)
    (h : ∀ k, k < 3 → s.votes k = true → (x.lanes.get k).run = .running ∧ ok (x.lanes.get k).pc = true) :
    ∃ L, zenOn ok f s = endCheck (haltCheck (s.withLanes x L s.scn.lanes)) ∧
      ∀ k, k < 3 → s.votes k = true → L.get k = g (x.lanes.get k) := by
  obtain ⟨L, M, hrun, hlanes⟩ := lanes_after s x ok f h
  rw [withLanes_self s x hr] at hrun
  have hvote : ∀ k, k < 3 → s.votes k = true → (⟨L.get k, M.get k⟩ : Lane) = (laneOf s x k).upd g := by
    intro k hk hv
    have hl := hlanes k hk
    rwa [if_pos hv, hf] at hl
  have hmem : M = s.scn.lanes := Trio.ext_get fun k hk => by
    by_cases hv : s.votes k = true
    · exact congrArg Lane.m (hvote k hk hv)
    · have hl := hlanes k hk
      rw [if_neg hv] at hl
      exact hl.2
  refine ⟨L, ?_, fun k hk hv => congrArg Lane.c (hvote k hk hv)⟩
  rw [zenOn, if_pos hc, hrun, hmem]

/-! ### END -/

/-- Lanes of which none has halted stand. -/
theorem haltCheck_of_ended {s : State} {x : Exec} (hr : s.scn.running = some x)
    (h : ∀ k, k < 3 → s.votes k = true → (x.lanes.get k).run = .ended) : haltCheck s = s := by
  have hcodes : haltCodes s x = [] := by
    rw [haltCodes, List.filterMap_eq_nil_iff]
    intro k hk
    by_cases hv : s.votes k = true
    · rw [if_pos hv, h k (List.mem_range.mp hk) hv]
    · rw [if_neg hv]
  unfold haltCheck
  rw [hr]
  dsimp only
  rw [hcodes]

/-- An engine with nothing to run stands. -/
theorem dispatch_of_empty {s : State} (hr : s.scn.running = none) (hw : s.scn.waiting = []) (hp : s.scn.preempted = []) :
    dispatch s = s := by
  unfold dispatch
  rw [hw, hr, hp]
  rfl

theorem endCheck_of_ended {s : State} {x : Exec} (hr : s.scn.running = some x)
    (h : ∀ k, k < 3 → s.votes k = true → (x.lanes.get k).run = .ended) (hw : s.scn.waiting = [])
    (hp : s.scn.preempted = []) : endCheck s =
      { s with scn := { s.scn with running := none, presented := s.scn.presented ++ [addCycles x 16] } } := by
  have hdone : allDone s x = true := by
    rw [allDone, List.all_eq_true]
    intro k hk
    by_cases hv : s.votes k = true
    · simp [h k (List.mem_range.mp hk) hv]
    · simp [hv]
  unfold endCheck
  rw [hr]
  dsimp only
  rw [if_pos hdone]
  exact dispatch_of_empty rfl hw hp

/-! ### HALT -/

/-- The lanes that vote, and their number. -/
def State.voters (s : State) : List Nat := (List.range 3).filter s.votes

theorem voting_eq (s : State) : s.voting = s.voters.length := by
  have hbit : ∀ k, s.votes k = decide (s.rd F.PLT_LANE_VOTING / 2 ^ k % 2 = 1) := fun k =>
    Nat.testBit_eq_decide_div_mod_eq
  have h0 := hbit 0
  have h1 := hbit 1
  have h2 := hbit 2
  rw [State.voting, State.voters, show List.range 3 = [0, 1, 2] by rfl]
  simp only [List.filter_cons, List.filter_nil, h0, h1, h2, decide_eq_true_eq]
  split_ifs <;> simp <;> omega

/-- What stands when every voting lane of `x` has halted with code `c` at step `pc`. -/
def AllHalted (s : State) (x : Exec) (c pc : Nat) : Prop :=
  ∀ k, k < 3 → s.votes k = true → (x.lanes.get k).run = .halted c ∧ (x.lanes.get k).pc = pc

theorem haltCodes_of_halted {s : State} {x : Exec} {c pc : Nat} (h : AllHalted s x c pc) :
    haltCodes s x = s.voters.map fun _ => (c, pc) := by
  have key : ∀ ks : List Nat, (∀ k ∈ ks, k < 3) → (ks.filterMap fun k =>
      if s.votes k then match (x.lanes.get k).run with
        | .halted c => some (c, (x.lanes.get k).pc)
        | _ => none
      else none) = (ks.filter s.votes).map fun _ => (c, pc) := by
    intro ks hks
    induction ks with
    | nil => rfl
    | cons k ks ih =>
      have htail := ih fun j hj => hks j (List.mem_cons_of_mem _ hj)
      by_cases hv : s.votes k = true
      · obtain ⟨hrun, hpc⟩ := h k (hks k List.mem_cons_self) hv
        rw [List.filterMap_cons, if_pos hv, hrun, hpc, List.filter_cons_of_pos hv, List.map_cons, ← htail]
      · rw [List.filterMap_cons, if_neg hv, List.filter_cons_of_neg hv, ← htail]
  exact key _ fun k hk => List.mem_range.mp hk

/-- The halt of every voting lane ends the execution in FAULT with HALT recorded (R227). -/
theorem haltCheck_of_halted {s : State} {x : Exec} {c pc : Nat} (hr : s.scn.running = some x)
    (hv : ∃ k, k < 3 ∧ s.votes k = true) (h : AllHalted s x c pc) : haltCheck s =
      enterFault (log Ev.HALT (leBytes 2 c ++ [x.task, 0] ++ leBytes 4 pc) s) 7 := by
  obtain ⟨k, hk, hvk⟩ := hv
  have hmem : k ∈ s.voters := List.mem_filter.mpr ⟨List.mem_range.mpr hk, hvk⟩
  have hcodes := haltCodes_of_halted h
  have hvoting := voting_eq s
  unfold haltCheck
  rw [hr]
  dsimp only
  cases hvs : s.voters with
  | nil => rw [hvs] at hmem; exact absurd hmem List.not_mem_nil
  | cons j js =>
    rw [hvs, List.map_cons] at hcodes
    rw [hvs, List.length_cons] at hvoting
    rw [hcodes]
    dsimp only
    rw [if_pos (by rw [hvoting, List.length_map]; omega)]

theorem endCheck_of_idle {s : State} (h : s.scn.running = none) : endCheck s = s := by
  unfold endCheck
  rw [h]

/-! ### Entry into FAULT -/

theorem endPending_grows (s : State) (status : Nat) : BufGrows s (endPending s status) := by
  have hend : BufGrows s (endActivation s status) := by
    unfold endActivation
    split
    · exact List.prefix_refl _
    · extract_lets +onlyGivenNames _ u
      have hu : BufGrows s u := .of_sto (State.wr_sto ..)
      exact .ite hu (hu.trans (finHdl_grows ..))
  unfold endPending
  split
  · exact .ite (List.prefix_refl _) hend
  · exact List.prefix_refl _

theorem setMode_grows (s : State) (new cause restart : Nat) : BufGrows s (setMode s new cause restart) := by
  rw [setMode_eq, modeReported]
  exact ((modeShown_moves s new).1.grows rfl).trans <| (log_grows ..).trans <| ((modeNoted_leaves ..).grows rfl).trans <|
    (setLatch_grows ..).trans (hostSync_grows ..)

theorem pendFaulted_grows (s : State) : BufGrows s (pendFaulted s) := by
  unfold pendFaulted
  split
  · exact (finMode_grows ..).trans ((clearPend_leaves _).grows rfl)
  · exact List.prefix_refl _

theorem faultBegun_grows (s : State) : BufGrows s (faultBegun s) := by
  rw [faultBegun_eq]
  exact (pendFaulted_grows s).trans <| ((discardTasks_leaves _).grows rfl).trans <|
    ((execsAbandoned_leaves _).grows rfl).trans <| ((takesForgotten_leaves _).grows rfl).trans <|
    (safeCommand_leaves ..).grows rfl

theorem enterFault_grows (s : State) (cause : Nat) : BufGrows s (enterFault s cause) := by
  by_cases h : s.mode = mINIT ∨ s.mode = mFAULT
  · rw [enterFault, if_pos h]
    exact List.prefix_refl _
  · rw [enterFault_eq cause h, faultCaused]
    exact (faultBegun_grows s).trans <| BufGrows.trans (.of_sto (State.wr_sto ..)) <| (setMode_grows ..).trans <|
      endPending_grows ..

/-- Entry into FAULT preempts nothing any more and leaves the lanes' memories. -/
theorem enterFault_scn {s : State} (cause : Nat) (hm : s.mode ≠ mINIT ∧ s.mode ≠ mFAULT) :
    (enterFault s cause).scn.preempted = [] ∧ (enterFault s cause).scn.lanes = s.scn.lanes := by
  have hscn : (faultCaused s cause).scn = (faultBegun s).scn := by rw [faultCaused, State.wr_scn]
  have hmode := setMode_modeChange (faultCaused s cause) (new := mFAULT) (by decide) cause (faultBegun s).scn.restart
  rw [enterFault_eq cause (by simpa using hm), (endPending_moves ..).1.1 .scn (by decide), hmode.scn, hscn, faultBegun_scn]
  exact ⟨rfl, rfl⟩

/-- An event recorded as FAULT is entered: what stands then (R184). -/
structure FaultLogged (e : Nat × Nat) (arg : List Nat) (cause : Nat) (s t : State) : Prop where
  mode : t.mode = mFAULT
  cause : t.rd F.SCN_MODE_CAUSE = cause
  running : t.scn.running = none
  preempted : t.scn.preempted = []
  waiting : t.scn.waiting = []
  presented : t.scn.presented = []
  logged : Logged e arg s t
  lanes : t.scn.lanes = s.scn.lanes
  now : t.time.now = s.time.now
  pending : t.pending = s.pending

theorem enterFault_log {s : State} {cause : Nat} (hc : cause < 256) (hm : s.mode ≠ mINIT ∧ s.mode ≠ mFAULT)
    (e : Nat × Nat) (arg : List Nat) : FaultLogged e arg cause s (enterFault (log e arg s) cause) := by
  have hm' : (log e arg s).mode ≠ mINIT ∧ (log e arg s).mode ≠ mFAULT := by
    rwa [State.mode, log_rd _ _ _ _ _ (by decide)]
  have hfault := enterFault_faults hc hm'
  obtain ⟨hpre, hlanes⟩ := enterFault_scn cause hm'
  have hbases := enterFault_bases (log e arg s) cause
  rw [log_time] at hbases
  rw [log_scn] at hlanes
  exact {
    mode := hfault.mode
    cause := hfault.cause
    running := hfault.running
    preempted := hpre
    waiting := hfault.waiting
    presented := hfault.presented
    logged := (logged_log e arg s).within rfl (enterFault_grows ..)
    lanes := hlanes
    now := (congrArg TimeSt.now hbases :)
    pending := (hfault.frame.1.1 .pending (by decide)).trans (log_pending ..) }

/-- Settles O18: END leaves ended lanes, HALT halted ones; the first are presented, the second enter FAULT. -/
theorem laneEndAndHalt : Obligations.LaneEndAndHalt := by
  unfold Obligations.LaneEndAndHalt
  refine ⟨fun s x hat hw hp => ?_, fun s x c pc hc hr hv h hi hf => ?_⟩
  · obtain ⟨L, hrun, hlanes⟩ := zenOn_contexts (ok := fun pc => decide (fetch s pc = some .zEND)) (f := zEND)
      (fun _ _ => rfl) hat.clk hat.run fun k hk hv => ⟨(hat.here k hk hv).1, decide_eq_true (hat.here k hk hv).2⟩
    have hended : ∀ k, k < 3 → s.votes k = true → (L.get k).run = .ended := fun k hk hv => by rw [hlanes k hk hv]
    rw [haltCheck_of_ended (s := s.withLanes x L s.scn.lanes) rfl hended,
      endCheck_of_ended (s := s.withLanes x L s.scn.lanes) rfl hended hw hp] at hrun
    refine ⟨_, congrArg Host.Outcome.next hrun, addCycles { x with lanes := L } 16, rfl, rfl, fun k hk hv => ?_⟩
    rw [addCycles, Trio.get_map, hlanes k hk hv]
  · obtain ⟨L, hrun, hlanes⟩ := zenOn_contexts (ok := fun p => decide (haltAt s p = some c)) (f := zHALT c)
      (g := fun y => { y with run := .halted c, cycles := y.cycles + 1 }) (fun _ _ => rfl) hc hr fun k hk hv => by
        obtain ⟨hrunning, hpc, hat⟩ := h k hk hv
        exact ⟨hrunning, decide_eq_true (hpc ▸ hat)⟩
    have hhalted : AllHalted (s.withLanes x L s.scn.lanes) { x with lanes := L } c pc := fun k hk hv => by
      obtain ⟨-, hpc, -⟩ := h k hk hv
      exact ⟨by rw [hlanes k hk hv], by rw [hlanes k hk hv]; exact hpc⟩
    have hfault := enterFault_log (s := s.withLanes x L s.scn.lanes) (cause := 7) (by decide) ⟨hi, hf⟩ Ev.HALT
      (leBytes 2 c ++ [x.task, 0] ++ leBytes 4 pc)
    rw [haltCheck_of_halted (s := s.withLanes x L s.scn.lanes) rfl hv hhalted, endCheck_of_idle hfault.running] at hrun
    exact ⟨_, congrArg Host.Outcome.next hrun, hfault.mode, hfault.cause, hfault.running, hfault.preempted,
      hfault.waiting, hfault.presented, hfault.logged, hfault.lanes, hfault.now, hfault.pending⟩

end Sys2Proof.Machine
end

section
/-!
What recording, interrupts and completions keep of the store: everything but the recorder's buffer and the counter rings.
-/

namespace Sys2Proof.Machine

/-- The store without what recording an event touches: the recorder's buffer and the counter rings. -/
def StoSt.core (x : StoSt) : StoSt := { x with buf := [], rings := [], flushDue := 0, droppedNow := 0 }

theorem StoSt.core_recording (x : StoSt) (buf : List Rec) (rings : Table CntRing) (due dropped : Nat) :
    ({ x with buf := buf, rings := rings, flushDue := due, droppedNow := dropped } : StoSt).core = x.core := rfl

/-- The store stands but for the recorder's buffer and the counter rings. -/
def StoreStands (s t : State) : Prop := t.sto.core = s.sto.core

section
variable {a b c s t : State}

theorem StoreStands.of_sto (h : t.sto = s.sto) : StoreStands s t := congrArg StoSt.core h

theorem StoreStands.refl (s : State) : StoreStands s s := .of_sto rfl

theorem StoreStands.trans (h : StoreStands a b) (h' : StoreStands b c) : StoreStands a c := Eq.trans h' h

theorem StoreStands.ite {d : Prop} [Decidable d] (ha : StoreStands s a) (hb : StoreStands s b) :
    StoreStands s (if d then a else b) := by
  split
  · exact ha
  · exact hb

theorem StoreStands.recs (h : StoreStands s t) : t.sto.recs = s.sto.recs := (congrArg StoSt.recs h :)

theorem StoreStands.progA (h : StoreStands s t) : t.sto.progA = s.sto.progA := (congrArg StoSt.progA h :)

theorem StoreStands.progB (h : StoreStands s t) : t.sto.progB = s.sto.progB := (congrArg StoSt.progB h :)

theorem Leaves.storeStands {ps : List Part} {os : List Nat} (h : Leaves ps os s t) (hs : ps.contains .sto = false) :
    StoreStands s t := .of_sto (h.1 .sto (by simpa using hs))

end

/-! ### Recording and interrupts -/

section
variable (s : State)

theorem ringUpdate_store (k v : Nat) : StoreStands s (ringUpdate s k v) := by
  unfold ringUpdate
  extract_lets r
  exact StoSt.core_recording s.sto s.sto.buf _ s.sto.flushDue s.sto.droppedNow

theorem reserveCheck_store : StoreStands s (reserveCheck s) := by
  unfold reserveCheck
  refine .ite ?_ (.refl s)
  extract_lets r
  clear_value r
  exact .ite (ringUpdate_store ..) (.refl s)

theorem pushRec_store (r : Rec) : StoreStands s (pushRec s r) := by
  unfold pushRec
  extract_lets +onlyGivenNames _ u due
  exact StoSt.core_recording s.sto (s.sto.buf ++ [r]) s.sto.rings _ s.sto.droppedNow

theorem createRec_store (e : Nat × Nat) (arg : List Nat) : StoreStands s (createRec s e arg) := by
  unfold createRec
  refine .ite ?_ (pushRec_store ..)
  extract_lets n
  exact ((pushRec_store ..).trans (.of_sto (State.wr_sto ..))).trans (reserveCheck_store _)

theorem stormCount_store (n : Nat) : StoreStands s (stormCount s n) := by
  unfold stormCount
  extract_lets +onlyGivenNames c _ u m
  have hu : u.sto = s.sto := rfl
  exact .ite (.trans (.of_sto (by simp [hu])) (createRec_store ..)) (.of_sto hu)

theorem srcEdge_store (n : Nat) (rise : Bool) : StoreStands s (srcEdge s n rise) := by
  unfold srcEdge
  refine .ite (.of_sto (by simp)) (.ite (.ite ?_ (.of_sto (by simp))) ?_)
  · exact .trans (.of_sto (by simp)) (stormCount_store ..)
  · split <;> exact .of_sto (by simp)

theorem hostSync_store (n : Nat) : StoreStands s (hostSync n s) := by
  unfold hostSync
  refine .ite (.refl s) ?_
  extract_lets +onlyGivenNames c
  refine .ite (.refl s) ?_
  extract_lets +onlyGivenNames _ u
  have hu : StoreStands s u := .of_sto rfl
  exact (hu.trans (srcEdge_store u n c)).trans ((attnCheck_leaves _).storeStands rfl)

theorem setLatch_store (b : Nat) : StoreStands s (setLatch b s) :=
  .trans (.of_sto (State.putLatch_sto ..)) (hostSync_store ..)

theorem log_store (e : Nat × Nat) (arg : List Nat) : StoreStands s (log e arg s) := by
  have hrec : StoreStands s (hostSync 37 (hostSync 5 (createRec s e arg))) :=
    (createRec_store ..).trans ((hostSync_store ..).trans (hostSync_store ..))
  unfold log
  refine .ite (.refl s) (.ite ?_ ?_)
  · exact StoSt.core_recording s.sto s.sto.buf s.sto.rings s.sto.flushDue _
  · extract_lets u
    exact .ite (hrec.trans (setLatch_store ..)) (.ite (hrec.trans (setLatch_store ..)) hrec)

/-! ### Completions -/

theorem queueRegs_store : StoreStands s (queueRegs s) := by
  unfold queueRegs
  extract_lets used
  exact .trans (.of_sto (by simp)) <| (hostSync_store ..).trans <| (hostSync_store ..).trans <|
    (hostSync_store ..).trans (hostSync_store ..)

theorem placeRecs_store (kind : Nat) (rep : Bool) (session clseq opcode status handle cinch result : Nat)
    (data : List Nat) (usb : Bool) :
    StoreStands s (placeRecs s kind rep session clseq opcode status handle cinch result data usb) := by
  unfold placeRecs
  extract_lets +onlyGivenNames q ds r _ u
  have hu : StoreStands s u := .of_sto rfl
  exact hu.trans <| ((readyAll_leaves ..).storeStands rfl).trans (queueRegs_store _)

theorem finHdl_store (k status result : Nat) (data : List Nat) (cinch : Nat) :
    StoreStands s (finHdl s k status result data cinch) := by
  unfold finHdl
  split
  · exact .refl s
  · refine .ite (.refl s) (.ite ?_ ?_)
    · extract_lets u
      exact (placeRecs_store ..).trans ((putHdl_leaves ..).storeStands rfl)
    · exact (log_store ..).trans ((freeHdl_leaves ..).storeStands rfl)

theorem popCmd_store : StoreStands s (popCmd s) := .trans (.of_sto rfl) (queueRegs_store _)

theorem replied_store (c : Cmd) (status handle result : Nat) (data : List Nat) :
    StoreStands s (replied s c status handle result data) :=
  (placeRecs_store ..).trans ((record_leaves ..).storeStands rfl)

theorem admitted_store (x : Session) : StoreStands s (admitted (popCmd s) x) :=
  (popCmd_store s).trans (.of_sto rfl)

end

/-! ### Records of the store -/

section
variable {s t : State} {kind index : Nat}

theorem stoRec_of_recs (h : t.sto.recs = s.sto.recs) : t.stoRec kind index = s.stoRec kind index := by
  rw [State.stoRec, h, State.stoRec]

/-- A record without a slot has no content. -/
theorem recData_of_absent (h0 : (s.stoRec kind index).s0 = none) (h1 : (s.stoRec kind index).s1 = none) :
    s.recData kind index = none := by
  unfold State.recData State.resolve
  dsimp only
  rw [h0, h1]
  cases s.setGen with
  | none => by_cases hk : kind = kCONFIG <;> simp [hk, usable, resolveSlots]
  | some g => simp [usable, resolveSlots]

/-- The record written stands in a slot, usable, with its data in whole words. -/
theorem writeRec_usable (s : State) (kind index setgen : Nat) (data : List Nat) :
    ∃ z, (((writeRec s kind index setgen data).stoRec kind index).s0 = some z ∨
      ((writeRec s kind index setgen data).stoRec kind index).s1 = some z) ∧ z.usable = true ∧
      z.data = slice data 0 ((data.length + 7) / 8 * 8) := by
  have hkey := stoRec_key s kind index
  unfold writeRec
  extract_lets -lift +onlyGivenNames r x set r' u
  have hkept : r'.kind = kind ∧ r'.index = index := by
    unfold r'
    split
    · split <;> exact hkey
    all_goals exact hkey
  have hstands : ∀ v : State, v.sto.recs = u.sto.recs → v.stoRec kind index = r' := fun v hv => by
    rw [stoRec_of_recs hv, putRec_stoRec s kind index hkept.1 hkept.2]
  have hslot : ∃ z, (r'.s0 = some z ∨ r'.s1 = some z) ∧ z.usable = true ∧
      z.data = slice data 0 ((data.length + 7) / 8 * 8) := by
    unfold r'
    split
    · split
      · exact ⟨_, .inr rfl, rfl, rfl⟩
      · exact ⟨_, .inl rfl, rfl, rfl⟩
    · exact ⟨_, .inr rfl, rfl, rfl⟩
    · exact ⟨_, .inl rfl, rfl, rfl⟩
    · exact ⟨_, .inl rfl, rfl, rfl⟩
  split
  · rwa [hstands u rfl]
  · rwa [hstands (setIncons u (inconsKey kind index) false) rfl]

end

/-! ### Bytes of a memory and of a payload -/

/-- Bytes written are read back, and every other byte stands. -/
theorem memPut_read (bs : List Nat) (m : Memory) (a i : Nat) : (memPut m a bs).read i =
    if a ≤ i ∧ i < a + bs.length then BitVec.ofNat 8 (bs.getD (i - a) 0) else m.read i := by
  induction bs generalizing m a with
  | nil => rw [memPut, if_neg (by rw [List.length_nil]; omega)]
  | cons b bs ih =>
    rw [memPut, ih, Memory.read_write, List.length_cons]
    by_cases hi : i = a
    · subst hi
      rw [if_neg (by omega), if_pos rfl, if_pos (by omega), Nat.sub_self, List.getD_cons_zero]
    · by_cases hin : a + 1 ≤ i ∧ i < a + 1 + bs.length
      · obtain ⟨j, rfl⟩ : ∃ j, i = a + 1 + j := ⟨i - (a + 1), by omega⟩
        rw [if_pos hin, if_pos (by omega), Nat.add_sub_cancel_left, Nat.add_assoc, Nat.add_sub_cancel_left, Nat.add_comm 1 j,
          List.getD_cons_succ]
      · rw [if_neg hin, if_neg hi, if_neg (by omega)]

/-- The middle of three lists. -/
theorem slice_middle (h b t : List Nat) {o n : Nat} (ho : h.length = o) (hn : b.length = n) :
    slice (h ++ b ++ t) o n = b := by
  subst ho hn
  simp [slice]

/-- A little-endian number between other bytes. -/
theorem leAt_middle (h t : List Nat) {o n v : Nat} (ho : h.length = o) (hv : v < 256 ^ n) :
    leAt (h ++ leBytes n v ++ t) o n = v := by
  rw [leAt, slice_middle h _ t ho (Crypto.leBytes_length n v), leNat_leBytes, Nat.mod_eq_of_lt hv]

end Sys2Proof.Machine
end

section
/-!
Banks and the open load (R234, R240 to R244, OED-7): what each operation leaves, each by its own lemma.
-/

namespace Sys2Proof.Machine

/-! ### Banks -/

section
variable (s : State) (k : Nat) (b : Option Bank)

theorem bankSt_setBankSt {v : Nat} (hv : v < 4) : (setBankSt s k v).bankSt k = v :=
  (State.rd_wr_same ..).trans (Nat.mod_eq_of_lt hv)

theorem setBankSt_prg (v : Nat) : (setBankSt s k v).prg = s.prg := State.wr_prg ..

/-- The bank a program state holds under letter `k`. -/
theorem bank?_putBank : (putBank s k b).bank? k = b := by
  have hprg : (putBank s k b).prg = if k = 0 then { s.prg with a := b } else { s.prg with b := b } := rfl
  unfold State.bank?
  rw [hprg]
  split <;> rfl

theorem putBank_load : (putBank s k b).prg.load = s.prg.load := by
  have hprg : (putBank s k b).prg = if k = 0 then { s.prg with a := b } else { s.prg with b := b } := rfl
  rw [hprg]
  split <;> rfl

theorem bank?_of_prg {t : State} (h : t.prg = s.prg) : t.bank? k = s.bank? k := by
  rw [State.bank?, h, State.bank?]

theorem bankSt_of_moves {ps : List Part} {os : List Nat} {ws : List Fld} {t : State} (h : Moves ps os ws s t)
    (ha : fieldOutside os ws F.PRG_BANKA_STATE = true)
    (hb : fieldOutside os ws (bankFld 1 F.PRG_BANKA_STATE) = true) : t.bankSt k = s.bankSt k := by
  have hfld : bankFld k F.PRG_BANKA_STATE = F.PRG_BANKA_STATE ∨
      bankFld k F.PRG_BANKA_STATE = bankFld 1 F.PRG_BANKA_STATE := by
    by_cases hk : k = 0
    · exact .inl (by rw [hk]; rfl)
    · exact .inr (by rw [bankFld, if_neg hk]; rfl)
  unfold State.bankSt
  rcases hfld with hf | hf
  · rw [hf, h.rd _ _ ha]
  · rw [hf, h.rd _ _ hb]

end

/-- Bank `k` is EMPTY and holds no program. -/
structure BankEmptied (k : Nat) (t : State) : Prop where
  bank : t.bank? k = none
  state : t.bankSt k = 0

theorem emptyBank_emptied (s : State) (k : Nat) : BankEmptied k (emptyBank s k) := by
  unfold emptyBank
  refine ⟨?_, bankSt_setBankSt (putBank s k none) k (by decide)⟩
  rw [bank?_of_prg _ _ (setBankSt_prg ..), bank?_putBank]

/-! ### The end of a load -/

/-- What the end of a load touches. -/
abbrev LoadMoves (s t : State) : Prop :=
  Moves (traceParts ++ [.mbx, .prg]) (traceObjs ++ [F.objPRG_BANKA, F.objPRG_BANKB]) ackFlds s t

/-- No load is open. -/
def loadClosed (s : State) : State := { s with prg := { s.prg with load := none } }

/-- A bank after its load: LOADED, or EMPTY. -/
def bankSettled (s : State) (k : Nat) (loaded : Bool) : State := if loaded then setBankSt s k 2 else emptyBank s k

theorem bankSettled_leaves (s : State) (k : Nat) (loaded : Bool) :
    Leaves [.prg] [F.objPRG_BANKA, F.objPRG_BANKB] s (bankSettled s k loaded) :=
  .ite (.one (setBankSt_leaves ..) rfl rfl) (emptyBank_leaves ..)

theorem emptyBank_load (s : State) (k : Nat) : (emptyBank s k).prg.load = s.prg.load := by
  rw [emptyBank, setBankSt_prg, putBank_load]

theorem bankSettled_false (s : State) (k : Nat) : bankSettled s k false = emptyBank s k := rfl

theorem bankSettled_true (s : State) (k : Nat) : bankSettled s k true = setBankSt s k 2 := rfl

theorem loadClosed_leaves (s : State) : Leaves [.prg] [] s (loadClosed s) := Leaves.set_prg s _

theorem bank?_loadClosed (s : State) (k : Nat) : (loadClosed s).bank? k = s.bank? k := rfl

/-- Load `l` is the open one. -/
def loadPut (s : State) (l : Load) : State := { s with prg := { s.prg with load := some l } }

theorem loadPut_leaves (s : State) (l : Load) : Leaves [.prg] [] s (loadPut s l) := Leaves.set_prg s _

theorem bank?_loadPut (s : State) (l : Load) (k : Nat) : (loadPut s l).bank? k = s.bank? k := rfl

section
variable {s : State} {l : Load} (status result : Nat) (loaded : Bool)

theorem endLoad_eq (h : s.prg.load = some l) :
    endLoad s status result loaded = finNum (bankSettled (loadClosed s) l.bank loaded) l.handle status result := by
  unfold endLoad
  rw [h]
  rfl

theorem finNum_moves (s : State) (n status result : Nat) :
    Moves (traceParts ++ [.mbx]) traceObjs ackFlds s (finNum s n status result) := finHdl_moves ..

/-- The bank settled before the FIN of its load. -/
theorem settled_leaves (s : State) (k : Nat) (loaded : Bool) :
    Leaves [.prg] [F.objPRG_BANKA, F.objPRG_BANKB] s (bankSettled (loadClosed s) k loaded) :=
  .step (bankSettled_leaves ..) (.one (loadClosed_leaves s) rfl rfl) rfl rfl

theorem endLoad_moves (s : State) : LoadMoves s (endLoad s status result loaded) := by
  cases h : s.prg.load with
  | none =>
    rw [endLoad, h]
    exact .refl s
  | some l =>
    rw [endLoad_eq status result loaded h]
    exact (finNum_moves ..).step ((settled_leaves s l.bank loaded).moves.one rfl rfl rfl) rfl rfl rfl

theorem endLoad_store (s : State) : StoreStands s (endLoad s status result loaded) := by
  cases h : s.prg.load with
  | none =>
    rw [endLoad, h]
    exact .refl s
  | some l =>
    rw [endLoad_eq status result loaded h]
    exact ((settled_leaves s l.bank loaded).storeStands rfl).trans (finHdl_store ..)

theorem endLoad_empties (h : s.prg.load = some l) : (endLoad s status result false).prg.load = none ∧
    (endLoad s status result false).bank? l.bank = none ∧ (endLoad s status result false).bankSt l.bank = 0 := by
  rw [endLoad_eq status result false h, bankSettled_false]
  have hfin := finNum_moves (emptyBank (loadClosed s) l.bank) l.handle status result
  have hprg := hfin.1.1 .prg (by decide)
  have hempty := emptyBank_emptied (loadClosed s) l.bank
  refine ⟨?_, ?_, ?_⟩
  · rw [hprg, emptyBank_load, loadClosed]
  · rw [bank?_of_prg _ _ hprg, hempty.bank]
  · rw [bankSt_of_moves _ _ hfin rfl rfl, hempty.state]

theorem endLoad_keeps (h : s.prg.load = some l) : (endLoad s status result true).prg = { s.prg with load := none } ∧
    (endLoad s status result true).bankSt l.bank = 2 := by
  rw [endLoad_eq status result true h, bankSettled_true]
  have hfin := finNum_moves (setBankSt (loadClosed s) l.bank 2) l.handle status result
  refine ⟨hfin.1.1 .prg (by decide), ?_⟩
  rw [bankSt_of_moves _ _ hfin rfl rfl]
  exact bankSt_setBankSt _ _ (by decide)

/-- The FIN of a load, where the mailbox knows its handle as `a` knew it. -/
theorem fins_endLoad {a : State} (h : s.prg.load = some l) (hm : s.mbx = a.mbx) (ht : s.time = a.time)
    (hc : s.ring.core = a.ring.core) : Fins l.handle status result [] a (endLoad s status result loaded) := by
  have hset := settled_leaves s l.bank loaded
  rw [endLoad_eq status result loaded h]
  refine fins_finNum ((hset.1 .mbx (by decide)).trans hm) ?_ ?_
  · rw [hset.1 .time (by decide), ht]
  · rw [hset.1 .ring (by decide), hc]

theorem endLoad_ring (s : State) : (endLoad s status result loaded).mbx.ring = s.mbx.ring := by
  cases h : s.prg.load with
  | none => rw [endLoad, h]
  | some l =>
    rw [endLoad_eq status result loaded h]
    exact (finHdl_grow ..).1.trans (congrArg MbxSt.ring ((settled_leaves s l.bank loaded).1 .mbx (by decide)) :)

end

/-! ### The checks of OED-7 -/

section
variable {a : State} {l : Load}

/-- The checks of an ended load run: the first that fails ends it, and without one it goes on to the lane copies. -/
theorem loadChecks_run (hl : a.prg.load = some l) (hst : l.stage = 1) (hsv : a.clk.supv = true) :
    (∀ st res, (checkImage a l).1 = some (st, res) → loadChecks a = endLoad a st res false) ∧
      ((checkImage a l).1 = none → loadChecks a = note (loadPut a { l with stage := 2 }) (l.handle % 2048) 500) := by
  unfold loadChecks
  rw [hl]
  dsimp only
  rw [if_neg (by simp [hst, hsv])]
  exact ⟨fun st res h => by rw [h], fun h => by rw [h, loadPut]⟩

theorem find?_map_put_slot (l : List Hdl) (h : Hdl) :
    (l.map fun x => if x.slot = h.slot then h else x).find? (fun x => decide (x.slot = h.slot)) =
      (l.find? fun x => decide (x.slot = h.slot)).map fun _ => h := by
  induction l with
  | nil => rfl
  | cons x l ih =>
    simp only [List.map_cons, List.find?_cons, ih]
    by_cases hx : x.slot = h.slot <;> simp [hx]

/-- The handle put is the one its slot shows. -/
theorem putHdl_hdl? {s : State} {h x : Hdl} (hx : s.hdl? h.slot = some x) : (putHdl s h).hdl? h.slot = some h :=
  (find?_map_put_slot s.mbx.hdls h).trans (by rw [show s.mbx.hdls.find? _ = some x from hx]; rfl)

theorem note_moves (s : State) (k progress : Nat) :
    Moves (traceParts ++ [.mbx]) traceObjs queueFlds s (note s k progress) := by
  unfold note
  split
  · exact .refl s
  · next h _ =>
    have hput : Moves (traceParts ++ [.mbx]) traceObjs queueFlds s (putHdl s { h with progress := progress }) :=
      (putHdl_leaves ..).moves.one rfl rfl rfl
    exact .ite ((placeRecs_moves ..).step hput rfl rfl rfl) hput

/-- A NOTE leaves its progress on the handle. -/
theorem note_progress {s : State} {k : Nat} {h : Hdl} (hk : s.hdl? k = some h) (progress : Nat) :
    ((note s k progress).hdl? k).map (·.progress) = some progress := by
  obtain rfl : h.slot = k := by simpa using List.find?_some hk
  have hput : (putHdl s { h with progress := progress }).hdl? h.slot = some { h with progress := progress } := putHdl_hdl? hk
  unfold note
  rw [hk]
  dsimp only
  split
  · rw [State.hdl?, placeRecs_mbx]
    exact congrArg (Option.map (·.progress)) hput
  · rw [hput]
    rfl

end

/-! ### The lane copies -/

section
variable {a : State} {l : Load} {bad : Nat}

/-- The lane copies of a load may be made. -/
structure CopiesReady (a : State) (l : Load) : Prop where
  load : a.prg.load = some l
  stage : l.stage = 2
  idle : a.lanesIdle = true
  lane : a.clk.lane = true
  supv : a.clk.supv = true

/-- The image of a load stands in the lanes, and its BANKLOAD record is written. -/
def imageKept (a : State) (l : Load) (b : Bank) : State :=
  writeRec (putBank a l.bank (some b)) kBANKLOAD l.bank 0 (bankloadData b l.size)

theorem laneBankCopy_eq (h : CopiesReady a l) : laneBankCopy bad a =
    if bad % 8 ≠ 0 then endLoad a Code.LANE_COPY_FAILED (bad % 8) false
    else if !a.storeOk then endLoad (writeAbandoned a kBANKLOAD l.bank 0x50) Code.WRITE_ABANDONED 0 false
    else endLoad (imageKept a l (checkImage a l).2) Code.OK ((checkImage a l).2.progId + 2 ^ 32 * (checkImage a l).2.build)
      true := by
  unfold laneBankCopy
  rw [h.load]
  dsimp only
  rw [if_neg (by simp [h.stage, h.idle, h.lane, h.supv])]
  rfl

theorem beBytes_length (n w : Nat) : (beBytes n w).length = n := by
  rw [beBytes, List.length_reverse, Crypto.leBytes_length]

theorem bankloadData_length (b : Bank) (n : Nat) : (bankloadData b n).length = 44 := by
  simp [bankloadData, Crypto.leBytes_length, beBytes_length]

theorem imageKept_moves (a : State) (l : Load) (b : Bank) :
    Moves [.prg, .sto] [F.objPRG_BANKA, F.objPRG_BANKB] [F.STO_STATUS_INCONS] a (imageKept a l b) :=
  (writeRec_moves ..).step ((putBank_leaves ..).moves.one rfl rfl rfl) rfl rfl rfl

theorem imageKept_prg (a : State) (l : Load) (b : Bank) :
    (imageKept a l b).prg = (putBank a l.bank (some b)).prg := (writeRec_moves ..).1.1 .prg (by decide)

theorem writeAbandoned_moves (s : State) (kind index opcode : Nat) :
    Moves traceParts traceObjs [F.STO_COUNT_ABANDONED] s (writeAbandoned s kind index opcode) :=
  .after (trace_log ..) ((State.inc_moves ..).one rfl rfl rfl) rfl rfl

end

end Sys2Proof.Machine
end

section
/-!
The commands of a load (R240 to R244), and the obligation on loading.
-/

namespace Sys2Proof.Machine

/-! ### PRG_LOAD_BEGIN (R240) -/

section
variable {s : State} {c : Cmd} {x : Session} {k size : Nat} {dig : List Nat}

/-- The bank of a load that begins: its image dropped, and EMPTY. -/
def bankCleared (s : State) (l : Load) : State :=
  emptyBank (dropImage (startHdl s (l.handle % 2048)) l.bank) l.bank

/-- What PRG_LOAD_BEGIN leaves: the bank cleared and LOADING, the load open. -/
def loadOpened (s : State) (l : Load) : State := loadPut (setBankSt (bankCleared s l) l.bank 1) l

theorem gateStore_open {w : Win} {out : State × Ans} (hw : s.window { w with store := true } = none)
    (hf : s.storeFault = false) : gateStore w s out = out := by
  rw [gateStore, gate, hw]
  exact if_neg (by simp [hf])

/-- A PRG_LOAD_BEGIN that passes its checks is a long operation. -/
theorem loadBegin_checked (hp : c.payload = [k, 0, 0, 0] ++ leBytes 4 size ++ dig) (hdig : dig.length = 32) (hk : k ≤ 1)
    (hmin : 1156 ≤ size) (hmax : size ≤ 664704) (hw : s.window { lanes := true, store := true } = none)
    (hf : s.storeFault = false) (hactive : s.prg.active ≠ some k) (hload : s.prg.load = none)
    (hact : ∀ b, s.prg.act = some b → b.bank ≠ k) :
    loadBegin c x s = (s, .long (.load k) fun h s => loadOpened s ⟨h, k, size, beNat dig, 0⟩) := by
  have hsize : leAt c.payload 4 4 = size := by
    rw [hp]
    exact leAt_middle _ _ rfl (by omega)
  have hdigest : slice c.payload 8 32 = dig := by
    rw [hp, ← List.append_nil ([k, 0, 0, 0] ++ leBytes 4 size ++ dig)]
    exact slice_middle _ _ [] (by simp [Crypto.leBytes_length]) hdig
  have hbank : leAt c.payload 0 1 = k := by
    rw [hp, leAt_byte]
    exact Nat.mod_eq_of_lt (show k < 256 by omega)
  have hpay : payOk c 40 1 3 = true := by simp [payOk, hp, slice, hdig, Crypto.leBytes_length]
  unfold loadBegin
  rw [hbank, hsize, hdigest]
  dsimp only
  rw [if_neg (by simp [hpay]; omega), if_neg (by omega), gateStore_open hw hf, if_neg hactive, if_neg (by simp [hload])]
  cases hb : s.prg.act with
  | none => rfl
  | some b =>
    rw [if_neg (by simpa using hact b hb)]
    rfl

theorem dropImage_moves (s : State) (k : Nat) : Moves [.sto] [] [F.STO_STATUS_INCONS] s (dropImage s k) := by
  unfold dropImage
  extract_lets r
  refine .ite (.refl s) ?_
  exact (State.wr_moves ..).step (.after (Leaves.set_sto _ _) ((putRec_leaves ..).moves.one rfl rfl rfl) rfl rfl) rfl rfl rfl

/-- The image's record has no slot left. -/
theorem dropImage_absent (s : State) (k : Nat) :
    ((dropImage s k).stoRec kBANKLOAD k).s0 = none ∧ ((dropImage s k).stoRec kBANKLOAD k).s1 = none := by
  unfold dropImage
  extract_lets r
  split
  · next h => simpa using h
  · rw [setIncons_stoRec, putRec_stoRec s kBANKLOAD k rfl rfl]
    exact ⟨rfl, rfl⟩

/-- A start of an operation takes nothing from ring and queue. -/
theorem startHdl_queues (s : State) (k : Nat) : (startHdl s k).mbx.ring = s.mbx.ring ∧ (startHdl s k).mbx.cq = s.mbx.cq := by
  unfold startHdl
  split <;> exact ⟨rfl, rfl⟩

section
variable (s : State) (l : Load)

theorem bankCleared_moves : Moves [.mbx, .prg, .sto] [F.objPRG_BANKA, F.objPRG_BANKB] [F.STO_STATUS_INCONS] s
    (bankCleared s l) :=
  .after (emptyBank_leaves ..) ((dropImage_moves ..).step ((startHdl_leaves ..).moves.one rfl rfl rfl) rfl rfl rfl) rfl rfl

theorem opening_leaves : Leaves [.prg] [F.objPRG_BANKA, F.objPRG_BANKB] (bankCleared s l) (loadOpened s l) :=
  .step (loadPut_leaves ..) (.one (setBankSt_leaves ..) rfl rfl) rfl rfl

theorem loadOpened_moves : Moves [.mbx, .prg, .sto] [F.objPRG_BANKA, F.objPRG_BANKB] [F.STO_STATUS_INCONS] s
    (loadOpened s l) := .after (opening_leaves s l) (bankCleared_moves s l) rfl rfl

theorem loadOpened_queues : (loadOpened s l).mbx.ring = s.mbx.ring ∧ (loadOpened s l).mbx.cq = s.mbx.cq := by
  have hmbx : (loadOpened s l).mbx = (startHdl s (l.handle % 2048)).mbx :=
    ((opening_leaves s l).1 .mbx (by decide)).trans <| ((emptyBank_leaves ..).1 .mbx (by decide)).trans
      ((dropImage_leaves ..).1 .mbx (by decide))
  rw [hmbx]
  exact startHdl_queues ..

theorem loadOpened_load : (loadOpened s l).prg.load = some l := rfl

theorem loadOpened_bank : (loadOpened s l).bank? l.bank = none ∧ (loadOpened s l).bankSt l.bank = 1 := by
  have hempty : (bankCleared s l).bank? l.bank = none := (emptyBank_emptied ..).bank
  have hput := loadPut_leaves (setBankSt (bankCleared s l) l.bank 1) l
  refine ⟨?_, ?_⟩
  · rw [loadOpened, bank?_loadPut, bank?_of_prg _ _ (setBankSt_prg ..), hempty]
  · rw [loadOpened, bankSt_of_moves _ _ hput.moves rfl rfl, bankSt_setBankSt _ _ (by decide)]

theorem loadOpened_image : (loadOpened s l).recData kBANKLOAD l.bank = none := by
  have hsto : (loadOpened s l).sto = (dropImage (startHdl s (l.handle % 2048)) l.bank).sto :=
    ((opening_leaves s l).1 .sto (by decide)).trans ((emptyBank_leaves ..).1 .sto (by decide))
  have habsent := dropImage_absent (startHdl s (l.handle % 2048)) l.bank
  rw [← stoRec_of_recs (congrArg StoSt.recs hsto)] at habsent
  exact recData_of_absent habsent.1 habsent.2

end

end

/-! ### PRG_LOAD_DATA, PRG_LOAD_END and PRG_ABORT (R241, R242, R244) -/

section
variable {s : State} {c : Cmd} {x : Session} {l : Load} {o : Nat} {d : List Nat}

/-- Bytes of an open load enter the image of its bank. -/
def imageWritten (s : State) (l : Load) (o : Nat) (d : List Nat) : State :=
  { s with sto := if l.bank = 0 then { s.sto with progA := memPut s.sto.progA o d }
    else { s.sto with progB := memPut s.sto.progB o d } }

theorem loadData_checked (hp : c.payload = leBytes 4 o ++ d) (ho : o < 2 ^ 32) (hd : d.length ≤ 996)
    (hw : s.window { lanes := true, store := true } = none) (hf : s.storeFault = false) (hl : s.loadOf c.arg = some l) :
    loadData c x s = if l.size < o + d.length then refuse s Code.LOAD_RANGE else done (imageWritten s l o d) := by
  have hoff : leAt c.payload 0 4 = o := by
    rw [hp]
    exact leAt_middle [] _ rfl ho
  have hdata : c.payload.drop 4 = d := by rw [hp, List.drop_left' (Crypto.leBytes_length ..)]
  have hlen : c.payload.length = 4 + d.length := by rw [hp, List.length_append, Crypto.leBytes_length]
  unfold loadData
  rw [hoff, hdata]
  dsimp only
  rw [if_neg (by omega), gateStore_open hw hf, hl]
  rfl

theorem imageWritten_read (s : State) (l : Load) (o i : Nat) (d : List Nat) :
    (imageWritten s l o d).sto.progA.read i = (if l.bank = 0 ∧ o ≤ i ∧ i < o + d.length then
      BitVec.ofNat 8 (d.getD (i - o) 0) else s.sto.progA.read i) ∧
    (imageWritten s l o d).sto.progB.read i = (if l.bank ≠ 0 ∧ o ≤ i ∧ i < o + d.length then
      BitVec.ofNat 8 (d.getD (i - o) 0) else s.sto.progB.read i) := by
  unfold imageWritten
  by_cases hb : l.bank = 0
  · simp only [hb, if_true, true_and, ne_eq, not_true, false_and, if_false, memPut_read, and_self]
  · simp only [hb, if_false, false_and, ne_eq, not_false_iff, true_and, memPut_read, and_self]

theorem loadEnd_open (hw : s.window { lanes := true } = none) (hl : s.loadOf c.arg = some l) :
    loadEnd c x s = done { s with prg := { s.prg with load := some { l with stage := 1 } } } := by
  rw [loadEnd, gate, hw, hl]

theorem loadAbort_open (hw : s.window { lanes := true } = none) (hl : s.prg.load = some l) (harg : l.handle = c.arg) :
    loadAbort c x s = done (endLoad s Code.CANCELLED 0 false) := by
  rw [loadAbort, gate, hw, hl]
  exact if_pos harg

end

section
variable {a : State} {r : RingCmd} {x : Session}

/-- A session that is open when a command is taken is open while the command runs. -/
theorem admitted_open (hx : a.session? (parse r).session = some x) {n : Nat} (h : (a.session? n).isSome = true) :
    ((admitted (popCmd a) x).session? n).isSome = true := by
  have hno : x.no = (parse r).session := (mem_of_session? hx).2
  by_cases hn : n = x.no
  · rw [hn, admitted_session?]
    rfl
  · have hpop : (popCmd a).session? n = a.session? n := by
      rw [State.session?, popCmd_mbx]
      rfl
    have hadm : (admitted (popCmd a) x).session? n = a.session? n :=
      (putSession_session? ..).trans ((if_neg (by simpa [Session.touched] using hn)).trans hpop)
    rwa [hadm]

theorem loadOf_of_prg {s t : State} (h : t.prg = s.prg) (n : Nat) : t.loadOf n = s.loadOf n := by
  rw [State.loadOf, h, State.loadOf]

end

end Sys2Proof.Machine
end

section
/-!
Each step of a load as a whole, and the obligation on loading (R240 to R244, OED-7).
-/

namespace Sys2Proof.Machine

/-! ### The commands as a whole -/

section
variable {a : State} {r : RingCmd} {x : Session} {l : Load} {st res o : Nat} {d : List Nat}

/-- PRG_LOAD_BEGIN opens the load behind its answer. -/
theorem loadBegin_opens {k size : Nat} {dig : List Nat} (ht : Taken 0x50 3 a r x)
    (hpay : (parse r).payload = [k, 0, 0, 0] ++ leBytes 4 size ++ dig) (hdig : dig.length = 32) (hk : k ≤ 1)
    (hmin : 1156 ≤ size) (hmax : size ≤ 664704) (hw : a.window { lanes := true, store := true } = none)
    (hf : a.storeFault = false) (hactive : a.prg.active ≠ some k) (hload : a.prg.load = none)
    (hact : ∀ b, a.prg.act = some b → b.bank ≠ k) (hh : HasHandle a x) :
    mbxRun 0x50 3 loadBegin a = loadOpened (accepted a r x (.load k)) ⟨(allotted a r x (.load k)).2, k, size, beNat dig, 0⟩ := by
  have hu := unjudged_admitted a x
  have hprg := hu.prg
  have hlong := loadBegin_checked (x := x.touched a.time.xt) hpay hdig hk hmin hmax ((hu.window _).trans hw)
    (hu.storeFault.trans hf) (by rwa [hprg]) (by rwa [hprg]) (by rwa [hprg])
  exact (mbxRun_long ht hh hlong :)

theorem loadData_judged (hpay : (parse r).payload = leBytes 4 o ++ d) (ho : o < 2 ^ 32)
    (hd : d.length ≤ 996) (hw : a.window { lanes := true, store := true } = none) (hf : a.storeFault = false)
    (hl : a.loadOf (parse r).arg = some l) :
    loadData (parse r) (x.touched a.time.xt) (admitted (popCmd a) x) =
      if l.size < o + d.length then refuse (admitted (popCmd a) x) Code.LOAD_RANGE
      else done (imageWritten (admitted (popCmd a) x) l o d) := by
  have hu := unjudged_admitted a x
  exact loadData_checked hpay ho hd ((hu.window _).trans hw) (hu.storeFault.trans hf) ((loadOf_of_prg hu.prg _).trans hl)

/-- An answer behind the bytes of an open load. -/
theorem imageWritten_replied (a : State) (r : RingCmd) (x : Session) (l : Load) (o : Nat) (d : List Nat) :
    let u := imageWritten (admitted (popCmd a) x) l o d
    let t := replied u (parse r) Code.OK 0 0 []
    Answered r Code.OK 0 0 [] a t ∧
      (∀ i, t.sto.progA.read i = if l.bank = 0 ∧ o ≤ i ∧ i < o + d.length then BitVec.ofNat 8 (d.getD (i - o) 0)
        else a.sto.progA.read i) ∧
      (∀ i, t.sto.progB.read i = if l.bank ≠ 0 ∧ o ≤ i ∧ i < o + d.length then BitVec.ofNat 8 (d.getD (i - o) 0)
        else a.sto.progB.read i) ∧
      CmdMoves a t := by
  intro u t
  have hu : Unanswered a u := (unanswered_admitted a x).step rfl rfl rfl
  have hstands := admitted_store a x
  have hread := fun i => imageWritten_read (admitted (popCmd a) x) l o i d
  have hkept : StoreStands u t := replied_store u (parse r) Code.OK 0 0 []
  have hframe : CmdMoves a u := .after (Leaves.set_sto _ _) (unjudged_admitted a x).frame rfl rfl
  refine ⟨hu.answered, fun i => ?_, fun i => ?_, hframe.trans (replied_answers ..).frame⟩
  · rw [hkept.progA, (hread i).1, hstands.progA]
  · rw [hkept.progB, (hread i).2, hstands.progB]

/-- PRG_LOAD_END closes the load for data. -/
theorem loadEnd_closes (ht : Taken 0x52 3 a r x) (hw : a.window { lanes := true } = none)
    (hl : a.loadOf (parse r).arg = some l) :
    let t := mbxRun 0x52 3 loadEnd a
    Answered r Code.OK 0 0 [] a t ∧ t.prg = (loadPut a { l with stage := 1 }).prg ∧
      Moves (traceParts ++ [.mbx, .prg, .sec]) traceObjs [F.MBX_QUEUES_CQ_FREE, F.MBX_QUEUES_CR_FREE, F.MBX_USE_BAD_MAC,
        F.MBX_USE_HANDLES_USED, F.MBX_USE_SESSIONS_OPEN] a t := by
  have hju := unjudged_admitted a x
  have hrun := mbxRun_imm ht (loadEnd_open (x := x.touched a.time.xt) ((hju.window _).trans hw)
    ((loadOf_of_prg hju.prg _).trans hl))
  have hu : Unanswered a (loadPut (admitted (popCmd a) x) { l with stage := 1 }) :=
    (unanswered_admitted a x).step rfl rfl rfl
  have hput := loadPut_leaves (admitted (popCmd a) x) { l with stage := 1 }
  have hans := replied_answers (loadPut (admitted (popCmd a) x) { l with stage := 1 }) (parse r) Code.OK 0 0 []
  dsimp only
  rw [hrun]
  refine ⟨hu.answered, ?_, hans.frame.step (.after hput (hju.frame.one rfl rfl rfl) rfl rfl) rfl rfl rfl⟩
  exact (hans.frame.1.1 .prg (by decide)).trans (by rw [loadPut, hju.prg]; rfl)

/-- The FIN of a load that PRG_ABORT ends stands in the queue. -/
theorem abort_fins (hx : a.session? (parse r).session = some x) (hl : a.prg.load = some l) (h : Hdl)
    (hh : a.hdl? (l.handle % 2048) = some h) (hst : h.state ≠ 4) (hs : (a.session? h.session).isSome = true) :
    (replied (endLoad (admitted (popCmd a) x) Code.CANCELLED 0 false) (parse r) st 0 res []).mbx.cq.any
      (fun q => decide (q.kind = 2) && decide (q.status = Code.CANCELLED) && decide (q.handle = h.num)) = true := by
  have hload : (admitted (popCmd a) x).prg.load = some l := by rw [(unjudged_admitted a x).prg, hl]
  have hhdl : (admitted (popCmd a) x).hdl? (l.handle % 2048) = some h := by
    rw [State.hdl?, (unanswered_admitted a x).mbx]
    exact hh
  obtain ⟨q, hq⟩ := fins_endLoad Code.CANCELLED 0 false hload rfl rfl rfl h hhdl hst (admitted_open hx hs)
  rw [replied_mbx, List.any_append, Bool.or_eq_true]
  exact .inl (List.any_eq_true.mpr ⟨_, hq.subset (List.mem_cons_self ..), by simp⟩)

/-- PRG_ABORT ends the load before its answer. -/
theorem loadAbort_ends (hl : a.prg.load = some l) :
    let t := replied (endLoad (admitted (popCmd a) x) Code.CANCELLED 0 false) (parse r) Code.OK 0 0 []
    (t.prg.load = none ∧ t.bank? l.bank = none ∧ t.bankSt l.bank = 0) ∧ t.mbx.ring = a.mbx.ring.tail ∧
      Moves (traceParts ++ [.mbx, .prg, .sec]) (traceObjs ++ [F.objPRG_BANKA, F.objPRG_BANKB]) [F.MBX_QUEUES_CQ_FREE,
        F.MBX_QUEUES_CR_FREE, F.MBX_USE_BAD_MAC, F.MBX_USE_HANDLES_USED, F.MBX_USE_SESSIONS_OPEN] a t := by
  have hju := unjudged_admitted a x
  have hload : (admitted (popCmd a) x).prg.load = some l := by rw [hju.prg, hl]
  have hring : (admitted (popCmd a) x).mbx.ring = a.mbx.ring.tail := (congrArg MbxSt.ring (unanswered_admitted a x).mbx :)
  have hans := replied_answers (endLoad (admitted (popCmd a) x) Code.CANCELLED 0 false) (parse r) Code.OK 0 0 []
  have hend : LoadMoves _ (endLoad (admitted (popCmd a) x) Code.CANCELLED 0 false) := endLoad_moves ..
  obtain ⟨hclosed, hbank, hstate⟩ := endLoad_empties Code.CANCELLED 0 hload
  have hprg := hans.frame.1.1 .prg (by decide)
  refine ⟨⟨?_, ?_, ?_⟩, ?_, hans.frame.step (hend.step (hju.frame.one rfl rfl rfl) rfl rfl rfl) rfl rfl rfl⟩
  · rw [hprg, hclosed]
  · rw [bank?_of_prg _ _ hprg, hbank]
  · rw [bankSt_of_moves _ _ hans.frame rfl rfl, hstate]
  · rw [hans.ring, endLoad_ring, hring]

end

/-! ### The lane copies as a whole -/

section
variable {a : State} {l : Load}

/-- A load whose image `b` is kept ends OK, its bank LOADED. -/
theorem imageKept_ends (hl : a.prg.load = some l) (b : Bank) :
    let t := endLoad (imageKept a l b) Code.OK (b.progId + 2 ^ 32 * b.build) true
    (t.prg.load = none ∧ t.bank? l.bank = some b ∧ t.bankSt l.bank = 2) ∧
      (∃ z, ((t.stoRec kBANKLOAD l.bank).s0 = some z ∨ (t.stoRec kBANKLOAD l.bank).s1 = some z) ∧ z.usable = true ∧
        z.data = slice (bankloadData b l.size) 0 48) ∧
      Fins l.handle Code.OK (b.progId + 2 ^ 32 * b.build) [] a t ∧
      Moves (traceParts ++ [.mbx, .prg]) (traceObjs ++ [F.objPRG_BANKA, F.objPRG_BANKB]) (F.STO_STATUS_INCONS :: ackFlds) a
        t := by
  have hkept := imageKept_moves a l b
  have hprg := imageKept_prg a l b
  have hload : (imageKept a l b).prg.load = some l := by rw [hprg, putBank_load, hl]
  have hslot := writeRec_usable (putBank a l.bank (some b)) kBANKLOAD l.bank 0 (bankloadData b l.size)
  have hstore := endLoad_store Code.OK (b.progId + 2 ^ 32 * b.build) true (imageKept a l b)
  have hend : LoadMoves _ (endLoad (imageKept a l b) Code.OK (b.progId + 2 ^ 32 * b.build) true) := endLoad_moves ..
  obtain ⟨hclosed, hstate⟩ := endLoad_keeps Code.OK (b.progId + 2 ^ 32 * b.build) hload
  refine ⟨⟨?_, ?_, hstate⟩, ?_, ?_, hend.step (hkept.one rfl rfl rfl) rfl rfl rfl⟩
  · rw [hclosed]
  · rw [bank?_of_prg (s := loadClosed (imageKept a l b)) _ hclosed, bank?_loadClosed, bank?_of_prg _ _ hprg, bank?_putBank]
  · rw [bankloadData_length] at hslot
    rwa [stoRec_of_recs hstore.recs]
  · exact fins_endLoad _ _ _ hload (hkept.1.1 .mbx (by decide)) (hkept.1.1 .time (by decide))
      (by rw [hkept.1.1 .ring (by decide)])

/-- A load that ends without its program, from a state that differs from `a` in what was recorded on the way. -/
theorem failure_ends {u : State} (hl : a.prg.load = some l) (hu : Moves traceParts traceObjs [F.STO_COUNT_ABANDONED] a u)
    (hs : StoreStands a u) (hc : u.ring.core = a.ring.core) (st res : Nat) :
    let t := endLoad u st res false
    (t.prg.load = none ∧ t.bank? l.bank = none ∧ t.bankSt l.bank = 0) ∧ t.sto.recs = a.sto.recs ∧
      Fins l.handle st res [] a t ∧
      Moves (traceParts ++ [.mbx, .prg]) (traceObjs ++ [F.objPRG_BANKA, F.objPRG_BANKB]) (F.STO_COUNT_ABANDONED :: ackFlds)
        a t := by
  have hload : u.prg.load = some l := by rw [hu.1.1 .prg (by decide), hl]
  have hend : LoadMoves u (endLoad u st res false) := endLoad_moves ..
  exact ⟨endLoad_empties _ _ hload, (hs.trans (endLoad_store ..)).recs,
    fins_endLoad _ _ _ hload (hu.1.1 .mbx (by decide)) (hu.1.1 .time (by decide)) hc,
    hend.step (hu.one rfl rfl rfl) rfl rfl rfl⟩

end

/-! ### The obligation -/

/-- Settles O36: the commands by what their handlers answer, the checks and the lane copies by the way they end the load. -/
theorem programLoading : Obligations.ProgramLoading := by
  unfold Obligations.ProgramLoading
  refine ⟨?opens, ?data, ?range, ?ended, ?fails, ?passes, ?copied, ?abandoned, ?aborted⟩
  case opens =>
    intro dt s r x k size dig a ht hpay hdig hk hmin hmax hw hf hactive hload hact hh
    have hrun := loadBegin_opens ht hpay hdig hk hmin hmax hw hf hactive hload hact hh
    have hans := accepted_answered a r x (.load k)
    have hframe := accepted_frame a r x (.load k)
    generalize accepted a r x (.load k) = u at hrun hans hframe
    generalize (allotted a r x (.load k)).2 = n at hrun hans
    have hqueues := loadOpened_queues u ⟨n, k, size, beNat dig, 0⟩
    refine ⟨_, congrArg Host.Outcome.next hrun, ⟨n, ?_, loadOpened_load ..⟩, loadOpened_bank .., .inl (loadOpened_image ..), ?_⟩
    · exact hans.grow hqueues.1 (hqueues.2 ▸ List.prefix_rfl)
    · exact (loadOpened_moves ..).step (hframe.one rfl rfl rfl) rfl rfl rfl
  case data =>
    intro dt s r x l o d a ht hpay ho hd hw hf hl hfit
    have hrun := mbxRun_imm ht ((loadData_judged hpay ho hd hw hf hl).trans (if_neg (Nat.not_lt.mpr hfit)))
    obtain ⟨hans, hprogA, hprogB, hframe⟩ := imageWritten_replied a r x l o d
    exact ⟨_, congrArg Host.Outcome.next hrun, hans, hprogA, hprogB, hframe.1.1 .prg (by decide), hframe⟩
  case range =>
    intro dt s r x l o d a ht hpay ho hd hw hf hl hover
    have hrun := mbxRun_imm ht ((loadData_judged hpay ho hd hw hf hl).trans (if_pos hover))
    have hrep := replied_replied (a := a) (r := r) (x := x) Code.LOAD_RANGE 0
    have hkept := (admitted_store a x).trans (replied_store (admitted (popCmd a) x) (parse r) Code.LOAD_RANGE 0 0 [])
    exact ⟨_, congrArg Host.Outcome.next hrun, hrep.answered, ⟨hkept.progA, hkept.progB, hrep.frame.1.1 .prg (by decide)⟩,
      hrep.frame⟩
  case ended =>
    intro dt s r x l a ht hw hl
    exact ⟨_, rfl, loadEnd_closes ht hw hl⟩
  case fails =>
    intro dt s l st res a hl hb hst hsv hbad
    have hrun := (loadChecks_run hl hst hsv).1 st res hbad
    exact ⟨_, congrArg Host.Outcome.next hrun, endLoad_empties _ _ hl, fins_endLoad _ _ _ hl rfl rfl rfl, endLoad_moves ..⟩
  case passes =>
    intro dt s l a hl hst hsv hgood
    have hrun := (loadChecks_run hl hst hsv).2 hgood
    have hnote := note_moves (loadPut a { l with stage := 2 }) (l.handle % 2048) 500
    refine ⟨_, congrArg Host.Outcome.next hrun, hnote.1.1 .prg (by decide), fun h hh => ?_, ?_⟩
    · exact note_progress (s := loadPut a { l with stage := 2 }) hh 500
    · exact hnote.step ((loadPut_leaves ..).moves.one rfl rfl rfl) rfl rfl rfl
  case copied =>
    intro dt s bad l a hl hb hst hidle hlane hsv hbad hok
    have hrun := laneBankCopy_eq (bad := bad) ⟨hl, hst, hidle, hlane, hsv⟩
    rw [if_neg (by omega), if_neg (by simp [hok])] at hrun
    generalize (checkImage a l).2 = b at hrun ⊢
    obtain ⟨hload, hrec, hfins, hframe⟩ := imageKept_ends hl b
    exact ⟨_, congrArg Host.Outcome.next hrun, hload, hrec, hfins, hframe.one rfl rfl rfl⟩
  case abandoned =>
    intro dt s bad l a hl hb hst hidle hlane hsv hbad
    have hrun := laneBankCopy_eq (bad := bad) ⟨hl, hst, hidle, hlane, hsv⟩
    by_cases hcopy : bad % 8 ≠ 0
    · rw [if_pos hcopy] at hrun
      obtain ⟨hload, hrecs, hfins, hframe⟩ := failure_ends hl (.refl a) (.refl a) rfl Code.LANE_COPY_FAILED (bad % 8)
      exact ⟨_, congrArg Host.Outcome.next hrun, hload, hrecs, (if_pos hcopy).mpr hfins, hframe.one rfl rfl rfl⟩
    · rw [if_neg hcopy, if_pos (by simpa using hbad.resolve_left hcopy)] at hrun
      obtain ⟨hload, hrecs, hfins, hframe⟩ := failure_ends hl (writeAbandoned_moves a kBANKLOAD l.bank 0x50)
        (.trans (.of_sto (State.inc_sto ..)) (log_store ..)) (log_core ..) Code.WRITE_ABANDONED 0
      exact ⟨_, congrArg Host.Outcome.next hrun, hload, hrecs, (if_neg hcopy).mpr hfins, hframe.one rfl rfl rfl⟩
  case aborted =>
    intro dt s r x l a ht hw hl harg hb
    have hju := unjudged_admitted a x
    have hrun := mbxRun_imm ht (loadAbort_open (x := x.touched a.time.xt) ((hju.window _).trans hw) (by rw [hju.prg, hl]) harg)
    have hfins := abort_fins (st := Code.OK) (res := 0) (session?_of_checkSession ht.2.2.2.2.2.1) hl
    obtain ⟨hload, hring, hframe⟩ := loadAbort_ends (r := r) (x := x) hl
    exact ⟨_, congrArg Host.Outcome.next hrun, hload, hfins, hring, hframe⟩

end Sys2Proof.Machine
end

section
/-!
PRG_ACTIVATE: a concrete state that refutes the statement.
-/

namespace Sys2Proof.Machine

/-- A PRG_ACTIVATE of bank A. -/
def activateCmd : RingCmd := signedCmd 0x53 [0, 0, 0, 0]

/-- `engineer` with SCN.T00.ENTRY staged. -/
def taskStagingEngineer : Session :=
  { engineer with staging := [⟨F.objSCN_T, 0, F.SCN_T_ENTRY.lo, F.SCN_T_ENTRY.hi, 0, 7⟩] }

/-- A module in STOP with a program in bank A whose session table holds number 1 twice, the second time with a task field
staged: the session table of an arbitrary state is not bound to distinct numbers. -/
def State.strayStaging : State :=
  let s := State.serving activateCmd engineer
  let s := ((s.wr F.CLK_START_PLAN_DONE 1).wr F.CLK_START_LANES_LOADED 1).wr F.CLK_START_HOLD_30 1
  let s := setBankSt (s.wr F.SCN_MODE_MODE mSTOP) 0 2
  { s with mbx := { s.mbx with sessions := [engineer, taskStagingEngineer] } }

/-- Refutes O37: the clause on a refused PRG_ACTIVATE judges the state before the command is taken and leaves its session
table unbound. Taking the command puts its session in the place of every session of that number, so the field staged under
the second session 1 is gone when OED-8 is judged, and the answer is ACCEPTED where TASKS_STAGED is asked. -/
theorem not_programActivation : ¬ Obligations.ProgramActivation := by
  rintro ⟨refused, -⟩
  obtain ⟨t, ht, hans, -⟩ := refused .zero .strayStaging activateCmd engineer 0 0 Code.TASKS_STAGED (by decide +kernel)
    (by decide +kernel) (by decide) (by decide +kernel) (by decide +kernel)
  obtain rfl : mbxRun 0x53 3 activate (advance .zero .strayStaging) = t := Host.Outcome.next.inj ht
  have hstatus : (mbxRun 0x53 3 activate (advance .zero .strayStaging)).mbx.cq.head?.map CqRec.status =
      some Code.ACCEPTED := by
    decide +kernel
  rw [hans.head? rfl] at hstatus
  exact absurd (Option.some.inj hstatus) (by decide)

end Sys2Proof.Machine
end

section
/-!
The lanes' registers (PLT-2, PLT-11): what a lane's new state, its retirement and the judgement of what is left change, lane
by lane.
-/

namespace Sys2Proof.Machine

section
variable {ps : List Part} {os : List Nat} {ws : List Fld} {s t : State} {j k v : Nat}

/-! ### A lane's state and its vote -/

/-- What a lane's new state writes. -/
def laneFlds : List Fld :=
  [F.PLT_LANE_STATE_A, F.PLT_LANE_STATE_B, F.PLT_LANE_STATE_C, F.PLT_LANE_VOTING, F.SCN_MODE_CAUSE_PERSISTS]

theorem laneStFld_cases (k : Nat) :
    laneStFld k = F.PLT_LANE_STATE_A ∨ laneStFld k = F.PLT_LANE_STATE_B ∨ laneStFld k = F.PLT_LANE_STATE_C := by
  unfold laneStFld
  split <;> simp

theorem laneCauseFld_cases (k : Nat) :
    laneCauseFld k = F.PLT_LANE_CAUSE_A ∨ laneCauseFld k = F.PLT_LANE_CAUSE_B ∨ laneCauseFld k = F.PLT_LANE_CAUSE_C := by
  unfold laneCauseFld
  split <;> simp

theorem setLane_moves (s : State) (k v : Nat) : Moves [] [] laneFlds s (setLane s k v) := by
  unfold setLane
  extract_lets u
  have hu : Moves [] [] laneFlds s u := by
    refine (State.wr_moves ..).one rfl rfl ?_
    rcases laneStFld_cases k with h | h | h <;> rw [h] <;> rfl
  exact (persistReg_moves _).step ((State.wr_moves u F.PLT_LANE_VOTING _ 0).step hu rfl rfl rfl) rfl rfl rfl

theorem laneCause_moves (s : State) (k v : Nat) :
    Moves [] [] [F.PLT_LANE_CAUSE_A, F.PLT_LANE_CAUSE_B, F.PLT_LANE_CAUSE_C] s (s.wr (laneCauseFld k) v) := by
  refine (State.wr_moves ..).one rfl rfl ?_
  rcases laneCauseFld_cases k with h | h | h <;> rw [h] <;> rfl

theorem laneStFld_key (hj : j < 3) (hk : k < 3) (h : j ≠ k) : (laneStFld j).key 0 0 ≠ (laneStFld k).key 0 0 := by
  have hall : ∀ j < 3, ∀ k < 3, j ≠ k → (laneStFld j).key 0 0 ≠ (laneStFld k).key 0 0 := by decide
  exact hall j hj k hk h

theorem laneCauseFld_key (hj : j < 3) (hk : k < 3) (h : j ≠ k) : (laneCauseFld j).key 0 0 ≠ (laneCauseFld k).key 0 0 := by
  have hall : ∀ j < 3, ∀ k < 3, j ≠ k → (laneCauseFld j).key 0 0 ≠ (laneCauseFld k).key 0 0 := by decide
  exact hall j hj k hk h

theorem persistReg_laneSt (s : State) (j : Nat) : (persistReg s).laneSt j = s.laneSt j := by
  refine (persistReg_moves s).rd _ _ ?_
  rcases laneStFld_cases j with h | h | h <;> rw [h] <;> rfl

theorem wr_voting_laneSt (s : State) (v j : Nat) : (s.wr F.PLT_LANE_VOTING v).laneSt j = s.laneSt j := by
  refine (State.wr_moves s F.PLT_LANE_VOTING v 0).rd _ _ ?_
  rcases laneStFld_cases j with h | h | h <;> rw [h] <;> rfl

theorem laneSt_setLane (hj : j < 3) (hk : k < 3) (hv : v < 8) (s : State) :
    (setLane s k v).laneSt j = if j = k then v else s.laneSt j := by
  rw [setLane, persistReg_laneSt, wr_voting_laneSt, State.laneSt]
  split
  case isTrue h =>
    rw [h, State.rd_wr_same]
    refine Nat.mod_eq_of_lt ?_
    rcases laneStFld_cases k with h | h | h <;> rw [h] <;> exact hv
  case isFalse h => exact State.rd_wr_ne _ _ _ _ _ _ (laneStFld_key hj hk h)

theorem votes_setLane (hj : j < 3) (s : State) :
    (setLane s k v).votes j = if j = k then decide (v = lVOTING) else s.votes j := by
  have hst : (s.wr (laneStFld k) v).rd F.PLT_LANE_VOTING = s.rd F.PLT_LANE_VOTING := by
    refine (State.wr_moves ..).rd _ _ ?_
    rcases laneStFld_cases k with h | h | h <;> rw [h] <;> rfl
  have hper : ∀ u : State, (persistReg u).rd F.PLT_LANE_VOTING = u.rd F.PLT_LANE_VOTING := fun u =>
    (persistReg_moves u).rd _ _ rfl
  rw [State.votes, setLane, hper, State.rd_wr_same, Nat.testBit_mod_two_pow, setBits_testBit, hst]
  simp [hj, F.PLT_LANE_VOTING, Fld.width, State.votes]

/-- A step that leaves PLT.LANE leaves every lane's state. -/
theorem Leaves.laneSt (h : Leaves ps os s t) (ho : os.contains F.objPLT_LANE = false) (j : Nat) :
    t.laneSt j = s.laneSt j := by
  refine h.2 _ _ _ ?_
  have hobj : (laneStFld j).obj = F.objPLT_LANE := by rcases laneStFld_cases j with h | h | h <;> rw [h] <;> rfl
  simpa [hobj] using ho

theorem Leaves.laneCause (h : Leaves ps os s t) (ho : os.contains F.objPLT_LANE = false) (j : Nat) :
    t.rd (laneCauseFld j) = s.rd (laneCauseFld j) := by
  refine h.2 _ _ _ ?_
  have hobj : (laneCauseFld j).obj = F.objPLT_LANE := by
    rcases laneCauseFld_cases j with h | h | h <;> rw [h] <;> rfl
  simpa [hobj] using ho

theorem State.votes_congr (h : t.rd F.PLT_LANE_VOTING = s.rd F.PLT_LANE_VOTING) (j : Nat) : t.votes j = s.votes j := by
  rw [State.votes, State.votes, h]

theorem Leaves.votesSame (h : Leaves ps os s t) (ho : os.contains F.objPLT_LANE = false) (j : Nat) :
    t.votes j = s.votes j :=
  State.votes_congr (h.2 F.PLT_LANE_VOTING 0 0 (show F.objPLT_LANE ∉ os by simpa using ho)) j

theorem setLane_laneCause (s : State) (k v j : Nat) : (setLane s k v).rd (laneCauseFld j) = s.rd (laneCauseFld j) := by
  refine (setLane_moves s k v).rd _ _ ?_
  rcases laneCauseFld_cases j with h | h | h <;> rw [h] <;> rfl

theorem laneCause_laneSt (s : State) (k v j : Nat) : (s.wr (laneCauseFld k) v).laneSt j = s.laneSt j := by
  refine (laneCause_moves s k v).rd _ _ ?_
  rcases laneStFld_cases j with h | h | h <;> rw [h] <;> rfl

theorem laneCause_votes_eq (s : State) (k v j : Nat) : (s.wr (laneCauseFld k) v).votes j = s.votes j :=
  State.votes_congr ((laneCause_moves s k v).rd _ _ rfl) j

theorem laneCause_same (hv : v < 16) (s : State) (k : Nat) : (s.wr (laneCauseFld k) v).rd (laneCauseFld k) = v := by
  rw [State.rd_wr_same]
  refine Nat.mod_eq_of_lt ?_
  rcases laneCauseFld_cases k with h | h | h <;> rw [h] <;> exact hv

/-! ### The lanes that still vote -/

/-- With two lanes that still vote, or outside RUN and HOLD, the module goes on (R270). -/
theorem lanesLost_stays (s : State) (h : (s.mode = mRUN ∨ s.mode = mHOLD) → 2 ≤ s.voting) : lanesLost s = s :=
  if_neg fun hl => absurd (h hl.2) (by omega)

/-! ### A lane leaves the vote (R270) -/

/-- Lane `k` out of the vote, before the module judges what is left. -/
def laneRetired (s : State) (k cause : Nat) : State :=
  let s := (setLane (s.wr (laneCauseFld k) cause) k lRETIRED).inc F.PLT_COUNT_RETIREMENTS
  let s := pltCase 1 Ev.RETIRE (2 ^ k) cause 0 0 s
  let l := s.time.xt :: (s.plt.retired.get k).filter fun t => decide (s.time.xt < t + 86400 * 32768)
  let s := updPlt s fun p => { p with retired := p.retired.set k l, late := p.late.set k 0 }
  let s := if s.rd F.PLT_CFG_RETIRE_MAX ≤ l.length then setLane (s.wr (laneCauseFld k) 9) k lFAILED
    else if s.is F.PLT_CFG_AUTO_ADMIT then setLane s k lTESTING
    else s
  dualHandover s

theorem retireLane_eq (s : State) (k cause : Nat) :
    retireLane s k cause = if !s.votes k then s else lanesLost (laneRetired s k cause) := rfl

/-- The registers of the lanes beside `k` stand. -/
structure OthersStand (k : Nat) (s t : State) : Prop where
  votes : ∀ j, j < 3 → j ≠ k → t.votes j = s.votes j
  laneSt : ∀ j, j < 3 → j ≠ k → t.laneSt j = s.laneSt j
  laneCause : ∀ j, j < 3 → j ≠ k → t.rd (laneCauseFld j) = s.rd (laneCauseFld j)

theorem OthersStand.refl : OthersStand k s s := ⟨fun _ _ _ => rfl, fun _ _ _ => rfl, fun _ _ _ => rfl⟩

theorem OthersStand.trans {u : State} (h : OthersStand k s t) (h' : OthersStand k t u) : OthersStand k s u :=
  ⟨fun j hj hn => (h'.votes j hj hn).trans (h.votes j hj hn), fun j hj hn => (h'.laneSt j hj hn).trans (h.laneSt j hj hn),
    fun j hj hn => (h'.laneCause j hj hn).trans (h.laneCause j hj hn)⟩

theorem OthersStand.ite {d : Prop} [Decidable d] {a b : State} (h : OthersStand k s a) (h' : OthersStand k s b) :
    OthersStand k s (if d then a else b) := by
  split
  · exact h
  · exact h'

theorem Leaves.others (h : Leaves ps os s t) (ho : os.contains F.objPLT_LANE = false) : OthersStand k s t :=
  ⟨fun j _ _ => h.votesSame ho j, fun j _ _ => h.laneSt ho j, fun j _ _ => h.laneCause ho j⟩

theorem setLane_others (hk : k < 3) (hv : v < 8) (s : State) : OthersStand k s (setLane s k v) :=
  ⟨fun j hj hn => by rw [votes_setLane hj, if_neg hn], fun j hj hn => by rw [laneSt_setLane hj hk hv, if_neg hn],
    fun _ _ _ => setLane_laneCause s k v _⟩

theorem wr_laneCause_others (hk : k < 3) (s : State) (v : Nat) : OthersStand k s (s.wr (laneCauseFld k) v) :=
  ⟨fun j _ _ => laneCause_votes_eq s k v j, fun j _ _ => laneCause_laneSt s k v j,
    fun _ hj hn => State.rd_wr_ne _ _ _ _ _ _ (laneCauseFld_key hj hk hn)⟩

/-- What it means for lane `k` that it leaves the vote with `cause`. -/
structure Retires (k cause : Nat) (s t : State) : Prop where
  others : OthersStand k s t
  out : t.votes k = false
  retired : ∀ j, j < 3 → j ≠ k → t.plt.retired.get j = s.plt.retired.get j
  shut : t.plt.open_ = s.plt.open_
  tested : 3 + (s.plt.retired.get k).length < s.rd F.PLT_CFG_RETIRE_MAX → s.rd F.PLT_CFG_AUTO_ADMIT = 1 →
    t.laneSt k = lTESTING ∧ t.rd (laneCauseFld k) = cause
  frame : Moves (traceParts ++ [.plt, .pair]) (traceObjs ++ [F.objPLT_LANE])
    [F.PLT_COUNT_RETIREMENTS, F.SCN_MODE_CAUSE_PERSISTS] s t

/-- What a lane's retirement may write, whichever lane it is. -/
abbrev RetireMoves (s t : State) : Prop := Moves (traceParts ++ [.plt, .pair]) (traceObjs ++ [F.objPLT_LANE])
    [F.PLT_COUNT_RETIREMENTS, F.SCN_MODE_CAUSE_PERSISTS] s t

theorem laneRetired_retires {cause : Nat} (hk : k < 3) (hc : cause < 16) (s : State) :
    Retires k cause s (laneRetired s k cause) := by
  unfold laneRetired
  extract_lets u v l w x
  have hv : Leaves [.ring, .sto, .int] [F.objINT_LATCH, F.objINT_STAT, F.objINT_STATE, F.objINT_STORMED, F.objREC_STAT]
    u v := pltCase_leaves ..
  have hw : Leaves [.plt] [] v w := updPlt_leaves ..
  have hy := dualHandover_leaves x
  have hinc := State.inc_leaves (setLane (s.wr (laneCauseFld k) cause) k lRETIRED) F.PLT_COUNT_RETIREMENTS 0 1
  have hplt : v.plt = s.plt := hv.1 .plt (by decide)
  have hxplt : x.plt = w.plt := by
    unfold x
    split
    · rfl
    · split <;> rfl
  have hyplt : (dualHandover x).plt = w.plt := (hy.1 .plt (by decide)).trans hxplt
  have hset : ∀ (a : State) (st : Nat), RetireMoves a (setLane a k st) := fun a st => (setLane_moves ..).one rfl rfl rfl
  have hcause : ∀ (a : State) (n : Nat), RetireMoves a (a.wr (laneCauseFld k) n) := fun a n =>
    (laneCause_moves ..).one rfl rfl rfl
  have hsw : RetireMoves s w := (hcause ..).trans <| (hset ..).trans <| ((State.inc_moves ..).one rfl rfl rfl).trans <|
    (hv.moves.one rfl rfl rfl).trans (hw.moves.one rfl rfl rfl)
  refine ⟨?others, ?out, fun j hj hn => ?retired, ?shut, fun hmax hauto => ?tested, ?frame⟩
  case others =>
    have hu : OthersStand k s u := (wr_laneCause_others hk ..).trans <| (setLane_others hk (by decide) _).trans <|
      hinc.others rfl
    have hx : OthersStand k w x := .ite ((wr_laneCause_others hk ..).trans (setLane_others hk (by decide) _))
      (.ite (setLane_others hk (by decide) _) .refl)
    exact hu.trans <| (hv.others rfl).trans <| (hw.others rfl).trans <| hx.trans (hy.others rfl)
  case out =>
    rw [hy.votesSame rfl]
    unfold x
    split
    · rw [votes_setLane hk, if_pos rfl]
      rfl
    · split
      · rw [votes_setLane hk, if_pos rfl]
        rfl
      · rw [hw.votesSame rfl, hv.votesSame rfl, hinc.votesSame rfl, votes_setLane hk, if_pos rfl]
        rfl
  case retired => rw [hyplt, ← hplt, show w.plt.retired = v.plt.retired.set k l from rfl, Trio.get_set_ne _ _ hj hk hn]
  case shut => rw [hyplt, ← hplt, show w.plt.open_ = v.plt.open_ from rfl]
  case tested =>
    have hlen : l.length ≤ 1 + (s.plt.retired.get k).length := by
      rw [← hplt, Nat.add_comm]
      exact Nat.succ_le_succ (List.length_filter_le ..)
    have hx : x = setLane w k lTESTING := by
      unfold x
      rw [if_neg, if_pos]
      · rw [State.is, hsw.rd F.PLT_CFG_AUTO_ADMIT 0 rfl, hauto]
        rfl
      · rw [hsw.rd F.PLT_CFG_RETIRE_MAX 0 rfl]
        omega
    have hwc : w.rd (laneCauseFld k) = cause := by
      rw [hw.laneCause rfl, hv.laneCause rfl, hinc.laneCause rfl, setLane_laneCause, laneCause_same hc]
    rw [hy.laneSt rfl, hy.laneCause rfl, hx, laneSt_setLane hk hk (by decide), if_pos rfl, setLane_laneCause]
    exact ⟨rfl, hwc⟩
  case frame =>
    have hx : RetireMoves w x := .ite ((hcause ..).trans (hset ..)) (.ite (hset ..) (.refl _))
    exact hsw.trans (hx.trans (hy.moves.one rfl rfl rfl))

end

end Sys2Proof.Machine
end

section
/-!
What a commit leaves of the output image and of the register file: the frame `QSpares`, and the operations of modes, tasks
and requests in it.
-/

namespace Sys2Proof.Machine

/-! ### A frame that keeps the output image -/

/-- The output image and the ring's core stand, and so does every field outside the objects `os` and apart from the
fields `ws`. -/
structure QSpares (os : List Nat) (ws : List Fld) (s t : State) : Prop where
  regs : Spares os ws s t
  q : t.img.q = s.img.q

section
variable {ps : List Part} {os us : List Nat} {ws vs : List Fld} {a b c s t : State}

theorem QSpares.refl : QSpares os ws s s := ⟨.refl, rfl⟩

theorem QSpares.trans (h : QSpares os ws a b) (h' : QSpares os ws b c) : QSpares os ws a c :=
  ⟨h.regs.trans h'.regs, h'.q.trans h.q⟩

theorem QSpares.ite {d : Prop} [Decidable d] (h : QSpares os ws s a) (h' : QSpares os ws s b) :
    QSpares os ws s (if d then a else b) := by
  split
  · exact h
  · exact h'

theorem QSpares.foldl {α : Type} {g : State → α → State} (h : ∀ s x, QSpares os ws s (g s x)) (l : List α) (s : State) :
    QSpares os ws s (l.foldl g s) := by
  induction l generalizing s with
  | nil => exact .refl
  | cons x l ih => exact (h s x).trans (ih _)

theorem QSpares.mono (h : QSpares os ws s t) (ho : os.all (us.contains ·) = true) (hw : fieldsWithin us vs ws = true) :
    QSpares us vs s t := ⟨h.regs.mono ho hw, h.q⟩

/-- A step that leaves the register file, the ring and the output image. -/
theorem QSpares.same (hr : t.ring = s.ring) (hg : t.regs = s.regs) (hq : t.img.q = s.img.q) : QSpares os ws s t :=
  ⟨.same hr hg, hq⟩

/-- A step that leaves the part of the images. -/
theorem Leaves.imgQ (h : Leaves ps us s t) (hi : ps.contains .img = false) : t.img.q = s.img.q :=
  congrArg ImgSt.q (h.1 .img (by simpa using hi))

theorem Spares.keepsQ (h : Spares os ws s t) (hl : Leaves ps us s t) (hi : ps.contains .img = false) :
    QSpares os ws s t := ⟨h, hl.imgQ hi⟩

/-- A step of the objects `os` alone that touches neither the ring nor the images. -/
theorem Leaves.qSpares (h : Leaves ps us s t) (hp : (ps.contains .ring || ps.contains .img) = false)
    (ho : us.all (os.contains ·) = true) : QSpares os ws s t := by
  rw [Bool.or_eq_false_iff] at hp
  exact (h.spares hp.1 ho).keepsQ h hp.2

/-- What a step leaves by its objects narrows the fields it is known to spare. -/
theorem Spares.narrow (h : Spares os ws s t) (hl : Leaves ps us s t) {rs : List Nat}
    (ho : os.all (fun o => rs.contains o || !us.contains o) = true)
    (hw : ws.all (fun w => rs.contains w.obj || vs.contains w || !us.contains w.obj) = true)
    (hu : us.all ((rs ++ vs.map (·.obj)).contains ·) = true) : Spares rs vs s t :=
  ⟨h.1, fun f i hf => (h.movesWithin hl ho hw hu).rd f i hf⟩

theorem State.wr_qSpares (s : State) (f : Fld) (v i : Nat) (hw : fieldsWithin os ws [f] = true) :
    QSpares os ws s (s.wr f v i) := ⟨s.wr_spares f v i hw, rfl⟩

theorem State.inc_qSpares (s : State) (f : Fld) (i n : Nat) (hw : fieldsWithin os ws [f] = true) :
    QSpares os ws s (s.inc f i n) := s.wr_qSpares f _ i hw

theorem State.incTo_qSpares (s : State) (f : Fld) (i n top : Nat) (hw : fieldsWithin os ws [f] = true) :
    QSpares os ws s (s.incTo f i n top) := s.wr_qSpares f _ i hw

end

/-! ### Modes and tasks -/

/-- What a task that starts or completes writes: FAULT is among it (R184, R192, R199). -/
def taskFlds : List Fld :=
  [F.ANG_EV_STATE, F.DG_COS_COS, F.MBX_QUEUES_CQ_FREE, F.MBX_QUEUES_CR_FREE, F.MBX_USE_HANDLES_USED,
    F.MBX_USE_SESSIONS_OPEN, F.PLT_PSTATE_MIR_MISS, F.PLT_PSTATE_ROLE, F.PPR_WINSTAT_EVENT, F.PRG_ACT_PENDING,
    F.SCN_MODE_CAUSE, F.SCN_MODE_MODE, F.SCN_MODE_PENDING, F.SCN_MODE_RETAIN_STALE, F.SCN_MODE_RET_MISS,
    F.SCN_TSTAT_RUNSKIP, F.SCN_TSTAT_SKIPS]

abbrev TaskFrame (s t : State) : Prop := QSpares traceObjs taskFlds s t

theorem log_task (e : Nat × Nat) (arg : List Nat) (s : State) : TaskFrame s (log e arg s) :=
  ((log_leaves e arg s).sparesCore (log_core e arg s) rfl).keepsQ (log_leaves ..) rfl

theorem setLatch_task (b : Nat) (s : State) : TaskFrame s (setLatch b s) :=
  ((setLatch_leaves b s).sparesCore (setLatch_core b s) rfl).keepsQ (setLatch_leaves ..) rfl

theorem hostSync_task (n : Nat) (s : State) : TaskFrame s (hostSync n s) :=
  ((hostSync_leaves n s).sparesCore (hostSync_core n s) rfl).keepsQ (hostSync_leaves ..) rfl

theorem finNum_task (s : State) (n status result : Nat) (data : List Nat) :
    TaskFrame s (finNum s n status result data) :=
  ((finNum_latch ..).narrow (finNum_leaves ..) rfl rfl rfl).keepsQ (finNum_leaves ..) rfl

theorem finMode_task (s : State) (p : PendMode) (status : Nat) : TaskFrame s (finMode s p status) :=
  .ite .refl (finNum_task ..)

theorem endActivation_task (s : State) (status : Nat) : TaskFrame s (endActivation s status) := by
  unfold endActivation
  split
  · exact .refl
  · extract_lets +onlyGivenNames _ u
    have hu : TaskFrame s u := ((Leaves.set_prg s _).qSpares rfl rfl).trans (State.wr_qSpares _ _ _ _ rfl)
    exact hu.trans (.ite .refl (finNum_task ..))

theorem endPending_task (s : State) (status : Nat) : TaskFrame s (endPending s status) := by
  unfold endPending
  split
  · exact .ite .refl (endActivation_task ..)
  · exact .refl

theorem disarmOutputs_task (s : State) : TaskFrame s (disarmOutputs s) :=
  .foldl (fun _ _ => .ite (State.wr_qSpares _ _ _ _ rfl) .refl) _ _

theorem safeCommand_task (s : State) (kind : Nat) : TaskFrame s (safeCommand s kind) :=
  .ite (((setYield_leaves ..).qSpares rfl rfl).trans <| ((updPair_leaves ..).qSpares rfl rfl).trans <|
    (sendCommand_leaves ..).qSpares rfl rfl) (((sendCommand_leaves ..).qSpares rfl rfl).trans (disarmOutputs_task ..))

theorem roleOff_task (s : State) : TaskFrame s (roleOff s) :=
  ((roleOff_moves s).spares (roleOff_latch s).1 rfl rfl).keepsQ (roleOff_leaves s) rfl

theorem setMode_task (s : State) (new cause restart : Nat) : TaskFrame s (setMode s new cause restart) := by
  unfold setMode
  extract_lets +onlyGivenNames old a b c d e _ _ f
  have ha : TaskFrame s a := .ite ((stopRunTicks_leaves ..).qSpares rfl rfl) .refl
  have hb : TaskFrame a b := State.wr_qSpares _ _ _ _ rfl
  have hc : TaskFrame b c := .ite ((startRunTicks_leaves ..).qSpares rfl rfl) .refl
  have hd : TaskFrame c d := .ite .refl (roleOff_task ..)
  have hf : TaskFrame d f := (log_task ..).trans (.same rfl rfl rfl)
  exact ha.trans <| hb.trans <| hc.trans <| hd.trans <| hf.trans <| (setLatch_task ..).trans (hostSync_task ..)

theorem clearPend_task (s : State) : TaskFrame s (clearPend s) :=
  ((Leaves.set_scn s _).qSpares rfl rfl).trans (State.wr_qSpares _ _ _ _ rfl)

theorem closeSnap_task (s : State) (n : Nat) (noexec uncommitted damaged : Bool) (sArea : Memory) :
    TaskFrame s (closeSnap s n noexec uncommitted damaged sArea) := by
  unfold closeSnap
  split
  · exact .refl
  · exact .ite .refl (.same rfl rfl rfl)

theorem closeOpen_task (s : State) : TaskFrame s (closeOpen s) := .foldl (fun _ _ => closeSnap_task ..) _ _

theorem enterFault_task (s : State) (cause : Nat) : TaskFrame s (enterFault s cause) := by
  unfold enterFault
  refine .ite .refl ?_
  extract_lets +onlyGivenNames a b _ c _ _ d e f
  have ha : TaskFrame s a := by
    unfold a
    split
    · exact (finMode_task ..).trans (clearPend_task ..)
    · exact .refl
  have hc : TaskFrame a c := ((discardTasks_leaves a).qSpares rfl rfl).trans <|
    ((Leaves.set_scn b _).qSpares rfl rfl).trans (closeOpen_task ..)
  have hd : TaskFrame c d := .same rfl rfl rfl
  have hf : TaskFrame d f := (safeCommand_task ..).trans <|
    (State.wr_qSpares e _ _ _ rfl).trans (setMode_task ..)
  exact ha.trans <| hc.trans <| hd.trans <| hf.trans (endPending_task ..)

theorem abandonIdle_task (s : State) : TaskFrame s (abandonIdle s) := by
  unfold abandonIdle
  extract_lets +onlyGivenNames n _ v u
  have hv : TaskFrame s v := ((Leaves.set_scn s _).qSpares rfl rfl).trans (State.incTo_qSpares _ _ _ _ _ rfl)
  have hu : TaskFrame s u := .ite (hv.trans (.ite (State.wr_qSpares _ _ _ _ rfl) .refl)) .refl
  exact hu.trans (.ite (((updPair_leaves ..).qSpares rfl rfl).trans (State.incTo_qSpares _ _ _ _ _ rfl)) .refl)

theorem countSkip_task (s : State) (task : Nat) : TaskFrame s (countSkip s task) := by
  unfold countSkip
  extract_lets u m
  have hu : TaskFrame s u := (State.inc_qSpares _ _ _ _ rfl).trans (State.inc_qSpares _ _ _ _ rfl)
  exact hu.trans (.ite (enterFault_task ..) .refl)

theorem releaseTask_task (s : State) (task src : Nat) (snap : Option Nat) :
    TaskFrame s (releaseTask s task src snap) := by
  unfold releaseTask
  refine .ite .refl (.ite ((abandonIdle_task ..).trans (countSkip_task ..)) ?_)
  extract_lets +onlyGivenNames u x
  exact (abandonIdle_task s).trans (.ite (.same rfl rfl rfl)
    (((Leaves.set_scn u _).qSpares rfl rfl).trans ((dispatch_leaves ..).qSpares rfl rfl)))

theorem clearFlag_task (s : State) (n : Nat) : TaskFrame s (clearFlag s n) := by
  unfold clearFlag
  extract_lets +onlyGivenNames g u
  have hu : TaskFrame s u := .ite (State.wr_qSpares _ _ _ _ rfl)
    (.ite (State.wr_qSpares _ _ _ _ rfl) ((putLatch_leaves ..).qSpares rfl rfl))
  exact hu.trans (.same rfl rfl rfl)

theorem putSrc_task (s : State) (n v : Nat) : TaskFrame s (putSrc s n v) := (putSrc_leaves s n v).qSpares rfl rfl

/-- A task start that is given up counts DISCARD. -/
theorem discard_task (s : State) (n : Nat) : TaskFrame s ((putSrc s n 0).inc F.INT_STAT_DISCARD) :=
  (putSrc_task ..).trans (State.inc_qSpares _ _ _ _ rfl)

theorem takeTask_task (s : State) (n : Nat) : TaskFrame s (takeTask s n) := by
  unfold takeTask
  refine .ite .refl (.ite (discard_task ..) (.ite .refl ?_))
  extract_lets +onlyGivenNames t u v _ w
  have hw : TaskFrame u w := (putSrc_task u n 2).trans ((Leaves.set_int v _).qSpares rfl rfl)
  exact (clearFlag_task s n).trans <| .ite (discard_task ..) <| .ite ((putSrc_task ..).trans (countSkip_task ..)) <|
    hw.trans (releaseTask_task ..)

theorem completeTask_task (s : State) (task : Nat) : TaskFrame s (completeTask s task) := by
  unfold completeTask
  extract_lets +onlyGivenNames l _ u
  have hu : TaskFrame s u := .same rfl rfl rfl
  exact hu.trans (.foldl (fun _ _ => .ite ((putSrc_task ..).trans (takeTask_task ..)) (putSrc_task ..)) _ _)

/-- An event of a source that is not yet set by `set`. -/
theorem srcEvent_task {set : State → State} (hset : ∀ u, TaskFrame u (set u)) (s : State) (n : Nat) (already : Bool) :
    TaskFrame s (srcEvent s n already set) :=
  .ite ((State.inc_qSpares _ _ _ _ rfl).trans (countSkip_task ..))
    ((hset s).trans <| (hostSync_task ..).trans (takeTask_task ..))

end Sys2Proof.Machine
end

section
/-!
The frame of a commit: output actions, events and requests, the voters' reports, gates and the drill.
-/

namespace Sys2Proof.Machine

/-- What PLAIT_COMMIT writes (R191, R263 to R267, R288). -/
def commitObjs : List Nat := traceObjs ++ [F.objAG_GSTAT, F.objIMG_PINS, F.objPLT_LANE, F.objSCN_MODE]
def commitFlds : List Fld :=
  [F.AG_CONV_SLOT_ABORT, F.AG_CONV_TRIG_DROP, F.ANG_CAPPOS_CAPPOS, F.ANG_EV_ANGLE, F.ANG_EV_FIRED, F.ANG_EV_LAST_FIRE,
    F.ANG_EV_LATE, F.ANG_EV_STATE, F.ANG_STATUS_BSHORT, F.ANG_STATUS_LATE_CNT, F.ANG_STATUS_REFUSED, F.DG_CHSTAT_BSHORT,
    F.DG_CHSTAT_CLAMP, F.DG_CHSTAT_LOCKED, F.DG_CHSTAT_PENDING, F.DG_COS_COS, F.DG_GSTAT_BC_V, F.DG_GSTAT_RATE,
    F.DG_GSTAT_WORD, F.IMG_STATUS_PHOLDS, F.IMG_STATUS_PINNED, F.IMG_STITCH_WC_UNCORR, F.MBX_QUEUES_CQ_FREE,
    F.MBX_QUEUES_CR_FREE, F.MBX_USE_HANDLES_USED, F.MBX_USE_SESSIONS_OPEN, F.PLT_COUNT_DIS_A, F.PLT_COUNT_DIS_B,
    F.PLT_COUNT_DIS_C, F.PLT_COUNT_RETIREMENTS, F.PLT_COUNT_UNRESOLVED, F.PLT_PSTATE_DRILL, F.PLT_PSTATE_LAST_SO,
    F.PLT_PSTATE_MIR_MISS, F.PLT_PSTATE_ROLE, F.PLT_PSTATE_SWITCHES, F.PPR_WINSTAT_EVENT, F.PRG_ACT_PENDING,
    F.SCN_TSTAT_LAST_RUN, F.SCN_TSTAT_MAX_RUN, F.SCN_TSTAT_RUNSKIP, F.SCN_TSTAT_SKIPS]

abbrev CommitFrame (s t : State) : Prop := QSpares commitObjs commitFlds s t

theorem TaskFrame.commit {s t : State} (h : TaskFrame s t) : CommitFrame s t := h.mono rfl rfl

/-- A step of the digital outputs is one of the commit. -/
theorem BridgeMoves.commit {ps : List Part} {us : List Nat} {s t : State} (h : BridgeMoves s t) (hl : Leaves ps us s t)
    (hc : t.ring.core = s.ring.core) (hi : ps.contains .img = false)
    (hw : bridgeFlds.all (fun w => commitObjs.contains w.obj || commitFlds.contains w || !us.contains w.obj) = true)
    (hu : us.all ((commitObjs ++ commitFlds.map (·.obj)).contains ·) = true) : CommitFrame s t := by
  have hs : Spares traceObjs bridgeFlds s t := h.spares hc rfl rfl
  exact (hs.narrow hl rfl hw hu).keepsQ hl hi

/-! ### Output actions and events (R311 to R319) -/

theorem putDch_commit (s : State) (c : Nat) (x : DgCh) : CommitFrame s (putDch s c x) := .same rfl rfl rfl

theorem dgSync_commit (s : State) (g : Nat) : CommitFrame s (dgSync s g) :=
  (dgSync_bridge s g).commit (dgSync_leaves s g) (dgSync_build s g).1 rfl rfl rfl

theorem stageOff_commit (s : State) (c : Nat) : CommitFrame s (stageOff s c) := by
  unfold stageOff
  extract_lets x u
  have hu : CommitFrame s u := putDch_commit ..
  exact .ite (hu.trans (State.wr_qSpares _ _ _ _ rfl)) hu

theorem stageOn_commit (s : State) (c : Nat) (boost : Bool) : CommitFrame s (stageOn s c boost) := by
  unfold stageOn
  extract_lets +onlyGivenNames x i g u _ v
  have hv : CommitFrame s v := .same rfl rfl rfl
  refine .ite .refl (.ite (.ite (.ite ?_ ?_) (putDch_commit ..)) (putDch_commit ..))
  · exact hv.trans <| (putDch_commit ..).trans (dgSync_commit ..)
  · exact (putDch_commit ..).trans (State.wr_qSpares _ _ _ _ rfl)

theorem drive_commit (s : State) (c : Nat) (on boost : Bool) (ev : Option Nat) : CommitFrame s (drive s c on boost ev) := by
  unfold drive
  extract_lets +onlyGivenNames _ u v
  have hu : CommitFrame s u := putDch_commit ..
  have hv : CommitFrame u v := (State.wr_qSpares _ _ _ _ rfl).trans (State.wr_qSpares _ _ _ _ rfl)
  refine .ite ?_ (.ite hu (.ite ?_ (hu.trans (stageOn_commit ..))))
  · exact hu.trans <| hv.trans <| (putDch_commit ..).trans (stageOff_commit ..)
  · exact hu.trans <| (putDch_commit ..).trans (State.wr_qSpares _ _ _ _ rfl)

theorem pwmStart_commit (s : State) (c : Nat) : CommitFrame s (pwmStart s c) := by
  unfold pwmStart
  extract_lets x t u
  exact (putDch_commit ..).trans (drive_commit ..)

theorem boostShort_commit (s : State) (d e : Nat) : CommitFrame s (boostShort s d e) := by
  unfold boostShort
  extract_lets +onlyGivenNames _ u
  have hu : CommitFrame s u := (State.inc_qSpares _ _ _ _ rfl).trans (.same rfl rfl rfl)
  exact hu.trans (log_task ..).commit

theorem outputAction_commit (s : State) (e c : Nat) (on : Bool) : CommitFrame s (outputAction s e c on).1 := by
  unfold outputAction
  split
  · exact drive_commit s c false false none
  · split
    · extract_lets d u
      split
      · exact drive_commit s c true true (some e)
      · refine (boostShort_commit s d e).trans ?_
        split
        · exact .refl
        · exact drive_commit u c true false (some e)
    · exact drive_commit s c true false (some e)

theorem abortSlot_commit (s : State) (g p c : Nat) : CommitFrame s (abortSlot s g p c) := by
  unfold abortSlot
  extract_lets +onlyGivenNames y x u v
  have hv : CommitFrame s v := .same rfl rfl rfl
  exact hv.trans (((Leaves.set_ana v _).qSpares rfl rfl).trans (State.inc_qSpares _ _ _ _ rfl))

theorem trigger_commit (s : State) (g p e angle t : Nat) (late : Bool) : CommitFrame s (trigger s g p e angle t late) := by
  unfold trigger
  extract_lets +onlyGivenNames x c0 y slotEnd inSlot u
  have hu : CommitFrame s u := .ite (abortSlot_commit ..) .refl
  refine .ite .refl (hu.trans (.ite (State.inc_qSpares _ _ _ _ rfl) (.ite (.same rfl rfl rfl) ?_)))
  exact (takeTrigger_leaves ..).qSpares rfl rfl

theorem putCapture_commit (s : State) (d : Nat) (bs : List Nat) : CommitFrame s (putCapture s d bs) := by
  unfold putCapture
  extract_lets p m
  exact ((Leaves.set_ang s _).qSpares rfl rfl).trans (State.wr_qSpares _ _ _ _ rfl)

theorem act_commit (s : State) (e angle t : Nat) (late : Bool) : CommitFrame s (act s e angle t late).1 := by
  have hout : ∀ (d : Prop) [Decidable d] (c : Nat) (on : Bool),
      CommitFrame s (if d then (s, true) else outputAction s e c on).1 := by
    intro d _ c on
    split
    · exact .refl
    · exact outputAction_commit ..
  unfold act
  extract_lets +onlyGivenNames tg d k c a
  clear_value a
  split
  · exact .refl
  · split
    · exact hout ..
    · exact hout ..
    · extract_lets r
      have hr : CommitFrame s r.1 := hout ..
      split
      · exact hr.trans (.same rfl rfl rfl)
      · exact hr
    · exact .foldl (fun _ _ => .ite (trigger_commit ..) .refl) _ _
    · exact putCapture_commit ..
    · exact (releaseTask_task ..).commit
    · exact (srcEvent_task (fun _ => (putLatch_leaves ..).qSpares rfl rfl) ..).commit
    · exact .refl

theorem putEv_commit (s : State) (e : Nat) (x : EvSt) : CommitFrame s (putEv s e x) := .same rfl rfl rfl

theorem evLate_commit (s : State) (e : Nat) : CommitFrame s (evLate s e) :=
  (State.wr_qSpares _ _ _ _ rfl).trans (State.inc_qSpares _ _ _ _ rfl)

theorem fire_commit (s : State) (e angle t : Nat) (late : Bool) : CommitFrame s (fire s e angle t late) := by
  unfold fire
  extract_lets +onlyGivenNames a r b c d _ f _ g
  have ha : CommitFrame s a := .same rfl rfl rfl
  have hr : CommitFrame s b := ha.trans (act_commit ..)
  clear_value b
  have hc : CommitFrame b c := .ite ((State.wr_qSpares _ _ _ _ rfl).trans (State.wr_qSpares _ _ _ _ rfl)) .refl
  clear_value c
  have hf : CommitFrame c f := .ite ((evLate_commit c e).trans (.same rfl rfl rfl)) .refl
  clear_value f
  have hg : CommitFrame f g := putEv_commit ..
  exact hr.trans <| hc.trans <| hf.trans <| hg.trans <|
    .ite (.ite (putEv_commit ..) .refl) (State.wr_qSpares _ _ _ _ rfl)

end Sys2Proof.Machine
end

section
/-!
The commit's own operations in the frame of a commit (R191, R266, R270, R288).
-/

namespace Sys2Proof.Machine

/-! ### Requests (R229, R230, R313) -/

theorem refuseArm_commit (s : State) (e : Nat) : CommitFrame s (refuseArm s e) := State.inc_qSpares _ _ _ _ rfl

theorem arm_commit (s : State) (e a : Nat) : CommitFrame s (arm s e a) := by
  have hput : ∀ (u : State) (x : EvSt), CommitFrame u (putEv u e x) := fun u x => putEv_commit ..
  have hdrop : ∀ (u : State) (x : EvSt), CommitFrame u (putEv (dropCmds u e) e x) := fun u x => .same rfl rfl rfl
  have harm : ∀ (u : State) (v : Nat), CommitFrame u ((u.wr F.ANG_EV_ANGLE a e).wr F.ANG_EV_STATE v e) := fun u v =>
    (State.wr_qSpares _ _ _ _ rfl).trans (State.wr_qSpares _ _ _ _ rfl)
  unfold arm
  extract_lets +onlyGivenNames d ac cyc fin θ was u v
  clear_value fin
  refine .ite (refuseArm_commit ..) (.ite (harm ..) ?_)
  have hu : CommitFrame s u := State.wr_qSpares _ _ _ _ rfl
  have hv : CommitFrame s v := harm ..
  refine .ite (.ite (hu.trans (State.wr_qSpares _ _ _ _ rfl)) (hv.trans ?_)) ?_
  · split
    · exact hput ..
    · extract_lets +onlyGivenNames n _ w last missed
      have hw : CommitFrame v w := hdrop ..
      exact hw.trans (.ite (fire_commit ..) .refl)
  · extract_lets +onlyGivenNames dlt w
    have hw : CommitFrame s w := harm ..
    refine .ite (hw.trans ?_) (.ite ((harm ..).trans (fire_commit ..)) (refuseArm_commit ..))
    split
    · exact hput ..
    · exact hdrop ..

theorem evArm_commit (s : State) (e a : Nat) : CommitFrame s (evArm s e a) := .ite (refuseArm_commit ..) (arm_commit ..)

theorem evDis_commit (s : State) (e : Nat) : CommitFrame s (evDis s e) :=
  .ite (refuseArm_commit ..) ((State.wr_qSpares s F.ANG_EV_STATE 0 e rfl).trans (.same rfl rfl rfl))

theorem pinRegs_commit (s : State) : CommitFrame s (pinRegs s) := by
  refine ⟨(pinRegs_moves s).spares (pinRegs_latch s).1 rfl rfl, ?_⟩
  have h := (pinRegs_moves s).1.1 .img (by decide)
  exact congrArg ImgSt.q h

theorem request_commit (s : State) (r : Request) : CommitFrame s (request s r) := by
  have hpin : ∀ m : ImgSt, m.q = s.img.q → CommitFrame s (pinRegs { s with img := m }) := fun m hm =>
    (QSpares.same (s := s) (t := { s with img := m }) rfl rfl hm).trans (pinRegs_commit _)
  cases r with
  | evArm e a => exact evArm_commit ..
  | evDis e => exact evDis_commit ..
  | snHold k =>
    simp only [request]
    split
    · exact hpin _ (by split <;> rfl)
    · exact .refl
  | snRel k => exact hpin _ (by split <;> rfl)

/-! ### The voters' reports (R264 to R266, R270) -/

theorem pltCase_task (i : Nat) (e : Nat × Nat) (lanes cls group value : Nat) (s : State) :
    TaskFrame s (pltCase i e lanes cls group value s) := (log_task ..).trans (setLatch_task ..)

theorem setLane_commit (s : State) (k v : Nat) : CommitFrame s (setLane s k v) := (setLane_leaves s k v).qSpares rfl rfl

theorem laneCause_commit (s : State) (k v : Nat) : CommitFrame s (s.wr (laneCauseFld k) v) := by
  refine State.wr_qSpares _ _ _ _ ?_
  unfold laneCauseFld
  split <;> rfl

theorem disagree_commit (s : State) (k cls value : Nat) : CommitFrame s (disagree s k cls value).1 := by
  unfold disagree
  extract_lets +onlyGivenNames lim l u hit
  have hinc : CommitFrame s (s.inc (disFld k)) := by
    refine State.inc_qSpares _ _ _ _ ?_
    unfold disFld
    split <;> rfl
  have hu : CommitFrame s u := hinc.trans (.same rfl rfl rfl)
  split
  · exact hu
  · exact hu.trans (pltCase_task ..).commit

theorem lanesLost_commit (s : State) : CommitFrame s (lanesLost s) :=
  .ite ((pltCase_task ..).commit.trans (enterFault_task ..).commit) .refl

theorem retireLane_commit (s : State) (k cause : Nat) : CommitFrame s (retireLane s k cause) := by
  unfold retireLane
  refine .ite .refl ?_
  extract_lets +onlyGivenNames u v l w x
  have hu : CommitFrame s u := (laneCause_commit ..).trans <| (setLane_commit ..).trans (State.inc_qSpares _ _ _ _ rfl)
  have hw : CommitFrame u w := (pltCase_task ..).commit.trans ((updPlt_leaves v _).qSpares rfl rfl)
  have hx : CommitFrame w x := .ite ((laneCause_commit ..).trans (setLane_commit ..)) (.ite (setLane_commit ..) .refl)
  exact hu.trans <| hw.trans <| hx.trans <| ((dualHandover_leaves ..).qSpares rfl rfl).trans (lanesLost_commit ..)

theorem unresolved_commit (s : State) (cls value : Nat) : CommitFrame s (unresolved s cls value) := by
  unfold unresolved
  extract_lets v u w
  have hu : CommitFrame s u := (State.inc_qSpares _ _ _ _ rfl).trans (pltCase_task ..).commit
  have hw : CommitFrame u w := .foldl (fun _ _ => .ite ((laneCause_commit ..).trans (setLane_commit ..)) .refl) _ _
  exact hu.trans <| hw.trans <| ((updPlt_leaves ..).qSpares rfl rfl).trans (enterFault_task ..).commit

theorem closeUncommitted_task (s : State) (x : Exec) (damaged : Bool) : TaskFrame s (closeUncommitted s x damaged) := by
  unfold closeUncommitted
  split
  · exact closeSnap_task ..
  · exact .refl

/-! ### The end of an execution, the gates and the drill (R192, R288, R294) -/

theorem endExec_commit (s : State) (x : Exec) : CommitFrame s (endExec s x) := by
  unfold endExec
  extract_lets +onlyGivenNames n u _ v w
  have hu : CommitFrame s u := (State.wr_qSpares _ _ _ _ rfl).trans (State.wr_qSpares _ _ _ _ rfl)
  have hw : CommitFrame v w := State.wr_qSpares _ _ _ _ rfl
  exact hu.trans <| (QSpares.same (s := u) (t := v) rfl rfl rfl).trans <| hw.trans (completeTask_task ..).commit

theorem shadowCommit_commit (s : State) (own : Nat → Memory) (mask : Memory) :
    CommitFrame s (shadowCommit s own mask) := (shadowCommit_leaves ..).qSpares rfl rfl

theorem sendCopies_commit (s : State) : CommitFrame s (sendCopies s) := (sendCopies_leaves ..).qSpares rfl rfl

theorem openDg_commit (s : State) (g : Nat) : CommitFrame s (openDg s g) := by
  unfold openDg
  refine .ite .refl ?_
  extract_lets u
  have hu : CommitFrame s u := ((putDgg_leaves ..).qSpares rfl rfl).trans (dgSync_commit ..)
  refine hu.trans (.foldl (fun v k => ?_) _ _)
  extract_lets c
  split
  · exact drive_commit ..
  · exact pwmStart_commit ..
  · exact .refl

theorem updAgg_commit (s : State) (g : Nat) (f : AnGrp → AnGrp) : CommitFrame s (updAgg s g f) :=
  ((updAgg_leaves s g f).sparesCore (updAgg_build s g f).1 rfl).keepsQ (updAgg_leaves ..) rfl

theorem openAnalogue_commit (s : State) : CommitFrame s (openAnalogue s) :=
  .foldl (fun _ _ => .ite ((updAgg_commit ..).trans ((applyOuts_leaves ..).qSpares rfl rfl)) .refl) _ _

theorem finishDrill_commit (s : State) (d : Drill) (returned : Bool) : CommitFrame s (finishDrill s d returned) := by
  unfold finishDrill
  extract_lets flags data u
  have hu : CommitFrame s u := ((updPair_leaves ..).qSpares rfl rfl).trans (State.wr_qSpares _ _ _ _ rfl)
  exact hu.trans (finNum_task ..).commit

theorem drillAtC_commit (s : State) (so : Nat) : CommitFrame s (drillAtC s so) := by
  unfold drillAtC
  split
  · exact .refl
  · refine .ite ?_ (.ite (finishDrill_commit ..) .refl)
    extract_lets u
    have hu : CommitFrame s u := .foldl (fun _ _ => putDch_commit ..) _ _
    exact hu.trans ((updPair_leaves ..).qSpares rfl rfl)

theorem openGates_commit (s : State) : CommitFrame s (openGates s) := by
  unfold openGates
  refine .ite .refl ?_
  extract_lets so u v w x
  have hu : CommitFrame s u :=
    (QSpares.foldl (fun _ _ => openDg_commit ..) _ _).trans ((pairEvent_leaves ..).qSpares rfl rfl)
  have hv : CommitFrame u v := .ite ((State.wr_qSpares _ _ _ _ rfl).trans <|
    (State.incTo_qSpares _ _ _ _ _ rfl).trans (pltCase_task ..).commit) .refl
  have hw : CommitFrame v w := (updPair_leaves ..).qSpares rfl rfl
  have hx : CommitFrame w x := drillAtC_commit ..
  exact hu.trans <| hv.trans <| hw.trans <| hx.trans (.ite (openAnalogue_commit ..) .refl)

theorem ringWords_commit (s : State) : CommitFrame s (ringWords s) := by
  unfold ringWords
  extract_lets vs
  refine .foldl (fun u k => .ite .refl ?_) _ _
  extract_lets d
  split
  · exact unresolved_commit ..
  · exact .same rfl rfl rfl

theorem cinchWork_commit (s : State) : CommitFrame s (cinchWork s) := by
  unfold cinchWork
  extract_lets +onlyGivenNames due _ u v
  have hu : CommitFrame s u := .ite (.same rfl rfl rfl) .refl
  have hv : CommitFrame u v := ringWords_commit ..
  exact .ite .refl (hu.trans (hv.trans (.ite ((updPair_leaves ..).qSpares rfl rfl) .refl)))

theorem settleMode_commit (s : State) : CommitFrame s (settleMode s) := by
  unfold settleMode
  split
  · exact .refl
  · refine .ite .refl ?_
    extract_lets +onlyGivenNames u _ _ _ v w x _ y
    have hu : CommitFrame s u := (clearPend_task s).commit
    have hw : CommitFrame u w := (QSpares.same (s := u) (t := v) rfl rfl rfl).trans <|
      (pinRegs_commit ..).trans (setMode_task ..).commit
    have hx : CommitFrame u x := (setMode_task ..).commit
    have hy : CommitFrame x y := .same rfl rfl rfl
    exact hu.trans (.ite (hw.trans <| ((swapInStop_leaves ..).qSpares rfl rfl).trans (finMode_task ..).commit)
      (hx.trans <| hy.trans <| (finMode_task ..).commit.trans (endPending_task ..).commit))

/-- A commit that opens no output image first writes the voted words into the image as it stands (R191). -/
theorem commitExec_commits (s : State) (x : Exec) (r : VoteRes) (hstart : ¬(x.src = 4 ∧ s.mode = mSTOP))
    (hopen : x.task ≠ 0 ∨ s.plt.open_ = true) :
    CommitFrame { s with img := { s.img with q := mergeQ s.img.q r.q r.mask } } (commitExec s x r) := by
  have hfirst : (decide (x.task = 0) && !s.plt.open_) = false := by
    rcases hopen with h | h <;> simp [h]
  unfold commitExec
  rw [if_neg hstart, hfirst]
  extract_lets +onlyGivenNames _ _ _ _ _ _ v a b _ c d e
  have ha : CommitFrame v a := by
    unfold a
    split
    · exact (closeSnap_task ..).commit
    · exact .refl
  have hb : CommitFrame a b := .foldl (fun _ _ => request_commit ..) _ _
  have hc : CommitFrame b c := shadowCommit_commit ..
  have hd : CommitFrame c d := .ite (sendCopies_commit ..) .refl
  have he : CommitFrame d e := (endExec_commit ..).trans (openGates_commit ..)
  exact ha.trans <| hb.trans <| hc.trans <| hd.trans <| he.trans (.ite (cinchWork_commit ..) .refl)

end Sys2Proof.Machine
end

section
/-!
The vote (PLT-1, R264, R265): bytes of memories under masks, the decision where two copies agree, and the words such a vote
commits.
-/

namespace Sys2Proof.Machine

/-! ### Bytes of a memory -/

/-- Byte `j` of a little-endian number. -/
theorem leBytes_getD (n w j : Nat) (hj : j < n) : (leBytes n w).getD j 0 = w / 256 ^ j % 256 := by
  induction n generalizing w j with
  | zero => omega
  | succ n ih =>
    cases j with
    | zero => simp [leBytes]
    | succ j => rw [leBytes, List.getD_cons_succ, ih _ _ (by omega), Nat.div_div_eq_div_mul, Nat.pow_succ']

/-- A byte of a memory that was given a run of bytes. -/
theorem read_memPut (m : Memory) (a : Nat) (bs : List Nat) (i : Nat) :
    (memPut m a bs).read i = if a ≤ i ∧ i < a + bs.length then BitVec.ofNat 8 (bs.getD (i - a) 0) else m.read i := by
  induction bs generalizing m a with
  | nil => rw [memPut, if_neg (by simp)]
  | cons b bs ih =>
    rw [memPut, ih, Memory.read_write, List.length_cons]
    rcases Nat.lt_trichotomy i a with h | h | h
    · rw [if_neg (by omega), if_neg (by omega), if_neg (by omega)]
    · subst h
      simp
    · obtain ⟨d, rfl⟩ : ∃ d, i = a + 1 + d := ⟨i - a - 1, by omega⟩
      by_cases hd : d < bs.length
      · rw [if_pos (by omega), if_pos (by omega), show a + 1 + d - (a + 1) = d by omega, show a + 1 + d - a = d + 1 by omega,
          List.getD_cons_succ]
      · rw [if_neg (by omega), if_neg (by omega), if_neg (by omega)]

theorem read_memSet (m : Memory) (a n v i : Nat) :
    (memSet m a n v).read i = if a ≤ i ∧ i < a + n then BitVec.ofNat 8 (v / 256 ^ (i - a) % 256) else m.read i := by
  rw [memSet, read_memPut, Crypto.leBytes_length]
  split
  case isTrue h => rw [leBytes_getD _ _ _ (by omega)]
  case isFalse h => rfl

theorem memSet_wf {m : Memory} (h : m.wf = true) (a n v : Nat) : (memSet m a n v).wf = true := by
  have hput : ∀ (bs : List Nat) (m : Memory) (a : Nat), m.wf = true → (memPut m a bs).wf = true := by
    intro bs
    induction bs with
    | nil => exact fun m a h => h
    | cons b bs ih => exact fun m a h => ih _ _ (m.wf_write a _ h)
  exact hput _ _ _ h

/-- Byte `j` of the number that stands in memory. -/
theorem memGet_byte (m : Memory) (a n j : Nat) (hj : j < n) : memGet m a n / 256 ^ j % 256 = (m.read (a + j)).toNat := by
  have hget : ∀ (bs : List Nat) (j : Nat), j < bs.length → leNat bs / 256 ^ j % 256 = bs.getD j 0 % 256 := by
    intro bs
    induction bs with
    | nil => intro j hj; simp at hj
    | cons b bs ih =>
      intro j hj
      cases j with
      | zero => simp [leNat]
      | succ j =>
        rw [leNat, Nat.pow_succ', ← Nat.div_div_eq_div_mul, List.getD_cons_succ, ← ih j (by simpa using hj)]
        congr 2
        omega
  rw [memGet, hget _ _ (by simpa [memBytes] using hj)]
  have hlt : (m.read (a + j)).toNat < 256 := (m.read (a + j)).isLt
  simp [memBytes, hj, Nat.mod_eq_of_lt hlt]

theorem memGet_lt (m : Memory) (a n : Nat) : memGet m a n < 256 ^ n := by
  have hlt : ∀ bs : List Nat, leNat bs < 256 ^ bs.length := by
    intro bs
    induction bs with
    | nil => simp [leNat]
    | cons b bs ih =>
      rw [leNat, List.length_cons, Nat.pow_succ']
      have := Nat.mod_lt b (show 256 > 0 by decide)
      omega
  simpa [memGet, memBytes] using hlt (memBytes m a n)

/-- A byte of the common bits of two numbers. -/
theorem and_byte (v w j : Nat) : v / 256 ^ j % 256 &&& w / 256 ^ j % 256 = (v &&& w) / 256 ^ j % 256 := by
  have h256 : ∀ x : Nat, x / 256 ^ j % 256 = (x >>> (8 * j)) % 2 ^ 8 := fun x => by
    rw [Nat.shiftRight_eq_div_pow, Nat.pow_mul]
    rfl
  rw [h256, h256, h256, Nat.shiftRight_and_distrib, Nat.and_mod_two_pow]

/-! ### Bytes under a mask -/

/-- The byte `old` with the bits under `k` taken from `new`. -/
def takeBits (old new k : Byte) : Byte :=
  BitVec.ofNat 8 ((old.toNat &&& (255 - k.toNat)) ||| (new.toNat &&& k.toNat))

theorem takeBits_zero (old new : Byte) : takeBits old new 0 = old := by
  have h : old.toNat &&& 255 = old.toNat := by
    have := old.isLt
    rw [show (255 : Nat) = 2 ^ 8 - 1 from rfl, Nat.and_two_pow_sub_one_eq_mod, Nat.mod_eq_of_lt this]
  simp [takeBits, h]

/-- Bytes that agree under the mask are taken alike. -/
theorem takeBits_congr {old v w k : Byte} (h : v.toNat &&& k.toNat = w.toNat &&& k.toNat) :
    takeBits old v k = takeBits old w k := by
  rw [takeBits, takeBits, h]

theorem find_of_wfFrom {α : Type} [DecidableEq α] (d : α) (t : Table α) (lo k : Nat) (h : Table.wfFrom d lo t = true)
    (hk : k < lo) : Table.find d t k = d := by
  induction t generalizing lo with
  | nil => rfl
  | cons p t ih =>
    obtain ⟨a, v⟩ := p
    simp only [Table.wfFrom, Bool.and_eq_true, decide_eq_true_eq] at h
    obtain ⟨⟨ha, -⟩, ht⟩ := h
    rw [Table.find, if_neg (by omega), ih (a + 1) ht (by omega)]

/-- Each byte of a merge takes the bits of its mask. -/
theorem read_mergeQ (old q mask : Memory) (h : mask.wf = true) (i : Nat) :
    (mergeQ old q mask).read i = takeBits (old.read i) (q.read i) (mask.read i) := by
  have hgen : ∀ (mask : Memory) (lo : Nat) (old : Memory), Table.wfFrom (0 : Byte) lo mask = true →
      (mergeQ old q mask).read i = takeBits (old.read i) (q.read i) (mask.read i) := by
    intro mask
    induction mask with
    | nil => exact fun lo old _ => (takeBits_zero ..).symm
    | cons e t ih =>
      intro lo old hw
      obtain ⟨a, k⟩ := e
      simp only [Table.wfFrom, Bool.and_eq_true, decide_eq_true_eq] at hw
      obtain ⟨-, ht⟩ := hw
      have hstep : mergeQ old q ((a, k) :: t) = mergeQ (old.write a (takeBits (old.read a) (q.read a) k)) q t := rfl
      rw [hstep, ih (a + 1) _ ht, Memory.read_write]
      by_cases hi : i = a
      · subst hi
        have h0 : Memory.read t i = 0 := find_of_wfFrom 0 t (i + 1) i ht (by omega)
        rw [if_pos rfl, h0, takeBits_zero]
        congr 1
        simp [Memory.read, Table.find]
      · rw [if_neg hi]
        congr 1
        simp [Memory.read, Table.find, Ne.symm hi]
  exact hgen mask 0 old h

/-! ### Two copies that agree (R264) -/

/-- Two of two or three copies are `a`. -/
def Outvoted {α : Type} (a : α) (l : List α) : Prop := l = [a, a] ∨ ∃ b, l = [a, a, b] ∨ l = [a, b, a] ∨ l = [b, a, a]

theorem pickEq_outvoted {α : Type} [DecidableEq α] {a : α} {l : List α} (h : Outvoted a l) : pickEq l = some a := by
  rcases h with rfl | ⟨b, rfl | rfl | rfl⟩
  · simp [pickEq]
  · simp [pickEq]
  · simp [pickEq]
  · by_cases hb : b = a <;> simp [pickEq, hb]

theorem outvoted_three {α : Type} {n a b c : α} (h : Outvoted n [a, b, c]) :
    (a = n ∧ b = n) ∨ (a = n ∧ c = n) ∨ (b = n ∧ c = n) := by
  rcases h with h | ⟨m, h | h | h⟩ <;> simp only [List.cons.injEq, and_true, reduceCtorEq, and_false] at h
  · exact .inl ⟨h.1, h.2.1⟩
  · exact .inr (.inl ⟨h.1, h.2.2⟩)
  · exact .inr (.inr ⟨h.2.1, h.2.2⟩)

theorem maj3_outvoted {a b c n : Nat} (h : Outvoted n [a, b, c]) : maj3 a b c = n := by
  have hmaj : ∀ x y : Bool, (x && x || x && y || x && y) = x ∧ (x && y || x && x || y && x) = x ∧
      (y && x || y && x || x && x) = x := by decide
  refine Nat.eq_of_testBit_eq fun i => ?_
  rw [maj3, Nat.testBit_or, Nat.testBit_or, Nat.testBit_and, Nat.testBit_and, Nat.testBit_and]
  rcases outvoted_three h with ⟨rfl, rfl⟩ | ⟨rfl, rfl⟩ | ⟨rfl, rfl⟩
  · exact (hmaj _ _).1
  · exact (hmaj _ _).2.1
  · exact (hmaj _ _).2.2

theorem median3_outvoted {a b c n : Int} (h : Outvoted n [a, b, c]) : median3 a b c = n := by
  unfold median3
  rcases outvoted_three h with ⟨rfl, rfl⟩ | ⟨rfl, rfl⟩ | ⟨rfl, rfl⟩ <;> omega

theorem unsgn_sgn {w : Nat} (h : w < 2 ^ 32) : unsgn 32 (sgn 32 w) = w := by
  simp only [unsgn, sgn, Nat.mod_eq_of_lt h]
  split <;> omega

theorem Outvoted.map {α β : Type} {a : α} {l : List α} (h : Outvoted a l) (f : α → β) : Outvoted (f a) (l.map f) := by
  rcases h with rfl | ⟨b, rfl | rfl | rfl⟩
  · exact .inl rfl
  · exact .inr ⟨f b, .inl rfl⟩
  · exact .inr ⟨f b, .inr (.inl rfl)⟩
  · exact .inr ⟨f b, .inr (.inr rfl)⟩

/-- An item two copies of which agree is decided by them, whatever its class. -/
theorem decideItem_outvoted {cls : Nat} {v : Nat × Nat} {vs : List (Nat × Nat)} (h : Outvoted v vs)
    (hw : cls = 2 → v.2 < 2 ^ 32) : decideItem cls vs = some v := by
  have hthree : ∀ a b c : Nat × Nat, Outvoted v [a, b, c] → decideItem cls [a, b, c] = some v := by
    intro a b c h
    have hm : maj3 a.1 b.1 c.1 = v.1 := maj3_outvoted (h.map (·.1))
    have hv : Outvoted v.2 [a.2, b.2, c.2] := h.map (·.2)
    unfold decideItem
    split
    next a' b' c' heq =>
      obtain ⟨rfl, rfl, rfl, -⟩ : a = a' ∧ b = b' ∧ c = c' ∧ True := by simpa using heq
      extract_lets m
      have hm : m = v.1 := hm
      split
      · rw [hm, maj3_outvoted hv]
      · rw [hm, median3_outvoted (hv.map (sgn 32)), unsgn_sgn (hw rfl)]
      · rw [hm, median3_outvoted (hv.map (Nat.cast : Nat → Int))]
        rfl
      · exact pickEq_outvoted h
    next heq => simp at heq
    next hno _ => exact absurd rfl (hno a b c)
  rcases h with rfl | ⟨b, rfl | rfl | rfl⟩
  · simp [decideItem]
  · exact hthree _ _ _ (.inr ⟨b, .inl rfl⟩)
  · exact hthree _ _ _ (.inr ⟨b, .inr (.inl rfl)⟩)
  · exact hthree _ _ _ (.inr ⟨b, .inr (.inr rfl)⟩)

theorem itemDiffers_self (cls : Nat) (v : Nat × Nat) : itemDiffers cls v v = false := by simp [itemDiffers]

end Sys2Proof.Machine
end

section
/-!
A vote in which two lanes agree: what it decides is what these two wrote, and neither of them is found to differ.
-/

namespace Sys2Proof.Machine

/-- Lanes `p` and `q` are two of the two or three whose copies count. -/
def Majority (p q : Nat) (ks : List Nat) : Prop :=
  ks = [p, q] ∨ ks = [q, p] ∨ ∃ j : Fin 3, ks = [p, q, j.1] ∨ ks = [q, p, j.1] ∨ ks = [p, j.1, q] ∨ ks = [q, j.1, p] ∨
    ks = [j.1, p, q] ∨ ks = [j.1, q, p]

theorem Majority.outvoted {α : Type} {p q : Nat} {ks : List Nat} (h : Majority p q ks) {f : Nat → α} (hf : f p = f q) :
    Outvoted (f p) (ks.map f) := by
  rcases h with rfl | rfl | ⟨j, rfl | rfl | rfl | rfl | rfl | rfl⟩ <;>
    simp only [List.map_cons, List.map_nil, hf]
  · exact .inl rfl
  · exact .inl rfl
  · exact .inr ⟨f j, .inl rfl⟩
  · exact .inr ⟨f j, .inl rfl⟩
  · exact .inr ⟨f j, .inr (.inl rfl)⟩
  · exact .inr ⟨f j, .inr (.inl rfl)⟩
  · exact .inr ⟨f j, .inr (.inr rfl)⟩
  · exact .inr ⟨f j, .inr (.inr rfl)⟩

theorem Majority.mem {p q : Nat} {ks : List Nat} (h : Majority p q ks) : p ∈ ks := by
  rcases h with rfl | rfl | ⟨j, rfl | rfl | rfl | rfl | rfl | rfl⟩ <;> simp

theorem Majority.lt {p q k : Nat} {ks : List Nat} (h : Majority p q ks) (hp : p < 3) (hq : q < 3) (hk : k ∈ ks) : k < 3 := by
  rcases h with rfl | rfl | ⟨⟨j, hj⟩, rfl | rfl | rfl | rfl | rfl | rfl⟩ <;>
    simp only [List.mem_cons, List.not_mem_nil, or_false] at hk <;> omega

/-! ### Which lanes differ -/

theorem markDiff_get (r : VoteRes) (ls : List Nat) (it : Nat × Nat) {k : Nat} (hk : k < 3) (hl : ∀ l ∈ ls, l < 3 ∧ l ≠ k) :
    (markDiff r ls it).diff.get k = r.diff.get k := by
  have hfold : ∀ (ls : List Nat) (d : Trio (Option (Nat × Nat))), (∀ l ∈ ls, l < 3 ∧ l ≠ k) →
      (ls.foldl (fun d k => d.set k (match d.get k with
        | some e => some e
        | none => some it)) d).get k = d.get k := by
    intro ls
    induction ls with
    | nil => exact fun d _ => rfl
    | cons l ls ih =>
      intro d hl
      have ⟨h3, hne⟩ := hl l (List.mem_cons_self ..)
      rw [List.foldl_cons, ih _ fun l' h => hl l' (List.mem_cons_of_mem _ h), Trio.get_set_ne _ _ hk h3 (Ne.symm hne)]
  exact hfold ls r.diff hl

/-- What is left of a number without the bits of a mask has none of them. -/
theorem sub_and_and (a m : Nat) : a - (a &&& m) &&& m = 0 := by
  induction a using Nat.strongRecOn generalizing m with
  | ind a ih =>
    rcases Nat.eq_zero_or_pos a with rfl | ha
    · simp
    · have h2 : (a &&& m) / 2 = a / 2 &&& m / 2 := Nat.and_div_two
      have hmod : (a &&& m) % 2 = a % 2 &&& m % 2 := Nat.and_mod_two_pow (n := 1)
      have hle : a / 2 &&& m / 2 ≤ a / 2 := Nat.and_le_left
      have hbit : (a &&& m) % 2 ≤ a % 2 := hmod ▸ Nat.and_le_left
      have hq : (a - (a &&& m) &&& m) / 2 = 0 := by
        rw [Nat.and_div_two, show (a - (a &&& m)) / 2 = a / 2 - (a / 2 &&& m / 2) by omega, ih _ (by omega)]
      have hr : (a - (a &&& m) &&& m) % 2 = 0 := by
        rw [Nat.and_mod_two_pow (n := 1), pow_one]
        rcases Nat.mod_two_eq_zero_or_one m with h | h
        · rw [h, Nat.and_zero]
        · rw [h, Nat.and_one_is_mod] at hmod
          rw [show (a - (a &&& m)) % 2 = 0 by omega, Nat.zero_and]
      omega

section
variable {x : Exec} {p q : Nat} {ks : List Nat} (hp : p < 3) (hq : q < 3) (hks : Majority p q ks)
  (hw : (x.lanes.get p).q = (x.lanes.get q).q) (hm : (x.lanes.get p).qmask = (x.lanes.get q).qmask)

/-- The item's written bits and value as lane `k` holds them, in numbers. -/
theorem laneItem_eq (x : Exec) (u : Nat × Nat × Nat) (k : Nat) : laneItem x u k =
    (memGet (x.lanes.get k).qmask u.1 u.2.1,
      memGet x.q0 u.1 u.2.1 - (memGet x.q0 u.1 u.2.1 &&& memGet (x.lanes.get k).qmask u.1 u.2.1) |||
        memGet (x.lanes.get k).q u.1 u.2.1 &&& memGet (x.lanes.get k).qmask u.1 u.2.1) := rfl

theorem laneItem_lt (x : Exec) (u : Nat × Nat × Nat) (k : Nat) : (laneItem x u k).2 < 256 ^ u.2.1 := by
  rw [laneItem_eq, show 256 ^ u.2.1 = 2 ^ (8 * u.2.1) by rw [Nat.pow_mul]]
  refine Nat.or_lt_two_pow (lt_of_le_of_lt (Nat.sub_le ..) ?_) (lt_of_le_of_lt Nat.and_le_left ?_)
  all_goals
    rw [Nat.pow_mul]
    exact memGet_lt ..

/-- Under its mask an item is what the lane wrote. -/
theorem laneItem_and (x : Exec) (u : Nat × Nat × Nat) (k : Nat) : (laneItem x u k).2 &&& (laneItem x u k).1 =
    memGet (x.lanes.get k).q u.1 u.2.1 &&& (laneItem x u k).1 := by
  rw [laneItem_eq]
  generalize memGet x.q0 u.1 u.2.1 = a
  generalize memGet (x.lanes.get k).qmask u.1 u.2.1 = m
  generalize memGet (x.lanes.get k).q u.1 u.2.1 = v
  rw [Nat.and_or_distrib_right, sub_and_and, Nat.zero_or, Nat.and_assoc, Nat.and_self]

/-! ### The words such a vote commits -/

/-- Item `u` covers byte `i`. -/
abbrev Covers (u : Nat × Nat × Nat) (i : Nat) : Prop := u.1 ≤ i ∧ i < u.1 + u.2.1

/-- So far the vote commits what lane `p` wrote in the items `us`, decided every item, and found neither `p` nor `q` to
differ. -/
structure VotedAs (x : Exec) (p q : Nat) (us : List (Nat × Nat × Nat)) (r : VoteRes) : Prop where
  wf : r.mask.wf = true
  mask : ∀ i, r.mask.read i = (x.lanes.get p).qmask.read i ∨ r.mask.read i = 0
  covered : ∀ i, (∃ u ∈ us, Covers u i) → r.mask.read i = (x.lanes.get p).qmask.read i
  free : ∀ i, (¬∃ u ∈ us, Covers u i) → r.mask.read i = 0
  word : ∀ i, (r.q.read i).toNat &&& (r.mask.read i).toNat = ((x.lanes.get p).q.read i).toNat &&& (r.mask.read i).toNat
  unres : r.unres = none
  diff : ∀ k, k = p ∨ k = q → r.diff.get k = none

/-- An item that `p` and `q` hold alike is decided as `p` holds it. -/
theorem voteUnit_eq (r : VoteRes) {u : Nat × Nat × Nat} (hu : u.2.2 = 2 → u.2.1 = 4)
    (hitem : laneItem x u p = laneItem x u q) (hks : Majority p q ks) :
    voteUnit x ks r u =
      let r' := markDiff r (ks.filter fun k => itemDiffers u.2.2 (laneItem x u k) (laneItem x u p)) (u.2.2, u.1)
      if (laneItem x u p).1 = 0 then r'
      else { r' with q := memSet r'.q u.1 u.2.1 (laneItem x u p).2, mask := memSet r'.mask u.1 u.2.1 (laneItem x u p).1 } := by
  have hd : decideItem u.2.2 (ks.map (laneItem x u)) = some (laneItem x u p) := by
    refine decideItem_outvoted (hks.outvoted hitem) fun h2 => ?_
    have := laneItem_lt x u p
    rwa [hu h2] at this
  rw [voteUnit, hd]

include hp hq hks hw hm

/-- A mark of the lanes that hold something else than `p` and `q` leaves what the vote found of these. -/
theorem VotedAs.markDiff {us : List (Nat × Nat × Nat)} {r : VoteRes} (h : VotedAs x p q us r) {b : Nat → Bool}
    (hbp : b p = false) (hbq : b q = false) (it : Nat × Nat) : VotedAs x p q us (markDiff r (ks.filter b) it) := by
  refine ⟨h.wf, h.mask, h.covered, h.free, h.word, h.unres, fun k hk => ?_⟩
  have hk3 : k < 3 := by rcases hk with rfl | rfl <;> assumption
  have hbk : b k = false := by rcases hk with rfl | rfl <;> assumption
  rw [markDiff_get _ _ _ hk3, h.diff k hk]
  intro l hl
  obtain ⟨hl, hbl⟩ := List.mem_filter.mp hl
  exact ⟨hks.lt hp hq hl, fun e => by simp [e, hbk] at hbl⟩

theorem VotedAs.voteUnit {us : List (Nat × Nat × Nat)} {r : VoteRes} (h : VotedAs x p q us r) {u : Nat × Nat × Nat}
    (hu : u.2.2 = 2 → u.2.1 = 4) : VotedAs x p q (us ++ [u]) (voteUnit x ks r u) := by
  have hitem : laneItem x u p = laneItem x u q := by rw [laneItem_eq, laneItem_eq, hw, hm]
  have hmark := h.markDiff hp hq hks hw hm (b := fun k => itemDiffers u.2.2 (laneItem x u k) (laneItem x u p))
    (itemDiffers_self ..) (by rw [← hitem]; exact itemDiffers_self ..) (u.2.2, u.1)
  rw [voteUnit_eq r hu hitem hks]
  extract_lets r'
  have hmask : ∀ i, Covers u i → (laneItem x u p).1 / 256 ^ (i - u.1) % 256 = ((x.lanes.get p).qmask.read i).toNat := by
    intro i hi
    obtain ⟨d, rfl⟩ := Nat.exists_eq_add_of_le hi.1
    rw [laneItem_eq, memGet_byte _ _ _ _ (by have := hi.2; omega), Nat.add_sub_cancel_left]
  have hof : ∀ b : Byte, BitVec.ofNat 8 b.toNat = b := fun b => BitVec.ofNat_toNat ..
  have hex : ∀ i, (∃ v ∈ us ++ [u], Covers v i) ↔ (∃ v ∈ us, Covers v i) ∨ Covers u i := by
    intro i
    simp [or_and_right, exists_or]
  split
  case isTrue hz =>
    have hzero : ∀ i, Covers u i → (x.lanes.get p).qmask.read i = 0 := by
      intro i hi
      have := hmask i hi
      rw [hz, Nat.zero_div, Nat.zero_mod] at this
      exact BitVec.eq_of_toNat_eq this.symm
    refine ⟨hmark.wf, hmark.mask, fun i hi => ?_, fun i hi => ?_, hmark.word, hmark.unres, hmark.diff⟩
    · rcases (hex i).mp hi with hi | hi
      · exact hmark.covered i hi
      · rcases hmark.mask i with h | h
        · exact h
        · rw [h, hzero i hi]
    · exact hmark.free i fun hi' => hi ((hex i).mpr (.inl hi'))
  case isFalse hz =>
    have hread : ∀ i, (memSet r'.mask u.1 u.2.1 (laneItem x u p).1).read i =
        if Covers u i then (x.lanes.get p).qmask.read i else r'.mask.read i := by
      intro i
      rw [read_memSet]
      by_cases hi : Covers u i
      · rw [if_pos hi, if_pos hi, hmask i hi, hof]
      · rw [if_neg hi, if_neg hi]
    refine ⟨memSet_wf hmark.wf .., fun i => ?_, fun i hi => ?_, fun i hi => ?_, fun i => ?_, hmark.unres, hmark.diff⟩
    · rw [hread]
      split
      · exact .inl rfl
      · exact hmark.mask i
    · rw [hread]
      split
      case isTrue => rfl
      case isFalse hn => exact hmark.covered i (((hex i).mp hi).resolve_right hn)
    · rw [hread, if_neg fun hc => hi ((hex i).mpr (.inr hc))]
      exact hmark.free i fun hi' => hi ((hex i).mpr (.inl hi'))
    · rw [hread, read_memSet]
      split
      case isFalse => exact hmark.word i
      case isTrue hi =>
        obtain ⟨d, rfl⟩ := Nat.exists_eq_add_of_le hi.1
        have hd : d < u.2.1 := by
          have := hi.2
          omega
        rw [← hmask _ hi, BitVec.toNat_ofNat, Nat.mod_mod_of_dvd _ (dvd_refl _), Nat.add_sub_cancel_left, and_byte, laneItem_and,
          ← and_byte, memGet_byte _ _ _ _ hd]

/-- A vote over the items `us`. -/
theorem VotedAs.items {us vs : List (Nat × Nat × Nat)} {r : VoteRes} (h : VotedAs x p q us r)
    (hv : ∀ u ∈ vs, u.2.2 = 2 → u.2.1 = 4) : VotedAs x p q (us ++ vs) (vs.foldl (Machine.voteUnit x ks) r) := by
  induction vs generalizing us r with
  | nil => simpa using h
  | cons u vs ih =>
    have := ih (h.voteUnit hp hq hks hw hm (hv u (List.mem_cons_self ..))) fun v hm => hv v (List.mem_cons_of_mem _ hm)
    simpa using this

end

/-! ### The whole vote -/

/-- The items cover the voted output areas. -/
theorem qUnits_cover (i : Nat) : (∃ u ∈ qUnits, Covers u i) ↔ i < 0x210 ∨ 0x400 ≤ i ∧ i < 0x1000 := by
  simp only [qUnits, List.mem_append, List.mem_map, List.mem_range, Covers]
  constructor
  · rintro ⟨u, ((⟨k, hk, rfl⟩ | ⟨k, hk, rfl⟩) | ⟨k, hk, rfl⟩) | ⟨k, hk, rfl⟩, hi⟩ <;> simp only at hi <;> omega
  · intro hi
    by_cases h1 : i < 16
    · exact ⟨_, .inl (.inl (.inl ⟨i, h1, rfl⟩)), by simp⟩
    · by_cases h2 : i < 0x110
      · exact ⟨_, .inl (.inl (.inr ⟨(i - 16) / 4, by omega, rfl⟩)), by simp only; omega⟩
      · by_cases h3 : i < 0x210
        · exact ⟨_, .inl (.inr ⟨(i - 0x110) / 2, by omega, rfl⟩), by simp only; omega⟩
        · exact ⟨_, .inr ⟨(i - 0x400) / 4, by omega, rfl⟩, by simp only; omega⟩

theorem qUnits_width {u : Nat × Nat × Nat} (h : u ∈ qUnits) (h2 : u.2.2 = 2) : u.2.1 = 4 := by
  simp only [qUnits, List.mem_append, List.mem_map, List.mem_range] at h
  rcases h with ((⟨k, -, rfl⟩ | ⟨k, -, rfl⟩) | ⟨k, -, rfl⟩) | ⟨k, -, rfl⟩ <;> simp at h2 ⊢

/-- A byte that a listed lane wrote lies in an item some copy wrote. -/
theorem unitWritten_of_mask {x : Exec} {ks : List Nat} {u : Nat × Nat × Nat} {p i : Nat} (hp : p ∈ ks) (hc : Covers u i)
    (hm : (x.lanes.get p).qmask.read i ≠ 0) : unitWritten x ks u = true := by
  have hfind : ∀ m : Memory, Memory.read m i ≠ 0 → ∃ e ∈ m, e.1 = i := by
    intro m
    induction m with
    | nil => exact fun h => absurd rfl h
    | cons e m ih =>
      intro h
      by_cases he : e.1 = i
      · exact ⟨e, List.mem_cons_self .., he⟩
      · obtain ⟨e', hm, hi⟩ := ih (by simpa [Memory.read, Table.find, he] using h)
        exact ⟨e', List.mem_cons_of_mem _ hm, hi⟩
  obtain ⟨e, he, rfl⟩ := hfind _ hm
  simp only [unitWritten, List.any_eq_true, Bool.and_eq_true, decide_eq_true_eq]
  exact ⟨p, hp, e, he, hc⟩

/-- What a vote finds when `p` and `q` hold the same written bits, values, commit list and signature. -/
structure Unanimous (x : Exec) (p q : Nat) (r : VoteRes) : Prop where
  wf : r.mask.wf = true
  merged : ∀ (old : Memory) (i : Nat), (mergeQ old r.q r.mask).read i =
    if i < 0x210 ∨ 0x400 ≤ i ∧ i < 0x1000 then
      takeBits (old.read i) ((x.lanes.get p).q.read i) ((x.lanes.get p).qmask.read i)
    else old.read i
  unres : r.unres = none
  diff : ∀ k, k = p ∨ k = q → r.diff.get k = none

theorem voteExec_unanimous {x : Exec} {p q : Nat} {ks : List Nat} (hp : p < 3) (hq : q < 3) (hks : Majority p q ks)
    (hw : (x.lanes.get p).q = (x.lanes.get q).q) (hm : (x.lanes.get p).qmask = (x.lanes.get q).qmask)
    (hreq : (x.lanes.get p).reqs = (x.lanes.get q).reqs) (hsig : (x.lanes.get p).sig = (x.lanes.get q).sig) :
    Unanimous x p q (voteExec x ks) := by
  unfold voteExec
  extract_lets r0 r1
  have h0 : VotedAs x p q (qUnits.filter (unitWritten x ks)) r0 := by
    have hnil : VotedAs x p q [] ⟨[], [], none, ⟨none, none, none⟩, [], 0⟩ := by
      refine ⟨rfl, fun i => .inr rfl, fun i h => ?_, fun i _ => rfl,
        fun i => (Nat.zero_and 0).trans (Nat.and_zero _).symm, rfl, fun k hk => ?_⟩
      · obtain ⟨u, hu, -⟩ := h
        exact absurd hu (List.not_mem_nil)
      · unfold Trio.get
        split <;> rfl
    exact hnil.items hp hq hks hw hm fun u hu => qUnits_width (List.mem_of_mem_filter hu)
  have hmerge : ∀ (old : Memory) (i : Nat), (mergeQ old r0.q r0.mask).read i =
      if i < 0x210 ∨ 0x400 ≤ i ∧ i < 0x1000 then
        takeBits (old.read i) ((x.lanes.get p).q.read i) ((x.lanes.get p).qmask.read i)
      else old.read i := by
    intro old i
    rw [read_mergeQ _ _ _ h0.wf, takeBits_congr (h0.word i)]
    by_cases hc : ∃ u ∈ qUnits.filter (unitWritten x ks), Covers u i
    · obtain ⟨u, hu, hui⟩ := hc
      rw [h0.covered i ⟨u, hu, hui⟩, if_pos ((qUnits_cover i).mp ⟨u, List.mem_of_mem_filter hu, hui⟩)]
    · rw [h0.free i hc, takeBits_zero]
      split
      case isFalse => rfl
      case isTrue hi =>
        obtain ⟨u, hu, hui⟩ := (qUnits_cover i).mpr hi
        have hz : (x.lanes.get p).qmask.read i = 0 := by
          by_contra hne
          exact hc ⟨u, List.mem_filter.mpr ⟨hu, unitWritten_of_mask hks.mem hui hne⟩, hui⟩
        rw [hz, takeBits_zero]
  have hr1 : r1 = { markDiff r0 (ks.filter fun k => decide ((x.lanes.get k).reqs ≠ (x.lanes.get p).reqs)) (5, 0) with
      reqs := (x.lanes.get p).reqs } := by
    unfold r1
    rw [pickEq_outvoted (hks.outvoted (f := fun k => (x.lanes.get k).reqs) hreq)]
  have h1 := h0.markDiff hp hq hks hw hm (b := fun k => decide ((x.lanes.get k).reqs ≠ (x.lanes.get p).reqs))
    (by simp) (by simp [hreq]) (5, 0)
  have hd1 : VotedAs x p q (qUnits.filter (unitWritten x ks)) r1 := by
    rw [hr1]
    exact ⟨h1.wf, h1.mask, h1.covered, h1.free, h1.word, h1.unres, h1.diff⟩
  have h2 := hd1.markDiff hp hq hks hw hm (b := fun k => decide ((x.lanes.get k).sig ≠ (x.lanes.get p).sig))
    (by simp) (by simp [hsig]) (6, 0)
  rw [pickEq_outvoted (hks.outvoted (f := fun k => (x.lanes.get k).sig) hsig)]
  refine ⟨h2.wf, ?_, h2.unres, h2.diff⟩
  rw [hr1]
  exact hmerge

end Sys2Proof.Machine
end

section
/-!
PLAIT_COMMIT step by step: the copies that count, what is noted of those that do not, the lanes that differ, and the end.
-/

namespace Sys2Proof.Machine

/-- Lane `k` gives no copy: its code fails, it came late, or it did not end (R265). -/
def absentCopy (wc late : Nat) (x : Exec) (k : Nat) : Bool :=
  wc.testBit k || late.testBit k || decide ((x.lanes.get k).run ≠ .ended)

/-- The lanes whose copies the vote counts. -/
def copiesOf (s : State) (wc late : Nat) (x : Exec) : List Nat := s.voters.filter fun k => !absentCopy wc late x k

/-- The copies that fail their codes are recorded, and the late ones counted. -/
def copiesNoted (s : State) (rest : List Exec) (wc late : Nat) : State :=
  updPlt (s.voters.foldl (fun s k =>
      if wc.testBit k then log Ev.STITCH [7, 1, 0, 0, 2] (s.inc F.IMG_STITCH_WC_UNCORR) else s)
    { s with scn := { s.scn with presented := rest } }) fun p => { p with
      counted := 0
      late := s.voters.foldl (fun t k => t.set k (if late.testBit k then t.get k + 1 else 0)) p.late }

/-- What lane `k` is found to differ in. -/
def oddItem (wc late : Nat) (x : Exec) (r : VoteRes) (k : Nat) : Option (Nat × Nat) :=
  if absentCopy wc late x k then some (9, 0) else r.diff.get k

/-- What stays undecided. -/
def undecided (unc off : Nat) (ks : List Nat) (r : VoteRes) : Option (Nat × Nat) :=
  if unc = 1 then some (10, off) else if unc = 2 then some (11, off) else if ks.length < 2 then some (9, 0) else r.unres

/-- A lane that differs is counted; where everything is decided it may leave the vote (R266, R270). -/
def laneJudged (item : Nat → Option (Nat × Nat)) (open_ : Bool) (oddSig : Nat) (s : State) (k : Nat) : State :=
  match item k with
  | none => s
  | some it =>
    let d := disagree (updPlt s fun p => { p with counted := p.counted ||| 2 ^ k }) k it.1 it.2
    if open_ then d.1
    else if oddSig.testBit k then retireLane d.1 k 1
    else if d.2 then retireLane d.1 k 2
    else if 2 ≤ d.1.plt.late.get k then retireLane d.1 k 4
    else d.1

/-- Every lane that differs is judged. -/
def lanesJudged (s : State) (rest : List Exec) (wc late unc off : Nat) (x : Exec) : State :=
  let r := voteExec x (copiesOf s wc late x)
  s.voters.foldl (laneJudged (oddItem wc late x r) (undecided unc off (copiesOf s wc late x) r).isSome r.oddSig)
    (copiesNoted s rest wc late)

/-- A word that the image could not correct is recorded. -/
def wordNoted (s : State) (unc off : Nat) : State :=
  if unc = 0 then s
  else log Ev.STITCH ([6, if unc = 1 then 0 else 4] ++ leBytes 2 off ++ [2]) (s.inc F.IMG_STITCH_WC_UNCORR)

/-- The vote comes to an end. -/
def voteEnded (s : State) (unc off : Nat) (x : Exec) (ks : List Nat) : State :=
  match undecided unc off ks (voteExec x ks) with
  | some it => settleMode (unresolved (closeUncommitted (wordNoted s unc off) x (decide (unc ≠ 0))) it.1 it.2)
  | none =>
    if s.mode = mFAULT then s
    else if x.discard then settleMode (completeTask (closeUncommitted s x false) x.task)
    else settleMode (commitExec s x (voteExec x ks))

theorem plaitCommit_eq {s : State} {x : Exec} {rest : List Exec} (h : s.scn.presented = x :: rest) (wc late unc off : Nat) :
    plaitCommit wc late unc off s = voteEnded (lanesJudged s rest wc late unc off x) unc off x (copiesOf s wc late x) := by
  unfold plaitCommit
  rw [h]
  rfl

/-! ### What the judgement of lanes changes -/

/-- What an operation of the voters leaves: the frame of a commit, the mode, and whether the output image is open. -/
structure VoteKept (s t : State) : Prop where
  frame : CommitFrame s t
  mode : t.mode = s.mode
  shut : t.plt.open_ = s.plt.open_

section
variable {s t u : State}

theorem VoteKept.refl : VoteKept s s := ⟨.refl, rfl, rfl⟩

theorem VoteKept.trans (h : VoteKept s t) (h' : VoteKept t u) : VoteKept s u :=
  ⟨h.frame.trans h'.frame, h'.mode.trans h.mode, h'.shut.trans h.shut⟩

end

/-- The note of a copy that fails its code. -/
def badNoted (wc : Nat) (s : State) (k : Nat) : State :=
  if wc.testBit k then log Ev.STITCH [7, 1, 0, 0, 2] (s.inc F.IMG_STITCH_WC_UNCORR) else s

theorem badNoted_leaves (wc : Nat) (s : State) (k : Nat) :
    Leaves [.ring, .sto, .int] (F.objIMG_STITCH :: traceObjs) s (badNoted wc s k) :=
  .ite (.step (log_leaves ..) (.one (State.inc_leaves ..) rfl rfl) rfl rfl) (.refl ..)

theorem badNoted_commit (wc : Nat) (s : State) (k : Nat) : CommitFrame s (badNoted wc s k) :=
  .ite ((State.inc_qSpares _ _ _ _ rfl).trans (log_task ..).commit) .refl

theorem copiesNoted_eq (s : State) (rest : List Exec) (wc late : Nat) : copiesNoted s rest wc late =
    updPlt (s.voters.foldl (badNoted wc) { s with scn := { s.scn with presented := rest } }) fun p => { p with
      counted := 0
      late := s.voters.foldl (fun t k => t.set k (if late.testBit k then t.get k + 1 else 0)) p.late } := rfl

theorem copiesNoted_leaves (s : State) (rest : List Exec) (wc late : Nat) :
    Leaves [.ring, .sto, .int, .scn, .plt] (F.objIMG_STITCH :: traceObjs) s (copiesNoted s rest wc late) := by
  rw [copiesNoted_eq]
  have hfold : Leaves [.ring, .sto, .int] (F.objIMG_STITCH :: traceObjs) { s with scn := { s.scn with presented := rest } }
      (s.voters.foldl (badNoted wc) { s with scn := { s.scn with presented := rest } }) :=
    .foldl _ _ (fun _ _ _ => badNoted_leaves ..) _
  exact .step (updPlt_leaves ..) (.step hfold (.one (Leaves.set_scn s _) rfl rfl) rfl rfl) rfl rfl

theorem copiesNoted_kept (s : State) (rest : List Exec) (wc late : Nat) : VoteKept s (copiesNoted s rest wc late) := by
  have hl := copiesNoted_leaves s rest wc late
  rw [copiesNoted_eq] at hl ⊢
  refine ⟨?_, hl.2 F.SCN_MODE_MODE 0 0 (by decide), ?_⟩
  · have hscn : CommitFrame s { s with scn := { s.scn with presented := rest } } := .same rfl rfl rfl
    exact hscn.trans <| (QSpares.foldl (badNoted_commit wc) _ _).trans ((updPlt_leaves ..).qSpares rfl rfl)
  · have hfold : ∀ u : State, (s.voters.foldl (badNoted wc) u).plt = u.plt := fun u =>
      (Leaves.foldl _ _ (fun _ _ _ => badNoted_leaves ..) u).1 .plt (by decide)
    exact (congrArg PltSt.open_ (hfold _) :)

theorem disagree_kept (s : State) (k cls value : Nat) : VoteKept s (disagree s k cls value).1 := by
  refine ⟨disagree_commit .., (disagree_leaves s k cls value).2 F.SCN_MODE_MODE 0 0 (by decide), ?_⟩
  unfold disagree
  extract_lets +onlyGivenNames lim l u hit
  have hplt : (pltCase 0 Ev.DISAGREE (2 ^ k) cls 0 value u).plt = u.plt := (pltCase_leaves ..).1 .plt (by decide)
  split
  · rfl
  · exact (congrArg PltSt.open_ hplt :)

/-- With three lanes in the vote one may leave it, and the module goes on (R270). -/
theorem retireLane_kept {s : State} (hv : ∀ j, j < 3 → s.votes j = true) {k cause : Nat} (hk : k < 3) (hc : cause < 16) :
    VoteKept s (retireLane s k cause) := by
  have hr := laneRetired_retires hk hc s
  have htwo : 2 ≤ (laneRetired s k cause).voting := by
    have hvotes : ∀ j, j ∈ List.range 3 → (laneRetired s k cause).votes j = decide (j ≠ k) := by
      intro j hj
      by_cases hjk : j = k
      · rw [hjk, hr.out]
        simp
      · rw [hr.others.votes j (List.mem_range.mp hj) hjk, hv j (List.mem_range.mp hj)]
        simp [hjk]
    rw [voting_eq, State.voters, List.filter_congr hvotes]
    have hall : ∀ k < 3, 2 ≤ ((List.range 3).filter fun j => decide (j ≠ k)).length := by decide
    exact hall k hk
  rw [retireLane_eq, hv k hk]
  refine ⟨?_, ?_, ?_⟩
  · have := retireLane_commit s k cause
    rwa [retireLane_eq, hv k hk] at this
  · exact (congrArg State.mode (lanesLost_stays _ fun _ => htwo)).trans (hr.frame.rd F.SCN_MODE_MODE 0 rfl)
  · exact (congrArg (fun t : State => t.plt.open_) (lanesLost_stays _ fun _ => htwo)).trans hr.shut

/-- While three lanes vote and everything is decided, the judgement of one that differs lets the module go on. -/
theorem laneJudged_kept {s : State} (hv : ∀ j, j < 3 → s.votes j = true) {k : Nat} (hk : k < 3)
    (item : Nat → Option (Nat × Nat)) (oddSig : Nat) : VoteKept s (laneJudged item false oddSig s k) := by
  unfold laneJudged
  split
  · exact .refl
  next it _ =>
    extract_lets d
    have hcount := updPlt_leaves s fun p => { p with counted := p.counted ||| 2 ^ k }
    have hu : VoteKept s (updPlt s fun p => { p with counted := p.counted ||| 2 ^ k }) :=
      ⟨hcount.qSpares rfl rfl, rfl, rfl⟩
    have hd : VoteKept s d.1 := hu.trans (disagree_kept ..)
    have hret : ∀ cause, cause < 16 → VoteKept s (retireLane d.1 k cause) := fun cause hc =>
      hd.trans (retireLane_kept (fun j hj => by
        rw [(disagree_leaves _ k it.1 it.2).votesSame rfl, hcount.votesSame rfl, hv j hj]) hk hc)
    rw [if_neg Bool.false_ne_true]
    split
    · exact hret 1 (by decide)
    · split
      · exact hret 2 (by decide)
      · split
        · exact hret 4 (by decide)
        · exact hd

/-- A fold in which all but one of three lanes do nothing. -/
theorem foldl_only {α : Type} {g : α → Nat → α} {j : Nat} (hj : j < 3) (h : ∀ a k, k < 3 → k ≠ j → g a k = a) (a : α) :
    (List.range 3).foldl g a = g a j := by
  have hfold : (List.range 3).foldl g a = g (g (g a 0) 1) 2 := rfl
  rw [hfold]
  interval_cases j
  · rw [h _ 2 (by decide) (by decide), h _ 1 (by decide) (by decide)]
  · rw [h _ 2 (by decide) (by decide), h _ 0 (by decide) (by decide)]
  · rw [h _ 0 (by decide) (by decide), h _ 1 (by decide) (by decide)]

/-- Of three lanes, two whose copies count are the majority. -/
theorem majority_filter {p q j : Nat} (hp : p < 3) (hq : q < 3) (hj : j < 3) (hpq : p ≠ q) (hpj : p ≠ j) (hqj : q ≠ j)
    {b : Nat → Bool} (hbp : b p = true) (hbq : b q = true) : Majority p q ((List.range 3).filter b) := by
  have hfilter : (List.range 3).filter b = (List.range 3).filter fun k => decide (k ≠ j) || b j := by
    refine List.filter_congr fun k hk => ?_
    have hk : k = p ∨ k = q ∨ k = j := by
      have := List.mem_range.mp hk
      omega
    rcases hk with rfl | rfl | rfl
    · simp [hbp, hpj]
    · simp [hbq, hqj]
    · simp
  have hall : ∀ (p q j : Fin 3) (c : Bool), p.1 ≠ q.1 → p.1 ≠ j.1 → q.1 ≠ j.1 →
      Majority p q ((List.range 3).filter fun k => decide (k ≠ j.1) || c) := by
    unfold Majority
    decide
  rw [hfilter]
  exact hall ⟨p, hp⟩ ⟨q, hq⟩ ⟨j, hj⟩ _ hpq hpj hqj


/-! ### Two lanes that agree (O39) -/

section
variable {a : State} {wc late off : Nat} {x : Exec} {rest : List Exec} {p q j : Nat}

theorem State.votes_of_all (hv : a.rd F.PLT_LANE_VOTING = 7) {k : Nat} (hk : k < 3) : a.votes k = true := by
  have hall : ∀ k < 3, Nat.testBit 7 k = true := by decide
  rw [State.votes, hv, hall k hk]

theorem State.voters_all (hv : a.rd F.PLT_LANE_VOTING = 7) : a.voters = List.range 3 :=
  List.filter_eq_self.mpr fun _ hk => State.votes_of_all hv (List.mem_range.mp hk)

theorem plaitCommit_masked (hpres : a.scn.presented = x :: rest) (hv : a.rd F.PLT_LANE_VOTING = 7)
    (hd : p < 3 ∧ q < 3 ∧ j < 3 ∧ p ≠ q ∧ p ≠ j ∧ q ≠ j)
    (hgood : wc.testBit p = false ∧ wc.testBit q = false ∧ late.testBit p = false ∧ late.testBit q = false)
    (hend : (x.lanes.get p).run = .ended ∧ (x.lanes.get q).run = .ended)
    (hword : (x.lanes.get p).q = (x.lanes.get q).q ∧ (x.lanes.get p).qmask = (x.lanes.get q).qmask)
    (hreq : (x.lanes.get p).reqs = (x.lanes.get q).reqs ∧ (x.lanes.get p).sig = (x.lanes.get q).sig)
    (hdis : x.discard = false) (hmode : a.mode ≠ mFAULT) (hstart : ¬(x.src = 4 ∧ a.mode = mSTOP))
    (hopen : x.task ≠ 0 ∨ a.plt.open_ = true) :
    (∀ i, (plaitCommit wc late 0 off a).img.q.read i = if i < 0x210 ∨ 0x400 ≤ i ∧ i < 0x1000 then
      takeBits (a.img.q.read i) ((x.lanes.get p).q.read i) ((x.lanes.get p).qmask.read i) else a.img.q.read i) ∧
    Spares commitObjs commitFlds a (plaitCommit wc late 0 off a) := by
  obtain ⟨hp, hq, hj, hpq, hpj, hqj⟩ := hd
  obtain ⟨hwp, hwq, hlp, hlq⟩ := hgood
  have habs : ∀ k, k = p ∨ k = q → absentCopy wc late x k = false := by
    rintro k (rfl | rfl) <;> simp [absentCopy, *]
  have hvoters := State.voters_all hv
  have hks : Majority p q (copiesOf a wc late x) := by
    rw [copiesOf, hvoters]
    exact majority_filter hp hq hj hpq hpj hqj (by rw [habs p (.inl rfl)]; rfl) (by rw [habs q (.inr rfl)]; rfl)
  have hu := voteExec_unanimous hp hq hks hword.1 hword.2 hreq.1 hreq.2
  have htwo : ¬(copiesOf a wc late x).length < 2 := by
    rcases hks with h | h | ⟨k, h | h | h | h | h | h⟩ <;> rw [h] <;> simp
  have hund : undecided 0 off (copiesOf a wc late x) (voteExec x (copiesOf a wc late x)) = none := by
    rw [undecided, if_neg (by decide), if_neg (by decide), if_neg htwo, hu.unres]
  have hnoted := copiesNoted_kept a rest wc late
  have hjudged : VoteKept a (lanesJudged a rest wc late 0 off x) := by
    unfold lanesJudged
    extract_lets r
    rw [hund, hvoters, foldl_only hj]
    · refine hnoted.trans (laneJudged_kept (fun k hk => ?_) hj _ _)
      rw [(copiesNoted_leaves ..).votesSame rfl]
      exact State.votes_of_all hv hk
    · intro s k hk hkj
      have hkpq : k = p ∨ k = q := by omega
      rw [laneJudged, oddItem, habs k hkpq, if_neg Bool.false_ne_true, hu.diff k hkpq]
  rw [plaitCommit_eq hpres, voteEnded, hund]
  generalize lanesJudged a rest wc late 0 off x = b at hjudged
  generalize voteExec x (copiesOf a wc late x) = r at hu
  dsimp only
  rw [if_neg (by rw [hjudged.mode]; exact hmode), hdis, if_neg Bool.false_ne_true]
  have hcommit := commitExec_commits b x r (by rw [hjudged.mode]; exact hstart) (by rw [hjudged.shut]; exact hopen)
  have hset := hcommit.trans (settleMode_commit _)
  refine ⟨fun i => ?_, hjudged.frame.regs.trans ((Spares.same rfl rfl).trans hset.regs)⟩
  rw [hset.q, ← hjudged.frame.q]
  exact hu.merged b.img.q i

end

end Sys2Proof.Machine
end

section
/-!
A vote that stays undecided (R265, R274): what precedes its record, the record, and the FAULT it leads to.
-/

namespace Sys2Proof.Machine

/-! ### UNRESOLVED -/

abbrev UnresolvedMoves (s t : State) : Prop :=
  Moves (traceParts ++ [.time, .mbx, .img, .scn, .prg, .fld, .plt, .pair]) (traceObjs ++ [F.objPLT_LANE]) [F.ANG_EV_STATE,
    F.MBX_QUEUES_CQ_FREE, F.MBX_QUEUES_CR_FREE, F.MBX_USE_HANDLES_USED, F.MBX_USE_SESSIONS_OPEN, F.PLT_COUNT_UNRESOLVED,
    F.PLT_PSTATE_ROLE, F.PRG_ACT_PENDING, F.SCN_MODE_CAUSE, F.SCN_MODE_CAUSE_PERSISTS, F.SCN_MODE_MODE,
    F.SCN_MODE_PENDING] s t

/-- What stands after UNRESOLVED of class `cls`. -/
structure Undecided (cls value : Nat) (s t : State) : Prop where
  mode : t.mode = mFAULT
  cause : t.rd F.SCN_MODE_CAUSE = 4
  pend : t.scn.pend = none
  running : t.scn.running = none
  presented : t.scn.presented = []
  waiting : t.scn.waiting = []
  recorded : Recorded Ev.UNRESOLVED ([s.rd F.PLT_LANE_VOTING, cls, 0, 0] ++ leBytes 4 value) s t
  frame : UnresolvedMoves s t

theorem unresolved_undecided {s : State} (hm : s.mode = mRUN ∨ s.mode = mHOLD) (cls value : Nat) :
    Undecided cls value s (unresolved s cls value) := by
  unfold unresolved
  extract_lets v u w
  have hinc : Records 0 s (s.inc F.PLT_COUNT_UNRESOLVED) := (State.inc_leaves ..).records rfl
  have hlog : Recorded Ev.UNRESOLVED ([v, cls, 0, 0] ++ leBytes 4 value) (s.inc F.PLT_COUNT_UNRESOLVED) u :=
    (recorded_log _ _ _).grow (setLatch_grows ..)
  have hu : u.mode = s.mode := ((pltCase_leaves ..).2 F.SCN_MODE_MODE 0 0 (by decide)).trans
    ((State.inc_leaves ..).2 F.SCN_MODE_MODE 0 0 (by decide))
  have hw : Moves [] [F.objPLT_LANE] [F.SCN_MODE_CAUSE_PERSISTS] u w := .foldl (fun a k => .ite
    (((laneCause_moves a k 6).one rfl rfl rfl).trans ((setLane_moves ..).one rfl rfl rfl)) (.refl a)) _ _
  have hwm : w.mode = s.mode := (hw.rd F.SCN_MODE_MODE 0 rfl).trans hu
  have hne : (updPlt w fun p => { p with suspect := p.suspect ||| v }).mode ≠ mINIT ∧
      (updPlt w fun p => { p with suspect := p.suspect ||| v }).mode ≠ mFAULT := by
    change w.mode ≠ mINIT ∧ w.mode ≠ mFAULT
    rw [hwm]
    rcases hm with h | h <;> rw [h] <;> decide
  have hf := enterFault_faults (cause := 4) (by decide) hne
  have hgrow : BufGrows u (enterFault (updPlt w fun p => { p with suspect := p.suspect ||| v }) 4) :=
    (hw.1.grows rfl).trans <| ((updPlt_leaves ..).grows rfl).trans (enterFault_grows ..)
  have hcount : UnresolvedMoves s u :=
    (pltCase_leaves ..).moves.step ((State.wr_moves s F.PLT_COUNT_UNRESOLVED _ 0).one rfl rfl rfl) rfl rfl rfl
  exact ⟨hf.mode, hf.cause, hf.pend, hf.running, hf.presented, hf.waiting,
    fun hs hc => hlog.grow hgrow (hinc.sealed.trans hs) (lt_of_le_of_lt hinc.count hc),
    hf.frame.step ((updPlt_leaves ..).moves.step (hw.step hcount rfl rfl rfl) rfl rfl rfl) rfl rfl rfl⟩

theorem settleMode_none {s : State} (h : s.scn.pend = none) : settleMode s = s := by
  unfold settleMode
  rw [h]

/-! ### What precedes it -/

/-- What the judgement of a vote that stays undecided keeps: the mode and the lanes' votes, with at most `n` records. -/
structure VoteOpen (n : Nat) (s t : State) : Prop where
  frame : CommitFrame s t
  mode : t.mode = s.mode
  voting : t.rd F.PLT_LANE_VOTING = s.rd F.PLT_LANE_VOTING
  records : Records n s t

theorem VoteOpen.trans {n m : Nat} {s t u : State} (h : VoteOpen n s t) (h' : VoteOpen m t u) : VoteOpen (n + m) s u :=
  ⟨h.frame.trans h'.frame, h'.mode.trans h.mode, h'.voting.trans h.voting, h.records.trans h'.records⟩

theorem VoteOpen.refl {n : Nat} {s : State} : VoteOpen n s s := ⟨.refl, rfl, rfl, .of_sto rfl⟩

theorem VoteOpen.mono {n m : Nat} {s t : State} (h : VoteOpen n s t) (hn : n ≤ m) : VoteOpen m s t :=
  ⟨h.frame, h.mode, h.voting, h.records.mono hn⟩

/-- An operation that leaves the mode and the lanes' objects. -/
theorem Leaves.voteOpen {n : Nat} {ps : List Part} {os : List Nat} {s t : State} (h : Leaves ps os s t)
    (hf : CommitFrame s t) (hr : Records n s t) (hm : os.contains F.objSCN_MODE = false)
    (hl : os.contains F.objPLT_LANE = false) : VoteOpen n s t :=
  ⟨hf, h.2 F.SCN_MODE_MODE 0 0 (show F.objSCN_MODE ∉ os by simpa using hm),
    h.2 F.PLT_LANE_VOTING 0 0 (show F.objPLT_LANE ∉ os by simpa using hl), hr⟩

theorem VoteOpen.foldl {n : Nat} {g : State → Nat → State} (h : ∀ s k, VoteOpen n s (g s k)) (l : List Nat) (s : State) :
    VoteOpen (l.length * n) s (l.foldl g s) := by
  induction l generalizing s with
  | nil => exact .refl
  | cons k l ih => exact ((h s k).trans (ih _)).mono (by rw [List.length_cons, Nat.succ_mul, Nat.add_comm])

theorem State.voters_length (s : State) : s.voters.length ≤ 3 := List.length_filter_le ..

theorem badNoted_open (wc : Nat) (s : State) (k : Nat) : VoteOpen 4 s (badNoted wc s k) := by
  refine (badNoted_leaves wc s k).voteOpen (badNoted_commit ..) (.ite ?_ (.of_sto rfl)) rfl rfl
  exact ((State.inc_leaves ..).records rfl).trans (log_records ..)

theorem copiesNoted_open (s : State) (rest : List Exec) (wc late : Nat) : VoteOpen 12 s (copiesNoted s rest wc late) := by
  rw [copiesNoted_eq]
  have hscn : VoteOpen 0 s { s with scn := { s.scn with presented := rest } } := ⟨.same rfl rfl rfl, rfl, rfl, .of_sto rfl⟩
  have hfold := VoteOpen.foldl (badNoted_open wc) s.voters { s with scn := { s.scn with presented := rest } }
  have hplt : ∀ (u : State) (f : PltSt → PltSt), VoteOpen 0 u (updPlt u f) := fun u f =>
    ⟨.same rfl rfl rfl, rfl, rfl, .of_sto rfl⟩
  exact ((hscn.trans hfold).trans (hplt ..)).mono (by have := s.voters_length; omega)

theorem disagree_records (s : State) (k cls value : Nat) : Records 5 s (disagree s k cls value).1 := by
  unfold disagree
  extract_lets +onlyGivenNames lim l u hit
  have hu : Records 0 s u := .of_sto rfl
  split
  · exact hu.mono (by decide)
  · exact hu.trans ((log_records ..).trans (setLatch_records ..))

theorem disagree_open (s : State) (k cls value : Nat) : VoteOpen 5 s (disagree s k cls value).1 :=
  (disagree_leaves s k cls value).voteOpen (disagree_commit ..) (disagree_records ..) rfl rfl

theorem laneJudged_open (item : Nat → Option (Nat × Nat)) (oddSig : Nat) (s : State) (k : Nat) :
    VoteOpen 5 s (laneJudged item true oddSig s k) := by
  unfold laneJudged
  split
  · exact .refl
  · have hplt : VoteOpen 0 s (updPlt s fun p => { p with counted := p.counted ||| 2 ^ k }) :=
      ⟨.same rfl rfl rfl, rfl, rfl, .of_sto rfl⟩
    exact hplt.trans (disagree_open ..)

theorem wordNoted_open (s : State) (unc off : Nat) : VoteOpen 4 s (wordNoted s unc off) := by
  unfold wordNoted
  split
  · exact .refl
  · have hinc := State.inc_leaves s F.IMG_STITCH_WC_UNCORR 0 1
    have h0 : VoteOpen 0 s (s.inc F.IMG_STITCH_WC_UNCORR) :=
      hinc.voteOpen (State.inc_qSpares _ _ _ _ rfl) (hinc.records rfl) rfl rfl
    exact (h0.trans ((log_leaves ..).voteOpen (log_task ..).commit (log_records ..) rfl rfl)).mono (Nat.le_refl 4)

theorem closeUncommitted_open (s : State) (x : Exec) (damaged : Bool) : VoteOpen 0 s (closeUncommitted s x damaged) := by
  have hl : Leaves [.img] [] s (closeUncommitted s x damaged) := by
    unfold closeUncommitted
    split
    · exact closeSnap_leaves ..
    · exact .refl ..
  exact hl.voteOpen (closeUncommitted_task ..).commit (hl.records rfl) rfl rfl

/-! ### The commit (O39) -/

section
variable {a : State} {wc late unc off : Nat} {x : Exec} {rest : List Exec}

theorem copiesOf_eq (a : State) (wc late : Nat) (x : Exec) : copiesOf a wc late x =
    (List.range 3).filter fun k => a.votes k && !(wc.testBit k || late.testBit k || decide ((x.lanes.get k).run ≠ .ended)) := by
  rw [copiesOf, State.voters, List.filter_filter]
  exact List.filter_congr fun _ _ => Bool.and_comm ..

/-- What stands before the record of a vote that stays undecided. -/
theorem judged_open (s : State) (rest : List Exec) (wc late : Nat) (x : Exec) (ks : List Nat) {it : Nat × Nat}
    (hks : copiesOf s wc late x = ks) (h : undecided unc off ks (voteExec x ks) = some it) (damaged : Bool) :
    VoteOpen 31 s (closeUncommitted (wordNoted (lanesJudged s rest wc late unc off x) unc off) x damaged) := by
  have hj : VoteOpen 27 s (lanesJudged s rest wc late unc off x) := by
    unfold lanesJudged
    extract_lets r
    have hopen : (undecided unc off (copiesOf s wc late x) r).isSome = true := by
      unfold r
      rw [hks, h]
      rfl
    rw [hopen]
    exact ((copiesNoted_open ..).trans (VoteOpen.foldl (laneJudged_open _ _) s.voters _)).mono (by
      have := s.voters_length
      omega)
  exact (hj.trans (wordNoted_open ..)).trans (closeUncommitted_open ..)

theorem plaitCommit_undecided (hpres : a.scn.presented = x :: rest) (hm : a.mode = mRUN ∨ a.mode = mHOLD)
    (h : unc = 0 ∧ (copiesOf a wc late x).length < 2 ∨ unc = 1 ∨ unc = 2) :
    let t := plaitCommit wc late unc off a
    t.mode = mFAULT ∧ t.rd F.SCN_MODE_CAUSE = 4 ∧
    Logged Ev.UNRESOLVED ([a.rd F.PLT_LANE_VOTING, if unc = 0 then 9 else 9 + unc, 0, 0] ++
      leBytes 4 (if unc = 0 then 0 else off)) a t ∧
    (t.scn.running = none ∧ t.scn.presented = [] ∧ t.scn.waiting = []) ∧ CommitFrame a t := by
  have hund : undecided unc off (copiesOf a wc late x) (voteExec x (copiesOf a wc late x)) =
      some (if unc = 0 then 9 else 9 + unc, if unc = 0 then 0 else off) := by
    rcases h with ⟨rfl, hlen⟩ | rfl | rfl
    · simp [undecided, hlen]
    · simp [undecided]
    · simp [undecided]
  have hopen := judged_open a rest wc late x _ rfl hund (decide (unc ≠ 0))
  rw [plaitCommit_eq hpres, voteEnded, hund]
  generalize closeUncommitted (wordNoted (lanesJudged a rest wc late unc off x) unc off) x (decide (unc ≠ 0)) = b at hopen
  dsimp only
  have hun := unresolved_undecided (hopen.mode ▸ hm) (if unc = 0 then 9 else 9 + unc) (if unc = 0 then 0 else off)
  rw [settleMode_none hun.pend, ← hopen.voting]
  exact ⟨hun.mode, hun.cause, hun.recorded.logged hopen.records (Nat.le_refl 31), ⟨hun.running, hun.presented, hun.waiting⟩,
    hopen.frame.trans (unresolved_commit ..)⟩

end

/-- Settles O39: where two of three lanes agree the vote decides every item as they hold it, and an undecided one ends in
FAULT. -/
theorem faultMasked : Obligations.FaultMasked := by
  unfold Obligations.FaultMasked
  refine ⟨?masked, ?undecided⟩
  case masked =>
    intro dt s wc late off x rest p q j a hpres hv hd hgood hend hword hreq hdis hmode hstart hopen
    obtain ⟨hq, hf⟩ := plaitCommit_masked hpres hv hd hgood hend hword hreq hdis hmode hstart hopen (off := off)
    exact ⟨_, rfl, hq, (hf.moves (plaitCommit_leaves ..) rfl).one rfl rfl rfl⟩
  case undecided =>
    intro dt s wc late unc off x rest a hpres hm h
    obtain ⟨hmode, hcause, hlog, hscn, hf⟩ := plaitCommit_undecided hpres hm (copiesOf_eq a wc late x ▸ h) (off := off)
    exact ⟨_, rfl, hmode, hcause, hf.q, hlog, hscn, (hf.regs.moves (plaitCommit_leaves ..) rfl).one rfl rfl rfl⟩

end Sys2Proof.Machine
end

section
/-!
A lane on its way back into the vote (R270 to R274, PLT-3, PLT-4, PLT-11): retirement, tests, copies and the join.
-/

namespace Sys2Proof.Machine

/-! ### The microcode update at a lane that comes back or does not (R536) -/

/-- What the end of a microcode update writes. -/
abbrev UcodeMoves (s t : State) : Prop := Moves (traceParts ++ [.mbx, .sec]) (traceObjs ++ [F.objSEC_FW])
  [F.MBX_QUEUES_CQ_FREE, F.MBX_QUEUES_CR_FREE, F.MBX_USE_HANDLES_USED, F.MBX_USE_SESSIONS_OPEN] s t

theorem finishFw_ucode (s : State) (a : FwAct) (status result : Nat) : UcodeMoves s (finishFw s a status result) :=
  ((finishFw_latch ..).movesWithin (finishFw_leaves ..) (rs := traceObjs ++ [F.objSEC_FW]) (vs := [F.MBX_QUEUES_CQ_FREE,
    F.MBX_QUEUES_CR_FREE, F.MBX_USE_HANDLES_USED, F.MBX_USE_SESSIONS_OPEN]) rfl rfl rfl).one rfl rfl rfl

theorem ucodeLost_ucode (s : State) (k : Nat) : UcodeMoves s (ucodeLost s k) := by
  unfold ucodeLost
  split
  · exact finishFw_ucode ..
  · exact .refl s

theorem ucodeJoined_ucode (s : State) (k : Nat) : UcodeMoves s (ucodeJoined s k) := by
  unfold ucodeJoined
  split
  · exact .refl s
  · exact .ite (finishFw_ucode ..) (.ite (finishFw_ucode ..) ((putFwAct_leaves ..).moves.one rfl rfl rfl))

theorem ucodeLost_grows (s : State) (k : Nat) : BufGrows s (ucodeLost s k) := by
  unfold ucodeLost
  split
  · exact finishFw_grows ..
  · exact List.prefix_refl _

theorem ucodeJoined_grows (s : State) (k : Nat) : BufGrows s (ucodeJoined s k) := by
  unfold ucodeJoined
  split
  · exact List.prefix_refl _
  · exact .ite (finishFw_grows ..) (.ite (finishFw_grows ..) ((putFwAct_leaves ..).grows rfl))

section
variable {s t a : State} {j k v mask : Nat}

theorem ucodeRetests_congr (h : t.sec = s.sec) (k : Nat) : t.ucodeRetests k = s.ucodeRetests k := by
  simp only [State.ucodeRetests, State.ucode, State.fwAct, h]

/-- The case of a lane stands recorded. -/
theorem recorded_pltCase (i : Nat) (e : Nat × Nat) (lanes cls group value : Nat) (s : State) :
    Recorded e ([lanes, cls, group, 0] ++ leBytes 4 value) s (pltCase i e lanes cls group value s) :=
  (recorded_log _ _ _).grow (setLatch_grows ..)

/-- A lane takes a new state. -/
theorem setLane_takes (hk : k < 3) (hv : v < 8) (s : State) :
    (setLane s k v).laneSt k = v ∧ (setLane s k v).votes k = decide (v = lVOTING) :=
  ⟨by rw [laneSt_setLane hk hk hv, if_pos rfl], by rw [votes_setLane hk, if_pos rfl]⟩

/-! ### RETIRE (PLT-11) -/

/-- The lanes `ks` have left the vote with `cause`, and the others stand. -/
structure RetiredAll (cause : Nat) (ks : List Nat) (s t : State) : Prop where
  votes : ∀ j, j < 3 → t.votes j = (s.votes j && !ks.contains j)
  laneSt : ∀ j, j < 3 → j ∉ ks → t.laneSt j = s.laneSt j
  retired : ∀ j, j < 3 → j ∉ ks → t.plt.retired.get j = s.plt.retired.get j
  tested : ∀ k ∈ ks, s.votes k = true → 3 + (s.plt.retired.get k).length < s.rd F.PLT_CFG_RETIRE_MAX →
    s.rd F.PLT_CFG_AUTO_ADMIT = 1 → t.laneSt k = lTESTING ∧ t.rd (laneCauseFld k) = cause
  frame : RetireMoves s t

theorem RetiredAll.nil {cause : Nat} : RetiredAll cause [] s s :=
  ⟨fun _ _ => by simp, fun _ _ _ => rfl, fun _ _ _ => rfl, fun _ h => absurd h (by simp), .refl s⟩

/-- One more lane leaves the vote, two others staying in it where the mode asks for them. -/
theorem RetiredAll.snoc {cause : Nat} {ks : List Nat} (h : RetiredAll cause ks s t) (hk : k < 3) (hn : k ∉ ks)
    (hks : ∀ j ∈ ks, j < 3) (hc : cause < 16)
    (hleft : (s.mode = mRUN ∨ s.mode = mHOLD) → 2 ≤ ((List.range 3).filter fun j => s.votes j && !(ks ++ [k]).contains j).length) :
    RetiredAll cause (ks ++ [k]) s (retireLane t k cause) := by
  have hmem : ∀ j, (ks ++ [k]).contains j = (ks.contains j || decide (j = k)) := fun j => by simp
  have hne : ∀ j, j ∉ ks ++ [k] → j ∉ ks ∧ j ≠ k := fun j hj => by simpa using hj
  have hvk : t.votes k = s.votes k := by simp [h.votes k hk, hn]
  rw [retireLane_eq]
  cases hv : t.votes k with
  | false =>
    refine ⟨fun j hj => ?_, fun j hj hjn => h.laneSt j hj (hne j hjn).1, fun j hj hjn => h.retired j hj (hne j hjn).1,
      fun j hj hvj => ?_, h.frame⟩
    · rw [Bool.not_false, if_pos rfl, h.votes j hj, hmem]
      by_cases hjk : j = k
      · rw [hjk, ← hvk, hv]
        rfl
      · simp [hjk]
    · rcases List.mem_append.mp hj with hj | hj
      · exact h.tested j hj hvj
      · rw [List.mem_singleton.mp hj, ← hvk, hv] at hvj
        exact absurd hvj Bool.false_ne_true
  | true =>
    have hr := laneRetired_retires hk hc t
    have hvotes : ∀ j, j < 3 → (laneRetired t k cause).votes j = (s.votes j && !(ks ++ [k]).contains j) := by
      intro j hj
      rw [hmem]
      by_cases hjk : j = k
      · rw [hjk, hr.out]
        simp
      · rw [hr.others.votes j hj hjk, h.votes j hj]
        simp [hjk]
    have hframe : RetireMoves s (laneRetired t k cause) := h.frame.trans hr.frame
    have hstays : lanesLost (laneRetired t k cause) = laneRetired t k cause := by
      refine lanesLost_stays _ fun hm => ?_
      rw [State.mode, hframe.rd F.SCN_MODE_MODE 0 rfl] at hm
      rw [voting_eq, State.voters, List.filter_congr fun j hj => hvotes j (List.mem_range.mp hj)]
      exact hleft hm
    rw [Bool.not_true, if_neg Bool.false_ne_true, hstays]
    refine ⟨hvotes, fun j hj hjn => ?_, fun j hj hjn => ?_, fun j hj hvj hmax hauto => ?_, hframe⟩
    · obtain ⟨hj1, hj2⟩ := hne j hjn
      rw [hr.others.laneSt j hj hj2, h.laneSt j hj hj1]
    · obtain ⟨hj1, hj2⟩ := hne j hjn
      rw [hr.retired j hj hj2, h.retired j hj hj1]
    · rcases List.mem_append.mp hj with hj | hj
      · obtain ⟨hst, hcause⟩ := h.tested j hj hvj hmax hauto
        have hjk : j ≠ k := fun e => hn (e ▸ hj)
        exact ⟨(hr.others.laneSt j (hks j hj) hjk).trans hst, (hr.others.laneCause j (hks j hj) hjk).trans hcause⟩
      · rw [List.mem_singleton.mp hj] at hmax ⊢
        refine hr.tested ?_ ?_
        · rwa [h.retired k hk hn, h.frame.rd F.PLT_CFG_RETIRE_MAX 0 rfl]
        · rwa [h.frame.rd F.PLT_CFG_AUTO_ADMIT 0 rfl]

/-- The lanes of a mask leave the vote one after the other. -/
theorem RetiredAll.foldl {cause : Nat} {ks : List Nat} (h : RetiredAll cause ks s t) {ls : List Nat}
    (hnodup : (ks ++ ls).Nodup) (hlt : ∀ j ∈ ks ++ ls, j < 3) (hc : cause < 16)
    (hleft : (s.mode = mRUN ∨ s.mode = mHOLD) → 2 ≤ ((List.range 3).filter fun j => s.votes j && !(ks ++ ls).contains j).length) :
    RetiredAll cause (ks ++ ls) s (ls.foldl (fun u k => retireLane u k cause) t) := by
  induction ls generalizing ks t with
  | nil => simpa using h
  | cons k ls ih =>
    have hsplit : ks ++ k :: ls = ks ++ [k] ++ ls := by simp
    rw [hsplit] at hnodup hlt hleft ⊢
    have hk : k ∉ ks := fun hm => (List.nodup_append.mp (List.nodup_append.mp hnodup).1).2.2 k hm k (by simp) rfl
    refine ih (h.snoc (hlt k (by simp)) hk (fun j hj => hlt j (by simp [hj])) hc fun hm => (hleft hm).trans ?_) hnodup hlt hleft
    refine (List.monotone_filter_right _ fun j hj => ?_).length_le
    simp only [Bool.and_eq_true, Bool.not_eq_true', List.contains_eq_mem, decide_eq_false_iff_not, List.mem_append, not_or]
      at hj ⊢
    exact ⟨hj.1, hj.2.1⟩

/-- RETIRE where two lanes remain, or the mode asks for none (R270, PLT-11). -/
theorem retire_retires (h : ¬((a.mode = mRUN ∨ a.mode = mHOLD) ∧ leftVoting a mask < 2)) :
    RetiredAll 5 ((List.range 3).filter fun k => mask.testBit k) a (retire mask a) := by
  rw [retire, if_neg h]
  have hmem : ∀ j ∈ List.range 3, ((List.range 3).filter fun k => mask.testBit k).contains j = mask.testBit j := by
    intro j hj
    simp only [List.contains_eq_mem, List.mem_filter, hj, true_and, Bool.decide_eq_true]
  have hlt : ∀ j ∈ (List.range 3).filter fun k => mask.testBit k, j < 3 := fun j hj =>
    List.mem_range.mp (List.mem_of_mem_filter hj)
  have hnodup : ((List.range 3).filter fun k => mask.testBit k).Nodup := List.nodup_range.filter _
  have hleft : (a.mode = mRUN ∨ a.mode = mHOLD) → 2 ≤ ((List.range 3).filter fun j =>
      a.votes j && !((List.range 3).filter fun k => mask.testBit k).contains j).length := by
    intro hm
    rw [List.filter_congr fun j hj => by rw [hmem j hj]]
    exact Nat.le_of_not_lt fun hlt => h ⟨hm, hlt⟩
  generalize (List.range 3).filter (fun k => mask.testBit k) = ls at hlt hnodup hleft
  have hnil : RetiredAll 5 [] a a := .nil
  simpa using hnil.foldl (ls := ls) (by simpa using hnodup) (by simpa using hlt) (by decide) (by simpa using hleft)

/-! ### READMIT and the retry (R271, PLT-11) -/

/-- The lane is tested again. -/
def laneReadmitted (s : State) (k : Nat) : State :=
  setLane (updPlt s fun p => { p with fails := p.fails.set k 0, retry := p.retry.set k none }) k lTESTING

theorem laneReadmitted_moves (s : State) (k : Nat) : Moves [.plt] [] laneFlds s (laneReadmitted s k) :=
  (setLane_moves ..).step ((updPlt_leaves ..).moves.one rfl rfl rfl) rfl rfl rfl

theorem laneReadmitted_votes (hj : j < 3) (s : State) (k : Nat) :
    (laneReadmitted s k).votes j = if j = k then false else s.votes j := by
  rw [laneReadmitted, votes_setLane hj]
  rfl

theorem laneReadmitted_laneSt (hj : j < 3) (hk : k < 3) (s : State) :
    (laneReadmitted s k).laneSt j = if j = k then lTESTING else s.laneSt j := by
  rw [laneReadmitted, laneSt_setLane hj hk (by decide)]
  rfl

theorem laneReadmitted_fails (hj : j < 3) (hk : k < 3) (s : State) :
    (laneReadmitted s k).plt.fails.get j = if j = k then 0 else s.plt.fails.get j := by
  have hplt : (laneReadmitted s k).plt.fails = s.plt.fails.set k 0 := rfl
  rw [hplt]
  split
  case isTrue h => rw [h, Trio.get_set_same]
  case isFalse h => exact Trio.get_set_ne _ _ hj hk h

/-- The lanes `ks` are tested again, and the others stand. -/
structure Readmitted (ks : List Nat) (s t : State) : Prop where
  laneSt : ∀ j, j < 3 → t.laneSt j = if j ∈ ks then lTESTING else s.laneSt j
  votes : ∀ j, j < 3 → t.votes j = if j ∈ ks then false else s.votes j
  fails : ∀ j, j < 3 → j ∈ ks → t.plt.fails.get j = 0
  frame : Moves [.plt] [] laneFlds s t

theorem readmitted_foldl {ks : List Nat} (hks : ∀ j ∈ ks, j < 3) (s : State) :
    Readmitted ks s (ks.foldl laneReadmitted s) := by
  induction ks using List.reverseRecOn with
  | nil => exact ⟨fun _ _ => by simp, fun _ _ => by simp, fun _ _ h => absurd h (by simp), .refl s⟩
  | append_singleton ks k ih =>
    have ih := ih fun j hj => hks j (by simp [hj])
    have hk : k < 3 := hks k (by simp)
    rw [List.foldl_append, List.foldl_cons, List.foldl_nil]
    refine ⟨fun j hj => ?_, fun j hj => ?_, fun j hj hm => ?_, ih.frame.trans (laneReadmitted_moves ..)⟩
    · rw [laneReadmitted_laneSt hj hk, ih.laneSt j hj]
      by_cases hjk : j = k <;> simp [hjk]
    · rw [laneReadmitted_votes hj, ih.votes j hj]
      by_cases hjk : j = k <;> simp [hjk]
    · rw [laneReadmitted_fails hj hk]
      split
      case isTrue => rfl
      case isFalse hjk => exact ih.fails j hj ((List.mem_append.mp hm).resolve_right (by simpa using hjk))

theorem readmit_readmits (h : ∀ k, k < 3 → mask.testBit k = true → a.laneSt k = lRETIRED ∨ a.laneSt k = lFAILED) :
    Readmitted ((List.range 3).filter fun k => mask.testBit k) a (readmit mask a) := by
  unfold readmit
  extract_lets ks
  have hlt : ∀ j ∈ ks, j < 3 := fun j hj => List.mem_range.mp (List.mem_of_mem_filter hj)
  rw [if_pos]
  · exact readmitted_foldl hlt a
  · simpa using fun k hk => h k (hlt k hk) (List.mem_filter.mp hk).2

theorem mem_masked (hj : j < 3) : j ∈ (List.range 3).filter (fun k => mask.testBit k) ↔ mask.testBit j = true :=
  List.mem_filter.trans (and_iff_right (List.mem_range.mpr hj))

/-! ### LANE_TEST (R272, PLT-3) -/

/-- LANE_TEST reads the lane's mark of a suspect and takes it back. -/
def testTaken (s : State) (k : Nat) : State := updPlt s fun p => { p with suspect := setBits p.suspect k k 0 }

theorem testTaken_leaves (s : State) (k : Nat) : Leaves [.plt] [] s (testTaken s k) := updPlt_leaves ..

section
variable (hk : k < 3) (hst : a.laneSt k = lTESTING) (hclk : a.clk.lane = true) (hload : a.ucodeLoading k = false)
include hk hst hclk hload

theorem laneTest_eq (pass : Bool) : laneTest k pass a =
    if !pass then
      let s := pltCase 2 Ev.ADMIT_FAIL (2 ^ k) 7 0 0 (testTaken a k)
      if s.ucodeRetests k then ucodeFailed s k else ucodeLost (setLane (s.wr (laneCauseFld k) 7) k lFAILED) k
    else if a.mode = mFAULT ∨ (a.plt.suspect.testBit k ∧ a.mode = mSTOP) then clearLane (testTaken a k) k
    else if a.mode = mINIT then testTaken a k
    else setLane (updPlt (testTaken a k) fun p => { p with
      latches := p.latches.set k 0, passes := p.passes.set k 0 }) k lCOPYING := by
  rw [laneTest, if_neg]
  · rfl
  · simp [hst, hclk, hload, hk]

/-- A test the lane does not pass (R271, R272). -/
theorem laneTest_fails (hre : a.ucodeRetests k = false) :
    ((laneTest k false a).laneSt k = lFAILED ∧ (laneTest k false a).rd (laneCauseFld k) = 7 ∧
      (laneTest k false a).votes k = false) ∧
    OthersStand k a (laneTest k false a) ∧ Logged Ev.ADMIT_FAIL ([2 ^ k, 7, 0, 0] ++ leBytes 4 0) a (laneTest k false a) ∧
    Moves (traceParts ++ [.mbx, .scn, .plt, .sec]) (traceObjs ++ [F.objPLT_LANE, F.objSEC_FW]) [F.MBX_QUEUES_CQ_FREE,
      F.MBX_QUEUES_CR_FREE, F.MBX_USE_HANDLES_USED, F.MBX_USE_SESSIONS_OPEN, F.SCN_MODE_CAUSE_PERSISTS] a
      (laneTest k false a) := by
  have hcase := pltCase_leaves 2 Ev.ADMIT_FAIL (2 ^ k) 7 0 0 (testTaken a k)
  have hrec := recorded_pltCase 2 Ev.ADMIT_FAIL (2 ^ k) 7 0 0 (testTaken a k)
  have heq := laneTest_eq hk hst hclk hload false
  dsimp only at heq
  rw [Bool.not_false, if_pos rfl, ucodeRetests_congr (s := a) (hcase.1 .sec (by decide)), hre,
    if_neg Bool.false_ne_true] at heq
  rw [heq]
  generalize pltCase 2 Ev.ADMIT_FAIL (2 ^ k) 7 0 0 (testTaken a k) = u at hcase hrec
  have htest := testTaken_leaves a k
  have hw := setLane_takes (v := lFAILED) hk (by decide) (u.wr (laneCauseFld k) 7)
  have hcw : (setLane (u.wr (laneCauseFld k) 7) k lFAILED).rd (laneCauseFld k) = 7 := by
    rw [setLane_laneCause, laneCause_same (by decide)]
  have hwo : OthersStand k u (setLane (u.wr (laneCauseFld k) 7) k lFAILED) :=
    (wr_laneCause_others hk u 7).trans (setLane_others hk (by decide) _)
  have hwm : Moves [] [F.objPLT_LANE] [F.SCN_MODE_CAUSE_PERSISTS] u (setLane (u.wr (laneCauseFld k) 7) k lFAILED) :=
    (setLane_moves ..).step ((laneCause_moves u k 7).one rfl rfl rfl) rfl rfl rfl
  generalize setLane (u.wr (laneCauseFld k) 7) k lFAILED = w at hw hcw hwo hwm
  have hlost := ucodeLost_leaves w k
  refine ⟨⟨?_, ?_, ?_⟩, ?_, ?_, ?_⟩
  · rw [hlost.laneSt rfl, hw.1]
  · rw [hlost.laneCause rfl, hcw]
  · rw [hlost.votesSame rfl, hw.2]
    rfl
  · exact (htest.others rfl).trans <| (hcase.others rfl).trans <| hwo.trans (hlost.others rfl)
  · exact (hrec.grow ((hwm.1.grows rfl).trans (ucodeLost_grows ..))).logged (htest.records rfl) (by decide)
  · exact (ucodeLost_ucode w k).step (hwm.step (hcase.moves.step (htest.moves.one rfl rfl rfl) rfl rfl rfl) rfl rfl rfl)
      rfl rfl rfl

/-- A test that leads to a copy (R272). -/
theorem laneTest_copying (hm : a.mode = mRUN ∨ a.mode = mHOLD ∨ a.mode = mSTOP ∧ a.plt.suspect.testBit k = false) :
    laneTest k true a = setLane (updPlt (testTaken a k) fun p => { p with
      latches := p.latches.set k 0, passes := p.passes.set k 0 }) k lCOPYING := by
  rw [laneTest_eq hk hst hclk hload, if_neg (by decide), if_neg, if_neg]
  · rcases hm with h | h | ⟨h, -⟩ <;> rw [h] <;> decide
  · rcases hm with h | h | ⟨h, hs⟩
    · rw [h]
      exact fun hc => hc.elim (by decide) fun hc => absurd hc.2 (by decide)
    · rw [h]
      exact fun hc => hc.elim (by decide) fun hc => absurd hc.2 (by decide)
    · rw [h, hs]
      exact fun hc => hc.elim (by decide) fun hc => absurd hc.1 Bool.false_ne_true

/-- A test that makes the lane vote without a copy (R274). -/
theorem laneTest_clears (hm : a.mode = mFAULT ∨ a.mode = mSTOP ∧ a.plt.suspect.testBit k = true) :
    laneTest k true a = clearLane (testTaken a k) k := by
  rw [laneTest_eq hk hst hclk hload, if_neg (by decide), if_pos (hm.imp_right fun h => ⟨h.2, h.1⟩)]

end

/-- The lane's memory and output shadow are cleared. -/
def laneEmptied (s : State) (k : Nat) : State :=
  updPlt { s with scn := { s.scn with lanes := s.scn.lanes.set k ⟨[], [], [], []⟩ } } fun p => { p with
    shadow := p.shadow.set k (memPart s.img.q 0 0x210) }

theorem laneEmptied_leaves (s : State) (k : Nat) : Leaves [.scn, .plt] [] s (laneEmptied s k) :=
  .step (updPlt_leaves ..) (.one (Leaves.set_scn s _) rfl rfl) rfl rfl

theorem clearLane_eq (s : State) (k : Nat) : clearLane s k = ucodeJoined (setLane (laneEmptied s k) k lVOTING) k := rfl

/-- What a lane that joins the vote by `u`, and the microcode update then, leave. -/
theorem joined_takes (hk : k < 3) (u : State) :
    let t := ucodeJoined (setLane u k lVOTING) k
    (t.laneSt k = lVOTING ∧ t.votes k = true) ∧ OthersStand k u t ∧ t.scn = u.scn ∧ t.plt = u.plt := by
  have hj := ucodeJoined_leaves (setLane u k lVOTING) k
  have hw := setLane_takes (v := lVOTING) hk (by decide) u
  refine ⟨⟨?_, ?_⟩, (setLane_others hk (by decide) u).trans (hj.others rfl), hj.1 .scn (by decide), hj.1 .plt (by decide)⟩
  · rw [hj.laneSt rfl, hw.1]
  · rw [hj.votesSame rfl, hw.2]
    rfl

/-! ### Copies and the join (R273) -/

theorem laneCopyPass_eq (hk : k < 3) (hsrc : a.copySource = some j) (hst : a.laneSt k = lCOPYING)
    (hidle : a.lanesIdle = true) (hclk : a.clk.lane = true) :
    laneCopyPass k a = updPlt (copyLane a j k) fun p => { p with passes := p.passes.set k (p.passes.get k + 1) } := by
  unfold laneCopyPass
  rw [hsrc]
  exact if_neg (by simp [hst, hidle, hclk, hk])

/-- What a copy of lane `j` into lane `k` leaves. -/
structure Copied (j k : Nat) (s t : State) : Prop where
  target : t.scn.lanes.get k = { s.scn.lanes.get j with dirty := [] }
  source : j ≠ k → t.scn.lanes.get j = { s.scn.lanes.get j with dirty := [] }
  other : ∀ i, i < 3 → i ≠ j → i ≠ k → t.scn.lanes.get i = s.scn.lanes.get i
  shadow : t.plt.shadow.get k = s.plt.shadow.get j
  passes : t.plt.passes = s.plt.passes
  frame : Leaves [.scn, .plt] [] s t

theorem copyLane_copies (hj : j < 3) (hk : k < 3) (s : State) : Copied j k s (copyLane s j k) where
  target := Trio.get_set_same ..
  source hjk := (Trio.get_set_ne _ _ hj hk hjk).trans (Trio.get_set_same ..)
  other _ hi hij hik := (Trio.get_set_ne _ _ hi hk hik).trans (Trio.get_set_ne _ _ hi hj hij)
  shadow := Trio.get_set_same ..
  passes := rfl
  frame := copyLane_leaves ..

theorem copySource_lt (h : a.copySource = some j) : j < 3 :=
  List.mem_range.mp (List.mem_of_find?_eq_some h)

/-- The lane with the source's state, its failed copies forgotten. -/
def laneCopied (s : State) (j k : Nat) : State :=
  updPlt (copyLane s j k) fun p => { p with fails := p.fails.set k 0, retry := p.retry.set k none }

/-- The lane in the vote again. -/
def laneBack (s : State) (j k : Nat) : State :=
  setLane { laneCopied s j k with scn := { (laneCopied s j k).scn with intact := false } } k lVOTING

/-- What a lane that is back in the vote finds. -/
structure Back (j k : Nat) (s t : State) : Prop where
  lane : t.laneSt k = lVOTING ∧ t.votes k = true
  others : OthersStand k s t
  memory : t.scn.lanes.get k = { s.scn.lanes.get j with dirty := [] }
  passes : t.plt.passes = s.plt.passes
  frame : Moves [.scn, .plt] [] laneFlds s t

theorem laneBack_back (hj : j < 3) (hk : k < 3) (s : State) : Back j k s (laneBack s j k) := by
  have hc := copyLane_copies hj hk s
  have hplt : Leaves [.plt] [] (copyLane s j k) (laneCopied s j k) := updPlt_leaves ..
  have hscn := Leaves.set_scn (laneCopied s j k) { (laneCopied s j k).scn with intact := false }
  have hset := setLane_takes (v := lVOTING) hk (by decide) { laneCopied s j k with scn := { (laneCopied s j k).scn with intact := false } }
  exact {
    lane := ⟨hset.1, hset.2⟩
    others := (hc.frame.others rfl).trans <| (hplt.others rfl).trans <| (hscn.others rfl).trans <|
      setLane_others hk (by decide) _
    memory := hc.target
    passes := hc.passes
    frame := (setLane_moves ..).step (hscn.moves.step (hplt.moves.step (hc.frame.moves.one rfl rfl rfl) rfl rfl rfl)
      rfl rfl rfl) rfl rfl rfl }

theorem laneJoin_eq (hk : k < 3) (hsrc : a.copySource = some j) (hok : a.joinOk k = true) (hkind : a.img.latchKind ≠ 2)
    (hlast : a.ring.lastLocal = a.ring.lastLatch) (hnow : a.time.now ≤ a.ring.lastLatch + 4000) (hclk : a.clk.lane = true) :
    laneJoin k a = ucodeJoined (pltCase 2 Ev.ADMIT_DONE (2 ^ k) 0 0 ((laneBack a j k).plt.passes.get k)
      ((laneBack a j k).inc F.PLT_COUNT_ADMITS)) k := by
  unfold laneJoin
  rw [hsrc]
  refine (if_neg ?_).trans rfl
  simp [hok, hkind, hlast, hclk]
  omega

end

/-- Settles O40: each lane's registers follow its own retirement, test, copy or join, and the other lanes' stand. -/
theorem lanesReturn : Obligations.LanesReturn := by
  unfold Obligations.LanesReturn
  refine ⟨?retire, ?last, ?readmit, ?retry, ?fails, ?copying, ?cleared, ?pass, ?join⟩
  case retire =>
    intro dt s mask a h
    have hr := retire_retires h
    refine ⟨_, rfl, fun k hk hm => ?_, fun k hk hm => ?_, fun k hk hm hv hmax hauto => ?_, hr.frame.one rfl rfl rfl⟩
    · rw [hr.votes k hk]
      simp [hm, hk]
    · rw [hr.votes k hk]
      exact ⟨by simp [hm], hr.laneSt k hk (by simp [hm])⟩
    · exact hr.tested k ((mem_masked hk).mpr hm) hv hmax hauto
  case last =>
    intro dt s mask a hm hl
    exact ⟨_, rfl, if_pos ⟨hm, hl⟩⟩
  case readmit =>
    intro dt s mask a h
    have hr := readmit_readmits h
    refine ⟨_, rfl, fun k hk => ?_, fun k hk => ?_, fun k hk hm => ?_, hr.frame⟩
    · exact (hr.laneSt k hk).trans (if_congr (mem_masked hk) rfl rfl)
    · exact (hr.votes k hk).trans (if_congr (mem_masked hk) rfl rfl)
    · exact hr.fails k hk ((mem_masked hk).mpr hm)
  case retry =>
    intro dt s k n a hk hr hn hst hauto
    have heq : admitRetry k a = setLane (updPlt a fun p => { p with retry := p.retry.set k none }) k lTESTING := by
      unfold admitRetry
      rw [hr]
      exact if_pos ⟨hk, hn, hst, decide_eq_true (by rw [hauto]; decide)⟩
    have hplt := updPlt_leaves a fun p => { p with retry := p.retry.set k none }
    have hset := setLane_takes (v := lTESTING) hk (by decide) (updPlt a fun p => { p with retry := p.retry.set k none })
    have ho := (hplt.others rfl).trans (setLane_others hk (v := lTESTING) (by decide) _)
    refine ⟨_, rfl, ?_, fun j hj hjk => ?_, ?_⟩
    · rw [heq]
      exact ⟨hset.1, Trio.get_set_same ..⟩
    · rw [heq]
      exact ho.laneSt j hj hjk
    · rw [heq]
      exact (setLane_moves ..).step (hplt.moves.one rfl rfl rfl) rfl rfl rfl
  case fails =>
    intro dt s k a hk hst hclk hload hre
    obtain ⟨hlane, ho, hlog, hf⟩ := laneTest_fails hk hst hclk hload hre
    exact ⟨_, rfl, hlane, fun j hj hjk => ho.laneSt j hj hjk, hlog, hf⟩
  case copying =>
    intro dt s k a hk hst hclk hload hm
    have heq := laneTest_copying hk hst hclk hload hm
    have htest := testTaken_leaves a k
    have hplt := updPlt_leaves (testTaken a k) fun p => { p with latches := p.latches.set k 0, passes := p.passes.set k 0 }
    have hset := setLane_takes (v := lCOPYING) hk (by decide) (updPlt (testTaken a k) fun p => { p with
      latches := p.latches.set k 0, passes := p.passes.set k 0 })
    have ho := (htest.others rfl).trans <| (hplt.others rfl).trans (setLane_others hk (v := lCOPYING) (by decide) _)
    refine ⟨_, rfl, ?_, ?_, fun j hj hjk => ?_, ?_⟩
    · rw [heq]
      exact ⟨hset.1, hset.2⟩
    · rw [heq]
      exact ⟨Trio.get_set_same .., Trio.get_set_same ..⟩
    · rw [heq]
      exact ho.laneSt j hj hjk
    · rw [heq]
      exact (setLane_moves ..).step (hplt.moves.step (htest.moves.one rfl rfl rfl) rfl rfl rfl) rfl rfl rfl
  case cleared =>
    intro dt s k a hk hst hclk hload hm
    have heq := laneTest_clears hk hst hclk hload hm
    rw [clearLane_eq] at heq
    have htest := testTaken_leaves a k
    have hempty := laneEmptied_leaves (testTaken a k) k
    obtain ⟨hlane, ho, hscn, hplt⟩ := joined_takes hk (laneEmptied (testTaken a k) k)
    have ho := (htest.others rfl).trans ((hempty.others rfl).trans ho)
    refine ⟨_, rfl, ?_, ?_, ?_, fun j hj hjk => ?_, ?_⟩
    · rw [heq]
      exact hlane
    · rw [heq, hscn]
      exact Trio.get_set_same ..
    · rw [heq, hplt]
      exact Trio.get_set_same ..
    · rw [heq, hscn]
      exact ⟨ho.laneSt j hj hjk, Trio.get_set_ne _ _ hj hk hjk⟩
    · rw [heq]
      exact (ucodeJoined_ucode ..).step ((setLane_moves ..).step (hempty.moves.step (htest.moves.one rfl rfl rfl)
        rfl rfl rfl) rfl rfl rfl) rfl rfl rfl
  case pass =>
    intro dt s k j a hk hsrc hjk hst hidle hclk
    have heq := laneCopyPass_eq hk hsrc hst hidle hclk
    have hc := copyLane_copies (copySource_lt hsrc) hk a
    refine ⟨_, rfl, ?_, ?_, ?_, ?_, fun i hi hij hik => ?_, ?_⟩ <;> rw [heq]
    · exact hc.target
    · exact hc.source hjk
    · exact hc.shadow
    · exact Trio.get_set_same ..
    · exact hc.other i hi hij hik
    · exact (updPlt_leaves ..).moves.step (hc.frame.moves.one rfl rfl rfl) rfl rfl rfl
  case join =>
    intro dt s k j a hk hsrc hjk hok hkind hlast hnow hclk
    have heq := laneJoin_eq hk hsrc hok hkind hlast hnow hclk
    have hb := laneBack_back (copySource_lt hsrc) hk a
    generalize laneBack a j k = w at heq hb
    have hinc := State.inc_leaves w F.PLT_COUNT_ADMITS 0 1
    have hcase := pltCase_leaves 2 Ev.ADMIT_DONE (2 ^ k) 0 0 (w.plt.passes.get k) (w.inc F.PLT_COUNT_ADMITS)
    have hrec := recorded_pltCase 2 Ev.ADMIT_DONE (2 ^ k) 0 0 (w.plt.passes.get k) (w.inc F.PLT_COUNT_ADMITS)
    have hcount : (pltCase 2 Ev.ADMIT_DONE (2 ^ k) 0 0 (w.plt.passes.get k) (w.inc F.PLT_COUNT_ADMITS)).rd
        F.PLT_COUNT_ADMITS = min (2 ^ F.PLT_COUNT_ADMITS.width - 1) (a.rd F.PLT_COUNT_ADMITS + 1) := by
      rw [State.rd, hcase.2 _ _ _ (by decide), ← State.rd, State.rd_inc_same, hb.frame.rd F.PLT_COUNT_ADMITS 0 rfl]
    have hmem : (pltCase 2 Ev.ADMIT_DONE (2 ^ k) 0 0 (w.plt.passes.get k) (w.inc F.PLT_COUNT_ADMITS)).scn = w.scn :=
      hcase.1 .scn (by decide)
    rw [hb.passes] at hrec hcount hmem hcase heq
    generalize pltCase 2 Ev.ADMIT_DONE (2 ^ k) 0 0 (a.plt.passes.get k) (w.inc F.PLT_COUNT_ADMITS) = u at heq hcase hrec hcount hmem
    have hjoin := ucodeJoined_leaves u k
    have hwu : OthersStand k w u := (hinc.others rfl).trans (hcase.others rfl)
    refine ⟨_, rfl, ?_, ?_, fun i hi hik => ?_, ?_, ?_, ?_⟩ <;> rw [heq]
    · rw [hjoin.laneSt rfl, hjoin.votesSame rfl, hcase.laneSt rfl, hcase.votesSame rfl, hinc.laneSt rfl, hinc.votesSame rfl]
      exact hb.lane
    · rw [hjoin.1 .scn (by decide), hmem]
      exact hb.memory
    · exact (hb.others.trans (hwu.trans (hjoin.others rfl))).laneSt i hi hik
    · exact (hrec.grow (ucodeJoined_grows u k)).logged ((hb.frame.1.records rfl).trans (hinc.records rfl)) (by decide)
    · exact (hjoin.2 _ _ _ (by decide)).trans hcount
    · exact (ucodeJoined_ucode u k).step (hcase.moves.step ((State.inc_moves ..).step (hb.frame.one rfl rfl rfl)
        rfl rfl rfl) rfl rfl rfl) rfl rfl rfl

end Sys2Proof.Machine
end

section
/-!
The field dies (R268, R269, R289, DIG-10): what switching a channel, a vote, a safe value and a hold leave of the channels
and of the groups.
-/

namespace Sys2Proof.Machine

/-! ### Channels and groups read after a write -/

theorem dch_putDch (s : State) (c : Nat) (x : DgCh) (j : Nat) : (putDch s c x).dch j = if j = c then x else s.dch j :=
  Table.find_put ..

theorem dgg_putDgg (s : State) (g : Nat) (y : DgGrp) (j : Nat) : (putDgg s g y).dgg j = if j = g then y else s.dgg j :=
  Table.find_put ..

theorem ach_putAch (s : State) (c : Nat) (x : AnCh) (j : Nat) : (putAch s c x).ach j = if j = c then x else s.ach j :=
  Table.find_put ..

theorem agg_putAgg (s : State) (g : Nat) (y : AnGrp) (j : Nat) : (putAgg s g y).agg j = if j = g then y else s.agg j :=
  Table.find_put ..

theorem dch_congr {s t : State} (h : t.fld = s.fld) (c : Nat) : t.dch c = s.dch c := by rw [State.dch, State.dch, h]

theorem dgg_congr {s t : State} (h : t.fld = s.fld) (g : Nat) : t.dgg g = s.dgg g := by rw [State.dgg, State.dgg, h]

theorem agg_congr {s t : State} (h : t.ana = s.ana) (g : Nat) : t.agg g = s.agg g := by rw [State.agg, State.agg, h]

theorem ach_congr {s t : State} (h : t.ana = s.ana) (c : Nat) : t.ach c = s.ach c := by rw [State.ach, State.ach, h]

theorem dgSync_fld (s : State) (g : Nat) : (dgSync s g).fld = s.fld := (dgSync_leaves s g).1 .fld (by decide)

theorem agSync_ana (s : State) (g : Nat) : (agSync s g).ana = s.ana := (agSync_leaves s g).1 .ana (by decide)

theorem dgg_updDgg (s : State) (g : Nat) (f : DgGrp → DgGrp) (j : Nat) :
    (updDgg s g f).dgg j = if j = g then f (s.dgg g) else s.dgg j := by
  rw [updDgg, dgg_congr (dgSync_fld ..), dgg_putDgg]

theorem dch_updDgg (s : State) (g : Nat) (f : DgGrp → DgGrp) (c : Nat) : (updDgg s g f).dch c = s.dch c := by
  rw [updDgg, dch_congr (dgSync_fld ..)]
  rfl

theorem agg_updAgg (s : State) (g : Nat) (f : AnGrp → AnGrp) (j : Nat) :
    (updAgg s g f).agg j = if j = g then f (s.agg g) else s.agg j := by
  rw [updAgg, agg_congr (agSync_ana ..), agg_putAgg]

theorem ach_updAgg (s : State) (g : Nat) (f : AnGrp → AnGrp) (c : Nat) : (updAgg s g f).ach c = s.ach c := by
  rw [updAgg, ach_congr (agSync_ana ..)]
  rfl

/-! ### Switching one channel (R333 to R344) -/

/-- What the field dies' operations write. -/
def fieldFlds : List Fld :=
  [F.DG_CHSTAT_BSHORT, F.DG_CHSTAT_CLAMP, F.DG_CHSTAT_LOCKED, F.DG_CHSTAT_PENDING, F.DG_CNT_CNT, F.DG_GSTAT_BC_V,
    F.DG_GSTAT_RATE, F.DG_GSTAT_WORD]

/-- Of the channels only `c` changes, and every group keeps its safe state and its release. -/
structure Touched (c : Nat) (s t : State) : Prop where
  other : ∀ j, j ≠ c → t.dch j = s.dch j
  safe : ∀ g, (t.dgg g).safe = (s.dgg g).safe
  released : ∀ g, (t.dgg g).released = (s.dgg g).released
  copies : t.fld.copies = s.fld.copies
  cmds : t.fld.cmds = s.fld.cmds
  store : StoreStands s t
  frame : Spares (traceObjs ++ [F.objAG_GSTAT]) fieldFlds s t

/-- Channel `c` is switched: its voted bit and duty stand too. -/
structure Switched (c : Nat) (s t : State) : Prop where
  touched : Touched c s t
  bit : (t.dch c).bit = (s.dch c).bit
  duty : (t.dch c).duty = (s.dch c).duty

section
variable {c : Nat} {s t u : State}

theorem Touched.refl : Touched c s s := ⟨fun _ _ => rfl, fun _ => rfl, fun _ => rfl, rfl, rfl, .refl s, .refl⟩

theorem Touched.trans (h : Touched c s t) (h' : Touched c t u) : Touched c s u :=
  ⟨fun j hj => (h'.other j hj).trans (h.other j hj), fun g => (h'.safe g).trans (h.safe g),
    fun g => (h'.released g).trans (h.released g), h'.copies.trans h.copies, h'.cmds.trans h.cmds,
    h.store.trans h'.store, h.frame.trans h'.frame⟩

theorem Switched.refl : Switched c s s := ⟨.refl, rfl, rfl⟩

theorem Switched.trans (h : Switched c s t) (h' : Switched c t u) : Switched c s u :=
  ⟨h.touched.trans h'.touched, h'.bit.trans h.bit, h'.duty.trans h.duty⟩

theorem Switched.ite {d : Prop} [Decidable d] {a b : State} (h : Switched c s a) (h' : Switched c s b) :
    Switched c s (if d then a else b) := by
  split
  · exact h
  · exact h'

/-- A step that leaves the field dies' part. -/
theorem Spares.switched (h : Spares (traceObjs ++ [F.objAG_GSTAT]) fieldFlds s t) (hs : StoreStands s t)
    (hf : t.fld = s.fld) : Switched c s t :=
  ⟨⟨fun j _ => dch_congr hf j, fun g => by rw [dgg_congr hf], fun g => by rw [dgg_congr hf], by rw [hf], by rw [hf], hs, h⟩,
    by rw [dch_congr hf], by rw [dch_congr hf]⟩

theorem State.wr_switched (s : State) (f : Fld) (v i : Nat)
    (hw : fieldsWithin (traceObjs ++ [F.objAG_GSTAT]) fieldFlds [f] = true) : Switched c s (s.wr f v i) :=
  (s.wr_spares f v i hw).switched (.of_sto (State.wr_sto ..)) (State.wr_fld ..)

theorem putDch_touched (s : State) (c : Nat) (x : DgCh) : Touched c s (putDch s c x) :=
  ⟨fun j hj => by rw [dch_putDch, if_neg hj], fun _ => rfl, fun _ => rfl, rfl, rfl, .of_sto rfl, .same rfl rfl⟩

/-- The channel's own state changes, its voted bit and duty not. -/
theorem putDch_switched {x : DgCh} (hb : x.bit = (s.dch c).bit) (hd : x.duty = (s.dch c).duty) :
    Switched c s (putDch s c x) :=
  ⟨putDch_touched .., by rw [dch_putDch, if_pos rfl, hb], by rw [dch_putDch, if_pos rfl, hd]⟩

/-- A group's own state changes, its safe state and its release not. -/
theorem putDgg_switched {g : Nat} {y : DgGrp} (hs : y.safe = (s.dgg g).safe) (hr : y.released = (s.dgg g).released) :
    Switched c s (putDgg s g y) := by
  refine ⟨⟨fun _ _ => rfl, fun j => ?_, fun j => ?_, rfl, rfl, .of_sto rfl, .same rfl rfl⟩, rfl, rfl⟩
  all_goals
    rw [dgg_putDgg]
    split
    case isTrue h => rw [h]; assumption
    case isFalse => rfl

theorem dgSync_store (s : State) (g : Nat) : StoreStands s (dgSync s g) := by
  have hsync := hostSync_store ((((s.wr F.DG_GSTAT_WORD (s.dgWord g) g).wr F.DG_GSTAT_RATE (min 255 (s.boostRate g)) g).wr
    F.DG_GSTAT_BC_V (s.vbc g / 100000) g)) (204 + g)
  exact StoreStands.trans (.of_sto (by simp)) hsync

theorem dgSync_switched (s : State) (g : Nat) : Switched c s (dgSync s g) :=
  Spares.switched ((dgSync_commit s g).regs.narrow (dgSync_leaves s g) rfl rfl rfl) (dgSync_store s g) (dgSync_fld s g)

theorem stageOff_switched (s : State) (c : Nat) : Switched c s (stageOff s c) := by
  unfold stageOff
  extract_lets x u
  have hu : Switched c s u := putDch_switched rfl rfl
  exact .ite (hu.trans (State.wr_switched _ _ _ _ rfl)) hu

theorem stageOn_switched (s : State) (c : Nat) (boost : Bool) : Switched c s (stageOn s c boost) := by
  unfold stageOn
  extract_lets +onlyGivenNames x i g u _ v
  have hv : Switched c s v := Switched.trans (t := u) (putDgg_switched rfl rfl) (putDgg_switched rfl rfl)
  clear_value v
  have hput : ∀ y : DgCh, y.bit = x.bit → y.duty = x.duty → Switched c s (putDch s c y) := fun y hb hd =>
    putDch_switched hb hd
  have hputv : ∀ y : DgCh, y.bit = x.bit → y.duty = x.duty → Switched c v (putDch v c y) := fun y hb hd =>
    putDch_switched (hb.trans hv.bit.symm) (hd.trans hv.duty.symm)
  refine .ite .refl (.ite (.ite (.ite ?_ ?_) (hput _ (by rfl) (by rfl))) (hput _ (by rfl) (by rfl)))
  · exact hv.trans ((hputv _ (by rfl) (by rfl)).trans (dgSync_switched ..))
  · exact (hput _ (by rfl) (by rfl)).trans (State.wr_switched _ _ _ _ rfl)

theorem drive_switched (s : State) (c : Nat) (on boost : Bool) (ev : Option Nat) : Switched c s (drive s c on boost ev) := by
  have hput : ∀ (w : State) (y : DgCh), y.bit = (w.dch c).bit → y.duty = (w.dch c).duty → Switched c w (putDch w c y) :=
    fun w y hb hd => putDch_switched hb hd
  unfold drive
  extract_lets +onlyGivenNames _ u v
  have hu : Switched c s u := hput _ _ rfl rfl
  have hv : Switched c u v := (State.wr_switched _ _ _ _ rfl).trans (State.wr_switched _ _ _ _ rfl)
  refine .ite ?_ (.ite hu (.ite ?_ (hu.trans (stageOn_switched ..))))
  · exact hu.trans <| hv.trans <| (hput v _ (by rfl) (by rfl)).trans (stageOff_switched ..)
  · exact hu.trans <| (hput u _ (by rfl) (by rfl)).trans (State.wr_switched _ _ _ _ rfl)

theorem pwmStart_switched (s : State) (c : Nat) : Switched c s (pwmStart s c) := by
  unfold pwmStart
  extract_lets x t u
  have hu : Switched c s u := putDch_switched rfl rfl
  exact hu.trans (drive_switched ..)

/-- A stage that is driven off is off. -/
theorem drive_off (s : State) (c : Nat) (boost : Bool) (ev : Option Nat) : ((drive s c false boost ev).dch c).drv = false := by
  have hoff : ∀ u : State, ((stageOff u c).dch c).drv = false := by
    intro u
    unfold stageOff
    extract_lets x v
    have hv : (v.dch c).drv = false := by rw [dch_putDch, if_pos rfl]
    split
    · rw [dch_congr (State.wr_fld ..)]
      exact hv
    · exact hv
  unfold drive
  extract_lets +onlyGivenNames _ u v
  rw [Bool.not_false, if_pos rfl]
  exact hoff _

/-! ### Safe values and votes of one channel (R189, R268) -/

theorem driveSafe_touched (s : State) (c kind : Nat) : Touched c s (driveSafe s c kind) := by
  unfold driveSafe
  extract_lets code x
  split
  · exact (drive_switched ..).touched
  · split
    · exact .refl
    · exact (drive_switched ..).touched
  · split
    · exact .refl
    · exact (putDch_touched ..).trans (pwmStart_switched ..).touched
  · exact .refl

theorem driveSafe_bit (s : State) (c kind : Nat) : ((driveSafe s c kind).dch c).bit = (s.dch c).bit := by
  unfold driveSafe
  extract_lets code x
  split
  · exact (drive_switched ..).bit
  · split
    · rfl
    · exact (drive_switched ..).bit
  · split
    · rfl
    · rw [(pwmStart_switched ..).bit, dch_putDch, if_pos rfl]
  · rfl

/-- An output whose safe value is OFF goes off. -/
theorem driveSafe_off {kind : Nat} (hm : s.dmode c = 3)
    (hcode : (if kind = 2 then s.rd F.DG_CH_FAULT_SAFE c else s.rd F.DG_CH_STOP_SAFE c) = 0) :
    ((driveSafe s c kind).dch c).drv = false := by
  unfold driveSafe
  extract_lets code x
  have hcode : code = 0 := hcode
  rw [hm, hcode]
  exact drive_off ..

/-- What the vote of a channel leaves: the voted bit, and the voted duty where the channel's object is good. -/
structure VotedChannel (c : Nat) (b : Bool) (d : Nat) (s t : State) : Prop where
  touched : Touched c s t
  bit : (t.dch c).bit = b
  duty : s.inconsistent F.objDG_CH c = false → (t.dch c).duty = d

theorem inconsistent_congr (h : StoreStands s t) (obj i : Nat) : t.inconsistent obj i = s.inconsistent obj i := by
  have hi : t.sto.incons = s.sto.incons := (congrArg StoSt.incons h :)
  rw [State.inconsistent, State.inconsistent, hi]

theorem applyVoted_votes (s : State) (c : Nat) (b d : Int) :
    VotedChannel c (decide (b = 1)) d.toNat s (applyVoted s c (some b) (some d)) := by
  unfold applyVoted
  extract_lets +onlyGivenNames x v w rise a e
  have ha : Touched c s a := putDch_touched ..
  have hab : (a.dch c).bit = decide (b = 1) := by rw [dch_putDch, if_pos rfl]
  have had : (a.dch c).duty = d.toNat := by rw [dch_putDch, if_pos rfl]
  have he : Switched c a e := .ite (State.wr_switched _ _ _ _ rfl) .refl
  clear_value e a
  have hdone : ∀ t, Switched c e t → VotedChannel c (decide (b = 1)) d.toNat s t := fun t ht =>
    ⟨ha.trans (he.touched.trans ht.touched), ht.bit.trans (he.bit.trans hab), fun _ => ht.duty.trans (he.duty.trans had)⟩
  split
  case isTrue hin =>
    refine ⟨ha.trans (he.touched.trans (driveSafe_touched ..)), (driveSafe_bit ..).trans (he.bit.trans hab), fun hc => ?_⟩
    rw [inconsistent_congr (ha.trans he.touched).store, hc] at hin
    exact absurd hin Bool.false_ne_true
  case isFalse =>
    split
    · exact hdone _ (drive_switched ..)
    · exact hdone _ (.ite .refl (.ite .refl (pwmStart_switched ..)))
    · exact hdone _ .refl

end

end Sys2Proof.Machine
end

section
/-!
Votes, safe values and hold of a whole field die (R268, R269, R289).
-/

namespace Sys2Proof.Machine

/-- Of the channels only those of group `g` change, and every group keeps its safe state. -/
structure GroupTouched (s t : State) : Prop where
  safe : ∀ j, (t.dgg j).safe = (s.dgg j).safe
  copies : t.fld.copies = s.fld.copies
  cmds : t.fld.cmds = s.fld.cmds
  store : StoreStands s t
  frame : Spares (traceObjs ++ [F.objAG_GSTAT]) fieldFlds s t

section
variable {g c k bad : Nat} {s t u a : State} {x : CopySet}

theorem GroupTouched.refl : GroupTouched s s := ⟨fun _ => rfl, rfl, rfl, .refl s, .refl⟩

theorem GroupTouched.trans (h : GroupTouched s t) (h' : GroupTouched t u) : GroupTouched s u :=
  ⟨fun g => (h'.safe g).trans (h.safe g), h'.copies.trans h.copies, h'.cmds.trans h.cmds, h.store.trans h'.store,
    h.frame.trans h'.frame⟩

theorem Touched.group (h : Touched c s t) : GroupTouched s t := ⟨h.safe, h.copies, h.cmds, h.store, h.frame⟩

/-- Operations on one channel after the other: each channel ends as its own operation left it. -/
theorem touched_foldl {f : State → Nat → State} (hf : ∀ s k, Touched (16 * g + k) s (f s k)) {ks : List Nat}
    (hn : ks.Nodup) (s : State) : GroupTouched s (ks.foldl f s) ∧
      (∀ c, (∀ k ∈ ks, c ≠ 16 * g + k) → (ks.foldl f s).dch c = s.dch c) ∧
      ∀ k ∈ ks, ∃ u, GroupTouched s u ∧ (ks.foldl f s).dch (16 * g + k) = (f u k).dch (16 * g + k) := by
  induction ks generalizing s with
  | nil => exact ⟨.refl, fun _ _ => rfl, fun _ h => absurd h List.not_mem_nil⟩
  | cons k ks ih =>
    obtain ⟨hk, hn⟩ := List.nodup_cons.mp hn
    obtain ⟨ihg, iho, ihk⟩ := ih hn (f s k)
    have hstep := (hf s k).group
    refine ⟨hstep.trans ihg, fun c hc => ?_, fun j hj => ?_⟩
    · rw [List.foldl_cons, iho c fun j hj => hc j (List.mem_cons_of_mem _ hj),
        (hf s k).other c (hc k (List.mem_cons_self ..))]
    · rcases List.mem_cons.mp hj with rfl | hj
      · exact ⟨s, .refl, iho _ fun i hi he => hk (by rwa [show j = i by omega])⟩
      · obtain ⟨u, hu, hd⟩ := ihk j hj
        exact ⟨u, hstep.trans hu, hd⟩

/-! ### The digital vote -/

/-- The voted bit of a channel: the majority of three. -/
theorem voteItem_bit (x : CopySet) (c : Nat) :
    ∃ v : Int, (voteItem x [0, 1, 2] false fun m => (b2n (memBit m c) : Int)).1 = some v ∧
      decide (v = 1) = (memBit (x.q.get 0) c && memBit (x.q.get 1) c || memBit (x.q.get 0) c && memBit (x.q.get 2) c ||
        memBit (x.q.get 1) c && memBit (x.q.get 2) c) := by
  have hall : ∀ p q r : Bool, ∃ v : Int, vote3 false [(b2n p : Int), b2n q, b2n r] = some v ∧
      decide (v = 1) = (p && q || p && r || q && r) := by
    intro p q r
    cases p <;> cases q <;> cases r <;> exact ⟨_, rfl, rfl⟩
  exact hall ..

/-- One channel of the digital vote. -/
def channelVoted (x : CopySet) (g : Nat) (s : State) (k : Nat) : State :=
  applyVoted s (16 * g + k) (voteItem x [0, 1, 2] false fun m => (b2n (memBit m (16 * g + k)) : Int)).1
    (voteItem x [0, 1, 2] true fun m => (memGet m (0x110 + 2 * (16 * g + k)) 2 : Int)).1

/-- The median of the three duties of channel `c`. -/
def dutyMedian (x : CopySet) (c : Nat) : Int :=
  median3 (memGet (x.q.get 0) (0x110 + 2 * c) 2) (memGet (x.q.get 1) (0x110 + 2 * c) 2) (memGet (x.q.get 2) (0x110 + 2 * c) 2)

theorem dutyMedian_toNat (x : CopySet) (c : Nat) : ((dutyMedian x c).toNat : Int) = dutyMedian x c := by
  refine Int.toNat_of_nonneg ?_
  rw [dutyMedian, median3]
  omega

theorem channelVoted_votes (x : CopySet) (g : Nat) (s : State) (k : Nat) :
    VotedChannel (16 * g + k) (memBit (x.q.get 0) (16 * g + k) && memBit (x.q.get 1) (16 * g + k) ||
      memBit (x.q.get 0) (16 * g + k) && memBit (x.q.get 2) (16 * g + k) ||
      memBit (x.q.get 1) (16 * g + k) && memBit (x.q.get 2) (16 * g + k)) (dutyMedian x (16 * g + k)).toNat s
      (channelVoted x g s k) := by
  obtain ⟨v, hv, hb⟩ := voteItem_bit x (16 * g + k)
  rw [channelVoted, hv, ← hb]
  exact applyVoted_votes s _ v (dutyMedian x (16 * g + k))

/-- The vote of a digital die, what it found of the lanes apart. -/
theorem fieldVoteDg_eq (s : State) (hgood : goodCopies x bad = [0, 1, 2]) : ∃ f : DgGrp → DgGrp,
    (∀ y, (f y).safe = y.safe ∧ (f y).voted = true) ∧
    fieldVoteDg s g bad x = updDgg ((List.range 16).foldl (channelVoted x g) (putDgg s g { s.dgg g with
      safe := 0, rein := if (s.dgg g).rein = 2 then 0 else (s.dgg g).rein })) g f := by
  unfold fieldVoteDg
  rw [hgood]
  extract_lets +onlyGivenNames ks one y u r diff
  have hr : r.1 = (List.range 16).foldl (channelVoted x g) u := (List.foldl_hom Prod.fst fun _ _ => rfl).symm
  clear_value diff
  rw [hr]
  generalize r.2 = split
  exact ⟨fun y => { y with split := orBits y.split split, crcDiff := y.crcDiff || diff, voted := true },
    fun _ => ⟨rfl, rfl⟩, rfl⟩

theorem updDgg_spares (s : State) (g : Nat) (f : DgGrp → DgGrp) :
    Spares (traceObjs ++ [F.objAG_GSTAT]) fieldFlds s (updDgg s g f) := by
  have hput : Spares (traceObjs ++ [F.objAG_GSTAT]) fieldFlds s (putDgg s g (f (s.dgg g))) := .same rfl rfl
  exact hput.trans (dgSync_switched (c := 0) _ g).touched.frame

theorem updAgg_spares (s : State) (g : Nat) (f : AnGrp → AnGrp) :
    Spares (traceObjs ++ [F.objAG_GSTAT]) fieldFlds s (updAgg s g f) :=
  (updAgg_leaves s g f).sparesCore (updAgg_build s g f).1 rfl

theorem updDgg_copies (s : State) (g : Nat) (f : DgGrp → DgGrp) :
    (updDgg s g f).fld.copies = s.fld.copies ∧ (updDgg s g f).fld.cmds = s.fld.cmds ∧ (updDgg s g f).fld.dg = s.fld.dg := by
  rw [updDgg, dgSync_fld]
  exact ⟨rfl, rfl, rfl⟩

/-- What the vote of a digital die leaves. -/
structure DigitalVoted (x : CopySet) (g : Nat) (s t : State) : Prop where
  copies : t.fld.copies = s.fld.copies
  bits : ∀ k, k < 16 → (t.dch (16 * g + k)).bit = (memBit (x.q.get 0) (16 * g + k) && memBit (x.q.get 1) (16 * g + k) ||
    memBit (x.q.get 0) (16 * g + k) && memBit (x.q.get 2) (16 * g + k) ||
    memBit (x.q.get 1) (16 * g + k) && memBit (x.q.get 2) (16 * g + k))
  duty : ∀ k, k < 16 → s.inconsistent F.objDG_CH (16 * g + k) = false →
    ((t.dch (16 * g + k)).duty : Int) = dutyMedian x (16 * g + k)
  group : (t.dgg g).safe = 0 ∧ (t.dgg g).voted = true
  frame : Spares (traceObjs ++ [F.objAG_GSTAT]) fieldFlds s t

theorem fieldVoteDg_votes (s : State) (hgood : goodCopies x bad = [0, 1, 2]) : DigitalVoted x g s (fieldVoteDg s g bad x) := by
  obtain ⟨f, hf, heq⟩ := fieldVoteDg_eq (g := g) s hgood
  rw [heq]
  have hput : Spares (traceObjs ++ [F.objAG_GSTAT]) fieldFlds s (putDgg s g { s.dgg g with
      safe := 0, rein := if (s.dgg g).rein = 2 then 0 else (s.dgg g).rein }) := .same rfl rfl
  have hsto : StoreStands s (putDgg s g { s.dgg g with
      safe := 0, rein := if (s.dgg g).rein = 2 then 0 else (s.dgg g).rein }) := .of_sto rfl
  have hcopies : (putDgg s g { s.dgg g with
      safe := 0, rein := if (s.dgg g).rein = 2 then 0 else (s.dgg g).rein }).fld.copies = s.fld.copies := rfl
  have hsafe : ((putDgg s g { s.dgg g with
      safe := 0, rein := if (s.dgg g).rein = 2 then 0 else (s.dgg g).rein }).dgg g).safe = 0 := by
    rw [dgg_putDgg, if_pos rfl]
  generalize putDgg s g _ = v at hput hsto hcopies hsafe
  obtain ⟨hg, -, hk⟩ := touched_foldl (g := g) (fun s k => (channelVoted_votes x g s k).touched) List.nodup_range (ks := List.range 16) v
  generalize (List.range 16).foldl (channelVoted x g) v = w at hg hk
  refine ⟨?_, fun k hk16 => ?_, fun k hk16 hin => ?_, ?_, hput.trans (hg.frame.trans (updDgg_spares ..))⟩
  · rw [(updDgg_copies w g f).1, hg.copies, hcopies]
  · obtain ⟨u, -, hu⟩ := hk k (List.mem_range.mpr hk16)
    rw [dch_updDgg, hu, (channelVoted_votes x g u k).bit]
  · obtain ⟨u, hgu, hu⟩ := hk k (List.mem_range.mpr hk16)
    rw [dch_updDgg, hu, (channelVoted_votes x g u k).duty, dutyMedian_toNat]
    rw [inconsistent_congr (hsto.trans hgu.store), hin]
  · rw [dgg_updDgg, if_pos rfl]
    exact ⟨(hf _).1.trans ((hg.safe g).trans hsafe), (hf _).2⟩

/-! ### The analogue vote -/

/-- Every setpoint and every group stands. -/
structure OutsApplied (s t : State) : Prop where
  sp : ∀ c, (t.ach c).sp = (s.ach c).sp
  grp : ∀ g, t.agg g = s.agg g

theorem applyOuts_keeps (s : State) (g : Nat) : OutsApplied s (applyOuts s g) := by
  have hone : ∀ (u : State) (c : Nat), OutsApplied u (applyOut u c) := by
    intro u c
    unfold applyOut
    have hput : ∀ y : AnCh, y.sp = (u.ach c).sp → OutsApplied u (putAch u c y) := fun y hy =>
      ⟨fun j => by
        rw [ach_putAch]
        split
        case isTrue h => rw [h, hy]
        case isFalse => rfl, fun _ => rfl⟩
    extract_lets y v w k
    split
    · exact hput _ rfl
    · exact hput _ rfl
  unfold applyOuts
  have hfold : ∀ (l : List Nat) (u : State), OutsApplied u (l.foldl (fun s k => applyOut s (16 * g + k)) u) := by
    intro l
    induction l with
    | nil => exact fun u => ⟨fun _ => rfl, fun _ => rfl⟩
    | cons k l ih => exact fun u => ⟨fun c => ((ih _).sp c).trans ((hone u _).sp c), fun j => ((ih _).grp j).trans ((hone u _).grp j)⟩
  exact hfold _ s

/-- The median of the three setpoints of channel `c`. -/
def setpointMedian (x : CopySet) (c : Nat) : Int :=
  median3 (sgn 32 (memGet (x.q.get 0) (0x10 + 4 * c) 4)) (sgn 32 (memGet (x.q.get 1) (0x10 + 4 * c) 4))
    (sgn 32 (memGet (x.q.get 2) (0x10 + 4 * c) 4))

/-- One channel of the analogue vote. -/
def setpointVoted (x : CopySet) (g : Nat) (s : State) (k : Nat) : State :=
  putAch s (16 * g + k) { s.ach (16 * g + k) with sp := setpointMedian x (16 * g + k) }

/-- What the vote of the setpoints of some channels leaves. -/
structure SetpointsVoted (x : CopySet) (g : Nat) (ks : List Nat) (s t : State) : Prop where
  sp : ∀ k ∈ ks, (t.ach (16 * g + k)).sp = setpointMedian x (16 * g + k)
  other : ∀ c, (∀ k ∈ ks, c ≠ 16 * g + k) → t.ach c = s.ach c
  grp : ∀ j, t.agg j = s.agg j
  fld : t.fld = s.fld
  frame : Spares (traceObjs ++ [F.objAG_GSTAT]) fieldFlds s t

theorem setpointVoted_foldl (x : CopySet) (g : Nat) (ks : List Nat) (s : State) :
    SetpointsVoted x g ks s (ks.foldl (setpointVoted x g) s) := by
  induction ks using List.reverseRecOn with
  | nil => exact ⟨fun _ h => absurd h List.not_mem_nil, fun _ _ => rfl, fun _ => rfl, rfl, .refl⟩
  | append_singleton ks k ih =>
    rw [List.foldl_append, List.foldl_cons, List.foldl_nil]
    generalize ks.foldl (setpointVoted x g) s = u at ih
    have hread : ∀ c, (setpointVoted x g u k).ach c = if c = 16 * g + k then
        { u.ach (16 * g + k) with sp := setpointMedian x (16 * g + k) } else u.ach c := fun c => ach_putAch ..
    refine ⟨fun j hj => ?_, fun c hc => ?_, ih.grp, ih.fld, ih.frame.trans (.same rfl rfl)⟩
    · rw [hread]
      by_cases hjk : j = k
      · rw [hjk, if_pos rfl]
      · rw [if_neg (by omega)]
        exact ih.sp j ((List.mem_append.mp hj).resolve_right (by simpa using hjk))
    · rw [hread, if_neg (hc k (by simp))]
      exact ih.other c fun j hj => hc j (by simp [hj])

theorem fieldVoteAg_eq (s : State) (hgood : goodCopies x bad = [0, 1, 2]) : ∃ f : AnGrp → AnGrp,
    (∀ y, (f y).safe = y.safe ∧ (f y).voted = true) ∧
    fieldVoteAg s g bad x =
      let t := updAgg ((List.range 16).foldl (setpointVoted x g) (updAgg s g fun y => { y with
        safe := 0, rein := if y.rein = 2 then 0 else y.rein })) g f
      if (t.agg g).rein = 1 then t else applyOuts t g := by
  unfold fieldVoteAg
  rw [hgood]
  extract_lets +onlyGivenNames ks one u r diff v
  have hr : r.1 = (List.range 16).foldl (setpointVoted x g) u := (List.foldl_hom Prod.fst fun _ _ => rfl).symm
  clear_value diff
  unfold v
  rw [hr]
  generalize r.2 = split
  exact ⟨fun y => { y with split := y.split ||| split, crcDiff := y.crcDiff || diff, voted := true },
    fun _ => ⟨rfl, rfl⟩, rfl⟩

/-- What the vote of an analogue die leaves. -/
structure AnalogueVoted (x : CopySet) (g : Nat) (s t : State) : Prop where
  fld : t.fld = s.fld
  sp : ∀ k, k < 16 → (t.ach (16 * g + k)).sp = setpointMedian x (16 * g + k)
  group : (t.agg g).safe = 0 ∧ (t.agg g).voted = true
  frame : Spares (traceObjs ++ [F.objAG_GSTAT]) fieldFlds s t

theorem fieldVoteAg_votes (s : State) (hgood : goodCopies x bad = [0, 1, 2]) : AnalogueVoted x g s (fieldVoteAg s g bad x) := by
  obtain ⟨f, hf, heq⟩ := fieldVoteAg_eq (g := g) s hgood
  rw [heq]
  have hbegin := updAgg_spares s g fun y => { y with safe := 0, rein := if y.rein = 2 then 0 else y.rein }
  have hsafe : ((updAgg s g fun y => { y with safe := 0, rein := if y.rein = 2 then 0 else y.rein }).agg g).safe = 0 := by
    rw [agg_updAgg, if_pos rfl]
  have hfld : (updAgg s g fun y => { y with safe := 0, rein := if y.rein = 2 then 0 else y.rein }).fld = s.fld :=
    (updAgg_leaves ..).1 .fld (by decide)
  generalize updAgg s g _ = v at hbegin hsafe hfld
  have hv := setpointVoted_foldl x g (List.range 16) v
  generalize (List.range 16).foldl (setpointVoted x g) v = w at hv
  have hdone : AnalogueVoted x g s (updAgg w g f) := by
    refine ⟨?_, fun k hk => ?_, ?_, hbegin.trans (hv.frame.trans (updAgg_spares ..))⟩
    · rw [(updAgg_leaves w g f).1 .fld (by decide), hv.fld, hfld]
    · rw [ach_updAgg]
      exact hv.sp k (List.mem_range.mpr hk)
    · rw [agg_updAgg, if_pos rfl, (hf _).1, hv.grp]
      exact ⟨hsafe, (hf _).2⟩
  generalize updAgg w g f = t at hdone
  dsimp only
  split
  · exact hdone
  · have hout := applyOuts_keeps t g
    have hl := applyOuts_leaves t g
    refine ⟨(hl.1 .fld (by decide)).trans hdone.fld, fun k hk => (hout.sp _).trans (hdone.sp k hk), ?_,
      hdone.frame.trans (hl.spares (by rfl) (by rfl))⟩
    rw [hout.grp]
    exact hdone.group

end

/-! ### Safe values of a group -/

/-- What a safe-value command leaves of a digital group. -/
structure SafeTaken (g kind : Nat) (s t : State) : Prop where
  cmds : t.fld.cmds = s.fld.cmds
  safe : (t.dgg g).safe = kind
  off : ∀ i, i < 16 → s.dmode (16 * g + i) = 3 →
    (if kind = 2 then s.rd F.DG_CH_FAULT_SAFE (16 * g + i) else s.rd F.DG_CH_STOP_SAFE (16 * g + i)) = 0 →
    (t.dch (16 * g + i)).drv = false
  frame : Spares (traceObjs ++ [F.objAG_GSTAT]) fieldFlds s t

theorem safeDg_takes {s : State} {g : Nat} (kind : Nat) (hrein : (s.dgg g).rein ≠ 1) : SafeTaken g kind s (safeDg s g kind) := by
  unfold safeDg
  extract_lets y u
  have hu : Spares (traceObjs ++ [F.objAG_GSTAT]) fieldFlds s u := updDgg_spares ..
  have hcmds : u.fld.cmds = s.fld.cmds := (updDgg_copies ..).2.1
  have hsafe : (u.dgg g).safe = kind := by rw [dgg_updDgg, if_pos rfl]
  clear_value u
  rw [if_neg hrein]
  obtain ⟨hg, -, hk⟩ := touched_foldl (g := g) (fun s k => driveSafe_touched s (16 * g + k) kind) List.nodup_range
    (ks := List.range 16) u
  refine ⟨hg.cmds.trans hcmds, (hg.safe g).trans hsafe, fun i hi hm hcode => ?_, hu.trans hg.frame⟩
  obtain ⟨v, huv, hv⟩ := hk i (List.mem_range.mpr hi)
  have hrd : ∀ f, fieldOutside (traceObjs ++ [F.objAG_GSTAT]) fieldFlds f = true → v.rd f (16 * g + i) = s.rd f (16 * g + i) :=
    fun f hf => (hu.trans huv.frame).2 f _ hf
  rw [hv]
  refine driveSafe_off ?_ ?_
  · rw [State.dmode, hrd _ rfl]
    exact hm
  · rw [hrd _ rfl, hrd _ rfl]
    exact hcode

theorem safeAg_takes (s : State) (g kind : Nat) : ((safeAg s g kind).agg g).safe = kind ∧ (safeAg s g kind).fld = s.fld ∧
    Spares (traceObjs ++ [F.objAG_GSTAT]) fieldFlds s (safeAg s g kind) := by
  unfold safeAg
  extract_lets y u
  have hu : (u.agg g).safe = kind ∧ u.fld = s.fld ∧ Spares (traceObjs ++ [F.objAG_GSTAT]) fieldFlds s u :=
    ⟨by rw [agg_updAgg, if_pos rfl], (updAgg_leaves ..).1 .fld (by decide), updAgg_spares ..⟩
  clear_value u
  split
  · exact hu
  · obtain ⟨hsafe, hfld, hframe⟩ := hu
    have hl := applyOuts_leaves u g
    exact ⟨by rw [(applyOuts_keeps u g).grp, hsafe], (hl.1 .fld (by decide)).trans hfld,
      hframe.trans (hl.spares (by rfl) (by rfl))⟩

/-! ### The commands of a die -/

/-- The copies of group `g` have left the link. -/
def copiesTaken (s : State) (g : Nat) : State :=
  { s with fld := { s.fld with copies := s.fld.copies.filter fun p => decide (p.1 ≠ g) } }

/-- The next command of group `g` has left the link. -/
def cmdTaken (s : State) (g : Nat) : State := { s with fld := { s.fld with cmds := dropCmd g s.fld.cmds } }

section
variable {g bad k : Nat} {a : State} {x : CopySet}

theorem fieldVote_dg (hg : g < 8) (hfind : a.fld.copies.find? (fun p => decide (p.1 = g)) = some (g, x))
    (hload : a.dgLoaded g = true) : fieldVote g bad a = fieldVoteDg (copiesTaken a g) g bad x := by
  unfold fieldVote
  rw [hfind]
  exact (if_pos hg).trans (if_pos hload)

theorem fieldVote_ag (hg : 8 ≤ g) (hfind : a.fld.copies.find? (fun p => decide (p.1 = g)) = some (g, x))
    (hload : a.agLoaded (g - 8) = true) : fieldVote g bad a = fieldVoteAg (copiesTaken a g) (g - 8) bad x := by
  unfold fieldVote
  rw [hfind]
  exact (if_neg (Nat.not_lt.mpr hg)).trans (if_pos hload)

theorem safeValueCommand_dg (hg : g < 8) (hk : a.nextCmd g = some k) (h3 : k = 1 ∨ k = 2) (hload : a.dgLoaded g = true) :
    safeValueCommand g a = safeDg (cmdTaken a g) g k := by
  unfold safeValueCommand
  rw [hk]
  exact (if_neg (by omega)).trans ((if_pos hg).trans (if_pos hload))

theorem safeValueCommand_ag (hg : 8 ≤ g) (hk : a.nextCmd g = some k) (h3 : k = 1 ∨ k = 2)
    (hload : a.agLoaded (g - 8) = true) : safeValueCommand g a = safeAg (cmdTaken a g) (g - 8) k := by
  unfold safeValueCommand
  rw [hk]
  exact (if_neg (by omega)).trans ((if_neg (Nat.not_lt.mpr hg)).trans (if_pos hload))

theorem pairHoldCommand_eq (hk : a.nextCmd g = some 3) : pairHoldCommand g a =
    if g < 8 then holdDg (cmdTaken a g) g else updAgg (cmdTaken a g) (g - 8) fun x => { x with safe := 3 } := if_pos hk

end

/-- Settles O41: each channel's vote, safe value and hold are read off the fold over the group's channels. -/
theorem fieldCommands : Obligations.FieldCommands := by
  unfold Obligations.FieldCommands
  refine ⟨?digital, ?analogue, ?safeDigital, ?safeAnalogue, ?hold⟩
  case digital =>
    intro dt s g bad x a hg hfind hgood hload
    have hv := fieldVoteDg_votes (g := g) (copiesTaken a g) hgood
    rw [← fieldVote_dg hg hfind hload] at hv
    have hframe : Spares (traceObjs ++ [F.objAG_GSTAT]) fieldFlds a (fieldVote g bad a) := hv.frame
    exact ⟨_, rfl, hv.copies, hv.bits, hv.duty, hv.group, (hframe.moves (fieldVote_leaves ..) rfl).one rfl rfl rfl⟩
  case analogue =>
    intro dt s g bad x a hg hfind hgood hload
    have hv := fieldVoteAg_votes (g := g - 8) (copiesTaken a g) hgood
    rw [← fieldVote_ag hg hfind hload] at hv
    have hframe : Spares (traceObjs ++ [F.objAG_GSTAT]) fieldFlds a (fieldVote g bad a) := hv.frame
    exact ⟨_, rfl, congrArg FieldSt.copies hv.fld, hv.sp, hv.group, (hframe.moves (fieldVote_leaves ..) rfl).one rfl rfl rfl⟩
  case safeDigital =>
    intro dt s g k a hg hk h3 hload hrein
    have hv := safeDg_takes (s := cmdTaken a g) k hrein
    rw [← safeValueCommand_dg hg hk h3 hload] at hv
    have hframe : Spares (traceObjs ++ [F.objAG_GSTAT]) fieldFlds a (safeValueCommand g a) := hv.frame
    exact ⟨_, rfl, hv.cmds, hv.safe, hv.off,
      hframe.movesWithin ((safeValueCommand_leaves ..).mono (by decide) fun _ h => h) rfl rfl rfl⟩
  case safeAnalogue =>
    intro dt s g k a hg hk h3 hload
    obtain ⟨hsafe, hfld, hframe⟩ := safeAg_takes (cmdTaken a g) (g - 8) k
    rw [← safeValueCommand_ag hg hk h3 hload] at hsafe hfld hframe
    have hframe : Spares (traceObjs ++ [F.objAG_GSTAT]) fieldFlds a (safeValueCommand g a) := hframe
    exact ⟨_, rfl, congrArg FieldSt.cmds hfld, hsafe,
      hframe.movesWithin ((safeValueCommand_leaves ..).mono (by decide) fun _ h => h) rfl rfl rfl⟩
  case hold =>
    intro dt s g a hk
    have heq := pairHoldCommand_eq hk
    have hframe : Spares (traceObjs ++ [F.objAG_GSTAT]) fieldFlds a (pairHoldCommand g a) := by
      rw [heq]
      have hcmd : Spares (traceObjs ++ [F.objAG_GSTAT]) fieldFlds a (cmdTaken a g) := .same rfl rfl
      exact hcmd.trans (.ite (updDgg_spares ..) (updAgg_spares ..))
    have hall : (pairHoldCommand g a).fld.cmds = dropCmd g a.fld.cmds ∧
        ((pairHoldCommand g a).fld.dg = a.fld.dg ∧ (pairHoldCommand g a).ana.ch = a.ana.ch) ∧
        (if g < 8 then ((pairHoldCommand g a).dgg g).safe = 3 else ((pairHoldCommand g a).agg (g - 8)).safe = 3) := by
      rw [heq]
      by_cases hg : g < 8
      · have hu := updDgg_copies (cmdTaken a g) g fun y => { y with safe := 3 }
        have hana : (holdDg (cmdTaken a g) g).ana = a.ana := (holdDg_leaves ..).1 .ana (by decide)
        simp only [if_pos hg]
        refine ⟨hu.2.1, ⟨hu.2.2, congrArg AnaSt.ch hana⟩, ?_⟩
        rw [holdDg, dgg_updDgg, if_pos rfl]
      · have hfld := (updAgg_leaves (cmdTaken a g) (g - 8) fun x => { x with safe := 3 }).1 .fld (by decide)
        simp only [if_neg hg]
        refine ⟨congrArg FieldSt.cmds hfld, ⟨(congrArg FieldSt.dg hfld :), ?_⟩, ?_⟩
        · rw [updAgg, agSync_ana]
          rfl
        · rw [agg_updAgg, if_pos rfl]
    obtain ⟨hcmds, hch, hsafe⟩ := hall
    exact ⟨_, rfl, hcmds, hch, hsafe, hframe.movesWithin ((pairHoldCommand_leaves ..).mono (by decide) fun _ h => h) rfl rfl rfl⟩

end Sys2Proof.Machine
end

section
/-!
The pair's state (PLT-15, R279 to R284): what PLT.PAIR.STATE follows, and what hearing the partner, claiming and yielding
leave.
-/

namespace Sys2Proof.Machine

/-! ### What PSTATE and ELIGIBLE are judged on (R281) -/

/-- The registers, beside the mirror set and ROLE, that R281 judges. -/
def basisFlds : List Fld :=
  [F.PLT_PAIR_EN, F.PLT_PAIR_SIDE, F.PLT_PAIR_PREFERRED, F.PLT_LANE_VOTING, F.PLT_LANE_VOTER_FAULT, F.PRG_ACT_LAGGED,
    F.SCN_MODE_MODE]

/-- A frame outside which all of it lies. -/
def basisOutside (ps : List Part) (os : List Nat) (ws : List Fld) : Bool :=
  [Part.prg, .fld, .ana].all (!ps.contains ·) && !(os ++ ws.map (·.obj)).contains F.objPLT_MIRROR &&
    basisFlds.all (fieldOutside os ws ·)

/-- What R281 judges, the pair's own state apart, stands. -/
structure PairBasis (s t : State) : Prop where
  prg : t.prg = s.prg
  fld : t.fld = s.fld
  ana : t.ana = s.ana
  mirror : objBytes t objPLT_MIRROR 0 = objBytes s objPLT_MIRROR 0
  regs : ∀ f ∈ basisFlds, t.rd f = s.rd f

section
variable {ps : List Part} {os : List Nat} {ws : List Fld} {s t : State}

/-- A field of an object outside the frame reads as before. -/
theorem Leaves.rd (h : Leaves ps os s t) (f : Fld) (i : Nat) (hf : f.obj ∉ os) : t.rd f i = s.rd f i := h.2 f i 0 hf

theorem objBytes_kept (h : Leaves ps os s t) {d : ObjDef} (hd : ∀ r ∈ d.fields, r.fld.obj ∉ os)
    (i : Nat) : objBytes t d i = objBytes s d i := by
  have hentry : ∀ k, (d.fields.map fun r => if kept r then t.rdE r.fld i (k * d.stride) * 2 ^ (r.fld.lo + k * d.stride) else 0) =
      d.fields.map fun r => if kept r then s.rdE r.fld i (k * d.stride) * 2 ^ (r.fld.lo + k * d.stride) else 0 := by
    intro k
    refine List.map_congr_left fun r hr => ?_
    rw [h.2 r.fld i _ (hd r hr)]
  simp only [objBytes, hentry]

theorem Moves.basis (h : Moves ps os ws s t) (hb : basisOutside ps os ws = true) : PairBasis s t := by
  simp only [basisOutside, List.all_cons, List.all_nil, Bool.and_eq_true, Bool.not_eq_true', List.contains_eq_mem,
    decide_eq_false_iff_not, List.all_eq_true] at hb
  obtain ⟨⟨⟨hprg, hfld, hana, -⟩, hmirror⟩, hregs⟩ := hb
  refine ⟨h.1.1 .prg hprg, h.1.1 .fld hfld, h.1.1 .ana hana, objBytes_kept h.1 (fun r hr => ?_) 0,
    fun f hf => h.rd f 0 (hregs f hf)⟩
  have hobj : r.fld.obj = F.objPLT_MIRROR := by revert r; decide
  exact hobj ▸ hmirror

theorem PairBasis.agrees (h : PairBasis s t) (b : Nat × Nat × Nat) : t.agrees b = s.agrees b := by
  have hbank : t.activeBank = s.activeBank := by simp only [State.activeBank, State.bank?, h.prg]
  rw [State.agrees, State.agrees, State.mirDig, State.mirDig, h.mirror, State.activeBuild, State.activeBuild, hbank,
    h.regs F.PLT_PAIR_SIDE (by decide), State.is, State.is, h.regs F.PLT_PAIR_PREFERRED (by decide)]

theorem PairBasis.paired (h : PairBasis s t) : t.paired = s.paired := by
  rw [State.paired, State.paired, State.is, State.is, h.regs F.PLT_PAIR_EN (by decide)]

theorem PairBasis.mode (h : PairBasis s t) : t.mode = s.mode := h.regs F.SCN_MODE_MODE (by decide)

theorem PairBasis.pstate (h : PairBasis s t) (hquiet : t.pair.quiet = s.pair.quiet) (hhello : t.pair.hello = s.pair.hello) :
    t.pstate = s.pstate := by
  have hsilent : t.silent = s.silent := by rw [State.silent, State.silent, hquiet]
  rw [State.pstate, State.pstate, h.paired, hsilent, hhello]
  simp only [h.agrees]

theorem PairBasis.eligible (h : PairBasis s t) (hcore : t.ring.core = s.ring.core) (hquiet : t.pair.quiet = s.pair.quiet)
    (hhello : t.pair.hello = s.pair.hello) (happlied : t.pair.applied = s.pair.applied) (hrole : t.role = s.role) :
    t.eligible = s.eligible := by
  have hvoting : t.voting = s.voting := by rw [State.voting, State.voting, h.regs F.PLT_LANE_VOTING (by decide)]
  have hfresh : t.mirrorFresh = s.mirrorFresh := by
    rw [State.mirrorFresh, State.mirrorFresh, happlied, show t.ring.cinch = s.ring.cinch from (congrArg RingSt.cinch hcore :)]
  have hgroups : t.groupsGood = s.groupsGood := by
    simp only [State.groupsGood, dgg_congr h.fld, agg_congr h.ana]
  rw [State.eligible, State.eligible, h.pstate hquiet hhello, hrole, h.mode, hvoting, hfresh, hgroups,
    State.is, State.is, State.is, State.is, h.regs F.PRG_ACT_LAGGED (by decide), h.regs F.PLT_LANE_VOTER_FAULT (by decide)]

theorem pstate_le (s : State) : s.pstate ≤ 4 := by
  unfold State.pstate
  split
  · exact Nat.zero_le _
  · split
    · exact Nat.le_refl _
    · split
      · exact (by decide)
      · split <;> decide

end

/-! ### PLT.PAIR.STATE follows -/

def refreshFlds : List Fld := [F.PLT_PSTATE_ELIGIBLE, F.PLT_PSTATE_LEASED, F.PLT_PSTATE_PSTATE]

section
variable (s : State)

/-- Since when the module has been ELIGIBLE. -/
def State.eligSince : Option Nat := if s.eligible then some (s.pair.eligFrom.getD s.time.xt) else none

theorem refreshPair_pair : (refreshPair s).pair = { s.pair with eligFrom := s.eligSince } := by
  have hsince : s.eligSince = if s.eligible then (match s.pair.eligFrom with
      | some t => some t
      | none => some s.time.xt) else none := by
    rw [State.eligSince]
    cases s.pair.eligFrom <;> rfl
  rw [hsince]
  rfl

theorem refreshPair_moves : Moves [.pair] [] refreshFlds s (refreshPair s) := by
  unfold refreshPair
  extract_lets e u
  have hu : Moves [.pair] [] refreshFlds s u :=
    (State.wr_moves ..).step ((State.wr_moves ..).step ((State.wr_moves ..).one rfl rfl rfl) rfl rfl rfl) rfl rfl rfl
  exact (updPair_leaves ..).moves.step hu rfl rfl rfl

theorem rd_refreshPair_pstate : (refreshPair s).rd F.PLT_PSTATE_PSTATE = s.pstate := by
  refine (State.rd_wr_ne _ _ _ _ _ _ (by decide)).trans ((State.rd_wr_ne _ _ _ _ _ _ (by decide)).trans ?_)
  exact (State.rd_wr_same ..).trans (Nat.mod_eq_of_lt (Nat.lt_of_le_of_lt (pstate_le s) (by decide)))

theorem rd_refreshPair_eligible : (refreshPair s).rd F.PLT_PSTATE_ELIGIBLE = b2n s.eligible :=
  (State.rd_wr_ne _ _ _ _ _ _ (by decide)).trans ((State.rd_wr_same ..).trans (b2n_mod _ (by decide)))

theorem rd_refreshPair_leased : (refreshPair s).rd F.PLT_PSTATE_LEASED = b2n s.pair.lease.isSome :=
  (State.rd_wr_same ..).trans (b2n_mod _ (by decide))

theorem refreshPair_role : (refreshPair s).role = s.role := (refreshPair_moves s).rd _ _ (by rfl)

end

end Sys2Proof.Machine
end

section
/-!
What the partner's last beat said stands through what a module does of its own: tasks, FAULT, claims and yields.
-/

namespace Sys2Proof.Machine

/-- The station cycles of silence and the last beat stand. -/
structure BeatStands (s t : State) : Prop where
  quiet : t.pair.quiet = s.pair.quiet
  beat : t.pair.beat = s.pair.beat

section
variable {ps : List Part} {os : List Nat} {s t u a b : State}

theorem BeatStands.refl : BeatStands s s := ⟨rfl, rfl⟩

theorem BeatStands.trans (h : BeatStands s t) (h' : BeatStands t u) : BeatStands s u :=
  ⟨h'.quiet.trans h.quiet, h'.beat.trans h.beat⟩

theorem BeatStands.ite {d : Prop} [Decidable d] (h : BeatStands s a) (h' : BeatStands s b) :
    BeatStands s (if d then a else b) := by
  split
  · exact h
  · exact h'

theorem BeatStands.foldl {α : Type} {g : State → α → State} (h : ∀ s x, BeatStands s (g s x)) (l : List α) (s : State) :
    BeatStands s (l.foldl g s) := by
  induction l generalizing s with
  | nil => exact .refl
  | cons x l ih => exact (h s x).trans (ih _)

/-- A step that leaves the pair's part. -/
theorem Leaves.beat (h : Leaves ps os s t) (hp : ps.contains .pair = false) : BeatStands s t := by
  have hpair : t.pair = s.pair := h.1 .pair (by simpa using hp)
  exact ⟨by rw [hpair], by rw [hpair]⟩

end

/-! ### Modes and tasks -/

section
variable (s : State)

theorem setYield_beat : BeatStands s (setYield s) := .ite ⟨rfl, rfl⟩ .refl

theorem roleOff_beat : BeatStands s (roleOff s) := .ite .refl ⟨rfl, rfl⟩

theorem safeCommand_beat (kind : Nat) : BeatStands s (safeCommand s kind) := by
  have hhold : BeatStands (setYield s) (updPair (setYield s) fun x => { x with hold := some kind }) := ⟨rfl, rfl⟩
  exact .ite ((setYield_beat s).trans (hhold.trans ((sendCommand_leaves ..).beat rfl)))
    (((sendCommand_leaves ..).beat rfl).trans ((disarmOutputs_leaves ..).beat rfl))

theorem setMode_beat (new cause restart : Nat) : BeatStands s (setMode s new cause restart) := by
  unfold setMode
  extract_lets +onlyGivenNames old a b c d e _ _ f
  have ha : BeatStands s a := .ite ((stopRunTicks_leaves ..).beat rfl) .refl
  have hb : BeatStands a b := ⟨rfl, rfl⟩
  have hc : BeatStands b c := .ite ((startRunTicks_leaves ..).beat rfl) .refl
  have hd : BeatStands c d := .ite .refl (roleOff_beat c)
  have hf : BeatStands d f := ((log_leaves ..).beat rfl).trans ⟨rfl, rfl⟩
  exact ha.trans <| hb.trans <| hc.trans <| hd.trans <| hf.trans <|
    ((setLatch_leaves ..).beat rfl).trans ((hostSync_leaves ..).beat rfl)

theorem enterFault_beat (cause : Nat) : BeatStands s (enterFault s cause) := by
  unfold enterFault
  refine .ite .refl ?_
  extract_lets +onlyGivenNames a b _ c _ _ d e f
  have ha : BeatStands s a := by
    unfold a
    split
    · exact ((finMode_leaves ..).beat rfl).trans ((clearPend_leaves ..).beat rfl)
    · exact .refl
  have hc : BeatStands a c := ((discardTasks_leaves a).beat rfl).trans <|
    ((Leaves.set_scn b _).beat rfl).trans ((closeOpen_leaves ..).beat rfl)
  have hd : BeatStands c d := ⟨rfl, rfl⟩
  have hf : BeatStands d f := (safeCommand_beat ..).trans <|
    ((State.wr_leaves e _ _ _).beat rfl).trans (setMode_beat ..)
  exact ha.trans <| hc.trans <| hd.trans <| hf.trans ((endPending_leaves ..).beat rfl)

theorem abandonIdle_beat : BeatStands s (abandonIdle s) := by
  have hmiss : BeatStands s (copyMissed s) := (copyMissed_moves s).1.beat rfl
  exact hmiss.trans (.ite ⟨rfl, rfl⟩ .refl)

theorem countSkip_beat (task : Nat) : BeatStands s (countSkip s task) := by
  unfold countSkip
  extract_lets u m
  have hu : BeatStands s u := ⟨rfl, rfl⟩
  exact hu.trans (.ite (enterFault_beat ..) .refl)

theorem releaseTask_beat (task src : Nat) (snap : Option Nat) : BeatStands s (releaseTask s task src snap) := by
  unfold releaseTask
  refine .ite .refl (.ite ((abandonIdle_beat s).trans (countSkip_beat ..)) ?_)
  extract_lets +onlyGivenNames u x
  exact (abandonIdle_beat s).trans (.ite ⟨rfl, rfl⟩ (((Leaves.set_scn u _).beat rfl).trans
    ((dispatch_leaves ..).beat rfl)))

theorem takeTask_beat (n : Nat) : BeatStands s (takeTask s n) := by
  have hdiscard : ∀ u, BeatStands u ((putSrc u n 0).inc F.INT_STAT_DISCARD) := fun u =>
    ((putSrc_leaves ..).beat rfl).trans ((State.inc_leaves ..).beat rfl)
  unfold takeTask
  refine .ite .refl (.ite (hdiscard s) (.ite .refl ?_))
  extract_lets +onlyGivenNames t u v _ w
  have hw : BeatStands u w := ((putSrc_leaves u n 2).beat rfl).trans ((Leaves.set_int v _).beat rfl)
  exact ((clearFlag_leaves s n).beat rfl).trans <| .ite (hdiscard _) <|
    .ite (((putSrc_leaves ..).beat rfl).trans (countSkip_beat ..)) <| hw.trans (releaseTask_beat ..)

theorem completeTask_beat (task : Nat) : BeatStands s (completeTask s task) := by
  unfold completeTask
  extract_lets +onlyGivenNames l _ u
  have hu : BeatStands s u := ⟨rfl, rfl⟩
  exact hu.trans (.foldl (fun _ _ => .ite (((putSrc_leaves ..).beat rfl).trans (takeTask_beat ..))
    ((putSrc_leaves ..).beat rfl)) _ _)

theorem releaseDeferred_beat : BeatStands s (releaseDeferred s) := by
  unfold releaseDeferred
  extract_lets +onlyGivenNames l _ u
  have hu : BeatStands s u := ⟨rfl, rfl⟩
  refine hu.trans (.foldl (fun v x => .ite (((State.incTo_leaves ..).beat rfl).trans (completeTask_beat ..)) ?_) _ _)
  extract_lets +onlyGivenNames c y
  exact ((Leaves.set_scn v _).beat rfl).trans ((dispatch_leaves ..).beat rfl)

end

end Sys2Proof.Machine
end

section
/-!
The heartbeat and HELLO of a pair (O19: R279 to R281, PLT-6, PLT-10).
-/

namespace Sys2Proof.Machine

/-! ### What a beat's event and roles can change -/

/-- What the events, claims and roles of a beat write (R257 to R260, R282 to R291); of PLT.PAIR.STATE not what the beat
itself says. -/
def beatObjs : List Nat :=
  traceObjs ++ [F.objAG_GSTAT, F.objPRG_ACT, F.objPRG_BANKA, F.objPRG_BANKB, F.objSCN_MODE, F.objSCN_RETAIN]
def beatFlds : List Fld :=
  [F.ANG_EV_STATE, F.DG_CHSTAT_CLAMP, F.DG_CHSTAT_PRESENT, F.DG_COS_COS, F.DG_GSTAT_BC_V, F.DG_GSTAT_RATE,
    F.DG_GSTAT_WORD, F.MBX_QUEUES_CQ_FREE, F.MBX_QUEUES_CR_FREE, F.MBX_USE_HANDLES_USED, F.MBX_USE_SESSIONS_OPEN,
    F.PLT_PSTATE_CONFLICTS, F.PLT_PSTATE_DRILL, F.PLT_PSTATE_ELIGIBLE, F.PLT_PSTATE_LEASED, F.PLT_PSTATE_MIR_MISS,
    F.PLT_PSTATE_PSTATE, F.PLT_PSTATE_ROLE, F.PLT_PSTATE_SWITCHES, F.PPR_WINSTAT_EVENT, F.SCN_TSTAT_RUNSKIP,
    F.SCN_TSTAT_SKIPS, F.SCN_T_ENTRY, F.SCN_T_PERIOD, F.SCN_T_PHASE, F.SCN_T_PRIO, F.SCN_T_SRC]

structure BeatFrame (s t : State) : Prop where
  regs : Spares beatObjs beatFlds s t
  stands : BeatStands s t

section
variable {ps : List Part} {os : List Nat} {s t u a b : State}

theorem BeatFrame.refl : BeatFrame s s := ⟨.refl, .refl⟩

theorem BeatFrame.trans (h : BeatFrame s t) (h' : BeatFrame t u) : BeatFrame s u :=
  ⟨h.regs.trans h'.regs, h.stands.trans h'.stands⟩

theorem BeatFrame.ite {d : Prop} [Decidable d] (h : BeatFrame s a) (h' : BeatFrame s b) :
    BeatFrame s (if d then a else b) := by
  split
  · exact h
  · exact h'

theorem BeatFrame.foldl {α : Type} {g : State → α → State} (h : ∀ s x, BeatFrame s (g s x)) (l : List α) (s : State) :
    BeatFrame s (l.foldl g s) := by
  induction l generalizing s with
  | nil => exact .refl
  | cons x l ih => exact (h s x).trans (ih _)

/-- A step that leaves the ring and the pair. -/
theorem Leaves.beatFrame (h : Leaves ps os s t) (hp : (ps.contains .ring || ps.contains .pair) = false)
    (ho : os.all (beatObjs.contains ·) = true) : BeatFrame s t := by
  rw [Bool.or_eq_false_iff] at hp
  exact ⟨h.spares hp.1 ho, h.beat hp.2⟩

/-- A change of the pair's hidden state. -/
theorem updPair_frame {f : PairSt → PairSt} (hq : ∀ p, (f p).quiet = p.quiet) (hb : ∀ p, (f p).beat = p.beat) :
    BeatFrame s (updPair s f) := ⟨.same rfl rfl, hq _, hb _⟩

theorem State.wr_frame (s : State) (f : Fld) (v i : Nat) (hw : fieldsWithin beatObjs beatFlds [f] = true) :
    BeatFrame s (s.wr f v i) := ⟨s.wr_spares f v i hw, rfl, rfl⟩

end

/-! ### Roles and claims -/

section
variable (s : State)

theorem setRole_frame (r : Nat) : BeatFrame s (setRole s r) := s.wr_frame _ _ _ rfl

theorem setYield_frame : BeatFrame s (setYield s) := .ite (updPair_frame (fun _ => rfl) fun _ => rfl) .refl

theorem claim_frame (t lead : Nat) : BeatFrame s (claim s t lead) := .ite .refl (updPair_frame (fun _ => rfl) fun _ => rfl)

theorem standbyOutputs_frame : BeatFrame s (standbyOutputs s) :=
  ⟨(standbyOutputs_latch s).narrow (standbyOutputs_leaves s) rfl rfl rfl, (standbyOutputs_leaves s).beat rfl⟩

theorem log_frame (e : Nat × Nat) (arg : List Nat) : BeatFrame s (log e arg s) :=
  ⟨(log_leaves ..).sparesCore (log_core ..) rfl, (log_leaves ..).beat rfl⟩

theorem pltCase_frame (i : Nat) (e : Nat × Nat) (lanes cls group value : Nat) :
    BeatFrame s (pltCase i e lanes cls group value s) :=
  ⟨(pltCase_latch ..).narrow (pltCase_leaves ..) rfl rfl rfl, (pltCase_leaves ..).beat rfl⟩

theorem loseClaim_frame : BeatFrame s (loseClaim s) := by
  unfold loseClaim
  extract_lets u v
  have hu : BeatFrame s u := updPair_frame (fun _ => rfl) fun _ => rfl
  have hv : BeatFrame u v := u.wr_frame _ _ _ rfl
  exact (hu.trans hv).trans (.ite ((setRole_frame ..).trans (standbyOutputs_frame ..)) .refl)

theorem conflict_frame : BeatFrame s (conflict s) := by
  unfold conflict
  extract_lets u
  have hu : BeatFrame s u := (State.wr_frame _ _ _ _ rfl).trans (pltCase_frame ..)
  exact hu.trans (.ite .refl (loseClaim_frame ..))

theorem judgePartner_frame : BeatFrame s (judgePartner s) := by
  unfold judgePartner
  extract_lets +onlyGivenNames a kept b c d e
  have ha : BeatFrame s a := .ite (conflict_frame s) .refl
  have hb : BeatFrame s b := .ite (ha.trans (.ite (setYield_frame ..) .refl)) .refl
  have hc : BeatFrame b c := .ite (updPair_frame (fun _ => rfl) fun _ => rfl) .refl
  have hd : BeatFrame c d := .ite ((setRole_frame ..).trans (standbyOutputs_frame ..)) .refl
  have he : BeatFrame d e := updPair_frame (fun _ => rfl) fun _ => rfl
  exact hb.trans <| hc.trans <| hd.trans (.ite (he.trans (claim_frame ..)) .refl)

theorem refreshPair_frame : BeatFrame s (refreshPair s) :=
  ⟨(refreshPair_moves s).spares (congrArg RingSt.core ((refreshPair_leaves s).1 .ring (by decide))) rfl rfl,
    by rw [refreshPair_pair], by rw [refreshPair_pair]⟩

/-! ### Swaps (R251, R259, R260) -/

theorem putAct_frame (x : Option Act) : BeatFrame s (putAct s x) := (putAct_leaves ..).beatFrame rfl rfl

theorem releaseDeferred_frame : BeatFrame s (releaseDeferred s) :=
  ⟨(releaseDeferred_latch s).narrow (releaseDeferred_leaves s) rfl rfl rfl, releaseDeferred_beat s⟩

theorem takeTables_frame (x : Bank) : BeatFrame s (takeTables s x) := by
  unfold takeTables
  extract_lets u v
  have hu : BeatFrame s u := .foldl (fun _ _ => (State.wr_frame _ _ _ _ rfl).trans <| (State.wr_frame _ _ _ _ rfl).trans <|
    (State.wr_frame _ _ _ _ rfl).trans <| (State.wr_frame _ _ _ _ rfl).trans (State.wr_frame _ _ _ _ rfl)) _ _
  have hv : BeatFrame u v := .foldl (fun _ _ => ((State.wrE_leaves ..).beatFrame rfl rfl).trans <|
    ((State.wrE_leaves ..).beatFrame rfl rfl).trans ((State.wrE_leaves ..).beatFrame rfl rfl)) _ _
  exact hu.trans (hv.trans ((persistReg_leaves v).beatFrame rfl rfl))

theorem activateBank_frame (k : Nat) : BeatFrame s (activateBank s k) := by
  unfold activateBank
  extract_lets +onlyGivenNames u v
  have hu : BeatFrame s u := by
    unfold u
    split
    · exact (setBankSt_leaves ..).beatFrame rfl rfl
    · exact .refl
  have hv : BeatFrame u v := ((setBankSt_leaves ..).beatFrame rfl rfl).trans (State.wr_frame _ _ _ _ rfl)
  exact hu.trans <| hv.trans <| ((Leaves.set_prg v _).beatFrame rfl rfl).trans (takeTables_frame ..)

theorem makeSwap_frame (x : Act) (cinch : Nat) : BeatFrame s (makeSwap s x cinch) := by
  unfold makeSwap
  split
  · exact .refl
  · extract_lets +onlyGivenNames old _ u v w
    have hv : BeatFrame s v := ((Leaves.set_scn s _).beatFrame rfl rfl).trans (activateBank_frame u _)
    clear_value v
    have hw : BeatFrame v w := (State.wr_frame _ _ _ _ rfl).trans (State.wr_frame _ _ _ _ rfl)
    exact hv.trans <| hw.trans <| (log_frame ..).trans <| (putAct_frame ..).trans (releaseDeferred_frame ..)

theorem pairSub_frame (ptype : Nat) (body : List Nat) : BeatFrame s (pairSub s ptype body) := ⟨⟨rfl, fun _ _ _ => rfl⟩, rfl, rfl⟩

theorem swapInRun_frame (x : Act) : BeatFrame s (swapInRun s x) := by
  unfold swapInRun
  extract_lets n u
  have hu : BeatFrame s u := makeSwap_frame ..
  clear_value u
  exact hu.trans (.ite .refl (.ite (pairSub_frame ..) (updPair_frame (fun _ => rfl) fun _ => rfl)))

theorem swapped_frame : BeatFrame s (swapped s) := by
  unfold swapped
  split
  · exact .refl
  · refine .ite .refl (.ite ((putAct_frame ..).trans (State.wr_frame _ _ _ _ rfl)) (.ite ?_ .refl))
    extract_lets +onlyGivenNames u _ v
    have hv : BeatFrame s v := (putAct_frame s _).trans ((Leaves.set_prg u _).beatFrame rfl rfl)
    exact hv.trans (.ite (swapInRun_frame ..) .refl)

theorem noswap_frame : BeatFrame s (noswap s) := by
  unfold noswap
  split
  · exact .refl
  · exact .ite ((putAct_frame ..).trans ((State.wr_frame _ _ _ _ rfl).trans (releaseDeferred_frame ..))) .refl

/-! ### Switch-over (R288) -/

theorem pairEvent_frame (e : Nat) : BeatFrame s (pairEvent s e) := updPair_frame (fun _ => rfl) fun _ => rfl

theorem releaseOutputs_frame : BeatFrame s (releaseDigital (releaseAnalogue s)) := standbyOutputs_frame s

theorem endPending_frame (status : Nat) : BeatFrame s (endPending s status) :=
  ⟨(endPending_latch ..).narrow (endPending_leaves ..) rfl rfl rfl, (endPending_leaves ..).beat rfl⟩

theorem finishDrill_frame (d : Drill) (returned : Bool) : BeatFrame s (finishDrill s d returned) := by
  unfold finishDrill
  extract_lets flags data u
  have hpair : BeatFrame s (updPair s fun x => { x with drill := none }) := updPair_frame (fun _ => rfl) fun _ => rfl
  have hu : BeatFrame s u := hpair.trans (State.wr_frame _ _ _ _ rfl)
  exact hu.trans ⟨(finNum_latch ..).narrow (finNum_leaves ..) rfl rfl rfl, (finNum_leaves ..).beat rfl⟩

theorem tookOver_frame : BeatFrame s (tookOver s) := by
  unfold tookOver
  refine .ite .refl ?_
  extract_lets +onlyGivenNames run a b c d
  have ha : BeatFrame s a := (releaseOutputs_frame s).trans (updPair_frame (fun _ => rfl) fun _ => rfl)
  clear_value a
  have hb : BeatFrame a b := .ite (setRole_frame ..) ((setRole_frame ..).trans
    ⟨(disarmOutputs_latch ..).narrow (disarmOutputs_leaves ..) rfl rfl rfl, (disarmOutputs_leaves ..).beat rfl⟩)
  clear_value b
  have hc : BeatFrame b c := (State.wr_frame _ _ _ _ rfl).trans (pltCase_frame ..)
  clear_value c
  have hd : BeatFrame c d := (pairEvent_frame ..).trans <| (endPending_frame ..).trans (refreshPair_frame ..)
  refine (ha.trans (hb.trans (hc.trans hd))).trans ?_
  clear_value d
  split
  · exact .refl
  · exact .ite (updPair_frame (fun _ => rfl) fun _ => rfl) (.ite (((State.useFree_leaves d).beatFrame rfl rfl).trans (finishDrill_frame ..)) .refl)

theorem openAnalogue_frame : BeatFrame s (openAnalogue s) :=
  ⟨(openAnalogue_commit s).regs.narrow (openAnalogue_leaves s) rfl rfl rfl, (openAnalogue_leaves s).beat rfl⟩

theorem released_frame : BeatFrame s (released s) := by
  have hpair : BeatFrame s (updPair s fun x => { x with cAt := none }) := updPair_frame (fun _ => rfl) fun _ => rfl
  exact .ite (hpair.trans (openAnalogue_frame _)) .refl

/-- What the event of a beat changes (R279). -/
theorem beatEvent_frame (b1 : Nat) : BeatFrame s (beatEvent s b1) := by
  unfold beatEvent
  extract_lets +onlyGivenNames e q u
  clear_value e
  refine .ite .refl ?_
  have hu : BeatFrame s u := updPair_frame (fun _ => rfl) fun _ => rfl
  split
  · exact hu.trans (swapped_frame u)
  · exact hu.trans (noswap_frame u)
  · exact hu.trans (tookOver_frame u)
  · exact hu.trans (released_frame u)
  · exact hu

end

/-! ### Beats and HELLO -/

section
variable (s : State)

/-- What byte 0 of a beat says of the partner is taken. -/
def beatTaken (b0 : Nat) : State :=
  updPair (((heardPartner s).wr F.PLT_PSTATE_PARTNER_ROLE (b0 % 4)).wr F.PLT_PSTATE_PARTNER_MODE (b0 / 64 % 4)
    |>.wr F.PLT_PSTATE_PARTNER_ELIG (b0 / 16 % 2)) fun x => { x with beat := b0 }

variable {s} {p : Port} {b0 b1 b2 ck : Nat}

theorem pairbeatReceive_eq (hpaired : s.paired = true) (hp : p = s.sharedPort) (hh : s.hears p = true)
    (hck : crc8 [b0, b1, b2] = ck) :
    pairbeatReceive p b0 b1 b2 ck s = refreshPair (beatEvent (judgePartner (beatTaken s b0)) b1) := by
  unfold pairbeatReceive
  rw [if_neg (by simp [hpaired, hp ▸ hh, hck, hp])]
  rfl

theorem pairbeatReceive_idle (h : s.paired = false ∨ p ≠ s.sharedPort ∨ s.hears p = false ∨ crc8 [b0, b1, b2] ≠ ck) :
    pairbeatReceive p b0 b1 b2 ck s = s := by
  unfold pairbeatReceive
  rw [if_pos (by simpa using h), noEffect]

/-- What a beat that is taken says. -/
structure BeatSays (b0 : Nat) (t : State) : Prop where
  quiet : t.pair.quiet = 0
  beat : t.pair.beat = b0
  solo : t.rd F.PLT_PSTATE_SOLO = 0
  role : t.rd F.PLT_PSTATE_PARTNER_ROLE = b0 % 4
  mode : t.rd F.PLT_PSTATE_PARTNER_MODE = b0 / 64 % 4
  elig : t.pElig = b0.testBit 4

theorem beatTaken_says (b0 : Nat) : BeatSays b0 (beatTaken s b0) := by
  have helig : (beatTaken s b0).rd F.PLT_PSTATE_PARTNER_ELIG = b0 / 16 % 2 % 2 := State.rd_wr_same ..
  refine ⟨rfl, rfl, ?_, ?_, ?_, ?_⟩
  · refine (State.rd_wr_ne _ _ _ _ _ _ (by decide)).trans ((State.rd_wr_ne _ _ _ _ _ _ (by decide)).trans ?_)
    exact (State.rd_wr_ne _ _ _ _ _ _ (by decide)).trans (State.rd_wr_same ..)
  · refine (State.rd_wr_ne _ _ _ _ _ _ (by decide)).trans ((State.rd_wr_ne _ _ _ _ _ _ (by decide)).trans ?_)
    exact (State.rd_wr_same ..).trans (Nat.mod_mod ..)
  · exact (State.rd_wr_ne _ _ _ _ _ _ (by decide)).trans ((State.rd_wr_same ..).trans (Nat.mod_mod ..))
  · rw [State.pElig, State.is, helig, Nat.testBit_eq_decide_div_mod_eq]
    refine decide_eq_decide.mpr ?_
    omega

theorem BeatFrame.says {t u : State} (h : BeatFrame t u) (hs : BeatSays b0 t) : BeatSays b0 u := by
  have hrd : ∀ f, fieldOutside beatObjs beatFlds f = true → u.rd f = t.rd f := fun f hf => h.regs.2 f 0 hf
  refine ⟨h.stands.quiet.trans hs.quiet, h.stands.beat.trans hs.beat, (hrd _ rfl).trans hs.solo, (hrd _ rfl).trans hs.role,
    (hrd _ rfl).trans hs.mode, ?_⟩
  rw [State.pElig, State.is, hrd _ rfl]
  exact hs.elig

theorem pairbeatReceive_frame (s : State) : Spares (beatObjs ++ [F.objPLT_PSTATE]) beatFlds s
    (refreshPair (beatEvent (judgePartner (beatTaken s b0)) b1)) := by
  have htaken : Spares (beatObjs ++ [F.objPLT_PSTATE]) beatFlds s (beatTaken s b0) :=
    (((heardPartner_leaves s).spares rfl rfl).trans (State.wr_spares _ _ _ _ rfl)).trans <|
      (State.wr_spares _ _ _ _ rfl).trans <| (State.wr_spares _ _ _ _ rfl).trans ((updPair_leaves ..).spares rfl rfl)
  have hrest := (judgePartner_frame (beatTaken s b0)).trans ((beatEvent_frame _ b1).trans (refreshPair_frame _))
  exact htaken.trans (hrest.regs.mono rfl rfl)

/-- The beat sent (PLT-6). -/
theorem pairbeatSend_eq (hpaired : s.paired = true) (hplaced : s.placed = true) (hup : s.port s.sharedPort = pUP)
    (hlink : s.time.link = true) : pairbeatSend s = updPair (refreshPair s) fun x => { x with
      lastBeat := beatBytes (refreshPair s) ++ [crc8 (beatBytes (refreshPair s))], txLeft := x.txLeft - 1 } := by
  unfold pairbeatSend
  rw [if_neg (by simp [hpaired, hplaced, hup, hlink])]

theorem beatBytes_refreshPair (s : State) : beatBytes (refreshPair s) =
    [s.role + 4 * b2n s.pair.claim.isSome + 8 * b2n (decide (s.role = 0) || s.pair.yieldAt.isSome) + 16 * b2n s.eligible +
      32 * s.rd F.PLT_PAIR_PREFERRED + 64 * s.beatMode,
     (if s.pair.txLeft = 0 then 0 else s.pair.txEvent) + 16 * s.pair.txEseq, s.cinchNow % 256] := by
  have hmode : (refreshPair s).beatMode = s.beatMode := by
    simp only [State.beatMode, show (refreshPair s).mode = s.mode from (refreshPair_moves s).rd _ _ (by rfl)]
  have hcinch : (refreshPair s).cinchNow = s.cinchNow := rfl
  rw [beatBytes, rd_refreshPair_eligible, refreshPair_role, refreshPair_pair, hcinch, hmode,
    (refreshPair_moves s).rd F.PLT_PAIR_PREFERRED 0 (by rfl)]

/-- A HELLO is kept. -/
def helloKept (s : State) (x : Nat × Nat × Nat) : State := updPair (heardPartner s) fun p => { p with hello := some x }

theorem heardPartner_moves (s : State) : Moves [.pair] [] [F.PLT_PSTATE_SOLO] s (heardPartner s) :=
  (State.wr_moves ..).step ((updPair_leaves ..).moves.one rfl rfl rfl) rfl rfl rfl

theorem helloKept_moves (s : State) (x : Nat × Nat × Nat) : Moves [.pair] [] [F.PLT_PSTATE_SOLO] s (helloKept s x) :=
  (updPair_leaves ..).moves.step (heardPartner_moves s) rfl rfl rfl

theorem helloKept_pstate (hpaired : s.paired = true) (x : Nat × Nat × Nat) :
    (helloKept s x).pstate = if s.agrees x = true then 2 else 3 := by
  have hb : PairBasis s (helloKept s x) := (helloKept_moves s x).basis rfl
  have hsilent : (helloKept s x).silent = false := rfl
  have hhello : (helloKept s x).pair.hello = some x := rfl
  rw [State.pstate, hb.paired, hpaired, hsilent, hhello, ← hb.agrees]
  rfl

end

/-- Settles O19: what a beat says of the partner is outside the frame of everything its event and its roles do. -/
theorem pairHeartbeat : Obligations.PairHeartbeat := by
  unfold Obligations.PairHeartbeat
  refine ⟨?received, ?idle, ?sent, ?helloDue, ?helloTaken⟩
  case received =>
    intro dt s p b0 b1 b2 ck a hpaired hp hh hck
    have heq := pairbeatReceive_eq hpaired hp hh hck
    have hsays := ((judgePartner_frame (beatTaken a b0)).trans ((beatEvent_frame _ b1).trans (refreshPair_frame _))).says
      (beatTaken_says b0)
    have hframe := pairbeatReceive_frame (b0 := b0) (b1 := b1) a
    rw [← heq] at hsays hframe
    exact ⟨_, rfl, hsays.quiet, hsays.beat, hsays.solo, hsays.role, hsays.mode, hsays.elig,
      hframe.movesWithin ((pairbeatReceive_leaves ..).mono (by decide) fun _ h => h) rfl rfl rfl⟩
  case idle =>
    intro dt s p b0 b1 b2 ck a h
    exact ⟨_, rfl, pairbeatReceive_idle h⟩
  case sent =>
    intro dt s a hpaired hplaced hup hlink
    have heq := pairbeatSend_eq hpaired hplaced hup hlink
    refine ⟨_, rfl, ?_, ?_, ?_, ?_, ?_⟩ <;> rw [heq]
    · refine ⟨_, _, ?_, rfl, rfl⟩
      rw [beatBytes_refreshPair]
      rfl
    · rfl
    · exact rd_refreshPair_eligible a
    · exact rd_refreshPair_pstate a
    · exact (updPair_leaves ..).moves.step ((refreshPair_moves a).one rfl rfl rfl) rfl rfl rfl
  case helloDue =>
    intro dt s a hpaired hplaced hrun
    exact ⟨_, rfl, if_pos ⟨hpaired, hplaced, hrun⟩⟩
  case helloTaken =>
    intro dt s b a hbody
    have heq : hello b a = refreshPair (helloKept a (leAt b 4 1, leAt b 8 4, leAt b 12 4)) := if_pos hbody
    have hpaired : a.paired = true := by
      simp only [State.pairBody, Bool.and_eq_true] at hbody
      exact hbody.1.1.1
    refine ⟨_, rfl, ?_, ?_, ?_, ?_⟩ <;> rw [heq]
    · rw [refreshPair_pair]
      rfl
    · rw [refreshPair_pair]
      rfl
    · rw [rd_refreshPair_pstate, helloKept_pstate hpaired]
    · exact (refreshPair_moves _).step ((helloKept_moves ..).one rfl rfl rfl) rfl rfl rfl

end Sys2Proof.Machine
end

section
/-!
Releasing and opening the outputs of a whole module, and the switch-over of a pair (R278, R288).
-/

namespace Sys2Proof.Machine

/-! ### Released groups -/

/-- Operations on groups one after the other, each of which settles its own group and leaves the others settled. -/
theorem foldl_settles {P : Nat → State → Prop} {f : State → Nat → State} (hset : ∀ s g, P g (f s g))
    (hkeep : ∀ s g j, P j s → P j (f s g)) (l : List Nat) (s : State) : ∀ g ∈ l, P g (l.foldl f s) := by
  induction l using List.reverseRecOn with
  | nil => exact fun _ h => absurd h List.not_mem_nil
  | append_singleton l k ih =>
    rw [List.foldl_append, List.foldl_cons, List.foldl_nil]
    intro g hg
    rcases List.mem_append.mp hg with hg | hg
    · exact hkeep _ k g (ih g hg)
    · obtain rfl : g = k := by simpa using hg
      exact hset _ g

section
variable (s : State) (g : Nat)

theorem releaseDg_released (j : Nat) : ((releaseDg s g).dgg j).released = if j = g then true else (s.dgg j).released := by
  unfold releaseDg
  extract_lets u
  have hu : ∀ j, (u.dgg j).released = (s.dgg j).released := by
    have hone : ∀ (v : State) (k : Nat), ∀ j, ((clearPresent (clearPresent (stageOff v (16 * g + k)) (16 * g + k) 1)
        (16 * g + k) 2).dgg j).released = (v.dgg j).released := fun v k j => (stageOff_switched v _).touched.released j
    have hall : ∀ (l : List Nat) (v : State), ∀ j, ((l.foldl (fun v k => clearPresent (clearPresent
        (stageOff v (16 * g + k)) (16 * g + k) 1) (16 * g + k) 2) v).dgg j).released = (v.dgg j).released := by
      intro l
      induction l with
      | nil => exact fun _ _ => rfl
      | cons k l ih => exact fun v j => (ih _ j).trans (hone v k j)
    exact hall (List.range 16) s
  rw [dgg_updDgg]
  split
  · rfl
  · exact hu j

theorem releaseAg_released (j : Nat) : ((applyOuts (updAgg s g fun x => { x with released := true }) g).agg j).released =
    if j = g then true else (s.agg j).released := by
  rw [(applyOuts_keeps ..).grp, agg_updAgg]
  split <;> rfl

theorem openAg_released (j : Nat) : ((applyOuts (updAgg s g fun x => { x with released := false }) g).agg j).released =
    if j = g then false else (s.agg j).released := by
  rw [(applyOuts_keeps ..).grp, agg_updAgg]
  split <;> rfl

end

/-- Every group of a module whose outputs are released is released. -/
theorem standbyOutputs_released (s : State) : (∀ g, g < 8 → ((standbyOutputs s).dgg g).released = true) ∧
    ∀ g, g < 4 → ((standbyOutputs s).agg g).released = true := by
  unfold standbyOutputs
  constructor
  · intro g hg
    refine foldl_settles (P := fun g s => (s.dgg g).released = true) (fun s g => ?_) (fun s g j hj => ?_) (List.range 8) _ g
      (List.mem_range.mpr hg)
    · rw [releaseDg_released, if_pos rfl]
    · rw [releaseDg_released, hj, ite_self]
  · intro g hg
    rw [agg_congr ((releaseDigital_leaves (releaseAnalogue s)).1 .ana (by decide))]
    refine foldl_settles (P := fun g s => (s.agg g).released = true) (fun s g => ?_) (fun s g j hj => ?_) (List.range 4) s g
      (List.mem_range.mpr hg)
    · rw [releaseAg_released, if_pos rfl]
    · rw [releaseAg_released, hj, ite_self]

theorem openAnalogue_opens (s : State) : ∀ g, g < 4 → ((openAnalogue s).agg g).released = false := by
  intro g hg
  refine foldl_settles (P := fun g s => (s.agg g).released = false) (fun s g => ?_) (fun s g j hj => ?_) (List.range 4) s g
    (List.mem_range.mpr hg)
  · split
    · rw [openAg_released, if_pos rfl]
    · next h => exact Bool.eq_false_of_not_eq_true h
  · split
    · rw [openAg_released, hj, ite_self]
    · exact hj

/-! ### TOOK_OVER (R288 step 3) -/

/-- What TOOK_OVER, a silent partner or the end of a drill writes. -/
def switchObjs : List Nat := traceObjs ++ [F.objAG_GSTAT, F.objPLT_PSTATE]
def switchFlds : List Fld := F.ANG_EV_STATE :: F.PRG_ACT_PENDING :: ackFlds ++ releaseFlds

abbrev SwitchMoves (s t : State) : Prop :=
  Moves (traceParts ++ [.mbx, .prg, .fld, .ana, .pair, .free]) switchObjs switchFlds s t

section
variable (s : State)

/-- The outputs of the old primary are released, and what was under way ends. -/
def outputsReleased : State := updPair (standbyOutputs s) fun x => { x with
  hold := none, yieldAt := none, claim := none, wantC := false, cAt := none }

/-- The role of an old primary that ran or held is STANDBY, of another one none. -/
def roleTaken (run : Bool) : State := if run then setRole s 2 else disarmOutputs (setRole s 0)

/-- The switch-over is counted and recorded. -/
def switchCounted : State :=
  pltCase 7 Ev.SWITCHOVER 0 0 0 (s.rd F.PLT_PSTATE_LAST_SO) (s.incTo F.PLT_PSTATE_SWITCHES 0 1 255)

/-- RELEASED goes out, and a pending activation ends (R291). -/
def releasedSent : State := refreshPair (endPending (pairEvent s 4) Code.PAIR_BUSY)

/-- The drill goes on with the switch-over. -/
def drillTaken : State := match s.pair.drill with
  | none => s
  | some d =>
    if d.side = 0 ∧ d.phase = 0 then updPair s fun x => { x with drill := some { d with phase := 1, from_ := s.time.xt } }
    else if d.side = 1 ∧ d.phase = 2 then
      finishDrill s.useFree { d with so2 := s.nextFree % 2 ^ 32 } true
    else s

theorem tookOver_eq (hpaired : s.paired = true) (hrole : s.role = 1) : tookOver s = drillTaken (releasedSent
    (switchCounted (roleTaken (outputsReleased s) (decide (s.mode = mRUN) || decide (s.mode = mHOLD))))) := by
  unfold tookOver
  rw [if_neg (by simp [hpaired, hrole])]
  rfl

theorem outputsReleased_moves : SwitchMoves s (outputsReleased s) :=
  (updPair_leaves ..).moves.step ((standbyOutputs_moves s).one rfl rfl rfl) rfl rfl rfl

theorem outputsReleased_pair : (outputsReleased s).pair = { s.pair with
    hold := none, yieldAt := none, claim := none, wantC := false, cAt := none } := by
  have hpair : (standbyOutputs s).pair = s.pair := (standbyOutputs_leaves s).1 .pair (by decide)
  unfold outputsReleased updPair
  dsimp only
  rw [hpair]

theorem roleTaken_moves (run : Bool) : Moves [] [] [F.ANG_EV_STATE, F.PLT_PSTATE_ROLE] s (roleTaken s run) :=
  .ite ((State.wr_moves ..).one rfl rfl rfl) ((disarmOutputs_moves _).step ((State.wr_moves ..).one rfl rfl rfl) rfl rfl rfl)

theorem roleTaken_role (run : Bool) : (roleTaken s run).role = if run then 2 else 0 := by
  unfold roleTaken
  split
  · exact State.rd_wr_same ..
  · exact ((disarmOutputs_moves (setRole s 0)).rd F.PLT_PSTATE_ROLE 0 rfl).trans (State.rd_wr_same ..)

theorem switchCounted_moves : Moves traceParts traceObjs [F.PLT_PSTATE_SWITCHES] s (switchCounted s) :=
  (pltCase_leaves ..).moves.step ((State.wr_moves ..).one rfl rfl rfl) rfl rfl rfl

theorem switchCounted_switches : (switchCounted s).rd F.PLT_PSTATE_SWITCHES = min 255 (s.rd F.PLT_PSTATE_SWITCHES + 1) := by
  have hcase := (pltCase_leaves 7 Ev.SWITCHOVER 0 0 0 (s.rd F.PLT_PSTATE_LAST_SO) (s.incTo F.PLT_PSTATE_SWITCHES 0 1 255)).rd
    F.PLT_PSTATE_SWITCHES 0 (by decide)
  refine hcase.trans ((State.rd_wr_same ..).trans (Nat.mod_eq_of_lt ?_))
  have hwidth : 2 ^ F.PLT_PSTATE_SWITCHES.width = 256 := rfl
  omega

theorem releasedSent_pair : ∃ e, (releasedSent s).pair = { s.pair with
    txEvent := 4, txEseq := (s.pair.txEseq + 1) % 16, txLeft := 4, eligFrom := e } := by
  have hend : (endPending (pairEvent s 4) Code.PAIR_BUSY).pair = (pairEvent s 4).pair := (endPending_leaves ..).1 .pair (by decide)
  rw [releasedSent, refreshPair_pair, hend]
  exact ⟨_, rfl⟩

theorem releasedSent_moves : Moves (traceParts ++ [.mbx, .prg, .pair]) traceObjs (F.PRG_ACT_PENDING :: ackFlds ++ refreshFlds) s
    (releasedSent s) :=
  (refreshPair_moves _).step ((endPending_moves ..).step ((pairEvent_leaves ..).moves.one rfl rfl rfl) rfl rfl rfl) rfl rfl rfl

theorem finishDrill_moves (d : Drill) (returned : Bool) : Moves (traceParts ++ [.mbx, .pair]) traceObjs
    (F.PLT_PSTATE_DRILL :: ackFlds) s (finishDrill s d returned) := by
  unfold finishDrill
  extract_lets flags data u
  have hu : Moves [.pair] [] [F.PLT_PSTATE_DRILL] s u := (State.wr_moves ..).step ((updPair_leaves ..).moves.one rfl rfl rfl) rfl rfl rfl
  exact (finHdl_moves ..).step (hu.one rfl rfl rfl) rfl rfl rfl

theorem finishDrill_pair (d : Drill) (returned : Bool) : (finishDrill s d returned).pair = { s.pair with drill := none } :=
  (finNum_leaves ..).1 .pair (by decide)

theorem finishDrill_grows (d : Drill) (returned : Bool) : BufGrows s (finishDrill s d returned) := by
  unfold finishDrill
  extract_lets flags data u
  have hu : BufGrows s u := .of_sto (State.wr_sto ..)
  exact hu.trans (finHdl_grows ..)

/-- What the drill's turn leaves: of the pair only the drill changes. -/
structure DrillMoved (s t : State) : Prop where
  pair : ∃ d, t.pair = { s.pair with drill := d }
  grows : BufGrows s t
  frame : Moves (traceParts ++ [.mbx, .pair, .free]) traceObjs (F.PLT_PSTATE_DRILL :: ackFlds) s t

theorem drillTaken_moved : DrillMoved s (drillTaken s) := by
  have hstay : DrillMoved s s := ⟨⟨_, rfl⟩, List.prefix_refl _, .refl s⟩
  unfold drillTaken
  split
  · exact hstay
  · next d _ =>
    split
    · exact ⟨⟨_, rfl⟩, .of_sto rfl, (updPair_leaves ..).moves.one rfl rfl rfl⟩
    · split
      · have hfree := State.useFree_leaves s
        refine ⟨⟨none, finishDrill_pair ..⟩, (hfree.grows rfl).trans (finishDrill_grows ..), ?_⟩
        exact (finishDrill_moves ..).step (hfree.moves.one rfl rfl rfl) rfl rfl rfl
      · exact hstay

end

/-- The switch-over has been counted and reported to the partner. -/
structure SwitchSent (s t : State) : Prop where
  pair : ∃ e d, t.pair = { s.pair with txEvent := 4, txEseq := (s.pair.txEseq + 1) % 16, txLeft := 4, eligFrom := e, drill := d }
  switches : t.rd F.PLT_PSTATE_SWITCHES = min 255 (s.rd F.PLT_PSTATE_SWITCHES + 1)
  recorded : Recorded Ev.SWITCHOVER ([0, 0, 0, 0] ++ leBytes 4 (s.rd F.PLT_PSTATE_LAST_SO)) s t
  frame : Moves (traceParts ++ [.mbx, .prg, .pair, .free]) traceObjs
    ([F.PLT_PSTATE_DRILL, F.PLT_PSTATE_SWITCHES, F.PRG_ACT_PENDING] ++ ackFlds ++ refreshFlds) s t

theorem switchCounted_sent (s : State) : SwitchSent s (drillTaken (releasedSent (switchCounted s))) := by
  have hcount := switchCounted_moves s
  have hsent := releasedSent_moves (switchCounted s)
  have hdrill := drillTaken_moved (releasedSent (switchCounted s))
  have hgrows : BufGrows (switchCounted s) (releasedSent (switchCounted s)) := (BufGrows.of_sto rfl).trans <|
    (endPending_grows (pairEvent (switchCounted s) 4) Code.PAIR_BUSY).trans ((refreshPair_leaves _).grows rfl)
  have hcountpair : (switchCounted s).pair = s.pair := hcount.1.1 .pair (by decide)
  obtain ⟨e, hpair⟩ := releasedSent_pair (switchCounted s)
  obtain ⟨d, hdone⟩ := hdrill.pair
  rw [hpair, hcountpair] at hdone
  refine ⟨⟨e, d, hdone⟩, ?_, ?_, hdrill.frame.step (hsent.step (hcount.one rfl rfl rfl) rfl rfl rfl) rfl rfl rfl⟩
  · rw [hdrill.frame.rd _ _ (by rfl), hsent.rd _ _ (by rfl), switchCounted_switches]
  · exact (recorded_pltCase 7 Ev.SWITCHOVER 0 0 0 _ (s.incTo F.PLT_PSTATE_SWITCHES 0 1 255)).grow
      (hgrows.trans hdrill.grows)

/-- What TOOK_OVER leaves of an old primary. -/
structure TakenOver (s t : State) : Prop where
  role : t.role = if s.mode = mRUN ∨ s.mode = mHOLD then 2 else 0
  ends : t.pair.hold = none ∧ t.pair.yieldAt = none ∧ t.pair.claim = none
  sends : t.pair.txEvent = 4 ∧ t.pair.txLeft = 4 ∧ t.pair.txEseq = (s.pair.txEseq + 1) % 16
  digital : ∀ g, g < 8 → (t.dgg g).released = true
  analogue : ∀ g, g < 4 → (t.agg g).released = true
  switches : t.rd F.PLT_PSTATE_SWITCHES = min 255 (s.rd F.PLT_PSTATE_SWITCHES + 1)
  logged : Logged Ev.SWITCHOVER ([0, 0, 0, 0] ++ leBytes 4 (s.rd F.PLT_PSTATE_LAST_SO)) s t
  frame : SwitchMoves s t

theorem tookOver_takes {s : State} (hpaired : s.paired = true) (hrole : s.role = 1) : TakenOver s (tookOver s) := by
  obtain ⟨hdigital, hanalogue⟩ := standbyOutputs_released s
  have hout := outputsReleased_moves s
  have houtrd : ∀ f, fieldOutside (traceObjs ++ [F.objAG_GSTAT]) releaseFlds f = true → (outputsReleased s).rd f = s.rd f :=
    fun f hf => ((updPair_leaves (standbyOutputs s) _).rd f 0 List.not_mem_nil).trans ((standbyOutputs_moves s).rd f 0 hf)
  have hrun := roleTaken_moves (outputsReleased s) (decide (s.mode = mRUN) || decide (s.mode = mHOLD))
  have hnew := roleTaken_role (outputsReleased s) (decide (s.mode = mRUN) || decide (s.mode = mHOLD))
  rw [tookOver_eq s hpaired hrole]
  generalize roleTaken (outputsReleased s) (decide (s.mode = mRUN) || decide (s.mode = mHOLD)) = b at hrun hnew
  have hsent := switchCounted_sent b
  obtain ⟨e, d, hpair⟩ := hsent.pair
  have hbpair : b.pair = (outputsReleased s).pair := hrun.1.1 .pair (by decide)
  have hbfld : b.fld = (standbyOutputs s).fld :=
    Eq.trans (hrun.1.1 .fld (by decide)) ((updPair_leaves (standbyOutputs s) _).1 .fld (by decide))
  have hbana : b.ana = (standbyOutputs s).ana :=
    Eq.trans (hrun.1.1 .ana (by decide)) ((updPair_leaves (standbyOutputs s) _).1 .ana (by decide))
  refine ⟨?_, ?_, ?_, fun g hg => ?_, fun g hg => ?_, ?_, ?_, ?_⟩
  · have hrole : (drillTaken (releasedSent (switchCounted b))).role = b.role := hsent.frame.rd _ _ (by rfl)
    rw [hrole]
    simpa using hnew
  · rw [hpair, hbpair, outputsReleased_pair]
    exact ⟨rfl, rfl, rfl⟩
  · rw [hpair, hbpair, outputsReleased_pair]
    exact ⟨rfl, rfl, rfl⟩
  · rw [dgg_congr ((hsent.frame.1.1 .fld (by decide)).trans hbfld)]
    exact hdigital g hg
  · rw [agg_congr ((hsent.frame.1.1 .ana (by decide)).trans hbana)]
    exact hanalogue g hg
  · rw [hsent.switches, hrun.rd _ _ (by rfl), houtrd _ rfl]
  · have hrec : Records 12 s (outputsReleased s) := (standbyOutputs_records s).trans ((updPair_leaves ..).records rfl)
    have hso : b.rd F.PLT_PSTATE_LAST_SO = s.rd F.PLT_PSTATE_LAST_SO := by rw [hrun.rd _ _ (by rfl), houtrd _ rfl]
    rw [← hso]
    exact hsent.recorded.logged (hrec.trans (hrun.1.records rfl)) (by decide)
  · exact hsent.frame.step (hrun.step hout rfl rfl rfl) rfl rfl rfl

end Sys2Proof.Machine
end

section
/-!
Claims, silence, holds and the return of a pair (O20: R280, R283, R284, R288, R289, R293).
-/

namespace Sys2Proof.Machine

/-! ### A claim takes effect (R283) -/

/-- What deferred releases write. -/
def deferredFlds : List Fld := F.PRG_ACT_DROPPED :: taskFlds

theorem releaseDeferred_task (s : State) : QSpares traceObjs deferredFlds s (releaseDeferred s) := by
  have hdone : ∀ (v : State) (k : Nat), QSpares traceObjs deferredFlds v (completeTask v k) := fun v k =>
    (completeTask_task v k).mono rfl rfl
  unfold releaseDeferred
  extract_lets +onlyGivenNames l _ u
  have hu : QSpares traceObjs deferredFlds s u := .same rfl rfl rfl
  refine hu.trans (.foldl (fun v x => .ite ((State.incTo_qSpares _ _ _ _ _ rfl).trans (hdone ..)) ?_) _ _)
  extract_lets +onlyGivenNames c y
  exact ((Leaves.set_scn v _).qSpares rfl rfl).trans ((dispatch_leaves ..).qSpares rfl rfl)

section
variable {s : State} {n lead : Nat}

/-- A standby's activation ends with the claim, unless its swap is made. -/
def standbyEnded (s : State) : State := match s.prg.act with
  | some a => if a.standby ∧ a.phase ≠ 2 ∧ a.phase ≠ 7 then releaseDeferred ((putAct s none).wr F.PRG_ACT_PENDING 0) else s
  | none => s

/-- The module is primary from here on. -/
def primacyTaken (s : State) : State := updPair (setRole s 1) fun x => { x with
  claim := none, wantC := true, silentSo := s.silent, yieldAt := none }

theorem claimEffect_eq (hclaim : s.pair.claim = some (n, lead)) (hdue : n + lead ≤ s.ring.lastLocal) (hm : s.mode = mRUN) :
    claimEffect s = refreshPair (primacyTaken (standbyEnded s)) := by
  unfold claimEffect
  rw [hclaim]
  exact if_neg (by simpa [hm] using hdue)

theorem standbyEnded_stands (s : State) : Spares traceObjs deferredFlds s (standbyEnded s) ∧ BeatStands s (standbyEnded s) := by
  unfold standbyEnded
  split
  · split
    · have hact : Leaves [.prg] [] s (putAct s none) := putAct_leaves ..
      exact ⟨(hact.spares rfl rfl).trans ((State.wr_spares _ _ _ _ rfl).trans (releaseDeferred_task _).regs),
        (hact.beat rfl).trans (((State.wr_leaves ..).beat rfl).trans (releaseDeferred_beat _))⟩
    · exact ⟨.refl, .refl⟩
  · exact ⟨.refl, .refl⟩

theorem primacyTaken_moves (s : State) : Moves [.pair] [] [F.PLT_PSTATE_ROLE] s (primacyTaken s) :=
  (updPair_leaves ..).moves.step ((State.wr_moves ..).one rfl rfl rfl) rfl rfl rfl

theorem primacyTaken_role (s : State) : (primacyTaken s).role = 1 :=
  ((updPair_leaves (setRole s 1) _).rd F.PLT_PSTATE_ROLE 0 List.not_mem_nil).trans (State.rd_wr_same ..)

/-! ### The partner's silence (R280, R284) -/

/-- The silent partner counts as not ELIGIBLE. -/
def silenceNoted (s : State) : State := refreshPair (s.wr F.PLT_PSTATE_PARTNER_ELIG 0)

/-- The standby promotes. -/
def promoted (s : State) : State :=
  pltCase 9 Ev.SILENT_PROMOTE 0 0 0 0 ((updPair s fun x => { x with
    claim := some (s.ring.lastLatch, 0), soFrom := some s.time.now }).wr F.PLT_PSTATE_SOLO 1)

/-- What waited for the partner ends: the activation, the standby's part of one, and the drill. -/
def activationEnded (s : State) : State := match s.prg.act with
  | some a => if a.phase = 9 then finishActivation s a
      else if a.standby ∧ (a.phase = 3 ∨ a.phase = 8) then putAct s none else s
  | none => s
def drillAborted (s : State) : State := match s.pair.drill with
  | some d => finishDrill s { d with aborted := true } false
  | none => s

theorem partnerSilence_eq (hpaired : s.paired = true) (hquiet : 3 ≤ s.pair.quiet) (hp : s.rd F.PLT_PSTATE_PSTATE ≠ 4) :
    partnerSilence s = drillAborted (activationEnded (
      if (silenceNoted s).role = 2 ∧ (silenceNoted s).mode = mRUN ∧ (silenceNoted s).rd F.PLT_PAIR_SILENCE_ACT = 0 then
        promoted (silenceNoted s) else silenceNoted s)) := by
  unfold partnerSilence
  rw [if_neg (by simp [hpaired, State.silent, hquiet, hp])]
  rfl

theorem silenceNoted_moves (s : State) : Moves [.pair] [] (F.PLT_PSTATE_PARTNER_ELIG :: refreshFlds) s (silenceNoted s) :=
  (refreshPair_moves _).step ((State.wr_moves ..).one rfl rfl rfl) rfl rfl rfl

theorem silenceNoted_pair (s : State) : (silenceNoted s).pair.claim = s.pair.claim := by rw [silenceNoted, refreshPair_pair]; rfl

theorem silenceNoted_pstate (hpaired : s.paired = true) (hquiet : 3 ≤ s.pair.quiet) :
    (silenceNoted s).rd F.PLT_PSTATE_PSTATE = 4 := by
  have hb : PairBasis s (s.wr F.PLT_PSTATE_PARTNER_ELIG 0) := (State.wr_moves ..).basis rfl
  have hsilent : s.silent = true := decide_eq_true hquiet
  rw [silenceNoted, rd_refreshPair_pstate, hb.pstate rfl rfl, State.pstate, hpaired, hsilent]
  rfl

theorem silenceNoted_elig (s : State) : (silenceNoted s).rd F.PLT_PSTATE_PARTNER_ELIG = 0 :=
  ((refreshPair_moves _).rd _ _ (by rfl)).trans (State.rd_wr_same ..)

/-- What ends with the partner's silence leaves the pair's claim. -/
structure SilenceEnds (s t : State) : Prop where
  claim : t.pair.claim = s.pair.claim
  grows : BufGrows s t
  frame : Moves (traceParts ++ [.mbx, .prg, .pair]) traceObjs (F.PLT_PSTATE_DRILL :: F.PRG_ACT_PENDING :: ackFlds) s t

theorem SilenceEnds.refl (s : State) : SilenceEnds s s := ⟨rfl, List.prefix_refl _, .refl s⟩

theorem SilenceEnds.trans {t u : State} (h : SilenceEnds s t) (h' : SilenceEnds t u) : SilenceEnds s u :=
  ⟨h'.claim.trans h.claim, h.grows.trans h'.grows, h.frame.trans h'.frame⟩

theorem finishActivation_ends (s : State) (x : Act) : SilenceEnds s (finishActivation s x) := by
  unfold finishActivation
  extract_lets u
  have hu : SilenceEnds s u := by
    have hact : Leaves [.prg] [] s (putAct s none) := putAct_leaves ..
    exact ⟨rfl, .of_sto rfl, (State.wr_moves ..).step (hact.moves.one rfl rfl rfl) rfl rfl rfl⟩
  split
  · exact hu
  · refine hu.trans ⟨?_, finHdl_grows .., (finHdl_moves ..).one rfl rfl rfl⟩
    rw [(finNum_leaves ..).1 .pair (by decide)]

theorem activationEnded_ends (s : State) : SilenceEnds s (activationEnded s) := by
  unfold activationEnded
  split
  · split
    · exact finishActivation_ends ..
    · split
      · exact ⟨rfl, .of_sto rfl, (putAct_leaves ..).moves.one rfl rfl rfl⟩
      · exact .refl s
  · exact .refl s

theorem drillAborted_ends (s : State) : SilenceEnds s (drillAborted s) := by
  unfold drillAborted
  split
  · refine ⟨?_, finishDrill_grows .., (finishDrill_moves ..).one rfl rfl rfl⟩
    rw [finishDrill_pair]
  · exact .refl s

theorem silence_ends (s : State) : SilenceEnds s (drillAborted (activationEnded s)) :=
  (activationEnded_ends s).trans (drillAborted_ends _)

theorem promoted_moves (s : State) : Moves (traceParts ++ [.pair]) traceObjs [F.PLT_PSTATE_SOLO] s (promoted s) :=
  (pltCase_leaves ..).moves.step ((State.wr_moves ..).step ((updPair_leaves ..).moves.one rfl rfl rfl) rfl rfl rfl) rfl rfl rfl

theorem promoted_solo (s : State) : (promoted s).rd F.PLT_PSTATE_SOLO = 1 :=
  ((pltCase_leaves ..).rd _ _ (by decide)).trans (State.rd_wr_same ..)

theorem promoted_claim (s : State) : (promoted s).pair.claim = some (s.ring.lastLatch, 0) := by
  rw [promoted, (pltCase_leaves ..).1 .pair (by decide)]
  rfl

/-! ### RELEASED and holds (R288 step 4, R289) -/

theorem released_opens {c : Nat} (hc : s.pair.cAt = some c) : (released s).pair.cAt = none ∧
    (∀ g, g < 4 → ((released s).agg g).released = false) ∧
    Moves (traceParts ++ [.ana, .pair]) (traceObjs ++ [F.objAG_GSTAT]) [] s (released s) := by
  have heq : released s = openAnalogue (updPair s fun x => { x with cAt := none }) := if_pos (by rw [hc]; rfl)
  have hopen := openAnalogue_leaves (updPair s fun x => { x with cAt := none })
  rw [heq]
  refine ⟨?_, openAnalogue_opens _, hopen.moves.step ((updPair_leaves ..).moves.one rfl rfl rfl) rfl rfl rfl⟩
  rw [hopen.1 .pair (by decide)]
  rfl

/-- The outputs go to their safe values at the end of a hold. -/
def holdEnded (s : State) (kind : Nat) : State :=
  disarmOutputs (sendCommand (updPair s fun x => { x with hold := none }) kind)

theorem pairHoldExpiry_eq {kind y : Nat} (hhold : s.pair.hold = some kind) (hyield : s.pair.yieldAt = some y)
    (hdue : y + 2000 * s.rd F.SCN_T_PERIOD 0 + 300000 ≤ s.time.now) : pairHoldExpiry s = roleOff (holdEnded s kind) := by
  unfold pairHoldExpiry
  rw [hhold, hyield]
  exact if_pos hdue

/-- Without a hold the module has no role, claim or yield from here on. -/
theorem roleOff_drops (hhold : s.pair.hold = none) : (roleOff s).pair.hold = none ∧
    (roleOff s).role = 0 ∧ (roleOff s).pair.claim = none ∧ (roleOff s).pair.yieldAt = none := by
  have heq : roleOff s = updPair (setRole s 0) fun x => { x with
    claim := none, yieldAt := none, wantC := false, cAt := none } := if_neg (by rw [hhold]; exact Bool.false_ne_true)
  have hrole : (setRole s 0).rd F.PLT_PSTATE_ROLE = 0 := State.rd_wr_same ..
  rw [heq]
  exact ⟨hhold, hrole, rfl, rfl⟩

theorem holdEnded_hold (s : State) (kind : Nat) : (holdEnded s kind).pair.hold = none := by
  rw [holdEnded, (disarmOutputs_leaves ..).1 .pair (by decide)]
  rfl

theorem holdEnded_cmds (s : State) (kind : Nat) :
    (holdEnded s kind).fld.cmds = s.fld.cmds ++ (List.range 12).map fun g => (g, kind) := by
  rw [holdEnded, (disarmOutputs_leaves ..).1 .fld (by decide)]
  rfl

theorem holdEnded_moves (s : State) (kind : Nat) : Moves [.fld, .pair] [] [F.ANG_EV_STATE] s (holdEnded s kind) :=
  (disarmOutputs_moves ..).step ((sendCommand_leaves ..).moves.step ((updPair_leaves ..).moves.one rfl rfl rfl) rfl rfl rfl)
    rfl rfl rfl

/-- What the end of a hold without TOOK_OVER leaves. -/
structure HoldEnds (kind : Nat) (s t : State) : Prop where
  hold : t.pair.hold = none
  cmds : t.fld.cmds = s.fld.cmds ++ (List.range 12).map fun g => (g, kind)
  role : t.role = 0 ∧ t.pair.claim = none ∧ t.pair.yieldAt = none
  frame : Moves [.fld, .pair] [] [F.ANG_EV_STATE, F.PLT_PSTATE_ROLE] s t

theorem pairHoldExpiry_ends {kind y : Nat} (hhold : s.pair.hold = some kind) (hyield : s.pair.yieldAt = some y)
    (hdue : y + 2000 * s.rd F.SCN_T_PERIOD 0 + 300000 ≤ s.time.now) : HoldEnds kind s (pairHoldExpiry s) := by
  obtain ⟨hh, hrole⟩ := roleOff_drops (holdEnded_hold s kind)
  rw [pairHoldExpiry_eq hhold hyield hdue]
  refine ⟨hh, ?_, hrole, (roleOff_moves _).step ((holdEnded_moves s kind).one rfl rfl rfl) rfl rfl rfl⟩
  rw [(roleOff_leaves _).1 .fld (by decide), holdEnded_cmds]

/-! ### The automatic return (R293) -/

theorem eligible_standby (h : s.eligible = true) : s.role = 2 := by
  simp only [State.eligible, Bool.and_eq_true, decide_eq_true_eq] at h
  exact h.1.1.1.1.1.1.2

theorem claim_eq (hclaim : s.pair.claim = none) (t lead : Nat) :
    claim s t lead = updPair s fun x => { x with claim := some (t, lead) } :=
  if_neg (by rw [hclaim]; exact Bool.false_ne_true)

theorem returnHold_eq {n : Nat} (pl : Bool) (helig : s.eligible = true) (hauto : s.rd F.PLT_PAIR_AUTO_RETURN = 1)
    (hpref : s.rd F.PLT_PAIR_PREFERRED = 1) (hlease : s.pair.lease = none) (hdrill : s.pair.drill = none)
    (hfrom : s.pair.eligFrom = some n) (hdue : n + 32768 * s.rd F.PLT_PAIR_RETURN_HOLD ≤ s.time.xt) :
    returnHold pl s = if pl = true then refreshPair s else claim (refreshPair s) s.time.now 120000 := by
  have hm := refreshPair_moves s
  have hpair := refreshPair_pair s
  have hxt : (refreshPair s).time = s.time := hm.1.1 .time (by decide)
  have hsince : (refreshPair s).pair.eligFrom = some n := by
    rw [hpair, State.eligSince, if_pos helig, hfrom]
    rfl
  have hlease' : (refreshPair s).pair.lease = none := by rw [hpair, hlease]
  have hdrill' : (refreshPair s).pair.drill = none := by rw [hpair, hdrill]
  unfold returnHold
  extract_lets u kept
  have hu : u = refreshPair s := rfl
  clear_value u
  subst hu
  have hkept : kept = false := by
    unfold kept
    rw [hlease']
  rw [hsince]
  dsimp only
  rw [State.is, State.is, hm.rd F.PLT_PAIR_AUTO_RETURN 0 (by rfl), hm.rd F.PLT_PAIR_PREFERRED 0 (by rfl),
    hm.rd F.PLT_PAIR_RETURN_HOLD 0 (by rfl), refreshPair_role, eligible_standby helig, hauto, hpref, hkept, hdrill', hxt]
  cases pl
  · rw [if_pos ⟨rfl, rfl, rfl, rfl, rfl, rfl, hdue⟩, if_neg Bool.false_ne_true]
  · rw [if_neg fun h => absurd h.2.2.2.1 (by decide), if_pos rfl, noEffect]

end

/-- Settles O20: each event of a pair as a chain of steps with their frames. -/
theorem pairRoles : Obligations.PairRoles := by
  unfold Obligations.PairRoles
  refine ⟨?due, ?notDue, ?promotes, ?stays, ?takenOver, ?released, ?timeout, ?holdEnds, ?returns⟩
  case due =>
    intro dt s n lead a hclaim hdue hm
    have heq := claimEffect_eq hclaim hdue hm
    obtain ⟨hframe, hbeat⟩ := standbyEnded_stands a
    have htaken := primacyTaken_moves (standbyEnded a)
    have hall : Spares traceObjs (F.PLT_PSTATE_ROLE :: deferredFlds ++ refreshFlds) a (claimEffect a) := by
      rw [heq]
      exact (hframe.mono rfl rfl).trans <| (htaken.spares rfl rfl rfl).trans ((refreshPair_moves _).spares rfl rfl rfl)
    refine ⟨_, rfl, ?_, ?_, ?_, ?_, ?_, ?_⟩
    · rw [heq, refreshPair_role, primacyTaken_role]
    · rw [heq, refreshPair_pair]
      rfl
    · rw [heq, refreshPair_pair]
      rfl
    · rw [heq, refreshPair_pair]
      rfl
    · rw [heq, refreshPair_pair]
      show (standbyEnded a).silent = a.silent
      rw [State.silent, hbeat.quiet, State.silent]
    · exact (hall.moves (claimEffect_leaves ..) rfl).one rfl rfl rfl
  case notDue =>
    intro dt s n lead a hclaim h
    refine ⟨_, rfl, ?_⟩
    unfold claimEffect
    rw [hclaim]
    exact if_pos h
  case promotes =>
    intro dt s a hpaired hquiet hp hrole hm hact
    have hnoted := silenceNoted_moves a
    have heq := partnerSilence_eq hpaired hquiet hp
    have hcond : (silenceNoted a).role = 2 ∧ (silenceNoted a).mode = mRUN ∧ (silenceNoted a).rd F.PLT_PAIR_SILENCE_ACT = 0 :=
      ⟨(hnoted.rd _ _ (by rfl)).trans hrole, (hnoted.rd _ _ (by rfl)).trans hm, (hnoted.rd _ _ (by rfl)).trans hact⟩
    rw [if_pos hcond] at heq
    have hprom := promoted_moves (silenceNoted a)
    have hends := silence_ends (promoted (silenceNoted a))
    rw [← heq] at hends
    refine ⟨_, rfl, ?_, ?_, ?_, ?_, ?_, ?_⟩
    · rw [hends.frame.rd _ _ (by rfl), hprom.rd _ _ (by rfl), silenceNoted_pstate hpaired hquiet]
    · rw [State.pElig, State.is, hends.frame.rd _ _ (by rfl), hprom.rd _ _ (by rfl), silenceNoted_elig]
      rfl
    · rw [hends.claim, promoted_claim]
      rfl
    · rw [hends.frame.rd _ _ (by rfl), promoted_solo]
    · exact ((recorded_pltCase 9 Ev.SILENT_PROMOTE 0 0 0 0 _).grow hends.grows).logged
        ((hnoted.1.records rfl).trans (Records.of_sto (n := 0) rfl)) (by decide)
    · exact hends.frame.step (hprom.step (hnoted.one rfl rfl rfl) rfl rfl rfl) rfl rfl rfl
  case stays =>
    intro dt s a hpaired hquiet hp hact
    have hnoted := silenceNoted_moves a
    have heq := partnerSilence_eq hpaired hquiet hp
    have hcond : (silenceNoted a).rd F.PLT_PAIR_SILENCE_ACT ≠ 0 := by
      rw [hnoted.rd _ _ (by rfl), hact]
      decide
    rw [if_neg fun h => hcond h.2.2] at heq
    have hends := silence_ends (silenceNoted a)
    rw [← heq] at hends
    refine ⟨_, rfl, ?_, ?_, ?_, ?_, ?_, ?_⟩
    · rw [hends.frame.rd _ _ (by rfl), silenceNoted_pstate hpaired hquiet]
    · rw [State.pElig, State.is, hends.frame.rd _ _ (by rfl), silenceNoted_elig]
      rfl
    · rw [hends.claim, silenceNoted_pair]
    · exact (hends.frame.rd _ _ (by rfl)).trans (hnoted.rd _ _ (by rfl))
    · rw [hends.frame.rd _ _ (by rfl), hnoted.rd _ _ (by rfl)]
    · exact hends.frame.step (hnoted.one rfl rfl rfl) rfl rfl rfl
  case takenOver =>
    intro dt s a hpaired hrole
    have h := tookOver_takes hpaired hrole
    exact ⟨_, rfl, h.role, h.ends, h.sends, h.digital, h.analogue, h.switches, h.logged, h.frame.one rfl rfl rfl⟩
  case released =>
    intro dt s n a hc
    exact ⟨_, rfl, released_opens hc⟩
  case timeout =>
    intro dt s n a hc hdue
    have heq : analogueGateTimeout a = released a := by
      unfold analogueGateTimeout
      rw [hc]
      exact if_pos hdue
    exact ⟨_, rfl, heq ▸ released_opens hc⟩
  case holdEnds =>
    intro dt s kind y a hhold hyield hdue
    have h := pairHoldExpiry_ends hhold hyield hdue
    exact ⟨_, rfl, h.hold, h.cmds, h.role, h.frame⟩
  case returns =>
    intro dt s pl n a helig hauto hpref hlease hdrill hfrom hdue hclaim
    have heq := returnHold_eq pl helig hauto hpref hlease hdrill hfrom hdue
    have hrefresh := refreshPair_moves a
    have hnone : (refreshPair a).pair.claim = none := by rw [refreshPair_pair, hclaim]
    refine ⟨_, rfl, ?_, ?_⟩ <;> rw [heq]
    · cases pl
      · rw [if_neg Bool.false_ne_true, if_neg Bool.false_ne_true, claim_eq hnone]
        rfl
      · exact hnone
    · exact .ite (hrefresh.one rfl rfl rfl) ((claim_leaves ..).moves.step (hrefresh.one rfl rfl rfl) rfl rfl rfl)

end Sys2Proof.Machine
end

section
/-!
Mirroring (O22: R285 to R287, PLT-9).
-/

namespace Sys2Proof.Machine

/-! ### Capture (R286) -/

/-- The items the voting lanes agree on, or the offset of the first one they do not. -/
def mirrorVoted (s : State) : Except Nat (List Nat) :=
  mirrorData (s.activeBank.getD {}) (((List.range 3).filter fun k => s.votes k).map fun k => s.scn.lanes.get k)
    (mirrorItems s) 16 []

/-- The image of a capture: header, voted items, CRC-32. -/
def mirrorImage (n : Nat) (d : List Nat) : List Nat :=
  leBytes 4 n ++ leBytes 4 (20 + d.length) ++ leBytes 8 0 ++ d ++
    leBytes 4 (crc32 (leBytes 4 n ++ leBytes 4 (20 + d.length) ++ leBytes 8 0 ++ d))

theorem mirrorImage_length (n : Nat) (d : List Nat) : (mirrorImage n d).length = 20 + d.length := by
  simp only [mirrorImage, List.length_append, Crypto.leBytes_length]
  omega

/-- The capture is no longer due. -/
def captureTaken (s : State) : State := updPair s fun x => { x with capDue := false }

section
variable {s : State} {n k : Nat} {d : List Nat}

/-- An image of at most 1,000 bytes is one sub-record. -/
theorem mirrorSubs_one {img : List Nat} (hne : img ≠ []) (hlen : img.length ≤ 1000) (s : State) (n total : Nat) :
    mirrorSubs (k + 1) s n 0 total img = queueSub s 6 s.partnerPos (leBytes 4 n ++ leBytes 2 0 ++ leBytes 2 total ++ img) := by
  have hdone : ∀ (j : Nat) (u : State) (o : Nat), mirrorSubs j u n o total [] = u := by
    intro j u o
    cases j with
    | zero => rfl
    | succ j => exact if_pos rfl
  unfold mirrorSubs
  rw [if_neg (by simpa using hne), List.take_of_length_le hlen, List.drop_eq_nil_of_le hlen]
  exact hdone ..

theorem mirrorCapture_eq (hdue : s.pair.capDue = true) (hpaired : s.paired = true) (hrole : s.role = 1)
    (hidle : s.lanesIdle = true) (hclk : s.clk.lane = true) (hlag : s.rd F.PRG_ACT_LAGGED = 0) :
    mirrorCapture s = match mirrorVoted s with
      | .error o => unresolved (captureTaken s) 8 o
      | .ok d => mirrorSubs 16 (captureTaken s) s.cinchNow 0 (mirrorImage s.cinchNow d).length (mirrorImage s.cinchNow d) := by
  unfold mirrorCapture
  rw [if_neg (by simp [hdue, hpaired, hrole, hidle, hclk, State.is, hlag])]
  rfl

/-! ### Receipt (R287) -/

/-- A complete image has arrived: an older one that still waited is counted. -/
def imageReady (s : State) (n : Nat) (d : List Nat) : State :=
  updPair (if s.pair.ready.isSome then (updPair s fun x => { x with rx := none }).incTo F.PLT_PSTATE_MIR_MISS 0 1 15
    else updPair s fun x => { x with rx := none }) fun x => { x with ready := some (n, d) }

/-- The fields of a MIRROR sub-record of offset 0. -/
theorem mirror_fields (hn : n < 2 ^ 32) (hlen : d.length ≤ 1000) :
    leAt (leBytes 4 n ++ [0, 0] ++ leBytes 2 d.length ++ d) 0 4 = n ∧
    leAt (leBytes 4 n ++ [0, 0] ++ leBytes 2 d.length ++ d) 4 2 = 0 ∧
    leAt (leBytes 4 n ++ [0, 0] ++ leBytes 2 d.length ++ d) 6 2 = d.length ∧
    (leBytes 4 n ++ [0, 0] ++ leBytes 2 d.length ++ d).drop 8 = d := by
  have h4 : (leBytes 4 n).length = 4 := Crypto.leBytes_length ..
  have h2 : (leBytes 2 d.length).length = 2 := Crypto.leBytes_length ..
  refine ⟨?_, ?_, ?_, ?_⟩
  · have h := leAt_middle [] ([0, 0] ++ leBytes 2 d.length ++ d) (n := 4) rfl (show n < 256 ^ 4 by omega)
    simpa using h
  · have h := leAt_middle (n := 2) (v := 0) (leBytes 4 n) (leBytes 2 d.length ++ d) h4 (by decide)
    rw [List.append_assoc _ (leBytes 2 d.length) d]
    exact h
  · exact leAt_middle (n := 2) (leBytes 4 n ++ [0, 0]) d (by simp [h4]) (show d.length < 256 ^ 2 by omega)
  · rw [List.drop_left' (by simp [h4, h2])]

theorem mirrorIn_eq (hpaired : s.paired = true) (hplaced : s.placed = true) (hlink : s.time.link = true) (hrole : s.role = 2)
    (hlag : s.rd F.PRG_ACT_LAGGED = 0) (hrx : s.pair.rx = none) (hn : n < 2 ^ 32) (h4 : 4 ≤ d.length) (hlen : d.length ≤ 1000)
    (hcrc : crc32 (d.take (d.length - 4)) = leAt d (d.length - 4) 4) :
    mirrorIn (leBytes 4 n ++ [0, 0] ++ leBytes 2 d.length ++ d) s = imageReady (heardPartner s) n d := by
  obtain ⟨hcinch, hoff, htotal, hdata⟩ := mirror_fields hn hlen
  have hmoves := heardPartner_moves s
  have hrole' : (heardPartner s).role = 2 := (hmoves.rd _ _ (by rfl)).trans hrole
  have hlag' : (heardPartner s).rd F.PRG_ACT_LAGGED = 0 := (hmoves.rd _ _ (by rfl)).trans hlag
  have hrx' : (heardPartner s).pair.rx = none := hrx
  unfold mirrorIn
  rw [if_neg (by simp [hpaired, hplaced, hlink, Crypto.leBytes_length]; omega)]
  rw [hcinch, hoff, htotal, hdata]
  generalize heardPartner s = u at hrole' hlag' hrx'
  extract_lets +onlyGivenNames t m o tot e
  rw [if_neg (show ¬(u.role ≠ 2 ∨ u.is F.PRG_ACT_LAGGED = true ∨ 8192 < d.length ∨ d.length < 0 + d.length) by
    simp only [hrole', State.is, hlag']
    simp
    omega)]
  extract_lets +onlyGivenNames cur
  have hcur : cur = some ⟨n, d.length, List.replicate d.length 0, []⟩ := by
    unfold cur
    rw [hrx']
  have hwhole : overlay (List.replicate d.length 0) 0 d = d := by simp [overlay]
  have hcovered : covered ([] ++ [(0, d.length)]) = d.length := Nat.zero_add _
  rw [hcur]
  dsimp only
  rw [if_neg (not_not.mpr rfl)]
  rw [show overlay (List.replicate d.length 0) o e = d from hwhole]
  refine (if_neg ?_).trans (if_pos hcrc)
  show ¬covered ([] ++ [(0, d.length)]) < d.length
  rw [hcovered]
  exact Nat.lt_irrefl _

theorem imageReady_pair (u : State) (n : Nat) (d : List Nat) :
    (imageReady u n d).pair = { u.pair with rx := none, ready := some (n, d) } := by
  unfold imageReady
  split <;> rfl

theorem imageReady_missed (u : State) (n : Nat) (d : List Nat) : (imageReady u n d).rd F.PLT_PSTATE_MIR_MISS =
    if u.pair.ready.isSome = true then min 15 (u.rd F.PLT_PSTATE_MIR_MISS + 1) else u.rd F.PLT_PSTATE_MIR_MISS := by
  have hwidth : 2 ^ F.PLT_PSTATE_MIR_MISS.width = 16 := rfl
  unfold imageReady
  split
  · exact (State.rd_wr_same (updPair u fun x => { x with rx := none }) F.PLT_PSTATE_MIR_MISS _ 0).trans
      (Nat.mod_eq_of_lt (by omega))
  · rfl

theorem imageReady_moves (u : State) (n : Nat) (d : List Nat) :
    Moves [.pair] [] [F.PLT_PSTATE_MIR_MISS] u (imageReady u n d) := by
  have hrx : Moves [.pair] [] [F.PLT_PSTATE_MIR_MISS] u (updPair u fun x => { x with rx := none }) :=
    (updPair_leaves ..).moves.one rfl rfl rfl
  exact (updPair_leaves ..).moves.step (.ite ((State.wr_moves ..).step hrx rfl rfl rfl) hrx) rfl rfl rfl

/-! ### Apply (R287) -/

/-- The items of an image enter every voting lane. -/
def imageApplied (s : State) (n : Nat) (img : List Nat) : State :=
  { s with scn := { s.scn with lanes := (List.range 3).foldl (fun t k => if s.votes k then t.set k (putItems
    (s.activeBank.getD {}) ((s.pair.t0Ticks.find? fun e => decide (e.1 = n)).elim s.runTicks (·.2)) (mirrorItems s)
    (img.drop 16) (t.get k)) else t) s.scn.lanes } }

/-- A change of the lanes that `p` names, lane after lane. -/
theorem Trio.get_foldl_set {α : Type} (p : Nat → Bool) (f : α → α) (t : Trio α) {k : Nat} (hk : k < 3) :
    ((List.range 3).foldl (fun t k => if p k then t.set k (f (t.get k)) else t) t).get k =
      if p k then f (t.get k) else t.get k := by
  have hone : ∀ (t : Trio α) (j : Nat), j < 3 → (if p j then t.set j (f (t.get j)) else t).get k =
      if j = k ∧ p k = true then f (t.get k) else t.get k := by
    intro t j hj
    by_cases hjk : j = k
    · subst hjk
      split <;> simp [Trio.get_set_same, *]
    · rw [if_neg (c := j = k ∧ p k = true) fun h => hjk h.1]
      split
      · exact Trio.get_set_ne _ _ hk hj (Ne.symm hjk)
      · rfl
  show (if p 2 then _ else _ : Trio α).get k = _
  rw [hone _ 2 (by decide), hone _ 1 (by decide), hone _ 0 (by decide)]
  interval_cases k <;> simp

theorem mirrorApply_eq {img : List Nat} (hready : s.pair.ready = some (n, img)) (hpaired : s.paired = true)
    (hrole : s.role = 2) (hm : s.mode = mRUN) (hidle : s.noExec = true) (hclk : s.clk.lane = true)
    (hlag : s.rd F.PRG_ACT_LAGGED = 0) (htime : s.cycNs (400 + img.length / 2) + 2000 < s.nextRelease) :
    mirrorApply s = refreshPair (updPair (imageApplied s n img) fun x => { x with ready := none, applied := some n }) := by
  unfold mirrorApply
  rw [hready]
  refine (if_neg (by simp [hpaired, hrole, hm, hidle, hclk, State.is, hlag, htime])).trans ?_
  extract_lets b tick items f lanes
  have htick : tick = (s.pair.t0Ticks.find? fun e => decide (e.1 = n)).elim s.runTicks (·.2) := by
    unfold tick
    cases s.pair.t0Ticks.find? fun e => decide (e.1 = n) <;> rfl
  clear_value tick
  subst htick
  rfl

end

/-- Settles O22: an image is one list of bytes that the capture cuts into sub-records, the receipt joins and the apply reads. -/
theorem pairMirror : Obligations.PairMirror := by
  unfold Obligations.PairMirror
  refine ⟨?captured, ?unvoted, ?received, ?applied⟩
  case captured =>
    intro dt s d a hdue hpaired hrole hidle hclk hlag hdata hlen
    have heq := mirrorCapture_eq hdue hpaired hrole hidle hclk hlag
    have himage := mirrorImage_length a.cinchNow d
    have hne : mirrorImage a.cinchNow d ≠ [] := List.ne_nil_of_length_pos (by omega)
    rw [mirrorVoted, hdata] at heq
    refine ⟨_, rfl, ?_⟩
    rw [heq]
    dsimp only
    rw [mirrorSubs_one hne (by omega), himage]
    rfl
  case unvoted =>
    intro dt s o a hdue hpaired hrole hm hidle hclk hlag hdata
    have heq := mirrorCapture_eq hdue hpaired hrole hidle hclk hlag
    have hun := unresolved_undecided (s := captureTaken a) (.inl hm) 8 o
    rw [mirrorVoted, hdata] at heq
    refine ⟨_, rfl, ?_⟩
    rw [heq]
    exact ⟨hun.mode, hun.cause, hun.recorded.logged (Records.of_sto (n := 0) rfl) (by decide),
      hun.frame.step ((updPair_leaves ..).moves.one rfl rfl rfl) rfl rfl rfl⟩
  case received =>
    intro dt s b n d a hpaired hplaced hlink hrole hlag hrx hn hb h4 hlen hcrc
    have heq := mirrorIn_eq hpaired hplaced hlink hrole hlag hrx hn h4 hlen hcrc
    have hheard := heardPartner_moves a
    rw [← hb] at heq
    refine ⟨_, rfl, ?_⟩
    rw [heq]
    beta_reduce
    rw [imageReady_pair, imageReady_missed, hheard.rd F.PLT_PSTATE_MIR_MISS 0 (by rfl)]
    exact ⟨rfl, rfl, rfl, rfl, (imageReady_moves ..).step (hheard.one rfl rfl rfl) rfl rfl rfl⟩
  case applied =>
    intro dt s n img a hready hpaired hrole hm hidle hclk hlag htime
    have heq := mirrorApply_eq hready hpaired hrole hm hidle hclk hlag htime
    have hrefresh := refreshPair_moves (updPair (imageApplied a n img) fun x => { x with ready := none, applied := some n })
    refine ⟨_, rfl, ?_, ?_, fun k hk => ?_, ?_⟩ <;> rw [heq]
    · rw [refreshPair_pair]
      rfl
    · rw [refreshPair_pair]
      rfl
    · rw [hrefresh.1.1 .scn (by decide)]
      exact Trio.get_foldl_set _ _ _ hk
    · exact hrefresh.step ((updPair_leaves ..).moves.step ((Leaves.set_scn a _).moves.one rfl rfl rfl) rfl rfl rfl) rfl rfl rfl

end Sys2Proof.Machine
end

section
/-!
Leases and the drill of a pair (O23: R292, R294, PLT-8).
-/

namespace Sys2Proof.Machine

/-! ### Commands of the pair -/

/-- What a command of the pair writes. -/
abbrev PairCmdMoves (s t : State) : Prop :=
  Moves (traceParts ++ [.mbx, .pair, .sec]) traceObjs ([F.MBX_QUEUES_CQ_FREE, F.MBX_QUEUES_CR_FREE, F.MBX_USE_BAD_MAC,
    F.MBX_USE_HANDLES_USED, F.MBX_USE_SESSIONS_OPEN] ++ refreshFlds) s t

/-- Step 8 of MBX-5 lets a command pass that asks for no window. -/
theorem gate_open {s : State} (hstart : s.clk.startFailed = false) (k : State × Ans) : gate {} s k = k := by
  have hwin : s.window {} = none := by simp [State.window, hstart]
  rw [gate, hwin]

/-- The state in which the conditions of a command of the pair are judged. -/
def pairJudged (a : State) (x : Session) : State := refreshPair (admitted (popCmd a) x)

/-- It is the state before the command as far as R281 and the pair go. -/
structure PairJudged (a u : State) : Prop where
  basis : PairBasis a u
  pair : u.pair = { a.pair with eligFrom := u.pair.eligFrom }
  unanswered : Unanswered a u
  role : u.role = a.role
  start : u.clk = a.clk
  partner : u.rd F.PLT_PSTATE_PARTNER_MODE = a.rd F.PLT_PSTATE_PARTNER_MODE ∧
    u.rd F.PLT_PSTATE_PARTNER_ELIG = a.rd F.PLT_PSTATE_PARTNER_ELIG
  frame : PairCmdMoves a u

section
variable {a u : State} {x : Session} {r : RingCmd}

theorem pairJudged_judged (a : State) (x : Session) : PairJudged a (pairJudged a x) := by
  have hcmd : CmdMoves a (admitted (popCmd a) x) := (popCmd_frame a).trans (admitted_frame ..)
  have hframe : PairCmdMoves a (pairJudged a x) := (refreshPair_moves _).step (hcmd.one rfl rfl rfl) rfl rfl rfl
  have hpair : (admitted (popCmd a) x).pair = a.pair := hcmd.1.1 .pair (by decide)
  refine ⟨hframe.basis rfl, ?_, (unanswered_admitted a x).step rfl rfl rfl, hframe.rd _ _ (by rfl),
    hframe.1.1 .clk (by decide), ⟨hframe.rd _ _ (by rfl), hframe.rd _ _ (by rfl)⟩, hframe⟩
  rw [pairJudged, refreshPair_pair, hpair]

theorem PairJudged.pstate (h : PairJudged a u) : u.pstate = a.pstate :=
  h.basis.pstate (by rw [h.pair]) (by rw [h.pair])

theorem PairJudged.eligible (h : PairJudged a u) : u.eligible = a.eligible :=
  h.basis.eligible h.unanswered.core (by rw [h.pair]) (by rw [h.pair]) (by rw [h.pair]) h.role

theorem PairJudged.otherReady (h : PairJudged a u) : u.otherReady = a.otherReady := by
  rw [State.otherReady, State.otherReady, h.role, h.eligible, State.pElig, State.pElig, State.is, State.is, h.partner.2]

theorem PairJudged.pairBusy (h : PairJudged a u) : u.pairBusy = a.pairBusy := by
  rw [State.pairBusy, State.pairBusy, h.pair, h.basis.prg]

theorem paired_of_pstate {s : State} (h : s.pstate = 2) : s.paired = true := by
  by_contra hp
  rw [State.pstate, if_pos (by simpa using hp)] at h
  exact absurd h (by decide)

theorem eligible_running {s : State} (h : s.eligible = true) : s.mode = mRUN := by
  simp only [State.eligible, Bool.and_eq_true, decide_eq_true_eq] at h
  exact h.1.1.1.1.1.2

/-- What a pair with nothing under way has not. -/
theorem idle_of_pairBusy {s : State} (h : s.pairBusy = false) : s.pair.claim = none ∧ s.pair.yieldAt = none := by
  simp only [State.pairBusy, Bool.or_eq_false_iff] at h
  exact ⟨Option.isSome_eq_false_iff.mp h.1.1.1.1.1 |> Option.isNone_iff_eq_none.mp,
    Option.isSome_eq_false_iff.mp h.1.1.1.1.2 |> Option.isNone_iff_eq_none.mp⟩

theorem setYield_eq {s : State} (hpaired : s.paired = true) (hrole : s.role = 1) (hyield : s.pair.yieldAt = none) :
    setYield s = updPair s fun x => { x with yieldAt := some s.time.now, claim := none } :=
  if_pos ⟨hpaired, hrole, by rw [hyield]; rfl⟩

/-! ### PAIR_LEASE (R292) -/

/-- A switch-over follows a lease for the role that the module does not have. -/
def leaseSwitches (l role : Nat) : Bool := (decide (l = 1) && decide (role = 2)) || (decide (l = 2) && decide (role = 1))

/-- The lease is granted, and the switch-over begins. -/
def leaseGranted (s : State) (l sec : Nat) (switch : Bool) : State :=
  let s := updPair s fun x => { x with lease := some (l, s.time.xt + 32768 * sec) }
  refreshPair (if switch then (if l = 1 then claim s s.time.now 120000 else setYield s) else s)

/-- The fields of a PAIR_LEASE. -/
theorem lease_fields {c : Cmd} {l sec : Nat} (hpay : c.payload = [l, 0] ++ leBytes 2 sec) (hl : l < 256) (hsec : sec ≤ 3600) :
    payOk c 4 1 1 = true ∧ leAt c.payload 0 1 = l ∧ leAt c.payload 2 2 = sec := by
  rw [payOk, hpay]
  refine ⟨by simp [slice, Crypto.leBytes_length], ?_, ?_⟩
  · rw [leAt_byte]
    exact Nat.mod_eq_of_lt hl
  · have h := leAt_middle (n := 2) (v := sec) [l, 0] [] rfl (by omega)
    simpa using h

/-- The conditions of PAIR_LEASE for a grant. -/
structure Grants (l sec : Nat) (a : State) : Prop where
  kind : l = 1 ∨ l = 2
  time : 1 ≤ sec ∧ sec ≤ 3600
  pstate : a.pstate = 2
  idle : a.pairBusy = false
  ready : leaseSwitches l a.role = true → a.mode = mRUN ∧ a.rd F.PLT_PSTATE_PARTNER_MODE = 1 ∧ a.otherReady = true

theorem pairLease_grants {l sec : Nat} (h : Grants l sec a) (hstart : a.clk.startFailed = false)
    (hpay : (parse r).payload = [l, 0] ++ leBytes 2 sec) (y : Session) :
    pairLease (parse r) y (admitted (popCmd a) x) =
      (leaseGranted (pairJudged a x) l sec (leaseSwitches l a.role),
        .imm Code.OK (a.role + 256 * b2n (leaseSwitches l a.role)) []) := by
  have hj := pairJudged_judged a x
  obtain ⟨hok, hl, hsec⟩ := lease_fields hpay (by have := h.kind; omega) h.time.2
  rw [← hj.role]
  unfold pairLease
  extract_lets m sec' u switch
  have hu : u = pairJudged a x := rfl
  have hm : m = l := hl
  have hs : sec' = sec := hsec
  have hswitch : switch = leaseSwitches l (pairJudged a x).role := by rw [leaseSwitches, ← hm]; rfl
  clear_value u switch m sec'
  subst hu hm hs hswitch
  have h1 := h.kind
  have h2 := h.time
  rw [if_neg (by rw [hok]; simp; omega), gate_open (by rw [hj.start, hstart]), if_neg (by rw [hj.pstate, h.pstate]; decide),
    if_neg (by omega)]
  have hmode : (leaseSwitches m (pairJudged a x).role && !(decide ((pairJudged a x).mode = mRUN) &&
      decide ((pairJudged a x).rd F.PLT_PSTATE_PARTNER_MODE = 1))) = false := by
    cases hsw : leaseSwitches m (pairJudged a x).role
    · rfl
    · obtain ⟨hrun, hpartner, -⟩ := h.ready (hj.role ▸ hsw)
      rw [hj.basis.mode, hrun, hj.partner.1, hpartner]
      rfl
  have hready : (leaseSwitches m (pairJudged a x).role && !(pairJudged a x).otherReady) = false := by
    cases hsw : leaseSwitches m (pairJudged a x).role
    · rfl
    · rw [hj.otherReady, (h.ready (hj.role ▸ hsw)).2.2]
      rfl
  rw [if_neg (by rw [hmode]; exact Bool.false_ne_true), if_neg (by rw [hready]; exact Bool.false_ne_true),
    if_neg (by rw [hj.pairBusy, h.idle]; exact Bool.false_ne_true)]
  rfl

/-- What a granted lease leaves of the pair. -/
structure LeaseLeaves (l sec : Nat) (s t : State) : Prop where
  lease : t.pair.lease = some (l, s.time.xt + 32768 * sec)
  claim : t.pair.claim = if l = 1 ∧ s.role = 2 then some (s.time.now, 120000) else none
  yields : t.pair.yieldAt = if l = 2 ∧ s.role = 1 then some s.time.now else none

theorem leaseGranted_leaves {s : State} (l sec : Nat) (hclaim : s.pair.claim = none) (hyield : s.pair.yieldAt = none)
    (hpaired : s.paired = true) : LeaseLeaves l sec s (leaseGranted s l sec (leaseSwitches l s.role)) := by
  unfold leaseGranted
  extract_lets u
  have hclaimu : u.pair.claim = none := hclaim
  by_cases hclaims : l = 1 ∧ s.role = 2
  · have hsw : leaseSwitches l s.role = true := by simp [leaseSwitches, hclaims]
    have hyields : ¬(l = 2 ∧ s.role = 1) := by omega
    rw [if_pos hsw, if_pos hclaims.1, claim_eq hclaimu]
    constructor <;> rw [refreshPair_pair]
    · rfl
    · exact (if_pos hclaims).symm
    · exact hyield.trans (if_neg hyields).symm
  · by_cases hyields : l = 2 ∧ s.role = 1
    · have hsw : leaseSwitches l s.role = true := by simp [leaseSwitches, hyields]
      rw [if_pos hsw, if_neg (by omega), setYield_eq (s := u) hpaired hyields.2 hyield]
      constructor <;> rw [refreshPair_pair]
      · rfl
      · exact (if_neg hclaims).symm
      · exact (if_pos hyields).symm
    · have hsw : leaseSwitches l s.role ≠ true := by
        simp only [leaseSwitches, Bool.or_eq_true, Bool.and_eq_true, decide_eq_true_eq, ne_eq, not_or]
        exact ⟨hclaims, hyields⟩
      rw [if_neg hsw]
      constructor <;> rw [refreshPair_pair]
      · rfl
      · exact hclaim.trans (if_neg hclaims).symm
      · exact hyield.trans (if_neg hyields).symm

theorem leaseGranted_moves (s : State) (l sec : Nat) (switch : Bool) :
    Moves [.pair] [] refreshFlds s (leaseGranted s l sec switch) := by
  unfold leaseGranted
  extract_lets u
  have hu : Moves [.pair] [] refreshFlds s u := (updPair_leaves ..).moves.one rfl rfl rfl
  exact (refreshPair_moves _).step (.ite (.ite ((claim_leaves ..).moves.step hu rfl rfl rfl)
    ((setYield_leaves u).moves.step hu rfl rfl rfl)) hu) rfl rfl rfl

theorem rd_leased {s : State} {p : Nat × Nat} (h : (refreshPair s).pair.lease = some p) :
    (refreshPair s).rd F.PLT_PSTATE_LEASED = 1 := by
  have hlease : s.pair.lease = some p := by
    rw [refreshPair_pair] at h
    exact h
  rw [rd_refreshPair_leased, hlease]
  rfl

/-! ### A command of the pair that is answered at once -/

/-- What a command of the pair that its handler answers at once leaves: the pair's state as the handler left it. -/
structure PairReplied (r : RingCmd) (res : Nat) (st : Nat) (a v t : State) : Prop where
  answered : Answered r st 0 res [] a t
  pair : t.pair = v.pair
  leased : t.rd F.PLT_PSTATE_LEASED = v.rd F.PLT_PSTATE_LEASED
  frame : PairCmdMoves a t

theorem pairReplied {v : State} (hv : Moves [.pair] [] refreshFlds (pairJudged a x) v) (st res : Nat) :
    PairReplied r res st a v (replied v (parse r) st 0 res []) := by
  have hj := pairJudged_judged a x
  have hans := replied_answers v (parse r) st 0 res []
  have hu : Unanswered a v := hj.unanswered.step (by rw [hv.1.1 .mbx (by decide)]) (hv.1.1 .time (by decide))
    (congrArg RingSt.core (hv.1.1 .ring (by decide)))
  refine ⟨hu.answered, hans.moves.1.1 .pair (by decide), hans.moves.rd _ _ (by rfl), ?_⟩
  exact hans.moves.step (hv.step hj.frame rfl rfl rfl) rfl rfl rfl

theorem pairLease_granted {l sec : Nat} (ht : Taken 0x60 2 a r x) (hpay : (parse r).payload = [l, 0] ++ leBytes 2 sec)
    (hg : Grants l sec a) : LeaseLeaves l sec a (mbxRun 0x60 2 pairLease a) ∧
      (mbxRun 0x60 2 pairLease a).rd F.PLT_PSTATE_LEASED = 1 ∧
      Answered r Code.OK 0 (a.role + 256 * b2n (leaseSwitches l a.role)) [] a (mbxRun 0x60 2 pairLease a) ∧
      PairCmdMoves a (mbxRun 0x60 2 pairLease a) := by
  have hj := pairJudged_judged a x
  have hstart : a.clk.startFailed = false := ht.2.2.2.1
  obtain ⟨hclaim, hyield⟩ := idle_of_pairBusy hg.idle
  have hleaves := leaseGranted_leaves (s := pairJudged a x) l sec (by rw [hj.pair, hclaim]) (by rw [hj.pair, hyield])
    (hj.basis.paired.trans (paired_of_pstate hg.pstate))
  rw [hj.role] at hleaves
  have hr := pairReplied (r := r) (leaseGranted_moves (pairJudged a x) l sec (leaseSwitches l a.role)) Code.OK
    (a.role + 256 * b2n (leaseSwitches l a.role))
  rw [mbxRun_imm ht (pairLease_grants hg hstart hpay _)]
  refine ⟨⟨?_, ?_, ?_⟩, hr.leased.trans (rd_leased hleaves.lease), hr.answered, hr.frame⟩ <;> rw [hr.pair]
  · rw [hleaves.lease, hj.unanswered.time]
  · rw [hleaves.claim, hj.role, hj.unanswered.time]
  · rw [hleaves.yields, hj.role, hj.unanswered.time]

/-! ### LEASE 0, and a pair that is not established -/

/-- The lease ends. -/
def leaseEnded (s : State) : State := refreshPair (updPair s fun x => { x with lease := none })

theorem leaseEnded_moves (s : State) : Moves [.pair] [] refreshFlds s (leaseEnded s) :=
  (refreshPair_moves _).step ((updPair_leaves ..).moves.one rfl rfl rfl) rfl rfl rfl

theorem pairLease_revokes {l : Nat} (hl : l = 1 ∨ l = 2) (hstart : a.clk.startFailed = false)
    (hpay : (parse r).payload = [l, 0, 0, 0]) (y : Session) :
    pairLease (parse r) y (admitted (popCmd a) x) = if a.pstate = 2 then (leaseEnded (pairJudged a x), .imm Code.OK a.role [])
      else (pairJudged a x, .imm Code.NOT_PAIRED 0 []) := by
  have hj := pairJudged_judged a x
  obtain ⟨hok, hkind, hsec⟩ := lease_fields (sec := 0) hpay (by omega) (by omega)
  have hrole : (leaseEnded (pairJudged a x)).role = a.role := ((leaseEnded_moves _).rd _ _ (by rfl)).trans hj.role
  unfold pairLease
  extract_lets m sec u switch
  have hu : u = pairJudged a x := rfl
  have hm : m = l := hkind
  have hs : sec = 0 := hsec
  clear_value u switch m sec
  subst hu hm hs
  rw [if_neg (by rw [hok]; simp; omega), gate_open (by rw [hj.start, hstart]), hj.pstate]
  by_cases hp : a.pstate = 2
  · rw [if_neg (not_not.mpr hp), if_pos rfl, if_pos hp, ← hrole]
    rfl
  · rw [if_pos hp, if_neg hp, refuse]

theorem leaseEnded_lease (s : State) : (leaseEnded s).pair.lease = none := by
  rw [leaseEnded, refreshPair_pair]
  rfl

theorem leaseEnded_claim (s : State) : (leaseEnded s).pair.claim = s.pair.claim := by
  rw [leaseEnded, refreshPair_pair]
  rfl

/-- What a PAIR_LEASE of 0 s leaves: the code and the role that it answers, and the lease. -/
structure LeaseRevoked (r : RingCmd) (st res : Nat) (lease : Option (Nat × Nat)) (a t : State) : Prop where
  lease : t.pair.lease = lease
  claim : t.pair.claim = a.pair.claim
  answered : Answered r st 0 res [] a t
  frame : PairCmdMoves a t

theorem pairLease_revoked {l : Nat} (ht : Taken 0x60 2 a r x) (hl : l = 1 ∨ l = 2) (hpay : (parse r).payload = [l, 0, 0, 0])
    (hp : a.pstate = 2) : LeaseRevoked r Code.OK a.role none a (mbxRun 0x60 2 pairLease a) := by
  have hj := pairJudged_judged a x
  have hstart : a.clk.startFailed = false := ht.2.2.2.1
  have heq := pairLease_revokes (x := x) hl hstart hpay (x.touched a.time.xt)
  rw [if_pos hp] at heq
  have hr := pairReplied (r := r) (leaseEnded_moves (pairJudged a x)) Code.OK a.role
  rw [mbxRun_imm ht heq]
  exact ⟨by rw [hr.pair, leaseEnded_lease], by rw [hr.pair, leaseEnded_claim, hj.pair], hr.answered, hr.frame⟩

theorem pairLease_unpaired {l : Nat} (ht : Taken 0x60 2 a r x) (hl : l = 1 ∨ l = 2) (hpay : (parse r).payload = [l, 0, 0, 0])
    (hp : a.pstate ≠ 2) : LeaseRevoked r Code.NOT_PAIRED 0 a.pair.lease a (mbxRun 0x60 2 pairLease a) := by
  have hj := pairJudged_judged a x
  have hstart : a.clk.startFailed = false := ht.2.2.2.1
  have heq := pairLease_revokes (x := x) hl hstart hpay (x.touched a.time.xt)
  rw [if_neg hp] at heq
  have hr := pairReplied (r := r) (Moves.refl (pairJudged a x)) Code.NOT_PAIRED 0
  rw [mbxRun_imm ht heq]
  exact ⟨by rw [hr.pair, hj.pair], by rw [hr.pair, hj.pair], hr.answered, hr.frame⟩

/-! ### PAIR_DRILL (R294) -/

/-- The handle of an accepted drill, and the state in which it begins. -/
def drillAllotted (a : State) (r : RingCmd) (x : Session) : State × Nat :=
  allocHdl (pairJudged a x) (parse r).session (parse r).clseq (parse r).opcode .drill (parse r).usb
def drillAccepted (a : State) (r : RingCmd) (x : Session) : State :=
  replied (drillAllotted a r x).1 (parse r) Code.ACCEPTED (drillAllotted a r x).2 0 []

/-- A drill begins: the standby claims, the primary yields. -/
def drillBegun (s : State) (n f : Nat) : State :=
  let side := if s.role = 2 then 1 else 0
  let d : Drill := ⟨n, decide (f = 1), side, 0, 0, 0, 0, 0, 0, 0, 0, 0, false, false⟩
  let s := (updPair (startHdl s (n % 2048)) fun x => { x with drill := some d }).wr F.PLT_PSTATE_DRILL 1
  if side = 1 then claim s s.time.now 120000 else setYield s

/-- The conditions of PAIR_DRILL. -/
structure Drills (f : Nat) (a : State) : Prop where
  flags : f ≤ 1
  pstate : a.pstate = 2
  mode : a.mode = mRUN
  partner : a.rd F.PLT_PSTATE_PARTNER_MODE = 1
  ready : a.eligible = true ∨ a.role = 1 ∧ a.pElig = true
  idle : a.pairBusy = false

theorem pairDrill_accepts {f : Nat} (h : Drills f a) (hstart : a.clk.startFailed = false)
    (hpay : (parse r).payload = [f, 0, 0, 0]) (y : Session) :
    pairDrill (parse r) y (admitted (popCmd a) x) =
      (pairJudged a x, .long .drill fun n s => drillBegun s n f) := by
  have hj := pairJudged_judged a x
  have hflags := h.flags
  have hok : payOk (parse r) 4 1 3 = true := by rw [payOk, hpay]; rfl
  have hf : leAt (parse r).payload 0 1 = f := by
    rw [hpay, leAt_byte]
    exact Nat.mod_eq_of_lt (show f < 256 by omega)
  have hrole : a.role ≠ 0 ∧ a.otherReady = true := by
    rcases h.ready with he | ⟨hr, he⟩
    · have hr := eligible_standby he
      exact ⟨by omega, by rw [State.otherReady, if_pos hr, he]⟩
    · exact ⟨by omega, by rw [State.otherReady, if_neg (by omega), he]⟩
  unfold pairDrill
  extract_lets m u
  have hu : u = pairJudged a x := rfl
  have hm : m = f := hf
  clear_value u m
  subst hu hm
  rw [if_neg (by rw [hok]; simp; omega), gate_open (by rw [hj.start, hstart]), hj.pstate, hj.basis.mode, hj.partner.1, hj.role,
    hj.otherReady, hj.pairBusy, if_neg (not_not.mpr h.pstate), if_neg (by rw [h.mode, h.partner]; decide),
    if_neg (by rw [hrole.2]; simp [hrole.1]), if_neg (by rw [h.idle]; exact Bool.false_ne_true)]
  rfl

/-- A command that is accepted after its handler has changed the pair's state. -/
theorem mbxRun_drill {least : Nat} {start : Nat → State → State} (ht : Taken 0x61 least a r x) (hh : HasHandle a x)
    (h : pairDrill (parse r) (x.touched a.time.xt) (admitted (popCmd a) x) = (pairJudged a x, .long .drill start)) :
    mbxRun 0x61 least pairDrill a = start (drillAllotted a r x).2 (drillAccepted a r x) := by
  obtain ⟨hlimit, hfull⟩ := admitted_hasHandle hh
  rw [mbxRun_of_taken ht, runCmd, admitted_recovery ht.2.2.2.2.2.2.2.2.2.2, h]
  dsimp only
  rw [if_neg (by simp), if_neg hlimit, if_neg hfull]
  rfl

theorem drillAllotted_moves (a : State) (r : RingCmd) (x : Session) :
    Moves [.mbx] [] useFlds (pairJudged a x) (drillAllotted a r x).1 :=
  (State.wr_moves ..).step ((State.wr_moves ..).step ((Leaves.set_mbx _ _).moves.one rfl rfl rfl) rfl rfl rfl) rfl rfl rfl

/-- What the answer ACCEPTED of a drill leaves. -/
structure DrillAccepted (r : RingCmd) (a t : State) (n : Nat) : Prop where
  answered : Answered r Code.ACCEPTED n 0 [] a t
  pair : t.pair = { a.pair with eligFrom := t.pair.eligFrom }
  time : t.time = a.time
  role : t.role = a.role
  paired : t.paired = a.paired
  frame : PairCmdMoves a t

theorem drillAccepted_accepted (a : State) (r : RingCmd) (x : Session) :
    DrillAccepted r a (drillAccepted a r x) (drillAllotted a r x).2 := by
  have hj := pairJudged_judged a x
  have hallot := drillAllotted_moves a r x
  have hans := replied_answers (drillAllotted a r x).1 (parse r) Code.ACCEPTED (drillAllotted a r x).2 0 []
  have hframe : PairCmdMoves a (drillAccepted a r x) := hans.moves.step (hallot.step hj.frame rfl rfl rfl) rfl rfl rfl
  have htime : (drillAllotted a r x).1.time = a.time := (hallot.1.1 .time (by decide)).trans hj.unanswered.time
  have hpair : (drillAccepted a r x).pair = (pairJudged a x).pair :=
    (hans.moves.1.1 .pair (by decide)).trans (hallot.1.1 .pair (by decide))
  refine ⟨answered_replied ?_ ?_ ?_ htime ?_, ?_, ?_, hframe.rd _ _ (by rfl), (hframe.basis rfl).paired, hframe⟩
  · exact (congrArg MbxSt.ring hj.unanswered.mbx :)
  · exact (congrArg MbxSt.cq hj.unanswered.mbx :)
  · exact (congrArg MbxSt.nextSeq hj.unanswered.mbx :)
  · rw [hallot.1.1 .ring (by decide), hj.unanswered.core]
  · rw [hpair]
    exact hj.pair
  · exact (hans.moves.1.1 .time (by decide)).trans htime

/-- What the beginning of a drill leaves. -/
structure DrillBegins (n f : Nat) (s t : State) : Prop where
  drill : t.pair.drill = some ⟨n, decide (f = 1), if s.role = 2 then 1 else 0, 0, 0, 0, 0, 0, 0, 0, 0, 0, false, false⟩
  shown : t.rd F.PLT_PSTATE_DRILL = 1
  claim : t.pair.claim = if s.role = 2 then some (s.time.now, 120000) else none
  yields : t.pair.yieldAt = if s.role = 1 then some s.time.now else none
  queues : t.mbx.ring = s.mbx.ring ∧ t.mbx.cq = s.mbx.cq
  frame : Moves [.mbx, .pair] [] [F.PLT_PSTATE_DRILL] s t

theorem drillBegun_begins {s : State} (n f : Nat) (hrole : s.role = 1 ∨ s.role = 2) (hpaired : s.paired = true)
    (hclaim : s.pair.claim = none) (hyield : s.pair.yieldAt = none) : DrillBegins n f s (drillBegun s n f) := by
  have hstart := startHdl_leaves s (n % 2048)
  have hqueues := startHdl_queues s (n % 2048)
  have hpair : (startHdl s (n % 2048)).pair = s.pair := hstart.1 .pair (by decide)
  have htime : (startHdl s (n % 2048)).time = s.time := hstart.1 .time (by decide)
  unfold drillBegun
  extract_lets side d u
  have hu : Moves [.mbx, .pair] [] [F.PLT_PSTATE_DRILL] s u :=
    (State.wr_moves ..).step ((updPair_leaves ..).moves.step (hstart.moves.one rfl rfl rfl) rfl rfl rfl) rfl rfl rfl
  have hupair : u.pair = { s.pair with drill := some d } := hpair ▸ rfl
  have hutime : u.time = s.time := htime
  have humbx : u.mbx.ring = s.mbx.ring ∧ u.mbx.cq = s.mbx.cq := hqueues
  have hshown : u.rd F.PLT_PSTATE_DRILL = 1 := State.rd_wr_same ..
  have hurole : u.role = s.role := hu.rd _ _ (by rfl)
  have hupaired : u.paired = true := (hu.basis rfl).paired.trans hpaired
  clear_value u
  have huclaim : u.pair.claim = none := by rw [hupair, hclaim]
  have huyield : u.pair.yieldAt = none := by rw [hupair, hyield]
  have hudrill : u.pair.drill = some d := by rw [hupair]
  rcases hrole with h1 | h2
  · have hside : side ≠ 1 := by simp [side, h1]
    have h2 : s.role ≠ 2 := by omega
    rw [if_neg hside, setYield_eq hupaired (hurole.trans h1) huyield]
    exact ⟨hudrill, hshown, (if_neg h2).symm, hutime ▸ (if_pos h1).symm, humbx,
      (updPair_leaves ..).moves.step hu rfl rfl rfl⟩
  · have hside : side = 1 := by simp [side, h2]
    have h1 : s.role ≠ 1 := by omega
    rw [if_pos hside, claim_eq huclaim]
    exact ⟨hudrill, hshown, hutime ▸ (if_pos h2).symm, huyield.trans (if_neg h1).symm, humbx,
      (updPair_leaves ..).moves.step hu rfl rfl rfl⟩

/-! ### The end of a dwell (PLT-8) -/

/-- The report of a drill at the end of the dwell on the new primary. -/
def dwellReport (s : State) (d : Drill) : Drill := { d with
  dwell := (s.time.xt - d.from_) * 1000 / 32768, aborted := false, phase := 2, doEx := exercisedDg s, aoEx := exercisedAg s }

/-- A drill that goes on with another report. -/
def dwelling (s : State) (d : Drill) : State := updPair (refreshPair s) fun x => { x with drill := some d }

theorem drillDwellEnd_eq {d : Drill} (hdrill : a.pair.drill = some d) (hphase : d.phase = 1) (hside : d.side = 1)
    (hfault : d.doFault = 0 ∧ d.aoFault = 0)
    (hdue : d.from_ + 32768 * a.rd F.PLT_PAIR_DRILL_DWELL ≤ a.time.xt ∨ d.cancelled = true) :
    drillDwellEnd a = if d.ret = false then finishDrill (refreshPair a) (dwellReport (refreshPair a) d) false
      else setYield (dwelling a (dwellReport (refreshPair a) d)) := by
  have hm := refreshPair_moves a
  have hxt : (refreshPair a).time.xt = a.time.xt := rfl
  unfold drillDwellEnd
  rw [hdrill]
  dsimp only
  rw [if_neg (by
    rw [hm.rd F.PLT_PAIR_DRILL_DWELL 0 (by rfl), hxt]
    rcases hdue with h | h <;> simp [hphase, h])]
  have hno : ((decide (d.doFault ≠ 0) || decide (d.aoFault ≠ 0)) && (refreshPair a).pElig) = false := by
    rw [hfault.1, hfault.2]
    rfl
  simp only [if_pos hside]
  rw [hno, Bool.or_false]
  simp only [Bool.not_eq_true']
  rfl

theorem exercised_refreshPair (a : State) :
    exercisedDg (refreshPair a) = exercisedDg a ∧ exercisedAg (refreshPair a) = exercisedAg a := by
  have hm := refreshPair_moves a
  have hout : ∀ c, (refreshPair a).isOut c = a.isOut c := fun c => by
    rw [State.isOut, State.isOut, State.dmode, State.dmode, hm.rd F.DG_CH_MODE c (by rfl)]
  have haout : ∀ c, (refreshPair a).aOut c = a.aOut c := fun c => by
    rw [State.aOut, State.aOut, show (refreshPair a).amode c = a.amode c from hm.rd _ c (by rfl)]
  constructor
  · simp only [exercisedDg, hout, dch_congr (hm.1.1 .fld (by decide))]
  · simp only [exercisedAg, haout, ach_congr (hm.1.1 .ana (by decide))]

/-- The FIN of a drill with its report. -/
theorem finishDrill_fins {s : State} (d : Drill) (returned : Bool) (hmbx : s.mbx = a.mbx) (htime : s.time = a.time)
    (hcore : s.ring.core = a.ring.core) :
    Fins d.handle (if d.cancelled then Code.CANCELLED else if d.aborted then Code.DRILL_ABORTED else Code.OK) 0
      (leBytes 16 d.doEx ++ leBytes 16 d.doFault ++ leBytes 8 d.aoEx ++ leBytes 8 d.aoFault ++ leBytes 4 d.so1 ++
        leBytes 4 d.so2 ++ leBytes 4 d.dwell ++ leBytes 4 (b2n returned + 2 * b2n d.aborted + 4 * b2n d.cancelled)) a
      (finishDrill s d returned) :=
  fins_finNum hmbx (congrArg TimeSt.bases htime) hcore

theorem finishDrill_shown (s : State) (d : Drill) (returned : Bool) :
    (finishDrill s d returned).rd F.PLT_PSTATE_DRILL = 0 := by
  unfold finishDrill
  extract_lets flags data u
  rw [(finNum_leaves ..).rd _ _ (by decide)]
  exact State.rd_wr_same ..

/-- What the end of a dwell without a return leaves. -/
structure DwellEnds (d : Drill) (s t : State) : Prop where
  drill : t.pair.drill = none
  shown : t.rd F.PLT_PSTATE_DRILL = 0
  yields : t.pair.yieldAt = s.pair.yieldAt
  fins : Fins d.handle (if d.cancelled = true then Code.CANCELLED else Code.OK) 0 (leBytes 16 (exercisedDg s) ++ leBytes 16 0 ++
    leBytes 8 (exercisedAg s) ++ leBytes 8 0 ++ leBytes 4 d.so1 ++ leBytes 4 d.so2 ++
    leBytes 4 ((s.time.xt - d.from_) * 1000 / 32768) ++ leBytes 4 (4 * b2n d.cancelled)) s t
  frame : Moves (traceParts ++ [.mbx, .pair]) traceObjs (F.PLT_PSTATE_DRILL :: ackFlds ++ refreshFlds) s t

/-- The FIN of a drill with the report of a dwell on which nothing failed. -/
theorem dwellReport_fins {d : Drill} {t : State} (hfault : d.doFault = 0 ∧ d.aoFault = 0) :
    let e := dwellReport (refreshPair a) d
    Fins e.handle (if e.cancelled then Code.CANCELLED else if e.aborted then Code.DRILL_ABORTED else Code.OK) 0
      (leBytes 16 e.doEx ++ leBytes 16 e.doFault ++ leBytes 8 e.aoEx ++ leBytes 8 e.aoFault ++ leBytes 4 e.so1 ++
        leBytes 4 e.so2 ++ leBytes 4 e.dwell ++ leBytes 4 (b2n false + 2 * b2n e.aborted + 4 * b2n e.cancelled)) a t →
    Fins d.handle (if d.cancelled = true then Code.CANCELLED else Code.OK) 0 (leBytes 16 (exercisedDg a) ++ leBytes 16 0 ++
      leBytes 8 (exercisedAg a) ++ leBytes 8 0 ++ leBytes 4 d.so1 ++ leBytes 4 d.so2 ++
      leBytes 4 ((a.time.xt - d.from_) * 1000 / 32768) ++ leBytes 4 (4 * b2n d.cancelled)) a t := by
  intro e h
  obtain ⟨hdg, hag⟩ := exercised_refreshPair a
  have htime : (refreshPair a).time = a.time := (refreshPair_moves a).1.1 .time (by decide)
  have hflags : b2n false + 2 * b2n false + 4 * b2n d.cancelled = 4 * b2n d.cancelled := Nat.zero_add _
  simpa only [e, dwellReport, hdg, hag, htime, hfault.1, hfault.2, hflags, Bool.false_eq_true, if_false] using h

theorem dwell_ends {d : Drill} (hfault : d.doFault = 0 ∧ d.aoFault = 0) (a : State) :
    DwellEnds d a (finishDrill (refreshPair a) (dwellReport (refreshPair a) d) false) := by
  have hm := refreshPair_moves a
  have hmbx : (refreshPair a).mbx = a.mbx := hm.1.1 .mbx (by decide)
  have htime : (refreshPair a).time = a.time := hm.1.1 .time (by decide)
  have hring : (refreshPair a).ring = a.ring := hm.1.1 .ring (by decide)
  have hfins := finishDrill_fins (dwellReport (refreshPair a) d) false hmbx htime (congrArg RingSt.core hring)
  have hpair := finishDrill_pair (refreshPair a) (dwellReport (refreshPair a) d) false
  have hmoves := finishDrill_moves (refreshPair a) (dwellReport (refreshPair a) d) false
  refine ⟨by rw [hpair], finishDrill_shown .., by rw [hpair, refreshPair_pair], ?_,
    hmoves.step (hm.one rfl rfl rfl) rfl rfl rfl⟩
  exact dwellReport_fins hfault hfins

/-- What the new primary that yields leaves. -/
structure Yields (s t : State) : Prop where
  drill : t.pair.drill = s.pair.drill
  yields : t.pair.yieldAt = some s.time.now
  claim : t.pair.claim = none
  frame : Moves [.pair] [] [] s t

theorem setYield_yields {u : State} (hpaired : u.paired = true) (hrole : u.role = 1) (hyield : u.pair.yieldAt = none) :
    Yields u (setYield u) := by
  rw [setYield_eq hpaired hrole hyield]
  exact ⟨rfl, rfl, rfl, (updPair_leaves ..).moves.one rfl rfl rfl⟩

theorem dwelling_moves (s : State) (d : Drill) : Moves [.pair] [] refreshFlds s (dwelling s d) :=
  (updPair_leaves ..).moves.step (refreshPair_moves s) rfl rfl rfl

theorem dwelling_drill (s : State) (d : Drill) : (dwelling s d).pair.drill = some d := by
  rw [dwelling, updPair]

theorem dwelling_yields (s : State) (d : Drill) : (dwelling s d).pair.yieldAt = s.pair.yieldAt := by
  rw [dwelling, updPair, refreshPair_pair]

theorem dwell_returns (d : Drill) (hpaired : a.paired = true) (hrole : a.role = 1) (hyield : a.pair.yieldAt = none) :
    Yields (dwelling a d) (setYield (dwelling a d)) :=
  setYield_yields (((dwelling_moves a d).basis rfl).paired.trans hpaired) (((dwelling_moves a d).rd _ _ (by rfl)).trans hrole)
    ((dwelling_yields a d).trans hyield)

end

/-- Settles O23: a command of the pair is judged in a state that R281 cannot tell from the one before it. -/
theorem pairLeaseAndDrill : Obligations.PairLeaseAndDrill := by
  unfold Obligations.PairLeaseAndDrill
  refine ⟨?grants, ?yields, ?revokes, ?expires, ?drills, ?dwellEnds, ?dwellReturns⟩
  case grants =>
    intro dt s r x l sec a ht hpay h1 h2 hpstate hidle hcase
    have hkind : l = 1 ∨ l = 2 := hcase.elim (fun h => h.1) fun h => .inl h.1
    have hsame : leaseSwitches l a.role = decide (l = 1 ∧ a.role = 2) := by
      rcases hcase with ⟨rfl | rfl, hr | hr⟩ | ⟨rfl, he, -⟩
      case inr => rw [eligible_standby he]; rfl
      all_goals rw [hr]; rfl
    have hg : Grants l sec a := by
      refine ⟨hkind, ⟨h1, h2⟩, hpstate, hidle, fun hsw => ?_⟩
      obtain ⟨rfl, hr⟩ := of_decide_eq_true (hsame.symm.trans hsw)
      obtain ⟨he, hpartner⟩ : a.eligible = true ∧ a.rd F.PLT_PSTATE_PARTNER_MODE = 1 := by
        rcases hcase with ⟨-, h | h⟩ | ⟨-, he, hp⟩
        · exact absurd (h.symm.trans hr) (by decide)
        · exact absurd (h.symm.trans hr) (by decide)
        · exact ⟨he, hp⟩
      exact ⟨eligible_running he, hpartner, by rw [State.otherReady, if_pos hr, he]⟩
    obtain ⟨hleaves, hleased, hans, hframe⟩ := pairLease_granted ht hpay hg
    rw [hsame] at hans
    exact ⟨_, rfl, hleaves.lease, hleased, hans, hleaves.claim, hframe.one rfl rfl rfl⟩
  case yields =>
    intro dt s r x sec a ht hpay h1 h2 hpstate hidle hrole hm hpartner helig
    have hg : Grants 2 sec a := ⟨.inr rfl, ⟨h1, h2⟩, hpstate, hidle, fun _ =>
      ⟨hm, hpartner, by rw [State.otherReady, if_neg (by omega), helig]⟩⟩
    obtain ⟨hleaves, -, hans, hframe⟩ := pairLease_granted ht hpay hg
    have hres : a.role + 256 * b2n (leaseSwitches 2 a.role) = 257 := by rw [hrole]; rfl
    rw [hres] at hans
    exact ⟨_, rfl, hleaves.lease, hleaves.yields.trans (if_pos ⟨rfl, hrole⟩), hans, hframe.one rfl rfl rfl⟩
  case revokes =>
    intro dt s r x l a ht hpay hl
    by_cases hp : a.pstate = 2
    · have h := pairLease_revoked ht hl hpay hp
      simp only [if_pos hp]
      exact ⟨_, rfl, h.lease, h.claim, h.answered, h.frame.one rfl rfl rfl⟩
    · have h := pairLease_unpaired ht hl hpay hp
      simp only [if_neg hp]
      exact ⟨_, rfl, h.lease, h.claim, h.answered, h.frame.one rfl rfl rfl⟩
  case expires =>
    intro dt s l e a hlease hdue
    have heq : leaseExpiry a = leaseEnded a := by
      unfold leaseExpiry
      rw [hlease]
      exact if_pos hdue
    have hm := leaseEnded_moves a
    have hlease' := leaseEnded_lease a
    have hleased : (leaseEnded a).rd F.PLT_PSTATE_LEASED = 0 := rd_refreshPair_leased _
    rw [← heq] at hm hlease' hleased
    exact ⟨_, rfl, hlease', hleased, hm.rd _ _ (by rfl), hm.one rfl rfl rfl⟩
  case drills =>
    intro dt s r x f a ht hpay hf hpstate hm hpartner hready hidle hh
    have hd : Drills f a := ⟨hf, hpstate, hm, hpartner, hready, hidle⟩
    obtain ⟨hclaim, hyield⟩ := idle_of_pairBusy hidle
    have hstart : a.clk.startFailed = false := ht.2.2.2.1
    have heq := mbxRun_drill ht hh (pairDrill_accepts hd hstart hpay _)
    have hacc := drillAccepted_accepted a r x
    have hrole : (drillAccepted a r x).role = 1 ∨ (drillAccepted a r x).role = 2 := by
      rw [hacc.role]
      exact hready.elim (fun h => .inr (eligible_standby h)) fun h => .inl h.1
    have hb := drillBegun_begins (drillAllotted a r x).2 f hrole (hacc.paired.trans (paired_of_pstate hpstate))
      (by rw [hacc.pair, hclaim]) (by rw [hacc.pair, hyield])
    rw [← heq] at hb
    obtain ⟨hdrill, hshown, hclaims, hyields, ⟨hring, hcq⟩, hframe⟩ := hb
    rw [hacc.role] at hdrill hclaims hyields
    rw [hacc.time] at hclaims hyields
    exact ⟨_, rfl, ⟨_, hacc.answered.grow hring (by rw [hcq]), hdrill⟩, hshown, hclaims, hyields,
      hframe.step (hacc.frame.one rfl rfl rfl) rfl rfl rfl⟩
  case dwellEnds =>
    intro dt s d a hdrill hphase hside hret hfault hdue
    have heq := drillDwellEnd_eq hdrill hphase hside hfault hdue
    rw [if_pos hret] at heq
    have h := dwell_ends hfault a
    rw [← heq] at h
    exact ⟨_, rfl, h.drill, h.shown, h.yields, h.fins, h.frame.one rfl rfl rfl⟩
  case dwellReturns =>
    intro dt s d a hdrill hphase hside hret hfault hdue hpaired hrole hyield
    have heq := drillDwellEnd_eq hdrill hphase hside hfault (.inl hdue)
    rw [if_neg (by rw [hret]; decide)] at heq
    have h := dwell_returns (dwellReport (refreshPair a) d) hpaired hrole hyield
    have hm := dwelling_moves a (dwellReport (refreshPair a) d)
    rw [← heq] at h
    have hframe := h.frame.step hm rfl rfl rfl
    exact ⟨_, rfl, congrArg (Option.map Drill.phase) (h.drill.trans (dwelling_drill ..)), h.yields.trans (congrArg some (congrArg TimeSt.now (hm.1.1 .time (by decide)) :)), h.claim,
      hframe.1.1 .mbx (by decide), hframe.one rfl rfl rfl⟩

end Sys2Proof.Machine
end
